-- ==== Sys2Proof/Word.lean ====
section
/-! DEFINITION. The word and the byte of the block's registers (spec 00_scope.md R12). -/

namespace Sys2Proof

/-- A 32-bit register or command word (R12). -/
abbrev Word := BitVec 32

/-- A byte of a window, a buffer or a frame. -/
abbrev Byte := BitVec 8

end Sys2Proof
end

