-- ==== Sys2Proof/Syntax.lean ====
section
/-! DEFINITION. The commands of the block: one constructor of `Instr` per row of spec/opcode_table.json,
with the operands that the row's rules read. What the environment shows the block (samples, frames,
levels, the contents of host memory a command reads) is an operand of the command that meets it. -/

namespace Sys2Proof

/-- Where a ring command comes from: its SQ, its CID and QUIET (R291). A command that a Cairn action issues
names the scheduling SQ and the CID of its PARAM, and `cairn` is set (R429). -/
structure Src where
  sq    : Fin 64
  cid   : Fin 65536
  quiet : Bool
  cairn : Bool
  deriving DecidableEq, Repr

/-- What a read of host memory brings back: bytes, or an error completion or timeout (R286). -/
inductive HostRead where
  | data (bytes : List Byte)
  | error
  deriving DecidableEq, Repr

/-- Who reads or writes a register: the PCI Express function, the supervisor, a Haul channel (R538). -/
inductive Req where
  | host
  | supervisor
  | haul (ch : Fin 8)
  deriving DecidableEq, Repr

/-- A calibration point as converted: the sum of the codes, and whether one was 0 or 65,535 (R189). -/
structure CalPt where
  sum     : Nat
  clipped : Bool
  deriving DecidableEq, Repr

/-- The zero and the gain point of one range code (Table 7.1). -/
structure CodeCal where
  zero : CalPt
  gain : CalPt
  deriving DecidableEq, Repr

/-- The three points of the reference check (R192): zero, source 9, source 11. -/
structure RefCal where
  zero : CalPt
  ref  : CalPt
  band : CalPt
  deriving DecidableEq, Repr

/-- What one calibration of a channel meets: points for range codes 0 upwards and the two check stimuli (R191),
voltage mode and charge mode apart. -/
structure ChanCal where
  g     : Fin 8
  c     : Fin 9
  volt  : List CodeCal
  chkLo : Nat
  chkHi : Nat
  chrg  : List CodeCal
  qLo   : Nat
  qHi   : Nat
  deriving DecidableEq, Repr

/-- The reference check of one group. -/
structure GrpRef where
  g   : Fin 8
  cal : RefCal
  deriving DecidableEq, Repr

/-- Everything an AFE_FULL converts: the reference checks, pass 1 and pass 2 (R195); `aborted` when an ABORT ends it
before its commit. -/
structure AfeFullIn where
  refs    : List GrpRef
  pass1   : List ChanCal
  pass2   : List ChanCal
  aborted : Bool
  deriving DecidableEq, Repr

/-- The codes of a channel's two check stimuli (R99). -/
structure ChkCode where
  g  : Fin 8
  c  : Fin 9
  lo : Nat
  hi : Nat
  deriving DecidableEq, Repr

/-- The points of one range code in a charge-mode comparison (R207): live and spare, zero and gain. -/
structure ChargeCmp where
  code  : Fin 4
  live0 : Nat
  live1 : Nat
  spare0 : Nat
  spare1 : Nat
  deriving DecidableEq, Repr

/-- A Gen C lane packet as a receiver decodes it (R50): whether a code or disparity error occurred within it, its
symbols from PLANE to the end of PAYLOAD, its CRC field, and its skew in symbols behind the module's other lane. -/
structure LanePacket where
  err   : Bool
  bytes : List Byte
  crc   : Nat
  skew  : Nat
  deriving DecidableEq, Repr

/-- How an I²C target answers: whether it acknowledges its address, how many written bytes it acknowledges, and the
bytes it sends. -/
structure I2cTarget where
  ackAddr  : Bool
  ackBytes : Nat
  answer   : List Byte
  deriving DecidableEq, Repr

/-- The signals of a Gen A module's photosites in a plane exposure, by photosite: V_SIG − V_RST in nV, or the charge in aC
(R82). -/
structure GenALine where
  module : Nat
  plane  : Nat
  sig    : List Int
  deriving DecidableEq, Repr

/-- How a write of the flash ends (R476, R481): every operation done; the next one after `n` bytes times out; power is lost
after `n` bytes; or byte `o` of the region reads back as `b`. -/
inductive FlashEnd where
  | done
  | timeout (n : Nat)
  | lost (n : Nat)
  | worn (o : Nat) (b : Byte)
  deriving DecidableEq, Repr

/-- What BOOT meets (R451, R470): the SRAM check passes; an OTP row is uncorrectable; a flash answers; a flash read of image A
or B fails; the trim calibration and the housekeeping self-calibration. -/
structure BootIn where
  sram : Bool
  otpError : Bool
  flash : Bool
  readErrA : Bool
  readErrB : Bool
  trims : List ChanCal
  hkc : List (Int × Int × Bool)
  deriving DecidableEq, Repr

/-- A cell of Sump that a read finds uncorrectable (R305): waiting record `i` of a context; a raw sample of a line set; a
pixel of placed line `i` of the alignment history; a window's profile in a LEAD line of Survey; a Haul staging cell. -/
inductive UeCell where
  | record (ctx : Fin 4096) (i : Nat)
  | raw (serial module plane site : Nat)
  | history (i px : Nat)
  | survey (line win : Nat)
  | haul
  deriving DecidableEq, Repr

/-- What the commands that a COMMAND_START may start meet: the conversions of AFE_FULL and HKC_SELFCAL, and the image, the
flash and a power cut of a STORE_WRITE. -/
structure CmdEnv where
  afe : AfeFullIn
  hkc : List (Int × Int × Bool)
  img : HostRead
  flash : FlashEnd
  cut : Bool
  deriving DecidableEq, Repr

/-- The registers whose accepted writes recompute Lantern's schedule (R115). -/
inductive LtnReg where
  | timing
  | misc
  | channel (n : Fin 16)
  deriving DecidableEq, Repr


/-- The commands and events of spec/opcode_table.json, one constructor per row. -/
inductive Instr where
  /-- NOP (R292). The NOP command completes at once in every mode except DORMANT and BOOT. -/
  | nop (src : Src)
  /-- INVALID_OPCODE (R292). An SQ entry whose opcode is not in Table 11.4 completes with INVALID_OPCODE. -/
  | invalidOpcode (src : Src)
  /-- BUFFER_POST (R265). BUFFER_POST adds one 4 KiB-aligned buffer address to a supply, or is refused with SUPPLY_OFF or SUPPLY_FULL. -/
  | bufferPost (src : Src) (supply : Fin 64) (addr : Nat)
  /-- CTX_START (R269). CTX_START checks a context entry in table order and makes the context RUNNING or STARTING, or refuses it. -/
  | ctxStart (src : Src) (n : Fin 4096) (line : Option Int)
  /-- CTX_STOP (R270). CTX_STOP stops a context, at once or at line AT, and completes after its STOPPED buffer completion. -/
  | ctxStop (src : Src) (n : Fin 4096) (line : Option Int)
  /-- MOVE (R294). MOVE plans a single-axis move to a target, superseding any running move on that axis, and completes at standstill. -/
  | move (src : Src) (axis : Fin 6) (target : Int) (set : Fin 4) (rev : Bool) (rel : Bool)
  /-- MOVE_COORD (R359). MOVE_COORD plans a coordinated move of several axes led by the axis with the longest travel. -/
  | moveCoord (src : Src) (mask : Fin 64) (targets : List Int) (set : Fin 4) (rev : Bool) (rel : Bool)
  /-- HOLD (R356). HOLD stops the named axes with their limit set and keeps their remaining distances. -/
  | hold (src : Src) (mask : Fin 64)
  /-- RESUME (R294). RESUME restarts the kept moves of the named axes from the present set-point. -/
  | resume (src : Src) (mask : Fin 64)
  /-- ABORT_CONTEXT (R298). ABORT of scope CONTEXT discards unwritten records, returns the cells, closes the open buffer ABORTED and stops the context. -/
  | abortContext (src : Src) (ctx : Fin 4096)
  /-- ABORT_RING (R298). ABORT of scope RING discards entries not started, ends every started command of the SQ and disables the SQ. -/
  | abortRing (src : Src) (ring : Fin 64)
  /-- ABORT_AXIS (R298). ABORT of scope AXIS starts the stop profile of each named axis and keeps its remaining distance. -/
  | abortAxis (src : Src) (mask : Fin 64)
  /-- ABORT_HAUL (R339). ABORT of scope HAUL stops the named channel's program, empties its queue and leaves it IDLE. -/
  | abortHaul (src : Src) (ch : Fin 8)
  /-- ABORT_COMMAND (R298). ABORT of scope COMMAND ends a CAL_RUN, an abortable TABLE_LOAD or a TIME_SCHEDULE with its ABORTED code. -/
  | abortCommand (src : Src) (ring : Fin 64) (cid : Fin 65536)
  /-- AFE_FULL (R195). CAL_RUN AFE_FULL checks the reference, runs two trim passes on every powered channel and commits trims and check references. -/
  | afeFull (src : Src) (x : AfeFullIn)
  /-- SHADING_FULL (R172). CAL_RUN SHADING_FULL runs the dark and white phases, computes the shading words and checks them. -/
  | shadingFull (src : Src)
  /-- HKC_SELFCAL (R411). CAL_RUN HKC_SELFCAL measures offset, gain and the excitation sources of both housekeeping converters and commits the factors. -/
  | hkcSelfcal (src : Src) (x : List (Int × Int × Bool))
  /-- TABLE_LOAD_BAR_RECORD (R70). TABLE_LOAD of the bar record checks the record in the order of Table 2.6 and, on acceptance, puts it in force. -/
  | tableLoadBarRecord (src : Src) (addr : Nat) (len : Nat)
  /-- TABLE_LOAD_SHADING (R182). TABLE_LOAD of a shading image writes it into the shadow set through Haul, verifies it and sets VALID. -/
  | tableLoadShading (src : Src) (addr : Nat) (len : Nat) (swap : Bool)
  /-- TABLE_LOAD_CONTEXT (R257). TABLE_LOAD of a context image writes and verifies the named context entries. -/
  | tableLoadContext (src : Src) (addr : Nat) (len : Nat)
  /-- TABLE_LOAD_FLOWSTONE (R253). TABLE_LOAD of a Flowstone image loads all 1,024 bins and makes them visible at one servo period start. -/
  | tableLoadFlowstone (src : Src) (addr : Nat) (len : Nat)
  /-- TIME_SCHEDULE (R426). TIME_SCHEDULE fills a Cairn action slot with an action, a base and a time. -/
  | timeSchedule (src : Src) (slot : Fin 256) (action : Fin 256) (lateDrop : Bool) (base : Fin 8) (time : BitVec 64) (param : List Word)
  /-- BOUNDARY_POST (R238). BOUNDARY_POST accepts a swath boundary into the Strata queue and fixes its expected line index, or refuses it. -/
  | boundaryPost (src : Src) (sens : Fin 8) (swath : Word) (adv : Word) (pos : Int) (mask : Word × Word)
  /-- ATTEST (R472). ATTEST writes the signed 512-byte attestation report to host memory. -/
  | attest (src : Src) (addr : Nat) (len : Nat) (nonce : List Byte)
  /-- STORE_WRITE_FIRMWARE (R479). STORE_WRITE FIRMWARE checks an image, writes it into the image slot that is not running and verifies it. -/
  | storeWriteFirmware (src : Src) (addr : Nat) (len : Nat) (img : HostRead) (e : FlashEnd)
  /-- STORE_WRITE_CAL_STORE (R476). STORE_WRITE CAL_STORE checks a store image and writes it into the unused slot in the journalled order. -/
  | storeWriteCalStore (src : Src) (addr : Nat) (len : Nat) (img : HostRead) (e : FlashEnd)
  /-- OEM_KEY_ADD (R480). The OTP request OEM_KEY_ADD programs an empty key slot with a key digest and then its ACTIVE bit. -/
  | oemKeyAdd (src : Src) (addr : Nat) (len : Nat) (img : HostRead) (cut : Bool)
  /-- OEM_KEY_REVOKE (R480). The OTP request OEM_KEY_REVOKE revokes a key slot. -/
  | oemKeyRevoke (src : Src) (addr : Nat) (len : Nat) (img : HostRead)
  /-- ROLLBACK_SET (R480). The OTP request ROLLBACK_SET raises ROLLBACK_CNT to VALUE. -/
  | rollbackSet (src : Src) (addr : Nat) (len : Nat) (img : HostRead)
  /-- LOCK (R480). The OTP request LOCK blows the FLAGS bits set in VALUE. -/
  | otpLock (src : Src) (addr : Nat) (len : Nat) (img : HostRead)
  /-- SQ_DOORBELL (R284). A write to an SQ doorbell latches the new tail, or puts the SQ into ERROR on an out-of-range value. -/
  | sqDoorbell (sq : Fin 64) (v : Word) (full : Bool)
  /-- CQ_DOORBELL (R285). A write to a CQ doorbell moves the CQ head, or puts the CQ into ERROR on an out-of-range value. -/
  | cqDoorbell (cq : Fin 64) (v : Word) (full : Bool)
  /-- SQ_FETCH (R284). The device fetches SQ entries up to the latched tail and compares head and tail once more before it goes idle. -/
  | sqFetch (sq : Fin 64) (entries : List (List Word))
  /-- COMMAND_START (R289). A fetched command starts in ring order, after earlier commands when FENCE is set, with SQs served by PRIO. -/
  | commandStart (x : CmdEnv)
  /-- CPL_TIMEOUT (R286). A read not completed within CPL_TO puts the SQ into ERROR and posts a ring event entry. -/
  | cplTimeout (sq : Fin 64)
  /-- RING_ERROR (R286). An SQ fetch that meets an error completion or poisoned data puts the SQ into ERROR and posts a ring event entry. -/
  | ringError (sq : Fin 64) (cause : Fin 3)
  /-- COMPLETION_WRITE (R290). A completion held back while its CQ is full is written once the CQ takes it. -/
  | completionWrite (cq : Fin 64)
  /-- INTERRUPT_MOD_TIME (R300). MOD_TIME expiring after the first unsignalled entry raises the CQ's MSI-X vector. -/
  | interruptModTime (cq : Fin 64)
  /-- MSIX_UNMASK (R300). Unmasking a vector whose PBA bit is set sends its message. -/
  | msixUnmask (vector : Fin 128)
  /-- BUS_MASTER_ENABLE (R279). A change of Bus Master Enable stops or resumes all requests of the device on the link. -/
  | busMasterEnable (on : Bool)
  /-- D3HOT_TRANSITION (R450). A transition to D3hot acts as a STANDBY request that is never refused and ends abortable commands. -/
  | d3hotTransition
  /-- D0_RETURN (R450). The return from D3hot to D0 resets nothing and leaves the device in STANDBY. -/
  | d0Return
  /-- REGISTER_ABORT (R299). A write to HST_ABORT_CTRL runs an abort of the given scope and reports it in HST_ABORT_STATUS. -/
  | registerAbort (rq : Req) (v : Word)
  /-- SQ_CFG_WRITE (R287). Writing EN of an SQ enables it, or with 0 empties it and takes it out of ERROR. -/
  | sqCfgWrite (rq : Req) (sq : Fin 64) (v : Word)
  /-- CQ_CFG_WRITE (R288). Enabling a CQ sets its tail to 0 and its phase to 1; disabling it takes it out of ERROR. -/
  | cqCfgWrite (rq : Req) (cq : Fin 64) (v : Word)
  /-- MODE_REQ_STANDBY (R449). A request for STANDBY disarms, ends contexts, stops moving axes keeping their distances and powers the front end down. -/
  | modeReqStandby (rq : Req)
  /-- MODE_REQ_CALIBRATE (R446). A request for CALIBRATE locks the group PLLs and powers the front-end domains. -/
  | modeReqCalibrate (rq : Req)
  /-- MODE_REQ_RUN (R446). A request for RUN locks the group PLLs and powers the front-end domains. -/
  | modeReqRun (rq : Req)
  /-- MODE_REQ_SERVICE (R446). A request for SERVICE locks the group PLLs and powers the front-end domains. -/
  | modeReqService (rq : Req)
  /-- MODE_REQ_DORMANT (R452). A request for DORMANT frees Haul and Cairn, drops the link, floats the outputs and lowers MAIN_EN. -/
  | modeReqDormant (rq : Req)
  /-- MODE_REQUEST_COMPLETE (R446). A pending mode request completes once its conditions are met and MODE shows the new mode. -/
  | modeRequestComplete
  /-- WARM_SOFTWARE_RESET (R459). A write to PWR_RESET_CTRL with WARM and KEY 0xA5 starts a warm software reset. -/
  | warmSoftwareReset (rq : Req) (v : Word)
  /-- POWER_ON_RESET (R458). VDD_AON falling below its valid level returns every domain and runs BOOT. -/
  | powerOnReset
  /-- BROWN_OUT (R457). A MAIN rail tripping floats every gate, STB and MCK output and applies a power-on reset with AON kept. -/
  | brownOut
  /-- RAILS_VALID (R456). 2 ms after every rail is valid, or at RESET_N deassertion if that is later, the device releases reset and runs BOOT. -/
  | railsValid
  /-- RESET_N (R458). RESET_N held low for 1 µs returns the PIN, WARM and FUNC domains and runs BOOT. -/
  | resetN
  /-- WATCHDOG_EXPIRY (R459). Expiry of the supervisor watchdog returns WARM and FUNC after the axes stop and runs BOOT. -/
  | watchdogExpiry
  /-- PCIE_CONVENTIONAL_RESET (R458). PERST_N, hot reset or link down returns the FUNC domain and leaves the device in STANDBY. -/
  | pcieConventionalReset (perst : Bool)
  /-- FUNCTION_LEVEL_RESET (R458). FLR returns the FUNC domain and leaves the device in STANDBY. -/
  | functionLevelReset
  /-- RESET_AXIS_STOPPED (R461). A moving axis caught by a watchdog, warm, conventional or function-level reset reaches standstill, or 80 ms pass, and its gates turn off. -/
  | resetAxisStopped (timeout : Bool)
  /-- WAKE_FROM_DORMANT (R453). An enabled wake source or RESET_N ends DORMANT, records WAKE_SRC, raises MAIN_EN and may assert WAKE_N. -/
  | wakeFromDormant (src : Fin 4) (falling : Bool)
  /-- BOOT (R451). BOOT checks SRAM, re-applies the ledger, verifies and starts firmware, calibrates and enters STANDBY. -/
  | boot (x : BootIn)
  /-- I2C_GO (R76). A write of 1 to GO starts an I²C transfer with a write phase and an optional read phase. -/
  | i2cGo (rq : Req) (n : Fin 4) (v : Word) (target : I2cTarget)
  /-- I2C_CFG_WRITE (R76). Writing I2C_CFG sets the speed, or with EN = 0 releases the bus, ends a transfer with DISABLED and empties both FIFOs. -/
  | i2cCfgWrite (rq : Req) (n : Fin 4) (v : Word)
  /-- I2C_TX_PUSH (R76). A write to I2C_TX_WIN pushes four bytes into the transmit FIFO. -/
  | i2cTxPush (rq : Req) (n : Fin 4) (v : Word)
  /-- I2C_RX_POP (R76). A read of I2C_RX_WIN pops four bytes from the receive FIFO. -/
  | i2cRxPop (rq : Req) (n : Fin 4)
  /-- I2C_TRANSFER_END (R76). An I²C transfer ends, sets DONE and RESULT, empties the transmit FIFO and raises the LNE interrupt. -/
  | i2cTransferEnd (n : Fin 4)
  /-- BUS_STUCK (R68). SCL or SDA held low for 25 ms ends the transfer with BUS_STUCK, 9 SCL pulses and a stop condition. -/
  | busStuck (n : Fin 4)
  /-- FIFO_STALL (R76). A FIFO that waits for 25 ms ends the transfer with FIFO_STALL. -/
  | fifoStall (n : Fin 4)
  /-- GENB_LINE (R47). A Gen B line, the words from LVAL rising to falling, is taken and its data words are counted against N_w. -/
  | genbLine (g : Fin 8) (live : List Nat) (spare : Option (List Nat))
  /-- GENC_PACKET (R50). A Gen C line packet is received, CRC-checked and matched against SEQ and PLANE. -/
  | gencPacket (g : Fin 8) (pad : Fin 4) (live : LanePacket) (spare : Option LanePacket)
  /-- GENB_CLOCK_LOST (R45). An LCLK absent for 1 µs reports GENB_CLOCK_LOST and makes the module's lines missing until relock. -/
  | genbClockLost (g : Fin 8)
  /-- GENB_LOCK (R45). The LCLK receiver locks to a valid clock. -/
  | genbLock (g : Fin 8)
  /-- GENC_LOCK (R49). A Gen C receiver declares lock after 64 error-free symbols. -/
  | gencLock (g : Fin 8) (pad : Fin 4) (spare : Bool)
  /-- GENC_LOSS_OF_LOCK (R49). A Gen C receiver declares loss of lock after 4 errors within 64 symbols. -/
  | gencLossOfLock (g : Fin 8) (pad : Fin 4) (spare : Bool)
  /-- EYE_ADJUST (R48). A gap of 16 clocks with LVAL = 0 moves each Gen B sampling point towards its eye centre. -/
  | eyeAdjust (g : Fin 8) (eyes : List (Nat × Int))
  /-- SPARE_ROTATION (R55). After 256 lines the spare lane receiver moves to shadow the next active pad. -/
  | spareRotation (g : Fin 8)
  /-- LINE_MISSING (R58). A digital tap's line that has not ended within its readout time plus 2 µs counts as missing. -/
  | lineMissing (g : Fin 8) (pad : Fin 4)
  /-- CHANNEL_CHECK (R99). In the gap after a line set the device checks every powered AFE channel against its check reference. -/
  | channelCheck (codes : List ChkCode) (abandoned : Bool)
  /-- STANDSTILL_CHECK (R99). At standstill the channel check runs once every 1 ms. -/
  | standstillCheck (codes : List ChkCode)
  /-- PWR_OK (R97). A powered channel reaches PWR_OK and is connected to its tap by the reconnection sequence. -/
  | pwrOk (g : Fin 8) (c : Fin 9)
  /-- RECONNECTION_DONE (R87). A break-before-make reconnection of a channel's source completes its settling. -/
  | reconnectionDone (g : Fin 8) (c : Fin 9) (code : Nat)
  /-- AFE_CH_CTRL_WRITE (R97). Writing EN of a channel allows it to be powered, or with 0 powers it down. -/
  | afeChCtrlWrite (g : Fin 8) (c : Fin 9) (v : Word)
  /-- AFE_CH_RANGE_WRITE (R93). A write to AFE_CH_RANGE stores pending range codes that apply at the next line trigger. -/
  | afeChRangeWrite (rq : Req) (g : Fin 8) (c : Fin 9) (v : Word)
  /-- TRIM_WRITE (R96). A host write to a trim takes effect at the next line trigger and discards live updates in progress. -/
  | trimWrite (g : Fin 8) (c : Fin 9) (n : Fin 8) (v : Word)
  /-- INJ_GO (R92). A write of 1 to INJ_GO injects a test charge into a charge-mode channel, or is discarded outside SERVICE. -/
  | injGo (rq : Req) (g : Fin 8) (v : Word)
  /-- INJECTION_DONE (R92). A test-charge injection ends and INJ_GO clears. -/
  | injectionDone (g : Fin 8)
  /-- AFE_GRP_SERVICE (R544). A write of 1 to GO of AFE_GRP_SERVICE connects a channel to a source in SERVICE, or refuses it. -/
  | afeGrpService (g : Fin 8) (v : Word)
  /-- RETIRE_REQ (R491). A write of 1 to RETIRE_REQ makes a channel the target of rotations until a swap retires it. -/
  | retireReq (rq : Req) (g : Fin 8) (c : Fin 9)
  /-- RETIRE_CANCEL (R491). A write of 1 to RETIRE_CANCEL clears a pending planned retirement. -/
  | retireCancel (g : Fin 8) (c : Fin 9)
  /-- SQUEEZE_CYCLE_START (R203). ROT_PERIOD after the previous cycle began, a Squeeze cycle of points starts in a group. -/
  | squeezeCycleStart (g : Fin 8)
  /-- SQUEEZE_POINT (R201). In a gap whose predicted length suffices, the device takes one Squeeze point and computes trims after each pair. -/
  | squeezePoint (g : Fin 8) (sum : Nat) (clipped : Bool)
  /-- REBELAY_ROTATION_START (R205). ROT_PERIOD after the previous rotation began, the spare enters PREP for the next target. -/
  | rebelayRotationStart (g : Fin 8)
  /-- REBELAY_PREP_DONE (R205). The spare has been calibrated for every range code and enters COMPARE. -/
  | rebelayPrepDone (g : Fin 8) (ref : RefCal) (cal : ChanCal)
  /-- REBELAY_COMPARE (R206). After RB_LINES line sets the device evaluates the offset and gain match of spare and target. -/
  | rebelayCompare (g : Fin 8) (pairs : List (Nat × Nat)) (pts : List ChargeCmp)
  /-- REBELAY_SWAP (R205). At a line boundary the spare's output is selected for the target's tap. -/
  | rebelaySwap (g : Fin 8)
  /-- FREED_CAL_DONE (R205). The freed channel has been calibrated and becomes the spare; the state returns to IDLE. -/
  | freedCalDone (g : Fin 8) (cal : ChanCal)
  /-- GRID_TRIGGER (R105). A FEED position at or beyond HWM + P triggers the next main-row line and starts its exposure sequence or queues it. -/
  | gridTrigger
  /-- LEAD_TRIGGER (R118). A FEED position at or beyond LEAD_HWM + P_L triggers a LEAD exposure. -/
  | leadTrigger
  /-- TIMER_TRIGGER (R129). In CAL_RUN or SERVICE with TIMER, the timer triggers a line every LTN_CAL_PERIOD. -/
  | timerTrigger
  /-- SOFT_TRIG (R129). A write of 1 to SOFT_TRIG triggers one line in SERVICE with SOFT. -/
  | softTrig (rq : Req) (v : Word)
  /-- ARM (R106). A write of ARMED = 1 arms the grid, setting HWM by ARM_MODE, or refuses it with NOT_READY, BAD_ORDER or BAD_HWM. -/
  | arm (rq : Req) (v : Word)
  /-- DISARM (R107). A host write of ARMED = 0 disarms the grid and sets GRID_DISARMED. -/
  | disarm (rq : Req) (v : Word)
  /-- LTN_CONFIG_WRITE (R115). An accepted write to the sequence timing or channel registers recomputes the schedule within 2 µs. -/
  | ltnConfigWrite (rq : Req) (r : LtnReg) (v : Word)
  /-- SEQUENCE_END (R127). An exposure sequence or flush ends, and a queued trigger's sequence starts at that line boundary. -/
  | sequenceEnd (lead : Bool) (pos : List Int) (sigs : List GenALine)
  /-- FLUSH (R126). With no sequence of a grid within IDLE_FLUSH, Lantern runs a dark flush sequence on that grid. -/
  | flush (lead : Bool)
  /-- SEGMENT_JOB_DONE (R135). A slice finishes a segment job and its residue checks decide whether the job failed. -/
  | segmentJobDone (lead : Bool) (plane : Fin 4) (seg : Fin 2) (fail : Bool)
  /-- HAND_OFF (R151). Gallery hands off a plane line to the contexts in order and flags it. -/
  | handOff (late : Bool) (ecc : List (Nat × Nat))
  /-- REPLAY_DONE (R154). A replay finishes and its output joins the plane line, or fails with CHECK_FAILED. -/
  | replayDone (lead : Bool) (plane : Fin 4) (seg : Fin 2) (fail : Bool)
  /-- VERIFICATION (R157). Every VERIFY_INTERVAL line sets the idle REPLAY slice recomputes a job and compares it word by word. -/
  | verification (mismatch : Bool)
  /-- RECON_WAIT (R142). Line k + 1 not triggered within RECON_WAIT makes reconstruction fall back on line k - 1. -/
  | reconWait (lead : Bool)
  /-- RECONSTRUCTION_DONE (R142). Gallery completes the reconstruction of a line set and hands it off. -/
  | reconstructionDone (lead : Bool) (late : Bool) (ecc : List (Nat × Nat))
  /-- SWAP_REQ (R169). A write of 1 to SWAP_REQ requests a shading swap at the next suitable moment. -/
  | swapReq
  /-- SWAP_CANCEL (R169). A write of 1 to SWAP_CANCEL clears SWAP_REQ. -/
  | swapCancel
  /-- DISARMED_SWAP (R169). While disarmed and once Gallery holds no plane line, the device applies the set choice within 1 µs. -/
  | disarmedSwap
  /-- SHADING_COMMIT (R175). After SHADOW_LOCKED clears, a successful calibration writes the shadow set, sets VALID and may swap it active. -/
  | shadingCommit
  /-- TRACK_UPDATE (R179). After 2^TRACK_LOG accepted tile lines the device updates the gain multiplier M. -/
  | trackUpdate (m : Fin 64) (p : Fin 4)
  /-- M_WRITE (R181). A host write of M while tracking is off takes effect at the next line boundary. -/
  | mWrite (rq : Req) (m : Fin 64) (p : Fin 4) (v : Word)
  /-- SURVEY_MEASUREMENT (R229). After hand-off of a measurement line's SURVEY_PLANE, Survey matches the windows and writes a result record. -/
  | surveyMeasurement
  /-- STRATA_MEASUREMENT (R239). After line k_b + K is reduced, Strata locates the boundary, measures the step and writes its result. -/
  | strataMeasurement
  /-- STR_CTRL_WRITE (R243). Clearing STR_EN gives every queued boundary STOPPED, empties the queue and clears the history. -/
  | strCtrlWrite (rq : Req) (v : Word)
  /-- FLOWSTONE_ENTRY (R251). A queued measurement is entered into the bins and becomes visible at a servo period start. -/
  | flowstoneEntry
  /-- FLOWSTONE_BIN_WRITE (R253). A host write to a bin while LEARN_EN = 0 becomes visible at the next servo period. -/
  | flowstoneBinWrite (rq : Req) (n : Fin 1024) (v : Word)
  /-- RECORD_WRITE (R266). A waiting record is written into the context's buffer, taking a new buffer and closing a full one as needed. -/
  | recordWrite
  /-- BUFFER_FLUSH (R266). FLUSH_TIME after its first record, a buffer is closed with FLUSH and its completion posted. -/
  | bufferFlush (n : Fin 4096)
  /-- SMP_QUOTA_SET (R312). A write to SMP_QUOTA_SET changes the QUOTA of a context, or refuses it. -/
  | smpQuotaSet (v : Word)
  /-- BANK_MIGRATION (R304). A bank reaching ECC_LIMIT corrected errors is copied to the spare bank while traffic continues. -/
  | bankMigration (b : Fin 16) (n : Nat)
  /-- MIGRATION_DONE (R304). The last cell is copied, the map switches and the migration is recorded. -/
  | migrationDone
  /-- UNCORRECTABLE_ERROR (R305). A Sump read meets an uncorrectable error with effects depending on what the cell holds. -/
  | uncorrectableError (cell : UeCell)
  /-- ROW_REPAIR (R488). An SRAM row reaching ROW_LIMIT corrected errors is copied to a spare row and remapped. -/
  | rowRepair (m : Fin 256) (row : Fin 65536) (n : Nat)
  /-- HAUL_START (R321). A write to HAU_CH_START_HI pushes a program address onto a channel's queue. -/
  | haulStart (rq : Req) (ch : Fin 8) (hi : Word)
  /-- HAUL_PROGRAM_START (R322). With no program running, the engine starts the oldest queued program of the highest-priority channel. -/
  | haulProgramStart
  /-- HAUL_MOVE (R328). The Haul MOVE instruction copies LENGTH bytes in destination-aligned bursts. -/
  | haulMove (ins : List Word) (data : List Byte)
  /-- MOVEX (R330). The MOVEX instruction gathers or scatters COUNT elements through an index table. -/
  | haulMovex (ins : List Word) (idx : List Byte) (data : List Byte)
  /-- FILL (R331). The FILL instruction writes LENGTH bytes of an 8-byte pattern. -/
  | haulFill (ins : List Word)
  /-- CMP (R332). The CMP instruction compares two regions and counts unequal bytes. -/
  | haulCmp (ins : List Word) (a : List Byte) (b : List Byte)
  /-- LOOP (R329). The LOOP instruction jumps back or pops its stack entry. -/
  | haulLoop (ins : List Word)
  /-- WAIT (R333). The WAIT instruction waits for a request or event line. -/
  | haulWait (ins : List Word)
  /-- WAIT_TIMEOUT (R336). A WAIT whose TIMEOUT expires ends the program with WAIT_TIMEOUT. -/
  | haulWaitTimeout (ins : List Word)
  /-- SIGNAL (R333). The SIGNAL instruction pulses an event line in the next CTRL clock. -/
  | haulSignal (ins : List Word)
  /-- NEXT (R325). The NEXT instruction continues at another instruction address and empties the loop stack. -/
  | haulNext (ins : List Word)
  /-- END (R337). The END instruction is reached and its first bytes are read again 160 ns later. -/
  | haulEnd (ins : List Word)
  /-- END_REREAD (R337). The second read of END continues at a NEXT or ends the program with STOPPED_AT_END. -/
  | haulEndReread (words : Word × Word)
  /-- BURST_REQUEST (R335). A request on the instruction's request line starts one burst of a REQ_EN transfer. -/
  | burstRequest (a : List Byte) (b : List Byte)
  /-- BUS_ERROR (R341). A failing read, fetch or device access ends the program with BUS_ERROR and halts the channel. -/
  | busError (cause : Fin 4) (fetch : Bool) (ins : List Word) (idx : List Byte) (a : List Byte) (b : List Byte)
  /-- CLEAR (R341). A write of 1 to CLEAR takes a Haul channel out of HALTED. -/
  | haulClear (ch : Fin 8)
  /-- SERVO_PERIOD (R350). At each servo period start the loop, the governor and each profile generator compute the next set-point. -/
  | servoPeriod
  /-- STALL (R383). |e| above DEV_WIN for DEV_N consecutive periods flags a stall. -/
  | stall (a : Fin 6)
  /-- LIMIT_SWITCH (R387). An active LIM level stops motion in the guarded direction with LIMIT_SWITCH. -/
  | limitSwitch (a : Fin 6) (active : Bool)
  /-- OVERCURRENT (R372). A current monitor above OC_LIMIT twice turns the axis gates off and latches OVERCURRENT. -/
  | overcurrent (a : Fin 6) (coil : Fin 2) (mon : Fin 4096)
  /-- ENCODER_FAULT (R381). An encoder fault latches ENC_FAULT, clears REFERENCED and stops a running move. -/
  | encoderFault (a : Fin 6) (cause : Fin 8)
  /-- SSI_FRAME (R380). An SSI frame is read and unwrapped into the measured position. -/
  | ssiFrame (a : Fin 6) (raw : Word) (high : Bool)
  /-- SWITCH_EDGE (R386). A filtered HOME or Z edge latches the position and time and sets LATCHED. -/
  | switchEdge (a : Fin 6) (z : Bool) (active : Bool) (pos : Int)
  /-- AXS_ESTOP (R356). A write of 1 to an axis bit of AXS_ESTOP stops the axis with EDEC and EJERK. -/
  | axsEstop (v : Word)
  /-- POS_GO (R362). A write of 1 to POS_GO redefines a standing axis position, or reports POS_REFUSED. -/
  | posGo (a : Fin 6)
  /-- SERVO_PERIOD_WRITE (R344). A write of SERVO_PERIOD while all axes stand still takes effect at the next period boundary. -/
  | servoPeriodWrite (rq : Req) (v : Word)
  /-- OC_CLEAR (R372). A write of 1 to OC_CLEAR clears OVERCURRENT and releases the gates. -/
  | ocClear (a : Fin 6)
  /-- ENC_CLEAR (R381). A write of 1 to ENC_CLEAR clears ENC_FAULT. -/
  | encClear (a : Fin 6)
  /-- REF_SWITCH (R389). Referencing by SWITCH seeks the home edge and redefines the position at the latch. -/
  | refSwitch (a : Fin 6) (up : Bool) (set : Fin 4) (iRef : Fin 1024)
  /-- REF_HARD_STOP (R389). Referencing by HARD_STOP seeks a stall, redefines the position there and backs off. -/
  | refHardStop (a : Fin 6) (up : Bool) (set : Fin 4) (iRef : Fin 1024)
  /-- REF_COMBINED (R389). Referencing by COMBINED seeks a stall, then seeks back to the home edge and redefines there. -/
  | refCombined (a : Fin 6) (up : Bool) (set : Fin 4) (iRef : Fin 1024)
  /-- REFERENCING_DONE (R390). A referencing procedure ends, sets DONE and RESULT and raises the axis interrupt. -/
  | referencingDone (a : Fin 6)
  /-- CHOPPER_TRIP (R370). The sensed coil voltage exceeding V_TH after blanking starts the off-time with FAST then SLOW. -/
  | chopperTrip (a : Fin 6) (coil : Fin 2) (mon : Fin 4096)
  /-- CHOPPER_ON (R370). When t_OFF and the 12.5 µs minimum cycle have passed, the next ON phase starts. -/
  | chopperOn (a : Fin 6) (coil : Fin 2)
  /-- HKC_PASS_START (R398). At each pass period the housekeeping sequencer stamps the time and runs its entries in order. -/
  | hkcPassStart (c : Fin 2) (conv : List (List (Int × Bool)))
  /-- COMMIT (R401). A write of 1 to COMMIT checks the shadow set and applies it at the next pass start. -/
  | hkcCommit (c : Fin 2)
  /-- HKC_RUN_START (R401). A write of RUN = 1 with the sequencer stopped checks and applies the set at once and starts passes. -/
  | hkcRunStart (c : Fin 2)
  /-- HKC_FIFO_POP (R409). A read of HKC_FIFO_WIN returns the next word of the result FIFO. -/
  | hkcFifoPop (rq : Req) (c : Fin 2) (off : Fin 64)
  /-- REFERENCE_MEASUREMENT (R416). A reference event gives a disciplined base one measurement, which steps it once or corrects its rate. -/
  | referenceMeasurement (host : Bool) (theta : BitVec 64)
  /-- HOLDOVER (R418). A base with no measurement for 8 reference intervals enters HOLDOVER. -/
  | holdover (host : Bool)
  /-- PTM_DIALOG (R419). Every 2^PTM_LOG ms the device runs a PTM dialog that measures HOST. -/
  | ptmDialog (ns : Option Nat)
  /-- PPS_EDGE (R420). A rising edge of PPS_IN gives NET a measurement on a PPS timing master. -/
  | ppsEdge
  /-- REARM (R417). A write of 1 to REARM sets STEP_ARMED of a base. -/
  | rearm (b : Fin 4)
  /-- NET_SET_GO (R420). A write of 1 to SET_GO on a FREE timing master sets NET to TIM_NET_SET. -/
  | netSetGo
  /-- AXIS_STEP (R422). In a FORMED station, once all axes stand still, one period is lengthened to align AXIS with NET. -/
  | axisStep
  /-- CAIRN_TICK (R425). Each 32.768 kHz tick advances Cairn. -/
  | cairnTick
  /-- CAIRN_SET_GO (R425). A write of 1 to SET_GO loads Cairn from CRN_SET. -/
  | cairnSetGo
  /-- COPY (R425). A write of COPY makes Cairn take the NET or HOST value once. -/
  | cairnCopy (src : Fin 4)
  /-- ACTION_DUE (R426). A slot whose base reaches TIME executes its action or is dropped when late. -/
  | actionDue
  /-- TETHER_FRAME_RECEIVED (R432). A Tether frame received on a port is checked, delivered and forwarded under the ring rules. -/
  | tetherFrameReceived (west : Bool) (words : List Word) (fwd : Nat)
  /-- TETHER_LINK_DOWN (R432). A Tether link going down makes the node turn traffic within 20 µs. -/
  | tetherLinkDown (west : Bool)
  /-- TETHER_LINK_UP (R430). A Tether link locks and measures its port latencies, and the node stops turning once its delay is known. -/
  | tetherLinkUp (west : Bool)
  /-- PD_REQ (R434). Every 2^PD_LOG s a port sends PD_REQ to measure its link delay. -/
  | pdReq (west : Bool)
  /-- SYNC (R435). Every 2^-SYNC_N s the timing master sends SYNC and then FOLLOW. -/
  | sync
  /-- ELECTION_TIMEOUT (R436). A node without SYNC from a better node for 3 intervals becomes timing master. -/
  | electionTimeout
  /-- GOV_TIMEOUT (R439). No GOVERNOR frame returning for GOV_TIMEOUT periods holds FEED and sets GOV_LOST. -/
  | govTimeout
  /-- STATION_MASTER_LOST (R34). A follower without a frame from its feed master for 10 ms reports STATION_MASTER_LOST. -/
  | stationMasterLost
  /-- CHAL_REQ (R482). A write of 1 to CHAL_REQ draws a debug unlock challenge. -/
  | chalReq
  /-- RESP_GO (R482). A write of 1 to RESP_GO checks the unlock response and unlocks on success. -/
  | respGo
  /-- LOCK_NOW (R482). A write of 1 to LOCK_NOW ends a debug unlock. -/
  | lockNow
  /-- CHALLENGE_EXPIRY (R482). A challenge unused for 60 s becomes invalid. -/
  | challengeExpiry
  /-- LEDGER_WRITE (R489). A queued ledger entry is programmed into the lowest empty OTP slot. -/
  | ledgerWrite
  /-- TST_SELECT (R500). A write to a TST selector connects a test pin to a signal under the unlock and SERVICE conditions. -/
  | tstSelect (rq : Req) (atest : Bool) (n : Fin 8) (v : Word)
  /-- EXTEST (R506). The JTAG EXTEST instruction drives pins from the boundary register. -/
  | extest (cells : Option (List Bool))
  /-- IDCODE (R504). The JTAG IDCODE instruction selects the identification register. -/
  | idcode
  /-- SAMPLE_PRELOAD (R504). The JTAG SAMPLE/PRELOAD instruction samples and preloads the boundary register. -/
  | samplePreload (pins : List Bool) (cells : Option (List Bool))
  /-- CLAMP (R506). The JTAG CLAMP instruction holds the boundary cells on the pins with bypass selected. -/
  | clamp
  /-- HIGHZ (R506). The JTAG HIGHZ instruction floats the pins with bypass selected. -/
  | highz
  /-- DEBUG_INSTRUCTION (R504). A JTAG debug instruction selects a debug chain when unlocked, otherwise bypass. -/
  | debugInstruction (code : Fin 256)
  /-- BYPASS (R504). The JTAG BYPASS instruction selects the bypass register and returns the pins to the functional logic. -/
  | bypass (code : Fin 256)
  /-- TOP_INT_WRITE (R542). A write to TOP_INT_STATUS or TOP_INT_ENABLE may send an ERR_VEC message. -/
  | topIntWrite (rq : Req) (enable : Bool) (v : Word)
  /-- TWO_HALF_READ (R538). A read of a group's lowest word returns its live value and copies the higher words into the requester's shadow. -/
  | twoHalfRead (rq : Req) (a : Nat)
  /-- RC_READ (R14). A read of an RC field returns its value and clears it. -/
  | rcRead (rq : Req) (a : Nat)
  /-- REGISTER_WRITE (R14). A write to a register without a row of its own stores or discards fields by access type and may record an access error. -/
  | registerWrite (rq : Req) (a : Nat) (v : Word) (be : Fin 16)
  /-- ENCODER_COUNT (R378). An edge of a quadrature encoder, or a step of the interpolated sin/cos signal, changes the axis's measured position p. -/
  | encoderCount (a : Fin 6) (n : Int)
  /-- TEV_EDGE (R444). An edge of a TEV input selected by TIM_EVT_CFG is stamped into TIM_EVT_TIME_e and sets its EVT_NEW bit. -/
  | tevEdge (n : Fin 4) (rising : Bool)
  /-- PPS_OUT (R443). PPS_OUT is pulsed for PPS_W ms at each whole second of the base that PPS_BASE selects. -/
  | ppsOut
  /-- LOCK_LOST (R543). A group PLL that the device runs leaves lock and sets LOCK_LOST. -/
  | lockLost (g : Fin 8) (back : Bool)
  /-- PERST_N_DEASSERTION (R453). Outside DORMANT, a deassertion of PERST_N lets the link train and releases a WAKE_N held asserted since a wake. -/
  | perstNDeassertion
  /-- LINK_TRAINED (R451). The PCI Express link finishes training, within 20 ms of PERST_N deassertion, and configuration requests are answered from then on. -/
  | linkTrained
  /-- TEST_LOGIC_RESET (R504). JTAG_TRST_N assertion, or TMS held high, puts the TAP into Test-Logic-Reset, loading IDCODE and returning the pins to the functional logic. -/
  | testLogicReset
  deriving DecidableEq, Repr

end Sys2Proof
end

