-- ==== Sys2Proof/Decode.lean ====
section
/-! DEFINITION. Commands spelled by bits. The table gives no row of this block bits: its commands are accesses, ring
entries, protocol events and moments, so no word spells one. -/

namespace Sys2Proof

def decodeTableWord (_nbits _w : Nat) : Option Instr := none

end Sys2Proof
end

