-- ==== Sys2Proof/Machine/Bits.lean ====
section
/-! DEFINITION. Bit fields, two's complement, byte order and the rounding rules of the spec
(00_scope.md R3, R12; 05_gallery_pixel_pipeline.md R131). -/

namespace Sys2Proof.Machine

/-- Bits `hi` to `lo` of a number. -/
def bitsOf (w hi lo : Nat) : Nat := w / 2 ^ lo % 2 ^ (hi + 1 - lo)

/-- Bit `n` of a number. -/
def bitOf (w n : Nat) : Bool := w / 2 ^ n % 2 = 1

/-- `w` with bits `hi` to `lo` replaced by the low bits of `v`. -/
def putBits (w hi lo v : Nat) : Nat :=
  w - bitsOf w hi lo * 2 ^ lo + v % 2 ^ (hi + 1 - lo) * 2 ^ lo

/-- The signed value of the low `n` bits of a number. -/
def signed (n w : Nat) : Int :=
  let v := w % 2 ^ n
  if v < 2 ^ (n - 1) then (v : Int) else (v : Int) - 2 ^ n

/-- The `n`-bit two's complement code of an integer. -/
def unsigned (n : Nat) (x : Int) : Nat := (x % (2 ^ n : Int)).toNat

/-- `clamp` (R131). -/
def clampI (x lo hi : Int) : Int := if x < lo then lo else if hi < x then hi else x

/-- `div_floor` (R131): rounds towards minus infinity. -/
def divFloor (a b : Int) : Int := Int.fdiv a b

/-- `round_half_up(a / b)` for b > 0: floor(a / b + 1 / 2). -/
def divRound (a b : Int) : Int := Int.fdiv (2 * a + b) (2 * b)

def b2n (b : Bool) : Nat := if b then 1 else 0

/-- Little-endian bytes of a number (R12). -/
def leBytes : Nat → Nat → List Byte
  | 0, _ => []
  | n + 1, w => BitVec.ofNat 8 w :: leBytes n (w / 256)

/-- The number that little-endian bytes spell. -/
def leNat : List Byte → Nat
  | [] => 0
  | b :: t => b.toNat + 256 * leNat t

/-- The 32-bit words that bytes spell, little-endian; a short last word is filled with zeros. -/
def leWords (bs : List Byte) : Nat → List Nat
  | 0 => []
  | n + 1 => leNat (bs.take 4) :: leWords (bs.drop 4) n

/-- `n` bytes at offset `o` of a buffer as a number (missing bytes 0). -/
def bufNat (bs : List Byte) (o n : Nat) : Nat := leNat ((bs.drop o).take n)

/-- The same, signed. -/
def bufInt (bs : List Byte) (o n : Nat) : Int := signed (8 * n) (bufNat bs o n)

/-- Sum of a list of integers. -/
def sumI (l : List Int) : Int := l.foldl (· + ·) 0

/-- Sum of a list of naturals. -/
def sumN (l : List Nat) : Nat := l.foldl (· + ·) 0

/-- Element `i` of a list replaced. -/
def setAt {α : Type} (l : List α) (i : Nat) (v : α) : List α := l.set i v

/-- The numbers whose bits are set in a mask of `n` bits, lowest first. -/
def maskList (n m : Nat) : List Nat := (List.range n).filter (fun i => bitOf m i)

/-- Integer square root (R131), by Newton steps that never rise. -/
def isqrtFuel : Nat → Nat → Nat → Nat
  | 0, _, x => x
  | f + 1, n, x => let y := (x + n / x) / 2; if y < x then isqrtFuel f n y else x

def isqrt (n : Nat) : Nat := if n = 0 then 0 else isqrtFuel (n.log2 + 2) n (2 ^ (n.log2 / 2 + 1))

end Sys2Proof.Machine
end

