-- ==== Sys2Proof/Machine/Crc.lean ====
section
/-! DEFINITION. The check sums of records, images and frames (spec Table 2.3 CRC-16, Table 2.4 CRC-32). -/

namespace Sys2Proof.Machine

/-- `n` steps of the reflected CRC-32 on a register (polynomial 0x04C1_1DB7 reflected is 0xEDB8_8320). -/
def crc32Steps : Nat → BitVec 32 → BitVec 32
  | 0, c => c
  | n + 1, c => crc32Steps n (if c &&& 1#32 = 1#32 then (c >>> 1) ^^^ 0xEDB88320#32 else c >>> 1)

/-- CRC-32 of IEEE 802.3 over bytes: initial value and final XOR 0xFFFF_FFFF (Table 2.4). -/
def crc32 (bs : List Byte) : Nat :=
  (bs.foldl (fun c b => crc32Steps 8 (c ^^^ b.zeroExtend 32)) 0xFFFFFFFF#32 ^^^ 0xFFFFFFFF#32).toNat

/-- `n` steps of CRC-16 with polynomial 0x1021, most significant bit first. -/
def crc16Steps : Nat → BitVec 16 → BitVec 16
  | 0, c => c
  | n + 1, c => crc16Steps n (if c &&& 0x8000#16 = 0x8000#16 then (c <<< 1) ^^^ 0x1021#16 else c <<< 1)

/-- CRC-16 of a Gen C packet: initial value 0xFFFF, no final inversion (Table 2.3). -/
def crc16 (bs : List Byte) : Nat :=
  (bs.foldl (fun c b => crc16Steps 8 (c ^^^ (b.zeroExtend 16).shiftLeft 8)) 0xFFFF#16).toNat

/-- A buffer with bytes `lo` to `hi - 1` taken as 0, as the CRC fields are. -/
def zeroed (bs : List Byte) (lo hi : Nat) : List Byte :=
  bs.take lo ++ List.replicate (min hi bs.length - lo) 0 ++ bs.drop hi

end Sys2Proof.Machine
end

