-- ==== Sys2Proof/Machine/Regs.lean ====
section
/-! DEFINITION. The register map as data (spec 23_register_map.md R535, and each chapter's register
tables): every register family with its base in BAR0, its indexes, its reset domain, its reset value
and its fields with their access types (00_scope.md R14, R15). -/

namespace Sys2Proof.Machine

/-- Access types (R14, Table 0.2). -/
inductive Access where
  | rw | ro | w1c | w1s | wo | rc
  deriving DecidableEq, Repr

/-- Reset domains (R15, Table 0.3), the most lasting first. -/
inductive Domain where
  | aon | por | pin | warm | func
  deriving DecidableEq, Repr

/-- A family of registers: `dims` lists (count, stride), the widest stride first; `flds` lists
(high bit, low bit, access) of every field that is not reserved. -/
structure RegFam where
  name : String
  base : Nat
  dims : List (Nat × Nat)
  dom  : Domain
  rst  : Nat
  flds : List (Nat × Nat × Access)
  deriving DecidableEq, Repr

/-- Registers of the TOP_ block. -/
def regsTOP : List RegFam := [
  ⟨"TOP_ID", 0x0, [], .por, 0x8604B000, [(31, 16, .ro), (15, 8, .ro)]⟩,
  ⟨"TOP_DSN_LO", 0x8, [], .por, 0x0, [(31, 0, .ro)]⟩,
  ⟨"TOP_DSN_HI", 0xC, [], .por, 0x0, [(31, 0, .ro)]⟩,
  ⟨"TOP_ERR_STATUS", 0x100, [], .func, 0x0, [(31, 31, .w1c), (30, 30, .w1c), (29, 29, .ro), (28, 28, .ro), (27, 24, .ro), (15, 0, .rc)]⟩,
  ⟨"TOP_ERR_ADDR", 0x104, [], .func, 0x0, [(25, 0, .ro)]⟩,
  ⟨"TOP_INT_STATUS", 0x110, [], .func, 0x0, [(17, 17, .w1c), (16, 16, .w1c), (15, 15, .w1c), (14, 14, .w1c), (13, 13, .w1c), (12, 12, .w1c), (11, 11, .w1c), (10, 10, .w1c), (9, 9, .w1c), (8, 8, .w1c), (7, 7, .w1c), (6, 6, .w1c), (5, 5, .w1c), (4, 4, .w1c), (3, 3, .w1c), (2, 2, .w1c), (1, 1, .w1c), (0, 0, .w1c)]⟩,
  ⟨"TOP_INT_ENABLE", 0x114, [], .func, 0x0, [(17, 17, .rw), (16, 16, .rw), (15, 15, .rw), (14, 14, .rw), (13, 13, .rw), (12, 12, .rw), (11, 11, .rw), (10, 10, .rw), (9, 9, .rw), (8, 8, .rw), (7, 7, .rw), (6, 6, .rw), (5, 5, .rw), (4, 4, .rw), (3, 3, .rw), (2, 2, .rw), (1, 1, .rw), (0, 0, .rw)]⟩,
  ⟨"TOP_BAR_STATUS", 0x120, [], .func, 0x0, [(31, 31, .ro), (30, 30, .w1c), (22, 22, .ro), (21, 16, .ro), (15, 8, .ro), (7, 0, .ro)]⟩,
  ⟨"TOP_SRAM_STATUS", 0x130, [], .por, 0x40000, [(31, 31, .w1c), (30, 30, .w1c), (23, 16, .rw), (15, 8, .ro), (7, 0, .ro)]⟩]

/-- Registers of the PWR_ block. -/
def regsPWR : List RegFam := [
  ⟨"PWR_MODE_CTRL", 0x10000, [], .func, 0x0, [(2, 0, .wo)]⟩,
  ⟨"PWR_MODE_STATUS", 0x10004, [], .func, 0x0, [(31, 29, .ro), (28, 28, .ro), (27, 25, .ro), (24, 24, .w1c), (19, 16, .ro)]⟩,
  ⟨"PWR_RESET_CTRL", 0x10008, [], .func, 0x0, [(31, 24, .wo), (0, 0, .wo)]⟩,
  ⟨"PWR_RESET_CAUSE", 0x1000C, [], .aon, 0x80000000, [(31, 31, .w1c), (30, 30, .w1c), (29, 29, .w1c), (28, 28, .w1c), (27, 27, .w1c), (26, 26, .w1c), (25, 25, .w1c), (24, 24, .w1c), (15, 0, .ro)]⟩,
  ⟨"PWR_WAKE_CFG", 0x10010, [], .aon, 0x10000000, [(31, 31, .rw), (30, 30, .rw), (29, 29, .rw), (28, 28, .rw), (25, 24, .ro)]⟩,
  ⟨"PWR_WAKE_TIME_LO", 0x10014, [], .aon, 0x0, [(29, 0, .rw)]⟩,
  ⟨"PWR_WAKE_TIME_HI", 0x10018, [], .aon, 0x0, [(31, 0, .rw)]⟩,
  ⟨"PWR_DOM_STATUS", 0x10020, [(4, 4)], .func, 0x0, [(31, 0, .ro)]⟩]

/-- Registers of the SEC_ block. -/
def regsSEC : List RegFam := [
  ⟨"SEC_BOOT_STATUS", 0x11000, [], .por, 0x20, [(31, 28, .ro), (27, 27, .ro), (26, 26, .ro), (23, 20, .ro), (19, 16, .ro), (14, 8, .ro), (7, 0, .rw)]⟩,
  ⟨"SEC_OTP_STATUS", 0x11004, [], .por, 0x0, [(31, 31, .ro), (30, 30, .ro), (29, 29, .ro), (28, 28, .ro), (27, 27, .ro), (26, 26, .ro), (23, 16, .ro), (15, 8, .ro), (6, 0, .ro)]⟩,
  ⟨"SEC_STORE_STATUS", 0x11008, [], .warm, 0x0, [(31, 31, .w1c), (30, 30, .ro), (29, 29, .ro), (28, 28, .ro)]⟩,
  ⟨"SEC_DBG_CTRL", 0x11020, [], .warm, 0x0, [(31, 31, .w1s), (30, 30, .w1s), (29, 29, .w1s)]⟩,
  ⟨"SEC_DBG_STATUS", 0x11024, [], .warm, 0x0, [(31, 31, .ro), (30, 29, .ro), (28, 28, .ro), (19, 16, .ro), (3, 0, .ro)]⟩,
  ⟨"SEC_STORE_SEQ", 0x1100C, [], .warm, 0x0, [(31, 0, .ro)]⟩,
  ⟨"SEC_FW_BUILD", 0x11010, [], .por, 0x0, [(31, 0, .ro)]⟩,
  ⟨"SEC_LEDGER_STATUS", 0x11028, [], .por, 0x0, [(31, 31, .w1c), (30, 30, .w1c), (20, 16, .ro), (15, 8, .ro)]⟩,
  ⟨"SEC_ID_PUBKEY", 0x11040, [(8, 4)], .por, 0x0, [(31, 0, .ro)]⟩,
  ⟨"SEC_DBG_CHAL", 0x11060, [(8, 4)], .warm, 0x0, [(31, 0, .ro)]⟩,
  ⟨"SEC_DBG_RESP", 0x11100, [(36, 4)], .warm, 0x0, [(31, 0, .rw)]⟩,
  ⟨"SEC_LEDGER_LO", 0x11400, [(128, 8)], .por, 0x0, [(31, 0, .ro)]⟩,
  ⟨"SEC_LEDGER_HI", 0x11404, [(128, 8)], .por, 0x0, [(31, 0, .ro)]⟩]

/-- Registers of the TST_ block. -/
def regsTST : List RegFam := [
  ⟨"TST_ATEST_SEL", 0x12000, [(4, 4)], .warm, 0x40000000, [(31, 31, .rw), (30, 30, .rw), (9, 0, .rw)]⟩,
  ⟨"TST_DTEST_SEL", 0x12010, [(8, 4)], .warm, 0x0, [(31, 31, .rw), (9, 0, .rw)]⟩,
  ⟨"TST_STATUS", 0x12030, [], .warm, 0x0, [(31, 31, .w1c), (30, 30, .w1c), (29, 29, .ro)]⟩]

/-- Registers of the GRP_ block. -/
def regsGRP : List RegFam := [
  ⟨"GRP_PLL_STATUS", 0x20000, [(8, 4096)], .func, 0x0, [(31, 31, .ro), (30, 30, .w1c), (22, 16, .ro), (10, 0, .ro)]⟩,
  ⟨"I2C_CFG", 0x28000, [(4, 256)], .func, 0x0, [(31, 31, .rw), (30, 29, .rw)]⟩,
  ⟨"I2C_CMD", 0x28004, [(4, 256)], .func, 0x0, [(31, 31, .w1s), (30, 24, .rw), (17, 9, .rw), (8, 0, .rw)]⟩,
  ⟨"I2C_STATUS", 0x28008, [(4, 256)], .func, 0x0, [(31, 31, .ro), (30, 30, .w1c), (29, 27, .ro), (25, 16, .ro), (13, 8, .ro), (5, 0, .ro)]⟩]

/-- Registers of the LNE_ block. -/
def regsLNE : List RegFam := [
  ⟨"LNE_GRP_STATUS", 0x30000, [(8, 4096)], .func, 0x0, [(31, 31, .w1c), (30, 30, .ro), (29, 29, .w1c), (28, 28, .w1c), (27, 27, .w1c), (26, 25, .ro), (24, 23, .ro), (22, 18, .ro), (17, 16, .ro)]⟩,
  ⟨"LNE_PAD", 0x30010, [(8, 4096), (4, 16)], .func, 0x0, [(31, 31, .ro), (30, 29, .ro), (28, 26, .ro), (25, 25, .w1c), (24, 24, .w1c), (13, 8, .ro)]⟩,
  ⟨"LNE_PAD_ERR", 0x30014, [(8, 4096), (4, 16)], .func, 0x0, [(31, 0, .rc)]⟩]

/-- Registers of the AFE_ block. -/
def regsAFE : List RegFam := [
  ⟨"AFE_CH_CTRL", 0x40000, [(8, 4096), (9, 256)], .func, 0x804000F0, [(31, 31, .rw), (30, 30, .ro), (29, 29, .rw), (28, 28, .ro), (27, 27, .ro), (23, 20, .rw), (7, 4, .ro), (3, 0, .ro)]⟩,
  ⟨"AFE_CH_RANGE", 0x40004, [(8, 4096), (9, 256)], .func, 0x0, [(31, 31, .ro), (15, 12, .rw), (11, 8, .rw), (7, 4, .rw), (3, 0, .rw)]⟩,
  ⟨"AFE_CH_RANGE_ACT", 0x40008, [(8, 4096), (9, 256)], .func, 0x0, [(15, 12, .ro), (11, 8, .ro), (7, 4, .ro), (3, 0, .ro)]⟩,
  ⟨"AFE_CH_TRIM", 0x40010, [(8, 4096), (9, 256), (8, 4)], .warm, 0x8000800, [(27, 16, .rw), (11, 0, .rw)]⟩,
  ⟨"AFE_CH_STATUS", 0x40030, [(8, 4096), (9, 256)], .func, 0x0, [(31, 31, .ro), (30, 30, .w1c), (29, 29, .w1c), (28, 28, .w1c), (27, 27, .w1c), (15, 0, .rc)]⟩,
  ⟨"AFE_CH_CAL", 0x40034, [(8, 4096), (9, 256)], .func, 0x0, [(31, 31, .ro), (30, 30, .w1c), (29, 29, .w1c), (28, 28, .w1c), (19, 16, .ro), (15, 0, .rc)]⟩,
  ⟨"AFE_CH_CHKREF", 0x40038, [(8, 4096), (9, 256)], .warm, 0x0, [(31, 16, .ro), (15, 0, .ro)]⟩,
  ⟨"AFE_CH_WEAR", 0x4003C, [(8, 4096), (9, 256)], .warm, 0x0, [(31, 31, .w1s), (30, 30, .wo), (29, 29, .w1c), (23, 12, .ro), (11, 0, .ro)]⟩,
  ⟨"AFE_CH_CHKREF_Q", 0x40040, [(8, 4096), (9, 256)], .warm, 0x0, [(31, 16, .ro), (15, 0, .ro)]⟩,
  ⟨"AFE_GRP_SWITCH", 0x40E00, [(8, 4096)], .func, 0xF0A1420, [(31, 31, .rw), (27, 24, .ro), (23, 16, .rw), (15, 8, .rw), (7, 0, .rw)]⟩,
  ⟨"AFE_GRP_INJ", 0x40E04, [(8, 4096)], .func, 0x0, [(31, 31, .ro), (30, 30, .w1s), (19, 16, .rw), (11, 0, .rw)]⟩,
  ⟨"AFE_GRP_CAL", 0x40E08, [(8, 4096)], .func, 0x483C14, [(31, 31, .rw), (30, 30, .ro), (29, 27, .ro), (23, 20, .rw), (19, 16, .rw), (15, 8, .rw), (7, 0, .rw)]⟩,
  ⟨"AFE_GRP_MATCH", 0x40E0C, [(8, 4096)], .func, 0x8011F440, [(31, 26, .rw), (25, 18, .rw), (17, 8, .rw), (7, 0, .rw)]⟩,
  ⟨"AFE_GRP_CAL_STATUS", 0x40E10, [(8, 4096)], .func, 0x0, [(31, 31, .w1c), (30, 30, .w1c), (29, 29, .w1c), (28, 28, .w1c), (23, 20, .ro), (15, 0, .rc)]⟩,
  ⟨"AFE_GRP_WEAR", 0x40E14, [(8, 4096)], .func, 0x666, [(11, 0, .rw)]⟩,
  ⟨"AFE_GRP_SERVICE", 0x40E18, [(8, 4096)], .func, 0xF8, [(31, 31, .w1s), (30, 30, .ro), (29, 27, .ro), (7, 4, .rw), (3, 0, .rw)]⟩,
  ⟨"AFE_GRP_SVC_DATA", 0x40E1C, [(8, 4096)], .func, 0x0, [(15, 0, .ro)]⟩,
  ⟨"AFE_REF_CFG", 0x48000, [], .func, 0x124F80, [(31, 31, .rw), (20, 0, .rw)]⟩,
  ⟨"AFE_REF_STATUS", 0x48004, [], .func, 0x124F80, [(31, 31, .ro), (30, 30, .w1c), (20, 0, .ro)]⟩,
  ⟨"AFE_FULL_STATUS", 0x48008, [], .func, 0xA, [(31, 31, .w1c), (30, 30, .ro), (23, 16, .ro), (15, 12, .ro), (10, 8, .ro), (7, 0, .rw)]⟩]

/-- Registers of the LTN_ block. -/
def regsLTN : List RegFam := [
  ⟨"LTN_GRID_CTRL", 0x50000, [], .func, 0xE400, [(31, 31, .rw), (30, 30, .rw), (29, 28, .rw), (27, 26, .rw), (25, 24, .rw), (23, 23, .wo), (15, 8, .rw)]⟩,
  ⟨"LTN_GRID_ORIGIN_LO", 0x50008, [], .func, 0x0, [(31, 0, .rw)]⟩,
  ⟨"LTN_GRID_ORIGIN_HI", 0x5000C, [], .func, 0x0, [(31, 0, .rw)]⟩,
  ⟨"LTN_HWM_LO", 0x50010, [], .func, 0x0, [(31, 0, .rw)]⟩,
  ⟨"LTN_HWM_HI", 0x50014, [], .func, 0x0, [(31, 0, .rw)]⟩,
  ⟨"LTN_LEAD_HWM_LO", 0x50018, [], .func, 0x0, [(31, 0, .ro)]⟩,
  ⟨"LTN_LEAD_HWM_HI", 0x5001C, [], .func, 0x0, [(31, 0, .ro)]⟩,
  ⟨"LTN_SEQ_TIMING", 0x50020, [], .func, 0x32643200, [(31, 24, .rw), (23, 16, .rw), (15, 8, .rw)]⟩,
  ⟨"LTN_SEQ_MISC", 0x50024, [], .func, 0x12C0A800, [(31, 20, .rw), (19, 12, .rw), (11, 8, .rw)]⟩,
  ⟨"LTN_CAP", 0x50028, [], .func, 0x0, [(31, 31, .ro), (23, 0, .ro)]⟩,
  ⟨"LTN_TSEQ", 0x5002C, [], .func, 0x0, [(19, 0, .ro)]⟩,
  ⟨"LTN_TLSEQ", 0x50030, [], .func, 0x0, [(19, 0, .ro)]⟩,
  ⟨"LTN_CAL_PERIOD", 0x50034, [], .func, 0x2710, [(31, 0, .rw)]⟩,
  ⟨"LTN_STATUS", 0x50038, [], .func, 0x0, [(31, 31, .w1c), (30, 28, .ro), (27, 26, .ro), (25, 25, .w1c), (24, 24, .w1c), (23, 23, .ro), (22, 22, .ro), (21, 20, .ro), (19, 18, .ro), (17, 17, .w1c), (16, 16, .ro)]⟩,
  ⟨"LTN_COUNT", 0x5003C, [], .func, 0x0, [(31, 16, .rc), (15, 0, .rc)]⟩,
  ⟨"LTN_CH_CFG", 0x50100, [(16, 8)], .func, 0x38000064, [(31, 31, .rw), (30, 30, .rw), (29, 27, .rw), (14, 0, .rw)]⟩,
  ⟨"LTN_CH_SET", 0x50104, [(16, 8)], .func, 0x0, [(31, 31, .ro), (11, 0, .rw)]⟩,
  ⟨"LTN_CH_WEAR", 0x50180, [(16, 4)], .func, 0x19A0FFF, [(31, 31, .w1c), (27, 16, .rw), (11, 0, .ro)]⟩]

/-- Registers of the GAL_ block. -/
def regsGAL : List RegFam := [
  ⟨"GAL_CTRL", 0x60000, [], .func, 0x3104000, [(27, 24, .rw), (23, 16, .rw), (15, 8, .rw), (2, 0, .rw)]⟩,
  ⟨"GAL_STATUS", 0x60004, [], .por, 0x18000000, [(31, 30, .ro), (29, 28, .ro), (27, 26, .ro), (25, 25, .w1c), (24, 24, .w1c), (23, 23, .w1c), (22, 22, .w1c), (21, 21, .w1c), (20, 20, .ro)]⟩,
  ⟨"GAL_COUNT", 0x60008, [], .func, 0x0, [(31, 16, .rc), (15, 0, .rc)]⟩,
  ⟨"GAL_RECON_WAIT", 0x6000C, [], .func, 0x64, [(15, 0, .rw)]⟩,
  ⟨"GAL_TREP", 0x60010, [], .func, 0x0, [(19, 0, .ro)]⟩,
  ⟨"GAL_STITCH_ADJ", 0x60100, [(64, 4)], .func, 0x0, [(12, 0, .rw)]⟩,
  ⟨"GAL_MOD_ALIGN", 0x60200, [(64, 4)], .func, 0x0, [(31, 31, .ro), (26, 24, .ro), (23, 0, .ro)]⟩]

/-- Registers of the SHD_ block. -/
def regsSHD : List RegFam := [
  ⟨"SHD_CTRL", 0x61000, [], .func, 0x762080, [(31, 31, .ro), (30, 30, .w1s), (29, 29, .wo), (28, 28, .rw), (27, 27, .ro), (26, 26, .ro), (25, 25, .ro), (24, 24, .ro), (23, 23, .ro), (22, 20, .rw), (19, 16, .rw), (15, 12, .rw), (7, 0, .rw)]⟩,
  ⟨"SHD_STATUS", 0x61004, [], .func, 0x0, [(31, 31, .w1c), (30, 30, .w1c), (29, 29, .w1c), (28, 28, .w1c), (27, 27, .w1c), (21, 16, .ro), (15, 14, .ro), (13, 8, .ro), (7, 6, .ro)]⟩,
  ⟨"SHD_CAL_CFG", 0x61008, [], .func, 0xA6009C40, [(31, 31, .rw), (30, 30, .rw), (29, 29, .rw), (26, 24, .rw), (15, 0, .rw)]⟩,
  ⟨"SHD_CAL_WHITE", 0x6100C, [], .func, 0xEA604E20, [(31, 16, .rw), (15, 0, .rw)]⟩,
  ⟨"SHD_CAL_SPREAD", 0x61010, [], .func, 0x8000010, [(31, 16, .rw), (15, 0, .rw)]⟩,
  ⟨"SHD_CAL_DARK", 0x61014, [], .func, 0x4020000, [(31, 20, .rw), (19, 8, .rw)]⟩,
  ⟨"SHD_CAL_GAIN", 0x61018, [], .func, 0xC000, [(15, 0, .rw)]⟩,
  ⟨"SHD_DRIFT", 0x6101C, [], .func, 0x100, [(15, 0, .rw)]⟩,
  ⟨"SHD_CAL_STATUS", 0x61020, [], .func, 0x0, [(31, 31, .w1c), (23, 16, .ro), (15, 10, .ro), (9, 8, .ro)]⟩,
  ⟨"SHD_CAL_DEFECTS", 0x61024, [], .func, 0x0, [(19, 0, .ro)]⟩,
  ⟨"SHD_COUNT", 0x61028, [], .func, 0x0, [(31, 16, .rc), (15, 0, .rc)]⟩,
  ⟨"SHD_LOAD_STATUS", 0x6102C, [], .func, 0x0, [(31, 8, .ro), (7, 0, .ro)]⟩,
  ⟨"SHD_CAL_TILE_IN", 0x61030, [], .func, 0x0, [(31, 0, .rw)]⟩,
  ⟨"SHD_CAL_TILE_OUT", 0x61034, [], .func, 0x0, [(31, 0, .rw)]⟩,
  ⟨"SHD_MOD_GAIN", 0x61400, [(64, 16), (4, 4)], .func, 0x4000, [(15, 0, .rw)]⟩,
  ⟨"SHD_TRACK_SRC", 0x61800, [(64, 4)], .func, 0x0, [(31, 30, .rw), (5, 0, .rw)]⟩]

/-- Registers of the SUR_ block. -/
def regsSUR : List RegFam := [
  ⟨"SUR_CTRL", 0x70000, [], .func, 0x2A082080, [(31, 31, .rw), (30, 29, .rw), (28, 27, .rw), (26, 24, .rw), (21, 16, .rw), (15, 8, .rw), (7, 0, .rw)]⟩,
  ⟨"SUR_LIMITS", 0x70004, [], .func, 0x204000, [(31, 16, .rw), (15, 0, .rw)]⟩,
  ⟨"SUR_QUOTA", 0x70008, [], .func, 0x100, [(11, 0, .rw)]⟩,
  ⟨"SUR_STATUS", 0x7000C, [], .func, 0x0, [(31, 31, .ro), (30, 30, .w1c), (29, 29, .w1c), (28, 28, .w1c), (27, 16, .ro), (15, 0, .ro)]⟩,
  ⟨"SUR_COUNT", 0x70010, [], .func, 0x0, [(31, 16, .rc), (15, 0, .rc)]⟩,
  ⟨"SUR_D_ADJ", 0x70020, [(4, 4)], .func, 0x0, [(31, 0, .rw)]⟩,
  ⟨"SUR_WIN_POS", 0x70100, [(16, 16)], .func, 0x0, [(31, 0, .rw)]⟩,
  ⟨"SUR_WIN_CFG", 0x70104, [(16, 16)], .func, 0x80, [(31, 31, .rw), (29, 24, .rw), (21, 16, .rw), (8, 0, .rw)]⟩,
  ⟨"SUR_WIN_RES", 0x70108, [(16, 16)], .func, 0x10000000, [(31, 28, .ro), (27, 20, .ro), (19, 0, .ro)]⟩,
  ⟨"SUR_WIN_D", 0x7010C, [(16, 16)], .func, 0x0, [(31, 0, .ro)]⟩]

/-- Registers of the STR_ block. -/
def regsSTR : List RegFam := [
  ⟨"STR_CTRL", 0x71000, [], .func, 0x2A400200, [(31, 31, .rw), (30, 29, .rw), (28, 27, .rw), (26, 24, .rw), (23, 19, .rw), (15, 8, .rw)]⟩,
  ⟨"STR_LIMITS", 0x71004, [], .func, 0xEA600800, [(31, 16, .rw), (15, 0, .rw)]⟩,
  ⟨"STR_LIMITS2", 0x71008, [], .func, 0x4000100, [(31, 24, .rw), (15, 0, .rw)]⟩,
  ⟨"STR_DIST_ADJ", 0x7100C, [], .func, 0x0, [(31, 0, .rw)]⟩,
  ⟨"STR_STATUS", 0x71010, [], .func, 0x0, [(31, 31, .w1c), (30, 30, .w1c), (24, 16, .ro), (15, 0, .ro)]⟩,
  ⟨"STR_COUNT", 0x71014, [], .func, 0x0, [(31, 16, .rc), (15, 0, .rc)]⟩,
  ⟨"STR_WIN_CFG", 0x71100, [(64, 8)], .func, 0x0, [(31, 31, .rw), (30, 27, .rw), (26, 24, .rw), (17, 0, .rw)]⟩,
  ⟨"STR_WIN_WIDTH", 0x71104, [(64, 8)], .func, 0x100, [(15, 0, .rw)]⟩,
  ⟨"STR_SENS", 0x71800, [(8, 128), (8, 16), (4, 4)], .func, 0x0, [(31, 0, .rw)]⟩]

/-- Registers of the FLW_ block. -/
def regsFLW : List RegFam := [
  ⟨"FLW_CTRL", 0x72000, [], .func, 0x30008000, [(31, 31, .rw), (30, 30, .rw), (29, 29, .rw), (28, 28, .rw), (15, 8, .rw)]⟩,
  ⟨"FLW_GAIN", 0x72004, [], .func, 0x20001000, [(31, 16, .rw), (15, 0, .rw)]⟩,
  ⟨"FLW_LEAK", 0x72008, [], .func, 0x0, [(15, 0, .rw)]⟩,
  ⟨"FLW_CPR", 0x7200C, [], .func, 0x10000, [(31, 0, .rw)]⟩,
  ⟨"FLW_ERR_MAX", 0x72018, [], .func, 0x10001000, [(31, 16, .rw), (15, 0, .rw)]⟩,
  ⟨"FLW_ANGLE_ZERO_LO", 0x72010, [], .func, 0x0, [(31, 0, .rw)]⟩,
  ⟨"FLW_ANGLE_ZERO_HI", 0x72014, [], .func, 0x0, [(31, 0, .rw)]⟩,
  ⟨"FLW_STATUS", 0x7201C, [], .func, 0x0, [(31, 31, .ro), (30, 30, .w1c), (29, 29, .w1c), (28, 28, .w1c), (27, 27, .w1c), (4, 0, .ro)]⟩,
  ⟨"FLW_COUNT", 0x72020, [], .func, 0x0, [(31, 16, .rc), (15, 0, .rc)]⟩,
  ⟨"FLW_LAST", 0x72024, [], .func, 0x0, [(31, 0, .ro)]⟩]

/-- Registers of the CTX_ block. -/
def regsCTX : List RegFam := [
  ⟨"CTX_SUPPLY_CFG", 0x80000, [(64, 8)], .func, 0x10, [(31, 31, .rw), (12, 0, .rw)]⟩,
  ⟨"CTX_SUPPLY_STATUS", 0x80004, [(64, 8)], .func, 0x0, [(31, 31, .w1c), (12, 0, .ro)]⟩]

/-- Registers of the HST_ block. -/
def regsHST : List RegFam := [
  ⟨"HST_CFG", 0x90000, [], .func, 0x3E80000, [(28, 16, .rw), (14, 8, .rw)]⟩,
  ⟨"HST_ABORT_CTRL", 0x90004, [], .func, 0x0, [(31, 28, .wo), (27, 22, .wo), (15, 0, .wo)]⟩,
  ⟨"HST_ABORT_STATUS", 0x90008, [], .func, 0x0, [(31, 31, .ro), (30, 30, .w1c), (27, 24, .ro)]⟩,
  ⟨"HST_SQ_ERR_LO", 0x90010, [], .func, 0x0, [(31, 0, .ro)]⟩,
  ⟨"HST_SQ_ERR_HI", 0x90014, [], .func, 0x0, [(31, 0, .ro)]⟩,
  ⟨"HST_SQ_BASE_LO", 0x91000, [(64, 32)], .func, 0x0, [(31, 0, .rw)]⟩,
  ⟨"HST_SQ_BASE_HI", 0x91004, [(64, 32)], .func, 0x0, [(31, 0, .rw)]⟩,
  ⟨"HST_SQ_CFG", 0x91008, [(64, 32)], .func, 0x4, [(31, 31, .rw), (30, 29, .rw), (21, 16, .rw), (4, 0, .rw)]⟩,
  ⟨"HST_SQ_STATUS", 0x9100C, [(64, 32)], .func, 0x0, [(31, 30, .ro), (29, 26, .ro), (15, 0, .ro)]⟩,
  ⟨"HST_SQ_ERR_ADDR_LO", 0x91010, [(64, 32)], .func, 0x0, [(31, 0, .ro)]⟩,
  ⟨"HST_SQ_ERR_ADDR_HI", 0x91014, [(64, 32)], .func, 0x0, [(31, 0, .ro)]⟩,
  ⟨"HST_CQ_BASE_LO", 0x92000, [(64, 32)], .func, 0x0, [(31, 0, .rw)]⟩,
  ⟨"HST_CQ_BASE_HI", 0x92004, [(64, 32)], .func, 0x0, [(31, 0, .rw)]⟩,
  ⟨"HST_CQ_CFG", 0x92008, [(64, 32)], .func, 0x1004, [(31, 31, .rw), (30, 24, .rw), (19, 12, .rw), (4, 0, .rw)]⟩,
  ⟨"HST_CQ_MOD", 0x9200C, [(64, 32)], .func, 0x0, [(15, 0, .rw)]⟩,
  ⟨"HST_CQ_STATUS", 0x92010, [(64, 32)], .func, 0x0, [(31, 30, .ro), (29, 29, .w1c), (28, 28, .ro), (15, 0, .ro)]⟩]

/-- Registers of the SMP_ block. -/
def regsSMP : List RegFam := [
  ⟨"SMP_GOV_CTRL", 0xA0000, [], .func, 0x80000F00, [(31, 31, .rw), (12, 0, .rw)]⟩,
  ⟨"SMP_GOV_LEVELS", 0xA0004, [], .func, 0xC000800, [(28, 16, .rw), (12, 0, .rw)]⟩,
  ⟨"SMP_GOV_STATUS", 0xA0008, [], .func, 0x1000, [(31, 31, .ro), (30, 30, .w1c), (29, 29, .ro), (28, 28, .ro), (12, 0, .ro)]⟩,
  ⟨"SMP_GOV_SRC", 0xA000C, [], .func, 0x0, [(31, 31, .ro), (28, 16, .ro), (11, 0, .ro)]⟩,
  ⟨"SMP_POOL_STATUS", 0xA0010, [], .func, 0x0, [(31, 31, .ro), (30, 30, .w1c), (29, 29, .w1c), (28, 16, .ro), (12, 0, .rc)]⟩,
  ⟨"SMP_COUNT", 0xA0014, [], .func, 0x0, [(31, 16, .rc), (15, 8, .rc), (7, 0, .rc)]⟩,
  ⟨"SMP_QUOTA_SET", 0xA0018, [], .func, 0x0, [(28, 16, .wo), (11, 0, .wo)]⟩,
  ⟨"SMP_QUOTA_RESULT", 0xA001C, [], .func, 0x0, [(31, 31, .w1c), (27, 24, .ro), (11, 0, .ro)]⟩,
  ⟨"SMP_HAUL_QUOTA", 0xA0024, [], .func, 0x40, [(12, 0, .rw)]⟩,
  ⟨"SMP_ECC_CFG", 0xA0028, [], .func, 0x40, [(15, 0, .rw)]⟩,
  ⟨"SMP_QUOTA_EVENT", 0xA0020, [], .func, 0x0, [(31, 31, .w1c), (30, 28, .ro), (11, 0, .ro)]⟩,
  ⟨"SMP_GRP_RESERVE", 0xA0040, [(8, 4)], .func, 0x80, [(28, 16, .ro), (12, 0, .rw)]⟩,
  ⟨"SMP_BANK", 0xA0080, [(16, 4)], .por, 0x0, [(31, 16, .ro), (4, 0, .ro)]⟩]

/-- Registers of the HAU_ block. -/
def regsHAU : List RegFam := [
  ⟨"HAU_CH_CFG", 0xA1000, [(8, 256)], .func, 0x14000000, [(31, 29, .rw), (28, 24, .rw), (23, 23, .rw), (19, 16, .rw), (15, 15, .rw)]⟩,
  ⟨"HAU_CH_START_LO", 0xA1004, [(8, 256)], .func, 0x0, [(31, 0, .wo)]⟩,
  ⟨"HAU_CH_START_HI", 0xA1008, [(8, 256)], .func, 0x0, [(31, 0, .wo)]⟩,
  ⟨"HAU_CH_ADDR_LO", 0xA1010, [(8, 256)], .func, 0x0, [(31, 0, .ro)]⟩,
  ⟨"HAU_CH_ADDR_HI", 0xA1014, [(8, 256)], .func, 0x0, [(31, 0, .ro)]⟩,
  ⟨"HAU_CH_RESIDUE", 0xA1018, [(8, 256)], .func, 0x0, [(31, 0, .ro)]⟩,
  ⟨"HAU_CH_CMP_CNT", 0xA101C, [(8, 256)], .func, 0x0, [(31, 0, .ro)]⟩,
  ⟨"HAU_CH_CMP_ADDR_LO", 0xA1020, [(8, 256)], .func, 0x0, [(31, 0, .ro)]⟩,
  ⟨"HAU_CH_CMP_ADDR_HI", 0xA1024, [(8, 256)], .func, 0x0, [(31, 0, .ro)]⟩,
  ⟨"HAU_CH_WB_LO", 0xA1028, [(8, 256)], .func, 0x0, [(31, 0, .rw)]⟩,
  ⟨"HAU_CH_WB_HI", 0xA102C, [(8, 256)], .func, 0x0, [(31, 0, .rw)]⟩,
  ⟨"HAU_CH_EXEC", 0xA1030, [(8, 256)], .func, 0x0, [(31, 0, .ro)]⟩,
  ⟨"HAU_CH_STATUS", 0xA100C, [(8, 256)], .func, 0x0, [(31, 29, .ro), (28, 26, .ro), (25, 25, .ro), (24, 24, .w1s), (23, 16, .ro), (15, 12, .ro), (11, 11, .ro), (10, 10, .ro), (2, 0, .ro)]⟩]

/-- Registers of the AXS_ block. -/
def regsAXS : List RegFam := [
  ⟨"AXS_SERVO_PERIOD", 0xB0000, [], .func, 0x9C4, [(13, 0, .rw)]⟩,
  ⟨"AXS_TICK_NUM", 0xB0004, [], .func, 0x1, [(31, 0, .rw)]⟩,
  ⟨"AXS_TICK_DEN", 0xB0008, [], .func, 0x1, [(31, 0, .rw)]⟩,
  ⟨"AXS_ESTOP", 0xB000C, [], .func, 0x0, [(5, 0, .w1s)]⟩,
  ⟨"AXS_STATUS", 0xB1000, [(6, 1024)], .func, 0x0, [(31, 29, .ro), (28, 28, .ro), (27, 27, .ro), (26, 26, .ro), (25, 25, .ro), (24, 24, .ro), (23, 23, .w1c), (22, 22, .wo), (21, 19, .ro), (18, 17, .ro), (2, 0, .ro)]⟩,
  ⟨"AXS_SETPOINT_FRAC", 0xB1010, [(6, 1024)], .func, 0x0, [(31, 0, .ro)]⟩,
  ⟨"AXS_SETPOINT_LO", 0xB1014, [(6, 1024)], .func, 0x0, [(31, 0, .ro)]⟩,
  ⟨"AXS_SETPOINT_HI", 0xB1018, [(6, 1024)], .func, 0x0, [(31, 0, .ro)]⟩,
  ⟨"AXS_VEL_LO", 0xB101C, [(6, 1024)], .func, 0x0, [(31, 0, .ro)]⟩,
  ⟨"AXS_VEL_HI", 0xB1020, [(6, 1024)], .func, 0x0, [(31, 0, .ro)]⟩,
  ⟨"AXS_REMAIN_LO", 0xB1024, [(6, 1024)], .func, 0x0, [(31, 0, .ro)]⟩,
  ⟨"AXS_REMAIN_HI", 0xB1028, [(6, 1024)], .func, 0x0, [(31, 0, .ro)]⟩,
  ⟨"AXS_POS_SET_LO", 0xB1030, [(6, 1024)], .func, 0x0, [(31, 0, .rw)]⟩,
  ⟨"AXS_POS_SET_HI", 0xB1034, [(6, 1024)], .func, 0x0, [(31, 0, .rw)]⟩,
  ⟨"AXS_LIM_VEL", 0xB1040, [(6, 1024), (4, 16)], .func, 0x10000, [(31, 0, .rw)]⟩,
  ⟨"AXS_LIM_ACC", 0xB1044, [(6, 1024), (4, 16)], .func, 0x100000, [(31, 0, .rw)]⟩,
  ⟨"AXS_LIM_DEC", 0xB1048, [(6, 1024), (4, 16)], .func, 0x100000, [(31, 0, .rw)]⟩,
  ⟨"AXS_LIM_JERK", 0xB104C, [(6, 1024), (4, 16)], .func, 0x10000, [(31, 0, .rw)]⟩,
  ⟨"AXS_EDEC", 0xB1080, [(6, 1024)], .func, 0x400000, [(31, 0, .rw)]⟩,
  ⟨"AXS_EJERK", 0xB1084, [(6, 1024)], .func, 0x1000000, [(31, 0, .rw)]⟩,
  ⟨"AXS_FINAL_WIN", 0xB1088, [(6, 1024)], .func, 0x4, [(15, 0, .rw)]⟩,
  ⟨"AXS_STALL_CFG", 0xB1100, [(6, 1024)], .func, 0x4000100, [(31, 30, .rw), (29, 24, .rw), (23, 0, .rw)]⟩,
  ⟨"AXS_BOOST_CFG", 0xB1104, [(6, 1024)], .func, 0xA010100, [(29, 20, .rw), (19, 10, .rw), (9, 0, .rw)]⟩,
  ⟨"AXS_BOOST_RATE", 0xB1108, [(6, 1024)], .func, 0x201, [(25, 16, .ro), (15, 8, .rw), (7, 0, .rw)]⟩,
  ⟨"AXS_SW_CFG", 0xB110C, [(6, 1024)], .func, 0x64, [(31, 31, .rw), (30, 30, .rw), (29, 29, .rw), (28, 28, .rw), (27, 26, .rw), (25, 25, .rw), (7, 0, .rw)]⟩,
  ⟨"AXS_SW_STATUS", 0xB1110, [(6, 1024)], .func, 0x0, [(31, 31, .ro), (30, 30, .ro), (29, 29, .w1c), (28, 28, .w1c), (27, 27, .w1c), (9, 0, .ro)]⟩,
  ⟨"AXS_REF_CTRL", 0xB1124, [(6, 1024)], .func, 0x0, [(31, 31, .w1s), (30, 29, .rw), (28, 28, .rw), (27, 26, .rw), (9, 0, .rw)]⟩,
  ⟨"AXS_REF_STATUS", 0xB1128, [(6, 1024)], .func, 0x0, [(31, 31, .ro), (30, 30, .w1c), (29, 29, .ro), (3, 0, .ro)]⟩,
  ⟨"AXS_REF_MAX", 0xB1134, [(6, 1024)], .func, 0x7FFFFFFF, [(31, 0, .rw)]⟩,
  ⟨"AXS_REF_BACKOFF", 0xB1138, [(6, 1024)], .func, 0x0, [(31, 0, .rw)]⟩,
  ⟨"AXS_LATCH_LO", 0xB1114, [(6, 1024)], .func, 0x0, [(31, 0, .ro)]⟩,
  ⟨"AXS_LATCH_HI", 0xB1118, [(6, 1024)], .func, 0x0, [(31, 0, .ro)]⟩,
  ⟨"AXS_LATCH_TIME_LO", 0xB111C, [(6, 1024)], .func, 0x0, [(31, 0, .ro)]⟩,
  ⟨"AXS_LATCH_TIME_HI", 0xB1120, [(6, 1024)], .func, 0x0, [(31, 0, .ro)]⟩,
  ⟨"AXS_REF_POS_LO", 0xB112C, [(6, 1024)], .func, 0x0, [(31, 0, .rw)]⟩,
  ⟨"AXS_REF_POS_HI", 0xB1130, [(6, 1024)], .func, 0x0, [(31, 0, .rw)]⟩]

/-- Registers of the CHP_ block. -/
def regsCHP : List RegFam := [
  ⟨"CHP_CFG", 0xB4000, [(6, 256)], .func, 0x18452850, [(31, 30, .rw), (29, 28, .rw), (27, 25, .rw), (24, 20, .rw), (19, 16, .rw), (15, 10, .rw), (8, 0, .rw)]⟩,
  ⟨"CHP_CURRENT", 0xB4004, [(6, 256)], .func, 0x0, [(29, 20, .rw), (19, 10, .rw), (9, 0, .rw)]⟩,
  ⟨"CHP_LOOP", 0xB4008, [(6, 256)], .func, 0x28FFF, [(31, 24, .rw), (23, 12, .rw), (11, 0, .rw)]⟩,
  ⟨"CHP_STEPDIR", 0xB400C, [(6, 256)], .func, 0xA0A, [(31, 28, .rw), (15, 8, .rw), (7, 0, .rw)]⟩,
  ⟨"CHP_EANG_NUM", 0xB4010, [(6, 256)], .func, 0x1, [(31, 0, .rw)]⟩,
  ⟨"CHP_EANG_DEN", 0xB4014, [(6, 256)], .func, 0x1, [(31, 0, .rw)]⟩,
  ⟨"CHP_EPHASE", 0xB4018, [(6, 256)], .func, 0x0, [(9, 0, .rw)]⟩,
  ⟨"CHP_STATUS", 0xB4030, [(6, 256)], .func, 0x0, [(31, 31, .ro), (30, 30, .w1s), (29, 29, .w1c), (28, 28, .w1c), (27, 25, .ro), (24, 22, .ro), (21, 10, .ro), (9, 0, .ro)]⟩,
  ⟨"CHP_IMON_B", 0xB4034, [(6, 256)], .func, 0x0, [(11, 0, .ro)]⟩,
  ⟨"CHP_TIER_V1", 0xB4020, [(6, 256)], .func, 0x400, [(31, 0, .rw)]⟩,
  ⟨"CHP_TIER_V2", 0xB4024, [(6, 256)], .func, 0x1000, [(31, 0, .rw)]⟩,
  ⟨"CHP_TIER_V3", 0xB4028, [(6, 256)], .func, 0x4000, [(31, 0, .rw)]⟩,
  ⟨"CHP_TIER_V4", 0xB402C, [(6, 256)], .func, 0x10000, [(31, 0, .rw)]⟩,
  ⟨"CHP_EOFS_LO", 0xB4038, [(6, 256)], .func, 0x0, [(31, 0, .ro)]⟩,
  ⟨"CHP_EOFS_HI", 0xB403C, [(6, 256)], .func, 0x0, [(31, 0, .ro)]⟩]

/-- Registers of the ENC_ block. -/
def regsENC : List RegFam := [
  ⟨"ENC_CFG", 0xB5000, [(6, 256)], .func, 0x13180190, [(31, 30, .rw), (29, 29, .rw), (28, 28, .rw), (26, 24, .rw), (23, 23, .rw), (21, 16, .rw), (11, 0, .rw)]⟩,
  ⟨"ENC_STATUS", 0xB5004, [(6, 256)], .func, 0x0, [(31, 31, .ro), (30, 30, .w1s), (27, 24, .ro)]⟩,
  ⟨"ENC_POS_LO", 0xB5008, [(6, 256)], .func, 0x0, [(31, 0, .ro)]⟩,
  ⟨"ENC_POS_HI", 0xB500C, [(6, 256)], .func, 0x0, [(31, 0, .ro)]⟩]

/-- Registers of the HKC_ block. -/
def regsHKC : List RegFam := [
  ⟨"HKC_SEQ_CTRL", 0xC0000, [(2, 4096)], .func, 0x1E0A00, [(31, 31, .rw), (30, 30, .w1s), (28, 24, .rw), (23, 16, .rw), (15, 8, .rw), (7, 0, .rw)]⟩,
  ⟨"HKC_SEQ_CFG2", 0xC0004, [(2, 4096)], .func, 0x140013, [(25, 16, .rw), (7, 0, .rw)]⟩,
  ⟨"HKC_SEQ_STATUS", 0xC0008, [(2, 4096)], .func, 0x0, [(31, 31, .ro), (29, 29, .w1c), (28, 28, .w1c), (27, 27, .w1c), (26, 24, .ro), (20, 16, .ro), (15, 0, .ro)]⟩,
  ⟨"HKC_PASS_LEN", 0xC0018, [(2, 4096)], .func, 0x0, [(19, 0, .ro)]⟩,
  ⟨"HKC_FIFO_STATUS", 0xC001C, [(2, 4096)], .func, 0x0, [(31, 16, .rc), (5, 0, .ro)]⟩,
  ⟨"HKC_PASS_TIME_LO", 0xC0010, [(2, 4096)], .func, 0x0, [(31, 0, .ro)]⟩,
  ⟨"HKC_PASS_TIME_HI", 0xC0014, [(2, 4096)], .func, 0x0, [(31, 0, .ro)]⟩,
  ⟨"HKC_EXC_PAT", 0xC0020, [(2, 4096), (4, 4)], .func, 0x0, [(27, 24, .rw), (23, 23, .rw), (22, 21, .rw), (20, 18, .rw), (17, 17, .rw), (16, 15, .rw), (14, 12, .rw), (11, 11, .rw), (10, 9, .rw), (8, 6, .rw), (5, 5, .rw), (4, 3, .rw), (2, 0, .rw)]⟩,
  ⟨"HKC_CAL", 0xC0040, [(2, 4096), (6, 4)], .warm, 0x4000, [(31, 16, .ro), (15, 0, .ro)]⟩,
  ⟨"HKC_ENT_CFG", 0xC0100, [(2, 4096), (32, 8)], .func, 0x0, [(31, 26, .rw), (25, 23, .rw), (22, 20, .rw), (19, 18, .rw), (17, 17, .rw), (16, 13, .rw), (12, 8, .rw), (7, 0, .rw)]⟩,
  ⟨"HKC_ENT_FILT", 0xC0104, [(2, 4096), (32, 8)], .func, 0x0, [(31, 30, .rw), (29, 8, .rw), (7, 0, .rw)]⟩,
  ⟨"HKC_RES_W0", 0xC0200, [(2, 4096), (32, 8)], .func, 0x0, [(31, 31, .ro), (30, 30, .ro), (29, 27, .ro), (26, 22, .ro), (21, 21, .ro), (19, 0, .ro)]⟩,
  ⟨"HKC_RES_W1", 0xC0204, [(2, 4096), (32, 8)], .func, 0x0, [(31, 16, .ro)]⟩,
  ⟨"HKC_EXC_OWNER", 0xC2000, [], .func, 0x0, [(3, 0, .rw)]⟩,
  ⟨"HKC_CAL_STATUS", 0xC2004, [], .warm, 0x0, [(31, 31, .w1c), (30, 30, .ro), (23, 16, .ro)]⟩]

/-- Registers of the TIM_ block. -/
def regsTIM : List RegFam := [
  ⟨"TIM_BASE_CTRL", 0xD0000, [(4, 64)], .warm, 0x404000D7, [(31, 31, .w1s), (30, 30, .ro), (29, 28, .ro), (27, 24, .rw), (23, 20, .rw), (19, 19, .w1s), (15, 0, .rw)]⟩,
  ⟨"TIM_BASE_RATE_LO", 0xD0004, [(4, 64)], .warm, 0x0, [(31, 0, .ro)]⟩,
  ⟨"TIM_BASE_TIME_LO", 0xD0008, [(4, 64)], .warm, 0x0, [(31, 0, .ro)]⟩,
  ⟨"TIM_BASE_TIME_HI", 0xD000C, [(4, 64)], .warm, 0x0, [(31, 0, .ro)]⟩,
  ⟨"TIM_BASE_OFS", 0xD0010, [(4, 64)], .warm, 0x0, [(31, 0, .ro)]⟩,
  ⟨"TIM_BASE_RATE_HI", 0xD0014, [(4, 64)], .warm, 0x0, [(31, 0, .ro)]⟩,
  ⟨"TIM_CFG", 0xD0100, [], .warm, 0x440A00, [(31, 30, .rw), (29, 28, .rw), (27, 26, .rw), (25, 24, .rw), (23, 20, .rw), (19, 18, .rw), (17, 8, .rw), (3, 0, .rw)]⟩,
  ⟨"TIM_STAMP_STATUS", 0xD0104, [], .warm, 0x0, [(31, 0, .rc)]⟩,
  ⟨"TIM_NET_SET_LO", 0xD0108, [], .warm, 0x0, [(31, 0, .rw)]⟩,
  ⟨"TIM_NET_SET_HI", 0xD010C, [], .warm, 0x0, [(31, 0, .rw)]⟩,
  ⟨"TIM_EVT_CFG", 0xD0110, [], .warm, 0x0, [(7, 0, .rw)]⟩,
  ⟨"TIM_EVT_STATUS", 0xD0114, [], .warm, 0x0, [(21, 16, .w1c), (8, 0, .w1c)]⟩,
  ⟨"TIM_STALL_TIME_LO", 0xD0200, [(6, 8)], .warm, 0x0, [(31, 0, .ro)]⟩,
  ⟨"TIM_STALL_TIME_HI", 0xD0204, [(6, 8)], .warm, 0x0, [(31, 0, .ro)]⟩,
  ⟨"TIM_EVT_TIME_LO", 0xD0240, [(9, 8)], .warm, 0x0, [(31, 0, .ro)]⟩,
  ⟨"TIM_EVT_TIME_HI", 0xD0244, [(9, 8)], .warm, 0x0, [(31, 0, .ro)]⟩]

/-- Registers of the CRN_ block. -/
def regsCRN : List RegFam := [
  ⟨"CRN_TIME_LO", 0xD1000, [], .aon, 0x0, [(29, 0, .ro)]⟩,
  ⟨"CRN_TIME_HI", 0xD1004, [], .aon, 0x0, [(31, 0, .ro)]⟩,
  ⟨"CRN_SET_LO", 0xD1008, [], .func, 0x0, [(31, 0, .rw)]⟩,
  ⟨"CRN_SET_HI", 0xD100C, [], .func, 0x0, [(31, 0, .rw)]⟩,
  ⟨"CRN_CTRL", 0xD1010, [], .aon, 0x10000000, [(31, 31, .w1s), (30, 29, .w1s), (28, 28, .w1c), (11, 0, .rw)]⟩,
  ⟨"CRN_LAST", 0xD1014, [], .func, 0x0, [(15, 8, .ro), (7, 0, .ro)]⟩]

/-- Registers of the TET_ block. -/
def regsTET : List RegFam := [
  ⟨"TET_CFG", 0xD2000, [], .warm, 0xA100, [(31, 31, .rw), (30, 30, .rw), (29, 29, .rw), (28, 28, .rw), (27, 24, .rw), (23, 16, .rw), (15, 13, .rw), (12, 10, .rw), (9, 6, .rw)]⟩,
  ⟨"TET_EXPECT", 0xD2004, [], .warm, 0x0, [(15, 0, .rw)]⟩,
  ⟨"TET_STATUS", 0xD2008, [], .warm, 0x0, [(31, 31, .ro), (30, 30, .ro), (29, 29, .ro), (28, 28, .w1c), (27, 27, .w1c), (26, 26, .w1c), (25, 25, .w1c), (24, 24, .w1c), (23, 23, .w1c), (22, 22, .w1c), (21, 21, .w1c), (19, 16, .ro), (15, 0, .ro)]⟩,
  ⟨"TET_COUNT", 0xD200C, [], .warm, 0x0, [(31, 16, .rc), (15, 0, .rc)]⟩,
  ⟨"TET_PORT", 0xD2010, [(2, 8)], .warm, 0x0, [(31, 31, .ro), (30, 27, .ro), (19, 0, .ro)]⟩,
  ⟨"TET_ASYM", 0xD2014, [(2, 8)], .warm, 0x0, [(31, 0, .rw)]⟩]

/-- The registers that can lie at an address, by the block spans of Table 23.1. -/
def famsAt (a : Nat) : List RegFam :=
  if a < 0x10000 then regsTOP
  else if a < 0x11000 then regsPWR
  else if a < 0x12000 then regsSEC
  else if a < 0x13000 then regsTST
  else if a < 0x30000 then regsGRP
  else if a < 0x38000 then regsLNE
  else if a < 0x50000 then regsAFE
  else if a < 0x51000 then regsLTN
  else if a < 0x61000 then regsGAL
  else if a < 0x63000 then regsSHD
  else if a < 0x71000 then regsSUR
  else if a < 0x72000 then regsSTR
  else if a < 0x73000 then regsFLW
  else if a < 0x81000 then regsCTX
  else if a < 0x94000 then regsHST
  else if a < 0xA1000 then regsSMP
  else if a < 0xA2000 then regsHAU
  else if a < 0xB4000 then regsAXS
  else if a < 0xB5000 then regsCHP
  else if a < 0xB6000 then regsENC
  else if a < 0xC4000 then regsHKC
  else if a < 0xD1000 then regsTIM
  else if a < 0xD2000 then regsCRN
  else if a < 0xD3000 then regsTET
  else []

/-- The instance of a family at offset `off` from its base, if `off` is one. -/
def dimsAt : List (Nat × Nat) → Nat → Option (List Nat)
  | [], off => if off = 0 then some [] else none
  | (c, st) :: ds, off =>
    if off / st < c then (dimsAt ds (off % st)).map (off / st :: ·) else none

def RegFam.at (f : RegFam) (a : Nat) : Option (List Nat) :=
  if a < f.base then none else dimsAt f.dims (a - f.base)

/-- The register family at a BAR0 address, if the address holds a register (R13). -/
def famOf (a : Nat) : Option RegFam := (famsAt a).find? (fun f => (f.at a).isSome)

/-- The indexes of the register at an address (empty where it has none). -/
def idxOf (a : Nat) : List Nat := ((famOf a).bind (·.at a)).getD []

/-- The reset value of the register at an address; 0 where there is none (R13). -/
def regReset (a : Nat) : Word :=
  match famOf a with
  | some f => BitVec.ofNat 32 f.rst
  | none => 0

/-- The reset domain of the register at an address. -/
def regDomain (a : Nat) : Domain :=
  match famOf a with
  | some f => f.dom
  | none => .func

/-- Is there a register at this address? -/
def isReg (a : Nat) : Bool := (famOf a).isSome

end Sys2Proof.Machine
end

