-- ==== Sys2Proof/Machine/Fields.lean ====
section
/-! DEFINITION. Names of registers (their BAR0 addresses) and of fields, as the register tables of
spec/ spell them. -/

namespace Sys2Proof.Machine

/-- A field: the register's address, its highest and its lowest bit. -/
structure Fld where
  addr : Nat
  hi   : Nat
  lo   : Nat
  deriving DecidableEq, Repr

namespace R
abbrev TOP_ID : Nat := 0x0
abbrev TOP_DSN_LO : Nat := 0x8
abbrev TOP_DSN_HI : Nat := 0xC
abbrev TOP_ERR_STATUS : Nat := 0x100
abbrev TOP_ERR_ADDR : Nat := 0x104
abbrev TOP_INT_STATUS : Nat := 0x110
abbrev TOP_INT_ENABLE : Nat := 0x114
abbrev TOP_BAR_STATUS : Nat := 0x120
abbrev TOP_SRAM_STATUS : Nat := 0x130
abbrev PWR_MODE_CTRL : Nat := 0x10000
abbrev PWR_MODE_STATUS : Nat := 0x10004
abbrev PWR_RESET_CTRL : Nat := 0x10008
abbrev PWR_RESET_CAUSE : Nat := 0x1000C
abbrev PWR_WAKE_CFG : Nat := 0x10010
abbrev PWR_WAKE_TIME_LO : Nat := 0x10014
abbrev PWR_WAKE_TIME_HI : Nat := 0x10018
abbrev PWR_DOM_STATUS (n : Nat) : Nat := 0x10020 + 0x4 * n
abbrev SEC_BOOT_STATUS : Nat := 0x11000
abbrev SEC_OTP_STATUS : Nat := 0x11004
abbrev SEC_STORE_STATUS : Nat := 0x11008
abbrev SEC_DBG_CTRL : Nat := 0x11020
abbrev SEC_DBG_STATUS : Nat := 0x11024
abbrev SEC_STORE_SEQ : Nat := 0x1100C
abbrev SEC_FW_BUILD : Nat := 0x11010
abbrev SEC_LEDGER_STATUS : Nat := 0x11028
abbrev SEC_ID_PUBKEY (n : Nat) : Nat := 0x11040 + 0x4 * n
abbrev SEC_DBG_CHAL (n : Nat) : Nat := 0x11060 + 0x4 * n
abbrev SEC_DBG_RESP (n : Nat) : Nat := 0x11100 + 0x4 * n
abbrev SEC_LEDGER_LO (n : Nat) : Nat := 0x11400 + 0x8 * n
abbrev SEC_LEDGER_HI (n : Nat) : Nat := 0x11404 + 0x8 * n
abbrev TST_ATEST_SEL (n : Nat) : Nat := 0x12000 + 0x4 * n
abbrev TST_DTEST_SEL (n : Nat) : Nat := 0x12010 + 0x4 * n
abbrev TST_STATUS : Nat := 0x12030
abbrev GRP_PLL_STATUS (g : Nat) : Nat := 0x20000 + 0x1000 * g
abbrev I2C_CFG (n : Nat) : Nat := 0x28000 + 0x100 * n
abbrev I2C_CMD (n : Nat) : Nat := 0x28004 + 0x100 * n
abbrev I2C_STATUS (n : Nat) : Nat := 0x28008 + 0x100 * n
abbrev LNE_GRP_STATUS (g : Nat) : Nat := 0x30000 + 0x1000 * g
abbrev LNE_PAD (g n : Nat) : Nat := 0x30010 + 0x1000 * g + 0x10 * n
abbrev LNE_PAD_ERR (g n : Nat) : Nat := 0x30014 + 0x1000 * g + 0x10 * n
abbrev AFE_CH_CTRL (g c : Nat) : Nat := 0x40000 + 0x1000 * g + 0x100 * c
abbrev AFE_CH_RANGE (g c : Nat) : Nat := 0x40004 + 0x1000 * g + 0x100 * c
abbrev AFE_CH_RANGE_ACT (g c : Nat) : Nat := 0x40008 + 0x1000 * g + 0x100 * c
abbrev AFE_CH_TRIM (g c n : Nat) : Nat := 0x40010 + 0x1000 * g + 0x100 * c + 0x4 * n
abbrev AFE_CH_STATUS (g c : Nat) : Nat := 0x40030 + 0x1000 * g + 0x100 * c
abbrev AFE_CH_CAL (g c : Nat) : Nat := 0x40034 + 0x1000 * g + 0x100 * c
abbrev AFE_CH_CHKREF (g c : Nat) : Nat := 0x40038 + 0x1000 * g + 0x100 * c
abbrev AFE_CH_WEAR (g c : Nat) : Nat := 0x4003C + 0x1000 * g + 0x100 * c
abbrev AFE_CH_CHKREF_Q (g c : Nat) : Nat := 0x40040 + 0x1000 * g + 0x100 * c
abbrev AFE_GRP_SWITCH (g : Nat) : Nat := 0x40E00 + 0x1000 * g
abbrev AFE_GRP_INJ (g : Nat) : Nat := 0x40E04 + 0x1000 * g
abbrev AFE_GRP_CAL (g : Nat) : Nat := 0x40E08 + 0x1000 * g
abbrev AFE_GRP_MATCH (g : Nat) : Nat := 0x40E0C + 0x1000 * g
abbrev AFE_GRP_CAL_STATUS (g : Nat) : Nat := 0x40E10 + 0x1000 * g
abbrev AFE_GRP_WEAR (g : Nat) : Nat := 0x40E14 + 0x1000 * g
abbrev AFE_GRP_SERVICE (g : Nat) : Nat := 0x40E18 + 0x1000 * g
abbrev AFE_GRP_SVC_DATA (g : Nat) : Nat := 0x40E1C + 0x1000 * g
abbrev AFE_REF_CFG : Nat := 0x48000
abbrev AFE_REF_STATUS : Nat := 0x48004
abbrev AFE_FULL_STATUS : Nat := 0x48008
abbrev LTN_GRID_CTRL : Nat := 0x50000
abbrev LTN_GRID_ORIGIN_LO : Nat := 0x50008
abbrev LTN_GRID_ORIGIN_HI : Nat := 0x5000C
abbrev LTN_HWM_LO : Nat := 0x50010
abbrev LTN_HWM_HI : Nat := 0x50014
abbrev LTN_LEAD_HWM_LO : Nat := 0x50018
abbrev LTN_LEAD_HWM_HI : Nat := 0x5001C
abbrev LTN_SEQ_TIMING : Nat := 0x50020
abbrev LTN_SEQ_MISC : Nat := 0x50024
abbrev LTN_CAP : Nat := 0x50028
abbrev LTN_TSEQ : Nat := 0x5002C
abbrev LTN_TLSEQ : Nat := 0x50030
abbrev LTN_CAL_PERIOD : Nat := 0x50034
abbrev LTN_STATUS : Nat := 0x50038
abbrev LTN_COUNT : Nat := 0x5003C
abbrev LTN_CH_CFG (n : Nat) : Nat := 0x50100 + 0x8 * n
abbrev LTN_CH_SET (n : Nat) : Nat := 0x50104 + 0x8 * n
abbrev LTN_CH_WEAR (n : Nat) : Nat := 0x50180 + 0x4 * n
abbrev GAL_CTRL : Nat := 0x60000
abbrev GAL_STATUS : Nat := 0x60004
abbrev GAL_COUNT : Nat := 0x60008
abbrev GAL_RECON_WAIT : Nat := 0x6000C
abbrev GAL_TREP : Nat := 0x60010
abbrev GAL_STITCH_ADJ (m : Nat) : Nat := 0x60100 + 0x4 * m
abbrev GAL_MOD_ALIGN (m : Nat) : Nat := 0x60200 + 0x4 * m
abbrev SHD_CTRL : Nat := 0x61000
abbrev SHD_STATUS : Nat := 0x61004
abbrev SHD_CAL_CFG : Nat := 0x61008
abbrev SHD_CAL_WHITE : Nat := 0x6100C
abbrev SHD_CAL_SPREAD : Nat := 0x61010
abbrev SHD_CAL_DARK : Nat := 0x61014
abbrev SHD_CAL_GAIN : Nat := 0x61018
abbrev SHD_DRIFT : Nat := 0x6101C
abbrev SHD_CAL_STATUS : Nat := 0x61020
abbrev SHD_CAL_DEFECTS : Nat := 0x61024
abbrev SHD_COUNT : Nat := 0x61028
abbrev SHD_LOAD_STATUS : Nat := 0x6102C
abbrev SHD_CAL_TILE_IN : Nat := 0x61030
abbrev SHD_CAL_TILE_OUT : Nat := 0x61034
abbrev SHD_MOD_GAIN (m p : Nat) : Nat := 0x61400 + 0x10 * m + 0x4 * p
abbrev SHD_TRACK_SRC (m : Nat) : Nat := 0x61800 + 0x4 * m
abbrev SUR_CTRL : Nat := 0x70000
abbrev SUR_LIMITS : Nat := 0x70004
abbrev SUR_QUOTA : Nat := 0x70008
abbrev SUR_STATUS : Nat := 0x7000C
abbrev SUR_COUNT : Nat := 0x70010
abbrev SUR_D_ADJ (l : Nat) : Nat := 0x70020 + 0x4 * l
abbrev SUR_WIN_POS (w : Nat) : Nat := 0x70100 + 0x10 * w
abbrev SUR_WIN_CFG (w : Nat) : Nat := 0x70104 + 0x10 * w
abbrev SUR_WIN_RES (w : Nat) : Nat := 0x70108 + 0x10 * w
abbrev SUR_WIN_D (w : Nat) : Nat := 0x7010C + 0x10 * w
abbrev STR_CTRL : Nat := 0x71000
abbrev STR_LIMITS : Nat := 0x71004
abbrev STR_LIMITS2 : Nat := 0x71008
abbrev STR_DIST_ADJ : Nat := 0x7100C
abbrev STR_STATUS : Nat := 0x71010
abbrev STR_COUNT : Nat := 0x71014
abbrev STR_WIN_CFG (w : Nat) : Nat := 0x71100 + 0x8 * w
abbrev STR_WIN_WIDTH (w : Nat) : Nat := 0x71104 + 0x8 * w
abbrev STR_SENS (s i p : Nat) : Nat := 0x71800 + 0x80 * s + 0x10 * i + 0x4 * p
abbrev FLW_CTRL : Nat := 0x72000
abbrev FLW_GAIN : Nat := 0x72004
abbrev FLW_LEAK : Nat := 0x72008
abbrev FLW_CPR : Nat := 0x7200C
abbrev FLW_ERR_MAX : Nat := 0x72018
abbrev FLW_ANGLE_ZERO_LO : Nat := 0x72010
abbrev FLW_ANGLE_ZERO_HI : Nat := 0x72014
abbrev FLW_STATUS : Nat := 0x7201C
abbrev FLW_COUNT : Nat := 0x72020
abbrev FLW_LAST : Nat := 0x72024
abbrev CTX_SUPPLY_CFG (s : Nat) : Nat := 0x80000 + 0x8 * s
abbrev CTX_SUPPLY_STATUS (s : Nat) : Nat := 0x80004 + 0x8 * s
abbrev HST_CFG : Nat := 0x90000
abbrev HST_ABORT_CTRL : Nat := 0x90004
abbrev HST_ABORT_STATUS : Nat := 0x90008
abbrev HST_SQ_ERR_LO : Nat := 0x90010
abbrev HST_SQ_ERR_HI : Nat := 0x90014
abbrev HST_SQ_BASE_LO (n : Nat) : Nat := 0x91000 + 0x20 * n
abbrev HST_SQ_BASE_HI (n : Nat) : Nat := 0x91004 + 0x20 * n
abbrev HST_SQ_CFG (n : Nat) : Nat := 0x91008 + 0x20 * n
abbrev HST_SQ_STATUS (n : Nat) : Nat := 0x9100C + 0x20 * n
abbrev HST_SQ_ERR_ADDR_LO (n : Nat) : Nat := 0x91010 + 0x20 * n
abbrev HST_SQ_ERR_ADDR_HI (n : Nat) : Nat := 0x91014 + 0x20 * n
abbrev HST_CQ_BASE_LO (n : Nat) : Nat := 0x92000 + 0x20 * n
abbrev HST_CQ_BASE_HI (n : Nat) : Nat := 0x92004 + 0x20 * n
abbrev HST_CQ_CFG (n : Nat) : Nat := 0x92008 + 0x20 * n
abbrev HST_CQ_MOD (n : Nat) : Nat := 0x9200C + 0x20 * n
abbrev HST_CQ_STATUS (n : Nat) : Nat := 0x92010 + 0x20 * n
abbrev SMP_GOV_CTRL : Nat := 0xA0000
abbrev SMP_GOV_LEVELS : Nat := 0xA0004
abbrev SMP_GOV_STATUS : Nat := 0xA0008
abbrev SMP_GOV_SRC : Nat := 0xA000C
abbrev SMP_POOL_STATUS : Nat := 0xA0010
abbrev SMP_COUNT : Nat := 0xA0014
abbrev SMP_QUOTA_SET : Nat := 0xA0018
abbrev SMP_QUOTA_RESULT : Nat := 0xA001C
abbrev SMP_HAUL_QUOTA : Nat := 0xA0024
abbrev SMP_ECC_CFG : Nat := 0xA0028
abbrev SMP_QUOTA_EVENT : Nat := 0xA0020
abbrev SMP_GRP_RESERVE (g : Nat) : Nat := 0xA0040 + 0x4 * g
abbrev SMP_BANK (b : Nat) : Nat := 0xA0080 + 0x4 * b
abbrev HAU_CH_CFG (ch : Nat) : Nat := 0xA1000 + 0x100 * ch
abbrev HAU_CH_START_LO (ch : Nat) : Nat := 0xA1004 + 0x100 * ch
abbrev HAU_CH_START_HI (ch : Nat) : Nat := 0xA1008 + 0x100 * ch
abbrev HAU_CH_ADDR_LO (ch : Nat) : Nat := 0xA1010 + 0x100 * ch
abbrev HAU_CH_ADDR_HI (ch : Nat) : Nat := 0xA1014 + 0x100 * ch
abbrev HAU_CH_RESIDUE (ch : Nat) : Nat := 0xA1018 + 0x100 * ch
abbrev HAU_CH_CMP_CNT (ch : Nat) : Nat := 0xA101C + 0x100 * ch
abbrev HAU_CH_CMP_ADDR_LO (ch : Nat) : Nat := 0xA1020 + 0x100 * ch
abbrev HAU_CH_CMP_ADDR_HI (ch : Nat) : Nat := 0xA1024 + 0x100 * ch
abbrev HAU_CH_WB_LO (ch : Nat) : Nat := 0xA1028 + 0x100 * ch
abbrev HAU_CH_WB_HI (ch : Nat) : Nat := 0xA102C + 0x100 * ch
abbrev HAU_CH_EXEC (ch : Nat) : Nat := 0xA1030 + 0x100 * ch
abbrev HAU_CH_STATUS (ch : Nat) : Nat := 0xA100C + 0x100 * ch
abbrev AXS_SERVO_PERIOD : Nat := 0xB0000
abbrev AXS_TICK_NUM : Nat := 0xB0004
abbrev AXS_TICK_DEN : Nat := 0xB0008
abbrev AXS_ESTOP : Nat := 0xB000C
abbrev AXS_STATUS (a : Nat) : Nat := 0xB1000 + 0x400 * a
abbrev AXS_SETPOINT_FRAC (a : Nat) : Nat := 0xB1010 + 0x400 * a
abbrev AXS_SETPOINT_LO (a : Nat) : Nat := 0xB1014 + 0x400 * a
abbrev AXS_SETPOINT_HI (a : Nat) : Nat := 0xB1018 + 0x400 * a
abbrev AXS_VEL_LO (a : Nat) : Nat := 0xB101C + 0x400 * a
abbrev AXS_VEL_HI (a : Nat) : Nat := 0xB1020 + 0x400 * a
abbrev AXS_REMAIN_LO (a : Nat) : Nat := 0xB1024 + 0x400 * a
abbrev AXS_REMAIN_HI (a : Nat) : Nat := 0xB1028 + 0x400 * a
abbrev AXS_POS_SET_LO (a : Nat) : Nat := 0xB1030 + 0x400 * a
abbrev AXS_POS_SET_HI (a : Nat) : Nat := 0xB1034 + 0x400 * a
abbrev AXS_LIM_VEL (a s : Nat) : Nat := 0xB1040 + 0x400 * a + 0x10 * s
abbrev AXS_LIM_ACC (a s : Nat) : Nat := 0xB1044 + 0x400 * a + 0x10 * s
abbrev AXS_LIM_DEC (a s : Nat) : Nat := 0xB1048 + 0x400 * a + 0x10 * s
abbrev AXS_LIM_JERK (a s : Nat) : Nat := 0xB104C + 0x400 * a + 0x10 * s
abbrev AXS_EDEC (a : Nat) : Nat := 0xB1080 + 0x400 * a
abbrev AXS_EJERK (a : Nat) : Nat := 0xB1084 + 0x400 * a
abbrev AXS_FINAL_WIN (a : Nat) : Nat := 0xB1088 + 0x400 * a
abbrev AXS_STALL_CFG (a : Nat) : Nat := 0xB1100 + 0x400 * a
abbrev AXS_BOOST_CFG (a : Nat) : Nat := 0xB1104 + 0x400 * a
abbrev AXS_BOOST_RATE (a : Nat) : Nat := 0xB1108 + 0x400 * a
abbrev AXS_SW_CFG (a : Nat) : Nat := 0xB110C + 0x400 * a
abbrev AXS_SW_STATUS (a : Nat) : Nat := 0xB1110 + 0x400 * a
abbrev AXS_REF_CTRL (a : Nat) : Nat := 0xB1124 + 0x400 * a
abbrev AXS_REF_STATUS (a : Nat) : Nat := 0xB1128 + 0x400 * a
abbrev AXS_REF_MAX (a : Nat) : Nat := 0xB1134 + 0x400 * a
abbrev AXS_REF_BACKOFF (a : Nat) : Nat := 0xB1138 + 0x400 * a
abbrev AXS_LATCH_LO (a : Nat) : Nat := 0xB1114 + 0x400 * a
abbrev AXS_LATCH_HI (a : Nat) : Nat := 0xB1118 + 0x400 * a
abbrev AXS_LATCH_TIME_LO (a : Nat) : Nat := 0xB111C + 0x400 * a
abbrev AXS_LATCH_TIME_HI (a : Nat) : Nat := 0xB1120 + 0x400 * a
abbrev AXS_REF_POS_LO (a : Nat) : Nat := 0xB112C + 0x400 * a
abbrev AXS_REF_POS_HI (a : Nat) : Nat := 0xB1130 + 0x400 * a
abbrev CHP_CFG (a : Nat) : Nat := 0xB4000 + 0x100 * a
abbrev CHP_CURRENT (a : Nat) : Nat := 0xB4004 + 0x100 * a
abbrev CHP_LOOP (a : Nat) : Nat := 0xB4008 + 0x100 * a
abbrev CHP_STEPDIR (a : Nat) : Nat := 0xB400C + 0x100 * a
abbrev CHP_EANG_NUM (a : Nat) : Nat := 0xB4010 + 0x100 * a
abbrev CHP_EANG_DEN (a : Nat) : Nat := 0xB4014 + 0x100 * a
abbrev CHP_EPHASE (a : Nat) : Nat := 0xB4018 + 0x100 * a
abbrev CHP_STATUS (a : Nat) : Nat := 0xB4030 + 0x100 * a
abbrev CHP_IMON_B (a : Nat) : Nat := 0xB4034 + 0x100 * a
abbrev CHP_TIER_V1 (a : Nat) : Nat := 0xB4020 + 0x100 * a
abbrev CHP_TIER_V2 (a : Nat) : Nat := 0xB4024 + 0x100 * a
abbrev CHP_TIER_V3 (a : Nat) : Nat := 0xB4028 + 0x100 * a
abbrev CHP_TIER_V4 (a : Nat) : Nat := 0xB402C + 0x100 * a
abbrev CHP_EOFS_LO (a : Nat) : Nat := 0xB4038 + 0x100 * a
abbrev CHP_EOFS_HI (a : Nat) : Nat := 0xB403C + 0x100 * a
abbrev ENC_CFG (a : Nat) : Nat := 0xB5000 + 0x100 * a
abbrev ENC_STATUS (a : Nat) : Nat := 0xB5004 + 0x100 * a
abbrev ENC_POS_LO (a : Nat) : Nat := 0xB5008 + 0x100 * a
abbrev ENC_POS_HI (a : Nat) : Nat := 0xB500C + 0x100 * a
abbrev HKC_SEQ_CTRL (c : Nat) : Nat := 0xC0000 + 0x1000 * c
abbrev HKC_SEQ_CFG2 (c : Nat) : Nat := 0xC0004 + 0x1000 * c
abbrev HKC_SEQ_STATUS (c : Nat) : Nat := 0xC0008 + 0x1000 * c
abbrev HKC_PASS_LEN (c : Nat) : Nat := 0xC0018 + 0x1000 * c
abbrev HKC_FIFO_STATUS (c : Nat) : Nat := 0xC001C + 0x1000 * c
abbrev HKC_PASS_TIME_LO (c : Nat) : Nat := 0xC0010 + 0x1000 * c
abbrev HKC_PASS_TIME_HI (c : Nat) : Nat := 0xC0014 + 0x1000 * c
abbrev HKC_EXC_PAT (c n : Nat) : Nat := 0xC0020 + 0x1000 * c + 0x4 * n
abbrev HKC_CAL (c g : Nat) : Nat := 0xC0040 + 0x1000 * c + 0x4 * g
abbrev HKC_ENT_CFG (c e : Nat) : Nat := 0xC0100 + 0x1000 * c + 0x8 * e
abbrev HKC_ENT_FILT (c e : Nat) : Nat := 0xC0104 + 0x1000 * c + 0x8 * e
abbrev HKC_RES_W0 (c e : Nat) : Nat := 0xC0200 + 0x1000 * c + 0x8 * e
abbrev HKC_RES_W1 (c e : Nat) : Nat := 0xC0204 + 0x1000 * c + 0x8 * e
abbrev HKC_EXC_OWNER : Nat := 0xC2000
abbrev HKC_CAL_STATUS : Nat := 0xC2004
abbrev TIM_BASE_CTRL (b : Nat) : Nat := 0xD0000 + 0x40 * b
abbrev TIM_BASE_RATE_LO (b : Nat) : Nat := 0xD0004 + 0x40 * b
abbrev TIM_BASE_TIME_LO (b : Nat) : Nat := 0xD0008 + 0x40 * b
abbrev TIM_BASE_TIME_HI (b : Nat) : Nat := 0xD000C + 0x40 * b
abbrev TIM_BASE_OFS (b : Nat) : Nat := 0xD0010 + 0x40 * b
abbrev TIM_BASE_RATE_HI (b : Nat) : Nat := 0xD0014 + 0x40 * b
abbrev TIM_CFG : Nat := 0xD0100
abbrev TIM_STAMP_STATUS : Nat := 0xD0104
abbrev TIM_NET_SET_LO : Nat := 0xD0108
abbrev TIM_NET_SET_HI : Nat := 0xD010C
abbrev TIM_EVT_CFG : Nat := 0xD0110
abbrev TIM_EVT_STATUS : Nat := 0xD0114
abbrev TIM_STALL_TIME_LO (a : Nat) : Nat := 0xD0200 + 0x8 * a
abbrev TIM_STALL_TIME_HI (a : Nat) : Nat := 0xD0204 + 0x8 * a
abbrev TIM_EVT_TIME_LO (e : Nat) : Nat := 0xD0240 + 0x8 * e
abbrev TIM_EVT_TIME_HI (e : Nat) : Nat := 0xD0244 + 0x8 * e
abbrev CRN_TIME_LO : Nat := 0xD1000
abbrev CRN_TIME_HI : Nat := 0xD1004
abbrev CRN_SET_LO : Nat := 0xD1008
abbrev CRN_SET_HI : Nat := 0xD100C
abbrev CRN_CTRL : Nat := 0xD1010
abbrev CRN_LAST : Nat := 0xD1014
abbrev TET_CFG : Nat := 0xD2000
abbrev TET_EXPECT : Nat := 0xD2004
abbrev TET_STATUS : Nat := 0xD2008
abbrev TET_COUNT : Nat := 0xD200C
abbrev TET_PORT (p : Nat) : Nat := 0xD2010 + 0x8 * p
abbrev TET_ASYM (p : Nat) : Nat := 0xD2014 + 0x8 * p
end R

namespace F
abbrev TOP_ID.PART : Fld := ⟨R.TOP_ID, 31, 16⟩
abbrev TOP_ID.REVISION : Fld := ⟨R.TOP_ID, 15, 8⟩
abbrev TOP_DSN_LO.DSN_LO : Fld := ⟨R.TOP_DSN_LO, 31, 0⟩
abbrev TOP_DSN_HI.DSN_HI : Fld := ⟨R.TOP_DSN_HI, 31, 0⟩
abbrev TOP_ERR_STATUS.ACCESS_ERR : Fld := ⟨R.TOP_ERR_STATUS, 31, 31⟩
abbrev TOP_ERR_STATUS.ERR_OVERRUN : Fld := ⟨R.TOP_ERR_STATUS, 30, 30⟩
abbrev TOP_ERR_STATUS.SPACE : Fld := ⟨R.TOP_ERR_STATUS, 29, 29⟩
abbrev TOP_ERR_STATUS.REQUESTER : Fld := ⟨R.TOP_ERR_STATUS, 28, 28⟩
abbrev TOP_ERR_STATUS.KIND : Fld := ⟨R.TOP_ERR_STATUS, 27, 24⟩
abbrev TOP_ERR_STATUS.ERR_CNT : Fld := ⟨R.TOP_ERR_STATUS, 15, 0⟩
abbrev TOP_ERR_ADDR.OFFSET : Fld := ⟨R.TOP_ERR_ADDR, 25, 0⟩
abbrev TOP_INT_STATUS.TST : Fld := ⟨R.TOP_INT_STATUS, 17, 17⟩
abbrev TOP_INT_STATUS.PWR : Fld := ⟨R.TOP_INT_STATUS, 16, 16⟩
abbrev TOP_INT_STATUS.SEC : Fld := ⟨R.TOP_INT_STATUS, 15, 15⟩
abbrev TOP_INT_STATUS.TIME : Fld := ⟨R.TOP_INT_STATUS, 14, 14⟩
abbrev TOP_INT_STATUS.HKC : Fld := ⟨R.TOP_INT_STATUS, 13, 13⟩
abbrev TOP_INT_STATUS.AXIS : Fld := ⟨R.TOP_INT_STATUS, 12, 12⟩
abbrev TOP_INT_STATUS.HAU : Fld := ⟨R.TOP_INT_STATUS, 11, 11⟩
abbrev TOP_INT_STATUS.SMP : Fld := ⟨R.TOP_INT_STATUS, 10, 10⟩
abbrev TOP_INT_STATUS.HST : Fld := ⟨R.TOP_INT_STATUS, 9, 9⟩
abbrev TOP_INT_STATUS.FLW : Fld := ⟨R.TOP_INT_STATUS, 8, 8⟩
abbrev TOP_INT_STATUS.STR : Fld := ⟨R.TOP_INT_STATUS, 7, 7⟩
abbrev TOP_INT_STATUS.SUR : Fld := ⟨R.TOP_INT_STATUS, 6, 6⟩
abbrev TOP_INT_STATUS.SHD : Fld := ⟨R.TOP_INT_STATUS, 5, 5⟩
abbrev TOP_INT_STATUS.GAL : Fld := ⟨R.TOP_INT_STATUS, 4, 4⟩
abbrev TOP_INT_STATUS.LTN : Fld := ⟨R.TOP_INT_STATUS, 3, 3⟩
abbrev TOP_INT_STATUS.LNE : Fld := ⟨R.TOP_INT_STATUS, 2, 2⟩
abbrev TOP_INT_STATUS.AFE : Fld := ⟨R.TOP_INT_STATUS, 1, 1⟩
abbrev TOP_INT_STATUS.TOP : Fld := ⟨R.TOP_INT_STATUS, 0, 0⟩
abbrev TOP_INT_ENABLE.TST : Fld := ⟨R.TOP_INT_ENABLE, 17, 17⟩
abbrev TOP_INT_ENABLE.PWR : Fld := ⟨R.TOP_INT_ENABLE, 16, 16⟩
abbrev TOP_INT_ENABLE.SEC : Fld := ⟨R.TOP_INT_ENABLE, 15, 15⟩
abbrev TOP_INT_ENABLE.TIME : Fld := ⟨R.TOP_INT_ENABLE, 14, 14⟩
abbrev TOP_INT_ENABLE.HKC : Fld := ⟨R.TOP_INT_ENABLE, 13, 13⟩
abbrev TOP_INT_ENABLE.AXIS : Fld := ⟨R.TOP_INT_ENABLE, 12, 12⟩
abbrev TOP_INT_ENABLE.HAU : Fld := ⟨R.TOP_INT_ENABLE, 11, 11⟩
abbrev TOP_INT_ENABLE.SMP : Fld := ⟨R.TOP_INT_ENABLE, 10, 10⟩
abbrev TOP_INT_ENABLE.HST : Fld := ⟨R.TOP_INT_ENABLE, 9, 9⟩
abbrev TOP_INT_ENABLE.FLW : Fld := ⟨R.TOP_INT_ENABLE, 8, 8⟩
abbrev TOP_INT_ENABLE.STR : Fld := ⟨R.TOP_INT_ENABLE, 7, 7⟩
abbrev TOP_INT_ENABLE.SUR : Fld := ⟨R.TOP_INT_ENABLE, 6, 6⟩
abbrev TOP_INT_ENABLE.SHD : Fld := ⟨R.TOP_INT_ENABLE, 5, 5⟩
abbrev TOP_INT_ENABLE.GAL : Fld := ⟨R.TOP_INT_ENABLE, 4, 4⟩
abbrev TOP_INT_ENABLE.LTN : Fld := ⟨R.TOP_INT_ENABLE, 3, 3⟩
abbrev TOP_INT_ENABLE.LNE : Fld := ⟨R.TOP_INT_ENABLE, 2, 2⟩
abbrev TOP_INT_ENABLE.AFE : Fld := ⟨R.TOP_INT_ENABLE, 1, 1⟩
abbrev TOP_INT_ENABLE.TOP : Fld := ⟨R.TOP_INT_ENABLE, 0, 0⟩
abbrev TOP_BAR_STATUS.LOADED : Fld := ⟨R.TOP_BAR_STATUS, 31, 31⟩
abbrev TOP_BAR_STATUS.GEOMETRY_CHANGED : Fld := ⟨R.TOP_BAR_STATUS, 30, 30⟩
abbrev TOP_BAR_STATUS.FAIL_IN_HEADER : Fld := ⟨R.TOP_BAR_STATUS, 22, 22⟩
abbrev TOP_BAR_STATUS.FAIL_MODULE : Fld := ⟨R.TOP_BAR_STATUS, 21, 16⟩
abbrev TOP_BAR_STATUS.MODULES : Fld := ⟨R.TOP_BAR_STATUS, 15, 8⟩
abbrev TOP_BAR_STATUS.RESULT : Fld := ⟨R.TOP_BAR_STATUS, 7, 0⟩
abbrev TOP_SRAM_STATUS.ROW_NO_SPARE : Fld := ⟨R.TOP_SRAM_STATUS, 31, 31⟩
abbrev TOP_SRAM_STATUS.ROW_REPAIRED : Fld := ⟨R.TOP_SRAM_STATUS, 30, 30⟩
abbrev TOP_SRAM_STATUS.ROW_LIMIT : Fld := ⟨R.TOP_SRAM_STATUS, 23, 16⟩
abbrev TOP_SRAM_STATUS.LAST_MACRO : Fld := ⟨R.TOP_SRAM_STATUS, 15, 8⟩
abbrev TOP_SRAM_STATUS.ROWS_USED : Fld := ⟨R.TOP_SRAM_STATUS, 7, 0⟩
abbrev PWR_MODE_CTRL.MODE_REQ : Fld := ⟨R.PWR_MODE_CTRL, 2, 0⟩
abbrev PWR_MODE_STATUS.MODE : Fld := ⟨R.PWR_MODE_STATUS, 31, 29⟩
abbrev PWR_MODE_STATUS.PENDING : Fld := ⟨R.PWR_MODE_STATUS, 28, 28⟩
abbrev PWR_MODE_STATUS.TARGET : Fld := ⟨R.PWR_MODE_STATUS, 27, 25⟩
abbrev PWR_MODE_STATUS.CHANGED : Fld := ⟨R.PWR_MODE_STATUS, 24, 24⟩
abbrev PWR_MODE_STATUS.LAST_RESULT : Fld := ⟨R.PWR_MODE_STATUS, 19, 16⟩
abbrev PWR_RESET_CTRL.KEY : Fld := ⟨R.PWR_RESET_CTRL, 31, 24⟩
abbrev PWR_RESET_CTRL.WARM : Fld := ⟨R.PWR_RESET_CTRL, 0, 0⟩
abbrev PWR_RESET_CAUSE.AON_LOSS : Fld := ⟨R.PWR_RESET_CAUSE, 31, 31⟩
abbrev PWR_RESET_CAUSE.BROWN_OUT : Fld := ⟨R.PWR_RESET_CAUSE, 30, 30⟩
abbrev PWR_RESET_CAUSE.DORMANT_EXIT : Fld := ⟨R.PWR_RESET_CAUSE, 29, 29⟩
abbrev PWR_RESET_CAUSE.PIN : Fld := ⟨R.PWR_RESET_CAUSE, 28, 28⟩
abbrev PWR_RESET_CAUSE.WATCHDOG : Fld := ⟨R.PWR_RESET_CAUSE, 27, 27⟩
abbrev PWR_RESET_CAUSE.WARM_SW : Fld := ⟨R.PWR_RESET_CAUSE, 26, 26⟩
abbrev PWR_RESET_CAUSE.PCIE_CONV : Fld := ⟨R.PWR_RESET_CAUSE, 25, 25⟩
abbrev PWR_RESET_CAUSE.FLR : Fld := ⟨R.PWR_RESET_CAUSE, 24, 24⟩
abbrev PWR_RESET_CAUSE.BOOT_CNT : Fld := ⟨R.PWR_RESET_CAUSE, 15, 0⟩
abbrev PWR_WAKE_CFG.WAKE_TIME_EN : Fld := ⟨R.PWR_WAKE_CFG, 31, 31⟩
abbrev PWR_WAKE_CFG.TEV0_EN : Fld := ⟨R.PWR_WAKE_CFG, 30, 30⟩
abbrev PWR_WAKE_CFG.TEV0_EDGE : Fld := ⟨R.PWR_WAKE_CFG, 29, 29⟩
abbrev PWR_WAKE_CFG.PERST_EN : Fld := ⟨R.PWR_WAKE_CFG, 28, 28⟩
abbrev PWR_WAKE_CFG.WAKE_SRC : Fld := ⟨R.PWR_WAKE_CFG, 25, 24⟩
abbrev PWR_WAKE_TIME_LO.NS : Fld := ⟨R.PWR_WAKE_TIME_LO, 29, 0⟩
abbrev PWR_WAKE_TIME_HI.SECONDS : Fld := ⟨R.PWR_WAKE_TIME_HI, 31, 0⟩
abbrev PWR_DOM_STATUS.POWERED (n : Nat) : Fld := ⟨R.PWR_DOM_STATUS n, 31, 0⟩
abbrev SEC_BOOT_STATUS.FAIL : Fld := ⟨R.SEC_BOOT_STATUS, 31, 28⟩
abbrev SEC_BOOT_STATUS.FW_SLOT : Fld := ⟨R.SEC_BOOT_STATUS, 27, 27⟩
abbrev SEC_BOOT_STATUS.FW_FALLBACK : Fld := ⟨R.SEC_BOOT_STATUS, 26, 26⟩
abbrev SEC_BOOT_STATUS.IMG_A_RESULT : Fld := ⟨R.SEC_BOOT_STATUS, 23, 20⟩
abbrev SEC_BOOT_STATUS.IMG_B_RESULT : Fld := ⟨R.SEC_BOOT_STATUS, 19, 16⟩
abbrev SEC_BOOT_STATUS.SECURITY_VERSION : Fld := ⟨R.SEC_BOOT_STATUS, 14, 8⟩
abbrev SEC_BOOT_STATUS.QSPI_DIV : Fld := ⟨R.SEC_BOOT_STATUS, 7, 0⟩
abbrev SEC_OTP_STATUS.ROLLBACK_EN : Fld := ⟨R.SEC_OTP_STATUS, 31, 31⟩
abbrev SEC_OTP_STATUS.DEBUG_LOCK : Fld := ⟨R.SEC_OTP_STATUS, 30, 30⟩
abbrev SEC_OTP_STATUS.EXP_ROM_DIS : Fld := ⟨R.SEC_OTP_STATUS, 29, 29⟩
abbrev SEC_OTP_STATUS.STORE_SIGNED_ONLY : Fld := ⟨R.SEC_OTP_STATUS, 28, 28⟩
abbrev SEC_OTP_STATUS.ID_PROGRAMMED : Fld := ⟨R.SEC_OTP_STATUS, 27, 27⟩
abbrev SEC_OTP_STATUS.CERTIFIED : Fld := ⟨R.SEC_OTP_STATUS, 26, 26⟩
abbrev SEC_OTP_STATUS.SLOT_STATE : Fld := ⟨R.SEC_OTP_STATUS, 23, 16⟩
abbrev SEC_OTP_STATUS.LEDGER_USED : Fld := ⟨R.SEC_OTP_STATUS, 15, 8⟩
abbrev SEC_OTP_STATUS.ROLLBACK_CNT : Fld := ⟨R.SEC_OTP_STATUS, 6, 0⟩
abbrev SEC_STORE_STATUS.STORE_ROLLED_BACK : Fld := ⟨R.SEC_STORE_STATUS, 31, 31⟩
abbrev SEC_STORE_STATUS.VALID : Fld := ⟨R.SEC_STORE_STATUS, 30, 30⟩
abbrev SEC_STORE_STATUS.SLOT : Fld := ⟨R.SEC_STORE_STATUS, 29, 29⟩
abbrev SEC_STORE_STATUS.WRITING : Fld := ⟨R.SEC_STORE_STATUS, 28, 28⟩
abbrev SEC_DBG_CTRL.CHAL_REQ : Fld := ⟨R.SEC_DBG_CTRL, 31, 31⟩
abbrev SEC_DBG_CTRL.RESP_GO : Fld := ⟨R.SEC_DBG_CTRL, 30, 30⟩
abbrev SEC_DBG_CTRL.LOCK_NOW : Fld := ⟨R.SEC_DBG_CTRL, 29, 29⟩
abbrev SEC_DBG_STATUS.UNLOCKED : Fld := ⟨R.SEC_DBG_STATUS, 31, 31⟩
abbrev SEC_DBG_STATUS.SCOPE : Fld := ⟨R.SEC_DBG_STATUS, 30, 29⟩
abbrev SEC_DBG_STATUS.CHAL_VALID : Fld := ⟨R.SEC_DBG_STATUS, 28, 28⟩
abbrev SEC_DBG_STATUS.RESULT : Fld := ⟨R.SEC_DBG_STATUS, 19, 16⟩
abbrev SEC_DBG_STATUS.FAIL_CNT : Fld := ⟨R.SEC_DBG_STATUS, 3, 0⟩
abbrev SEC_STORE_SEQ.SEQ : Fld := ⟨R.SEC_STORE_SEQ, 31, 0⟩
abbrev SEC_FW_BUILD.BUILD : Fld := ⟨R.SEC_FW_BUILD, 31, 0⟩
abbrev SEC_LEDGER_STATUS.LEDGER_FULL : Fld := ⟨R.SEC_LEDGER_STATUS, 31, 31⟩
abbrev SEC_LEDGER_STATUS.LEDGER_LOST : Fld := ⟨R.SEC_LEDGER_STATUS, 30, 30⟩
abbrev SEC_LEDGER_STATUS.QUEUED : Fld := ⟨R.SEC_LEDGER_STATUS, 20, 16⟩
abbrev SEC_LEDGER_STATUS.SKIPPED : Fld := ⟨R.SEC_LEDGER_STATUS, 15, 8⟩
abbrev SEC_ID_PUBKEY.KEY (n : Nat) : Fld := ⟨R.SEC_ID_PUBKEY n, 31, 0⟩
abbrev SEC_DBG_CHAL.CHALLENGE (n : Nat) : Fld := ⟨R.SEC_DBG_CHAL n, 31, 0⟩
abbrev SEC_DBG_RESP.RESPONSE (n : Nat) : Fld := ⟨R.SEC_DBG_RESP n, 31, 0⟩
abbrev SEC_LEDGER_LO.BYTES0_3 (n : Nat) : Fld := ⟨R.SEC_LEDGER_LO n, 31, 0⟩
abbrev SEC_LEDGER_HI.BYTES4_7 (n : Nat) : Fld := ⟨R.SEC_LEDGER_HI n, 31, 0⟩
abbrev TST_ATEST_SEL.EN (n : Nat) : Fld := ⟨R.TST_ATEST_SEL n, 31, 31⟩
abbrev TST_ATEST_SEL.BUF (n : Nat) : Fld := ⟨R.TST_ATEST_SEL n, 30, 30⟩
abbrev TST_ATEST_SEL.SEL (n : Nat) : Fld := ⟨R.TST_ATEST_SEL n, 9, 0⟩
abbrev TST_DTEST_SEL.EN (n : Nat) : Fld := ⟨R.TST_DTEST_SEL n, 31, 31⟩
abbrev TST_DTEST_SEL.SEL (n : Nat) : Fld := ⟨R.TST_DTEST_SEL n, 9, 0⟩
abbrev TST_STATUS.SEL_REFUSED : Fld := ⟨R.TST_STATUS, 31, 31⟩
abbrev TST_STATUS.BSCAN_TOOK_PINS : Fld := ⟨R.TST_STATUS, 30, 30⟩
abbrev TST_STATUS.ACTIVE : Fld := ⟨R.TST_STATUS, 29, 29⟩
abbrev GRP_PLL_STATUS.LOCKED (g : Nat) : Fld := ⟨R.GRP_PLL_STATUS g, 31, 31⟩
abbrev GRP_PLL_STATUS.LOCK_LOST (g : Nat) : Fld := ⟨R.GRP_PLL_STATUS g, 30, 30⟩
abbrev GRP_PLL_STATUS.PLL_MUL (g : Nat) : Fld := ⟨R.GRP_PLL_STATUS g, 22, 16⟩
abbrev GRP_PLL_STATUS.PLL_DIV (g : Nat) : Fld := ⟨R.GRP_PLL_STATUS g, 10, 0⟩
abbrev I2C_CFG.EN (n : Nat) : Fld := ⟨R.I2C_CFG n, 31, 31⟩
abbrev I2C_CFG.SPEED (n : Nat) : Fld := ⟨R.I2C_CFG n, 30, 29⟩
abbrev I2C_CMD.GO (n : Nat) : Fld := ⟨R.I2C_CMD n, 31, 31⟩
abbrev I2C_CMD.ADDR (n : Nat) : Fld := ⟨R.I2C_CMD n, 30, 24⟩
abbrev I2C_CMD.WR_LEN (n : Nat) : Fld := ⟨R.I2C_CMD n, 17, 9⟩
abbrev I2C_CMD.RD_LEN (n : Nat) : Fld := ⟨R.I2C_CMD n, 8, 0⟩
abbrev I2C_STATUS.BUSY (n : Nat) : Fld := ⟨R.I2C_STATUS n, 31, 31⟩
abbrev I2C_STATUS.DONE (n : Nat) : Fld := ⟨R.I2C_STATUS n, 30, 30⟩
abbrev I2C_STATUS.RESULT (n : Nat) : Fld := ⟨R.I2C_STATUS n, 29, 27⟩
abbrev I2C_STATUS.BYTES (n : Nat) : Fld := ⟨R.I2C_STATUS n, 25, 16⟩
abbrev I2C_STATUS.TX_LEVEL (n : Nat) : Fld := ⟨R.I2C_STATUS n, 13, 8⟩
abbrev I2C_STATUS.RX_LEVEL (n : Nat) : Fld := ⟨R.I2C_STATUS n, 5, 0⟩
abbrev LNE_GRP_STATUS.GENB_CLOCK_LOST (g : Nat) : Fld := ⟨R.LNE_GRP_STATUS g, 31, 31⟩
abbrev LNE_GRP_STATUS.GENB_LOCKED (g : Nat) : Fld := ⟨R.LNE_GRP_STATUS g, 30, 30⟩
abbrev LNE_GRP_STATUS.MODULE_DESYNC (g : Nat) : Fld := ⟨R.LNE_GRP_STATUS g, 29, 29⟩
abbrev LNE_GRP_STATUS.RX_SUBSTITUTED (g : Nat) : Fld := ⟨R.LNE_GRP_STATUS g, 28, 28⟩
abbrev LNE_GRP_STATUS.RX_DOUBLE_FAIL (g : Nat) : Fld := ⟨R.LNE_GRP_STATUS g, 27, 27⟩
abbrev LNE_GRP_STATUS.SPARE_STATE (g : Nat) : Fld := ⟨R.LNE_GRP_STATUS g, 26, 25⟩
abbrev LNE_GRP_STATUS.SPARE_PAD (g : Nat) : Fld := ⟨R.LNE_GRP_STATUS g, 24, 23⟩
abbrev LNE_GRP_STATUS.RETIRED (g : Nat) : Fld := ⟨R.LNE_GRP_STATUS g, 22, 18⟩
abbrev LNE_GRP_STATUS.DESYNC_PAD (g : Nat) : Fld := ⟨R.LNE_GRP_STATUS g, 17, 16⟩
abbrev LNE_PAD.LOCKED (g n : Nat) : Fld := ⟨R.LNE_PAD g n, 31, 31⟩
abbrev LNE_PAD.PAD_MODE (g n : Nat) : Fld := ⟨R.LNE_PAD g n, 30, 29⟩
abbrev LNE_PAD.RECEIVER (g n : Nat) : Fld := ⟨R.LNE_PAD g n, 28, 26⟩
abbrev LNE_PAD.EYE_NARROW (g n : Nat) : Fld := ⟨R.LNE_PAD g n, 25, 25⟩
abbrev LNE_PAD.LINE_MISSING (g n : Nat) : Fld := ⟨R.LNE_PAD g n, 24, 24⟩
abbrev LNE_PAD.EYE_WIDTH (g n : Nat) : Fld := ⟨R.LNE_PAD g n, 13, 8⟩
abbrev LNE_PAD_ERR.ERR_CNT (g n : Nat) : Fld := ⟨R.LNE_PAD_ERR g n, 31, 0⟩
abbrev AFE_CH_CTRL.EN (g c : Nat) : Fld := ⟨R.AFE_CH_CTRL g c, 31, 31⟩
abbrev AFE_CH_CTRL.MODE (g c : Nat) : Fld := ⟨R.AFE_CH_CTRL g c, 30, 30⟩
abbrev AFE_CH_CTRL.POLARITY (g c : Nat) : Fld := ⟨R.AFE_CH_CTRL g c, 29, 29⟩
abbrev AFE_CH_CTRL.PWR_OK (g c : Nat) : Fld := ⟨R.AFE_CH_CTRL g c, 28, 28⟩
abbrev AFE_CH_CTRL.SPARE_ROLE (g c : Nat) : Fld := ⟨R.AFE_CH_CTRL g c, 27, 27⟩
abbrev AFE_CH_CTRL.RESET_WIDTH (g c : Nat) : Fld := ⟨R.AFE_CH_CTRL g c, 23, 20⟩
abbrev AFE_CH_CTRL.SOURCE (g c : Nat) : Fld := ⟨R.AFE_CH_CTRL g c, 7, 4⟩
abbrev AFE_CH_CTRL.TAP_OF (g c : Nat) : Fld := ⟨R.AFE_CH_CTRL g c, 3, 0⟩
abbrev AFE_CH_RANGE.PENDING (g c : Nat) : Fld := ⟨R.AFE_CH_RANGE g c, 31, 31⟩
abbrev AFE_CH_RANGE.RANGE_NIR (g c : Nat) : Fld := ⟨R.AFE_CH_RANGE g c, 15, 12⟩
abbrev AFE_CH_RANGE.RANGE_B (g c : Nat) : Fld := ⟨R.AFE_CH_RANGE g c, 11, 8⟩
abbrev AFE_CH_RANGE.RANGE_G (g c : Nat) : Fld := ⟨R.AFE_CH_RANGE g c, 7, 4⟩
abbrev AFE_CH_RANGE.RANGE_R (g c : Nat) : Fld := ⟨R.AFE_CH_RANGE g c, 3, 0⟩
abbrev AFE_CH_RANGE_ACT.RANGE_NIR (g c : Nat) : Fld := ⟨R.AFE_CH_RANGE_ACT g c, 15, 12⟩
abbrev AFE_CH_RANGE_ACT.RANGE_B (g c : Nat) : Fld := ⟨R.AFE_CH_RANGE_ACT g c, 11, 8⟩
abbrev AFE_CH_RANGE_ACT.RANGE_G (g c : Nat) : Fld := ⟨R.AFE_CH_RANGE_ACT g c, 7, 4⟩
abbrev AFE_CH_RANGE_ACT.RANGE_R (g c : Nat) : Fld := ⟨R.AFE_CH_RANGE_ACT g c, 3, 0⟩
abbrev AFE_CH_TRIM.GAIN_TRIM (g c n : Nat) : Fld := ⟨R.AFE_CH_TRIM g c n, 27, 16⟩
abbrev AFE_CH_TRIM.OFFSET_TRIM (g c n : Nat) : Fld := ⟨R.AFE_CH_TRIM g c n, 11, 0⟩
abbrev AFE_CH_STATUS.RETIRED (g c : Nat) : Fld := ⟨R.AFE_CH_STATUS g c, 31, 31⟩
abbrev AFE_CH_STATUS.CHANNEL_FAILED (g c : Nat) : Fld := ⟨R.AFE_CH_STATUS g c, 30, 30⟩
abbrev AFE_CH_STATUS.SPARE_FAILED (g c : Nat) : Fld := ⟨R.AFE_CH_STATUS g c, 29, 29⟩
abbrev AFE_CH_STATUS.CHK_FAIL (g c : Nat) : Fld := ⟨R.AFE_CH_STATUS g c, 28, 28⟩
abbrev AFE_CH_STATUS.CLIP (g c : Nat) : Fld := ⟨R.AFE_CH_STATUS g c, 27, 27⟩
abbrev AFE_CH_STATUS.CHK_SKIP_CNT (g c : Nat) : Fld := ⟨R.AFE_CH_STATUS g c, 15, 0⟩
abbrev AFE_CH_CAL.REF_SRC (g c : Nat) : Fld := ⟨R.AFE_CH_CAL g c, 31, 31⟩
abbrev AFE_CH_CAL.TRIM_RANGE (g c : Nat) : Fld := ⟨R.AFE_CH_CAL g c, 30, 30⟩
abbrev AFE_CH_CAL.TRIM_CLAMPED (g c : Nat) : Fld := ⟨R.AFE_CH_CAL g c, 29, 29⟩
abbrev AFE_CH_CAL.CAL_DISCARDED (g c : Nat) : Fld := ⟨R.AFE_CH_CAL g c, 28, 28⟩
abbrev AFE_CH_CAL.LAST_CODE (g c : Nat) : Fld := ⟨R.AFE_CH_CAL g c, 19, 16⟩
abbrev AFE_CH_CAL.CAL_COUNT (g c : Nat) : Fld := ⟨R.AFE_CH_CAL g c, 15, 0⟩
abbrev AFE_CH_CHKREF.CHK_HI (g c : Nat) : Fld := ⟨R.AFE_CH_CHKREF g c, 31, 16⟩
abbrev AFE_CH_CHKREF.CHK_LO (g c : Nat) : Fld := ⟨R.AFE_CH_CHKREF g c, 15, 0⟩
abbrev AFE_CH_WEAR.RETIRE_REQ (g c : Nat) : Fld := ⟨R.AFE_CH_WEAR g c, 31, 31⟩
abbrev AFE_CH_WEAR.RETIRE_CANCEL (g c : Nat) : Fld := ⟨R.AFE_CH_WEAR g c, 30, 30⟩
abbrev AFE_CH_WEAR.TRIM_WEAR (g c : Nat) : Fld := ⟨R.AFE_CH_WEAR g c, 29, 29⟩
abbrev AFE_CH_WEAR.GAIN_USE (g c : Nat) : Fld := ⟨R.AFE_CH_WEAR g c, 23, 12⟩
abbrev AFE_CH_WEAR.OFS_USE (g c : Nat) : Fld := ⟨R.AFE_CH_WEAR g c, 11, 0⟩
abbrev AFE_CH_CHKREF_Q.CHK_HI_Q (g c : Nat) : Fld := ⟨R.AFE_CH_CHKREF_Q g c, 31, 16⟩
abbrev AFE_CH_CHKREF_Q.CHK_LO_Q (g c : Nat) : Fld := ⟨R.AFE_CH_CHKREF_Q g c, 15, 0⟩
abbrev AFE_GRP_SWITCH.SPARE_EN (g : Nat) : Fld := ⟨R.AFE_GRP_SWITCH g, 31, 31⟩
abbrev AFE_GRP_SWITCH.SPARE_SOURCE (g : Nat) : Fld := ⟨R.AFE_GRP_SWITCH g, 27, 24⟩
abbrev AFE_GRP_SWITCH.DISCHARGE (g : Nat) : Fld := ⟨R.AFE_GRP_SWITCH g, 23, 16⟩
abbrev AFE_GRP_SWITCH.SETTLE (g : Nat) : Fld := ⟨R.AFE_GRP_SWITCH g, 15, 8⟩
abbrev AFE_GRP_SWITCH.CHK_TOL (g : Nat) : Fld := ⟨R.AFE_GRP_SWITCH g, 7, 0⟩
abbrev AFE_GRP_INJ.INJ_BUSY (g : Nat) : Fld := ⟨R.AFE_GRP_INJ g, 31, 31⟩
abbrev AFE_GRP_INJ.INJ_GO (g : Nat) : Fld := ⟨R.AFE_GRP_INJ g, 30, 30⟩
abbrev AFE_GRP_INJ.INJ_CH (g : Nat) : Fld := ⟨R.AFE_GRP_INJ g, 19, 16⟩
abbrev AFE_GRP_INJ.INJ_CODE (g : Nat) : Fld := ⟨R.AFE_GRP_INJ g, 11, 0⟩
abbrev AFE_GRP_CAL.CAL_EN (g : Nat) : Fld := ⟨R.AFE_GRP_CAL g, 31, 31⟩
abbrev AFE_GRP_CAL.METHOD (g : Nat) : Fld := ⟨R.AFE_GRP_CAL g, 30, 30⟩
abbrev AFE_GRP_CAL.RB_STATE (g : Nat) : Fld := ⟨R.AFE_GRP_CAL g, 29, 27⟩
abbrev AFE_GRP_CAL.SQZ_AVG_LOG (g : Nat) : Fld := ⟨R.AFE_GRP_CAL g, 23, 20⟩
abbrev AFE_GRP_CAL.RB_AVG_LOG (g : Nat) : Fld := ⟨R.AFE_GRP_CAL g, 19, 16⟩
abbrev AFE_GRP_CAL.SQZ_MIN_GAP (g : Nat) : Fld := ⟨R.AFE_GRP_CAL g, 15, 8⟩
abbrev AFE_GRP_CAL.ROT_PERIOD (g : Nat) : Fld := ⟨R.AFE_GRP_CAL g, 7, 0⟩
abbrev AFE_GRP_MATCH.SQZ_MAX_DELTA (g : Nat) : Fld := ⟨R.AFE_GRP_MATCH g, 31, 26⟩
abbrev AFE_GRP_MATCH.MATCH_OFS (g : Nat) : Fld := ⟨R.AFE_GRP_MATCH g, 25, 18⟩
abbrev AFE_GRP_MATCH.MATCH_GAIN (g : Nat) : Fld := ⟨R.AFE_GRP_MATCH g, 17, 8⟩
abbrev AFE_GRP_MATCH.RB_LINES (g : Nat) : Fld := ⟨R.AFE_GRP_MATCH g, 7, 0⟩
abbrev AFE_GRP_CAL_STATUS.RB_MISMATCH (g : Nat) : Fld := ⟨R.AFE_GRP_CAL_STATUS g, 31, 31⟩
abbrev AFE_GRP_CAL_STATUS.SQZ_OVERRUN (g : Nat) : Fld := ⟨R.AFE_GRP_CAL_STATUS g, 30, 30⟩
abbrev AFE_GRP_CAL_STATUS.ROT_DONE (g : Nat) : Fld := ⟨R.AFE_GRP_CAL_STATUS g, 29, 29⟩
abbrev AFE_GRP_CAL_STATUS.LOW_SPREAD (g : Nat) : Fld := ⟨R.AFE_GRP_CAL_STATUS g, 28, 28⟩
abbrev AFE_GRP_CAL_STATUS.MISMATCH_TAP (g : Nat) : Fld := ⟨R.AFE_GRP_CAL_STATUS g, 23, 20⟩
abbrev AFE_GRP_CAL_STATUS.SQZ_WAIT_CNT (g : Nat) : Fld := ⟨R.AFE_GRP_CAL_STATUS g, 15, 0⟩
abbrev AFE_GRP_WEAR.TRIM_WARN (g : Nat) : Fld := ⟨R.AFE_GRP_WEAR g, 11, 0⟩
abbrev AFE_GRP_SERVICE.GO (g : Nat) : Fld := ⟨R.AFE_GRP_SERVICE g, 31, 31⟩
abbrev AFE_GRP_SERVICE.BUSY (g : Nat) : Fld := ⟨R.AFE_GRP_SERVICE g, 30, 30⟩
abbrev AFE_GRP_SERVICE.RESULT (g : Nat) : Fld := ⟨R.AFE_GRP_SERVICE g, 29, 27⟩
abbrev AFE_GRP_SERVICE.SOURCE (g : Nat) : Fld := ⟨R.AFE_GRP_SERVICE g, 7, 4⟩
abbrev AFE_GRP_SERVICE.CH (g : Nat) : Fld := ⟨R.AFE_GRP_SERVICE g, 3, 0⟩
abbrev AFE_GRP_SVC_DATA.CODE (g : Nat) : Fld := ⟨R.AFE_GRP_SVC_DATA g, 15, 0⟩
abbrev AFE_REF_CFG.REF_FALLBACK_OK : Fld := ⟨R.AFE_REF_CFG, 31, 31⟩
abbrev AFE_REF_CFG.REF_UV : Fld := ⟨R.AFE_REF_CFG, 20, 0⟩
abbrev AFE_REF_STATUS.FALLBACK_ACTIVE : Fld := ⟨R.AFE_REF_STATUS, 31, 31⟩
abbrev AFE_REF_STATUS.REF_FAIL : Fld := ⟨R.AFE_REF_STATUS, 30, 30⟩
abbrev AFE_REF_STATUS.BG_UV : Fld := ⟨R.AFE_REF_STATUS, 20, 0⟩
abbrev AFE_FULL_STATUS.DONE : Fld := ⟨R.AFE_FULL_STATUS, 31, 31⟩
abbrev AFE_FULL_STATUS.FALLBACK : Fld := ⟨R.AFE_FULL_STATUS, 30, 30⟩
abbrev AFE_FULL_STATUS.RESULT : Fld := ⟨R.AFE_FULL_STATUS, 23, 16⟩
abbrev AFE_FULL_STATUS.FAIL_CHANNEL : Fld := ⟨R.AFE_FULL_STATUS, 15, 12⟩
abbrev AFE_FULL_STATUS.FAIL_GROUP : Fld := ⟨R.AFE_FULL_STATUS, 10, 8⟩
abbrev AFE_FULL_STATUS.CAL_AVG_LOG : Fld := ⟨R.AFE_FULL_STATUS, 7, 0⟩
abbrev LTN_GRID_CTRL.ARMED : Fld := ⟨R.LTN_GRID_CTRL, 31, 31⟩
abbrev LTN_GRID_CTRL.ARM_MODE : Fld := ⟨R.LTN_GRID_CTRL, 30, 30⟩
abbrev LTN_GRID_CTRL.PITCH : Fld := ⟨R.LTN_GRID_CTRL, 29, 28⟩
abbrev LTN_GRID_CTRL.LEAD_DIV : Fld := ⟨R.LTN_GRID_CTRL, 27, 26⟩
abbrev LTN_GRID_CTRL.TRIG_SRC : Fld := ⟨R.LTN_GRID_CTRL, 25, 24⟩
abbrev LTN_GRID_CTRL.SOFT_TRIG : Fld := ⟨R.LTN_GRID_CTRL, 23, 23⟩
abbrev LTN_GRID_CTRL.PLANE_ORDER : Fld := ⟨R.LTN_GRID_CTRL, 15, 8⟩
abbrev LTN_GRID_ORIGIN_LO.VALUE : Fld := ⟨R.LTN_GRID_ORIGIN_LO, 31, 0⟩
abbrev LTN_GRID_ORIGIN_HI.VALUE : Fld := ⟨R.LTN_GRID_ORIGIN_HI, 31, 0⟩
abbrev LTN_HWM_LO.VALUE : Fld := ⟨R.LTN_HWM_LO, 31, 0⟩
abbrev LTN_HWM_HI.VALUE : Fld := ⟨R.LTN_HWM_HI, 31, 0⟩
abbrev LTN_LEAD_HWM_LO.VALUE : Fld := ⟨R.LTN_LEAD_HWM_LO, 31, 0⟩
abbrev LTN_LEAD_HWM_HI.VALUE : Fld := ⟨R.LTN_LEAD_HWM_HI, 31, 0⟩
abbrev LTN_SEQ_TIMING.TRIG_DELAY : Fld := ⟨R.LTN_SEQ_TIMING, 31, 24⟩
abbrev LTN_SEQ_TIMING.LED_DELAY : Fld := ⟨R.LTN_SEQ_TIMING, 23, 16⟩
abbrev LTN_SEQ_TIMING.SP_GUARD : Fld := ⟨R.LTN_SEQ_TIMING, 15, 8⟩
abbrev LTN_SEQ_MISC.LINE_GAP : Fld := ⟨R.LTN_SEQ_MISC, 31, 20⟩
abbrev LTN_SEQ_MISC.IDLE_FLUSH : Fld := ⟨R.LTN_SEQ_MISC, 19, 12⟩
abbrev LTN_SEQ_MISC.CAP_MARGIN : Fld := ⟨R.LTN_SEQ_MISC, 11, 8⟩
abbrev LTN_CAP.LEAD_LIMITS : Fld := ⟨R.LTN_CAP, 31, 31⟩
abbrev LTN_CAP.V_CAP : Fld := ⟨R.LTN_CAP, 23, 0⟩
abbrev LTN_TSEQ.DURATION : Fld := ⟨R.LTN_TSEQ, 19, 0⟩
abbrev LTN_TLSEQ.DURATION : Fld := ⟨R.LTN_TLSEQ, 19, 0⟩
abbrev LTN_CAL_PERIOD.PERIOD : Fld := ⟨R.LTN_CAL_PERIOD, 31, 0⟩
abbrev LTN_STATUS.GRID_DISARMED : Fld := ⟨R.LTN_STATUS, 31, 31⟩
abbrev LTN_STATUS.DISARM_CAUSE : Fld := ⟨R.LTN_STATUS, 30, 28⟩
abbrev LTN_STATUS.ARM_ERR : Fld := ⟨R.LTN_STATUS, 27, 26⟩
abbrev LTN_STATUS.GRID_SKIP : Fld := ⟨R.LTN_STATUS, 25, 25⟩
abbrev LTN_STATUS.OVERRUN : Fld := ⟨R.LTN_STATUS, 24, 24⟩
abbrev LTN_STATUS.HOLD_REQ : Fld := ⟨R.LTN_STATUS, 23, 23⟩
abbrev LTN_STATUS.FLUSHING : Fld := ⟨R.LTN_STATUS, 22, 22⟩
abbrev LTN_STATUS.QUEUE : Fld := ⟨R.LTN_STATUS, 21, 20⟩
abbrev LTN_STATUS.LEAD_QUEUE : Fld := ⟨R.LTN_STATUS, 19, 18⟩
abbrev LTN_STATUS.LEAD_SKIP : Fld := ⟨R.LTN_STATUS, 17, 17⟩
abbrev LTN_STATUS.SEQ_BUSY : Fld := ⟨R.LTN_STATUS, 16, 16⟩
abbrev LTN_COUNT.OVR_CNT : Fld := ⟨R.LTN_COUNT, 31, 16⟩
abbrev LTN_COUNT.SKIP_CNT : Fld := ⟨R.LTN_COUNT, 15, 0⟩
abbrev LTN_CH_CFG.EN (n : Nat) : Fld := ⟨R.LTN_CH_CFG n, 31, 31⟩
abbrev LTN_CH_CFG.STB_POL (n : Nat) : Fld := ⟨R.LTN_CH_CFG n, 30, 30⟩
abbrev LTN_CH_CFG.ROLE (n : Nat) : Fld := ⟨R.LTN_CH_CFG n, 29, 27⟩
abbrev LTN_CH_CFG.PULSE_W (n : Nat) : Fld := ⟨R.LTN_CH_CFG n, 14, 0⟩
abbrev LTN_CH_SET.PENDING (n : Nat) : Fld := ⟨R.LTN_CH_SET n, 31, 31⟩
abbrev LTN_CH_SET.SET_CODE (n : Nat) : Fld := ⟨R.LTN_CH_SET n, 11, 0⟩
abbrev LTN_CH_WEAR.LED_WEAR (n : Nat) : Fld := ⟨R.LTN_CH_WEAR n, 31, 31⟩
abbrev LTN_CH_WEAR.LED_WARN (n : Nat) : Fld := ⟨R.LTN_CH_WEAR n, 27, 16⟩
abbrev LTN_CH_WEAR.HEADROOM (n : Nat) : Fld := ⟨R.LTN_CH_WEAR n, 11, 0⟩
abbrev GAL_CTRL.RETIRE_LIMIT : Fld := ⟨R.GAL_CTRL, 27, 24⟩
abbrev GAL_CTRL.STITCH_FADE : Fld := ⟨R.GAL_CTRL, 23, 16⟩
abbrev GAL_CTRL.VERIFY_INTERVAL : Fld := ⟨R.GAL_CTRL, 15, 8⟩
abbrev GAL_CTRL.DARK_SHIFT : Fld := ⟨R.GAL_CTRL, 2, 0⟩
abbrev GAL_STATUS.ROLE_S0 : Fld := ⟨R.GAL_STATUS, 31, 30⟩
abbrev GAL_STATUS.ROLE_S1 : Fld := ⟨R.GAL_STATUS, 29, 28⟩
abbrev GAL_STATUS.ROLE_S2 : Fld := ⟨R.GAL_STATUS, 27, 26⟩
abbrev GAL_STATUS.SLICE_RETIRED : Fld := ⟨R.GAL_STATUS, 25, 25⟩
abbrev GAL_STATUS.VERIFY_MISMATCH : Fld := ⟨R.GAL_STATUS, 24, 24⟩
abbrev GAL_STATUS.ALIGN_RANGE : Fld := ⟨R.GAL_STATUS, 23, 23⟩
abbrev GAL_STATUS.CHECK_FAIL : Fld := ⟨R.GAL_STATUS, 22, 22⟩
abbrev GAL_STATUS.LATE_SEEN : Fld := ⟨R.GAL_STATUS, 21, 21⟩
abbrev GAL_STATUS.NO_SLICE : Fld := ⟨R.GAL_STATUS, 20, 20⟩
abbrev GAL_COUNT.REPLAY_CNT : Fld := ⟨R.GAL_COUNT, 31, 16⟩
abbrev GAL_COUNT.LATE_CNT : Fld := ⟨R.GAL_COUNT, 15, 0⟩
abbrev GAL_RECON_WAIT.RECON_WAIT : Fld := ⟨R.GAL_RECON_WAIT, 15, 0⟩
abbrev GAL_TREP.TREP : Fld := ⟨R.GAL_TREP, 19, 0⟩
abbrev GAL_STITCH_ADJ.ADJ (m : Nat) : Fld := ⟨R.GAL_STITCH_ADJ m, 12, 0⟩
abbrev GAL_MOD_ALIGN.CLAMPED (m : Nat) : Fld := ⟨R.GAL_MOD_ALIGN m, 31, 31⟩
abbrev GAL_MOD_ALIGN.N_DELAY (m : Nat) : Fld := ⟨R.GAL_MOD_ALIGN m, 26, 24⟩
abbrev GAL_MOD_ALIGN.RESIDUAL (m : Nat) : Fld := ⟨R.GAL_MOD_ALIGN m, 23, 0⟩
abbrev SHD_CTRL.ACTIVE_SET : Fld := ⟨R.SHD_CTRL, 31, 31⟩
abbrev SHD_CTRL.SWAP_REQ : Fld := ⟨R.SHD_CTRL, 30, 30⟩
abbrev SHD_CTRL.SWAP_CANCEL : Fld := ⟨R.SHD_CTRL, 29, 29⟩
abbrev SHD_CTRL.TRACK_EN : Fld := ⟨R.SHD_CTRL, 28, 28⟩
abbrev SHD_CTRL.VALID_0 : Fld := ⟨R.SHD_CTRL, 27, 27⟩
abbrev SHD_CTRL.VALID_1 : Fld := ⟨R.SHD_CTRL, 26, 26⟩
abbrev SHD_CTRL.SHADOW_LOCKED : Fld := ⟨R.SHD_CTRL, 25, 25⟩
abbrev SHD_CTRL.LOAD_BUSY : Fld := ⟨R.SHD_CTRL, 24, 24⟩
abbrev SHD_CTRL.CAL_BUSY : Fld := ⟨R.SHD_CTRL, 23, 23⟩
abbrev SHD_CTRL.LOAD_HAUL_CH : Fld := ⟨R.SHD_CTRL, 22, 20⟩
abbrev SHD_CTRL.TRACK_LOG : Fld := ⟨R.SHD_CTRL, 19, 16⟩
abbrev SHD_CTRL.TRACK_SHIFT : Fld := ⟨R.SHD_CTRL, 15, 12⟩
abbrev SHD_CTRL.TRACK_STEP : Fld := ⟨R.SHD_CTRL, 7, 0⟩
abbrev SHD_STATUS.RANGE_UNMATCHED : Fld := ⟨R.SHD_STATUS, 31, 31⟩
abbrev SHD_STATUS.TRACK_LIMIT : Fld := ⟨R.SHD_STATUS, 30, 30⟩
abbrev SHD_STATUS.TILE_OBSCURED : Fld := ⟨R.SHD_STATUS, 29, 29⟩
abbrev SHD_STATUS.DARK_DRIFT : Fld := ⟨R.SHD_STATUS, 28, 28⟩
abbrev SHD_STATUS.SWAPPED : Fld := ⟨R.SHD_STATUS, 27, 27⟩
abbrev SHD_STATUS.LIMIT_MODULE : Fld := ⟨R.SHD_STATUS, 21, 16⟩
abbrev SHD_STATUS.LIMIT_PLANE : Fld := ⟨R.SHD_STATUS, 15, 14⟩
abbrev SHD_STATUS.DRIFT_MODULE : Fld := ⟨R.SHD_STATUS, 13, 8⟩
abbrev SHD_STATUS.DRIFT_PLANE : Fld := ⟨R.SHD_STATUS, 7, 6⟩
abbrev SHD_CAL_CFG.TILE_MOVE : Fld := ⟨R.SHD_CAL_CFG, 31, 31⟩
abbrev SHD_CAL_CFG.DEST : Fld := ⟨R.SHD_CAL_CFG, 30, 30⟩
abbrev SHD_CAL_CFG.KEEP_DEFECTS : Fld := ⟨R.SHD_CAL_CFG, 29, 29⟩
abbrev SHD_CAL_CFG.N_LOG : Fld := ⟨R.SHD_CAL_CFG, 26, 24⟩
abbrev SHD_CAL_CFG.WHITE_TARGET : Fld := ⟨R.SHD_CAL_CFG, 15, 0⟩
abbrev SHD_CAL_WHITE.WHITE_MAX : Fld := ⟨R.SHD_CAL_WHITE, 31, 16⟩
abbrev SHD_CAL_WHITE.WHITE_MIN : Fld := ⟨R.SHD_CAL_WHITE, 15, 0⟩
abbrev SHD_CAL_SPREAD.SPREAD_LIMIT : Fld := ⟨R.SHD_CAL_SPREAD, 31, 16⟩
abbrev SHD_CAL_SPREAD.SPREAD_COUNT : Fld := ⟨R.SHD_CAL_SPREAD, 15, 0⟩
abbrev SHD_CAL_DARK.LEAK_LIMIT : Fld := ⟨R.SHD_CAL_DARK, 31, 20⟩
abbrev SHD_CAL_DARK.DEFECT_DARK : Fld := ⟨R.SHD_CAL_DARK, 19, 8⟩
abbrev SHD_CAL_GAIN.GAIN_MAX : Fld := ⟨R.SHD_CAL_GAIN, 15, 0⟩
abbrev SHD_DRIFT.DARK_DRIFT_LIMIT : Fld := ⟨R.SHD_DRIFT, 15, 0⟩
abbrev SHD_CAL_STATUS.DONE : Fld := ⟨R.SHD_CAL_STATUS, 31, 31⟩
abbrev SHD_CAL_STATUS.RESULT : Fld := ⟨R.SHD_CAL_STATUS, 23, 16⟩
abbrev SHD_CAL_STATUS.FAIL_MODULE : Fld := ⟨R.SHD_CAL_STATUS, 15, 10⟩
abbrev SHD_CAL_STATUS.FAIL_PLANE : Fld := ⟨R.SHD_CAL_STATUS, 9, 8⟩
abbrev SHD_CAL_DEFECTS.NEW_DEFECTS : Fld := ⟨R.SHD_CAL_DEFECTS, 19, 0⟩
abbrev SHD_COUNT.UNMATCHED_CNT : Fld := ⟨R.SHD_COUNT, 31, 16⟩
abbrev SHD_COUNT.OBSCURED_CNT : Fld := ⟨R.SHD_COUNT, 15, 0⟩
abbrev SHD_LOAD_STATUS.FAIL_OFFSET : Fld := ⟨R.SHD_LOAD_STATUS, 31, 8⟩
abbrev SHD_LOAD_STATUS.RESULT : Fld := ⟨R.SHD_LOAD_STATUS, 7, 0⟩
abbrev SHD_CAL_TILE_IN.TARGET : Fld := ⟨R.SHD_CAL_TILE_IN, 31, 0⟩
abbrev SHD_CAL_TILE_OUT.TARGET : Fld := ⟨R.SHD_CAL_TILE_OUT, 31, 0⟩
abbrev SHD_MOD_GAIN.M (m p : Nat) : Fld := ⟨R.SHD_MOD_GAIN m p, 15, 0⟩
abbrev SHD_TRACK_SRC.MODE (m : Nat) : Fld := ⟨R.SHD_TRACK_SRC m, 31, 30⟩
abbrev SHD_TRACK_SRC.SRC (m : Nat) : Fld := ⟨R.SHD_TRACK_SRC m, 5, 0⟩
abbrev SUR_CTRL.SUR_EN : Fld := ⟨R.SUR_CTRL, 31, 31⟩
abbrev SUR_CTRL.LEAD_PLANE : Fld := ⟨R.SUR_CTRL, 30, 29⟩
abbrev SUR_CTRL.SURVEY_PLANE : Fld := ⟨R.SUR_CTRL, 28, 27⟩
abbrev SUR_CTRL.XSEARCH : Fld := ⟨R.SUR_CTRL, 26, 24⟩
abbrev SUR_CTRL.SEARCH : Fld := ⟨R.SUR_CTRL, 21, 16⟩
abbrev SUR_CTRL.MEAS_DIV : Fld := ⟨R.SUR_CTRL, 15, 8⟩
abbrev SUR_CTRL.CONF_MIN : Fld := ⟨R.SUR_CTRL, 7, 0⟩
abbrev SUR_LIMITS.TEX_MIN : Fld := ⟨R.SUR_LIMITS, 31, 16⟩
abbrev SUR_LIMITS.ERR_MAX : Fld := ⟨R.SUR_LIMITS, 15, 0⟩
abbrev SUR_QUOTA.QUOTA : Fld := ⟨R.SUR_QUOTA, 11, 0⟩
abbrev SUR_STATUS.ACTIVE : Fld := ⟨R.SUR_STATUS, 31, 31⟩
abbrev SUR_STATUS.BUSY_SEEN : Fld := ⟨R.SUR_STATUS, 30, 30⟩
abbrev SUR_STATUS.CELL_REFUSED : Fld := ⟨R.SUR_STATUS, 29, 29⟩
abbrev SUR_STATUS.NO_LEAD : Fld := ⟨R.SUR_STATUS, 28, 28⟩
abbrev SUR_STATUS.CELLS_USED : Fld := ⟨R.SUR_STATUS, 27, 16⟩
abbrev SUR_STATUS.SEQ : Fld := ⟨R.SUR_STATUS, 15, 0⟩
abbrev SUR_COUNT.DROP_COUNT : Fld := ⟨R.SUR_COUNT, 31, 16⟩
abbrev SUR_COUNT.BUSY_CNT : Fld := ⟨R.SUR_COUNT, 15, 0⟩
abbrev SUR_D_ADJ.D_ADJ (l : Nat) : Fld := ⟨R.SUR_D_ADJ l, 31, 0⟩
abbrev SUR_WIN_POS.X_START (w : Nat) : Fld := ⟨R.SUR_WIN_POS w, 31, 0⟩
abbrev SUR_WIN_CFG.EN (w : Nat) : Fld := ⟨R.SUR_WIN_CFG w, 31, 31⟩
abbrev SUR_WIN_CFG.LEAD_ID (w : Nat) : Fld := ⟨R.SUR_WIN_CFG w, 29, 24⟩
abbrev SUR_WIN_CFG.IMAGE_ID (w : Nat) : Fld := ⟨R.SUR_WIN_CFG w, 21, 16⟩
abbrev SUR_WIN_CFG.WIDTH (w : Nat) : Fld := ⟨R.SUR_WIN_CFG w, 8, 0⟩
abbrev SUR_WIN_RES.STATUS (w : Nat) : Fld := ⟨R.SUR_WIN_RES w, 31, 28⟩
abbrev SUR_WIN_RES.CONF (w : Nat) : Fld := ⟨R.SUR_WIN_RES w, 27, 20⟩
abbrev SUR_WIN_RES.ERROR (w : Nat) : Fld := ⟨R.SUR_WIN_RES w, 19, 0⟩
abbrev SUR_WIN_D.D_W (w : Nat) : Fld := ⟨R.SUR_WIN_D w, 31, 0⟩
abbrev STR_CTRL.STR_EN : Fld := ⟨R.STR_CTRL, 31, 31⟩
abbrev STR_CTRL.BSEARCH : Fld := ⟨R.STR_CTRL, 30, 29⟩
abbrev STR_CTRL.BZ : Fld := ⟨R.STR_CTRL, 28, 27⟩
abbrev STR_CTRL.GUARD : Fld := ⟨R.STR_CTRL, 26, 24⟩
abbrev STR_CTRL.NI : Fld := ⟨R.STR_CTRL, 23, 19⟩
abbrev STR_CTRL.MIN_PAIRS : Fld := ⟨R.STR_CTRL, 15, 8⟩
abbrev STR_LIMITS.MEAN_MAX : Fld := ⟨R.STR_LIMITS, 31, 16⟩
abbrev STR_LIMITS.MEAN_MIN : Fld := ⟨R.STR_LIMITS, 15, 0⟩
abbrev STR_LIMITS2.FLAT_MAX : Fld := ⟨R.STR_LIMITS2, 31, 24⟩
abbrev STR_LIMITS2.SPREAD_MAX : Fld := ⟨R.STR_LIMITS2, 15, 0⟩
abbrev STR_DIST_ADJ.DIST_ADJ : Fld := ⟨R.STR_DIST_ADJ, 31, 0⟩
abbrev STR_STATUS.WIN_RANGE : Fld := ⟨R.STR_STATUS, 31, 31⟩
abbrev STR_STATUS.QUEUE_DISCARDED : Fld := ⟨R.STR_STATUS, 30, 30⟩
abbrev STR_STATUS.QUEUED : Fld := ⟨R.STR_STATUS, 24, 16⟩
abbrev STR_STATUS.SEQ : Fld := ⟨R.STR_STATUS, 15, 0⟩
abbrev STR_COUNT.NOT_OK_CNT : Fld := ⟨R.STR_COUNT, 31, 16⟩
abbrev STR_COUNT.REFUSED_CNT : Fld := ⟨R.STR_COUNT, 15, 0⟩
abbrev STR_WIN_CFG.EN (w : Nat) : Fld := ⟨R.STR_WIN_CFG w, 31, 31⟩
abbrev STR_WIN_CFG.PLANE_MASK (w : Nat) : Fld := ⟨R.STR_WIN_CFG w, 30, 27⟩
abbrev STR_WIN_CFG.INK (w : Nat) : Fld := ⟨R.STR_WIN_CFG w, 26, 24⟩
abbrev STR_WIN_CFG.X_START (w : Nat) : Fld := ⟨R.STR_WIN_CFG w, 17, 0⟩
abbrev STR_WIN_WIDTH.WIDTH (w : Nat) : Fld := ⟨R.STR_WIN_WIDTH w, 15, 0⟩
abbrev STR_SENS.SENS (s i p : Nat) : Fld := ⟨R.STR_SENS s i p, 31, 0⟩
abbrev FLW_CTRL.LEARN_EN : Fld := ⟨R.FLW_CTRL, 31, 31⟩
abbrev FLW_CTRL.CORR_EN : Fld := ⟨R.FLW_CTRL, 30, 30⟩
abbrev FLW_CTRL.LEARN_SURVEY : Fld := ⟨R.FLW_CTRL, 29, 29⟩
abbrev FLW_CTRL.LEARN_STRATA : Fld := ⟨R.FLW_CTRL, 28, 28⟩
abbrev FLW_CTRL.FLW_CONF_MIN : Fld := ⟨R.FLW_CTRL, 15, 8⟩
abbrev FLW_GAIN.GAIN_S : Fld := ⟨R.FLW_GAIN, 31, 16⟩
abbrev FLW_GAIN.GAIN_T : Fld := ⟨R.FLW_GAIN, 15, 0⟩
abbrev FLW_LEAK.LEAK : Fld := ⟨R.FLW_LEAK, 15, 0⟩
abbrev FLW_CPR.CPR : Fld := ⟨R.FLW_CPR, 31, 0⟩
abbrev FLW_ERR_MAX.ERR_MAX_S : Fld := ⟨R.FLW_ERR_MAX, 31, 16⟩
abbrev FLW_ERR_MAX.ERR_MAX_T : Fld := ⟨R.FLW_ERR_MAX, 15, 0⟩
abbrev FLW_ANGLE_ZERO_LO.ANGLE_ZERO : Fld := ⟨R.FLW_ANGLE_ZERO_LO, 31, 0⟩
abbrev FLW_ANGLE_ZERO_HI.ANGLE_ZERO : Fld := ⟨R.FLW_ANGLE_ZERO_HI, 31, 0⟩
abbrev FLW_STATUS.MASTER : Fld := ⟨R.FLW_STATUS, 31, 31⟩
abbrev FLW_STATUS.BIN_SAT : Fld := ⟨R.FLW_STATUS, 30, 30⟩
abbrev FLW_STATUS.CORR_CLAMPED : Fld := ⟨R.FLW_STATUS, 29, 29⟩
abbrev FLW_STATUS.NO_ADVANCE : Fld := ⟨R.FLW_STATUS, 28, 28⟩
abbrev FLW_STATUS.QUEUE_DROP : Fld := ⟨R.FLW_STATUS, 27, 27⟩
abbrev FLW_STATUS.QUEUED : Fld := ⟨R.FLW_STATUS, 4, 0⟩
abbrev FLW_COUNT.ENTER_CNT : Fld := ⟨R.FLW_COUNT, 31, 16⟩
abbrev FLW_COUNT.DROP_CNT : Fld := ⟨R.FLW_COUNT, 15, 0⟩
abbrev FLW_LAST.ADV_ID : Fld := ⟨R.FLW_LAST, 31, 0⟩
abbrev CTX_SUPPLY_CFG.EN (s : Nat) : Fld := ⟨R.CTX_SUPPLY_CFG s, 31, 31⟩
abbrev CTX_SUPPLY_CFG.LEN (s : Nat) : Fld := ⟨R.CTX_SUPPLY_CFG s, 12, 0⟩
abbrev CTX_SUPPLY_STATUS.STARVED (s : Nat) : Fld := ⟨R.CTX_SUPPLY_STATUS s, 31, 31⟩
abbrev CTX_SUPPLY_STATUS.POSTED (s : Nat) : Fld := ⟨R.CTX_SUPPLY_STATUS s, 12, 0⟩
abbrev HST_CFG.CPL_TO : Fld := ⟨R.HST_CFG, 28, 16⟩
abbrev HST_CFG.ERR_VEC : Fld := ⟨R.HST_CFG, 14, 8⟩
abbrev HST_ABORT_CTRL.SCOPE : Fld := ⟨R.HST_ABORT_CTRL, 31, 28⟩
abbrev HST_ABORT_CTRL.SQ : Fld := ⟨R.HST_ABORT_CTRL, 27, 22⟩
abbrev HST_ABORT_CTRL.TARGET : Fld := ⟨R.HST_ABORT_CTRL, 15, 0⟩
abbrev HST_ABORT_STATUS.BUSY : Fld := ⟨R.HST_ABORT_STATUS, 31, 31⟩
abbrev HST_ABORT_STATUS.DONE : Fld := ⟨R.HST_ABORT_STATUS, 30, 30⟩
abbrev HST_ABORT_STATUS.RESULT : Fld := ⟨R.HST_ABORT_STATUS, 27, 24⟩
abbrev HST_SQ_ERR_LO.ERR : Fld := ⟨R.HST_SQ_ERR_LO, 31, 0⟩
abbrev HST_SQ_ERR_HI.ERR : Fld := ⟨R.HST_SQ_ERR_HI, 31, 0⟩
abbrev HST_SQ_BASE_LO.BASE (n : Nat) : Fld := ⟨R.HST_SQ_BASE_LO n, 31, 0⟩
abbrev HST_SQ_BASE_HI.BASE (n : Nat) : Fld := ⟨R.HST_SQ_BASE_HI n, 31, 0⟩
abbrev HST_SQ_CFG.EN (n : Nat) : Fld := ⟨R.HST_SQ_CFG n, 31, 31⟩
abbrev HST_SQ_CFG.PRIO (n : Nat) : Fld := ⟨R.HST_SQ_CFG n, 30, 29⟩
abbrev HST_SQ_CFG.CQ (n : Nat) : Fld := ⟨R.HST_SQ_CFG n, 21, 16⟩
abbrev HST_SQ_CFG.SIZE_LOG (n : Nat) : Fld := ⟨R.HST_SQ_CFG n, 4, 0⟩
abbrev HST_SQ_STATUS.STATE (n : Nat) : Fld := ⟨R.HST_SQ_STATUS n, 31, 30⟩
abbrev HST_SQ_STATUS.CAUSE (n : Nat) : Fld := ⟨R.HST_SQ_STATUS n, 29, 26⟩
abbrev HST_SQ_STATUS.HEAD (n : Nat) : Fld := ⟨R.HST_SQ_STATUS n, 15, 0⟩
abbrev HST_SQ_ERR_ADDR_LO.ADDR (n : Nat) : Fld := ⟨R.HST_SQ_ERR_ADDR_LO n, 31, 0⟩
abbrev HST_SQ_ERR_ADDR_HI.ADDR (n : Nat) : Fld := ⟨R.HST_SQ_ERR_ADDR_HI n, 31, 0⟩
abbrev HST_CQ_BASE_LO.BASE (n : Nat) : Fld := ⟨R.HST_CQ_BASE_LO n, 31, 0⟩
abbrev HST_CQ_BASE_HI.BASE (n : Nat) : Fld := ⟨R.HST_CQ_BASE_HI n, 31, 0⟩
abbrev HST_CQ_CFG.EN (n : Nat) : Fld := ⟨R.HST_CQ_CFG n, 31, 31⟩
abbrev HST_CQ_CFG.VECTOR (n : Nat) : Fld := ⟨R.HST_CQ_CFG n, 30, 24⟩
abbrev HST_CQ_CFG.MOD_COUNT (n : Nat) : Fld := ⟨R.HST_CQ_CFG n, 19, 12⟩
abbrev HST_CQ_CFG.SIZE_LOG (n : Nat) : Fld := ⟨R.HST_CQ_CFG n, 4, 0⟩
abbrev HST_CQ_MOD.MOD_TIME (n : Nat) : Fld := ⟨R.HST_CQ_MOD n, 15, 0⟩
abbrev HST_CQ_STATUS.STATE (n : Nat) : Fld := ⟨R.HST_CQ_STATUS n, 31, 30⟩
abbrev HST_CQ_STATUS.CQ_FULL (n : Nat) : Fld := ⟨R.HST_CQ_STATUS n, 29, 29⟩
abbrev HST_CQ_STATUS.PHASE (n : Nat) : Fld := ⟨R.HST_CQ_STATUS n, 28, 28⟩
abbrev HST_CQ_STATUS.TAIL (n : Nat) : Fld := ⟨R.HST_CQ_STATUS n, 15, 0⟩
abbrev SMP_GOV_CTRL.GOV_EN : Fld := ⟨R.SMP_GOV_CTRL, 31, 31⟩
abbrev SMP_GOV_CTRL.FULL : Fld := ⟨R.SMP_GOV_CTRL, 12, 0⟩
abbrev SMP_GOV_LEVELS.HIGH : Fld := ⟨R.SMP_GOV_LEVELS, 28, 16⟩
abbrev SMP_GOV_LEVELS.LOW : Fld := ⟨R.SMP_GOV_LEVELS, 12, 0⟩
abbrev SMP_GOV_STATUS.HOLDING : Fld := ⟨R.SMP_GOV_STATUS, 31, 31⟩
abbrev SMP_GOV_STATUS.HOLD_SEEN : Fld := ⟨R.SMP_GOV_STATUS, 30, 30⟩
abbrev SMP_GOV_STATUS.LANTERN_HOLD : Fld := ⟨R.SMP_GOV_STATUS, 29, 29⟩
abbrev SMP_GOV_STATUS.STATION_HOLD : Fld := ⟨R.SMP_GOV_STATUS, 28, 28⟩
abbrev SMP_GOV_STATUS.FACTOR : Fld := ⟨R.SMP_GOV_STATUS, 12, 0⟩
abbrev SMP_GOV_SRC.FROM_CONTEXT : Fld := ⟨R.SMP_GOV_SRC, 31, 31⟩
abbrev SMP_GOV_SRC.OCC : Fld := ⟨R.SMP_GOV_SRC, 28, 16⟩
abbrev SMP_GOV_SRC.CONTEXT : Fld := ⟨R.SMP_GOV_SRC, 11, 0⟩
abbrev SMP_POOL_STATUS.MIGRATING : Fld := ⟨R.SMP_POOL_STATUS, 31, 31⟩
abbrev SMP_POOL_STATUS.MIGRATED : Fld := ⟨R.SMP_POOL_STATUS, 30, 30⟩
abbrev SMP_POOL_STATUS.ECC_NO_SPARE : Fld := ⟨R.SMP_POOL_STATUS, 29, 29⟩
abbrev SMP_POOL_STATUS.USED : Fld := ⟨R.SMP_POOL_STATUS, 28, 16⟩
abbrev SMP_POOL_STATUS.PEAK : Fld := ⟨R.SMP_POOL_STATUS, 12, 0⟩
abbrev SMP_COUNT.HOLD_CNT : Fld := ⟨R.SMP_COUNT, 31, 16⟩
abbrev SMP_COUNT.QEX_CNT : Fld := ⟨R.SMP_COUNT, 15, 8⟩
abbrev SMP_COUNT.UE_CNT : Fld := ⟨R.SMP_COUNT, 7, 0⟩
abbrev SMP_QUOTA_SET.NEW_QUOTA : Fld := ⟨R.SMP_QUOTA_SET, 28, 16⟩
abbrev SMP_QUOTA_SET.CONTEXT : Fld := ⟨R.SMP_QUOTA_SET, 11, 0⟩
abbrev SMP_QUOTA_RESULT.DONE : Fld := ⟨R.SMP_QUOTA_RESULT, 31, 31⟩
abbrev SMP_QUOTA_RESULT.RESULT : Fld := ⟨R.SMP_QUOTA_RESULT, 27, 24⟩
abbrev SMP_QUOTA_RESULT.CONTEXT : Fld := ⟨R.SMP_QUOTA_RESULT, 11, 0⟩
abbrev SMP_HAUL_QUOTA.HAUL_QUOTA : Fld := ⟨R.SMP_HAUL_QUOTA, 12, 0⟩
abbrev SMP_ECC_CFG.ECC_LIMIT : Fld := ⟨R.SMP_ECC_CFG, 15, 0⟩
abbrev SMP_QUOTA_EVENT.QUOTA_EXCEEDED : Fld := ⟨R.SMP_QUOTA_EVENT, 31, 31⟩
abbrev SMP_QUOTA_EVENT.KIND : Fld := ⟨R.SMP_QUOTA_EVENT, 30, 28⟩
abbrev SMP_QUOTA_EVENT.HOLDER : Fld := ⟨R.SMP_QUOTA_EVENT, 11, 0⟩
abbrev SMP_GRP_RESERVE.USED (g : Nat) : Fld := ⟨R.SMP_GRP_RESERVE g, 28, 16⟩
abbrev SMP_GRP_RESERVE.RESERVE (g : Nat) : Fld := ⟨R.SMP_GRP_RESERVE g, 12, 0⟩
abbrev SMP_BANK.CE_TOTAL (b : Nat) : Fld := ⟨R.SMP_BANK b, 31, 16⟩
abbrev SMP_BANK.PHYS (b : Nat) : Fld := ⟨R.SMP_BANK b, 4, 0⟩
abbrev HAU_CH_CFG.PRIO (ch : Nat) : Fld := ⟨R.HAU_CH_CFG ch, 31, 29⟩
abbrev HAU_CH_CFG.BUDGET_LOG (ch : Nat) : Fld := ⟨R.HAU_CH_CFG ch, 28, 24⟩
abbrev HAU_CH_CFG.END_EVENT_EN (ch : Nat) : Fld := ⟨R.HAU_CH_CFG ch, 23, 23⟩
abbrev HAU_CH_CFG.END_EVENT (ch : Nat) : Fld := ⟨R.HAU_CH_CFG ch, 19, 16⟩
abbrev HAU_CH_CFG.WB_EN (ch : Nat) : Fld := ⟨R.HAU_CH_CFG ch, 15, 15⟩
abbrev HAU_CH_START_LO.VALUE (ch : Nat) : Fld := ⟨R.HAU_CH_START_LO ch, 31, 0⟩
abbrev HAU_CH_START_HI.VALUE (ch : Nat) : Fld := ⟨R.HAU_CH_START_HI ch, 31, 0⟩
abbrev HAU_CH_ADDR_LO.VALUE (ch : Nat) : Fld := ⟨R.HAU_CH_ADDR_LO ch, 31, 0⟩
abbrev HAU_CH_ADDR_HI.VALUE (ch : Nat) : Fld := ⟨R.HAU_CH_ADDR_HI ch, 31, 0⟩
abbrev HAU_CH_RESIDUE.VALUE (ch : Nat) : Fld := ⟨R.HAU_CH_RESIDUE ch, 31, 0⟩
abbrev HAU_CH_CMP_CNT.VALUE (ch : Nat) : Fld := ⟨R.HAU_CH_CMP_CNT ch, 31, 0⟩
abbrev HAU_CH_CMP_ADDR_LO.VALUE (ch : Nat) : Fld := ⟨R.HAU_CH_CMP_ADDR_LO ch, 31, 0⟩
abbrev HAU_CH_CMP_ADDR_HI.VALUE (ch : Nat) : Fld := ⟨R.HAU_CH_CMP_ADDR_HI ch, 31, 0⟩
abbrev HAU_CH_WB_LO.VALUE (ch : Nat) : Fld := ⟨R.HAU_CH_WB_LO ch, 31, 0⟩
abbrev HAU_CH_WB_HI.VALUE (ch : Nat) : Fld := ⟨R.HAU_CH_WB_HI ch, 31, 0⟩
abbrev HAU_CH_EXEC.VALUE (ch : Nat) : Fld := ⟨R.HAU_CH_EXEC ch, 31, 0⟩
abbrev HAU_CH_STATUS.STATE (ch : Nat) : Fld := ⟨R.HAU_CH_STATUS ch, 31, 29⟩
abbrev HAU_CH_STATUS.QUEUED (ch : Nat) : Fld := ⟨R.HAU_CH_STATUS ch, 28, 26⟩
abbrev HAU_CH_STATUS.LOAD_RIGHTS (ch : Nat) : Fld := ⟨R.HAU_CH_STATUS ch, 25, 25⟩
abbrev HAU_CH_STATUS.CLEAR (ch : Nat) : Fld := ⟨R.HAU_CH_STATUS ch, 24, 24⟩
abbrev HAU_CH_STATUS.CODE (ch : Nat) : Fld := ⟨R.HAU_CH_STATUS ch, 23, 16⟩
abbrev HAU_CH_STATUS.CAUSE (ch : Nat) : Fld := ⟨R.HAU_CH_STATUS ch, 15, 12⟩
abbrev HAU_CH_STATUS.DIR (ch : Nat) : Fld := ⟨R.HAU_CH_STATUS ch, 11, 11⟩
abbrev HAU_CH_STATUS.SPACE (ch : Nat) : Fld := ⟨R.HAU_CH_STATUS ch, 10, 10⟩
abbrev HAU_CH_STATUS.LOOP_LEVEL (ch : Nat) : Fld := ⟨R.HAU_CH_STATUS ch, 2, 0⟩
abbrev AXS_SERVO_PERIOD.SERVO_PERIOD : Fld := ⟨R.AXS_SERVO_PERIOD, 13, 0⟩
abbrev AXS_TICK_NUM.TICK_NUM : Fld := ⟨R.AXS_TICK_NUM, 31, 0⟩
abbrev AXS_TICK_DEN.TICK_DEN : Fld := ⟨R.AXS_TICK_DEN, 31, 0⟩
abbrev AXS_ESTOP.ESTOP : Fld := ⟨R.AXS_ESTOP, 5, 0⟩
abbrev AXS_STATUS.STATE (a : Nat) : Fld := ⟨R.AXS_STATUS a, 31, 29⟩
abbrev AXS_STATUS.PENDING (a : Nat) : Fld := ⟨R.AXS_STATUS a, 28, 28⟩
abbrev AXS_STATUS.BRAKING (a : Nat) : Fld := ⟨R.AXS_STATUS a, 27, 27⟩
abbrev AXS_STATUS.REVERSED (a : Nat) : Fld := ⟨R.AXS_STATUS a, 26, 26⟩
abbrev AXS_STATUS.LEADER (a : Nat) : Fld := ⟨R.AXS_STATUS a, 25, 25⟩
abbrev AXS_STATUS.FOLLOWER (a : Nat) : Fld := ⟨R.AXS_STATUS a, 24, 24⟩
abbrev AXS_STATUS.POS_REFUSED (a : Nat) : Fld := ⟨R.AXS_STATUS a, 23, 23⟩
abbrev AXS_STATUS.POS_GO (a : Nat) : Fld := ⟨R.AXS_STATUS a, 22, 22⟩
abbrev AXS_STATUS.SEGMENT (a : Nat) : Fld := ⟨R.AXS_STATUS a, 21, 19⟩
abbrev AXS_STATUS.LIMIT_SET (a : Nat) : Fld := ⟨R.AXS_STATUS a, 18, 17⟩
abbrev AXS_STATUS.LEAD_AXIS (a : Nat) : Fld := ⟨R.AXS_STATUS a, 2, 0⟩
abbrev AXS_SETPOINT_FRAC.VALUE (a : Nat) : Fld := ⟨R.AXS_SETPOINT_FRAC a, 31, 0⟩
abbrev AXS_SETPOINT_LO.VALUE (a : Nat) : Fld := ⟨R.AXS_SETPOINT_LO a, 31, 0⟩
abbrev AXS_SETPOINT_HI.VALUE (a : Nat) : Fld := ⟨R.AXS_SETPOINT_HI a, 31, 0⟩
abbrev AXS_VEL_LO.VALUE (a : Nat) : Fld := ⟨R.AXS_VEL_LO a, 31, 0⟩
abbrev AXS_VEL_HI.VALUE (a : Nat) : Fld := ⟨R.AXS_VEL_HI a, 31, 0⟩
abbrev AXS_REMAIN_LO.VALUE (a : Nat) : Fld := ⟨R.AXS_REMAIN_LO a, 31, 0⟩
abbrev AXS_REMAIN_HI.VALUE (a : Nat) : Fld := ⟨R.AXS_REMAIN_HI a, 31, 0⟩
abbrev AXS_POS_SET_LO.VALUE (a : Nat) : Fld := ⟨R.AXS_POS_SET_LO a, 31, 0⟩
abbrev AXS_POS_SET_HI.VALUE (a : Nat) : Fld := ⟨R.AXS_POS_SET_HI a, 31, 0⟩
abbrev AXS_LIM_VEL.VEL (a s : Nat) : Fld := ⟨R.AXS_LIM_VEL a s, 31, 0⟩
abbrev AXS_LIM_ACC.ACC (a s : Nat) : Fld := ⟨R.AXS_LIM_ACC a s, 31, 0⟩
abbrev AXS_LIM_DEC.DEC (a s : Nat) : Fld := ⟨R.AXS_LIM_DEC a s, 31, 0⟩
abbrev AXS_LIM_JERK.JERK (a s : Nat) : Fld := ⟨R.AXS_LIM_JERK a s, 31, 0⟩
abbrev AXS_EDEC.EDEC (a : Nat) : Fld := ⟨R.AXS_EDEC a, 31, 0⟩
abbrev AXS_EJERK.EJERK (a : Nat) : Fld := ⟨R.AXS_EJERK a, 31, 0⟩
abbrev AXS_FINAL_WIN.FINAL_WIN (a : Nat) : Fld := ⟨R.AXS_FINAL_WIN a, 15, 0⟩
abbrev AXS_STALL_CFG.STALL_MODE (a : Nat) : Fld := ⟨R.AXS_STALL_CFG a, 31, 30⟩
abbrev AXS_STALL_CFG.DEV_N (a : Nat) : Fld := ⟨R.AXS_STALL_CFG a, 29, 24⟩
abbrev AXS_STALL_CFG.DEV_WIN (a : Nat) : Fld := ⟨R.AXS_STALL_CFG a, 23, 0⟩
abbrev AXS_BOOST_CFG.LOAD_HI (a : Nat) : Fld := ⟨R.AXS_BOOST_CFG a, 29, 20⟩
abbrev AXS_BOOST_CFG.LOAD_LO (a : Nat) : Fld := ⟨R.AXS_BOOST_CFG a, 19, 10⟩
abbrev AXS_BOOST_CFG.BOOST_MAX (a : Nat) : Fld := ⟨R.AXS_BOOST_CFG a, 9, 0⟩
abbrev AXS_BOOST_RATE.BOOST (a : Nat) : Fld := ⟨R.AXS_BOOST_RATE a, 25, 16⟩
abbrev AXS_BOOST_RATE.BOOST_UP (a : Nat) : Fld := ⟨R.AXS_BOOST_RATE a, 15, 8⟩
abbrev AXS_BOOST_RATE.BOOST_DN (a : Nat) : Fld := ⟨R.AXS_BOOST_RATE a, 7, 0⟩
abbrev AXS_SW_CFG.LIM_EN (a : Nat) : Fld := ⟨R.AXS_SW_CFG a, 31, 31⟩
abbrev AXS_SW_CFG.LIM_POL (a : Nat) : Fld := ⟨R.AXS_SW_CFG a, 30, 30⟩
abbrev AXS_SW_CFG.LIM_DIR (a : Nat) : Fld := ⟨R.AXS_SW_CFG a, 29, 29⟩
abbrev AXS_SW_CFG.HOME_POL (a : Nat) : Fld := ⟨R.AXS_SW_CFG a, 28, 28⟩
abbrev AXS_SW_CFG.HOME_EDGE (a : Nat) : Fld := ⟨R.AXS_SW_CFG a, 27, 26⟩
abbrev AXS_SW_CFG.LATCH_SRC (a : Nat) : Fld := ⟨R.AXS_SW_CFG a, 25, 25⟩
abbrev AXS_SW_CFG.SW_FILT (a : Nat) : Fld := ⟨R.AXS_SW_CFG a, 7, 0⟩
abbrev AXS_SW_STATUS.HOME_LEVEL (a : Nat) : Fld := ⟨R.AXS_SW_STATUS a, 31, 31⟩
abbrev AXS_SW_STATUS.LIM_LEVEL (a : Nat) : Fld := ⟨R.AXS_SW_STATUS a, 30, 30⟩
abbrev AXS_SW_STATUS.LATCHED (a : Nat) : Fld := ⟨R.AXS_SW_STATUS a, 29, 29⟩
abbrev AXS_SW_STATUS.STALLED (a : Nat) : Fld := ⟨R.AXS_SW_STATUS a, 28, 28⟩
abbrev AXS_SW_STATUS.STALL_IDLE (a : Nat) : Fld := ⟨R.AXS_SW_STATUS a, 27, 27⟩
abbrev AXS_SW_STATUS.PHI (a : Nat) : Fld := ⟨R.AXS_SW_STATUS a, 9, 0⟩
abbrev AXS_REF_CTRL.GO (a : Nat) : Fld := ⟨R.AXS_REF_CTRL a, 31, 31⟩
abbrev AXS_REF_CTRL.METHOD (a : Nat) : Fld := ⟨R.AXS_REF_CTRL a, 30, 29⟩
abbrev AXS_REF_CTRL.REF_DIR (a : Nat) : Fld := ⟨R.AXS_REF_CTRL a, 28, 28⟩
abbrev AXS_REF_CTRL.REF_SET (a : Nat) : Fld := ⟨R.AXS_REF_CTRL a, 27, 26⟩
abbrev AXS_REF_CTRL.I_REF (a : Nat) : Fld := ⟨R.AXS_REF_CTRL a, 9, 0⟩
abbrev AXS_REF_STATUS.BUSY (a : Nat) : Fld := ⟨R.AXS_REF_STATUS a, 31, 31⟩
abbrev AXS_REF_STATUS.DONE (a : Nat) : Fld := ⟨R.AXS_REF_STATUS a, 30, 30⟩
abbrev AXS_REF_STATUS.REFERENCED (a : Nat) : Fld := ⟨R.AXS_REF_STATUS a, 29, 29⟩
abbrev AXS_REF_STATUS.RESULT (a : Nat) : Fld := ⟨R.AXS_REF_STATUS a, 3, 0⟩
abbrev AXS_REF_MAX.REF_MAX (a : Nat) : Fld := ⟨R.AXS_REF_MAX a, 31, 0⟩
abbrev AXS_REF_BACKOFF.REF_BACKOFF (a : Nat) : Fld := ⟨R.AXS_REF_BACKOFF a, 31, 0⟩
abbrev AXS_LATCH_LO.VALUE (a : Nat) : Fld := ⟨R.AXS_LATCH_LO a, 31, 0⟩
abbrev AXS_LATCH_HI.VALUE (a : Nat) : Fld := ⟨R.AXS_LATCH_HI a, 31, 0⟩
abbrev AXS_LATCH_TIME_LO.VALUE (a : Nat) : Fld := ⟨R.AXS_LATCH_TIME_LO a, 31, 0⟩
abbrev AXS_LATCH_TIME_HI.VALUE (a : Nat) : Fld := ⟨R.AXS_LATCH_TIME_HI a, 31, 0⟩
abbrev AXS_REF_POS_LO.VALUE (a : Nat) : Fld := ⟨R.AXS_REF_POS_LO a, 31, 0⟩
abbrev AXS_REF_POS_HI.VALUE (a : Nat) : Fld := ⟨R.AXS_REF_POS_HI a, 31, 0⟩
abbrev CHP_CFG.DRIVE_MODE (a : Nat) : Fld := ⟨R.CHP_CFG a, 31, 30⟩
abbrev CHP_CFG.STANDSTILL (a : Nat) : Fld := ⟨R.CHP_CFG a, 29, 28⟩
abbrev CHP_CFG.MAX_TIER (a : Nat) : Fld := ⟨R.CHP_CFG a, 27, 25⟩
abbrev CHP_CFG.FAST_FRAC (a : Nat) : Fld := ⟨R.CHP_CFG a, 24, 20⟩
abbrev CHP_CFG.BLANK (a : Nat) : Fld := ⟨R.CHP_CFG a, 19, 16⟩
abbrev CHP_CFG.DEAD (a : Nat) : Fld := ⟨R.CHP_CFG a, 15, 10⟩
abbrev CHP_CFG.OFF_TIME (a : Nat) : Fld := ⟨R.CHP_CFG a, 8, 0⟩
abbrev CHP_CURRENT.I_HOLD (a : Nat) : Fld := ⟨R.CHP_CURRENT a, 29, 20⟩
abbrev CHP_CURRENT.I_RUN (a : Nat) : Fld := ⟨R.CHP_CURRENT a, 19, 10⟩
abbrev CHP_CURRENT.I_MAX (a : Nat) : Fld := ⟨R.CHP_CURRENT a, 9, 0⟩
abbrev CHP_LOOP.KP (a : Nat) : Fld := ⟨R.CHP_LOOP a, 31, 24⟩
abbrev CHP_LOOP.HOLD_DELAY (a : Nat) : Fld := ⟨R.CHP_LOOP a, 23, 12⟩
abbrev CHP_LOOP.OC_LIMIT (a : Nat) : Fld := ⟨R.CHP_LOOP a, 11, 0⟩
abbrev CHP_STEPDIR.SD_STEP_LOG (a : Nat) : Fld := ⟨R.CHP_STEPDIR a, 31, 28⟩
abbrev CHP_STEPDIR.STEP_W (a : Nat) : Fld := ⟨R.CHP_STEPDIR a, 15, 8⟩
abbrev CHP_STEPDIR.SD_SETUP (a : Nat) : Fld := ⟨R.CHP_STEPDIR a, 7, 0⟩
abbrev CHP_EANG_NUM.EANG_NUM (a : Nat) : Fld := ⟨R.CHP_EANG_NUM a, 31, 0⟩
abbrev CHP_EANG_DEN.EANG_DEN (a : Nat) : Fld := ⟨R.CHP_EANG_DEN a, 31, 0⟩
abbrev CHP_EPHASE.EPHASE (a : Nat) : Fld := ⟨R.CHP_EPHASE a, 9, 0⟩
abbrev CHP_STATUS.OVERCURRENT (a : Nat) : Fld := ⟨R.CHP_STATUS a, 31, 31⟩
abbrev CHP_STATUS.OC_CLEAR (a : Nat) : Fld := ⟨R.CHP_STATUS a, 30, 30⟩
abbrev CHP_STATUS.CUR_LOW (a : Nat) : Fld := ⟨R.CHP_STATUS a, 29, 29⟩
abbrev CHP_STATUS.STEP_BEHIND (a : Nat) : Fld := ⟨R.CHP_STATUS a, 28, 28⟩
abbrev CHP_STATUS.TIER (a : Nat) : Fld := ⟨R.CHP_STATUS a, 27, 25⟩
abbrev CHP_STATUS.TIER_PEND (a : Nat) : Fld := ⟨R.CHP_STATUS a, 24, 22⟩
abbrev CHP_STATUS.IMON_A (a : Nat) : Fld := ⟨R.CHP_STATUS a, 21, 10⟩
abbrev CHP_STATUS.THETA_OUT (a : Nat) : Fld := ⟨R.CHP_STATUS a, 9, 0⟩
abbrev CHP_IMON_B.IMON_B (a : Nat) : Fld := ⟨R.CHP_IMON_B a, 11, 0⟩
abbrev CHP_TIER_V1.TV (a : Nat) : Fld := ⟨R.CHP_TIER_V1 a, 31, 0⟩
abbrev CHP_TIER_V2.TV (a : Nat) : Fld := ⟨R.CHP_TIER_V2 a, 31, 0⟩
abbrev CHP_TIER_V3.TV (a : Nat) : Fld := ⟨R.CHP_TIER_V3 a, 31, 0⟩
abbrev CHP_TIER_V4.TV (a : Nat) : Fld := ⟨R.CHP_TIER_V4 a, 31, 0⟩
abbrev CHP_EOFS_LO.EOFS (a : Nat) : Fld := ⟨R.CHP_EOFS_LO a, 31, 0⟩
abbrev CHP_EOFS_HI.EOFS (a : Nat) : Fld := ⟨R.CHP_EOFS_HI a, 31, 0⟩
abbrev ENC_CFG.ENC_TYPE (a : Nat) : Fld := ⟨R.ENC_CFG a, 31, 30⟩
abbrev ENC_CFG.DIR_INV (a : Nat) : Fld := ⟨R.ENC_CFG a, 29, 29⟩
abbrev ENC_CFG.TERM_EN (a : Nat) : Fld := ⟨R.ENC_CFG a, 28, 28⟩
abbrev ENC_CFG.QFILT (a : Nat) : Fld := ⟨R.ENC_CFG a, 26, 24⟩
abbrev ENC_CFG.SSI_GRAY (a : Nat) : Fld := ⟨R.ENC_CFG a, 23, 23⟩
abbrev ENC_CFG.SSI_BITS (a : Nat) : Fld := ⟨R.ENC_CFG a, 21, 16⟩
abbrev ENC_CFG.SSI_DIV (a : Nat) : Fld := ⟨R.ENC_CFG a, 11, 0⟩
abbrev ENC_STATUS.ENC_FAULT (a : Nat) : Fld := ⟨R.ENC_STATUS a, 31, 31⟩
abbrev ENC_STATUS.ENC_CLEAR (a : Nat) : Fld := ⟨R.ENC_STATUS a, 30, 30⟩
abbrev ENC_STATUS.CAUSE (a : Nat) : Fld := ⟨R.ENC_STATUS a, 27, 24⟩
abbrev ENC_POS_LO.POS (a : Nat) : Fld := ⟨R.ENC_POS_LO a, 31, 0⟩
abbrev ENC_POS_HI.POS (a : Nat) : Fld := ⟨R.ENC_POS_HI a, 31, 0⟩
abbrev HKC_SEQ_CTRL.RUN (c : Nat) : Fld := ⟨R.HKC_SEQ_CTRL c, 31, 31⟩
abbrev HKC_SEQ_CTRL.COMMIT (c : Nat) : Fld := ⟨R.HKC_SEQ_CTRL c, 30, 30⟩
abbrev HKC_SEQ_CTRL.LAST (c : Nat) : Fld := ⟨R.HKC_SEQ_CTRL c, 28, 24⟩
abbrev HKC_SEQ_CTRL.PASS_DIV (c : Nat) : Fld := ⟨R.HKC_SEQ_CTRL c, 23, 16⟩
abbrev HKC_SEQ_CTRL.DISCHARGE (c : Nat) : Fld := ⟨R.HKC_SEQ_CTRL c, 15, 8⟩
abbrev HKC_SEQ_CTRL.GUARD (c : Nat) : Fld := ⟨R.HKC_SEQ_CTRL c, 7, 0⟩
abbrev HKC_SEQ_CFG2.EXC_SETTLE (c : Nat) : Fld := ⟨R.HKC_SEQ_CFG2 c, 25, 16⟩
abbrev HKC_SEQ_CFG2.SAMPLE_MIN (c : Nat) : Fld := ⟨R.HKC_SEQ_CFG2 c, 7, 0⟩
abbrev HKC_SEQ_STATUS.RUNNING (c : Nat) : Fld := ⟨R.HKC_SEQ_STATUS c, 31, 31⟩
abbrev HKC_SEQ_STATUS.COMMIT_REFUSED (c : Nat) : Fld := ⟨R.HKC_SEQ_STATUS c, 29, 29⟩
abbrev HKC_SEQ_STATUS.EXC_FAULT (c : Nat) : Fld := ⟨R.HKC_SEQ_STATUS c, 28, 28⟩
abbrev HKC_SEQ_STATUS.FIFO_OVF (c : Nat) : Fld := ⟨R.HKC_SEQ_STATUS c, 27, 27⟩
abbrev HKC_SEQ_STATUS.ERR (c : Nat) : Fld := ⟨R.HKC_SEQ_STATUS c, 26, 24⟩
abbrev HKC_SEQ_STATUS.ERR_ENTRY (c : Nat) : Fld := ⟨R.HKC_SEQ_STATUS c, 20, 16⟩
abbrev HKC_SEQ_STATUS.PASS_CNT (c : Nat) : Fld := ⟨R.HKC_SEQ_STATUS c, 15, 0⟩
abbrev HKC_PASS_LEN.PASS_LEN (c : Nat) : Fld := ⟨R.HKC_PASS_LEN c, 19, 0⟩
abbrev HKC_FIFO_STATUS.OVF_CNT (c : Nat) : Fld := ⟨R.HKC_FIFO_STATUS c, 31, 16⟩
abbrev HKC_FIFO_STATUS.LEVEL (c : Nat) : Fld := ⟨R.HKC_FIFO_STATUS c, 5, 0⟩
abbrev HKC_PASS_TIME_LO.TIME (c : Nat) : Fld := ⟨R.HKC_PASS_TIME_LO c, 31, 0⟩
abbrev HKC_PASS_TIME_HI.TIME (c : Nat) : Fld := ⟨R.HKC_PASS_TIME_HI c, 31, 0⟩
abbrev HKC_EXC_PAT.SINK (c n : Nat) : Fld := ⟨R.HKC_EXC_PAT c n, 27, 24⟩
abbrev HKC_EXC_PAT.EN3 (c n : Nat) : Fld := ⟨R.HKC_EXC_PAT c n, 23, 23⟩
abbrev HKC_EXC_PAT.PIN3 (c n : Nat) : Fld := ⟨R.HKC_EXC_PAT c n, 22, 21⟩
abbrev HKC_EXC_PAT.CUR3 (c n : Nat) : Fld := ⟨R.HKC_EXC_PAT c n, 20, 18⟩
abbrev HKC_EXC_PAT.EN2 (c n : Nat) : Fld := ⟨R.HKC_EXC_PAT c n, 17, 17⟩
abbrev HKC_EXC_PAT.PIN2 (c n : Nat) : Fld := ⟨R.HKC_EXC_PAT c n, 16, 15⟩
abbrev HKC_EXC_PAT.CUR2 (c n : Nat) : Fld := ⟨R.HKC_EXC_PAT c n, 14, 12⟩
abbrev HKC_EXC_PAT.EN1 (c n : Nat) : Fld := ⟨R.HKC_EXC_PAT c n, 11, 11⟩
abbrev HKC_EXC_PAT.PIN1 (c n : Nat) : Fld := ⟨R.HKC_EXC_PAT c n, 10, 9⟩
abbrev HKC_EXC_PAT.CUR1 (c n : Nat) : Fld := ⟨R.HKC_EXC_PAT c n, 8, 6⟩
abbrev HKC_EXC_PAT.EN0 (c n : Nat) : Fld := ⟨R.HKC_EXC_PAT c n, 5, 5⟩
abbrev HKC_EXC_PAT.PIN0 (c n : Nat) : Fld := ⟨R.HKC_EXC_PAT c n, 4, 3⟩
abbrev HKC_EXC_PAT.CUR0 (c n : Nat) : Fld := ⟨R.HKC_EXC_PAT c n, 2, 0⟩
abbrev HKC_CAL.OFS (c g : Nat) : Fld := ⟨R.HKC_CAL c g, 31, 16⟩
abbrev HKC_CAL.GCF (c g : Nat) : Fld := ⟨R.HKC_CAL c g, 15, 0⟩
abbrev HKC_ENT_CFG.MUX (c e : Nat) : Fld := ⟨R.HKC_ENT_CFG c e, 31, 26⟩
abbrev HKC_ENT_CFG.GAIN (c e : Nat) : Fld := ⟨R.HKC_ENT_CFG c e, 25, 23⟩
abbrev HKC_ENT_CFG.EXC_PAT (c e : Nat) : Fld := ⟨R.HKC_ENT_CFG c e, 22, 20⟩
abbrev HKC_ENT_CFG.COMBINE (c e : Nat) : Fld := ⟨R.HKC_ENT_CFG c e, 19, 18⟩
abbrev HKC_ENT_CFG.FIFO_EN (c e : Nat) : Fld := ⟨R.HKC_ENT_CFG c e, 17, 17⟩
abbrev HKC_ENT_CFG.CONV (c e : Nat) : Fld := ⟨R.HKC_ENT_CFG c e, 16, 13⟩
abbrev HKC_ENT_CFG.ZERO (c e : Nat) : Fld := ⟨R.HKC_ENT_CFG c e, 12, 8⟩
abbrev HKC_ENT_CFG.SAMPLE (c e : Nat) : Fld := ⟨R.HKC_ENT_CFG c e, 7, 0⟩
abbrev HKC_ENT_FILT.FILT (c e : Nat) : Fld := ⟨R.HKC_ENT_FILT c e, 31, 30⟩
abbrev HKC_ENT_FILT.ZERO (c e : Nat) : Fld := ⟨R.HKC_ENT_FILT c e, 29, 8⟩
abbrev HKC_ENT_FILT.DEC (c e : Nat) : Fld := ⟨R.HKC_ENT_FILT c e, 7, 0⟩
abbrev HKC_RES_W0.VALID (c e : Nat) : Fld := ⟨R.HKC_RES_W0 c e, 31, 31⟩
abbrev HKC_RES_W0.UNCAL (c e : Nat) : Fld := ⟨R.HKC_RES_W0 c e, 30, 30⟩
abbrev HKC_RES_W0.REASON (c e : Nat) : Fld := ⟨R.HKC_RES_W0 c e, 29, 27⟩
abbrev HKC_RES_W0.ENTRY (c e : Nat) : Fld := ⟨R.HKC_RES_W0 c e, 26, 22⟩
abbrev HKC_RES_W0.CONVERTER (c e : Nat) : Fld := ⟨R.HKC_RES_W0 c e, 21, 21⟩
abbrev HKC_RES_W0.VALUE (c e : Nat) : Fld := ⟨R.HKC_RES_W0 c e, 19, 0⟩
abbrev HKC_RES_W1.PASS (c e : Nat) : Fld := ⟨R.HKC_RES_W1 c e, 31, 16⟩
abbrev HKC_EXC_OWNER.OWNER : Fld := ⟨R.HKC_EXC_OWNER, 3, 0⟩
abbrev HKC_CAL_STATUS.DONE : Fld := ⟨R.HKC_CAL_STATUS, 31, 31⟩
abbrev HKC_CAL_STATUS.CAL_OK : Fld := ⟨R.HKC_CAL_STATUS, 30, 30⟩
abbrev HKC_CAL_STATUS.RESULT : Fld := ⟨R.HKC_CAL_STATUS, 23, 16⟩
abbrev TIM_BASE_CTRL.REARM (b : Nat) : Fld := ⟨R.TIM_BASE_CTRL b, 31, 31⟩
abbrev TIM_BASE_CTRL.STEP_ARMED (b : Nat) : Fld := ⟨R.TIM_BASE_CTRL b, 30, 30⟩
abbrev TIM_BASE_CTRL.STATE (b : Nat) : Fld := ⟨R.TIM_BASE_CTRL b, 29, 28⟩
abbrev TIM_BASE_CTRL.P_SHIFT (b : Nat) : Fld := ⟨R.TIM_BASE_CTRL b, 27, 24⟩
abbrev TIM_BASE_CTRL.I_SHIFT (b : Nat) : Fld := ⟨R.TIM_BASE_CTRL b, 23, 20⟩
abbrev TIM_BASE_CTRL.SET_GO (b : Nat) : Fld := ⟨R.TIM_BASE_CTRL b, 19, 19⟩
abbrev TIM_BASE_CTRL.LOCK_THR (b : Nat) : Fld := ⟨R.TIM_BASE_CTRL b, 15, 0⟩
abbrev TIM_BASE_RATE_LO.VALUE (b : Nat) : Fld := ⟨R.TIM_BASE_RATE_LO b, 31, 0⟩
abbrev TIM_BASE_TIME_LO.VALUE (b : Nat) : Fld := ⟨R.TIM_BASE_TIME_LO b, 31, 0⟩
abbrev TIM_BASE_TIME_HI.VALUE (b : Nat) : Fld := ⟨R.TIM_BASE_TIME_HI b, 31, 0⟩
abbrev TIM_BASE_OFS.VALUE (b : Nat) : Fld := ⟨R.TIM_BASE_OFS b, 31, 0⟩
abbrev TIM_BASE_RATE_HI.VALUE (b : Nat) : Fld := ⟨R.TIM_BASE_RATE_HI b, 31, 0⟩
abbrev TIM_CFG.EXP_BASE : Fld := ⟨R.TIM_CFG, 31, 30⟩
abbrev TIM_CFG.EDGE_BASE : Fld := ⟨R.TIM_CFG, 29, 28⟩
abbrev TIM_CFG.HKC_BASE : Fld := ⟨R.TIM_CFG, 27, 26⟩
abbrev TIM_CFG.NET_SRC : Fld := ⟨R.TIM_CFG, 25, 24⟩
abbrev TIM_CFG.PTM_LOG : Fld := ⟨R.TIM_CFG, 23, 20⟩
abbrev TIM_CFG.PPS_BASE : Fld := ⟨R.TIM_CFG, 19, 18⟩
abbrev TIM_CFG.PPS_W : Fld := ⟨R.TIM_CFG, 17, 8⟩
abbrev TIM_CFG.TEV_DIR : Fld := ⟨R.TIM_CFG, 3, 0⟩
abbrev TIM_STAMP_STATUS.FALLBACK_CNT : Fld := ⟨R.TIM_STAMP_STATUS, 31, 0⟩
abbrev TIM_NET_SET_LO.VALUE : Fld := ⟨R.TIM_NET_SET_LO, 31, 0⟩
abbrev TIM_NET_SET_HI.VALUE : Fld := ⟨R.TIM_NET_SET_HI, 31, 0⟩
abbrev TIM_EVT_CFG.TEV_EDGE : Fld := ⟨R.TIM_EVT_CFG, 7, 0⟩
abbrev TIM_EVT_STATUS.STALL_NEW : Fld := ⟨R.TIM_EVT_STATUS, 21, 16⟩
abbrev TIM_EVT_STATUS.EVT_NEW : Fld := ⟨R.TIM_EVT_STATUS, 8, 0⟩
abbrev TIM_STALL_TIME_LO.TIME (a : Nat) : Fld := ⟨R.TIM_STALL_TIME_LO a, 31, 0⟩
abbrev TIM_STALL_TIME_HI.TIME (a : Nat) : Fld := ⟨R.TIM_STALL_TIME_HI a, 31, 0⟩
abbrev TIM_EVT_TIME_LO.TIME (e : Nat) : Fld := ⟨R.TIM_EVT_TIME_LO e, 31, 0⟩
abbrev TIM_EVT_TIME_HI.TIME (e : Nat) : Fld := ⟨R.TIM_EVT_TIME_HI e, 31, 0⟩
abbrev CRN_TIME_LO.NS : Fld := ⟨R.CRN_TIME_LO, 29, 0⟩
abbrev CRN_TIME_HI.SECONDS : Fld := ⟨R.CRN_TIME_HI, 31, 0⟩
abbrev CRN_SET_LO.VALUE : Fld := ⟨R.CRN_SET_LO, 31, 0⟩
abbrev CRN_SET_HI.VALUE : Fld := ⟨R.CRN_SET_HI, 31, 0⟩
abbrev CRN_CTRL.SET_GO : Fld := ⟨R.CRN_CTRL, 31, 31⟩
abbrev CRN_CTRL.COPY : Fld := ⟨R.CRN_CTRL, 30, 29⟩
abbrev CRN_CTRL.CRN_INVALID : Fld := ⟨R.CRN_CTRL, 28, 28⟩
abbrev CRN_CTRL.TRIM : Fld := ⟨R.CRN_CTRL, 11, 0⟩
abbrev CRN_LAST.SLOT : Fld := ⟨R.CRN_LAST, 15, 8⟩
abbrev CRN_LAST.RESULT : Fld := ⟨R.CRN_LAST, 7, 0⟩
abbrev TET_CFG.EN : Fld := ⟨R.TET_CFG, 31, 31⟩
abbrev TET_CFG.STN_EN : Fld := ⟨R.TET_CFG, 30, 30⟩
abbrev TET_CFG.FEED_MASTER : Fld := ⟨R.TET_CFG, 29, 29⟩
abbrev TET_CFG.STATION : Fld := ⟨R.TET_CFG, 28, 28⟩
abbrev TET_CFG.NODE : Fld := ⟨R.TET_CFG, 27, 24⟩
abbrev TET_CFG.PRIORITY : Fld := ⟨R.TET_CFG, 23, 16⟩
abbrev TET_CFG.SYNC_N : Fld := ⟨R.TET_CFG, 15, 13⟩
abbrev TET_CFG.PD_LOG : Fld := ⟨R.TET_CFG, 12, 10⟩
abbrev TET_CFG.GOV_TIMEOUT : Fld := ⟨R.TET_CFG, 9, 6⟩
abbrev TET_EXPECT.EXPECT : Fld := ⟨R.TET_EXPECT, 15, 0⟩
abbrev TET_STATUS.TIMING_MASTER : Fld := ⟨R.TET_STATUS, 31, 31⟩
abbrev TET_STATUS.FORMED : Fld := ⟨R.TET_STATUS, 30, 30⟩
abbrev TET_STATUS.WRAPPED : Fld := ⟨R.TET_STATUS, 29, 29⟩
abbrev TET_STATUS.REROUTED : Fld := ⟨R.TET_STATUS, 28, 28⟩
abbrev TET_STATUS.FEED_MASTER_CONFLICT : Fld := ⟨R.TET_STATUS, 27, 27⟩
abbrev TET_STATUS.STATION_MASTER_LOST : Fld := ⟨R.TET_STATUS, 26, 26⟩
abbrev TET_STATUS.GOV_LOST : Fld := ⟨R.TET_STATUS, 25, 25⟩
abbrev TET_STATUS.MEMBER_LOST : Fld := ⟨R.TET_STATUS, 24, 24⟩
abbrev TET_STATUS.DUP_NODE : Fld := ⟨R.TET_STATUS, 23, 23⟩
abbrev TET_STATUS.REF_MISMATCH : Fld := ⟨R.TET_STATUS, 22, 22⟩
abbrev TET_STATUS.PERIOD_MISMATCH : Fld := ⟨R.TET_STATUS, 21, 21⟩
abbrev TET_STATUS.MASTER_NODE : Fld := ⟨R.TET_STATUS, 19, 16⟩
abbrev TET_STATUS.MEMBERS : Fld := ⟨R.TET_STATUS, 15, 0⟩
abbrev TET_COUNT.CRC_CNT : Fld := ⟨R.TET_COUNT, 31, 16⟩
abbrev TET_COUNT.DISCARD_CNT : Fld := ⟨R.TET_COUNT, 15, 0⟩
abbrev TET_PORT.UP (p : Nat) : Fld := ⟨R.TET_PORT p, 31, 31⟩
abbrev TET_PORT.NEIGHBOUR (p : Nat) : Fld := ⟨R.TET_PORT p, 30, 27⟩
abbrev TET_PORT.D_IN (p : Nat) : Fld := ⟨R.TET_PORT p, 19, 0⟩
abbrev TET_ASYM.ASYM_ADJ (p : Nat) : Fld := ⟨R.TET_ASYM p, 31, 0⟩
end F

end Sys2Proof.Machine
end

