-- ==== Sys2Proof/Machine/Sparse.lean ====
section
/-! DEFINITION. Sparse tables: a list of (key, value) pairs, keys strictly rising, no value equal to what
an unlisted key reads as. Registers, windows, flash and per-index state are held this way, so that equal
contents are equal data. -/

namespace Sys2Proof.Machine

/-- What key `a` holds; an unlisted key holds `dflt a`. -/
def spGet {β : Type} (dflt : Nat → β) : List (Nat × β) → Nat → β
  | [], a => dflt a
  | (k, v) :: t, a => if k = a then v else spGet dflt t a

/-- Insert at the key's place in the rising order. -/
def spIns {β : Type} (a : Nat) (v : β) : List (Nat × β) → List (Nat × β)
  | [] => [(a, v)]
  | (k, w) :: t => if a < k then (a, v) :: (k, w) :: t else (k, w) :: spIns a v t

/-- Store `v` at key `a`: the canonical form lists it only where it differs from `dflt a`. -/
def spSet {β : Type} [DecidableEq β] (dflt : Nat → β) (m : List (Nat × β)) (a : Nat) (v : β) :
    List (Nat × β) :=
  if v = dflt a then m.filter (fun c => c.1 ≠ a) else spIns a v (m.filter (fun c => c.1 ≠ a))

/-- The canonical form: keys strictly rising from above `lo`, no default value listed. -/
def spWfFrom {β : Type} [DecidableEq β] (dflt : Nat → β) : Option Nat → List (Nat × β) → Bool
  | _, [] => true
  | lo, (k, v) :: t =>
    (match lo with | none => true | some l => decide (l < k)) && decide (v ≠ dflt k) &&
      spWfFrom dflt (some k) t

/-- The canonical form of a sparse table. -/
def spWf {β : Type} [DecidableEq β] (dflt : Nat → β) (m : List (Nat × β)) : Bool := spWfFrom dflt none m

end Sys2Proof.Machine
end

