-- ==== Sys2Proof/Machine/StateBase.lean ====
section
/-! DEFINITION. The pieces of state of the bar, the host interface, Sump, time, Tether and power, as plain
data (spec chapters 2, 10, 11, 12, 17, 18). The registers themselves stand in one sparse table. -/

namespace Sys2Proof.Machine

/-- The modes of Table 1.5 (R445). -/
inductive Mode where
  | boot | standby | calibrate | run | service | dormant
  deriving DecidableEq, Repr

/-- Everything the device issues to the world outside, in order of issue. -/
inductive Out where
  /-- A write to host memory: completion entries, records, status blocks, reports. -/
  | hostWrite (addr : Nat) (bytes : List Byte) (relaxed : Bool)
  /-- A read request to host memory (ring fetches, images, Haul). -/
  | hostRead (addr len : Nat)
  /-- An MSI-X message with the table entry's address and data. -/
  | msix (vector addr data : Nat)
  /-- A start pulse on MSP_g_n (R36, R111). -/
  | startPulse (group out : Nat)
  /-- A strobe on LTN_n_STB: main row or LEAD, width in SERVO clocks (R112, R119). -/
  | strobe (ch on width : Nat)
  /-- A level of LTN_n_SET (R123). -/
  | setLevel (ch code : Nat)
  /-- Gate outputs of an axis: true driven, false high-impedance or off. -/
  | gates (axis : Nat) (on : Bool)
  /-- A chopper phase of a coil (R369). -/
  | coil (axis c : Nat) (phase : String)
  /-- STEP pulses and DIR level (R375). -/
  | step (axis : Nat) (n : Int)
  /-- A level of an output pin the spec names (WAKE_N, MAIN_EN, CRN_OUT, TEV, PPS_OUT, STB, MCK). -/
  | pin (name : String) (n : Nat) (level : Nat)
  /-- A Tether frame sent from a port: 0 E, 1 W. -/
  | frame (port : Nat) (words : List Nat)
  /-- I²C activity on a bus: start, byte, stop, clock pulses. -/
  | i2c (bus : Nat) (what : String) (data : Nat)
  /-- Excitation sources of a housekeeping pattern (R403). -/
  | excite (conv pattern : Nat)
  /-- The value a register or window read returns at an offset of BAR0 (R538, R541). -/
  | readData (off value : Nat)
  /-- A JTAG TDO value. -/
  | tdo (value : Nat)
  /-- Boundary cells drive the pins. -/
  | scanDrive (cells : List Bool)
  /-- The pins float under HIGHZ. -/
  | scanFloat
  /-- The pins return to the functional logic. -/
  | scanRelease
  deriving DecidableEq, Repr

/-! ## The bar record (R63, R64) -/

structure Module where
  id : Nat
  gen : Nat
  role : Nat
  group : Nat
  taps : Nat
  layout : Nat
  map : List Nat
  orient : Nat
  mode : Nat
  spOut : Nat
  photosites : Nat
  blackLead : Nat
  blackTrail : Nat
  overlap : Nat
  tileStart : Nat
  tileCount : Nat
  dummyLead : Nat
  dummyTrail : Nat
  xweb : Int
  aweb : Int
  rate : Nat
  spWidth : Nat
  phase : Nat
  deriving DecidableEq, Repr

structure Bar where
  raw : List Byte
  planes : Nat
  printDist : Nat
  mods : List Module
  deriving DecidableEq, Repr

/-! ## Host link and rings (chapter 11) -/

/-- The PCI Express function's state that the spec's rules read (R276, R279, R280, R450). -/
structure Link where
  up : Bool
  busMaster : Bool
  d3hot : Bool
  relaxed : Bool
  ptm : Bool
  perst : Bool
  wakeN : Bool
  mainEn : Bool
  deriving DecidableEq, Repr

/-- A completion entry's words 0 to 6 and its LATE bit; SQ_HEAD and P join when it is written (R295). -/
structure Cpl where
  words : List Nat
  sq : Option Nat
  late : Bool
  deriving DecidableEq, Repr

/-- A submission ring beside its registers: latched tail, fetch position, last doorbell value, entries
fetched and not started. HEAD and STATE stand in its status register. -/
structure Sq where
  tail : Nat
  fetch : Nat
  db : Nat
  fetched : List (List Word)
  deriving DecidableEq, Repr

/-- A completion ring beside its registers: the host's head, last doorbell value, completions held back
(R290), entries written since the last interrupt (R300). TAIL and PHASE stand in its status register. -/
structure Cq where
  head : Nat
  db : Nat
  held : List Cpl
  unsig : Nat
  deriving DecidableEq, Repr

/-- How an axis of a RESUME came to a standstill: STATUS, DETAIL, position, remaining distance (R294). -/
structure AxisEnd where
  axis : Nat
  status : Nat
  detail : Nat
  pos : Int
  rem : Int
  deriving DecidableEq, Repr

/-- What a started command that has not completed waits for. A RESUME counts the moves that still run. -/
inductive RunKind where
  | ctxStop (ctx : Nat) (missed : Bool)
  | move
  | resume (left : Nat) (ends : List AxisEnd) (adv : Nat)
  | hold (mask : Nat)
  | shadingFull
  | tableLoad (table : Nat)
  | schedule (slot : Nat)
  deriving DecidableEq, Repr

structure Running where
  id : Nat
  src : Src
  kind : RunKind
  deriving DecidableEq, Repr

/-! ## Contexts (chapter 10) -/

/-- A record waiting in Sump (R262, R267): header words but LOST_BEFORE, payload and cells. -/
structure Rec where
  words : List Nat
  lost : Bool
  payload : List Byte
  cells : Nat
  deriving DecidableEq, Repr

/-- The open buffer of a context (R266). -/
structure Buf where
  addr : Nat
  supply : Nat
  used : Nat
  records : Nat
  firstSeq : Nat
  deriving DecidableEq, Repr

/-- A context's run-time state (R264 to R273). `stopCode` is the close reason once a stop has taken effect. -/
structure Ctx where
  state : Nat
  atMissed : Bool
  paceFailed : Bool
  lastResult : Nat
  lastClose : Nat
  nextSeq : Nat
  dropCnt : Nat
  cells : Nat
  records : Nat
  fromSerial : Nat
  toSerial : Option Nat
  fromLine : Option Int
  toLine : Option Int
  draining : Option Nat
  lost : Bool
  buf : Option Buf
  waiting : List Rec
  sq : Option Nat
  overQuota : Nat
  deriving DecidableEq, Repr

/-! ## Sump and governor (chapter 12) -/

/-- Sump's cells by holder, bank map and governor state. `over…`: 0 no lowered limit reported, 1 reported and use
still at or above it, 2 reported and use fallen below it (R311). -/
structure Sump where
  groupUse : List Nat
  survey : Nat
  cal : Nat
  haul : Nat
  bank : List Nat
  spareUsed : Bool
  migrating : Option Nat
  overGroup : List Nat
  overSurvey : Nat
  overHaul : Nat
  holding : Bool
  lanternHold : Bool
  factor : Nat
  deriving DecidableEq, Repr

/-! ## Time, Cairn and Tether (chapter 17) -/

/-- A disciplined base: 112-bit count, frequency and slew, good measurements (R415, R416). -/
structure Base where
  count : Nat
  freq : Int
  slew : Int
  good : Nat
  deriving DecidableEq, Repr

structure Slot where
  action : Nat
  lateDrop : Bool
  base : Nat
  time : Nat
  param : List Nat
  src : Src
  runId : Nat
  late : Bool
  deriving DecidableEq, Repr

/-- A frame's identity among those a node has seen (R432). -/
structure Seen where
  src : Nat
  typ : Nat
  seq : Nat
  deriving DecidableEq, Repr

/-- A Tether port: link lock, whether it carries traffic, t1 of a PD_REQ under way, d_in history. -/
structure Port where
  locked : Bool
  carries : Bool
  t1 : Option Nat
  dins : List Int
  deriving DecidableEq, Repr

structure Tether where
  ports : List Port
  seen : List Seen
  seqs : List Nat
  syncSeq : Nat
  syncPort : Nat
  syncRecv : Nat
  syncSent : Nat
  bestPriority : Nat
  bestId : Nat
  govOk : Nat
  lostHold : Bool
  conflict : Bool
  masterLost : Bool
  sent : List Seen
  ringF : Nat
  ringCap : Nat
  ringHold : Bool
  feedMaster : Option Nat
  masterPeriod : Option Nat
  latchTime : Option Nat
  latchPos : Int
  deriving DecidableEq, Repr

structure Time where
  loc : Base
  net : Base
  host : Base
  trim : Int
  axP : Nat
  axSub : Nat
  axGood : Nat
  axLen : Int
  axNext : Option Nat
  axSince : Nat
  crnSec : Nat
  crnNs : Nat
  crnFrac : Nat
  crnSub : Nat
  tev : List Bool
  deriving DecidableEq, Repr

/-! ## Power (chapter 18) -/

inductive ResetKind where
  | aonLost | aonKept | dormantExit | pin | watchdog | warm | conventional | flr
  deriving DecidableEq, Repr

/-- A mode request in progress (R446). `d3` marks the one that a D3hot transition made. -/
structure ModeReq where
  target : Mode
  d3 : Bool
  deriving DecidableEq, Repr

end Sys2Proof.Machine
end

