-- ==== Sys2Proof/Machine/Bar.lean ====
section
/-! DEFINITION. The bar description record: its layout, the load checks of Table 2.6 in their order, the PLL
factors and the geometry that later chapters read (spec 02_sensor_bar_and_modules.md R36-R41, R61-R71; 05 R134,
R137, R143, R144). -/

namespace Sys2Proof.Machine

/-! ## Layout (Tables 2.4 and 2.5) -/

def parseModule (e : List Byte) : Module :=
  { id := bufNat e 0 1, gen := bufNat e 1 1, role := bufNat e 2 1, group := bufNat e 3 1,
    taps := bufNat e 4 1, layout := bufNat e 5 1, map := (List.range 4).map (fun k => bufNat e (6 + k) 1),
    orient := bufNat e 10 1, mode := bufNat e 11 1, spOut := bufNat e 12 1, photosites := bufNat e 16 2,
    blackLead := bufNat e 18 2, blackTrail := bufNat e 20 2, overlap := bufNat e 22 2,
    tileStart := bufNat e 24 2, tileCount := bufNat e 26 2, dummyLead := bufNat e 28 2,
    dummyTrail := bufNat e 30 2, xweb := bufInt e 32 8, aweb := bufInt e 40 4, rate := bufNat e 44 4,
    spWidth := bufNat e 48 2, phase := bufNat e 50 1 }

def barEntry (raw : List Byte) (i : Nat) : List Byte := (raw.drop (64 + 64 * i)).take 64

def parseBar (raw : List Byte) : Bar :=
  { raw := raw, planes := bufNat raw 9 1, printDist := bufNat raw 12 4,
    mods := (List.range (bufNat raw 8 1)).map (fun i => parseModule (barEntry raw i)) }

/-! ## Geometry -/

def Module.isImage (m : Module) : Bool := m.role = 0
def Module.isLead (m : Module) : Bool := m.role = 1
def Module.isTile (m : Module) : Bool := m.role = 2

def Bar.images (b : Bar) : List Module := b.mods.filter (·.isImage)
def Bar.leads (b : Bar) : List Module := b.mods.filter (·.isLead)
def Bar.tiles (b : Bar) : List Module := b.mods.filter (·.isTile)

/-- Is plane `p` (0 R, 1 G, 2 B, 3 NIR) in PLANES? -/
def Bar.hasPlane (b : Bar) (p : Nat) : Bool := bitOf b.planes p

/-- Planes in increasing order. -/
def Bar.planeList (b : Bar) : List Nat := (List.range 4).filter (fun p => b.hasPlane p)

/-- Photosite `j` is optically black (R137). -/
def Module.black (m : Module) (j : Nat) : Bool :=
  decide (j < m.blackLead) || decide (m.photosites - m.blackTrail ≤ j)

def Module.tile (m : Module) (j : Nat) : Bool :=
  decide (m.tileStart ≤ j) && decide (j < m.tileStart + m.tileCount)

/-- Image or survey photosite (R137): neither black nor tile, of an IMAGE or LEAD module. -/
def Module.picture (m : Module) (j : Nat) : Bool := !m.isTile && !m.black j && !m.tile j

/-- The cross-web index of photosite `j`, and back: the map is its own inverse (R137). -/
def Module.u (m : Module) (j : Nat) : Nat := if m.orient = 0 then j else m.photosites - 1 - j

/-- Cross-web indices of the module's picture photosites. -/
def Module.pictureU (m : Module) : List Nat := (List.range m.photosites).filter (fun u => m.picture (m.u u))

/-- Position of a cross-web index (R137). -/
def Module.pos (m : Module) (u : Nat) : Int := m.xweb + 6000 * u

/-- X0 and XL of R143. -/
def Bar.x0 (b : Bar) : Int :=
  match b.images.head? with
  | some m => m.pos (m.pictureU.headD 0)
  | none => 0

def Bar.xl (b : Bar) : Int :=
  match b.images.getLast? with
  | some m => m.pos (m.pictureU.getLastD 0)
  | none => 0

/-- W, the stitched pixels (R143). -/
def Bar.width (b : Bar) : Nat := (divFloor (b.xl - b.x0) 6000 + 1).toNat

/-- The module and tap that AFE channel `c` of group `g` serves: a Gen A module naming it in TAP_MAP. -/
def Bar.tapOf (b : Bar) (g c : Nat) : Option (Module × Nat) :=
  (b.mods.filter (fun m => m.gen = 1 ∧ m.group = g)).findSome? (fun m =>
    ((List.range m.taps).find? (fun k => m.map.getD k 255 = c)).map (fun k => (m, k)))

/-- The module that names lane pad `n` of group `g`, and the pair or lane number. -/
def Bar.padOf (b : Bar) (g n : Nat) : Option (Module × Nat) :=
  (b.mods.filter (fun m => m.gen ≠ 1 ∧ m.group = g)).findSome? (fun m =>
    ((List.range m.taps).find? (fun k => m.map.getD k 255 = n)).map (fun k => (m, k)))

/-- The tap of photosite `j`: of a Gen A module by its layout (R41), of a Gen C module the lane of its 3-byte unit
(R51); a Gen B module is one tap (R44). -/
def Module.tapOfSite (m : Module) (j : Nat) : Nat :=
  if m.gen = 1 then (if m.layout = 0 then j / (m.photosites / m.taps) else j % m.taps)
  else if m.gen = 3 then j / 2 % m.taps else 0

/-- The place of photosite `j` in its tap's order of arrival. -/
def Module.placeOfSite (m : Module) (j : Nat) : Nat :=
  if m.gen = 1 then (if m.layout = 0 then j % (m.photosites / m.taps) else j / m.taps)
  else if m.gen = 3 then j / 2 / m.taps * 2 + j % 2 else j

/-- Taps that the spec counts: a Gen B module is one. -/
def Module.tapCount (m : Module) : Nat := if m.gen = 2 then 1 else m.taps

/-- Photosites of tap `k` in arrival order. -/
def Module.tapSites (m : Module) (k : Nat) : List Nat :=
  (List.range m.photosites).filter (fun j => m.tapOfSite j = k)

/-! ## PLL factors (R39) -/

/-- The factor pair of a Gen A RATE in kHz: the largest GRP_PLL_MUL that makes GRP_PLL_DIV whole and in range. -/
def pllPair (rate : Nat) : Option (Nat × Nat) :=
  ((List.range 49).map (fun i => 64 - i)).findSome? (fun mul =>
    let n := 25000 * mul
    if rate ≠ 0 ∧ n % rate = 0 ∧ 10 ≤ n / rate ∧ n / rate ≤ 1600 then some (mul, n / rate) else none)

/-- The Gen A entries of a group. -/
def Bar.genA (b : Bar) (g : Nat) : List Module := b.mods.filter (fun m => m.gen = 1 ∧ m.group = g)

/-! ## Load checks (Table 2.6) -/

/-- A failure: code, and the failing entry or none for the header or the whole record. -/
abbrev BarFail := Nat × Option Nat

def inRange (x lo hi : Nat) : Bool := decide (lo ≤ x) && decide (x ≤ hi)

def headerFieldsOk (raw : List Byte) : Bool :=
  inRange (bufNat raw 8 1) 1 64 && inRange (bufNat raw 9 1) 1 15 && decide (bufNat raw 10 2 = 0) &&
    inRange (bufNat raw 12 4) 28346457 170078740 && decide (bufNat raw 56 4 = 0)

/-- A module entry's fields in their own ranges (Table 2.5); `last` marks the last IMAGE entry. -/
def entryFieldsOk (e : List Byte) (i : Nat) (last : Bool) : Bool :=
  let m := parseModule e
  let a := decide (m.gen = 1)
  decide (m.id = i) && inRange m.gen 1 3 && decide (m.role ≤ 2) && decide (m.group ≤ 7) &&
    (if m.gen = 1 then inRange m.taps 1 4 else if m.gen = 2 then inRange m.taps 3 4 else inRange m.taps 1 2) &&
    decide (m.layout ≤ b2n a) &&
    (List.range 4).all (fun k => if k < m.taps then decide (m.map.getD k 0 ≤ (if a then 7 else 3))
      else decide (m.map.getD k 0 = 255)) &&
    decide (m.orient ≤ 1) && decide (m.mode ≤ b2n a) && decide (m.spOut ≤ 7) &&
    (decide (bufNat e 13 1 = 255) || (decide (bufNat e 13 1 ≤ 3) && inRange (bufNat e 14 1) 8 0x77)) &&
    decide (bufNat e 15 1 = 0) && inRange m.photosites 16 8192 &&
    (if m.role = 0 && !last then inRange m.overlap 4 128 else decide (m.overlap = 0)) &&
    decide (m.tileCount ≤ 512) && decide (m.dummyLead ≤ (if a then 255 else 0)) &&
    decide (m.dummyTrail ≤ (if a then 255 else 0)) && inRange m.spWidth 1 255 &&
    (a || decide (m.phase = 0)) && decide (bufNat e 51 1 = 0) && decide (bufNat e 60 4 = 0)

/-- First entry that breaks a check of an entry against those before it. -/
def firstBad (ms : List Module) (bad : List Module → Module → Bool) : Option Nat :=
  (List.range ms.length).find? (fun i =>
    match ms[i]? with
    | some m => bad (ms.take i) m
    | none => false)

/-- R20, R36, R44: a start pulse, a channel, a pad or the Gen B clock taken twice in one group. -/
def overcommit (prev : List Module) (m : Module) : Bool :=
  let same := prev.filter (fun p => p.group = m.group)
  let mine := m.map.take m.taps
  same.any (fun p => p.spOut = m.spOut) ||
    (decide (m.gen = 2) && same.any (fun p => p.gen = 2)) ||
    (same.filter (fun p => decide (p.gen = 1) = decide (m.gen = 1))).any
      (fun p => (p.map.take p.taps).any (fun c => mine.contains c)) ||
    decide (mine.eraseDups.length ≠ mine.length)

def clockConflict (prev : List Module) (m : Module) : Bool :=
  decide (m.gen = 1) && ((prev.any (fun p => p.gen = 1 ∧ p.group = m.group ∧ p.rate ≠ m.rate)) ||
    (inRange m.rate 1000 40000 && (pllPair m.rate).isNone))

def tapDivide (m : Module) : Bool :=
  if m.gen = 1 then decide (m.photosites % m.taps ≠ 0)
  else if m.gen = 3 then decide (m.photosites % (if m.taps = 1 then 2 else 4) ≠ 0) else false

def misplaced (prev : List Module) (m : Module) : Bool :=
  (match prev.getLast? with | some p => decide (m.xweb < p.xweb) | none => false) ||
    (if m.isLead then decide (m.aweb < -4535433) || decide (-2267717 < m.aweb)
     else decide (m.aweb < -1417323) || decide (1417323 < m.aweb)) ||
    (m.isImage && (match (prev.filter (·.isImage)).getLast? with
      | some p => let want := p.xweb + ((p.photosites : Int) - p.overlap) * 6000
                  decide (m.xweb < want - 6000) || decide (want + 6000 < m.xweb)
      | none => false))

/-- The run of tile photosites meets the interval of cross-web indices `[a, b)` (R62). -/
def Module.runMeets (m : Module) (a b : Nat) : Bool :=
  let lo := if m.orient = 0 then m.tileStart else m.photosites - (m.tileStart + m.tileCount)
  let hi := lo + m.tileCount
  decide (0 < m.tileCount) && decide (lo < b) && decide (a < hi)

/-- R62 broken. -/
def blackShort (prev : List Module) (m : Module) : Bool :=
  let nb := m.blackLead + m.blackTrail
  let n := m.photosites
  let endRun := m.tileStart + m.tileCount
  let inner := if m.tileCount = 0 then decide (m.blackLead + 2 ≤ n - m.blackTrail)
    else decide (m.blackLead + 2 ≤ m.tileStart) || decide (endRun + 2 ≤ n - m.blackTrail)
  decide (64 < nb) || (!m.isTile && decide (nb < 4)) || decide (n < nb) ||
    (m.isTile && decide (m.tileCount = 0)) ||
    (decide (0 < m.tileCount) && (decide (n < endRun) || decide (m.tileStart < m.blackLead) ||
      decide (n - m.blackTrail < endRun))) ||
    (m.isImage && (m.runMeets (n - m.overlap) n ||
      (match (prev.filter (·.isImage)).getLast? with
       | some p => m.runMeets 0 p.overlap
       | none => false) || !inner))

def rateLimit (m : Module) : Bool :=
  if m.gen = 1 then !inRange m.rate 1000 40000
  else if m.gen = 2 then !inRange m.rate 20000 100000 else !inRange m.rate 250000 1500000

/-- The checks of Table 2.6 after the mode check, in order; the first failure. `len` is what was loaded. -/
def barFail (raw : List Byte) (len : Nat) : Option BarFail :=
  let b := parseBar raw
  let n := bufNat raw 8 1
  let lastImage := (List.range n).reverse.find? (fun i => bufNat (barEntry raw i) 2 1 = 0)
  let entry (code : Nat) (o : Option Nat) : Option BarFail := o.map (fun i => (code, some i))
  let whole (code : Nat) (bad : Bool) : Option BarFail := if bad then some (code, none) else none
  (whole 2 (raw.take 4 ≠ [0x4C#8, 0x5A#8, 0x42#8, 0x52#8])).orElse fun _ =>
  (whole 3 (bufNat raw 4 2 ≠ 1)).orElse fun _ =>
  (whole 4 (bufNat raw 6 2 ≠ 64 + 64 * n || bufNat raw 6 2 ≠ len)).orElse fun _ =>
  (whole 5 (crc32 (zeroed raw 60 64) ≠ bufNat raw 60 4)).orElse fun _ =>
  (whole 6 (!headerFieldsOk raw)).orElse fun _ =>
  (entry 6 ((List.range n).find? (fun i => !entryFieldsOk (barEntry raw i) i (lastImage = some i)))).orElse fun _ =>
  (whole 7 (262144 < sumN (b.mods.map (·.photosites)))).orElse fun _ =>
  (entry 8 (firstBad b.mods overcommit)).orElse fun _ =>
  (entry 9 (firstBad b.mods clockConflict)).orElse fun _ =>
  (entry 10 (firstBad b.mods (fun _ m => tapDivide m))).orElse fun _ =>
  (entry 11 (firstBad b.mods misplaced)).orElse fun _ =>
  (entry 12 (firstBad b.mods blackShort)).orElse fun _ =>
  (whole 13 (b.images.isEmpty || decide (4 < b.leads.length) || decide (4 < b.tiles.length))).orElse fun _ =>
  entry 14 (firstBad b.mods (fun _ m => rateLimit m))

/-- The bytes that R71 compares: all but header bytes 12 to 63 and entry bytes 13 to 15 and 52 to 59. -/
def geometryBytes (raw : List Byte) : List Byte :=
  raw.take 12 ++ (List.range (bufNat raw 8 1)).flatMap (fun i =>
    let e := barEntry raw i
    e.take 13 ++ (e.drop 16).take 36 ++ e.drop 60)

/-- Does a new record change the geometry (R71)? -/
def geometryChanged (old : Option Bar) (new : List Byte) : Bool :=
  match old with
  | none => true
  | some b => decide (geometryBytes b.raw ≠ geometryBytes new)

end Sys2Proof.Machine
end

