-- ==== Sys2Proof/Config.lean ====
section
/-! DEFINITION. What the spec leaves open and the model keeps open: constants without a body, of which no
proof can know a value. -/

namespace Sys2Proof

/-- Values the spec leaves undefined (log 2): value number `n`, 256 bits of which a use takes the low ones. -/
opaque Config.freeValue : Nat → BitVec 256

end Sys2Proof
end

