-- ==== Sys2Proof/Machine/StateFront.lean ====
section
/-! DEFINITION. The pieces of state of the front end, the lane receivers, Lantern, Gallery, shading and the I²C
controllers, as plain data (spec chapters 2 to 7). -/

namespace Sys2Proof.Machine

/-! ## I²C (R76) -/

/-- A transfer: write bytes and read bytes still due, what the target answers, bytes transferred. -/
structure I2cRun where
  addr : Nat
  wr : Nat
  rd : Nat
  ackAddr : Bool
  ackBytes : Nat
  answer : List Byte
  moved : Nat
  ended : Option Nat
  deriving DecidableEq, Repr

structure I2c where
  tx : List Byte
  rx : List Byte
  run : Option I2cRun
  deriving DecidableEq, Repr

/-! ## Lane receivers (R44 to R59) -/

/-- Per group: clock and lane locks, pad assignment, spare, retirements, missing runs, sampling points. -/
structure Lanes where
  clockLock : Bool
  laneLock : List Bool
  serving : List Nat
  retired : List Nat
  sparePad : Nat
  spareCount : Nat
  spareLock : Bool
  assigned : Bool
  pending : Option Nat
  points : List Int
  deriving DecidableEq, Repr

/-- A start pulse whose line of a tap has not arrived: module, tap, its number since lock, the line set it belongs
to (none for a flush) and its plane. -/
structure Expect where
  module : Nat
  tap : Nat
  pulse : Nat
  serial : Option Nat
  plane : Nat
  deriving DecidableEq, Repr

/-- Consecutive missing lines of a tap in a plane (R59); a Gen C lane is a tap, a Gen B module one tap. -/
structure MissRun where
  module : Nat
  tap : Nat
  plane : Nat
  run : Nat
  deriving DecidableEq, Repr

/-! ## Front end (R78 to R101, R187 to R209, R491) -/

structure AfeCh where
  tapOf : Option Nat
  spare : Bool
  retired : Bool
  powered : Bool
  failed : Bool
  service : Bool
  chkOk : Bool
  lines : Nat
  trims : List Nat
  calMask : Nat
  connecting : Option Nat
  overrun : Bool
  deriving DecidableEq, Repr

/-- One Squeeze point (R203): the three points of the reference check, zero and gain points of a tap's range
code, the two check stimuli of a tap. -/
inductive SqzPoint where
  | refZero | refRef | refGap
  | zero (tap code : Nat)
  | gain (tap code : Nat)
  | chkLo (tap : Nat)
  | chkHi (tap : Nat)
  deriving DecidableEq, Repr

/-- A live step under way: the channel away from its tap, the point's sum and whether it clipped. -/
structure LiveStep where
  ch : Nat
  sum : Nat
  clipped : Bool
  deriving DecidableEq, Repr

structure AfeGrp where
  points : List SqzPoint
  cycling : Bool
  m0 : Option Int
  r0 : Int
  rRef : Int
  fallback : Bool
  chkLo : Nat
  live : Option LiveStep
  target : Nat
  freed : Nat
  mismatches : Nat
  sums : List Int
  injecting : Bool
  deriving DecidableEq, Repr

/-! ## Lantern (R104 to R129) -/

/-- A slot of an exposure sequence: plane, the stamp's distance from the trigger in 10 ns units. -/
structure SeqSlot where
  plane : Nat
  mid : Nat
  deriving DecidableEq, Repr

/-- A sequence under way: the line set it fills, none for a flush. -/
structure SeqRun where
  serial : Option Nat
  deriving DecidableEq, Repr

/-- A trigger: its number among all triggers, line index, grid point (none for timer and soft lines) and the mode it
fell in. -/
structure Trig where
  serial : Nat
  k : Int
  grid : Option Int
  mode : Mode
  deriving DecidableEq, Repr

structure Lantern where
  main : Option SeqRun
  lead : Option SeqRun
  mainQ : List Trig
  leadQ : List Trig
  serial : Nat
  soft : Nat
  lastK : Option Int
  setNow : List Nat
  mainHold : Bool
  leadHold : Bool
  deriving DecidableEq, Repr

/-! ## Gallery (R131 to R158) -/

/-- Raw samples of a tap in a plane, in order of arrival. -/
structure Raw where
  module : Nat
  tap : Nat
  plane : Nat
  codes : List Nat
  deriving DecidableEq, Repr

/-- An invalid tap of a plane line and its reason (Table 5.2), or a tap to reconstruct (R142). -/
structure TapMark where
  module : Nat
  tap : Nat
  plane : Nat
  reason : Nat
  deriving DecidableEq, Repr

/-- A plane line's stamps and its segment jobs. Job states: 0 running, 1 done, 2 failed and replaying, 3 replayed,
4 lost, 5 replayed and lost (R154, R155). -/
structure PlaneRun where
  plane : Nat
  pos : Int
  time : Nat
  job0 : Nat
  job1 : Nat
  late : Bool
  deriving DecidableEq, Repr

/-- Cells of raw samples of a group in a plane, or their refusal (R136). -/
structure RawCells where
  group : Nat
  plane : Nat
  cells : Option Nat
  deriving DecidableEq, Repr

/-- A stage 3 value or a placed pixel: value, INVALID reason (0 valid), rebuilt, filled. -/
structure Px where
  v : Nat
  r : Nat
  reb : Bool
  filled : Bool
  deriving DecidableEq, Repr

/-- Stage 3 values of the line set handed off last, kept for reconstruction (R142). -/
structure Kept where
  module : Nat
  plane : Nat
  px : List Px
  deriving DecidableEq, Repr

/-- A line set with the state its processing starts from (R136). `after` holds the stage 3 values of the line after it
once its reconstruction is complete (`reconDone`). `holes`: module, plane and photosite of raw samples that met an
uncorrectable error (R305). -/
structure LineSet where
  serial : Nat
  lead : Bool
  k : Int
  grid : Option Int
  mode : Mode
  planes : List PlaneRun
  raws : List Raw
  bad : List TapMark
  recon : List TapMark
  rangeChanged : List Nat
  set : Nat
  gains : List (Nat × Nat)
  cells : List RawCells
  ended : Bool
  checked : Bool
  fallback : Bool
  darkShift : Nat
  fade : Nat
  adj : List Int
  handed : Nat
  fresh : Bool
  setChanged : Bool
  mChanged : List Nat
  after : List Kept
  reconDone : Bool
  holes : List (Nat × Nat × Nat)
  deriving DecidableEq, Repr

/-- Dark state of a module and plane (R139). -/
structure Dark where
  module : Nat
  plane : Nat
  dq : Int
  deriving DecidableEq, Repr

/-- A placed line of the alignment history (R146). -/
structure Placed where
  module : Nat
  plane : Nat
  k : Int
  pos : Int
  px : List (Option Px)
  cells : Nat
  deriving DecidableEq, Repr

structure Gallery where
  lines : List LineSet
  done : List LineSet
  dark : List Dark
  fresh : Bool
  freshLead : Bool
  prevK : Option Int
  prevLeadK : Option Int
  prev : List Kept
  hist : List Placed
  roles : List Nat
  nextRoles : Option (List Nat)
  fails : List (List Nat)
  sets : Nat
  verifyCount : Nat
  verifySeg : Nat
  reconLate : Bool
  deriving DecidableEq, Repr

/-! ## Shading (R160 to R184) -/

/-- Tracking accumulation of a module and plane (R178, R179). -/
structure Track where
  module : Nat
  plane : Nat
  sum : Nat
  n : Nat
  m : Nat
  deriving DecidableEq, Repr

/-- Accumulators of SHADING_FULL for a module and plane (R173). -/
structure CalAcc where
  module : Nat
  plane : Nat
  sumC : List Int
  sumD : Int
  off : List Int
  darkRef : Int
  sumV : List Int
  lo : List Int
  hi : List Int
  gain : List Nat
  tileRef : Nat
  deriving DecidableEq, Repr

/-- SHADING_FULL under way (R172). Phases: 0 tile in, 1 dark, 2 white, 3 tile out, 4 commit. `result` is what it
will report. -/
structure ShadCal where
  run : Nat
  phase : Nat
  cfg : Nat
  white : Nat
  spread : Nat
  darkCfg : Nat
  gainMax : Nat
  lines : Nat
  tag : List Nat
  acc : List CalAcc
  activeAt6 : Nat
  result : Nat
  failModule : Nat
  failPlane : Nat
  defects : Nat
  deriving DecidableEq, Repr

/-- Gain multipliers are keyed by 4 × module + plane: results that wait for a line boundary, and those in force.
`shutter` asks for a SHUTTER move at the next servo period: true to the tile position, false back (R172). -/
structure Shading where
  cal : Option ShadCal
  track : List Track
  mNext : List (Nat × Nat)
  mNow : List (Nat × Nat)
  swapSoon : Bool
  shutter : Option Bool
  deriving DecidableEq, Repr

/-! ## Ledger events waiting to be programmed (R487, R489) -/

structure LedgerEvent where
  kind : Nat
  unit : Nat
  src : Nat
  dst : Nat
  reason : Nat
  deriving DecidableEq, Repr

end Sys2Proof.Machine
end

