-- ==== Sys2Proof/Machine/StateAnalysis.lean ====
section
/-! DEFINITION. The pieces of state of Survey, Strata and Flowstone, as plain data (spec chapters 8 and 9). The
Flowstone bins and the advance log stand in their window. -/

namespace Sys2Proof.Machine

/-! ## Survey (R213 to R231) -/

/-- A window's LEAD profile in a LEAD line; `bad` when it holds an INVALID or RECONSTRUCTED pixel (R218). -/
structure SurProf where
  win : Nat
  vals : List Nat
  bad : Bool
  deriving DecidableEq, Repr

/-- A LEAD line of the history: grid point, stamp, profiles. -/
structure SurLine where
  grid : Int
  stamp : Int
  profs : List SurProf
  deriving DecidableEq, Repr

/-- A measurement with history cells: line index, cells held, refusal, and the watch of R227 until the main exposure. -/
structure SurMeas where
  k : Int
  cells : Nat
  refused : Bool
  high : Int
  reversed : Bool
  watching : Bool
  deriving DecidableEq, Repr

/-- A measurement that waits for the engine, with the stage 4 values of the IMAGE modules its windows name. -/
structure SurJob where
  k : Int
  sMain : Int
  time : Nat
  rows : List Kept
  deriving DecidableEq, Repr

/-- D_w and verdicts of R214 from the last arming, the history, the measurements and the next SEQ. -/
structure Survey where
  active : Bool
  passed : List Nat
  lines : List SurLine
  meas : List SurMeas
  jobs : List SurJob
  seq : Nat
  deriving DecidableEq, Repr

/-! ## Strata (R234 to R243) -/

/-- A column mean; none when invalid (R235). -/
structure StrMean where
  win : Nat
  plane : Nat
  k : Int
  mean : Option Nat
  deriving DecidableEq, Repr

/-- A captured line: the stamp of slot 0 and the planes marked under R236. -/
structure StrLine where
  k : Int
  time : Nat
  marked : List Nat
  deriving DecidableEq, Repr

/-- A queued boundary (R237) with its expected line index. -/
structure Boundary where
  swath : Nat
  pos : Int
  adv : Nat
  sens : Nat
  mask : Nat
  kb : Int
  deriving DecidableEq, Repr

/-- The copy of the sensitivity registers while STR_HOLD holds (R334), history, queue, the index of the line reduced last
in this frame, the order check's POS, the next SEQ. -/
structure Strata where
  held : Option (List (Nat × Word))
  means : List StrMean
  lines : List StrLine
  queue : List Boundary
  reached : Option Int
  lastPos : Option Int
  seq : Nat
  deriving DecidableEq, Repr

/-! ## Flowstone (R244 to R253) -/

/-- A measurement that waits for entry: span in counts, absolute error in ticks, gain. -/
structure FlwEntry where
  c0 : Int
  c1 : Int
  e : Int
  gain : Nat
  deriving DecidableEq, Repr

/-- The entry queue, host writes of bins that wait for a servo period, and the number of the next FEED move. -/
structure Flow where
  queue : List FlwEntry
  writes : List (Nat × Nat)
  nextAdv : Nat
  deriving DecidableEq, Repr

end Sys2Proof.Machine
end

