-- ==== Sys2Proof/Machine/StateMotion.lean ====
section
/-! DEFINITION. The pieces of state of the profile generators, the motor drive, the encoders and referencing, as plain
data (spec chapters 14 and 15). -/

namespace Sys2Proof.Machine

/-! ## Moves (R343 to R361) -/

/-- An axis's limits in their register forms (R352). -/
structure Lims where
  vel : Nat
  acc : Nat
  dec : Nat
  jerk : Nat
  edec : Nat
  ejerk : Nat
  deriving DecidableEq, Repr

/-- An axis of a move: the operand of the command, the target and travel in counts once planned, the set-point at
planning, the limits in force. -/
structure MvAxis where
  axis : Nat
  raw : Int
  target : Int
  d : Int
  x0 : Int
  lim : Lims
  deriving DecidableEq, Repr

/-- Who a move answers to: a ring command under way, the referencing of an axis, SHADING_FULL's SHUTTER, an axis that
a superseded coordinated move left, a command that an ABORT of its ring ended, a reset (R461). -/
inductive MoveOwner where
  | cmd (run : Nat)
  | ref (axis : Nat)
  | shutter
  | orphan
  | silent
  deriving DecidableEq, Repr

/-- Why a move stops, by rank (R385): over-current or encoder fault, stall, limit switch, AXS_ESTOP, ABORT, HOLD,
feed-master conflict. -/
inductive StopCause where
  | fault | stall | limit | estop | abort | hold | conflict
  deriving DecidableEq, Repr

structure Move where
  id : Nat
  owner : MoveOwner
  adv : Option Nat
  coord : Bool
  set : Nat
  rev : Bool
  rel : Bool
  axes : List MvAxis
  leader : Nat
  planned : Bool
  s : Int
  braking : Bool
  reversed : Bool
  cause : Option StopCause
  emerg : Bool
  held : Bool
  seg : Nat
  boundary : Bool
  cap : Option Nat
  factor : Nat
  deriving DecidableEq, Repr

/-- A remaining distance that an axis keeps, with the move it belongs to (R294, R356). -/
structure Remain where
  move : Nat
  dist : Int
  set : Nat
  rev : Bool
  adv : Option Nat
  coord : Bool
  mask : Nat
  deriving DecidableEq, Repr

/-! ## Drive (R364 to R376) -/

inductive CoilPhase where
  | off | on | fast | slow | short
  deriving DecidableEq, Repr

/-- A coil: signed demand, chopper phase, and whether its ON phase already ran when the period began (R371). -/
structure Coil where
  demand : Int
  phase : CoilPhase
  whole : Bool
  deriving DecidableEq, Repr

/-- What the gates of an axis do: off, chopper, low sides on, STEP and DIR with ENABLE. -/
inductive Power where
  | off | chop | short | stepDir
  deriving DecidableEq, Repr

/-! ## Referencing (R388 to R391) -/

/-- A referencing procedure: METHOD, direction, set, I_REF, its step, the edge latched in the present seek, its result
once known, the shift already applied. -/
structure RefRun where
  method : Nat
  dir : Int
  set : Nat
  iRef : Nat
  step : Nat
  latch : Option Int
  result : Option Nat
  shift : Int
  deriving DecidableEq, Repr

/-- An axis: profile state x, v, a (R343), the kept distance, the limit set in force last, the servo loop's and the
drive's state, the switch levels' Z companion, the SSI value read last, and referencing. `ended` is how a move of the
referencing procedure ended: `some none` at its target, else its stop. -/
structure Axis where
  x : Int
  v : Int
  a : Int
  kept : Option Remain
  set : Nat
  seg : Nat
  boost : Nat
  dev : Nat
  stallDue : Bool
  still : Nat
  tier : Nat
  tierPend : Nat
  theta : Int
  carry : Int
  power : Power
  coils : List Coil
  eofs : Int
  zLevel : Bool
  ssi : Option Nat
  ref : Option RefRun
  ended : Option (Option StopCause)
  deriving DecidableEq, Repr

end Sys2Proof.Machine
end

