-- ==== Sys2Proof/Machine/StateHaul.lean ====
section
/-! DEFINITION. The pieces of state of Haul and of table loads, as plain data (spec chapter 13; 11 R293). -/

namespace Sys2Proof.Machine

/-- A TABLE_LOAD: the started command, TABLE, image address and length, SWAP. -/
structure Load where
  run : Nat
  table : Nat
  addr : Nat
  len : Nat
  swap : Bool
  deriving DecidableEq, Repr

/-- A queued program: its address, or the load it carries out. -/
structure HaulProg where
  addr : Nat
  load : Option Load
  deriving DecidableEq, Repr

structure HaulCh where
  queue : List HaulProg
  halted : Bool
  deriving DecidableEq, Repr

/-- A LOOP in the stack: its address, the jumps that remain, the passes completed (R328, R329). -/
structure LoopEntry where
  addr : Nat
  left : Nat
  passes : Nat
  deriving DecidableEq, Repr

/-- A transfer under way: its instruction, the pass p, MOVEX's offsets, the element, the bytes done of it, the bytes
left in all, and bytes read from a device source that its bursts have not taken yet. -/
structure Xfer where
  ins : List Nat
  pass : Nat
  idx : List Int
  e : Nat
  off : Nat
  left : Nat
  carry : List Byte
  deriving DecidableEq, Repr

/-- The program that runs: channel, instruction address, loop stack, instructions executed, CMP results, WB_ADDR taken at
the start, pending events and counted requests (R333), the transfer that waits for requests, a WAIT or an END that has
been reached. A load also has its phase (0 move, 1 compare) and the image as first read. -/
structure HaulRun where
  ch : Nat
  pc : Nat
  load : Option Load
  phase : Nat
  stack : List LoopEntry
  executed : Nat
  cmpCnt : Nat
  cmpAddr : Option Nat
  wb : Nat
  events : List Nat
  reqs : List (Nat × Nat)
  xfer : Option Xfer
  waiting : Bool
  img : List Byte
  ended : Bool
  deriving DecidableEq, Repr

/-- Haul: channels, the program the engine runs, loads that wait for a queue slot. -/
structure Haul where
  chans : List (Nat × HaulCh)
  run : Option HaulRun
  loads : List Load
  deriving DecidableEq, Repr

end Sys2Proof.Machine
end

