-- ==== Sys2Proof/Machine/StateHouse.lean ====
section
/-! DEFINITION. The pieces of state of the housekeeping converters, of security and stores, of row repair and of boundary
scan, as plain data (spec chapters 16, 19, 20, 21). -/

namespace Sys2Proof.Machine

/-- What an applied set changed of an entry (R406): input, excitation, gain, filter. -/
structure HkcChange where
  mux : Bool
  exc : Bool
  gain : Bool
  filt : Bool
  deriving DecidableEq, Repr

/-- An entry's filter: joined values with their reason, newest first; values taken in or after the last change pass and that
change's reason; passes of GUARD left; passes until the next output; a change that acts in the next pass. -/
structure HkcEnt where
  hist : List (Int × Nat)
  since : Option Nat
  cause : Nat
  guard : Nat
  emit : Nat
  change : Option HkcChange
  deriving DecidableEq, Repr

/-- A housekeeping converter: the set in force (SEQ_CTRL, SEQ_CFG2, four patterns, then CFG and FILT of each entry), its
entries, the words of its result FIFO. -/
structure Hkc where
  live : List Nat
  ents : List (Nat × HkcEnt)
  fifo : List Nat
  deriving DecidableEq, Repr

/-- An integrator key slot: its digest and its two state bits (R465, R466). -/
structure KeySlot where
  digest : List Byte
  active : Bool
  revoked : Bool
  deriving DecidableEq, Repr

/-- The OTP fields of Table 19.1 that stand outside BG_UV and LEDGER; `seed` none is an unprogrammed ID_SEED. FLAGS has
ROLLBACK_EN in bit 0. -/
structure Otp where
  vroot : List Byte
  seed : Option (List Byte)
  cert : List Byte
  slots : List KeySlot
  rollback : Nat
  flags : Nat
  deriving DecidableEq, Repr

/-- The supervisor image that runs: slot, D, SECURITY_VERSION, BUILD. -/
structure Image where
  slot : Nat
  digest : List Byte
  version : Nat
  build : Nat
  deriving DecidableEq, Repr

/-- The calibration store slot in use. -/
structure StoreSlot where
  slot : Nat
  seq : Nat
  length : Nat
  digest : List Byte
  deriving DecidableEq, Repr

structure Sec where
  otp : Otp
  image : Option Image
  store : Option StoreSlot
  pubkey : List Byte
  challenge : Option (List Byte)
  unlock : Option Nat
  deriving DecidableEq, Repr

/-- The TAP: instruction register and boundary cells. -/
structure Tap where
  ir : Nat
  boundary : List Bool
  deriving DecidableEq, Repr

end Sys2Proof.Machine
end

