-- ==== Sys2Proof/Machine/State.lean ====
section
/-! DEFINITION. The block's whole state: `Dev` is everything but the queue of waiting commands, `State` is
`Dev` and that queue; the state after reset; the two stop reasons. -/

namespace Sys2Proof.Machine

/-- Everything the spec gives the block. Registers: BAR0 address to value (R12); windows: BAR0 address to
byte (R536); flash: flash address to byte (R467). `nak`: the last access of a Haul channel was one that a host access
would have had discarded or recorded (R323). Per-index state stands in sparse tables by index. -/
structure Dev where
  regs : List (Nat × Word)
  ram : List Host.Cell
  flash : List Host.Cell
  shadows : List (Nat × Word)
  msixTab : List (Nat × Word)
  pba : List Nat
  clock : Nat
  free : Nat
  out : List Out
  link : Link
  mode : Mode
  req : Option ModeReq
  rst : Option ResetKind
  bar : Option Bar
  sqs : List (Nat × Sq)
  cqs : List (Nat × Cq)
  rr : List (Nat × Nat)
  nextRun : Nat
  running : List Running
  ctxs : List (Nat × Ctx)
  supplies : List (Nat × List Nat)
  sump : Sump
  time : Time
  slots : List (Nat × Slot)
  tet : Tether
  i2c : List (Nat × I2c)
  lanes : List (Nat × Lanes)
  expects : List Expect
  pulses : List (Nat × Nat)
  misses : List MissRun
  afeCh : List (Nat × AfeCh)
  afeGrp : List (Nat × AfeGrp)
  ltn : Lantern
  gal : Gallery
  shd : Shading
  sur : Survey
  str : Strata
  flw : Flow
  meas : List (Nat × Int)
  axes : List (Nat × Axis)
  moves : List Move
  nextMove : Nat
  servoT : Nat
  haul : Haul
  nak : Bool
  hkc : List (Nat × Hkc)
  hkcCal : Bool
  sec : Sec
  rows : List (Nat × Nat)
  rowErrs : List (Nat × Nat)
  tap : Tap
  ledgerQ : List (List Byte)
  ledger : List (List Byte)
  deriving DecidableEq, Repr

/-- The block with the queue of commands that wait, first in first out. -/
structure State where
  dev : Dev
  pending : List Instr
  deriving DecidableEq, Repr

/-- No command stops the block with a fault: the spec gives every row an effect. -/
inductive Fault where
  deriving DecidableEq, Repr

/-- Refusals. -/
inductive Refusal where
  /-- Raised by an arm of `exec` whose command has no meaning in the model yet. Safe: the run stops. -/
  | notModelled (mnemonic : String)
  deriving DecidableEq, Repr

/-! ## Values of unlisted keys -/

/-- Windows read 0 where nothing was written. DESIGN CHOICE (log 4), unsafe. -/
def ramDflt (_ : Nat) : Byte := 0
/-- Erased NOR flash reads 0xFF. PRESUMED (log 5), unsafe. -/
def flashDflt (_ : Nat) : Byte := 0xFF
/-- R538: shadows are 0. -/
def shadowDflt (_ : Nat) : Word := 0
/-- MSI-X vector control (word 3 of an entry) masks the vector at reset. PRESUMED (log 8), unsafe. -/
def msixDflt (i : Nat) : Word := if i % 4 = 3 then 1 else 0
def sqInit (_ : Nat) : Sq := ⟨0, 0, 0, []⟩
def cqInit (_ : Nat) : Cq := ⟨0, 0, [], 0⟩
def ctxInit (_ : Nat) : Ctx :=
  ⟨0, false, false, 0, 0, 0, 0, 0, 0, 0, none, none, none, none, false, none, [], none, 0⟩
def baseInit : Base := ⟨0, 0, 0, 0⟩
def portInit : Port := ⟨false, false, none, []⟩

def sumpInit : Sump :=
  { groupUse := List.replicate 8 0, survey := 0, cal := 0, haul := 0, bank := List.range 16,
    spareUsed := false, migrating := none, overGroup := List.replicate 8 0, overSurvey := 0,
    overHaul := 0, holding := false, lanternHold := false, factor := 4096 }

/-- TEV output latches are low at reset (DESIGN CHOICE, log 92), unsafe. -/
def timeInit : Time :=
  { loc := baseInit, net := baseInit, host := baseInit, trim := 0, axP := 0, axSub := 0,
    axGood := 0, axLen := 0, axNext := none, axSince := 0, crnSec := 0, crnNs := 0, crnFrac := 0, crnSub := 0,
    tev := List.replicate 4 false }

def tetherInit : Tether :=
  { ports := [portInit, portInit], seen := [], seqs := List.replicate 6 0, syncSeq := 0, syncPort := 0,
    syncRecv := 0, syncSent := 0, bestPriority := 0, bestId := 0, govOk := 0,
    lostHold := false, conflict := false, masterLost := false, sent := [], ringF := 4096, ringCap := 0xFFFFFF,
    ringHold := false, feedMaster := none, masterPeriod := none, latchTime := none, latchPos := 0 }

def i2cInit (_ : Nat) : I2c := ⟨[], [], none⟩

/-- Receiver n serves pad n; receiver 4 is the spare, unassigned (R54). -/
def lanesInit (_ : Nat) : Lanes :=
  { clockLock := false, laneLock := List.replicate 4 false, serving := [0, 1, 2, 3], retired := [],
    sparePad := 0, spareCount := 0, spareLock := false, assigned := false, pending := none,
    points := List.replicate 4 0 }

def pulseInit (_ : Nat) : Nat := 0

/-- Trims at their reset value 0x800 (R85). -/
def trimsInit : List Nat := List.replicate 8 0x08000800

/-- Channel `9 × g + c`: serves tap c; channel 8 holds the spare role (R91). -/
def afeChInit (i : Nat) : AfeCh :=
  { tapOf := if i % 9 < 8 then some (i % 9) else none, spare := i % 9 = 8, retired := false,
    powered := false, failed := false, service := false, chkOk := true, lines := 0, trims := trimsInit, calMask := 0,
    connecting := none, overrun := false }

def afeGrpInit (_ : Nat) : AfeGrp :=
  { points := [], cycling := false, m0 := none, r0 := 0, rRef := 0, fallback := false, chkLo := 0,
    live := none, target := 8, freed := 0, mismatches := 0, sums := [0, 0, 0, 0, 0, 0, 0], injecting := false }

def lanternInit : Lantern :=
  { main := none, lead := none, mainQ := [], leadQ := [], serial := 0, soft := 0, lastK := none,
    setNow := List.replicate 16 0, mainHold := false, leadHold := false }

/-- Roles: 0 SEG0, 1 SEG1, 2 REPLAY, 3 RETIRED (R133). -/
def galleryInit : Gallery :=
  { lines := [], done := [], dark := [], fresh := false, freshLead := false, prevK := none, prevLeadK := none, prev := [], hist := [], roles := [0, 1, 2],
    nextRoles := none, fails := [[], [], []], sets := 0, verifyCount := 0, verifySeg := 0,
    reconLate := false }

def shadingInit : Shading := { cal := none, track := [], mNext := [], mNow := [], swapSoon := false, shutter := none }

def surveyInit : Survey := { active := false, passed := [], lines := [], meas := [], jobs := [], seq := 0 }
def strataInit : Strata := { held := none, means := [], lines := [], queue := [], reached := none, lastPos := none, seq := 0 }
def flowInit : Flow := { queue := [], writes := [], nextAdv := 0 }

/-- An axis after a FUNC-domain reset: position 0, DRIVE_MODE OFF (R461). -/
def axisInit (_ : Nat) : Axis :=
  { x := 0, v := 0, a := 0, kept := none, set := 0, seg := 0, boost := 0, dev := 0, stallDue := false, still := 4096, tier := 0,
    tierPend := 0, theta := 0, carry := 0, power := .off, coils := [⟨0, .off, false⟩, ⟨0, .off, false⟩], eofs := 0,
    zLevel := false, ssi := none, ref := none, ended := none }

def hkcEntInit (_ : Nat) : HkcEnt := ⟨[], none, 0, 0, 0, none⟩

/-- The set in force at reset: the reset values of its registers (R412). -/
def hkcInit (_ : Nat) : Hkc := ⟨[0x001E0A00, 0x00140013] ++ List.replicate 68 0, [], []⟩

def slotEmpty : KeySlot := ⟨List.replicate 64 0, false, false⟩

/-- OTP as the model takes it before production and before any request: nothing programmed (DESIGN CHOICE, log 7), unsafe. -/
def otpInit : Otp := ⟨List.replicate 64 0, none, List.replicate 64 0, List.replicate 4 slotEmpty, 0, 0⟩
def secInit : Sec := ⟨otpInit, none, none, List.replicate 32 0, none, none⟩

/-- R504: Test-Logic-Reset holds IDCODE. -/
def tapInit : Tap := ⟨0x01, []⟩

/-- The block right after power-on reset with the always-on supply lost (R458): in BOOT, every register at
its reset value, nothing in any ring, window, queue or slot. -/
def devReset : Dev :=
  { regs := [], ram := [], flash := [], shadows := [], msixTab := [], pba := [], clock := 0, free := 0,
    out := [], link := ⟨false, false, false, false, false, true, false, true⟩, mode := .boot, req := none,
    rst := none, bar := none, sqs := [], cqs := [], rr := [], nextRun := 0, running := [], ctxs := [],
    supplies := [], sump := sumpInit, time := timeInit, slots := [], tet := tetherInit,
    i2c := [], lanes := [], expects := [], pulses := [], misses := [], afeCh := [], afeGrp := [],
    ltn := lanternInit, gal := galleryInit, shd := shadingInit, sur := surveyInit, str := strataInit, flw := flowInit, meas := [], axes := [], moves := [], nextMove := 0, servoT := 2500, haul := ⟨[], none, []⟩, nak := false,
    hkc := [], hkcCal := false, sec := secInit, rows := [], rowErrs := [], tap := tapInit,
    ledgerQ := [],
    ledger := [] }

def State.reset : State := { dev := devReset, pending := [] }

end Sys2Proof.Machine
end

