-- ==== Sys2Proof/Machine/Ops.lean ====
section
/-! DEFINITION. The named operations every meaning is built from: registers and fields, windows, flags and
interrupts, access errors, MSI-X messages (spec 00_scope.md R12-R15, 11 R300, 23 R535-R542). -/

namespace Sys2Proof.Machine

/-- A meaning: the device's next state; no command stops the block. -/
def State.lift (s : State) (f : Dev → Dev) : Host.Outcome State Fault Refusal :=
  .next { s with dev := f s.dev }

/-! ## Registers -/

def Dev.reg (d : Dev) (a : Nat) : Word := spGet regReset d.regs a

def Dev.setReg (d : Dev) (a : Nat) (w : Word) : Dev := { d with regs := spSet regReset d.regs a w }

/-- A field's value. -/
def Dev.f (d : Dev) (x : Fld) : Nat := bitsOf (d.reg x.addr).toNat x.hi x.lo

/-- A field's value as two's complement. -/
def Dev.fi (d : Dev) (x : Fld) : Int := signed (x.hi + 1 - x.lo) (d.f x)

/-- Is a field nonzero? -/
def Dev.on (d : Dev) (x : Fld) : Bool := d.f x ≠ 0

def Dev.setF (d : Dev) (x : Fld) (v : Nat) : Dev :=
  d.setReg x.addr (BitVec.ofNat 32 (putBits (d.reg x.addr).toNat x.hi x.lo v))

def Dev.setFI (d : Dev) (x : Fld) (v : Int) : Dev := d.setF x (unsigned (x.hi + 1 - x.lo) v)

def Dev.setB (d : Dev) (x : Fld) (b : Bool) : Dev := d.setF x (b2n b)

/-- Largest value of a field. -/
def Fld.max (x : Fld) : Nat := 2 ^ (x.hi + 1 - x.lo) - 1

/-- Add to a saturating counter field. -/
def Dev.count (d : Dev) (x : Fld) (n : Nat) : Dev := d.setF x (min (d.f x + n) x.max)

/-- A 64-bit value held in a LO and a HI register. -/
def Dev.r64 (d : Dev) (lo hi : Nat) : Nat := (d.reg lo).toNat + (d.reg hi).toNat * 2 ^ 32

def Dev.r64i (d : Dev) (lo hi : Nat) : Int := signed 64 (d.r64 lo hi)

def Dev.set64 (d : Dev) (lo hi : Nat) (v : Nat) : Dev :=
  (d.setReg lo (BitVec.ofNat 32 v)).setReg hi (BitVec.ofNat 32 (v / 2 ^ 32))

/-- Is `d.rank` at or above: the order of the domains of Table 0.3, the most lasting lowest. -/
def Domain.rank : Domain → Nat
  | .aon => 0 | .por => 1 | .pin => 2 | .warm => 3 | .func => 4

/-- Return every register of domain `dom`, and of every domain the same resets return, to its reset value. -/
def Dev.resetRegs (d : Dev) (dom : Domain) : Dev :=
  { d with regs := d.regs.filter (fun c => (regDomain c.1).rank < dom.rank) }

/-! ## Windows: byte memory by BAR0 address -/

def Dev.byte (d : Dev) (a : Nat) : Byte := spGet ramDflt d.ram a

def Dev.setByte (d : Dev) (a : Nat) (b : Byte) : Dev := { d with ram := spSet ramDflt d.ram a b }

def Dev.bytes (d : Dev) (a : Nat) : Nat → List Byte
  | 0 => []
  | n + 1 => d.byte a :: d.bytes (a + 1) n

def Dev.setBytes (d : Dev) (a : Nat) : List Byte → Dev
  | [] => d
  | b :: t => (d.setByte a b).setBytes (a + 1) t

/-- A little-endian word of `n` bytes in a window. -/
def Dev.mem (d : Dev) (a n : Nat) : Nat := leNat (d.bytes a n)

def Dev.setMem (d : Dev) (a n v : Nat) : Dev := d.setBytes a (leBytes n v)

/-- Clear a range of a window. -/
def Dev.clearRange (d : Dev) (a n : Nat) : Dev :=
  { d with ram := d.ram.filter (fun c => !(decide (a ≤ c.1) && decide (c.1 < a + n))) }

/-! ## Flash -/

def Dev.flashByte (d : Dev) (a : Nat) : Byte := spGet flashDflt d.flash a

def Dev.setFlash (d : Dev) (a : Nat) : List Byte → Dev
  | [] => d
  | b :: t => { d with flash := spSet flashDflt d.flash a b }.setFlash (a + 1) t

def Dev.flashBytes (d : Dev) (a : Nat) : Nat → List Byte
  | 0 => []
  | n + 1 => d.flashByte a :: d.flashBytes (a + 1) n

/-! ## Windows' bases (Table 23.2) and shading headers (R160) -/

def winHaul : Nat := 0x100000
def winSurvey : Nat := 0x110000
def winStrata : Nat := 0x114000
def winFlow : Nat := 0x120000
def winFlowLog : Nat := 0x121000
def winCtx : Nat := 0x140000
def winCtxState : Nat := 0x180000
def winStore : Nat := 0x200000
def winShade : Nat := 0x800000
/-- Header of physical shading set `s`. -/
def shadeHeader (s : Nat) : Nat := 0x62000 + 0x800 * s

/-! ## Outgoing requests, MSI-X, interrupts -/

def Dev.emit (d : Dev) (o : Out) : Dev := { d with out := d.out ++ [o] }

/-- May the device issue requests on the link (R279, R450, R452)? -/
def Dev.canIssue (d : Dev) : Bool :=
  d.link.up && d.link.busMaster && !d.link.d3hot && decide (d.mode ≠ .dormant)

def Dev.msixWord (d : Dev) (i : Nat) : Nat := (spGet msixDflt d.msixTab i).toNat

def Dev.msixMasked (d : Dev) (v : Nat) : Bool := bitOf (d.msixWord (4 * v + 3)) 0

/-- Raise MSI-X vector `v`: a masked vector, or a link that carries no request, leaves its PBA bit set (R300). -/
def Dev.sendMsi (d : Dev) (v : Nat) : Dev :=
  if d.msixMasked v || !d.canIssue then
    { d with pba := if d.pba.contains v then d.pba else v :: d.pba }
  else
    d.emit (.msix v (d.msixWord (4 * v) + d.msixWord (4 * v + 1) * 2 ^ 32) (d.msixWord (4 * v + 2)))

/-- The AND of TOP_INT_STATUS and TOP_INT_ENABLE (R542). -/
def Dev.intPending (d : Dev) : Bool :=
  (d.reg R.TOP_INT_STATUS) &&& (d.reg R.TOP_INT_ENABLE) ≠ 0

def Dev.errVec (d : Dev) : Dev := d.sendMsi (d.f F.HST_CFG.ERR_VEC)

/-- A block raises its interrupt: bit `b` of TOP_INT_STATUS; an ERR_VEC message when the AND with the enables
goes from zero to nonzero (R542). -/
def Dev.irq (d : Dev) (b : Nat) : Dev :=
  let d' := d.setF ⟨R.TOP_INT_STATUS, b, b⟩ 1
  if !d.intPending && d'.intPending then d'.errVec else d'

/-- The TOP_INT_STATUS bit of the block that holds an address (Table 23.6). -/
def intBitOf (a : Nat) : Nat :=
  if a < 0x10000 then 0
  else if a < 0x11000 then 16 else if a < 0x12000 then 15 else if a < 0x13000 then 17
  else if a < 0x38000 then 2 else if a < 0x50000 then 1 else if a < 0x51000 then 3
  else if a < 0x61000 then 4 else if a < 0x63000 then 5 else if a < 0x71000 then 6
  else if a < 0x72000 then 7 else if a < 0x73000 then 8 else if a < 0x94000 then 9
  else if a < 0xA1000 then 10 else if a < 0xA2000 then 11 else if a < 0xB6000 then 12
  else if a < 0xC4000 then 13 else 14

/-- The device sets a W1C flag: going from 0 to 1 raises the block's interrupt bit (R542). -/
def Dev.flag (d : Dev) (x : Fld) : Dev :=
  if d.on x then d else (d.setF x 1).irq (intBitOf x.addr)

def Dev.flagIf (d : Dev) (b : Bool) (x : Fld) : Dev := if b then d.flag x else d

/-- Kinds of access error (Table 23.4). -/
inductive ErrKind where
  | partialWrite | value | locked | emptyRead | ringOff
  deriving DecidableEq, Repr

def ErrKind.code : ErrKind → Nat
  | .partialWrite => 1 | .value => 2 | .locked => 3 | .emptyRead => 4 | .ringOff => 5

/-- Record an access error of the host or the supervisor (R541); for a Haul channel it is a bus error (R323). -/
def Dev.accessErr (d : Dev) (rq : Req) (bar2 : Bool) (k : ErrKind) (off : Nat) : Dev :=
  match rq with
  | .haul _ => { d with nak := true }
  | _ =>
    let d := d.count F.TOP_ERR_STATUS.ERR_CNT 1
    if d.on F.TOP_ERR_STATUS.ACCESS_ERR then d.flag F.TOP_ERR_STATUS.ERR_OVERRUN
    else
      ((((d.setB F.TOP_ERR_STATUS.SPACE bar2).setB F.TOP_ERR_STATUS.REQUESTER (decide (rq = .supervisor))).setF
        F.TOP_ERR_STATUS.KIND k.code).setF F.TOP_ERR_ADDR.OFFSET off).flag F.TOP_ERR_STATUS.ACCESS_ERR

/-- The next free value of `n` bits: an opaque function of a counter (log 2). -/
def Dev.freeNat (d : Dev) (n : Nat) : Nat × Dev :=
  ((Config.freeValue d.free).toNat % 2 ^ n, { d with free := d.free + 1 })

/-! ## Modes (R445, R548) -/

/-- A command, action or write whose acceptance depends on the mode is accepted only when the mode and the
target of a pending request both accept it (R548). -/
def Dev.modeIn (d : Dev) (ms : List Mode) : Bool :=
  ms.contains d.mode && (match d.req with | none => true | some r => ms.contains r.target)

/-- Do the clocked blocks run: neither BOOT nor DORMANT? -/
def Dev.alive (d : Dev) : Bool := decide (d.mode ≠ .boot) && decide (d.mode ≠ .dormant)

/-- Does the reset let moving axes stop first (Table 18.7)? -/
def ResetKind.stops : ResetKind → Bool
  | .watchdog => true | .warm => true | .conventional => true | .flr => true | _ => false

/-- Does a power-on kind of reset, or RESET_N, hold the device (R456)? -/
def Dev.inReset (d : Dev) : Bool :=
  match d.rst with
  | some k => !k.stops
  | none => false

/-- Is the device answering with its full register and ring space (Table 1.5)? Not while a reset is pending or held. -/
def Dev.awake (d : Dev) : Bool := d.alive && d.rst.isNone

/-- Gallery's slices take roles, shown in GAL_STATUS (R133). -/
def Dev.setRoles (d : Dev) (r : List Nat) : Dev :=
  let d := { d with gal := { d.gal with roles := r } }
  ((d.setF F.GAL_STATUS.ROLE_S0 (r.getD 0 3)).setF F.GAL_STATUS.ROLE_S1 (r.getD 1 3)).setF F.GAL_STATUS.ROLE_S2 (r.getD 2 3)

end Sys2Proof.Machine
end

