-- ==== Sys2Proof/Machine/HaulBase.lean ====
section
/-! DEFINITION. Haul's channels, start queues, request counts and event pulses (spec 13_haul_mover.md R321, R333, R334). -/

namespace Sys2Proof.Machine

def haulChInit (_ : Nat) : HaulCh := ⟨[], false⟩
def Dev.hch (d : Dev) (n : Nat) : HaulCh := spGet haulChInit d.haul.chans n
def Dev.setHch (d : Dev) (n : Nat) (c : HaulCh) : Dev :=
  { d with haul := { d.haul with chans := spSet haulChInit d.haul.chans n c } }
def Dev.setHaulRun (d : Dev) (r : Option HaulRun) : Dev := { d with haul := { d.haul with run := r } }

def Dev.haulFull (d : Dev) (n : Nat) : Bool := decide (4 ≤ (d.hch n).queue.length)

/-- Push a program onto a queue that has room. -/
def Dev.haulPush (d : Dev) (n : Nat) (p : HaulProg) : Dev := d.setHch n { d.hch n with queue := (d.hch n).queue ++ [p] }

/-- A pulse on an event line sets its pending bit for the program that runs; bits clear when a program starts (R333). -/
def Dev.haulEvent (d : Dev) (line : Nat) : Dev :=
  match d.haul.run with
  | some r => d.setHaulRun (some { r with events := if r.events.contains line then r.events else line :: r.events })
  | none => d

/-- A request on a counting line, up to 255. -/
def Dev.haulRequest (d : Dev) (line : Nat) : Dev :=
  match d.haul.run with
  | some r => d.setHaulRun (some { r with reqs := spSet (fun _ => 0) r.reqs line (min 255 (spGet (fun _ => 0) r.reqs line + 1)) })
  | none => d

/-- STR_HOLD and STR_RELEASE (R334). -/
def Dev.strHold (d : Dev) : Dev := { d with str := { d.str with held := some d.regs } }
def Dev.strRelease (d : Dev) : Dev := { d with str := { d.str with held := none } }

/-- A sensitivity coefficient, from the copy while one is held. -/
def Dev.sensOf (d : Dev) (set ink plane : Nat) : Int :=
  let x := F.STR_SENS.SENS set ink plane
  match d.str.held with
  | some c => signed (x.hi + 1 - x.lo) (bitsOf (spGet regReset c x.addr).toNat x.hi x.lo)
  | none => d.fi x

end Sys2Proof.Machine
end

