-- ==== Sys2Proof/Machine/TimeOps.lean ====
section
/-! DEFINITION. Formats of time, the values of the bases and of Cairn, hardware stamps and the passing of one
CTRL clock (spec 17_time_cairn_and_tether.md R413, R415, R421, R423-R425). -/

namespace Sys2Proof.Machine

/-- Binary to decimal (R413): seconds and nanoseconds. -/
def binToDec (v : Nat) : Nat × Nat :=
  let ns := (v % 2 ^ 32 * 1000000000 + 2 ^ 31) / 2 ^ 32
  if ns = 1000000000 then (v / 2 ^ 32 + 1, 0) else (v / 2 ^ 32, ns)

/-- Decimal to binary (R413). -/
def decToBin (sec ns : Nat) : Nat :=
  (sec % 2 ^ 32) * 2 ^ 32 + (ns * 2 ^ 32 + 500000000) / 1000000000

/-- The servo period in force, in SERVO clocks of 10 ns; an accepted SERVO_PERIOD joins it at the next boundary (R344). -/
def Dev.servoPeriod (d : Dev) : Nat := d.servoT

/-- AXIS in nanoseconds: P × T_ns + 10 × c (R421). -/
def Dev.axisNs (d : Dev) : Nat := d.time.axP * (d.servoPeriod * 10) + 10 * (d.time.axSub / 4)

/-- The 64-bit binary value of base 0 LOCAL, 1 NET, 2 HOST, 3 AXIS. -/
def Dev.baseVal (d : Dev) (b : Nat) : Nat :=
  if b = 0 then d.time.loc.count / 2 ^ 48
  else if b = 1 then d.time.net.count / 2 ^ 48
  else if b = 2 then d.time.host.count / 2 ^ 48
  else decToBin (d.axisNs / 1000000000) (d.axisNs % 1000000000)

/-- Cairn's reading: the last tick plus the CTRL clocks since it, never more than 30,517 ns (R425). -/
def Dev.cairn (d : Dev) : Nat × Nat :=
  let ns := d.time.crnNs + min (5 * d.time.crnSub / 2) 30517
  if ns < 1000000000 then (d.time.crnSec % 2 ^ 32, ns) else ((d.time.crnSec + 1) % 2 ^ 32, ns - 1000000000)

/-- STATE of a base: 0 UNLOCKED, 1 LOCKING, 2 LOCKED, 3 HOLDOVER. -/
def Dev.baseState (d : Dev) (b : Nat) : Nat := d.f (F.TIM_BASE_CTRL.STATE b)

/-- The value a stamp takes in the selected base, without the fallback count (R424). -/
def Dev.stampVal (d : Dev) (b : Nat) : Nat :=
  if d.baseState b = 0 then decToBin d.cairn.1 d.cairn.2 else d.baseVal b

/-- The device after taking `n` stamps in base `b`: an UNLOCKED base counts in FALLBACK_CNT (R424). -/
def Dev.stamped (d : Dev) (b n : Nat) : Dev :=
  if d.baseState b = 0 then d.count F.TIM_STAMP_STATUS.FALLBACK_CNT n else d

/-- INC of R415. -/
def timeInc : Int := 3022314549036573

/-- What one CTRL clock adds to a base that runs at `rate` (R415). -/
def rateStep (rate : Int) : Int := timeInc + divFloor (timeInc * rate) (2 ^ 48)

def Base.advance (b : Base) (rate : Int) : Base :=
  { b with count := unsigned 112 ((b.count : Int) + rateStep rate) }

/-- The rate limit of 500 ppm (R415). -/
def rateMax : Int := 140737488355

/-- RATE of a disciplined base (R416). -/
def Base.rate (b : Base) : Int := clampI (b.freq + b.slew) (-rateMax) rateMax

/-- Is the device timing master (R436)? -/
def Dev.timingMaster (d : Dev) : Bool := d.on F.TET_STATUS.TIMING_MASTER

/-- RATE at which NET runs: LOCAL_TRIM on a FREE timing master, else the correction law's (R420). -/
def Dev.netRate (d : Dev) : Int :=
  if d.timingMaster && decide (d.f F.TIM_CFG.NET_SRC = 0) then d.time.trim else d.time.net.rate

/-- The value of base `b`, at its present rate, `n` CTRL clocks after now or before it (R415, R421). -/
def Dev.baseIn (d : Dev) (b : Nat) (n : Int) : Nat :=
  let at64 (x : Base) (rate : Int) : Nat := unsigned 112 ((x.count : Int) + n * rateStep rate) / 2 ^ 48
  if b = 0 then at64 d.time.loc d.time.trim
  else if b = 1 then at64 d.time.net d.netRate
  else if b = 2 then at64 d.time.host d.time.host.rate
  else
    let ns := (d.time.axP * (d.servoPeriod * 10) : Nat) + 10 * divFloor (d.time.axSub + n) 4
    decToBin (divFloor ns 1000000000).toNat (ns % 1000000000).toNat

/-- The stamp of a moment `n` CTRL clocks after now, or before it (R423, R424). -/
def Dev.stampIn (d : Dev) (b : Nat) (n : Int) : Nat :=
  if d.baseState b = 0 then
    let ns : Int := (d.cairn.1 * 1000000000 + d.cairn.2 : Nat) + divFloor (5 * n) 2
    decToBin (divFloor ns 1000000000).toNat (ns % 1000000000).toNat
  else d.baseIn b n

/-- One CTRL clock passes (R415, R421, R425). In DORMANT and while a reset holds the device the bases stand still (R452, R456). -/
def Dev.tick (d : Dev) : Dev :=
  let d := { d with clock := d.clock + 1 }
  if d.mode = .dormant ∨ d.inReset then d
  else
    let t := d.time
    { d with time := { t with
        loc := t.loc.advance t.trim, net := t.net.advance d.netRate, host := t.host.advance t.host.rate,
        axSub := t.axSub + 1, crnSub := t.crnSub + 1 } }

end Sys2Proof.Machine
end

