-- ==== Sys2Proof/Machine/Rings.lean ====
section
/-! DEFINITION. Submission and completion rings: doorbells, fetching, posting, errors, interrupts of rings,
MSI-X and Bus Master Enable (spec 11_host_rings_and_doorbells.md R278-R290, R295, R300, R302). -/

namespace Sys2Proof.Machine

def Dev.sq (d : Dev) (n : Nat) : Sq := spGet sqInit d.sqs n
def Dev.setSq (d : Dev) (n : Nat) (q : Sq) : Dev := { d with sqs := spSet sqInit d.sqs n q }
def Dev.cq (d : Dev) (n : Nat) : Cq := spGet cqInit d.cqs n
def Dev.setCq (d : Dev) (n : Nat) (q : Cq) : Dev := { d with cqs := spSet cqInit d.cqs n q }

/-! ## Completion rings -/

/-- Entries of a completion ring. -/
def Dev.cqSize (d : Dev) (n : Nat) : Nat := 2 ^ d.f (F.HST_CQ_CFG.SIZE_LOG n)

/-- A ring holds at most size − 1 unconsumed entries (R282). -/
def Dev.cqFull (d : Dev) (n : Nat) : Bool :=
  decide ((d.f (F.HST_CQ_STATUS.TAIL n) + 1) % d.cqSize n = (d.cq n).head)

/-- May the device write an entry into CQ `n` now? -/
def Dev.cqTakes (d : Dev) (n : Nat) : Bool :=
  decide (d.f (F.HST_CQ_STATUS.STATE n) = 1) && d.canIssue && !d.cqFull n

/-- Producers bound to CQ `n` wait: the CQ is in ERROR (R285) or holds 64 completions back (R290). -/
def Dev.cqBlocks (d : Dev) (n : Nat) : Bool :=
  decide (d.f (F.HST_CQ_STATUS.STATE n) = 2) || decide (64 ≤ (d.cq n).held.length)

/-- Bytes of a completion entry as written: P in word 7 bit 31, LATE bit 30, SQ_HEAD (R295). -/
def Dev.cplBytes (d : Dev) (n : Nat) (c : Cpl) : List Byte :=
  let h := match c.sq with
    | some q => d.f (F.HST_SQ_STATUS.HEAD q)
    | none => 0
  let w7 := d.f (F.HST_CQ_STATUS.PHASE n) * 2 ^ 31 + b2n c.late * 2 ^ 30 + h
  ((List.range 7).flatMap (fun i => leBytes 4 (c.words.getD i 0))) ++ leBytes 4 w7

/-- The CQ's vector is raised and its count of unsignalled entries restarts (R300). -/
def Dev.cqSignal (d : Dev) (n : Nat) : Dev :=
  (d.setCq n { d.cq n with unsig := 0 }).sendMsi (d.f (F.HST_CQ_CFG.VECTOR n))

/-- Write one entry at the tail, advance tail and phase, and count towards MOD_COUNT (R288, R300). -/
def Dev.cqWrite (d : Dev) (n : Nat) (c : Cpl) : Dev :=
  let t := d.f (F.HST_CQ_STATUS.TAIL n)
  let base := d.r64 (R.HST_CQ_BASE_LO n) (R.HST_CQ_BASE_HI n)
  let d1 := d.emit (.hostWrite (base + 32 * t) (d.cplBytes n c) false)
  let wrap := decide (t + 1 = d.cqSize n)
  let d2 := (d1.setF (F.HST_CQ_STATUS.TAIL n) (if wrap then 0 else t + 1)).setF (F.HST_CQ_STATUS.PHASE n)
    (if wrap then 1 - d.f (F.HST_CQ_STATUS.PHASE n) else d.f (F.HST_CQ_STATUS.PHASE n))
  let u := (d.cq n).unsig + 1
  let d3 := d2.setCq n { d2.cq n with unsig := u }
  if max 1 (d.f (F.HST_CQ_CFG.MOD_COUNT n)) ≤ u then d3.cqSignal n else d3

/-- A producer finds CQ `n` with 64 completions held back: CQ_FULL (R290). -/
def Dev.cqWaits (d : Dev) (n : Nat) : Dev :=
  d.flagIf (decide (64 ≤ (d.cq n).held.length) && d.on (F.HST_CQ_CFG.EN n)) (F.HST_CQ_STATUS.CQ_FULL n)

/-- Post an entry: written at once, or held back in order; the held entries reaching 64 set CQ_FULL (R290). -/
def Dev.post (d : Dev) (n : Nat) (c : Cpl) : Dev :=
  let q := d.cq n
  if q.held.isEmpty && d.cqTakes n then d.cqWrite n c
  else (d.setCq n { q with held := q.held ++ [c] }).cqWaits n

/-- Write the oldest held completion if the CQ takes it. -/
def Dev.completionWrite (d : Dev) (n : Nat) : Dev :=
  match (d.cq n).held with
  | [] => d
  | c :: t => if d.cqTakes n then (d.setCq n { d.cq n with held := t }).cqWrite n c else d

/-! ## Command completions (Table 11.6) -/

/-- What a command's completion carries. -/
structure CmdRes where
  status : Nat := 0
  detail : Nat := 0
  info   : Nat := 0
  a      : Nat := 0
  b      : Nat := 0
  c      : Nat := 0
  late   : Bool := false
  deriving DecidableEq, Repr

/-- STATUS codes (Table 11.7). -/
def stOk : CmdRes := {}
def stInvalidOpcode : CmdRes := { status := 1 }
def stInvalidField (w : Nat) : CmdRes := { status := 2, info := w }
def stCode (c : Nat) : CmdRes := { status := 3, detail := c }
def stAborted : CmdRes := { status := 4 }
def stWrongMode : CmdRes := { status := 5 }
def stAxisStopped (cause : Nat) : CmdRes := { status := 6, detail := cause }
def stLateDropped : CmdRes := { status := 7 }

/-- A result code of a command's own table: 0 completes OK (Table 11.7). -/
def stResult (c : Nat) : CmdRes := if c = 0 then stOk else stCode c

def cmdCpl (src : Src) (o : CmdRes) : Cpl :=
  { words := [src.cid.val * 2 ^ 16 + src.sq.val * 2 ^ 10 + o.status, o.detail * 2 ^ 24 + o.info % 2 ^ 24,
      o.a % 2 ^ 32, o.a / 2 ^ 32 % 2 ^ 32, o.b % 2 ^ 32, o.b / 2 ^ 32 % 2 ^ 32, o.c % 2 ^ 32],
    sq := some src.sq.val, late := o.late }

/-- Post a command's completion entry in the CQ of its SQ. -/
def Dev.complete (d : Dev) (src : Src) (o : CmdRes) : Dev :=
  d.post (d.f (F.HST_SQ_CFG.CQ src.sq.val)) (cmdCpl src o)

/-- As `complete`, with QUIET: no entry on success (R291). -/
def Dev.completeQuiet (d : Dev) (src : Src) (o : CmdRes) : Dev :=
  if src.quiet && decide (o.status = 0) then d else d.complete src o

/-- Enter a started command that completes later. -/
def Dev.startRun (d : Dev) (src : Src) (k : RunKind) : Dev :=
  { d with running := d.running ++ [⟨d.nextRun, src, k⟩], nextRun := d.nextRun + 1 }

def Dev.dropRun (d : Dev) (id : Nat) : Dev :=
  { d with running := d.running.filter (fun r => r.id ≠ id) }

/-- Complete started command `id`, if it still runs. -/
def Dev.finish (d : Dev) (id : Nat) (o : CmdRes) : Dev :=
  match d.running.find? (fun r => r.id = id) with
  | some r => (d.dropRun id).complete r.src o
  | none => d

/-- A buffer completion entry (type 1). -/
def bufCpl (ctx close supply bytes records tag addr firstSeq : Nat) : Cpl :=
  { words := [ctx * 2 ^ 20 + close * 2 ^ 16 + supply * 2 ^ 10 + 2 ^ 8, bytes % 2 ^ 25, records % 2 ^ 32, tag,
      addr % 2 ^ 32, addr / 2 ^ 32, firstSeq % 4096], sq := none, late := false }

/-! ## Submission rings -/

def Dev.sqSize (d : Dev) (n : Nat) : Nat := 2 ^ d.f (F.HST_SQ_CFG.SIZE_LOG n)

/-- Entries latched and not yet fetched. -/
def Dev.sqToFetch (d : Dev) (n : Nat) : Nat :=
  ((d.sq n).tail + d.sqSize n - (d.sq n).fetch) % d.sqSize n

/-- IDLE or ACTIVE after a change of head, tail or fetched entries (R284). -/
def Dev.sqRefresh (d : Dev) (n : Nat) : Dev :=
  let s := d.f (F.HST_SQ_STATUS.STATE n)
  if s = 1 ∨ s = 2 then
    d.setF (F.HST_SQ_STATUS.STATE n)
      (if (d.sq n).fetched.isEmpty && decide (d.sqToFetch n = 0) then 1 else 2)
  else d

/-- Register and bit of SQ `n` in HST_SQ_ERR. -/
def sqErrBit (n : Nat) : Fld :=
  ⟨if n < 32 then R.HST_SQ_ERR_LO else R.HST_SQ_ERR_HI, n % 32, n % 32⟩

/-- An SQ enters ERROR with a cause and a failing address, raises the error vector and posts a ring event
entry (R285, R286). -/
def Dev.sqError (d : Dev) (n cause addr : Nat) : Dev :=
  let d := ((d.setF (F.HST_SQ_STATUS.STATE n) 3).setF (F.HST_SQ_STATUS.CAUSE n) cause).setF (sqErrBit n) 1
  let d := (d.set64 (R.HST_SQ_ERR_ADDR_LO n) (R.HST_SQ_ERR_ADDR_HI n) addr).irq 9
  d.post (d.f (F.HST_SQ_CFG.CQ n))
    { words := [n * 2 ^ 10 + 2 * 2 ^ 8 + 8, cause * 2 ^ 24, addr % 2 ^ 32, addr / 2 ^ 32, 0, 0, 0],
      sq := none, late := false }

/-- The ring is emptied and becomes DISABLED: head takes the latched tail, entries not started go (R287). -/
def Dev.sqEmpty (d : Dev) (n : Nat) : Dev :=
  let q := d.sq n
  let d := d.setSq n { q with fetch := q.tail, fetched := [] }
  ((d.setF (F.HST_SQ_STATUS.HEAD n) q.tail).setF (F.HST_SQ_STATUS.STATE n) 0).setF (sqErrBit n) 0

/-- A doorbell write that is not a full word, or to a ring whose EN = 0 (R278). -/
def Dev.doorbellRefused (d : Dev) (full en : Bool) (off : Nat) : Dev :=
  if !full then d.accessErr .host true .partialWrite off
  else if !en then d.accessErr .host true .ringOff off else d

/-- SQ doorbell (R278, R282, R285). -/
def Dev.sqDoorbell (d : Dev) (n : Nat) (v : Word) (full : Bool) : Dev :=
  if !d.awake then d
  else if !full || !d.on (F.HST_SQ_CFG.EN n) then d.doorbellRefused full (d.on (F.HST_SQ_CFG.EN n)) (0x1000 * n)
  else
    let t := v.toNat % 65536
    let q := d.sq n
    if d.sqSize n ≤ t then (d.setSq n { q with db := v.toNat }).sqError n 5 0
    else ((d.setSq n { q with tail := t, db := v.toNat }).sqRefresh n).cqWaits (d.f (F.HST_SQ_CFG.CQ n))

/-- CQ doorbell: the new head lies from the present head to the tail, wrapping, or the CQ enters ERROR (R285). -/
def Dev.cqDoorbell (d : Dev) (n : Nat) (v : Word) (full : Bool) : Dev :=
  if !d.awake then d
  else if !full || !d.on (F.HST_CQ_CFG.EN n) then
    d.doorbellRefused full (d.on (F.HST_CQ_CFG.EN n)) (0x40000 + 0x1000 * n)
  else
    let h := v.toNat % 65536
    let q := d.cq n
    let size := d.cqSize n
    let t := d.f (F.HST_CQ_STATUS.TAIL n)
    let d := d.setCq n { q with db := v.toNat }
    if size ≤ h ∨ (t + size - q.head) % size < (h + size - q.head) % size then
      if d.f (F.HST_CQ_STATUS.STATE n) = 2 then d
      else (d.setF (F.HST_CQ_STATUS.STATE n) 2).irq 9
    else d.setCq n { d.cq n with head := h }

/-- SQ `n` may fetch: enabled, not in ERROR, its CQ takes producers, the link carries requests. -/
def Dev.sqFetches (d : Dev) (n : Nat) : Bool :=
  let s := d.f (F.HST_SQ_STATUS.STATE n)
  decide (s = 1 ∨ s = 2) && !d.cqBlocks (d.f (F.HST_SQ_CFG.CQ n)) && d.canIssue && d.awake

/-- One read request of entries: at most 8, up to the latched tail, never across the end of the ring (R284). -/
def Dev.sqFetchCount (d : Dev) (n : Nat) : Nat :=
  min 8 (min (d.sqToFetch n) (d.sqSize n - (d.sq n).fetch))

def Dev.sqFetchAddr (d : Dev) (n : Nat) : Nat :=
  d.r64 (R.HST_SQ_BASE_LO n) (R.HST_SQ_BASE_HI n) + 64 * (d.sq n).fetch

/-- The device fetches SQ entries: `entries` is what host memory holds at the fetch position (R284). -/
def Dev.sqFetch (d : Dev) (n : Nat) (entries : List (List Word)) : Dev :=
  let k := d.sqFetchCount n
  if !d.sqFetches n || decide (k = 0) then d.sqRefresh n
  else
    let q := d.sq n
    let got := (List.range k).map (fun i => entries.getD i [])
    ((d.emit (.hostRead (d.sqFetchAddr n) (64 * k))).setSq n
      { q with fetch := (q.fetch + k) % d.sqSize n, fetched := q.fetched ++ got }).sqRefresh n

/-- A fetch that meets a timeout or an error: causes 1 to 4 of Table 11.10 (R286). -/
def Dev.sqFetchError (d : Dev) (n cause : Nat) : Dev :=
  if !d.sqFetches n || decide (d.sqFetchCount n = 0) then d
  else (d.emit (.hostRead (d.sqFetchAddr n) (64 * d.sqFetchCount n))).sqError n cause (d.sqFetchAddr n)

/-! ## Ring configuration (R287, R288, R302) -/

/-- A ring CFG write changes EN alone while EN = 1, and SIZE_LOG lies in 4 to 16; else it is discarded. -/
def Dev.cfgRefused (d : Dev) (rq : Req) (en : Fld) (v : Word) : Option Dev :=
  let size := v.toNat % 32
  if size < 4 ∨ 16 < size then some (d.accessErr rq false .value en.addr)
  else if d.on en && decide ((v ||| 0x80000000#32) ≠ d.reg en.addr) then
    some (d.accessErr rq false .locked en.addr)
  else none

/-- HST_SQ_CFG_n: fields EN, PRIO, CQ, SIZE_LOG of the written word. -/
def Dev.sqCfgWrite (d : Dev) (rq : Req) (n : Nat) (w : Word) : Dev :=
  let v := w &&& 0xE03F001F#32
  match d.cfgRefused rq (F.HST_SQ_CFG.EN n) v with
  | some d' => d'
  | none =>
    let was := d.on (F.HST_SQ_CFG.EN n)
    let d := d.setReg (R.HST_SQ_CFG n) v
    let now := d.on (F.HST_SQ_CFG.EN n)
    if now && !was then
      ((d.setSq n { d.sq n with tail := 0, fetch := 0, fetched := [] }).setF (F.HST_SQ_STATUS.HEAD n) 0).setF
        (F.HST_SQ_STATUS.STATE n) 1
    else if !now && was then d.sqEmpty n else d

/-- HST_CQ_CFG_n: fields EN, VECTOR, MOD_COUNT, SIZE_LOG of the written word. -/
def Dev.cqCfgWrite (d : Dev) (rq : Req) (n : Nat) (w : Word) : Dev :=
  let v := w &&& 0xFF0FF01F#32
  match d.cfgRefused rq (F.HST_CQ_CFG.EN n) v with
  | some d' => d'
  | none =>
    let was := d.on (F.HST_CQ_CFG.EN n)
    let d := d.setReg (R.HST_CQ_CFG n) v
    let now := d.on (F.HST_CQ_CFG.EN n)
    if now && !was then
      (((d.setCq n { d.cq n with head := 0, unsig := 0 }).setF (F.HST_CQ_STATUS.TAIL n) 0).setF
        (F.HST_CQ_STATUS.PHASE n) 1).setF (F.HST_CQ_STATUS.STATE n) 1
    else if !now && was then d.setF (F.HST_CQ_STATUS.STATE n) 0 else d

/-! ## Interrupt timer, MSI-X, Bus Master Enable -/

/-- MOD_TIME has passed since the first unsignalled entry (R300). -/
def Dev.modTime (d : Dev) (n : Nat) : Dev :=
  if d.f (F.HST_CQ_MOD.MOD_TIME n) = 0 ∨ (d.cq n).unsig = 0 then d else d.cqSignal n

/-- Send the message of vector `v` if its PBA bit is set and nothing holds it back. -/
def Dev.pbaSend (d : Dev) (v : Nat) : Dev :=
  if d.pba.contains v && !d.msixMasked v && d.canIssue then
    { d with pba := d.pba.filter (· ≠ v) }.sendMsi v
  else d

/-- A write of an MSI-X table word; unmasking a vector whose PBA bit is set sends its message (R300). -/
def Dev.msixWrite (d : Dev) (i : Nat) (w : Word) : Dev :=
  { d with msixTab := spSet msixDflt d.msixTab i w }.pbaSend (i / 4)

def Dev.msixUnmask (d : Dev) (v : Nat) : Dev :=
  d.msixWrite (4 * v + 3) (BitVec.ofNat 32 (d.msixWord (4 * v + 3)) &&& 0xFFFFFFFE#32)

/-- Bus Master Enable changes: with 1, fetching and posting resume where they stopped (R279). -/
def Dev.setBusMaster (d : Dev) (on : Bool) : Dev :=
  let d := { d with link := { d.link with busMaster := on } }
  d.pba.foldl (fun d v => d.pbaSend v) d

/-! ## Meanings -/

def execSqDoorbell (sq : Fin 64) (v : Word) (full : Bool) (s : State) : Host.Outcome State Fault Refusal :=
  s.lift (·.sqDoorbell sq v full)

def execCqDoorbell (cq : Fin 64) (v : Word) (full : Bool) (s : State) : Host.Outcome State Fault Refusal :=
  s.lift (·.cqDoorbell cq v full)

def execSqFetch (sq : Fin 64) (entries : List (List Word)) (s : State) : Host.Outcome State Fault Refusal :=
  s.lift (·.sqFetch sq entries)

def execCplTimeout (sq : Fin 64) (s : State) : Host.Outcome State Fault Refusal :=
  s.lift (·.sqFetchError sq 1)

/-- `cause`: 0 UNSUPPORTED_REQUEST, 1 COMPLETER_ABORT, 2 POISONED. -/
def execRingError (sq : Fin 64) (cause : Fin 3) (s : State) : Host.Outcome State Fault Refusal :=
  s.lift (·.sqFetchError sq (cause.val + 2))

def execCompletionWrite (cq : Fin 64) (s : State) : Host.Outcome State Fault Refusal :=
  s.lift (·.completionWrite cq)

def execInterruptModTime (cq : Fin 64) (s : State) : Host.Outcome State Fault Refusal :=
  s.lift (·.modTime cq)

def execMsixUnmask (vector : Fin 128) (s : State) : Host.Outcome State Fault Refusal :=
  s.lift (·.msixUnmask vector)

def execBusMasterEnable (on : Bool) (s : State) : Host.Outcome State Fault Refusal :=
  s.lift (·.setBusMaster on)

def execSqCfgWrite (rq : Req) (sq : Fin 64) (v : Word) (s : State) : Host.Outcome State Fault Refusal :=
  s.lift (fun d => if d.awake then d.sqCfgWrite rq sq v else d)

def execCqCfgWrite (rq : Req) (cq : Fin 64) (v : Word) (s : State) : Host.Outcome State Fault Refusal :=
  s.lift (fun d => if d.awake then d.cqCfgWrite rq cq v else d)

end Sys2Proof.Machine
end

