-- ==== Sys2Proof/Machine/Sump.lean ====
section
/-! DEFINITION. Sump: cells in use by each holder, grants, quotas and their reports, ECC events (spec
12_sump_and_governor.md R303-R312, R320). -/

namespace Sys2Proof.Machine

/-! ## Context table entries (R255) -/

def ctxEntry (n : Nat) : Nat := winCtx + 64 * n

/-- Word `w` of a context's entry. -/
def Dev.ctxWord (d : Dev) (n w : Nat) : Nat := d.mem (ctxEntry n + 4 * w) 4

def Dev.ctxField (d : Dev) (n w hi lo : Nat) : Nat := bitsOf (d.ctxWord n w) hi lo

def Dev.ctxQuota (d : Dev) (n : Nat) : Nat := d.ctxField n 1 12 0
def Dev.ctxPace (d : Dev) (n : Nat) : Bool := d.ctxField n 0 22 22 = 1

/-- A signed 64-bit entry field in words `w` and `w + 1`. -/
def Dev.ctx64 (d : Dev) (n w : Nat) : Int := signed 64 (d.mem (ctxEntry n + 4 * w) 8)

def Dev.ctx (d : Dev) (n : Nat) : Ctx := spGet ctxInit d.ctxs n
def Dev.setCtx (d : Dev) (n : Nat) (c : Ctx) : Dev := { d with ctxs := spSet ctxInit d.ctxs n c }

/-! ## Use and free cells (R306-R308) -/

def Dev.groupReserve (d : Dev) (g : Nat) : Nat := d.f (F.SMP_GRP_RESERVE.RESERVE g)
def Dev.groupUse (d : Dev) (g : Nat) : Nat := d.sump.groupUse.getD g 0

def Dev.ctxUseAll (d : Dev) : Nat := sumN (d.ctxs.map (fun c => c.2.cells))

def Dev.sumpUsed (d : Dev) : Nat :=
  sumN ((List.range 8).map d.groupUse) + d.ctxUseAll + d.sump.survey + d.sump.cal + d.sump.haul

def Dev.sumpFree (d : Dev) : Int :=
  4096 - sumN ((List.range 8).map (fun g => max (d.groupUse g) (d.groupReserve g)))
    - (d.ctxUseAll + d.sump.survey + d.sump.cal + d.sump.haul : Nat)

/-- Keep PEAK and USED up with the cells in use. -/
def Dev.sumpNote (d : Dev) : Dev :=
  let u := d.sumpUsed
  (d.setF F.SMP_POOL_STATUS.USED u).setF F.SMP_POOL_STATUS.PEAK (max u (d.f F.SMP_POOL_STATUS.PEAK))

/-- Report that a lowered limit was left at or below use (R311). -/
def Dev.quotaEvent (d : Dev) (kind holder : Nat) : Dev :=
  (((d.setF F.SMP_QUOTA_EVENT.KIND kind).setF F.SMP_QUOTA_EVENT.HOLDER holder).count F.SMP_COUNT.QEX_CNT 1).flag
    F.SMP_QUOTA_EVENT.QUOTA_EXCEEDED

/-- The report state after use changed to `use` under `limit`, and whether to report now (R311). -/
def quotaTrack (st use limit : Nat) : Nat × Bool :=
  if st = 1 then (if use < limit then (2, false) else (1, false))
  else if st = 2 then (if limit ≤ use then (1, true) else (2, false))
  else (0, false)

/-- The report state after the limit changed. -/
def quotaLimit (st use old new : Nat) : Nat × Bool :=
  if old < new then (if use < new then 0 else st, false)
  else if new < old ∧ new ≤ use ∧ st ≠ 1 then (1, true)
  else (st, false)

def Dev.reportIf (d : Dev) (b : Bool) (kind holder : Nat) : Dev := if b then d.quotaEvent kind holder else d

def Dev.setCtxCells (d : Dev) (n cells : Nat) : Dev :=
  let c := d.ctx n
  let q := quotaTrack c.overQuota cells (d.ctxQuota n)
  ((d.setCtx n { c with cells := cells, overQuota := q.1 }).reportIf q.2 0 n).sumpNote

def Dev.setGroupUse (d : Dev) (g use : Nat) : Dev :=
  let q := quotaTrack (d.sump.overGroup.getD g 0) use (d.groupReserve g)
  ({ d with sump := { d.sump with groupUse := d.sump.groupUse.set g use,
                                  overGroup := d.sump.overGroup.set g q.1 } }.setF
    (F.SMP_GRP_RESERVE.USED g) use).reportIf q.2 1 g |>.sumpNote

def Dev.surveyQuota (d : Dev) : Nat := d.f F.SUR_QUOTA.QUOTA

def Dev.setSurveyUse (d : Dev) (use : Nat) : Dev :=
  let q := quotaTrack d.sump.overSurvey use d.surveyQuota
  ({ d with sump := { d.sump with survey := use, overSurvey := q.1 } }.reportIf q.2 2 0).sumpNote

/-- HAUL_QUOTA; 0 acts as 1 (Table 12.10). -/
def Dev.haulQuota (d : Dev) : Nat := max 1 (d.f F.SMP_HAUL_QUOTA.HAUL_QUOTA)

def Dev.setHaulUse (d : Dev) (use : Nat) : Dev :=
  let q := quotaTrack d.sump.overHaul use d.haulQuota
  ({ d with sump := { d.sump with haul := use, overHaul := q.1 } }.reportIf q.2 3 0).sumpNote

def Dev.setCalUse (d : Dev) (use : Nat) : Dev := { d with sump := { d.sump with cal := use } }.sumpNote

/-! ## Grants (R308) -/

def Dev.ctxGrants (d : Dev) (n cells : Nat) : Bool :=
  decide ((d.ctx n).cells + cells ≤ d.ctxQuota n) && decide ((cells : Int) ≤ d.sumpFree)

def Dev.groupGrants (d : Dev) (g n : Nat) : Bool :=
  let u := d.groupUse g
  let r := d.groupReserve g
  if u + n ≤ r then true
  else if u < r then decide (((u + n - r : Nat) : Int) ≤ d.sumpFree)
  else decide ((n : Int) ≤ d.sumpFree)

def Dev.surveyGrants (d : Dev) (n : Nat) : Bool :=
  decide (d.sump.survey + n ≤ d.surveyQuota) && decide ((n : Int) ≤ d.sumpFree)

def Dev.calGrants (d : Dev) (n : Nat) : Bool := decide ((n : Int) ≤ d.sumpFree)

def Dev.haulGrants (d : Dev) (n : Nat) : Bool :=
  decide (d.sump.haul + n ≤ d.haulQuota) && decide ((n : Int) ≤ d.sumpFree)

/-! ## Record sizes (R259, R260) -/

/-- Bytes of a record with this payload: 32 of header, rounded up to 32. -/
def recordBytes (payload : Nat) : Nat := (32 + payload + 31) / 32 * 32

def recordCells (payload : Nat) : Nat := (recordBytes payload + 4095) / 4096

def binOf (code : Nat) : Nat := if code = 0 then 1 else if code = 1 then 2 else 4

/-- Sample width f of a FORMAT code. -/
def widthOf (fmt : Nat) : Nat := if fmt = 0 then 8 else if fmt = 1 then 10 else if fmt = 2 then 12 else 16

def Dev.ctxSamples (d : Dev) (n : Nat) : Nat := d.ctxField n 3 18 0 / binOf (d.ctxField n 0 27 26)

/-- Payload bytes of a line record (R260). -/
def linePayload (samples fmt : Nat) (packed : Bool) : Nat :=
  if fmt = 0 then samples
  else if fmt = 3 ∨ !packed then 2 * samples
  else (widthOf fmt * samples + 7) / 8

/-- Payload bytes of the largest record of a context. -/
def Dev.ctxLargest (d : Dev) (n : Nat) : Nat :=
  let line := if d.ctxField n 0 31 28 = 0 then 0
    else linePayload (d.ctxSamples n) (d.ctxField n 0 25 24) (d.ctxField n 0 23 23 = 1)
  let mark := if d.ctxField n 0 15 15 = 1 then 32 else 0
  let att := if d.ctxField n 0 17 16 ≠ 0 then 64 else 0
  max line (max mark att)

/-! ## Quota changes (R311, R312) -/

/-- A new QUOTA of a context, with the report of R311. -/
def Dev.setQuota (d : Dev) (n q : Nat) : Dev :=
  let c := d.ctx n
  let t := quotaLimit c.overQuota c.cells (d.ctxQuota n) q
  let w := putBits (d.ctxWord n 1) 12 0 q
  ((d.setMem (ctxEntry n + 4) 4 w).setCtx n { c with overQuota := t.1 }).reportIf t.2 0 n

def Dev.quotaSet (d : Dev) (n q : Nat) : Dev :=
  let r := if q = 0 ∨ 4096 < q then 1 else if q < recordCells (d.ctxLargest n) then 2 else 0
  let d := if r = 0 then d.setQuota n q else d
  ((d.setF F.SMP_QUOTA_RESULT.RESULT r).setF F.SMP_QUOTA_RESULT.CONTEXT n).flag F.SMP_QUOTA_RESULT.DONE

/-- A host write of the other limits: SUR_QUOTA, HAUL_QUOTA and RESERVE_g, after the write has been accepted. -/
def Dev.limitChanged (d : Dev) (kind holder use old new : Nat) : Dev :=
  if kind = 1 then
    let t := quotaLimit (d.sump.overGroup.getD holder 0) use old new
    { d with sump := { d.sump with overGroup := d.sump.overGroup.set holder t.1 } }.reportIf t.2 1 holder
  else if kind = 2 then
    let t := quotaLimit d.sump.overSurvey use old new
    { d with sump := { d.sump with overSurvey := t.1 } }.reportIf t.2 2 0
  else
    let t := quotaLimit d.sump.overHaul use old new
    { d with sump := { d.sump with overHaul := t.1 } }.reportIf t.2 3 0

/-! ## Meanings -/

/-- A write of SMP_QUOTA_SET: NEW_QUOTA in bits 28:16, CONTEXT in 11:0 (R312). -/
def execSmpQuotaSet (v : Word) (s : State) : Host.Outcome State Fault Refusal :=
  s.lift (fun d => if d.awake then d.quotaSet (bitsOf v.toNat 11 0) (bitsOf v.toNat 28 16) else d)

end Sys2Proof.Machine
end

