-- ==== Sys2Proof/Machine/Afe.lean ====
section
/-! DEFINITION. The video front end: transfer functions, channel assignment and power, reconnection, range codes
and trims at the line boundary, the per-line check with substitution, SERVICE requests, test charges, planned
retirement (spec 03_video_front_end.md R78-R103; 20 R489, R491, R492; 23 R544). -/

namespace Sys2Proof.Machine

/-! ## Feed position (R346) -/

def Dev.measured (d : Dev) (a : Nat) : Int := spGet (fun _ => 0) d.meas a

def Dev.setMeasured (d : Dev) (a : Nat) (p : Int) : Dev := { d with meas := spSet (fun _ => 0) d.meas a p }

/-- ticks(c) of R346. -/
def Dev.ticksOf (d : Dev) (c : Int) : Int := divFloor (c * d.f F.AXS_TICK_NUM.TICK_NUM) (d.f F.AXS_TICK_DEN.TICK_DEN)

/-- Lantern's FEED position: ticks() of the measured encoder position. -/
def Dev.feedTicks (d : Dev) : Int := d.ticksOf (d.measured 0)

/-! ## The ledger's queue (R489) -/

/-- The 8 bytes of a ledger entry (Table 20.2): BOOT_CNT at the event, and CHECK the inverse of the XOR of the others. -/
def ledgerBytes (e : LedgerEvent) (boot : Nat) : List Byte :=
  let bs : List Byte := [e.kind, e.unit, e.src, e.dst].map (fun n => BitVec.ofNat 8 n) ++ leBytes 2 boot ++ leBytes 1 e.reason
  bs ++ [~~~(bs.foldl (fun (a b : Byte) => a ^^^ b) 0)]

/-- An event for the spares ledger: queued, or LEDGER_LOST with the queue full, or LEDGER_FULL with every slot used. -/
def Dev.ledgerEvent (d : Dev) (e : LedgerEvent) : Dev :=
  if 128 ≤ d.ledger.length + d.ledgerQ.length then d.flag F.SEC_LEDGER_STATUS.LEDGER_FULL
  else if 16 ≤ d.ledgerQ.length then d.flag F.SEC_LEDGER_STATUS.LEDGER_LOST
  else { d with ledgerQ := d.ledgerQ ++ [ledgerBytes e (d.f F.PWR_RESET_CAUSE.BOOT_CNT)] }.setF F.SEC_LEDGER_STATUS.QUEUED (d.ledgerQ.length + 1)

/-! ## Channels -/

def chIdx (g c : Nat) : Nat := 9 * g + c

def Dev.ch (d : Dev) (g c : Nat) : AfeCh := spGet afeChInit d.afeCh (chIdx g c)

def Dev.setCh (d : Dev) (g c : Nat) (x : AfeCh) : Dev :=
  { d with afeCh := spSet afeChInit d.afeCh (chIdx g c) x }

def Dev.grp (d : Dev) (g : Nat) : AfeGrp := spGet afeGrpInit d.afeGrp g

def Dev.setGrp (d : Dev) (g : Nat) (x : AfeGrp) : Dev := { d with afeGrp := spSet afeGrpInit d.afeGrp g x }

/-- The physical channel whose output is selected for tap channel `t` (R91). -/
def Dev.serving (d : Dev) (g t : Nat) : Option Nat := (List.range 9).find? (fun c => (d.ch g c).tapOf = some t)

/-- The channel in the spare role (R91). -/
def Dev.spareOf (d : Dev) (g : Nat) : Option Nat := (List.range 9).find? (fun c => (d.ch g c).spare)

/-- Is tap channel `t` of group `g` named in the bar record? -/
def Dev.tapNamed (d : Dev) (g t : Nat) : Bool :=
  match d.bar with
  | some b => (b.tapOf g t).isSome
  | none => false

def Dev.barTaps (d : Dev) (g : Nat) : List Nat := (List.range 8).filter (fun t => d.tapNamed g t)

/-- Charge mode of a channel (R79). -/
def Dev.charge (d : Dev) (g c : Nat) : Bool := d.on (F.AFE_CH_CTRL.MODE g c)

/-- Range code in force of a channel in plane `p`. -/
def Dev.rangeAct (d : Dev) (g c p : Nat) : Nat := d.f ⟨R.AFE_CH_RANGE_ACT g c, 4 * p + 3, 4 * p⟩

/-- Range code of tap channel `t`: that of the channel serving it; 0 with none. -/
def Dev.tapCode (d : Dev) (g t p : Nat) : Nat :=
  match d.serving g t with
  | some c => d.rangeAct g c p
  | none => 0

def Dev.source (d : Dev) (g c : Nat) : Nat := d.f (F.AFE_CH_CTRL.SOURCE g c)

/-- Set a channel's SOURCE; the spare's shows in AFE_GRP_SWITCH too. -/
def Dev.setSource (d : Dev) (g c s : Nat) : Dev :=
  let d := d.setF (F.AFE_CH_CTRL.SOURCE g c) s
  if (d.ch g c).spare then d.setF (F.AFE_GRP_SWITCH.SPARE_SOURCE g) s else d

/-- Begin a reconnection of Table 3.4 to a source: the old switch opens. -/
def Dev.connect (d : Dev) (g c s : Nat) : Dev :=
  (d.setSource g c 15).setCh g c { d.ch g c with connecting := some s }

/-- Open a channel's input at once. -/
def Dev.disconnect (d : Dev) (g c : Nat) : Dev :=
  (d.setSource g c 15).setCh g c { d.ch g c with connecting := none }

/-! ## Transfer functions (R82 to R85) -/

/-- Gains of the voltage range codes, twice the A of Table 3.3. -/
def gain2 (code : Nat) : Int := [2, 3, 4, 6, 8, 12, 16, 24].getD code 2

/-- Q_FS of Table 3.2 in aC. -/
def qfs (code : Nat) : Int := [250000, 1000000, 2000000, 4000000].getD code 250000

/-- The code of one conversion: `x` is V_SIG − V_RST in nV, or the charge in aC (electrons positive), before
POLARITY; `trim` is the trim word in force (R82, R84, R85). -/
def convert (chargeMode pol : Bool) (code trim : Nat) (x : Int) : Nat :=
  let x := if pol then -x else x
  let gt : Int := 14336 + bitsOf trim 27 16
  let ot : Int := 2 * ((bitsOf trim 11 0 : Int) - 2048)
  let y := if chargeMode then divRound (31 * gt * x) (8 * qfs code) else divRound (gt * gain2 code * x) 1000000000
  (clampI (2048 + ot + y) 0 65535).toNat

/-- A channel's conversion of signal `x` with range code `code`. -/
def Dev.chConvert (d : Dev) (g c code : Nat) (x : Int) : Nat :=
  convert (d.charge g c) (d.on (F.AFE_CH_CTRL.POLARITY g c)) code ((d.ch g c).trims.getD code 0x08000800) x

/-! ## Power (R97, R454) -/

/-- CALIBRATE, RUN and SERVICE, from the acceptance of a request for one of them to the completion of one for STANDBY. -/
def Dev.feActive (d : Dev) : Bool :=
  let on (m : Mode) : Bool := m = .calibrate || m = .run || m = .service
  on d.mode || (match d.req with
    | some r => on r.target
    | none => false)

/-- R97's condition for powering a channel. -/
def Dev.wantsPower (d : Dev) (g c : Nat) : Bool :=
  let x := d.ch g c
  d.feActive && d.on (F.AFE_CH_CTRL.EN g c) && !x.retired &&
    ((match x.tapOf with | some t => d.tapNamed g t | none => false) ||
     (x.spare && d.on (F.AFE_GRP_SWITCH.SPARE_EN g)))

/-- Bit of power domain `n` in PWR_DOM_STATUS. -/
def domBit (n : Nat) : Fld := ⟨R.PWR_DOM_STATUS (n / 32), n % 32, n % 32⟩

def Dev.powerDown (d : Dev) (g c : Nat) : Dev :=
  let d := d.disconnect g c
  ((d.setCh g c { d.ch g c with powered := false, failed := false, service := false, overrun := false }).setF
    (F.AFE_CH_CTRL.PWR_OK g c) 0).setF (domBit (9 * g + c)) 0

/-- Bring a channel's power to what R97 asks. -/
def Dev.powerCh (d : Dev) (g c : Nat) : Dev :=
  let want := d.wantsPower g c
  if want && !(d.ch g c).powered then
    (d.setCh g c { d.ch g c with powered := true, lines := 0 }).setF (domBit (9 * g + c)) 1
  else if !want && (d.ch g c).powered then d.powerDown g c else d

def forGC (d : Dev) (f : Dev → Nat → Nat → Dev) : Dev :=
  (List.range 72).foldl (fun d i => f d (i / 9) (i % 9)) d

def Dev.powerAll (d : Dev) : Dev := forGC d (fun d g c => d.powerCh g c)

/-- A powered channel reaches PWR_OK and is connected to its tap (R97). -/
def Dev.pwrOk (d : Dev) (g c : Nat) : Dev :=
  let x := d.ch g c
  if !x.powered || d.on (F.AFE_CH_CTRL.PWR_OK g c) then d
  else
    let d := (d.setF (F.AFE_CH_CTRL.PWR_OK g c) 1).setCh g c { x with lines := 0 }
    match x.tapOf with
    | some t => d.connect g c t
    | none => d

/-! ## Trims (R85, R96, R492) -/

/-- TRIM_WEAR figures over the range codes calibrated (R492). -/
def Dev.trimWear (d : Dev) (g c : Nat) : Dev :=
  let codes := maskList 8 (d.ch g c).calMask
  let use (fld : Nat → Fld) : Nat :=
    codes.foldl (fun m n => max m ((d.f (fld n) : Int) - 2048).natAbs) 0
  let gu := use (fun n => F.AFE_CH_TRIM.GAIN_TRIM g c n)
  let ou := use (fun n => F.AFE_CH_TRIM.OFFSET_TRIM g c n)
  let warn := d.f (F.AFE_GRP_WEAR.TRIM_WARN g)
  ((d.setF (F.AFE_CH_WEAR.GAIN_USE g c) gu).setF (F.AFE_CH_WEAR.OFS_USE g c) ou).flagIf
    (decide (warn < gu) || decide (warn < ou)) (F.AFE_CH_WEAR.TRIM_WEAR g c)

/-- The device writes a calibrated trim pair: registers, count, last code, wear (R204, R210, R492). -/
def Dev.writeTrim (d : Dev) (g c n : Nat) (t : Nat × Nat) (band : Bool) : Dev :=
  let d := (d.setF (F.AFE_CH_TRIM.GAIN_TRIM g c n) t.1).setF (F.AFE_CH_TRIM.OFFSET_TRIM g c n) t.2
  let d := d.setCh g c { d.ch g c with calMask := putBits (d.ch g c).calMask n n 1 }
  (((d.setF (F.AFE_CH_CAL.LAST_CODE g c) n).count (F.AFE_CH_CAL.CAL_COUNT g c) 1).setB
    (F.AFE_CH_CAL.REF_SRC g c) band).trimWear g c

/-- Trim words of a channel's registers. -/
def Dev.trimRegs (d : Dev) (g c : Nat) : List Nat := (List.range 8).map (fun n => (d.reg (R.AFE_CH_TRIM g c n)).toNat)

/-! ## Line marks -/

/-- The reason a tap channel's pixels are INVALID in a line triggered now (R88, R97, R101); 0 valid. -/
def Dev.tapReason (d : Dev) (g t : Nat) : Nat :=
  match d.serving g t with
  | none => 1
  | some c =>
    let x := d.ch g c
    if !d.on (F.AFE_CH_CTRL.PWR_OK g c) then 1
    else if x.overrun then 3
    else if x.lines < 2 then 2
    else if x.failed then 4 else 0

/-- Change the newest main-row line set that waits for its channel checks. -/
def Dev.markChecked (d : Dev) (f : LineSet → LineSet) : Dev :=
  match d.gal.lines.reverse.find? (fun l => !l.lead ∧ l.ended ∧ !l.checked) with
  | some l => { d with gal := { d.gal with lines := d.gal.lines.map (fun x => if x.serial = l.serial then f x else x) } }
  | none => d

/-- Module number and tap of a tap channel. -/
def Dev.tapModule (d : Dev) (g t : Nat) : Option (Nat × Nat) :=
  (d.bar.bind (·.tapOf g t)).map (fun m => (m.1.id, m.2))

/-- A line set with one tap marked INVALID in every plane. -/
def LineSet.invalidate (l : LineSet) (m t reason : Nat) : LineSet :=
  { l with bad := l.bad ++ l.planes.map (fun p => ⟨m, t, p.plane, reason⟩) }

/-- A line set with one tap to be rebuilt in every plane (R142). -/
def LineSet.rebuild (l : LineSet) (m t : Nat) : LineSet :=
  { l with recon := l.recon ++ l.planes.map (fun p => ⟨m, t, p.plane, 0⟩) }

/-! ## METHOD and Rebelay's end (R198) -/

/-- METHOD is Rebelay when the spare is enabled and neither consumed nor retired. -/
def Dev.methodNow (d : Dev) (g : Nat) : Nat :=
  b2n (d.on (F.AFE_GRP_SWITCH.SPARE_EN g) && (d.spareOf g).isSome)

/-- An unfinished rotation is abandoned. -/
def Dev.rbIdle (d : Dev) (g : Nat) : Dev :=
  let d := d.setF (F.AFE_GRP_CAL.RB_STATE g) 0
  match d.spareOf g with
  | some s => d.disconnect g s
  | none => d

/-- The comparison's sums restart (R209). -/
def Dev.rbRestart (d : Dev) (g : Nat) : Dev := d.setGrp g { d.grp g with sums := [0, 0, 0, 0, 0, 0, 0] }

/-! ## The line boundary (R88, R93 to R96, R108) -/

/-- Range codes of one channel at a line trigger: pending codes come into force (R93). -/
def Dev.applyRange (d : Dev) (g c : Nat) : Dev :=
  if d.on (F.AFE_CH_RANGE.PENDING g c) then
    (d.setReg (R.AFE_CH_RANGE_ACT g c) (d.reg (R.AFE_CH_RANGE g c) &&& 0x0000FFFF#32)).setF
      (F.AFE_CH_RANGE.PENDING g c) 0
  else d

/-- Squeeze's unfinished pair is discarded by a change of range codes or a host trim write (R199). -/
def Dev.discardPair (d : Dev) (g c : Nat) : Dev :=
  if (d.grp g).m0.isSome then
    (d.setGrp g { d.grp g with m0 := none, points := (d.grp g).points.drop 1 }).flag (F.AFE_CH_CAL.CAL_DISCARDED g c)
  else d

/-- One channel at a line boundary: trims and codes come into force; a reconnection still running is cut short and
its tap's line marked (R88); a spare in parallel follows its target (R95). -/
def Dev.boundaryCh (d : Dev) (g c : Nat) : Dev :=
  let x := d.ch g c
  let d := d.setCh g c { x with trims := d.trimRegs g c, overrun := false }
  let d := d.applyRange g c
  match x.tapOf, x.connecting with
  | some t, some s =>
    let live := (d.grp g).live
    let d := match live with
      | some l => if l.ch = c then (d.setGrp g { d.grp g with live := none }).flag (F.AFE_GRP_CAL_STATUS.SQZ_OVERRUN g) else d
      | none => d
    let d := (d.setSource g c (if s < 8 then s else t)).setCh g c { d.ch g c with connecting := none, overrun := true }
    match d.tapModule g t with
    | some (m, k) => d.markChecked (fun l =>
        if l.recon.any (fun r => r.module = m ∧ r.tap = k) then
          { l with recon := l.recon.filter (fun r => ¬ (r.module = m ∧ r.tap = k)) }.invalidate m k 3
        else l)
    | none => d
  | _, _ => d

/-- Planes whose code in force changes on a tap-serving channel of the record (R94). -/
def Dev.changedPlanes (old new : Dev) : List Nat :=
  (List.range 4).filter (fun p => (List.range 8).any (fun g => (old.barTaps g).any (fun t =>
    old.tapCode g t p ≠ new.tapCode g t p)))

/-- One group at a line boundary: METHOD, and what a change of codes does to live calibration (R198, R199, R209). -/
def Dev.boundaryGrp (old d : Dev) (g : Nat) : Dev :=
  let changed := (old.barTaps g).any (fun t => (List.range 4).any (fun p => old.tapCode g t p ≠ d.tapCode g t p))
  let d := if changed then
      let d := d.rbRestart g
      match (d.grp g).points.head? with
      | some (.gain t _) => (match d.serving g t with | some c => d.discardPair g c | none => d)
      | _ => d
    else d
  let m := d.methodNow g
  let d := if d.f (F.AFE_GRP_CAL.METHOD g) = 1 ∧ m = 0 then d.rbIdle g else d
  let d := d.setF (F.AFE_GRP_CAL.METHOD g) m
  match d.spareOf g, d.serving g (d.grp g).target with
  | some s, some c =>
    if 2 ≤ d.f (F.AFE_GRP_CAL.RB_STATE g) then d.setReg (R.AFE_CH_RANGE_ACT g s) (d.reg (R.AFE_CH_RANGE_ACT g c))
    else d
  | _, _ => d

/-- The front end at a line boundary. -/
def Dev.boundaryAfe (d : Dev) : Dev :=
  let d' := forGC d (fun d g c => d.boundaryCh g c)
  (List.range 8).foldl (fun x g => Dev.boundaryGrp d x g) d'

/-- Count the line against the two POWER_UP lines of each ready channel (R97). -/
def Dev.countLines (d : Dev) : Dev :=
  forGC d (fun d g c =>
    let x := d.ch g c
    if d.on (F.AFE_CH_CTRL.PWR_OK g c) && decide (x.lines < 2) then d.setCh g c { x with lines := x.lines + 1 } else d)

/-! ## Channel check (R99 to R101) -/

/-- The two stimuli's ideal signals: 0.200 V and 1.600 V, or 0.400 pC and 3.200 pC. -/
def Dev.chkIdeal (d : Dev) (g c : Nat) : Nat × Nat :=
  let tr := (d.ch g c).trims
  if d.charge g c then
    (convert true false 3 (tr.getD 3 0) 400000, convert true false 3 (tr.getD 3 0) 3200000)
  else (convert false false 0 (tr.getD 0 0) 200000000, convert false false 0 (tr.getD 0 0) 1600000000)

/-- The check reference of the channel's mode. -/
def Dev.chkRef (d : Dev) (g c : Nat) : Nat × Nat :=
  if d.charge g c then (d.f (F.AFE_CH_CHKREF_Q.CHK_LO_Q g c), d.f (F.AFE_CH_CHKREF_Q.CHK_HI_Q g c))
  else (d.f (F.AFE_CH_CHKREF.CHK_LO g c), d.f (F.AFE_CH_CHKREF.CHK_HI g c))

/-- Does a pair of codes pass (R99)? -/
def Dev.chkPasses (d : Dev) (g c lo hi : Nat) : Bool :=
  let r := d.chkRef g c
  let tol := d.f (F.AFE_GRP_SWITCH.CHK_TOL g) * 4
  decide (((lo : Int) - r.1).natAbs ≤ tol) && decide (((hi : Int) - r.2).natAbs ≤ tol)

/-- Retire a channel: powered down, out of the assignment and of the spare role (R91). -/
def Dev.retireCh (d : Dev) (g c : Nat) : Dev :=
  let d := d.powerDown g c
  let d := d.setCh g c { d.ch g c with retired := true, tapOf := none, spare := false }
  d.setF (F.AFE_CH_WEAR.RETIRE_REQ g c) 0

/-- Substitution of a failing channel by the spare (R100). -/
def Dev.substitute (d : Dev) (g c s t : Nat) : Dev :=
  let shadowing := decide (d.source g s = t) && !d.charge g c
  let d := d.setReg (R.AFE_CH_RANGE_ACT g s) (d.reg (R.AFE_CH_RANGE_ACT g c))
  let d := d.setB (F.AFE_CH_CTRL.MODE g s) (d.charge g c)
  let d := (d.retireCh g c).setF (F.AFE_GRP_CAL.RB_STATE g) 0
  let d := d.setCh g s { d.ch g s with tapOf := some t, spare := false, lines := 2 }
  let d := if shadowing then d else d.connect g s t
  let d := d.ledgerEvent ⟨1, g, c, s, 1⟩
  match d.tapModule g t with
  | some (m, k) => d.markChecked (fun l => l.rebuild m k)
  | none => d

/-- The group's spare can take a tap: enabled, unused, ready and past its own check. -/
def Dev.spareReady (d : Dev) (g : Nat) : Option Nat :=
  (d.spareOf g).filter (fun s => d.on (F.AFE_GRP_SWITCH.SPARE_EN g) && (d.ch g s).chkOk &&
    d.on (F.AFE_CH_CTRL.PWR_OK g s))

/-- A failed check of a channel (R100, R101). -/
def Dev.chkFail (d : Dev) (g c : Nat) : Dev :=
  let d := d.flag (F.AFE_CH_STATUS.CHK_FAIL g c)
  let x := d.ch g c
  if x.spare then
    ((d.flag (F.AFE_CH_STATUS.SPARE_FAILED g c)).retireCh g c).setF (F.AFE_GRP_CAL.RB_STATE g) 0
      |>.ledgerEvent ⟨2, g, c, 0xFF, 6⟩
  else match x.tapOf with
    | none => d
    | some t =>
      match d.spareReady g with
      | some s => d.substitute g c s t
      | none =>
        let d := (d.flag (F.AFE_CH_STATUS.CHANNEL_FAILED g c)).setCh g c { d.ch g c with failed := true }
        match d.tapModule g t with
        | some (m, k) => d.markChecked (fun l => l.invalidate m k 4)
        | none => d

/-- Is the channel checked: powered, and not the spare in the middle of a Rebelay step (R99)? -/
def Dev.isChecked (d : Dev) (g c : Nat) : Bool :=
  let st := d.f (F.AFE_GRP_CAL.RB_STATE g)
  d.on (F.AFE_CH_CTRL.PWR_OK g c) && !((d.ch g c).spare && (decide (st = 1) || decide (st = 4)))

/-- Check one channel; a channel the operand does not list converts its stimuli ideally. -/
def Dev.checkCh (d : Dev) (codes : List ChkCode) (g c : Nat) : Dev :=
  if !d.isChecked g c then d
  else
    let p := match codes.find? (fun x => x.g.val = g ∧ x.c.val = c) with
      | some x => (x.lo, x.hi)
      | none => d.chkIdeal g c
    let ok := d.chkPasses g c p.1 p.2
    let d := if (d.ch g c).spare then d.setCh g c { d.ch g c with chkOk := ok } else d
    if ok then d else d.chkFail g c

/-- Gallery may release the raw samples of line sets handed off before the one just checked (R136). -/
def Dev.releaseRaw (d : Dev) : Dev :=
  let d := d.gal.done.foldl (fun d l => l.cells.foldl (fun d r =>
    match r.cells with
    | some n => d.setGroupUse r.group (d.groupUse r.group - n)
    | none => d) d) d
  { d with gal := { d.gal with done := [] } }

/-- The check of every powered channel in the gap after a line set, or its abandonment by a trigger (R99). -/
def Dev.channelCheck (d : Dev) (codes : List ChkCode) (abandoned : Bool) : Dev :=
  if !d.feActive then d
  else
    let d := if abandoned then
        forGC d (fun d g c => if d.isChecked g c then d.count (F.AFE_CH_STATUS.CHK_SKIP_CNT g c) 1 else d)
      else forGC d (fun d g c => d.checkCh codes g c)
    (d.markChecked (fun l => { l with checked := true })).releaseRaw

def Dev.standstillCheck (d : Dev) (codes : List ChkCode) : Dev :=
  if !d.feActive then d else forGC d (fun d g c => d.checkCh codes g c)

/-! ## Host writes of the channel and group registers -/

/-- AFE_CH_CTRL: EN, POLARITY and RESET_WIDTH are writable; EN decides power (R97). -/
def Dev.chCtrlWrite (d : Dev) (g c : Nat) (v : Word) : Dev :=
  let w := v.toNat
  (((d.setF (F.AFE_CH_CTRL.EN g c) (bitsOf w 31 31)).setF (F.AFE_CH_CTRL.POLARITY g c) (bitsOf w 29 29)).setF
    (F.AFE_CH_CTRL.RESET_WIDTH g c) (bitsOf w 23 20)).powerCh g c

/-- AFE_CH_RANGE: pending codes, or discarded whole with a code invalid for the mode (R93, R103). -/
def Dev.chRangeWrite (d : Dev) (rq : Req) (g c : Nat) (v : Word) : Dev :=
  let top := if d.charge g c then 3 else 7
  if (List.range 4).any (fun p => decide (top < bitsOf v.toNat (4 * p + 3) (4 * p))) then
    d.accessErr rq false .value (R.AFE_CH_RANGE g c)
  else (d.setReg (R.AFE_CH_RANGE g c) (v &&& 0x0000FFFF#32)).setF (F.AFE_CH_RANGE.PENDING g c) 1

/-- A host write of a trim: in force at the next line trigger; live updates of that channel and code in progress are
discarded (R96, R199). -/
def Dev.trimWrite (d : Dev) (g c n : Nat) (v : Word) : Dev :=
  let d := d.setReg (R.AFE_CH_TRIM g c n) (v &&& 0x0FFF0FFF#32)
  match (d.grp g).points.head? with
  | some (.gain t code) => if d.serving g t = some c ∧ code = n then d.discardPair g c else d
  | some (.zero t code) =>
    if d.serving g t = some c ∧ code = n ∧ (d.grp g).live.isSome then
      (d.setGrp g { d.grp g with live := none }).flag (F.AFE_CH_CAL.CAL_DISCARDED g c)
    else d
  | _ => d

/-- AFE_GRP_INJ with INJ_GO = 1: injects in SERVICE into a powered charge-mode channel whose output is not selected,
else the write is discarded (R92). -/
def Dev.injGo (d : Dev) (rq : Req) (g : Nat) (v : Word) : Dev :=
  let c := bitsOf v.toNat 19 16
  if d.modeIn [.service] && decide (c < 9) && d.on (F.AFE_CH_CTRL.PWR_OK g c) && d.charge g c &&
      (d.ch g c).tapOf.isNone && !(d.grp g).injecting then
    (((d.setF (F.AFE_GRP_INJ.INJ_CH g) c).setF (F.AFE_GRP_INJ.INJ_CODE g) (bitsOf v.toNat 11 0)).setF
      (F.AFE_GRP_INJ.INJ_GO g) 1).setF (F.AFE_GRP_INJ.INJ_BUSY g) 1 |>.setGrp g { d.grp g with injecting := true }
  else d.accessErr rq false .locked (R.AFE_GRP_INJ g)

/-- An injection ends: the converted code of Q_inj stands in AFE_GRP_SVC_DATA when the channel is the service channel. -/
def Dev.injectionDone (d : Dev) (g : Nat) : Dev :=
  if !(d.grp g).injecting then d
  else
    let c := d.f (F.AFE_GRP_INJ.INJ_CH g)
    let d := (((d.setF (F.AFE_GRP_INJ.INJ_GO g) 0).setF (F.AFE_GRP_INJ.INJ_BUSY g) 0)).setGrp g
      { d.grp g with injecting := false }
    if d.f (F.AFE_GRP_SERVICE.CH g) = c then
      d.setF (F.AFE_GRP_SVC_DATA.CODE g)
        (d.chConvert g c (d.rangeAct g c 0) ((d.f (F.AFE_GRP_INJ.INJ_CODE g) : Int) * 1000))
    else d

/-- Does Table 3.3 offer source `s` to channel `c`? -/
def Dev.sourceOffered (d : Dev) (g c s : Nat) : Bool :=
  if s < 8 then (d.ch g c).tapOf = some s
  else if s = 8 then (d.ch g c).spare
  else if s = 12 then d.charge g c
  else decide (s = 9 ∨ s = 10 ∨ s = 11 ∨ s = 15)

/-- AFE_GRP_SERVICE with GO = 1 (R544): codes 1 WRONG_MODE, 2 SELECTED, 3 NOT_ALLOWED, 4 BUSY. -/
def Dev.serviceGo (d : Dev) (g : Nat) (v : Word) : Dev :=
  let c := bitsOf v.toNat 3 0
  let s := bitsOf v.toNat 7 4
  let busy := d.on (F.AFE_GRP_SERVICE.BUSY g)
  let r := if !d.modeIn [.service] then 1
    else if (d.ch g c).tapOf.isSome && decide (c < 9) then 2
    else if decide (8 < c) || !d.sourceOffered g c s then 3
    else if busy then 4 else 0
  let d := d.setF (F.AFE_GRP_SERVICE.RESULT g) r
  if r ≠ 0 then (if busy then d else (d.setF (F.AFE_GRP_SERVICE.SOURCE g) s).setF (F.AFE_GRP_SERVICE.CH g) c)
  else
    let d := ((d.setF (F.AFE_GRP_SERVICE.SOURCE g) s).setF (F.AFE_GRP_SERVICE.CH g) c).setF
      (F.AFE_GRP_SERVICE.BUSY g) 1
    (d.connect g c s).setCh g c { d.ch g c with service := true, connecting := some s }

/-- On leaving SERVICE every channel connected by a request returns to its source (R544). -/
def Dev.serviceEnd (d : Dev) : Dev :=
  let d := forGC d (fun d g c =>
    let x := d.ch g c
    if x.service then
      (d.setSource g c (match x.tapOf with | some t => t | none => 15)).setCh g c
        { x with service := false, connecting := none }
    else d)
  (List.range 8).foldl (fun d g => d.setF (F.AFE_GRP_SERVICE.BUSY g) 0) d

/-- RETIRE_REQ: accepted only while METHOD is Rebelay (R491). -/
def Dev.retireReq (d : Dev) (rq : Req) (g c : Nat) : Dev :=
  if d.f (F.AFE_GRP_CAL.METHOD g) = 1 then d.setF (F.AFE_CH_WEAR.RETIRE_REQ g c) 1
  else d.accessErr rq false .locked (R.AFE_CH_WEAR g c)

def Dev.retireCancel (d : Dev) (g c : Nat) : Dev := d.setF (F.AFE_CH_WEAR.RETIRE_REQ g c) 0

/-- A write of AFE_GRP_SWITCH: an enabled spare makes METHOD Rebelay, and SPARE_EN decides the spare's power. -/
def Dev.spareEnChanged (d : Dev) (g : Nat) : Dev :=
  let d := if d.methodNow g = 1 then d.setF (F.AFE_GRP_CAL.METHOD g) 1 else d
  (List.range 9).foldl (fun d c => d.powerCh g c) d

/-! ## Meanings -/

def execChannelCheck (codes : List ChkCode) (abandoned : Bool) (s : State) : Host.Outcome State Fault Refusal :=
  s.lift (·.channelCheck codes abandoned)

def execStandstillCheck (codes : List ChkCode) (s : State) : Host.Outcome State Fault Refusal :=
  s.lift (·.standstillCheck codes)

def execPwrOk (g : Fin 8) (c : Fin 9) (s : State) : Host.Outcome State Fault Refusal := s.lift (·.pwrOk g c)

def execAfeChCtrlWrite (g : Fin 8) (c : Fin 9) (v : Word) (s : State) : Host.Outcome State Fault Refusal :=
  s.lift (fun d => if d.awake then d.chCtrlWrite g c v else d)

def execAfeChRangeWrite (rq : Req) (g : Fin 8) (c : Fin 9) (v : Word) (s : State) :
    Host.Outcome State Fault Refusal :=
  s.lift (fun d => if d.awake then d.chRangeWrite rq g c v else d)

def execTrimWrite (g : Fin 8) (c : Fin 9) (n : Fin 8) (v : Word) (s : State) : Host.Outcome State Fault Refusal :=
  s.lift (fun d => if d.awake then d.trimWrite g c n v else d)

def execInjGo (rq : Req) (g : Fin 8) (v : Word) (s : State) : Host.Outcome State Fault Refusal :=
  s.lift (fun d => if d.awake then d.injGo rq g v else d)

def execInjectionDone (g : Fin 8) (s : State) : Host.Outcome State Fault Refusal := s.lift (·.injectionDone g)

def execAfeGrpService (g : Fin 8) (v : Word) (s : State) : Host.Outcome State Fault Refusal :=
  s.lift (fun d => if d.awake then d.serviceGo g v else d)

def execRetireReq (rq : Req) (g : Fin 8) (c : Fin 9) (s : State) : Host.Outcome State Fault Refusal :=
  s.lift (fun d => if d.awake then d.retireReq rq g c else d)

def execRetireCancel (g : Fin 8) (c : Fin 9) (s : State) : Host.Outcome State Fault Refusal :=
  s.lift (fun d => if d.awake then d.retireCancel g c else d)

end Sys2Proof.Machine
end

