-- ==== Sys2Proof/Machine/Sched.lean ====
section
/-! DEFINITION. Lantern's schedule: pitch, readout times, slots, t_seq, t_lseq and the speed cap (spec
04_lantern_exposure_and_line_pacing.md R104, R110, R115-R120; 02 R42, R53, R547). -/

namespace Sys2Proof.Machine

/-! ## The grid -/

/-- Line pitch P (Table 0.1). -/
def Dev.pitch (d : Dev) : Nat := [6000, 12000, 24000, 6000].getD (d.f F.LTN_GRID_CTRL.PITCH) 6000

/-- P_L (R118). -/
def Dev.pitchL (d : Dev) : Nat := d.pitch / 2 ^ d.f F.LTN_GRID_CTRL.LEAD_DIV

def Dev.origin (d : Dev) : Int := d.r64i R.LTN_GRID_ORIGIN_LO R.LTN_GRID_ORIGIN_HI
def Dev.hwm (d : Dev) : Int := d.r64i R.LTN_HWM_LO R.LTN_HWM_HI
def Dev.leadHwm (d : Dev) : Int := d.r64i R.LTN_LEAD_HWM_LO R.LTN_LEAD_HWM_HI
def Dev.setHwm (d : Dev) (x : Int) : Dev := d.set64 R.LTN_HWM_LO R.LTN_HWM_HI (unsigned 64 x)
def Dev.setLeadHwm (d : Dev) (x : Int) : Dev := d.set64 R.LTN_LEAD_HWM_LO R.LTN_LEAD_HWM_HI (unsigned 64 x)
def Dev.armed (d : Dev) : Bool := d.on F.LTN_GRID_CTRL.ARMED

/-! ## Readout times in units of 10 ns, rounded up -/

def ceilDiv (a b : Nat) : Nat := (a + b - 1) / b

/-- Data words of a Gen B line (R47). -/
def Module.words (m : Module) : Nat := if m.taps = 4 then (m.photosites + 1) / 2 else m.photosites

/-- Pixels per lane of a Gen C module (R51). -/
def Module.lanePixels (m : Module) : Nat := m.photosites / max 1 m.taps

/-- Start pulse of a module: SP_WIDTH pixel clocks, or units of 25 ns for a digital module (R64). -/
def Module.spUnits (m : Module) : Nat :=
  if m.gen = 1 then ceilDiv (m.spWidth * 100000) m.rate else ceilDiv (5 * m.spWidth) 2

/-- Readout time of a module's taps (R42, R547, R53). -/
def Module.readout (m : Module) : Nat :=
  if m.gen = 1 then ceilDiv ((m.spWidth + m.dummyLead + m.photosites / max 1 m.taps + m.dummyTrail) * 100000) m.rate
  else
    let bits := if m.gen = 2 then m.words else 100 + 15 * m.lanePixels
    ceilDiv (5 * m.spWidth * m.rate + 2 * bits * 100000) (2 * m.rate)

def maxOf (l : List Nat) : Nat := l.foldl max 0

def Bar.mainRow (b : Bar) : List Module := b.mods.filter (fun m => !m.isLead)

/-! ## Slots (R110) -/

/-- A scheduled slot, in 10 ns units from the line boundary. -/
structure SlotPlan where
  plane : Nat
  ledOn : Nat
  w : Nat
  sp : Nat
  deriving DecidableEq, Repr

/-- Plane of slot `i` in PLANE_ORDER. -/
def Dev.orderSlot (d : Dev) (i : Nat) : Nat := d.f F.LTN_GRID_CTRL.PLANE_ORDER / 4 ^ i % 4

def Dev.usedSlots (d : Dev) (n : Nat) : List Nat := (List.range n).map d.orderSlot

/-- The used slots hold every enabled plane exactly once. -/
def Dev.orderOk (d : Dev) (b : Bar) : Bool :=
  b.planeList.all (fun p => (d.usedSlots b.planeList.length).contains p)

/-- Planes in the order in which they are exposed. -/
def Dev.slotPlanes (d : Dev) (b : Bar) : List Nat :=
  if d.orderOk b then d.usedSlots b.planeList.length else b.planeList

/-- Largest PULSE_W among the enabled channels of a role. -/
def Dev.roleWidth (d : Dev) (role : Nat) : Nat :=
  maxOf (((List.range 16).filter (fun n => d.on (F.LTN_CH_CFG.EN n) && decide (d.f (F.LTN_CH_CFG.ROLE n) = role))).map
    (fun n => d.f (F.LTN_CH_CFG.PULSE_W n)))

def Dev.spGuard (d : Dev) : Nat := max 10 (d.f F.LTN_SEQ_TIMING.SP_GUARD)

/-- The slots after `s`, with the previous start pulse `prev`. -/
def Dev.planFrom (d : Dev) (tro spw : Nat) (s : Nat) (prev : Option Nat) : List Nat → List SlotPlan
  | [] => []
  | p :: t =>
    let w := d.roleWidth p
    let on := s + d.f F.LTN_SEQ_TIMING.LED_DELAY
    let sp0 := on + w + d.spGuard
    let sp := match prev with
      | some q => max sp0 (q + tro)
      | none => sp0
    ⟨p, on, w, sp⟩ :: d.planFrom tro spw (sp + spw) (some sp) t

def Dev.plan (d : Dev) (b : Bar) : List SlotPlan :=
  d.planFrom (maxOf (b.mainRow.map (·.readout))) (maxOf (b.mainRow.map (·.spUnits)))
    (d.f F.LTN_SEQ_TIMING.TRIG_DELAY) none (d.slotPlanes b)

/-- t_seq (R110). -/
def Dev.tSeq (d : Dev) (b : Bar) : Nat :=
  (match (d.plan b).getLast? with | some p => p.sp | none => 0) + maxOf (b.mainRow.map (·.readout)) +
    d.f F.LTN_SEQ_MISC.LINE_GAP

/-- The LEAD exposure's pulse start and start pulse (R119). -/
def Dev.leadOn (d : Dev) : Nat := d.f F.LTN_SEQ_TIMING.TRIG_DELAY + d.f F.LTN_SEQ_TIMING.LED_DELAY
def Dev.leadSp (d : Dev) : Nat := d.leadOn + d.roleWidth 4 + d.spGuard

/-- t_lseq; 0 without LEAD modules (R120). -/
def Dev.tLseq (d : Dev) (b : Bar) : Nat :=
  if b.leads.isEmpty then 0
  else d.leadSp + maxOf (b.leads.map (·.readout)) + d.f F.LTN_SEQ_MISC.LINE_GAP

/-! ## Speed cap (R117, R120) -/

def Dev.capOf (d : Dev) (p t : Nat) : Nat :=
  if t = 0 then 0xFFFFFF
  else min 0xFFFFFF (p * (10 * d.servoPeriod) * (256 - d.f F.LTN_SEQ_MISC.CAP_MARGIN) / (10 * t * 256))

/-- Recompute the schedule's registers (R115). -/
def Dev.reschedule (d : Dev) : Dev :=
  match d.bar with
  | none => ((d.setF F.LTN_TSEQ.DURATION 0).setF F.LTN_TLSEQ.DURATION 0).setReg R.LTN_CAP 0
  | some b =>
    let ts := d.tSeq b
    let tl := d.tLseq b
    let d := (d.setF F.LTN_TSEQ.DURATION ts).setF F.LTN_TLSEQ.DURATION tl
    if d.armed then
      let m := d.capOf d.pitch ts
      let l := d.capOf d.pitchL tl
      let byLead := decide (tl ≠ 0) && decide (l < m)
      (d.setF F.LTN_CAP.V_CAP (if byLead then l else m)).setB F.LTN_CAP.LEAD_LIMITS byLead
    else d.setReg R.LTN_CAP 0

/-! ## Predicted gap (R200) -/

/-- t_pred in ns of the main or the LEAD grid; none is unlimited. -/
def Dev.tPred (d : Dev) (lead : Bool) : Option Nat :=
  let v := d.f F.LTN_CAP.V_CAP
  if !d.armed || decide (v = 0) then none
  else
    let next : Int := if lead then d.leadHwm + d.pitchL else d.hwm + d.pitch
    some ((next - d.feedTicks).toNat * (10 * d.servoPeriod) * 15 / (16 * v))

end Sys2Proof.Machine
end

