-- ==== Sys2Proof/Machine/Lanes.lean ====
section
/-! DEFINITION. Digital modules: Gen B and Gen C lines, line integrity, lane receivers with their spare, and the I²C
controllers (spec 02_sensor_bar_and_modules.md R44-R59, R66-R68, R76, R77; 05 R136). -/

namespace Sys2Proof.Machine

/-! ## Line sets -/

def Dev.mapLines (d : Dev) (f : LineSet → LineSet) : Dev := { d with gal := { d.gal with lines := d.gal.lines.map f } }

def Dev.mapLine (d : Dev) (serial : Nat) (f : LineSet → LineSet) : Dev :=
  d.mapLines (fun l => if l.serial = serial then f l else l)

def Dev.lineOf (d : Dev) (serial : Nat) : Option LineSet := d.gal.lines.find? (fun l => l.serial = serial)

/-- Modules of a group that a line set's exposures read out. -/
def Bar.readOut (b : Bar) (lead : Bool) (g : Nat) : List Module :=
  b.mods.filter (fun m => decide (m.group = g) && decide (m.isLead = lead))

/-- Cells of the raw samples of one plane line of a group (R136). -/
def rawCells (ms : List Module) : Nat := ceilDiv (2 * sumN (ms.map (·.photosites)) + 64 * ms.length) 4096

/-- Request the cells of a group's raw samples in a plane, once per plane line (R136). -/
def Dev.requestRaw (d : Dev) (serial g p : Nat) : Dev :=
  match d.bar, d.lineOf serial with
  | some b, some l =>
    if l.cells.any (fun c => c.group = g ∧ c.plane = p) then d
    else
      let n := rawCells (b.readOut l.lead g)
      let ok := d.groupGrants g n
      let d := if ok then d.setGroupUse g (d.groupUse g + n) else d
      d.mapLine serial (fun l => { l with cells := l.cells ++ [⟨g, p, if ok then some n else none⟩] })
  | _, _ => d

/-! ## Receivers (R54 to R57) -/

def Dev.lane (d : Dev) (g : Nat) : Lanes := spGet lanesInit d.lanes g
def Dev.setLane (d : Dev) (g : Nat) (x : Lanes) : Dev := { d with lanes := spSet lanesInit d.lanes g x }

/-- The module and pair or lane that pad `n` of group `g` carries. -/
def Dev.padModule (d : Dev) (g n : Nat) : Option (Module × Nat) := d.bar.bind (·.padOf g n)

/-- Pads of a group named in the record. -/
def Dev.activePads (d : Dev) (g : Nat) : List Nat := (List.range 4).filter (fun n => (d.padModule g n).isSome)

/-- Does the spare rotate (R55)? -/
def Lanes.rotating (x : Lanes) : Bool := !x.assigned && !x.retired.contains 4

/-- Does the spare shadow pad `n`? -/
def Lanes.shadows (x : Lanes) (n : Nat) : Bool := x.rotating && decide (x.sparePad = n) && x.pending.isNone

/-- The spare takes over pad `n` at the next line boundary; the ledger records the live receiver (R56). -/
def Dev.rxFail (d : Dev) (g n reason : Nat) : Dev :=
  let x := d.lane g
  ((d.setLane g { x with pending := some n }).flag (F.LNE_GRP_STATUS.RX_SUBSTITUTED g)).ledgerEvent
    ⟨3, g, x.serving.getD n n, 4, reason⟩

/-- What the registers of a group show of its receivers. -/
def Dev.showLanes (d : Dev) (g : Nat) : Dev :=
  let x := d.lane g
  let d := ((d.setF (F.LNE_GRP_STATUS.SPARE_STATE g) (if x.assigned then 1 else if x.retired.contains 4 then 2 else 0)).setF
    (F.LNE_GRP_STATUS.SPARE_PAD g) x.sparePad).setF (F.LNE_GRP_STATUS.RETIRED g)
      (sumN (x.retired.map (fun r => 2 ^ r)))
  let d := d.setB (F.LNE_GRP_STATUS.GENB_LOCKED g) x.clockLock
  (List.range 4).foldl (fun d n =>
    let genB := match d.padModule g n with
      | some m => decide (m.1.gen = 2)
      | none => false
    (d.setF (F.LNE_PAD.RECEIVER g n) (x.serving.getD n n)).setB (F.LNE_PAD.LOCKED g n)
      (if genB then x.clockLock else x.laneLock.getD n false)) d

/-- One group at a line boundary: a substitution takes effect; the spare counts a line. -/
def Dev.boundaryLane (d : Dev) (g : Nat) : Dev :=
  let x := d.lane g
  match x.pending with
  | some n =>
    (d.setLane g { x with serving := x.serving.set n 4, retired := x.retired ++ [x.serving.getD n n], sparePad := n, assigned := true, pending := none, laneLock := x.laneLock.set n x.spareLock }).showLanes g
  | none => if x.rotating then d.setLane g { x with spareCount := x.spareCount + 1 } else d

def Dev.boundaryLanes (d : Dev) : Dev := (List.range 8).foldl (fun d g => d.boundaryLane g) d

/-- The spare moves to the next active pad after 256 lines (R55). -/
def Dev.spareRotate (d : Dev) (g : Nat) : Dev :=
  let x := d.lane g
  let pads := d.activePads g
  if !x.rotating || x.pending.isSome || decide (x.spareCount < 256) then d
  else match (pads.find? (fun n => x.sparePad < n)).orElse (fun _ => pads.head?) with
    | some n => (d.setLane g { x with sparePad := n, spareCount := 0, spareLock := false }).showLanes g
    | none => d

/-! ## Line integrity (R58, R59) -/

/-- The pad on which a tap's missing lines count (R77). -/
def Module.errPad (m : Module) (tap : Nat) : Nat := if m.gen = 2 then m.map.getD 0 0 else m.map.getD tap 0

def Dev.missRun (d : Dev) (e : Expect) : Nat :=
  match d.misses.find? (fun x => x.module = e.module ∧ x.tap = e.tap ∧ x.plane = e.plane) with
  | some x => x.run
  | none => 0

def Dev.setMissRun (d : Dev) (e : Expect) (n : Nat) : Dev :=
  let rest := d.misses.filter (fun x => ¬ (x.module = e.module ∧ x.tap = e.tap ∧ x.plane = e.plane))
  { d with misses := if n = 0 then rest else rest ++ [⟨e.module, e.tap, e.plane, n⟩] }

/-- Mark a tap of a plane INVALID with MISSING_LINE in place of its reconstruction. -/
def LineSet.desync (l : LineSet) (e : Expect) : LineSet :=
  { l with recon := l.recon.filter (fun r => ¬ (r.module = e.module ∧ r.tap = e.tap ∧ r.plane = e.plane)), bad := l.bad ++ [⟨e.module, e.tap, e.plane, 5⟩] }

/-- The line set of the same row before the one with serial `n`, if Gallery still holds it. -/
def Dev.lineBefore (d : Dev) (n : Nat) (lead : Bool) : Option LineSet :=
  (d.gal.lines.filter (fun l => decide (l.lead = lead) && decide (l.serial < n))).getLast?

/-- A missing line of an exposure: counted, rebuilt when single, INVALID from the second on. -/
def Dev.missing (d : Dev) (g : Nat) (m : Module) (e : Expect) : Dev :=
  match e.serial with
  | none => d
  | some ser =>
    let n := m.errPad e.tap
    let d := (d.count (F.LNE_PAD_ERR.ERR_CNT g n) 1).flag (F.LNE_PAD.LINE_MISSING g n)
    let run := d.missRun e + 1
    let d := d.setMissRun e run
    if run = 1 then d.mapLine ser (fun l => { l with recon := l.recon ++ [⟨e.module, e.tap, e.plane, 0⟩] })
    else
      let d := (d.setF (F.LNE_GRP_STATUS.DESYNC_PAD g) n).flag (F.LNE_GRP_STATUS.MODULE_DESYNC g)
      let d := d.mapLine ser (·.desync e)
      if run = 2 then
        match d.lineBefore ser m.isLead with
        | some l => d.mapLine l.serial (·.desync e)
        | none => d
      else d

/-- A good line: its samples join the line set. -/
def Dev.arrived (d : Dev) (g : Nat) (e : Expect) (codes : List Nat) : Dev :=
  match e.serial with
  | none => d
  | some ser =>
    ((d.setMissRun e 0).requestRaw ser g e.plane).mapLine ser
      (fun l => { l with raws := l.raws ++ [⟨e.module, e.tap, e.plane, codes⟩] })

/-- The oldest outstanding exposure of a tap, taken off the list. -/
def Dev.takeExpect (d : Dev) (m tap : Nat) : Option (Expect × Dev) :=
  match d.expects.find? (fun e => e.module = m ∧ e.tap = tap) with
  | some e => some (e, { d with expects := d.expects.erase e })
  | none => none

/-- A line that two receivers may have decoded: verdicts of the live receiver and, on a shadowed pad, the spare. -/
def Dev.lineVerdict (d : Dev) (g n : Nat) (m : Module) (e : Expect) (live : Option (List Nat))
    (spare : Option (Option (List Nat))) : Dev :=
  match live with
  | some codes => d.arrived g e codes
  | none =>
    let d := d.missing g m e
    match spare with
    | some (some _) => d.rxFail g n 1
    | some none => d.flag (F.LNE_GRP_STATUS.RX_DOUBLE_FAIL g)
    | none => d

/-! ## Gen B (R46, R47) -/

/-- Pixels of the data words of a line, widened to 16 bits; none on a framing error. -/
def genBLine (m : Module) (words : List Nat) : Option (List Nat) :=
  let data := words.filter (fun w => if m.taps = 4 then bitOf w 25 else bitOf w 17)
  if data.length ≠ m.words then none
  else
    let px := if m.taps = 4 then data.flatMap (fun w => [bitsOf w 11 0 * 16, bitsOf w 23 12 * 16])
      else data.map (fun w => bitsOf w 15 0)
    some (px.take m.photosites)

def Dev.genBModule (d : Dev) (g : Nat) : Option Module :=
  d.bar.bind (fun b => b.mods.find? (fun m => m.gen = 2 ∧ m.group = g))

def Dev.genB (d : Dev) (g : Nat) (live : List Nat) (spare : Option (List Nat)) : Dev :=
  match d.genBModule g with
  | none => d
  | some m =>
    match d.takeExpect m.id 0 with
    | none => d
    | some (e, d) =>
      let x := d.lane g
      let pad := x.sparePad
      let shadowed := (m.map.take m.taps).contains pad && x.shadows pad
      if !x.clockLock then d.missing g m e
      else d.lineVerdict g pad m e (genBLine m live) (if shadowed then spare.map (genBLine m) else none)

/-- The clock is absent for 1 µs (R45). -/
def Dev.genBLost (d : Dev) (g : Nat) : Dev :=
  ((d.setLane g { d.lane g with clockLock := false }).flag (F.LNE_GRP_STATUS.GENB_CLOCK_LOST g)).showLanes g

def Dev.genBLocked (d : Dev) (g : Nat) : Dev := (d.setLane g { d.lane g with clockLock := true }).showLanes g

/-- Sampling points move towards the eye centres by at most 1/64 UI; a narrow eye is reported (R48). `eyes` lists
width and centre of each data pair in 1/64 UI. -/
def Dev.eyeAdjust (d : Dev) (g : Nat) (eyes : List (Nat × Int)) : Dev :=
  match d.genBModule g with
  | none => d
  | some m =>
    (List.range m.taps).foldl (fun d k =>
      match eyes[k]? with
      | none => d
      | some eye =>
        let x := d.lane g
        let p := x.points.getD k 0
        let n := m.map.getD k 0
        let d := d.setLane g { x with points := x.points.set k (p + clampI (eye.2 - p) (-1) 1) }
        (d.setF (F.LNE_PAD.EYE_WIDTH g n) (min eye.1 63)).flagIf (decide (100 * eye.1 < 1920)) (F.LNE_PAD.EYE_NARROW g n)) d

/-! ## Gen C (R49 to R53) -/

/-- 12-bit pixels of 3-byte units, widened to 16 bits. -/
def genCPixels : List Byte → List Nat
  | a :: b :: c :: t =>
    (a.toNat + b.toNat % 16 * 256) * 16 :: (b.toNat / 16 + c.toNat * 16) * 16 :: genCPixels t
  | _ => []

/-- R50, R52, R53 and R58 on one lane packet; its pixels when it is good. -/
def genCLine (m : Module) (e : Expect) (p : LanePacket) : Option (List Nat) :=
  let n := m.lanePixels
  if p.err || decide (crc16 p.bytes ≠ p.crc) || decide (bufNat p.bytes 0 1 ≠ e.plane) ||
      decide (bufNat p.bytes 1 1 ≠ (e.pulse + 255) % 256) || decide (bufNat p.bytes 2 2 ≠ n) ||
      decide (p.bytes.length ≠ 4 + 3 * n / 2) || (decide (m.taps = 2) && decide (32 < p.skew)) then none
  else some (genCPixels (p.bytes.drop 4))

def Dev.genC (d : Dev) (g n : Nat) (live : LanePacket) (spare : Option LanePacket) : Dev :=
  match d.padModule g n with
  | none => d
  | some (m, k) =>
    if m.gen ≠ 3 then d
    else match d.takeExpect m.id k with
      | none => d
      | some (e, d) =>
        let x := d.lane g
        let lv := if x.laneLock.getD n false then genCLine m e live else none
        let sp := if x.shadows n then spare.map (fun p => if x.spareLock then genCLine m e p else none) else none
        d.lineVerdict g n m e lv sp

/-- A Gen C receiver declares lock: start pulses count from here (R49, R53). -/
def Dev.genCLock (d : Dev) (g n : Nat) (spare : Bool) : Dev :=
  let x := d.lane g
  if spare then (if x.shadows n then d.setLane g { x with spareLock := true } else d)
  else
    let d := (d.setLane g { x with laneLock := x.laneLock.set n true }).showLanes g
    match d.padModule g n with
    | some m => { d with pulses := spSet pulseInit d.pulses m.1.id 0 }
    | none => d

/-- Loss of lock; the live receiver's while the spare holds lock on its pad is a receiver fault (R56). -/
def Dev.genCLoss (d : Dev) (g n : Nat) (spare : Bool) : Dev :=
  let x := d.lane g
  if spare then (if x.shadows n then d.setLane g { x with spareLock := false } else d)
  else
    let fault := x.laneLock.getD n false && x.shadows n && x.spareLock
    let d := (d.setLane g { x with laneLock := x.laneLock.set n false }).showLanes g
    if fault then d.rxFail g n 2 else d

/-- A line has not ended within its readout time plus 2 µs (R58). -/
def Dev.lineTimeout (d : Dev) (g n : Nat) : Dev :=
  match d.padModule g n with
  | none => d
  | some (m, k) =>
    match d.takeExpect m.id (if m.gen = 2 then 0 else k) with
    | none => d
    | some (e, d) => d.missing g m e

/-! ## I²C controllers (R67, R68, R76) -/

def Dev.i2cOf (d : Dev) (n : Nat) : I2c := spGet i2cInit d.i2c n

def Dev.setI2c (d : Dev) (n : Nat) (x : I2c) : Dev :=
  ({ d with i2c := spSet i2cInit d.i2c n x }.setF (F.I2C_STATUS.TX_LEVEL n) x.tx.length).setF
    (F.I2C_STATUS.RX_LEVEL n) x.rx.length

/-- A transfer moves on as far as its FIFOs and its target let it; `fuel` bounds its bytes. -/
def I2c.settle : Nat → I2c → I2c
  | 0, x => x
  | f + 1, x =>
    match x.run with
    | none => x
    | some r =>
      if r.ended.isSome then x
      else if !r.ackAddr then { x with run := some { r with ended := some 1 } }
      else if 0 < r.wr then
        match x.tx with
        | [] => x
        | _ :: t =>
          if r.ackBytes = 0 then { x with tx := t, run := some { r with ended := some 2 } }
          else I2c.settle f { x with tx := t, run := some { r with wr := r.wr - 1, ackBytes := r.ackBytes - 1, moved := r.moved + 1 } }
      else if 0 < r.rd then
        if 32 ≤ x.rx.length then x
        else I2c.settle f { x with rx := x.rx ++ [r.answer.headD 0xFF#8],
                                   run := some { r with rd := r.rd - 1, answer := r.answer.drop 1, moved := r.moved + 1 } }
      else { x with run := some { r with ended := some 0 } }

def Dev.i2cSettle (d : Dev) (n : Nat) : Dev := d.setI2c n (I2c.settle 514 (d.i2cOf n))

/-- A transfer ends: DONE, RESULT, BYTES, the transmit FIFO empty, the interrupt of LNE. -/
def Dev.i2cEnd (d : Dev) (n result moved : Nat) : Dev :=
  let d := d.setI2c n { d.i2cOf n with tx := [], run := none }
  ((((d.setF (F.I2C_STATUS.BUSY n) 0).setF (F.I2C_STATUS.RESULT n) result).setF (F.I2C_STATUS.BYTES n) moved).flag
    (F.I2C_STATUS.DONE n)).irq 2

/-- I2C_CMD: a write while BUSY with GO = 1 is discarded; a controller not in use ends a transfer with DISABLED. -/
def Dev.i2cCmd (d : Dev) (rq : Req) (n : Nat) (v : Word) (t : I2cTarget) : Dev :=
  let go := bitOf v.toNat 31
  if go && d.on (F.I2C_STATUS.BUSY n) then d.accessErr rq false .locked (R.I2C_CMD n)
  else
    let d := d.setReg (R.I2C_CMD n) (v &&& 0x7F03FFFF#32)
    if !go then d
    else
      let wr := d.f (F.I2C_CMD.WR_LEN n)
      let rd := d.f (F.I2C_CMD.RD_LEN n)
      let d := d.setI2c n { d.i2cOf n with rx := [] }
      if !d.on (F.I2C_CFG.EN n) then d.i2cEnd n 6 0
      else if (wr = 0 ∧ rd = 0) ∨ 256 < wr ∨ 256 < rd then d.i2cEnd n 5 0
      else
        let d := ((d.emit (.i2c n "start" (d.f (F.I2C_CMD.ADDR n)))).setF (F.I2C_STATUS.BUSY n) 1).setI2c n
          { d.i2cOf n with run := some ⟨d.f (F.I2C_CMD.ADDR n), wr, rd, t.ackAddr, t.ackBytes, t.answer, 0, none⟩ }
        d.i2cSettle n

/-- I2C_CFG: SPEED 0b11 is reserved; EN = 0 releases the bus, ends a transfer and empties both FIFOs. -/
def Dev.i2cCfg (d : Dev) (rq : Req) (n : Nat) (v : Word) : Dev :=
  if bitsOf v.toNat 30 29 = 3 then d.accessErr rq false .value (R.I2C_CFG n)
  else
    let d := d.setReg (R.I2C_CFG n) (v &&& 0xE0000000#32)
    if d.on (F.I2C_CFG.EN n) then d
    else
      let d := match (d.i2cOf n).run with
        | some r => d.i2cEnd n 6 r.moved
        | none => d
      d.setI2c n { d.i2cOf n with tx := [], rx := [] }

def Dev.i2cPush (d : Dev) (rq : Req) (n : Nat) (v : Word) : Dev :=
  let x := d.i2cOf n
  if 28 < x.tx.length then d.accessErr rq false .locked (R.I2C_CFG n + 0x40)
  else (d.setI2c n { x with tx := x.tx ++ leBytes 4 v.toNat }).i2cSettle n

/-- A read of I2C_RX_WIN: four bytes, byte 0 first, missing ones 0. -/
def Dev.i2cPop (d : Dev) (rq : Req) (n : Nat) : Nat × Dev :=
  let x := d.i2cOf n
  if x.rx.isEmpty then (0, d.accessErr rq false .emptyRead (R.I2C_CFG n + 0x60))
  else (leNat (x.rx.take 4), (d.setI2c n { x with rx := x.rx.drop 4 }).i2cSettle n)

/-- The stop condition of a transfer that has run to its end. -/
def Dev.i2cDone (d : Dev) (n : Nat) : Dev :=
  match (d.i2cOf n).run with
  | some r =>
    match r.ended with
    | some res => (d.emit (.i2c n "stop" r.moved)).i2cEnd n res r.moved
    | none => d
  | none => d

/-- SCL or SDA low for 25 ms: BUS_STUCK, 9 SCL pulses and a stop (R68). -/
def Dev.i2cStuck (d : Dev) (n : Nat) : Dev :=
  match (d.i2cOf n).run with
  | some r => ((d.i2cEnd n 3 r.moved).emit (.i2c n "clocks" 9)).emit (.i2c n "stop" 0)
  | none => d

/-- A FIFO has waited for 25 ms. -/
def Dev.i2cStall (d : Dev) (n : Nat) : Dev :=
  match (d.i2cOf n).run with
  | some r => if r.ended.isSome then d else (d.emit (.i2c n "stop" r.moved)).i2cEnd n 4 r.moved
  | none => d

/-! ## Meanings -/

def execI2cGo (rq : Req) (n : Fin 4) (v : Word) (target : I2cTarget) (s : State) : Host.Outcome State Fault Refusal :=
  s.lift (fun d => if d.awake then d.i2cCmd rq n (v ||| 0x80000000#32) target else d)

def execI2cCfgWrite (rq : Req) (n : Fin 4) (v : Word) (s : State) : Host.Outcome State Fault Refusal :=
  s.lift (fun d => if d.awake then d.i2cCfg rq n v else d)

def execI2cTxPush (rq : Req) (n : Fin 4) (v : Word) (s : State) : Host.Outcome State Fault Refusal :=
  s.lift (fun d => if d.awake then d.i2cPush rq n v else d)

def execI2cRxPop (rq : Req) (n : Fin 4) (s : State) : Host.Outcome State Fault Refusal :=
  s.lift (fun d => if d.awake then (d.i2cPop rq n).2.emit (.readData (R.I2C_CFG n + 0x60) (d.i2cPop rq n).1) else d)

def execI2cTransferEnd (n : Fin 4) (s : State) : Host.Outcome State Fault Refusal := s.lift (·.i2cDone n)

def execBusStuck (n : Fin 4) (s : State) : Host.Outcome State Fault Refusal := s.lift (·.i2cStuck n)

def execFifoStall (n : Fin 4) (s : State) : Host.Outcome State Fault Refusal := s.lift (·.i2cStall n)

def execGenbLine (g : Fin 8) (live : List Nat) (spare : Option (List Nat)) (s : State) :
    Host.Outcome State Fault Refusal := s.lift (·.genB g live spare)

def execGencPacket (g : Fin 8) (pad : Fin 4) (live : LanePacket) (spare : Option LanePacket) (s : State) :
    Host.Outcome State Fault Refusal := s.lift (·.genC g pad live spare)

def execGenbClockLost (g : Fin 8) (s : State) : Host.Outcome State Fault Refusal := s.lift (·.genBLost g)

def execGenbLock (g : Fin 8) (s : State) : Host.Outcome State Fault Refusal := s.lift (·.genBLocked g)

def execGencLock (g : Fin 8) (pad : Fin 4) (spare : Bool) (s : State) : Host.Outcome State Fault Refusal :=
  s.lift (·.genCLock g pad spare)

def execGencLossOfLock (g : Fin 8) (pad : Fin 4) (spare : Bool) (s : State) : Host.Outcome State Fault Refusal :=
  s.lift (·.genCLoss g pad spare)

def execEyeAdjust (g : Fin 8) (eyes : List (Nat × Int)) (s : State) : Host.Outcome State Fault Refusal :=
  s.lift (·.eyeAdjust g eyes)

def execSpareRotation (g : Fin 8) (s : State) : Host.Outcome State Fault Refusal := s.lift (·.spareRotate g)

def execLineMissing (g : Fin 8) (pad : Fin 4) (s : State) : Host.Outcome State Fault Refusal := s.lift (·.lineTimeout g pad)

end Sys2Proof.Machine
end

