-- ==== Sys2Proof/Machine/Shading.lean ====
section
/-! DEFINITION. The shading store, the choice of the set, swaps, gain multipliers and live tracking, LED headroom
(spec 06_shading.md R160-R170, R177-R181; 20 R492). -/

namespace Sys2Proof.Machine

/-! ## The store (R160 to R164) -/

/-- Address of the word of photosite `j` of module `m` in plane `p` of physical set `s`. -/
def Bar.wordAddr (b : Bar) (s p m j : Nat) : Nat :=
  winShade + 0x400000 * s + 4 * (p * 262144 + sumN ((b.mods.take m).map (·.photosites)) + j)

def Dev.shadeGain (d : Dev) (a : Nat) : Nat := d.mem (a + 2) 2
def Dev.shadeOfs (d : Dev) (a : Nat) : Int := signed 16 (d.mem a 2)

def Dev.tagNibble (d : Dev) (s g p c : Nat) : Nat :=
  bitsOf (d.mem (shadeHeader s + 4 * (4 * g + p)) 4) (4 * c + 3) (4 * c)

def Dev.tileRef (d : Dev) (s m p : Nat) : Nat := d.mem (shadeHeader s + 128 + 2 * (4 * m + p)) 2
def Dev.darkRef (d : Dev) (s m p : Nat) : Nat := d.mem (shadeHeader s + 640 + 2 * (4 * m + p)) 2

def Dev.activeSet (d : Dev) : Nat := d.f F.SHD_CTRL.ACTIVE_SET
def Dev.shadowSet (d : Dev) : Nat := 1 - d.activeSet

def Dev.setValid (d : Dev) (s : Nat) : Bool := if s = 0 then d.on F.SHD_CTRL.VALID_0 else d.on F.SHD_CTRL.VALID_1

def Dev.putValid (d : Dev) (s : Nat) (v : Bool) : Dev :=
  if s = 0 then d.setB F.SHD_CTRL.VALID_0 v else d.setB F.SHD_CTRL.VALID_1 v

/-- R164: the set's tag matches the codes in force. -/
def Dev.tagMatches (d : Dev) (s : Nat) : Bool :=
  match d.bar with
  | none => true
  | some b => (List.range 8).all (fun g => (d.barTaps g).all (fun t => b.planeList.all (fun p =>
      decide (d.tagNibble s g p t = d.tapCode g t p))))

/-! ## Swaps (R166 to R170) -/

/-- Does Gallery hold a plane line shaded with set `s`? -/
def Dev.holdsSet (d : Dev) (s : Nat) : Bool := d.gal.lines.any (fun l => l.set = s)

def Dev.refreshLock (d : Dev) : Dev := d.setB F.SHD_CTRL.SHADOW_LOCKED (d.holdsSet d.shadowSet)

/-- Exchange the roles of the sets; the tracking accumulators restart (R168, R170). -/
def Dev.swap (d : Dev) : Dev :=
  let d := (d.setF F.SHD_CTRL.ACTIVE_SET d.shadowSet).flag F.SHD_STATUS.SWAPPED
  ({ d with shd := { d.shd with track := [], swapSoon := false } }.refreshLock).haulEvent 13

/-- The swap part of R166 with the codes in force. -/
def Dev.chooseSet (d : Dev) : Dev :=
  let fit := d.setValid d.shadowSet && d.tagMatches d.shadowSet
  if d.on F.SHD_CTRL.SWAP_REQ && fit then d.swap.setF F.SHD_CTRL.SWAP_REQ 0
  else if !d.tagMatches d.activeSet && fit then d.swap
  else d

/-- R166 and R170 at a line boundary. -/
def Dev.boundarySet (d : Dev) : Dev :=
  let d := if d.shd.swapSoon && d.setValid d.shadowSet && !d.setValid d.activeSet then d.swap else d
  let d := d.chooseSet
  if d.tagMatches d.activeSet then d
  else (d.flag F.SHD_STATUS.RANGE_UNMATCHED).count F.SHD_COUNT.UNMATCHED_CNT 1

/-- Does Gallery hold no plane line? -/
def Dev.galleryIdle (d : Dev) : Bool := d.gal.lines.isEmpty

/-- R169: the choice while disarmed. -/
def Dev.disarmedSwap (d : Dev) : Dev := if d.armed || !d.galleryIdle then d else d.chooseSet

/-- R170: a valid set has been left in the shadow. -/
def Dev.offerShadow (d : Dev) : Dev :=
  if d.setValid d.activeSet || !d.setValid d.shadowSet then d
  else if d.armed then { d with shd := { d.shd with swapSoon := true } } else d.swap

/-! ## Gain multipliers (R140, R179 to R181) -/

def gainKey (m p : Nat) : Nat := 4 * m + p

/-- M in force. -/
def mulOf (gains : List (Nat × Nat)) (m p : Nat) : Nat := spGet (fun _ => 16384) gains (gainKey m p)

def Dev.mulReg (d : Dev) (m p : Nat) : Nat := d.f (F.SHD_MOD_GAIN.M m p)

/-- Every multiplier register that differs from its reset value. -/
def Dev.mulRegs (d : Dev) : List (Nat × Nat) :=
  (List.range 256).filterMap (fun i =>
    let v := d.mulReg (i / 4) (i % 4)
    if v = 16384 then none else some (i, v))

/-- At a line boundary waiting results come into force; the keys that changed. -/
def Dev.boundaryMul (d : Dev) : Dev × List Nat :=
  let d := d.shd.mNext.foldl (fun d x => d.setF (F.SHD_MOD_GAIN.M (x.1 / 4) (x.1 % 4)) x.2) d
  let now := d.mulRegs
  let changed := (List.range 256).filter (fun i => spGet (fun _ => 16384) now i ≠ spGet (fun _ => 16384) d.shd.mNow i)
  ({ d with shd := { d.shd with mNext := [], mNow := now } }, changed)

/-- Is a module tracked under R178 in a plane? -/
def Dev.tracked (d : Dev) (m p : Nat) : Bool :=
  decide (d.f (F.SHD_TRACK_SRC.MODE m) = 0) && decide (d.tileRef d.activeSet m p ≠ 0)

/-- LED headroom and wear of a channel (R492); with no tracked module in its plane the figure stays. -/
def Dev.ledWear (d : Dev) (n : Nat) : Dev :=
  let role := d.f (F.LTN_CH_CFG.ROLE n)
  let p := if role = 4 then d.f F.SUR_CTRL.LEAD_PLANE else role
  let count := match d.bar with | some b => b.mods.length | none => 0
  let ms := (List.range count).filter (fun m => d.tracked m p ||
    (decide (d.f (F.SHD_TRACK_SRC.MODE m) = 1) && d.tracked (d.f (F.SHD_TRACK_SRC.SRC m)) p))
  if 4 < role ∨ ms.isEmpty then d
  else
    let e := (d.f (F.LTN_CH_SET.SET_CODE n) * maxOf (ms.map (fun m => mulOf d.shd.mNow m p)) + 8192) / 16384
    let h := 4095 - e
    (d.setF (F.LTN_CH_WEAR.HEADROOM n) h).flagIf (decide (h < d.f (F.LTN_CH_WEAR.LED_WARN n))) (F.LTN_CH_WEAR.LED_WEAR n)

def Dev.ledWearAll (d : Dev) : Dev := (List.range 16).foldl (fun d n => d.ledWear n) d

def Dev.trackLog (d : Dev) : Nat := min 10 (d.f F.SHD_CTRL.TRACK_LOG)

/-- R179's new M and whether it met a limit. -/
def Dev.newMul (d : Dev) (m ratio : Nat) : Nat × Bool :=
  let target : Int := ((m * ratio + 8192) / 16384 : Nat)
  let step : Int := max 1 (d.f F.SHD_CTRL.TRACK_STEP)
  let delta := clampI (divFloor (target - m) (2 ^ min 7 (d.f F.SHD_CTRL.TRACK_SHIFT))) (-step) step
  let x := clampI (m + delta) 12288 24576
  (x.toNat, decide (x ≠ m + delta))

def Dev.setNext (d : Dev) (m p : Nat) (r : Nat × Bool) : Dev :=
  let d := { d with shd := { d.shd with mNext := spSet (fun _ => 0) d.shd.mNext (gainKey m p) r.1 } }
  if r.2 then ((d.setF F.SHD_STATUS.LIMIT_MODULE m).setF F.SHD_STATUS.LIMIT_PLANE p).flag F.SHD_STATUS.TRACK_LIMIT else d

def Dev.trackOf (d : Dev) (m p : Nat) : Option Track := d.shd.track.find? (fun t => t.module = m ∧ t.plane = p)

def Dev.dropTrack (d : Dev) (m p : Nat) : Dev :=
  { d with shd := { d.shd with track := d.shd.track.filter (fun t => ¬ (t.module = m ∧ t.plane = p)) } }

/-- TRACK_UPDATE: after 2^TRACK_LOG accepted lines, M of the module and of those that follow it (R179, R180). -/
def Dev.trackUpdate (d : Dev) (m p : Nat) : Dev :=
  match d.trackOf m p with
  | none => d
  | some t =>
    let log := d.trackLog
    if t.n < 2 ^ log then d
    else
      let mean := if log = 0 then t.sum else (t.sum + 2 ^ (log - 1)) / 2 ^ log
      let ratio := (2 * d.tileRef d.activeSet m p * 16384 + mean) / (2 * mean)
      let d := d.setNext m p (d.newMul t.m ratio)
      let d := (List.range 64).foldl (fun d n =>
        if d.f (F.SHD_TRACK_SRC.MODE n) = 1 ∧ d.f (F.SHD_TRACK_SRC.SRC n) = m then
          d.setNext n p (d.newMul (mulOf d.shd.mNow n p) ratio) else d) d
      (d.dropTrack m p).ledWearAll

/-- A tile line of a tracked module, with mean `t` of its good tile photosites (R178). -/
def Dev.trackLine (d : Dev) (m p t ref mul : Nat) : Dev :=
  if ref < 8 * ((t : Int) - ref).natAbs then (d.count F.SHD_COUNT.OBSCURED_CNT 1).flag F.SHD_STATUS.TILE_OBSCURED
  else
    let x := (d.trackOf m p).getD ⟨m, p, 0, 0, mul⟩
    let d := d.dropTrack m p
    { d with shd := { d.shd with track := d.shd.track ++ [{ x with sum := x.sum + t, n := x.n + 1, m := mul }] } }

/-- A host write of M (R181). -/
def Dev.mulWrite (d : Dev) (rq : Req) (m p v : Nat) : Dev :=
  if d.on F.SHD_CTRL.TRACK_EN then d.accessErr rq false .locked (R.SHD_MOD_GAIN m p)
  else
    let d := { d with shd := { d.shd with mNext := d.shd.mNext.filter (fun x => x.1 ≠ gainKey m p) } }
    (d.setF (F.SHD_MOD_GAIN.M m p) v).dropTrack m p

/-! ## Meanings -/

def execSwapReq (s : State) : Host.Outcome State Fault Refusal :=
  s.lift (fun d => if d.awake then d.setF F.SHD_CTRL.SWAP_REQ 1 else d)

def execSwapCancel (s : State) : Host.Outcome State Fault Refusal :=
  s.lift (fun d => if d.awake then d.setF F.SHD_CTRL.SWAP_REQ 0 else d)

def execDisarmedSwap (s : State) : Host.Outcome State Fault Refusal := s.lift (·.disarmedSwap)

def execTrackUpdate (m : Fin 64) (p : Fin 4) (s : State) : Host.Outcome State Fault Refusal := s.lift (·.trackUpdate m p)

def execMWrite (rq : Req) (m : Fin 64) (p : Fin 4) (v : Word) (s : State) : Host.Outcome State Fault Refusal :=
  s.lift (fun d => if d.awake then d.mulWrite rq m p (v.toNat % 65536) else d)

end Sys2Proof.Machine
end

