-- ==== Sys2Proof/Machine/Pixels.lean ====
section
/-! DEFINITION. Gallery's arithmetic, stages 1 to 6: reorder, dark clamp, shading, defects, reconstruction, placement,
alignment and seams (spec 05_gallery_pixel_pipeline.md R134, R137-R148). -/

namespace Sys2Proof.Machine

/-! ## Stages 1 to 3 -/

/-- A stage 6 pixel; `lim` when a module that covers it was aligned without a bracket (R147, R152). -/
structure OutPx where
  v : Nat
  r : Nat
  reb : Bool
  lim : Bool
  deriving DecidableEq, Repr

/-- A module's plane line after stage 3: the dark state, its black count, d, stage 2 values (none where no sample
counts) and stage 3 values, by photosite. -/
structure ModLine where
  dq : Int
  dark : Int
  c : List (Option Int)
  px : List Px
  deriving DecidableEq, Repr

def LineSet.tapCodes (l : LineSet) (m p k : Nat) : Option (List Nat) :=
  (l.raws.find? (fun r => r.module = m ∧ r.tap = k ∧ r.plane = p)).map (·.codes)

/-- The reason a tap's samples are INVALID in a plane line, 0 when they are not (R136, R156, R140). -/
def LineSet.tapReason (l : LineSet) (noSlice : Bool) (m : Module) (p k : Nat) : Nat :=
  if noSlice then 10
  else if l.cells.any (fun c => decide (c.group = m.group) && decide (c.plane = p) && c.cells.isNone) then 9
  else match l.bad.find? (fun x => x.module = m.id ∧ x.tap = k ∧ x.plane = p) with
    | some x => x.reason
    | none => 0

/-- Did the raw sample of photosite `j` meet an uncorrectable error (R305)? -/
def LineSet.hole (l : LineSet) (m : Module) (p j : Nat) : Bool := l.holes.contains (m.id, p, j)

/-- Raw code of photosite `j`, or none with the tap INVALID, its line missing or the sample lost. -/
def LineSet.site (l : LineSet) (noSlice : Bool) (m : Module) (p j : Nat) : Option Nat :=
  let k := m.tapOfSite j
  if l.tapReason noSlice m p k ≠ 0 ∨ l.hole m p j then none
  else (l.tapCodes m.id p k).bind (fun cs => cs[m.placeOfSite j]?)

/-- Black level of R138 from admitted black samples. -/
def blackLevel (codes : List Nat) : Int :=
  let n := codes.length
  divFloor (256 * (sumN codes : Int) + ((n / 2 : Nat) : Int)) n

/-- R139's dark state after a line. -/
def darkStep (prev : Option Int) (codes : List Nat) (a : Nat) : Int :=
  match prev with
  | none => if codes.isEmpty then 2048 * 256 else blackLevel codes
  | some dq =>
    if codes.isEmpty then dq
    else if a = 0 then blackLevel codes
    else dq + divFloor (blackLevel codes - dq) (2 ^ a)

/-- R140. -/
def shadePx (c o : Int) (g m : Nat) : Nat :=
  let gm : Int := (min ((g * m + 8192) / 16384) 65535 : Nat)
  (clampI (divFloor ((c - o) * gm + 8192) 16384) 0 65535).toNat

/-- Stages 1 to 3 of a module in a plane line; `ecc` lists photosites whose shading word shows an uncorrectable error
(R162). -/
def Dev.modLine (d : Dev) (b : Bar) (l : LineSet) (m : Module) (p : Nat) (prev : Option Int) (ecc : List (Nat × Nat)) :
    ModLine :=
  let ns := d.on F.GAL_STATUS.NO_SLICE
  let gain (j : Nat) : Nat := if ecc.contains (m.id, j) then 0 else d.shadeGain (b.wordAddr l.set p m.id j)
  let js := List.range m.photosites
  let blacks := (js.filter (fun j => m.black j && decide (gain j ≠ 0))).filterMap (fun j => l.site ns m p j)
  let dq := darkStep prev blacks l.darkShift
  let dark := divFloor (dq + 128) 256
  let c := js.map (fun j => (l.site ns m p j).map (fun x => (x : Int) - dark))
  let mul := mulOf l.gains m.id p
  let px := js.map (fun j =>
    let k := m.tapOfSite j
    let r := l.tapReason ns m p k
    match l.site ns m p j with
    | some x => ⟨shadePx ((x : Int) - dark) (d.shadeOfs (b.wordAddr l.set p m.id j)) (gain j) mul, 0, false, false⟩
    | none => ⟨0, if r ≠ 0 then r else if l.hole m p j then 7 else 5, false, false⟩)
  ⟨dq, dark, c, px⟩

/-! ## Reconstruction (R142) -/

/-- Stage 3 values of a module's line with the taps of `taps` rebuilt from the line before and the line after (none when
the fallback holds). -/
def rebuildTaps (m : Module) (taps : List Nat) (px : List Px) (before after : Option (List Px)) : List Px :=
  (List.range px.length).map (fun j =>
    let x := px.getD j ⟨0, 6, false, false⟩
    if !taps.contains (m.tapOfSite j) then x
    else match before.bind (·[j]?) with
      | none => ⟨0, 6, false, false⟩
      | some a =>
        if a.r ≠ 0 then ⟨0, 6, false, false⟩
        else match after.bind (·[j]?) with
          | none => ⟨a.v, 0, true, false⟩
          | some c => if c.r ≠ 0 then ⟨a.v, 0, true, false⟩ else ⟨(a.v + c.v + 1) / 2, 0, true, false⟩)

/-- Taps of a module that a line set rebuilds. -/
def LineSet.reconTaps (l : LineSet) (m : Nat) : List Nat :=
  ((l.recon.filter (fun r => r.module = m)).map (·.tap)).eraseDups

/-! ## Stage 4 (R141) -/

/-- A good neighbour in a list of cross-web pixels: nearest first. -/
def nearest (good : Nat → Bool) : List Nat → Option Nat
  | [] => none
  | u :: t => if good u then some u else nearest good t

/-- Defect repair of a module's cross-web picture photosites: `px` by u, `pic` the picture indices, `bad` defective. -/
def repair (n : Nat) (px : List Px) (pic bad : Nat → Bool) : List Px :=
  let at' (u : Nat) : Px := px.getD u ⟨0, 6, false, false⟩
  let run (u : Nat) : Bool := pic u && bad u && decide ((at' u).r = 0)
  let good (u : Nat) : Bool := pic u && !bad u && decide ((at' u).r = 0)
  (List.range n).map (fun u =>
    if !run u then at' u
    else
      let below := (List.range u).reverse
      let above := (List.range (n - u - 1)).map (fun i => u + 1 + i)
      let u0 := u - (below.takeWhile run).length
      let u1 := u + (above.takeWhile run).length
      let len : Int := (u1 : Int) - u0 + 2
      match nearest good below, nearest good above with
      | some a, some b =>
        let va : Int := (at' a).v
        let vb : Int := (at' b).v
        ⟨(va + divFloor (2 * (vb - va) * ((u : Int) - u0 + 1) + len) (2 * len)).toNat, 0, (at' u).reb, true⟩
      | some a, none => ⟨(at' a).v, 0, (at' u).reb, true⟩
      | none, some b => ⟨(at' b).v, 0, (at' u).reb, true⟩
      | none, none => ⟨0, 6, false, true⟩)

/-- Stage 4 values by cross-web index. -/
def Dev.stage4 (d : Dev) (b : Bar) (l : LineSet) (m : Module) (p : Nat) (px : List Px) (ecc : List (Nat × Nat)) : List Px :=
  let byU := (List.range m.photosites).map (fun u => px.getD (m.u u) ⟨0, 6, false, false⟩)
  repair m.photosites byU (fun u => m.picture (m.u u)) (fun u =>
    ecc.contains (m.id, m.u u) || decide (d.shadeGain (b.wordAddr l.set p m.id (m.u u)) = 0))

/-! ## Stage 5 (R143 to R145) -/

/-- Placement of an IMAGE module: q, r and w of R143. -/
structure Place where
  q : Int
  r : Int
  w : Nat
  deriving DecidableEq, Repr

def Bar.place (b : Bar) (m : Module) (adj : Int) : Place :=
  let e := m.xweb + adj - b.x0
  let q := divFloor e 6000
  let r := e - 6000 * q
  ⟨q, r, (divFloor (2 * r * 65536 + 6000) 12000).toNat⟩

/-- Sources of pixel `i`: cross-web indices that must be image photosites. -/
def covers (m : Module) (pl : Place) (i : Nat) : Bool :=
  let u := (i : Int) - pl.q
  let pic (x : Int) : Bool := decide (0 ≤ x) && decide (x < m.photosites) && m.picture (m.u x.toNat)
  if pl.r = 0 then pic u else pic (u - 1) && pic u

/-- R144: the placed value of pixel `i`. -/
def placePx (m : Module) (pl : Place) (px : List Px) (i : Nat) : Option Px :=
  if !covers m pl i then none
  else
    let u := ((i : Int) - pl.q).toNat
    let b := px.getD u ⟨0, 6, false, false⟩
    if pl.r = 0 then some b
    else
      let a := px.getD (u - 1) ⟨0, 6, false, false⟩
      let wa := pl.w
      let wb := 65536 - pl.w
      let r := if wa ≠ 0 ∧ a.r ≠ 0 then a.r else if wb ≠ 0 then b.r else 0
      let reb := (decide (wa ≠ 0) && a.reb) || (decide (wb ≠ 0) && b.reb)
      let filled := (decide (wa ≠ 0) && a.filled) || (decide (wb ≠ 0) && b.filled)
      some ⟨if r ≠ 0 then 0 else (a.v * wa + b.v * wb + 32768) / 65536, r, reb, filled⟩

/-- Lowest and highest pixel index that a module covers, with indices outside the line. -/
def coverSpan (m : Module) (pl : Place) : Option (Int × Int) :=
  let us := m.pictureU.filter (fun u => decide (pl.r = 0) || (decide (0 < u) && m.picture (m.u (u - 1))))
  match us.head?, us.getLast? with
  | some a, some b => some ((a : Int) + pl.q, (b : Int) + pl.q)
  | _, _ => none

/-- STITCH_ADJ kept with a line set, by IMAGE module in XWEB order. -/
def LineSet.adjOf (l : LineSet) (i : Nat) : Int := l.adj.getD i 0

/-- i_split and the split module h (R134). -/
def Bar.splitModule (b : Bar) : Nat :=
  let counts := b.images.map (fun m => m.pictureU.length)
  let half := (sumN counts + 1) / 2
  ((List.range counts.length).find? (fun h => decide (half ≤ sumN (counts.take (h + 1))))).getD 0

def Bar.iSplit (b : Bar) (l : LineSet) : Nat :=
  let h := b.splitModule
  match b.images[h]? with
  | none => 0
  | some m =>
    match coverSpan m (b.place m (l.adjOf h)) with
    | some s => (clampI (divFloor (s.1 + s.2) 2) 0 b.width).toNat
    | none => 0

/-- N_s of R135: photosites of the larger segment. -/
def Bar.segmentSites (b : Bar) : Nat :=
  let h := b.splitModule
  let ims := b.images
  if ims.length ≤ 1 then sumN (b.mods.map (·.photosites))
  else
    let s0 := sumN ((ims.take (h + 1)).map (·.photosites)) + sumN (b.leads.map (·.photosites))
    let s1 := sumN ((ims.drop h).map (·.photosites)) + sumN (b.tiles.map (·.photosites))
    max s0 s1

/-- T_rep in 10 ns units (R135), rounded up. -/
def Bar.tRep (b : Bar) : Nat := ceilDiv ((b.segmentSites + 3) / 4 * 125 + 200000) 1000

/-- The segment that processes a module's values alone: 0, 1, or none for the split module. -/
def Bar.segmentOf (b : Bar) (m : Module) : Option Nat :=
  if m.isLead then some 0
  else if m.isTile then some (if b.images.length ≤ 1 then 0 else 1)
  else
    let h := b.splitModule
    match b.images.findIdx? (fun x => x.id = m.id) with
    | some i => if b.images.length ≤ 1 then some 0 else if i < h then some 0 else if h < i then some 1 else none
    | none => some 0

/-- β of R145 for pixel `i` of a seam of `ia` to `ib`. -/
def seamWeight (fade ia ib i : Nat) (fm fn : Bool) : Nat :=
  let f : Int := min fade (ib - ia + 1)
  let mid : Int := ((ia + ib + 1) / 2 : Nat)
  let beta : Nat :=
    if f = 0 then (if (i : Int) < mid then 0 else 65536)
    else (clampI (divFloor ((2 * ((i : Int) - mid) + f + 1) * 65536) (2 * f)) 0 65536).toNat
  if fm && !fn then 65536 else if fn && !fm then 0 else beta

/-! ## Stage 6 (R146 to R148) -/

def Bar.aMax (b : Bar) : Int := (b.images.map (·.aweb)).foldl max (b.images.headD ⟨0,0,0,0,0,0,[],0,0,0,0,0,0,0,0,0,0,0,0,0,0,0,0⟩).aweb

def Bar.delta (b : Bar) (m : Module) : Int := b.aMax - m.aweb

/-- n_m of R146. -/
def Bar.nDelay (b : Bar) (m : Module) (pitch : Nat) : Nat := min (divFloor (b.delta m) pitch).toNat 7

/-- Some Δ_m reaches 8 × P. -/
def Bar.alignRange (b : Bar) (pitch : Nat) : Bool := b.images.any (fun m => decide ((8 * pitch : Int) ≤ b.delta m))

/-- R147's interpolation of a pixel between placed values of lines jj and jj − 1. -/
def alignPx (w : Nat) (a b : Px) : Px :=
  let wa := 65536 - w
  let r := if wa ≠ 0 ∧ a.r ≠ 0 then a.r else if w ≠ 0 then b.r else 0
  ⟨if r ≠ 0 then 0 else (a.v * wa + b.v * w + 32768) / 65536, r,
    (decide (wa ≠ 0) && a.reb) || (decide (w ≠ 0) && b.reb), a.filled⟩

/-- The bracket of R147 for target `t` among held lines of one module and plane. -/
def bracket (h : List Placed) (k : Int) (n : Nat) (t : Int) : Option (Placed × Placed × Nat) :=
  [k - n, k - n - 1].findSome? (fun jj =>
    match h.find? (fun x => x.k = jj), h.find? (fun x => x.k = jj - 1) with
    | some a, some b =>
      if b.pos ≤ t ∧ t ≤ a.pos ∧ b.pos < a.pos then
        let span := a.pos - b.pos
        some (a, b, (divFloor (2 * (a.pos - t) * 65536 + span) (2 * span)).toNat)
      else none
    | _, _ => none)

/-- The held line whose stamp lies nearest `t`; the lower index on a tie. -/
def nearestLine (h : List Placed) (k t : Int) : Option Placed :=
  (h.filter (fun x => x.k ≤ k)).foldl (fun best x =>
    match best with
    | none => some x
    | some y =>
      let dx := (x.pos - t).natAbs
      let dy := (y.pos - t).natAbs
      if dx < dy ∨ (dx = dy ∧ x.k < y.k) then some x else best) none

/-- A module's aligned values and whether it lacked a bracket; lines without a grid point are not aligned. -/
def alignModule (h : List Placed) (k : Int) (n : Nat) (target : Option Int) : List (Option Px) × Bool :=
  let own := match h.find? (fun x => x.k = k) with
    | some x => x.px
    | none => []
  match target with
  | none => (own, false)
  | some t =>
    match bracket h k n t with
    | some (a, b, w) =>
      ((List.range a.px.length).map (fun i =>
        match a.px.getD i none, b.px.getD i none with
        | some x, some y => some (alignPx w x y)
        | x, _ => x), false)
    | none =>
      match nearestLine h k t with
      | some x => (x.px, true)
      | none => (own, true)

/-- One IMAGE module at stage 6: aligned values, its bracket verdict, and the fill marks of line k. -/
structure Aligned where
  px : List (Option Px)
  lim : Bool
  filled : List Bool
  deriving DecidableEq, Repr

/-- R148 with R145: pixel `i` of the stitched line. -/
def joinPx (fade : Nat) (rows : List Aligned) (seam : Nat → Nat → Option (Nat × Nat)) (i : Nat) : OutPx :=
  let cover := (List.range rows.length).filter (fun m => ((rows[m]?).bind (fun r => r.px.getD i none)).isSome)
  let get (m : Nat) : Px := (((rows[m]?).bind (fun r => r.px.getD i none))).getD ⟨0, 8, false, false⟩
  let lim := cover.any (fun m => match rows[m]? with | some r => r.lim | none => false)
  match cover with
  | [] => ⟨0, 8, false, false⟩
  | [m] => ⟨(get m).v, (get m).r, (get m).reb, lim⟩
  | m :: n :: _ =>
    let x := get m
    let y := get n
    if x.r ≠ 0 ∧ y.r ≠ 0 then ⟨0, x.r, x.reb || y.reb, lim⟩
    else if x.r ≠ 0 then ⟨y.v, 0, y.reb, lim⟩
    else if y.r ≠ 0 then ⟨x.v, 0, x.reb, lim⟩
    else
      let fl (q : Nat) : Bool := match rows[q]? with | some r => r.filled.getD i false | none => false
      let beta := match seam m n with
        | some (ia, ib) => seamWeight fade ia ib i (fl m) (fl n)
        | none => 0
      ⟨(x.v * (65536 - beta) + y.v * beta + 32768) / 65536, 0,
        (decide (beta ≠ 65536) && x.reb) || (decide (beta ≠ 0) && y.reb), lim⟩

/-- The seam of two modules in the line: lowest and highest pixel that both cover. -/
def seamOf (w : Nat) (a b : Aligned) : Option (Nat × Nat) :=
  let both := (List.range w).filter (fun i => (a.px.getD i none).isSome && (b.px.getD i none).isSome)
  match both.head?, both.getLast? with
  | some x, some y => some (x, y)
  | _, _ => none

/-- The stitched line. -/
def stitch (w fade : Nat) (rows : List Aligned) : List OutPx :=
  let n := rows.length
  let seams := (List.range (n * n)).map (fun i =>
    if i / n < i % n then
      match rows[i / n]?, rows[i % n]? with
      | some a, some b => seamOf w a b
      | _, _ => none
    else none)
  (List.range w).map (joinPx fade rows (fun m k => seams.getD (m * n + k) none))

end Sys2Proof.Machine
end

