-- ==== Sys2Proof/Machine/Contexts.lean ====
section
/-! DEFINITION. Inspection contexts: start and stop, what they take, records, buffers and supplies (spec
10_inspection_contexts_and_records.md R255-R274). -/

namespace Sys2Proof.Machine

/-! ## Entry fields (Table 10.1) -/

def Dev.ctxPlanes (d : Dev) (n : Nat) : Nat := d.ctxField n 0 31 28
def Dev.ctxBin (d : Dev) (n : Nat) : Nat := d.ctxField n 0 27 26
def Dev.ctxFormat (d : Dev) (n : Nat) : Nat := d.ctxField n 0 25 24
def Dev.ctxPacked (d : Dev) (n : Nat) : Bool := d.ctxField n 0 23 23 = 1
def Dev.ctxAw (d : Dev) (n : Nat) : Bool := d.ctxField n 0 21 21 = 1
def Dev.ctxPriority (d : Dev) (n : Nat) : Nat := d.ctxField n 0 20 18
def Dev.ctxSurvey (d : Dev) (n : Nat) : Bool := d.ctxField n 0 17 17 = 1
def Dev.ctxStrata (d : Dev) (n : Nat) : Bool := d.ctxField n 0 16 16 = 1
def Dev.ctxMark (d : Dev) (n : Nat) : Bool := d.ctxField n 0 15 15 = 1
def Dev.ctxMarkPlane (d : Dev) (n : Nat) : Nat := d.ctxField n 0 13 12
def Dev.ctxRing (d : Dev) (n : Nat) : Nat := d.ctxField n 1 31 26
def Dev.ctxSupply (d : Dev) (n : Nat) : Nat := d.ctxField n 1 25 20
def Dev.ctxX (d : Dev) (n : Nat) : Nat := d.ctxField n 2 17 0
def Dev.ctxWidth (d : Dev) (n : Nat) : Nat := d.ctxField n 3 18 0
def Dev.ctxTag (d : Dev) (n : Nat) : Nat := d.ctxWord n 10

/-! ## Buffers (R265 to R268) -/

def Dev.supply (d : Dev) (s : Nat) : List Nat := spGet (fun _ => []) d.supplies s

def Dev.setSupply (d : Dev) (s : Nat) (l : List Nat) : Dev :=
  { d with supplies := spSet (fun _ => []) d.supplies s l }.setF (F.CTX_SUPPLY_STATUS.POSTED s) l.length

/-- Bytes of a supply's buffers. -/
def Dev.supplyLen (d : Dev) (s : Nat) : Nat := 4096 * d.f (F.CTX_SUPPLY_CFG.LEN s)

def Rec.size (r : Rec) : Nat := recordBytes r.payload.length

/-- The head of a context's waiting records fits in its open buffer. -/
def Dev.fits (d : Dev) (n : Nat) : Bool :=
  match (d.ctx n).buf, (d.ctx n).waiting with
  | some b, r :: _ => decide (b.used + r.size ≤ d.supplyLen b.supply)
  | _, _ => false

/-- Close the open buffer: its completion follows its records (R266). -/
def Dev.closeBuf (d : Dev) (n code : Nat) : Dev :=
  let c := d.ctx n
  match c.buf with
  | none => d
  | some b => (d.setCtx n { c with buf := none, lastClose := code }).post (d.ctxRing n)
      (bufCpl n code b.supply b.used b.records (d.ctxTag n) b.addr b.firstSeq)

/-- Close a buffer that the next record does not fit; report a record that waits with the supply empty (R267). -/
def Dev.roomCheck (d : Dev) (n : Nat) : Dev :=
  let c := d.ctx n
  if c.waiting.isEmpty then d
  else
    let d := if c.buf.isSome && !d.fits n then d.closeBuf n 0 else d
    let s := d.ctxSupply n
    if (d.ctx n).buf.isNone && (d.supply s).isEmpty then d.flag (F.CTX_SUPPLY_STATUS.STARVED s) else d

/-- Lines that the context has still to be handed: triggered below the stop and not yet handed off. -/
def Dev.linesDue (d : Dev) (c : Ctx) : Bool :=
  let due (serial : Nat) : Bool := decide (c.fromSerial ≤ serial) &&
    (match c.toSerial with | some t => decide (serial < t) | none => true)
  d.gal.lines.any (fun l => !l.lead && due l.serial) || d.ltn.mainQ.any (fun t => due t.serial)

/-- A stop that has taken effect ends when its last record is written: buffer closed, STOPPED, command completed. -/
def Dev.checkStop (d : Dev) (n : Nat) : Dev :=
  let c := d.ctx n
  match c.draining with
  | none => d
  | some code =>
    if !c.waiting.isEmpty || d.linesDue c then d
    else
      let d := d.closeBuf n code
      let d := d.setCtx n { d.ctx n with state := 0, draining := none, toSerial := none, fromLine := none, toLine := none }
      d.running.foldl (fun d r =>
        match r.kind with
        | .ctxStop m missed => if m = n then d.finish r.id { stOk with info := b2n missed } else d
        | _ => d) d

def Dev.checkStops (d : Dev) : Dev := d.ctxs.foldl (fun d c => d.checkStop c.1) d

/-- Bytes of a record as written: LOST_BEFORE in word 0, padding to 32 bytes. -/
def Rec.bytes (r : Rec) : List Byte :=
  let w0 := r.words.getD 0 0 + b2n r.lost * 64
  let body := (w0 :: r.words.drop 1).flatMap (leBytes 4) ++ r.payload
  body ++ List.replicate (r.size - body.length) 0#8

/-- May a context's next record be written now: room, link and completion ring (R267, R279, R285, R290)? -/
def Dev.canWrite (d : Dev) (n : Nat) : Bool :=
  !(d.ctx n).waiting.isEmpty && d.canIssue && !d.cqBlocks (d.ctxRing n) &&
    (d.fits n || !(d.supply (d.ctxSupply n)).isEmpty)

/-- The context whose record is written next: highest PRIORITY, then lowest number (R268). -/
def Dev.nextWriter (d : Dev) : Option Nat :=
  ((d.ctxs.map (·.1)).filter d.canWrite).foldl (fun best n =>
    match best with
    | none => some n
    | some m => if d.ctxPriority m < d.ctxPriority n ∨ (d.ctxPriority m = d.ctxPriority n ∧ n < m) then some n
        else some m) none

/-- Take a new buffer from the supply. -/
def Dev.openBuf (d : Dev) (n seq : Nat) : Dev :=
  let s := d.ctxSupply n
  match d.supply s with
  | [] => d
  | a :: t => (d.setSupply s t).setCtx n { d.ctx n with buf := some ⟨a, s, 0, 0, seq⟩ }

/-- RECORD_WRITE. -/
def Dev.recordWrite (d : Dev) : Dev :=
  match d.nextWriter with
  | none => d
  | some n =>
    match (d.ctx n).waiting with
    | [] => d
    | r :: rest =>
      let seq := r.words.getD 1 0 / 2 ^ 20
      let d := if d.fits n then d else (d.closeBuf n 0).openBuf n seq
      match (d.ctx n).buf with
      | none => d
      | some b =>
        let d := d.emit (.hostWrite (b.addr + b.used) r.bytes d.link.relaxed)
        let c := d.ctx n
        let d := d.setCtx n { c with waiting := rest, records := (c.records + 1) % 2 ^ 32, buf := some { b with used := b.used + r.size, records := b.records + 1 } }
        ((d.setCtxCells n (c.cells - r.cells)).roomCheck n).checkStop n

/-- BUFFER_FLUSH: FLUSH_TIME has elapsed since the buffer's first record. -/
def Dev.bufferFlush (d : Dev) (n : Nat) : Dev := if d.ctxField n 9 15 0 = 0 then d else d.closeBuf n 1

/-! ## Records (R259 to R264) -/

/-- Enter a record with header word 0 (without LOST_BEFORE) and stamps: SEQ advances, cells are granted or it is
dropped. -/
def Dev.addRecord (d : Dev) (n w0 : Nat) (line : Int) (pos : Int) (time : Nat) (payload : List Byte) : Dev × Bool :=
  let c := d.ctx n
  let cells := recordCells payload.length
  let words := [w0, c.nextSeq * 2 ^ 20 + payload.length] ++ leWords (leBytes 8 (unsigned 64 line)) 2 ++
    leWords (leBytes 8 (unsigned 64 pos)) 2 ++ leWords (leBytes 8 time) 2
  let seq := (c.nextSeq + 1) % 4096
  if d.ctxGrants n cells then
    let d := d.setCtx n { c with nextSeq := seq, lost := false, waiting := c.waiting ++ [⟨words, c.lost, payload, cells⟩] }
    (((d.setCtxCells n (c.cells + cells)).roomCheck n).cqWaits (d.ctxRing n), true)
  else
    (d.setCtx n { c with nextSeq := seq, lost := true, dropCnt := min (c.dropCnt + 1) 0xFFFFFFFF, paceFailed := c.paceFailed || d.ctxPace n }, false)

/-- A record dropped with the line record it follows. -/
def Dev.dropRecord (d : Dev) (n : Nat) : Dev :=
  let c := d.ctx n
  d.setCtx n { c with nextSeq := (c.nextSeq + 1) % 4096, lost := true, dropCnt := min (c.dropCnt + 1) 0xFFFFFFFF, paceFailed := c.paceFailed || d.ctxPace n }

/-- R149: bins of a window; value and reason. -/
def bins (n : Nat) (px : List OutPx) : List (Nat × Nat) :=
  (List.range (px.length / n)).map (fun i =>
    let g := (px.drop (n * i)).take n
    match g.find? (fun x => x.r ≠ 0) with
    | some x => (0, x.r)
    | none => ((sumN (g.map (·.v)) + n / 2) / n, 0))

/-- R150: a sample of width `f`. -/
def formatBin (f b : Nat) : Nat := if f = 16 then b else min ((b + 2 ^ (15 - f)) / 2 ^ (16 - f)) (2 ^ f - 1)

/-- A packed bit stream: sample n in bits f × n upwards. -/
def packBits (f : Nat) (ys : List Nat) : Nat := ys.foldr (fun y acc => y + acc * 2 ^ f) 0

def formatLine (fmt : Nat) (packed : Bool) (bs : List Nat) : List Byte :=
  let f := widthOf fmt
  let ys := bs.map (formatBin f)
  if f = 8 then ys.map (fun y => BitVec.ofNat 8 y)
  else if f = 16 ∨ !packed then ys.flatMap (leBytes 2)
  else leBytes ((f * ys.length + 7) / 8) (packBits f ys)

/-- Runs of marked bins of at least `len`: (start, length) (R261). -/
def markRuns (len : Nat) (marks : List Bool) : List (Nat × Nat) :=
  let fin (acc : List (Nat × Nat)) (start run : Nat) : List (Nat × Nat) :=
    if len ≤ run ∧ 0 < run then acc ++ [(start, run)] else acc
  let r := marks.foldl (fun (st : List (Nat × Nat) × Nat × Nat × Nat) m =>
    let (acc, start, run, i) := st
    if m then (acc, if run = 0 then i else start, run + 1, i + 1) else (fin acc start run, 0, 0, i + 1)) ([], 0, 0, 0)
  fin r.1 r.2.1 r.2.2.1

def markPayload (runs : List (Nat × Nat)) : List Byte :=
  let listed := runs.take 7
  leBytes 4 (min runs.length 0xFFFF * 2 ^ 16 + listed.length) ++
    listed.flatMap (fun r => leBytes 4 (min r.2 16383 * 2 ^ 18 + r.1)) ++
    List.replicate (4 * (7 - listed.length)) 0#8

/-- R258: does a context take plane `p` of a line set? -/
def Dev.ctxTakes (d : Dev) (n : Nat) (l : LineSet) (p : Nat) : Bool :=
  let c := d.ctx n
  decide (c.state ≠ 0) && bitOf (d.ctxPlanes n) p &&
    (decide (l.mode = .service) || (decide (l.mode = .run) && l.grid.isSome)) &&
    decide (c.fromSerial ≤ l.serial) && (match c.toSerial with | some t => decide (l.serial < t) | none => true) &&
    (match c.fromLine with | some a => decide (a ≤ l.k) | none => true) &&
    (match c.toLine with | some a => decide (l.k < a) | none => true) &&
    (!d.ctxAw n || (match l.grid with
      | some g => decide (d.ctx64 n 4 ≤ g) && decide (g < d.ctx64 n 6)
      | none => false))

/-- Deliver a plane line to one context: line record, then its mark record. -/
def Dev.deliverTo (d : Dev) (n : Nat) (l : LineSet) (pr : PlaneRun) (out : List OutPx) (alignAll : Bool) : Dev :=
  if !d.ctxTakes n l pr.plane then d
  else
    let px := (out.drop (d.ctxX n)).take (d.ctxWidth n)
    let bs := bins (binOf (d.ctxBin n)) px
    let inv := px.find? (fun x => x.r ≠ 0)
    let lv := d.ctxField n 8 31 16
    let light := decide (d.ctxField n 0 14 14 = 1)
    let marks := bs.map (fun b => decide (b.2 = 0) && (if light then decide (lv < b.1) else decide (b.1 < lv)))
    let runs := if d.ctxMark n && decide (d.ctxMarkPlane n = pr.plane) then
        markRuns (max 1 (d.ctxField n 8 13 0)) marks else []
    let fl := b2n (l.rangeChanged.contains pr.plane) + 2 * b2n (px.any (·.reb)) +
      4 * b2n (decide (pr.job0 = 3 ∨ pr.job0 = 5 ∨ pr.job1 = 3 ∨ pr.job1 = 5)) + 8 * b2n pr.late +
      16 * b2n (alignAll || px.any (·.lim)) + 32 * b2n inv.isSome + 256 * b2n l.grid.isNone
    let reason := match inv with | some x => x.r | none => 0
    let head := n * 2 ^ 20 + pr.plane * 2 ^ 18 + reason * 2 ^ 12
    let r := d.addRecord n (head + fl + 128 * b2n (!runs.isEmpty)) l.k pr.pos pr.time
      (formatLine (d.ctxFormat n) (d.ctxPacked n) (bs.map (·.1)))
    if runs.isEmpty then r.1
    else if r.2 then (r.1.addRecord n (head + 3 * 2 ^ 16 + fl) l.k pr.pos pr.time (markPayload runs)).1
    else r.1.dropRecord n

def Dev.deliver (d : Dev) (l : LineSet) (pr : PlaneRun) (out : List OutPx) (alignAll : Bool) : Dev :=
  (d.ctxs.map (·.1)).foldl (fun d n => d.deliverTo n l pr out alignAll) d

/-- Deliver an analysis record (KIND 1 Survey, 2 Strata) through every running context that attaches it (R263). -/
def Dev.deliverAnalysis (d : Dev) (kind plane : Nat) (line pos : Int) (time : Nat) (payload : List Byte) : Dev :=
  (d.ctxs.map (·.1)).foldl (fun d n =>
    let on := if kind = 1 then d.ctxSurvey n else d.ctxStrata n
    if decide ((d.ctx n).state ≠ 0) && (d.ctx n).draining.isNone && on then
      (d.addRecord n (n * 2 ^ 20 + plane * 2 ^ 18 + kind * 2 ^ 16) line pos time payload).1
    else d) d

/-! ## Start and stop (R269 to R271) -/

/-- Fields that must be 0 in an entry. -/
def Dev.ctxZeros (d : Dev) (n : Nat) : Bool :=
  decide (d.ctxField n 0 11 0 = 0) && decide (d.ctxField n 1 19 13 = 0) && decide (d.ctxField n 2 31 18 = 0) &&
    decide (d.ctxField n 3 31 19 = 0) && decide (d.ctxField n 8 15 14 = 0) && decide (d.ctxField n 9 31 16 = 0) &&
    (List.range 5).all (fun i => decide (d.ctxWord n (11 + i) = 0))

/-- The first failing check of Table 10.7. -/
def Dev.ctxCheck (d : Dev) (n : Nat) : Nat :=
  let mask := d.ctxPlanes n
  let planes := match d.bar with | some b => b.planes | none => 0
  let w := match d.bar with | some b => b.width | none => 0
  let big := d.ctxLargest n
  let q := d.ctxQuota n
  let s := d.ctxSupply n
  let st := d.f (F.HST_CQ_STATUS.STATE (d.ctxRing n))
  if !d.modeIn [.run, .service] then 1
  else if d.bar.isNone then 2
  else if !d.setValid 0 && !d.setValid 1 then 3
  else if (d.ctx n).state ≠ 0 then 4
  else if !d.ctxZeros n || decide (d.ctxBin n = 3) ||
      (decide (mask = 0) && !d.ctxSurvey n && !d.ctxStrata n && !d.ctxMark n) ||
      (d.ctxMark n && !bitOf mask (d.ctxMarkPlane n)) || decide (q = 0) || decide (4096 < q) ||
      decide (d.ctxWidth n = 0) || (d.ctxAw n && decide (d.ctx64 n 6 ≤ d.ctx64 n 4)) then 5
  else if (List.range 4).any (fun p => bitOf mask p && !bitOf planes p) then 6
  else if w < d.ctxX n + d.ctxWidth n ∨ d.ctxWidth n < binOf (d.ctxBin n) then 7
  else if !d.on (F.CTX_SUPPLY_CFG.EN s) then 8
  else if d.supplyLen s < recordBytes big then 9
  else if q < recordCells big then 10
  else if st ≠ 1 then 11 else 0

/-- Has the line with index `a` been triggered? -/
def Dev.linePassed (d : Dev) (a : Int) : Bool :=
  match d.ltn.lastK with
  | some k => decide (a ≤ k)
  | none => false

def Dev.ctxStart (d : Dev) (src : Src) (n : Nat) (line : Option Int) : Dev :=
  let code := d.ctxCheck n
  if code ≠ 0 then (d.setCtx n { d.ctx n with lastResult := code }).complete src (stCode code)
  else
    let missed := match line with | some a => d.linePassed a | none => false
    let wait := line.isSome && !missed
    let d := d.setCtx n { ctxInit n with state := if wait then 1 else 2, atMissed := missed, lastClose := (d.ctx n).lastClose, fromSerial := d.ltn.serial, fromLine := if wait then line else none, sq := some src.sq.val }
    d.complete src { stOk with info := b2n missed }

/-- A stop takes effect: no line from serial `t` on (R270, R271, R272). -/
def Dev.stopNow (d : Dev) (n code t : Nat) : Dev :=
  let c := d.ctx n
  (d.setCtx n { c with state := 3, toSerial := some t, toLine := none, draining := some (c.draining.getD code) }).checkStop n

def Dev.ctxStop (d : Dev) (src : Src) (n : Nat) (line : Option Int) : Dev :=
  if !d.modeIn [.run, .service] then d.complete src stWrongMode
  else if (d.ctx n).state = 0 then d.complete src (stCode 1)
  else
    let missed := match line with | some a => d.linePassed a | none => false
    let d := d.startRun src (.ctxStop n missed)
    let d := if missed then d.setCtx n { d.ctx n with atMissed := true } else d
    match line with
    | some a =>
      if missed then d.stopNow n 2 d.ltn.serial else d.setCtx n { d.ctx n with state := 3, toLine := some a }
    | none => d.stopNow n 2 d.ltn.serial

/-- What a trigger of line `k` with serial `t` does to a context (R270, R271). -/
def Dev.ctxTrigger (d : Dev) (n : Nat) (t : Nat) (k : Int) (grid : Option Int) : Dev :=
  let c := d.ctx n
  if c.state = 0 then d
  else
    let d := match c.fromLine with
      | some a => if a ≤ k ∧ c.state = 1 then d.setCtx n { c with state := 2 } else d
      | none => d
    let d := match (d.ctx n).toLine with
      | some a => if a ≤ k then d.stopNow n 2 t else d
      | none => d
    match grid with
    | some g => if d.ctxAw n && decide (d.ctx64 n 6 ≤ g) && decide ((d.ctx n).state = 1 ∨ (d.ctx n).state = 2) then
        d.stopNow n 3 t else d
    | none => d

def Dev.ctxTriggers (d : Dev) (t : Nat) (k : Int) (grid : Option Int) : Dev :=
  (d.ctxs.map (·.1)).foldl (fun d n => d.ctxTrigger n t k grid) d

/-- The device leaves RUN or SERVICE (R272). -/
def Dev.ctxModeExit (d : Dev) : Dev :=
  (d.ctxs.map (·.1)).foldl (fun d n => if (d.ctx n).state = 0 then d else d.stopNow n 4 d.ltn.serial) d

/-- A context's abort (R298): records discarded, cells returned, the open buffer closed ABORTED, STOPPED. -/
def Dev.ctxAbort (d : Dev) (n : Nat) : Dev :=
  if (d.ctx n).state = 0 then d
  else
    let d := (d.setCtx n { d.ctx n with waiting := [] }).setCtxCells n 0
    let d := d.closeBuf n 5
    d.setCtx n { d.ctx n with state := 0, draining := none, toSerial := none, fromLine := none, toLine := none }

/-! ## Supplies (R265, R274) -/

/-- BUFFER_POST. -/
def Dev.bufferPost (d : Dev) (src : Src) (s addr : Nat) : Dev :=
  if addr % 4096 ≠ 0 then d.complete src (stInvalidField 2)
  else if !d.modeIn [.standby, .calibrate, .run, .service] then d.complete src stWrongMode
  else if !d.on (F.CTX_SUPPLY_CFG.EN s) then d.complete src (stCode 1)
  else if 4096 ≤ (d.supply s).length then d.complete src (stCode 2)
  else (d.setSupply s (d.supply s ++ [addr])).completeQuiet src stOk

/-- CTX_SUPPLY_CFG (R274). -/
def Dev.supplyCfg (d : Dev) (rq : Req) (s : Nat) (v : Word) : Dev :=
  let len := bitsOf v.toNat 12 0
  let used := d.ctxs.any (fun c => decide (c.2.state ≠ 0) && decide (d.ctxSupply c.1 = s))
  if used || (decide (len ≠ d.f (F.CTX_SUPPLY_CFG.LEN s)) && !(d.supply s).isEmpty) then
    d.accessErr rq false .locked (R.CTX_SUPPLY_CFG s)
  else if len = 0 ∨ 4096 < len then d.accessErr rq false .value (R.CTX_SUPPLY_CFG s)
  else
    let d := d.setReg (R.CTX_SUPPLY_CFG s) (v &&& 0x80001FFF#32)
    if d.on (F.CTX_SUPPLY_CFG.EN s) then d else d.setSupply s []

/-! ## Context state entries (R273) -/

def Dev.ctxStateWord (d : Dev) (n w : Nat) : Nat :=
  let c := d.ctx n
  if w = 0 then c.state * 2 ^ 29 + b2n c.atMissed * 2 ^ 28 + b2n c.paceFailed * 2 ^ 27 + c.lastResult * 2 ^ 16 +
    c.lastClose * 2 ^ 12 + c.nextSeq
  else if w = 1 then c.dropCnt
  else if w = 2 then c.cells
  else c.records

/-! ## Meanings -/

def execBufferPost (src : Src) (supply : Fin 64) (addr : Nat) (s : State) : Host.Outcome State Fault Refusal :=
  s.lift (·.bufferPost src supply addr)

def execCtxStart (src : Src) (n : Fin 4096) (line : Option Int) (s : State) : Host.Outcome State Fault Refusal :=
  s.lift (·.ctxStart src n line)

def execCtxStop (src : Src) (n : Fin 4096) (line : Option Int) (s : State) : Host.Outcome State Fault Refusal :=
  s.lift (·.ctxStop src n line)

def execRecordWrite (s : State) : Host.Outcome State Fault Refusal := s.lift (·.recordWrite)

def execBufferFlush (n : Fin 4096) (s : State) : Host.Outcome State Fault Refusal := s.lift (·.bufferFlush n)

end Sys2Proof.Machine
end

