-- ==== Sys2Proof/Machine/Frames.lean ====
section
/-! DEFINITION. Station membership and the sending of Tether frames (spec 01_inspection_station.md R28-R34; 17 R430-R433,
R441). -/

namespace Sys2Proof.Machine

/-! ## Station (R28, R29) -/

/-- Is the device a member of a station? -/
def Dev.inStation (d : Dev) : Bool := d.on F.TET_CFG.EN && d.on F.TET_CFG.STN_EN

/-- Does the device drive FEED and keep the Flowstone table: alone, or as its station's feed master? -/
def Dev.feedMaster (d : Dev) : Bool := !d.inStation || d.on F.TET_CFG.FEED_MASTER

def Dev.follower (d : Dev) : Bool := !d.feedMaster

/-- Node number in records; 0 outside a station. -/
def Dev.node (d : Dev) : Nat := if d.inStation then d.f F.TET_CFG.NODE else 0

/-! ## Frames (R431) -/

def wordBytes (ws : List Nat) : List Byte := ws.flatMap (leBytes 4)

/-- Words 0 to 14 with their CRC. -/
def sealFrame (ws : List Nat) : List Nat := ws ++ [crc32 (wordBytes ws)]

/-- A frame's words from header fields and payload words 2 upwards. -/
def Dev.makeFrame (d : Dev) (typ dst sub seq : Nat) (payload : List Nat) : List Nat :=
  let st := if typ = 5 ∨ typ = 6 then d.f F.TET_CFG.STATION else 0
  let w0 := typ * 2 ^ 28 + d.f F.TET_CFG.NODE * 2 ^ 24 + dst * 2 ^ 20 + st * 2 ^ 19 + sub
  sealFrame ([w0, seq * 2 ^ 16] ++ payload ++ List.replicate (13 - payload.length) 0)

def Dev.port (d : Dev) (p : Nat) : Port := d.tet.ports.getD p portInit

def Dev.setPort (d : Dev) (p : Nat) (x : Port) : Dev :=
  { d with tet := { d.tet with ports := d.tet.ports.set p x } }

/-- A frame with WRAPPED set and its CRC made anew. -/
def wrapFrame (ws : List Nat) : List Nat :=
  sealFrame (putBits (ws.headD 0) 18 18 1 :: (ws.drop 1).take 14)

/-- Send through a port, or turned at a broken link (R432 rule 3). -/
def Dev.sendVia (d : Dev) (p : Nat) (ws : List Nat) : Dev :=
  if (d.port p).carries then d.emit (.frame p ws)
  else if bitOf (ws.headD 0) 18 then d
  else if (d.port (1 - p)).carries then d.emit (.frame (1 - p) (wrapFrame ws))
  else d

/-- Originate a frame of a TYPE through port E, with the next SEQ of that TYPE. -/
def Dev.originate (d : Dev) (typ dst sub : Nat) (payload : List Nat) : Dev :=
  let seq := d.tet.seqs.getD (typ - 1) 0
  let d := { d with tet := { d.tet with
      seqs := d.tet.seqs.set (typ - 1) ((seq + 1) % 65536)
      sent := ((⟨d.f F.TET_CFG.NODE, typ, seq⟩ : Seen) :: d.tet.sent).take 64 } }
  d.sendVia 0 (d.makeFrame typ dst sub seq payload)

def lo32 (x : Nat) : Nat := x % 2 ^ 32
def hi32 (x : Nat) : Nat := x / 2 ^ 32 % 2 ^ 32

/-- A signed 64-bit value as two words. -/
def words64 (x : Int) : List Nat := [lo32 (unsigned 64 x), hi32 (unsigned 64 x)]

/-- A result's RESULT frame to the feed master (R31), or its discard while the master is lost (R34). -/
def Dev.sendResult (d : Dev) (sub : Nat) (payload : List Nat) : Dev :=
  match d.tet.feedMaster with
  | some m => if d.tet.masterLost then d.count F.TET_COUNT.DISCARD_CNT 1
      else d.originate 6 m sub payload
  | none => d.count F.TET_COUNT.DISCARD_CNT 1

end Sys2Proof.Machine
end

