-- ==== Sys2Proof/Machine/Flow.lean ====
section
/-! DEFINITION. The Flowstone feed table: angles, the integral, learning, entry decisions, the correction of an advance
and the advance log (spec 09_strata_and_flowstone.md R244-R253). -/

namespace Sys2Proof.Machine

/-- counts(t) of R346. -/
def Dev.countsOf (d : Dev) (t : Int) : Int :=
  let n : Int := d.f F.AXS_TICK_NUM.TICK_NUM
  divFloor (2 * t * d.f F.AXS_TICK_DEN.TICK_DEN + n) (2 * n)

def Dev.angleZero (d : Dev) : Int := d.r64i R.FLW_ANGLE_ZERO_LO R.FLW_ANGLE_ZERO_HI
def Dev.setAngleZero (d : Dev) (x : Int) : Dev := d.set64 R.FLW_ANGLE_ZERO_LO R.FLW_ANGLE_ZERO_HI (unsigned 64 x)

/-- A(c) of R244. -/
def Dev.angle (d : Dev) (c : Int) : Int := divFloor ((c - d.angleZero) * 2 ^ 26) (d.f F.FLW_CPR.CPR)

def Dev.bin (d : Dev) (i : Nat) : Int := signed 32 (d.mem (winFlow + 4 * i) 4)
def Dev.setBin (d : Dev) (i : Nat) (v : Int) : Dev := d.setMem (winFlow + 4 * i) 4 (unsigned 32 v)

/-- Coverage of bin `i` by the span of angles `a0` to `a1`, over its revolutions (R247). -/
def coverage (a0 a1 : Int) (i : Nat) : Int :=
  let lo := divFloor a0 65536
  let hi := divFloor (a1 - 1) 65536
  let first := divFloor (lo - i + 1023) 1024
  let last := divFloor (hi - i) 1024
  sumI ((List.range (last - first + 1).toNat).map (fun (r : Nat) =>
    let n := (first + r) * 1024 + i
    min a1 ((n + 1) * 65536) - max a0 (n * 65536)))

/-- f, q and iq of R247. -/
def Dev.integral (d : Dev) (c0 c1 : Int) : List Int × Int × Int :=
  let a0 := d.angle c0
  let a1 := d.angle c1
  let f := (List.range 1024).map (coverage a0 a1)
  let s := sumI ((List.range 1024).map (fun i => d.bin i * f.getD i 0))
  (f, sumI (f.map (fun x => x * x)), divFloor (s + 32768) 65536)

/-- The learning law (R248). -/
def Dev.learn (d : Dev) (c0 c1 e : Int) (gain : Nat) : Dev :=
  let t := d.integral c0 c1
  let f := t.1
  let q := t.2.1
  let r := e * 65536 - t.2.2
  let leak : Int := d.f F.FLW_LEAK.LEAK
  (List.range 1024).foldl (fun d i =>
    let fi := f.getD i 0
    if fi ≤ 0 then d
    else
      let b := d.bin i
      let b := b - divFloor (b * leak + 32768) 65536
      let b := b + divFloor (2 * gain * r * fi + q) (2 * q)
      let x := clampI b (-2147483648) 2147483647
      (d.setBin i x).flagIf (decide (x = -2147483648) || decide (x = 2147483647)) F.FLW_STATUS.BIN_SAT) d

/-- Spans may cover at most 8 revolutions (R250). -/
def Dev.spanOk (d : Dev) (c0 c1 : Int) : Bool := decide (d.angle c1 - d.angle c0 ≤ 8 * 2 ^ 26) && decide (c0 < c1)

def Dev.dropEntry (d : Dev) : Dev := d.count F.FLW_COUNT.DROP_CNT 1

/-- Queue an entry (R251); answers whether it was taken. -/
def Dev.queueEntry (d : Dev) (x : FlwEntry) : Dev × Bool :=
  if 16 ≤ d.flw.queue.length then ((d.flag F.FLW_STATUS.QUEUE_DROP).dropEntry, false)
  else
    ({ d with flw := { d.flw with queue := d.flw.queue ++ [x] } }.setF F.FLW_STATUS.QUEUED (d.flw.queue.length + 1), true)

/-- A Survey result at the feed master (R249, R250): span in ticks, ERROR, CONF. -/
def Dev.enterSurvey (d : Dev) (sLead sMain err : Int) (conf : Nat) : Dev :=
  let c0 := d.countsOf sLead
  let c1 := d.countsOf sMain
  if d.on F.FLW_CTRL.LEARN_EN && d.on F.FLW_CTRL.LEARN_SURVEY && decide (d.f F.FLW_CTRL.FLW_CONF_MIN ≤ conf) &&
      d.spanOk c0 c1 && decide (err.natAbs ≤ d.f F.FLW_ERR_MAX.ERR_MAX_S) then
    (d.queueEntry ⟨c0, c1, err, (2 * d.f F.FLW_GAIN.GAIN_S * conf + 255) / 510⟩).1
  else d.dropEntry

/-! ## The advance log (R245) -/

/-- Address of the log entry of a move number: slot ADV_ID mod 2,048. -/
def logSlot (adv : Nat) : Nat := winFlowLog + 32 * (adv % 2048)

/-- Is the advance in the log? -/
def Dev.logHas (d : Dev) (adv : Nat) : Bool :=
  decide (d.mem (logSlot adv) 4 = adv) && decide (adv < d.flw.nextAdv) && decide (d.flw.nextAdv ≤ adv + 2048)

def Dev.logFlags (d : Dev) (adv : Nat) : Nat := d.mem (logSlot adv + 4) 4
def Dev.logStart (d : Dev) (adv : Nat) : Int := signed 64 (d.mem (logSlot adv + 8) 8)
def Dev.logEnd (d : Dev) (adv : Nat) : Int := signed 64 (d.mem (logSlot adv + 16) 8)
def Dev.logCorr (d : Dev) (adv : Nat) : Int := signed 32 (d.mem (logSlot adv + 24) 4)

/-- Log a new FEED move: its number, and CLAMPED, UNCORRECTED, START, END and CORR. -/
def Dev.logMove (d : Dev) (clamped uncorr : Bool) (start stop corr : Int) : Nat × Dev :=
  let adv := d.flw.nextAdv % 2 ^ 32
  let a := logSlot adv
  let d := (((d.setMem a 4 adv).setMem (a + 4) 4 (8 * b2n clamped + 4 * b2n uncorr)).setMem (a + 8) 8 (unsigned 64 start)).setMem
    (a + 16) 8 (unsigned 64 stop)
  let d := (d.setMem (a + 24) 4 (unsigned 32 corr)).setMem (a + 28) 4 0
  (adv, ({ d with flw := { d.flw with nextAdv := d.flw.nextAdv + 1 } }.setF F.FLW_LAST.ADV_ID adv).flagIf clamped
    F.FLW_STATUS.CORR_CLAMPED)

/-- A FEED move stops: END and the flags COMPLETE and ABORTED (R245). -/
def Dev.logStop (d : Dev) (adv : Nat) (pos : Int) (complete aborted : Bool) : Dev :=
  if !d.logHas adv then d
  else (d.setMem (logSlot adv + 16) 8 (unsigned 64 pos)).setMem (logSlot adv + 4) 4
    (d.logFlags adv / 4 * 4 + 2 * b2n aborted + b2n complete)

/-- A resumed move: END holds the target again and ABORTED returns to 0. -/
def Dev.logResume (d : Dev) (adv : Nat) (target : Int) : Dev :=
  if !d.logHas adv then d
  else (d.setMem (logSlot adv + 16) 8 (unsigned 64 target)).setMem (logSlot adv + 4) 4 (d.logFlags adv / 4 * 4)

/-- A Strata result at the feed master (R249, R250): whether it was entered, and the CORR of its advance. -/
def Dev.enterStrata (d : Dev) (adv : Nat) (es : Int) : Dev × Bool × Int :=
  if !d.logHas adv then ((d.flag F.FLW_STATUS.NO_ADVANCE).dropEntry, false, 0)
  else
    let c0 := d.logStart adv
    let c1 := d.logEnd adv
    let corr := d.logCorr adv
    let e := es + corr
    if d.on F.FLW_CTRL.LEARN_EN && d.on F.FLW_CTRL.LEARN_STRATA && decide (d.logFlags adv % 4 = 1) && d.spanOk c0 c1 &&
        decide (e.natAbs ≤ d.f F.FLW_ERR_MAX.ERR_MAX_T) then
      let r := d.queueEntry ⟨c0, c1, e, d.f F.FLW_GAIN.GAIN_T⟩
      (r.1, r.2, corr)
    else (d.dropEntry, false, corr)

/-! ## The correction (R246) -/

/-- Correction of an advance from `c0` to `c1`: cc in counts, CORR in ticks, CLAMPED, UNCORRECTED. -/
def Dev.correction (d : Dev) (c0 c1 : Int) : Int × Int × Bool × Bool :=
  if !d.on F.FLW_CTRL.CORR_EN || decide (c1 ≤ c0) || decide (2 ^ 26 < d.angle c1 - d.angle c0) then (0, 0, false, true)
  else
    let x := divFloor ((d.integral c0 c1).2.2 + 32768) 65536
    let raw := clampI x (-7086) 7086
    let cc := d.countsOf raw
    let beyond := decide (7086 < (d.ticksOf cc).natAbs)
    let cc := if beyond then cc - cc.sign else cc
    (cc, d.ticksOf cc, decide (raw ≠ x) || beyond, false)

/-! ## Position redefinition (R252) -/

def Dev.flowShift (d : Dev) (delta : Int) : Dev :=
  let d := d.setAngleZero (d.angleZero + delta)
  let d := { d with flw := { d.flw with queue := d.flw.queue.map (fun x => { x with c0 := x.c0 + delta, c1 := x.c1 + delta }) } }
  (List.range (min 2048 d.flw.nextAdv)).foldl (fun d n =>
    let a := winFlowLog + 32 * n
    (d.setMem (a + 8) 8 (unsigned 64 (signed 64 (d.mem (a + 8) 8) + delta))).setMem (a + 16) 8
      (unsigned 64 (signed 64 (d.mem (a + 16) 8) + delta))) d

/-- FLOWSTONE_ENTRY: the oldest waiting measurement becomes visible at a servo period start (R251). -/
def Dev.flowEntry (d : Dev) : Dev :=
  match d.flw.queue with
  | [] => d
  | x :: t =>
    let d := { d with flw := { d.flw with queue := t } }.setF F.FLW_STATUS.QUEUED t.length
    (d.learn x.c0 x.c1 x.e x.gain).count F.FLW_COUNT.ENTER_CNT 1

/-- A host write of a bin (R253): accepted with LEARN_EN = 0, visible at the next servo period. -/
def Dev.binWrite (d : Dev) (rq : Req) (i : Nat) (v : Word) : Dev :=
  if d.on F.FLW_CTRL.LEARN_EN then d.accessErr rq false .locked (winFlow + 4 * i)
  else { d with flw := { d.flw with writes := d.flw.writes ++ [(i, v.toNat)] } }

/-- Waiting writes of bins become visible. -/
def Dev.flowVisible (d : Dev) : Dev :=
  let d' := d.flw.writes.foldl (fun d x => d.setMem (winFlow + 4 * x.1) 4 x.2) d
  { d' with flw := { d'.flw with writes := [] } }

/-! ## Meanings -/

def execFlowstoneEntry (s : State) : Host.Outcome State Fault Refusal := s.lift (·.flowEntry)

def execFlowstoneBinWrite (rq : Req) (i : Fin 1024) (v : Word) (s : State) : Host.Outcome State Fault Refusal :=
  s.lift (fun d => if d.awake then d.binWrite rq i v else d)

end Sys2Proof.Machine
end

