-- ==== Sys2Proof/Machine/LiveCal.lean ====
section
/-! DEFINITION. Calibration of the front end: points, trims, reference check, CAL_RUN AFE_FULL, Squeeze and
Rebelay (spec 07_squeeze_and_rebelay.md R187-R210; 20 R491). -/

namespace Sys2Proof.Machine

/-! ## Points and trims (R187 to R193) -/

/-- Point mean in 1/16 LSB of a sum of 2^L codes (R189). -/
def pointMean (l sum : Nat) : Int := ((16 * sum + 2 ^ l / 2) / 2 ^ l : Nat)

/-- AK4 of a voltage range code (Table 7.1). -/
def ak4 (code : Nat) : Int := if code % 2 = 1 then 3 else 4

/-- Ideal span S of a range code under reference voltage `v` µV (Table 7.1). -/
def idealSpan (charge : Bool) (code : Nat) (v : Int) : Int :=
  if charge then 812646 else divFloor (2 * 524288 * ak4 code * v + 4000000) 8000000

/-- Range codes of a mode. -/
def codesOf (charge : Bool) : Nat := if charge then 4 else 8

/-- R190: gain and offset trims from a pair of points; none is TRIM_RANGE. -/
def newTrims (gain off : Nat) (m0 m1 s : Int) : Option (Nat × Nat) :=
  let offNew : Int := off - divFloor (m0 - 32768 + 16) 32
  let span := m1 - m0
  if span ≤ 0 then none
  else
    let gainNew := divFloor (2 * (14336 + (gain : Int)) * s + span) (2 * span) - 14336
    if offNew < 0 ∨ 4095 < offNew ∨ gainNew < 0 ∨ 4095 < gainNew then none
    else some (gainNew.toNat, offNew.toNat)

/-- The reference check's verdict on three point means (R192). -/
def refPasses (m0 mr mb refUv bgUv : Int) : Bool :=
  let r := mr - m0
  let b := mb - m0
  decide (50 * ((r * bgUv - b * refUv).natAbs : Int) ≤ b * refUv)

def Dev.refUv (d : Dev) : Int := d.f F.AFE_REF_CFG.REF_UV
def Dev.bgUv (d : Dev) : Int := d.f F.AFE_REF_STATUS.BG_UV

/-- What a reference check leaves (R193): REF_FAIL and FALLBACK_ACTIVE, and V_UV with which calibration goes on
(none: it commits nothing); the flag says that V_UV is the band-gap. -/
def Dev.refVerdict (d : Dev) (ok : Bool) : Dev × Option (Int × Bool) :=
  if ok then (d.setF F.AFE_REF_STATUS.FALLBACK_ACTIVE 0, some (d.refUv, false))
  else
    let d := d.flag F.AFE_REF_STATUS.REF_FAIL
    if d.on F.AFE_REF_CFG.REF_FALLBACK_OK then (d.setF F.AFE_REF_STATUS.FALLBACK_ACTIVE 1, some (d.bgUv, true))
    else (d, none)

/-- The verdict on a converted reference check. -/
def Dev.refCheck (d : Dev) (l : Nat) (r : RefCal) : Dev × Option (Int × Bool) :=
  d.refVerdict (refPasses (pointMean l r.zero.sum) (pointMean l r.ref.sum) (pointMean l r.band.sum) d.refUv d.bgUv)

/-- Trims of a range code in a channel's registers. -/
def Dev.gainTrim (d : Dev) (g c n : Nat) : Nat := d.f (F.AFE_CH_TRIM.GAIN_TRIM g c n)
def Dev.offTrim (d : Dev) (g c n : Nat) : Nat := d.f (F.AFE_CH_TRIM.OFFSET_TRIM g c n)

/-- Store a check reference pair for a mode (R191). -/
def Dev.setChkRef (d : Dev) (g c : Nat) (charge : Bool) (lo hi : Nat) : Dev :=
  if charge then (d.setF (F.AFE_CH_CHKREF_Q.CHK_LO_Q g c) lo).setF (F.AFE_CH_CHKREF_Q.CHK_HI_Q g c) hi
  else (d.setF (F.AFE_CH_CHKREF.CHK_LO g c) lo).setF (F.AFE_CH_CHKREF.CHK_HI g c) hi

def calPt0 : CalPt := ⟨0, true⟩

/-- Points of the range codes of a mode; codes the operand lacks have clipped points of sum 0. -/
def calPoints (k : ChanCal) (charge : Bool) (n : Nat) : CodeCal :=
  (if charge then k.chrg else k.volt).getD n ⟨calPt0, calPt0⟩

/-- One range code of a channel calibrated off-line with V_UV = `v`: trims, or TRIM_RANGE (R190). -/
def Dev.calCode (d : Dev) (k : ChanCal) (charge band : Bool) (l : Nat) (v : Int) (n : Nat) : Dev :=
  let g := k.g.val
  let c := k.c.val
  let p := calPoints k charge n
  match newTrims (d.gainTrim g c n) (d.offTrim g c n) (pointMean l p.zero.sum) (pointMean l p.gain.sum)
      (idealSpan charge n v) with
  | some t => d.writeTrim g c n t band
  | none => d.flag (F.AFE_CH_CAL.TRIM_RANGE g c)

/-- Every range code of one mode, and the check references. -/
def Dev.calChan (d : Dev) (k : ChanCal) (charge band : Bool) (l : Nat) (v : Int) : Dev :=
  ((List.range (codesOf charge)).foldl (fun d n => d.calCode k charge band l v n) d).setChkRef k.g k.c charge
    (if charge then k.qLo else k.chkLo) (if charge then k.qHi else k.chkHi)

/-- R194: BOOT calibrates a channel in both modes against the band-gap; a range code that meets TRIM_RANGE keeps its
trims at 0x800. -/
def Dev.bootCal (d : Dev) (k : ChanCal) : Dev :=
  let d := (d.calChan k false true 10 d.bgUv).calChan k true true 10 d.bgUv
  (d.setF (F.AFE_CH_CAL.REF_SRC k.g k.c) 1).setCh k.g k.c { d.ch k.g k.c with trims := d.trimRegs k.g k.c }

/-! ## CAL_RUN AFE_FULL (R195, R196) -/

/-- A failure of AFE_FULL: code of Table 7.2, group, physical channel. -/
abbrev FullFail := Nat × Nat × Nat

/-- Working trims of a channel's range code. -/
structure WorkTrim where
  g : Nat
  c : Nat
  n : Nat
  trim : Nat × Nat
  deriving DecidableEq, Repr

def Dev.powered (d : Dev) (g c : Nat) : Bool := d.on (F.AFE_CH_CTRL.PWR_OK g c)

/-- The powered channels, by group and number. -/
def Dev.poweredList (d : Dev) : List (Nat × Nat) :=
  ((List.range 72).map (fun i => (i / 9, i % 9))).filter (fun p => d.powered p.1 p.2)

/-- Step 2: the reference checks of the groups with a powered channel; V_UV by group, or the first failure. A group
without points in the operand fails its check. -/
def Dev.fullRefs (d : Dev) (l : Nat) (refs : List GrpRef) (gs : List (Nat × Nat)) :
    Dev × List (Nat × Int × Bool) × Option FullFail :=
  gs.foldl (fun acc p =>
    match acc with
    | (d, vs, some e) => (d, vs, some e)
    | (d, vs, none) =>
      let r := match refs.find? (fun x => x.g.val = p.1) with
        | some x => d.refCheck l x.cal
        | none => d.refVerdict false
      match r.2 with
      | some v => (r.1, vs ++ [(p.1, v)], none)
      | none => (r.1, vs, some (4, p.1, p.2))) (d, [], none)

/-- One range code in a pass: trims in force `old`, working trims or a failure. `first` carries pass 1's trims. -/
def fullCode (g c n : Nat) (old : Nat × Nat) (first : Option (Nat × Nat)) (p : CodeCal) (charge : Bool) (l : Nat)
    (v : Int) : Except FullFail WorkTrim :=
  if p.zero.clipped || p.gain.clipped then .error (7, g, c)
  else match newTrims old.1 old.2 (pointMean l p.zero.sum) (pointMean l p.gain.sum) (idealSpan charge n v) with
    | none => .error (5, g, c)
    | some t =>
      match first with
      | some f =>
        if 2 < ((t.1 : Int) - f.1).natAbs ∨ 2 < ((t.2 : Int) - f.2).natAbs then .error (6, g, c) else .ok ⟨g, c, n, t⟩
      | none => .ok ⟨g, c, n, t⟩

/-- A pass over every range code of every powered channel, in order; the first failure ends it. -/
def Dev.fullPass (d : Dev) (l : Nat) (vs : List (Nat × Int × Bool)) (cals : List ChanCal)
    (first : Option (List WorkTrim)) : Except FullFail (List WorkTrim) :=
  let jobs := d.poweredList.flatMap (fun p => (List.range (codesOf (d.charge p.1 p.2))).map (fun n => (p.1, p.2, n)))
  jobs.foldl (fun acc j =>
    match acc with
    | .error e => .error e
    | .ok ws =>
      let g := j.1
      let c := j.2.1
      let n := j.2.2
      let ch := d.charge g c
      let pts := match cals.find? (fun k => k.g.val = g ∧ k.c.val = c) with
        | some k => calPoints k ch n
        | none => ⟨calPt0, calPt0⟩
      let v := match vs.find? (fun x => x.1 = g) with
        | some x => x.2.1
        | none => d.refUv
      let w1 := (first.bind (·.find? (fun w => w.g = g ∧ w.c = c ∧ w.n = n))).map (·.trim)
      let old := w1.getD (d.gainTrim g c n, d.offTrim g c n)
      match fullCode g c n old w1 pts ch l v with
      | .error e => .error e
      | .ok w => .ok (ws ++ [w])) (.ok [])

/-- Step 5: all working trims and check references at once. -/
def Dev.fullCommit (d : Dev) (vs : List (Nat × Int × Bool)) (ws : List WorkTrim) (cals : List ChanCal) : Dev :=
  let band (g : Nat) : Bool := vs.any (fun x => decide (x.1 = g) && x.2.2)
  let d := ws.foldl (fun d w => d.writeTrim w.g w.c w.n w.trim (band w.g)) d
  d.poweredList.foldl (fun d p =>
    match cals.find? (fun k => k.g.val = p.1 ∧ k.c.val = p.2) with
    | some k => if d.charge p.1 p.2 then d.setChkRef p.1 p.2 true k.qLo k.qHi
        else d.setChkRef p.1 p.2 false k.chkLo k.chkHi
    | none => d) d

/-- AFE_FULL's report in AFE_FULL_STATUS and in the CAL_RUN completion. -/
def Dev.fullReport (d : Dev) (src : Src) (fallback : Bool) (code g c : Nat) : Dev :=
  let d := (((d.setF F.AFE_FULL_STATUS.RESULT code).setF F.AFE_FULL_STATUS.FAIL_GROUP g).setF
    F.AFE_FULL_STATUS.FAIL_CHANNEL c).setB F.AFE_FULL_STATUS.FALLBACK fallback
  (d.flag F.AFE_FULL_STATUS.DONE).complete src
    (if code = 0 then stOk else { stCode code with info := g * 2 ^ 16 + c * 2 ^ 8 })

/-- Is a SHADING_FULL running? -/
def Dev.shadingRuns (d : Dev) : Bool := d.shd.cal.isSome

/-- CAL_RUN AFE_FULL, from its start to its report. -/
def Dev.afeFull (d : Dev) (src : Src) (x : AfeFullIn) : Dev :=
  if !d.modeIn [.calibrate, .service] then d.fullReport src false 1 0 0
  else if d.bar.isNone then d.fullReport src false 2 0 0
  else if d.shadingRuns then d.fullReport src false 3 0 0
  else if x.aborted then d.fullReport src false 8 0 0
  else
    let l := min 12 (d.f F.AFE_FULL_STATUS.CAL_AVG_LOG)
    let firsts := (List.range 8).filterMap (fun g => d.poweredList.find? (fun p => p.1 = g))
    let r := d.fullRefs l x.refs firsts
    let d := r.1
    let vs := r.2.1
    let fb := vs.any (fun v => v.2.2)
    match r.2.2 with
    | some e => d.fullReport src fb e.1 e.2.1 e.2.2
    | none =>
      let fail (e : FullFail) : Dev :=
        (if e.1 = 5 then d.flag (F.AFE_CH_CAL.TRIM_RANGE e.2.1 e.2.2) else d).fullReport src fb e.1 e.2.1 e.2.2
      match d.fullPass l vs x.pass1 none with
      | .error e => fail e
      | .ok w1 =>
        match d.fullPass l vs x.pass2 (some w1) with
        | .error e => fail e
        | .ok w2 => (d.fullCommit vs w2 x.pass2).fullReport src fb 0 0 0

/-! ## Gaps (R200, R201) -/

/-- t_DIS + t_SET + 20 ns: a reconnection in ns; 0 acts as 1. -/
def Dev.reconNs (d : Dev) (g : Nat) : Nat :=
  20 + 50 * max 1 (d.f (F.AFE_GRP_SWITCH.DISCHARGE g)) + 50 * max 1 (d.f (F.AFE_GRP_SWITCH.SETTLE g))

/-- Is tap channel `t` of a LEAD module? -/
def Dev.leadTap (d : Dev) (g t : Nat) : Bool :=
  match d.bar.bind (·.tapOf g t) with
  | some m => m.1.isLead
  | none => false

/-- `a ≤ t_pred`, with `a` = `num` / `den` ns. -/
def predAtLeast (t : Option Nat) (num den : Nat) : Bool :=
  match t with
  | none => true
  | some t => decide (num ≤ t * den)

def Dev.sqzLog (d : Dev) (g : Nat) : Nat := min 8 (d.f (F.AFE_GRP_CAL.SQZ_AVG_LOG g))

/-- May a Squeeze point start in this gap (R201)? 2^L / f_CK = 2^L × DIV × 40 / MUL ns. -/
def Dev.gapTakes (d : Dev) (g t : Nat) : Bool :=
  let p := d.tPred (d.leadTap g t)
  let mul := max 1 (d.f (F.GRP_PLL_STATUS.PLL_MUL g))
  let div := d.f (F.GRP_PLL_STATUS.PLL_DIV g)
  predAtLeast p (100 * max 60 (d.f (F.AFE_GRP_CAL.SQZ_MIN_GAP g))) 1 &&
    predAtLeast p ((1300 + 2 * d.reconNs g) * mul + 2 ^ d.sqzLog g * 40 * div) mul

/-! ## Squeeze (R203, R204) -/

/-- Live calibration runs in a group (R198). -/
def Dev.liveRuns (d : Dev) (g method : Nat) : Bool :=
  decide (d.mode = .run) && d.on (F.AFE_GRP_CAL.CAL_EN g) && decide (d.f (F.AFE_GRP_CAL.METHOD g) = method)

/-- Distinct range codes in force on planes of PLANES, ascending. -/
def Dev.codesInForce (d : Dev) (g c : Nat) : List Nat :=
  let ps := match d.bar with
    | some b => b.planeList
    | none => []
  (List.range 8).filter (fun n => ps.any (fun p => d.rangeAct g c p = n))

/-- The points of a cycle in order. -/
def Dev.cyclePoints (d : Dev) (g : Nat) : List SqzPoint :=
  let taps := (d.barTaps g).filterMap (fun t => (d.serving g t).map (fun c => (t, c)))
  if taps.isEmpty then []
  else [.refZero, .refRef, .refGap] ++ taps.flatMap (fun tc =>
    (d.codesInForce g tc.2).flatMap (fun n => [.zero tc.1 n, .gain tc.1 n]) ++ [.chkLo tc.1, .chkHi tc.1])

/-- A cycle starts in a group that calibrates by Squeeze, unless one still runs. -/
def Dev.cycleStart (d : Dev) (g : Nat) : Dev :=
  if d.liveRuns g 0 && (d.grp g).points.isEmpty then
    d.setGrp g { d.grp g with points := d.cyclePoints g, cycling := true, m0 := none }
  else d

/-- Tap channel that a point works on: the reference check takes the lowest-numbered tap channel. -/
def Dev.pointTap (d : Dev) (g : Nat) : SqzPoint → Nat
  | .refZero | .refRef | .refGap => (d.barTaps g).headD 0
  | .zero t _ | .gain t _ | .chkLo t | .chkHi t => t

/-- The trims of a pair, each change limited to ±SQZ_MAX_DELTA (R204). -/
def Dev.squeezeTrim (d : Dev) (g c n : Nat) (m0 m1 : Int) (band : Bool) : Dev :=
  let v := if band then d.bgUv else d.refUv
  let g0 : Int := d.gainTrim g c n
  let o0 : Int := d.offTrim g c n
  match newTrims (d.gainTrim g c n) (d.offTrim g c n) m0 m1 (idealSpan (d.charge g c) n v) with
  | none => d.flag (F.AFE_CH_CAL.TRIM_RANGE g c)
  | some t =>
    let lim : Int := max 1 (d.f (F.AFE_GRP_MATCH.SQZ_MAX_DELTA g))
    let gt := clampI t.1 (g0 - lim) (g0 + lim)
    let ot := clampI t.2 (o0 - lim) (o0 + lim)
    (d.writeTrim g c n (gt.toNat, ot.toNat) band).flagIf (decide (gt ≠ t.1 ∨ ot ≠ t.2)) (F.AFE_CH_CAL.TRIM_CLAMPED g c)

/-- A point is complete: the channel is back on its tap; the point is used. -/
def Dev.commitPoint (d : Dev) (g : Nat) (l : LiveStep) : Dev :=
  let x := d.grp g
  let m := pointMean (d.sqzLog g) l.sum
  let next (y : AfeGrp) : AfeGrp := { y with live := none, points := y.points.drop 1 }
  match x.points.head? with
  | none => d.setGrp g { x with live := none }
  | some .refZero => d.setGrp g (next { x with r0 := m })
  | some .refRef => d.setGrp g (next { x with rRef := m })
  | some .refGap =>
    let r := d.refVerdict (refPasses x.r0 x.rRef m d.refUv d.bgUv)
    match r.2 with
    | some v => r.1.setGrp g (next { x with fallback := v.2 })
    | none => r.1.setGrp g { x with live := none, points := [], cycling := false }
  | some (.zero _ _) =>
    if l.clipped then d.setGrp g { x with live := none, points := x.points.drop 2, m0 := none }
    else d.setGrp g (next { x with m0 := some m })
  | some (.gain _ n) =>
    let d := d.setGrp g (next { x with m0 := none })
    match x.m0 with
    | some m0 => if l.clipped then d else d.squeezeTrim g l.ch n m0 m x.fallback
    | none => d
  | some (.chkLo _) => d.setGrp g (next { x with chkLo := l.sum })
  | some (.chkHi _) => (d.setGrp g (next x)).setChkRef g l.ch (d.charge g l.ch) x.chkLo l.sum

/-- One Squeeze point, or its deferral (R201): the channel leaves its tap until the reconnection is done. -/
def Dev.squeezePoint (d : Dev) (g sum : Nat) (clipped : Bool) : Dev :=
  match (d.grp g).points.head? with
  | none => d
  | some p =>
    let t := d.pointTap g p
    if !d.liveRuns g 0 || (d.grp g).live.isSome then d
    else if !d.gapTakes g t then d.count (F.AFE_GRP_CAL_STATUS.SQZ_WAIT_CNT g) 1
    else match d.serving g t with
      | some c => (d.connect g c t).setGrp g { d.grp g with live := some ⟨c, sum, clipped⟩ }
      | none => d.setGrp g { d.grp g with points := (d.grp g).points.drop 1 }

/-- A reconnection completes its settling: SOURCE shows the new source; a SERVICE request ends with the code then
converted; a live point is used (R87, R97, R544). -/
def Dev.reconnectionDone (d : Dev) (g c code : Nat) : Dev :=
  match (d.ch g c).connecting with
  | none => d
  | some s =>
    let d := (d.setSource g c s).setCh g c { d.ch g c with connecting := none }
    let d := if (d.ch g c).service && d.on (F.AFE_GRP_SERVICE.BUSY g) && decide (d.f (F.AFE_GRP_SERVICE.CH g) = c) then
        (d.setF (F.AFE_GRP_SERVICE.BUSY g) 0).setF (F.AFE_GRP_SVC_DATA.CODE g) code
      else d
    match (d.grp g).live with
    | some l => if l.ch = c then d.commitPoint g l else d
    | none => d

/-! ## Rebelay (R205 to R209, R491) -/

def Dev.rbState (d : Dev) (g : Nat) : Nat := d.f (F.AFE_GRP_CAL.RB_STATE g)
def Dev.setRb (d : Dev) (g n : Nat) : Dev := d.setF (F.AFE_GRP_CAL.RB_STATE g) n

/-- The tap channel of the next rotation: a channel asked to retire, else the next tap channel, wrapping. -/
def Dev.nextTarget (d : Dev) (g : Nat) : Option Nat :=
  let taps := (d.barTaps g).filter (fun t => (d.serving g t).isSome)
  let asked := taps.find? (fun t => match d.serving g t with
    | some c => d.on (F.AFE_CH_WEAR.RETIRE_REQ g c)
    | none => false)
  let last := (d.grp g).target
  asked.orElse fun _ => (taps.find? (fun t => last < 8 ∧ last < t)).orElse fun _ => taps.head?

/-- A rotation starts: the spare takes the mode of the target's tap and enters PREP. -/
def Dev.rotationStart (d : Dev) (g : Nat) : Dev :=
  match d.spareOf g, d.nextTarget g with
  | some s, some t =>
    if d.liveRuns g 1 && decide (d.rbState g = 0) && d.powered g s then
      let charge := match d.serving g t with
        | some c => d.charge g c
        | none => false
      ((d.setGrp g { d.grp g with target := t, mismatches := 0 }).setB (F.AFE_CH_CTRL.MODE g s) charge).setRb g 1
    else d
  | _, _ => d

/-- PREP ends: the spare is calibrated for every range code of its mode, and in voltage mode joins the target's tap. -/
def Dev.prepDone (d : Dev) (g : Nat) (ref : RefCal) (k : ChanCal) : Dev :=
  match d.spareOf g with
  | some s =>
    if d.rbState g ≠ 1 ∨ d.mode ≠ .run then d
    else
      let l := min 12 (d.f (F.AFE_GRP_CAL.RB_AVG_LOG g))
      let r := d.refCheck l ref
      let d := r.1
      match r.2 with
      | none => d.rbIdle g
      | some v =>
        let k := { k with g := Fin.ofNat 8 g, c := Fin.ofNat 9 s }
        let d := (d.calChan k (d.charge g s) v.2 l v.1).rbRestart g
        let d := d.setGrp g { d.grp g with fallback := v.2 }
        let t := (d.grp g).target
        let d := match d.serving g t with
          | some c => d.setReg (R.AFE_CH_RANGE_ACT g s) (d.reg (R.AFE_CH_RANGE_ACT g c))
          | none => d
        (if d.charge g s then d else d.connect g s t).setRb g 2
  | none => d

/-- R206 over one pair of codes; sums are n, Σx, Σd of bin L, then of bin H. -/
def compareAdd (s : List Int) (p : Nat × Nat) : List Int :=
  if p.1 = 0 ∨ p.1 = 65535 ∨ p.2 = 0 ∨ p.2 = 65535 then s
  else
    let x : Int := (p.1 : Int) - 2048
    let dd : Int := (p.2 : Int) - p.1
    let o := if p.1 < 18432 then 0 else 3
    ((s.set o (s.getD o 0 + 1)).set (o + 1) (s.getD (o + 1) 0 + x)).set (o + 2) (s.getD (o + 2) 0 + dd)

/-- The mean of a sum in 1/16 LSB. -/
def mean16 (s n : Int) : Int := divFloor (32 * s + n) (2 * n)

/-- a, b and LOW_SPREAD of R206; none while bin L holds fewer than 256 samples. -/
def compareFit (s : List Int) : Option (Int × Int × Bool) :=
  let nl := s.getD 0 0
  let nh := s.getD 3 0
  if nl < 256 then none
  else
    let xl := mean16 (s.getD 1 0) nl
    let dl := mean16 (s.getD 2 0) nl
    if 4096 ≤ nh then
      let xh := mean16 (s.getD 4 0) nh
      let dh := mean16 (s.getD 5 0) nh
      let b := divFloor (2000000 * (dh - dl) + (xh - xl)) (2 * (xh - xl))
      some (dl - divFloor (2 * b * xl + 1000000) 2000000, b, false)
    else some (dl, 0, true)

def Dev.matches (d : Dev) (g : Nat) (a b : Int) : Bool :=
  decide (a.natAbs ≤ 16 * d.f (F.AFE_GRP_MATCH.MATCH_OFS g)) && decide (b.natAbs ≤ d.f (F.AFE_GRP_MATCH.MATCH_GAIN g))

/-- The verdict of a comparison: SWAP_WAIT, PREP once more, or the end of the rotation (R208). -/
def Dev.compareEnd (d : Dev) (g : Nat) (ok : Bool) : Dev :=
  if ok then d.setRb g 3
  else
    let x := d.grp g
    let d := match d.spareOf g with
      | some s => d.disconnect g s
      | none => d
    if x.mismatches = 0 then (d.setGrp g { x with mismatches := 1 }).setRb g 1
    else ((d.setF (F.AFE_GRP_CAL_STATUS.MISMATCH_TAP g) x.target).flag (F.AFE_GRP_CAL_STATUS.RB_MISMATCH g)).setRb g 0

/-- R207 for one range code. A live span of 0 makes b a free value. -/
def Dev.chargeMatch (d : Dev) (g : Nat) (p : ChargeCmp) : Bool × Dev :=
  let l := d.sqzLog g
  let m (n : Nat) : Int := pointMean l n
  let sl := m p.live1 - m p.live0
  let ss := m p.spare1 - m p.spare0
  let a := m p.spare0 - m p.live0
  if sl = 0 then
    let f := d.freeNat 32
    (d.matches g a (signed 32 f.1), f.2)
  else (d.matches g a (divFloor (2000000 * (ss - sl) + sl) (2 * sl)), d)

/-- COMPARE: the codes of RB_LINES line sets in voltage mode, or the points of every range code in force in charge
mode. -/
def Dev.rbCompare (d : Dev) (g : Nat) (pairs : List (Nat × Nat)) (pts : List ChargeCmp) : Dev :=
  match d.spareOf g, d.serving g (d.grp g).target with
  | some s, some c =>
    if d.rbState g ≠ 2 ∨ d.mode ≠ .run then d
    else if d.charge g s then
      let need := d.codesInForce g c
      let got := need.filterMap (fun n => pts.find? (fun p => p.code.val = n))
      if got.length ≠ need.length then d
      else
        let r := got.foldl (fun acc p => let q := acc.2.chargeMatch g p; (acc.1 && q.1, q.2)) (true, d)
        r.2.compareEnd g r.1
    else
      let sums := pairs.foldl compareAdd (d.grp g).sums
      let d := d.setGrp g { d.grp g with sums := sums }
      match compareFit sums with
      | none => d
      | some (a, b, low) => (d.flagIf low (F.AFE_GRP_CAL_STATUS.LOW_SPREAD g)).compareEnd g (d.matches g a b)
  | _, _ => d

/-- The swap at a line boundary (R205); a channel asked to retire leaves the assignment (R491). -/
def Dev.rbSwap (d : Dev) (g : Nat) : Dev :=
  let t := (d.grp g).target
  match d.spareOf g, d.serving g t with
  | some s, some c =>
    if d.rbState g ≠ 3 ∨ d.mode ≠ .run then d
    else
      let asked := d.on (F.AFE_CH_WEAR.RETIRE_REQ g c)
      let d := d.setReg (R.AFE_CH_RANGE_ACT g s) (d.reg (R.AFE_CH_RANGE_ACT g c))
      let d := d.setReg (R.AFE_CH_RANGE g s) (d.reg (R.AFE_CH_RANGE g c))
      let d := d.setCh g s { d.ch g s with tapOf := some t, spare := false, lines := 2, connecting := none }
      let d := (d.setSource g s t).flag (F.AFE_GRP_CAL_STATUS.ROT_DONE g)
      if asked then ((d.retireCh g c).ledgerEvent ⟨2, g, c, 0xFF, 5⟩).setRb g 0
      else
        let d := d.setCh g c { d.ch g c with tapOf := none, spare := true, chkOk := false }
        ((d.disconnect g c).setGrp g { d.grp g with freed := c }).setRb g 4
  | _, _ => d

/-- The freed channel has been calibrated and is the spare. -/
def Dev.freedCal (d : Dev) (g : Nat) (k : ChanCal) : Dev :=
  match d.spareOf g with
  | some s =>
    if d.rbState g ≠ 4 then d
    else
      let band := (d.grp g).fallback
      let k := { k with g := Fin.ofNat 8 g, c := Fin.ofNat 9 s }
      let d := d.calChan k (d.charge g s) band (min 12 (d.f (F.AFE_GRP_CAL.RB_AVG_LOG g)))
        (if band then d.bgUv else d.refUv)
      (d.setCh g s { d.ch g s with chkOk := true }).setRb g 0
  | none => d

/-! ## Meanings -/

def execReconnectionDone (g : Fin 8) (c : Fin 9) (code : Nat) (s : State) : Host.Outcome State Fault Refusal :=
  s.lift (·.reconnectionDone g c code)

def execSqueezeCycleStart (g : Fin 8) (s : State) : Host.Outcome State Fault Refusal := s.lift (·.cycleStart g)

def execSqueezePoint (g : Fin 8) (sum : Nat) (clipped : Bool) (s : State) : Host.Outcome State Fault Refusal :=
  s.lift (·.squeezePoint g sum clipped)

def execRebelayRotationStart (g : Fin 8) (s : State) : Host.Outcome State Fault Refusal := s.lift (·.rotationStart g)

def execRebelayPrepDone (g : Fin 8) (ref : RefCal) (cal : ChanCal) (s : State) : Host.Outcome State Fault Refusal :=
  s.lift (·.prepDone g ref cal)

def execRebelayCompare (g : Fin 8) (pairs : List (Nat × Nat)) (pts : List ChargeCmp) (s : State) :
    Host.Outcome State Fault Refusal := s.lift (·.rbCompare g pairs pts)

def execRebelaySwap (g : Fin 8) (s : State) : Host.Outcome State Fault Refusal := s.lift (·.rbSwap g)

def execFreedCalDone (g : Fin 8) (cal : ChanCal) (s : State) : Host.Outcome State Fault Refusal :=
  s.lift (·.freedCal g cal)

def execAfeFull (src : Src) (x : AfeFullIn) (s : State) : Host.Outcome State Fault Refusal := s.lift (·.afeFull src x)

end Sys2Proof.Machine
end

