-- ==== Sys2Proof/Machine/Survey.lean ====
section
/-! DEFINITION. Survey media odometry: windows, LEAD history, matching, results (spec 08_survey_media_odometry.md
R211-R231). -/

namespace Sys2Proof.Machine

/-! ## Settings (Table 8.5) and windows (R211, R213, R214) -/

def Dev.surSearch (d : Dev) : Nat := max 3 (min 32 (d.f F.SUR_CTRL.SEARCH))
def Dev.surX (d : Dev) : Nat := min 4 (d.f F.SUR_CTRL.XSEARCH)
def Dev.measDiv (d : Dev) : Nat := if d.f F.SUR_CTRL.MEAS_DIV = 0 then 256 else d.f F.SUR_CTRL.MEAS_DIV

/-- A window's LEAD and IMAGE module, start and width, with D_w, u_L0 and u_I0. -/
structure SurWin where
  lead : Module
  image : Module
  n : Nat
  dw : Int
  uL : Int
  uI : Int
  x : Int
  deriving DecidableEq, Repr

/-- The geometry of window `w`, when its names are right. -/
def Dev.surWin (d : Dev) (w : Nat) : Option SurWin :=
  match d.bar with
  | none => none
  | some b =>
    match b.mods[d.f (F.SUR_WIN_CFG.LEAD_ID w)]?, b.mods[d.f (F.SUR_WIN_CFG.IMAGE_ID w)]? with
    | some l, some i =>
      if l.isLead && i.isImage then
        let idx := (b.leads.findIdx? (fun m => m.id = l.id)).getD 0
        let x := d.fi (F.SUR_WIN_POS.X_START w)
        some ⟨l, i, d.f (F.SUR_WIN_CFG.WIDTH w), i.aweb - l.aweb + d.fi (F.SUR_D_ADJ.D_ADJ idx),
          divFloor (x - l.xweb + 3000) 6000, divFloor (x - i.xweb + 3000) 6000, x⟩
      else none
    | _, _ => none

/-- Every photosite of cross-web indices `a` to `a + n − 1` is a picture photosite. -/
def spanPicture (m : Module) (a : Int) (n : Nat) : Bool :=
  (List.range n).all (fun i =>
    let u := a + i
    decide (0 ≤ u) && decide (u < m.photosites) && m.picture (m.u u.toNat))

/-- R214's verdict on an enabled window. -/
def Dev.surWinOk (d : Dev) (w : Nat) : Bool :=
  match d.surWin w with
  | none => false
  | some x => spanPicture x.lead x.uL x.n && spanPicture x.image (x.uI - d.surX) (x.n + 2 * d.surX) &&
      decide ((d.surSearch * d.pitchL + d.pitch : Int) < x.dw)

/-- Arming (R214). -/
def Dev.surveyArm (d : Dev) : Dev :=
  if !d.on F.SUR_CTRL.SUR_EN then { d with sur := { d.sur with active := false, passed := [] } }.setF F.SUR_STATUS.ACTIVE 0
  else
    let ok := (List.range 16).filter (fun w => d.on (F.SUR_WIN_CFG.EN w) && d.surWinOk w)
    let d := (List.range 16).foldl (fun d w => d.setFI (F.SUR_WIN_D.D_W w)
      (if ok.contains w then (match d.surWin w with | some x => x.dw | none => 0) else 0)) d
    let on := !ok.isEmpty
    ({ d with sur := { d.sur with active := on, passed := ok } }.setB F.SUR_STATUS.ACTIVE on).flagIf (!on) F.SUR_STATUS.NO_LEAD

/-! ## Candidates and history (R216, R217) -/

/-- The LEAD grid point nearest to `x`, the higher one on a tie. -/
def Dev.leadPoint (d : Dev) (x : Int) : Int :=
  d.origin + divFloor (2 * (x - d.origin) + d.pitchL) (2 * d.pitchL) * d.pitchL

/-- c_k,w. -/
def Dev.surCentre (d : Dev) (k : Int) (x : SurWin) : Int := d.leadPoint (d.origin + k * d.pitch - x.dw)

/-- Measurement lines for which LEAD grid point `c` is a candidate of a window that passed. -/
def Dev.measOf (d : Dev) (c : Int) : List Int :=
  let s : Int := d.surSearch * d.pitchL
  let step : Int := d.measDiv * d.pitch
  (d.sur.passed.flatMap (fun w => match d.surWin w with
    | none => []
    | some x =>
      let lo := divFloor (c + x.dw - s - d.pitchL - d.origin) step
      let hi := divFloor (c + x.dw + s + d.pitchL - d.origin) step
      ((List.range (hi - lo + 1).toNat).map (fun (i : Nat) => (lo + i) * d.measDiv)).filter (fun k =>
        decide ((c - d.surCentre k x).natAbs ≤ s.toNat)))).eraseDups

/-- Cells of one measurement's candidates. -/
def Dev.surCells (d : Dev) : Nat :=
  ceilDiv (sumN (d.sur.passed.map (fun w => (2 * d.surSearch + 1) * d.f (F.SUR_WIN_CFG.WIDTH w) * 2))) 4096

def Dev.setMeas (d : Dev) (ms : List SurMeas) : Dev :=
  ({ d with sur := { d.sur with meas := ms } }.setF F.SUR_STATUS.CELLS_USED (sumN (ms.map (fun (m : SurMeas) => m.cells)))).setSurveyUse
    (sumN (ms.map (fun (m : SurMeas) => m.cells)))

/-- Give a measurement its cells, or mark it refused. -/
def Dev.openMeas (d : Dev) (k pos : Int) : Dev :=
  if d.sur.meas.any (fun m => m.k = k) then d
  else
    let n := d.surCells
    let ok := d.surveyGrants n
    let d := d.flagIf (!ok) F.SUR_STATUS.CELL_REFUSED
    d.setMeas (d.sur.meas ++ [⟨k, if ok then n else 0, !ok, pos, false, true⟩])

/-- Remove a measurement and the LEAD lines that no other names. -/
def Dev.closeMeas (d : Dev) (k : Int) : Dev :=
  let d := d.setMeas (d.sur.meas.filter (fun m => m.k ≠ k))
  let ks := d.sur.meas.map (·.k)
  { d with sur := { d.sur with lines := d.sur.lines.filter (fun l => (d.measOf l.grid).any (fun k => ks.contains k)) } }

/-- Values of a row of stage 4 pixels, and whether any is INVALID or RECONSTRUCTED. -/
def profile (rows : List Kept) (m : Nat) (a : Int) (n : Nat) : List Nat × Bool :=
  let px := match rows.find? (fun r => r.module = m) with
    | some r => r.px
    | none => []
  let xs := (List.range n).map (fun i => px.getD (a + i).toNat ⟨0, 6, false, false⟩)
  (xs.map (·.v), xs.any (fun x => decide (x.r ≠ 0) || x.reb))

/-- A LEAD line leaves Gallery: kept for the measurements still ahead of HWM that name it. -/
def Dev.surveyLead (d : Dev) (c pos : Int) (rows : List Kept) : Dev :=
  if !d.sur.active then d
  else
    let ks := (d.measOf c).filter (fun k => decide (d.hwm < d.origin + k * d.pitch))
    let d := ks.foldl (fun d k => d.openMeas k (max pos d.feedTicks)) d
    if ks.any (fun k => d.sur.meas.any (fun m => decide (m.k = k) && !m.refused)) then
      let profs := d.sur.passed.filterMap (fun w => (d.surWin w).map (fun x =>
        let p := profile rows x.lead.id x.uL x.n
        (⟨w, p.1, p.2⟩ : SurProf)))
      { d with sur := { d.sur with lines := d.sur.lines ++ [⟨c, pos, profs⟩] } }
    else d

/-- Is line `k` a measurement line? -/
def Dev.isMeas (d : Dev) (k : Int) : Bool := d.sur.active && decide (k % (d.measDiv : Int) = 0)

/-- A measurement line lost under R127, or its measurement discarded (Table 8.3). -/
def Dev.surveyLost (d : Dev) (k : Int) : Dev :=
  if d.isMeas k then (d.closeMeas k).count F.SUR_COUNT.DROP_COUNT 1 else d

/-- Disarm (Table 8.3). -/
def Dev.surveyDisarm (d : Dev) : Dev :=
  let n := ((d.sur.meas.map (·.k)) ++ d.sur.jobs.map (·.k)).eraseDups.length
  let d := ({ d with sur := { d.sur with lines := [], jobs := [], active := false } }.setMeas []).setF F.SUR_STATUS.ACTIVE 0
  d.count F.SUR_COUNT.DROP_COUNT n

/-- R227: the FEED position moved to `pos`. -/
def Dev.surveyWatch (d : Dev) (pos : Int) : Dev :=
  { d with sur := { d.sur with meas := d.sur.meas.map (fun m =>
      if m.watching then { m with high := max m.high pos, reversed := m.reversed || decide (pos < m.high - d.pitchL) } else m) } }

/-- The main exposure of line `k` is over. -/
def Dev.surveyExposed (d : Dev) (k : Int) : Dev :=
  { d with sur := { d.sur with meas := d.sur.meas.map (fun m => if m.k = k then { m with watching := false } else m) } }

/-! ## Matching (R219 to R223) -/

/-- R219: the normalised profile; none with low texture. -/
def normalise (texMin : Nat) (v : List Nat) : Option (List Int) :=
  let n : Int := v.length
  let mu := divFloor ((sumN v : Int) + ((v.length / 2 : Nat) : Int)) n
  let mad : Int := sumN (v.map (fun (x : Nat) => ((x : Int) - mu).natAbs))
  if mad < n * texMin then none
  else some (v.map (fun (x : Nat) => divFloor (2 * 4096 * n * ((x : Int) - mu) + mad) (2 * mad)))

def costOf (a b : List Int) : Nat := sumN ((a.zip b).map (fun p => (p.1 - p.2).natAbs))

/-- d64 of R221. -/
def fit64 (cm c0 cp : Int) : Int :=
  let den := cm - 2 * c0 + cp
  if den = 0 then 0 else clampI (divFloor (64 * (cm - cp) + den) (2 * den)) (-32) 32

/-- A window's outcome: status of Table 8.1, err_w, conf_w, weave_w. -/
structure SurRes where
  win : Nat
  status : Nat
  err : Int
  conf : Nat
  weave : Option Int
  deriving DecidableEq, Repr

def surFail (w st : Nat) : SurRes := ⟨w, st, 0, 0, none⟩

/-- The lowest cost; on a tie the lower i and then the lower σ. `cs`: (i, σ, cost). -/
def bestCost (cs : List (Int × Int × Nat)) : Option (Int × Int × Nat) :=
  cs.foldl (fun best c =>
    match best with
    | none => some c
    | some b => if c.2.2 < b.2.2 ∨ (c.2.2 = b.2.2 ∧ (c.1 < b.1 ∨ (c.1 = b.1 ∧ c.2.1 < b.2.1))) then some c else best) none

/-- One window of a measurement. -/
def Dev.surMatch (d : Dev) (j : SurJob) (w : Nat) : SurRes :=
  if !d.on (F.SUR_WIN_CFG.EN w) then surFail w 1
  else if !d.sur.passed.contains w then surFail w 2
  else match d.surWin w with
    | none => surFail w 2
    | some x =>
      let s := d.surSearch
      let xs : Int := d.surX
      let tex := d.f F.SUR_LIMITS.TEX_MIN
      let c := d.surCentre j.k x
      let pl : Int := d.pitchL
      let refused := d.sur.meas.any (fun m => decide (m.k = j.k) && m.refused)
      let line (i : Int) : Option SurLine := d.sur.lines.find? (fun l => l.grid = c + i * pl)
      let cand (i : Int) : Option (List Int) := (line i).bind (fun l => (l.profs.find? (fun p => p.win = w)).bind (fun p =>
        if p.bad then none else normalise tex p.vals))
      let is : List Int := (List.range (2 * s + 1)).map (fun (i : Nat) => (i : Int) - s)
      let main (g : Int) : Option (List Int) :=
        let p := profile j.rows x.image.id (x.uI + g) x.n
        if p.2 then none else normalise tex p.1
      let p0 := profile j.rows x.image.id x.uI x.n
      if is.all (fun i => (line i).isNone) && !refused then surFail w 3
      else if (normalise tex p0.1).isNone then surFail w 4
      else if p0.2 then surFail w 5
      else if refused then surFail w 10
      else
        let sig : List Int := (List.range (2 * xs.toNat + 1)).map (fun (g : Nat) => (g : Int) - xs)
        let cost (i g : Int) : Option Nat := match cand i, main g with
          | some a, some b => some (costOf a b)
          | _, _ => none
        let all := is.flatMap (fun i => sig.filterMap (fun g => (cost i g).map (fun v => (i, g, v))))
        match bestCost all with
        | none => surFail w 7
        | some (i, g, c0) =>
          if i.natAbs = s then surFail w 6
          else match cost (i - 1) g, cost (i + 1) g, line (i - 1), line i, line (i + 1) with
            | some cm, some cp, some lm, some l0, some lp =>
              let d64 := fit64 cm c0 cp
              let sLead := if 0 ≤ d64 then l0.stamp + divFloor (2 * d64 * (lp.stamp - l0.stamp) + 64) 128
                else l0.stamp + divFloor (2 * d64 * (l0.stamp - lm.stamp) + 64) 128
              let err := j.sMain - sLead - x.dw
              let refs := (all.filter (fun t => 2 ≤ (t.1 - i).natAbs)).map (fun t => t.2.2)
              let cref := sumN refs / refs.length
              let conf := if refs.length < 4 then 0
                else (max 0 (255 - divFloor (2 * 255 * (c0 : Int) + cref) (2 * cref))).toNat
              let weave := if xs = 0 ∨ g.natAbs = xs.natAbs then none
                else match cost i (g - 1), cost i (g + 1) with
                  | some a, some b => some ((x.image.xweb + 6000 * x.uI) - (x.lead.xweb + 6000 * x.uL) +
                      divFloor (6000 * (64 * g + fit64 a c0 b) + 32) 64)
                  | _, _ => none
              let st := if conf < d.f F.SUR_CTRL.CONF_MIN then 8
                else if d.f F.SUR_LIMITS.ERR_MAX < err.natAbs then 9 else 0
              ⟨w, st, err, conf, weave⟩
            | _, _, _, _, _ => surFail w 7

/-! ## Results (R225 to R230) -/

/-- A confidence-weighted mean under the first formula of R225. -/
def confMean (xs : List (Nat × Int)) : Int :=
  let c : Int := sumN (xs.map (·.1))
  divFloor (2 * sumI (xs.map (fun x => x.1 * x.2)) + c) (2 * c)

/-- SKEW of R226, or none. -/
def Dev.surSkew (d : Dev) (ok : List SurRes) : Option Int :=
  let wins := ok.filterMap (fun r => (d.surWin r.win).map (fun x => (r, x)))
  let near := wins.foldl (fun (m : Option Module) p => match m with
    | none => some p.2.lead
    | some a => if p.2.lead.xweb < a.xweb then some p.2.lead else m) none
  let far := wins.foldl (fun (m : Option Module) p => match m with
    | none => some p.2.lead
    | some a => if a.xweb < p.2.lead.xweb then some p.2.lead else m) none
  match near, far with
  | some a, some b =>
    if a.id = b.id then none
    else
      let side (m : Module) := wins.filter (fun p => p.2.lead.id = m.id)
      let eps (m : Module) := confMean ((side m).map (fun p => (p.1.conf, p.1.err)))
      let pos (m : Module) := confMean ((side m).map (fun p => (p.1.conf, p.2.x + 3000 * p.2.n)))
      let dx := pos b - pos a
      some (divFloor (2 * 1000000000 * (eps b - eps a) + dx) (2 * dx))
  | _, _ => none

def surSlot (seq : Nat) : Nat := winSurvey + 64 * (seq % 256)

/-- Write a record's 16 words at its slot, word 0 last, and advance SEQ; deliver it through the contexts. -/
def Dev.putSurvey (d : Dev) (j : SurJob) (status conf flags : Nat) (valid : Nat) (eEnc dTrue err skew weave : Int) : Dev :=
  let seq := d.sur.seq
  let ws := [seq * 2 ^ 16 + status * 2 ^ 8 + conf, valid * 2 ^ 16 + d.node * 2 ^ 8 + flags] ++ words64 j.k ++
    words64 j.sMain ++ words64 (j.sMain - eEnc) ++ [lo32 j.time, hi32 j.time] ++
    [unsigned 32 eEnc, unsigned 32 dTrue, unsigned 32 err, unsigned 32 skew, unsigned 32 weave, 0]
  let d := d.haulRequest 10
  let d := (d.setBytes (surSlot seq + 4) (wordBytes (ws.drop 1))).setMem (surSlot seq) 4 (ws.headD 0)
  let d := { d with sur := { d.sur with seq := (seq + 1) % 65536 } }.setF F.SUR_STATUS.SEQ seq
  d.deliverAnalysis 1 (d.f F.SUR_CTRL.SURVEY_PLANE) j.k j.sMain j.time (wordBytes ws)

/-- The result record of a measurement whose windows gave `rs` (R225 to R228), and its forwarding (R230). -/
def Dev.surResult (d : Dev) (j : SurJob) (rs : List SurRes) : Dev :=
  let ok := rs.filter (fun r => r.status = 0)
  let rev := d.sur.meas.any (fun m => decide (m.k = j.k) && m.reversed)
  if ok.isEmpty then d.putSurvey j 1 0 (8 + 4 + 2 * b2n rev) 0 0 0 0 0 0
  else
    let err := confMean (ok.map (fun r => (r.conf, r.err)))
    let dt := confMean (ok.filterMap (fun r => (d.surWin r.win).map (fun x => (r.conf, x.dw))))
    let conf := sumN (ok.map (·.conf)) / ok.length
    let wv := ok.filterMap (fun r => r.weave.map (fun x => (r.conf, x)))
    let sk := d.surSkew ok
    let fwd := !rev
    let flags := 16 * b2n fwd + 8 * b2n wv.isEmpty + 4 * b2n sk.isNone + 2 * b2n rev
    let sLead := j.sMain - (dt + err)
    let seq := d.sur.seq
    let d := d.putSurvey j 0 conf flags (sumN (ok.map (fun r => 2 ^ r.win))) (dt + err) dt err (sk.getD 0)
      (if wv.isEmpty then 0 else confMean wv)
    if !fwd then d
    else if d.feedMaster then d.enterSurvey sLead j.sMain err conf
    else d.sendResult 1 ([seq * 2 ^ 16 + conf] ++ words64 sLead ++ words64 j.sMain ++ [unsigned 32 err])

/-- The last result of each window (Table 8.13). -/
def Dev.showWin (d : Dev) (r : SurRes) : Dev :=
  ((d.setF (F.SUR_WIN_RES.STATUS r.win) r.status).setF (F.SUR_WIN_RES.CONF r.win) r.conf).setFI (F.SUR_WIN_RES.ERROR r.win)
    (clampI r.err (-524287) 524287)

/-- SURVEY_MEASUREMENT: the engine's oldest measurement. -/
def Dev.surveyMeasure (d : Dev) : Dev :=
  match d.sur.jobs with
  | [] => d
  | j :: t =>
    let rs := (List.range 16).map (fun w => d.surMatch j w)
    let d := rs.foldl (fun d r => d.showWin r) d
    let d := d.surResult j rs
    { d with sur := { d.sur with jobs := t } }.closeMeas j.k

/-- Plane SURVEY_PLANE of a measurement line is handed off: it waits for the engine, or is BUSY (R229). -/
def Dev.surveyMain (d : Dev) (k sMain : Int) (time : Nat) (rows : List Kept) : Dev :=
  if !d.isMeas k then d
  else
    let j : SurJob := ⟨k, sMain, time, rows⟩
    if d.sur.jobs.length < 3 then { d with sur := { d.sur with jobs := d.sur.jobs ++ [j] } }
    else (((d.putSurvey j 2 0 0 0 0 0 0 0 0).count F.SUR_COUNT.BUSY_CNT 1).flag F.SUR_STATUS.BUSY_SEEN).closeMeas k

/-! ## Meanings -/

def execSurveyMeasurement (s : State) : Host.Outcome State Fault Refusal := s.lift (·.surveyMeasure)

end Sys2Proof.Machine
end

