-- ==== Sys2Proof/Machine/Strata.lean ====
section
/-! DEFINITION. The Strata banding monitor: column means, posted boundaries, the measurement of the step, result records
and events (spec 09_strata_and_flowstone.md R234-R243, R250, R254). -/

namespace Sys2Proof.Machine

/-! ## Settings (Table 9.7) and windows (R234) -/

def Dev.strSearch (d : Dev) : Nat := d.f F.STR_CTRL.BSEARCH
def Dev.strZone (d : Dev) : Nat := d.f F.STR_CTRL.BZ
def Dev.strNi (d : Dev) : Nat := max 2 (min 16 (d.f F.STR_CTRL.NI))
/-- K of R238. -/
def Dev.strK (d : Dev) : Nat := d.strSearch + d.strZone + d.f F.STR_CTRL.GUARD + d.strNi

def Dev.strX (d : Dev) (w : Nat) : Nat := d.f (F.STR_WIN_CFG.X_START w)
def Dev.strW (d : Dev) (w : Nat) : Nat := d.f (F.STR_WIN_WIDTH.WIDTH w)

/-- The planes of a window's mask. -/
def Dev.strMask (d : Dev) (w p : Nat) : Bool := bitOf (d.f (F.STR_WIN_CFG.PLANE_MASK w)) p

/-- Do the window's pixels lie within a line of `n` pixels? -/
def Dev.strInside (d : Dev) (w n : Nat) : Bool := decide (d.strX w + d.strW w ≤ n)

/-! ## Column means (R235, R236) -/

/-- R235's column mean; none when a pixel is INVALID or RECONSTRUCTED. -/
def columnMean (px : List OutPx) : Option Nat :=
  if px.any (fun x => decide (x.r ≠ 0) || x.reb) then none
  else some ((2 * sumN (px.map (·.v)) + px.length) / (2 * px.length))

/-- Does an IMAGE module contribute to window `w`, by its nominal span? -/
def Dev.strContributes (d : Dev) (b : Bar) (m : Module) (w : Nat) : Bool :=
  match coverSpan m (b.place m 0) with
  | some s => decide (s.1 < d.strX w + d.strW w) && decide ((d.strX w : Int) ≤ s.2)
  | none => false

/-- Planes of a line set marked under R236. -/
def Dev.strMarks (d : Dev) (b : Bar) (l : LineSet) : List Nat :=
  b.planeList.filter (fun p => l.setChanged || l.mChanged.any (fun key => decide (key % 4 = p) &&
    b.images.any (fun m => decide (m.id = key / 4) &&
      (List.range 64).any (fun w => d.on (F.STR_WIN_CFG.EN w) && d.strMask w p && d.strContributes b m w))))

/-- A plane line of the main row is handed off: every window with its plane forms a column mean. -/
def Dev.strataReduce (d : Dev) (l : LineSet) (p : Nat) (out : List OutPx) : Dev :=
  if !d.on F.STR_CTRL.STR_EN || l.grid.isNone then d
  else
    let d := (List.range 64).foldl (fun d w =>
      if !d.on (F.STR_WIN_CFG.EN w) || !d.strMask w p then d
      else if !d.strInside w out.length then d.flag F.STR_STATUS.WIN_RANGE
      else
        let m : StrMean := ⟨w, p, l.k, columnMean ((out.drop (d.strX w)).take (d.strW w))⟩
        { d with str := { d.str with means := d.str.means.filter (fun x => ¬ (x.win = w ∧ x.plane = p ∧ x.k = l.k)) ++ [m] } }) d
    { d with str := { d.str with means := d.str.means.filter (fun x => decide ((x.k - l.k).natAbs < 64)) } }

/-- Every plane of the line has been handed off: the line is captured. -/
def Dev.strataCaptured (d : Dev) (b : Bar) (l : LineSet) : Dev :=
  if !d.on F.STR_CTRL.STR_EN || l.grid.isNone then d
  else
    let x : StrLine := ⟨l.k, match l.planes.head? with | some p => p.time | none => 0, d.strMarks b l⟩
    { d with str := { d.str with lines := d.str.lines.filter (fun y => decide (y.k ≠ l.k) && decide ((y.k - l.k).natAbs < 64)) ++ [x], reached := some l.k } }

/-- The usable mean of a pair at line `k` (R239). -/
def Dev.strUse (d : Dev) (w p : Nat) (k : Int) : Option Nat :=
  match d.str.lines.find? (fun l => l.k = k) with
  | some l => if l.marked.contains p then none
      else (d.str.means.find? (fun m => m.win = w ∧ m.plane = p ∧ m.k = k)).bind (·.mean)
  | none => none

/-! ## The measurement (R239 to R241) -/

/-- A pair that passed the interior tests: window, plane, mi, sens. -/
structure StrPair where
  win : Nat
  plane : Nat
  mi : Int
  sens : Int
  deriving DecidableEq, Repr

def lineRange (lo hi : Int) : List Int := (List.range (hi - lo + 1).toNat).map (fun (i : Nat) => lo + i)

def meanHalf (xs : List Nat) : Int := divFloor (2 * (sumN xs : Int) + xs.length) (2 * xs.length)

/-- The interior tests of one pair; none drops it (SHORT_INTERIOR, NO_INK, NOT_FLAT, or sens = 0). -/
def Dev.strInterior (d : Dev) (q : Boundary) (w p : Nat) : Option StrPair :=
  let k : Int := d.strK
  let ni := d.strNi
  let sens := d.sensOf q.sens (d.f (F.STR_WIN_CFG.INK w)) p
  let vb := (lineRange (q.kb - k) (q.kb - k + ni - 1)).filterMap (d.strUse w p)
  let va := (lineRange (q.kb + k - ni + 1) (q.kb + k)).filterMap (d.strUse w p)
  if sens = 0 ∨ 2 * vb.length < ni ∨ 2 * va.length < ni then none
  else
    let mb := meanHalf vb
    let ma := meanHalf va
    let mi := divFloor (mb + ma + 1) 2
    if mi < d.f F.STR_LIMITS.MEAN_MIN ∨ (d.f F.STR_LIMITS.MEAN_MAX : Int) < mi then none
    else if (d.f F.STR_LIMITS2.FLAT_MAX : Int) * mi < 256 * (mb - ma).natAbs then none
    else some ⟨w, p, mi, sens⟩

/-- div_floor by mi; with mi = 0, for which the spec states no result, free value `i` of the measurement (log 2). -/
def Dev.byMi (d : Dev) (i : Nat) (num mi : Int) : Int :=
  if mi = 0 then signed 40 (Config.freeValue (d.free + i)).toNat else divFloor num mi

/-- The location step: the candidate with the highest score (R239). -/
def Dev.strLocate (d : Dev) (q : Boundary) (kept : List StrPair) : Int :=
  let s := d.strSearch
  let score (c : Int) : Int := sumI ((List.range kept.length).map (fun i =>
    match kept[i]? with
    | some x => match d.strUse x.win x.plane c with
      | some m => d.byMi (16 * i + (c - q.kb + s).toNat) (65536 * ((m : Int) - x.mi).natAbs) x.mi
      | none => 0
    | none => 0))
  let best := (lineRange (q.kb - s) (q.kb + s)).foldl (fun (b : Option (Int × Int)) c =>
    let v := score c
    match b with
    | none => some (c, v)
    | some y =>
      if y.2 < v ∨ (y.2 = v ∧ (c - q.kb).natAbs < (y.1 - q.kb).natAbs) then some (c, v) else b) none
  match best with
  | some y => y.1
  | none => q.kb

/-- A kept pair's e, or none when it is dropped as ZONE_GAP. -/
def Dev.strStep (d : Dev) (c : Int) (i : Nat) (x : StrPair) : Option Int :=
  let z : Int := d.strZone
  let zs := (lineRange (c - z) (c + z)).map (d.strUse x.win x.plane)
  if zs.any (·.isNone) then none
  else
    let mz := meanHalf (zs.filterMap id)
    let rel := if x.mi = 0 then d.byMi (16 * i + 7) 0 0 else divFloor (2 * (mz - x.mi) * 65536 + x.mi) (2 * x.mi)
    some (divFloor (-2 * rel * x.sens + 65536) 131072)

/-- A result: STATUS, n, OFFSET, E_S, SPREAD, TIME (R240). -/
structure StrRes where
  status : Nat
  n : Nat
  off : Int
  es : Int
  spread : Int
  time : Nat
  deriving DecidableEq, Repr

def strEnd (status : Nat) : StrRes := ⟨status, 0, 0, 0, 0, 0⟩

/-- The pairs named by WIN_MASK and the plane masks. -/
def Dev.strTotal (d : Dev) (mask : Nat) : Nat :=
  sumN ((maskList 64 mask).map (fun w => ((List.range 4).filter (fun p => d.strMask w p)).length))

/-- Measure a boundary; the free values it may have used are spent. -/
def Dev.strMeasure (d : Dev) (b : Bar) (q : Boundary) : StrRes × Dev :=
  let pairs := (maskList 64 q.mask).flatMap (fun w =>
    if d.on (F.STR_WIN_CFG.EN w) && d.strInside w b.width then (b.planeList.filter (fun p => d.strMask w p)).map (fun p => (w, p))
    else [])
  let kept := pairs.filterMap (fun x => d.strInterior q x.1 x.2)
  let c := d.strLocate q kept
  let es := (List.range kept.length).filterMap (fun i => (kept[i]?).bind (d.strStep c i))
  let n := es.length
  let spread := (es.foldl max (es.headD 0)) - (es.foldl min (es.headD 0))
  let time := match d.str.lines.find? (fun l => l.k = c) with
    | some l => l.time
    | none => 0
  let min := max 1 (d.f F.STR_CTRL.MIN_PAIRS)
  let d' := if kept.any (fun x => x.mi = 0) then { d with free := d.free + 16 * kept.length } else d
  if min ≤ n ∧ spread ≤ d.f F.STR_LIMITS2.SPREAD_MAX then
    (⟨0, n, c - q.kb, divFloor (2 * sumI es + n) (2 * n), spread, time⟩, d')
  else if !kept.isEmpty && es.isEmpty then (⟨3, n, 0, 0, 0, time⟩, d')
  else if n < min then (⟨4, n, 0, 0, 0, time⟩, d')
  else (⟨5, n, 0, 0, 0, time⟩, d')

/-! ## Result records (R242, R250) -/

/-- The feed master's entry decision on its own result: whether it was entered, and CORR. -/
def Dev.strEnter (d : Dev) (q : Boundary) (r : StrRes) : Dev × Bool × Int :=
  if r.status = 0 then d.enterStrata q.adv r.es
  else ((d.flagIf (!d.logHas q.adv) F.FLW_STATUS.NO_ADVANCE).dropEntry, false, 0)

def strSlot (seq : Nat) : Nat := winStrata + 64 * (seq % 256)

/-- Write a boundary's record: the feed master after its entry decision, a follower at once with the RESULT frame. -/
def Dev.putStrata (d : Dev) (q : Boundary) (r : StrRes) : Dev :=
  let seq := d.str.seq
  let e := if d.feedMaster then d.strEnter q r else (d, false, 0)
  let d := e.1
  let notIn := d.feedMaster && !e.2.1
  let fwd := if d.feedMaster then e.2.1 else decide (r.status = 0)
  let d := if d.follower && decide (r.status = 0) then
      d.sendResult 2 [seq * 2 ^ 16, q.adv, unsigned 32 r.es, q.swath] else d
  let corr := if e.2.1 then e.2.2 else 0
  let abs := if e.2.1 then r.es + corr else 0
  let ws := [seq * 2 ^ 16 + r.status * 2 ^ 8 + d.node, r.n * 2 ^ 16 + d.strTotal q.mask,
      unsigned 4 r.off * 16 + 2 * b2n notIn + b2n fwd, q.swath, q.adv, unsigned 32 r.spread] ++ words64 q.pos ++ words64 q.kb ++
    [lo32 r.time, hi32 r.time, unsigned 32 r.es, unsigned 32 corr, unsigned 32 abs, 0]
  let d := d.haulRequest 11
  let d := (d.setBytes (strSlot seq + 4) (wordBytes (ws.drop 1))).setMem (strSlot seq) 4 (ws.headD 0)
  let d := { d with str := { d.str with seq := (seq + 1) % 65536 } }.setF F.STR_STATUS.SEQ seq
  let d := if r.status = 0 then d else d.count F.STR_COUNT.NOT_OK_CNT 1
  d.deliverAnalysis 2 0 q.kb q.pos r.time (wordBytes ws)

def Dev.setBoundaries (d : Dev) (qs : List Boundary) : Dev :=
  { d with str := { d.str with queue := qs } }.setF F.STR_STATUS.QUEUED qs.length

/-- STRATA_MEASUREMENT: the oldest boundary, once its line k_b + K or a later one has been reduced. -/
def Dev.strataMeasure (d : Dev) : Dev :=
  match d.str.queue, d.bar, d.str.reached with
  | q :: t, some b, some k =>
    if k < q.kb + d.strK then d
    else
      let r := d.strMeasure b q
      (r.2.setBoundaries t).putStrata q r.1
  | _, _, _ => d

/-- Empty the queue with a status for every boundary; the order check restarts (R243). -/
def Dev.strataDiscard (d : Dev) (status : Nat) : Dev :=
  let qs := d.str.queue
  let d := d.setBoundaries []
  let d := qs.foldl (fun d q => d.putStrata q (strEnd status)) d
  { d with str := { d.str with lastPos := none } }

/-- The FEED position is redefined (R243). -/
def Dev.strataFrame (d : Dev) : Dev :=
  let held := !d.str.queue.isEmpty
  let d := (d.strataDiscard 2).flagIf held F.STR_STATUS.QUEUE_DISCARDED
  { d with str := { d.str with reached := none } }

/-- STR_EN is cleared (R243). -/
def Dev.strataStop (d : Dev) : Dev :=
  let d := (d.strataDiscard 6).flag F.STR_STATUS.QUEUE_DISCARDED
  { d with str := { d.str with means := [], lines := [], reached := none } }

/-- A host write of STR_CTRL: while armed only MIN_PAIRS is taken (R254). -/
def Dev.strCtrlWrite (d : Dev) (rq : Req) (v : Word) : Dev :=
  let v := v &&& 0xFFF8FF00#32
  let old := d.reg R.STR_CTRL
  if d.armed then
    let d := if (v ^^^ old) &&& 0xFFF80000#32 = 0#32 then d else d.accessErr rq false .locked R.STR_CTRL
    d.setReg R.STR_CTRL ((old &&& 0xFFF80000#32) ||| (v &&& 0xFF00#32))
  else
    let was := d.on F.STR_CTRL.STR_EN
    let d := d.setReg R.STR_CTRL v
    if was && !d.on F.STR_CTRL.STR_EN then d.strataStop else d

/-! ## BOUNDARY_POST (R237, R238) -/

/-- The expected line index k_b. -/
def Dev.boundaryLine (d : Dev) (pos : Int) : Int :=
  let print := match d.bar with
    | some b => (b.printDist : Int) + b.aMax
    | none => 0
  divFloor (pos + print + d.fi F.STR_DIST_ADJ.DIST_ADJ - d.origin + (d.pitch / 2 : Nat)) d.pitch

def Dev.boundaryCode (d : Dev) (pos : Int) : Nat :=
  if !d.modeIn [.run] then 1
  else if !d.on F.STR_CTRL.STR_EN then 2
  else if (match d.str.lastPos with | some p => decide (pos ≤ p) | none => false) then 3
  else if 256 ≤ d.str.queue.length then 4 else 0

def Dev.boundaryPost (d : Dev) (src : Src) (sens swath adv : Nat) (pos : Int) (mask : Nat) : Dev :=
  let code := d.boundaryCode pos
  if code ≠ 0 then (d.count F.STR_COUNT.REFUSED_CNT 1).complete src (stCode code)
  else
    let kb := d.boundaryLine pos
    let q : Boundary := ⟨swath, pos, adv, sens, mask, kb⟩
    let d := { d with str := { d.str with lastPos := some pos } }
    let late := decide (63 < divFloor (d.hwm - d.origin) d.pitch - (kb - d.strK))
    let d := if late then d.putStrata q (strEnd 1) else d.setBoundaries (d.str.queue ++ [q])
    d.completeQuiet src { stOk with a := unsigned 64 kb }

/-! ## Meanings -/

def execBoundaryPost (src : Src) (sens : Fin 8) (swath adv : Word) (pos : Int) (mask : Word × Word) (s : State) :
    Host.Outcome State Fault Refusal :=
  s.lift (fun d => d.boundaryPost src sens swath.toNat adv.toNat pos (mask.1.toNat + mask.2.toNat * 2 ^ 32))

def execStrataMeasurement (s : State) : Host.Outcome State Fault Refusal := s.lift (·.strataMeasure)

def execStrCtrlWrite (rq : Req) (v : Word) (s : State) : Host.Outcome State Fault Refusal :=
  s.lift (fun d => if d.awake then d.strCtrlWrite rq v else d)

end Sys2Proof.Machine
end

