-- ==== Sys2Proof/Machine/Lantern.lean ====
section
/-! DEFINITION. Lantern: arming, triggers, line boundaries, exposure sequences, flushes and its registers (spec
04_lantern_exposure_and_line_pacing.md R104-R130; 05 R136, R142, R146, R159; 06 R169, R180). -/

namespace Sys2Proof.Machine

/-! ## Module alignment registers (R146, Table 5.9) -/

/-- N_DELAY, RESIDUAL and CLAMPED of every IMAGE module, and ALIGN_RANGE, after a change of record or pitch. -/
def Dev.showAlign (d : Dev) : Dev :=
  match d.bar with
  | none => (List.range 64).foldl (fun d m => d.setReg (R.GAL_MOD_ALIGN m) 0) d
  | some b =>
    let p := d.pitch
    let d := (List.range 64).foldl (fun d i =>
      match b.images[i]? with
      | none => d.setReg (R.GAL_MOD_ALIGN i) 0
      | some m =>
        let n := b.nDelay m p
        ((d.setB (F.GAL_MOD_ALIGN.CLAMPED i) (decide ((8 * p : Int) ≤ b.delta m))).setF (F.GAL_MOD_ALIGN.N_DELAY i) n).setFI
          (F.GAL_MOD_ALIGN.RESIDUAL i) (b.delta m - n * p)) d
    d.flagIf (b.alignRange p) F.GAL_STATUS.ALIGN_RANGE

/-! ## Status -/

/-- What LTN_STATUS shows of the sequences, the queues and the hold request. -/
def Dev.showLantern (d : Dev) : Dev :=
  let x := d.ltn
  let busy := match x.main with
    | some r => r.serial.isSome
    | none => false
  let flush := match x.main with
    | some r => r.serial.isNone
    | none => false
  ((((d.setB F.LTN_STATUS.HOLD_REQ (x.mainHold || x.leadHold)).setB F.LTN_STATUS.FLUSHING flush).setF
    F.LTN_STATUS.QUEUE x.mainQ.length).setF F.LTN_STATUS.LEAD_QUEUE x.leadQ.length).setB F.LTN_STATUS.SEQ_BUSY busy

/-- A grid's hold request follows its queue: asserted with two triggers, released with none (R127). -/
def Dev.holdQueue (d : Dev) : Dev :=
  let x := d.ltn
  let next (h : Bool) (n : Nat) : Bool := if 2 ≤ n then true else if n = 0 then false else h
  { d with ltn := { x with mainHold := next x.mainHold x.mainQ.length, leadHold := next x.leadHold x.leadQ.length } }.showLantern

/-! ## Line boundaries (R108) -/

def Dev.expBase (d : Dev) : Nat := d.f F.TIM_CFG.EXP_BASE

/-- Pending set-points of the roles of a grid are applied (R123). -/
def Dev.applySets (d : Dev) (lead : Bool) : Dev :=
  let d := (List.range 16).foldl (fun d n =>
    let role := d.f (F.LTN_CH_CFG.ROLE n)
    let mine := if lead then decide (role = 4) else decide (role < 4)
    if d.on (F.LTN_CH_SET.PENDING n) && mine then
      let code := d.f (F.LTN_CH_SET.SET_CODE n)
      ({ d with ltn := { d.ltn with setNow := d.ltn.setNow.set n code } }.setF (F.LTN_CH_SET.PENDING n) 0).emit (.setLevel n code)
    else d) d
  d.ledWearAll

/-- Start pulse `plane` of a module: counted since lock, expected from a digital module's taps. -/
def Dev.pulse (d : Dev) (m : Module) (plane : Nat) (serial : Option Nat) : Dev :=
  let n := spGet pulseInit d.pulses m.id + 1
  let d := { d with pulses := spSet pulseInit d.pulses m.id n }.emit (.startPulse m.group m.spOut)
  if m.gen = 1 then d
  else { d with expects := d.expects ++ (List.range m.tapCount).map (fun k => ⟨m.id, k, n, serial, plane⟩) }

/-- Strobes of a role, unless the exposure is dark (R112, R119). -/
def Dev.strobes (d : Dev) (role on : Nat) (dark : Bool) : Dev :=
  if dark then d
  else (List.range 16).foldl (fun d n =>
    if d.on (F.LTN_CH_CFG.EN n) && decide (d.f (F.LTN_CH_CFG.ROLE n) = role) then
      d.emit (.strobe n on (d.f (F.LTN_CH_CFG.PULSE_W n)))
    else d) d

/-- Start pulses and strobes of a main sequence, slot by slot. -/
def Dev.mainPins (d : Dev) (b : Bar) (serial : Option Nat) (dark : Bool) : Dev :=
  (d.plan b).foldl (fun d s =>
    b.mainRow.foldl (fun d m => d.pulse m s.plane serial) (d.strobes s.plane s.ledOn dark)) d

def Dev.leadPins (d : Dev) (b : Bar) (serial : Option Nat) (dark : Bool) : Dev :=
  b.leads.foldl (fun d m => d.pulse m (d.f F.SUR_CTRL.LEAD_PLANE) serial) (d.strobes 4 d.leadOn dark)

/-- Marks of the Gen A taps that a line set cannot use (R88, R97, R101). -/
def Dev.offTaps (d : Dev) (b : Bar) (lead : Bool) (planes : List Nat) : List TapMark :=
  (b.mods.filter (fun m => decide (m.gen = 1) && decide (m.isLead = lead))).flatMap (fun m =>
    (List.range m.taps).flatMap (fun k =>
      let r := d.tapReason m.group (m.map.getD k 255)
      if r = 0 then [] else planes.map (fun p => ⟨m.id, k, p, r⟩)))

/-- A line set as its sequence starts. -/
def Dev.newLine (d : Dev) (b : Bar) (t : Trig) (lead : Bool) (slots : List SeqSlot) (changed : List Nat) (setChg : Bool)
    (mChg : List Nat) : LineSet :=
  let cal := d.shd.cal.isSome
  let one := lead || decide (b.images.length ≤ 1)
  { serial := t.serial, lead := lead, k := t.k, grid := t.grid, mode := t.mode,
    planes := slots.map (fun s => ⟨s.plane, d.feedTicks, d.stampIn d.expBase (4 * s.mid), 0, b2n one, false⟩),
    raws := [], bad := d.offTaps b lead (slots.map (·.plane)), recon := [], rangeChanged := changed, set := d.activeSet,
    gains := d.shd.mNow, cells := [], ended := false, checked := lead || d.poweredList.isEmpty, fallback := false,
    darkShift := if cal then 0 else d.f F.GAL_CTRL.DARK_SHIFT, fade := d.f F.GAL_CTRL.STITCH_FADE,
    adj := (List.range b.images.length).map (fun i => d.fi (F.GAL_STITCH_ADJ.ADJ i)), handed := 0,
    fresh := if lead then d.gal.freshLead else d.gal.fresh, setChanged := setChg, mChanged := mChg, after := [],
    reconDone := false, holes := [] }

/-- Reconstructions that wait for a line which can no longer follow fall back (R142): index `k` has been triggered or lost,
or every one when `k` is none. -/
def Dev.reconFallback (d : Dev) (lead : Bool) (k : Option Int) : Dev :=
  let next (l : LineSet) : Bool := d.gal.lines.any (fun x => decide (x.lead = lead) && decide (x.k = l.k + 1) &&
    decide (l.serial < x.serial)) ||
    (if lead then d.ltn.leadQ else d.ltn.mainQ).any (fun t => decide (t.k = l.k + 1) && decide (l.serial < t.serial))
  d.mapLines (fun l => if decide (l.lead = lead) && (match k with | some k => decide (l.k < k) | none => true) && !next l then
    { l with fallback := true } else l)

/-- Gallery's roles that wait for a line boundary (R156). -/
def Dev.takeRoles (d : Dev) : Dev :=
  match d.gal.nextRoles with
  | none => d
  | some r =>
    { d with gal := { d.gal with nextRoles := none } }.setRoles r

/-- A change of range codes while SHADING_FULL takes its lines fails it (R172). -/
def Dev.calRange (d : Dev) (changed : List Nat) : Dev :=
  match d.shd.cal with
  | some c => if (c.phase = 1 ∨ c.phase = 2) ∧ changed ≠ [] ∧ c.result = 0 then
      { d with shd := { d.shd with cal := some { c with result := 0x0C } } } else d
  | none => d

/-- The line boundary of a main-row trigger: every action that waits for it, then its sequence. -/
def Dev.startMain (d : Dev) (b : Bar) (t : Trig) : Dev :=
  let d0 := d
  let d := (d.haulEvent 12).boundaryAfe
  let changed := Dev.changedPlanes d0 d
  let d := (d.calRange changed).boundaryLanes.takeRoles.applySets false
  let m := d.boundaryMul
  let set := m.1.activeSet
  let d := m.1.boundarySet
  let d := { d with shd := { d.shd with track := d.shd.track.filter (fun x => !changed.contains x.plane) } }
  let slots := (d.plan b).map (fun s => (⟨s.plane, s.ledOn + s.w / 2⟩ : SeqSlot))
  let l := d.newLine b t false slots changed (decide (set ≠ d.activeSet)) m.2
  let dark := match d.shd.cal with
    | some c => decide (c.phase = 1)
    | none => false
  let d := (d.countLines).stamped d.expBase slots.length
  let d := { d with gal := { d.gal with lines := d.gal.lines ++ [l], fresh := false, sets := d.gal.sets + 1,
                                        verifyCount := d.gal.verifyCount + 1 },
                    ltn := { d.ltn with main := some ⟨some t.serial⟩ } }
  (d.mainPins b (some t.serial) dark).refreshLock.showLantern

/-- A LEAD sequence starts. -/
def Dev.startLead (d : Dev) (b : Bar) (t : Trig) : Dev :=
  let d := d.applySets true
  let slots : List SeqSlot := [⟨d.f F.SUR_CTRL.LEAD_PLANE, d.leadOn + d.roleWidth 4 / 2⟩]
  let l := d.newLine b t true slots [] false []
  let d := d.stamped d.expBase 1
  let d := { d with gal := { d.gal with lines := d.gal.lines ++ [l], freshLead := false },
                    ltn := { d.ltn with lead := some ⟨some t.serial⟩ } }
  (d.leadPins b (some t.serial) false).refreshLock.showLantern

/-! ## Triggers (R105, R118, R127, R129) -/

/-- A main-row trigger that has been counted: contexts see it, reconstructions wait for it or fall back, its sequence
starts or is queued. -/
def Dev.fireMain (d : Dev) (b : Bar) (k : Int) (grid : Option Int) : Dev :=
  let t : Trig := ⟨d.ltn.serial, k, grid, d.mode⟩
  let d := { d with ltn := { d.ltn with serial := d.ltn.serial + 1, lastK := some k } }.ctxTriggers t.serial k grid
  match d.ltn.main with
  | none => (d.startMain b t).reconFallback false (some k)
  | some _ =>
    let d := { d with ltn := { d.ltn with mainQ := d.ltn.mainQ ++ [t] } }
    (((d.reconFallback false (some k)).count F.LTN_COUNT.OVR_CNT 1).flag F.LTN_STATUS.OVERRUN).holdQueue

/-- May the grids trigger (R106)? -/
def Dev.gridLive (d : Dev) : Bool :=
  d.armed && (decide (d.mode = .run) || (decide (d.mode = .service) && decide (d.f F.LTN_GRID_CTRL.TRIG_SRC = 0)))

/-- GRID_TRIGGER: the FEED position stands at or beyond HWM + P. -/
def Dev.gridTrigger (d : Dev) : Dev :=
  match d.bar with
  | none => d
  | some b =>
    let g := d.hwm + d.pitch
    if !d.gridLive || decide (d.feedTicks < g) then d
    else
      let k := divFloor (g - d.origin) d.pitch
      let d := d.setHwm g
      if d.ltn.main.isSome && decide (2 ≤ d.ltn.mainQ.length) then
        (((d.count F.LTN_COUNT.SKIP_CNT 1).flag F.LTN_STATUS.GRID_SKIP).irq 3 |>.surveyLost k).reconFallback false (some k)
      else d.fireMain b k (some g)

/-- LEAD_TRIGGER. -/
def Dev.leadTrigger (d : Dev) : Dev :=
  match d.bar with
  | none => d
  | some b =>
    let g := d.leadHwm + d.pitchL
    if !d.gridLive || b.leads.isEmpty || decide (d.feedTicks < g) then d
    else
      let k := divFloor (g - d.origin) d.pitchL
      let d := d.setLeadHwm g
      if d.ltn.lead.isSome && decide (2 ≤ d.ltn.leadQ.length) then
        (((d.count F.LTN_COUNT.SKIP_CNT 1).flag F.LTN_STATUS.LEAD_SKIP).irq 3).reconFallback true (some k)
      else
        let t : Trig := ⟨d.ltn.serial, k, some g, d.mode⟩
        let d := { d with ltn := { d.ltn with serial := d.ltn.serial + 1 } }
        match d.ltn.lead with
        | none => (d.startLead b t).reconFallback true (some k)
        | some _ =>
          let d := { d with ltn := { d.ltn with leadQ := d.ltn.leadQ ++ [t] } }
          (((d.reconFallback true (some k)).count F.LTN_COUNT.OVR_CNT 1).flag F.LTN_STATUS.OVERRUN).holdQueue

/-- A timer or soft line: its index comes from a counter of its own; with the queue full it is lost. -/
def Dev.otherLine (d : Dev) : Dev :=
  match d.bar with
  | none => d
  | some b =>
    if d.ltn.main.isSome && decide (2 ≤ d.ltn.mainQ.length) then d
    else
      let k := d.ltn.soft
      { d with ltn := { d.ltn with soft := k + 1 } }.fireMain b k none

/-- Lines of a SHADING_FULL phase still to be triggered: 2 + 2^N_LOG, less those taken and those under way. -/
def Dev.calWants (d : Dev) (c : ShadCal) : Bool :=
  let n := 2 ^ max 4 (bitsOf c.cfg 26 24)
  decide (c.phase = 1 ∨ c.phase = 2) && decide (c.result = 0) &&
    decide (c.lines + (d.gal.lines.filter (fun l => !l.lead)).length + d.ltn.mainQ.length < n + 2)

/-- TIMER_TRIGGER: in SERVICE with TIMER, or for a SHADING_FULL in CALIBRATE. -/
def Dev.timerTrigger (d : Dev) : Dev :=
  let service := decide (d.mode = .service) && decide (d.f F.LTN_GRID_CTRL.TRIG_SRC = 1)
  let cal := match d.shd.cal with
    | some c => d.calWants c
    | none => false
  if service || cal then d.otherLine else d

/-! ## Sequence ends and flushes (R125 to R127) -/

/-- A served channel's codes for the photosites of a tap, and whether one reached 0 or 65,535. -/
def Dev.convertTap (d : Dev) (m : Module) (k plane : Nat) (sig : List Int) : Option (Nat × List Nat) :=
  (d.serving m.group (m.map.getD k 255)).map (fun c =>
    (c, (m.tapSites k).map (fun j => d.chConvert m.group c (d.rangeAct m.group c plane) (sig.getD j 0))))

/-- The samples of the Gen A modules of a line set (R78, R136). -/
def Dev.takeGenA (d : Dev) (b : Bar) (serial : Nat) (lead : Bool) (sigs : List GenALine) : Dev :=
  sigs.foldl (fun d x =>
    match b.mods[x.module]? with
    | none => d
    | some m =>
      if m.gen ≠ 1 ∨ m.isLead ≠ lead then d
      else (List.range m.taps).foldl (fun d k =>
        match d.convertTap m k x.plane x.sig with
        | none => d
        | some (c, codes) =>
          let d := d.flagIf (codes.any (fun v => v = 0 ∨ v = 65535)) (F.AFE_CH_STATUS.CLIP m.group c)
          (d.requestRaw serial m.group x.plane).mapLine serial (fun l =>
            { l with raws := l.raws ++ [⟨m.id, k, x.plane, codes⟩] })) d) d

/-- The line set of an ended sequence: its stamps' positions and its Gen A samples. -/
def Dev.endLine (d : Dev) (serial : Nat) (lead : Bool) (pos : List Int) (sigs : List GenALine) : Dev :=
  match d.bar, d.lineOf serial with
  | some b, some l =>
    let d := d.takeGenA b serial lead sigs
    let put (ps : List PlaneRun) : List PlaneRun :=
      (List.range ps.length).filterMap (fun i => (ps[i]?).map (fun p => { p with pos := pos.getD i p.pos }))
    let d := d.mapLine serial (fun l => { l with planes := put l.planes, ended := true })
    if lead then d else d.surveyExposed l.k
  | _, _ => d

/-- SEQUENCE_END: the sequence or flush of a grid ends; a queued trigger's sequence starts in the same clock. -/
def Dev.sequenceEnd (d : Dev) (lead : Bool) (pos : List Int) (sigs : List GenALine) : Dev :=
  match (if lead then d.ltn.lead else d.ltn.main), d.bar with
  | some r, some b =>
    let d := match r.serial with
      | some s => d.endLine s lead pos sigs
      | none => d
    let d := if lead then { d with ltn := { d.ltn with lead := none } } else { d with ltn := { d.ltn with main := none } }
    let d := match (if lead then d.ltn.leadQ else d.ltn.mainQ) with
      | [] => d
      | t :: q =>
        if lead then { d with ltn := { d.ltn with leadQ := q } }.startLead b t
        else { d with ltn := { d.ltn with mainQ := q } }.startMain b t
    d.holdQueue
  | _, _ => d

/-- FLUSH: IDLE_FLUSH has passed without a sequence of the grid (R126). -/
def Dev.flush (d : Dev) (lead : Bool) : Dev :=
  match d.bar with
  | none => d
  | some b =>
    let busy := if lead then d.ltn.lead.isSome else d.ltn.main.isSome
    if !(decide (d.mode = .calibrate) || decide (d.mode = .run) || decide (d.mode = .service)) || busy ||
        (lead && b.leads.isEmpty) then d
    else
      let r : SeqRun := ⟨none⟩
      if lead then ({ d with ltn := { d.ltn with lead := some r } }.leadPins b none true).showLantern
      else ({ d with ltn := { d.ltn with main := some r } }.mainPins b none true).showLantern

/-! ## Arming and disarming (R106, R107) -/

/-- ARM_ERR's code for an arming now; 0 arms. -/
def Dev.armCode (d : Dev) : Nat :=
  let modes : List Mode := if d.f F.LTN_GRID_CTRL.TRIG_SRC = 0 then [.run, .service] else [.run]
  match d.bar with
  | none => 3
  | some b =>
    if !d.modeIn modes then 3
    else if !d.orderOk b then 2
    else if d.on F.LTN_GRID_CTRL.ARM_MODE && decide ((d.hwm - d.origin) % (d.pitch : Int) ≠ 0) then 1 else 0

/-- Arm, or refuse with ARM_ERR. -/
def Dev.arm (d : Dev) : Dev :=
  let code := d.armCode
  if code ≠ 0 then (d.setF F.LTN_GRID_CTRL.ARMED 0).setF F.LTN_STATUS.ARM_ERR code
  else
    let keep := d.on F.LTN_GRID_CTRL.ARM_MODE
    let d := if keep then d else d.setHwm (d.origin + divFloor (d.feedTicks - d.origin) d.pitch * d.pitch)
    let d := d.setLeadHwm (d.origin + divFloor (d.hwm - d.origin) d.pitchL * d.pitchL)
    let d := { d with ltn := { d.ltn with lastK := if keep then some (divFloor (d.hwm - d.origin) d.pitch) else none },
                      gal := { d.gal with fresh := true, freshLead := true } }
    ((d.setF F.LTN_GRID_CTRL.ARMED 1).reschedule).surveyArm

/-- Cells of the alignment history return; the history is cleared (R146). -/
def Dev.clearHist (d : Dev) : Dev :=
  let d := d.gal.hist.foldl (fun d h =>
    match d.bar.bind (fun b => b.mods[h.module]?) with
    | some m => if h.cells = 0 then d else d.setGroupUse m.group (d.groupUse m.group - h.cells)
    | none => d) d
  { d with gal := { d.gal with hist := [] } }

/-- The dark states and the history are cleared, at once or before the next line set with lines still in Gallery. -/
def Dev.clearDark (d : Dev) : Dev :=
  let d := { d with gal := { d.gal with fresh := true, freshLead := true } }
  if d.gal.lines.isEmpty && d.ltn.mainQ.isEmpty && d.ltn.leadQ.isEmpty then
    { d with gal := { d.gal with dark := [], prev := [], prevK := none, prevLeadK := none } }.clearHist
  else d

/-- Clear ARMED with a cause: 1 host, 2 mode exit, 3 position redefined. -/
def Dev.disarm (d : Dev) (cause : Nat) : Dev :=
  if !d.armed then d
  else
    let d := (d.setF F.LTN_GRID_CTRL.ARMED 0).setF F.LTN_STATUS.DISARM_CAUSE cause
    let d := ((d.flag F.LTN_STATUS.GRID_DISARMED).reschedule.surveyDisarm).clearDark
    let d := { d with shd := { d.shd with track := [] } }
    let d := (List.range 8).foldl (fun d g => d.rbRestart g) d
    let d := (d.reconFallback false none).reconFallback true none
    if d.shd.swapSoon then { d with shd := { d.shd with swapSoon := false } }.offerShadow else d

/-! ## Registers (R106, R130) -/

/-- A write of LTN_GRID_CTRL. -/
def Dev.gridCtrlWrite (d : Dev) (rq : Req) (v : Word) : Dev :=
  let a := R.LTN_GRID_CTRL
  let old := d.reg a
  if bitsOf v.toNat 29 28 = 3 ∨ bitsOf v.toNat 25 24 = 3 then d.accessErr rq false .value a
  else if d.armed && decide ((v ^^^ old) &&& 0x3F00FF00#32 ≠ 0#32) then d.accessErr rq false .locked a
  else
    let was := d.armed
    let pitch := d.pitch
    let d := d.setReg a ((v &&& 0x7F00FF00#32) ||| (old &&& 0x80000000#32))
    let d := if d.pitch = pitch then d else d.showAlign
    let d := if (v ^^^ old) &&& 0xFF00#32 = 0#32 then d else d.reschedule
    let want := bitOf v.toNat 31
    let d := if was && !want then d.disarm 1 else if !was && want then d.arm else d
    if bitOf v.toNat 23 && d.modeIn [.service] && decide (d.f F.LTN_GRID_CTRL.TRIG_SRC = 2) then d.otherLine else d

/-- A write of a sequence timing or channel register: discarded while armed or with a value out of range; accepted, the
schedule is computed anew (R106, R115). -/
def Dev.seqWrite (d : Dev) (rq : Req) (a : Nat) (mask v : Word) : Dev :=
  if d.armed then d.accessErr rq false .locked a
  else
    let isCh := decide (R.LTN_CH_CFG 0 ≤ a)
    let w := bitsOf v.toNat 14 0
    let role := bitsOf v.toNat 29 27
    if isCh && (decide (w < 50) || decide (20000 < w)) then d.accessErr rq false .value a
    else if isCh && decide (role = 5 ∨ role = 6) then { d with nak := true }
    else (d.setReg a (v &&& mask)).reschedule

/-- LTN_CONFIG_WRITE: LTN_SEQ_TIMING, LTN_SEQ_MISC or LTN_CH_CFG_n. -/
def Dev.ltnConfig (d : Dev) (rq : Req) (r : LtnReg) (v : Word) : Dev :=
  match r with
  | .timing => d.seqWrite rq R.LTN_SEQ_TIMING 0xFFFFFF00#32 v
  | .misc => d.seqWrite rq R.LTN_SEQ_MISC 0xFFFFFF00#32 v
  | .channel n => d.seqWrite rq (R.LTN_CH_CFG n) 0xF8007FFF#32 v

/-- A write of a half of GRID_ORIGIN or HWM (R106). -/
def Dev.gridHalf (d : Dev) (rq : Req) (a : Nat) (v : Word) : Dev :=
  if d.armed then d.accessErr rq false .locked a else d.setReg a v

/-- A write of a set-point: pending until the next trigger of the channel's role (R123). -/
def Dev.setPoint (d : Dev) (n : Nat) (v : Word) : Dev :=
  (d.setF (F.LTN_CH_SET.SET_CODE n) (bitsOf v.toNat 11 0)).setF (F.LTN_CH_SET.PENDING n) 1

/-! ## Meanings -/

def execGridTrigger (s : State) : Host.Outcome State Fault Refusal := s.lift (·.gridTrigger)

def execLeadTrigger (s : State) : Host.Outcome State Fault Refusal := s.lift (·.leadTrigger)

def execTimerTrigger (s : State) : Host.Outcome State Fault Refusal := s.lift (·.timerTrigger)

def execSoftTrig (rq : Req) (v : Word) (s : State) : Host.Outcome State Fault Refusal :=
  s.lift (fun d => if d.awake then d.gridCtrlWrite rq (v ||| 0x00800000#32) else d)

def execArm (rq : Req) (v : Word) (s : State) : Host.Outcome State Fault Refusal :=
  s.lift (fun d => if d.awake then d.gridCtrlWrite rq (v ||| 0x80000000#32) else d)

def execDisarm (rq : Req) (v : Word) (s : State) : Host.Outcome State Fault Refusal :=
  s.lift (fun d => if d.awake then d.gridCtrlWrite rq (v &&& 0x7FFFFFFF#32) else d)

def execLtnConfigWrite (rq : Req) (r : LtnReg) (v : Word) (s : State) : Host.Outcome State Fault Refusal :=
  s.lift (fun d => if d.awake then d.ltnConfig rq r v else d)

def execSequenceEnd (lead : Bool) (pos : List Int) (sigs : List GenALine) (s : State) :
    Host.Outcome State Fault Refusal := s.lift (·.sequenceEnd lead pos sigs)

def execFlush (lead : Bool) (s : State) : Host.Outcome State Fault Refusal := s.lift (·.flush lead)

end Sys2Proof.Machine
end

