-- ==== Sys2Proof/Machine/ShadingCal.lean ====
section
/-! DEFINITION. CAL_RUN SHADING_FULL: start, accumulation, checks, commit and its ends (spec 06_shading.md R171-R175). -/

namespace Sys2Proof.Machine

/-! ## Ends -/

/-- The completion of a SHADING_FULL that started (R174, Table 11.8). -/
def Dev.calReport (d : Dev) (c : ShadCal) : Dev :=
  let d := ((d.setF F.SHD_CAL_STATUS.RESULT c.result).setF F.SHD_CAL_STATUS.FAIL_MODULE c.failModule).setF
    F.SHD_CAL_STATUS.FAIL_PLANE c.failPlane
  let d := { d with shd := { d.shd with cal := none } }.setF F.SHD_CTRL.CAL_BUSY 0
  let d := (d.setCalUse 0).flag F.SHD_CAL_STATUS.DONE
  d.finish c.run { stResult c.result with info := c.failModule * 2 ^ 16 + c.failPlane * 2 ^ 12, c := c.defects }

/-- The procedure fails: nothing is committed, and SHUTTER goes back after a failure in steps 3 to 6. -/
def Dev.calFail (d : Dev) (code m p : Nat) : Dev :=
  match d.shd.cal with
  | none => d
  | some c =>
    let back := bitOf c.cfg 31 && decide (c.phase = 1 ∨ c.phase = 2)
    let d := if back then { d with shd := { d.shd with shutter := some false } } else d
    d.calReport { c with result := code, failModule := m, failPlane := p, defects := 0 }

def Dev.setCal (d : Dev) (c : ShadCal) : Dev := { d with shd := { d.shd with cal := some c } }

/-! ## Start (R171, R172 steps 1 and 2) -/

/-- The tag of the codes in force: 32 words (Table 6.2). -/
def Dev.codeTag (d : Dev) : List Nat :=
  (List.range 32).map (fun i => sumN ((d.barTaps (i / 4)).map (fun t => d.tapCode (i / 4) t (i % 4) * 16 ^ t)))

def ShadCal.nLog (c : ShadCal) : Nat := max 4 (bitsOf c.cfg 26 24)

/-- The dark phase begins with the dark states cleared. -/
def Dev.calDark (d : Dev) : Dev :=
  match d.shd.cal with
  | some c => (d.setCal { c with phase := 1, lines := 0 }).clearDark
  | none => d

def Dev.shadingFull (d : Dev) (src : Src) : Dev :=
  match d.bar with
  | none => d.complete src (stCode (if d.modeIn [.calibrate] then 2 else 1))
  | some b =>
    if !d.modeIn [.calibrate] then d.complete src (stCode 1)
    else if d.shadingRuns || d.on F.SHD_CTRL.LOAD_BUSY then d.complete src (stCode 3)
    else
      let cfg := (d.reg R.SHD_CAL_CFG).toNat
      let move := bitOf cfg 31
      let c : ShadCal :=
        { run := d.nextRun, phase := 0, cfg := cfg, white := (d.reg R.SHD_CAL_WHITE).toNat,
          spread := (d.reg R.SHD_CAL_SPREAD).toNat, darkCfg := (d.reg R.SHD_CAL_DARK).toNat,
          gainMax := d.f F.SHD_CAL_GAIN.GAIN_MAX, lines := 0, tag := d.codeTag, acc := [], activeAt6 := 0, result := 0,
          failModule := 0, failPlane := 0, defects := 0 }
      let d := ((d.startRun src .shadingFull).setCal c).setF F.SHD_CTRL.CAL_BUSY 1
      let n := ceilDiv (10 * sumN (b.mods.map (·.photosites)) * b.planeList.length) 4096
      if move && !d.on (F.AXS_REF_STATUS.REFERENCED 5) then d.calFail 4 0 0
      else if !d.calGrants n then d.calFail 6 0 0
      else
        let d := d.setCalUse n
        if move then { d with shd := { d.shd with shutter := some true } } else d.calDark

/-! ## Accumulation (R172, R173) -/

/-- `x >> n` with rounding, as R173 forms its means. -/
def roundShift (x : Int) (n : Nat) : Int := divFloor (x + 2 ^ (n - 1)) (2 ^ n)

/-- A mean rounded under R131; none over no value. -/
def meanRound (xs : List Int) : Option Int :=
  if xs.isEmpty then none else some (divFloor (sumI xs + ((xs.length / 2 : Nat) : Int)) xs.length)

/-- Class of a photosite that the procedure gives a word from its own lines (R137). -/
def Module.calibrated (m : Module) (j : Nat) : Bool := m.black j || m.tile j || m.isImage

/-- INVALID_LINES: an image, survey or tile photosite is INVALID or rebuilt. -/
def calInvalid (l : LineSet) (m : Module) (r : ModLine) : Bool :=
  let rec' := l.reconTaps m.id
  (List.range m.photosites).any (fun j => (m.tile j || m.picture j) &&
    (decide ((r.px.getD j ⟨0, 6, false, false⟩).r ≠ 0) || rec'.contains (m.tapOfSite j)))

def CalAcc.init (m p : Nat) : CalAcc :=
  ⟨m, p, [], 0, [], 0, [], [], [], [], 0⟩

/-- Add element by element; the first line starts the sums. -/
def addLists (a b : List Int) : List Int := if a.isEmpty then b else (a.zip b).map (fun x => x.1 + x.2)

/-- Take one module's stage 2 values of a line into its accumulators. -/
def CalAcc.take (a : CalAcc) (phase : Nat) (r : ModLine) : CalAcc :=
  let c := r.c.map (fun x => x.getD 0)
  if phase = 1 then { a with sumC := addLists a.sumC c, sumD := a.sumD + r.dark }
  else
    let v := (c.zip a.off).map (fun x => x.1 - x.2)
    { a with sumV := addLists a.sumV v,
             lo := if a.lo.isEmpty then c else (a.lo.zip c).map (fun x => min x.1 x.2),
             hi := if a.hi.isEmpty then c else (a.hi.zip c).map (fun x => max x.1 x.2) }

/-- A plane line of the procedure's timer lines. -/
def Dev.calLine (d : Dev) (l : LineSet) (p : Nat) (rows : List (Module × ModLine)) : Dev :=
  match d.shd.cal with
  | none => d
  | some c =>
    if l.lead || l.grid.isSome || !decide (c.phase = 1 ∨ c.phase = 2) || decide (c.lines < 2) || decide (c.result ≠ 0) then d
    else if rows.any (fun x => calInvalid l x.1 x.2) then d.setCal { c with result := 7 }
    else
      let acc := rows.foldl (fun (acc : List CalAcc) x =>
        let a := (acc.find? (fun a => a.module = x.1.id ∧ a.plane = p)).getD (CalAcc.init x.1.id p)
        acc.filter (fun a => ¬ (a.module = x.1.id ∧ a.plane = p)) ++ [a.take c.phase x.2]) c.acc
      d.setCal { c with acc := acc }

/-! ## Checks (R174) -/

/-- Accumulators in the order of the checks: modules ascending, then planes. -/
def ShadCal.ordered (c : ShadCal) (b : Bar) : List (Module × CalAcc) :=
  b.mods.flatMap (fun m => b.planeList.filterMap (fun p =>
    (c.acc.find? (fun a => a.module = m.id ∧ a.plane = p)).map (fun a => (m, a))))

def ShadCal.defectDark (c : ShadCal) : Nat := bitsOf c.darkCfg 19 8

/-- The photosites over which the checks form means. -/
def ShadCal.checked (c : ShadCal) (m : Module) (a : CalAcc) : List Nat :=
  (List.range m.photosites).filter (fun j => m.picture j && decide ((a.off.getD j 0).natAbs ≤ c.defectDark))

/-- Step 4: OFFSET and DARK_REF, then DARK_LEAK or the white phase. -/
def Dev.calDarkEnd (d : Dev) (b : Bar) (c : ShadCal) : Dev :=
  let n := c.nLog
  let acc := c.acc.map (fun a => { a with off := a.sumC.map (fun x => clampI (roundShift x n) (-32768) 32767),
                                          darkRef := clampI (roundShift a.sumD n) 0 65535 })
  let c := { c with acc := acc, phase := 2, lines := 0 }
  let leak := (c.ordered b).find? (fun x =>
    match meanRound ((c.checked x.1 x.2).map (fun j => x.2.off.getD j 0)) with
    | some v => decide ((bitsOf c.darkCfg 31 20 : Int) < v)
    | none => false)
  match leak with
  | some x => (d.setCal c).calFail 8 x.1.id x.2.plane
  | none => d.setCal c

/-- WHITE_LOW, WHITE_HIGH or WHITE_SPREAD of one module and plane; 0 passes. -/
def ShadCal.whiteCode (c : ShadCal) (m : Module) (a : CalAcc) : Nat :=
  let js := c.checked m a
  let v (j : Nat) : Int := roundShift (a.sumV.getD j 0) c.nLog
  let far := (js.filter (fun j => decide ((bitsOf c.spread 31 16 : Int) < a.hi.getD j 0 - a.lo.getD j 0))).length
  let spread := if bitsOf c.spread 15 0 < far then 11 else 0
  match meanRound (js.map v) with
  | some x => if x < bitsOf c.white 15 0 then 9 else if (bitsOf c.white 31 16 : Int) < x then 10 else spread
  | none => spread

/-- The gain of a photosite (R173). -/
def Dev.calGain (d : Dev) (b : Bar) (c : ShadCal) (m : Module) (a : CalAcc) (j : Nat) : Nat :=
  let dead := decide (c.defectDark < (a.off.getD j 0).natAbs)
  if m.black j then (if dead then 0 else 16384)
  else
    let v := roundShift (a.sumV.getD j 0) c.nLog
    let g : Int := if v ≤ 0 then 0 else divFloor (2 * bitsOf c.cfg 15 0 * 16384 + v) (2 * v)
    let act := d.activeSet
    let kept := bitOf c.cfg 29 && d.setValid act && decide (d.shadeGain (b.wordAddr act a.plane m.id j) = 0)
    if (c.gainMax : Int) < g || dead || kept then 0 else g.toNat

/-- TILE_REF of a module and plane. -/
def ShadCal.tileRef (c : ShadCal) (m : Module) (a : CalAcc) (gain : List Nat) : Nat :=
  let js := (List.range m.photosites).filter (fun j => m.tile j && decide (gain.getD j 0 ≠ 0))
  match meanRound (js.map (fun j => min (divFloor (roundShift (a.sumV.getD j 0) c.nLog * gain.getD j 0 + 8192) 16384) 65535)) with
  | some x => x.toNat
  | none => 0

/-- Step 6: GAIN and TILE_REF, the white checks, then SHUTTER's return or the commit. -/
def Dev.calWhiteEnd (d : Dev) (b : Bar) (c : ShadCal) : Dev :=
  match (c.ordered b).find? (fun x => c.whiteCode x.1 x.2 ≠ 0) with
  | some x => d.calFail (c.whiteCode x.1 x.2) x.1.id x.2.plane
  | none =>
    let acc := (c.ordered b).map (fun x =>
      let g := (List.range x.1.photosites).map (fun j => if x.1.calibrated j then d.calGain b c x.1 x.2 j else 0)
      { x.2 with gain := g, tileRef := c.tileRef x.1 x.2 g })
    let fresh := sumN (acc.map (fun a => match b.mods[a.module]? with
      | none => 0
      | some m => ((List.range m.photosites).filter (fun j => m.calibrated j && !m.black j &&
          decide (a.gain.getD j 0 = 0) && decide (d.shadeGain (b.wordAddr d.activeSet a.plane m.id j) ≠ 0))).length))
    let move := bitOf c.cfg 31
    let d := d.setCal { c with acc := acc, activeAt6 := d.activeSet, defects := fresh, phase := if move then 3 else 4 }
    if move then { d with shd := { d.shd with shutter := some false } } else d

/-- A timer line of the procedure has left Gallery whole. -/
def Dev.calSetDone (d : Dev) (l : LineSet) : Dev :=
  match d.shd.cal, d.bar with
  | some c, some b =>
    if l.lead || l.grid.isSome || !decide (c.phase = 1 ∨ c.phase = 2) then d
    else if c.result ≠ 0 then d.calFail c.result 0 0
    else
      let c := { c with lines := c.lines + 1 }
      if c.lines < 2 + 2 ^ c.nLog then d.setCal c
      else if c.phase = 1 then d.calDarkEnd b c else (d.setCal c).calWhiteEnd b c
  | _, _ => d

/-- SHUTTER's move for the procedure ended: at its target, or stalled or aborted (R172). -/
def Dev.calShutter (d : Dev) (ok : Bool) : Dev :=
  match d.shd.cal with
  | none => d
  | some c =>
    if c.phase = 0 then (if ok then d.calDark else d.calFail 5 0 0)
    else if c.phase = 3 then (if ok then d.setCal { c with phase := 4 } else d.calFail 5 0 0)
    else d

/-! ## Commit (R175) -/

/-- The words of one module and plane. Photosites that the procedure's lines do not reach (survey photosites, which no main
sequence exposes, and unused ones) take free values (log 2). -/
def Dev.commitWords (d : Dev) (b : Bar) (s : Nat) (m : Module) (p : Nat) (a : Option CalAcc) : Dev :=
  (List.range m.photosites).foldl (fun d j =>
    let at' := b.wordAddr s p m.id j
    match a with
    | some a =>
      if m.calibrated j then (d.setMem at' 2 (unsigned 16 (a.off.getD j 0))).setMem (at' + 2) 2 (a.gain.getD j 0)
      else let x := d.freeNat 32; x.2.setMem at' 4 x.1
    | none => let x := d.freeNat 32; x.2.setMem at' 4 x.1) d

/-- TILE_REF and DARK_REF of one module and plane. -/
def Dev.commitRefs (d : Dev) (s m p : Nat) (a : Option CalAcc) : Dev :=
  let t := shadeHeader s + 128 + 2 * (4 * m + p)
  let k := shadeHeader s + 640 + 2 * (4 * m + p)
  match a with
  | some a => (d.setMem t 2 a.tileRef).setMem k 2 a.darkRef.toNat
  | none =>
    let x := d.freeNat 16
    let y := x.2.freeNat 16
    (y.2.setMem t 2 x.1).setMem k 2 y.1

/-- Write the new set into the shadow. -/
def Dev.commitSet (d : Dev) (b : Bar) (c : ShadCal) : Dev :=
  let s := d.shadowSet
  let d := (List.range 32).foldl (fun d i => d.setMem (shadeHeader s + 4 * i) 4 (c.tag.getD i 0)) d
  let d := b.mods.foldl (fun d m => b.planeList.foldl (fun d p =>
    let a := c.acc.find? (fun a => a.module = m.id ∧ a.plane = p)
    (d.commitWords b s m p a).commitRefs s m.id p a) d) d
  d.putValid s true

/-- Every M returns to 16,384. -/
def Dev.resetMul (d : Dev) : Dev :=
  let d := (List.range 256).foldl (fun d i => d.setF (F.SHD_MOD_GAIN.M (i / 4) (i % 4)) 16384) d
  { d with shd := { d.shd with mNext := [] } }.ledWearAll

/-- SHADING_COMMIT: with the shadow unlocked, the result is written; with DEST = 0 the new set becomes active. -/
def Dev.shadingCommit (d : Dev) : Dev :=
  match d.shd.cal, d.bar with
  | some c, some b =>
    if c.phase ≠ 4 ∨ d.holdsSet d.shadowSet then d
    else
      let d := d.commitSet b c
      let d := if bitOf c.cfg 30 then d.offerShadow else d.swap.resetMul
      (d.setF F.SHD_CAL_DEFECTS.NEW_DEFECTS c.defects).calReport { c with result := 0 }
  | _, _ => d

/-- ABORT of the CAL_RUN: 0 ended, 2 NOT_ABORTABLE (R175, R298). -/
def Dev.shadingAbort (d : Dev) : Dev × Nat :=
  match d.shd.cal with
  | none => (d, 1)
  | some c => if c.phase = 4 then (d, 2) else (d.calFail 0x0D 0 0, 0)

/-! ## Meanings -/

def execShadingFull (src : Src) (s : State) : Host.Outcome State Fault Refusal := s.lift (·.shadingFull src)

def execShadingCommit (s : State) : Host.Outcome State Fault Refusal := s.lift (·.shadingCommit)

end Sys2Proof.Machine
end

