-- ==== Sys2Proof/Machine/Gallery.lean ====
section
/-! DEFINITION. Gallery's control: segment jobs, replay, retirement, verification, reconstruction and the hand-off of plane
lines with everything that follows it (spec 05_gallery_pixel_pipeline.md R133-R136, R139, R142-R158; 06 R162, R177,
R178; 08 R215, R217, R229; 09 R235). -/

namespace Sys2Proof.Machine

/-! ## Slices (R133, R154 to R157) -/

/-- The slice that holds a role: 0 SEG0, 1 SEG1, 2 REPLAY. -/
def Dev.sliceOf (d : Dev) (role : Nat) : Option Nat := d.gal.roles.findIdx? (fun r => r = role)

/-- A job is being replayed. -/
def Dev.replaying (d : Dev) : Bool :=
  d.gal.lines.any (fun l => l.planes.any (fun p => decide (p.job0 = 2) || decide (p.job1 = 2)))

/-- Retire slice `s` of role `role`: the REPLAY slice takes the role at the next line boundary. -/
def Dev.retireSlice (d : Dev) (s role : Nat) : Dev :=
  let roles := d.gal.nextRoles.getD d.gal.roles
  if roles.getD s 3 = 3 then d
  else
    let next := roles.findIdx? (fun r => r = 2)
    let roles := roles.set s 3
    let roles : List Nat := match next with
      | some t => roles.set t role
      | none => roles
    let d := { d with gal := { d.gal with nextRoles := some roles } }.flag F.GAL_STATUS.SLICE_RETIRED
    let d := d.ledgerEvent ⟨4, 0, s, next.getD 0xFF, 3⟩
    if 2 ≤ (roles.filter (fun r => r = 3)).length then (d.setF F.GAL_STATUS.NO_SLICE 1).irq 4 else d

/-- Count a failed job of a slice among the last 4,096 line sets (R156). -/
def Dev.sliceFail (d : Dev) (role : Nat) : Dev :=
  match d.sliceOf role with
  | none => d
  | some s =>
    let now := d.gal.sets
    let fs := ((d.gal.fails.getD s []).filter (fun n => now < n + 4096)) ++ [now]
    let d := { d with gal := { d.gal with fails := d.gal.fails.set s fs } }
    if max 1 (d.f F.GAL_CTRL.RETIRE_LIMIT) ≤ fs.length then d.retireSlice s role else d

def PlaneRun.job (p : PlaneRun) (seg : Nat) : Nat := if seg = 0 then p.job0 else p.job1

def PlaneRun.setJob (p : PlaneRun) (seg st : Nat) : PlaneRun := if seg = 0 then { p with job0 := st } else { p with job1 := st }

/-- Change one plane line of a line set. -/
def Dev.mapPlane (d : Dev) (serial plane : Nat) (f : PlaneRun → PlaneRun) : Dev :=
  d.mapLine serial (fun l => { l with planes := l.planes.map (fun p => if p.plane = plane then f p else p) })

/-- The oldest line set of a row whose job of plane `p` and segment `seg` is in state `st`, its samples complete. -/
def Dev.jobLine (d : Dev) (lead : Bool) (p seg st : Nat) : Option LineSet :=
  d.gal.lines.find? (fun l => decide (l.lead = lead) && l.ended && !d.expects.any (fun e => e.serial = some l.serial) &&
    l.planes.any (fun x => decide (x.plane = p) && decide (x.job seg = st)))

/-! ## Stages 1 to 3 with reconstruction -/

def Dev.darkOf (d : Dev) (m p : Nat) : Option Int := (d.gal.dark.find? (fun x => x.module = m ∧ x.plane = p)).map (·.dq)

def Dev.putDark (d : Dev) (m p : Nat) (dq : Int) : Dev :=
  { d with gal := { d.gal with dark := d.gal.dark.filter (fun x => ¬ (x.module = m ∧ x.plane = p)) ++ [⟨m, p, dq⟩] } }

def Dev.prevOf (d : Dev) (m p : Nat) : Option (List Px) :=
  (d.gal.prev.find? (fun x => x.module = m ∧ x.plane = p)).map (·.px)

def Dev.putPrev (d : Dev) (m p : Nat) (px : List Px) : Dev :=
  { d with gal := { d.gal with prev := d.gal.prev.filter (fun x => ¬ (x.module = m ∧ x.plane = p)) ++ [⟨m, p, px⟩] } }

/-- Is the line before `l` held (R142)? -/
def Dev.holdsPrev (d : Dev) (l : LineSet) : Bool :=
  decide ((if l.lead then d.gal.prevLeadK else d.gal.prevK) = some (l.k - 1))

/-- One module's plane line: stages 1 to 3, then the taps that the line set rebuilds. -/
def Dev.stage3 (d : Dev) (b : Bar) (l : LineSet) (p : Nat) (ecc : List (Nat × Nat)) (m : Module) : Module × ModLine × List Px :=
  let r := d.modLine b l m p (d.darkOf m.id p) ecc
  let taps := l.reconTaps m.id
  let px := if taps.isEmpty then r.px
    else rebuildTaps m taps r.px (if d.holdsPrev l then d.prevOf m.id p else none)
      ((l.after.find? (fun x => x.module = m.id ∧ x.plane = p)).map (·.px))
  (m, r, px)

def Bar.row (b : Bar) (lead : Bool) : List Module := b.mods.filter (fun m => m.isLead = lead)

/-- Before the first plane line after an arming or disarming: dark states, kept values and history go. -/
def Dev.freshen (d : Dev) (b : Bar) (l : LineSet) : Dev :=
  if !l.fresh || decide (l.handed ≠ 0) then d
  else
    let other (n : Nat) : Bool := (b.row (!l.lead)).any (fun m => m.id = n)
    let d := { d with gal := { d.gal with dark := d.gal.dark.filter (fun x => other x.module), prev := d.gal.prev.filter (fun x => other x.module) } }
    if l.lead then { d with gal := { d.gal with prevLeadK := none } }
    else { d with gal := { d.gal with prevK := none } }.clearHist

/-- Keep dark states and stage 3 values of a plane line; drift is reported (R139, R142, R177). -/
def Dev.keepRow (d : Dev) (l : LineSet) (p : Nat) (rows : List (Module × ModLine × List Px)) : Dev :=
  rows.foldl (fun d x =>
    let d := (d.putDark x.1.id p x.2.1.dq).putPrev x.1.id p x.2.2
    if d.setValid l.set && decide ((d.f F.SHD_DRIFT.DARK_DRIFT_LIMIT : Int) < (x.2.1.dark - (d.darkRef l.set x.1.id p : Int)).natAbs) then
      ((d.setF F.SHD_STATUS.DRIFT_MODULE x.1.id).setF F.SHD_STATUS.DRIFT_PLANE p).flag F.SHD_STATUS.DARK_DRIFT
    else d) d

/-- Tracking lines of the row's modules (R178). -/
def Dev.trackRow (d : Dev) (b : Bar) (l : LineSet) (p : Nat) (ecc : List (Nat × Nat)) (rows : List (Module × ModLine × List Px)) : Dev :=
  if !d.on F.SHD_CTRL.TRACK_EN || decide (d.mode ≠ .run) || !d.armed then d
  else rows.foldl (fun d x =>
    let m := x.1
    let ref := d.tileRef l.set m.id p
    if decide (d.f (F.SHD_TRACK_SRC.MODE m.id) ≠ 0) || decide (ref = 0) then d
    else
      let ts := (List.range m.photosites).filterMap (fun j =>
        let v := x.2.2.getD j ⟨0, 6, false, false⟩
        if m.tile j && decide (v.r = 0) && !ecc.contains (m.id, j) && decide (d.shadeGain (b.wordAddr l.set p m.id j) ≠ 0) then
          some (v.v : Int) else none)
      match meanRound ts with
      | some t => d.trackLine m.id p t.toNat ref (mulOf l.gains m.id p)
      | none => d) d

/-- Stage 4 rows as Survey reads them. -/
def Dev.stage4Rows (d : Dev) (b : Bar) (l : LineSet) (p : Nat) (ecc : List (Nat × Nat)) (lost : Nat → Bool)
    (rows : List (Module × ModLine × List Px)) : List Kept :=
  rows.map (fun x =>
    let px := d.stage4 b l x.1 p x.2.2 ecc
    ⟨x.1.id, p, if lost x.1.id then px.map (fun q => { q with v := 0, r := 7 }) else px⟩)

/-! ## Stages 5 and 6 -/

/-- Modules whose segment's job was lost (R155): those that no good job processed. -/
def Bar.lostModule (b : Bar) (pr : PlaneRun) (m : Nat) : Bool :=
  match b.mods[m]? with
  | none => false
  | some x => match b.segmentOf x with
    | some s => decide (4 ≤ pr.job s)
    | none => decide (4 ≤ pr.job0) && decide (4 ≤ pr.job1)

/-- C_g: pixels that a group's IMAGE modules cover. -/
def Bar.groupCover (b : Bar) (l : LineSet) (g : Nat) : Nat :=
  sumN ((List.range b.images.length).map (fun i => match b.images[i]? with
    | some m => if m.group ≠ g then 0 else match coverSpan m (b.place m (l.adjOf i)) with
      | some s => (s.2 - s.1 + 1).toNat
      | none => 0
    | none => 0))

/-- The module whose history holds a group's cells: the group's one with the longest delay. -/
def Bar.cellModule (b : Bar) (g pitch : Nat) : Option Nat :=
  ((b.images.filter (fun m => m.group = g)).foldl (fun (best : Option Module) m => match best with
    | none => some m
    | some x => if b.nDelay x pitch < b.nDelay m pitch then some m else some x) none).map (·.id)

/-- Give back what history entries leave behind; keep the rest. -/
def Dev.dropHist (d : Dev) (b : Bar) (gone : Placed → Bool) : Dev :=
  let d := (d.gal.hist.filter gone).foldl (fun d h => match b.mods[h.module]? with
    | some m => if h.cells = 0 then d else d.setGroupUse m.group (d.groupUse m.group - h.cells)
    | none => d) d
  { d with gal := { d.gal with hist := d.gal.hist.filter (fun h => !gone h) } }

/-- Place a plane line of every IMAGE module and enter it into the history, group by group (R136, R143, R146). -/
def Dev.placeLine (d : Dev) (b : Bar) (l : LineSet) (pr : PlaneRun) (rows4 : List Kept) : Dev :=
  let d := (List.range b.images.length).foldl (fun d i => match b.images[i]? with
    | none => d
    | some m =>
      let last := (d.gal.hist.filter (fun h => h.module = m.id ∧ h.plane = pr.plane)).getLast?
      let broken := match last with
        | some h => decide (h.k ≠ l.k - 1)
        | none => false
      d.dropHist b (fun h => decide (h.module = m.id) && decide (h.plane = pr.plane) &&
        (broken || decide (h.k < l.k - b.nDelay m d.pitch - 2)))) d
  (List.range 8).foldl (fun d g =>
    if !b.images.any (fun m => m.group = g) then d
    else
      let n := ceilDiv (2 * b.groupCover l g) 4096
      let ok := d.groupGrants g n
      let d := if ok then d.setGroupUse g (d.groupUse g + n) else d
      (List.range b.images.length).foldl (fun d i => match b.images[i]? with
        | none => d
        | some m =>
          if m.group ≠ g then d
          else
            let px := match rows4.find? (fun r => r.module = m.id) with
              | some r => r.px
              | none => []
            let pl := b.place m (l.adjOf i)
            let out := (List.range b.width).map (fun i => (placePx m pl px i).map (fun v => if ok then v else { v with v := 0, r := 9 }))
            let cells := if ok && decide (b.cellModule g d.pitch = some m.id) then n else 0
            { d with gal := { d.gal with hist := d.gal.hist ++ [⟨m.id, pr.plane, l.k, pr.pos, out, cells⟩] } }) d) d

/-- The stitched plane line (R145 to R148, R155). -/
def Dev.stitchLine (d : Dev) (b : Bar) (l : LineSet) (pr : PlaneRun) : List OutPx :=
  let rows := b.images.map (fun m =>
    let h := d.gal.hist.filter (fun x => x.module = m.id ∧ x.plane = pr.plane)
    let a := alignModule h l.k (b.nDelay m d.pitch) (l.grid.map (fun g => g - b.delta m))
    let own := match h.find? (fun x => x.k = l.k) with
      | some x => x.px
      | none => []
    (⟨a.1, a.2, own.map (fun o => match o with | some x => x.filled | none => false)⟩ : Aligned))
  let out := stitch b.width l.fade rows
  let split := b.iSplit l
  let one := decide (b.images.length ≤ 1)
  (List.range out.length).map (fun i =>
    let x := out.getD i ⟨0, 8, false, false⟩
    if 4 ≤ pr.job (if one || decide (i < split) then 0 else 1) then { x with v := 0, r := 7 } else x)

/-! ## Hand-off (R151, R152) -/

/-- The first main-row line set with its next plane line ready: samples and jobs complete, channel checks past,
reconstruction complete. -/
def Dev.handReady (d : Dev) : Option (LineSet × PlaneRun) :=
  match d.gal.lines.find? (fun l => !l.lead) with
  | none => none
  | some l =>
    let fin (s : Nat) : Bool := decide (s = 1 ∨ 3 ≤ s)
    match l.planes[l.handed]? with
    | none => none
    | some p =>
      if l.ended && l.checked && fin p.job0 && fin p.job1 && (l.recon.isEmpty || l.reconDone) &&
          !d.expects.any (fun e => e.serial = some l.serial) then some (l, p) else none

/-- A line set leaves Gallery: its raw samples stay for the line after it (R136). -/
def Dev.leaveGallery (d : Dev) (l : LineSet) : Dev :=
  let d := { d with gal := { d.gal with lines := d.gal.lines.filter (fun x => x.serial ≠ l.serial), done := d.gal.done ++ [l] } }
  if l.lead then { d with gal := { d.gal with prevLeadK := some l.k } }.refreshLock
  else { d with gal := { d.gal with prevK := some l.k } }.refreshLock

/-- HAND_OFF of the next plane line. `late`: more than t_seq after H; `ecc`: photosites whose shading word shows an
uncorrectable error. -/
def Dev.handOff (d : Dev) (late : Bool) (ecc : List (Nat × Nat)) : Dev :=
  match d.bar, d.handReady with
  | some b, some (l, pr) =>
    let p := pr.plane
    let pr := { pr with late := pr.late || late }
    let d := (if pr.late then (d.count F.GAL_COUNT.LATE_CNT 1).flag F.GAL_STATUS.LATE_SEEN else d).freshen b l
    let rows := (b.row false).map (d.stage3 b l p ecc)
    let d := d.calLine l p (rows.map (fun x => (x.1, x.2.1)))
    let d := (d.keepRow l p rows).trackRow b l p ecc rows
    let rows4 := d.stage4Rows b l p ecc (b.lostModule pr) (rows.filter (fun x => x.1.isImage))
    let d := if l.grid.isSome && decide (p = d.f F.SUR_CTRL.SURVEY_PLANE) then d.surveyMain l.k pr.pos pr.time rows4 else d
    let d := d.placeLine b l pr rows4
    let out := d.stitchLine b l pr
    let d := (d.deliver l pr out (b.alignRange d.pitch)).strataReduce l p out
    let l := { l with handed := l.handed + 1 }
    let d := d.mapLine l.serial (fun _ => l)
    if l.handed < l.planes.length then d
    else (((d.strataCaptured b l).leaveGallery l).calSetDone l).checkStops
  | _, _ => d

/-- A LEAD line whose job and reconstruction are complete goes to Survey after stage 4 (R217). -/
def Dev.leadOff (d : Dev) (ecc : List (Nat × Nat)) : Dev :=
  match d.bar, d.gal.lines.find? (fun l => l.lead) with
  | some b, some l =>
    match l.planes.head? with
    | none => d
    | some pr =>
      if l.ended && decide (pr.job0 = 1 ∨ 3 ≤ pr.job0) && (l.recon.isEmpty || l.reconDone) &&
          !d.expects.any (fun e => e.serial = some l.serial) then
        let d := d.freshen b l
        let rows := (b.row true).map (d.stage3 b l pr.plane ecc)
        let d := (d.keepRow l pr.plane rows).trackRow b l pr.plane ecc rows
        let rows4 := d.stage4Rows b l pr.plane ecc (fun _ => decide (4 ≤ pr.job0)) rows
        let d := match l.grid with
          | some g => d.surveyLead g pr.pos rows4
          | none => d
        d.leaveGallery l
      else d
  | _, _ => d

/-! ## Jobs -/

/-- SEGMENT_JOB_DONE: a good job, or a failed one that the REPLAY slice takes or that is lost. -/
def Dev.segmentJob (d : Dev) (lead : Bool) (p seg : Nat) (fail : Bool) : Dev :=
  match d.jobLine lead p seg 0, d.bar with
  | some l, some b =>
    let d := if !fail then d.mapPlane l.serial p (·.setJob seg 1)
      else
        let slow := decide (d.f F.LTN_TSEQ.DURATION < b.tRep) || d.replaying
        let d := d.flag F.GAL_STATUS.CHECK_FAIL
        let d := if (d.sliceOf 2).isSome then
            (d.count F.GAL_COUNT.REPLAY_CNT 1).mapPlane l.serial p (fun x => { x.setJob seg 2 with late := x.late || slow })
          else d.mapPlane l.serial p (·.setJob seg 4)
        d.sliceFail seg
    if lead then d.leadOff [] else d
  | _, _ => d

/-- REPLAY_DONE: the replay's output joins the plane line, or fails too (R155). -/
def Dev.replayDone (d : Dev) (lead : Bool) (p seg : Nat) (fail : Bool) : Dev :=
  match d.jobLine lead p seg 2 with
  | some l =>
    let d := d.mapPlane l.serial p (·.setJob seg (if fail then 5 else 3))
    if lead then d.leadOff [] else d
  | none => d

/-- VERIFICATION: the idle REPLAY slice recomputes a job, once in VERIFY_INTERVAL line sets (R157). -/
def Dev.verification (d : Dev) (mismatch : Bool) : Dev :=
  let n := d.f F.GAL_CTRL.VERIFY_INTERVAL
  if n = 0 ∨ d.gal.verifyCount < n ∨ (d.sliceOf 2).isNone ∨ d.replaying then d
  else
    { d with gal := { d.gal with verifyCount := 0, verifySeg := 1 - d.gal.verifySeg } }.flagIf mismatch
      F.GAL_STATUS.VERIFY_MISMATCH

/-! ## Reconstruction (R142) -/

/-- The oldest line set of a row that waits for its reconstruction. -/
def Dev.reconLine (d : Dev) (lead : Bool) : Option LineSet :=
  d.gal.lines.find? (fun l => decide (l.lead = lead) && !l.recon.isEmpty && !l.reconDone)

/-- RECON_WAIT: line k + 1 has not been triggered within RECON_WAIT of the end of line k's sequence. -/
def Dev.reconWait (d : Dev) (lead : Bool) : Dev := d.reconFallback lead none

/-- The line after `l`, triggered. -/
def Dev.lineAfter (d : Dev) (l : LineSet) : Option LineSet :=
  d.gal.lines.find? (fun x => decide (x.lead = l.lead) && decide (x.k = l.k + 1) && decide (l.serial < x.serial))

/-- Stage 3 values of the line after `l` in the modules that `l` rebuilds, from its own state. -/
def Dev.afterRows (d : Dev) (b : Bar) (l n : LineSet) : List Kept :=
  (b.row l.lead).flatMap (fun m =>
    if (l.reconTaps m.id).isEmpty then []
    else l.planes.map (fun p =>
      let mine := d.modLine b l m p.plane (if l.fresh && decide (l.handed = 0) then none else d.darkOf m.id p.plane) []
      ⟨m.id, p.plane, (d.modLine b n m p.plane (some mine.dq) []).px⟩))

/-- RECONSTRUCTION_DONE: with line k + 1 read, or ruled out, the line set is rebuilt and handed off. -/
def Dev.reconstruction (d : Dev) (lead late : Bool) (ecc : List (Nat × Nat)) : Dev :=
  match d.reconLine lead, d.bar with
  | some l, some b =>
    let done := match d.lineAfter l with
      | some n => if n.ended && !d.expects.any (fun e => e.serial = some n.serial) then some (d.afterRows b l n) else none
      | none => if l.fallback then some [] else none
    match done with
    | none => d
    | some rows =>
      let d := d.mapLine l.serial (fun l => { l with after := rows, reconDone := true })
      if lead then d.leadOff ecc
      else (List.range l.planes.length).foldl (fun d _ =>
        match d.handReady with
        | some (x, _) => if x.serial = l.serial then d.handOff late ecc else d
        | none => d) d
  | _, _ => d

/-! ## Meanings -/

def execSegmentJobDone (lead : Bool) (plane : Fin 4) (seg : Fin 2) (fail : Bool) (s : State) :
    Host.Outcome State Fault Refusal := s.lift (·.segmentJob lead plane seg fail)

def execReplayDone (lead : Bool) (plane : Fin 4) (seg : Fin 2) (fail : Bool) (s : State) :
    Host.Outcome State Fault Refusal := s.lift (·.replayDone lead plane seg fail)

def execVerification (mismatch : Bool) (s : State) : Host.Outcome State Fault Refusal := s.lift (·.verification mismatch)

def execHandOff (late : Bool) (ecc : List (Nat × Nat)) (s : State) : Host.Outcome State Fault Refusal :=
  s.lift (·.handOff late ecc)

def execReconWait (lead : Bool) (s : State) : Host.Outcome State Fault Refusal := s.lift (·.reconWait lead)

def execReconstructionDone (lead late : Bool) (ecc : List (Nat × Nat)) (s : State) : Host.Outcome State Fault Refusal :=
  s.lift (·.reconstruction lead late ecc)

end Sys2Proof.Machine
end

