-- ==== Sys2Proof/Machine/TimeBases.lean ====
section
/-! DEFINITION. The correction law, references of HOST and NET, AXIS, Cairn's ticks and settings, event stamps (spec
17_time_cairn_and_tether.md R416-R425, R444). -/

namespace Sys2Proof.Machine

/-! ## Steps and late actions (R427) -/

/-- The value of base 0 to 3, or 4 for Cairn in its decimal format (R10, R11). -/
def Dev.slotBase (d : Dev) (b : Nat) : Nat :=
  if b = 4 then d.cairn.1 * 2 ^ 32 + d.cairn.2 else d.baseVal b

/-- After a step of base `b`, pending actions it carried to or past TIME are late. -/
def Dev.stepSlots (d : Dev) (b : Nat) : Dev :=
  let now := d.slotBase b
  { d with slots := d.slots.map (fun s => if s.2.base = b ∧ s.2.time ≤ now then (s.1, { s.2 with late := true }) else s) }

/-! ## The correction law (R416-R418) -/

def Dev.disc (d : Dev) (b : Nat) : Base := if b = 1 then d.time.net else d.time.host

def Dev.setDisc (d : Dev) (b : Nat) (x : Base) : Dev :=
  if b = 1 then { d with time := { d.time with net := x } } else { d with time := { d.time with host := x } }

/-- freq and slew after a measurement θ. -/
def correct (freq theta : Int) (iShift pShift : Nat) : Int × Int :=
  (clampI (freq + divFloor (theta * 65536) (2 ^ iShift)) (-rateMax) rateMax,
   clampI (divFloor (theta * 65536) (2 ^ pShift)) (-28147497671) 28147497671)

/-- One measurement of NET (1) or HOST (2). -/
def Dev.measureBase (d : Dev) (b : Nat) (theta : Int) : Dev :=
  let x := d.disc b
  let d := d.setFI (F.TIM_BASE_OFS.VALUE b) (clampI theta (-2147483648) 2147483647)
  if d.on (F.TIM_BASE_CTRL.STEP_ARMED b) then
    let d := d.setDisc b ⟨unsigned 112 ((x.count : Int) + theta * 2 ^ 48), 0, 0, 0⟩
    ((d.setF (F.TIM_BASE_CTRL.STEP_ARMED b) 0).setF (F.TIM_BASE_CTRL.STATE b) 1).stepSlots b
  else
    let held := decide (d.baseState b = 3)
    let st := if held then 1 else d.baseState b
    let g := if held then 0 else x.good
    let c := correct x.freq theta (d.f (F.TIM_BASE_CTRL.I_SHIFT b)) (d.f (F.TIM_BASE_CTRL.P_SHIFT b))
    let near := decide (theta.natAbs ≤ d.f (F.TIM_BASE_CTRL.LOCK_THR b))
    let g := if near then min (g + 1) 255 else 0
    let st := if !near && decide (st = 2) then 1 else st
    let st := if 8 ≤ g then 2 else st
    (d.setDisc b { x with freq := c.1, slew := c.2, good := g }).setF (F.TIM_BASE_CTRL.STATE b) st

def thetaOf (reference base : Nat) : Int := signed 64 (unsigned 64 ((reference : Int) - base))

/-- Does NET of this device run free (R420)? -/
def Dev.netFree (d : Dev) : Bool := d.timingMaster && decide (d.f F.TIM_CFG.NET_SRC = 0)

/-- A reference event of NET or HOST. -/
def Dev.referenceMeasurement (d : Dev) (host : Bool) (theta : Int) : Dev :=
  if !d.alive || (!host && d.netFree) then d else d.measureBase (if host then 2 else 1) theta

/-- No measurement for 8 reference intervals (R418). -/
def Dev.holdover (d : Dev) (host : Bool) : Dev :=
  let b := if host then 2 else 1
  if !d.alive || (!host && d.netFree) || !decide (d.baseState b = 1 ∨ d.baseState b = 2) then d
  else (d.setDisc b { d.disc b with slew := 0 }).setF (F.TIM_BASE_CTRL.STATE b) 3

/-- A PTM dialog; `ns` is the PTM Master Time at the device's receipt, none when no response came (R419, R420). -/
def Dev.ptmDialog (d : Dev) (ns : Option Nat) : Dev :=
  if !d.alive || !d.link.ptm || !d.canIssue then d
  else
    match ns with
    | none => d
    | some n =>
      let d := d.measureBase 2 (thetaOf (decToBin (n / 1000000000) (n % 1000000000)) (d.baseVal 2))
      if d.timingMaster && decide (d.f F.TIM_CFG.NET_SRC = 1) && decide (d.baseState 2 = 2) then
        d.measureBase 1 (thetaOf (d.baseVal 2) (d.baseVal 1))
      else d

/-- Stamp event `e` of R444 in EDGE_BASE. -/
def Dev.eventStamp (d : Dev) (e : Nat) : Dev :=
  let b := d.f F.TIM_CFG.EDGE_BASE
  let d := (d.set64 (R.TIM_EVT_TIME_LO e) (R.TIM_EVT_TIME_HI e) (d.stampVal b)).stamped b 1
  (d.setF ⟨R.TIM_EVT_STATUS, e, e⟩ 1).irq (intBitOf R.TIM_EVT_STATUS)

/-- A rising edge of PPS_IN (R420). -/
def Dev.ppsEdge (d : Dev) : Dev :=
  if !d.alive then d
  else
    let d := d.eventStamp 8
    if d.timingMaster && decide (d.f F.TIM_CFG.NET_SRC = 2) then
      let v := d.baseVal 1
      let reference := if d.on (F.TIM_BASE_CTRL.STEP_ARMED 1) then d.f F.TIM_NET_SET_HI.VALUE * 2 ^ 32
        else (v + 2 ^ 31) / 2 ^ 32 * 2 ^ 32
      d.measureBase 1 (thetaOf reference v)
    else d

def Dev.rearm (d : Dev) (b : Nat) : Dev := d.setF (F.TIM_BASE_CTRL.STEP_ARMED b) 1

/-- SET_GO of NET: only a FREE timing master takes it (R420). -/
def Dev.netSetGo (d : Dev) : Dev :=
  if !d.netFree then d
  else (d.setDisc 1 { d.time.net with count := d.r64 R.TIM_NET_SET_LO R.TIM_NET_SET_HI * 2 ^ 48 }).stepSlots 1

/-- STATE of NET when the device becomes or ceases to be timing master, or NET_SRC changes (R420). -/
def Dev.netRole (d : Dev) (was : Bool) : Dev :=
  if d.netFree then d.setF (F.TIM_BASE_CTRL.STATE 1) 2
  else if was then
    (d.setDisc 1 { d.time.net with good := 0 }).setF (F.TIM_BASE_CTRL.STATE 1)
      (if d.on (F.TIM_BASE_CTRL.STEP_ARMED 1) then 0 else 1)
  else d

/-! ## AXIS (R421, R422) -/

def Dev.formed (d : Dev) : Bool := d.inStation && d.on F.TET_STATUS.FORMED

/-- NET in nanoseconds since its epoch. -/
def Dev.netNs (d : Dev) : Nat := let t := binToDec (d.baseVal 1); t.1 * 1000000000 + t.2

/-- May AXIS lock: FORMED, at the feed master's SERVO_PERIOD. -/
def Dev.axisLocks (d : Dev) : Bool :=
  d.formed && (match d.tet.masterPeriod with | some p => decide (p = d.servoPeriod) | none => true)

/-- A servo period starts: P counts, and AXIS tracks NET by one SERVO clock at most once per 2,000. -/
def Dev.axisPeriod (d : Dev) : Dev :=
  let t := d.time
  let tns := d.servoPeriod * 10
  let since := min 4000 (t.axSince + d.servoPeriod)
  let d := { d with time := { t with axP := t.axNext.getD (t.axP + 1), axNext := none, axSub := 0, axLen := 0, axSince := since } }
  if !d.axisLocks then { d with time := { d.time with axGood := 0 } }.setF (F.TIM_BASE_CTRL.STATE 3) 0
  else if d.baseState 3 = 0 then d
  else
    let r : Int := (d.netNs % tns : Nat)
    let dev := if 2 * r ≤ tns then r else r - tns
    let good := if dev.natAbs < 20 then min (d.time.axGood + 1) 64 else 0
    let d := { d with time := { d.time with axGood := good } }
    let d := d.setF (F.TIM_BASE_CTRL.STATE 3) (if 64 ≤ good then 2 else if good = 0 then 1 else d.baseState 3)
    let d := d.setFI (F.TIM_BASE_OFS.VALUE 3) (divFloor (dev * 2 ^ 32 + 500000000) 1000000000)
    if 10 ≤ dev.natAbs ∧ 2000 ≤ since then { d with time := { d.time with axLen := -dev.sign, axSince := 0 } } else d

/-- The one step of AXIS: the present period is lengthened so that the next starts at a multiple of T_ns (R422). -/
def Dev.axisStep (d : Dev) : Dev :=
  if !d.axisLocks || !d.on (F.TIM_BASE_CTRL.STEP_ARMED 3) then d
  else
    let tns := d.servoPeriod * 10
    let next := d.netNs + (tns - min tns (10 * (d.time.axSub / 4)))
    let k := (next + tns - 1) / tns
    let d := { d with time := { d.time with axNext := some k, axLen := ((k * tns - next) / 10 : Nat), axGood := 0 } }
    ((d.setF (F.TIM_BASE_CTRL.STEP_ARMED 3) 0).setF (F.TIM_BASE_CTRL.STATE 3) 1)

/-! ## Cairn (R425) -/

def Dev.cairnTick (d : Dev) : Dev :=
  let t := d.time
  let f : Int := (t.crnFrac : Int) + 37 + d.fi F.CRN_CTRL.TRIM
  let ns := ((t.crnNs : Int) + 30517 + divFloor f 64).toNat
  let carry := decide (1000000000 ≤ ns)
  { d with time := { t with
      crnFrac := (f % 64).toNat, crnSub := 0, crnNs := if carry then ns - 1000000000 else ns
      crnSec := if carry then (t.crnSec + 1) % 2 ^ 32 else t.crnSec } }

/-- Cairn takes a new value: the fraction accumulator clears, and it is a step for the late rule. -/
def Dev.cairnLoad (d : Dev) (sec ns : Nat) : Dev :=
  { d with time := { d.time with crnSec := sec % 2 ^ 32, crnNs := ns, crnFrac := 0, crnSub := 0 } }.stepSlots 4

def Dev.cairnSetGo (d : Dev) : Dev := d.cairnLoad (d.f F.CRN_SET_HI.VALUE) (bitsOf (d.f F.CRN_SET_LO.VALUE) 29 0)

/-- COPY: 1 NET, 2 HOST. -/
def Dev.cairnCopy (d : Dev) (src : Nat) : Dev :=
  if src = 1 ∨ src = 2 then let t := binToDec (d.baseVal src); d.cairnLoad t.1 t.2 else d

/-- PPS_OUT marks a whole second of PPS_BASE for PPS_W ms. -/
def Dev.ppsOut (d : Dev) : Dev :=
  if !d.alive then d else d.emit (.pin "PPS_OUT" 0 (max 1 (d.f F.TIM_CFG.PPS_W)))

/-! ## Meanings -/

def execReferenceMeasurement (host : Bool) (theta : BitVec 64) (s : State) : Host.Outcome State Fault Refusal :=
  s.lift (·.referenceMeasurement host theta.toInt)

def execHoldover (host : Bool) (s : State) : Host.Outcome State Fault Refusal := s.lift (·.holdover host)

def execPtmDialog (ns : Option Nat) (s : State) : Host.Outcome State Fault Refusal := s.lift (·.ptmDialog ns)

def execPpsEdge (s : State) : Host.Outcome State Fault Refusal := s.lift (·.ppsEdge)

def execRearm (b : Fin 4) (s : State) : Host.Outcome State Fault Refusal :=
  s.lift (fun d => if d.awake then d.rearm b else d)

def execNetSetGo (s : State) : Host.Outcome State Fault Refusal := s.lift (fun d => if d.awake then d.netSetGo else d)

def execCairnTick (s : State) : Host.Outcome State Fault Refusal := s.lift (·.cairnTick)

def execCairnSetGo (s : State) : Host.Outcome State Fault Refusal :=
  s.lift (fun d => if d.awake then d.cairnSetGo else d)

def execCairnCopy (src : Fin 4) (s : State) : Host.Outcome State Fault Refusal :=
  s.lift (fun d => if d.awake then d.cairnCopy src else d)

def execPpsOut (s : State) : Host.Outcome State Fault Refusal := s.lift (·.ppsOut)

end Sys2Proof.Machine
end

