-- ==== Sys2Proof/Machine/Loads.lean ====
section
/-! DEFINITION. Table loads: acceptance of a bar record, the images of shading, contexts and Flowstone, and how a Haul
program ends (spec 02_sensor_bar_and_modules.md R69-R73; 06 R182-R184; 09 R253; 10 R257; 13 R336, R339-R341). -/

namespace Sys2Proof.Machine

/-! ## The bar record (R70, R71, R79) -/

/-- MODE of the channel that serves a tap; a new mode returns its range codes to 0 (R79). -/
def Dev.takeMode (d : Dev) (g t mode : Nat) : Dev :=
  match d.serving g t with
  | none => d
  | some c =>
    if d.f (F.AFE_CH_CTRL.MODE g c) = mode then d
    else ((d.setF (F.AFE_CH_CTRL.MODE g c) mode).setReg (R.AFE_CH_RANGE g c) 0).setReg (R.AFE_CH_RANGE_ACT g c) 0

/-- Factors of the group PLLs (R39). -/
def Dev.takePll (d : Dev) (b : Bar) (g : Nat) : Dev :=
  let pair := match b.genA g with
    | m :: _ => (pllPair m.rate).getD (0, 0)
    | [] => (0, 0)
  (d.setF (F.GRP_PLL_STATUS.PLL_MUL g) pair.1).setF (F.GRP_PLL_STATUS.PLL_DIV g) pair.2

/-- PAD_MODE of every data pad: 1 Gen C, 2 Gen B, 0 unused. -/
def Dev.takePads (d : Dev) (b : Bar) (g : Nat) : Dev :=
  ((List.range 4).foldl (fun d n =>
    d.setF (F.LNE_PAD.PAD_MODE g n) (match b.padOf g n with | some m => (if m.1.gen = 3 then 1 else 2) | none => 0)) d).showLanes g

/-- Put a record in force. -/
def Dev.acceptBar (d : Dev) (raw : List Byte) : Dev :=
  let changed := geometryChanged d.bar raw
  let b := parseBar raw
  let d := { d with bar := some b, expects := [], misses := [] }
  let d := (((d.setF F.TOP_BAR_STATUS.LOADED 1).setF F.TOP_BAR_STATUS.MODULES b.mods.length).setF F.TOP_BAR_STATUS.RESULT 0).setF
    ⟨R.TOP_BAR_STATUS, 22, 16⟩ 0
  let d := (List.range 8).foldl (fun d g => (d.takePll b g).takePads b g) d
  let d := b.mods.foldl (fun d m =>
    if m.gen ≠ 1 then d else (List.range m.taps).foldl (fun d k => d.takeMode m.group (m.map.getD k 0) m.mode) d) d
  let d := ((d.setF F.GAL_TREP.TREP b.tRep).reschedule).showAlign
  if changed then ((d.putValid 0 false).putValid 1 false).flag F.TOP_BAR_STATUS.GEOMETRY_CHANGED else d

/-- A load that failed: code and failing module (R73). -/
def Dev.barFailed (d : Dev) (code : Nat) (m : Option Nat) : Dev :=
  ((d.setF F.TOP_BAR_STATUS.RESULT code).setB F.TOP_BAR_STATUS.FAIL_IN_HEADER m.isNone).setF F.TOP_BAR_STATUS.FAIL_MODULE (m.getD 0)

/-! ## Ends of loads -/

/-- What a load's completion carries. -/
structure LoadEnd where
  code : Nat
  info : Nat
  moved : Nat
  aborted : Bool := false
  deriving DecidableEq, Repr

/-- The end of an aborted load: ABORTED of Table 6.5; Table 2.6 has no code for it. -/
def loadAborted : LoadEnd := ⟨11, 0, 0, true⟩

def LoadEnd.res (e : LoadEnd) (table : Nat) : CmdRes :=
  if e.aborted && decide (table = 1) then stAborted else { stResult e.code with info := e.info, c := e.moved }

/-- Named entries left all zeros after a failure (R257). -/
def Dev.zeroEntries (d : Dev) (first count : Nat) : Dev :=
  (List.range count).foldl (fun d i =>
    if first + i < 4096 ∧ (d.ctx (first + i)).state = 0 then d.clearRange (ctxEntry (first + i)) 64 else d) d

/-- Finish a load: the result registers and the completion. -/
def Dev.endLoad (d : Dev) (l : Load) (img : List Byte) (e : LoadEnd) : Dev :=
  let d := if l.table = 2 then
      let d := ((d.setF F.SHD_LOAD_STATUS.RESULT e.code).setF F.SHD_LOAD_STATUS.FAIL_OFFSET (if e.code = 9 then e.info else 0)).setF
        F.SHD_CTRL.LOAD_BUSY 0
      if e.code = 0 then
        let d := d.putValid d.shadowSet true
        let d := if l.swap then d.setF F.SHD_CTRL.SWAP_REQ 1 else d
        d.offerShadow
      else d
    else if l.table = 3 ∧ 4 ≤ e.code ∧ img ≠ [] then d.zeroEntries (bufNat img 8 2) (bufNat img 10 2)
    else if l.table = 4 ∧ e.code = 0 then
      { d with flw := { d.flw with writes := d.flw.writes ++ (List.range 1024).map (fun i => (i, bufNat img (64 + 4 * i) 4)) } }
    else d
  d.finish l.run (e.res l.table)

/-! ## How a program ends (R336, R339-R341) -/

/-- What a program's end latches: code, address with its space in bit 4, residue, cause, direction. -/
structure ProgEnd where
  code : Nat
  addr : Nat
  space : Nat
  residue : Nat
  cause : Nat := 0
  dir : Nat := 0
  deriving DecidableEq, Repr

/-- The status block of Table 13.4. -/
def statusBlock (r : HaulRun) (e : ProgEnd) : List Nat :=
  [e.code * 2 ^ 24 + e.cause * 2 ^ 20 + e.dir * 2 ^ 19 + e.space * 2 ^ 18 + r.ch, e.residue % 2 ^ 32, e.addr % 2 ^ 32, e.addr / 2 ^ 32,
    r.executed, r.cmpCnt, r.cmpAddr.getD 0 % 2 ^ 32, r.cmpAddr.getD 0 / 2 ^ 32]

def littleWords (ws : List Nat) : List Byte := ws.flatMap (leBytes 4)

/-- A pulse of an event line with the effects of Table 13.2: SHD_SWAP, STR_HOLD, STR_RELEASE and Cairn's event
inputs. -/
def Dev.linePulse (d : Dev) (line : Nat) : Dev :=
  let d := d.haulEvent line
  let d := if 3 ≤ line ∧ line ≤ 6 then d.eventStamp (line + 1) else d
  if line = 0 then d.setF F.SHD_CTRL.SWAP_REQ 1
  else if line = 1 then d.strHold
  else if line = 2 then d.strRelease
  else d

/-- The running program ends; its channel's registers latch, the status block and the interrupt follow. -/
def Dev.endProgram (d : Dev) (e : ProgEnd) (pulse : Dev → Nat → Dev) : Dev :=
  match d.haul.run with
  | none => d
  | some r =>
    let ch := r.ch
    let d := d.setHaulRun none
    let d := ((((d.setF (F.HAU_CH_STATUS.CODE ch) e.code).setF (F.HAU_CH_STATUS.CAUSE ch) e.cause).setF (F.HAU_CH_STATUS.DIR ch)
      e.dir).setF (F.HAU_CH_STATUS.SPACE ch) e.space).setF (F.HAU_CH_RESIDUE.VALUE ch) e.residue
    let d := ((d.set64 (R.HAU_CH_ADDR_LO ch) (R.HAU_CH_ADDR_HI ch) e.addr).setF (F.HAU_CH_CMP_CNT.VALUE ch) r.cmpCnt).setF
      (F.HAU_CH_EXEC.VALUE ch) r.executed
    let d := d.set64 (R.HAU_CH_CMP_ADDR_LO ch) (R.HAU_CH_CMP_ADDR_HI ch) (r.cmpAddr.getD 0)
    let c := d.hch ch
    let d := if e.code = 2 then d.setHch ch { c with queue := [] } else if e.code = 3 ∧ r.load.isNone then d.setHch ch { c with halted := true } else d
    if e.code = 1 then
      if d.on (F.HAU_CH_CFG.END_EVENT_EN ch) && decide (d.f (F.HAU_CH_CFG.END_EVENT ch) ≤ 11) then
        pulse d (d.f (F.HAU_CH_CFG.END_EVENT ch)) else d
    else
      let d := if d.on (F.HAU_CH_CFG.WB_EN ch) && d.canIssue then d.emit (.hostWrite r.wb (littleWords (statusBlock r e)) false) else d
      d.irq (intBitOf (R.HAU_CH_CFG ch))

/-- The running load program ends with a code of Table 13.3 and a result of its own table. -/
def Dev.endLoadRun (d : Dev) (code : Nat) (l : Load) (img : List Byte) (e : LoadEnd) : Dev :=
  (d.endProgram { code := code, addr := l.addr, space := 0, residue := 0 } Dev.linePulse).endLoad l img e

/-! ## Images (R183, R253, R257) -/

def magicIs (img : List Byte) (b2 b3 : Byte) : Bool := decide (img.take 4 = [0x4C#8, 0x5A#8, b2, b3])

/-- Why an image is refused before anything is written. -/
def Dev.imageBad (d : Dev) (l : Load) (img : List Byte) : Nat :=
  let len := bufNat img (if l.table = 2 then 16 else 12) 4
  let magic := if l.table = 2 then magicIs img 0x53 0x48 else if l.table = 3 then magicIs img 0x43 0x54 else magicIs img 0x46 0x4C
  if !magic then 4
  else if bufNat img 4 2 ≠ 1 then 5
  else if l.table = 2 then
    (match d.bar with
    | none => 2
    | some b =>
      let total := sumN (b.mods.map (·.photosites))
      if len ≠ 1280 + 4 * b.planeList.length * bufNat img 8 4 ∨ len ≠ l.len then 6
      else if bufNat img 6 1 ≠ b.planes ∨ bufNat img 8 4 ≠ total ∨ bufNat img 12 4 ≠ bufNat b.raw 60 4 then 7 else 0)
  else if l.table = 3 then
    let first := bufNat img 8 2
    let count := bufNat img 10 2
    if len ≠ 64 + 64 * count ∨ len ≠ l.len ∨ count = 0 then 6
    else if 4096 < first + count then 7
    else if (List.range count).any (fun i => decide ((d.ctx (first + i)).state ≠ 0)) then 3 else 0
  else
    if len ≠ 4160 ∨ len ≠ l.len then 6
    else if d.on F.FLW_CTRL.LEARN_EN then 3
    else if bufNat img 8 4 ≠ d.f F.FLW_CPR.CPR then 7 else 0

/-- Write the image into its table; Flowstone's bins wait for verification. -/
def Dev.moveImage (d : Dev) (l : Load) (img : List Byte) : Dev :=
  if l.table = 2 then
    match d.bar with
    | none => d
    | some b =>
      let s := d.shadowSet
      let total := sumN (b.mods.map (·.photosites))
      let d := d.setBytes (shadeHeader s) ((img.drop 64).take 1152)
      (List.range b.planeList.length).foldl (fun d i =>
        d.setBytes (winShade + 0x400000 * s + 4 * (b.planeList.getD i 0 * 262144)) ((img.drop (1280 + 4 * total * i)).take (4 * total))) d
  else if l.table = 3 then d.setBytes (ctxEntry (bufNat img 8 2)) (img.drop 64)
  else d

/-- The bytes of an image that CMP compares. -/
def comparedByte (l : Load) (i : Nat) : Bool := decide (64 ≤ i) && !(decide (l.table = 2) && decide (1216 ≤ i) && decide (i < 1280))

def firstDiff (l : Load) : Nat → List Byte → List Byte → Option Nat
  | i, a :: x, b :: y => if a ≠ b ∧ comparedByte l i then some i else firstDiff l (i + 1) x y
  | _, [], _ => none
  | _, _, [] => none

/-- The move of a load: `data` is the image as host memory holds it. -/
def Dev.loadMove (d : Dev) (r : HaulRun) (l : Load) (data : List Byte) : Dev :=
  let img := (data ++ List.replicate (l.len - data.length) 0).take l.len
  let r := { r with executed := r.executed + 1 }
  let d := (d.emit (.hostRead l.addr l.len)).setHaulRun (some r)
  if l.table = 1 then
    match barFail img l.len with
    | some e => (d.barFailed e.1 e.2).endLoadRun 1 l img ⟨e.1, e.2.getD 0, l.len, false⟩
    | none => (d.acceptBar img).endLoadRun 1 l img ⟨0, 0, l.len, false⟩
  else
    let bad := d.imageBad l img
    if bad ≠ 0 then d.endLoadRun 1 l img ⟨bad, 0, 0, false⟩
    else
      let d := d.moveImage l img
      if crc32 (zeroed img 60 64) ≠ bufNat img 60 4 then d.endLoadRun 1 l img ⟨8, 0, l.len, false⟩
      else d.setHaulRun (some { r with phase := 1, img := img })

/-- The verification of a load by CMP: `data` is the image read again. -/
def Dev.loadCompare (d : Dev) (r : HaulRun) (l : Load) (data : List Byte) : Dev :=
  let again := (data ++ List.replicate (l.len - data.length) 0).take l.len
  let d := (d.emit (.hostRead l.addr l.len)).setHaulRun (some { r with executed := r.executed + 1 })
  match firstDiff l 0 r.img again with
  | some i => d.endLoadRun 8 l r.img ⟨9, i, l.len, false⟩
  | none => d.endLoadRun 1 l r.img ⟨0, 0, l.len, false⟩

/-! ## Acceptance of TABLE_LOAD (R293, R182, R253, R257, R69) -/

/-- Why a load is refused at once, with a code of its own table. -/
def Dev.loadRefused (d : Dev) (table : Nat) : Nat :=
  if table = 1 then (if d.modeIn [.standby] then 0 else 1)
  else if table = 2 then
    if !d.modeIn [.standby, .calibrate, .run] then 1
    else if d.bar.isNone then 2
    else if d.shadingRuns || d.on F.SHD_CTRL.LOAD_BUSY then 3 else 0
  else if table = 3 then (if d.modeIn [.standby, .calibrate, .run, .service] then 0 else 1)
  else if !d.modeIn [.standby, .calibrate, .run] then 1
  else if d.on F.FLW_CTRL.LEARN_EN then 3 else 0

def Dev.tableLoad (d : Dev) (src : Src) (table addr len : Nat) (swap : Bool) : Dev :=
  let code := d.loadRefused table
  if addr % 8 ≠ 0 then d.complete src (stInvalidField 2)
  else if code ≠ 0 then
    let d := if table = 1 then d.barFailed code none
      else if table = 2 then (d.setF F.SHD_LOAD_STATUS.RESULT code).setF F.SHD_LOAD_STATUS.FAIL_OFFSET 0 else d
    d.complete src (stCode code)
  else
    let run := d.nextRun
    let d := d.startRun src (.tableLoad table)
    let d := if table = 2 then d.setF F.SHD_CTRL.LOAD_BUSY 1 else d
    { d with haul := { d.haul with loads := d.haul.loads ++ [⟨run, table, addr, len, swap⟩] } }

/-- Loads whose turn has come are pushed: a queue slot is free and, for shading, the shadow is not locked; its VALID clears
(R182). -/
def Dev.pushLoads (d : Dev) : Dev :=
  let ch := d.f F.SHD_CTRL.LOAD_HAUL_CH
  d.haul.loads.foldl (fun d l =>
    if d.haulFull ch || (decide (l.table = 2) && d.on F.SHD_CTRL.SHADOW_LOCKED) then d
    else
      let d := if l.table = 2 then d.putValid d.shadowSet false else d
      ({ d with haul := { d.haul with loads := d.haul.loads.filter (fun x => x.run ≠ l.run) } }).haulPush ch ⟨l.addr, some l⟩) d

/-- End an abortable load wherever it stands (R298). -/
def Dev.abortLoad (d : Dev) (run : Nat) : Dev :=
  let waits := d.haul.loads.find? (fun l => l.run = run)
  match waits with
  | some l => ({ d with haul := { d.haul with loads := d.haul.loads.filter (fun x => x.run ≠ run) } }).endLoad l [] loadAborted
  | none =>
    match d.haul.run.bind (fun r => r.load.filter (fun l => l.run = run) |>.map (fun l => (r, l))) with
    | some p => d.endLoadRun 2 p.2 p.1.img loadAborted
    | none =>
      let hit : List (Nat × Load) := (List.range 8).flatMap (fun ch => (d.hch ch).queue.filterMap (fun q => q.load.map (fun l => (ch, l))))
      match hit.find? (fun x => x.2.run = run) with
      | some x =>
        (d.setHch x.1 { d.hch x.1 with queue := (d.hch x.1).queue.filter (fun q => q.load ≠ some x.2) }).endLoad x.2 [] loadAborted
      | none => d

/-- ABORT of scope HAUL (R339): false when there was nothing to end. -/
def Dev.abortHaul (d : Dev) (ch : Nat) : Dev × Bool :=
  let c := d.hch ch
  let running := match d.haul.run with | some r => decide (r.ch = ch) | none => false
  if !running && c.queue.isEmpty && !c.halted then (d, false)
  else
    let queued := c.queue.filterMap (fun q => q.load)
    let d := match d.haul.run with
      | some r =>
        if r.ch ≠ ch then d
        else
          (match r.load with
          | some l => d.endLoadRun 2 l r.img loadAborted
          | none => d.endProgram { code := 2, addr := r.pc / 32 * 32, space := b2n (bitOf r.pc 4),
                                   residue := match r.xfer with | some x => x.left | none => 0 } Dev.linePulse)
      | none => d
    let d := queued.foldl (fun d l => d.endLoad l [] loadAborted) d
    (d.setHch ch ⟨[], false⟩, true)

/-! ## Meanings -/

def execTableLoadBarRecord (src : Src) (addr len : Nat) (s : State) : Host.Outcome State Fault Refusal :=
  s.lift (·.tableLoad src 1 addr len false)

def execTableLoadShading (src : Src) (addr len : Nat) (swap : Bool) (s : State) : Host.Outcome State Fault Refusal :=
  s.lift (·.tableLoad src 2 addr len swap)

def execTableLoadContext (src : Src) (addr len : Nat) (s : State) : Host.Outcome State Fault Refusal :=
  s.lift (·.tableLoad src 3 addr len false)

def execTableLoadFlowstone (src : Src) (addr len : Nat) (s : State) : Host.Outcome State Fault Refusal :=
  s.lift (·.tableLoad src 4 addr len false)

end Sys2Proof.Machine
end

