-- ==== Sys2Proof/Machine/Generator.lean ====
section
/-! DEFINITION. The profile generator's arithmetic: velocity steps, stopping distance, one period, segments (spec
14_motion_profiles.md R347-R351). Every quantity is an integer in units of 2^-32 count and of servo periods. -/

namespace Sys2Proof.Machine

/-- `rel` of R348: speed still lost while b returns to 0. -/
def relSpeed (b jl : Int) : Int :=
  if 0 ≤ b then 0
  else
    let q := divFloor (-b) jl
    q * (-b) - jl * divFloor (q * (q + 1)) 2

/-- `down_step` of R348. -/
def downStep (u b w dl jl : Int) : Int × Int :=
  if u = w ∧ b = 0 then (u, 0)
  else
    let bk := if -dl < b then max (b - jl) (-dl) else min (b + jl) (-dl)
    if w < u + bk ∧ relSpeed bk jl ≤ u + bk - w then (u + bk, bk)
    else
      let bk := min (b + jl) 0
      let bk := if bk = 0 ∧ w < u then -(min (u - w) jl) else bk
      let bk := if u + bk < w then w - u else bk
      (u + bk, bk)

/-- `up_step` of R348. -/
def upStep (u b w al jl : Int) : Int × Int :=
  let r := downStep (-u) (-b) (-w) al jl
  (-r.1, -r.2)

/-- The sum of R349 over at most `n` calls. -/
def stopSum (dl jl : Int) : Nat → Int → Int → Int
  | 0, _, _ => 0
  | n + 1, u, b =>
    if u = 0 ∧ b = 0 then 0
    else
      let r := downStep u b 0 dl jl
      r.1 + stopSum dl jl n r.1 r.2

/-- `stop_dist` (R349). The bound covers every call: while b is above 0 it falls by at least 1 per call and u rises by at
most b, and then u falls by at least 1 per call. -/
def stopDist (u b dl jl : Int) : Int := stopSum dl jl (u.natAbs + b.natAbs ^ 2 + b.natAbs + 8) u b

/-- Segment of a period (Table 14.3) from j, b after the period and u after the period. -/
def segmentOf (j b u : Int) : Nat :=
  if j = 0 then (if b > 0 then 2 else if b < 0 then 6 else if u = 0 then 0 else 4)
  else if 0 < j then (if 0 < b then 1 else 7)
  else (if b < 0 then 5 else 3)

/-- How a period ends a move. -/
inductive GenEnd where
  | none | complete | behind | stopped
  deriving DecidableEq, Repr

/-- A generator after a period. -/
structure GenOut where
  x : Int
  v : Int
  a : Int
  s : Int
  braking : Bool
  reversed : Bool
  seg : Nat
  fin : GenEnd
  deriving DecidableEq, Repr

/-- The limits of a period in internal units: vl, al, dl, jl. -/
structure GenLim where
  vl : Int
  al : Int
  dl : Int
  jl : Int
  deriving DecidableEq, Repr

/-- One period of R350. `held` is a governor hold: it stops as `stopping` does and ends no move (R316). -/
def genPeriod (l : GenLim) (win : Int) (stopping held braking rev reversed : Bool) (s x v a t : Int) : GenOut :=
  let u := s * v
  let b := s * a
  let r := s * (t * 2 ^ 32 - x)
  let o : Bool × (Int × Int) :=
    if stopping || braking || held then (braking, downStep u b 0 l.dl l.jl)
    else
      let c := if l.vl < u ∨ (u = l.vl ∧ 0 ≤ b) then downStep u b l.vl l.dl l.jl else upStep u b l.vl l.al l.jl
      if r < c.1 + stopDist c.1 c.2 l.dl l.jl then (true, downStep u b 0 l.dl l.jl) else (false, c)
  let brk := o.1
  let u1 := o.2.1
  let b1 := o.2.2
  let x1 := x + s * u1
  let seg := segmentOf (b1 - b) b1 u1
  let r1 := s * (t * 2 ^ 32 - x1)
  let g : GenOut := ⟨x1, s * u1, s * b1, s, brk, reversed, seg, .none⟩
  if u1 = 0 ∧ b1 = 0 ∧ (stopping ∨ (brk ∧ !held)) then
    if stopping then { g with fin := .stopped }
    else if r1 = 0 then { g with fin := .complete }
    else if r1 < 0 ∧ rev then { g with s := -s, braking := false, reversed := true }
    else if r1 < 0 then { g with fin := .behind }
    else if r1 ≤ max (win * 2 ^ 32) (4 * l.jl) then { g with x := t * 2 ^ 32, seg := 4, fin := .complete }
    else { g with braking := false }
  else g

/-- Direction of a move at planning (R347). -/
def genDir (x v a t : Int) : Int :=
  if v ≠ 0 then v.sign else if a ≠ 0 then a.sign else (t - divFloor x (2 ^ 32)).sign

end Sys2Proof.Machine
end

