-- ==== Sys2Proof/Machine/Governor.lean ====
section
/-! DEFINITION. The governor: occupancy, the HOLDING rule, the speed factor, and what is in force on FEED (spec
12_sump_and_governor.md R313-R317; 01 R32). -/

namespace Sys2Proof.Machine

/-- The pool term: cells of groups, PACE contexts, calibration and Haul (Table 12.1). -/
def Dev.poolTerm (d : Dev) : Nat :=
  sumN ((List.range 8).map d.groupUse) + sumN ((d.ctxs.filter (fun c => d.ctxPace c.1)).map (fun c => c.2.cells)) +
    d.sump.cal + d.sump.haul

/-- A PACE context that is not STOPPED, or still writes records, with its term. -/
def Dev.paceTerms (d : Dev) : List (Nat × Nat) :=
  (d.ctxs.filter (fun c => d.ctxPace c.1 && (decide (c.2.state ≠ 0) || decide (c.2.cells ≠ 0)))).map
    (fun c => (c.1, c.2.cells * 4096 / max 1 (d.ctxQuota c.1)))

/-- U and the context that set it; the pool term wins a tie, then the lowest context (R313). -/
def Dev.occupancy (d : Dev) : Nat × Option Nat :=
  d.paceTerms.foldl (fun u c => if u.1 < c.2 then (c.2, some c.1) else u) (d.poolTerm, none)

/-- HOLDING and F from U (R314). -/
def govRule (low high full u : Nat) (lantern was : Bool) : Bool × Nat :=
  let h := if full ≤ u ∨ lantern then true else if was ∧ u < low then false else was
  (h, if h then 0 else if u ≤ high then 4096 else (divFloor (((full : Int) - u) * 4096) ((full : Int) - high)).toNat)

def Dev.lanternHold (d : Dev) : Bool := d.on F.LTN_STATUS.HOLD_REQ

/-- Does another member, or the loss of GOVERNOR frames, hold FEED (R32, R439)? -/
def Dev.stationHold (d : Dev) : Bool := d.inStation && d.feedMaster && (d.tet.ringHold || d.tet.lostHold)

/-- Is FEED held on this device (R315, R316)? A follower applies no hold (R317). -/
def Dev.feedHeld (d : Dev) : Bool := d.feedMaster && (d.sump.holding || d.stationHold)

/-- F in force on FEED (R315). -/
def Dev.feedFactor (d : Dev) : Nat :=
  if d.feedHeld then 0
  else if d.inStation && d.feedMaster then min d.sump.factor d.tet.ringF else d.sump.factor

/-- V_CAP in force on FEED: own while armed, the lowest of the armed members; none when no grid is armed (R32, R353). -/
def Dev.feedCap (d : Dev) : Option Nat :=
  let own := if d.armed then some (d.f F.LTN_CAP.V_CAP) else none
  let ring := if d.inStation && d.feedMaster && decide (d.tet.ringCap < 0xFFFFFF) then some d.tet.ringCap else none
  match own, ring with
  | some a, some b => some (min a b)
  | some a, none => some a
  | none, r => r

/-- The start of a servo period (R313). -/
def Dev.govStep (d : Dev) : Dev :=
  let lan := d.lanternHold
  if d.mode ≠ .run then
    let d := { d with sump := { d.sump with holding := false, factor := 4096, lanternHold := lan } }
    (((d.setB F.SMP_GOV_STATUS.HOLDING false).setB F.SMP_GOV_STATUS.LANTERN_HOLD lan).setB
      F.SMP_GOV_STATUS.STATION_HOLD d.stationHold).setF F.SMP_GOV_STATUS.FACTOR d.feedFactor
  else
    let o := if d.on F.SMP_GOV_CTRL.GOV_EN then d.occupancy else (0, none)
    let was := d.sump.holding
    let r := govRule (d.f F.SMP_GOV_LEVELS.LOW) (d.f F.SMP_GOV_LEVELS.HIGH) (d.f F.SMP_GOV_CTRL.FULL) o.1 lan was
    let d := { d with sump := { d.sump with holding := r.1, factor := r.2, lanternHold := lan } }
    let d := if r.1 && !was then (d.flag F.SMP_GOV_STATUS.HOLD_SEEN).count F.SMP_COUNT.HOLD_CNT 1 else d
    let d := (((d.setB F.SMP_GOV_STATUS.HOLDING r.1).setB F.SMP_GOV_STATUS.LANTERN_HOLD lan).setB
      F.SMP_GOV_STATUS.STATION_HOLD d.stationHold).setF F.SMP_GOV_STATUS.FACTOR d.feedFactor
    ((d.setB F.SMP_GOV_SRC.FROM_CONTEXT o.2.isSome).setF F.SMP_GOV_SRC.OCC (min o.1 8191)).setF F.SMP_GOV_SRC.CONTEXT
      (o.2.getD 0)

end Sys2Proof.Machine
end

