-- ==== Sys2Proof/Machine/Motion.lean ====
section
/-! DEFINITION. Moves of the six axes: planning, limits in force, stops and replans, coordinated moves, completions,
position redefinition (spec 14_motion_profiles.md R343-R362; 11 R294, R298; 15 R372, R381, R385, R387). -/

namespace Sys2Proof.Machine

def Dev.ax (d : Dev) (a : Nat) : Axis := spGet axisInit d.axes a
def Dev.setAx (d : Dev) (a : Nat) (x : Axis) : Dev := { d with axes := spSet axisInit d.axes a x }

/-- A set-point in counts (R343). -/
def countOf (x : Int) : Int := divFloor x (2 ^ 32)

/-- Measured position p; with ENC_TYPE NONE it equals the set-point in counts (R377). -/
def Dev.pos (d : Dev) (a : Nat) : Int :=
  if d.f (F.ENC_CFG.ENC_TYPE a) = 0 then countOf (d.ax a).x else d.measured a

def Dev.limsOf (d : Dev) (a s : Nat) : Lims :=
  { vel := d.f (F.AXS_LIM_VEL.VEL a s), acc := d.f (F.AXS_LIM_ACC.ACC a s), dec := d.f (F.AXS_LIM_DEC.DEC a s),
    jerk := d.f (F.AXS_LIM_JERK.JERK a s), edec := d.f (F.AXS_EDEC.EDEC a), ejerk := d.f (F.AXS_EJERK.EJERK a) }

def Move.has (m : Move) (a : Nat) : Bool := m.axes.any (fun e => e.axis = a)
def Move.mask (m : Move) : Nat := sumN (m.axes.map (fun e => 2 ^ e.axis))
def Move.entry (m : Move) (a : Nat) : Option MvAxis := m.axes.find? (fun e => e.axis = a)
/-- Travel of the leader. -/
def Move.dL (m : Move) : Int := match m.entry m.leader with | some e => e.d | none => 0

def Dev.moveOf (d : Dev) (a : Nat) : Option Move := d.moves.find? (fun m => m.has a)
def Dev.claims (d : Dev) (l : List Nat) : List Move := d.moves.filter (fun m => l.any m.has)
def Dev.putMove (d : Dev) (m : Move) : Dev := { d with moves := d.moves.map (fun x => if x.id = m.id then m else x) }
def Dev.dropMove (d : Dev) (m : Move) : Dev := { d with moves := d.moves.filter (fun x => x.id ≠ m.id) }

/-- Does the axis stand still: no planned move of it, and no speed? -/
def Dev.stands (d : Dev) (a : Nat) : Bool :=
  !d.moves.any (fun m => m.planned && m.has a) && decide ((d.ax a).v = 0) && decide ((d.ax a).a = 0)

/-- Every axis stands still and no move is running, held or kept under a governor hold (R344). -/
def Dev.allStand (d : Dev) : Bool := d.moves.isEmpty && (List.range 6).all d.stands

/-! ## STATE of an axis (Table 14.7) -/

def Dev.axisState (d : Dev) (a : Nat) : Nat :=
  match d.moveOf a with
  | some m =>
    if m.cause.isSome then 2
    else if m.held || (!m.planned && m.has 0 && d.feedHeld && d.stands 0) then 3 else 1
  | none => if (d.ax a).kept.isSome then 4 else 0

/-! ## The set-point takes the measured position (R372, R376, Table 14.4) -/

def Dev.halt (d : Dev) (a : Nat) : Dev := d.setAx a { d.ax a with x := d.pos a * 2 ^ 32, v := 0, a := 0 }

/-! ## Ends and completions of moves (R294, R356, R385) -/

def StopCause.rank : StopCause → Nat
  | .fault => 0 | .stall => 1 | .limit => 2 | .estop => 3 | .abort => 4 | .hold => 5 | .conflict => 6

/-- EDEC and EJERK act (Table 14.4). -/
def StopCause.emerg : StopCause → Bool
  | .fault => true | .limit => true | .estop => true | .stall => false | .abort => false | .hold => false
  | .conflict => false

def StopCause.res : StopCause → CmdRes
  | .fault => stAxisStopped 5 | .stall => stAxisStopped 3 | .limit => stAxisStopped 4 | .estop => stAxisStopped 5
  | .abort => stAborted | .hold => stAxisStopped 1 | .conflict => stAxisStopped 7

def Move.endRes (m : Move) (f : GenEnd) : CmdRes :=
  match f with
  | .behind => stAxisStopped 2
  | .stopped => (match m.cause with | some c => c.res | none => stOk)
  | _ => stOk

/-- Remaining distance of an entry: target − (x >> 32). -/
def Dev.remOf (d : Dev) (e : MvAxis) : Int := e.target - countOf (d.ax e.axis).x

/-- Position and remaining distance of an axis as RESULT_A and RESULT_B. -/
def CmdRes.at' (r : CmdRes) (pos rem : Int) (adv : Nat) : CmdRes :=
  { r with a := unsigned 64 pos, b := unsigned 64 rem, c := adv }

/-- A RESUME's own completion: the lowest axis that stopped short, else the lowest (R294). -/
def resumeRes (ends : List AxisEnd) (adv : Nat) : CmdRes :=
  let low (l : List AxisEnd) : Option AxisEnd :=
    l.foldl (fun b e => match b with | some x => (if e.axis < x.axis then some e else b) | none => some e) none
  match (match low (ends.filter (fun e => e.status ≠ 0)) with | some e => some e | none => low ends) with
  | some e => ({ status := e.status, detail := e.detail, info := e.axis } : CmdRes).at' e.pos e.rem adv
  | none => stOk

/-- Report how a move ended to whom it answers to. -/
def Dev.reportMove (d : Dev) (m : Move) (r : CmdRes) (stop : Option StopCause) : Dev :=
  let adv := if m.has 0 then m.adv.getD 0 else 0
  match m.owner with
  | .cmd run =>
    (match d.running.find? (fun x => x.id = run) with
    | some x =>
      (match x.kind with
      | .resume left ends a =>
        let es := m.axes.map (fun e => (⟨e.axis, r.status, r.detail, countOf (d.ax e.axis).x, d.remOf e⟩ : AxisEnd))
        let ends := ends ++ es
        let a := if m.has 0 then adv else a
        if left ≤ 1 then d.finish run (resumeRes ends a)
        else { d with running := d.running.map (fun y => if y.id = run then { y with kind := .resume (left - 1) ends a } else y) }
      | _ =>
        let rem := match m.entry m.leader with | some e => d.remOf e | none => 0
        d.finish run (({ r with info := if m.coord then m.leader else 0 } : CmdRes).at' (countOf (d.ax m.leader).x) rem adv))
    | none => d)
  | .ref a => d.setAx a { d.ax a with ended := some stop }
  | .shutter => d.calShutter stop.isNone
  | .orphan => d
  | .silent => d

/-- Does a move of this owner leave a kept distance (R356, R361, R388)? -/
def MoveOwner.keeps : MoveOwner → Bool
  | .cmd _ => true | .silent => true | .ref _ => false | .shutter => false | .orphan => false

/-- A move ends at standstill: its distances are kept, its advance is logged, its completion is posted. -/
def Dev.endMove (d : Dev) (m : Move) (f : GenEnd) : Dev :=
  let d := d.dropMove m
  let keep := decide (f ≠ .complete) && m.owner.keeps
  let d := m.axes.foldl (fun d e =>
    let x := d.ax e.axis
    let k : Option Remain :=
      if keep then some ⟨m.id, e.target - countOf x.x, m.set, m.rev, m.adv, m.coord, m.mask⟩ else none
    d.setAx e.axis { x with v := 0, a := 0, kept := k }) d
  let d := match m.adv with
    | some n => if m.planned then d.logStop n (countOf (d.ax 0).x) (decide (f = GenEnd.complete)) (decide (m.cause = some StopCause.abort)) else d
    | none => d
  d.reportMove m (m.endRes f) (if f = GenEnd.complete then none else some (m.cause.getD .hold))

/-! ## Stops -/

/-- A stop event acts on a move: a higher rank takes over, and EDEC and EJERK with it (R385, R355). -/
def Move.stopBy (m : Move) (c : StopCause) : Move :=
  let higher := match m.cause with | some o => decide (c.rank < o.rank) | none => true
  if higher then { m with cause := some c, emerg := m.emerg || c.emerg } else m

/-- End the referencing of an axis with ABORTED (R388). -/
def Dev.refFail (d : Dev) (a code : Nat) : Dev :=
  match (d.ax a).ref with
  | some r => if r.result.isNone then d.setAx a { d.ax a with ref := some { r with result := some code } } else d
  | none => d

def Dev.stopAxes (d : Dev) (l : List Nat) (c : StopCause) : Dev :=
  { d with moves := d.moves.map (fun m => if l.any m.has then m.stopBy c else m) }

/-- The next move number. -/
def Dev.newMove (d : Dev) : Nat × Dev := (d.nextMove, { d with nextMove := d.nextMove + 1 })

/-- An axis of a superseded move stops with its own set and keeps no distance (R361). -/
def Dev.orphan (d : Dev) (m : Move) (a : Nat) : Dev :=
  let x := d.ax a
  if x.v = 0 ∧ x.a = 0 then d
  else
    let n := d.newMove
    let t := countOf x.x
    let e : MvAxis := { axis := a, raw := 0, target := t, d := 0, x0 := x.x, lim := d.limsOf a m.set }
    { n.2 with moves := n.2.moves ++ [
      { id := n.1, owner := .orphan, adv := none, coord := false, set := m.set, rev := false, rel := false, axes := [e],
        leader := a, planned := true, s := genDir x.x x.v x.a t, braking := false, reversed := false, cause := some .conflict,
        emerg := m.emerg, held := false, seg := x.seg, boundary := false, cap := none, factor := 4096 }] }

/-- The target of a move not planned yet. -/
def Dev.resolve (d : Dev) (m : Move) : Move :=
  if m.planned then m
  else { m with axes := m.axes.map (fun e =>
    let c := countOf (d.ax e.axis).x
    let t := if m.rel then c + e.raw else e.raw
    { e with target := t, d := t - c }) }

/-- A new move replaces a running one: AXIS_STOPPED, SUPERSEDED, at once; axes outside `keep` stop (R294, R361). -/
def Dev.supersede (d : Dev) (m : Move) (keep : List Nat) : Dev :=
  let m' := d.resolve m
  let d := d.dropMove m
  let d := match m.adv with
    | some n => if m.planned then d.logStop n (countOf (d.ax 0).x) false false else d
    | none => d
  let d := if m.planned then
      (m.axes.filter (fun e => !keep.contains e.axis)).foldl (fun d e => d.orphan m e.axis) d
    else d
  d.reportMove m' (stAxisStopped 6) (some .abort)

def Dev.acceptMove (d : Dev) (m : Move) : Dev :=
  let l := m.axes.map (fun e => e.axis)
  let d := match m.owner with | .ref _ => d | _ => l.foldl (fun d a => d.refFail a 4) d
  let d := (d.claims l).foldl (fun d o => d.supersede o (if m.coord then [] else l)) d
  { d with moves := d.moves ++ [m] }

/-- A move as a command makes it. -/
def mkMove (id : Nat) (owner : MoveOwner) (coord : Bool) (set : Nat) (rev rel : Bool) (adv : Option Nat)
    (targets : List (Nat × Int)) : Move :=
  let l0 : Lims := ⟨0, 0, 0, 0, 0, 0⟩
  { id := id, owner := owner, adv := adv, coord := coord, set := set, rev := rev, rel := rel,
    axes := targets.map (fun t => ⟨t.1, t.2, 0, 0, 0, l0⟩), leader := (targets.headD (0, 0)).1, planned := false, s := 1,
    braking := false, reversed := false, cause := none, emerg := false, held := false, seg := 0, boundary := false,
    cap := none, factor := 4096 }

/-! ## Direction guarded by a limit switch (R387) -/

def Dev.guarded (d : Dev) (a : Nat) (dir : Int) : Bool :=
  d.on (F.AXS_SW_CFG.LIM_EN a) && d.on (F.AXS_SW_STATUS.LIM_LEVEL a) &&
    decide (if d.on (F.AXS_SW_CFG.LIM_DIR a) then dir < 0 else 0 < dir)

/-- Direction of an axis in a planned move. -/
def Move.dirOf (m : Move) (e : MvAxis) : Int := if e.axis = m.leader then m.s else e.d.sign * m.dL.sign * m.s

/-- A move that goes in a guarded direction stops. -/
def Dev.limitStop (d : Dev) : Dev :=
  { d with moves := d.moves.map (fun m =>
      if m.planned && m.axes.any (fun e => d.guarded e.axis (m.dirOf e)) then m.stopBy .limit else m) }

/-! ## Limits in force (R352-R355, R359) -/

/-- vl of FEED in Q20.12 (R353). -/
def Dev.feedVel (d : Dev) (vel : Nat) (cap : Option Nat) (factor : Nat) : Nat :=
  let v := match cap with
    | some c => min vel (c * d.f F.AXS_TICK_DEN.TICK_DEN * 4096 / d.f F.AXS_TICK_NUM.TICK_NUM)
    | none => vel
  v * factor / 4096

/-- An axis's limits in internal units. -/
def Dev.axisLim (d : Dev) (m : Move) (e : MvAxis) : GenLim :=
  let v := if e.axis = 0 then d.feedVel e.lim.vel m.cap m.factor else e.lim.vel
  { vl := (v : Int) * 2 ^ 20, al := (e.lim.acc : Int) * 2 ^ 12,
    dl := ((if m.emerg then e.lim.edec else e.lim.dec : Nat) : Int) * 2 ^ 12,
    jl := ((if m.emerg then e.lim.ejerk else e.lim.jerk : Nat) : Int) * 2 ^ 8 }

def GenLim.scale (l : GenLim) (dL da : Int) : GenLim :=
  let f (x : Int) := divFloor (x * dL.natAbs) da.natAbs
  ⟨f l.vl, f l.al, f l.dl, f l.jl⟩

def GenLim.min2 (p q : GenLim) : GenLim := ⟨min p.vl q.vl, min p.al q.al, min p.dl q.dl, min p.jl q.jl⟩

/-- The limits that the generator runs with: scaled to the leader and the least of the named axes (R359). -/
def Dev.genLim (d : Dev) (m : Move) : GenLim :=
  let dL := m.dL
  let l := (m.axes.filter (fun e => !m.coord || decide (e.d ≠ 0))).map (fun e =>
    if m.coord then (d.axisLim m e).scale dL e.d else d.axisLim m e)
  match l with
  | [] => ⟨0, 0, 0, 0⟩
  | h :: t => t.foldl GenLim.min2 h

/-- A latched change applies after a segment boundary or a period of segment 0 or 4; a governor reduction at once
(R354, R355). -/
def Dev.takeLimits (d : Dev) (m : Move) : Move :=
  if m.boundary || decide (m.seg = 0) || decide (m.seg = 4) then
    { m with axes := m.axes.map (fun e => { e with lim := d.limsOf e.axis m.set }), cap := d.feedCap, factor := d.feedFactor }
  else { m with factor := min m.factor d.feedFactor }

/-- Is a limit change latched (PENDING)? -/
def Dev.limitPending (d : Dev) (m : Move) : Bool :=
  m.planned && !decide (m.seg = 0) && !decide (m.seg = 4) &&
    (m.axes.any (fun e => decide (e.lim ≠ d.limsOf e.axis m.set)) ||
      (m.has 0 && (decide (m.cap ≠ d.feedCap) || decide (m.factor < d.feedFactor))))

/-! ## Planning (R347, R358-R360) -/

/-- The policy STANDSTILL in force leaves the rotor free or shorted (R376). -/
def Dev.policyLoose (d : Dev) (a : Nat) : Bool :=
  decide (d.f (F.CHP_CFG.STANDSTILL a) = 1 ∨ d.f (F.CHP_CFG.STANDSTILL a) = 2) && d.stands a && decide (d.f (F.CHP_LOOP.HOLD_DELAY a) ≤ (d.ax a).still)

/-- The correction joins FEED's travel and its partners scale with it (R360). -/
def correctedAxes (axs : List MvAxis) (dF cc : Int) : List MvAxis :=
  if cc = 0 then axs
  else axs.map (fun e =>
    let d' := if e.axis = 0 then dF + cc else divFloor (2 * e.d * (dF + cc) + dF) (2 * dF)
    { e with target := e.target - e.d + d', d := d' })

def leaderOf (axs : List MvAxis) : Nat :=
  (axs.foldl (fun (b : Option MvAxis) e =>
    match b with
    | some x => if x.d.natAbs < e.d.natAbs ∨ (x.d.natAbs = e.d.natAbs ∧ e.axis < x.axis) then some e else b
    | none => some e) none).elim 0 (fun e => e.axis)

/-- Number a new FEED move and correct it, or take up a resumed one (R245, R246). -/
def Dev.planFeed (d : Dev) (m : Move) : Dev × Move :=
  match m.entry 0 with
  | none => (d, m)
  | some e =>
    (match m.adv with
    | some n => (d.logResume n e.target, m)
    | none =>
      let c0 := e.target - e.d
      let c := d.correction c0 e.target
      let r := d.logMove c.2.2.1 c.2.2.2 c0 (e.target + c.1) c.2.1
      (r.2, { m with axes := correctedAxes m.axes e.d c.1, adv := some r.1 }))

def Dev.planMove (d : Dev) (m : Move) : Dev :=
  let d := m.axes.foldl (fun d e => if d.policyLoose e.axis then d.halt e.axis else d) d
  let m := d.resolve m
  if m.cause.isSome then d.endMove m .stopped
  else
    let p := d.planFeed m
    let d := p.1
    let m := p.2
    let l := leaderOf m.axes
    let x := d.ax l
    let t := match m.entry l with | some e => e.target | none => 0
    let m := { m with
        planned := true, leader := l, s := genDir x.x x.v x.a t, cap := d.feedCap, factor := d.feedFactor,
        axes := m.axes.map (fun e => { e with x0 := (d.ax e.axis).x, lim := d.limsOf e.axis m.set }) }
    let d := d.putMove m
    let d := m.axes.foldl (fun d e => d.setAx e.axis { d.ax e.axis with kept := none, set := m.set }) d
    let rest := decide (x.v = 0) && decide (x.a = 0)
    if rest && decide (m.s = 0) then d.endMove m .complete
    else if rest && m.axes.any (fun e => d.guarded e.axis (m.dirOf e)) then d.endMove (m.stopBy .limit) .stopped
    else d

/-! ## One period of a move (R350, R360) -/

/-- The other axes of a coordinated move follow the leader's progress. -/
def Dev.followLeader (d : Dev) (m : Move) (done : Bool) : Dev :=
  match m.entry m.leader with
  | none => d
  | some l =>
    let p := l.d.sign * ((d.ax m.leader).x - l.x0)
    (m.axes.filter (fun e => e.axis ≠ m.leader)).foldl (fun d e =>
      let x := d.ax e.axis
      let nx := if done then e.target * 2 ^ 32 else e.x0 + e.d.sign * divFloor (e.d.natAbs * p) l.d.natAbs
      d.setAx e.axis { x with x := nx, v := nx - x.x, a := nx - x.x - x.v, seg := m.seg }) d

def Dev.stepMove (d : Dev) (m : Move) : Dev :=
  let m := d.takeLimits m
  let held := d.feedHeld && m.axes.any (fun e => decide (e.axis = 0) && decide (e.d ≠ 0))
  let x := d.ax m.leader
  let t := match m.entry m.leader with | some e => e.target | none => 0
  let g := genPeriod (d.genLim m) (d.f (F.AXS_FINAL_WIN.FINAL_WIN m.leader)) m.cause.isSome held m.braking m.rev m.reversed
    m.s x.x x.v x.a t
  let d := d.setAx m.leader { x with x := g.x, v := g.v, a := g.a, seg := g.seg }
  let m := { m with
      s := g.s, braking := g.braking, reversed := g.reversed, boundary := decide (g.seg ≠ m.seg), seg := g.seg,
      held := held && m.cause.isNone }
  let d := if m.coord then d.followLeader m (decide (g.fin = .complete)) else d
  if g.fin = .none then d.putMove m else d.endMove m g.fin

/-- A move waits: a coordinated one until every named axis stands still (R361), FEED's while a hold lasts (R316). -/
def Dev.moveWaits (d : Dev) (m : Move) : Bool :=
  m.cause.isNone && ((m.coord && !m.axes.all (fun e => d.stands e.axis)) || (m.has 0 && d.feedHeld && d.stands 0))

/-- The generators of a servo period. -/
def Dev.runMoves (d : Dev) : Dev :=
  let d := d.limitStop
  let d := (d.moves.filter (fun m => !m.planned)).foldl (fun d m => if d.moveWaits m then d else d.planMove m) d
  (d.moves.filter (fun m => m.planned)).foldl (fun d m =>
    match d.moves.find? (fun x => x.id = m.id) with | some m => d.stepMove m | none => d) d

/-! ## Position redefinition (R362, R366, R107, R252, R243) -/

def Dev.redefine (d : Dev) (a : Nat) (delta : Int) : Dev :=
  let x := d.ax a
  let p := d.pos a
  let d := (d.setAx a { x with x := x.x + delta * 2 ^ 32, eofs := x.eofs - delta }).setMeasured a (p + delta)
  if a ≠ 0 then d else ((d.disarm 3).flowShift delta).strataFrame

/-! ## Ring commands (R293, R294, R298) -/

/-- Why a command naming these axes completes at once: NOT_MASTER, FEED_MASTER_CONFLICT, an over-current or encoder fault
that is latched. -/
def Dev.axesRefused (d : Dev) (l : List Nat) : Option CmdRes :=
  if l.contains 0 && d.follower then some (stAxisStopped 8)
  else if l.contains 0 && d.tet.conflict then some (stAxisStopped 7)
  else if l.any (fun a => d.on (F.CHP_STATUS.OVERCURRENT a) || d.on (F.ENC_STATUS.ENC_FAULT a)) then some (stAxisStopped 5)
  else none

def motionModes : List Mode := [.calibrate, .run, .service]

/-- Start a move of a ring command, or complete it at once. -/
def Dev.moveCmd (d : Dev) (src : Src) (coord : Bool) (set : Nat) (rev rel : Bool) (targets : List (Nat × Int)) : Dev :=
  let l := targets.map (fun t => t.1)
  match d.axesRefused l with
  | some r =>
    let m := d.resolve (mkMove 0 .silent coord set rev rel none targets)
    let lead := leaderOf m.axes
    let rem := match m.entry lead with | some e => e.d | none => 0
    d.complete src (({ r with info := if coord then lead else 0 } : CmdRes).at' (countOf (d.ax lead).x) rem 0)
  | none =>
    let n := d.newMove
    let run := n.2.nextRun
    (n.2.startRun src .move).acceptMove (mkMove n.1 (.cmd run) coord set rev rel none targets)

def Dev.moveOne (d : Dev) (src : Src) (a : Nat) (target : Int) (set : Nat) (rev rel : Bool) : Dev :=
  if !d.modeIn motionModes then d.complete src stWrongMode else d.moveCmd src false set rev rel [(a, target)]

/-- First word of a MOVE_COORD that is out of range: fewer than two axes, or a target of an axis not named. -/
def coordBad (mask : Nat) (targets : List Int) : Option Nat :=
  if (maskList 6 mask).length < 2 then some 1
  else ((List.range 6).find? (fun a => !bitOf mask a && decide (targets.getD a 0 ≠ 0))).map (fun a =>
    if unsigned 64 (targets.getD a 0) % 2 ^ 32 = 0 then 3 + 2 * a else 2 + 2 * a)

def Dev.moveCoord (d : Dev) (src : Src) (mask : Nat) (targets : List Int) (set : Nat) (rev rel : Bool) : Dev :=
  match coordBad mask targets with
  | some w => d.complete src (stInvalidField w)
  | none =>
    if !d.modeIn motionModes then d.complete src stWrongMode
    else d.moveCmd src true set rev rel ((maskList 6 mask).map (fun a => (a, targets.getD a 0)))

/-- HOLD commands whose axes all stand still complete. -/
def Dev.holdsDone (d : Dev) : Dev :=
  (d.running.filter (fun r => match r.kind with
    | .hold m => (maskList 6 m).all (fun a => d.stands a && (d.moveOf a).isNone) | _ => false)).foldl (fun d r => d.finish r.id stOk) d

def Dev.holdCmd (d : Dev) (src : Src) (mask : Nat) : Dev :=
  if !d.modeIn motionModes then d.complete src stWrongMode
  else
    let l := maskList 6 mask
    ((l.foldl (fun d a => d.refFail a 4) (d.stopAxes l .hold)).startRun src (.hold mask)).holdsDone

/-- The moves that the named axes keep, each once, lowest axis first. -/
def Dev.keptMoves (d : Dev) (l : List Nat) : List Remain :=
  (l.filterMap (fun a => (d.ax a).kept)).foldl (fun acc k => if acc.any (fun o => o.move = k.move) then acc else acc ++ [k]) []

/-- The axes that still keep a distance of a move. -/
def Dev.keepers (d : Dev) (k : Remain) : List (Nat × Int) :=
  (maskList 6 k.mask).filterMap (fun a => match (d.ax a).kept with
    | some o => if o.move = k.move then some (a, o.dist) else none
    | none => none)

def Dev.resumeCmd (d : Dev) (src : Src) (mask : Nat) : Dev :=
  if !d.modeIn motionModes then d.complete src stWrongMode
  else
    let l := maskList 6 mask
    let ks := d.keptMoves l
    if ks.isEmpty then d.complete src (stAxisStopped 10)
    else if ks.any (fun k => k.coord && !(maskList 6 k.mask).all l.contains) then d.complete src (stAxisStopped 9)
    else
      let named := ks.flatMap (fun k => (d.keepers k).map (fun t => t.1))
      match d.axesRefused named with
      | some r =>
        let a := named.headD 0
        let dist := match (d.ax a).kept with | some k => k.dist | none => 0
        d.complete src (({ r with info := a } : CmdRes).at' (countOf (d.ax a).x) dist 0)
      | none =>
        let run := d.nextRun
        let d := d.startRun src (.resume ks.length [] 0)
        ks.foldl (fun d k =>
          let n := d.newMove
          n.2.acceptMove (mkMove n.1 (.cmd run) k.coord k.set k.rev true k.adv (d.keepers k))) d

/-- Stop the named axes for an ABORT; answers whether any ran a move or referencing (R298). -/
def Dev.abortAxes (d : Dev) (mask : Nat) : Dev × Bool :=
  let l := maskList 6 mask
  let found := l.any (fun a => (d.moveOf a).isSome || (d.ax a).ref.isSome)
  (l.foldl (fun d a => d.refFail a 4) (d.stopAxes l .abort), found)

/-! ## Meanings -/

def execMove (src : Src) (axis : Fin 6) (target : Int) (set : Fin 4) (rev rel : Bool) (s : State) :
    Host.Outcome State Fault Refusal := s.lift (·.moveOne src axis target set rev rel)

def execMoveCoord (src : Src) (mask : Fin 64) (targets : List Int) (set : Fin 4) (rev rel : Bool) (s : State) :
    Host.Outcome State Fault Refusal := s.lift (·.moveCoord src mask targets set rev rel)

def execHold (src : Src) (mask : Fin 64) (s : State) : Host.Outcome State Fault Refusal := s.lift (·.holdCmd src mask)

def execResume (src : Src) (mask : Fin 64) (s : State) : Host.Outcome State Fault Refusal := s.lift (·.resumeCmd src mask)

end Sys2Proof.Machine
end

