-- ==== Sys2Proof/Machine/Aborts.lean ====
section
/-! DEFINITION. ABORT of every scope, from a ring or through HST_ABORT_CTRL (spec 11_host_rings_and_doorbells.md R287,
R294, R298, R299; 10 R272; 13 R339). -/

namespace Sys2Proof.Machine

/-- How an abort ends: 0 OK, 1 NOT_FOUND, 2 NOT_ABORTABLE, and the Sump cells returned. -/
structure AbortEnd where
  code : Nat
  cells : Nat
  deriving DecidableEq, Repr

def AbortEnd.res (e : AbortEnd) : CmdRes := { stResult e.code with c := e.cells }

/-- The CTX_STOP commands that wait for context `n` end ABORTED. -/
def Dev.abortStops (d : Dev) (n : Nat) : Dev :=
  d.running.foldl (fun d r => match r.kind with
    | .ctxStop m _ => if m = n then d.finish r.id stAborted else d
    | _ => d) d

def Dev.abortContext (d : Dev) (n : Nat) : Dev × AbortEnd :=
  if (d.ctx n).state = 0 then (d, ⟨1, 0⟩)
  else ((d.ctxAbort n).abortStops n, ⟨0, (d.ctx n).cells⟩)

/-- A move of a started command stops and answers nobody (R294). -/
def Dev.silence (d : Dev) (run : Nat) : Dev :=
  let own (m : Move) : Bool := decide (m.owner = MoveOwner.cmd run)
  let l := (d.moves.filter own).flatMap (fun m => m.axes.map (fun e => e.axis))
  let d := { d with moves := d.moves.map (fun m => if own m then { m with owner := MoveOwner.silent } else m) }
  (d.stopAxes l .abort).dropRun run

/-- Free an action slot. -/
def Dev.freeSlot (d : Dev) (n : Nat) : Dev := { d with slots := d.slots.filter (fun c => c.1 ≠ n) }

/-- End one started command: 0 ended, 2 NOT_ABORTABLE. Its own completion is posted. -/
def Dev.abortRun (d : Dev) (r : Running) : Dev × Nat :=
  match r.kind with
  | .shadingFull => d.shadingAbort
  | .tableLoad t => if t = 1 then (d, 2) else (d.abortLoad r.id, 0)
  | .schedule n => ((d.freeSlot n).finish r.id stAborted, 0)
  | .ctxStop _ _ => (d, 2)
  | .move => (d, 2)
  | .resume _ _ _ => (d, 2)
  | .hold _ => (d, 2)

/-- End one started command of an SQ that is aborted as a whole. -/
def Dev.endOfRing (d : Dev) (r : Running) : Dev :=
  match r.kind with
  | .move => d.silence r.id
  | .resume _ _ _ => d.silence r.id
  | .ctxStop _ _ => d.finish r.id stAborted
  | .hold _ => d.finish r.id stAborted
  | .shadingFull => (d.abortRun r).1
  | .tableLoad _ => (d.abortRun r).1
  | .schedule _ => (d.abortRun r).1

/-- Scope RING (R298): contexts and commands of the SQ end, the ring is emptied and DISABLED (R287). -/
def Dev.abortRing (d : Dev) (n : Nat) : Dev × AbortEnd :=
  if d.f (F.HST_SQ_STATUS.STATE n) = 0 then (d, ⟨1, 0⟩)
  else
    let used := d.sumpUsed
    let own := (d.ctxs.filter (fun c => c.2.sq = some n ∧ c.2.state ≠ 0)).map (fun c => c.1)
    let d := own.foldl (fun d c => (d.ctxAbort c).abortStops c) d
    let d := (d.running.filter (fun r => r.src.sq.val = n)).foldl (fun d r => d.endOfRing r) d
    let d := d.sqEmpty n |>.setF (F.HST_SQ_CFG.EN n) 0
    (d, ⟨0, used - d.sumpUsed⟩)

/-- Scope COMMAND: the oldest started command of the SQ with this CID. -/
def Dev.abortCommand (d : Dev) (n cid : Nat) : Dev × AbortEnd :=
  match d.running.find? (fun r => r.src.sq.val = n ∧ r.src.cid.val = cid) with
  | none => (d, ⟨1, 0⟩)
  | some r =>
    let used := d.sumpUsed
    let x := d.abortRun r
    (x.1, ⟨x.2, used - x.1.sumpUsed⟩)

/-- Does a TARGET lie in the range of its SCOPE (Table 11.5)? -/
def abortTargetOk (scope target : Nat) : Bool :=
  if scope = 0 then decide (target < 4096)
  else if scope = 1 ∨ scope = 2 then decide (target < 64)
  else if scope = 3 then decide (target < 8) else decide (scope = 4)

/-- An ABORT of any scope. -/
def Dev.abort (d : Dev) (scope target sq : Nat) : Dev × AbortEnd :=
  if scope = 0 then d.abortContext target
  else if scope = 1 then d.abortRing target
  else if scope = 2 then
    let x := d.abortAxes target
    (x.1, ⟨if x.2 then 0 else 1, 0⟩)
  else if scope = 3 then
    let used := d.sumpUsed
    let x := d.abortHaul target
    (x.1, ⟨if x.2 then 0 else 1, used - x.1.sumpUsed⟩)
  else d.abortCommand sq target

def allModes : List Mode := [.standby, .calibrate, .run, .service]

/-- ABORT as a ring command: its completion follows those it causes. -/
def Dev.abortCmd (d : Dev) (src : Src) (scope target sq : Nat) : Dev :=
  if !d.modeIn allModes then d.complete src stWrongMode
  else
    let x := d.abort scope target sq
    x.1.complete src x.2.res

/-- A write of HST_ABORT_CTRL: the abort runs at once, sets DONE and RESULT and raises the error vector (R299). -/
def Dev.registerAbort (d : Dev) (rq : Req) (v : Word) : Dev :=
  if d.on F.HST_ABORT_STATUS.BUSY then d.accessErr rq false .locked R.HST_ABORT_CTRL
  else
    let scope := bitsOf v.toNat 31 28
    let target := bitsOf v.toNat 15 0
    let x : Dev × AbortEnd :=
      if abortTargetOk scope target then d.abort scope target (bitsOf v.toNat 27 22) else (d, ⟨3, 0⟩)
    ((x.1.setF F.HST_ABORT_STATUS.DONE 1).setF F.HST_ABORT_STATUS.RESULT x.2.code).irq 9

/-! ## Meanings -/

def execAbortContext (src : Src) (ctx : Fin 4096) (s : State) : Host.Outcome State Fault Refusal :=
  s.lift (·.abortCmd src 0 ctx 0)

def execAbortRing (src : Src) (ring : Fin 64) (s : State) : Host.Outcome State Fault Refusal :=
  s.lift (·.abortCmd src 1 ring 0)

def execAbortAxis (src : Src) (mask : Fin 64) (s : State) : Host.Outcome State Fault Refusal :=
  s.lift (·.abortCmd src 2 mask 0)

def execAbortHaul (src : Src) (ch : Fin 8) (s : State) : Host.Outcome State Fault Refusal :=
  s.lift (·.abortCmd src 3 ch 0)

def execAbortCommand (src : Src) (ring : Fin 64) (cid : Fin 65536) (s : State) : Host.Outcome State Fault Refusal :=
  s.lift (·.abortCmd src 4 cid ring)

def execRegisterAbort (rq : Req) (v : Word) (s : State) : Host.Outcome State Fault Refusal :=
  s.lift (fun d => if d.awake then d.registerAbort rq v else d)

end Sys2Proof.Machine
end

