-- ==== Sys2Proof/Machine/House.lean ====
section
/-! DEFINITION. Housekeeping converters: sets and their check, conversions, filters, results, the FIFO and the
self-calibration (spec 16_housekeeping_converters.md R393-R412). -/

namespace Sys2Proof.Machine

def Dev.hkcOf (d : Dev) (c : Nat) : Hkc := spGet hkcInit d.hkc c
def Dev.setHkc (d : Dev) (c : Nat) (h : Hkc) : Dev := { d with hkc := spSet hkcInit d.hkc c h }
def Hkc.ent (h : Hkc) (e : Nat) : HkcEnt := spGet hkcEntInit h.ents e
def Hkc.setEnt (h : Hkc) (e : Nat) (x : HkcEnt) : Hkc := { h with ents := spSet hkcEntInit h.ents e x }

/-! ## A set: the words of SEQ_CTRL, SEQ_CFG2, the patterns, then CFG and FILT of each entry (R401) -/

/-- The set the host has written. -/
def Dev.hkcShadow (d : Dev) (c : Nat) : List Nat :=
  ([d.reg (R.HKC_SEQ_CTRL c), d.reg (R.HKC_SEQ_CFG2 c)] ++ (List.range 4).map (fun n => d.reg (R.HKC_EXC_PAT c n)) ++
    (List.range 32).flatMap (fun e => [d.reg (R.HKC_ENT_CFG c e), d.reg (R.HKC_ENT_FILT c e)])).map (·.toNat)

def setWord (s : List Nat) (i : Nat) : Nat := s.getD i 0
def setLast (s : List Nat) : Nat := bitsOf (setWord s 0) 28 24
def setDiv (s : List Nat) : Nat := max 1 (bitsOf (setWord s 0) 23 16)
def setDischarge (s : List Nat) : Nat := max 1 (bitsOf (setWord s 0) 15 8)
def setGuard (s : List Nat) : Nat := bitsOf (setWord s 0) 7 0
def setSettle (s : List Nat) : Nat := max 1 (bitsOf (setWord s 1) 25 16)
def setSampleMin (s : List Nat) : Nat := bitsOf (setWord s 1) 7 0
def setCfg (s : List Nat) (e : Nat) : Nat := setWord s (6 + 2 * e)
def setFilt (s : List Nat) (e : Nat) : Nat := setWord s (7 + 2 * e)
def cfgMux (w : Nat) : Nat := bitsOf w 31 26
def cfgGain (w : Nat) : Nat := bitsOf w 25 23
def cfgExc (w : Nat) : Nat := bitsOf w 22 20
def cfgCombine (w : Nat) : Nat := bitsOf w 19 18
def cfgFifo (w : Nat) : Bool := bitOf w 17
def cfgConv (w : Nat) : Nat := bitsOf w 16 13 + 1
def cfgSample (w : Nat) : Nat := bitsOf w 7 0
def filtKind (w : Nat) : Nat := bitsOf w 31 30

/-- The word of the pattern an entry names; 0 for none. -/
def setPat (s : List Nat) (e : Nat) : Nat := if cfgExc (setCfg s e) = 0 then 0 else setWord s (1 + cfgExc (setCfg s e))

/-- Filter length in passes (R405). -/
def filtLen (div w : Nat) : Nat :=
  if filtKind w = 0 then 1 else if filtKind w = 1 then 6 * div else if filtKind w = 2 then 5 * div else 30 * div

/-- Decimation in force; NONE makes it act as 1 (R399, R405). -/
def filtDec (w : Nat) : Nat := if filtKind w = 0 then 1 else max 1 (bitsOf w 7 0)

def muxListed (m : Nat) : Bool := decide (m ≤ 23 ∨ (32 ≤ m ∧ m ≤ 43) ∨ (48 ≤ m ∧ m ≤ 50) ∨ (52 ≤ m ∧ m ≤ 55))

/-- Does entry `e` switch the input (R396)? Entry 0 always does. -/
def entSwitches (s : List Nat) (e : Nat) : Bool :=
  e = 0 || decide (bitsOf (setCfg s e) 31 23 ≠ bitsOf (setCfg s (e - 1)) 31 23)

/-- Does entry `e` bring its pattern on? Excitation flows only while its entries are sampled, so entry 0 always does
(R403; DEDUCED, log 60). -/
def entExcites (s : List Nat) (e : Nat) : Bool :=
  let x := cfgExc (setCfg s e)
  decide (x ≠ 0) && (e = 0 || decide (x ≠ cfgExc (setCfg s (e - 1))))

/-- t_e of R400, in 10 ns. -/
def entLen (s : List Nat) (e : Nat) : Nat :=
  (if entSwitches s e then 1 + 5 * setDischarge s else 0) + (if entExcites s e then 100 * setSettle s else 0) +
    cfgConv (setCfg s e) * (10 * (cfgSample (setCfg s e) + 1) + 50)

/-- Entries of a pass. -/
def setEntries (s : List Nat) : List Nat := List.range (setLast s + 1)

/-- PASS_LEN in 10 ns (R400). -/
def passLen (s : List Nat) : Nat := sumN ((setEntries s).map (entLen s))

/-- Source `n` of a pattern word: EN, PIN, CUR (R412). -/
def patSrc (w n : Nat) : Bool × Nat × Nat := (bitOf w (6 * n + 5), bitsOf w (6 * n + 4) (6 * n + 3), bitsOf w (6 * n + 2) (6 * n))

/-- Sources a pattern enables. -/
def patOn (w : Nat) : List Nat := (List.range 4).filter (fun n => (patSrc w n).1)

/-- Table 16.3 code 2. -/
def badEntry (s : List Nat) (e : Nat) : Bool :=
  let w := setCfg s e
  !muxListed (cfgMux w) || decide (5 < cfgGain w) || decide (4 < cfgExc w) || decide (cfgCombine w = 3) ||
    (e = 0 && decide (cfgCombine w ≠ 0)) || decide (bitsOf w 12 8 ≠ 0) || decide (bitsOf (setFilt s e) 29 8 ≠ 0)

/-- Code 3. -/
def badDec (s : List Nat) (e : Nat) : Bool := decide (filtLen (setDiv s) (setFilt s e) % filtDec (setFilt s e) ≠ 0)

/-- Code 4: `owner` is HKC_EXC_OWNER. -/
def notOwned (owner c : Nat) (s : List Nat) (e : Nat) : Bool :=
  (patOn (setPat s e)).any (fun n => decide (b2n (bitOf owner n) ≠ c))

/-- Code 5: two sources on one pin, or a pin both driven and sunk. -/
def excConflict (s : List Nat) (e : Nat) : Bool :=
  let w := setPat s e
  let pins := (patOn w).map (fun n => (patSrc w n).2.1)
  !decide pins.Nodup || pins.any (fun p => bitOf w (24 + p))

/-- Code 6: the pass is longer than T_pass − 1 µs. -/
def passTooLong (s : List Nat) : Bool := decide (1000000 < 3 * setDiv s * (passLen s + 100))

/-- The set check of Table 16.3 over the entries of a pass: the code and the entry, none where the rule names no entry. -/
def Dev.hkcCheck (d : Dev) (c : Nat) (s : List Nat) : Nat × Option Nat :=
  let owner := d.f F.HKC_EXC_OWNER.OWNER
  let first (p : Nat → Bool) : Option Nat := (setEntries s).find? p
  if !d.awake then (1, some 0)
  else match first (badEntry s) with
    | some e => (2, some e)
    | none => match first (badDec s) with
      | some e => (3, some e)
      | none => match first (notOwned owner c s) with
        | some e => (4, some e)
        | none => match first (excConflict s) with
          | some e => (5, some e)
          | none => if passTooLong s then (6, none) else (0, some 0)

/-- What a new set changes of entry `e`; none when its settings stay (R401, R406). -/
def entChange (old new : List Nat) (e : Nat) : Option HkcChange :=
  let a := setCfg old e
  let b := setCfg new e
  let exc := decide (setPat old e ≠ setPat new e ∨ cfgExc a ≠ cfgExc b)
  if a = b ∧ setFilt old e = setFilt new e ∧ !exc then none
  else some ⟨decide (cfgMux a ≠ cfgMux b), exc, decide (cfgGain a ≠ cfgGain b), decide (setFilt old e ≠ setFilt new e)⟩

/-- Changes that wait for the same pass join. -/
def joinChange : Option HkcChange → Option HkcChange → Option HkcChange
  | none, y => y
  | x, none => x
  | some x, some y => some ⟨x.mux || y.mux, x.exc || y.exc, x.gain || y.gain, x.filt || y.filt⟩

/-- The set comes into force. -/
def Hkc.applySet (h : Hkc) (new : List Nat) : Hkc :=
  let h' := (List.range 32).foldl (fun (x : Hkc) e =>
    x.setEnt e { x.ent e with change := joinChange (x.ent e).change (entChange h.live new e) }) h
  { h' with live := new }

/-- Check the written set and apply it; the code is recorded with the entry (R401). True when it applied. -/
def Dev.hkcApply (d : Dev) (c : Nat) : Dev × Bool :=
  let s := d.hkcShadow c
  let r := d.hkcCheck c s
  let (e, d) := match r.2 with
    | some e => (e, d)
    | none => d.freeNat 5
  let d := (d.setF (F.HKC_SEQ_STATUS.ERR c) r.1).setF (F.HKC_SEQ_STATUS.ERR_ENTRY c) e
  if r.1 = 0 then ((d.setHkc c ((d.hkcOf c).applySet s)).setF (F.HKC_PASS_LEN.PASS_LEN c) (passLen s), true) else (d, false)

/-- RUN = 1 with the sequencer stopped (R401); a start that fails leaves RUN = 0. -/
def Dev.hkcStart (d : Dev) (c : Nat) : Dev :=
  let r := d.hkcApply c
  ((r.1.setB (F.HKC_SEQ_CTRL.RUN c) r.2).setB (F.HKC_SEQ_STATUS.RUNNING c) r.2)

def Dev.hkcStop (d : Dev) (c : Nat) : Dev :=
  (d.setF (F.HKC_SEQ_CTRL.RUN c) 0).setF (F.HKC_SEQ_STATUS.RUNNING c) 0

/-- A write of HKC_SEQ_CTRL: the fields, then COMMIT, then RUN. -/
def Dev.hkcCtrlWrite (d : Dev) (c : Nat) (v : Word) : Dev :=
  let was := d.on (F.HKC_SEQ_CTRL.RUN c)
  let commit := d.on (F.HKC_SEQ_CTRL.COMMIT c) || bitOf v.toNat 30
  let d := (d.setReg (R.HKC_SEQ_CTRL c) (v &&& 0x1FFFFFFF#32)).setB (F.HKC_SEQ_CTRL.COMMIT c) commit
  let d := d.setB (F.HKC_SEQ_CTRL.RUN c) was
  if bitOf v.toNat 31 then (if was then d else d.hkcStart c) else if was then d.hkcStop c else d

/-! ## Conversions and values -/

/-- Is input `m` single-ended? -/
def muxSingle (m : Nat) : Bool := decide (m ≤ 23)

/-- Limits of r (R394). -/
def rawLo (m : Nat) : Int := if muxSingle m then 0 else -8192
def rawHi (m : Nat) : Int := if muxSingle m then 16383 else 8191

/-- y of R395, in 1/16 LSB. -/
def hkcCorrect (ofs gcf r : Int) : Int := divFloor ((16 * r - ofs) * gcf + 8192) 16384

/-- div_floor(2 × Σ + n, 2 × n) (R397, R405). -/
def meanHalfUp (sum : Int) (n : Nat) : Int := divFloor (2 * sum + n) (2 * n)

/-- An entry's per-pass value with its reason, and whether a source missed its compliance (R397, R403, R406): `x` are the
conversions, each the rounded code before the clamp of R394 and whether a source fell short. -/
def Dev.hkcEntry (d : Dev) (c : Nat) (s : List Nat) (e : Nat) (x : List (Int × Bool)) : Int × Nat × Bool :=
  let w := setCfg s e
  let m := cfgMux w
  let n := cfgConv w
  let conv := (List.range n).map (fun i => let p := x.getD i (0, false); (clampI p.1 (rawLo m) (rawHi m), p.2 && decide (patOn (setPat s e) ≠ [])))
  let bad := entSwitches s e && decide (cfgSample w < setSampleMin s)
  let used := if bad && decide (1 < n) then conv.drop 1 else conv
  let g := cfgGain w
  let ys := used.map (fun p => hkcCorrect (d.fi (F.HKC_CAL.OFS c g)) (d.f (F.HKC_CAL.GCF c g)) p.1)
  let reason := if used.any (·.2) then 6 else if used.any (fun p => decide (p.1 = rawLo m ∨ p.1 = rawHi m)) then 5
    else if bad && decide (n = 1) then 4 else 0
  (meanHalfUp (sumI ys) used.length, reason, conv.any (·.2))

/-- What R406 makes of a value of this entry in this pass. -/
def entReason (x : HkcEnt) (ch : Option HkcChange) (r : Nat) : Nat :=
  let r := if 0 < x.guard then max r 1 else r
  match ch with
  | some k => max r (if k.filt then 3 else if k.gain then 2 else 0)
  | none => r

/-- The entry at the start of a pass: a change pass clears a changed filter, restarts the decimation and the count of GUARD
and of values (R407). -/
def HkcEnt.begin (x : HkcEnt) (guard : Nat) : HkcEnt :=
  match x.change with
  | none => x
  | some k =>
    { x with
      hist := if k.filt then [] else x.hist, since := some 0, cause := if k.filt then 3 else if k.gain then 2 else 1,
      guard := if k.mux || k.exc then guard else x.guard, emit := 0 }

/-- The longest window: 30 × 255 passes. -/
def hkcWindow : Nat := 7650

/-- The output of R405 and its reason (R407). -/
def HkcEnt.output (x : HkcEnt) (l : Nat) : Int × Nat :=
  let win := x.hist.take l
  let v := meanHalfUp (sumI (win.map (·.1))) l
  let worst := win.foldl (fun a p => max a p.2) 0
  let before := match x.since with
    | some n => decide (n < l)
    | none => false
  (v, if before then x.cause else if win.length < l then max 1 worst else worst)

/-- The words of a result (Table 16.6). -/
def hkcWords (c e : Nat) (uncal : Bool) (v : Int) (reason pass : Nat) : Nat × Nat :=
  (b2n (decide (reason = 0)) * 2 ^ 31 + b2n uncal * 2 ^ 30 + reason * 2 ^ 27 + e * 2 ^ 22 + c * 2 ^ 21 +
    unsigned 20 (clampI v (-524287) 524287), pass % 65536 * 2 ^ 16)

/-- FIFO of 32 results: LEVEL counts a result of which a word is still to be read. -/
def Dev.setFifo (d : Dev) (c : Nat) (q : List Nat) : Dev :=
  (d.setHkc c { d.hkcOf c with fifo := q }).setF (F.HKC_FIFO_STATUS.LEVEL c) ((q.length + 1) / 2)

def Dev.hkcPush (d : Dev) (c : Nat) (w : Nat × Nat) : Dev :=
  let q := (d.hkcOf c).fifo
  if 64 < q.length + 2 then (d.flag (F.HKC_SEQ_STATUS.FIFO_OVF c)).count (F.HKC_FIFO_STATUS.OVF_CNT c) 1
  else d.setFifo c (q ++ [w.1, w.2])

/-- Write an output to HKC_RES and, for FIFO_EN = 1, to the FIFO (R409). -/
def Dev.hkcEmit (d : Dev) (c e : Nat) (fifo : Bool) (v : Int) (reason : Nat) : Dev :=
  let w := hkcWords c e (!d.hkcCal) v reason (d.f (F.HKC_SEQ_STATUS.PASS_CNT c))
  let d := (d.setReg (R.HKC_RES_W0 c e) (BitVec.ofNat 32 w.1)).setReg (R.HKC_RES_W1 c e) (BitVec.ofNat 32 w.2)
  if fifo then d.hkcPush c w else d

/-- Excitation at an entry: on with its break step or start, off after its last sampling phase unless the next entry names
the same pattern (R403). Pattern 0 of the report is none. -/
def Dev.hkcExcite (d : Dev) (c : Nat) (s : List Nat) (e : Nat) : Dev :=
  let x := cfgExc (setCfg s e)
  let d := if entExcites s e then d.emit (.excite c x) else d
  if x ≠ 0 ∧ (e = setLast s ∨ cfgExc (setCfg s (e + 1)) ≠ x) then d.emit (.excite c 0) else d

/-- One entry of a pass; `acc` carries the value and reason of the entry before it (R404). -/
def Dev.hkcRunEntry (acc : Dev × Int × Nat) (c : Nat) (s : List Nat) (e : Nat) (conv : List (Int × Bool)) :
    Dev × Int × Nat :=
  let d := acc.1.hkcExcite c s e
  let r := d.hkcEntry c s e conv
  let d := d.flagIf r.2.2 (F.HKC_SEQ_STATUS.EXC_FAULT c)
  let ch := ((d.hkcOf c).ent e).change
  let x := ((d.hkcOf c).ent e).begin (setGuard s)
  let own := (r.1, entReason x ch r.2.1)
  let w := setCfg s e
  let j := if cfgCombine w = 1 then (divFloor (own.1 + acc.2.1 + 1) 2, max own.2 acc.2.2)
    else if cfgCombine w = 2 then (divFloor (own.1 - acc.2.1 + 1) 2, max own.2 acc.2.2) else own
  let x := { x with
    hist := (j :: x.hist).take hkcWindow, since := x.since.map (· + 1), guard := x.guard - 1, change := none }
  let out := x.output (filtLen (setDiv s) (setFilt s e))
  let due := decide (x.emit = 0)
  let d := d.setHkc c ((d.hkcOf c).setEnt e { x with emit := if due then filtDec (setFilt s e) - 1 else x.emit - 1 })
  (if due then d.hkcEmit c e (cfgFifo w) out.1 out.2 else d, own.1, own.2)

/-- A pass starts and runs (R398, R401, R410): `conv` lists each entry's conversions. -/
def Dev.hkcPass (d : Dev) (c : Nat) (conv : List (List (Int × Bool))) : Dev :=
  if !d.on (F.HKC_SEQ_CTRL.RUN c) then d
  else
    let d := if d.on (F.HKC_SEQ_CTRL.COMMIT c) then
        let r := (d.setF (F.HKC_SEQ_CTRL.COMMIT c) 0).hkcApply c
        r.1.flagIf (!r.2) (F.HKC_SEQ_STATUS.COMMIT_REFUSED c)
      else d
    let b := d.f F.TIM_CFG.HKC_BASE
    let d := (d.set64 (R.HKC_PASS_TIME_LO c) (R.HKC_PASS_TIME_HI c) (d.stampVal b)).stamped b 1
    let d := d.setF (F.HKC_SEQ_STATUS.PASS_CNT c) (d.f (F.HKC_SEQ_STATUS.PASS_CNT c) + 1)
    let s := (d.hkcOf c).live
    ((setEntries s).foldl (fun acc e => Dev.hkcRunEntry acc c s e (conv.getD e [])) (d, 0, 0)).1

/-- A read of HKC_FIFO_WIN (R409): the next word and the device; an empty FIFO gives 0 and an access error. -/
def Dev.hkcPop (d : Dev) (rq : Req) (c : Nat) (off : Nat) : Nat × Dev :=
  match (d.hkcOf c).fifo with
  | [] => (0, d.accessErr rq false .emptyRead off)
  | w :: t => (w, d.setFifo c t)

/-! ## Self-calibration (R411) -/

/-- I16 of R411. -/
def Dev.hkcIdeal (d : Dev) : Int := divFloor (131072 * d.bgUv + 625000) 1250000

/-- The factors of one gain, or the code of Table 16.7: m0 and m1 in 1/16 LSB. -/
def Dev.hkcFactors (d : Dev) (m0 m1 : Int) (sources : Bool) : Except Nat (Int × Int) :=
  if 1024 < m0.natAbs then .error 3
  else if m1 = m0 then .error 4
  else
    let gcf := divFloor (2 * d.hkcIdeal * 16384 + (m1 - m0)) (2 * (m1 - m0))
    if gcf < 15565 ∨ 17203 < gcf then .error 4 else if !sources then .error 5 else .ok (m0, gcf)

/-- Every converter and gain in order; the first failure ends the run. -/
def Dev.hkcMeasure (d : Dev) (x : List (Int × Int × Bool)) : Except Nat (List (Int × Int)) :=
  (List.range 12).foldl (fun acc i =>
    match acc with
    | .error e => .error e
    | .ok l => let p := x.getD i (0, 0, false)
      match d.hkcFactors p.1 p.2.1 p.2.2 with
      | .error e => .error e
      | .ok f => .ok (l ++ [f])) (.ok [])

/-- Run the self-calibration: factors at once on success, none on failure. -/
def Dev.hkcSelfcal (d : Dev) (x : List (Int × Int × Bool)) : Dev × Nat :=
  let fin (d : Dev) (code : Nat) : Dev × Nat :=
    (((d.setF F.HKC_CAL_STATUS.RESULT code).setB F.HKC_CAL_STATUS.CAL_OK (decide (code = 0))).flag F.HKC_CAL_STATUS.DONE, code)
  match d.hkcMeasure x with
  | .error e => fin d e
  | .ok l =>
    let d := (List.range 12).foldl (fun (d : Dev) i =>
      let f := l.getD i (0, 0)
      (d.setFI (F.HKC_CAL.OFS (i / 6) (i % 6)) f.1).setFI (F.HKC_CAL.GCF (i / 6) (i % 6)) f.2) d
    fin { d with hkcCal := true } 0

/-- CAL_RUN HKC_SELFCAL; a run refused before it begins leaves CAL_OK. -/
def Dev.hkcCalRun (d : Dev) (src : Src) (x : List (Int × Int × Bool)) : Dev :=
  let refuse (code : Nat) : Dev :=
    ((d.setF F.HKC_CAL_STATUS.RESULT code).flag F.HKC_CAL_STATUS.DONE).complete src (stCode code)
  if !d.modeIn [.standby, .calibrate, .service] then refuse 1
  else if d.on (F.HKC_SEQ_CTRL.RUN 0) || d.on (F.HKC_SEQ_CTRL.RUN 1) then refuse 2
  else
    let r := d.hkcSelfcal x
    r.1.complete src (stResult r.2)

/-! ## Meanings -/

def execHkcSelfcal (src : Src) (x : List (Int × Int × Bool)) (s : State) : Host.Outcome State Fault Refusal :=
  s.lift (·.hkcCalRun src x)

def execHkcPassStart (c : Fin 2) (conv : List (List (Int × Bool))) (s : State) : Host.Outcome State Fault Refusal :=
  s.lift (·.hkcPass c conv)

/-- A write of 1 to COMMIT with the other fields as they are. -/
def execHkcCommit (c : Fin 2) (s : State) : Host.Outcome State Fault Refusal :=
  s.lift (fun d => if d.awake then d.setF (F.HKC_SEQ_CTRL.COMMIT c) 1 else d)

/-- A write of RUN = 1 with the other fields as they are. -/
def execHkcRunStart (c : Fin 2) (s : State) : Host.Outcome State Fault Refusal :=
  s.lift (fun d => if d.awake && !d.on (F.HKC_SEQ_CTRL.RUN c) then d.hkcStart c else d)

def execHkcFifoPop (rq : Req) (c : Fin 2) (off : Fin 64) (s : State) : Host.Outcome State Fault Refusal :=
  s.lift (fun d =>
    if d.awake then
      let a := 0xC0400 + 0x1000 * c.val + 4 * off.val
      let r := d.hkcPop rq c a
      r.2.emit (.readData a r.1)
    else d)

end Sys2Proof.Machine
end

