-- ==== Sys2Proof/Machine/Crypto.lean ====
section
/-! DEFINITION. The digests and signatures the device uses: SHA-512 and Ed25519 (spec 19_security_and_stores.md R464, which
names RFC 8032). The algorithms themselves are PRESUMED from FIPS 180-4 and RFC 8032 (log 70). -/

namespace Sys2Proof.Machine

/-! ## SHA-512 -/

abbrev W64 := BitVec 64

/-- The fractional parts of the cube roots of the first 80 primes. -/
def shaK : List W64 :=
  [0x428A2F98D728AE22, 0x7137449123EF65CD, 0xB5C0FBCFEC4D3B2F, 0xE9B5DBA58189DBBC] ++
  [0x3956C25BF348B538, 0x59F111F1B605D019, 0x923F82A4AF194F9B, 0xAB1C5ED5DA6D8118] ++
  [0xD807AA98A3030242, 0x12835B0145706FBE, 0x243185BE4EE4B28C, 0x550C7DC3D5FFB4E2] ++
  [0x72BE5D74F27B896F, 0x80DEB1FE3B1696B1, 0x9BDC06A725C71235, 0xC19BF174CF692694] ++
  [0xE49B69C19EF14AD2, 0xEFBE4786384F25E3, 0x0FC19DC68B8CD5B5, 0x240CA1CC77AC9C65] ++
  [0x2DE92C6F592B0275, 0x4A7484AA6EA6E483, 0x5CB0A9DCBD41FBD4, 0x76F988DA831153B5] ++
  [0x983E5152EE66DFAB, 0xA831C66D2DB43210, 0xB00327C898FB213F, 0xBF597FC7BEEF0EE4] ++
  [0xC6E00BF33DA88FC2, 0xD5A79147930AA725, 0x06CA6351E003826F, 0x142929670A0E6E70] ++
  [0x27B70A8546D22FFC, 0x2E1B21385C26C926, 0x4D2C6DFC5AC42AED, 0x53380D139D95B3DF] ++
  [0x650A73548BAF63DE, 0x766A0ABB3C77B2A8, 0x81C2C92E47EDAEE6, 0x92722C851482353B] ++
  [0xA2BFE8A14CF10364, 0xA81A664BBC423001, 0xC24B8B70D0F89791, 0xC76C51A30654BE30] ++
  [0xD192E819D6EF5218, 0xD69906245565A910, 0xF40E35855771202A, 0x106AA07032BBD1B8] ++
  [0x19A4C116B8D2D0C8, 0x1E376C085141AB53, 0x2748774CDF8EEB99, 0x34B0BCB5E19B48A8] ++
  [0x391C0CB3C5C95A63, 0x4ED8AA4AE3418ACB, 0x5B9CCA4F7763E373, 0x682E6FF3D6B2B8A3] ++
  [0x748F82EE5DEFB2FC, 0x78A5636F43172F60, 0x84C87814A1F0AB72, 0x8CC702081A6439EC] ++
  [0x90BEFFFA23631E28, 0xA4506CEBDE82BDE9, 0xBEF9A3F7B2C67915, 0xC67178F2E372532B] ++
  [0xCA273ECEEA26619C, 0xD186B8C721C0C207, 0xEADA7DD6CDE0EB1E, 0xF57D4F7FEE6ED178] ++
  [0x06F067AA72176FBA, 0x0A637DC5A2C898A6, 0x113F9804BEF90DAE, 0x1B710B35131C471B] ++
  [0x28DB77F523047D84, 0x32CAAB7B40C72493, 0x3C9EBE0A15C9BEBC, 0x431D67C49C100D4C] ++
  [0x4CC5D4BECB3E42B6, 0x597F299CFC657E2A, 0x5FCB6FAB3AD6FAEC, 0x6C44198C4A475817]

/-- The fractional parts of the square roots of the first 8 primes. -/
def shaInit : List W64 :=
  [0x6A09E667F3BCC908, 0xBB67AE8584CAA73B, 0x3C6EF372FE94F82B, 0xA54FF53A5F1D36F1,
   0x510E527FADE682D1, 0x9B05688C2B3E6C1F, 0x1F83D9ABFB41BD6B, 0x5BE0CD19137E2179]

def beNat (l : List Byte) : Nat := l.foldl (fun a b => a * 256 + b.toNat) 0

/-- Most significant byte first. -/
def beBytes (n v : Nat) : List Byte := (leBytes n v).reverse

/-- The message with its padding. -/
def shaPad (m : List Byte) : List Byte :=
  m ++ [0x80] ++ List.replicate ((239 - m.length % 128) % 128) 0 ++ beBytes 16 (8 * m.length)

def shaWords : Nat → List Byte → List W64
  | 0, _ => []
  | n + 1, l => BitVec.ofNat 64 (beNat (l.take 8)) :: shaWords n (l.drop 8)

def sigma0 (x : W64) : W64 := x.rotateRight 1 ^^^ x.rotateRight 8 ^^^ (x >>> 7)
def sigma1 (x : W64) : W64 := x.rotateRight 19 ^^^ x.rotateRight 61 ^^^ (x >>> 6)
def bigSigma0 (x : W64) : W64 := x.rotateRight 28 ^^^ x.rotateRight 34 ^^^ x.rotateRight 39
def bigSigma1 (x : W64) : W64 := x.rotateRight 14 ^^^ x.rotateRight 18 ^^^ x.rotateRight 41

/-- One round; `w` is the window of 16 schedule words. -/
def shaRound (st : List W64 × List W64) (k : W64) : List W64 × List W64 :=
  let w := st.2
  let next := sigma1 (w.getD 14 0) + w.getD 9 0 + sigma0 (w.getD 1 0) + w.getD 0 0
  match st.1 with
  | [a, b, c, d, e, f, g, h] =>
    let t1 := h + bigSigma1 e + ((e &&& f) ^^^ (~~~e &&& g)) + k + w.getD 0 0
    let t2 := bigSigma0 a + ((a &&& b) ^^^ (a &&& c) ^^^ (b &&& c))
    ([t1 + t2, a, b, c, d + t1, e, f, g], w.drop 1 ++ [next])
  | l => (l, w)

def shaBlock (h : List W64) (block : List Byte) : List W64 :=
  (h.zip (shaK.foldl shaRound (h, shaWords 16 block)).1).map (fun p => p.1 + p.2)

def shaBlocks : Nat → List W64 → List Byte → List W64
  | 0, h, _ => h
  | n + 1, h, m => shaBlocks n (shaBlock h (m.take 128)) (m.drop 128)

/-- SHA-512. -/
def sha512 (m : List Byte) : List Byte :=
  let p := shaPad m
  (shaBlocks (p.length / 128) shaInit p).flatMap (fun w => beBytes 8 w.toNat)

/-! ## Ed25519 -/

/-- The field's prime 2^255 − 19. -/
def edP : Nat := 2 ^ 255 - 19
/-- The order of the base point. -/
def edL : Nat := 2 ^ 252 + 27742317777372353535851937790883648493
/-- The curve's d = −121665 / 121666. -/
def edD : Nat := 37095705934669439343138083508754565189542113879843219016388785533085940283555

def powFuel : Nat → Nat → Nat → Nat → Nat
  | 0, _, _, _ => 1
  | n + 1, b, e, m => if e = 0 then 1 else
    let h := powFuel n (b * b % m) (e / 2) m
    if e % 2 = 1 then h * b % m else h

/-- b^e mod m for e below 2^256. -/
def powMod (b e m : Nat) : Nat := powFuel 256 (b % m) e m

def subP (a b : Nat) : Nat := (a + (edP - b % edP)) % edP

/-- A point in extended coordinates X, Y, Z, T. -/
structure EdPoint where
  x : Nat
  y : Nat
  z : Nat
  t : Nat
  deriving DecidableEq, Repr

def edZero : EdPoint := ⟨0, 1, 1, 0⟩

def edBase : EdPoint :=
  let x := 15112221349535400772501151409588531511454012693041857206046113283949847762202
  let y := 46316835694926478169428394003475163141307993866256225615783033603165251855960
  ⟨x, y, 1, x * y % edP⟩

def edAdd (p q : EdPoint) : EdPoint :=
  let a := subP p.y p.x * subP q.y q.x % edP
  let b := (p.y + p.x) * (q.y + q.x) % edP
  let c := 2 * p.t * q.t * edD % edP
  let d := 2 * p.z * q.z % edP
  let e := subP b a
  let f := subP d c
  let g := (d + c) % edP
  let h := (b + a) % edP
  ⟨e * f % edP, g * h % edP, f * g % edP, e * h % edP⟩

def edMulFuel : Nat → Nat → EdPoint → EdPoint
  | 0, _, _ => edZero
  | n + 1, k, p =>
    if k = 0 then edZero
    else
      let h := edMulFuel n (k / 2) (edAdd p p)
      if k % 2 = 1 then edAdd h p else h

/-- k × p for k below 2^512. -/
def edMul (k : Nat) (p : EdPoint) : EdPoint := edMulFuel 512 k p

def edEq (p q : EdPoint) : Bool :=
  decide (p.x * q.z % edP = q.x * p.z % edP) && decide (p.y * q.z % edP = q.y * p.z % edP)

/-- The 32-byte code of a point: y, with the parity of x in the top bit. -/
def edEncode (p : EdPoint) : List Byte :=
  let zi := powMod p.z (edP - 2) edP
  leBytes 32 (p.y * zi % edP + p.x * zi % edP % 2 * 2 ^ 255)

/-- The point that 32 bytes spell, if any. -/
def edDecode (b : List Byte) : Option EdPoint :=
  let v := leNat b
  let y := v % 2 ^ 255
  let sign := v / 2 ^ 255 % 2
  if b.length ≠ 32 ∨ edP ≤ y then none
  else
    let u := subP (y * y) 1
    let w := (edD * (y * y % edP) + 1) % edP
    let c := u * powMod w 3 edP % edP * powMod (u * powMod w 7 edP) ((edP - 5) / 8) edP % edP
    let wc := w * c % edP * c % edP
    let root := if wc = u then some c
      else if wc = subP 0 u then some (c * powMod 2 ((edP - 1) / 4) edP % edP) else none
    match root with
    | none => none
    | some x =>
      if x = 0 ∧ sign = 1 then none
      else
        let x := if x % 2 = sign then x else edP - x
        some ⟨x, y, 1, x * y % edP⟩

/-- Verify signature `sig` of message `m` under public key `key`: [8][S]B = [8]R + [8][k]A (RFC 8032). -/
def edVerify (key m sig : List Byte) : Bool :=
  let r := sig.take 32
  let s := leNat (sig.drop 32)
  match edDecode r, edDecode key with
  | some rp, some a =>
    let k := leNat (sha512 (r ++ key ++ m)) % edL
    decide (sig.length = 64) && decide (s < edL) && edEq (edMul (8 * s) edBase) (edAdd (edMul 8 rp) (edMul (8 * k) a))
  | _, _ => false

/-- The secret scalar of a seed. -/
def edScalar (seed : List Byte) : Nat :=
  let n := leNat ((sha512 seed).take 32)
  n % 2 ^ 254 / 8 * 8 + 2 ^ 254

/-- The public key of a seed. -/
def edPublic (seed : List Byte) : List Byte := edEncode (edMul (edScalar seed) edBase)

/-- Sign message `m`. -/
def edSign (seed m : List Byte) : List Byte :=
  let a := edScalar seed
  let pub := edPublic seed
  let r := leNat (sha512 ((sha512 seed).drop 32 ++ m)) % edL
  let rb := edEncode (edMul r edBase)
  rb ++ leBytes 32 ((r + leNat (sha512 (rb ++ pub ++ m)) % edL * a) % edL)

/-- Does `sig` verify over the digest of `signed` (R464)? -/
def sigOver (key signed sig : List Byte) : Bool := edVerify key (sha512 signed) sig

end Sys2Proof.Machine
end

