-- ==== Sys2Proof/Machine/Security.lean ====
section
/-! DEFINITION. OTP, firmware images, the calibration store, identity, attestation, OTP requests and the debug unlock (spec
19_security_and_stores.md R464-R485); the ledger's programming (20_spares_and_fault_coverage.md R487, R489). -/

namespace Sys2Proof.Machine

def Dev.setSec (d : Dev) (x : Sec) : Dev := { d with sec := x }
def Dev.otp (d : Dev) : Otp := d.sec.otp
def Dev.setOtp (d : Dev) (o : Otp) : Dev := { d with sec := { d.sec with otp := o } }

/-- Are all bytes of a part of a buffer 0? -/
def zeros (b : List Byte) (o n : Nat) : Bool := ((b.drop o).take n).all (fun x => decide (x = 0))
/-- Bytes of a buffer; missing ones are 0. -/
def part (b : List Byte) (o n : Nat) : List Byte := (List.range n).map (fun i => b.getD (o + i) 0)

/-! ## Key slots and status registers (R465, R466, R484, R485) -/

/-- 0 EMPTY, 1 ACTIVE, 2 REVOKED, 3 SPOILED. -/
def KeySlot.state (k : KeySlot) : Nat :=
  if k.revoked then 2 else if k.active then 1 else if k.digest.all (fun x => decide (x = 0)) then 0 else 3

def Otp.slot (o : Otp) (k : Nat) : KeySlot := o.slots.getD (k - 1) slotEmpty
def Otp.setSlot (o : Otp) (k : Nat) (x : KeySlot) : Otp := { o with slots := o.slots.set (k - 1) x }
def Otp.anyActive (o : Otp) : Bool := o.slots.any (fun k => decide (k.state = 1))
/-- FLAGS: bit 0 ROLLBACK_EN, 1 DEBUG_LOCK, 2 EXP_ROM_DIS, 3 STORE_SIGNED_ONLY. -/
def Otp.flag (o : Otp) (n : Nat) : Bool := bitOf o.flags n

/-- Is a key that of active slot `k`? -/
def Otp.keyOf (o : Otp) (k : Nat) (key : List Byte) : Bool :=
  decide ((o.slot k).state = 1) && decide (sha512 key = (o.slot k).digest)

/-- R484. -/
def Dev.certified (d : Dev) : Bool :=
  d.otp.anyActive && d.otp.flag 1 && d.sec.unlock.isNone && d.otp.flag 0 && d.otp.flag 2

/-- SCOPE that reads: both bits while DEBUG_LOCK = 0 leaves debug open (DEDUCED, log 72). -/
def Dev.scope (d : Dev) : Nat := if d.otp.flag 1 then d.sec.unlock.getD 0 else 3
def Dev.unlocked (d : Dev) : Bool := !d.otp.flag 1 || d.sec.unlock.isSome

/-- The conditions of R498. -/
def Dev.tstActive (d : Dev) : Bool := decide (d.mode = .service) && d.unlocked && bitOf d.scope 0

/-- When the conditions of R498 end, the selectors return to their reset values. -/
def Dev.tstRefresh (d : Dev) : Dev :=
  let d := d.setB F.TST_STATUS.ACTIVE d.tstActive
  if d.tstActive then d
  else (List.range 8).foldl (fun (d : Dev) n => d.setReg (R.TST_DTEST_SEL n) (regReset (R.TST_DTEST_SEL n)))
    ((List.range 4).foldl (fun (d : Dev) n => d.setReg (R.TST_ATEST_SEL n) (regReset (R.TST_ATEST_SEL n))) d)

/-- The status registers show OTP, the ledger, the store and the unlock. -/
def Dev.secRefresh (d : Dev) : Dev :=
  let o := d.otp
  let d := (((d.setB F.SEC_OTP_STATUS.ROLLBACK_EN (o.flag 0)).setB F.SEC_OTP_STATUS.DEBUG_LOCK (o.flag 1)).setB
    F.SEC_OTP_STATUS.EXP_ROM_DIS (o.flag 2)).setB F.SEC_OTP_STATUS.STORE_SIGNED_ONLY (o.flag 3)
  let d := ((d.setB F.SEC_OTP_STATUS.ID_PROGRAMMED o.seed.isSome).setB F.SEC_OTP_STATUS.CERTIFIED d.certified).setF
    F.SEC_OTP_STATUS.SLOT_STATE (sumN ((List.range 4).map (fun i => (o.slot (i + 1)).state * 4 ^ i)))
  let d := (d.setF F.SEC_OTP_STATUS.LEDGER_USED d.ledger.length).setF F.SEC_OTP_STATUS.ROLLBACK_CNT o.rollback
  let d := (d.setB F.SEC_DBG_STATUS.UNLOCKED d.unlocked).setF F.SEC_DBG_STATUS.SCOPE d.scope
  let d := (d.setB F.SEC_STORE_STATUS.VALID d.sec.store.isSome).setF F.SEC_STORE_STATUS.SLOT
    (match d.sec.store with | some x => x.slot | none => 0)
  let d := d.setF F.SEC_STORE_SEQ.SEQ (match d.sec.store with | some x => x.seq | none => 0)
  d.tstRefresh

/-- Words of a ledger slot as its registers read (R497). -/
def Dev.ledgerWord (d : Dev) (n : Nat) (hi : Bool) : Nat := bufNat (d.ledger.getD n []) (if hi then 4 else 0) 4

/-- The LEDGER field as stored: 1,024 bytes, empty slots 0. -/
def Dev.ledgerField (d : Dev) : List Byte := part d.ledger.flatten 0 1024

/-- A queued entry is programmed into the lowest empty slot (R489). -/
def Dev.ledgerWrite (d : Dev) : Dev :=
  match d.ledgerQ with
  | [] => d
  | e :: t =>
    ({ d with ledgerQ := t, ledger := d.ledger ++ [e] }.setF F.SEC_LEDGER_STATUS.QUEUED t.length).setF
      F.SEC_OTP_STATUS.LEDGER_USED (d.ledger.length + 1)

/-! ## Firmware images (R467-R470) -/

def imageBase (slot : Nat) : Nat := slot * 0x400000
def storeBase (slot : Nat) : Nat := 0x800000 + slot * 0x100000

/-- Step 1: the header fields lie within Table 19.3. -/
def imgHeaderOk (h : List Byte) : Bool :=
  let len := bufNat h 8 4
  decide (bufNat h 0 4 = 0x57465A4C) && decide (bufNat h 4 2 = 1) && decide (bufNat h 6 2 = 256) &&
    decide (1 ≤ len ∧ len ≤ 4194048) && decide (bufNat h 12 2 ≤ 64) && zeros h 14 2 &&
    decide (bufNat h 20 4 % 4 = 0 ∧ bufNat h 20 4 < len) && decide (bufNat h 24 1 = 0 ∨ 6 ≤ bufNat h 24 1) && zeros h 25 39

/-- D of R468. -/
def imgDigest (img : List Byte) : List Byte := sha512 (img.take 64 ++ (img.drop 256).take (bufNat img 8 4))

/-- R469 on an image that could be read: the code of Table 19.4. -/
def Otp.imgCheck (o : Otp) (img : List Byte) : Nat :=
  let dg := imgDigest img
  if !imgHeaderOk img then 2
  else if sha512 (part img 64 32) ≠ o.vroot then 3
  else if !edVerify (part img 64 32) dg (part img 96 64) then 4
  else if o.anyActive && !((List.range 4).any (fun i => o.keyOf (i + 1) (part img 160 32)) && edVerify (part img 160 32) dg (part img 192 64)) then 5
  else if o.flag 0 && decide (bufNat img 12 2 < o.rollback) then 6
  else 1

/-- What flash holds of an image. -/
def Dev.flashImage (d : Dev) (slot : Nat) : List Byte :=
  let h := d.flashBytes (imageBase slot) 256
  h ++ (if imgHeaderOk h then d.flashBytes (imageBase slot + 256) (bufNat h 8 4) else [])

/-- The order of R470 step 1: true when image B comes first. -/
def Dev.imgBFirst (d : Dev) : Bool :=
  let a := d.flashBytes (imageBase 0) 64
  let b := d.flashBytes (imageBase 1) 64
  decide (bufNat a 12 2 < bufNat b 12 2 ∨ (bufNat a 12 2 = bufNat b 12 2 ∧ bufNat a 16 4 < bufNat b 16 4))

/-- Examine one image: READ_ERROR when a flash read failed. -/
def Dev.imgTry (d : Dev) (slot : Nat) (readErr : Bool) : Nat := if readErr then 7 else d.otp.imgCheck (d.flashImage slot)

def Dev.imgResult (d : Dev) (slot v : Nat) : Dev :=
  d.setF (if slot = 0 then F.SEC_BOOT_STATUS.IMG_A_RESULT else F.SEC_BOOT_STATUS.IMG_B_RESULT) v

/-- Start an accepted image. -/
def Dev.imgStart (d : Dev) (slot : Nat) (fallback : Bool) : Dev :=
  let h := d.flashImage slot
  let q := bufNat h 24 1
  let d := (((d.setF F.SEC_BOOT_STATUS.FW_SLOT slot).setB F.SEC_BOOT_STATUS.FW_FALLBACK fallback).setF
    F.SEC_BOOT_STATUS.SECURITY_VERSION (bufNat h 12 2)).setF F.SEC_BOOT_STATUS.QSPI_DIV (if q = 0 then 32 else q)
  (d.setF F.SEC_FW_BUILD.BUILD (bufNat h 16 4)).setSec
    { d.sec with image := some ⟨slot, imgDigest h, bufNat h 12 2, bufNat h 16 4⟩ }

/-- Steps 1 to 5 of R470; `ra`, `rb`: a flash read of image A, B fails. False when neither is accepted. -/
def Dev.imgBoot (d : Dev) (ra rb : Bool) : Dev × Bool :=
  let d := (d.imgResult 0 0).imgResult 1 0
  let first := if d.imgBFirst then 1 else 0
  let err (s : Nat) : Bool := if s = 0 then ra else rb
  let r := d.imgTry first (err first)
  let d := d.imgResult first r
  if r = 1 then (d.imgStart first false, true)
  else
    let q := d.imgTry (1 - first) (err (1 - first))
    let d := d.imgResult (1 - first) q
    if q = 1 then (d.imgStart (1 - first) true, true) else (d, false)

/-! ## The calibration store (R474-R478) -/

def storeLen (b : List Byte) : Nat := bufNat b 12 4
def storeSeq (b : List Byte) : Nat := bufNat b 8 4
def storeMagic (b : List Byte) : Bool := decide (bufNat b 0 4 = 0x53435A4C)

/-- MAGIC, VERSION, LENGTH and the other fields lie within Table 19.7. -/
def storeHeaderOk (b : List Byte) : Bool :=
  let s := bufNat b 6 1
  storeMagic b && decide (bufNat b 4 2 = 1) && decide (s ≤ 4) && zeros b 7 1 && decide (1 ≤ storeSeq b ∧ storeSeq b ≤ 0xFFFFFFFE) &&
    decide ((if s = 0 then 192 else 256) ≤ storeLen b ∧ storeLen b ≤ 1048576) && zeros b 16 48 && zeros b 160 32 &&
    (decide (s ≠ 0) || zeros b 64 32)

/-- DIGEST over the header's first bytes and the host data. -/
def storeDigest (b : List Byte) : List Byte :=
  sha512 (b.take 64 ++ (b.drop 192).take (storeLen b - 192 - (if bufNat b 6 1 = 0 then 0 else 64)))

/-- R475 as a code of Table 19.10: 0 valid, 5 header or digest, 7 key, 6 signature. -/
def Otp.storeCheck (o : Otp) (b : List Byte) : Nat :=
  let s := bufNat b 6 1
  if !storeHeaderOk b then 5
  else if storeDigest b ≠ part b 96 64 then 5
  else if s = 0 then (if o.flag 3 then 7 else 0)
  else if !o.keyOf s (part b 64 32) then 7
  else if !edVerify (part b 64 32) (part b 96 64) (part b (storeLen b - 64) 64) then 6 else 0

/-- What flash holds of a slot: the header, and the body that its LENGTH names. -/
def Dev.flashStore (d : Dev) (slot : Nat) : List Byte :=
  let h := d.flashBytes (storeBase slot) 192
  h ++ (if storeLen h ≤ 1048576 then d.flashBytes (storeBase slot + 192) (storeLen h - 192) else [])

def Dev.storeOf (d : Dev) (slot : Nat) : Option StoreSlot :=
  let b := d.flashStore slot
  if d.otp.storeCheck b = 0 then some ⟨slot, storeSeq b, storeLen b, part b 96 64⟩ else none

/-- Step 6 of R470 (R477). -/
def Dev.storeBoot (d : Dev) : Dev :=
  let pick := match d.storeOf 0, d.storeOf 1 with
    | some a, some b => some (if a.seq < b.seq then b else a)
    | some a, none => some a
    | none, b => b
  let rolled := match pick with
    | some x =>
      let other := d.flashBytes (storeBase (1 - x.slot)) 192
      (d.storeOf (1 - x.slot)).isNone && storeMagic other && decide (x.seq < storeSeq other)
    | none => false
  (d.setSec { d.sec with store := pick }).flagIf rolled F.SEC_STORE_STATUS.STORE_ROLLED_BACK

/-- A byte of SEC_STORE_WIN (R478). -/
def Dev.storeByte (d : Dev) (o : Nat) : Byte :=
  match d.sec.store with
  | some x => if o < x.length then d.flashByte (storeBase x.slot + o) else 0
  | none => 0

/-! ## STORE_WRITE (R476, R479-R481) -/

/-- Erase a region of flash. -/
def Dev.flashErase (d : Dev) (a n : Nat) : Dev :=
  { d with flash := d.flash.filter (fun c => !(decide (a ≤ c.1) && decide (c.1 < a + n))) }

/-- Program listed bytes in order. -/
def Dev.flashProgram (d : Dev) (l : List (Nat × Byte)) : Dev := l.foldl (fun (d : Dev) p => d.setFlash p.1 [p.2]) d

def numbered (a : Nat) (b : List Byte) : List (Nat × Byte) := (List.range b.length).zip b |>.map (fun p => (a + p.1, p.2))

/-- Erase, program and read back; answers the device and, unless the power is lost, whether every byte stands as written
(true) or an operation timed out (false). -/
def Dev.flashWrite (d : Dev) (a n : Nat) (l : List (Nat × Byte)) (e : FlashEnd) : Dev × Option Bool :=
  let d := d.flashErase a n
  match e with
  | .done => (d.flashProgram l, some true)
  | .timeout k => (d.flashProgram (l.take k), some false)
  | .lost k => (d.flashProgram (l.take k), none)
  | .worn o b => ((d.flashProgram l).setFlash (a + o) [b], some true)

/-- Report a STORE_WRITE. -/
def Dev.storeReport (d : Dev) (src : Src) (code len : Nat) : Dev :=
  d.complete src (if code = 0 then { stOk with c := len } else stCode code)

/-- Codes 1 and 2, common to every STORE_WRITE. -/
def Dev.storeRefused (d : Dev) : Option Nat :=
  if !d.modeIn [.standby, .calibrate, .service] then some 1
  else if d.on F.SEC_STORE_STATUS.WRITING then some 2 else none

/-- The code for an image result of R469. -/
def imgCode (r : Nat) (keyOk : Bool) : Nat :=
  if r = 1 then 0 else if r = 2 then 5 else if r = 3 then 7 else if r = 4 then 6
  else if r = 5 then (if keyOk then 6 else 7) else 0x0A

/-- The code of Table 19.10 for a host firmware image. -/
def Otp.fwCode (o : Otp) (len : Nat) (img : List Byte) : Nat :=
  if len ≠ 256 + bufNat img 8 4 ∨ img.length ≠ len then 4
  else imgCode (o.imgCheck img) ((List.range 4).any (fun i => o.keyOf (i + 1) (part img 160 32)))

/-- STORE_WRITE FIRMWARE: the slot that is not running (R479). -/
def Dev.writeFirmware (d : Dev) (src : Src) (len : Nat) (img : HostRead) (e : FlashEnd) : Dev :=
  match d.storeRefused, img with
  | some c, _ => d.storeReport src c 0
  | none, .error => d.storeReport src 4 0
  | none, .data b =>
    let c := d.otp.fwCode len b
    if c ≠ 0 then d.storeReport src c 0
    else
      let slot := match d.sec.image with | some i => 1 - i.slot | none => 0
      let r := d.flashWrite (imageBase slot) 0x400000 (numbered (imageBase slot) b) e
      match r.2 with
      | none => r.1.setF F.SEC_STORE_STATUS.WRITING 1
      | some false => r.1.storeReport src 0x0D 0
      | some true =>
        if r.1.otp.imgCheck (r.1.flashImage slot) = 1 then r.1.storeReport src 0 len else r.1.storeReport src 0x0E 0

/-- The code for a host store image: length, R475, then SEQ (R476). -/
def Dev.storeCode (d : Dev) (len : Nat) (b : List Byte) : Nat :=
  let inForce := match d.sec.store with | some x => x.seq | none => 0
  if len ≠ storeLen b ∨ b.length ≠ len then 4
  else if d.otp.storeCheck b ≠ 0 then d.otp.storeCheck b
  else if inForce = 0xFFFFFFFE then 9
  else if storeSeq b ≠ inForce + 1 then 8 else 0

/-- The journalled order: bytes 192 onwards, 64 to 191, 0 to 63. -/
def storeOrder (a : Nat) (b : List Byte) : List (Nat × Byte) :=
  numbered (a + 192) (b.drop 192) ++ numbered (a + 64) ((b.drop 64).take 128) ++ numbered a (b.take 64)

/-- STORE_WRITE CAL_STORE (R476). -/
def Dev.writeCalStore (d : Dev) (src : Src) (len : Nat) (img : HostRead) (e : FlashEnd) : Dev :=
  match d.storeRefused, img with
  | some c, _ => d.storeReport src c 0
  | none, .error => d.storeReport src 4 0
  | none, .data b =>
    let c := d.storeCode len b
    if c ≠ 0 then d.storeReport src c 0
    else
      let slot := match d.sec.store with | some x => 1 - x.slot | none => 0
      let r := d.flashWrite (storeBase slot) 0x100000 (storeOrder (storeBase slot) b) e
      match r.2 with
      | none => r.1.setF F.SEC_STORE_STATUS.WRITING 1
      | some false => r.1.storeReport src 0x0D 0
      | some true =>
        match r.1.storeOf slot with
        | some x => (r.1.setSec { r.1.sec with store := some x }).secRefresh.storeReport src 0 len
        | none => r.1.storeReport src 0x0E 0

/-! ## OTP requests (R480) -/

def Dev.dsn (d : Dev) : Nat := d.r64 R.TOP_DSN_LO R.TOP_DSN_HI

/-- Header fields of Table 19.9. -/
def otpHeaderOk (b : List Byte) : Bool :=
  let op := bufNat b 4 1
  let t := bufNat b 5 1
  let s := bufNat b 6 1
  decide (bufNat b 0 4 = 0x544F5A4C) && (if op = 1 ∨ op = 2 then decide (1 ≤ t ∧ t ≤ 4) else decide (t = 0)) &&
    decide (s ≤ 4) && zeros b 7 1 && (decide (op = 1) || zeros b 16 32) && (decide (s ≠ 0) || (zeros b 48 32 && zeros b 96 64)) &&
    zeros b 84 12

/-- The authorisation that every operation needs: the code, 0 allowed. -/
def Dev.otpAuth (d : Dev) (b : List Byte) : Nat :=
  let s := bufNat b 6 1
  if bufNat b 8 8 ≠ d.dsn then 0x0C
  else if s = 0 then (if d.otp.anyActive then 7 else 0)
  else if !d.otp.keyOf s (part b 48 32) then 7
  else if !sigOver (part b 48 32) (part b 0 96) (part b 96 64) then 6 else 0

/-- Programming a slot: its digest, then its ACTIVE bit unless power is lost between (R466). -/
def Otp.addKey (o : Otp) (k : Nat) (key : List Byte) (cut : Bool) : Otp := o.setSlot k ⟨sha512 key, !cut, false⟩

/-- The operation on an authorised request; an error code, or OTP after it. -/
def Dev.otpOp (d : Dev) (b : List Byte) (cut : Bool) : Except Nat Otp :=
  let o := d.otp
  let t := bufNat b 5 1
  let v := bufNat b 80 4
  let op := bufNat b 4 1
  if op = 1 then (if (o.slot t).state = 0 then .ok (o.addKey t (part b 16 32) cut) else .error 0x0B)
  else if op = 2 then
    if (o.slot t).state = 1 ∧ (o.slots.filter (fun k => decide (k.state = 1))).length = 1 then .error 0x0B
    else .ok (o.setSlot t { o.slot t with revoked := true })
  else if op = 3 then
    let top := match d.sec.image with | some i => i.version | none => 0
    if v < o.rollback ∨ top < v then .error 0x0A else .ok { o with rollback := v }
  else if op = 4 then .ok { o with flags := o.flags ||| v % 16 }
  else .error 0x0B

/-- A STORE_WRITE with STORE = OTP; `cut`: power is lost between the two steps of OEM_KEY_ADD. -/
def Dev.otpRequest (d : Dev) (src : Src) (len : Nat) (img : HostRead) (cut : Bool) : Dev :=
  match d.storeRefused, img with
  | some c, _ => d.storeReport src c 0
  | none, .error => d.storeReport src 4 0
  | none, .data b =>
    if len ≠ 160 ∨ b.length ≠ len then d.storeReport src 4 0
    else if !decide (1 ≤ bufNat b 4 1 ∧ bufNat b 4 1 ≤ 4) then d.storeReport src 0x0B 0
    else if !otpHeaderOk b then d.storeReport src 5 0
    else
      let a := d.otpAuth b
      if a ≠ 0 then d.storeReport src a 0
      else match d.otpOp b cut with
        | .error c => d.storeReport src c 0
        | .ok o =>
          let d := (d.setOtp o).secRefresh
          if cut ∧ bufNat b 4 1 = 1 then d.setF F.SEC_STORE_STATUS.WRITING 1 else d.storeReport src 0 len

/-- Is a request of a row's operation? -/
def otpIs (op : Nat) : HostRead → Bool
  | .data b => decide (bufNat b 4 1 = op)
  | .error => true

/-! ## Identity and attestation (R471-R473) -/

/-- BOOT derives the identity key pair and DSN. -/
def Dev.deriveIdentity (d : Dev) : Dev :=
  let pub := match d.otp.seed with
    | some s => edPublic s
    | none => List.replicate 32 0
  let dsn := match d.otp.seed with
    | some _ => leNat ((sha512 pub).take 8)
    | none => 0
  let d := d.setSec { d.sec with pubkey := pub }
  let d := (List.range 8).foldl (fun (d : Dev) n => d.setReg (R.SEC_ID_PUBKEY n) (BitVec.ofNat 32 (bufNat pub (4 * n) 4))) d
  d.set64 R.TOP_DSN_LO R.TOP_DSN_HI dsn

/-- SEC_FLAGS (Table 19.6). -/
def Dev.secFlags (d : Dev) : Nat :=
  d.otp.flags + b2n d.otp.anyActive * 16 + b2n d.sec.unlock.isSome * 32 + b2n d.certified * 64 +
    b2n (d.on F.SEC_STORE_STATUS.STORE_ROLLED_BACK) * 128 + b2n (d.on F.SEC_BOOT_STATUS.FW_FALLBACK) * 256 +
    b2n (d.on F.CRN_CTRL.CRN_INVALID) * 512

/-- CFG_DIGEST (R473). -/
def Dev.cfgDigest (d : Dev) : List Byte :=
  sha512 (d.otp.slots.flatMap (fun k => k.digest ++ leBytes 1 k.state) ++ leBytes 1 d.otp.flags ++ leBytes 1 d.otp.rollback ++
    (match d.bar with | some b => b.raw | none => []))

/-- Bytes 0 to 447 of the report (Table 19.5). -/
def Dev.attestBody (d : Dev) (nonce : List Byte) : List Byte :=
  let img := d.sec.image.getD ⟨0, List.replicate 64 0, 0, 0⟩
  let st := d.sec.store.getD ⟨0, 0, 0, List.replicate 64 0⟩
  leBytes 4 0x54415A4C ++ leBytes 2 1 ++ leBytes 2 512 ++ part nonce 0 32 ++ img.digest ++ d.cfgDigest ++ st.digest ++
    sha512 d.ledgerField ++ d.sec.pubkey ++ d.otp.cert ++ leBytes 4 d.secFlags ++ leBytes 2 img.version ++ leBytes 1 d.otp.rollback ++
    leBytes 1 img.slot ++ leBytes 4 img.build ++ leBytes 4 d.cairn.1 ++ leBytes 4 d.cairn.2 ++ leBytes 4 st.seq ++ List.replicate 32 0

/-- ATTEST (R472). -/
def Dev.attest (d : Dev) (src : Src) (addr len : Nat) (nonce : List Byte) : Dev :=
  if !d.modeIn [.standby, .calibrate, .run, .service] then d.storeReport src 1 0
  else if len < 512 then d.storeReport src 4 0
  else match d.otp.seed with
    | none => d.storeReport src 0x10 0
    | some seed =>
      let body := d.attestBody nonce
      (d.emit (.hostWrite addr (body ++ edSign seed (sha512 body)) false)).storeReport src 0 512

/-- ATTEST and STORE_WRITE take an address whose bits [2:0] are 0 (Table 11.5). -/
def Dev.attestCmd (d : Dev) (src : Src) (addr len : Nat) (nonce : List Byte) : Dev :=
  if addr % 8 ≠ 0 then d.complete src (stInvalidField 2) else d.attest src addr len nonce

/-- STORE_WRITE: the image is read unless the command is refused before. -/
def Dev.storeCmd (d : Dev) (src : Src) (addr len : Nat) (f : Dev → Dev) : Dev :=
  if addr % 8 ≠ 0 then d.complete src (stInvalidField 2)
  else f (if d.storeRefused.isNone then d.emit (.hostRead addr len) else d)

/-! ## Debug unlock (R482) -/

/-- The challenge leaves SEC_DBG_CHAL_n and CHAL_VALID. -/
def Dev.setChallenge (d : Dev) (c : Option (List Byte)) : Dev :=
  let b := c.getD []
  let d := (List.range 8).foldl (fun (d : Dev) n => d.setReg (R.SEC_DBG_CHAL n) (BitVec.ofNat 32 (bufNat b (4 * n) 4))) d
  (d.setB F.SEC_DBG_STATUS.CHAL_VALID c.isSome).setSec { d.sec with challenge := c }

def Dev.chalReq (d : Dev) : Dev :=
  if 8 ≤ d.f F.SEC_DBG_STATUS.FAIL_CNT then d.setF F.SEC_DBG_STATUS.RESULT 6
  else
    let (n, d) := d.freeNat 256
    d.setChallenge (some (leBytes 32 n))

/-- SEC_DBG_RESP as bytes. -/
def Dev.response (d : Dev) : List Byte := (List.range 36).flatMap (fun n => leBytes 4 (d.reg (R.SEC_DBG_RESP n)).toNat)

/-- The result of a response to challenge `c`: 1 OK, or the first failing check. -/
def Dev.respCheck (d : Dev) (c : List Byte) : Nat :=
  let b := d.response
  let s := bufNat b 4 1
  let key := part b 48 32
  if part b 16 32 ≠ c then 2
  else if bufNat b 8 8 ≠ d.dsn then 3
  else if !(if s = 0 then !d.otp.anyActive && decide (sha512 key = d.otp.vroot) else decide (s ≤ 4) && d.otp.keyOf s key) then 4
  else if decide (bufNat b 0 4 ≠ 0x55445A4C) || decide (4 ≤ bufNat b 5 1) || !zeros b 6 2 then 5
  else if sigOver key (part b 0 80) (part b 80 64) then 1 else 5

def Dev.respGo (d : Dev) : Dev :=
  match d.sec.challenge with
  | none => d.setF F.SEC_DBG_STATUS.RESULT 2
  | some c =>
    let r := d.respCheck c
    let d := (d.setChallenge none).setF F.SEC_DBG_STATUS.RESULT r
    if r = 1 then
      ((d.setF F.SEC_DBG_STATUS.FAIL_CNT 0).setSec { d.sec with unlock := some (bufNat d.response 5 1) }).secRefresh
    else d.setF F.SEC_DBG_STATUS.FAIL_CNT (min 8 (d.f F.SEC_DBG_STATUS.FAIL_CNT + 1))

def Dev.lockNow (d : Dev) : Dev := (d.setSec { d.sec with unlock := none }).secRefresh

/-! ## Meanings -/

def execAttest (src : Src) (addr len : Nat) (nonce : List Byte) (s : State) : Host.Outcome State Fault Refusal :=
  s.lift (·.attestCmd src addr len nonce)

def execStoreWriteFirmware (src : Src) (addr len : Nat) (img : HostRead) (e : FlashEnd) (s : State) :
    Host.Outcome State Fault Refusal := s.lift (·.storeCmd src addr len (·.writeFirmware src len img e))

def execStoreWriteCalStore (src : Src) (addr len : Nat) (img : HostRead) (e : FlashEnd) (s : State) :
    Host.Outcome State Fault Refusal := s.lift (·.storeCmd src addr len (·.writeCalStore src len img e))

/-- Rows of one operation: a request of another operation changes nothing here. -/
def Dev.otpRow (d : Dev) (op : Nat) (src : Src) (addr len : Nat) (img : HostRead) (cut : Bool) : Dev :=
  if otpIs op img then d.storeCmd src addr len (·.otpRequest src len img cut) else d

def execOemKeyAdd (src : Src) (addr len : Nat) (img : HostRead) (cut : Bool) (s : State) : Host.Outcome State Fault Refusal :=
  s.lift (·.otpRow 1 src addr len img cut)

def execOemKeyRevoke (src : Src) (addr len : Nat) (img : HostRead) (s : State) : Host.Outcome State Fault Refusal :=
  s.lift (·.otpRow 2 src addr len img false)

def execRollbackSet (src : Src) (addr len : Nat) (img : HostRead) (s : State) : Host.Outcome State Fault Refusal :=
  s.lift (·.otpRow 3 src addr len img false)

def execOtpLock (src : Src) (addr len : Nat) (img : HostRead) (s : State) : Host.Outcome State Fault Refusal :=
  s.lift (·.otpRow 4 src addr len img false)

def execChalReq (s : State) : Host.Outcome State Fault Refusal := s.lift (fun d => if d.awake then d.chalReq else d)

def execRespGo (s : State) : Host.Outcome State Fault Refusal := s.lift (fun d => if d.awake then d.respGo else d)

def execLockNow (s : State) : Host.Outcome State Fault Refusal := s.lift (fun d => if d.awake then d.lockNow else d)

def execChallengeExpiry (s : State) : Host.Outcome State Fault Refusal :=
  s.lift (fun d => if d.sec.challenge.isSome then d.setChallenge none else d)

def execLedgerWrite (s : State) : Host.Outcome State Fault Refusal := s.lift (·.ledgerWrite)

end Sys2Proof.Machine
end

