-- ==== Sys2Proof/Machine/Drive.lean ====
section
/-! DEFINITION. The motor drive: angle, servo loop, coil demands, microstep tiers, STEP and DIR, standstill, chopper,
over-current, encoders, stall, switches (spec 15_motor_drive_and_stall.md R364-R387). -/

namespace Sys2Proof.Machine

/-! ## Angles (R365) -/

/-- θ of a position in 2^-32 counts, before it wraps at 1,024. -/
def Dev.angleOf (d : Dev) (a : Nat) (x : Int) : Int :=
  divFloor ((x + (d.ax a).eofs * 2 ^ 32) * d.f (F.CHP_EANG_NUM.EANG_NUM a)) (d.f (F.CHP_EANG_DEN.EANG_DEN a) * 2 ^ 32) +
    d.f (F.CHP_EPHASE.EPHASE a)

/-- φ of R384: the lag in −512 to 511, without sign. -/
def lagOf (t m : Int) : Nat := ((t - m + 512) % 1024 - 512).natAbs

/-! ## Microstep tiers (R373, R374) -/

def Dev.tierV (d : Dev) (a k : Nat) : Nat :=
  if k = 1 then d.f (F.CHP_TIER_V1.TV a) else if k = 2 then d.f (F.CHP_TIER_V2.TV a)
  else if k = 3 then d.f (F.CHP_TIER_V3.TV a) else d.f (F.CHP_TIER_V4.TV a)

/-- The tier that a speed selects from the present one. -/
def Dev.tierSelect (d : Dev) (a cur speed : Nat) : Nat :=
  let up := (List.range 4).foldl (fun t _ => if t < 4 ∧ d.tierV a (t + 1) ≤ speed then t + 1 else t) cur
  let dn := (List.range 4).foldl (fun t _ => if 0 < t ∧ speed < d.tierV a t - d.tierV a t / 8 then t - 1 else t) up
  min dn (min 4 (d.f (F.CHP_CFG.MAX_TIER a)))

def tierStep (k : Nat) : Int := if k = 0 then 1 else if k = 1 then 4 else if k = 2 then 16 else if k = 3 then 64 else 256
def tierOffset (k : Nat) : Int := if k = 4 then 128 else 0

/-- Multiples of a step, from an offset, that the way from `p` to `q` passes or reaches, with sign of direction. -/
def crossings (step off p q : Int) : Int :=
  if p ≤ q then divFloor (q - off) step - divFloor (p - off) step
  else -(divFloor (off - q) step - divFloor (off - p) step)

/-- The tier in force and the pending one after a period (R374). -/
def Dev.tierNext (d : Dev) (a : Nat) (x : Axis) (theta : Int) : Nat × Nat :=
  let sel := d.tierSelect a x.tierPend (x.v.natAbs / 2 ^ 20)
  if sel ≤ x.tier then (sel, sel)
  else if crossings (tierStep sel) (tierOffset sel) x.theta theta ≠ 0 then (sel, sel)
  else (x.tier, sel)

/-- θ_out (R374). -/
def thetaOut (tier : Nat) (theta : Int) : Nat :=
  let q := tierOffset tier + tierStep tier * divFloor (theta % 1024 - tierOffset tier) (tierStep tier)
  (q % 1024).toNat

/-! ## Power stage (R364, R372, R376) -/

def Dev.axisMoving (d : Dev) (a : Nat) : Bool :=
  let s := d.axisState a
  decide (s = 1 ∨ s = 2 ∨ s = 3) || decide ((d.ax a).still < d.f (F.CHP_LOOP.HOLD_DELAY a))

/-- What the gates of an axis do in this period. -/
def Dev.powerOf (d : Dev) (a : Nat) : Power :=
  let drive := d.f (F.CHP_CFG.DRIVE_MODE a)
  let policy := if d.axisMoving a then 0 else d.f (F.CHP_CFG.STANDSTILL a)
  if !d.alive || (d.rst.isSome && d.stands a && (d.moveOf a).isNone) || d.on (F.CHP_STATUS.OVERCURRENT a) || (decide (a = 0) && d.follower) then .off
  else if drive = 1 then (if policy = 1 then .off else if policy = 2 then .short else .chop)
  else if drive = 2 then (if policy = 1 then .off else .stepDir)
  else .off

def Dev.coilPhase (d : Dev) (a c : Nat) (p : CoilPhase) (name : String) : Dev :=
  let x := d.ax a
  let k := x.coils.getD c ⟨0, .off, false⟩
  if k.phase = p then d
  else (d.setAx a { x with coils := x.coils.set c { k with phase := p, whole := false } }).emit (.coil a c name)

/-- Change what the gates do; FREE or SHORT without an encoder clears REFERENCED (R376). -/
def Dev.setPower (d : Dev) (a : Nat) (p : Power) : Dev :=
  let x := d.ax a
  if x.power = p then d
  else
    let d := d.setAx a { x with power := p }
    let d := if d.f (F.ENC_CFG.ENC_TYPE a) = 0 ∧ (p = .short ∨ p = .off) ∧ d.alive ∧ !d.axisMoving a ∧
        (d.f (F.CHP_CFG.STANDSTILL a) = 1 ∨ d.f (F.CHP_CFG.STANDSTILL a) = 2) then
      d.setF (F.AXS_REF_STATUS.REFERENCED a) 0 else d
    match p with
    | .off => ((d.coilPhase a 0 .off "OFF").coilPhase a 1 .off "OFF").emit (.gates a false)
    | .short => (d.coilPhase a 0 .short "SHORT").coilPhase a 1 .short "SHORT"
    | .chop => ((d.coilPhase a 0 .slow "SLOW").coilPhase a 1 .slow "SLOW").emit (.gates a true)
    | .stepDir => ((d.coilPhase a 0 .off "OFF").coilPhase a 1 .off "OFF").emit (.gates a true)

/-- A new demand of a coil: 0 stays in SLOW, a change of sign runs FAST before the next ON (R371). -/
def Dev.setDemand (d : Dev) (a c : Nat) (n : Int) : Dev :=
  let x := d.ax a
  let k := x.coils.getD c ⟨0, .off, false⟩
  let d := d.setAx a { x with coils := x.coils.set c { k with demand := n } }
  if n = 0 then d.coilPhase a c .slow "SLOW"
  else if n.sign * k.demand.sign = -1 then d.coilPhase a c .fast "FAST" else d

/-- An ON that lasted the whole period sets CUR_LOW (R371). -/
def Dev.coilPeriod (d : Dev) (a c : Nat) : Dev :=
  let x := d.ax a
  let k := x.coils.getD c ⟨0, .off, false⟩
  let d := d.flagIf (decide (k.phase = .on) && k.whole) (F.CHP_STATUS.CUR_LOW a)
  d.setAx a { d.ax a with coils := (d.ax a).coils.set c { k with whole := decide (k.phase = .on) } }

/-- The comparator of a coil trips; `mon` is its monitor's last conversion (R370, R372). -/
def Dev.chopperTrip (d : Dev) (a c mon : Nat) : Dev :=
  let x := d.ax a
  if x.power ≠ .chop ∨ (x.coils.getD c ⟨0, .off, false⟩).phase ≠ .on then d
  else
    let d := if c = 0 then d.setF (F.CHP_STATUS.IMON_A a) mon else d.setF (F.CHP_IMON_B.IMON_B a) mon
    let frac := min 16 (d.f (F.CHP_CFG.FAST_FRAC a))
    let d := if frac = 0 then d else d.coilPhase a c .fast "FAST"
    if frac = 16 then d else d.coilPhase a c .slow "SLOW"

/-- The next ON of a coil starts (R370); a coil with D = 0 starts none (R371). -/
def Dev.chopperOn (d : Dev) (a c : Nat) : Dev :=
  let x := d.ax a
  let k := x.coils.getD c ⟨0, .off, false⟩
  if x.power ≠ .chop ∨ k.demand = 0 then d else d.coilPhase a c .on "ON"

/-! ## Servo loop (R367, R368, R375, R383, R384) -/

def Dev.noEncoder (d : Dev) (a : Nat) : Bool := decide (d.f (F.ENC_CFG.ENC_TYPE a) = 0)

/-- Does the axis seek a stop with I_REF (R389)? -/
def Axis.seeksStop (x : Axis) : Bool :=
  match x.ref with
  | some r => decide (r.method ≠ 0) && decide (r.step = 1) && r.result.isNone
  | none => false

/-- boost of R384 after a period. -/
def Dev.boostNext (d : Dev) (a phi boost : Nat) : Nat :=
  if d.f (F.AXS_BOOST_CFG.LOAD_HI a) ≤ phi then min (boost + d.f (F.AXS_BOOST_RATE.BOOST_UP a)) (d.f (F.AXS_BOOST_CFG.BOOST_MAX a))
  else if phi < d.f (F.AXS_BOOST_CFG.LOAD_LO a) then boost - d.f (F.AXS_BOOST_RATE.BOOST_DN a) else boost

/-- STEP pulses of a period, with those that do not fit carried on (R375). -/
def Dev.stepPulses (d : Dev) (a : Nat) (theta : Int) : Dev :=
  let x := d.ax a
  let due := x.carry + crossings (2 ^ d.f (F.CHP_STEPDIR.SD_STEP_LOG a)) 0 x.theta theta
  let room : Int := (d.servoPeriod / (2 * max 1 (d.f (F.CHP_STEPDIR.STEP_W a))) : Nat)
  let n := clampI due (-room) room
  let d := (d.setAx a { x with carry := due - n }).flagIf (decide (due ≠ n)) (F.CHP_STATUS.STEP_BEHIND a)
  if n = 0 then d else d.emit (.step a n)

/-- Current amplitude i of R367. -/
def Dev.amplitude (d : Dev) (a : Nat) (lz : Bool) (boost : Nat) (e : Int) : Nat :=
  let x := d.ax a
  let base := if x.seeksStop then (match x.ref with | some r => r.iRef | none => 0)
    else if d.axisMoving a then d.f (F.CHP_CURRENT.I_RUN a) else d.f (F.CHP_CURRENT.I_HOLD a)
  let more := if lz then boost else d.f (F.CHP_LOOP.KP a) * e.natAbs / 256
  min (base + more) (d.f (F.CHP_CURRENT.I_MAX a))

/-- Coil demand of R368 with its sign. -/
def coilDemand (i : Nat) (theta : Nat) : Int :=
  let s := sineOf theta
  s.sign * (((i * s.natAbs + 16384) / 32768 : Nat) : Int)

/-- The servo loop of one axis at the start of a period, with the set-point in force (R367-R376, R383, R384). -/
def Dev.loopAxis (d : Dev) (a : Nat) : Dev :=
  let d := ((d.coilPeriod a 0).coilPeriod a 1).setPower a (d.powerOf a)
  let x := d.ax a
  let e := countOf x.x - d.pos a
  let theta := d.angleOf a x.x
  let phi := lagOf theta (d.angleOf a (d.pos a * 2 ^ 32))
  let drive := d.f (F.CHP_CFG.DRIVE_MODE a)
  let mode := if d.noEncoder a then 0 else d.f (F.AXS_STALL_CFG.STALL_MODE a)
  let lz := decide (mode = 2) && decide (drive = 1)
  let energised := decide (x.power = .chop ∨ x.power = .stepDir) && !d.on (F.ENC_STATUS.ENC_FAULT a)
  let boost := if !lz ∨ !d.axisMoving a then 0 else d.boostNext a phi x.boost
  let dev := if decide (mode = 1) && energised && decide (d.f (F.AXS_STALL_CFG.DEV_WIN a) < e.natAbs) then x.dev + 1 else 0
  let due := if mode = 1 then decide (max 1 (d.f (F.AXS_STALL_CFG.DEV_N a)) ≤ dev)
    else lz && energised && decide (boost = d.f (F.AXS_BOOST_CFG.BOOST_MAX a)) && decide (d.f (F.AXS_BOOST_CFG.LOAD_HI a) ≤ phi)
  let i := d.amplitude a lz boost e
  let t := if drive = 1 then d.tierNext a x theta else (x.tier, x.tierPend)
  let out := thetaOut (if drive = 1 then t.1 else 0) theta
  let d := if x.power = .stepDir then d.stepPulses a theta else d
  let d := d.setAx a { d.ax a with boost := boost, dev := dev, stallDue := due, tier := t.1, tierPend := t.2, theta := theta }
  let d := ((((d.setF (F.AXS_BOOST_RATE.BOOST a) boost).setF (F.AXS_SW_STATUS.PHI a) phi).setF (F.CHP_STATUS.TIER a) t.1).setF
    (F.CHP_STATUS.TIER_PEND a) t.2).setF (F.CHP_STATUS.THETA_OUT a) out
  if x.power = .chop then (d.setDemand a 0 (coilDemand i (out + 256))).setDemand a 1 (coilDemand i out) else d

/-! ## Stops by the drive -/

/-- A stop that sets the set-point to the measured position: every axis of the move takes it, and the move ends. -/
def Dev.haltMove (d : Dev) (a : Nat) (c : StopCause) : Dev :=
  match d.moves.find? (fun m => m.planned && m.has a) with
  | some m => (m.axes.foldl (fun d e => d.halt e.axis) d).endMove (m.stopBy c) .stopped
  | none => d.halt a

/-- A stall flag (R383, R384, Table 14.4), stamped in EDGE_BASE (Table 17.2). -/
def Dev.stallFlag (d : Dev) (a : Nat) : Dev :=
  if !(d.ax a).stallDue then d
  else
    let b := d.f F.TIM_CFG.EDGE_BASE
    let idle := !d.moves.any (fun m => m.planned && m.has a)
    let d := (d.set64 (R.TIM_STALL_TIME_LO a) (R.TIM_STALL_TIME_HI a) (d.stampVal b)).stamped b 1
    let d := d.flag ⟨R.TIM_EVT_STATUS, 16 + a, 16 + a⟩
    let d := (d.flag (F.AXS_SW_STATUS.STALLED a)).flagIf idle (F.AXS_SW_STATUS.STALL_IDLE a)
    let d := d.setAx a { d.ax a with dev := 0, stallDue := false }
    d.haltMove a .stall

/-- OVERCURRENT: gates off, the flag latched, the move over (R372). -/
def Dev.overcurrent (d : Dev) (a c mon : Nat) : Dev :=
  if d.f (F.CHP_CFG.DRIVE_MODE a) ≠ 1 ∨ mon ≤ d.f (F.CHP_LOOP.OC_LIMIT a) then d
  else
    let d := if c = 0 then d.setF (F.CHP_STATUS.IMON_A a) mon else d.setF (F.CHP_IMON_B.IMON_B a) mon
    let d := (d.setF (F.CHP_STATUS.OVERCURRENT a) 1).setPower a .off
    let d := { d with moves := d.moves.map (fun (m : Move) => if m.has a && !m.planned then m.stopBy .fault else m) }
    (d.refFail a 9).haltMove a .fault

def Dev.ocClear (d : Dev) (a : Nat) : Dev :=
  let d := d.setF (F.CHP_STATUS.OVERCURRENT a) 0
  d.setPower a (d.powerOf a)

/-! ## Encoders (R377-R381) -/

/-- An encoder fault (R381). -/
def Dev.encFault (d : Dev) (a cause : Nat) : Dev :=
  let d := if d.on (F.ENC_STATUS.ENC_FAULT a) then d
    else ((d.setF (F.ENC_STATUS.ENC_FAULT a) 1).setF (F.ENC_STATUS.CAUSE a) cause).setF (F.AXS_REF_STATUS.REFERENCED a) 0
  (d.refFail a 5).stopAxes [a] .fault

/-- Causes by ENC_TYPE: ILLEGAL for QUAD, AMPLITUDE for SINCOS, 3 to 5 for SSI. -/
def Dev.encFaultFits (d : Dev) (a cause : Nat) : Bool :=
  let t := d.f (F.ENC_CFG.ENC_TYPE a)
  (decide (t = 1) && decide (cause = 1)) || (decide (t = 2) && decide (cause = 2)) ||
    (decide (t = 3) && decide (3 ≤ cause) && decide (cause ≤ 5))

/-- The measured position moves by `n` counts in the direction that DIR_INV selects. -/
def Dev.encMove (d : Dev) (a : Nat) (n : Int) : Dev :=
  let d := d.setMeasured a (d.measured a + (if d.on (F.ENC_CFG.DIR_INV a) then -n else n))
  if a = 0 then d.surveyWatch d.feedTicks else d

def Dev.encoderCount (d : Dev) (a : Nat) (n : Int) : Dev :=
  let t := d.f (F.ENC_CFG.ENC_TYPE a)
  if !d.alive || !decide (t = 1 ∨ t = 2) then d else d.encMove a n

/-- Gray code to binary, from the top bit down. -/
def grayDecode : Nat → Bool → Nat → Nat
  | 0, _, _ => 0
  | n + 1, prev, w =>
    let b := xor prev (bitOf w n)
    b2n b * 2 ^ n + grayDecode n b w

/-- An SSI frame: `high` is the data line's level at its start, `raw` its SSI_BITS bits (R380). -/
def Dev.ssiFrame (d : Dev) (a raw : Nat) (high : Bool) : Dev :=
  let bits := d.f (F.ENC_CFG.SSI_BITS a)
  if !d.alive || d.f (F.ENC_CFG.ENC_TYPE a) ≠ 3 then d
  else if d.servoPeriod * 4 < (bits + 1) * d.f (F.ENC_CFG.SSI_DIV a) + 56 then d.encFault a 5
  else if !high then d.encFault a 3
  else
    let v := if d.on (F.ENC_CFG.SSI_GRAY a) then grayDecode bits false (raw % 2 ^ bits) else raw % 2 ^ bits
    let x := d.ax a
    let d := d.setAx a { x with ssi := some v }
    match x.ssi with
    | none => d
    | some old =>
      let diff := signed bits (unsigned bits ((v : Int) - old))
      if 2 ^ (bits - 2) < diff.natAbs then d.encFault a 4 else d.encMove a diff

/-! ## Switches (R386, R387) -/

/-- A latch of p and the time; FEED's also in NET time for R440. -/
def Dev.latchEdge (d : Dev) (a : Nat) (pos : Int) (ago : Nat) : Dev :=
  let b := d.f F.TIM_CFG.EDGE_BASE
  let t := d.stampIn b (-(4 * ago : Nat))
  let net := d.baseIn 1 (-(4 * ago : Nat))
  let d := (d.set64 (R.AXS_LATCH_LO a) (R.AXS_LATCH_HI a) (unsigned 64 pos)).set64 (R.AXS_LATCH_TIME_LO a) (R.AXS_LATCH_TIME_HI a) t
  let d := (d.stamped b 1).flag (F.AXS_SW_STATUS.LATCHED a)
  let d := if a = 0 then { d with tet := { d.tet with latchTime := some net, latchPos := pos } } else d
  match (d.ax a).ref with
  | some r => d.setAx a { d.ax a with ref := some { r with latch := some pos } }
  | none => d

/-- A filtered HOME edge to `active` whose first sample saw p = `pos`, or a Z edge (R386). -/
def Dev.switchEdge (d : Dev) (a : Nat) (z active : Bool) (pos : Int) : Dev :=
  if !d.alive then d
  else if z then
    let d := d.setAx a { d.ax a with zLevel := active }
    if d.on (F.AXS_SW_CFG.LATCH_SRC a) then d.latchEdge a (d.pos a) 0 else d
  else if d.on (F.AXS_SW_STATUS.HOME_LEVEL a) = active then d
  else
    let d := d.setB (F.AXS_SW_STATUS.HOME_LEVEL a) active
    let k := d.f (F.AXS_SW_CFG.HOME_EDGE a)
    let sel := decide (k = 2) || (decide (k = 0) && active) || (decide (k = 1) && !active)
    if sel && !d.on (F.AXS_SW_CFG.LATCH_SRC a) then d.latchEdge a pos (d.f (F.AXS_SW_CFG.SW_FILT a)) else d

/-- The filtered LIM level becomes `active`; motion in the guarded direction stops (R387). -/
def Dev.limitSwitch (d : Dev) (a : Nat) (active : Bool) : Dev :=
  if !d.alive then d else (d.setB (F.AXS_SW_STATUS.LIM_LEVEL a) active).limitStop

/-- A write of AXS_ESTOP: bits that are 1 stop their axes with EDEC and EJERK (Table 14.4). -/
def Dev.estop (d : Dev) (v : Nat) : Dev :=
  let l := maskList 6 v
  let d := d.setF F.AXS_ESTOP.ESTOP (d.f F.AXS_ESTOP.ESTOP ||| v)
  l.foldl (fun d a => d.refFail a 4) (d.stopAxes l .estop)

/-! ## Meanings -/

def execStall (a : Fin 6) (s : State) : Host.Outcome State Fault Refusal := s.lift (·.stallFlag a)

def execLimitSwitch (a : Fin 6) (active : Bool) (s : State) : Host.Outcome State Fault Refusal :=
  s.lift (·.limitSwitch a active)

def execOvercurrent (a : Fin 6) (coil : Fin 2) (mon : Fin 4096) (s : State) : Host.Outcome State Fault Refusal :=
  s.lift (·.overcurrent a coil mon)

def execEncoderFault (a : Fin 6) (cause : Fin 8) (s : State) : Host.Outcome State Fault Refusal :=
  s.lift (fun d => if d.alive && d.encFaultFits a cause then d.encFault a cause else d)

def execSsiFrame (a : Fin 6) (raw : Word) (high : Bool) (s : State) : Host.Outcome State Fault Refusal :=
  s.lift (·.ssiFrame a raw.toNat high)

def execSwitchEdge (a : Fin 6) (z active : Bool) (pos : Int) (s : State) : Host.Outcome State Fault Refusal :=
  s.lift (·.switchEdge a z active pos)

def execAxsEstop (v : Word) (s : State) : Host.Outcome State Fault Refusal :=
  s.lift (fun d => if d.awake then d.estop v.toNat else d)

def execOcClear (a : Fin 6) (s : State) : Host.Outcome State Fault Refusal :=
  s.lift (fun d => if d.awake then d.ocClear a else d)

def execEncClear (a : Fin 6) (s : State) : Host.Outcome State Fault Refusal :=
  s.lift (fun d => if d.awake then (d.setF (F.ENC_STATUS.ENC_FAULT a) 0).setF (F.ENC_STATUS.CAUSE a) 0 else d)

def execChopperTrip (a : Fin 6) (coil : Fin 2) (mon : Fin 4096) (s : State) : Host.Outcome State Fault Refusal :=
  s.lift (·.chopperTrip a coil mon)

def execChopperOn (a : Fin 6) (coil : Fin 2) (s : State) : Host.Outcome State Fault Refusal :=
  s.lift (·.chopperOn a coil)

def execEncoderCount (a : Fin 6) (n : Int) (s : State) : Host.Outcome State Fault Refusal :=
  s.lift (·.encoderCount a n)

end Sys2Proof.Machine
end

