-- ==== Sys2Proof/Machine/Tether.lean ====
section
/-! DEFINITION. Tether: frames received, forwarded and merged, link delays, SYNC and FOLLOW, election, station traffic
(spec 17_time_cairn_and_tether.md R430-R441; 01 R30-R34). -/

namespace Sys2Proof.Machine

/-! ## Identity and election (R436) -/

def Dev.identity (d : Dev) : Nat := d.r64 R.TOP_DSN_LO R.TOP_DSN_HI
def Dev.priority (d : Dev) : Nat := d.f F.TET_CFG.PRIORITY

/-- Is node (p, i) better than node (q, j): the higher PRIORITY, then the lower IDENTITY? -/
def nodeBetter (p i q j : Nat) : Bool := decide (q < p) || (decide (p = q) && decide (i < j))

def Dev.setTet (d : Dev) (t : Tether) : Dev := { d with tet := t }

/-- Become or cease to be timing master. -/
def Dev.setTimingMaster (d : Dev) (on : Bool) : Dev :=
  let was := d.netFree
  (d.setB F.TET_STATUS.TIMING_MASTER on).netRole was

/-- No SYNC from a better node for 3 of its own intervals. -/
def Dev.electionTimeout (d : Dev) : Dev :=
  if !d.alive || !d.on F.TET_CFG.EN || decide (d.priority = 0) || d.timingMaster then d
  else
    let d := d.setTet { d.tet with bestPriority := d.priority, bestId := d.identity }
    (d.setTimingMaster true).setF F.TET_STATUS.MASTER_NODE (d.f F.TET_CFG.NODE)

/-! ## Words of frames -/

def word64 (ws : List Nat) (i : Nat) : Nat := ws.getD i 0 + ws.getD (i + 1) 0 * 2 ^ 32
def frameType (ws : List Nat) : Nat := bitsOf (ws.headD 0) 31 28
def frameSrc (ws : List Nat) : Nat := bitsOf (ws.headD 0) 27 24
def frameSeq (ws : List Nat) : Nat := bitsOf (ws.getD 1 0) 31 16
def frameOk (ws : List Nat) : Bool :=
  decide (ws.length = 16) && decide (ws.getD 15 0 = crc32 (wordBytes (ws.take 15))) &&
    decide (1 ≤ frameType ws) && decide (frameType ws ≤ 6)

/-- Replace words and seal again. -/
def reword (ws : List Nat) (l : List (Nat × Nat)) : List Nat :=
  sealFrame (l.foldl (fun w x => w.set x.1 (x.2 % 2 ^ 32)) (ws.take 15))

/-! ## Link delay (R434) -/

/-- PD_REQ and PD_RESP stay on their link, which need not carry traffic yet. -/
def Dev.sendLink (d : Dev) (p typ seq : Nat) (payload : List Nat) : Dev :=
  d.emit (.frame p (d.makeFrame typ 0 0 seq payload))

/-- Send PD_REQ through a port at t1. -/
def Dev.pdReq (d : Dev) (p : Nat) : Dev :=
  if !d.alive || !d.on F.TET_CFG.EN || !(d.port p).locked then d
  else
    let seq := d.tet.seqs.getD 2 0
    let d := d.setTet { d.tet with seqs := d.tet.seqs.set 2 ((seq + 1) % 65536) }
    (d.setPort p { d.port p with t1 := some (d.baseVal 0) }).sendLink p 3 seq []

/-- Mean of the last 8 values of d_in, as the port reports it. -/
def meanDin (l : List Int) : Int := if l.isEmpty then 0 else divFloor (sumI l) l.length

def Dev.dIn (d : Dev) (p : Nat) : Int := meanDin (d.port p).dins

/-- A link's first d_in makes it carry traffic; a node that turned at it stops (R432, R437). -/
def Dev.linkCarries (d : Dev) (p : Nat) : Dev :=
  if (d.port p).carries then d
  else
    let d := (d.setPort p { d.port p with carries := true }).setF (F.TET_PORT.UP p) 1
    if d.on F.TET_STATUS.WRAPPED && (d.port (1 - p)).carries then
      (d.setF F.TET_STATUS.WRAPPED 0).flag F.TET_STATUS.REROUTED else d

def Dev.pdResp (d : Dev) (p : Nat) (ws : List Nat) : Dev :=
  match (d.port p).t1 with
  | none => d
  | some t1 =>
    let rtt : Int := thetaOf (d.baseVal 0) t1 - signed 64 (word64 ws 2)
    let din := divFloor rtt 2 + d.fi (F.TET_ASYM.ASYM_ADJ p)
    let dins := (din :: (d.port p).dins).take 8
    let d := d.setPort p { d.port p with t1 := none, dins := dins }
    ((d.setF (F.TET_PORT.D_IN p) (unsigned 20 (meanDin dins))).setF (F.TET_PORT.NEIGHBOUR p) (bitsOf (ws.getD 4 0) 3 0)).linkCarries p

def Dev.linkUp (d : Dev) (p : Nat) : Dev :=
  if !d.alive || !d.on F.TET_CFG.EN then d else d.setPort p { d.port p with locked := true }

/-- A link goes down: the node turns traffic at it. -/
def Dev.linkDown (d : Dev) (p : Nat) : Dev :=
  if !(d.port p).locked then d
  else
    let was := (d.port p).carries
    let d := (d.setPort p portInit).setF (F.TET_PORT.UP p) 0
    if was then (d.setF F.TET_STATUS.WRAPPED 1).flag F.TET_STATUS.REROUTED else d

/-! ## SYNC and FOLLOW (R435) -/

def Dev.sendSync (d : Dev) : Dev :=
  if !d.alive || !d.on F.TET_CFG.EN || !d.timingMaster then d
  else
    let seq := d.tet.seqs.getD 0 0
    let node := d.f F.TET_CFG.NODE
    let own : List Seen := [⟨node, 1, seq⟩, ⟨node, 2, seq⟩]
    let d := d.setTet { d.tet with
      seqs := (d.tet.seqs.set 0 ((seq + 1) % 65536)).set 1 ((seq + 1) % 65536), sent := (own ++ d.tet.sent).take 64 }
    let t := d.baseVal 1
    let d := d.sendVia 0 (d.makeFrame 1 0 0 seq [lo32 d.identity, hi32 d.identity, d.priority * 2 ^ 24])
    d.sendVia 0 (d.makeFrame 2 0 0 seq [lo32 t, hi32 t])

/-- A SYNC that reaches a node at port `p` and leaves it after `fwd` units of 2^-32 s. -/
def Dev.gotSync (d : Dev) (p : Nat) (ws : List Nat) (fwd : Nat) : Dev :=
  let r := d.baseVal 1
  let d := d.setTet { d.tet with
    syncSeq := frameSeq ws, syncPort := p, syncRecv := r, syncSent := (r + fwd) % 2 ^ 64 }
  let pr := bitsOf (ws.getD 4 0) 31 24
  let id := word64 ws 2
  let own := decide (d.priority ≠ 0) && !nodeBetter pr id d.priority d.identity
  let other := nodeBetter d.tet.bestPriority d.tet.bestId pr id && !d.timingMaster
  if own || other then d
  else
    let d := d.setTet { d.tet with bestPriority := pr, bestId := id }
    let d := if d.timingMaster then d.setTimingMaster false else d
    d.setF F.TET_STATUS.MASTER_NODE (frameSrc ws)

def Dev.gotFollow (d : Dev) (ws : List Nat) : Dev :=
  if d.timingMaster || decide (frameSeq ws ≠ d.tet.syncSeq) || decide (frameSrc ws ≠ d.f F.TET_STATUS.MASTER_NODE) then d
  else
    let at' : Int := (word64 ws 2 : Int) + signed 64 (word64 ws 4) + d.dIn d.tet.syncPort
    d.measureBase 1 (signed 64 (unsigned 64 (at' - d.tet.syncRecv)))

/-- CORR of a FOLLOW that the node forwards. -/
def Dev.followOn (d : Dev) (ws : List Nat) : List Nat :=
  if frameSeq ws ≠ d.tet.syncSeq then ws
  else
    let c := unsigned 64 (signed 64 (word64 ws 4) + d.dIn d.tet.syncPort + thetaOf d.tet.syncSent d.tet.syncRecv)
    reword ws [(4, lo32 c), (5, hi32 c)]

/-! ## Station traffic (R438-R440) -/

def Dev.nodeBit (d : Dev) : Nat := 2 ^ d.f F.TET_CFG.NODE
def Dev.ownCap (d : Dev) : Nat := if d.armed then d.f F.LTN_CAP.V_CAP else 0xFFFFFF
def Dev.netLocked (d : Dev) : Bool := decide (d.baseState 1 = 2)

/-- A member's part of a GOVERNOR frame, merged into payload words 2 to 6. -/
def Dev.mergeGov (d : Dev) (ws : List Nat) : List Nat :=
  let b := d.nodeBit
  let w2 := ws.getD 2 0
  let w3 := ws.getD 3 0
  let w4 := ws.getD 4 0
  let w5 := ws.getD 5 0
  let w2 := putBits w2 12 0 (min (bitsOf w2 12 0) d.sump.factor)
  let w2 := if d.sump.holding then putBits w2 16 16 1 else w2
  let w3 := putBits w3 23 0 (min (bitsOf w3 23 0) d.ownCap)
  let w4 := if d.on F.TET_CFG.FEED_MASTER then w4 ||| (b * 2 ^ 16) else w4
  let w5 := if d.sump.holding then w5 ||| (b * 2 ^ 16) else w5
  let w5 := if d.netLocked then w5 ||| b else w5
  [w2, w3, w4 ||| b, w5, ws.getD 6 0]

/-- The GOVERNOR frame that the feed master originates at the start of a servo period. -/
def Dev.sendGovernor (d : Dev) : Dev :=
  if !(d.inStation && d.on F.TET_CFG.FEED_MASTER) then d
  else
    let formed := b2n (d.on F.TET_STATUS.FORMED)
    d.originate 5 0 1 (d.mergeGov [0, 0, formed * 2 ^ 17 + 4096, 0xFFFFFF, 0, 0, d.servoPeriod])

/-- More than one feed master: FEED stops and its distance is kept (R33). -/
def Dev.masterConflict (d : Dev) : Dev :=
  ((d.setTet { d.tet with conflict := true }).flag F.TET_STATUS.FEED_MASTER_CONFLICT).stopAxes [0] .conflict

/-- The feed master's own frame returns (R438, R439). -/
def Dev.govReturned (d : Dev) (ws : List Nat) : Dev :=
  let members := bitsOf (ws.getD 4 0) 15 0
  let masters := bitsOf (ws.getD 4 0) 31 16
  let locked := bitsOf (ws.getD 5 0) 15 0
  let holds := bitsOf (ws.getD 5 0) 31 16
  let ex := d.f F.TET_EXPECT.EXPECT
  let all := decide (members &&& ex = ex) && decide (locked &&& ex = ex)
  let d := d.setTet { d.tet with
    ringF := bitsOf (ws.getD 2 0) 12 0, ringCap := bitsOf (ws.getD 3 0) 23 0, ringHold := decide (holds ≠ 0 ∧ holds ≠ d.nodeBit)
    lostHold := false, govOk := if all then min 16 (d.tet.govOk + 1) else 0 }
  let d := (d.setF F.TET_STATUS.MEMBERS members).flagIf (!all) F.TET_STATUS.MEMBER_LOST
  let d := d.setB F.TET_STATUS.FORMED (all && (d.on F.TET_STATUS.FORMED || decide (16 ≤ d.tet.govOk)))
  if masters ≠ d.nodeBit then d.masterConflict else d.setTet { d.tet with conflict := false }

/-- A GOVERNOR frame of the station from another node (R34, R422, R439). -/
def Dev.gotGovernor (d : Dev) (ws : List Nat) : Dev :=
  let per := bitsOf (ws.getD 6 0) 13 0
  let d := d.setTet { d.tet with feedMaster := some (frameSrc ws), masterLost := false, masterPeriod := some per }
  let d := d.setB F.TET_STATUS.FORMED (bitOf (ws.getD 2 0) 17)
  let d := d.flagIf (decide (per ≠ d.servoPeriod)) F.TET_STATUS.PERIOD_MISMATCH
  if d.on F.TET_CFG.FEED_MASTER then d.masterConflict else d

def Dev.govTimeout (d : Dev) : Dev :=
  if !d.alive || !(d.inStation && d.on F.TET_CFG.FEED_MASTER) then d
  else (d.setTet { d.tet with lostHold := true }).flag F.TET_STATUS.GOV_LOST

def Dev.stationMasterLost (d : Dev) : Dev :=
  if !d.alive || !d.follower then d
  else (d.setTet { d.tet with masterLost := true }).flag F.TET_STATUS.STATION_MASTER_LOST

/-- REF_EDGE at a follower (R440); 1 ms is 4,294,967 units of 2^-32 s. -/
def Dev.gotRefEdge (d : Dev) (ws : List Nat) : Dev :=
  if !d.follower then d
  else
    match d.tet.latchTime with
    | some t =>
      if (thetaOf t (word64 ws 4)).natAbs ≤ 4294967 then d.redefine 0 (signed 64 (word64 ws 2) - d.tet.latchPos)
      else d.flag F.TET_STATUS.REF_MISMATCH
    | none => d.flag F.TET_STATUS.REF_MISMATCH

/-- The feed master announces a referenced edge: its position in the new frame and its NET time. -/
def Dev.sendRefEdge (d : Dev) (delta : Int) : Dev :=
  match d.tet.latchTime with
  | some t =>
    if d.inStation && d.on F.TET_CFG.FEED_MASTER then
      d.originate 5 0 2 (words64 (d.tet.latchPos + delta) ++ [lo32 t, hi32 t]) else d
  | none => d

/-- A RESULT frame at the feed master (R31, R441). -/
def Dev.gotResult (d : Dev) (ws : List Nat) : Dev :=
  if !(d.inStation && d.on F.TET_CFG.FEED_MASTER) then d
  else if bitsOf (ws.headD 0) 7 0 = 1 then
    d.enterSurvey (signed 64 (word64 ws 3)) (signed 64 (word64 ws 5)) (signed 32 (ws.getD 7 0)) (bitsOf (ws.getD 2 0) 7 0)
  else if bitsOf (ws.headD 0) 7 0 = 2 then (d.enterStrata (ws.getD 3 0) (signed 32 (ws.getD 4 0))).1
  else d

/-- Delivery of a frame that concerns the node. -/
def Dev.deliverFrame (d : Dev) (p : Nat) (ws : List Nat) (fwd : Nat) : Dev :=
  let mine := d.inStation && decide (b2n (bitOf (ws.headD 0) 19) = d.f F.TET_CFG.STATION)
  let sub := bitsOf (ws.headD 0) 7 0
  match frameType ws with
  | 1 => d.gotSync p ws fwd
  | 2 => d.gotFollow ws
  | 5 => if !mine then d else if sub = 1 then d.gotGovernor ws else if sub = 2 then d.gotRefEdge ws else d
  | 6 => if mine && decide (bitsOf (ws.headD 0) 23 20 = d.f F.TET_CFG.NODE) then d.gotResult ws else d
  | _ => d

/-! ## The ring rules (R432) -/

/-- The frame as forwarded: HOPS + 1, GOVERNOR and FOLLOW fields updated. -/
def Dev.onward (d : Dev) (ws : List Nat) : List Nat :=
  let w0 := putBits (ws.headD 0) 17 13 (bitsOf (ws.headD 0) 17 13 + 1)
  let mine := d.inStation && decide (b2n (bitOf w0 19) = d.f F.TET_CFG.STATION)
  let ws := if frameType ws = 2 then d.followOn ws else ws
  if frameType ws = 5 ∧ bitsOf w0 7 0 = 1 ∧ mine then
    reword ws ((0, w0) :: [2, 3, 4, 5, 6].zip (d.mergeGov ws))
  else reword ws [(0, w0)]

def Dev.forward (d : Dev) (p : Nat) (ws : List Nat) : Dev :=
  if bitsOf (ws.headD 0) 17 13 = 31 then d else d.sendVia (1 - p) (d.onward ws)

/-- A frame arrives on a port: 0 E, 1 W. `fwd` is what the node takes to answer a PD_REQ or to send a SYNC on, in
2^-32 s. -/
def Dev.frameReceived (d : Dev) (p : Nat) (ws : List Nat) (fwd : Nat) : Dev :=
  if !d.alive || !d.on F.TET_CFG.EN then d
  else if !frameOk ws then d.count F.TET_COUNT.CRC_CNT 1
  else
    let typ := frameType ws
    let key : Seen := ⟨frameSrc ws, typ, frameSeq ws⟩
    if typ = 3 then
      d.sendLink p 4 (frameSeq ws) [lo32 fwd, hi32 fwd, p * 16 + d.f F.TET_CFG.NODE]
    else if typ = 4 then d.pdResp p ws
    else
      let first := !d.tet.seen.contains key
      let d := if first then d.setTet { d.tet with seen := (key :: d.tet.seen).take 64 } else d
      if frameSrc ws = d.f F.TET_CFG.NODE then
        if !d.tet.sent.contains key then d.flag F.TET_STATUS.DUP_NODE
        else if bitOf (ws.headD 0) 18 && first then d.forward p ws
        else if typ = 5 ∧ bitsOf (ws.headD 0) 7 0 = 1 ∧ d.inStation ∧ d.on F.TET_CFG.FEED_MASTER then d.govReturned ws
        else d
      else
        let d := if first then d.deliverFrame p ws fwd else if typ = 1 then
            d.setTet { d.tet with syncPort := p, syncRecv := d.baseVal 1, syncSent := (d.baseVal 1 + fwd) % 2 ^ 64 } else d
        d.forward p ws

/-! ## Meanings -/

def execTetherFrameReceived (west : Bool) (words : List Word) (fwd : Nat) (s : State) : Host.Outcome State Fault Refusal :=
  s.lift (·.frameReceived (b2n west) (words.map (fun w => w.toNat)) fwd)

def execTetherLinkDown (west : Bool) (s : State) : Host.Outcome State Fault Refusal := s.lift (·.linkDown (b2n west))

def execTetherLinkUp (west : Bool) (s : State) : Host.Outcome State Fault Refusal := s.lift (·.linkUp (b2n west))

def execPdReq (west : Bool) (s : State) : Host.Outcome State Fault Refusal := s.lift (·.pdReq (b2n west))

def execSync (s : State) : Host.Outcome State Fault Refusal := s.lift (·.sendSync)

def execElectionTimeout (s : State) : Host.Outcome State Fault Refusal := s.lift (·.electionTimeout)

def execGovTimeout (s : State) : Host.Outcome State Fault Refusal := s.lift (·.govTimeout)

def execStationMasterLost (s : State) : Host.Outcome State Fault Refusal := s.lift (·.stationMasterLost)

end Sys2Proof.Machine
end

