-- ==== Sys2Proof/Machine/Referencing.lean ====
section
/-! DEFINITION. Referencing by SWITCH, HARD_STOP and COMBINED (spec 15_motor_drive_and_stall.md R388-R391). Steps of a
procedure: 1 seek to the stop, 2 leave the level, 3 seek the edge, 4 stop at the edge, 5 back off. -/

namespace Sys2Proof.Machine

def Dev.refPos (d : Dev) (a : Nat) : Int := d.r64i (R.AXS_REF_POS_LO a) (R.AXS_REF_POS_HI a)

/-- A seek or back-off of `n` counts in a direction. -/
def Dev.refMove (d : Dev) (a : Nat) (r : RefRun) (n : Int) : Dev :=
  let d := d.setAx a { d.ax a with ref := some r, ended := none }
  let m := d.newMove
  m.2.acceptMove (mkMove m.1 (.ref a) false r.set false true none [(a, n)])

def Dev.refMax (d : Dev) (a : Nat) : Int := d.f (F.AXS_REF_MAX.REF_MAX a)

/-- Enter a step that moves. -/
def Dev.refGo (d : Dev) (a : Nat) (r : RefRun) (step : Nat) : Dev :=
  let r := { r with step := step, latch := none }
  let out := if step = 2 ∨ step = 5 then -r.dir else if step = 3 ∧ r.method = 2 then -r.dir else r.dir
  d.refMove a r (out * (if step = 5 then (d.f (F.AXS_REF_BACKOFF.REF_BACKOFF a) : Int) else d.refMax a))

/-- Does the latch source show the level that follows the selected edge? Z and "both" name no level. -/
def Dev.edgeLevel (d : Dev) (a : Nat) : Bool :=
  let k := d.f (F.AXS_SW_CFG.HOME_EDGE a)
  !d.on (F.AXS_SW_CFG.LATCH_SRC a) &&
    ((decide (k = 0) && d.on (F.AXS_SW_STATUS.HOME_LEVEL a)) || (decide (k = 1) && !d.on (F.AXS_SW_STATUS.HOME_LEVEL a)))

def Dev.refResult (d : Dev) (a : Nat) (r : RefRun) (code : Nat) : Dev :=
  d.setAx a { d.ax a with ref := some { r with result := some code }, ended := none }

/-- Result code of a seek that another stop ended. -/
def refStopCode : StopCause → Nat
  | .stall => 7 | .limit => 3 | .fault => 5 | .estop => 4 | .abort => 4 | .hold => 4 | .conflict => 4

/-- One servo period of a procedure. -/
def Dev.refStep (d : Dev) (a : Nat) : Dev :=
  let x := d.ax a
  match x.ref with
  | none => d
  | some r =>
    if r.result.isSome then d
    else
      let halt (d : Dev) : Dev := { d with moves := d.moves.map (fun m => if m.owner = .ref a then m.stopBy .hold else m) }
      match x.ended with
      | none =>
        if r.step = 2 then (if d.edgeLevel a then d else halt d)
        else if r.step = 3 ∧ r.latch.isSome then halt (d.setAx a { x with ref := some { r with step := 4 } })
        else d
      | some none =>
        if r.step = 5 then d.refResult a r 0
        else if r.step = 4 ∨ (r.step = 3 ∧ r.latch.isSome) then
          (match r.latch with
          | some l => (d.redefine a (d.refPos a - l)).refResult a { r with shift := d.refPos a - l } 0
          | none => d.refResult a r 2)
        else d.refResult a r 2
      | some (some c) =>
        if r.step = 1 ∧ c = .stall then
          if r.method = 2 then d.refGo a r 3
          else
            let delta := d.refPos a - countOf x.x
            let d := d.redefine a delta
            let r := { r with shift := delta }
            if d.f (F.AXS_REF_BACKOFF.REF_BACKOFF a) = 0 then d.refResult a r 0 else d.refGo a r 5
        else if r.step = 2 ∧ c = .hold then d.refGo a r 3
        else if r.step = 4 ∧ c = .hold then
          (match r.latch with
          | some l => (d.redefine a (d.refPos a - l)).refResult a { r with shift := d.refPos a - l } 0
          | none => d.refResult a r 2)
        else d.refResult a r (refStopCode c)

/-- Report a result at once or at the end of a procedure: DONE, RESULT and the axis interrupt (R388). -/
def Dev.refReport (d : Dev) (a code : Nat) : Dev :=
  (((d.setF (F.AXS_REF_STATUS.RESULT a) code).setF (F.AXS_REF_STATUS.DONE a) 1)).irq (intBitOf (R.AXS_REF_STATUS a))

/-- Why a start is refused (Table 15.5). -/
def Dev.refRefused (d : Dev) (a method : Nat) : Nat :=
  let s := d.axisState a
  if !d.modeIn motionModes || !decide (s = 0 ∨ s = 4) || (d.ax a).ref.isSome then 1
  else if a = 0 ∧ d.follower then 8
  else if method ≠ 0 ∧ (d.f (F.AXS_STALL_CFG.STALL_MODE a) = 0 ∨ d.noEncoder a) then 6
  else if d.on (F.ENC_STATUS.ENC_FAULT a) then 5
  else if d.on (F.CHP_STATUS.OVERCURRENT a) then 9
  else 0

/-- A write of AXS_REF_CTRL with GO = 1 (R388). -/
def Dev.refStart (d : Dev) (a method : Nat) (up : Bool) (set iRef : Nat) : Dev :=
  let d := (((d.setF (F.AXS_REF_CTRL.METHOD a) method).setB (F.AXS_REF_CTRL.REF_DIR a) up).setF (F.AXS_REF_CTRL.REF_SET a) set).setF
    (F.AXS_REF_CTRL.I_REF a) iRef
  let code := d.refRefused a method
  if code ≠ 0 then d.refReport a code
  else
    let d := (d.setAx a { d.ax a with kept := none }).setF (F.AXS_REF_STATUS.BUSY a) 1
    let r : RefRun := { method := method, dir := if up then 1 else -1, set := set, iRef := iRef, step := 1, latch := none,
                        result := none, shift := 0 }
    d.refGo a r (if method ≠ 0 then 1 else if d.edgeLevel a then 2 else 3)

/-- The procedure ends once the axis stands still; a failure leaves the frame as it was (R390); the feed master announces
its edge (R391). -/
def Dev.refDone (d : Dev) (a : Nat) : Dev :=
  match (d.ax a).ref with
  | none => d
  | some r =>
    match r.result with
    | none => d
    | some code =>
      if !d.stands a || (d.moveOf a).any (fun m => m.owner = .ref a) then d
      else
        let d := if code ≠ 0 ∧ r.shift ≠ 0 then d.redefine a (-r.shift) else d
        let d := d.setAx a { d.ax a with ref := none, ended := none }
        let d := d.setF (F.AXS_REF_STATUS.BUSY a) 0
        let d := if code = 0 then d.setF (F.AXS_REF_STATUS.REFERENCED a) 1 else d
        let d := d.refReport a code
        if a = 0 ∧ code = 0 then d.sendRefEdge r.shift else d

/-! ## Meanings -/

def execRefSwitch (a : Fin 6) (up : Bool) (set : Fin 4) (iRef : Fin 1024) (s : State) : Host.Outcome State Fault Refusal :=
  s.lift (fun d => if d.awake then d.refStart a 0 up set iRef else d)

def execRefHardStop (a : Fin 6) (up : Bool) (set : Fin 4) (iRef : Fin 1024) (s : State) : Host.Outcome State Fault Refusal :=
  s.lift (fun d => if d.awake then d.refStart a 1 up set iRef else d)

def execRefCombined (a : Fin 6) (up : Bool) (set : Fin 4) (iRef : Fin 1024) (s : State) : Host.Outcome State Fault Refusal :=
  s.lift (fun d => if d.awake then d.refStart a 2 up set iRef else d)

def execReferencingDone (a : Fin 6) (s : State) : Host.Outcome State Fault Refusal := s.lift (·.refDone a)

end Sys2Proof.Machine
end

