-- ==== Sys2Proof/Machine/Servo.lean ====
section
/-! DEFINITION. The servo period and the register writes of motion: what each period does in order, SERVO_PERIOD, POS_GO,
AXIS's step, the axes' status view (spec 14_motion_profiles.md R344, R345, R350, R362, R363; 17 R422; 06 R172). -/

namespace Sys2Proof.Machine

/-- SHADING_FULL moves SHUTTER with the axis's present limits (R172). -/
def Dev.shutterMove (d : Dev) : Dev :=
  match d.shd.shutter with
  | none => d
  | some toTile =>
    let d := { d with shd := { d.shd with shutter := none } }
    match d.axesRefused [5] with
    | some _ => d.calShutter false
    | none =>
      let t := if toTile then d.fi F.SHD_CAL_TILE_IN.TARGET else d.fi F.SHD_CAL_TILE_OUT.TARGET
      let n := d.newMove
      n.2.acceptMove (mkMove n.1 .shutter false (d.ax 5).set true false none [(5, t)])

/-- After the generators: periods since the set-point changed, idle segments, p of an axis without encoder. -/
def Dev.axisAfter (d : Dev) (a : Nat) (x0 : Int) : Dev :=
  let x := d.ax a
  let ran := d.moves.any (fun m => m.planned && m.has a)
  let d := d.setAx a { x with
    still := if x.x = x0 then min 4096 (x.still + 1) else 0, seg := if ran || decide (x.x ≠ x0) then x.seg else 0 }
  if d.noEncoder a then d.setMeasured a (countOf x.x) else d

/-- AXS_ESTOP bits clear at the standstill of their axes. -/
def Dev.estopClear (d : Dev) : Dev :=
  (List.range 6).foldl (fun d a => if d.stands a && (d.moveOf a).isNone then d.setF ⟨R.AXS_ESTOP, a, a⟩ 0 else d) d

/-- One servo period (R345): positions latched, Flowstone's writes visible, the loop, the governor, the generators,
referencing. -/
def Dev.servoStep (d : Dev) : Dev :=
  if d.mode = .dormant ∨ d.inReset then d
  else if d.mode = .boot then d.axisPeriod
  else
    let t := d.f F.AXS_SERVO_PERIOD.SERVO_PERIOD
    let d := if d.servoT = t then d else { d with servoT := t }.reschedule
    let d := d.axisPeriod.flowVisible
    let d := (List.range 6).foldl (fun d a => d.loopAxis a) d
    let d := d.govStep.sendGovernor.shutterMove
    let xs := (List.range 6).map (fun a => (d.ax a).x)
    let d := d.runMoves
    let d := (List.range 6).foldl (fun d a => d.refStep a) d
    let d := (List.range 6).foldl (fun d a => d.axisAfter a (xs.getD a 0)) d
    d.holdsDone.estopClear

/-- A write of SERVO_PERIOD: 1,250 to 10,000, only while every axis stands still (R344). -/
def Dev.servoPeriodWrite (d : Dev) (rq : Req) (v : Nat) : Dev :=
  let n := bitsOf v 13 0
  if n < 1250 ∨ 10000 < n then d.accessErr rq false .value R.AXS_SERVO_PERIOD
  else if !d.allStand then d.accessErr rq false .locked R.AXS_SERVO_PERIOD
  else d.setF F.AXS_SERVO_PERIOD.SERVO_PERIOD n

/-- A write of 1 to POS_GO (R362). -/
def Dev.posGo (d : Dev) (a : Nat) : Dev :=
  if !d.stands a || (d.moveOf a).isSome || (d.ax a).ref.isSome then d.flag (F.AXS_STATUS.POS_REFUSED a)
  else d.redefine a (d.r64i (R.AXS_POS_SET_LO a) (R.AXS_POS_SET_HI a) - countOf (d.ax a).x)

/-- AXS_STATUS of an axis (Table 14.7) from its state; POS_REFUSED is the register's own bit. -/
def Dev.axisStatus (d : Dev) (a : Nat) : Nat :=
  let m := d.moveOf a
  let b (f : Move → Bool) : Nat := match m with | some m => b2n (m.planned && f m) | none => 0
  let lead := match m with | some m => if m.coord && m.planned then m.leader else 0 | none => 0
  let set := match m with | some m => if m.planned then m.set else (d.ax a).set | none => (d.ax a).set
  d.axisState a * 2 ^ 29 + b d.limitPending * 2 ^ 28 + b (·.braking) * 2 ^ 27 + b (·.reversed) * 2 ^ 26 +
    b (fun m => m.coord && decide (m.leader = a)) * 2 ^ 25 + b (fun m => m.coord && decide (m.leader ≠ a)) * 2 ^ 24 +
    d.f (F.AXS_STATUS.POS_REFUSED a) * 2 ^ 23 + (d.ax a).seg * 2 ^ 19 + set * 2 ^ 17 + lead

/-! ## Meanings -/

def execServoPeriod (s : State) : Host.Outcome State Fault Refusal := s.lift (·.servoStep)

def execServoPeriodWrite (rq : Req) (v : Word) (s : State) : Host.Outcome State Fault Refusal :=
  s.lift (fun d => if d.awake then d.servoPeriodWrite rq v.toNat else d)

def execPosGo (a : Fin 6) (s : State) : Host.Outcome State Fault Refusal :=
  s.lift (fun d => if d.awake then d.posGo a else d)

/-- The step waits until every axis stands still with no move running or held (R422). -/
def execAxisStep (s : State) : Host.Outcome State Fault Refusal :=
  s.lift (fun d => if d.awake && d.allStand then d.axisStep else d)

end Sys2Proof.Machine
end

