-- ==== Sys2Proof/Machine/Power.lean ====
section
/-! DEFINITION. Modes, DORMANT and wake, resets, BOOT and the re-application of the ledger (spec
18_modes_power_and_reset.md R445-R463, R548; 19 R470; 20 R490). -/

namespace Sys2Proof.Machine

def Mode.code : Mode → Nat
  | .boot => 0 | .standby => 1 | .calibrate => 2 | .run => 3 | .service => 4 | .dormant => 5

/-- The mode changes; MODE of PWR_MODE_STATUS shows it. DORMANT has no code there and leaves the field. -/
def Dev.setMode (d : Dev) (m : Mode) : Dev :=
  let was := d.mode
  let d := { d with mode := m }
  let d := if m = .dormant then d else d.setF F.PWR_MODE_STATUS.MODE m.code
  if was = m then d else d.flag F.PWR_MODE_STATUS.CHANGED

/-! ## PLLs and receivers (R39, R454, R543) -/

/-- A group PLL runs in CALIBRATE, RUN and SERVICE while the record gives the group a Gen A entry. -/
def Dev.pllRuns (d : Dev) (g : Nat) : Bool :=
  d.feActive && (match d.bar with | some b => !(b.genA g).isEmpty | none => false)

/-- PLLs started or stopped on purpose: LOCKED follows, LOCK_LOST does not set. -/
def Dev.pllRefresh (d : Dev) : Dev := (List.range 8).foldl (fun (d : Dev) g => d.setB (F.GRP_PLL_STATUS.LOCKED g) (d.pllRuns g)) d

/-- Is receiver `r` of group `g` powered (Table 18.3)? -/
def Dev.rxPowered (d : Dev) (g r : Nat) : Bool :=
  d.feActive && !(d.lane g).retired.contains r &&
    (if r = 4 then !(d.activePads g).isEmpty else (d.padModule g r).isSome)

/-- Receivers lose their locks with their power. -/
def Dev.lanesOff (d : Dev) : Dev :=
  (List.range 8).foldl (fun (d : Dev) g => (d.setLane g
    { d.lane g with clockLock := false, laneLock := List.replicate 4 false, spareLock := false }).showLanes g) d

/-- Lane domains as PWR_DOM_STATUS_n shows them: bits of word `n`. -/
def Dev.laneDomains (d : Dev) (n : Nat) : Nat :=
  sumN ((List.range 40).map (fun i =>
    let k := 72 + i
    if k / 32 = n ∧ d.rxPowered (i / 5) (i % 5) then 2 ^ (k % 32) else 0))

/-! ## Mode requests (R446 to R449, R548) -/

/-- Is a CAL_RUN, TABLE_LOAD, ATTEST or STORE_WRITE under way (Table 18.2)? -/
def Dev.busyRuns (d : Dev) : Bool :=
  d.on F.SEC_STORE_STATUS.WRITING || d.running.any (fun r => match r.kind with
    | .shadingFull => true
    | .tableLoad _ => true
    | _ => false)

/-- Table 18.1: may `t` be requested from the mode in force? -/
def Dev.pairListed (d : Dev) (t : Mode) : Bool :=
  let active : List Mode := [.calibrate, .run, .service]
  match t with
  | .standby => active.contains d.mode
  | .dormant => decide (d.mode = .standby)
  | .boot => false
  | _ => decide (d.mode ≠ t) && (decide (d.mode = .standby) || active.contains d.mode)

/-- Table 18.2 in order; 0 accepted. -/
def Dev.requestCode (d : Dev) (t : Mode) : Nat :=
  if !d.pairListed t then 1
  else if (t = .calibrate ∨ t = .run) ∧ d.bar.isNone then 2
  else if d.busyRuns then 3
  else if t = .dormant ∧ !d.allStand then 4 else 0

/-- What leaving CALIBRATE, RUN or SERVICE does at acceptance (R448). -/
def Dev.exitActions (d : Dev) : Dev :=
  let active : Bool := d.mode = .calibrate || d.mode = .run || d.mode = .service
  if !active then d
  else
    let d := (d.disarm 2).ctxModeExit
    if d.mode = .run then
      ({ d with sump := { d.sump with holding := false, factor := 4096 } }.setB F.SMP_GOV_STATUS.HOLDING false).setF
        F.SMP_GOV_STATUS.FACTOR 4096
    else d

/-- A request is accepted. -/
def Dev.acceptMode (d : Dev) (t : Mode) (d3 : Bool) : Dev :=
  let d := d.exitActions
  let d := if t = .standby then d.stopAxes (List.range 6) .hold else d
  let d := { d with req := some ⟨t, d3⟩ }.setF F.PWR_MODE_STATUS.PENDING 1
  if d.feActive then d.powerAll else d

/-- A write of MODE_REQ (R446). -/
def Dev.modeReq (d : Dev) (rq : Req) (v : Nat) : Dev :=
  if d.mode = .dormant ∨ d.rst.isSome then d
  else if d.req.isSome then d.accessErr rq false .locked R.PWR_MODE_CTRL
  else
    let d := d.setF F.PWR_MODE_STATUS.TARGET v
    match ([(1, Mode.standby), (2, .calibrate), (3, .run), (4, .service), (5, .dormant)] : List (Nat × Mode)).find? (fun p => p.1 = v) with
    | none => d.setF F.PWR_MODE_STATUS.LAST_RESULT 1
    | some p =>
      if d.mode = p.2 then d.setF F.PWR_MODE_STATUS.LAST_RESULT 0
      else
        let c := d.requestCode p.2
        if c ≠ 0 then d.setF F.PWR_MODE_STATUS.LAST_RESULT c else d.acceptMode p.2 false

/-- Every gate, STB and MCK output high-impedance (R452, R457). -/
def Dev.floatPins (d : Dev) : Dev :=
  let d := (List.range 6).foldl (fun (d : Dev) a => d.setPower a .off) d
  (d.emit (.pin "STB" 0 2)).emit (.pin "MCK" 0 2)

/-- Entry to DORMANT (R452). -/
def Dev.enterDormant (d : Dev) : Dev :=
  let d := { d with haul := ⟨[], none, []⟩, slots := [], running := [] }
  let d := ((d.hkcStop 0).hkcStop 1).setHaulUse 0
  let d := { d with link := { d.link with up := false, busMaster := false, mainEn := false } }
  (d.setMode .dormant).floatPins.emit (.pin "MAIN_EN" 0 0)

/-- May the pending request complete? -/
def Dev.modeReady (d : Dev) (r : ModeReq) : Bool :=
  if r.target = .standby then d.allStand && d.gal.lines.isEmpty && (!r.d3 || !d.busyRuns) else true

/-- A pending request completes: MODE shows the new mode. -/
def Dev.modeDone (d : Dev) : Dev :=
  match d.req with
  | none => d
  | some r =>
    if !d.modeReady r || d.rst.isSome then d
    else
      let d := if d.mode = .service then d.serviceEnd else d
      let d := ({ d with req := none }.setF F.PWR_MODE_STATUS.PENDING 0).setF F.PWR_MODE_STATUS.LAST_RESULT 0
      if r.target = .dormant then d.enterDormant
      else
        let d := d.setMode r.target
        let d := { d with ltn := { d.ltn with soft := 0, lastK := none } }
        let d := d.powerAll.pllRefresh
        let d := if d.feActive then d else d.lanesOff
        d.secRefresh

/-! ## Resets (R456 to R462) -/

/-- How lasting the domains are that a reset returns: it returns every domain of this rank and above. -/
def ResetKind.rank : ResetKind → Nat
  | .aonLost => 0 | .aonKept => 1 | .dormantExit => 1 | .pin => 2 | .watchdog => 3 | .warm => 3 | .conventional => 4 | .flr => 4

def ResetKind.domain : ResetKind → Domain
  | .aonLost => .aon | .aonKept => .por | .dormantExit => .por | .pin => .pin | .watchdog => .warm | .warm => .warm
  | .conventional => .func | .flr => .func

def ResetKind.cause : ResetKind → Fld
  | .aonLost => F.PWR_RESET_CAUSE.AON_LOSS | .aonKept => F.PWR_RESET_CAUSE.BROWN_OUT
  | .dormantExit => F.PWR_RESET_CAUSE.DORMANT_EXIT | .pin => F.PWR_RESET_CAUSE.PIN
  | .watchdog => F.PWR_RESET_CAUSE.WATCHDOG | .warm => F.PWR_RESET_CAUSE.WARM_SW
  | .conventional => F.PWR_RESET_CAUSE.PCIE_CONV | .flr => F.PWR_RESET_CAUSE.FLR

/-- Does the reset run BOOT (Table 18.5)? -/
def ResetKind.boots : ResetKind → Bool
  | .conventional => false | .flr => false | _ => true

/-- What a FUNC-domain reset returns outside the registers (Table 18.6); the shading store's words stay. -/
def Dev.funcState (d : Dev) : Dev :=
  let d := { d with
    ram := d.ram.filter (fun c => decide (winShade ≤ c.1)), shadows := [], pba := [], req := none, bar := none, sqs := [],
    cqs := [], rr := [], running := [], ctxs := [], supplies := [], slots := [], i2c := [], expects := [], pulses := [],
    misses := [], ltn := lanternInit, shd := shadingInit, sur := surveyInit, str := strataInit, flw := flowInit, meas := [],
    axes := [], moves := [], servoT := 2500, haul := ⟨[], none, []⟩, nak := false, hkc := [], afeGrp := [] }
  let d := { d with gal := { galleryInit with roles := (d.gal.nextRoles.getD d.gal.roles) } }
  let d := { d with sump := { sumpInit with bank := d.sump.bank, spareUsed := d.sump.spareUsed, migrating := d.sump.migrating } }
  let d := forGC d (fun d g c => let x := d.ch g c
    d.setCh g c { afeChInit (9 * g + c) with tapOf := x.tapOf, spare := x.spare, retired := x.retired, trims := x.trims, calMask := x.calMask })
  (List.range 8).foldl (fun (d : Dev) g => let x := d.lane g
    (d.setLane g { lanesInit g with serving := x.serving, retired := x.retired, sparePad := x.sparePad, assigned := x.assigned, points := x.points }).showLanes g) d

/-- What a WARM-domain reset returns beside; entries of the ledger's queue are programmed within 1 ms of their event and so
before BOOT reads the slots (R489). -/
def Dev.warmState (d : Dev) : Dev :=
  let t := d.time
  { d with
    time := { timeInit with crnSec := t.crnSec, crnNs := t.crnNs, crnFrac := t.crnFrac, crnSub := t.crnSub },
    tet := tetherInit, hkcCal := false, ledger := d.ledger ++ d.ledgerQ, ledgerQ := [],
    sec := { d.sec with challenge := none, unlock := none } }

/-- The function's state on the link at a reset. -/
def Dev.linkReset (d : Dev) (k : ResetKind) : Dev :=
  match k with
  | .watchdog => d
  | .warm => d
  | .flr => { d with link := { d.link with busMaster := false, relaxed := false, ptm := false, d3hot := false }, msixTab := [] }
  | _ => { d with link := { d.link with up := false, busMaster := false, relaxed := false, ptm := false, d3hot := false }, msixTab := [] }

/-- The reset takes effect. -/
def Dev.applyReset (d : Dev) (k : ResetKind) : Dev :=
  let boot := k.boots || decide (d.mode = .boot)
  let fails := d.f F.SEC_DBG_STATUS.FAIL_CNT
  let inBoot := d.mode
  let d := d.floatPins
  let d := if k.rank ≤ 1 then { d with ram := [], ledgerQ := [], tap := tapInit } else d
  let d := if k.rank ≤ 3 then d.warmState else d
  let d := d.resetRegs k.domain
  let d := if k.rank ≤ 1 then d else (d.setF F.SEC_DBG_STATUS.FAIL_CNT fails).setF F.SEC_LEDGER_STATUS.QUEUED d.ledgerQ.length
  let d := if k.rank = 0 then
      { d with time := timeInit, link := { d.link with wakeN := false, mainEn := true } } else d
  let d := d.funcState.linkReset k
  let d := { d with rst := if k.stops then none else some k, mode := if boot then .boot else inBoot }
  let d := d.flag k.cause
  if boot then d else (d.setMode .standby).secRefresh

/-- A watchdog, warm, conventional or function-level reset: with every axis at standstill at once; else the axes stop with
EDEC and EJERK first, capture ends and no completion is posted (R461). -/
def Dev.startReset (d : Dev) (k : ResetKind) : Dev :=
  match d.mode, d.rst with
  | .dormant, _ => d
  | _, some p =>
    if !p.stops then d
    else { d.flag k.cause with rst := some (if k.rank < p.rank then k else p) }
  | .boot, none => d.applyReset k
  | _, none =>
    if d.allStand then d.applyReset k
    else
      let d := (((d.flag k.cause).disarm 2).stopAxes (List.range 6) .estop)
      let d := { d with
        moves := d.moves.map (fun (m : Move) => { m with owner := .silent }), running := [], ctxs := [], req := none,
        slots := [], haul := ⟨[], none, []⟩, rst := some k }
      (List.range 6).foldl (fun (d : Dev) a => d.setPower a (d.powerOf a)) d

/-- The stop of the axes ends, or 80 ms have passed: gates off and the reset applied (R461). -/
def Dev.resetStopped (d : Dev) (timeout : Bool) : Dev :=
  match d.rst with
  | some k =>
    if !k.stops then d
    else if timeout || d.allStand then d.applyReset k
    else (List.range 6).foldl (fun (d : Dev) a => d.setPower a (d.powerOf a)) d
  | none => d

/-- A write of PWR_RESET_CTRL (R459). -/
def Dev.resetCtrl (d : Dev) (rq : Req) (v : Nat) : Dev :=
  if d.mode = .dormant ∨ d.rst.isSome then d
  else if bitsOf v 31 24 = 0xA5 ∧ bitOf v 0 then d.startReset .warm
  else d.accessErr rq false .value R.PWR_RESET_CTRL

/-- A wake source ends DORMANT (R453): 0 WAKE_TIME, 1 a TEV_0 edge, 2 PERST_N, 3 RESET_N. -/
def Dev.wakes (d : Dev) (src : Nat) (falling : Bool) : Bool :=
  if src = 0 then
    let w := d.f F.PWR_WAKE_TIME_HI.SECONDS * 1000000000 + d.f F.PWR_WAKE_TIME_LO.NS
    d.on F.PWR_WAKE_CFG.WAKE_TIME_EN && decide (w ≤ d.cairn.1 * 1000000000 + d.cairn.2)
  else if src = 1 then d.on F.PWR_WAKE_CFG.TEV0_EN && decide (d.on F.PWR_WAKE_CFG.TEV0_EDGE = falling)
  else if src = 2 then d.on F.PWR_WAKE_CFG.PERST_EN else true

def Dev.wake (d : Dev) (src : Nat) (falling : Bool) : Dev :=
  if d.mode ≠ .dormant ∨ !d.wakes src falling then d
  else
    let d := (d.setF F.PWR_WAKE_CFG.WAKE_SRC src).emit (.pin "MAIN_EN" 0 1)
    let d := { d with link := { d.link with mainEn := true, wakeN := d.link.wakeN || decide (src ≠ 2), perst := d.link.perst && decide (src ≠ 2) } }
    let d := if src = 2 then d else d.emit (.pin "WAKE_N" 0 0)
    d.applyReset .dormantExit

/-! ## The ledger in BOOT (R490) -/

/-- The assignment of taps and the spare role from the retirements (R91): only channel 8 is left to serve a retired
channel's tap. -/
def Dev.formTaps (d : Dev) (g : Nat) : Dev :=
  let out := (List.range 8).filter (fun t => (d.ch g t).retired)
  let eight := !(d.ch g 8).retired
  (List.range 9).foldl (fun (d : Dev) c =>
    let x := d.ch g c
    if c < 8 then d.setCh g c { x with tapOf := if x.retired then none else some c, spare := false }
    else d.setCh g c { x with tapOf := if eight then out.head? else none, spare := eight && out.isEmpty }) d

/-- The receivers' assignment. -/
def formLane (x : Lanes) : Lanes :=
  let pad := (List.range 4).find? (fun n => x.retired.contains n)
  let ok := !x.retired.contains 4
  { x with
    serving := (List.range 4).map (fun n => if x.retired.contains n && ok then 4 else n),
    assigned := ok && pad.isSome, sparePad := if ok then pad.getD 0 else 0 }

def ledgerOk (e : List Byte) : Bool :=
  decide (e.length = 8) && decide (e.getD 7 0 = ~~~((e.take 7).foldl (fun (a b : Byte) => a ^^^ b) 0))

/-- Re-apply one entry; false when it is skipped. -/
def Dev.reapply (d : Dev) (e : List Byte) : Dev × Bool :=
  let k := bufNat e 0 1
  let u := bufNat e 1 1
  let src := bufNat e 2 1
  let dst := bufNat e 3 1
  if !ledgerOk e then (d, false)
  else if k = 1 ∨ k = 2 then
    if 8 ≤ u ∨ 9 ≤ src ∨ (d.ch u src).retired then (d, false) else (d.setCh u src { d.ch u src with retired := true }, true)
  else if k = 3 then
    if 8 ≤ u ∨ 5 ≤ src ∨ (d.lane u).retired.contains src then (d, false)
    else (d.setLane u { d.lane u with retired := (d.lane u).retired ++ [src] }, true)
  else if k = 4 then
    let role := d.gal.roles.getD src 3
    if u ≠ 0 ∨ role = 3 then (d, false)
    else
      let roles := d.gal.roles.set src 3
      let roles := match roles.findIdx? (fun r => r = 2) with
        | some t => roles.set t role
        | none => roles
      ({ d with gal := { d.gal with roles := roles } }, true)
  else if k = 5 then
    if 16 ≤ u ∨ 17 ≤ dst ∨ d.sump.bank.contains dst ∨ !d.sump.bank.contains src then (d, false)
    else ({ d with sump := { d.sump with bank := d.sump.bank.set u dst, spareUsed := true } }, true)
  else if k = 6 then
    let row := src + 256 * dst
    if d.rows.contains (u, row) ∨ 4 ≤ (d.rows.filter (fun r => r.1 = u)).length then (d, false)
    else ({ d with rows := d.rows ++ [(u, row)] }, true)
  else (d, false)

/-- Step 2 of BOOT: every entry in order on the state without substitutions. -/
def Dev.ledgerBoot (d : Dev) : Dev :=
  let d := { d with
    afeCh := [], lanes := [], gal := { d.gal with roles := [0, 1, 2] },
    sump := { d.sump with bank := List.range 16, spareUsed := false, migrating := none }, rows := [], rowErrs := [] }
  let r := d.ledger.foldl (fun (a : Dev × Nat) e => let q := a.1.reapply e
    (q.1, if q.2 then a.2 else a.2 + 1)) (d, 0)
  let d := r.1.setF F.SEC_LEDGER_STATUS.SKIPPED (min 255 r.2)
  let d := (List.range 8).foldl (fun (d : Dev) g => (d.formTaps g).setLane g (formLane (d.lane g)) |>.showLanes g) d
  let d := d.setRoles d.gal.roles
  let d := d.setB F.GAL_STATUS.NO_SLICE (decide (2 ≤ (d.gal.roles.filter (fun r => r = 3)).length))
  d.setF F.TOP_SRAM_STATUS.ROWS_USED (min 255 d.rows.length)

/-! ## BOOT (R451) -/

/-- A BOOT that fails stays in BOOT. -/
def Dev.bootFail (d : Dev) (code : Nat) : Dev := d.setF F.SEC_BOOT_STATUS.FAIL code

/-- Steps 4 to 6. -/
def Dev.bootEnd (d : Dev) (x : BootIn) : Dev :=
  let d := x.trims.foldl (fun (d : Dev) k => d.bootCal k) d
  let d := (d.hkcSelfcal x.hkc).1
  let d := d.setF (F.TIM_BASE_CTRL.STATE 0) 2
  (d.setMode .standby).secRefresh

def Dev.boot (d : Dev) (x : BootIn) : Dev :=
  if d.mode ≠ .boot ∨ d.rst.isSome then d
  else
    let d := (d.count F.PWR_RESET_CAUSE.BOOT_CNT 1).setF F.SEC_BOOT_STATUS.FAIL 0
    let d := d.setSec { d.sec with image := none, store := none }
    if !x.sram then d.bootFail 4
    else if x.otpError then d.bootFail 1
    else
      let d := d.ledgerBoot.secRefresh
      if !x.flash then d.bootFail 2
      else
        let r := d.imgBoot x.readErrA x.readErrB
        if !r.2 then r.1.bootFail 3 else (r.1.storeBoot.deriveIdentity.secRefresh).bootEnd x

/-! ## D3hot and the link (R450, R451, R453) -/

/-- The link trains when PERST_N is not asserted. -/
def Dev.linkTrained (d : Dev) : Dev :=
  if d.mode = .dormant ∨ d.link.perst then d else { d with link := { d.link with up := true } }

/-- PERST_N deasserted outside DORMANT: WAKE_N is released. -/
def Dev.perstHigh (d : Dev) : Dev :=
  if d.mode = .dormant then d
  else
    let d := if d.link.wakeN then d.emit (.pin "WAKE_N" 0 1) else d
    { d with link := { d.link with perst := false, wakeN := false } }

/-- The function returns to D0. -/
def Dev.d0 (d : Dev) : Dev :=
  let d := { d with link := { d.link with d3hot := false } }
  d.pba.foldl (fun d v => d.pbaSend v) d

/-- LOCK_LOST of a group PLL; `back`: the PLL has lock again. -/
def Dev.pllLost (d : Dev) (g : Nat) (back : Bool) : Dev :=
  if !d.pllRuns g then d
  else if back then d.setF (F.GRP_PLL_STATUS.LOCKED g) 1
  else (d.setF (F.GRP_PLL_STATUS.LOCKED g) 0).flag (F.GRP_PLL_STATUS.LOCK_LOST g)

/-! ## Meanings -/

def execModeReqStandby (rq : Req) (s : State) : Host.Outcome State Fault Refusal := s.lift (·.modeReq rq 1)
def execModeReqCalibrate (rq : Req) (s : State) : Host.Outcome State Fault Refusal := s.lift (·.modeReq rq 2)
def execModeReqRun (rq : Req) (s : State) : Host.Outcome State Fault Refusal := s.lift (·.modeReq rq 3)
def execModeReqService (rq : Req) (s : State) : Host.Outcome State Fault Refusal := s.lift (·.modeReq rq 4)
def execModeReqDormant (rq : Req) (s : State) : Host.Outcome State Fault Refusal := s.lift (·.modeReq rq 5)
def execModeRequestComplete (s : State) : Host.Outcome State Fault Refusal := s.lift (·.modeDone)

/-- A write of PWR_RESET_CTRL: with WARM = 1 and KEY = 0xA5 a warm software reset. -/
def execWarmSoftwareReset (rq : Req) (v : Word) (s : State) : Host.Outcome State Fault Refusal := s.lift (·.resetCtrl rq v.toNat)

def execPowerOnReset (s : State) : Host.Outcome State Fault Refusal := s.lift (·.applyReset .aonLost)

/-- In DORMANT the MAIN rails are removed, and nothing trips. -/
def execBrownOut (s : State) : Host.Outcome State Fault Refusal :=
  s.lift (fun d => if d.mode = .dormant then d else d.applyReset .aonKept)

/-- The held reset is released (R456). -/
def execRailsValid (s : State) : Host.Outcome State Fault Refusal :=
  s.lift (fun d => match d.rst with
    | some k => if k.stops then d else { d with rst := none }
    | none => d)

/-- RESET_N in DORMANT is a wake source (R453). -/
def execResetN (s : State) : Host.Outcome State Fault Refusal :=
  s.lift (fun d => if d.mode = .dormant then d.wake 3 false else d.applyReset .pin)

def execWatchdogExpiry (s : State) : Host.Outcome State Fault Refusal := s.lift (·.startReset .watchdog)

/-- `perst`: PERST_N was asserted; otherwise hot reset or link down. -/
def execPcieConventionalReset (perst : Bool) (s : State) : Host.Outcome State Fault Refusal :=
  s.lift (fun d => { d with link := { d.link with up := false, perst := d.link.perst || perst } }.startReset .conventional)

def execFunctionLevelReset (s : State) : Host.Outcome State Fault Refusal := s.lift (·.startReset .flr)

def execResetAxisStopped (timeout : Bool) (s : State) : Host.Outcome State Fault Refusal := s.lift (·.resetStopped timeout)

def execWakeFromDormant (src : Fin 4) (falling : Bool) (s : State) : Host.Outcome State Fault Refusal := s.lift (·.wake src falling)

def execBoot (x : BootIn) (s : State) : Host.Outcome State Fault Refusal := s.lift (·.boot x)

def execD0Return (s : State) : Host.Outcome State Fault Refusal := s.lift (·.d0)

def execLockLost (g : Fin 8) (back : Bool) (s : State) : Host.Outcome State Fault Refusal := s.lift (·.pllLost g back)

def execPerstNDeassertion (s : State) : Host.Outcome State Fault Refusal := s.lift (·.perstHigh)

def execLinkTrained (s : State) : Host.Outcome State Fault Refusal := s.lift (·.linkTrained)

end Sys2Proof.Machine
end

