-- ==== Sys2Proof/Machine/Access.lean ====
section
/-! DEFINITION. Reads of registers and windows: what a register shows, groups read through shadows, fields that clear on a
read (spec 00_scope.md R12-R14; 23_register_map.md R535-R541; 18 R451). -/

namespace Sys2Proof.Machine

/-! ## Access types (R14) -/

def fieldMask (hi lo : Nat) : Nat := 2 ^ (hi + 1) - 2 ^ lo

/-- The bits of a register whose fields have access `k`. -/
def RegFam.mask (f : RegFam) (k : Access) : Nat :=
  sumN (f.flds.map (fun x => if x.2.2 = k then fieldMask x.1 x.2.1 else 0))

def RegFam.bits (f : RegFam) (k : Access) : Word := BitVec.ofNat 32 (f.mask k)

/-- What a write stores: RW as written, 1 clears W1C, 1 sets W1S; every other bit stays. -/
def RegFam.store (f : RegFam) (old v : Word) : Word :=
  ((((old &&& ~~~ f.bits .rw) ||| (v &&& f.bits .rw)) &&& ~~~ (v &&& f.bits .w1c)) ||| (v &&& f.bits .w1s))

/-- A write by access types alone. -/
def Dev.plainWrite (d : Dev) (a : Nat) (v : Word) : Dev :=
  match famOf a with
  | some f => d.setReg a (f.store (d.reg a) v)
  | none => d

/-! ## Windows (R536) -/

/-- What an address outside the registers belongs to: the Haul program memory; a result window or the Flowstone log;
Flowstone bin `i`; context entry `n`; word `w` of the state entry of context `n`; the calibration store; the shading store
or a set header. -/
inductive Region where
  | program
  | results
  | bin (i : Nat)
  | entry (n : Nat)
  | ctxState (n w : Nat)
  | store (off : Nat)
  | shading
  | none
  deriving DecidableEq, Repr

def inWindow (a base size : Nat) : Bool := decide (base ≤ a) && decide (a < base + size)

def regionOf (a : Nat) : Region :=
  if inWindow a winHaul 0x4000 then .program
  else if inWindow a winSurvey 0x4000 || inWindow a winStrata 0x4000 || inWindow a winFlowLog 0x10000 then .results
  else if inWindow a winFlow 0x1000 then .bin ((a - winFlow) / 4)
  else if inWindow a winCtx 0x40000 then .entry ((a - winCtx) / 64)
  else if inWindow a winCtxState 0x10000 then .ctxState ((a - winCtxState) / 16) ((a - winCtxState) / 4 % 4)
  else if inWindow a winStore 0x100000 then .store (a - winStore)
  else if inWindow a winShade 0x800000 || inWindow a (shadeHeader 0) 1152 || inWindow a (shadeHeader 1) 1152 then .shading
  else .none

/-- I²C FIFO windows: the controller, and true for the receive side (R76). -/
def i2cWin (a : Nat) : Option (Nat × Bool) :=
  let o := (a - 0x28000) % 0x100
  if inWindow a 0x28000 0x400 && decide (0x40 ≤ o) && decide (o < 0x80) then some ((a - 0x28000) / 0x100, decide (0x60 ≤ o)) else none

/-- Result FIFO windows of the housekeeping converters (R409). -/
def hkcWin (a : Nat) : Option Nat :=
  if inWindow a 0xC0400 0x100 then some 0 else if inWindow a 0xC1400 0x100 then some 1 else none

/-! ## What a register shows -/

/-- A half of a 64-bit value. -/
def half (v : Nat) (hi : Bool) : Nat := if hi then v / 2 ^ 32 % 2 ^ 32 else v % 2 ^ 32

def Fld.put (x : Fld) (w v : Nat) : Nat := putBits w x.hi x.lo v

/-- HAU_CH_STATUS: STATE, QUEUED and LOOP_LEVEL of the channel (Table 13.7). -/
def Dev.haulStatus (d : Dev) (ch w : Nat) : Nat :=
  let c := d.hch ch
  let mine := match d.haul.run with | some r => decide (r.ch = ch) | none => false
  let st := if mine then (match d.haul.run with | some r => if r.waiting then 3 else 2 | none => 0)
    else if c.halted then 4 else if c.queue.isEmpty then 0 else 1
  let lvl := if mine then (match d.haul.run with | some r => r.stack.length | none => 0) else 0
  (F.HAU_CH_STATUS.LOOP_LEVEL ch).put ((F.HAU_CH_STATUS.QUEUED ch).put ((F.HAU_CH_STATUS.STATE ch).put w st) c.queue.length) lvl

/-- A count of the program that runs on the channel, else the latched one. -/
def Dev.haulLive (d : Dev) (ch w : Nat) (f : HaulRun → Nat) : Nat :=
  match d.haul.run with | some r => if r.ch = ch then f r else w | none => w

/-- RATE of NET and HOST; AXIS has none and reads 0. -/
def Dev.baseRate (d : Dev) (b : Nat) : Int := if b = 1 then d.netRate else if b = 2 then d.time.host.rate else 0

/-- The kept remaining distance (R363). -/
def Dev.axisRemain (d : Dev) (a : Nat) : Int := match (d.ax a).kept with | some k => k.dist | none => 0

/-- The registers whose value is that of other state: index `i` and `j` are the instance's. -/
def Dev.viewOf (d : Dev) (b i j w : Nat) : Nat :=
  if b = R.PWR_DOM_STATUS 0 then w ||| d.laneDomains i
  else if b = R.SEC_LEDGER_LO 0 then d.ledgerWord i false
  else if b = R.SEC_LEDGER_HI 0 then d.ledgerWord i true
  else if b = R.AFE_CH_CTRL 0 0 then
    (F.AFE_CH_CTRL.SPARE_ROLE i j).put ((F.AFE_CH_CTRL.TAP_OF i j).put w ((d.ch i j).tapOf.getD 15)) (b2n (d.ch i j).spare)
  else if b = R.AFE_CH_STATUS 0 0 then (F.AFE_CH_STATUS.RETIRED i j).put w (b2n (d.ch i j).retired)
  else if b = R.FLW_STATUS then F.FLW_STATUS.MASTER.put w (b2n d.feedMaster)
  else if b = R.SMP_POOL_STATUS then F.SMP_POOL_STATUS.MIGRATING.put w (b2n d.sump.migrating.isSome)
  else if b = R.SMP_GRP_RESERVE 0 then (F.SMP_GRP_RESERVE.USED i).put w (d.groupUse i)
  else if b = R.SMP_BANK 0 then (F.SMP_BANK.PHYS i).put w (d.sump.bank.getD i 0)
  else if b = R.HAU_CH_STATUS 0 then d.haulStatus i w
  else if b = R.HAU_CH_CMP_CNT 0 then d.haulLive i w (fun r => r.cmpCnt)
  else if b = R.HAU_CH_EXEC 0 then d.haulLive i w (fun r => r.executed)
  else if b = R.HAU_CH_CMP_ADDR_LO 0 then d.haulLive i w (fun r => half (r.cmpAddr.getD 0) false)
  else if b = R.HAU_CH_CMP_ADDR_HI 0 then d.haulLive i w (fun r => half (r.cmpAddr.getD 0) true)
  else if b = R.AXS_STATUS 0 then d.axisStatus i
  else if b = R.AXS_SETPOINT_FRAC 0 then unsigned 96 (d.ax i).x % 2 ^ 32
  else if b = R.AXS_SETPOINT_LO 0 then half (unsigned 96 (d.ax i).x / 2 ^ 32) false
  else if b = R.AXS_SETPOINT_HI 0 then half (unsigned 96 (d.ax i).x / 2 ^ 32) true
  else if b = R.AXS_VEL_LO 0 then half (unsigned 64 (d.ax i).v) false
  else if b = R.AXS_VEL_HI 0 then half (unsigned 64 (d.ax i).v) true
  else if b = R.AXS_REMAIN_LO 0 then half (unsigned 64 (d.axisRemain i)) false
  else if b = R.AXS_REMAIN_HI 0 then half (unsigned 64 (d.axisRemain i)) true
  else if b = R.CHP_EOFS_LO 0 then half (unsigned 64 (d.ax i).eofs) false
  else if b = R.CHP_EOFS_HI 0 then half (unsigned 64 (d.ax i).eofs) true
  else if b = R.ENC_POS_LO 0 then half (unsigned 64 (d.pos i)) false
  else if b = R.ENC_POS_HI 0 then half (unsigned 64 (d.pos i)) true
  else if b = R.TIM_BASE_TIME_LO 0 then half (d.baseVal i) false
  else if b = R.TIM_BASE_TIME_HI 0 then half (d.baseVal i) true
  else if b = R.TIM_BASE_RATE_LO 0 ∧ 0 < i then half (unsigned 64 (d.baseRate i)) false
  else if b = R.TIM_BASE_RATE_HI 0 ∧ 0 < i then half (unsigned 64 (d.baseRate i)) true
  else if b = R.CRN_TIME_LO then d.cairn.2
  else if b = R.CRN_TIME_HI then d.cairn.1
  else w

/-- The value a register shows; write-only fields read 0 (R13, R14). -/
def Dev.view (d : Dev) (a : Nat) : Nat :=
  match famOf a with
  | none => 0
  | some f =>
    let ix := (f.at a).getD []
    (BitVec.ofNat 32 (d.viewOf f.base (ix.getD 0 0) (ix.getD 1 0) (d.reg a).toNat) &&& ~~~ f.bits .wo).toNat

/-- The register groups (R538): base of the lowest word's family and the offsets of its higher words. -/
def groups : List (Nat × List Nat) :=
  [(R.TOP_DSN_LO, [4]), (R.PWR_WAKE_TIME_LO, [4]), (R.LTN_GRID_ORIGIN_LO, [4]), (R.LTN_HWM_LO, [4]), (R.LTN_LEAD_HWM_LO, [4]),
    (R.FLW_ANGLE_ZERO_LO, [4]), (R.HST_SQ_ERR_ADDR_LO 0, [4]), (R.HAU_CH_ADDR_LO 0, [4]), (R.HAU_CH_CMP_ADDR_LO 0, [4]),
    (R.HAU_CH_WB_LO 0, [4]), (R.AXS_SETPOINT_FRAC 0, [4, 8])] ++
  [(R.AXS_VEL_LO 0, [4]), (R.AXS_REMAIN_LO 0, [4]), (R.AXS_POS_SET_LO 0, [4]), (R.AXS_REF_POS_LO 0, [4]), (R.AXS_LATCH_LO 0, [4]),
    (R.AXS_LATCH_TIME_LO 0, [4]), (R.ENC_POS_LO 0, [4]), (R.CHP_EOFS_LO 0, [4]), (R.HKC_PASS_TIME_LO 0, [4]),
    (R.TIM_BASE_TIME_LO 0, [4]), (R.TIM_BASE_RATE_LO 0, [16]), (R.TIM_NET_SET_LO, [4]), (R.TIM_STALL_TIME_LO 0, [4]),
    (R.TIM_EVT_TIME_LO 0, [4]), (R.CRN_TIME_LO, [4]), (R.CRN_SET_LO, [4])]

def isHigher (base : Nat) : Bool := groups.any (fun g => g.2.any (fun o => decide (g.1 + o = base)))
def highersOf (base : Nat) : List Nat := ((groups.find? (fun g => g.1 = base)).map (fun g => g.2)).getD []

/-- A requester's shadow of the register at `a`. -/
def shadowKey (rq : Req) (a : Nat) : Nat :=
  (match rq with | .host => 0 | .supervisor => 1 | .haul c => 2 + c.val) * 2 ^ 26 + a

def Dev.shadow (d : Dev) (rq : Req) (a : Nat) : Nat := (spGet shadowDflt d.shadows (shadowKey rq a)).toNat
def Dev.setShadow (d : Dev) (rq : Req) (a v : Nat) : Dev :=
  { d with shadows := spSet shadowDflt d.shadows (shadowKey rq a) (BitVec.ofNat 32 v) }

/-- A read of a register: RC fields clear; PEAK restarts at USED (Table 12.7). -/
def Dev.readReg (d : Dev) (rq : Req) (f : RegFam) (a : Nat) : Nat × Dev :=
  if isHigher f.base then (d.shadow rq a, d)
  else
    let v := d.view a
    let d := (highersOf f.base).foldl (fun (x : Dev) o => x.setShadow rq (a + o) (d.view (a + o))) d
    let rc := f.bits .rc
    if rc = 0 then (v, d)
    else
      let d := d.setReg a (d.reg a &&& ~~~ rc)
      (v, if a = R.SMP_POOL_STATUS then d.sumpNote else d)

/-- A Haul access to an address that holds nothing is a bus error (R323). -/
def Dev.noTarget (d : Dev) (rq : Req) : Dev := match rq with | .haul _ => { d with nak := true } | _ => d

def Dev.readWindow (d : Dev) (rq : Req) (a : Nat) : Nat × Dev :=
  match i2cWin a with
  | some (n, true) => d.i2cPop rq n
  | some (_, false) => (0, d)
  | none =>
    match hkcWin a with
    | some c => d.hkcPop rq c a
    | none =>
      match regionOf a with
      | .program => (d.mem a 4, d)
      | .results => (d.mem a 4, d)
      | .bin _ => (d.mem a 4, d)
      | .entry _ => (d.mem a 4, d)
      | .ctxState n w => (d.ctxStateWord n w, d)
      | .store o => (leNat ((List.range 4).map (fun i => d.storeByte (o + i))), d)
      | .shading => (d.mem a 4, d)
      | .none => (0, d.noTarget rq)

/-- Does a register answer a read in BOOT (R451, R540)? -/
def bootReads (a : Nat) : Bool :=
  inWindow a 0x10000 0x1000 || decide (a = R.TOP_ID) || decide (a = R.TOP_DSN_LO) || decide (a = R.TOP_DSN_HI) ||
    decide (a = R.SEC_BOOT_STATUS) || decide (a = R.SEC_OTP_STATUS)

/-- Does BAR0 answer: not in DORMANT, nor while a reset is carried out? -/
def Dev.answers (d : Dev) : Bool := decide (d.mode ≠ .dormant) && d.rst.isNone

/-- A 32-bit read at a word address of BAR0. -/
def Dev.readWord (d : Dev) (rq : Req) (addr : Nat) : Nat × Dev :=
  let a := addr / 4 * 4
  if !d.answers || (decide (d.mode = .boot) && !bootReads a) then (0, d)
  else
    match famOf a with
    | some f => d.readReg rq f a
    | none => d.readWindow rq a

/-- A read by the host or the supervisor returns its value. -/
def Dev.hostRead (d : Dev) (rq : Req) (a : Nat) : Dev :=
  if !d.answers then d else let r := d.readWord rq a; r.2.emit (.readData (a / 4 * 4) r.1)

/-! ## Meanings -/

def execRcRead (rq : Req) (a : Nat) (s : State) : Host.Outcome State Fault Refusal := s.lift (·.hostRead rq a)

def execTwoHalfRead (rq : Req) (a : Nat) (s : State) : Host.Outcome State Fault Refusal := s.lift (·.hostRead rq a)

end Sys2Proof.Machine
end

