-- ==== Sys2Proof/Machine/RegAccess.lean ====
section
/-! DEFINITION. Writes of registers and windows: each register's own rule, else its access types; test multiplexers (spec
00_scope.md R12-R14; 23_register_map.md R535-R542; 21_test_access.md R498-R502; the register tables of every chapter). -/

namespace Sys2Proof.Machine

/-- A write discarded without a record; for a Haul channel it is a bus error (R323). -/
def Dev.discarded (d : Dev) (rq : Req) : Dev := d.noTarget rq

/-- Is the field's value in a written word the one in force? -/
def Dev.sameF (d : Dev) (x : Fld) (v : Word) : Bool := decide (bitsOf v.toNat x.hi x.lo = d.f x)

def wordF (x : Fld) (v : Word) : Nat := bitsOf v.toNat x.hi x.lo

/-! ## TOP_, PWR_, SEC_ -/

/-- TOP_INT_STATUS: after the write, one message when a bit of the AND stays set (R542). -/
def Dev.intStatusWrite (d : Dev) (v : Word) : Dev :=
  let d := d.plainWrite R.TOP_INT_STATUS v
  if d.intPending then d.errVec else d

/-- TOP_INT_ENABLE: one message when the AND goes from zero to nonzero. -/
def Dev.intEnableWrite (d : Dev) (v : Word) : Dev :=
  let was := d.intPending
  let d := d.plainWrite R.TOP_INT_ENABLE v
  if !was && d.intPending then d.errVec else d

/-- SEC_DBG_CTRL: CHAL_REQ, RESP_GO, LOCK_NOW; all clear themselves (R482). -/
def Dev.dbgCtrlWrite (d : Dev) (v : Word) : Dev :=
  let d := if bitOf v.toNat 31 then d.chalReq else d
  let d := if bitOf v.toNat 30 then d.respGo else d
  if bitOf v.toNat 29 then d.lockNow else d

def Dev.writeTop (d : Dev) (rq : Req) (a : Nat) (v : Word) : Dev :=
  if a = R.TOP_INT_STATUS then d.intStatusWrite v
  else if a = R.TOP_INT_ENABLE then d.intEnableWrite v
  else if a = R.PWR_MODE_CTRL then d.modeReq rq (bitsOf v.toNat 2 0)
  else if a = R.PWR_RESET_CTRL then d.resetCtrl rq v.toNat
  else if a = R.SEC_DBG_CTRL then d.dbgCtrlWrite v
  else d.plainWrite a v

/-! ## TST_ (R498-R502) -/

/-- Codes that Tables 21.1 and 21.2 list. -/
def tstListed (atest : Bool) (sel : Nat) : Bool :=
  let b := sel / 64
  let i := sel % 64
  if atest then
    if b = 0 then decide (i = 0) else if b ≤ 8 then decide (i < 36) else if b = 9 then decide (i ≤ 10)
    else if b = 10 then decide (i ≤ 5) else if b = 11 then decide (i ≤ 15) else decide (b = 12 ∧ i ≤ 10)
  else
    if b = 0 then decide (i ≤ 1) else if b ≤ 8 then decide (i ≤ 13) else if b = 9 then decide (i ≤ 18)
    else if b = 10 then decide (i ≤ 24) else decide ((b = 11 ∨ b = 12) ∧ i ≤ 7)

/-- A direct selection of a node of a channel whose output is selected for a tap (R502). -/
def Dev.tstRefused (d : Dev) (v : Word) : Bool :=
  let b := wordF (F.TST_ATEST_SEL.SEL 0) v / 64
  !bitOf v.toNat 30 && decide (1 ≤ b) && decide (b ≤ 8) && (d.ch (b - 1) (wordF (F.TST_ATEST_SEL.SEL 0) v % 64 / 4)).tapOf.isSome

/-- The pin opens, or is driven low, then takes the new node or signal (R499). -/
def Dev.tstPin (d : Dev) (atest : Bool) (n : Nat) (v : Word) : Dev :=
  let d := d.emit (.pin (if atest then "ATEST_OPEN" else "DTEST_LOW") n 0)
  if bitOf v.toNat 31 then d.emit (.pin (if atest then "ATEST_NODE" else "DTEST_SIGNAL") n (bitsOf v.toNat 9 0)) else d

def Dev.tstWrite (d : Dev) (rq : Req) (atest : Bool) (n : Nat) (v : Word) : Dev :=
  let a := if atest then R.TST_ATEST_SEL n else R.TST_DTEST_SEL n
  if !d.tstActive then d.accessErr rq false .locked a
  else if !tstListed atest (bitsOf v.toNat 9 0) then d.accessErr rq false .value a
  else if atest && d.tstRefused v then (d.flag F.TST_STATUS.SEL_REFUSED).discarded rq
  else (d.plainWrite a v).tstPin atest n v

/-! ## I²C (R76) -/

/-- A target for a GO that no command of this row describes: how it answers is not known (log 2). -/
def Dev.freeTarget (d : Dev) : I2cTarget × Dev :=
  let a := d.freeNat 1
  let n := a.2.freeNat 9
  let r := (List.range 8).foldl (fun (x : List Byte × Dev) _ => let y := x.2.freeNat 256
    (x.1 ++ leBytes 32 y.1, y.2)) (([] : List Byte), n.2)
  (⟨decide (a.1 = 1), n.1, r.1⟩, r.2)

def Dev.i2cCmdWrite (d : Dev) (rq : Req) (n : Nat) (v : Word) : Dev :=
  let t := d.freeTarget
  if bitOf v.toNat 31 then t.2.i2cCmd rq n v t.1 else d.i2cCmd rq n v ⟨false, 0, []⟩

/-! ## AFE_ (R102, R103, R210, R491) -/

def Dev.wearWrite (d : Dev) (rq : Req) (g c : Nat) (v : Word) : Dev :=
  if bitOf v.toNat 31 && decide (d.f (F.AFE_GRP_CAL.METHOD g) ≠ 1) then d.retireReq rq g c
  else
    let d := d.plainWrite (R.AFE_CH_WEAR g c) v
    if bitOf v.toNat 30 then d.retireCancel g c else d

def Dev.switchWrite (d : Dev) (g : Nat) (v : Word) : Dev :=
  let was := d.on (F.AFE_GRP_SWITCH.SPARE_EN g)
  let d := d.plainWrite (R.AFE_GRP_SWITCH g) v
  if was = d.on (F.AFE_GRP_SWITCH.SPARE_EN g) then d else d.spareEnChanged g

def Dev.refCfgWrite (d : Dev) (rq : Req) (v : Word) : Dev :=
  let n := wordF F.AFE_REF_CFG.REF_UV v
  if n < 1000000 ∨ 1500000 < n then d.accessErr rq false .value R.AFE_REF_CFG else d.plainWrite R.AFE_REF_CFG v

/-- AFE_ registers, by the base of their family and their indexes. -/
def Dev.writeAfe (d : Dev) (rq : Req) (b g c n : Nat) (a : Nat) (v : Word) : Dev :=
  if b = R.AFE_CH_CTRL 0 0 then d.chCtrlWrite g c v
  else if b = R.AFE_CH_RANGE 0 0 then d.chRangeWrite rq g c v
  else if b = R.AFE_CH_TRIM 0 0 0 then d.trimWrite g c n v
  else if b = R.AFE_CH_WEAR 0 0 then d.wearWrite rq g c v
  else if b = R.AFE_GRP_SWITCH 0 then d.switchWrite g v
  else if b = R.AFE_GRP_INJ 0 then (if bitOf v.toNat 30 then d.injGo rq g v else d.plainWrite a v)
  else if b = R.AFE_GRP_SERVICE 0 then (if bitOf v.toNat 31 then d.serviceGo g v else d.plainWrite a v)
  else if b = R.AFE_REF_CFG then d.refCfgWrite rq v
  else d.plainWrite a v

/-! ## LTN_, GAL_, SHD_ -/

def Dev.writeLtn (d : Dev) (rq : Req) (b n : Nat) (a : Nat) (v : Word) : Dev :=
  if b = R.LTN_GRID_CTRL then d.gridCtrlWrite rq v
  else if b = R.LTN_GRID_ORIGIN_LO ∨ b = R.LTN_GRID_ORIGIN_HI ∨ b = R.LTN_HWM_LO ∨ b = R.LTN_HWM_HI then d.gridHalf rq a v
  else if b = R.LTN_SEQ_TIMING ∨ b = R.LTN_SEQ_MISC then d.seqWrite rq a 0xFFFFFF00#32 v
  else if b = R.LTN_CH_CFG 0 then d.seqWrite rq a 0xF8007FFF#32 v
  else if b = R.LTN_CH_SET 0 then d.setPoint n v
  else d.plainWrite a v

/-- A signed field within ±`m`, or the write is discarded and recorded. -/
def Dev.signedWrite (d : Dev) (rq : Req) (x : Fld) (m : Int) (v : Word) : Dev :=
  let n := signed (x.hi + 1 - x.lo) (wordF x v)
  if n < -m ∨ m < n then d.accessErr rq false .value x.addr else d.plainWrite x.addr v

/-- SHD_CTRL: SWAP_CANCEL clears SWAP_REQ; a change of TRACK_LOG restarts tracking (R169, R180). -/
def Dev.shdCtrlWrite (d : Dev) (v : Word) : Dev :=
  let same := d.sameF F.SHD_CTRL.TRACK_LOG v
  let d := d.plainWrite R.SHD_CTRL v
  let d := if bitOf v.toNat 29 then d.setF F.SHD_CTRL.SWAP_REQ 0 else d
  if same then d else { d with shd := { d.shd with track := [] } }

def Dev.writeLight (d : Dev) (rq : Req) (b i j : Nat) (a : Nat) (v : Word) : Dev :=
  if b = R.GAL_STITCH_ADJ 0 then d.signedWrite rq (F.GAL_STITCH_ADJ.ADJ i) 3000 v
  else if b = R.SHD_CTRL then d.shdCtrlWrite v
  else if b = R.SHD_MOD_GAIN 0 0 then d.mulWrite rq i j (bitsOf v.toNat 15 0)
  else if b = R.SHD_TRACK_SRC 0 then (if bitsOf v.toNat 31 30 = 3 then d.discarded rq else d.plainWrite a v)
  else d.plainWrite a v

/-! ## SUR_, STR_, FLW_ (R221, R254) -/

/-- SUR_CTRL: while armed only CONF_MIN is stored. -/
def Dev.surCtrlWrite (d : Dev) (rq : Req) (v : Word) : Dev :=
  if !d.armed then d.plainWrite R.SUR_CTRL v
  else
    let old := d.reg R.SUR_CTRL
    let f : Word := 0xFF3FFF00#32
    let d := if (v ^^^ old) &&& f = 0 then d else d.accessErr rq false .locked R.SUR_CTRL
    d.setReg R.SUR_CTRL ((old &&& f) ||| (v &&& 0xFF#32))

/-- A write that the armed grid locks. -/
def Dev.unlessArmed (d : Dev) (rq : Req) (a : Nat) (f : Dev → Dev) : Dev :=
  if d.armed then d.accessErr rq false .locked a else f d

/-- A write of a field that has a smallest and a largest value. -/
def Dev.rangeWrite (d : Dev) (rq : Req) (x : Fld) (lo hi : Nat) (v : Word) : Dev :=
  let n := wordF x v
  if n < lo ∨ hi < n then d.accessErr rq false .value x.addr else d.plainWrite x.addr v

def Dev.surQuotaWrite (d : Dev) (v : Word) : Dev :=
  let old := d.surveyQuota
  let d := d.plainWrite R.SUR_QUOTA v
  d.limitChanged 2 0 d.sump.survey old d.surveyQuota

/-- FLW_CPR, FLW_ANGLE_ZERO: no change while LEARN_EN or CORR_EN is 1. -/
def Dev.flowLocked (d : Dev) : Bool := d.on F.FLW_CTRL.LEARN_EN || d.on F.FLW_CTRL.CORR_EN

def Dev.cprWrite (d : Dev) (rq : Req) (v : Word) : Dev :=
  if v.toNat < 1024 ∨ 2 ^ 31 ≤ v.toNat then d.accessErr rq false .value R.FLW_CPR
  else if d.flowLocked then d.discarded rq else d.plainWrite R.FLW_CPR v

def Dev.writeAnalysis (d : Dev) (rq : Req) (b i : Nat) (a : Nat) (v : Word) : Dev :=
  if b = R.SUR_CTRL then d.surCtrlWrite rq v
  else if b = R.SUR_QUOTA then d.surQuotaWrite v
  else if b = R.SUR_D_ADJ 0 then d.unlessArmed rq a (fun d => d.signedWrite rq (F.SUR_D_ADJ.D_ADJ i) 141732 v)
  else if b = R.SUR_WIN_POS 0 then d.unlessArmed rq a (fun d => d.plainWrite a v)
  else if b = R.SUR_WIN_CFG 0 then d.unlessArmed rq a (fun d => d.rangeWrite rq (F.SUR_WIN_CFG.WIDTH i) 16 256 v)
  else if b = R.STR_CTRL then d.strCtrlWrite rq v
  else if b = R.STR_DIST_ADJ then d.signedWrite rq F.STR_DIST_ADJ.DIST_ADJ 1417323 v
  else if b = R.STR_WIN_CFG 0 then d.unlessArmed rq a (fun d => d.plainWrite a v)
  else if b = R.STR_WIN_WIDTH 0 then d.rangeWrite rq (F.STR_WIN_WIDTH.WIDTH i) 16 65535 v
  else if b = R.FLW_CPR then d.cprWrite rq v
  else if b = R.FLW_ANGLE_ZERO_LO ∨ b = R.FLW_ANGLE_ZERO_HI then
    (if d.flowLocked then d.accessErr rq false .locked a else d.plainWrite a v)
  else d.plainWrite a v

/-! ## HST_, SMP_, HAU_ -/

/-- A ring's base: not while the ring is enabled; a multiple of 4 KiB (R302). -/
def Dev.baseWrite (d : Dev) (rq : Req) (en : Fld) (lo : Bool) (a : Nat) (v : Word) : Dev :=
  if d.on en then d.accessErr rq false .locked a
  else if lo && decide (v.toNat % 4096 ≠ 0) then d.accessErr rq false .value a
  else d.plainWrite a v

def Dev.writeRings (d : Dev) (rq : Req) (b n : Nat) (a : Nat) (v : Word) : Dev :=
  if b = R.CTX_SUPPLY_CFG 0 then d.supplyCfg rq n v
  else if b = R.HST_ABORT_CTRL then d.registerAbort rq v
  else if b = R.HST_SQ_BASE_LO 0 ∨ b = R.HST_SQ_BASE_HI 0 then d.baseWrite rq (F.HST_SQ_CFG.EN n) (decide (b = R.HST_SQ_BASE_LO 0)) a v
  else if b = R.HST_CQ_BASE_LO 0 ∨ b = R.HST_CQ_BASE_HI 0 then d.baseWrite rq (F.HST_CQ_CFG.EN n) (decide (b = R.HST_CQ_BASE_LO 0)) a v
  else if b = R.HST_SQ_CFG 0 then d.sqCfgWrite rq n v
  else if b = R.HST_CQ_CFG 0 then d.cqCfgWrite rq n v
  else d.plainWrite a v

/-- The governor's levels keep low < high < full (R314). -/
def Dev.levelWrite (d : Dev) (rq : Req) (a : Nat) (v : Word) : Dev :=
  let full := if a = R.SMP_GOV_CTRL then wordF F.SMP_GOV_CTRL.FULL v else d.f F.SMP_GOV_CTRL.FULL
  let high := if a = R.SMP_GOV_LEVELS then wordF F.SMP_GOV_LEVELS.HIGH v else d.f F.SMP_GOV_LEVELS.HIGH
  let low := if a = R.SMP_GOV_LEVELS then wordF F.SMP_GOV_LEVELS.LOW v else d.f F.SMP_GOV_LEVELS.LOW
  if low < high ∧ high < full then d.plainWrite a v else d.accessErr rq false .value a

/-- RESERVE_g: the eight reserves never exceed 3,072 together (R307). -/
def Dev.reserveWrite (d : Dev) (rq : Req) (g : Nat) (v : Word) : Dev :=
  let n := wordF (F.SMP_GRP_RESERVE.RESERVE g) v
  let others := sumN ((List.range 8).map (fun h => if h = g then 0 else d.groupReserve h))
  if 3072 < others + n then d.accessErr rq false .value (R.SMP_GRP_RESERVE g)
  else
    let old := d.groupReserve g
    (d.plainWrite (R.SMP_GRP_RESERVE g) v).limitChanged 1 g (d.groupUse g) old n

def Dev.haulQuotaWrite (d : Dev) (v : Word) : Dev :=
  let old := d.haulQuota
  let d := d.plainWrite R.SMP_HAUL_QUOTA v
  d.limitChanged 3 0 d.sump.haul old d.haulQuota

/-- HAU_CH_START_HI pushes the address formed with the last LO written (R321, R342). -/
def Dev.haulStart (d : Dev) (rq : Req) (ch : Nat) (hi : Nat) : Dev :=
  if d.haulFull ch then d.accessErr rq false .locked (R.HAU_CH_START_HI ch)
  else d.haulPush ch ⟨(d.reg (R.HAU_CH_START_LO ch)).toNat + hi * 2 ^ 32, none⟩

/-- CLEAR leaves HALTED (R341). -/
def Dev.haulClear (d : Dev) (ch : Nat) : Dev := d.setHch ch { d.hch ch with halted := false }

def Dev.writeSump (d : Dev) (rq : Req) (b n : Nat) (a : Nat) (v : Word) : Dev :=
  if b = R.SMP_GOV_CTRL ∨ b = R.SMP_GOV_LEVELS then d.levelWrite rq a v
  else if b = R.SMP_GRP_RESERVE 0 then d.reserveWrite rq n v
  else if b = R.SMP_QUOTA_SET then d.quotaSet (bitsOf v.toNat 11 0) (bitsOf v.toNat 28 16)
  else if b = R.SMP_HAUL_QUOTA then d.haulQuotaWrite v
  else if b = R.HAU_CH_START_LO 0 then d.setReg a v
  else if b = R.HAU_CH_START_HI 0 then d.haulStart rq n v.toNat
  else if b = R.HAU_CH_WB_LO 0 then (if v.toNat % 32 ≠ 0 then d.accessErr rq false .value a else d.plainWrite a v)
  else if b = R.HAU_CH_STATUS 0 then (if bitOf v.toNat 24 then d.haulClear n else d)
  else d.plainWrite a v

/-! ## AXS_, CHP_, ENC_ -/

/-- AXS_TICK_NUM, AXS_TICK_DEN (R350). -/
def Dev.tickWrite (d : Dev) (rq : Req) (a : Nat) (v : Word) : Dev :=
  if v.toNat = 0 ∨ 2 ^ 31 ≤ v.toNat then d.accessErr rq false .value a
  else if !d.stands 0 || (d.moveOf 0).isSome || d.armed then d.accessErr rq false .locked a
  else d.plainWrite a v

/-- A limit: 0 is no value (R354). -/
def Dev.limitWrite (d : Dev) (rq : Req) (a : Nat) (v : Word) : Dev :=
  if v = 0 then d.accessErr rq false .value a else d.plainWrite a v

/-- AXS_STATUS: POS_REFUSED, then POS_GO. -/
def Dev.axsStatusWrite (d : Dev) (i : Nat) (v : Word) : Dev :=
  let d := if bitOf v.toNat 23 then d.setF (F.AXS_STATUS.POS_REFUSED i) 0 else d
  if bitOf v.toNat 22 then d.posGo i else d

/-- AXS_REF_CTRL: GO starts the procedure METHOD names; the reserved METHOD starts none (log 90). -/
def Dev.refCtrlWrite (d : Dev) (i : Nat) (v : Word) : Dev :=
  let m := wordF (F.AXS_REF_CTRL.METHOD i) v
  if bitOf v.toNat 31 && decide (m ≠ 3) then
    d.refStart i m (bitOf v.toNat 28) (wordF (F.AXS_REF_CTRL.REF_SET i) v) (wordF (F.AXS_REF_CTRL.I_REF i) v)
  else d.plainWrite (R.AXS_REF_CTRL i) (v &&& 0x7FFFFFFF#32)

def Dev.stallCfgWrite (d : Dev) (rq : Req) (i : Nat) (v : Word) : Dev :=
  if bitsOf v.toNat 31 30 = 2 ∧ d.f (F.CHP_CFG.DRIVE_MODE i) = 2 then d.accessErr rq false .value (R.AXS_STALL_CFG i)
  else d.plainWrite (R.AXS_STALL_CFG i) v

def Dev.writeAxs (d : Dev) (rq : Req) (b i : Nat) (a : Nat) (v : Word) : Dev :=
  if b = R.AXS_SERVO_PERIOD then d.servoPeriodWrite rq v.toNat
  else if b = R.AXS_TICK_NUM ∨ b = R.AXS_TICK_DEN then d.tickWrite rq a v
  else if b = R.AXS_ESTOP then d.estop (bitsOf v.toNat 5 0)
  else if b = R.AXS_STATUS 0 then d.axsStatusWrite i v
  else if b = R.AXS_LIM_VEL 0 0 ∨ b = R.AXS_LIM_ACC 0 0 ∨ b = R.AXS_LIM_DEC 0 0 ∨ b = R.AXS_LIM_JERK 0 0 ∨
      b = R.AXS_EDEC 0 ∨ b = R.AXS_EJERK 0 then d.limitWrite rq a v
  else if b = R.AXS_STALL_CFG 0 then d.stallCfgWrite rq i v
  else if b = R.AXS_REF_CTRL 0 then d.refCtrlWrite i v
  else d.plainWrite a v

def Dev.chpCfgWrite (d : Dev) (rq : Req) (i : Nat) (v : Word) : Dev :=
  let n := wordF (F.CHP_CFG.OFF_TIME i) v
  if n < 5 ∨ 320 < n ∨ (bitsOf v.toNat 31 30 = 2 ∧ d.f (F.AXS_STALL_CFG.STALL_MODE i) = 2) then
    d.accessErr rq false .value (R.CHP_CFG i)
  else d.plainWrite (R.CHP_CFG i) v

/-- EANG_NUM, EANG_DEN, EPHASE: only while every gate of the axis is off; 0 is no ratio (R366). -/
def Dev.angleWrite (d : Dev) (rq : Req) (i : Nat) (ratio : Bool) (a : Nat) (v : Word) : Dev :=
  if (d.ax i).power ≠ .off then d.accessErr rq false .locked a
  else if ratio && decide (v = 0) then d.discarded rq else d.plainWrite a v

/-- TIER_Vk: the four stay strictly increasing (R373). -/
def Dev.tierWrite (d : Dev) (rq : Req) (i k : Nat) (a : Nat) (v : Word) : Dev :=
  let t (j : Nat) : Nat := if j = k then v.toNat else d.tierV i j
  if t 1 < t 2 ∧ t 2 < t 3 ∧ t 3 < t 4 then d.plainWrite a v else d.accessErr rq false .value a

/-- A new ENC_TYPE clears REFERENCED; the position goes on from the one that held (R377). -/
def Dev.encCfgWrite (d : Dev) (rq : Req) (i : Nat) (v : Word) : Dev :=
  let bits := wordF (F.ENC_CFG.SSI_BITS i) v
  let div := wordF (F.ENC_CFG.SSI_DIV i) v
  if bits < 8 ∨ 32 < bits ∨ div < 100 ∨ 4000 < div then d.accessErr rq false .value (R.ENC_CFG i)
  else
    let same := d.sameF (F.ENC_CFG.ENC_TYPE i) v
    let p := d.pos i
    let d := d.plainWrite (R.ENC_CFG i) v
    if same then d
    else (((d.setMeasured i p).setAx i { d.ax i with ssi := none }).setF (F.AXS_REF_STATUS.REFERENCED i) 0)

def Dev.encClear (d : Dev) (i : Nat) : Dev := (d.setF (F.ENC_STATUS.ENC_FAULT i) 0).setF (F.ENC_STATUS.CAUSE i) 0

def Dev.writeDrive (d : Dev) (rq : Req) (b i : Nat) (a : Nat) (v : Word) : Dev :=
  if b = R.CHP_CFG 0 then d.chpCfgWrite rq i v
  else if b = R.CHP_EANG_NUM 0 ∨ b = R.CHP_EANG_DEN 0 then d.angleWrite rq i true a v
  else if b = R.CHP_EPHASE 0 then d.angleWrite rq i false a v
  else if b = R.CHP_TIER_V1 0 then d.tierWrite rq i 1 a v
  else if b = R.CHP_TIER_V2 0 then d.tierWrite rq i 2 a v
  else if b = R.CHP_TIER_V3 0 then d.tierWrite rq i 3 a v
  else if b = R.CHP_TIER_V4 0 then d.tierWrite rq i 4 a v
  else if b = R.CHP_STATUS 0 then
    let d := d.plainWrite a (v &&& 0xBFFFFFFF#32)
    if bitOf v.toNat 30 then d.ocClear i else d
  else if b = R.ENC_CFG 0 then d.encCfgWrite rq i v
  else if b = R.ENC_STATUS 0 then (if bitOf v.toNat 30 then d.encClear i else d)
  else d.plainWrite a v

/-! ## HKC_, TIM_, CRN_, TET_ -/

def Dev.writeHkc (d : Dev) (rq : Req) (b c : Nat) (a : Nat) (v : Word) : Dev :=
  if b = R.HKC_SEQ_CTRL 0 then d.hkcCtrlWrite c v
  else if b = R.HKC_EXC_OWNER then
    (if d.on (F.HKC_SEQ_CTRL.RUN 0) || d.on (F.HKC_SEQ_CTRL.RUN 1) then d.accessErr rq false .locked a else d.plainWrite a v)
  else d.plainWrite a v

/-- TIM_BASE_CTRL_b: the fields, then REARM, then SET_GO of NET. -/
def Dev.baseCtrlWrite (d : Dev) (i : Nat) (v : Word) : Dev :=
  let d := d.plainWrite (R.TIM_BASE_CTRL i) (v &&& 0x7FF7FFFF#32)
  let d := if bitOf v.toNat 31 then d.rearm i else d
  if bitOf v.toNat 19 && decide (i = 1) then d.netSetGo else d

/-- LOCAL_TRIM, taken whole at the write of its HI half (R443). -/
def Dev.trimHiWrite (d : Dev) (rq : Req) (v : Word) : Dev :=
  let t := signed 64 ((d.reg (R.TIM_BASE_RATE_LO 0)).toNat + v.toNat * 2 ^ 32)
  if t < -rateMax ∨ rateMax < t then d.accessErr rq false .value (R.TIM_BASE_RATE_HI 0)
  else { d.setReg (R.TIM_BASE_RATE_HI 0) v with time := { d.time with trim := t } }

/-- TIM_CFG: EXP_BASE stays while armed (R424); NET_SRC decides what NET follows (R420). -/
def Dev.timCfgWrite (d : Dev) (rq : Req) (v : Word) : Dev :=
  let bad := d.armed && !d.sameF F.TIM_CFG.EXP_BASE v
  let was := d.netFree
  let old := d.f F.TIM_CFG.EXP_BASE
  let d := if bad then d.accessErr rq false .locked R.TIM_CFG else d
  let d := d.plainWrite R.TIM_CFG v
  let d := if bad then d.setF F.TIM_CFG.EXP_BASE old else d
  if was = d.netFree then d else d.netRole was

def Dev.crnCtrlWrite (d : Dev) (v : Word) : Dev :=
  let d := d.plainWrite R.CRN_CTRL (v &&& 0x1FFFFFFF#32)
  let d := if bitOf v.toNat 31 then d.cairnSetGo else d
  d.cairnCopy (bitsOf v.toNat 30 29)

/-- TET_CFG: EN = 0 stops the ports; giving up FEED_MASTER ends a conflict (R29, R430). -/
def Dev.tetCfgWrite (d : Dev) (v : Word) : Dev :=
  let d := d.plainWrite R.TET_CFG v
  let d := if d.on F.TET_CFG.FEED_MASTER then d else { d with tet := { d.tet with conflict := false } }
  if d.on F.TET_CFG.EN then d
  else ([0, 1] : List Nat).foldl (fun (d : Dev) p => (d.setPort p portInit).setF (F.TET_PORT.UP p) 0) d

def Dev.writeTime (d : Dev) (rq : Req) (b i : Nat) (a : Nat) (v : Word) : Dev :=
  if b = R.TIM_BASE_CTRL 0 then d.baseCtrlWrite i v
  else if b = R.TIM_BASE_RATE_LO 0 then (if i = 0 then d.setReg a v else d)
  else if b = R.TIM_BASE_RATE_HI 0 then (if i = 0 then d.trimHiWrite rq v else d)
  else if b = R.TIM_CFG then d.timCfgWrite rq v
  else if b = R.CRN_CTRL then d.crnCtrlWrite v
  else if b = R.TET_CFG then d.tetCfgWrite v
  else d.plainWrite a v

/-! ## Every register -/

def Dev.writeReg (d : Dev) (rq : Req) (f : RegFam) (a : Nat) (v : Word) : Dev :=
  let ix := (f.at a).getD []
  let i := ix.getD 0 0
  let j := ix.getD 1 0
  let b := f.base
  if b < 0x12000 then d.writeTop rq a v
  else if b < 0x20000 then
    if b = R.TST_ATEST_SEL 0 then d.tstWrite rq true i v
    else if b = R.TST_DTEST_SEL 0 then d.tstWrite rq false i v else d.plainWrite a v
  else if b < 0x40000 then
    if b = R.I2C_CFG 0 then d.i2cCfg rq i v else if b = R.I2C_CMD 0 then d.i2cCmdWrite rq i v else d.plainWrite a v
  else if b < 0x50000 then d.writeAfe rq b i j (ix.getD 2 0) a v
  else if b < 0x60000 then d.writeLtn rq b i a v
  else if b < 0x70000 then d.writeLight rq b i j a v
  else if b < 0x80000 then d.writeAnalysis rq b i a v
  else if b < 0xA0000 then d.writeRings rq b i a v
  else if b < 0xB0000 then d.writeSump rq b i a v
  else if b < 0xB4000 then d.writeAxs rq b i a v
  else if b < 0xC0000 then d.writeDrive rq b i a v
  else if b < 0xD0000 then d.writeHkc rq b i a v
  else d.writeTime rq b i a v

/-- The bytes that a write enables, over the word that stands there. -/
def mergeBytes (old new be : Nat) : Nat :=
  leNat ((List.range 4).map (fun i => BitVec.ofNat 8 ((if bitOf be i then new else old) / 256 ^ i)))

def Dev.writeWindow (d : Dev) (rq : Req) (a : Nat) (v : Word) (be : Nat) : Dev :=
  match i2cWin a with
  | some (n, false) => if be ≠ 15 then d.accessErr rq false .partialWrite a else d.i2cPush rq n v
  | some (_, true) => d.noTarget rq
  | none =>
    if (hkcWin a).isSome then d.noTarget rq
    else
      let w := mergeBytes (d.mem a 4) v.toNat be
      match regionOf a with
      | .program => d.setMem a 4 w
      | .bin i => d.binWrite rq i (BitVec.ofNat 32 w)
      | .entry n => if (d.ctx n).state = 0 then d.setMem a 4 w else d.accessErr rq false .locked a
      | .ctxState _ _ => d.accessErr rq false .locked a
      | .shading => d.accessErr rq false .locked a
      | .results => d.noTarget rq
      | .store _ => d.noTarget rq
      | .none => d.noTarget rq

/-- A write at a word address of BAR0 with the byte enables `be` (R12, R451). -/
def Dev.writeWord (d : Dev) (rq : Req) (addr : Nat) (v : Word) (be : Nat) : Dev :=
  let a := addr / 4 * 4
  if !d.answers || (decide (d.mode = .boot) && !inWindow a 0x10000 0x1000) then d
  else
    match famOf a with
    | some f => if be ≠ 15 then d.accessErr rq false .partialWrite a else d.writeReg rq f a v
    | none => d.writeWindow rq a v be

/-! ## Meanings -/

def execRegisterWrite (rq : Req) (a : Nat) (v : Word) (be : Fin 16) (s : State) : Host.Outcome State Fault Refusal :=
  s.lift (·.writeWord rq a v be)

/-- TOP_INT_ENABLE, or TOP_INT_STATUS. -/
def execTopIntWrite (rq : Req) (enable : Bool) (v : Word) (s : State) : Host.Outcome State Fault Refusal :=
  s.lift (·.writeWord rq (if enable then R.TOP_INT_ENABLE else R.TOP_INT_STATUS) v 15)

/-- Selector `n` of ATEST (0 to 3) or DTEST. -/
def execTstSelect (rq : Req) (atest : Bool) (n : Fin 8) (v : Word) (s : State) : Host.Outcome State Fault Refusal :=
  s.lift (fun d => if d.awake && !(atest && decide (3 < n.val)) then d.tstWrite rq atest n v else d)

end Sys2Proof.Machine
end

