-- ==== Sys2Proof/Machine/Cairn.lean ====
section
/-! DEFINITION. Cairn's action slots: TIME_SCHEDULE, due and late actions, what an action does; edges of TEV inputs (spec
17_time_cairn_and_tether.md R426-R429, R423, R444). -/

namespace Sys2Proof.Machine

def Dev.slot (d : Dev) (n : Nat) : Option Slot := (d.slots.find? (fun c => c.1 = n)).map (fun c => c.2)

/-- TIME_SCHEDULE: an unlisted action or base is a field out of range (R428, Table 11.5). -/
def Dev.schedule (d : Dev) (src : Src) (n action : Nat) (lateDrop : Bool) (base time : Nat) (param : List Word) : Dev :=
  if action = 0 ∨ 10 < action ∨ 4 < base then d.complete src (stInvalidField 1)
  else if !d.modeIn allModes then d.complete src stWrongMode
  else if (d.slot n).isSome then d.complete src (stCode 1)
  else
    let s : Slot := ⟨action, lateDrop, base, time, (List.range 4).map (fun i => (param.getD i 0#32).toNat), src, d.nextRun,
      decide (time ≤ d.slotBase base)⟩
    let d := d.startRun src (.schedule n)
    { d with slots := spIns n s d.slots }

/-- A slot that executes or is dropped now: its number. The slots whose base is at or past TIME, in ascending TIME and then
ascending slot. -/
def Dev.dueSlot (d : Dev) : Option (Nat × Slot) :=
  (d.slots.filter (fun c => decide (c.2.time ≤ d.slotBase c.2.base))).foldl (fun best c =>
    match best with
    | none => some c
    | some b => if c.2.time < b.2.time ∨ (c.2.time = b.2.time ∧ c.1 < b.1) then some c else some b) none

/-- The stamp of an execution in the base of its action (Table 17.2): an UNLOCKED base takes Cairn's value and counts
(R424). -/
def Dev.slotStamp (d : Dev) (b : Nat) : Nat × Dev := if b = 4 then (d.slotBase 4, d) else (d.stampVal b, d.stamped b 1)

/-- Outcomes of CRN_LAST: 0 OK, 1 QUEUE_FULL, 2 NO_EFFECT. -/
def Dev.crnLast (d : Dev) (slot outcome : Nat) : Dev := (d.setF F.CRN_LAST.SLOT slot).setF F.CRN_LAST.RESULT outcome

/-- LINE: a write of 1 to SOFT_TRIG. -/
def Dev.actLine (d : Dev) : Dev × Nat :=
  if d.modeIn [.service] && decide (d.f F.LTN_GRID_CTRL.TRIG_SRC = 2) then (d.otherLine, 0) else (d, 2)

/-- ARM: a write of ARMED = 1 with ARM_MODE. -/
def Dev.actArm (d : Dev) (mode : Nat) : Dev × Nat :=
  let x := F.LTN_GRID_CTRL.ARM_MODE
  let v := putBits ((d.reg R.LTN_GRID_CTRL).toNat) x.hi x.lo mode
  let d := d.gridCtrlWrite .supervisor (BitVec.ofNat 32 v ||| 0x80000000#32)
  (d, if d.armed then 0 else 2)

/-- PIN: 0 clear, 1 set, 2 toggle of a TEV output. -/
def Dev.actPin (d : Dev) (n op : Nat) : Dev × Nat :=
  if !bitOf (d.f F.TIM_CFG.TEV_DIR) n ∨ op = 3 then (d, 2)
  else
    let was := d.time.tev.getD n false
    let v := if op = 2 then !was else decide (op = 1)
    ({ d with time := { d.time with tev := d.time.tev.set n v } }.emit (.pin "TEV" n (b2n v)), 0)

/-- PULSE: CRN_OUT_0 or CRN_OUT_1, Haul event lines 14 and 15. -/
def Dev.actPulse (d : Dev) (n : Nat) : Dev × Nat := ((d.emit (.pin "CRN_OUT" n 1)).haulEvent (14 + n), 0)

/-- HAUL_START: a push under R321. -/
def Dev.actHaul (d : Dev) (ch addr : Nat) : Dev × Nat :=
  if d.haulFull ch then (d, 1) else (d.haulPush ch ⟨addr, none⟩, 0)

/-- The source of an action's own command: the scheduling SQ, the CID of PARAM (R429). -/
def Slot.cmdSrc (s : Slot) : Src := ⟨s.src.sq, Fin.ofNat 65536 (bitsOf (s.param.getD 0 0) 31 16), false, true⟩

/-- An action executes as its command or register write would at this moment. -/
def Dev.act (d : Dev) (n : Nat) (s : Slot) : Dev :=
  let p := s.param.getD 0 0
  let long := s.param.getD 2 0 + s.param.getD 3 0 * 2 ^ 32
  let reg (r : Dev × Nat) : Dev := r.1.crnLast n r.2
  if s.action = 1 then reg d.actLine
  else if s.action = 2 then reg (d.actArm (p % 2))
  else if s.action = 3 then reg (d.actPin (p % 4) (bitsOf p 9 8))
  else if s.action = 4 then reg (d.actPulse (p % 2))
  else if s.action = 5 then reg (d.haulRequest (12 + p % 4), 0)
  else if s.action = 6 then reg (d.actHaul (p % 8) long)
  else if s.action = 7 then
    if 5 < p % 8 then d.complete s.cmdSrc (stInvalidField 1)
    else d.moveOne s.cmdSrc (p % 8) (signed 64 long) (bitsOf p 13 12) (bitOf p 9) (bitOf p 8)
  else if s.action = 8 then d.resumeCmd s.cmdSrc (bitsOf p 29 24)
  else if s.action = 9 then d.ctxStart s.cmdSrc (bitsOf p 11 0) none
  else d.ctxStop s.cmdSrc (bitsOf p 11 0) none

/-- The next due slot executes, or is dropped when late under LATE_DROP. Its completion frees it. -/
def Dev.actionDue (d : Dev) : Dev :=
  if !d.awake then d
  else
    match d.dueSlot with
    | none => d
    | some (n, s) =>
      let d := d.freeSlot n
      if s.late && s.lateDrop then d.finish s.runId stLateDropped
      else
        let t := d.slotStamp s.base
        (t.2.finish s.runId { stOk with a := t.1, late := s.late }).act n s

/-! ## Edges of TEV inputs (R444) -/

def Dev.tevEdge (d : Dev) (n : Nat) (rising : Bool) : Dev :=
  if !d.alive || bitOf (d.f F.TIM_CFG.TEV_DIR) n || !bitOf (d.f F.TIM_EVT_CFG.TEV_EDGE) (2 * n + (if rising then 0 else 1)) then d
  else d.eventStamp n

/-! ## Meanings -/

/-- `param`: words 4 to 7 of the entry. -/
def execTimeSchedule (src : Src) (slot action : Fin 256) (lateDrop : Bool) (base : Fin 8) (time : BitVec 64) (param : List Word)
    (s : State) : Host.Outcome State Fault Refusal :=
  s.lift (·.schedule src slot action lateDrop base time.toNat param)

def execActionDue (s : State) : Host.Outcome State Fault Refusal := s.lift (·.actionDue)

def execTevEdge (n : Fin 4) (rising : Bool) (s : State) : Host.Outcome State Fault Refusal := s.lift (·.tevEdge n rising)

end Sys2Proof.Machine
end

