-- ==== Sys2Proof/Machine/Commands.lean ====
section
/-! DEFINITION. The start of fetched commands: order, fields, dispatch; NOP, unknown opcodes; D3hot (spec
11_host_rings_and_doorbells.md R289-R297; 18 R450). -/

namespace Sys2Proof.Machine

/-! ## Fields (Tables 11.3 and 11.5) -/

def maskAll : Nat := 0xFFFFFFFF

/-- Bits that Table 11.5 defines in word `i` of a command. -/
def wordMask (op i : Nat) : Nat :=
  let long : Nat := if i = 2 ∨ i = 3 then maskAll else 0
  if i = 0 then 0xFFFF03FF
  else if op = 0x01 then (if i = 1 then 0x3F else if i = 2 then 0xFFFFF000 else long)
  else if op = 0x02 ∨ op = 0x03 then (if i = 1 then 0x80000FFF else long)
  else if op = 0x10 then (if i = 1 then 0x3307 else long)
  else if op = 0x11 then (if i = 1 then 0x3F003300 else if i ≤ 13 then maskAll else 0)
  else if op = 0x12 ∨ op = 0x13 then (if i = 1 then 0x3F000000 else 0)
  else if op = 0x20 then (if i = 1 then 0xF000FFFF else if i = 2 then 0x3F else 0)
  else if op = 0x30 then (if i = 1 then 0xFF else 0)
  else if op = 0x31 then (if i = 1 then 0x1FF else if i = 2 then 0xFFFFFFF8 else if i ≤ 4 then maskAll else 0)
  else if op = 0x40 then (if i = 1 then 0xFF0FFF else if i ≤ 7 then maskAll else 0)
  else if op = 0x50 then (if i = 1 then 7 else if i ≤ 7 then maskAll else 0)
  else if op = 0x60 then (if i = 2 then 0xFFFFFFF8 else if i = 3 ∨ i = 4 ∨ 8 ≤ i then maskAll else 0)
  else if op = 0x61 then (if i = 1 then 0xFF else if i = 2 then 0xFFFFFFF8 else if i = 3 ∨ i = 4 then maskAll else 0)
  else 0

/-- Opcodes of Table 11.4. -/
def opcodes : List Nat := [0x00, 0x01, 0x02, 0x03, 0x10, 0x11, 0x12, 0x13, 0x20, 0x30, 0x31, 0x40, 0x50, 0x60, 0x61]

/-- The first word with a bit outside its mask. -/
def fieldBad (op : Nat) (w : Nat → Nat) : Option Nat :=
  (List.range 16).find? (fun i => decide (w i &&& wordMask op i ≠ w i))

/-! ## Simple commands -/

def Dev.nop (d : Dev) (src : Src) : Dev := if d.modeIn allModes then d.complete src stOk else d.complete src stWrongMode

def Dev.invalidOpcode (d : Dev) (src : Src) : Dev := d.complete src stInvalidOpcode

/-- STORE_WRITE by its STORE region. -/
def Dev.storeWrite (d : Dev) (src : Src) (store addr len : Nat) (x : CmdEnv) : Dev :=
  d.storeCmd src addr len (fun d =>
    if store = 1 then d.writeFirmware src len x.img x.flash
    else if store = 2 then d.writeCalStore src len x.img x.flash
    else if store = 0x10 then d.otpRequest src len x.img x.cut
    else d.storeReport src (d.storeRefused.getD 3) 0)

/-! ## Dispatch -/

/-- A command whose fields have passed. -/
def Dev.runCommand (d : Dev) (src : Src) (op : Nat) (w : Nat → Nat) (x : CmdEnv) : Dev :=
  let long (i : Nat) : Nat := w i + w (i + 1) * 2 ^ 32
  let at' : Option Int := if bitOf (w 1) 31 then some (signed 64 (long 2)) else none
  let set := bitsOf (w 1) 13 12
  let mask := bitsOf (w 1) 29 24
  if op = 0x00 then d.nop src
  else if op = 0x01 then d.bufferPost src (w 1) (long 2)
  else if op = 0x02 then d.ctxStart src (bitsOf (w 1) 11 0) at'
  else if op = 0x03 then d.ctxStop src (bitsOf (w 1) 11 0) at'
  else if op = 0x10 then
    if 5 < w 1 % 8 then d.complete src (stInvalidField 1)
    else d.moveOne src (w 1 % 8) (signed 64 (long 2)) set (bitOf (w 1) 9) (bitOf (w 1) 8)
  else if op = 0x11 then
    d.moveCoord src mask ((List.range 6).map (fun a => signed 64 (long (2 + 2 * a)))) set (bitOf (w 1) 9) (bitOf (w 1) 8)
  else if op = 0x12 then d.holdCmd src mask
  else if op = 0x13 then d.resumeCmd src mask
  else if op = 0x20 then
    let scope := bitsOf (w 1) 31 28
    if !abortTargetOk scope (bitsOf (w 1) 15 0) then d.complete src (stInvalidField 1)
    else if scope ≠ 4 ∧ w 2 ≠ 0 then d.complete src (stInvalidField 2)
    else d.abortCmd src scope (bitsOf (w 1) 15 0) (w 2)
  else if op = 0x30 then
    if w 1 = 1 then d.afeFull src x.afe
    else if w 1 = 2 then d.shadingFull src
    else if w 1 = 3 then d.hkcCalRun src x.hkc
    else d.complete src (stInvalidField 1)
  else if op = 0x31 then
    let table := bitsOf (w 1) 7 0
    if table = 0 ∨ 4 < table then d.complete src (stInvalidField 1)
    else d.tableLoad src table (long 2) (w 4) (decide (table = 2) && bitOf (w 1) 8)
  else if op = 0x40 then
    d.schedule src (bitsOf (w 1) 7 0) (bitsOf (w 1) 23 16) (bitOf (w 1) 11) (bitsOf (w 1) 10 8) (long 2)
      ((List.range 4).map (fun i => BitVec.ofNat 32 (w (4 + i))))
  else if op = 0x50 then d.boundaryPost src (w 1) (w 2) (w 3) (signed 64 (long 4)) (long 6)
  else if op = 0x60 then d.attestCmd src (long 2) (w 4) ((List.range 8).flatMap (fun i => leBytes 4 (w (8 + i))))
  else d.storeWrite src (w 1) (long 2) (w 4) x

/-- A fetched entry starts as a command of SQ `n`. -/
def Dev.startEntry (d : Dev) (n : Nat) (e : List Word) (x : CmdEnv) : Dev :=
  let w (i : Nat) : Nat := (e.getD i 0#32).toNat
  let op := w 0 % 256
  let src : Src := ⟨Fin.ofNat 64 n, Fin.ofNat 65536 (w 0 / 65536), bitOf (w 0) 9, false⟩
  if !opcodes.contains op then d.invalidOpcode src
  else
    match fieldBad op w with
    | some i => d.complete src (stInvalidField i)
    | none => d.runCommand src op w x

/-! ## Order (R289) -/

/-- May the entry at the front of SQ `n` start: the ring is not in ERROR, its CQ takes producers, and a FENCE has no earlier
command of the SQ before it? -/
def Dev.startable (d : Dev) (n : Nat) : Bool :=
  let st := d.f (F.HST_SQ_STATUS.STATE n)
  match (d.sq n).fetched with
  | [] => false
  | e :: _ => decide (st = 1 ∨ st = 2) && !d.cqBlocks (d.f (F.HST_SQ_CFG.CQ n)) &&
      !(bitOf (e.getD 0 0#32).toNat 8 && d.running.any (fun r => decide (r.src.sq.val = n) && !r.src.cairn))

/-- The SQ served last among those of a priority; 63 before any. -/
def Dev.lastServed (d : Dev) (prio : Nat) : Nat := spGet (fun _ => 63) d.rr prio

/-- Is SQ `n` served before SQ `m`: higher PRIO, or nearer behind the one served last? -/
def Dev.servedBefore (d : Dev) (n m : Nat) : Bool :=
  let p := d.f (F.HST_SQ_CFG.PRIO n)
  let q := d.f (F.HST_SQ_CFG.PRIO m)
  decide (q < p) || (decide (p = q) && decide ((n + 63 - d.lastServed p) % 64 < (m + 63 - d.lastServed p) % 64))

/-- The SQ whose front entry starts next. -/
def Dev.nextSq (d : Dev) : Option Nat :=
  ((List.range 64).filter d.startable).foldl (fun best n =>
    match best with
    | none => some n
    | some m => if d.servedBefore n m then some n else some m) none

/-- COMMAND_START. -/
def Dev.commandStart (d : Dev) (x : CmdEnv) : Dev :=
  if !d.awake then d
  else
    match d.nextSq with
    | none => d
    | some n =>
      match (d.sq n).fetched with
      | [] => d
      | e :: rest =>
        let d := { d with rr := spSet (fun _ => 63) d.rr (d.f (F.HST_SQ_CFG.PRIO n)) n }
        let d := d.setSq n { d.sq n with fetched := rest }
        let d := d.setF (F.HST_SQ_STATUS.HEAD n) ((d.f (F.HST_SQ_STATUS.HEAD n) + 1) % d.sqSize n)
        d.sqRefresh n |>.startEntry n e x

/-! ## D3hot (R450) -/

/-- CAL_RUN procedures and table loads end as by an ABORT of scope COMMAND. -/
def Dev.d3Aborts (d : Dev) : Dev :=
  d.running.foldl (fun d r => match r.kind with
    | .shadingFull => (d.abortRun r).1
    | .tableLoad _ => (d.abortRun r).1
    | _ => d) d

def Dev.d3hot (d : Dev) : Dev :=
  let d := { d with link := { d.link with d3hot := true } }
  if !d.awake then d
  else
    let d := (d.setF F.PWR_MODE_STATUS.TARGET 1).d3Aborts
    if d.mode = .standby ∧ d.req.isNone then d.setF F.PWR_MODE_STATUS.LAST_RESULT 0 else d.acceptMode .standby true

/-! ## Meanings -/

def execNop (src : Src) (s : State) : Host.Outcome State Fault Refusal := s.lift (·.nop src)

def execInvalidOpcode (src : Src) (s : State) : Host.Outcome State Fault Refusal := s.lift (·.invalidOpcode src)

def execCommandStart (x : CmdEnv) (s : State) : Host.Outcome State Fault Refusal := s.lift (·.commandStart x)

def execD3hotTransition (s : State) : Host.Outcome State Fault Refusal := s.lift (·.d3hot)

end Sys2Proof.Machine
end

