-- ==== Sys2Proof/Machine/Haul.lean ====
section
/-! DEFINITION. Haul's engine: program start, the instructions, bursts and the byte funnel, ends of programs (spec
13_haul_mover.md R321-R341). What host memory answers is an operand; programs and data in device space are read there. -/

namespace Sys2Proof.Machine

/-! ## Programs (R322, R325) -/

/-- The channel served next: the highest PRIO with a queued program and not HALTED, then the lowest number. -/
def Dev.nextChannel (d : Dev) : Option Nat :=
  ((List.range 8).filter (fun ch => !(d.hch ch).halted && !(d.hch ch).queue.isEmpty)).foldl (fun b ch => match b with
    | none => some ch
    | some o => if d.f (F.HAU_CH_CFG.PRIO o) < d.f (F.HAU_CH_CFG.PRIO ch) then some ch else some o) none

/-- HAUL_PROGRAM_START. -/
def Dev.haulBegin (d : Dev) : Dev :=
  if !d.awake || d.haul.run.isSome then d
  else
    let d := d.pushLoads
    match d.nextChannel with
    | none => d
    | some ch =>
      match (d.hch ch).queue with
      | [] => d
      | p :: t =>
        let d := (d.setHch ch { d.hch ch with queue := t }).setB (F.HAU_CH_STATUS.LOAD_RIGHTS ch) p.load.isSome
        d.setHaulRun (some { ch := ch, pc := p.addr / 16 * 16 % 2 ^ 64, load := p.load, phase := 0, stack := [], executed := 0,
                             cmpCnt := 0, cmpAddr := none, wb := d.r64 (R.HAU_CH_WB_LO ch) (R.HAU_CH_WB_HI ch), events := [],
                             reqs := [], xfer := none, waiting := false, img := [], ended := false })

/-- Instruction address and space of a program counter. -/
def pcAddr (pc : Nat) : Nat := pc / 32 * 32
def pcDev (pc : Nat) : Bool := bitOf pc 4

/-- The end of a program with the address of the present instruction. -/
def HaulRun.endAt (r : HaulRun) (code residue : Nat) : ProgEnd :=
  { code := code, addr := pcAddr r.pc, space := b2n (pcDev r.pc), residue := residue }

def Dev.haulEnd (d : Dev) (r : HaulRun) (e : ProgEnd) : Dev := (d.setHaulRun (some r)).endProgram e Dev.linePulse

/-- The budget of a channel (R338). -/
def Dev.haulBudget (d : Dev) (ch : Nat) : Nat := 2 ^ max 8 (min 30 (d.f (F.HAU_CH_CFG.BUDGET_LOG ch)))

def HaulRun.count (r : HaulRun) : HaulRun := { r with executed := r.executed + 1 }

/-- The counted instruction is done: LOOP_LIMIT, or on to `pc`. -/
def Dev.haulGo (d : Dev) (r : HaulRun) (pc : Nat) : Dev :=
  if d.haulBudget r.ch ≤ r.executed then d.haulEnd r (r.endAt 4 0)
  else d.setHaulRun (some { r with pc := pc % 2 ^ 64, waiting := false, xfer := none })

def HaulRun.after (r : HaulRun) : Nat := r.pc + 32

/-! ## Instruction fields (Table 13.1, R326, R327) -/

def insWord (ws : List Nat) (i : Nat) : Nat := ws.getD i 0
def insAddr (ws : List Nat) (i : Nat) : Nat := insWord ws i + insWord ws (i + 1) * 2 ^ 32
def insOp (ws : List Nat) : Nat := insWord ws 0 % 16
def insSrcDev (ws : List Nat) : Bool := bitOf (insWord ws 0) 4
def insDstDev (ws : List Nat) : Bool := bitOf (insWord ws 0) 5
def insReqEn (ws : List Nat) : Bool := bitOf (insWord ws 0) 6
def insFlag (ws : List Nat) : Bool := bitOf (insWord ws 0) 7
def insLine (ws : List Nat) : Nat := bitsOf (insWord ws 0) 11 8
def insBurst (ws : List Nat) : Nat := bitsOf (insWord ws 0) 15 12
def insIdxDev (ws : List Nat) : Bool := bitOf (insWord ws 0) 16
def insElem (ws : List Nat) : Nat := insWord ws 1 % 65536
def insCount (ws : List Nat) : Nat := insWord ws 1 / 65536

/-- Word 0's listed bits, and the words that are listed. -/
def insListed (op : Nat) : Nat × List Nat :=
  if op = 1 then (0xFF7F, [1, 2, 3, 4, 5, 6, 7])
  else if op = 2 then (0x1FFFF, [1, 2, 3, 4, 5, 6, 7])
  else if op = 3 then (0xFF6F, [1, 2, 3, 4, 5, 7])
  else if op = 4 then (0xFFFF, [1, 2, 3, 4, 5, 6, 7])
  else if op = 5 then (0xFFFF000F, [2, 3])
  else if op = 6 then (0xFFFF0F1F, [])
  else (0xF0F, [])

/-- Largest (and for the Count lines the only) BURST_LOG of a request line (Table 13.2). -/
def burstFits (line n : Nat) : Bool :=
  if line < 8 then decide (n ≤ 5) else if line < 10 then decide (n ≤ 8) else if line < 12 then decide (n = 6) else true

def by4 (dev : Bool) (n : Nat) : Bool := !dev || decide (n % 4 = 0)

/-- Is every field of the instruction as Table 13.1 and R327 want it? -/
def insOk (ws : List Nat) : Bool :=
  let op := insOp ws
  let l := insListed op
  let s := insSrcDev ws
  let t := insDstDev ws
  let zero := decide (insWord ws 0 &&& (0xFFFFFFFF ^^^ l.1) = 0) &&
    (List.range 7).all (fun i => l.2.contains (i + 1) || decide (insWord ws (i + 1) = 0))
  let burst := decide (2 ≤ insBurst ws) && decide (insBurst ws ≤ 12) && (!insReqEn ws || burstFits (insLine ws) (insBurst ws))
  if 8 ≤ op then true
  else if !zero then false
  else if op = 1 ∨ op = 4 then
    burst && by4 (s || t) (insWord ws 1) && by4 s (insAddr ws 2) && by4 s (insWord ws 6) && by4 t (insAddr ws 4) && by4 t (insWord ws 7)
  else if op = 2 then
    burst && decide (1 ≤ insCount ws) && decide (1 ≤ insElem ws) && by4 (s || t) (insElem ws) && by4 s (insAddr ws 2) &&
      by4 t (insAddr ws 4) && by4 (insIdxDev ws) (insAddr ws 6)
  else if op = 3 then burst && by4 t (insWord ws 1) && by4 t (insAddr ws 4) && by4 t (insWord ws 7)
  else if op = 5 then decide (insAddr ws 2 % 32 = 0)
  else if op = 7 then decide (insLine ws ≤ 11) else true

/-! ## Accesses -/

/-- An access that failed: address, space, direction, cause (R341). -/
structure BusFail where
  addr : Nat
  space : Nat
  dir : Nat
  cause : Nat
  deriving DecidableEq, Repr

def BusFail.toEnd (b : BusFail) (residue : Nat) : ProgEnd :=
  { code := 3, addr := b.addr, space := b.space, residue := residue, cause := b.cause, dir := b.dir }

def haulReq (ch : Nat) : Req := .haul (Fin.ofNat 8 ch)

/-- One device access; `none` when it is a bus error NO_TARGET (R323). -/
def Dev.devRead (d : Dev) (ch a : Nat) : Option Nat × Dev :=
  if 2 ^ 26 ≤ a then (none, d)
  else
    let r := { d with nak := false }.readWord (haulReq ch) a
    (if r.2.nak then none else some r.1, { r.2 with nak := false })

def Dev.devWrite (d : Dev) (ch a v : Nat) : Bool × Dev :=
  if 2 ^ 26 ≤ a then (false, d)
  else
    let r := { d with nak := false }.writeWord (haulReq ch) a (BitVec.ofNat 32 v) 15
    (!r.nak, { r with nak := false })

/-- `k` words read from address `a` on: the bytes, and the address that failed. -/
def Dev.devReads (d : Dev) (ch : Nat) : Nat → Nat → List Byte → (List Byte × Option Nat) × Dev
  | _, 0, acc => ((acc, none), d)
  | a, k + 1, acc =>
    match d.devRead ch a with
    | (some v, d) => d.devReads ch (a + 4) k (acc ++ leBytes 4 v)
    | (none, d) => ((acc, some a), d)

/-- Bytes written as words from address `a` on: how many words went through, and whether one failed. -/
def Dev.devWrites (d : Dev) (ch : Nat) : Nat → Nat → List Byte → Nat → (Nat × Bool) × Dev
  | _, 0, _, n => ((n, true), d)
  | a, k + 1, bs, n =>
    match d.devWrite ch a (leNat (bs.take 4)) with
    | (true, d) => d.devWrites ch (a + 4) k (bs.drop 4) (n + 1)
    | (false, d) => ((n, false), d)

/-- The read requests of `n` bytes, none across a 4 KiB boundary. -/
def Dev.issueReads (d : Dev) (a n : Nat) : Dev :=
  let k := min n (4096 - a % 4096)
  let d := if 0 < k then d.emit (.hostRead a k) else d
  if k < n then d.emit (.hostRead (a + k) (n - k)) else d

/-- What a side of a transfer still offers: bytes carried over, bytes that host memory answers. `cause` is 0, or why the
host's answer ends where `host` ends. -/
structure Side where
  dev : Bool
  addr : Nat
  carry : List Byte
  host : List Byte
  deriving DecidableEq, Repr

/-- Take `n` bytes of a side. -/
def Dev.takeSide (d : Dev) (ch : Nat) (x : Side) (n cause : Nat) : Except BusFail (List Byte × Side) × Dev :=
  if x.dev then
    let k := (n - x.carry.length + 3) / 4
    let r := d.devReads ch (x.addr + x.carry.length) k x.carry
    match r.1.2 with
    | some a => (.error ⟨a, 1, 0, 6⟩, r.2)
    | none => (.ok (r.1.1.take n, { x with addr := x.addr + n, carry := r.1.1.drop n }), r.2)
  else
    let d := d.issueReads x.addr n
    if cause ≠ 0 ∧ x.host.length < n then (.error ⟨x.addr, 0, 0, cause⟩, d)
    else
      (.ok ((x.host ++ List.replicate (n - x.host.length) 0#8).take n, { x with addr := x.addr + n, host := x.host.drop n }), d)

/-! ## Bursts (R328-R332, R335) -/

def wrap64 (n : Int) : Nat := unsigned 64 n

/-- Source, or side A, of the element under way. -/
def Xfer.src (x : Xfer) : Nat :=
  let ws := x.ins
  if insOp ws = 2 then
    wrap64 (insAddr ws 2 + (if insFlag ws then ((insElem ws * x.e : Nat) : Int) else x.idx.getD x.e 0) + x.off)
  else wrap64 (insAddr ws 2 + x.pass * signed 32 (insWord ws 6) + x.off)

def Xfer.dst (x : Xfer) : Nat :=
  let ws := x.ins
  if insOp ws = 2 then
    wrap64 (insAddr ws 4 + (if insFlag ws then x.idx.getD x.e 0 else ((insElem ws * x.e : Nat) : Int)) + x.off)
  else wrap64 (insAddr ws 4 + x.pass * signed 32 (insWord ws 7) + x.off)

def Xfer.elem (x : Xfer) : Nat := if insOp x.ins = 2 then insElem x.ins else insWord x.ins 1

/-- Bytes of the next burst: up to the next multiple of 2^BURST_LOG of the destination. -/
def Xfer.burst (x : Xfer) : Nat := min (x.elem - x.off) (2 ^ insBurst x.ins - x.dst % 2 ^ insBurst x.ins)

/-- The transfer after `n` more bytes. -/
def Xfer.step (x : Xfer) (n : Nat) (carry : List Byte) : Xfer :=
  let last := decide (x.elem ≤ x.off + n)
  { x with e := if last then x.e + 1 else x.e, off := if last then 0 else x.off + n, left := x.left - n, carry := carry }

/-- An index offset that R327 forbids on a device side. -/
def Xfer.badIndex (x : Xfer) : Bool :=
  decide (insOp x.ins = 2) && (if insFlag x.ins then insDstDev x.ins else insSrcDev x.ins) && decide (x.idx.getD x.e 0 % 4 ≠ 0)

/-- A program, its transfer, and what host memory answers on each side. -/
structure HaulFlow where
  run : HaulRun
  x : Xfer
  a : List Byte
  b : List Byte
  deriving DecidableEq, Repr

/-- Compare a burst: count, first address, and whether STOP ends the program. -/
def HaulRun.compare (r : HaulRun) (addr : Nat) (p q : List Byte) : HaulRun × Bool :=
  let bad := (List.range p.length).filter (fun i => decide (p.getD i 0 ≠ q.getD i 0))
  ({ r with cmpCnt := min (r.cmpCnt + bad.length) 0xFFFFFFFF,
            cmpAddr := match r.cmpAddr with
              | some x => some x
              | none => bad.head?.map (fun i => (addr + i) % 2 ^ 64) }, !bad.isEmpty)

/-- Write a burst at its destination. -/
def Dev.putBurst (d : Dev) (ch : Nat) (dev : Bool) (a : Nat) (bs : List Byte) : Option (Nat × BusFail) × Dev :=
  if dev then
    let r := d.devWrites ch a ((bs.length + 3) / 4) bs 0
    (if r.1.2 then none else some (4 * r.1.1, ⟨a + 4 * r.1.1, 1, 1, 6⟩), r.2)
  else (none, d.emit (.hostWrite a bs false))

/-- One burst: the program's end, or the transfer after it. -/
def Dev.haulBurst (d : Dev) (w : HaulFlow) (cause : Nat) : Except (HaulRun × ProgEnd) HaulFlow × Dev :=
  let x := w.x
  let r := w.run
  let n := x.burst
  let ws := x.ins
  if x.off = 0 ∧ x.badIndex then (.error (r, r.endAt 6 x.left), d)
  else if insOp ws = 3 then
    let bs := (List.range n).map (fun i => BitVec.ofNat 8 (insAddr ws 2 / 256 ^ ((x.dst + i) % 8)))
    match d.putBurst r.ch (insDstDev ws) x.dst bs with
    | (some f, d) => (.error (r, f.2.toEnd (x.left - f.1)), d)
    | (none, d) => (.ok { w with x := x.step n [] }, d)
  else
    match d.takeSide r.ch ⟨insSrcDev ws, x.src, x.carry, w.a⟩ n cause with
    | (.error f, d) => (.error (r, f.toEnd x.left), d)
    | (.ok (bs, s), d) =>
      if insOp ws = 4 then
        match d.takeSide r.ch ⟨insDstDev ws, x.dst, [], w.b⟩ n cause with
        | (.error f, d) => (.error (r, f.toEnd x.left), d)
        | (.ok (cs, t), d) =>
          let m := r.compare x.src bs cs
          if m.2 && insFlag ws then (.error (m.1, m.1.endAt 8 (x.left - n)), d)
          else (.ok { run := m.1, x := x.step n s.carry, a := s.host, b := t.host }, d)
      else
        match d.putBurst r.ch (insDstDev ws) x.dst bs with
        | (some f, d) => (.error (r, f.2.toEnd (x.left - f.1)), d)
        | (none, d) => (.ok { w with x := x.step n s.carry, a := s.host }, d)

/-- Bursts until the transfer is done, or until a register write of the program has itself ended the program. -/
def Dev.haulBursts (d : Dev) (w : HaulFlow) (cause : Nat) : Nat → Except (HaulRun × ProgEnd) HaulFlow × Dev
  | 0 => (.ok w, d)
  | k + 1 =>
    if w.x.left = 0 ∨ d.haul.run.isNone then (.ok w, d)
    else
      match d.haulBurst w cause with
      | (.error e, d) => (.error e, d)
      | (.ok w, d) => d.haulBursts w cause k

/-- The program waits; the row that waits runs again later. -/
def Dev.haulWaits (d : Dev) (r : HaulRun) : Dev := d.setHaulRun (some { r with waiting := true })

/-- May a transfer of this instruction act now: a Sump cell (R324), and the link where it needs host memory (R279)? -/
def Dev.haulMayMove (d : Dev) (ws : List Nat) : Bool :=
  let host := !insDstDev ws || (!insSrcDev ws && decide (insOp ws ≠ 3)) || (decide (insOp ws = 2) && !insIdxDev ws)
  d.haulGrants 1 && (!host || d.canIssue)

/-- Run `k` bursts with a staging cell, then end, go on or wait for the next request. -/
def Dev.haulRunBursts (d : Dev) (w : HaulFlow) (cause k : Nat) : Dev :=
  let r := (d.setHaulUse 1).haulBursts w cause k
  let d := if r.2.sump.haul = 0 then r.2 else r.2.setHaulUse 0
  if d.haul.run.isNone then d
  else
  match r.1 with
  | .error e => d.haulEnd { e.1 with xfer := none } e.2
  | .ok w =>
    if w.x.left = 0 then d.haulGo w.run w.run.after
    else d.setHaulRun (some { w.run with xfer := some w.x, waiting := true })

/-- MOVEX's offsets: from device space, or what host memory answers. -/
def Dev.haulIndex (d : Dev) (r : HaulRun) (ws : List Nat) (idx : List Byte) (cause : Nat) : Except BusFail (List Int) × Dev :=
  let n := insCount ws
  match d.takeSide r.ch ⟨insIdxDev ws, insAddr ws 6, [], idx⟩ (4 * n) cause with
  | (.error f, d) => (.error f, d)
  | (.ok (bs, _), d) => (.ok ((List.range n).map (fun e => bufInt bs (4 * e) 4)), d)

/-- MOVE, MOVEX, FILL, CMP. -/
def Dev.haulTransfer (d : Dev) (r : HaulRun) (ws : List Nat) (idx a b : List Byte) (cause : Nat) : Dev :=
  let total := if insOp ws = 2 then insCount ws * insElem ws else insWord ws 1
  if total = 0 then d.haulGo r.count r.after
  else if !d.haulMayMove ws then d.haulWaits r
  else
    let r := r.count
    let offsets : Except BusFail (List Int) × Dev := if insOp ws = 2 then d.haulIndex r ws idx cause else (.ok [], d)
    match offsets with
    | (.error f, d) => d.haulEnd r (f.toEnd total)
    | (.ok o, d) =>
      let x : Xfer := { ins := ws, pass := match r.stack with | e :: _ => e.passes | [] => 0, idx := o, e := 0, off := 0,
                        left := total, carry := [] }
      if insReqEn ws then d.setHaulRun (some { r with xfer := some x, waiting := true })
      else d.haulRunBursts ⟨r, x, a, b⟩ cause total

/-! ## Fetching (R325, R326) -/

/-- Fetch the instruction at the program counter. -/
def Dev.haulFetch (d : Dev) (r : HaulRun) (ins : List Word) : Option (List Nat) × Dev :=
  let a := pcAddr r.pc
  if pcDev r.pc then
    (if inWindow a winHaul 0x4000 then some ((List.range 8).map (fun i => d.mem (a + 4 * i) 4)) else none, d)
  else (some ((List.range 8).map (fun i => (ins.getD i 0).toNat)), if r.waiting then d else d.emit (.hostRead a 32))

/-- Run an instruction row of opcode `op`: another opcode at the program counter leaves the state as it is. -/
def Dev.haulIns (d : Dev) (op : Nat) (ins : List Word) (f : Dev → HaulRun → List Nat → Dev) : Dev :=
  match d.haul.run with
  | none => d
  | some r =>
    if !d.awake || r.load.isSome || r.xfer.isSome || r.ended then d
    else if !pcDev r.pc && !d.canIssue then d.haulWaits r
    else
      match d.haulFetch r ins with
      | (none, d) => d.haulEnd r (BusFail.toEnd ⟨pcAddr r.pc, 1, 0, 6⟩ 0)
      | (some ws, d') =>
        let c := insOp ws
        if c = 0 ∨ 9 < c then d'.haulEnd r (r.endAt 5 0)
        else if c ≠ op then d
        else if !insOk ws then d'.haulEnd r (r.endAt 6 0)
        else f d' { r with waiting := false } ws

/-! ## Instructions -/

/-- MOVE and CMP of a program, or the move and the verification of a table load. -/
def Dev.haulLoad (d : Dev) (phase : Nat) (data : List Byte) : Dev :=
  match d.haul.run with
  | none => d
  | some r =>
    match r.load with
    | none => d
    | some l =>
      if !d.awake || decide (r.phase ≠ phase) then d
      else if !d.haulGrants 1 || !d.canIssue then d.haulWaits r
      else
        let d := (d.setHaulUse 1).setHaulUse 0
        if phase = 0 then d.loadMove { r with waiting := false } l data else d.loadCompare { r with waiting := false } l data

def Dev.haulMove (d : Dev) (ins : List Word) (data : List Byte) : Dev :=
  (d.haulLoad 0 data).haulIns 1 ins (fun d r ws => d.haulTransfer r ws [] data [] 0)

def Dev.haulCmp (d : Dev) (ins : List Word) (a b : List Byte) : Dev :=
  let loads := match d.haul.run with | some r => r.load.isSome | none => false
  if loads then d.haulLoad 1 a else d.haulIns 4 ins (fun d r ws => d.haulTransfer r ws [] a b 0)

/-- LOOP (R329); the stack's first entry is its top. -/
def Dev.haulLoopIns (d : Dev) (r : HaulRun) (ws : List Nat) : Dev :=
  let target := insAddr ws 2 + 16 * b2n (pcDev r.pc)
  let n := insWord ws 0 / 65536
  if r.stack.any (fun e => e.addr = r.pc) then
    match r.stack.dropWhile (fun e => e.addr ≠ r.pc) with
    | [] => d
    | e :: t =>
      if e.left = 0 then d.haulGo { r.count with stack := t } r.after
      else d.haulGo { r.count with stack := { e with left := e.left - 1, passes := e.passes + 1 } :: t } target
  else if n = 0 then d.haulGo r.count r.after
  else if 4 ≤ r.stack.length then d.haulEnd r (r.endAt 7 0)
  else d.haulGo { r.count with stack := ⟨r.pc, n - 1, 1⟩ :: r.stack } target

/-- Is a request of a line pending for a burst of `n` bytes (Table 13.2)? -/
def Dev.lineAsserted (d : Dev) (r : HaulRun) (line n : Nat) : Bool :=
  if line < 4 then decide ((d.i2cOf line).tx.length + n ≤ 32)
  else if line < 8 then decide (n ≤ (d.i2cOf (line - 4)).rx.length)
  else if line < 10 then decide (n ≤ 4 * (d.hkcOf (line - 8)).fifo.length)
  else decide (0 < spGet (fun _ => 0) r.reqs line)

/-- A burst or a WAIT consumes a counted request. -/
def HaulRun.consume (r : HaulRun) (line : Nat) : HaulRun :=
  if line < 10 then r else { r with reqs := spSet (fun _ => 0) r.reqs line (spGet (fun _ => 0) r.reqs line - 1) }

/-- Is what a WAIT waits for there? A Level line counts for one 32-bit access (log 91). -/
def Dev.waitMet (d : Dev) (r : HaulRun) (ws : List Nat) : Bool :=
  if bitOf (insWord ws 0) 4 then r.events.contains (insLine ws) else d.lineAsserted r (insLine ws) 4

def Dev.haulWaitIns (d : Dev) (r : HaulRun) (ws : List Nat) : Dev :=
  if !d.waitMet r ws then d.haulWaits r
  else if bitOf (insWord ws 0) 4 then
    d.haulGo { r.count with events := r.events.filter (fun l => l ≠ insLine ws) } r.after
  else d.haulGo (r.count.consume (insLine ws)) r.after

/-- WAIT_TIMEOUT: a WAIT with a nonzero TIMEOUT that still waits. -/
def Dev.haulTimeout (d : Dev) (ins : List Word) : Dev :=
  d.haulIns 6 ins (fun d' r ws =>
    let waits := match d.haul.run with | some x => x.waiting | none => false
    if waits && decide (insWord ws 0 / 65536 ≠ 0) && !d.waitMet r ws then d'.haulEnd r.count (r.count.endAt 9 0) else d)

def Dev.haulNextIns (d : Dev) (r : HaulRun) (ws : List Nat) : Dev :=
  d.haulGo { r.count with stack := [], ended := false } (insAddr ws 0 / 16 * 16)

/-- END: its first bytes are read again later. -/
def Dev.haulEndIns (d : Dev) (r : HaulRun) : Dev :=
  if d.haulBudget r.ch ≤ r.count.executed then d.haulEnd r.count (r.count.endAt 4 0)
  else d.setHaulRun (some { r.count with ended := true })

/-- The second read of END: `words` is what host memory holds. -/
def Dev.haulReread (d : Dev) (words : Word × Word) : Dev :=
  match d.haul.run with
  | none => d
  | some r =>
    if !d.awake || !r.ended then d
    else if !pcDev r.pc && !d.canIssue then d
    else
      let a := pcAddr r.pc
      let ws := if pcDev r.pc then [d.mem a 4, d.mem (a + 4) 4] else [words.1.toNat, words.2.toNat]
      let d := if pcDev r.pc then d else d.emit (.hostRead a 8)
      if insOp ws = 8 then d.haulNextIns r ws else d.haulEnd r (r.endAt 1 0)

/-- BURST_REQUEST: a request of the line starts one burst. -/
def Dev.haulRequested (d : Dev) (a b : List Byte) : Dev :=
  match d.haul.run with
  | none => d
  | some r =>
    match r.xfer with
    | none => d
    | some x =>
      let line := insLine x.ins
      if !d.awake || !d.lineAsserted r line x.burst || !d.haulMayMove x.ins then d
      else d.haulRunBursts ⟨(r.consume line), x, a, b⟩ 0 1

/-! ## Bus errors (R341) -/

/-- A table load meets a bus error after `data` has arrived. -/
def Dev.loadBusError (d : Dev) (r : HaulRun) (l : Load) (f : BusFail) (data : List Byte) : Dev :=
  let got := data.take l.len
  let head := decide (r.phase = 0) && decide (64 ≤ got.length) && decide (l.table ≠ 1) && decide (d.imageBad l got = 0)
  let d := (if head then d.moveImage l got else d).setHaulRun (some r.count)
  let d := d.endProgram (f.toEnd (l.len - got.length)) Dev.linePulse
  if l.table = 1 then (d.barFailed 4 none).endLoad l got ⟨4, 0, got.length, false⟩
  else d.endLoad l (if r.phase = 1 then r.img else if head then got else []) ⟨10, 0, if r.phase = 1 then l.len else got.length, false⟩

/-- A failing host read: an instruction fetch, or the first read of the transfer that `idx`, `a` or `b` does not answer. -/
def Dev.haulBusError (d : Dev) (cause : Nat) (fetch : Bool) (ins : List Word) (idx a b : List Byte) : Dev :=
  match d.haul.run with
  | none => d
  | some r =>
    if !d.awake then d
    else
      match r.load, r.xfer with
      | some l, _ => if a.length < l.len then d.loadBusError r l ⟨l.addr + a.length, 0, 0, cause⟩ a else d
      | none, some x =>
        (match d.haulBurst ⟨r, x, a, b⟩ cause with
        | (.error e, t) => if e.2.code = 3 then t.haulEnd { e.1 with xfer := none } e.2 else d
        | (.ok _, _) => d)
      | none, none =>
        if fetch then
          if pcDev r.pc then d else (d.emit (.hostRead (pcAddr r.pc) 32)).haulEnd r (BusFail.toEnd ⟨pcAddr r.pc, 0, 0, cause⟩ 0)
        else
          let op := match d.haulFetch r ins with | (some ws, _) => insOp ws | (none, _) => 0
          let t := d.haulIns op ins (fun d r ws => if op = 1 ∨ op = 2 ∨ op = 4 then d.haulTransfer r ws idx a b cause else d)
          if t.f (F.HAU_CH_STATUS.CODE r.ch) = 3 ∧ t.haul.run.isNone then t else d

/-- An uncorrectable error in a staging cell (R324). The spec names no access that fails: its address, space and direction
are free values (log 2). -/
def Dev.haulUe (d : Dev) : Dev :=
  match d.haul.run with
  | none => d
  | some r =>
    let a := d.freeNat 64
    let s := a.2.freeNat 1
    let w := s.2.freeNat 1
    let f : BusFail := ⟨a.1, s.1, w.1, 7⟩
    match r.load with
    | some l => w.2.loadBusError r l f []
    | none => w.2.haulEnd { r with xfer := none } (f.toEnd (match r.xfer with | some x => x.left | none => 0))

/-! ## Meanings -/

/-- The value written to HAU_CH_START_HI. -/
def execHaulStart (rq : Req) (ch : Fin 8) (hi : Word) (s : State) : Host.Outcome State Fault Refusal :=
  s.lift (fun d => if d.awake then d.haulStart rq ch hi.toNat else d)

def execHaulProgramStart (s : State) : Host.Outcome State Fault Refusal := s.lift (·.haulBegin)

/-- `ins` is the instruction where the program lies in host memory, `data` what the source holds there. -/
def execHaulMove (ins : List Word) (data : List Byte) (s : State) : Host.Outcome State Fault Refusal :=
  s.lift (·.haulMove ins data)

def execHaulMovex (ins : List Word) (idx data : List Byte) (s : State) : Host.Outcome State Fault Refusal :=
  s.lift (·.haulIns 2 ins (fun d r ws => d.haulTransfer r ws idx data [] 0))

def execHaulFill (ins : List Word) (s : State) : Host.Outcome State Fault Refusal :=
  s.lift (·.haulIns 3 ins (fun d r ws => d.haulTransfer r ws [] [] [] 0))

/-- `a` and `b` are what host memory holds on the sides. -/
def execHaulCmp (ins : List Word) (a b : List Byte) (s : State) : Host.Outcome State Fault Refusal := s.lift (·.haulCmp ins a b)

def execHaulLoop (ins : List Word) (s : State) : Host.Outcome State Fault Refusal :=
  s.lift (·.haulIns 5 ins (fun d r ws => d.haulLoopIns r ws))

def execHaulWait (ins : List Word) (s : State) : Host.Outcome State Fault Refusal :=
  s.lift (·.haulIns 6 ins (fun d r ws => d.haulWaitIns r ws))

def execHaulWaitTimeout (ins : List Word) (s : State) : Host.Outcome State Fault Refusal := s.lift (·.haulTimeout ins)

def execHaulSignal (ins : List Word) (s : State) : Host.Outcome State Fault Refusal :=
  s.lift (·.haulIns 7 ins (fun d r ws => (d.haulGo r.count r.after).linePulse (insLine ws)))

def execHaulNext (ins : List Word) (s : State) : Host.Outcome State Fault Refusal :=
  s.lift (·.haulIns 8 ins (fun d r ws => d.haulNextIns r ws))

def execHaulEnd (ins : List Word) (s : State) : Host.Outcome State Fault Refusal :=
  s.lift (·.haulIns 9 ins (fun d r _ => d.haulEndIns r))

def execHaulEndReread (words : Word × Word) (s : State) : Host.Outcome State Fault Refusal := s.lift (·.haulReread words)

def execBurstRequest (a b : List Byte) (s : State) : Host.Outcome State Fault Refusal := s.lift (·.haulRequested a b)

/-- `cause`: 0 CPL_TIMEOUT, 1 UNSUPPORTED_REQUEST, 2 COMPLETER_ABORT, 3 POISONED. -/
def execBusError (cause : Fin 4) (fetch : Bool) (ins : List Word) (idx a b : List Byte) (s : State) :
    Host.Outcome State Fault Refusal := s.lift (·.haulBusError (cause.val + 1) fetch ins idx a b)

def execHaulClear (ch : Fin 8) (s : State) : Host.Outcome State Fault Refusal :=
  s.lift (fun d => if d.awake then d.haulClear ch else d)

end Sys2Proof.Machine
end

