-- ==== Sys2Proof/Machine/Scan.lean ====
section
/-! DEFINITION. The test access port and its instructions (spec 21_test_access.md R504-R506). -/

namespace Sys2Proof.Machine

/-- Are the MAIN rails valid? Not in DORMANT, nor while a power-on kind of reset is held. -/
def Dev.railsValid (d : Dev) : Bool :=
  decide (d.mode ≠ .dormant) && !decide (d.rst = some .aonLost) && !decide (d.rst = some .aonKept) &&
    !decide (d.rst = some .dormantExit)

/-- The registers that instructions select (Table 21.3). -/
inductive TapReg where
  | boundary | ident | debug | bypass
  deriving DecidableEq, Repr

/-- Is a debug chain selected: UNLOCKED = 1 and SCOPE bit 1? -/
def Dev.debugOpen (d : Dev) : Bool := d.on F.SEC_DBG_STATUS.UNLOCKED && bitOf (d.f F.SEC_DBG_STATUS.SCOPE) 1

/-- The register that the instruction in force selects. -/
def Dev.tapReg (d : Dev) : TapReg :=
  let c := d.tap.ir
  if c = 0 ∨ c = 2 then .boundary
  else if c = 1 then .ident
  else if 0x80 ≤ c ∧ c ≤ 0xFE ∧ d.debugOpen then .debug
  else .bypass

/-- EXTEST, CLAMP and HIGHZ take the pins. -/
def takesPins (c : Nat) : Bool := decide (c = 0 ∨ c = 4 ∨ c = 5)

/-- Update-IR: the instruction takes effect on the pins (R506). -/
def Dev.loadIr (d : Dev) (c : Nat) : Dev :=
  let was := takesPins d.tap.ir
  let d := { d with tap := { d.tap with ir := c } }
  if c = 0 ∨ c = 4 then d.emit (.scanDrive d.tap.boundary)
  else if c = 5 then d.emit .scanFloat
  else if was then (d.emit .scanRelease).flag F.TST_STATUS.BSCAN_TOOK_PINS
  else d

/-- Update-DR of the boundary register: under EXTEST the new cells drive the pins. -/
def Dev.loadCells (d : Dev) (cells : Option (List Bool)) : Dev :=
  match cells with
  | none => d
  | some l =>
    let d := { d with tap := { d.tap with boundary := l } }
    if d.tap.ir = 0 then d.emit (.scanDrive l) else d

/-- The identification register. -/
def idcode : Nat := 0xB860454F

def Dev.jtag (d : Dev) (f : Dev → Dev) : Dev := if d.railsValid then f d else d

/-! ## Meanings -/

/-- `cells`: what a scan of the boundary register under the instruction leaves in the cells. -/
def execExtest (cells : Option (List Bool)) (s : State) : Host.Outcome State Fault Refusal :=
  s.lift (·.jtag (fun d => (d.loadIr 0).loadCells cells))

/-- The identification register is shifted out. -/
def execIdcode (s : State) : Host.Outcome State Fault Refusal := s.lift (·.jtag (fun d => (d.loadIr 1).emit (.tdo idcode)))

/-- `pins` is what the boundary cells sample and shift out, pin 0 first. -/
def execSamplePreload (pins : List Bool) (cells : Option (List Bool)) (s : State) : Host.Outcome State Fault Refusal :=
  s.lift (·.jtag (fun d => ((d.loadIr 2).emit (.tdo (pins.foldr (fun b n => b2n b + 2 * n) 0))).loadCells cells))

def execClamp (s : State) : Host.Outcome State Fault Refusal := s.lift (·.jtag (·.loadIr 4))

def execHighz (s : State) : Host.Outcome State Fault Refusal := s.lift (·.jtag (·.loadIr 5))

/-- A code 0x80 to 0xFE; others leave the row without effect. -/
def execDebugInstruction (code : Fin 256) (s : State) : Host.Outcome State Fault Refusal :=
  s.lift (·.jtag (fun d => if 0x80 ≤ code.val ∧ code.val ≤ 0xFE then d.loadIr code else d))

/-- 0xFF or any code that Table 21.3 does not list otherwise; a code of another row loads 0xFF. -/
def execBypass (code : Fin 256) (s : State) : Host.Outcome State Fault Refusal :=
  s.lift (·.jtag (·.loadIr (if code.val ≤ 5 ∧ code.val ≠ 3 ∨ 0x80 ≤ code.val then 0xFF else code)))

/-- Test-Logic-Reset: IDCODE, and the pins return to the functional logic. -/
def execTestLogicReset (s : State) : Host.Outcome State Fault Refusal := s.lift (·.jtag (·.loadIr 1))

end Sys2Proof.Machine
end

