-- ==== Sys2Proof/Machine/Wear.lean ====
section
/-! DEFINITION. ECC events of Sump, bank migration and runtime row repair (spec 12_sump_and_governor.md R304, R305; 20
R488). -/

namespace Sys2Proof.Machine

/-- Does a count that grows from `old` to `new` reach its limit? 0 disables (Tables 12.10 and 20.9). -/
def reaches (limit old new : Nat) : Bool := decide (limit ≠ 0) && decide (old < limit) && decide (limit ≤ new)

/-! ## Banks (R304) -/

/-- `n` corrected errors in logical bank `b`. -/
def Dev.bankErrors (d : Dev) (b n : Nat) : Dev :=
  let old := d.f (F.SMP_BANK.CE_TOTAL b)
  let d := d.count (F.SMP_BANK.CE_TOTAL b) n
  if !reaches (d.f F.SMP_ECC_CFG.ECC_LIMIT) old (d.f (F.SMP_BANK.CE_TOTAL b)) then d
  else if d.sump.spareUsed || d.sump.migrating.isSome then (d.setF F.SMP_POOL_STATUS.ECC_NO_SPARE 1).irq 10
  else { d with sump := { d.sump with migrating := some b } }

/-- The last cell of the migrating bank is copied. -/
def Dev.migrated (d : Dev) : Dev :=
  match d.sump.migrating with
  | none => d
  | some b =>
    let old := d.sump.bank.getD b 0
    let d := { d with sump := { d.sump with bank := d.sump.bank.set b 16, spareUsed := true, migrating := none } }
    (d.ledgerEvent ⟨5, b, old, 16, 4⟩).flag F.SMP_POOL_STATUS.MIGRATED

/-! ## Uncorrectable errors (R305) -/

/-- The next record of the context carries LOST_BEFORE: the waiting one at `i`, or one still to come. -/
def Ctx.markLost (c : Ctx) (i : Nat) : Ctx :=
  match c.waiting[i]? with
  | some r => { c with waiting := c.waiting.set i { r with lost := true } }
  | none => { c with lost := true }

/-- A waiting record is dropped and counted; PACE counts it as a failure (R264). -/
def Dev.ueRecord (d : Dev) (n i : Nat) : Dev :=
  let c := d.ctx n
  match c.waiting[i]? with
  | none => d
  | some r =>
    let c := { c with waiting := c.waiting.eraseIdx i, dropCnt := min (c.dropCnt + 1) 0xFFFFFFFF, paceFailed := c.paceFailed || d.ctxPace n }
    (((d.setCtx n (c.markLost i)).setCtxCells n (c.cells - r.cells)).roomCheck n).checkStop n

def Dev.ueRaw (d : Dev) (serial module plane site : Nat) : Dev :=
  { d with gal := { d.gal with lines := d.gal.lines.map (fun l =>
      if l.serial = serial then { l with holes := (module, plane, site) :: l.holes } else l) } }

/-- The pixel of a placed line becomes INVALID with reason CHECK_FAILED. -/
def Dev.ueHistory (d : Dev) (i px : Nat) : Dev :=
  match d.gal.hist[i]? with
  | none => d
  | some h => { d with gal := { d.gal with hist := d.gal.hist.set i { h with px := h.px.set px (some ⟨0, 7, false, false⟩) } } }

/-- The candidate that the profile would serve counts as missing (R218). -/
def Dev.ueSurvey (d : Dev) (i win : Nat) : Dev :=
  match d.sur.lines[i]? with
  | none => d
  | some l => { d with sur := { d.sur with lines := d.sur.lines.set i { l with profs := l.profs.map (fun p => if p.win = win then { p with bad := true } else p) } } }

/-- Does the cell hold anything a read could fetch? -/
def Dev.ueHeld (d : Dev) : UeCell → Bool
  | .record n i => decide (i < (d.ctx n).waiting.length)
  | .raw serial _ _ _ => d.gal.lines.any (fun l => l.serial = serial)
  | .history i _ => decide (i < d.gal.hist.length)
  | .survey i _ => decide (i < d.sur.lines.length)
  | .haul => d.haul.run.isSome

def Dev.ue (d : Dev) (c : UeCell) : Dev :=
  if !d.ueHeld c then d
  else
    let d := d.count F.SMP_COUNT.UE_CNT 1
    match c with
    | .record n i => d.ueRecord n i
    | .raw serial module plane site => d.ueRaw serial module plane site
    | .history i px => d.ueHistory i px
    | .survey i win => d.ueSurvey i win
    | .haul => d.haulUe

/-! ## Rows (R488) -/

def rowKey (m row : Nat) : Nat := 65536 * m + row

def Dev.rowCount (d : Dev) (m row : Nat) : Nat := spGet (fun _ => 0) d.rowErrs (rowKey m row)

/-- `n` corrected errors in a row of a macro; the row is repaired when its count reaches ROW_LIMIT. -/
def Dev.rowErrors (d : Dev) (m row n : Nat) : Dev :=
  let old := d.rowCount m row
  let d := { d with rowErrs := spSet (fun _ => 0) d.rowErrs (rowKey m row) (old + n) }
  if !reaches (d.f F.TOP_SRAM_STATUS.ROW_LIMIT) old (old + n) then d
  else
    let d := d.setF F.TOP_SRAM_STATUS.LAST_MACRO m
    if 4 ≤ (d.rows.filter (fun r => r.1 = m)).length then d.flag F.TOP_SRAM_STATUS.ROW_NO_SPARE
    else
      let d := { d with rows := d.rows ++ [(m, row)] }
      let d := d.setF F.TOP_SRAM_STATUS.ROWS_USED (min 255 d.rows.length)
      (d.ledgerEvent ⟨6, m, row % 256, row / 256, 4⟩).flag F.TOP_SRAM_STATUS.ROW_REPAIRED

/-! ## Meanings -/

def execBankMigration (b : Fin 16) (n : Nat) (s : State) : Host.Outcome State Fault Refusal :=
  s.lift (fun d => if d.alive then d.bankErrors b n else d)

def execMigrationDone (s : State) : Host.Outcome State Fault Refusal := s.lift (·.migrated)

def execUncorrectableError (cell : UeCell) (s : State) : Host.Outcome State Fault Refusal :=
  s.lift (fun d => if d.alive then d.ue cell else d)

def execRowRepair (m : Fin 256) (row : Fin 65536) (n : Nat) (s : State) : Host.Outcome State Fault Refusal :=
  s.lift (fun d => if d.mode = .dormant then d else d.rowErrors m row n)

end Sys2Proof.Machine
end

