-- ==== Sys2Proof/Machine/Dispatch.lean ====
section
/-! DEFINITION. One arm per command of the table: a direct call of its meaning. -/

namespace Sys2Proof.Machine

open Sys2Proof

def exec (i : Instr) (s : State) : Host.Outcome State Fault Refusal :=
  match i with
  | .nop src => Sys2Proof.Machine.execNop src s
  | .invalidOpcode src => Sys2Proof.Machine.execInvalidOpcode src s
  | .bufferPost src supply addr => Sys2Proof.Machine.execBufferPost src supply addr s
  | .ctxStart src n line => Sys2Proof.Machine.execCtxStart src n line s
  | .ctxStop src n line => Sys2Proof.Machine.execCtxStop src n line s
  | .move src axis target set rev rel => Sys2Proof.Machine.execMove src axis target set rev rel s
  | .moveCoord src mask targets set rev rel => Sys2Proof.Machine.execMoveCoord src mask targets set rev rel s
  | .hold src mask => Sys2Proof.Machine.execHold src mask s
  | .resume src mask => Sys2Proof.Machine.execResume src mask s
  | .abortContext src ctx => Sys2Proof.Machine.execAbortContext src ctx s
  | .abortRing src ring => Sys2Proof.Machine.execAbortRing src ring s
  | .abortAxis src mask => Sys2Proof.Machine.execAbortAxis src mask s
  | .abortHaul src ch => Sys2Proof.Machine.execAbortHaul src ch s
  | .abortCommand src ring cid => Sys2Proof.Machine.execAbortCommand src ring cid s
  | .afeFull src x => Sys2Proof.Machine.execAfeFull src x s
  | .shadingFull src => Sys2Proof.Machine.execShadingFull src s
  | .hkcSelfcal src x => Sys2Proof.Machine.execHkcSelfcal src x s
  | .tableLoadBarRecord src addr len => Sys2Proof.Machine.execTableLoadBarRecord src addr len s
  | .tableLoadShading src addr len swap => Sys2Proof.Machine.execTableLoadShading src addr len swap s
  | .tableLoadContext src addr len => Sys2Proof.Machine.execTableLoadContext src addr len s
  | .tableLoadFlowstone src addr len => Sys2Proof.Machine.execTableLoadFlowstone src addr len s
  | .timeSchedule src slot action lateDrop base time param => Sys2Proof.Machine.execTimeSchedule src slot action lateDrop base time param s
  | .boundaryPost src sens swath adv pos mask => Sys2Proof.Machine.execBoundaryPost src sens swath adv pos mask s
  | .attest src addr len nonce => Sys2Proof.Machine.execAttest src addr len nonce s
  | .storeWriteFirmware src addr len img e => Sys2Proof.Machine.execStoreWriteFirmware src addr len img e s
  | .storeWriteCalStore src addr len img e => Sys2Proof.Machine.execStoreWriteCalStore src addr len img e s
  | .oemKeyAdd src addr len img cut => Sys2Proof.Machine.execOemKeyAdd src addr len img cut s
  | .oemKeyRevoke src addr len img => Sys2Proof.Machine.execOemKeyRevoke src addr len img s
  | .rollbackSet src addr len img => Sys2Proof.Machine.execRollbackSet src addr len img s
  | .otpLock src addr len img => Sys2Proof.Machine.execOtpLock src addr len img s
  | .sqDoorbell sq v full => Sys2Proof.Machine.execSqDoorbell sq v full s
  | .cqDoorbell cq v full => Sys2Proof.Machine.execCqDoorbell cq v full s
  | .sqFetch sq entries => Sys2Proof.Machine.execSqFetch sq entries s
  | .commandStart x => Sys2Proof.Machine.execCommandStart x s
  | .cplTimeout sq => Sys2Proof.Machine.execCplTimeout sq s
  | .ringError sq cause => Sys2Proof.Machine.execRingError sq cause s
  | .completionWrite cq => Sys2Proof.Machine.execCompletionWrite cq s
  | .interruptModTime cq => Sys2Proof.Machine.execInterruptModTime cq s
  | .msixUnmask vector => Sys2Proof.Machine.execMsixUnmask vector s
  | .busMasterEnable on => Sys2Proof.Machine.execBusMasterEnable on s
  | .d3hotTransition => Sys2Proof.Machine.execD3hotTransition s
  | .d0Return => Sys2Proof.Machine.execD0Return s
  | .registerAbort rq v => Sys2Proof.Machine.execRegisterAbort rq v s
  | .sqCfgWrite rq sq v => Sys2Proof.Machine.execSqCfgWrite rq sq v s
  | .cqCfgWrite rq cq v => Sys2Proof.Machine.execCqCfgWrite rq cq v s
  | .modeReqStandby rq => Sys2Proof.Machine.execModeReqStandby rq s
  | .modeReqCalibrate rq => Sys2Proof.Machine.execModeReqCalibrate rq s
  | .modeReqRun rq => Sys2Proof.Machine.execModeReqRun rq s
  | .modeReqService rq => Sys2Proof.Machine.execModeReqService rq s
  | .modeReqDormant rq => Sys2Proof.Machine.execModeReqDormant rq s
  | .modeRequestComplete => Sys2Proof.Machine.execModeRequestComplete s
  | .warmSoftwareReset rq v => Sys2Proof.Machine.execWarmSoftwareReset rq v s
  | .powerOnReset => Sys2Proof.Machine.execPowerOnReset s
  | .brownOut => Sys2Proof.Machine.execBrownOut s
  | .railsValid => Sys2Proof.Machine.execRailsValid s
  | .resetN => Sys2Proof.Machine.execResetN s
  | .watchdogExpiry => Sys2Proof.Machine.execWatchdogExpiry s
  | .pcieConventionalReset perst => Sys2Proof.Machine.execPcieConventionalReset perst s
  | .functionLevelReset => Sys2Proof.Machine.execFunctionLevelReset s
  | .resetAxisStopped timeout => Sys2Proof.Machine.execResetAxisStopped timeout s
  | .wakeFromDormant src falling => Sys2Proof.Machine.execWakeFromDormant src falling s
  | .boot x => Sys2Proof.Machine.execBoot x s
  | .i2cGo rq n v target => Sys2Proof.Machine.execI2cGo rq n v target s
  | .i2cCfgWrite rq n v => Sys2Proof.Machine.execI2cCfgWrite rq n v s
  | .i2cTxPush rq n v => Sys2Proof.Machine.execI2cTxPush rq n v s
  | .i2cRxPop rq n => Sys2Proof.Machine.execI2cRxPop rq n s
  | .i2cTransferEnd n => Sys2Proof.Machine.execI2cTransferEnd n s
  | .busStuck n => Sys2Proof.Machine.execBusStuck n s
  | .fifoStall n => Sys2Proof.Machine.execFifoStall n s
  | .genbLine g live spare => Sys2Proof.Machine.execGenbLine g live spare s
  | .gencPacket g pad live spare => Sys2Proof.Machine.execGencPacket g pad live spare s
  | .genbClockLost g => Sys2Proof.Machine.execGenbClockLost g s
  | .genbLock g => Sys2Proof.Machine.execGenbLock g s
  | .gencLock g pad spare => Sys2Proof.Machine.execGencLock g pad spare s
  | .gencLossOfLock g pad spare => Sys2Proof.Machine.execGencLossOfLock g pad spare s
  | .eyeAdjust g eyes => Sys2Proof.Machine.execEyeAdjust g eyes s
  | .spareRotation g => Sys2Proof.Machine.execSpareRotation g s
  | .lineMissing g pad => Sys2Proof.Machine.execLineMissing g pad s
  | .channelCheck codes abandoned => Sys2Proof.Machine.execChannelCheck codes abandoned s
  | .standstillCheck codes => Sys2Proof.Machine.execStandstillCheck codes s
  | .pwrOk g c => Sys2Proof.Machine.execPwrOk g c s
  | .reconnectionDone g c code => Sys2Proof.Machine.execReconnectionDone g c code s
  | .afeChCtrlWrite g c v => Sys2Proof.Machine.execAfeChCtrlWrite g c v s
  | .afeChRangeWrite rq g c v => Sys2Proof.Machine.execAfeChRangeWrite rq g c v s
  | .trimWrite g c n v => Sys2Proof.Machine.execTrimWrite g c n v s
  | .injGo rq g v => Sys2Proof.Machine.execInjGo rq g v s
  | .injectionDone g => Sys2Proof.Machine.execInjectionDone g s
  | .afeGrpService g v => Sys2Proof.Machine.execAfeGrpService g v s
  | .retireReq rq g c => Sys2Proof.Machine.execRetireReq rq g c s
  | .retireCancel g c => Sys2Proof.Machine.execRetireCancel g c s
  | .squeezeCycleStart g => Sys2Proof.Machine.execSqueezeCycleStart g s
  | .squeezePoint g sum clipped => Sys2Proof.Machine.execSqueezePoint g sum clipped s
  | .rebelayRotationStart g => Sys2Proof.Machine.execRebelayRotationStart g s
  | .rebelayPrepDone g ref cal => Sys2Proof.Machine.execRebelayPrepDone g ref cal s
  | .rebelayCompare g pairs pts => Sys2Proof.Machine.execRebelayCompare g pairs pts s
  | .rebelaySwap g => Sys2Proof.Machine.execRebelaySwap g s
  | .freedCalDone g cal => Sys2Proof.Machine.execFreedCalDone g cal s
  | .gridTrigger => Sys2Proof.Machine.execGridTrigger s
  | .leadTrigger => Sys2Proof.Machine.execLeadTrigger s
  | .timerTrigger => Sys2Proof.Machine.execTimerTrigger s
  | .softTrig rq v => Sys2Proof.Machine.execSoftTrig rq v s
  | .arm rq v => Sys2Proof.Machine.execArm rq v s
  | .disarm rq v => Sys2Proof.Machine.execDisarm rq v s
  | .ltnConfigWrite rq r v => Sys2Proof.Machine.execLtnConfigWrite rq r v s
  | .sequenceEnd lead pos sigs => Sys2Proof.Machine.execSequenceEnd lead pos sigs s
  | .flush lead => Sys2Proof.Machine.execFlush lead s
  | .segmentJobDone lead plane seg fail => Sys2Proof.Machine.execSegmentJobDone lead plane seg fail s
  | .handOff late ecc => Sys2Proof.Machine.execHandOff late ecc s
  | .replayDone lead plane seg fail => Sys2Proof.Machine.execReplayDone lead plane seg fail s
  | .verification mismatch => Sys2Proof.Machine.execVerification mismatch s
  | .reconWait lead => Sys2Proof.Machine.execReconWait lead s
  | .reconstructionDone lead late ecc => Sys2Proof.Machine.execReconstructionDone lead late ecc s
  | .swapReq => Sys2Proof.Machine.execSwapReq s
  | .swapCancel => Sys2Proof.Machine.execSwapCancel s
  | .disarmedSwap => Sys2Proof.Machine.execDisarmedSwap s
  | .shadingCommit => Sys2Proof.Machine.execShadingCommit s
  | .trackUpdate m p => Sys2Proof.Machine.execTrackUpdate m p s
  | .mWrite rq m p v => Sys2Proof.Machine.execMWrite rq m p v s
  | .surveyMeasurement => Sys2Proof.Machine.execSurveyMeasurement s
  | .strataMeasurement => Sys2Proof.Machine.execStrataMeasurement s
  | .strCtrlWrite rq v => Sys2Proof.Machine.execStrCtrlWrite rq v s
  | .flowstoneEntry => Sys2Proof.Machine.execFlowstoneEntry s
  | .flowstoneBinWrite rq n v => Sys2Proof.Machine.execFlowstoneBinWrite rq n v s
  | .recordWrite => Sys2Proof.Machine.execRecordWrite s
  | .bufferFlush n => Sys2Proof.Machine.execBufferFlush n s
  | .smpQuotaSet v => Sys2Proof.Machine.execSmpQuotaSet v s
  | .bankMigration b n => Sys2Proof.Machine.execBankMigration b n s
  | .migrationDone => Sys2Proof.Machine.execMigrationDone s
  | .uncorrectableError cell => Sys2Proof.Machine.execUncorrectableError cell s
  | .rowRepair m row n => Sys2Proof.Machine.execRowRepair m row n s
  | .haulStart rq ch hi => Sys2Proof.Machine.execHaulStart rq ch hi s
  | .haulProgramStart => Sys2Proof.Machine.execHaulProgramStart s
  | .haulMove ins data => Sys2Proof.Machine.execHaulMove ins data s
  | .haulMovex ins idx data => Sys2Proof.Machine.execHaulMovex ins idx data s
  | .haulFill ins => Sys2Proof.Machine.execHaulFill ins s
  | .haulCmp ins a b => Sys2Proof.Machine.execHaulCmp ins a b s
  | .haulLoop ins => Sys2Proof.Machine.execHaulLoop ins s
  | .haulWait ins => Sys2Proof.Machine.execHaulWait ins s
  | .haulWaitTimeout ins => Sys2Proof.Machine.execHaulWaitTimeout ins s
  | .haulSignal ins => Sys2Proof.Machine.execHaulSignal ins s
  | .haulNext ins => Sys2Proof.Machine.execHaulNext ins s
  | .haulEnd ins => Sys2Proof.Machine.execHaulEnd ins s
  | .haulEndReread words => Sys2Proof.Machine.execHaulEndReread words s
  | .burstRequest a b => Sys2Proof.Machine.execBurstRequest a b s
  | .busError cause fetch ins idx a b => Sys2Proof.Machine.execBusError cause fetch ins idx a b s
  | .haulClear ch => Sys2Proof.Machine.execHaulClear ch s
  | .servoPeriod => Sys2Proof.Machine.execServoPeriod s
  | .stall a => Sys2Proof.Machine.execStall a s
  | .limitSwitch a active => Sys2Proof.Machine.execLimitSwitch a active s
  | .overcurrent a coil mon => Sys2Proof.Machine.execOvercurrent a coil mon s
  | .encoderFault a cause => Sys2Proof.Machine.execEncoderFault a cause s
  | .ssiFrame a raw high => Sys2Proof.Machine.execSsiFrame a raw high s
  | .switchEdge a z active pos => Sys2Proof.Machine.execSwitchEdge a z active pos s
  | .axsEstop v => Sys2Proof.Machine.execAxsEstop v s
  | .posGo a => Sys2Proof.Machine.execPosGo a s
  | .servoPeriodWrite rq v => Sys2Proof.Machine.execServoPeriodWrite rq v s
  | .ocClear a => Sys2Proof.Machine.execOcClear a s
  | .encClear a => Sys2Proof.Machine.execEncClear a s
  | .refSwitch a up set iRef => Sys2Proof.Machine.execRefSwitch a up set iRef s
  | .refHardStop a up set iRef => Sys2Proof.Machine.execRefHardStop a up set iRef s
  | .refCombined a up set iRef => Sys2Proof.Machine.execRefCombined a up set iRef s
  | .referencingDone a => Sys2Proof.Machine.execReferencingDone a s
  | .chopperTrip a coil mon => Sys2Proof.Machine.execChopperTrip a coil mon s
  | .chopperOn a coil => Sys2Proof.Machine.execChopperOn a coil s
  | .hkcPassStart c conv => Sys2Proof.Machine.execHkcPassStart c conv s
  | .hkcCommit c => Sys2Proof.Machine.execHkcCommit c s
  | .hkcRunStart c => Sys2Proof.Machine.execHkcRunStart c s
  | .hkcFifoPop rq c off => Sys2Proof.Machine.execHkcFifoPop rq c off s
  | .referenceMeasurement host theta => Sys2Proof.Machine.execReferenceMeasurement host theta s
  | .holdover host => Sys2Proof.Machine.execHoldover host s
  | .ptmDialog ns => Sys2Proof.Machine.execPtmDialog ns s
  | .ppsEdge => Sys2Proof.Machine.execPpsEdge s
  | .rearm b => Sys2Proof.Machine.execRearm b s
  | .netSetGo => Sys2Proof.Machine.execNetSetGo s
  | .axisStep => Sys2Proof.Machine.execAxisStep s
  | .cairnTick => Sys2Proof.Machine.execCairnTick s
  | .cairnSetGo => Sys2Proof.Machine.execCairnSetGo s
  | .cairnCopy src => Sys2Proof.Machine.execCairnCopy src s
  | .actionDue => Sys2Proof.Machine.execActionDue s
  | .tetherFrameReceived west words fwd => Sys2Proof.Machine.execTetherFrameReceived west words fwd s
  | .tetherLinkDown west => Sys2Proof.Machine.execTetherLinkDown west s
  | .tetherLinkUp west => Sys2Proof.Machine.execTetherLinkUp west s
  | .pdReq west => Sys2Proof.Machine.execPdReq west s
  | .sync => Sys2Proof.Machine.execSync s
  | .electionTimeout => Sys2Proof.Machine.execElectionTimeout s
  | .govTimeout => Sys2Proof.Machine.execGovTimeout s
  | .stationMasterLost => Sys2Proof.Machine.execStationMasterLost s
  | .chalReq => Sys2Proof.Machine.execChalReq s
  | .respGo => Sys2Proof.Machine.execRespGo s
  | .lockNow => Sys2Proof.Machine.execLockNow s
  | .challengeExpiry => Sys2Proof.Machine.execChallengeExpiry s
  | .ledgerWrite => Sys2Proof.Machine.execLedgerWrite s
  | .tstSelect rq atest n v => Sys2Proof.Machine.execTstSelect rq atest n v s
  | .extest cells => Sys2Proof.Machine.execExtest cells s
  | .idcode => Sys2Proof.Machine.execIdcode s
  | .samplePreload pins cells => Sys2Proof.Machine.execSamplePreload pins cells s
  | .clamp => Sys2Proof.Machine.execClamp s
  | .highz => Sys2Proof.Machine.execHighz s
  | .debugInstruction code => Sys2Proof.Machine.execDebugInstruction code s
  | .bypass code => Sys2Proof.Machine.execBypass code s
  | .topIntWrite rq enable v => Sys2Proof.Machine.execTopIntWrite rq enable v s
  | .twoHalfRead rq a => Sys2Proof.Machine.execTwoHalfRead rq a s
  | .rcRead rq a => Sys2Proof.Machine.execRcRead rq a s
  | .registerWrite rq a v be => Sys2Proof.Machine.execRegisterWrite rq a v be s
  | .encoderCount a n => Sys2Proof.Machine.execEncoderCount a n s
  | .tevEdge n rising => Sys2Proof.Machine.execTevEdge n rising s
  | .ppsOut => Sys2Proof.Machine.execPpsOut s
  | .lockLost g back => Sys2Proof.Machine.execLockLost g back s
  | .perstNDeassertion => Sys2Proof.Machine.execPerstNDeassertion s
  | .linkTrained => Sys2Proof.Machine.execLinkTrained s
  | .testLogicReset => Sys2Proof.Machine.execTestLogicReset s

end Sys2Proof.Machine
end

