-- ==== Sys2Proof/Machine/Step.lean ====
section
/-! DEFINITION. One step: the command at the front of the queue, or one CTRL clock when none waits. -/

namespace Sys2Proof.Machine

/-- On an empty queue one CTRL clock of 400 MHz passes: the bases and Cairn's interpolation advance (R415, R425; DESIGN
CHOICE, log 1). -/
def step (s : State) : Host.Outcome State Fault Refusal :=
  match s.pending with
  | [] => .next { s with dev := s.dev.tick }
  | c :: rest => exec c { s with pending := rest }

/-- `s` with the command that a table word spells at the front of its queue; no word spells one. -/
def State.withFetchWord (s : State) (nbits w : Nat) : State :=
  match decodeTableWord nbits w with
  | some c => { s with pending := c :: s.pending }
  | none => s

end Sys2Proof.Machine
end

