-- ==== Sys2Proof/WellFormed.lean ====
section
/-! DEFINITION. Well-formed commands: addresses, lengths, word counts and codes that a command of the table can carry.
`exec` gives every command a meaning, well formed or not. -/

namespace Sys2Proof

/-- A 64-bit host address. -/
def isAddr (a : Nat) : Bool := decide (a < 2 ^ 64)
/-- A 32-bit length. -/
def isLen (n : Nat) : Bool := decide (n < 2 ^ 32)
/-- A signed 64-bit value. -/
def isInt64 (x : Int) : Bool := decide (-(2 ^ 63) ≤ x) && decide (x < 2 ^ 63)
def isLine (l : Option Int) : Bool := match l with | some x => isInt64 x | none => true
/-- A 16-bit converter code or data word. -/
def isCode (n : Nat) : Bool := decide (n < 65536)
/-- A Haul instruction: 8 words (R325). -/
def isIns (ws : List Word) : Bool := decide (ws.length = 8)
/-- A word of BAR0, 64 MiB (R12). -/
def isOffset (a : Nat) : Bool := decide (a < 2 ^ 26) && decide (a % 4 = 0)

/-- The check of every command. -/
def Instr.wf : Instr → Bool
  | .nop _ => true
  | .invalidOpcode _ => true
  | .bufferPost _ _ a => isAddr a
  | .ctxStart _ _ l => isLine l
  | .ctxStop _ _ l => isLine l
  | .move _ _ x _ _ _ => isInt64 x
  | .moveCoord _ _ xs _ _ _ => decide (xs.length = 6) && xs.all isInt64
  | .hold _ _ => true
  | .resume _ _ => true
  | .abortContext _ _ => true
  | .abortRing _ _ => true
  | .abortAxis _ _ => true
  | .abortHaul _ _ => true
  | .abortCommand _ _ _ => true
  | .afeFull _ _ => true
  | .shadingFull _ => true
  | .hkcSelfcal _ _ => true
  | .tableLoadBarRecord _ a n => isAddr a && isLen n
  | .tableLoadShading _ a n _ => isAddr a && isLen n
  | .tableLoadContext _ a n => isAddr a && isLen n
  | .tableLoadFlowstone _ a n => isAddr a && isLen n
  | .timeSchedule _ _ _ _ _ _ ps => decide (ps.length = 4)
  | .boundaryPost _ _ _ _ x _ => isInt64 x
  | .attest _ a n nonce => isAddr a && isLen n && decide (nonce.length = 32)
  | .storeWriteFirmware _ a n _ _ => isAddr a && isLen n
  | .storeWriteCalStore _ a n _ _ => isAddr a && isLen n
  | .oemKeyAdd _ a n _ _ => isAddr a && isLen n
  | .oemKeyRevoke _ a n _ => isAddr a && isLen n
  | .rollbackSet _ a n _ => isAddr a && isLen n
  | .otpLock _ a n _ => isAddr a && isLen n
  | .sqDoorbell _ _ _ => true
  | .cqDoorbell _ _ _ => true
  | .sqFetch _ es => decide (es.length ≤ 8) && es.all (fun e => decide (e.length = 16))
  | .commandStart _ => true
  | .cplTimeout _ => true
  | .ringError _ _ => true
  | .completionWrite _ => true
  | .interruptModTime _ => true
  | .msixUnmask _ => true
  | .busMasterEnable _ => true
  | .d3hotTransition => true
  | .d0Return => true
  | .registerAbort _ _ => true
  | .sqCfgWrite _ _ _ => true
  | .cqCfgWrite _ _ _ => true
  | .modeReqStandby _ => true
  | .modeReqCalibrate _ => true
  | .modeReqRun _ => true
  | .modeReqService _ => true
  | .modeReqDormant _ => true
  | .modeRequestComplete => true
  | .warmSoftwareReset _ _ => true
  | .powerOnReset => true
  | .brownOut => true
  | .railsValid => true
  | .resetN => true
  | .watchdogExpiry => true
  | .pcieConventionalReset _ => true
  | .functionLevelReset => true
  | .resetAxisStopped _ => true
  | .wakeFromDormant _ _ => true
  | .boot _ => true
  | .i2cGo _ _ _ _ => true
  | .i2cCfgWrite _ _ _ => true
  | .i2cTxPush _ _ _ => true
  | .i2cRxPop _ _ => true
  | .i2cTransferEnd _ => true
  | .busStuck _ => true
  | .fifoStall _ => true
  | .genbLine _ live spare => live.all isCode && (spare.getD []).all isCode
  | .gencPacket _ _ _ _ => true
  | .genbClockLost _ => true
  | .genbLock _ => true
  | .gencLock _ _ _ => true
  | .gencLossOfLock _ _ _ => true
  | .eyeAdjust _ eyes => eyes.all (fun e => decide (e.1 ≤ 64))
  | .spareRotation _ => true
  | .lineMissing _ _ => true
  | .channelCheck _ _ => true
  | .standstillCheck _ => true
  | .pwrOk _ _ => true
  | .reconnectionDone _ _ x => isCode x
  | .afeChCtrlWrite _ _ _ => true
  | .afeChRangeWrite _ _ _ _ => true
  | .trimWrite _ _ _ _ => true
  | .injGo _ _ _ => true
  | .injectionDone _ => true
  | .afeGrpService _ _ => true
  | .retireReq _ _ _ => true
  | .retireCancel _ _ => true
  | .squeezeCycleStart _ => true
  | .squeezePoint _ _ _ => true
  | .rebelayRotationStart _ => true
  | .rebelayPrepDone _ _ _ => true
  | .rebelayCompare _ _ _ => true
  | .rebelaySwap _ => true
  | .freedCalDone _ _ => true
  | .gridTrigger => true
  | .leadTrigger => true
  | .timerTrigger => true
  | .softTrig _ _ => true
  | .arm _ _ => true
  | .disarm _ _ => true
  | .ltnConfigWrite _ _ _ => true
  | .sequenceEnd _ pos _ => pos.all isInt64
  | .flush _ => true
  | .segmentJobDone _ _ _ _ => true
  | .handOff _ _ => true
  | .replayDone _ _ _ _ => true
  | .verification _ => true
  | .reconWait _ => true
  | .reconstructionDone _ _ _ => true
  | .swapReq => true
  | .swapCancel => true
  | .disarmedSwap => true
  | .shadingCommit => true
  | .trackUpdate _ _ => true
  | .mWrite _ _ _ _ => true
  | .surveyMeasurement => true
  | .strataMeasurement => true
  | .strCtrlWrite _ _ => true
  | .flowstoneEntry => true
  | .flowstoneBinWrite _ _ _ => true
  | .recordWrite => true
  | .bufferFlush _ => true
  | .smpQuotaSet _ => true
  | .bankMigration _ _ => true
  | .migrationDone => true
  | .uncorrectableError _ => true
  | .rowRepair _ _ _ => true
  | .haulStart _ _ _ => true
  | .haulProgramStart => true
  | .haulMove ws _ => isIns ws
  | .haulMovex ws _ _ => isIns ws
  | .haulFill ws => isIns ws
  | .haulCmp ws _ _ => isIns ws
  | .haulLoop ws => isIns ws
  | .haulWait ws => isIns ws
  | .haulWaitTimeout ws => isIns ws
  | .haulSignal ws => isIns ws
  | .haulNext ws => isIns ws
  | .haulEnd ws => isIns ws
  | .haulEndReread _ => true
  | .burstRequest _ _ => true
  | .busError _ _ ws _ _ _ => isIns ws
  | .haulClear _ => true
  | .servoPeriod => true
  | .stall _ => true
  | .limitSwitch _ _ => true
  | .overcurrent _ _ _ => true
  | .encoderFault _ _ => true
  | .ssiFrame _ _ _ => true
  | .switchEdge _ _ _ _ => true
  | .axsEstop _ => true
  | .posGo _ => true
  | .servoPeriodWrite _ _ => true
  | .ocClear _ => true
  | .encClear _ => true
  | .refSwitch _ _ _ _ => true
  | .refHardStop _ _ _ _ => true
  | .refCombined _ _ _ _ => true
  | .referencingDone _ => true
  | .chopperTrip _ _ _ => true
  | .chopperOn _ _ => true
  | .hkcPassStart _ _ => true
  | .hkcCommit _ => true
  | .hkcRunStart _ => true
  | .hkcFifoPop _ _ _ => true
  | .referenceMeasurement _ _ => true
  | .holdover _ => true
  | .ptmDialog t => match t with | some n => isAddr n | none => true
  | .ppsEdge => true
  | .rearm _ => true
  | .netSetGo => true
  | .axisStep => true
  | .cairnTick => true
  | .cairnSetGo => true
  | .cairnCopy _ => true
  | .actionDue => true
  | .tetherFrameReceived _ ws _ => decide (ws.length = 16)
  | .tetherLinkDown _ => true
  | .tetherLinkUp _ => true
  | .pdReq _ => true
  | .sync => true
  | .electionTimeout => true
  | .govTimeout => true
  | .stationMasterLost => true
  | .chalReq => true
  | .respGo => true
  | .lockNow => true
  | .challengeExpiry => true
  | .ledgerWrite => true
  | .tstSelect _ _ _ _ => true
  | .extest _ => true
  | .idcode => true
  | .samplePreload _ _ => true
  | .clamp => true
  | .highz => true
  | .debugInstruction x => decide (0x80 ≤ x.val) && decide (x.val ≤ 0xFE)
  | .bypass x => decide (x.val = 0xFF) || decide (x.val = 3) || (decide (5 < x.val) && decide (x.val < 0x80))
  | .topIntWrite _ _ _ => true
  | .twoHalfRead _ a => isOffset a
  | .rcRead _ a => isOffset a
  | .registerWrite _ a _ _ => isOffset a
  | .encoderCount _ _ => true
  | .tevEdge _ _ => true
  | .ppsOut => true
  | .lockLost _ _ => true
  | .perstNDeassertion => true
  | .linkTrained => true
  | .testLogicReset => true

/-- A well-formed command. -/
abbrev Instr.WellFormed (i : Instr) : Prop := i.wf = true

end Sys2Proof
end

