-- ==== Sys2Proof/Safety.lean ====
section
/-! DEFINITION. What counts as a safe run, and the terms the statements use: the canonical form of the memories, what a command does
from a state, and frames. -/

namespace Sys2Proof.Machine

/-- The register file, the windows and the flash are in their canonical form: rising addresses, nothing listed that an
unlisted address reads as. -/
def Dev.canon (d : Dev) : Bool := spWf regReset d.regs && spWf ramDflt d.ram && spWf flashDflt d.flash

/-- The canonical form of a state's memories. -/
abbrev State.Canon (s : State) : Prop := s.dev.canon = true

/-- Every waiting command is well formed. -/
abbrev State.QueueWf (s : State) : Prop := s.pending.all Instr.wf = true

/-- A step neither faults nor refuses. -/
abbrev State.Safe (s : State) : Prop := ∃ t, step s = .next t

/-- From `s` the command `i` runs to a next state that keeps the queue and whose device meets `Q`. -/
def State.Does (s : State) (i : Instr) (Q : Dev → Prop) : Prop :=
  ∃ t, exec i s = .next t ∧ t.pending = s.pending ∧ Q t.dev

/-- From `s` the command `i` leaves everything as it is. -/
def State.Ignores (s : State) (i : Instr) : Prop := exec i s = .next s

/-- Does bit `i` of register `a` belong to one of the fields `l`? -/
def inFields (l : List Fld) (a i : Nat) : Prop := ∃ x ∈ l, x.addr = a ∧ x.lo ≤ i ∧ i ≤ x.hi

/-- The whole register at address `a`, as a field. -/
def whole (a : Nat) : Fld := ⟨a, 31, 0⟩

/-- The frame of a command that writes registers: `e` is `d` but for the register bits of the fields `l`, the requests issued
to the outside and the MSI-X vectors that wait. -/
def Dev.Only (d e : Dev) (l : List Fld) : Prop :=
  e = { d with regs := e.regs, out := e.out, pba := e.pba } ∧
    ∀ a i, ¬ inFields l a i → bitOf (e.reg a).toNat i = bitOf (d.reg a).toNat i

/-- The interrupt bit of a block (R542). -/
def intBit (b : Nat) : Fld := ⟨R.TOP_INT_STATUS, b, b⟩

/-- The fields that an access error writes (R541). -/
def accessErrFields : List Fld := [whole R.TOP_ERR_STATUS, whole R.TOP_ERR_ADDR, intBit 0]

/-- The device wrote one entry of words `ws` at the tail of completion ring `q` (R288, R295): one 32-byte write, then at
most the ring's interrupt; the tail moves on, the phase turns where it wraps, and nothing else changes but the count of entries
since the last interrupt. -/
def Dev.Posted (d e : Dev) (q : Nat) (ws : List Nat) : Prop :=
  (∃ more, e.out = d.out ++ .hostWrite (d.r64 (R.HST_CQ_BASE_LO q) (R.HST_CQ_BASE_HI q) + 32 * d.f (F.HST_CQ_STATUS.TAIL q))
      (ws.flatMap (leBytes 4)) false :: more ∧ ∀ o ∈ more, ∃ v a x, o = Out.msix v a x) ∧
  e.f (F.HST_CQ_STATUS.TAIL q) =
    (if d.f (F.HST_CQ_STATUS.TAIL q) + 1 = 2 ^ d.f (F.HST_CQ_CFG.SIZE_LOG q) then 0
     else (d.f (F.HST_CQ_STATUS.TAIL q) + 1) % 65536) ∧
  e.f (F.HST_CQ_STATUS.PHASE q) =
    (if d.f (F.HST_CQ_STATUS.TAIL q) + 1 = 2 ^ d.f (F.HST_CQ_CFG.SIZE_LOG q) then 1 - d.f (F.HST_CQ_STATUS.PHASE q)
     else d.f (F.HST_CQ_STATUS.PHASE q)) ∧
  { d with cqs := e.cqs }.Only e [F.HST_CQ_STATUS.TAIL q, F.HST_CQ_STATUS.PHASE q] ∧
  (e.cq q).head = (d.cq q).head ∧ (e.cq q).held = (d.cq q).held ∧ ∀ m, m ≠ q → e.cq m = d.cq m

/-- The words of an entry as it is written into completion ring `q` now (R295): P, LATE and SQ_HEAD in word 7. -/
def Dev.entry (d : Dev) (q : Nat) (c : Cpl) : List Nat :=
  (List.range 7).map (fun i => c.words.getD i 0) ++
    [d.f (F.HST_CQ_STATUS.PHASE q) * 2 ^ 31 + b2n c.late * 2 ^ 30 +
      (match c.sq with | some n => d.f (F.HST_SQ_STATUS.HEAD n) | none => 0)]

/-- A command's completion that carries no result (R295): CID, SQ and STATUS, DETAIL and INFO. -/
def plainCpl (src : Src) (status detail info : Nat) : Cpl :=
  { words := [src.cid.val * 2 ^ 16 + src.sq.val * 2 ^ 10 + status, detail * 2 ^ 24 + info, 0, 0, 0, 0, 0],
    sq := some src.sq.val, late := false }

/-- The completion ring of a command. -/
def Dev.ring (d : Dev) (src : Src) : Nat := d.f (F.HST_SQ_CFG.CQ src.sq.val)

/-- A completion `c` reached its ring `q` (R290): written at once where nothing waits before it and the ring takes it, held back
in order otherwise, with CQ_FULL from 64 on. -/
def Dev.Answered (d e : Dev) (q : Nat) (c : Cpl) : Prop :=
  if (d.cq q).held = [] ∧ d.cqTakes q = true then d.Posted e q (d.entry q c)
  else
    e.cq q = { d.cq q with held := (d.cq q).held ++ [c] } ∧ (∀ m, m ≠ q → e.cq m = d.cq m) ∧
    (∃ more, e.out = d.out ++ more ∧ ∀ o ∈ more, ∃ v a x, o = Out.msix v a x) ∧
    { d with cqs := e.cqs }.Only e [F.HST_CQ_STATUS.CQ_FULL q, intBit 9] ∧
    e.f (F.HST_CQ_STATUS.CQ_FULL q) =
      (if 63 ≤ (d.cq q).held.length ∧ d.f (F.HST_CQ_CFG.EN q) = 1 then 1 else d.f (F.HST_CQ_STATUS.CQ_FULL q))

/-- From `s` the command `i` turns the device into `m`, and then its completion `c` reaches the completion ring of its SQ. -/
def State.Ends (s : State) (i : Instr) (src : Src) (c : Cpl) (m : Dev) : Prop :=
  s.Does i (fun e => m.Answered e (m.ring src) c)

/-- The registers that show, right after a reset, what lasts through it: causes and interrupt, a failure count and a queue length
that the reset keeps, the lanes' assignment (R54), the mode, and the security block's image of OTP. -/
def keptRegs : List Nat :=
  [R.PWR_RESET_CAUSE, R.TOP_INT_STATUS, R.SEC_DBG_STATUS, R.SEC_LEDGER_STATUS, R.PWR_MODE_STATUS, R.SEC_OTP_STATUS, R.SEC_STORE_STATUS,
    R.SEC_STORE_SEQ, R.TST_STATUS] ++ (List.range 4).map R.TST_ATEST_SEL ++ (List.range 8).map R.TST_DTEST_SEL ++
    (List.range 8).flatMap (fun g => R.LNE_GRP_STATUS g :: (List.range 4).map (R.LNE_PAD g))

/-- What a reset of kind `k` leaves (Tables 18.5 and 18.6): the registers of its domain and of every less lasting one at their reset
values, those of the more lasting domains as they were; rings, contexts, supplies, action slots, moves, the bar record and a pending
request gone; flash and OTP untouched; the cause flagged. -/
def Dev.ResetTo (d e : Dev) (k : ResetKind) : Prop :=
  (∀ a, a ∉ keptRegs → e.reg a = if k.domain.rank ≤ (regDomain a).rank then regReset a else d.reg a) ∧
  e.f k.cause = 1 ∧ e.flash = d.flash ∧ e.sec.otp = d.sec.otp ∧ e.sqs = [] ∧ e.cqs = [] ∧ e.running = [] ∧ e.ctxs = [] ∧
  e.supplies = [] ∧ e.slots = [] ∧ e.moves = [] ∧ e.axes = [] ∧ e.bar = none ∧ e.req = none ∧ e.haul.run = none ∧
  (if k.rank ≤ 1 then e.ram = [] else ∀ a, winShade ≤ a → e.byte a = d.byte a)

/-- I²C transfer of controller `n` over (R67, R68): not BUSY, DONE with its result and its bytes, the transmit FIFO empty and `rx` in the
receive FIFO, the interrupt of the lane block raised; no other controller and no register of another kind is touched. -/
def Dev.I2cEnded (d e : Dev) (n result moved : Nat) (rx : List Byte) : Prop :=
  e.i2cOf n = ⟨[], rx, none⟩ ∧ (∀ k, k ≠ n → e.i2cOf k = d.i2cOf k) ∧ e.f (F.I2C_STATUS.BUSY n) = 0 ∧ e.f (F.I2C_STATUS.DONE n) = 1 ∧
  e.f (F.I2C_STATUS.RESULT n) = result ∧ e.f (F.I2C_STATUS.BYTES n) = moved ∧ e.f (intBit 2) = 1 ∧
  { d with i2c := e.i2c }.Only e [whole (R.I2C_CFG n), whole (R.I2C_CMD n), whole (R.I2C_STATUS n), intBit 2]

/-- A missing line of a pad (R58, R59): its count went up, LINE_MISSING is set, its exposure is no longer expected, and nothing but the line sets
and the counts of the group is touched. -/
def Dev.MissCounted (d e : Dev) (g n : Nat) (x : Expect) : Prop :=
  e.expects = d.expects.erase x ∧ e.f (F.LNE_PAD.LINE_MISSING g n) = 1 ∧
  e.f (F.LNE_PAD_ERR.ERR_CNT g n) = min (d.f (F.LNE_PAD_ERR.ERR_CNT g n) + 1) (2 ^ 32 - 1) ∧ e.missRun x = d.missRun x + 1 ∧
  { d with expects := e.expects, misses := e.misses, gal := e.gal }.Only e
    [F.LNE_PAD_ERR.ERR_CNT g n, F.LNE_PAD.LINE_MISSING g n, F.LNE_GRP_STATUS.DESYNC_PAD g, F.LNE_GRP_STATUS.MODULE_DESYNC g, intBit 2]

/-- A register write that the device discards as an access error of BAR0 (R541): only the error's own fields change, and they show it. -/
def Dev.Discarded (d e : Dev) (k : ErrKind) (off : Nat) : Prop :=
  d.Only e accessErrFields ∧ e.f F.TOP_ERR_STATUS.ACCESS_ERR = 1 ∧ e.f F.TOP_ERR_STATUS.KIND = k.code ∧
  e.f F.TOP_ERR_STATUS.SPACE = 0 ∧ e.f F.TOP_ERR_ADDR.OFFSET = off

/-- The next access error of requester `rq` will be the one that TOP_ERR_STATUS shows. -/
def Dev.errFree (d : Dev) (rq : Req) : Prop := (rq = .host ∨ rq = .supervisor) ∧ d.f F.TOP_ERR_STATUS.ACCESS_ERR = 0

/-- SQ `n` entered ERROR (R286): cause and failing address are latched, its bit of HST_SQ_ERR is set, the host block raises its
interrupt, and a ring event entry goes to the SQ's CQ; nothing else changes. -/
def Dev.SqFailed (d e : Dev) (n cause addr : Nat) : Prop :=
  ∃ m : Dev, d.Only m [F.HST_SQ_STATUS.STATE n, F.HST_SQ_STATUS.CAUSE n, sqErrBit n, whole (R.HST_SQ_ERR_ADDR_LO n),
      whole (R.HST_SQ_ERR_ADDR_HI n), intBit 9] ∧
    m.f (F.HST_SQ_STATUS.STATE n) = 3 ∧ m.f (F.HST_SQ_STATUS.CAUSE n) = cause ∧ m.f (sqErrBit n) = 1 ∧ m.f (intBit 9) = 1 ∧
    m.r64 (R.HST_SQ_ERR_ADDR_LO n) (R.HST_SQ_ERR_ADDR_HI n) = addr % 2 ^ 64 ∧
    m.Answered e (d.f (F.HST_SQ_CFG.CQ n))
      { words := [n * 2 ^ 10 + 2 * 2 ^ 8 + 8, cause * 2 ^ 24, addr % 2 ^ 32, addr / 2 ^ 32, 0, 0, 0], sq := none, late := false }

/-- The byte that the last host write of `o` that covers host address `a` left there. -/
def writtenAt (o : List Out) (a : Nat) : Option Byte :=
  o.foldl (fun b x => match x with
    | .hostWrite p bs _ => if p ≤ a ∧ a < p + bs.length then bs[a - p]? else b
    | _ => b) none

/-- Haul is about to run the instruction `ws` of program `r`, whose fields are as R327 wants them and whose budget it does not exhaust; `ins` is
the instruction as host memory holds it. -/
def Dev.Runs (d : Dev) (r : HaulRun) (ins : List Word) (ws : List Nat) : Prop :=
  d.haul.run = some r ∧ d.awake = true ∧ r.load = none ∧ r.xfer = none ∧ r.ended = false ∧ (pcDev r.pc = false → d.canIssue = true) ∧
  (d.haulFetch r ins).1 = some ws ∧ insOk ws = true ∧ r.executed + 1 < d.haulBudget r.ch

/-- The program after an instruction that counts, at `pc`. -/
def HaulRun.on (r : HaulRun) (pc : Nat) : HaulRun :=
  { r with pc := pc % 2 ^ 64, executed := r.executed + 1, waiting := false, xfer := none }

/-- Only the running program, and the requests issued to the outside, differ. -/
def Dev.HaulAt (d e : Dev) (r : HaulRun) : Prop := e = { d with out := e.out, haul := { d.haul with run := some r } }

/-- Program `r` is over, with a code of Table 13.3 and its count of instructions, at the instruction that `r` stood at. -/
def Dev.ProgramEnded (e : Dev) (r : HaulRun) (code executed : Nat) : Prop :=
  e.haul.run = none ∧ e.f (F.HAU_CH_STATUS.CODE r.ch) = code ∧ e.f (F.HAU_CH_EXEC.VALUE r.ch) = executed % 2 ^ 32 ∧
  e.r64 (R.HAU_CH_ADDR_LO r.ch) (R.HAU_CH_ADDR_HI r.ch) = pcAddr r.pc % 2 ^ 64

end Sys2Proof.Machine

/-- The commands that may write the flash (R476, R479): a fetched command may be one of them. -/
def Sys2Proof.Instr.writesFlash : Sys2Proof.Instr → Bool
  | .storeWriteFirmware .. => true
  | .storeWriteCalStore .. => true
  | .commandStart .. => true
  | _ => false

/-- The commands that may program the OTP fields of Table 19.1 (R465, R480): a fetched command may be one of them. -/
def Sys2Proof.Instr.writesOtp : Sys2Proof.Instr → Bool
  | .oemKeyAdd .. => true
  | .oemKeyRevoke .. => true
  | .rollbackSet .. => true
  | .otpLock .. => true
  | .commandStart .. => true
  | _ => false

/-- The commands that may change the mode (R445): the completion of a request, BOOT, the resets, the wake, and those that may write
PWR_RESET_CTRL. -/
def Sys2Proof.Instr.changesMode : Sys2Proof.Instr → Bool
  | .modeRequestComplete | .boot _ | .wakeFromDormant .. => true
  | .warmSoftwareReset .. | .powerOnReset | .brownOut | .resetN | .watchdogExpiry | .pcieConventionalReset _
  | .functionLevelReset | .resetAxisStopped _ => true
  | .haulMove .. | .haulMovex .. | .haulFill .. | .haulCmp .. | .burstRequest .. | .busError .. | .registerWrite .. => true
  | _ => false
end

