-- ==== Sys2Proof/Certificates/Slice0/Obligations.lean ====
section
/-! DEFINITION. The statements for the provers: one `def Obligations.<Name> : Prop` each. -/

section
open Sys2Proof Sys2Proof.Machine

/-! ## The machine as a whole -/

/-- A step with `c` at the front of the queue is `exec` of `c` with the queue's rest. On an empty queue one CTRL clock of 400 MHz passes (the model's choice, log 1). Outside DORMANT and a held reset LOCAL gains
INC + div_floor(INC × LOCAL_TRIM, 2^48) units of 2^-80 s, modulo 2^112 (R415), and AXIS one CTRL clock; in DORMANT and while a reset
is held the bases stand still. Nothing but the bases and the count of clocks changes, and the queue stays empty. -/
def Obligations.StepTakesFront : Prop :=
  (∀ (d : Dev) (c : Instr) (rest : List Instr), step ⟨d, c :: rest⟩ = exec c ⟨d, rest⟩) ∧
  (∀ d : Dev, ∃ e : Dev, step ⟨d, []⟩ = .next ⟨e, []⟩ ∧ e = { d with time := e.time, clock := d.clock + 1 } ∧
    (if d.mode = .dormant ∨ d.inReset = true then e.time = d.time
     else (e.time.loc.count : Int) = ((d.time.loc.count : Int) + 3022314549036573 +
          Int.fdiv (3022314549036573 * d.time.trim) (2 ^ 48)) % 2 ^ 112 ∧
        e.time.axSub = d.time.axSub + 1 ∧ e.time.axP = d.time.axP))

/-- No command ends a run: every step goes to a next state and takes exactly the front of the queue. -/
def Obligations.StepAlwaysNext : Prop :=
  ∀ s : State, ∃ t, step s = .next t ∧ t.pending = s.pending.tail

/-- The register file, the windows and the flash keep their canonical form in every step. -/
def Obligations.CanonKept : Prop :=
  ∀ s t : State, s.Canon → step s = .next t → t.Canon

/-- The flash changes only through the two STORE_WRITE regions FIRMWARE and CAL_STORE, or through a fetched command (which may be
one of them): every other command, a reset included, leaves every byte of it as it was. -/
def Obligations.FlashWriters : Prop :=
  ∀ (s t : State) (i : Instr), i.writesFlash = false → exec i s = .next t → ∀ a, t.dev.flashByte a = s.dev.flashByte a

/-- The OTP fields of the security block change only through the OTP requests of a STORE_WRITE, or through a fetched command (which
may be one): no other command and no reset programs or clears them. -/
def Obligations.OtpWriters : Prop :=
  ∀ (s t : State) (i : Instr), i.writesOtp = false → exec i s = .next t → t.dev.sec.otp = s.dev.sec.otp

/-- The mode changes only through the completion of a pending request, BOOT, a reset (one that a register write commands among them) and
the wake from DORMANT (R445): no other command, a mode request included, changes it, the completion of a request takes the
device to the mode that was requested, and BOOT leads to STANDBY alone. -/
def Obligations.ModeWriters : Prop :=
  ∀ (s t : State) (i : Instr), exec i s = .next t →
    (i.changesMode = false → t.dev.mode = s.dev.mode) ∧
    (i = .modeRequestComplete → t.dev.mode = s.dev.mode ∨ ∃ r, s.dev.req = some r ∧ t.dev.mode = r.target) ∧
    (∀ x, i = .boot x → t.dev.mode = s.dev.mode ∨ (s.dev.mode = .boot ∧ t.dev.mode = .standby))

/-! ## Rings (chapter 11) -/

/-- NOP completes OK in STANDBY, CALIBRATE, RUN and SERVICE and WRONG_MODE elsewhere; an opcode outside Table 11.4 completes with
INVALID_OPCODE. Nothing else changes. COMPLETION_WRITE writes the oldest entry that the ring held back, and only that one; with none held back, or a ring that does not
take it, nothing changes. -/
def Obligations.RingCompletions : Prop :=
  (∀ (s : State) (src : Src),
    s.Does (.nop src) (fun e => s.dev.Answered e (s.dev.ring src)
      (plainCpl src (if s.dev.modeIn [.standby, .calibrate, .run, .service] then 0 else 5) 0 0)) ∧
    s.Does (.invalidOpcode src) (fun e => s.dev.Answered e (s.dev.ring src) (plainCpl src 1 0 0))) ∧
  (∀ (s : State) (q : Fin 64) (c : Cpl) (rest : List Cpl), (s.dev.cq q).held = c :: rest →
    (s.dev.cqTakes q = true → s.Does (.completionWrite q) (fun e =>
      (s.dev.setCq q { s.dev.cq q with held := rest }).Posted e q (s.dev.entry q c))) ∧
    (s.dev.cqTakes q = false → s.Ignores (.completionWrite q)))

/-- A full write of a doorbell of an enabled ring within its range: the SQ latches the new tail, so that every entry up to it is
still to be fetched (R284); the CQ takes the new head (R282). A doorbell write that does not enable all four bytes (KIND 1), or to a ring whose EN = 0 (KIND 5), is discarded and recorded as
an access error of BAR2 by the host; a ring and its doorbell value stay (R278, R541). -/
def Obligations.DoorbellsAct : Prop :=
  (∀ (s : State) (n : Fin 64) (v : Word), s.dev.awake = true →
    (s.dev.f (F.HST_SQ_CFG.EN n) = 1 → v.toNat % 65536 < 2 ^ s.dev.f (F.HST_SQ_CFG.SIZE_LOG n) →
      s.Does (.sqDoorbell n v true) (fun e =>
        e.sq n = { s.dev.sq n with tail := v.toNat % 65536, db := v.toNat } ∧ (∀ m, m ≠ n.val → e.sq m = s.dev.sq m) ∧
        (s.dev.f (F.HST_SQ_STATUS.STATE n) = 1 ∨ s.dev.f (F.HST_SQ_STATUS.STATE n) = 2 →
          e.f (F.HST_SQ_STATUS.STATE n) = if (s.dev.sq n).fetched.isEmpty && decide (e.sqToFetch n = 0) then 1 else 2) ∧
        { s.dev with sqs := e.sqs }.Only e [F.HST_SQ_STATUS.STATE n,
          F.HST_CQ_STATUS.CQ_FULL (s.dev.f (F.HST_SQ_CFG.CQ n)), intBit 9])) ∧
    (s.dev.f (F.HST_CQ_CFG.EN n) = 1 → v.toNat % 65536 < 2 ^ s.dev.f (F.HST_CQ_CFG.SIZE_LOG n) →
      (v.toNat % 65536 + s.dev.cqSize n - (s.dev.cq n).head) % s.dev.cqSize n ≤
        (s.dev.f (F.HST_CQ_STATUS.TAIL n) + s.dev.cqSize n - (s.dev.cq n).head) % s.dev.cqSize n →
      s.Does (.cqDoorbell n v true) (fun e =>
        e = { s.dev with cqs := e.cqs } ∧ e.cq n = { s.dev.cq n with head := v.toNat % 65536, db := v.toNat } ∧
        ∀ m, m ≠ n.val → e.cq m = s.dev.cq m))) ∧
  (∀ (s : State) (n : Fin 64) (v : Word) (full : Bool), s.dev.awake = true → s.dev.f F.TOP_ERR_STATUS.ACCESS_ERR = 0 →
    ((full = false ∨ s.dev.f (F.HST_SQ_CFG.EN n) = 0) → s.Does (.sqDoorbell n v full) (fun e => s.dev.Only e accessErrFields ∧
        e.f F.TOP_ERR_STATUS.ACCESS_ERR = 1 ∧ e.f F.TOP_ERR_STATUS.KIND = (if full then 5 else 1) ∧
        e.f F.TOP_ERR_STATUS.SPACE = 1 ∧ e.f F.TOP_ERR_ADDR.OFFSET = 0x1000 * n.val)) ∧
    ((full = false ∨ s.dev.f (F.HST_CQ_CFG.EN n) = 0) → s.Does (.cqDoorbell n v full) (fun e => s.dev.Only e accessErrFields ∧
        e.f F.TOP_ERR_STATUS.ACCESS_ERR = 1 ∧ e.f F.TOP_ERR_STATUS.KIND = (if full then 5 else 1) ∧
        e.f F.TOP_ERR_STATUS.SPACE = 1 ∧ e.f F.TOP_ERR_ADDR.OFFSET = 0x40000 + 0x1000 * n.val)))

/-- R285: a doorbell value out of range puts its ring into ERROR with cause DOORBELL_RANGE (an SQ, with 2^SIZE_LOG or more; a CQ, with
a head outside the range from the present head to the tail, inclusive and wrapping); a CQ in ERROR posts nothing, and an SQ bound to
it fetches nothing. -/
def Obligations.DoorbellRange : Prop :=
  ∀ (s : State) (n : Fin 64) (v : Word),
    (s.dev.awake = true → s.dev.f (F.HST_SQ_CFG.EN n) = 1 → 2 ^ s.dev.f (F.HST_SQ_CFG.SIZE_LOG n) ≤ v.toNat % 65536 →
      s.Does (.sqDoorbell n v true) (fun e =>
        (s.dev.setSq n { s.dev.sq n with db := v.toNat }).SqFailed e n 5 0)) ∧
    (s.dev.awake = true → s.dev.f (F.HST_CQ_CFG.EN n) = 1 →
      (2 ^ s.dev.f (F.HST_CQ_CFG.SIZE_LOG n) ≤ v.toNat % 65536 ∨
        (s.dev.f (F.HST_CQ_STATUS.TAIL n) + s.dev.cqSize n - (s.dev.cq n).head) % s.dev.cqSize n <
          (v.toNat % 65536 + s.dev.cqSize n - (s.dev.cq n).head) % s.dev.cqSize n) →
      s.Does (.cqDoorbell n v true) (fun e => e.f (F.HST_CQ_STATUS.STATE n) = 2 ∧
        (s.dev.setCq n { s.dev.cq n with db := v.toNat }).Only e [F.HST_CQ_STATUS.STATE n, intBit 9])) ∧
    (s.dev.f (F.HST_CQ_STATUS.STATE n) = 2 →
      s.Ignores (.completionWrite n) ∧
      (∀ src : Src, s.dev.ring src = n → s.Does (.invalidOpcode src) (fun e =>
        (e.cq n).held = (s.dev.cq n).held ++ [plainCpl src 1 0 0] ∧ ∃ more, e.out = s.dev.out ++ more ∧
          ∀ o ∈ more, ∃ v a x, o = Out.msix v a x)) ∧
      (∀ (m : Fin 64) (l : List (List Word)), s.dev.f (F.HST_SQ_CFG.CQ m) = n → s.Does (.sqFetch m l) (fun e =>
        e.sqs = s.dev.sqs ∧ e.out = s.dev.out)) ∧
      (∀ m t, s.dev.ctxRing m = n → exec .recordWrite s = .next t → (t.dev.ctx m).waiting = (s.dev.ctx m).waiting))

/-- SQ_FETCH reads at most 8 entries, up to the latched tail and never across the end of the ring, in ring order (R284); a fetch that
meets a timeout or an error puts the SQ into ERROR with the cause of Table 11.10 and the address read (R286). COMMAND_START takes the front entry of the SQ that is served next (R289): none other of higher PRIO is ready, an entry with FENCE
has no earlier command of its SQ before it, and the head moves on by one. An opcode outside Table 11.4
ends there with INVALID_OPCODE, a NOP whose reserved bits are 0 with OK (R291, R292). -/
def Obligations.CommandsFetched : Prop :=
  (∀ (s : State) (n : Fin 64), s.dev.sqFetches n = true → 0 < s.dev.sqFetchCount n →
    (∀ l : List (List Word), s.Does (.sqFetch n l) (fun e =>
      s.dev.sqFetchCount n ≤ 8 ∧ s.dev.sqFetchCount n ≤ s.dev.sqToFetch n ∧
      (s.dev.sq n).fetch + s.dev.sqFetchCount n ≤ s.dev.sqSize n ∧
      e.out = s.dev.out ++ [.hostRead (s.dev.r64 (R.HST_SQ_BASE_LO n) (R.HST_SQ_BASE_HI n) + 64 * (s.dev.sq n).fetch)
        (64 * s.dev.sqFetchCount n)] ∧
      (e.sq n).fetched = (s.dev.sq n).fetched ++ (List.range (s.dev.sqFetchCount n)).map (fun i => l.getD i []) ∧
      (e.sq n).fetch = ((s.dev.sq n).fetch + s.dev.sqFetchCount n) % s.dev.sqSize n ∧ (e.sq n).tail = (s.dev.sq n).tail ∧
      (∀ m, m ≠ n.val → e.sq m = s.dev.sq m) ∧ e.f (F.HST_SQ_STATUS.STATE n) = 2 ∧
      { s.dev with sqs := e.sqs }.Only e [F.HST_SQ_STATUS.STATE n])) ∧
    s.Does (.cplTimeout n) (fun e => (s.dev.emit (.hostRead (s.dev.sqFetchAddr n) (64 * s.dev.sqFetchCount n))).SqFailed e n 1
      (s.dev.sqFetchAddr n)) ∧
    (∀ c : Fin 3, s.Does (.ringError n c) (fun e =>
      (s.dev.emit (.hostRead (s.dev.sqFetchAddr n) (64 * s.dev.sqFetchCount n))).SqFailed e n (c.val + 2) (s.dev.sqFetchAddr n)))) ∧
  (∀ (s : State) (x : CmdEnv) (n : Nat) (w : List Word) (rest : List (List Word)), s.dev.awake = true →
    s.dev.nextSq = some n → (s.dev.sq n).fetched = w :: rest →
    (∀ m, m < 64 → s.dev.startable m = true → s.dev.f (F.HST_SQ_CFG.PRIO m) ≤ s.dev.f (F.HST_SQ_CFG.PRIO n)) ∧
    (bitOf (w.getD 0 0).toNat 8 = true → ∀ r ∈ s.dev.running, r.src.sq.val = n → r.src.cairn = true) ∧
    s.Does (.commandStart x) (fun e => ∃ m : Dev,
      (m.sq n).fetched = rest ∧ (∀ k, k ≠ n → m.sq k = s.dev.sq k) ∧
      m.f (F.HST_SQ_STATUS.HEAD n) = (s.dev.f (F.HST_SQ_STATUS.HEAD n) + 1) % s.dev.sqSize n % 65536 ∧
      { s.dev with rr := m.rr, sqs := m.sqs }.Only m [F.HST_SQ_STATUS.HEAD n, F.HST_SQ_STATUS.STATE n] ∧
      ((w.getD 0 0).toNat % 256 ∉ [0, 1, 2, 3, 0x10, 0x11, 0x12, 0x13, 0x20, 0x30, 0x31, 0x40, 0x50, 0x60, 0x61] →
        m.Answered e (m.ring ⟨Fin.ofNat 64 n, Fin.ofNat 65536 ((w.getD 0 0).toNat / 65536), bitOf (w.getD 0 0).toNat 9, false⟩)
          (plainCpl ⟨Fin.ofNat 64 n, Fin.ofNat 65536 ((w.getD 0 0).toNat / 65536), bitOf (w.getD 0 0).toNat 9, false⟩ 1 0 0)) ∧
      ((w.getD 0 0).toNat % 256 = 0 → (w.getD 0 0).toNat % 65536 / 1024 = 0 → (w.drop 1).take 15 = List.replicate 15 0 →
        s.dev.modeIn [.standby, .calibrate, .run, .service] = true →
        m.Answered e (m.ring ⟨Fin.ofNat 64 n, Fin.ofNat 65536 ((w.getD 0 0).toNat / 65536), bitOf (w.getD 0 0).toNat 9, false⟩)
          (plainCpl ⟨Fin.ofNat 64 n, Fin.ofNat 65536 ((w.getD 0 0).toNat / 65536), bitOf (w.getD 0 0).toNat 9, false⟩ 0 0 0))))

/-- Writing EN of an SQ or a CQ (R287, R288, R302): enabling an SQ starts it at head 0, IDLE; disabling one empties it (the head takes
the latched tail, entries not started go, out of ERROR) and leaves it DISABLED; enabling a CQ sets tail 0 and phase 1, disabling it
takes it out of ERROR; with EN = 1 a write of anything but EN, and a SIZE_LOG outside 4 to 16, are discarded. -/
def Obligations.RingEnable : Prop :=
  ∀ (s : State) (n : Fin 64) (v : Word), s.dev.awake = true → 4 ≤ v.toNat % 32 → v.toNat % 32 ≤ 16 →
    (s.dev.f (F.HST_SQ_CFG.EN n) = 0 → bitOf v.toNat 31 = true → s.Does (.sqCfgWrite .host n v) (fun e =>
      e.reg (R.HST_SQ_CFG n) = v &&& 0xE03F001F#32 ∧ e.f (F.HST_SQ_STATUS.STATE n) = 1 ∧ e.f (F.HST_SQ_STATUS.HEAD n) = 0 ∧
      e.sq n = { s.dev.sq n with tail := 0, fetch := 0, fetched := [] } ∧ (∀ m, m ≠ n.val → e.sq m = s.dev.sq m) ∧
      { s.dev with sqs := e.sqs }.Only e [whole (R.HST_SQ_CFG n), F.HST_SQ_STATUS.STATE n, F.HST_SQ_STATUS.HEAD n])) ∧
    (s.dev.f (F.HST_SQ_CFG.EN n) = 1 → (v ||| 0x80000000#32) &&& 0xE03F001F#32 = s.dev.reg (R.HST_SQ_CFG n) →
      bitOf v.toNat 31 = false → (s.dev.sq n).tail < 65536 → s.Does (.sqCfgWrite .host n v) (fun e =>
      e.f (F.HST_SQ_CFG.EN n) = 0 ∧ e.f (F.HST_SQ_STATUS.STATE n) = 0 ∧ e.f (F.HST_SQ_STATUS.HEAD n) = (s.dev.sq n).tail ∧
      e.f (sqErrBit n) = 0 ∧ e.sq n = { s.dev.sq n with fetch := (s.dev.sq n).tail, fetched := [] } ∧
      (∀ m, m ≠ n.val → e.sq m = s.dev.sq m) ∧
      { s.dev with sqs := e.sqs }.Only e [F.HST_SQ_CFG.EN n, F.HST_SQ_STATUS.STATE n, F.HST_SQ_STATUS.HEAD n, sqErrBit n])) ∧
    (s.dev.f (F.HST_CQ_CFG.EN n) = 0 → bitOf v.toNat 31 = true → s.Does (.cqCfgWrite .host n v) (fun e =>
      e.reg (R.HST_CQ_CFG n) = v &&& 0xFF0FF01F#32 ∧ e.f (F.HST_CQ_STATUS.STATE n) = 1 ∧ e.f (F.HST_CQ_STATUS.TAIL n) = 0 ∧
      e.f (F.HST_CQ_STATUS.PHASE n) = 1 ∧ (e.cq n).head = 0 ∧ (e.cq n).held = (s.dev.cq n).held ∧
      (∀ m, m ≠ n.val → e.cq m = s.dev.cq m) ∧ { s.dev with cqs := e.cqs }.Only e [whole (R.HST_CQ_CFG n),
        F.HST_CQ_STATUS.STATE n, F.HST_CQ_STATUS.TAIL n, F.HST_CQ_STATUS.PHASE n])) ∧
    (s.dev.f (F.HST_CQ_CFG.EN n) = 1 → (v ||| 0x80000000#32) &&& 0xFF0FF01F#32 = s.dev.reg (R.HST_CQ_CFG n) →
      bitOf v.toNat 31 = false → s.Does (.cqCfgWrite .host n v) (fun e =>
      e.f (F.HST_CQ_CFG.EN n) = 0 ∧ e.f (F.HST_CQ_STATUS.STATE n) = 0 ∧
      s.dev.Only e [F.HST_CQ_CFG.EN n, F.HST_CQ_STATUS.STATE n]))

/-- Interrupts (R300, R279): MOD_TIME raises the vector of a CQ with entries not signalled and restarts their count; unmasking a
vector whose PBA bit is set sends its message and clears the bit; Bus Master Enable 0 stops every request: no fetch, no entry, no
message. Writes of TOP_INT_ENABLE and TOP_INT_STATUS (R542). ENABLE stores, STATUS bits clear where 1 is written. One ERR_VEC message follows when
the AND goes from zero to nonzero by a write of ENABLE, and after any write of STATUS that leaves a bit of it set; none otherwise. -/
def Obligations.InterruptMessages : Prop :=
  (∀ (s : State),
    (∀ q : Fin 64, 0 < s.dev.f (F.HST_CQ_MOD.MOD_TIME q) → 0 < (s.dev.cq q).unsig →
      s.dev.msixMasked (s.dev.f (F.HST_CQ_CFG.VECTOR q)) = false → s.dev.canIssue = true →
      s.Does (.interruptModTime q) (fun e => e = { s.dev with cqs := e.cqs, out := e.out } ∧
        e.cq q = { s.dev.cq q with unsig := 0 } ∧ (∀ m, m ≠ q.val → e.cq m = s.dev.cq m) ∧
        e.out = s.dev.out ++ [.msix (s.dev.f (F.HST_CQ_CFG.VECTOR q))
          (s.dev.msixWord (4 * s.dev.f (F.HST_CQ_CFG.VECTOR q)) + s.dev.msixWord (4 * s.dev.f (F.HST_CQ_CFG.VECTOR q) + 1) * 2 ^ 32)
          (s.dev.msixWord (4 * s.dev.f (F.HST_CQ_CFG.VECTOR q) + 2))])) ∧
    (∀ v : Fin 128, v.val ∈ s.dev.pba → s.dev.canIssue = true → s.Does (.msixUnmask v) (fun e =>
        e = { s.dev with msixTab := e.msixTab, pba := e.pba, out := e.out } ∧ e.msixMasked v = false ∧
        (∀ i, i ≠ 4 * v.val + 3 → e.msixWord i = s.dev.msixWord i) ∧ e.pba = s.dev.pba.filter (· ≠ v.val) ∧
        e.out = s.dev.out ++ [.msix v (s.dev.msixWord (4 * v) + s.dev.msixWord (4 * v + 1) * 2 ^ 32)
          (s.dev.msixWord (4 * v + 2))])) ∧
    s.Does (.busMasterEnable false) (fun e => e = { s.dev with link := { s.dev.link with busMaster := false } } ∧
      e.canIssue = false ∧ (∀ q, e.cqTakes q = false) ∧ ∀ n, e.sqFetches n = false) ∧
    s.Does (.busMasterEnable true) (fun e => e = { s.dev with link := { s.dev.link with busMaster := true }, pba := e.pba, out := e.out } ∧
      ∀ v, v ∈ s.dev.pba → e.canIssue = true → s.dev.msixMasked v = false → v ∉ e.pba)) ∧
  (∀ (s : State) (rq : Req) (enable : Bool) (v : Word),
    (s.dev.awake = false → s.Ignores (.topIntWrite rq enable v)) ∧
    (s.dev.awake = true → s.Does (.topIntWrite rq enable v) (fun e =>
      s.dev.Only e [whole (if enable then R.TOP_INT_ENABLE else R.TOP_INT_STATUS)] ∧
      (∀ b < 18, enable = true → bitOf (e.reg R.TOP_INT_ENABLE).toNat b = bitOf v.toNat b) ∧
      (∀ b < 18, enable = false → bitOf (e.reg R.TOP_INT_STATUS).toNat b = (bitOf (s.dev.reg R.TOP_INT_STATUS).toNat b && !bitOf v.toNat b)) ∧
      ∀ x after, x = s.dev.f F.HST_CFG.ERR_VEC → after = e.reg R.TOP_INT_STATUS &&& e.reg R.TOP_INT_ENABLE →
        (after = 0 ∨ (enable = true ∧ s.dev.reg R.TOP_INT_STATUS &&& s.dev.reg R.TOP_INT_ENABLE ≠ 0) → e.out = s.dev.out ∧ e.pba = s.dev.pba) ∧
        (after ≠ 0 → enable = false ∨ s.dev.reg R.TOP_INT_STATUS &&& s.dev.reg R.TOP_INT_ENABLE = 0 →
          (s.dev.canIssue = true → s.dev.msixMasked x = false → e.pba = s.dev.pba ∧
            e.out = s.dev.out ++ [.msix x (s.dev.msixWord (4 * x) + s.dev.msixWord (4 * x + 1) * 2 ^ 32) (s.dev.msixWord (4 * x + 2))]) ∧
          (s.dev.canIssue = false ∨ s.dev.msixMasked x = true → e.out = s.dev.out ∧ x ∈ e.pba)))))

/-! ## Inspection contexts and Sump (chapters 10 and 12) -/

/-- BUFFER_POST (R265): a buffer address goes to the end of its supply's list, POSTED counts it, and with QUIET no entry is written.
Turned away: address bits 11:0 not 0 (INVALID_FIELD, word 2), a mode other than STANDBY, CALIBRATE, RUN and SERVICE (WRONG_MODE), a supply
with EN = 0 (code 1), a list that holds 4096 (code 2). SMP_QUOTA_SET (R312): a quota outside 1 to 4096 (RANGE) and one below the cells of the context's largest record (SMALL) change
nothing but the result; any other becomes QUOTA of its entry. RESULT and CONTEXT are those of the write, and DONE is set. -/
def Obligations.BuffersAndQuotas : Prop :=
  (∀ (s : State) (src : Src) (k : Fin 64) (addr : Nat),
    (addr % 4096 = 0 → s.dev.modeIn [.standby, .calibrate, .run, .service] = true → s.dev.f (F.CTX_SUPPLY_CFG.EN k) = 1 →
      (s.dev.supply k).length < 4096 → s.Does (.bufferPost src k addr) (fun e => ∃ m : Dev,
        m.supply k = s.dev.supply k ++ [addr] ∧ (∀ j, j ≠ k.val → m.supply j = s.dev.supply j) ∧
        m.f (F.CTX_SUPPLY_STATUS.POSTED k) = (s.dev.supply k).length + 1 ∧
        { s.dev with supplies := m.supplies }.Only m [F.CTX_SUPPLY_STATUS.POSTED k] ∧
        (if src.quiet then e = m else m.Answered e (m.ring src) (plainCpl src 0 0 0)))) ∧
    (addr % 4096 ≠ 0 → s.Ends (.bufferPost src k addr) src (plainCpl src 2 0 2) s.dev) ∧
    (addr % 4096 = 0 → s.dev.modeIn [.standby, .calibrate, .run, .service] = false →
      s.Ends (.bufferPost src k addr) src (plainCpl src 5 0 0) s.dev) ∧
    (addr % 4096 = 0 → s.dev.modeIn [.standby, .calibrate, .run, .service] = true → s.dev.f (F.CTX_SUPPLY_CFG.EN k) = 0 →
      s.Ends (.bufferPost src k addr) src (plainCpl src 3 1 0) s.dev) ∧
    (addr % 4096 = 0 → s.dev.modeIn [.standby, .calibrate, .run, .service] = true → s.dev.f (F.CTX_SUPPLY_CFG.EN k) = 1 →
      4096 ≤ (s.dev.supply k).length → s.Ends (.bufferPost src k addr) src (plainCpl src 3 2 0) s.dev)) ∧
  (∀ (s : State) (v : Word), s.dev.awake = true →
    s.Does (.smpQuotaSet v) (fun e =>
      e.f F.SMP_QUOTA_RESULT.CONTEXT = v.toNat % 4096 ∧ e.f F.SMP_QUOTA_RESULT.DONE = 1 ∧
      { s.dev with ram := e.ram, ctxs := e.ctxs }.Only e [whole R.SMP_QUOTA_RESULT, whole R.SMP_QUOTA_EVENT, F.SMP_COUNT.QEX_CNT, intBit 10] ∧
      (if v.toNat / 65536 % 8192 = 0 ∨ 4096 < v.toNat / 65536 % 8192 then
        e.f F.SMP_QUOTA_RESULT.RESULT = 1 ∧ e.ram = s.dev.ram ∧ e.ctxs = s.dev.ctxs
      else if v.toNat / 65536 % 8192 < recordCells (s.dev.ctxLargest (v.toNat % 4096)) then
        e.f F.SMP_QUOTA_RESULT.RESULT = 2 ∧ e.ram = s.dev.ram ∧ e.ctxs = s.dev.ctxs
      else e.f F.SMP_QUOTA_RESULT.RESULT = 0 ∧ e.ctxQuota (v.toNat % 4096) = v.toNat / 65536 % 8192 ∧
        (∀ a, (a < ctxEntry (v.toNat % 4096) + 4 ∨ ctxEntry (v.toNat % 4096) + 8 ≤ a) → e.byte a = s.dev.byte a) ∧
        ∀ m, m ≠ v.toNat % 4096 → e.ctx m = s.dev.ctx m)))

/-- CTX_START (R269, R270): an entry that passes every check of Table 10.7 starts with all its counts at 0, at once or, with an AT line
not yet triggered, when that line is; a failing check leaves the context as it was, shows in LAST_RESULT and is the completion's code. CTX_STOP (R271): refused outside RUN and SERVICE (WRONG_MODE) and for a STOPPED context (code 1); with an AT line that has not been
triggered the context goes STOPPING and stops there; else it takes no line triggered from now on, and, with no record and no line
left and no open buffer, is STOPPED and the command completes at once. -/
def Obligations.ContextLifecycle : Prop :=
  (∀ (s : State) (src : Src) (n : Fin 4096) (line : Option Int),
    (s.dev.ctxCheck n = 0 → (∀ a, line = some a → s.dev.linePassed a = false) →
      s.Ends (.ctxStart src n line) src (plainCpl src 0 0 0) (s.dev.setCtx n { ctxInit n with
        state := if line.isSome then 1 else 2, lastClose := (s.dev.ctx n).lastClose, fromSerial := s.dev.ltn.serial,
        fromLine := line, sq := some src.sq.val })) ∧
    (∀ a, s.dev.ctxCheck n = 0 → line = some a → s.dev.linePassed a = true →
      s.Ends (.ctxStart src n line) src (plainCpl src 0 0 1) (s.dev.setCtx n { ctxInit n with
        state := 2, atMissed := true, lastClose := (s.dev.ctx n).lastClose, fromSerial := s.dev.ltn.serial, sq := some src.sq.val })) ∧
    (s.dev.ctxCheck n ≠ 0 → s.Ends (.ctxStart src n line) src (plainCpl src 3 (s.dev.ctxCheck n) 0)
      (s.dev.setCtx n { s.dev.ctx n with lastResult := s.dev.ctxCheck n })) ∧
    (s.dev.modeIn [.run, .service] = false → s.dev.ctxCheck n = 1) ∧
    (s.dev.modeIn [.run, .service] = true → s.dev.bar = none → s.dev.ctxCheck n = 2) ∧
    (s.dev.ctxCheck n = 0 → (s.dev.ctx n).state = 0 ∧ 0 < s.dev.ctxQuota n ∧ s.dev.ctxQuota n ≤ 4096 ∧ 0 < s.dev.ctxWidth n ∧
      s.dev.f (F.CTX_SUPPLY_CFG.EN (s.dev.ctxSupply n)) = 1 ∧ s.dev.f (F.HST_CQ_STATUS.STATE (s.dev.ctxRing n)) = 1 ∧
      recordCells (s.dev.ctxLargest n) ≤ s.dev.ctxQuota n)) ∧
  (∀ (s : State) (src : Src) (n : Fin 4096) (line : Option Int),
    (s.dev.modeIn [.run, .service] = false → s.Ends (.ctxStop src n line) src (plainCpl src 5 0 0) s.dev) ∧
    (s.dev.modeIn [.run, .service] = true → (s.dev.ctx n).state = 0 →
      s.Ends (.ctxStop src n line) src (plainCpl src 3 1 0) s.dev) ∧
    (s.dev.modeIn [.run, .service] = true → (s.dev.ctx n).state ≠ 0 →
      (∀ a, line = some a → s.dev.linePassed a = false → s.Does (.ctxStop src n line) (fun e =>
        e = (s.dev.startRun src (.ctxStop n false)).setCtx n { s.dev.ctx n with state := 3, toLine := some a })) ∧
      (line = none → (s.dev.ctx n).waiting ≠ [] → s.Does (.ctxStop src n line) (fun e =>
        e = (s.dev.startRun src (.ctxStop n false)).setCtx n { s.dev.ctx n with
          state := 3, toSerial := some s.dev.ltn.serial, toLine := none, draining := some ((s.dev.ctx n).draining.getD 2) })) ∧
      (line = none → (s.dev.ctx n).waiting = [] → (s.dev.ctx n).buf = none → s.dev.gal.lines = [] → s.dev.ltn.mainQ = [] →
        (∀ r ∈ s.dev.running, r.id < s.dev.nextRun ∧ ∀ b, r.kind ≠ .ctxStop n b) →
        s.Ends (.ctxStop src n line) src (plainCpl src 0 0 0) ({ s.dev with nextRun := s.dev.nextRun + 1 }.setCtx n
          { s.dev.ctx n with state := 0, toSerial := none, fromLine := none, toLine := none, draining := none }))))

/-- RECORD_WRITE (R267, R268): the next record is that of the context of highest PRIORITY, then lowest number, among those that may
write; it goes to the next free place of the context's open buffer, or to the start of the oldest posted buffer where none is open. BUFFER_FLUSH (R266): an open buffer whose FLUSH_TIME has passed is closed with reason FLUSH and its completion follows; a
FLUSH_TIME of 0 and a context without an open buffer close nothing. -/
def Obligations.RecordsDelivered : Prop :=
  (∀ (s : State), (s.dev.nextWriter = none → s.Ignores .recordWrite) ∧
    ∀ (n : Nat) (r : Rec) (rest : List Rec), s.dev.nextWriter = some n → (s.dev.ctx n).waiting = r :: rest →
      (∀ k, s.dev.canWrite k = true → s.dev.ctxPriority k < s.dev.ctxPriority n ∨
        (s.dev.ctxPriority k = s.dev.ctxPriority n ∧ n ≤ k)) ∧
      (∀ b, (s.dev.ctx n).buf = some b → b.used + r.size ≤ s.dev.supplyLen b.supply → s.Does .recordWrite (fun e =>
        (∃ more, e.out = s.dev.out ++ .hostWrite (b.addr + b.used) r.bytes s.dev.link.relaxed :: more) ∧
        (e.ctx n).waiting = rest ∧ (e.ctx n).records = ((s.dev.ctx n).records + 1) % 2 ^ 32 ∧
        (∀ m, m ≠ n → e.ctx m = s.dev.ctx m) ∧ e.supplies = s.dev.supplies)) ∧
      (∀ a t, (s.dev.ctx n).buf = none → s.dev.supply (s.dev.ctxSupply n) = a :: t → s.Does .recordWrite (fun e =>
        (∃ more, e.out = s.dev.out ++ .hostWrite a r.bytes s.dev.link.relaxed :: more) ∧
        (e.ctx n).waiting = rest ∧ (e.ctx n).records = ((s.dev.ctx n).records + 1) % 2 ^ 32 ∧
        (∀ m, m ≠ n → e.ctx m = s.dev.ctx m) ∧ e.supply (s.dev.ctxSupply n) = t))) ∧
  (∀ (s : State) (n : Fin 4096),
    (s.dev.ctxField n 9 15 0 = 0 ∨ (s.dev.ctx n).buf = none → s.Ignores (.bufferFlush n)) ∧
    (∀ b, s.dev.ctxField n 9 15 0 ≠ 0 → (s.dev.ctx n).buf = some b → s.Does (.bufferFlush n) (fun e =>
      (s.dev.setCtx n { s.dev.ctx n with buf := none, lastClose := 1 }).Answered e (s.dev.ctxRing n)
        ⟨[n.val * 2 ^ 20 + 1 * 2 ^ 16 + b.supply * 2 ^ 10 + 2 ^ 8, b.used % 2 ^ 25, b.records % 2 ^ 32, s.dev.ctxTag n,
          b.addr % 2 ^ 32, b.addr / 2 ^ 32, b.firstSeq % 4096], none, false⟩)))

/-! ## Aborts (chapter 11) -/

/-- ABORT of scope CONTEXT (R298): the context's records are discarded and its cells returned, and it is STOPPED; the abort's own
completion carries the cells in RESULT_C. A STOPPED context ends the abort with NOT_FOUND, and another context is not touched. ABORT of scope RING (R287, R298): every context started through the SQ is STOPPED, the SQ is emptied and DISABLED with EN = 0, its head
at the latched tail. A DISABLED SQ ends the abort with NOT_FOUND. (For an SQ none of whose commands is still running.) -/
def Obligations.ContextAndRingAborts : Prop :=
  (∀ (s : State) (src : Src) (n : Fin 4096), s.dev.modeIn [.standby, .calibrate, .run, .service] = true →
    ((s.dev.ctx n).state = 0 → s.Ends (.abortContext src n) src (plainCpl src 3 1 0) s.dev) ∧
    ((s.dev.ctx n).state ≠ 0 → s.Does (.abortContext src n) (fun e => ∃ m : Dev,
      (m.ctx n).state = 0 ∧ (m.ctx n).waiting = [] ∧ (m.ctx n).cells = 0 ∧ (m.ctx n).buf = none ∧ (m.ctx n).draining = none ∧
      (∀ k, k ≠ n.val → m.ctx k = s.dev.ctx k) ∧ m.ram = s.dev.ram ∧ m.supplies = s.dev.supplies ∧ m.moves = s.dev.moves ∧
      m.Answered e (m.ring src) (cmdCpl src { c := (s.dev.ctx n).cells })))) ∧
  (∀ (s : State) (src : Src) (n : Fin 64), s.dev.modeIn [.standby, .calibrate, .run, .service] = true →
    (s.dev.f (F.HST_SQ_STATUS.STATE n) = 0 → s.Ends (.abortRing src n) src (plainCpl src 3 1 0) s.dev) ∧
    (s.dev.f (F.HST_SQ_STATUS.STATE n) ≠ 0 → (∀ r ∈ s.dev.running, r.src.sq ≠ n) → s.Does (.abortRing src n) (fun e => ∃ m : Dev,
      (∀ k, (s.dev.ctx k).sq = some n.val → (m.ctx k).state = 0) ∧
      m.sq n = { s.dev.sq n with fetch := (s.dev.sq n).tail, fetched := [] } ∧ (∀ k, k ≠ n.val → m.sq k = s.dev.sq k) ∧
      m.f (F.HST_SQ_CFG.EN n) = 0 ∧ m.f (F.HST_SQ_STATUS.STATE n) = 0 ∧ m.f (sqErrBit n) = 0 ∧
      m.f (F.HST_SQ_STATUS.HEAD n) = (s.dev.sq n).tail % 65536 ∧
      ∃ c, m.Answered e (m.ring src) (cmdCpl src { c := c }))))

/-- ABORT of scopes AXIS and COMMAND (R298, R299): an abort that finds no move and no referencing of its axes, and one that finds no started
command with its CID, end with NOT_FOUND; a move stops with cause ABORT and the abort's completion does not wait for it; a
TIME_SCHEDULE frees its slot and completes ABORTED before the abort completes OK. ABORT of scope HAUL (R339): a channel that neither runs, nor waits, nor is halted ends it with NOT_FOUND; a halted channel whose
queue is empty takes programs again; whatever the channel did, its queue ends empty and not halted. -/
def Obligations.AxisCommandAndHaulAborts : Prop :=
  (∀ (s : State) (src : Src), s.dev.modeIn [.standby, .calibrate, .run, .service] = true →
    (∀ mask : Fin 64, ((maskList 6 mask).any (fun a => (s.dev.moveOf a).isSome || (s.dev.ax a).ref.isSome) = false →
        s.Ends (.abortAxis src mask) src (plainCpl src 3 1 0) s.dev) ∧
      ((maskList 6 mask).any (fun a => (s.dev.moveOf a).isSome) = true → (∀ a, (s.dev.ax a).ref = none) →
        s.Ends (.abortAxis src mask) src (plainCpl src 0 0 0)
          { s.dev with moves := s.dev.moves.map (fun m => if (maskList 6 mask).any m.has then m.stopBy .abort else m) })) ∧
    (∀ (n : Fin 64) (cid : Fin 65536),
      ((∀ r ∈ s.dev.running, r.src.sq ≠ n ∨ r.src.cid ≠ cid) →
        s.Ends (.abortCommand src n cid) src (plainCpl src 3 1 0) s.dev) ∧
      (∀ (r : Running) (k : Nat) (rest : List Running), s.dev.running = r :: rest → r.src.sq = n → r.src.cid = cid →
        r.kind = .schedule k → (∀ x ∈ rest, x.id ≠ r.id) → s.Does (.abortCommand src n cid) (fun e => ∃ m : Dev,
          { s.dev with running := rest, slots := s.dev.slots.filter (fun c => c.1 ≠ k) }.Answered m (s.dev.ring r.src) (plainCpl r.src 4 0 0) ∧
          m.Answered e (m.ring src) (plainCpl src 0 0 0))))) ∧
  (∀ (s : State) (src : Src) (c : Fin 8), s.dev.modeIn [.standby, .calibrate, .run, .service] = true →
    (s.dev.hch c = ⟨[], false⟩ → (∀ r, s.dev.haul.run = some r → r.ch ≠ c) → s.Ends (.abortHaul src c) src (plainCpl src 3 1 0) s.dev) ∧
    (s.dev.hch c = ⟨[], true⟩ → (∀ r, s.dev.haul.run = some r → r.ch ≠ c) →
      s.Ends (.abortHaul src c) src (plainCpl src 0 0 0) (s.dev.setHch c ⟨[], false⟩)) ∧
    (s.dev.hch c ≠ ⟨[], false⟩ → s.Does (.abortHaul src c) (fun e => ∃ m : Dev, m.hch c = ⟨[], false⟩ ∧
      ∃ x, m.Answered e (m.ring src) (cmdCpl src { c := x }))))

/-- Every ABORT completes WRONG_MODE, and aborts nothing, in a mode that does not accept it. A write of HST_ABORT_CTRL (R299) runs the abort at once: a TARGET outside the range of its SCOPE shows INVALID and a context
that is STOPPED shows NOT_FOUND; DONE is set, the block raises its interrupt, and no completion is posted. -/
def Obligations.AbortsRefusedOrRegister : Prop :=
  (∀ (s : State) (src : Src), s.dev.modeIn [.standby, .calibrate, .run, .service] = false →
    (∀ n, s.Ends (.abortContext src n) src (plainCpl src 5 0 0) s.dev) ∧ (∀ n, s.Ends (.abortRing src n) src (plainCpl src 5 0 0) s.dev) ∧
    (∀ m, s.Ends (.abortAxis src m) src (plainCpl src 5 0 0) s.dev) ∧ (∀ c, s.Ends (.abortHaul src c) src (plainCpl src 5 0 0) s.dev) ∧
    (∀ n c, s.Ends (.abortCommand src n c) src (plainCpl src 5 0 0) s.dev)) ∧
  (∀ (s : State) (rq : Req) (v : Word), s.dev.awake = true → s.dev.f F.HST_ABORT_STATUS.BUSY = 0 →
    (abortTargetOk (v.toNat / 2 ^ 28) (v.toNat % 65536) = false → s.Does (.registerAbort rq v) (fun e =>
      e.f F.HST_ABORT_STATUS.DONE = 1 ∧ e.f F.HST_ABORT_STATUS.RESULT = 3 ∧ e.f (intBit 9) = 1 ∧
      s.dev.Only e [F.HST_ABORT_STATUS.DONE, F.HST_ABORT_STATUS.RESULT, intBit 9])) ∧
    (v.toNat / 2 ^ 28 = 0 → v.toNat % 65536 < 4096 → (s.dev.ctx (v.toNat % 65536)).state = 0 → s.Does (.registerAbort rq v) (fun e =>
      e.f F.HST_ABORT_STATUS.DONE = 1 ∧ e.f F.HST_ABORT_STATUS.RESULT = 1 ∧ e.f (intBit 9) = 1 ∧
      s.dev.Only e [F.HST_ABORT_STATUS.DONE, F.HST_ABORT_STATUS.RESULT, intBit 9])))

/-! ## Modes, power and resets (chapter 18) -/

/-- A write of MODE_REQ with the code of mode `m` (R446, R447): MODE itself completes at once with LAST_RESULT 0; a request that
Table 18.2 refuses shows its code; one more while a request is pending is an access error of kind LOCKED, and in DORMANT and while a
reset is pending nothing answers. None of these changes the mode or the pending request. Which pairs of modes may be requested, and why a request is refused (Tables 18.1 and 18.2): from STANDBY every other mode but BOOT,
from CALIBRATE, RUN and SERVICE one another and STANDBY; CALIBRATE and RUN want a bar record; CAL_RUN, TABLE_LOAD and a store being written
want an end first; DORMANT wants every axis at standstill. An accepted request (R446 to R448): a request for DORMANT is pending with its target, and nothing else changes; one for another mode is
pending too, and the mode stays until it completes. MODE_REQUEST_COMPLETE (R449, R452): a pending request that is ready puts the device into its target mode and is pending no longer;
one for STANDBY waits for every axis to stand and every line to be handed off; without a request nothing happens. -/
def Obligations.ModeRequests : Prop :=
  (∀ (s : State) (rq : Req), ∀ p ∈ [(Instr.modeReqStandby rq, 1, Mode.standby), (.modeReqCalibrate rq, 2, .calibrate), (.modeReqRun rq, 3, .run),
      (.modeReqService rq, 4, .service), (.modeReqDormant rq, 5, .dormant)],
    (s.dev.mode ≠ .dormant → s.dev.rst = none → s.dev.req = none →
      (s.dev.mode = p.2.2 → s.Does p.1 (fun e => e.f F.PWR_MODE_STATUS.TARGET = p.2.1 ∧ e.f F.PWR_MODE_STATUS.LAST_RESULT = 0 ∧
        s.dev.Only e [F.PWR_MODE_STATUS.TARGET, F.PWR_MODE_STATUS.LAST_RESULT])) ∧
      (s.dev.mode ≠ p.2.2 → (s.dev.setF F.PWR_MODE_STATUS.TARGET p.2.1).requestCode p.2.2 ≠ 0 → s.Does p.1 (fun e =>
        e.f F.PWR_MODE_STATUS.TARGET = p.2.1 ∧
        e.f F.PWR_MODE_STATUS.LAST_RESULT = (s.dev.setF F.PWR_MODE_STATUS.TARGET p.2.1).requestCode p.2.2 ∧
        s.dev.Only e [F.PWR_MODE_STATUS.TARGET, F.PWR_MODE_STATUS.LAST_RESULT]))) ∧
    (s.dev.mode ≠ .dormant → s.dev.rst = none → s.dev.req ≠ none → rq = .host ∨ rq = .supervisor →
      s.dev.f F.TOP_ERR_STATUS.ACCESS_ERR = 0 → s.Does p.1 (fun e => s.dev.Only e accessErrFields ∧ e.f F.TOP_ERR_STATUS.KIND = 3 ∧
        e.f F.TOP_ERR_ADDR.OFFSET = R.PWR_MODE_CTRL)) ∧
    (s.dev.mode = .dormant ∨ s.dev.rst ≠ none → s.Ignores p.1)) ∧
  (∀ (d : Dev) (t : Mode), (d.requestCode t = 1 ↔ ¬ ((d.mode = .standby ∧ t ∈ [.calibrate, .run, .service, .dormant]) ∨
      (d.mode ∈ [.calibrate, .run, .service] ∧ t ∈ [.standby, .calibrate, .run, .service] ∧ d.mode ≠ t))) ∧
    (d.requestCode t = 0 → ((t = .calibrate ∨ t = .run) → d.bar ≠ none) ∧ d.busyRuns = false ∧ (t = .dormant → d.allStand = true))) ∧
  (∀ (s : State) (rq : Req), s.dev.rst = none → s.dev.req = none →
    (s.dev.mode = .standby → s.dev.busyRuns = false → s.dev.allStand = true → s.Does (.modeReqDormant rq) (fun e =>
      e.req = some ⟨.dormant, false⟩ ∧ e.f F.PWR_MODE_STATUS.PENDING = 1 ∧ e.f F.PWR_MODE_STATUS.TARGET = 5 ∧
      { s.dev with req := e.req }.Only e [F.PWR_MODE_STATUS.TARGET, F.PWR_MODE_STATUS.PENDING])) ∧
    (∀ p ∈ [(Instr.modeReqStandby rq, 1, Mode.standby), (.modeReqCalibrate rq, 2, .calibrate), (.modeReqRun rq, 3, .run),
        (.modeReqService rq, 4, .service)], s.dev.mode ≠ p.2.2 → s.dev.mode ≠ .dormant →
      (s.dev.setF F.PWR_MODE_STATUS.TARGET p.2.1).requestCode p.2.2 = 0 →
      s.Does p.1 (fun e => e.req = some ⟨p.2.2, false⟩ ∧ e.mode = s.dev.mode))) ∧
  (∀ s : State, (s.dev.req = none → s.Ignores .modeRequestComplete) ∧
    ∀ r, s.dev.req = some r →
      (r.target = .standby → s.dev.allStand = false ∨ s.dev.gal.lines ≠ [] → s.Ignores .modeRequestComplete) ∧
      (s.dev.rst = none → s.dev.modeReady r = true → s.Does .modeRequestComplete (fun e => e.mode = r.target ∧ e.req = none)))

/-- D3hot (R450): no request leaves the link any more, and outside BOOT, DORMANT and a reset it requests STANDBY by itself: in STANDBY, with
nothing running, that is all. Back in D0 the link may carry requests again. LOCK_LOST (R39, R543): a group PLL that runs and loses its lock clears LOCKED and sets LOCK_LOST; with its lock back LOCKED is set
again and LOCK_LOST stays; a PLL that does not run has no event. -/
def Obligations.LinkAndPll : Prop :=
  (∀ s : State,
    (s.dev.awake = false → s.Does .d3hotTransition (fun e => e = { s.dev with link := { s.dev.link with d3hot := true } })) ∧
    (s.dev.awake = true → s.dev.mode = .standby → s.dev.req = none → s.dev.running = [] → s.Does .d3hotTransition (fun e =>
      e.link = { s.dev.link with d3hot := true } ∧ e.canIssue = false ∧ e.f F.PWR_MODE_STATUS.TARGET = 1 ∧
      e.f F.PWR_MODE_STATUS.LAST_RESULT = 0 ∧
      { s.dev with link := e.link }.Only e [F.PWR_MODE_STATUS.TARGET, F.PWR_MODE_STATUS.LAST_RESULT])) ∧
    s.Does .d0Return (fun e => e = { s.dev with link := { s.dev.link with d3hot := false }, pba := e.pba, out := e.out }) ∧
    (s.dev.link.perst = false → s.dev.mode ≠ .dormant → s.Does .linkTrained (fun e =>
      e = { s.dev with link := { s.dev.link with up := true } })) ∧
    (s.dev.link.perst = true ∨ s.dev.mode = .dormant → s.Ignores .linkTrained) ∧
    (s.dev.mode ≠ .dormant → s.Does .perstNDeassertion (fun e =>
      e = { s.dev with link := { s.dev.link with perst := false, wakeN := false }, out := e.out } ∧
      e.out = s.dev.out ++ if s.dev.link.wakeN then [.pin "WAKE_N" 0 1] else []))) ∧
  (∀ (s : State) (g : Fin 8), (∀ b, s.dev.pllRuns g = false → s.Ignores (.lockLost g b)) ∧
    (s.dev.pllRuns g = true →
      s.Does (.lockLost g false) (fun e => e.f (F.GRP_PLL_STATUS.LOCKED g) = 0 ∧ e.f (F.GRP_PLL_STATUS.LOCK_LOST g) = 1 ∧
        s.dev.Only e [F.GRP_PLL_STATUS.LOCKED g, F.GRP_PLL_STATUS.LOCK_LOST g, intBit (intBitOf (R.GRP_PLL_STATUS g))]) ∧
      s.Does (.lockLost g true) (fun e => e.f (F.GRP_PLL_STATUS.LOCKED g) = 1 ∧ s.dev.Only e [F.GRP_PLL_STATUS.LOCKED g])))

/-- The resets that apply at once (R456, R458 to R460, Tables 18.5 and 18.6): power-on, brown-out and RESET_N hold the device in BOOT
until RAILS_VALID; a watchdog or a warm software reset with every axis at standstill goes to BOOT; each leaves what its domains say. PCI Express resets (R456, R460, R462): with every axis at standstill a conventional reset, which takes the link down, and a
function-level reset return the function domain and leave the device in STANDBY (in BOOT, in BOOT). A reset that lets moving axes stop first (R461): it is pending while they stop, with every ring command, context and action slot
ended without a completion; RESET_AXIS_STOPPED, at standstill or at its time limit, applies it. A wrong key resets nothing. -/
def Obligations.ResetsAct : Prop :=
  (∀ s : State,
    s.Does .powerOnReset (fun e => e.mode = .boot ∧ e.rst = some .aonLost ∧ s.dev.ResetTo e .aonLost) ∧
    (s.dev.mode ≠ .dormant → s.Does .brownOut (fun e => e.mode = .boot ∧ e.rst = some .aonKept ∧ s.dev.ResetTo e .aonKept)) ∧
    (s.dev.mode ≠ .dormant → s.Does .resetN (fun e => e.mode = .boot ∧ e.rst = some .pin ∧ s.dev.ResetTo e .pin)) ∧
    (s.dev.mode ≠ .dormant → s.dev.rst = none → s.dev.allStand = true →
      s.Does .watchdogExpiry (fun e => e.mode = .boot ∧ e.rst = none ∧ s.dev.ResetTo e .watchdog) ∧
      (∀ rq v, v.toNat / 2 ^ 24 = 0xA5 → bitOf v.toNat 0 = true →
        s.Does (.warmSoftwareReset rq v) (fun e => e.mode = .boot ∧ e.rst = none ∧ s.dev.ResetTo e .warm))) ∧
    (∀ k, s.dev.rst = some k → s.Does .railsValid (fun e => e = if k.stops then s.dev else { s.dev with rst := none }))) ∧
  (∀ s : State, s.dev.mode ≠ .dormant → s.dev.rst = none → s.dev.allStand = true →
    (∀ p, s.Does (.pcieConventionalReset p) (fun e => e.mode = (if s.dev.mode = .boot then .boot else .standby) ∧ e.rst = none ∧
      e.link.up = false ∧ e.link.busMaster = false ∧ s.dev.ResetTo e .conventional)) ∧
    s.Does .functionLevelReset (fun e => e.mode = (if s.dev.mode = .boot then .boot else .standby) ∧ e.rst = none ∧
      e.link.up = s.dev.link.up ∧ e.link.busMaster = false ∧ s.dev.ResetTo e .flr)) ∧
  (∀ s : State,
    (∀ k, s.dev.rst = some k → k.stops = true → s.Does (.resetAxisStopped true) (fun e => e.rst = none ∧ s.dev.ResetTo e k)) ∧
    (∀ t, s.dev.rst = none → s.Ignores (.resetAxisStopped t)) ∧
    (s.dev.mode ∉ [.dormant, .boot] → s.dev.rst = none → s.dev.allStand = false →
      (∀ c ∈ [(Instr.watchdogExpiry, ResetKind.watchdog), (.functionLevelReset, .flr), (.pcieConventionalReset true, .conventional),
          (.warmSoftwareReset .host 0xA5000001#32, .warm)],
        s.Does c.1 (fun e => e.rst = some c.2 ∧ e.running = [] ∧ e.ctxs = [] ∧ e.slots = [] ∧ e.req = none ∧
          e.haul = ⟨[], none, []⟩ ∧ ∀ m ∈ e.moves, m.owner = .silent))) ∧
    (∀ rq v, s.dev.mode ≠ .dormant → s.dev.rst = none → (rq = .host ∨ rq = .supervisor) → s.dev.f F.TOP_ERR_STATUS.ACCESS_ERR = 0 →
      (v.toNat / 2 ^ 24 ≠ 0xA5 ∨ bitOf v.toNat 0 = false) → s.Does (.warmSoftwareReset rq v) (fun e =>
        s.dev.Only e accessErrFields ∧ e.f F.TOP_ERR_STATUS.KIND = 2 ∧ e.f F.TOP_ERR_ADDR.OFFSET = R.PWR_RESET_CTRL)))

/-- DORMANT ends by an enabled wake source alone (R453): WAKE_SRC shows it, the MAIN rails come back, WAKE_N is asserted but for
PERST_N, and the device goes to BOOT with DORMANT_EXIT. BOOT (R451): it counts itself, and a step that fails leaves the device in BOOT with its code: SRAM 4, OTP 1, flash 2, no image that
verifies 3; when every step succeeds the device is in STANDBY. In any other mode, and while a reset is held, nothing boots. -/
def Obligations.WakesAndBoots : Prop :=
  (∀ (s : State) (src : Fin 4) (falling : Bool),
    (s.dev.mode ≠ .dormant ∨ s.dev.wakes src falling = false → s.Ignores (.wakeFromDormant src falling)) ∧
    (s.dev.mode = .dormant → s.dev.wakes src falling = true → s.Does (.wakeFromDormant src falling) (fun e =>
      e.mode = .boot ∧ e.rst = some .dormantExit ∧ e.f F.PWR_WAKE_CFG.WAKE_SRC = src ∧ e.f F.PWR_RESET_CAUSE.DORMANT_EXIT = 1 ∧
      e.link.mainEn = true ∧ e.link.wakeN = (s.dev.link.wakeN || decide (src.val ≠ 2)) ∧ e.ram = [] ∧ e.flash = s.dev.flash)) ∧
    (s.dev.wakes 1 falling = (s.dev.on F.PWR_WAKE_CFG.TEV0_EN && decide (s.dev.on F.PWR_WAKE_CFG.TEV0_EDGE = falling))) ∧
    s.dev.wakes 3 falling = true) ∧
  (∀ (s : State) (x : BootIn),
    (s.dev.mode ≠ .boot ∨ s.dev.rst ≠ none → s.Ignores (.boot x)) ∧
    (s.dev.mode = .boot → s.dev.rst = none →
      (x.sram = false → s.Does (.boot x) (fun e => e.mode = .boot ∧ e.f F.SEC_BOOT_STATUS.FAIL = 4 ∧
        e.f F.PWR_RESET_CAUSE.BOOT_CNT = min (s.dev.f F.PWR_RESET_CAUSE.BOOT_CNT + 1) 65535 ∧
        { s.dev with sec := { s.dev.sec with image := none, store := none } }.Only e
          [F.SEC_BOOT_STATUS.FAIL, F.PWR_RESET_CAUSE.BOOT_CNT])) ∧
      (x.sram = true → x.otpError = true → s.Does (.boot x) (fun e => e.mode = .boot ∧ e.f F.SEC_BOOT_STATUS.FAIL = 1)) ∧
      (x.sram = true → x.otpError = false → x.flash = false → s.Does (.boot x) (fun e =>
        e.mode = .boot ∧ e.f F.SEC_BOOT_STATUS.FAIL = 2)) ∧
      (x.sram = true → x.otpError = false → x.flash = true → s.Does (.boot x) (fun e =>
        e.mode = .standby ∨ (e.mode = .boot ∧ e.f F.SEC_BOOT_STATUS.FAIL = 3)))))

/-! ## I²C and the digital modules (chapter 2) -/

/-- The I²C controllers (R67, R68, R76). GO starts a transfer, or ends it at once: not in use DISABLED, no or too many bytes LENGTH, while BUSY
an access error. TX_WIN takes four bytes, byte 0 first, and RX_WIN gives four; a full transmit FIFO and an empty receive FIFO are
access errors. EN = 0 empties both FIFOs. A transfer that has run to its end, one on a stuck bus and one whose FIFO stalls end with
their results. -/
def Obligations.I2cTransfers : Prop :=
  ∀ (s : State) (n : Fin 4), s.dev.awake = true →
    (∀ rq v t, s.dev.f (F.I2C_STATUS.BUSY n) = 0 →
      (s.dev.f (F.I2C_CFG.EN n) = 0 → s.Does (.i2cGo rq n v t) (fun e => s.dev.I2cEnded e n 6 0 [])) ∧
      (s.dev.f (F.I2C_CFG.EN n) = 1 → (v.toNat % 2 ^ 18 = 0 ∨ 256 < v.toNat % 512 ∨ 256 < v.toNat / 512 % 512) →
        s.Does (.i2cGo rq n v t) (fun e => s.dev.I2cEnded e n 5 0 [])) ∧
      (s.dev.f (F.I2C_CFG.EN n) = 1 → v.toNat % 2 ^ 18 ≠ 0 → v.toNat % 512 ≤ 256 → v.toNat / 512 % 512 ≤ 256 →
        s.Does (.i2cGo rq n v t) (fun e => e.f (F.I2C_STATUS.BUSY n) = 1 ∧ e.out = s.dev.out ++ [.i2c n "start" (v.toNat / 2 ^ 24 % 128)] ∧
          e.i2cOf n = I2c.settle 514 ⟨(s.dev.i2cOf n).tx, [], some ⟨v.toNat / 2 ^ 24 % 128, v.toNat / 512 % 512, v.toNat % 512, t.ackAddr,
            t.ackBytes, t.answer, 0, none⟩⟩ ∧
          { s.dev with i2c := e.i2c }.Only e [whole (R.I2C_CMD n), F.I2C_STATUS.BUSY n, F.I2C_STATUS.TX_LEVEL n, F.I2C_STATUS.RX_LEVEL n]))) ∧
    (∀ rq v, v.toNat / 2 ^ 29 % 4 ≠ 3 →
      (bitOf v.toNat 31 = true → s.Does (.i2cCfgWrite rq n v) (fun e => e = s.dev.setReg (R.I2C_CFG n) (v &&& 0xE0000000#32))) ∧
      (bitOf v.toNat 31 = false → s.Does (.i2cCfgWrite rq n v) (fun e => e.f (F.I2C_CFG.EN n) = 0 ∧ e.i2cOf n = ⟨[], [], none⟩ ∧
        ((s.dev.i2cOf n).run ≠ none → e.f (F.I2C_STATUS.RESULT n) = 6)))) ∧
    (∀ rq v, (s.dev.i2cOf n).tx.length ≤ 28 → (s.dev.i2cOf n).run = none → s.Does (.i2cTxPush rq n v) (fun e =>
      e.i2cOf n = ⟨(s.dev.i2cOf n).tx ++ leBytes 4 v.toNat, (s.dev.i2cOf n).rx, none⟩ ∧
      e.f (F.I2C_STATUS.TX_LEVEL n) = (s.dev.i2cOf n).tx.length + 4 ∧
      { s.dev with i2c := e.i2c }.Only e [F.I2C_STATUS.TX_LEVEL n, F.I2C_STATUS.RX_LEVEL n])) ∧
    (∀ rq v, 28 < (s.dev.i2cOf n).tx.length → (rq = .host ∨ rq = .supervisor) → s.dev.f F.TOP_ERR_STATUS.ACCESS_ERR = 0 →
      s.Does (.i2cTxPush rq n v) (fun e => s.dev.Only e accessErrFields ∧ e.f F.TOP_ERR_STATUS.KIND = 3)) ∧
    (∀ rq, (s.dev.i2cOf n).rx ≠ [] → (s.dev.i2cOf n).run = none → s.Does (.i2cRxPop rq n) (fun e =>
      e.i2cOf n = ⟨(s.dev.i2cOf n).tx, (s.dev.i2cOf n).rx.drop 4, none⟩ ∧
      e.out = s.dev.out ++ [.readData (R.I2C_CFG n + 0x60) (leNat ((s.dev.i2cOf n).rx.take 4))])) ∧
    (∀ r, (s.dev.i2cOf n).run = some r → r.moved < 1024 →
      (∀ x, r.ended = some x → x < 8 → s.Does (.i2cTransferEnd n) (fun e => s.dev.I2cEnded e n x r.moved (s.dev.i2cOf n).rx)) ∧
      s.Does (.busStuck n) (fun e => s.dev.I2cEnded e n 3 r.moved (s.dev.i2cOf n).rx ∧
        ∃ l, e.out = s.dev.out ++ l ++ [.i2c n "clocks" 9, .i2c n "stop" 0]) ∧
      (r.ended = none → s.Does (.fifoStall n) (fun e => s.dev.I2cEnded e n 4 r.moved (s.dev.i2cOf n).rx))) ∧
    ((s.dev.i2cOf n).run = none → s.Ignores (.i2cTransferEnd n) ∧ s.Ignores (.busStuck n) ∧ s.Ignores (.fifoStall n))

/-- Lines of the digital modules (R47, R50, R58, R59, R77). A good line of an outstanding exposure joins its line set and ends a run of
missing ones; a bad line, one that comes without a lock and one that does not come count as missing on the tap's pad, and the first
of a run is rebuilt. A line that nothing expects is no event. Locks, eyes and the spare of a group's receivers (R45, R48, R49, R53 to R55): a clock lost and found shows in GENB_LOCKED; a lane that
locks counts its module's start pulses from 0; sampling points move by at most 1/64 UI; after 256 lines an unassigned spare moves to
another active pad with its count at 0. -/
def Obligations.LineReception : Prop :=
  (∀ (s : State) (g : Fin 8),
    (∀ m x ser l w sp, s.dev.genBModule g = some m → s.dev.expects.find? (fun e => e.module = m.id ∧ e.tap = 0) = some x → x.serial = some ser →
      s.dev.lineOf ser = some l → (s.dev.lane g).clockLock = true →
      (∀ px, genBLine m w = some px → s.Does (.genbLine g w sp) (fun e => e.expects = s.dev.expects.erase x ∧ e.missRun x = 0 ∧
        ∃ l', e.lineOf ser = some l' ∧ l'.raws = l.raws ++ [⟨x.module, x.tap, x.plane, px⟩] ∧ l'.recon = l.recon)) ∧
      (genBLine m w = none → m.errPad x.tap < 4 → s.Does (.genbLine g w none) (fun e => s.dev.MissCounted e g (m.errPad x.tap) x ∧
        (s.dev.missRun x = 0 → ∃ l', e.lineOf ser = some l' ∧ l'.recon = l.recon ++ [⟨x.module, x.tap, x.plane, 0⟩])))) ∧
    (∀ (n : Fin 4) m k x ser l p, s.dev.padModule g n = some (m, k) → s.dev.expects.find? (fun e => e.module = m.id ∧ e.tap = k) = some x →
      x.serial = some ser → s.dev.lineOf ser = some l → m.gen = 3 →
      (∀ px, (s.dev.lane g).laneLock.getD n false = true → genCLine m x p = some px → s.Does (.gencPacket g n p none) (fun e =>
        e.expects = s.dev.expects.erase x ∧ e.missRun x = 0 ∧
        ∃ l', e.lineOf ser = some l' ∧ l'.raws = l.raws ++ [⟨x.module, x.tap, x.plane, px⟩] ∧ l'.recon = l.recon)) ∧
      ((s.dev.lane g).laneLock.getD n false = false → m.errPad x.tap < 4 → s.Does (.gencPacket g n p none) (fun e =>
        s.dev.MissCounted e g (m.errPad x.tap) x)) ∧
      (m.errPad x.tap < 4 → s.Does (.lineMissing g n) (fun e => s.dev.MissCounted e g (m.errPad x.tap) x))) ∧
    (∀ n w sp p q, s.dev.expects = [] → s.Ignores (.genbLine g w sp) ∧ s.Ignores (.gencPacket g n p q) ∧ s.Ignores (.lineMissing g n))) ∧
  (∀ (s : State) (g : Fin 8),
    s.Does (.genbLock g) (fun e => e.lane g = { s.dev.lane g with clockLock := true } ∧ (∀ k, k ≠ g.val → e.lane k = s.dev.lane k) ∧
      e.f (F.LNE_GRP_STATUS.GENB_LOCKED g) = 1) ∧
    s.Does (.genbClockLost g) (fun e => e.lane g = { s.dev.lane g with clockLock := false } ∧ (∀ k, k ≠ g.val → e.lane k = s.dev.lane k) ∧
      e.f (F.LNE_GRP_STATUS.GENB_LOCKED g) = 0 ∧ e.f (F.LNE_GRP_STATUS.GENB_CLOCK_LOST g) = 1) ∧
    (∀ n : Fin 4, s.Does (.gencLock g n false) (fun e =>
        e.lane g = { s.dev.lane g with laneLock := (s.dev.lane g).laneLock.set n true } ∧
        ∀ m k, s.dev.padModule g n = some (m, k) → spGet pulseInit e.pulses m.id = 0) ∧
      s.Does (.gencLock g n true) (fun e => e = if (s.dev.lane g).shadows n then s.dev.setLane g { s.dev.lane g with spareLock := true } else s.dev) ∧
      s.Does (.gencLossOfLock g n true) (fun e => e = if (s.dev.lane g).shadows n then s.dev.setLane g { s.dev.lane g with spareLock := false } else s.dev) ∧
      ((s.dev.lane g).shadows n = false → s.Does (.gencLossOfLock g n false) (fun e =>
        e.lane g = { s.dev.lane g with laneLock := (s.dev.lane g).laneLock.set n false }))) ∧
    (∀ eyes, s.Does (.eyeAdjust g eyes) (fun e => (∀ k, k ≠ g.val → e.lane k = s.dev.lane k) ∧
      ∀ k, ((e.lane g).points.getD k 0 - (s.dev.lane g).points.getD k 0).natAbs ≤ 1)) ∧
    ((s.dev.lane g).spareCount < 256 ∨ (s.dev.lane g).assigned = true → s.Ignores (.spareRotation g)) ∧
    (256 ≤ (s.dev.lane g).spareCount → (s.dev.lane g).rotating = true → (s.dev.lane g).pending = none → s.dev.activePads g ≠ [] →
      s.Does (.spareRotation g) (fun e => ∃ p, p ∈ s.dev.activePads g ∧
        e.lane g = { s.dev.lane g with sparePad := p, spareCount := 0, spareLock := false } ∧ (∀ k, k ≠ g.val → e.lane k = s.dev.lane k))))

/-! ## The video front end and its calibration (chapters 3 and 7) -/

/-- Writes of the front end's registers (R85, R92, R93, R96, R97, R491, R544). Range codes valid for the channel's mode wait for the next line
with PENDING = 1 and leave the codes in force; invalid ones are discarded. A trim waits too. EN decides power. INJ_GO and a SERVICE
request act in SERVICE on a channel whose output is not selected; RETIRE_REQ wants METHOD Rebelay, and RETIRE_CANCEL clears it. -/
def Obligations.FrontEndWrites : Prop :=
  ∀ (s : State) (g : Fin 8) (c : Fin 9), s.dev.awake = true →
    (∀ rq v, (∀ p < 4, v.toNat / 2 ^ (4 * p) % 16 ≤ if s.dev.f (F.AFE_CH_CTRL.MODE g c) = 1 then 3 else 7) →
      s.Does (.afeChRangeWrite rq g c v) (fun e => e.f ⟨R.AFE_CH_RANGE g c, 15, 0⟩ = v.toNat % 65536 ∧ e.f (F.AFE_CH_RANGE.PENDING g c) = 1 ∧
        s.dev.Only e [whole (R.AFE_CH_RANGE g c)])) ∧
    (∀ rq v p, p < 4 → (if s.dev.f (F.AFE_CH_CTRL.MODE g c) = 1 then 3 else 7) < v.toNat / 2 ^ (4 * p) % 16 → s.dev.errFree rq →
      s.Does (.afeChRangeWrite rq g c v) (fun e => s.dev.Discarded e .value (R.AFE_CH_RANGE g c))) ∧
    (∀ (n : Fin 8) v, s.Does (.trimWrite g c n v) (fun e => e.reg (R.AFE_CH_TRIM g c n) = v &&& 0x0FFF0FFF#32 ∧ e.afeCh = s.dev.afeCh ∧
      ((s.dev.grp g).points = [] → e = s.dev.setReg (R.AFE_CH_TRIM g c n) (v &&& 0x0FFF0FFF#32)))) ∧
    (∀ v, s.Does (.afeChCtrlWrite g c v) (fun e => e.f (F.AFE_CH_CTRL.EN g c) = v.toNat / 2 ^ 31 ∧
      e.f (F.AFE_CH_CTRL.POLARITY g c) = v.toNat / 2 ^ 29 % 2 ∧ e.f (F.AFE_CH_CTRL.RESET_WIDTH g c) = v.toNat / 2 ^ 20 % 16 ∧
      (e.ch g c).powered = e.wantsPower g c ∧ ∀ h k, (h, k) ≠ (g.val, c.val) → k < 9 → e.ch h k = s.dev.ch h k)) ∧
    (∀ rq v, v.toNat / 2 ^ 16 % 16 = c.val → s.dev.modeIn [.service] = true → s.dev.f (F.AFE_CH_CTRL.PWR_OK g c) = 1 →
      s.dev.f (F.AFE_CH_CTRL.MODE g c) = 1 → (s.dev.ch g c).tapOf = none → (s.dev.grp g).injecting = false →
      s.Does (.injGo rq g v) (fun e => e.f (F.AFE_GRP_INJ.INJ_CH g) = c ∧ e.f (F.AFE_GRP_INJ.INJ_CODE g) = v.toNat % 4096 ∧
        e.f (F.AFE_GRP_INJ.INJ_BUSY g) = 1 ∧ e.grp g = { s.dev.grp g with injecting := true } ∧
        { s.dev with afeGrp := e.afeGrp }.Only e [whole (R.AFE_GRP_INJ g)])) ∧
    (∀ rq v, s.dev.modeIn [.service] = false ∨ 9 ≤ v.toNat / 2 ^ 16 % 16 ∨ (s.dev.grp g).injecting = true → s.dev.errFree rq →
      s.Does (.injGo rq g v) (fun e => s.dev.Discarded e .locked (R.AFE_GRP_INJ g))) ∧
    (∀ v, v.toNat % 16 = c.val → s.dev.modeIn [.service] = true → (s.dev.ch g c).tapOf = none →
      s.dev.sourceOffered g c (v.toNat / 16 % 16) = true → s.dev.f (F.AFE_GRP_SERVICE.BUSY g) = 0 →
      s.Does (.afeGrpService g v) (fun e => e.f (F.AFE_GRP_SERVICE.BUSY g) = 1 ∧ e.f (F.AFE_GRP_SERVICE.RESULT g) = 0 ∧
        e.f (F.AFE_GRP_SERVICE.SOURCE g) = v.toNat / 16 % 16 ∧ e.f (F.AFE_GRP_SERVICE.CH g) = c ∧ e.source g c = 15 ∧
        e.ch g c = { s.dev.ch g c with service := true, connecting := some (v.toNat / 16 % 16) })) ∧
    (∀ v, s.dev.modeIn [.service] = false → s.Does (.afeGrpService g v) (fun e => e.f (F.AFE_GRP_SERVICE.RESULT g) = 1 ∧
      s.dev.Only e [whole (R.AFE_GRP_SERVICE g)])) ∧
    (∀ rq, s.dev.f (F.AFE_GRP_CAL.METHOD g) = 1 → s.Does (.retireReq rq g c) (fun e => e.f (F.AFE_CH_WEAR.RETIRE_REQ g c) = 1 ∧
      s.dev.Only e [F.AFE_CH_WEAR.RETIRE_REQ g c])) ∧
    (∀ rq, s.dev.f (F.AFE_GRP_CAL.METHOD g) = 0 → s.dev.errFree rq → s.Does (.retireReq rq g c) (fun e =>
      s.dev.Discarded e .locked (R.AFE_CH_WEAR g c))) ∧
    s.Does (.retireCancel g c) (fun e => e.f (F.AFE_CH_WEAR.RETIRE_REQ g c) = 0 ∧ s.dev.Only e [F.AFE_CH_WEAR.RETIRE_REQ g c])

/-- What the front end does by itself (R87, R88, R92, R97, R99, R101). A powered channel that becomes ready is connected to its tap; a
reconnection that settles shows its source; an injection ends not BUSY, with its code where its channel is the service channel. A
check abandoned by a trigger leaves every channel as it was; one that a tap's channel fails, with no spare ready, marks it failed. -/
def Obligations.FrontEndEvents : Prop :=
  ∀ (s : State) (g : Fin 8) (c : Fin 9),
    ((s.dev.ch g c).powered = false ∨ s.dev.f (F.AFE_CH_CTRL.PWR_OK g c) = 1 → s.Ignores (.pwrOk g c)) ∧
    (∀ t, (s.dev.ch g c).powered = true → s.dev.f (F.AFE_CH_CTRL.PWR_OK g c) = 0 → (s.dev.ch g c).tapOf = some t →
      s.Does (.pwrOk g c) (fun e => e.f (F.AFE_CH_CTRL.PWR_OK g c) = 1 ∧ e.source g c = 15 ∧
        e.ch g c = { s.dev.ch g c with lines := 0, connecting := some t })) ∧
    (∀ code, (s.dev.ch g c).connecting = none → s.Ignores (.reconnectionDone g c code)) ∧
    (∀ code t, (s.dev.ch g c).connecting = some t → t < 16 → (s.dev.ch g c).service = false → (s.dev.grp g).live = none →
      s.Does (.reconnectionDone g c code) (fun e => e.source g c = t ∧ e.ch g c = { s.dev.ch g c with connecting := none } ∧
        { s.dev with afeCh := e.afeCh }.Only e [F.AFE_CH_CTRL.SOURCE g c, F.AFE_GRP_SWITCH.SPARE_SOURCE g])) ∧
    ((s.dev.grp g).injecting = false → s.Ignores (.injectionDone g)) ∧
    ((s.dev.grp g).injecting = true → s.Does (.injectionDone g) (fun e => e.f (F.AFE_GRP_INJ.INJ_BUSY g) = 0 ∧ (e.grp g).injecting = false ∧
      (s.dev.f (F.AFE_GRP_SERVICE.CH g) = s.dev.f (F.AFE_GRP_INJ.INJ_CH g) → e.f (F.AFE_GRP_SVC_DATA.CODE g) =
        s.dev.chConvert g (s.dev.f (F.AFE_GRP_INJ.INJ_CH g)) (s.dev.rangeAct g (s.dev.f (F.AFE_GRP_INJ.INJ_CH g)) 0)
          ((s.dev.f (F.AFE_GRP_INJ.INJ_CODE g) : Int) * 1000)))) ∧
    (s.dev.feActive = true → ∀ codes, s.Does (.channelCheck codes true) (fun e => e.gal.done = [] ∧ e.afeCh = s.dev.afeCh)) ∧
    (∀ codes ab, s.dev.feActive = false → s.Ignores (.channelCheck codes ab) ∧ s.Ignores (.standstillCheck codes)) ∧
    (∀ t lo hi, s.dev.feActive = true → (∀ h k, h < 8 → k < 9 → s.dev.isChecked h k = true → h = g.val ∧ k = c.val) →
      s.dev.isChecked g c = true → (s.dev.ch g c).spare = false → (s.dev.ch g c).tapOf = some t → s.dev.spareReady g = none →
      s.dev.chkPasses g c lo hi = false → s.Does (.standstillCheck [⟨g, c, lo, hi⟩]) (fun e =>
        e.f (F.AFE_CH_STATUS.CHK_FAIL g c) = 1 ∧ e.f (F.AFE_CH_STATUS.CHANNEL_FAILED g c) = 1 ∧
        e.ch g c = { s.dev.ch g c with failed := true })) ∧
    (∀ lo hi, s.dev.feActive = true → s.dev.isChecked g c = true → s.dev.chkPasses g c lo hi = true → (s.dev.ch g c).spare = false →
      (∀ h k, h < 8 → k < 9 → s.dev.isChecked h k = true → h = g.val ∧ k = c.val) →
      s.Ignores (.standstillCheck [⟨g, c, lo, hi⟩]))

/-- Squeeze (R198, R199, R201, R203, R204): a cycle lists its points, the reference check first; a point takes its channel off its tap only
in a gap long enough, and else counts a wait; a committed pair moves neither trim by more than SQZ_MAX_DELTA. Rebelay (R205 to R209, R491): IDLE, PREP, COMPARE, SWAP_WAIT and FREED in this order, each step only from its own state; a first mismatch
prepares once more, a second ends the rotation with RB_MISMATCH; the swap hands the tap and the codes in force to the spare and leaves
the freed channel as the spare, or retired where that was asked. -/
def Obligations.LiveCalibration : Prop :=
  (∀ (s : State) (g : Fin 8),
    (s.dev.liveRuns g 0 = false → s.Ignores (.squeezeCycleStart g) ∧ ∀ x b, s.Ignores (.squeezePoint g x b)) ∧
    (s.dev.liveRuns g 0 = true → (s.dev.grp g).points = [] → s.Does (.squeezeCycleStart g) (fun e =>
      e = s.dev.setGrp g { s.dev.grp g with points := s.dev.cyclePoints g, cycling := true, m0 := none } ∧
      ∀ p ps, s.dev.cyclePoints g = p :: ps → ∃ rest, p :: ps = .refZero :: .refRef :: .refGap :: rest)) ∧
    (∀ p ps x b, s.dev.liveRuns g 0 = true → (s.dev.grp g).points = p :: ps → (s.dev.grp g).live = none →
      (s.dev.gapTakes g (s.dev.pointTap g p) = false → s.Does (.squeezePoint g x b) (fun e =>
        e.f (F.AFE_GRP_CAL_STATUS.SQZ_WAIT_CNT g) = min (s.dev.f (F.AFE_GRP_CAL_STATUS.SQZ_WAIT_CNT g) + 1) 65535 ∧
        s.dev.Only e [F.AFE_GRP_CAL_STATUS.SQZ_WAIT_CNT g])) ∧
      (∀ c, c < 9 → s.dev.gapTakes g (s.dev.pointTap g p) = true → s.dev.serving g (s.dev.pointTap g p) = some c →
        s.Does (.squeezePoint g x b) (fun e => e.source g c = 15 ∧ (e.grp g).live = some ⟨c, x, b⟩ ∧
          e.ch g c = { s.dev.ch g c with connecting := some (s.dev.pointTap g p) }))) ∧
    (∀ (c : Fin 9) (n : Fin 8) t m0 x ps code, (s.dev.grp g).points = .gain t n :: ps → (s.dev.grp g).live = some ⟨c, x, false⟩ →
      (s.dev.grp g).m0 = some m0 → (s.dev.ch g c).connecting ≠ none → s.Does (.reconnectionDone g c code) (fun e =>
        ((e.gainTrim g c n : Int) - s.dev.gainTrim g c n).natAbs ≤ max 1 (s.dev.f (F.AFE_GRP_MATCH.SQZ_MAX_DELTA g)) ∧
        ((e.offTrim g c n : Int) - s.dev.offTrim g c n).natAbs ≤ max 1 (s.dev.f (F.AFE_GRP_MATCH.SQZ_MAX_DELTA g)) ∧
        (e.grp g).points = ps ∧ (e.grp g).live = none ∧ (e.grp g).m0 = none))) ∧
  (∀ (s : State) (g : Fin 8),
    (∀ c : Fin 9, s.dev.spareOf g = some c.val →
      (∀ t, s.dev.nextTarget g = some t → s.dev.liveRuns g 1 = true → s.dev.rbState g = 0 → s.dev.powered g c = true →
        s.Does (.rebelayRotationStart g) (fun e => e.rbState g = 1 ∧ (e.grp g).target = t ∧ (e.grp g).mismatches = 0)) ∧
      (∀ ref cal, s.dev.rbState g = 1 → s.dev.mode = .run → s.Does (.rebelayPrepDone g ref cal) (fun e =>
        e.rbState g = if (s.dev.refCheck (min 12 (s.dev.f (F.AFE_GRP_CAL.RB_AVG_LOG g))) ref).2.isSome then 2 else 0)) ∧
      (∀ (k : Fin 9) (t : Nat), (s.dev.grp g).target = t → s.dev.serving g t = some k.val → s.dev.mode = .run →
        (∀ pairs pts, s.dev.rbState g = 2 → s.dev.f (F.AFE_CH_CTRL.MODE g c) = 0 →
          (compareFit (pairs.foldl compareAdd (s.dev.grp g).sums) = none → s.Does (.rebelayCompare g pairs pts) (fun e =>
            e = s.dev.setGrp g { s.dev.grp g with sums := pairs.foldl compareAdd (s.dev.grp g).sums })) ∧
          (∀ a b low, compareFit (pairs.foldl compareAdd (s.dev.grp g).sums) = some (a, b, low) →
            s.Does (.rebelayCompare g pairs pts) (fun e =>
              e.rbState g = (if s.dev.matches g a b then 3 else if (s.dev.grp g).mismatches = 0 then 1 else 0) ∧
              (low = true → e.f (F.AFE_GRP_CAL_STATUS.LOW_SPREAD g) = 1) ∧
              (s.dev.matches g a b = false → (s.dev.grp g).mismatches ≠ 0 →
                e.f (F.AFE_GRP_CAL_STATUS.RB_MISMATCH g) = 1 ∧ e.f (F.AFE_GRP_CAL_STATUS.MISMATCH_TAP g) = t % 16)))) ∧
        (s.dev.rbState g = 3 → c ≠ k → s.Does (.rebelaySwap g) (fun e => (e.ch g c).tapOf = some t ∧ (e.ch g c).spare = false ∧
          e.reg (R.AFE_CH_RANGE_ACT g c) = s.dev.reg (R.AFE_CH_RANGE_ACT g k) ∧ e.f (F.AFE_GRP_CAL_STATUS.ROT_DONE g) = 1 ∧
          (e.ch g k).tapOf = none ∧
          (s.dev.f (F.AFE_CH_WEAR.RETIRE_REQ g k) = 0 → e.rbState g = 4 ∧ (e.ch g k).spare = true ∧ (e.ch g k).retired = (s.dev.ch g k).retired) ∧
          (s.dev.f (F.AFE_CH_WEAR.RETIRE_REQ g k) = 1 → e.rbState g = 0 ∧ (e.ch g k).spare = false ∧ (e.ch g k).retired = true)))) ∧
      (∀ cal, s.dev.rbState g = 4 → s.Does (.freedCalDone g cal) (fun e => e.rbState g = 0 ∧ (e.ch g c).chkOk = true))) ∧
    (s.dev.rbState g ≠ 0 → s.Ignores (.rebelayRotationStart g)) ∧ (s.dev.rbState g ≠ 3 → s.Ignores (.rebelaySwap g)) ∧
    (∀ ref cal pairs pts, (s.dev.rbState g ≠ 1 → s.Ignores (.rebelayPrepDone g ref cal)) ∧
      (s.dev.rbState g ≠ 2 → s.Ignores (.rebelayCompare g pairs pts)) ∧ (s.dev.rbState g ≠ 4 → s.Ignores (.freedCalDone g cal))))

/-- CAL_RUN AFE_FULL (R195, R196) commits everything or nothing: a result other than OK leaves every trim as it was. It reports its result with
DONE; outside CALIBRATE and SERVICE it is refused with 1, without a bar record with 2, during SHADING_FULL with 3; aborted it ends
with 8; with no channel powered it ends OK. -/
def Obligations.AfeFullAllOrNothing : Prop :=
  ∀ (s : State) (src : Src) (x : AfeFullIn),
    s.Does (.afeFull src x) (fun e => e.f F.AFE_FULL_STATUS.DONE = 1 ∧ (e.f F.AFE_FULL_STATUS.RESULT ≠ 0 →
      ∀ (g : Fin 8) (c : Fin 9) (n : Fin 8), e.reg (R.AFE_CH_TRIM g c n) = s.dev.reg (R.AFE_CH_TRIM g c n))) ∧
    (s.dev.modeIn [.calibrate, .service] = false → s.Does (.afeFull src x) (fun e => e.f F.AFE_FULL_STATUS.RESULT = 1)) ∧
    (s.dev.modeIn [.calibrate, .service] = true → (s.dev.bar = none → s.Does (.afeFull src x) (fun e => e.f F.AFE_FULL_STATUS.RESULT = 2)) ∧
      (s.dev.bar ≠ none → (s.dev.shd.cal ≠ none → s.Does (.afeFull src x) (fun e => e.f F.AFE_FULL_STATUS.RESULT = 3)) ∧
        (s.dev.shd.cal = none → x.aborted = true → s.Does (.afeFull src x) (fun e => e.f F.AFE_FULL_STATUS.RESULT = 8)) ∧
        (s.dev.shd.cal = none → x.aborted = false → s.dev.poweredList = [] → s.Does (.afeFull src x) (fun e => ∃ m : Dev,
          m.f F.AFE_FULL_STATUS.RESULT = 0 ∧ m.f F.AFE_FULL_STATUS.DONE = 1 ∧
          s.dev.Only m [F.AFE_FULL_STATUS.RESULT, F.AFE_FULL_STATUS.FAIL_GROUP, F.AFE_FULL_STATUS.FAIL_CHANNEL, F.AFE_FULL_STATUS.FALLBACK,
            F.AFE_FULL_STATUS.DONE, intBit (intBitOf R.AFE_FULL_STATUS)] ∧
          m.Answered e (m.ring src) (plainCpl src 0 0 0)))))

/-! ## Lantern, Gallery and shading (chapters 4, 5 and 6) -/

/-- Triggers (R105, R118, R127, R129). A grid triggers once the FEED position stands at or beyond its next grid point; with its sequencer idle
its sequence starts, with a sequence under way the trigger is queued with OVERRUN, and with two queued it is lost: counted, reported, the
grid moved on all the same. A TIMER or SOFT line takes the next index of its own counter. -/
def Obligations.Triggers : Prop :=
  ∀ (s : State) (b : Bar), s.dev.bar = some b → -(2 ^ 63) ≤ s.dev.hwm + s.dev.pitch → s.dev.hwm + s.dev.pitch < 2 ^ 63 →
    -(2 ^ 63) ≤ s.dev.leadHwm + s.dev.pitchL → s.dev.leadHwm + s.dev.pitchL < 2 ^ 63 →
    (s.dev.gridLive = false ∨ s.dev.feedTicks < s.dev.hwm + s.dev.pitch → s.Ignores .gridTrigger) ∧
    (s.dev.gridLive = false ∨ b.leads = [] ∨ s.dev.feedTicks < s.dev.leadHwm + s.dev.pitchL → s.Ignores .leadTrigger) ∧
    (s.dev.gridLive = true → s.dev.hwm + s.dev.pitch ≤ s.dev.feedTicks →
      (s.dev.ltn.main = none → s.Does .gridTrigger (fun e => e.ltn.main = some ⟨some s.dev.ltn.serial⟩ ∧ e.ltn.serial = s.dev.ltn.serial + 1 ∧
        e.ltn.mainQ = s.dev.ltn.mainQ ∧ ∃ l ∈ e.gal.lines, l.serial = s.dev.ltn.serial ∧ l.lead = false ∧
          l.grid = some (s.dev.hwm + s.dev.pitch) ∧ l.k = divFloor (s.dev.hwm + s.dev.pitch - s.dev.origin) s.dev.pitch)) ∧
      (s.dev.ltn.main ≠ none → s.dev.ltn.mainQ.length < 2 → s.Does .gridTrigger (fun e => e.ltn.main = s.dev.ltn.main ∧
        e.ltn.serial = s.dev.ltn.serial + 1 ∧ e.ltn.mainQ = s.dev.ltn.mainQ ++ [⟨s.dev.ltn.serial,
          divFloor (s.dev.hwm + s.dev.pitch - s.dev.origin) s.dev.pitch, some (s.dev.hwm + s.dev.pitch), s.dev.mode⟩] ∧
        e.f F.LTN_STATUS.OVERRUN = 1)) ∧
      (s.dev.ltn.main ≠ none → 2 ≤ s.dev.ltn.mainQ.length → s.Does .gridTrigger (fun e => e.ltn = s.dev.ltn ∧
        e.hwm = s.dev.hwm + s.dev.pitch ∧ e.f F.LTN_STATUS.GRID_SKIP = 1 ∧
        e.f F.LTN_COUNT.SKIP_CNT = min (s.dev.f F.LTN_COUNT.SKIP_CNT + 1) 65535))) ∧
    (s.dev.gridLive = true → b.leads ≠ [] → s.dev.leadHwm + s.dev.pitchL ≤ s.dev.feedTicks →
      (s.dev.ltn.lead = none → s.Does .leadTrigger (fun e => e.ltn.lead = some ⟨some s.dev.ltn.serial⟩ ∧ e.ltn.serial = s.dev.ltn.serial + 1 ∧
        ∃ l ∈ e.gal.lines, l.serial = s.dev.ltn.serial ∧ l.lead = true ∧ l.grid = some (s.dev.leadHwm + s.dev.pitchL))) ∧
      (s.dev.ltn.lead ≠ none → 2 ≤ s.dev.ltn.leadQ.length → s.Does .leadTrigger (fun e => e.ltn = s.dev.ltn ∧
        e.leadHwm = s.dev.leadHwm + s.dev.pitchL ∧ e.f F.LTN_STATUS.LEAD_SKIP = 1))) ∧
    (s.dev.mode = .service → s.dev.ltn.main = none →
      (s.dev.f F.LTN_GRID_CTRL.TRIG_SRC = 1 → s.Does .timerTrigger (fun e => e.ltn.soft = s.dev.ltn.soft + 1 ∧
        ∃ l ∈ e.gal.lines, l.serial = s.dev.ltn.serial ∧ l.grid = none ∧ l.k = s.dev.ltn.soft)) ∧
      (∀ rq (v : Word), s.dev.rst = none → s.dev.req = none → s.dev.f F.LTN_GRID_CTRL.ARMED = 0 → bitOf v.toNat 31 = false →
        v &&& 0x3300FF00#32 = s.dev.reg R.LTN_GRID_CTRL &&& 0x3300FF00#32 → s.dev.f F.LTN_GRID_CTRL.TRIG_SRC = 2 →
        v.toNat / 2 ^ 28 % 4 ≠ 3 → s.Does (.softTrig rq v) (fun e => e.ltn.soft = s.dev.ltn.soft + 1 ∧
        ∃ l ∈ e.gal.lines, l.serial = s.dev.ltn.serial ∧ l.grid = none ∧ l.k = s.dev.ltn.soft))) ∧
    (s.dev.mode = .run → s.dev.shd.cal = none → s.Ignores .timerTrigger)

/-- Arming and disarming, with a write that keeps PITCH and PLANE_ORDER (R106, R107). An arming that is refused shows its code in ARM_ERR and
leaves ARMED 0; one that succeeds with ARM_MODE = 0 starts the grid at the grid point at or before the FEED position, and Gallery anew.
While armed no other field can be written; clearing ARMED disarms with cause 1 and reports it. -/
def Obligations.Arming : Prop :=
  ∀ (s : State) (rq : Req) (v : Word) (d1 : Dev), s.dev.awake = true → v &&& 0x3000FF00#32 = s.dev.reg R.LTN_GRID_CTRL &&& 0x3000FF00#32 →
    v.toNat / 2 ^ 28 % 4 ≠ 3 → v.toNat / 2 ^ 24 % 4 ≠ 3 → bitOf v.toNat 23 = false →
    (d1 = s.dev.setReg R.LTN_GRID_CTRL (v &&& 0x7F00FF00#32) → s.dev.f F.LTN_GRID_CTRL.ARMED = 0 →
      (d1.armCode ≠ 0 → s.Does (.arm rq v) (fun e => e.f F.LTN_GRID_CTRL.ARMED = 0 ∧ e.f F.LTN_STATUS.ARM_ERR = d1.armCode ∧
        d1.Only e [F.LTN_GRID_CTRL.ARMED, F.LTN_STATUS.ARM_ERR])) ∧
      (d1.armCode = 0 → s.Does (.arm rq v) (fun e => e.f F.LTN_GRID_CTRL.ARMED = 1 ∧ e.gal.fresh = true ∧ e.gal.freshLead = true ∧
        (v.toNat / 2 ^ 30 % 2 = 0 → e.ltn.lastK = none ∧
          e.reg R.LTN_HWM_LO = BitVec.ofNat 32 (unsigned 64 (s.dev.origin + divFloor (s.dev.feedTicks - s.dev.origin) s.dev.pitch * s.dev.pitch)))))) ∧
    (s.dev.f F.LTN_GRID_CTRL.ARMED = 1 → v &&& 0x3F00FF00#32 = s.dev.reg R.LTN_GRID_CTRL &&& 0x3F00FF00#32 →
      s.Does (.disarm rq v) (fun e => e.f F.LTN_GRID_CTRL.ARMED = 0 ∧ e.f F.LTN_STATUS.DISARM_CAUSE = 1 ∧
        e.f F.LTN_STATUS.GRID_DISARMED = 1 ∧ e.shd.track = [])) ∧
    (s.dev.f F.LTN_GRID_CTRL.ARMED = 1 → v &&& 0x0F000000#32 ≠ s.dev.reg R.LTN_GRID_CTRL &&& 0x0F000000#32 → s.dev.errFree rq →
      s.Does (.disarm rq v) (fun e => s.dev.Discarded e .locked R.LTN_GRID_CTRL) ∧
      s.Does (.arm rq v) (fun e => s.dev.Discarded e .locked R.LTN_GRID_CTRL)) ∧
    (∀ n : Fin 16, (s.dev.f F.LTN_GRID_CTRL.ARMED = 1 → s.dev.errFree rq →
        s.Does (.ltnConfigWrite rq .timing v) (fun e => s.dev.Discarded e .locked R.LTN_SEQ_TIMING) ∧
        s.Does (.ltnConfigWrite rq .misc v) (fun e => s.dev.Discarded e .locked R.LTN_SEQ_MISC) ∧
        s.Does (.ltnConfigWrite rq (.channel n) v) (fun e => s.dev.Discarded e .locked (R.LTN_CH_CFG n))) ∧
      (s.dev.f F.LTN_GRID_CTRL.ARMED = 0 →
        s.Does (.ltnConfigWrite rq .timing v) (fun e => e.reg R.LTN_SEQ_TIMING = v &&& 0xFFFFFF00#32 ∧ e.f F.LTN_CAP.V_CAP = 0) ∧
        s.Does (.ltnConfigWrite rq .misc v) (fun e => e.reg R.LTN_SEQ_MISC = v &&& 0xFFFFFF00#32) ∧
        (50 ≤ v.toNat % 2 ^ 15 → v.toNat % 2 ^ 15 ≤ 20000 → v.toNat / 2 ^ 27 % 8 ≠ 5 → v.toNat / 2 ^ 27 % 8 ≠ 6 →
          s.Does (.ltnConfigWrite rq (.channel n) v) (fun e => e.reg (R.LTN_CH_CFG n) = v &&& 0xF8007FFF#32)) ∧
        (s.dev.errFree rq → v.toNat % 2 ^ 15 < 50 ∨ 20000 < v.toNat % 2 ^ 15 →
          s.Does (.ltnConfigWrite rq (.channel n) v) (fun e => s.dev.Discarded e .value (R.LTN_CH_CFG n)))))

/-- Sequences and flushes (R125 to R127). A sequence that ends leaves its sequencer idle, or starts the oldest queued trigger in the same clock;
an idle row is flushed by start pulses alone, without a strobe and without a line set. -/
def Obligations.Sequences : Prop :=
  ∀ (s : State) (b : Bar) (lead : Bool), s.dev.bar = some b →
    ((if lead then s.dev.ltn.lead else s.dev.ltn.main) = none → ∀ pos sigs, s.Ignores (.sequenceEnd lead pos sigs)) ∧
    (∀ r pos sigs, s.dev.ltn.main = some r →
      (s.dev.ltn.mainQ = [] → s.Does (.sequenceEnd false pos sigs) (fun e => e.ltn.main = none ∧ e.ltn.mainHold = false ∧
        (∀ n, r.serial = some n → ∀ l ∈ e.gal.lines, l.serial = n → s.dev.lineOf n ≠ none → l.ended = true))) ∧
      (∀ t q, s.dev.ltn.mainQ = t :: q → s.Does (.sequenceEnd false pos sigs) (fun e => e.ltn.main = some ⟨some t.serial⟩ ∧ e.ltn.mainQ = q))) ∧
    (∀ r pos sigs, s.dev.ltn.lead = some r → s.dev.ltn.leadQ = [] → s.Does (.sequenceEnd true pos sigs) (fun e =>
      e.ltn.lead = none ∧ e.ltn.main = s.dev.ltn.main)) ∧
    (s.dev.mode ∈ [.calibrate, .run, .service] →
      (s.dev.ltn.main = none → s.Does (.flush false) (fun e => e.ltn.main = some ⟨none⟩ ∧ e.gal = s.dev.gal ∧
        e.f F.LTN_STATUS.FLUSHING = 1 ∧ ∃ more, e.out = s.dev.out ++ more ∧ ∀ o ∈ more, ∃ g n, o = Out.startPulse g n)) ∧
      (s.dev.ltn.lead = none → b.leads ≠ [] → s.Does (.flush true) (fun e => e.ltn.lead = some ⟨none⟩ ∧ e.gal = s.dev.gal ∧
        ∃ more, e.out = s.dev.out ++ more ∧ ∀ o ∈ more, ∃ g n, o = Out.startPulse g n))) ∧
    ((if lead then s.dev.ltn.lead else s.dev.ltn.main) ≠ none → s.Ignores (.flush lead))

/-- Gallery's jobs and hand-off (R142, R151, R154 to R157), for the main row. A good job is done; a failed one is counted, reported and taken by
the REPLAY slice, and lost where no slice has that role; its replay joins the line or is lost too. A verification that is due restarts the
count of line sets. A plane line handed off counts, and with its last one a line set leaves Gallery. -/
def Obligations.GalleryJobs : Prop :=
  ∀ (s : State) (p : Fin 4) (seg : Fin 2),
    (∀ fail lead, s.dev.jobLine lead p seg 0 = none → s.Ignores (.segmentJobDone lead p seg fail)) ∧
    (∀ fail lead, s.dev.jobLine lead p seg 2 = none → s.Ignores (.replayDone lead p seg fail)) ∧
    (∀ l, s.dev.bar ≠ none → s.dev.jobLine false p seg 0 = some l →
      s.Does (.segmentJobDone false p seg false) (fun e => e = s.dev.mapPlane l.serial p (fun x => x.setJob seg 1)) ∧
      s.Does (.segmentJobDone false p seg true) (fun e => e.f F.GAL_STATUS.CHECK_FAIL = 1 ∧
        (∀ x ∈ e.gal.lines, x.serial = l.serial → ∀ q ∈ x.planes, q.plane = p.val →
          q.job seg = if (s.dev.sliceOf 2).isSome then 2 else 4) ∧
        e.f F.GAL_COUNT.REPLAY_CNT = if (s.dev.sliceOf 2).isSome then min (s.dev.f F.GAL_COUNT.REPLAY_CNT + 1) 65535
          else s.dev.f F.GAL_COUNT.REPLAY_CNT)) ∧
    (∀ l fail, s.dev.jobLine false p seg 2 = some l → s.Does (.replayDone false p seg fail) (fun e =>
      e = s.dev.mapPlane l.serial p (fun x => x.setJob seg (if fail then 5 else 3)))) ∧
    (∀ m, (s.dev.f F.GAL_CTRL.VERIFY_INTERVAL = 0 ∨ s.dev.gal.verifyCount < s.dev.f F.GAL_CTRL.VERIFY_INTERVAL ∨ s.dev.replaying = true →
        s.Ignores (.verification m)) ∧
      (0 < s.dev.f F.GAL_CTRL.VERIFY_INTERVAL → s.dev.f F.GAL_CTRL.VERIFY_INTERVAL ≤ s.dev.gal.verifyCount → (s.dev.sliceOf 2).isSome = true →
        s.dev.replaying = false → s.Does (.verification m) (fun e =>
          e.gal = { s.dev.gal with verifyCount := 0, verifySeg := 1 - s.dev.gal.verifySeg } ∧
          e.f F.GAL_STATUS.VERIFY_MISMATCH = if m then 1 else s.dev.f F.GAL_STATUS.VERIFY_MISMATCH))) ∧
    (∀ late ecc, s.dev.handReady = none → s.Ignores (.handOff late ecc)) ∧
    (∀ late ecc l pr, s.dev.bar ≠ none → s.dev.handReady = some (l, pr) → s.Does (.handOff late ecc) (fun e =>
      (l.handed + 1 < l.planes.length → ∀ x ∈ e.gal.lines, x.serial = l.serial → x.handed = l.handed + 1) ∧
      (l.planes.length ≤ l.handed + 1 → ∀ x ∈ e.gal.lines, x.serial ≠ l.serial))) ∧
    (∀ lead, s.Does (.reconWait lead) (fun e => e = { s.dev with gal := e.gal } ∧ e.gal.lines.length = s.dev.gal.lines.length ∧
      ∀ l ∈ s.dev.gal.lines, l.lead = lead → (∀ x ∈ s.dev.gal.lines, x.lead = lead → x.k ≠ l.k + 1) →
        (∀ t ∈ (if lead then s.dev.ltn.leadQ else s.dev.ltn.mainQ), t.k ≠ l.k + 1) → { l with fallback := true } ∈ e.gal.lines)) ∧
    (∀ late ecc lead, s.dev.reconLine lead = none → s.Ignores (.reconstructionDone lead late ecc)) ∧
    (∀ late ecc l, s.dev.bar ≠ none → s.dev.reconLine false = some l → s.dev.lineAfter l = none →
      (l.fallback = false → s.Ignores (.reconstructionDone false late ecc)) ∧
      (l.fallback = true → (∀ x ∈ s.dev.gal.lines, x.serial = l.serial → x.checked = false) →
        s.Does (.reconstructionDone false late ecc) (fun e =>
          e = s.dev.mapLine l.serial (fun x => { x with after := [], reconDone := true }))))

/-- Shading sets, tracking and multipliers (R166 to R170, R178 to R181). SWAP_REQ and SWAP_CANCEL set and clear the request; while disarmed, with
Gallery empty, a request whose shadow is valid and fits the codes in force swaps the sets. A tracked module's M moves by at most
TRACK_STEP towards its target and stays in 12,288 to 24,576; the host writes M only with TRACK_EN = 0. CAL_RUN SHADING_FULL (R171, R172, R175). Refused outside CALIBRATE with 1, without a bar record with 2, during another one or a shading load
with 3; started with TILE_MOVE = 1 it holds its cells and waits for SHUTTER. A commit waits until no line uses the shadow; then the
procedure ends OK, with DEST = 0 the new set is active and every M is 16,384. -/
def Obligations.ShadingLoadsAndLines : Prop :=
  (∀ s : State,
    (s.dev.awake = true → s.Does .swapReq (fun e => e = s.dev.setF F.SHD_CTRL.SWAP_REQ 1) ∧
      s.Does .swapCancel (fun e => e = s.dev.setF F.SHD_CTRL.SWAP_REQ 0)) ∧
    (s.dev.armed = true ∨ s.dev.gal.lines ≠ [] → s.Ignores .disarmedSwap) ∧
    (s.dev.armed = false → s.dev.gal.lines = [] → s.dev.setValid s.dev.shadowSet = true → s.dev.tagMatches s.dev.shadowSet = true →
      s.dev.f F.SHD_CTRL.SWAP_REQ = 1 → s.Does .disarmedSwap (fun e => e.f F.SHD_CTRL.ACTIVE_SET = s.dev.shadowSet ∧
        e.f F.SHD_CTRL.SWAP_REQ = 0 ∧ e.f F.SHD_STATUS.SWAPPED = 1 ∧ e.shd.track = [] ∧ e.ram = s.dev.ram)) ∧
    (∀ (m : Fin 64) (p : Fin 4), (s.dev.trackOf m p = none → s.Ignores (.trackUpdate m p)) ∧
      ∀ t, s.dev.trackOf m p = some t → (t.n < 2 ^ s.dev.trackLog → s.Ignores (.trackUpdate m p)) ∧
        (2 ^ s.dev.trackLog ≤ t.n → s.dev.f (F.SHD_TRACK_SRC.MODE m) = 0 → s.Does (.trackUpdate m p) (fun e =>
          12288 ≤ spGet (fun _ => 0) e.shd.mNext (gainKey m p) ∧ spGet (fun _ => 0) e.shd.mNext (gainKey m p) ≤ 24576 ∧
          (12288 ≤ t.m → t.m ≤ 24576 →
            (((spGet (fun _ => 0) e.shd.mNext (gainKey m p) : Nat) : Int) - t.m).natAbs ≤ max 1 (s.dev.f F.SHD_CTRL.TRACK_STEP)) ∧
          e.trackOf m p = none))) ∧
    (∀ rq (m : Fin 64) (p : Fin 4) (v : Word), s.dev.awake = true →
      (s.dev.f F.SHD_CTRL.TRACK_EN = 1 → s.dev.errFree rq → s.Does (.mWrite rq m p v) (fun e =>
        s.dev.Discarded e .locked (R.SHD_MOD_GAIN m p))) ∧
      (s.dev.f F.SHD_CTRL.TRACK_EN = 0 → s.Does (.mWrite rq m p v) (fun e => e.mulReg m p = v.toNat % 65536 ∧
        e.trackOf m p = none ∧ { s.dev with shd := e.shd }.Only e [F.SHD_MOD_GAIN.M m p])))) ∧
  (∀ s : State,
    (∀ src, (s.dev.modeIn [.calibrate] = false → s.Ends (.shadingFull src) src (plainCpl src 3 1 0) s.dev) ∧
      (s.dev.modeIn [.calibrate] = true → (s.dev.bar = none → s.Ends (.shadingFull src) src (plainCpl src 3 2 0) s.dev) ∧
        (∀ b, s.dev.bar = some b →
          (s.dev.shd.cal ≠ none ∨ s.dev.f F.SHD_CTRL.LOAD_BUSY = 1 → s.Ends (.shadingFull src) src (plainCpl src 3 3 0) s.dev) ∧
          (s.dev.shd.cal = none → s.dev.f F.SHD_CTRL.LOAD_BUSY = 0 → s.dev.f F.SHD_CAL_CFG.TILE_MOVE = 1 →
            s.dev.f (F.AXS_REF_STATUS.REFERENCED 5) = 1 →
            s.dev.calGrants (ceilDiv (10 * sumN (b.mods.map (·.photosites)) * b.planeList.length) 4096) = true →
            s.Does (.shadingFull src) (fun e => e.f F.SHD_CTRL.CAL_BUSY = 1 ∧ e.shd.shutter = some true ∧
              e.running = s.dev.running ++ [⟨s.dev.nextRun, src, .shadingFull⟩] ∧ e.nextRun = s.dev.nextRun + 1 ∧
              e.sump.cal = ceilDiv (10 * sumN (b.mods.map (·.photosites)) * b.planeList.length) 4096 ∧
              ∃ c, e.shd.cal = some c ∧ c.phase = 0 ∧ c.run = s.dev.nextRun ∧ c.result = 0))))) ∧
    (s.dev.shd.cal = none → s.Ignores .shadingCommit) ∧
    (∀ c b, s.dev.shd.cal = some c → s.dev.bar = some b →
      (c.phase ≠ 4 ∨ s.dev.holdsSet s.dev.shadowSet = true → s.Ignores .shadingCommit) ∧
      (c.phase = 4 → s.dev.holdsSet s.dev.shadowSet = false → s.Does .shadingCommit (fun e =>
        e.f F.SHD_CAL_STATUS.RESULT = 0 ∧ e.f F.SHD_CAL_STATUS.DONE = 1 ∧ e.f F.SHD_CTRL.CAL_BUSY = 0 ∧ e.shd.cal = none ∧
        e.f F.SHD_CAL_DEFECTS.NEW_DEFECTS = c.defects % 2 ^ 20 ∧ e.setValid s.dev.shadowSet = true ∧
        (bitOf c.cfg 30 = false → e.activeSet = s.dev.shadowSet ∧ ∀ (m : Fin 64) (p : Fin 4), e.mulReg m p = 16384)))))

/-! ## Survey, Strata and Flowstone (chapters 8 and 9), Sump's ECC (chapters 12 and 20) -/

/-- SURVEY_MEASUREMENT (R213, R214, R222, R224, R225, R230): the oldest measurement that waits is made, and the history keeps nothing for it. Every
window shows its own status: 1 where it is not enabled, 2 where arming refused it, and a valid one (0) has a confidence of at least
CONF_MIN and an error of at most ERR_MAX. The record stands at slot SEQ mod 256, and with no valid window is NO_VALID_WINDOW. -/
def Obligations.SurveyMeasured : Prop :=
  ∀ s : State, (s.dev.sur.jobs = [] → s.Ignores .surveyMeasurement) ∧
    ∀ j t, s.dev.sur.jobs = j :: t → s.dev.sur.seq < 65536 → s.Does .surveyMeasurement (fun e =>
      e.sur.jobs = t ∧ e.sur.seq = (s.dev.sur.seq + 1) % 65536 ∧ e.f F.SUR_STATUS.SEQ = s.dev.sur.seq ∧ (∀ m ∈ e.sur.meas, m.k ≠ j.k) ∧
      (∀ w : Fin 16, (s.dev.f (F.SUR_WIN_CFG.EN w) = 0 → e.f (F.SUR_WIN_RES.STATUS w) = 1) ∧
        (s.dev.f (F.SUR_WIN_CFG.EN w) = 1 → w.val ∉ s.dev.sur.passed → e.f (F.SUR_WIN_RES.STATUS w) = 2) ∧
        (e.f (F.SUR_WIN_RES.STATUS w) = 0 → s.dev.f F.SUR_CTRL.CONF_MIN ≤ e.f (F.SUR_WIN_RES.CONF w) ∧
          (e.fi (F.SUR_WIN_RES.ERROR w)).natAbs ≤ s.dev.f F.SUR_LIMITS.ERR_MAX)) ∧
      ((∀ w : Fin 16, e.f (F.SUR_WIN_RES.STATUS w) ≠ 0) →
        e.mem (winSurvey + 64 * (s.dev.sur.seq % 256)) 4 = s.dev.sur.seq * 2 ^ 16 + 1 * 2 ^ 8))

/-- BOUNDARY_POST (R237, R238): refused in the order of Table 11.9's codes, counted in REFUSED_CNT; accepted, its expected line index is fixed
and answered, POS becomes the order check's, and it waits in the queue or, more than 63 lines late, ends TOO_LATE at once. STRATA_MEASUREMENT and STR_CTRL (R239, R240, R242, R243, R254). The oldest boundary waits until line k_b + K has been reduced; its record then
stands at slot SEQ mod 256 with the measurement's status, which is OK only with at least MIN_PAIRS pairs, a spread within SPREAD_MAX and an
offset within BSEARCH, and otherwise carries no error. While armed a write changes MIN_PAIRS alone; clearing STR_EN empties the queue. -/
def Obligations.StrataBoundaries : Prop :=
  (∀ (s : State) (src : Src) (set : Fin 8) (sw adv : Word) (pos : Int) (mask : Word × Word),
    (s.dev.modeIn [.run] = false → s.Ends (.boundaryPost src set sw adv pos mask) src (plainCpl src 3 1 0)
      (s.dev.count F.STR_COUNT.REFUSED_CNT 1)) ∧
    (s.dev.modeIn [.run] = true → s.dev.f F.STR_CTRL.STR_EN = 0 → s.Ends (.boundaryPost src set sw adv pos mask) src (plainCpl src 3 2 0)
      (s.dev.count F.STR_COUNT.REFUSED_CNT 1)) ∧
    (s.dev.modeIn [.run] = true → s.dev.f F.STR_CTRL.STR_EN = 1 →
      (∀ p, s.dev.str.lastPos = some p → pos ≤ p → s.Ends (.boundaryPost src set sw adv pos mask) src (plainCpl src 3 3 0)
        (s.dev.count F.STR_COUNT.REFUSED_CNT 1)) ∧
      ((∀ p, s.dev.str.lastPos = some p → p < pos) →
        (256 ≤ s.dev.str.queue.length → s.Ends (.boundaryPost src set sw adv pos mask) src (plainCpl src 3 4 0)
          (s.dev.count F.STR_COUNT.REFUSED_CNT 1)) ∧
        (s.dev.str.queue.length < 256 →
          (divFloor (s.dev.hwm - s.dev.origin) s.dev.pitch - (s.dev.boundaryLine pos - s.dev.strK) ≤ 63 →
            s.Does (.boundaryPost src set sw adv pos mask) (fun e => ∃ m : Dev,
              m.str = { s.dev.str with lastPos := some pos, queue := s.dev.str.queue ++
                [⟨sw.toNat, pos, adv.toNat, set.val, mask.1.toNat + mask.2.toNat * 2 ^ 32, s.dev.boundaryLine pos⟩] } ∧
              m.f F.STR_STATUS.QUEUED = s.dev.str.queue.length + 1 ∧ { s.dev with str := m.str }.Only m [F.STR_STATUS.QUEUED] ∧
              (if src.quiet then e = m else m.Answered e (m.ring src) { plainCpl src 0 0 0 with
                words := [src.cid.val * 2 ^ 16 + src.sq.val * 2 ^ 10, 0, unsigned 64 (s.dev.boundaryLine pos) % 2 ^ 32,
                  unsigned 64 (s.dev.boundaryLine pos) / 2 ^ 32, 0, 0, 0] }))) ∧
          (63 < divFloor (s.dev.hwm - s.dev.origin) s.dev.pitch - (s.dev.boundaryLine pos - s.dev.strK) →
            s.Does (.boundaryPost src set sw adv pos mask) (fun e => e.str.queue = s.dev.str.queue ∧ e.str.lastPos = some pos ∧
              e.mem (winStrata + 64 * (s.dev.str.seq % 256)) 4 = (s.dev.str.seq * 2 ^ 16 + 1 * 2 ^ 8 + s.dev.node) % 2 ^ 32)))))) ∧
  (∀ s : State,
    (s.dev.str.queue = [] ∨ s.dev.bar = none ∨ s.dev.str.reached = none → s.Ignores .strataMeasurement) ∧
    (∀ q t b k, s.dev.str.queue = q :: t → s.dev.bar = some b → s.dev.str.reached = some k →
      (k < q.kb + s.dev.strK → s.Ignores .strataMeasurement) ∧
      (q.kb + s.dev.strK ≤ k → s.Does .strataMeasurement (fun e => e.str.queue = t ∧ e.str.seq = (s.dev.str.seq + 1) % 65536 ∧
        ∃ r : StrRes, r = (s.dev.strMeasure b q).1 ∧
          e.mem (winStrata + 64 * (s.dev.str.seq % 256)) 4 = (s.dev.str.seq * 2 ^ 16 + r.status * 2 ^ 8 + s.dev.node) % 2 ^ 32 ∧
          (r.status = 0 → max 1 (s.dev.f F.STR_CTRL.MIN_PAIRS) ≤ r.n ∧ r.spread ≤ s.dev.f F.STR_LIMITS2.SPREAD_MAX ∧
            r.off.natAbs ≤ s.dev.strSearch) ∧
          (r.status ≠ 0 → r.es = 0 ∧ r.off = 0 ∧ r.spread = 0)))) ∧
    (∀ rq v, s.dev.awake = true →
      (s.dev.armed = true → s.Does (.strCtrlWrite rq v) (fun e =>
        e.reg R.STR_CTRL = (s.dev.reg R.STR_CTRL &&& 0xFFF80000#32) ||| (v &&& 0xFF00#32) ∧ e.str = s.dev.str ∧
        (v &&& 0xFFF80000#32 ≠ s.dev.reg R.STR_CTRL &&& 0xFFF80000#32 → s.dev.errFree rq →
          e.f F.TOP_ERR_STATUS.ACCESS_ERR = 1 ∧ e.f F.TOP_ERR_STATUS.KIND = 3 ∧ e.f F.TOP_ERR_ADDR.OFFSET = R.STR_CTRL))) ∧
      (s.dev.armed = false → bitOf v.toNat 31 = true ∨ s.dev.f F.STR_CTRL.STR_EN = 0 → s.Does (.strCtrlWrite rq v) (fun e =>
        e = s.dev.setReg R.STR_CTRL (v &&& 0xFFF8FF00#32))) ∧
      (s.dev.armed = false → bitOf v.toNat 31 = false → s.dev.f F.STR_CTRL.STR_EN = 1 → s.Does (.strCtrlWrite rq v) (fun e =>
        e.reg R.STR_CTRL = v &&& 0xFFF8FF00#32 ∧ e.str.queue = [] ∧ e.str.lastPos = none ∧ e.str.means = [] ∧
        e.f F.STR_STATUS.QUEUE_DISCARDED = 1 ∧ e.str.seq % 65536 = (s.dev.str.seq + s.dev.str.queue.length) % 65536))))

/-- Flowstone (R248, R251, R253). The oldest waiting entry becomes visible wholly: every bin of its span leaks and learns by the law of R248, no
other bin changes, and ENTER_CNT counts it. The host writes a bin only with LEARN_EN = 0, seen from the next servo period on. -/
def Obligations.FlowstoneLearns : Prop :=
  ∀ s : State, (s.dev.flw.queue = [] → s.Ignores .flowstoneEntry) ∧
    (∀ x t, s.dev.flw.queue = x :: t → s.Does .flowstoneEntry (fun e =>
      e.flw = { s.dev.flw with queue := t } ∧
      e.f F.FLW_COUNT.ENTER_CNT = min (s.dev.f F.FLW_COUNT.ENTER_CNT + 1) 65535 ∧
      { s.dev with flw := e.flw, ram := e.ram }.Only e [F.FLW_STATUS.QUEUED, F.FLW_STATUS.BIN_SAT, F.FLW_COUNT.ENTER_CNT, intBit (intBitOf R.FLW_STATUS)] ∧
      (∀ a, a < winFlow ∨ winFlow + 4096 ≤ a → e.byte a = s.dev.byte a) ∧
      ∀ (i : Fin 1024) (f : List Int) (q iq b : Int), s.dev.integral x.c0 x.c1 = (f, q, iq) →
        b = s.dev.bin i - divFloor (s.dev.bin i * s.dev.f F.FLW_LEAK.LEAK + 32768) 65536 →
        e.bin i = if f.getD i 0 ≤ 0 then s.dev.bin i else
          clampI (b + divFloor (2 * x.gain * (x.e * 65536 - iq) * f.getD i 0 + q) (2 * q)) (-2147483648) 2147483647)) ∧
    (∀ rq (i : Fin 1024) v, s.dev.awake = true →
      (s.dev.f F.FLW_CTRL.LEARN_EN = 1 → s.dev.errFree rq → s.Does (.flowstoneBinWrite rq i v) (fun e =>
        s.dev.Discarded e .locked (winFlow + 4 * i))) ∧
      (s.dev.f F.FLW_CTRL.LEARN_EN = 0 → s.Does (.flowstoneBinWrite rq i v) (fun e =>
        e = { s.dev with flw := { s.dev.flw with writes := s.dev.flw.writes ++ [(i.val, v.toNat)] } })))

/-- ECC of Sump and of the SRAM macros (R304, R305, R488). Corrected errors are counted, and a bank whose count reaches ECC_LIMIT begins to move to
the spare, or shows ECC_NO_SPARE where the spare is taken; the migration done, the spare serves and MIGRATED is set. A row whose count
reaches ROW_LIMIT is repaired while its macro has one of 4 spare rows left, and else shows ROW_NO_SPARE. An uncorrectable error of a waiting
record drops that record, counted; one of a raw sample or a history cell marks what it held; each is counted in UE_CNT. -/
def Obligations.EccRepairs : Prop :=
  ∀ s : State, s.dev.alive = true →
    (∀ (b : Fin 16) (n old new : Nat), old = s.dev.f (F.SMP_BANK.CE_TOTAL b) → new = min (old + n) (F.SMP_BANK.CE_TOTAL b).max →
      s.Does (.bankMigration b n) (fun e => e.f (F.SMP_BANK.CE_TOTAL b) = new ∧
        (∀ lim, lim = s.dev.f F.SMP_ECC_CFG.ECC_LIMIT →
          (lim = 0 ∨ lim ≤ old ∨ new < lim → s.dev.Only e [F.SMP_BANK.CE_TOTAL b]) ∧
          (0 < lim → old < lim → lim ≤ new → s.dev.sump.spareUsed = false → s.dev.sump.migrating = none →
            e.sump = { s.dev.sump with migrating := some b.val } ∧ { s.dev with sump := e.sump }.Only e [F.SMP_BANK.CE_TOTAL b]) ∧
          (0 < lim → old < lim → lim ≤ new → s.dev.sump.spareUsed = true →
            e.f F.SMP_POOL_STATUS.ECC_NO_SPARE = 1 ∧ e.f (intBit 10) = 1 ∧
            s.dev.Only e [F.SMP_BANK.CE_TOTAL b, F.SMP_POOL_STATUS.ECC_NO_SPARE, intBit 10])))) ∧
    (s.dev.sump.migrating = none → s.Ignores .migrationDone) ∧
    (∀ b, s.dev.sump.migrating = some b → s.Does .migrationDone (fun e =>
      e.sump = { s.dev.sump with bank := s.dev.sump.bank.set b 16, spareUsed := true, migrating := none } ∧
      e.f F.SMP_POOL_STATUS.MIGRATED = 1 ∧
      (s.dev.ledger.length + s.dev.ledgerQ.length < 128 → s.dev.ledgerQ.length < 16 → e.ledgerQ = s.dev.ledgerQ ++
        [ledgerBytes ⟨5, b, s.dev.sump.bank.getD b 0, 16, 4⟩ (s.dev.f F.PWR_RESET_CAUSE.BOOT_CNT)]))) ∧
    (∀ (m : Fin 256) (row : Fin 65536) (n : Nat), s.Does (.rowRepair m row n) (fun e =>
      e.rowCount m row = s.dev.rowCount m row + n ∧
      (∀ lim, lim = s.dev.f F.TOP_SRAM_STATUS.ROW_LIMIT →
        (lim = 0 ∨ lim ≤ s.dev.rowCount m row ∨ s.dev.rowCount m row + n < lim → e = { s.dev with rowErrs := e.rowErrs }) ∧
        (0 < lim → s.dev.rowCount m row < lim → lim ≤ s.dev.rowCount m row + n →
          e.f F.TOP_SRAM_STATUS.LAST_MACRO = m ∧
          ((s.dev.rows.filter (fun r => r.1 = m.val)).length < 4 → e.rows = s.dev.rows ++ [(m.val, row.val)] ∧
            e.f F.TOP_SRAM_STATUS.ROW_REPAIRED = 1 ∧ e.f F.TOP_SRAM_STATUS.ROWS_USED = min 255 (s.dev.rows.length + 1)) ∧
          (4 ≤ (s.dev.rows.filter (fun r => r.1 = m.val)).length → e.rows = s.dev.rows ∧ e.f F.TOP_SRAM_STATUS.ROW_NO_SPARE = 1))))) ∧
    (∀ c, s.dev.ueHeld c = false → s.Ignores (.uncorrectableError c)) ∧
    (∀ (n : Fin 4096) (i : Nat) r, (s.dev.ctx n).waiting[i]? = some r → s.Does (.uncorrectableError (.record n i)) (fun e =>
      e.f F.SMP_COUNT.UE_CNT = min (s.dev.f F.SMP_COUNT.UE_CNT + 1) F.SMP_COUNT.UE_CNT.max ∧
      (e.ctx n).dropCnt = min ((s.dev.ctx n).dropCnt + 1) 0xFFFFFFFF ∧ (∀ m, m ≠ n.val → e.ctx m = s.dev.ctx m) ∧
      (e.ctx n).waiting.length + 1 = (s.dev.ctx n).waiting.length)) ∧
    (∀ i px h, s.dev.gal.hist[i]? = some h → s.Does (.uncorrectableError (.history i px)) (fun e =>
      e.f F.SMP_COUNT.UE_CNT = min (s.dev.f F.SMP_COUNT.UE_CNT + 1) F.SMP_COUNT.UE_CNT.max ∧
      e.gal = { s.dev.gal with hist := s.dev.gal.hist.set i { h with px := h.px.set px (some ⟨0, 7, false, false⟩) } } ∧
      { s.dev with gal := e.gal }.Only e [F.SMP_COUNT.UE_CNT]))

/-! ## Haul and table loads (chapter 13) -/

/-- Program starts and ends from outside (R321, R322, R341). A push enters its channel's queue, or is an access error with 4 queued. The engine, when
it runs nothing, starts the oldest program of the ready channel of highest PRIO, then of lowest number. A fetch that meets an error
completion ends the program with BUS_ERROR and its cause and leaves the channel HALTED, out of the choice until CLEAR. Haul's control instructions (R329, R333, R336 to R338): LOOP runs its body REPEAT + 1 times over a stack of 4, WAIT consumes what it waited for
or waits on, until WAIT_TIMEOUT where TIMEOUT is not 0, SIGNAL pulses its line, NEXT empties the stack and jumps, END reads itself again
and, unless it has become a NEXT, ends the program. Each counts 1 and touches nothing else. -/
def Obligations.HaulInstructions : Prop :=
  (∀ (s : State) (ch : Fin 8), s.dev.awake = true →
    (∀ rq hi, ((s.dev.hch ch).queue.length < 4 → s.Does (.haulStart rq ch hi) (fun e => e = s.dev.setHch ch { s.dev.hch ch with
        queue := (s.dev.hch ch).queue ++ [⟨(s.dev.reg (R.HAU_CH_START_LO ch)).toNat + hi.toNat * 2 ^ 32, none⟩] })) ∧
      (4 ≤ (s.dev.hch ch).queue.length → s.dev.errFree rq → s.Does (.haulStart rq ch hi) (fun e =>
        s.dev.Discarded e .locked (R.HAU_CH_START_HI ch)))) ∧
    (s.dev.haul.run ≠ none ∨ s.dev.haul.loads = [] ∧ (∀ k < 8, (s.dev.hch k).halted = true ∨ (s.dev.hch k).queue = []) →
      s.Ignores .haulProgramStart) ∧
    (∀ p t, s.dev.haul.run = none → s.dev.haul.loads = [] → (s.dev.hch ch).halted = false → (s.dev.hch ch).queue = p :: t →
      (∀ k < 8, (s.dev.hch k).halted = true ∨ (s.dev.hch k).queue = [] ∨ s.dev.f (F.HAU_CH_CFG.PRIO k) < s.dev.f (F.HAU_CH_CFG.PRIO ch) ∨
        (s.dev.f (F.HAU_CH_CFG.PRIO k) = s.dev.f (F.HAU_CH_CFG.PRIO ch) ∧ ch.val ≤ k)) →
      s.Does .haulProgramStart (fun e => (e.hch ch).queue = t ∧ (∀ k, k ≠ ch.val → e.hch k = s.dev.hch k) ∧
        e.f (F.HAU_CH_STATUS.LOAD_RIGHTS ch) = b2n p.load.isSome ∧ { s.dev with haul := e.haul }.Only e [F.HAU_CH_STATUS.LOAD_RIGHTS ch] ∧
        ∃ r, e.haul.run = some r ∧ r.ch = ch.val ∧ r.pc = p.addr / 16 * 16 % 2 ^ 64 ∧ r.load = p.load ∧ r.stack = [] ∧ r.executed = 0 ∧
          r.events = [] ∧ r.reqs = [] ∧ r.xfer = none ∧ r.waiting = false)) ∧
    (∀ (c : Fin 4) ins idx a b r, s.dev.haul.run = some r → r.load = none → r.xfer = none → pcDev r.pc = false →
      s.Does (.busError c true ins idx a b) (fun e => e.ProgramEnded r 3 r.executed ∧ e.f (F.HAU_CH_STATUS.CAUSE r.ch) = c + 1 ∧
        (e.hch r.ch).halted = true ∧ (e.hch r.ch).queue = (s.dev.hch r.ch).queue)) ∧
    (∀ (c : Fin 4) fetch ins idx a b, s.dev.haul.run = none → s.Ignores (.busError c fetch ins idx a b)) ∧
    s.Does (.haulClear ch) (fun e => e = s.dev.setHch ch { s.dev.hch ch with halted := false })) ∧
  ((∀ (s : State) r ins ws, s.dev.Runs r ins ws →
    (insOp ws = 5 → ∀ target, target = insAddr ws 2 + 16 * b2n (pcDev r.pc) →
      (∀ x t, r.stack = x :: t → x.addr = r.pc → s.Does (.haulLoop ins) (fun e => s.dev.HaulAt e
        (if x.left = 0 then { r.on (r.pc + 32) with stack := t }
         else { r.on target with stack := { x with left := x.left - 1, passes := x.passes + 1 } :: t }))) ∧
      ((∀ x ∈ r.stack, x.addr ≠ r.pc) →
        (insWord ws 0 / 65536 = 0 → s.Does (.haulLoop ins) (fun e => s.dev.HaulAt e (r.on (r.pc + 32)))) ∧
        (0 < insWord ws 0 / 65536 → r.stack.length < 4 → s.Does (.haulLoop ins) (fun e => s.dev.HaulAt e
          { r.on target with stack := ⟨r.pc, insWord ws 0 / 65536 - 1, 1⟩ :: r.stack })) ∧
        (0 < insWord ws 0 / 65536 → 4 ≤ r.stack.length → s.Does (.haulLoop ins) (fun e => e.ProgramEnded r 7 r.executed)))) ∧
    (insOp ws = 6 →
      (s.dev.waitMet r ws = true → s.Ignores (.haulWaitTimeout ins) ∧ s.Does (.haulWait ins) (fun e => s.dev.HaulAt e
        (if bitOf (insWord ws 0) 4 then { r.on (r.pc + 32) with events := r.events.filter (fun l => l ≠ insLine ws) }
         else (r.on (r.pc + 32)).consume (insLine ws)))) ∧
      (s.dev.waitMet r ws = false → s.Does (.haulWait ins) (fun e => s.dev.HaulAt e { r with waiting := true }) ∧
        (r.waiting = false ∨ insWord ws 0 / 65536 = 0 → s.Ignores (.haulWaitTimeout ins)) ∧
        (r.waiting = true → 0 < insWord ws 0 / 65536 → s.Does (.haulWaitTimeout ins) (fun e => e.ProgramEnded r 9 (r.executed + 1))))) ∧
    (insOp ws = 7 → s.Does (.haulSignal ins) (fun e => insLine ws ≤ 11 ∧
      e.haul = { s.dev.haul with run := some { r.on (r.pc + 32) with
        events := if r.events.contains (insLine ws) then r.events else insLine ws :: r.events } } ∧
      (insLine ws = 0 → e.f F.SHD_CTRL.SWAP_REQ = 1) ∧ (insLine ws = 1 → e.str = { s.dev.str with held := some s.dev.regs }) ∧
      (insLine ws = 2 → e.str = { s.dev.str with held := none }))) ∧
    (insOp ws = 8 → s.Does (.haulNext ins) (fun e => s.dev.HaulAt e { r.on (insAddr ws 0 / 16 * 16) with stack := [] })) ∧
    (insOp ws = 9 → s.Does (.haulEnd ins) (fun e => s.dev.HaulAt e { r.on r.pc with pc := r.pc, ended := true })) ∧
    (9 < insOp ws → s.Does (.haulFill ins) (fun e => e.ProgramEnded r 5 r.executed)) ∧
    (insOp ws ≠ 5 → insOp ws ≤ 9 → 0 < insOp ws → s.Ignores (.haulLoop ins))) ∧
  ∀ (s : State) r (w : Word × Word), s.dev.haul.run = some r → s.dev.awake = true →
    (r.ended = false → s.Ignores (.haulEndReread w)) ∧
    (r.ended = true → pcDev r.pc = false → s.dev.canIssue = true →
      (w.1.toNat % 16 = 8 → r.executed + 1 < s.dev.haulBudget r.ch → s.Does (.haulEndReread w) (fun e => s.dev.HaulAt e
        { r.on ((w.1.toNat + w.2.toNat * 2 ^ 32) / 16 * 16) with stack := [], ended := false })) ∧
      (w.1.toNat % 16 ≠ 8 → s.Does (.haulEndReread w) (fun e => e.ProgramEnded r 1 r.executed))))

/-- Haul's transfers outside a loop (R328, R330 to R332, R335). FILL, MOVE and MOVEX leave in host memory exactly the bytes of their destination, from
the source's bytes in order, whatever the bursts; CMP counts the bytes that differ, keeps the first one's address, and with STOP ends
the program MISMATCH. A length of 0 moves nothing. With REQ_EN a transfer waits, and each request gives it one burst. -/
def Obligations.HaulTransfers : Prop :=
  (∀ (s : State) r ins ws data, s.dev.Runs r ins ws → r.stack = [] →
    (insWord ws 1 = 0 →
      (insOp ws = 1 → s.Does (.haulMove ins data) (fun e => s.dev.HaulAt e (r.on (r.pc + 32)))) ∧
      (insOp ws = 3 → s.Does (.haulFill ins) (fun e => s.dev.HaulAt e (r.on (r.pc + 32)))) ∧
      (insOp ws = 4 → ∀ b, s.Does (.haulCmp ins data b) (fun e => s.dev.HaulAt e (r.on (r.pc + 32))))) ∧
    (s.dev.haulMayMove ws = true → 0 < insWord ws 1 →
      (insReqEn ws = false → insDstDev ws = false →
        (insAddr ws 4 + insWord ws 1 ≤ 2 ^ 64 →
          (insOp ws = 3 → s.Does (.haulFill ins) (fun e => e.haul = { s.dev.haul with run := some (r.on (r.pc + 32)) } ∧
            ∀ a, writtenAt (e.out.drop s.dev.out.length) a = if insAddr ws 4 ≤ a ∧ a < insAddr ws 4 + insWord ws 1 then
              some (BitVec.ofNat 8 (insAddr ws 2 / 256 ^ (a % 8))) else none)) ∧
          (insOp ws = 1 → insSrcDev ws = false → s.Does (.haulMove ins data) (fun e =>
            e.haul = { s.dev.haul with run := some (r.on (r.pc + 32)) } ∧
            ∀ a, writtenAt (e.out.drop s.dev.out.length) a = if insAddr ws 4 ≤ a ∧ a < insAddr ws 4 + insWord ws 1 then
              some (data.getD (a - insAddr ws 4) 0) else none)) ∧
          (insOp ws = 1 → insSrcDev ws = true → winHaul ≤ insAddr ws 2 → insAddr ws 2 + insWord ws 1 ≤ winHaul + 0x4000 →
            s.Does (.haulMove ins data) (fun e => e.haul = { s.dev.haul with run := some (r.on (r.pc + 32)) } ∧
            ∀ a, writtenAt (e.out.drop s.dev.out.length) a = if insAddr ws 4 ≤ a ∧ a < insAddr ws 4 + insWord ws 1 then
              some (s.dev.byte (insAddr ws 2 + (a - insAddr ws 4))) else none))) ∧
        (insOp ws = 2 → insSrcDev ws = false → insIdxDev ws = false → ∀ idx,
          (insFlag ws = false → insAddr ws 4 + insCount ws * insElem ws ≤ 2 ^ 64 → s.Does (.haulMovex ins idx data) (fun e =>
            e.haul = { s.dev.haul with run := some (r.on (r.pc + 32)) } ∧
            ∀ a, writtenAt (e.out.drop s.dev.out.length) a = if insAddr ws 4 ≤ a ∧ a < insAddr ws 4 + insCount ws * insElem ws then
              some (data.getD (a - insAddr ws 4) 0) else none)) ∧
          (∀ p, insFlag ws = true → insCount ws = 1 → idx.length = 4 → p = wrap64 (insAddr ws 4 + bufInt idx 0 4) → p + insElem ws ≤ 2 ^ 64 →
            s.Does (.haulMovex ins idx data) (fun e => e.haul = { s.dev.haul with run := some (r.on (r.pc + 32)) } ∧
            ∀ a, writtenAt (e.out.drop s.dev.out.length) a = if p ≤ a ∧ a < p + insElem ws then some (data.getD (a - p) 0) else none))) ∧
        (∀ b diff, insOp ws = 4 → insSrcDev ws = false → r.cmpCnt ≤ 0xFFFFFFFF → insAddr ws 2 + insWord ws 1 ≤ 2 ^ 64 →
          diff = (List.range (insWord ws 1)).filter (fun i => decide (data.getD i 0 ≠ b.getD i 0)) →
          (diff = [] ∨ insFlag ws = false → s.Does (.haulCmp ins data b) (fun e => e.haul = { s.dev.haul with run := some { r.on (r.pc + 32) with
            cmpCnt := min (r.cmpCnt + diff.length) 0xFFFFFFFF,
            cmpAddr := match r.cmpAddr with | some x => some x | none => diff.head?.map (fun i => insAddr ws 2 + i) } })) ∧
          (diff ≠ [] → insFlag ws = true → s.Does (.haulCmp ins data b) (fun e => e.ProgramEnded r 8 (r.executed + 1))))) ∧
      (insReqEn ws = true → insOp ws = 1 → s.Does (.haulMove ins data) (fun e => ∃ x : Xfer, x.ins = ws ∧ x.left = insWord ws 1 ∧ x.off = 0 ∧
        s.dev.HaulAt e { r with executed := r.executed + 1, xfer := some x, waiting := true })))) ∧
  ∀ (s : State) r (x : Xfer) a b, s.dev.awake = true → s.dev.haul.run = some r → r.xfer = some x →
    (s.dev.lineAsserted r (insLine x.ins) x.burst = false → s.Ignores (.burstRequest a b)) ∧
    (s.dev.lineAsserted r (insLine x.ins) x.burst = true → s.dev.haulMayMove x.ins = true → insOp x.ins = 3 → insDstDev x.ins = false →
      x.burst < x.left → s.Does (.burstRequest a b) (fun e =>
        e.haul = { s.dev.haul with run := some { r.consume (insLine x.ins) with xfer := some (x.step x.burst []), waiting := true } } ∧
        ∀ p, writtenAt (e.out.drop s.dev.out.length) p = if x.dst ≤ p ∧ p < x.dst + x.burst then
          some (BitVec.ofNat 8 (insAddr x.ins 2 / 256 ^ (p % 8))) else none))

/-- TABLE_LOAD (R69, R70, R182, R183, R253, R257, R293, R336). An image address off a multiple of 8 is INVALID_FIELD, a mode or a state that the
table does not take is refused with the table's code; else the load waits for its turn on Haul. Its move checks the image, a bar record
in force at once and only when every check passes; its compare ends the others, with VERIFY at the first difference, and only a compare
without one makes Flowstone's bins, or the shadow set, valid. -/
def Obligations.TableLoads : Prop :=
  (∀ (s : State) src addr len swap,
    (addr % 8 ≠ 0 → s.Ends (.tableLoadBarRecord src addr len) src (plainCpl src 2 0 2) s.dev ∧
      s.Ends (.tableLoadShading src addr len swap) src (plainCpl src 2 0 2) s.dev ∧
      s.Ends (.tableLoadContext src addr len) src (plainCpl src 2 0 2) s.dev ∧
      s.Ends (.tableLoadFlowstone src addr len) src (plainCpl src 2 0 2) s.dev) ∧
    (addr % 8 = 0 →
      (s.dev.modeIn [.standby] = false → s.Ends (.tableLoadBarRecord src addr len) src (plainCpl src 3 1 0) (s.dev.barFailed 1 none)) ∧
      (s.dev.modeIn [.standby] = true → s.Does (.tableLoadBarRecord src addr len) (fun e => e = { s.dev.startRun src (.tableLoad 1) with
        haul := { s.dev.haul with loads := s.dev.haul.loads ++ [⟨s.dev.nextRun, 1, addr, len, false⟩] } })) ∧
      (∀ code, code = (if s.dev.modeIn [.standby, .calibrate, .run] = false then 1 else if s.dev.bar = none then 2
          else if s.dev.shadingRuns = true ∨ s.dev.f F.SHD_CTRL.LOAD_BUSY = 1 then 3 else 0) →
        (code ≠ 0 → s.Ends (.tableLoadShading src addr len swap) src (plainCpl src 3 code 0)
          ((s.dev.setF F.SHD_LOAD_STATUS.RESULT code).setF F.SHD_LOAD_STATUS.FAIL_OFFSET 0)) ∧
        (code = 0 → s.Does (.tableLoadShading src addr len swap) (fun e =>
          e.running = s.dev.running ++ [⟨s.dev.nextRun, src, .tableLoad 2⟩] ∧ e.nextRun = s.dev.nextRun + 1 ∧ e.f F.SHD_CTRL.LOAD_BUSY = 1 ∧
          e.haul = { s.dev.haul with loads := s.dev.haul.loads ++ [⟨s.dev.nextRun, 2, addr, len, swap⟩] } ∧
          { s.dev with haul := e.haul, running := e.running, nextRun := e.nextRun }.Only e [F.SHD_CTRL.LOAD_BUSY]))) ∧
      (s.dev.modeIn [.standby, .calibrate, .run, .service] = false →
        s.Ends (.tableLoadContext src addr len) src (plainCpl src 3 1 0) s.dev) ∧
      (s.dev.modeIn [.standby, .calibrate, .run, .service] = true → s.Does (.tableLoadContext src addr len) (fun e =>
        e = { s.dev.startRun src (.tableLoad 3) with
          haul := { s.dev.haul with loads := s.dev.haul.loads ++ [⟨s.dev.nextRun, 3, addr, len, false⟩] } })) ∧
      (s.dev.modeIn [.standby, .calibrate, .run] = false → s.Ends (.tableLoadFlowstone src addr len) src (plainCpl src 3 1 0) s.dev) ∧
      (s.dev.modeIn [.standby, .calibrate, .run] = true →
        (s.dev.f F.FLW_CTRL.LEARN_EN = 1 → s.Ends (.tableLoadFlowstone src addr len) src (plainCpl src 3 3 0) s.dev) ∧
        (s.dev.f F.FLW_CTRL.LEARN_EN = 0 → s.Does (.tableLoadFlowstone src addr len) (fun e =>
          e = { s.dev.startRun src (.tableLoad 4) with
            haul := { s.dev.haul with loads := s.dev.haul.loads ++ [⟨s.dev.nextRun, 4, addr, len, false⟩] } }))))) ∧
  ∀ (s : State) r l ins data b, s.dev.haul.run = some r → r.load = some l → s.dev.awake = true → s.dev.haulGrants 1 = true →
    s.dev.canIssue = true → data.length = l.len →
    (r.phase = 0 → l.table = 1 →
      (barFail data l.len = none → s.Does (.haulMove ins data) (fun e => e.bar = some (parseBar data) ∧ e.haul.run = none ∧
        e.f F.TOP_BAR_STATUS.LOADED = 1 ∧ e.f F.TOP_BAR_STATUS.RESULT = 0)) ∧
      (∀ c m, barFail data l.len = some (c, m) → s.Does (.haulMove ins data) (fun e => e.bar = s.dev.bar ∧ e.haul.run = none ∧
        e.f F.TOP_BAR_STATUS.RESULT = c % 256))) ∧
    (r.phase = 0 → l.table ≠ 1 → s.dev.imageBad l data = 0 → crc32 (zeroed data 60 64) = bufNat data 60 4 →
      s.Does (.haulMove ins data) (fun e => e.haul.run = some { r with executed := r.executed + 1, waiting := false, phase := 1, img := data })) ∧
    (r.phase = 1 → r.img.length = l.len →
      (firstDiff l 0 r.img data = none →
        (l.table = 4 → s.Does (.haulCmp ins data b) (fun e => e.haul.run = none ∧
          e.flw.writes = s.dev.flw.writes ++ (List.range 1024).map (fun i => (i, bufNat r.img (64 + 4 * i) 4)))) ∧
        (l.table = 2 → s.Does (.haulCmp ins data b) (fun e => e.haul.run = none ∧ e.f F.SHD_LOAD_STATUS.RESULT = 0 ∧
          e.f F.SHD_CTRL.LOAD_BUSY = 0))) ∧
      (∀ i, firstDiff l 0 r.img data = some i → l.table = 4 ∨ l.table = 2 → s.Does (.haulCmp ins data b) (fun e =>
        e.haul.run = none ∧ e.flw = s.dev.flw ∧ (l.table = 2 → e.f F.SHD_LOAD_STATUS.RESULT = 9 ∧ e.f F.SHD_CTRL.LOAD_BUSY = 0))))

/-! ## Motion and drive (chapters 14 and 15) -/

/-- MOVE, MOVE_COORD, HOLD and RESUME (R293, R294, R298, R356, R359, R361, R385). Outside CALIBRATE, RUN and SERVICE each is WRONG_MODE; a move of an
axis with a latched over-current or encoder fault is AXIS_STOPPED at once, one of FEED on a follower NOT_MASTER. A move accepted waits for
the next servo period, and supersedes what its axes ran. HOLD marks the moves of its axes, or completes where all stand; RESUME takes
up a kept distance, and answers AXIS_STOPPED with 10 where there is none, with 9 where it leaves out an axis of a coordinated move. -/
def Obligations.Moves : Prop :=
  ∀ (s : State) (src : Src),
    (s.dev.modeIn [.calibrate, .run, .service] = false →
      (∀ a t n v r, s.Ends (.move src a t n v r) src (plainCpl src 5 0 0) s.dev) ∧
      (∀ m ts n v r, 2 ≤ (maskList 6 m.val).length → (∀ a < 6, bitOf m.val a = false → ts.getD a 0 = 0) →
        s.Ends (.moveCoord src m ts n v r) src (plainCpl src 5 0 0) s.dev) ∧
      (∀ m, s.Ends (.hold src m) src (plainCpl src 5 0 0) s.dev ∧ s.Ends (.resume src m) src (plainCpl src 5 0 0) s.dev)) ∧
    (∀ m ts n v r, (maskList 6 m.val).length < 2 → s.Ends (.moveCoord src m ts n v r) src (plainCpl src 2 0 1) s.dev) ∧
    (s.dev.modeIn [.calibrate, .run, .service] = true →
      (∀ (a : Fin 6) t n v r,
        (a.val = 0 → s.dev.follower = true → s.Does (.move src a t n v r) (fun e => ∃ c, s.dev.Answered e (s.dev.ring src) c ∧
          c.words.take 2 = [src.cid.val * 2 ^ 16 + src.sq.val * 2 ^ 10 + 6, 8 * 2 ^ 24])) ∧
        ((a.val = 0 → s.dev.follower = false ∧ s.dev.tet.conflict = false) →
          (s.dev.f (F.CHP_STATUS.OVERCURRENT a) = 1 ∨ s.dev.f (F.ENC_STATUS.ENC_FAULT a) = 1 → s.Does (.move src a t n v r) (fun e => ∃ c,
            s.dev.Answered e (s.dev.ring src) c ∧ c.words.take 2 = [src.cid.val * 2 ^ 16 + src.sq.val * 2 ^ 10 + 6, 5 * 2 ^ 24])) ∧
          (s.dev.f (F.CHP_STATUS.OVERCURRENT a) = 0 → s.dev.f (F.ENC_STATUS.ENC_FAULT a) = 0 →
            ((s.dev.ax a).ref = none → s.dev.moveOf a = none → s.Does (.move src a t n v r) (fun e => e = { s.dev.startRun src .move with
              nextMove := s.dev.nextMove + 1,
              moves := s.dev.moves ++ [mkMove s.dev.nextMove (.cmd s.dev.nextRun) false n.val v r none [(a.val, t)]] })) ∧
            (s.Does (.move src a t n v r) (fun e => mkMove s.dev.nextMove (.cmd s.dev.nextRun) false n.val v r none [(a.val, t)] ∈ e.moves ∧
              ∀ o ∈ e.moves, o.has a = true → o.id = s.dev.nextMove)) ∧
            (∀ k, (s.dev.ax a).kept = some k → k.coord = false → k.mask = 2 ^ a.val → (s.dev.ax a).ref = none → s.dev.moveOf a = none →
              ∀ m : Fin 64, m.val = 2 ^ a.val → s.Does (.resume src m) (fun e => e = { s.dev.startRun src (.resume 1 [] 0) with
                nextMove := s.dev.nextMove + 1,
                moves := s.dev.moves ++ [mkMove s.dev.nextMove (.cmd s.dev.nextRun) false k.set k.rev true k.adv [(a.val, k.dist)]] }))))) ∧
      (∀ (m : Fin 64) ts n v r, 2 ≤ (maskList 6 m.val).length → (∀ a < 6, bitOf m.val a = false → ts.getD a 0 = 0) →
        (bitOf m.val 0 = true → s.dev.follower = false ∧ s.dev.tet.conflict = false) →
        (∀ a ∈ maskList 6 m.val, s.dev.f (F.CHP_STATUS.OVERCURRENT a) = 0 ∧ s.dev.f (F.ENC_STATUS.ENC_FAULT a) = 0 ∧
          (s.dev.ax a).ref = none ∧ s.dev.moveOf a = none) →
        s.Does (.moveCoord src m ts n v r) (fun e => e = { s.dev.startRun src .move with
          nextMove := s.dev.nextMove + 1,
          moves := s.dev.moves ++ [mkMove s.dev.nextMove (.cmd s.dev.nextRun) true n.val v r none
            ((maskList 6 m.val).map (fun a => (a, ts.getD a 0)))] })) ∧
      (∀ m : Fin 64, (∀ a ∈ maskList 6 m.val, (s.dev.ax a).kept = none) → s.Ends (.resume src m) src (plainCpl src 6 10 0) s.dev) ∧
      (∀ (m : Fin 64) a k, a ∈ maskList 6 m.val → (s.dev.ax a).kept = some k → k.coord = true → (∃ b ∈ maskList 6 k.mask, b ∉ maskList 6 m.val) →
        (∀ b ∈ maskList 6 m.val, (s.dev.ax b).kept = some k ∨ (s.dev.ax b).kept = none) →
        s.Ends (.resume src m) src (plainCpl src 6 9 0) s.dev) ∧
      (∀ m : Fin 64, (∀ r ∈ s.dev.running, r.id < s.dev.nextRun ∧ ∀ k, r.kind ≠ .hold k) → (∀ a ∈ maskList 6 m.val, (s.dev.ax a).ref = none) →
        ((∀ a ∈ maskList 6 m.val, s.dev.stands a = true ∧ s.dev.moveOf a = none) →
          s.Ends (.hold src m) src (plainCpl src 0 0 0) { s.dev with nextRun := s.dev.nextRun + 1 }) ∧
        ((∃ a ∈ maskList 6 m.val, s.dev.moveOf a ≠ none) → s.Does (.hold src m) (fun e => e = { s.dev.startRun src (.hold m) with
          moves := s.dev.moves.map (fun x => if (maskList 6 m.val).any x.has then x.stopBy .hold else x) }))))

/-- SERVO_PERIOD (R344, R345, R347, R350, R376). In DORMANT and while a power-on or pin reset holds the device nothing happens; in BOOT nothing moves.
With no move and no referencing every set-point stays; a move without distance ends at once; in a move the set-point of the axis advances
by exactly its new speed, or lands on the target. SERVO_PERIOD itself is written from 1,250 to 10,000, with every axis at standstill. -/
def Obligations.ServoPeriods : Prop :=
  ∀ s : State,
    (s.dev.mode = .dormant ∨ s.dev.inReset = true → s.Ignores .servoPeriod) ∧
    (s.dev.mode = .boot → s.dev.inReset = false → s.Does .servoPeriod (fun e => e = { s.dev with regs := e.regs, time := e.time })) ∧
    (s.dev.mode ≠ .dormant → s.dev.mode ≠ .boot → s.dev.inReset = false → s.dev.shd.shutter = none →
      (∀ a < 6, (s.dev.ax a).ref = none) →
      (s.dev.moves = [] → s.Does .servoPeriod (fun e => e.moves = [] ∧ ∀ a < 6, (e.ax a).x = (s.dev.ax a).x ∧ (e.ax a).v = (s.dev.ax a).v)) ∧
      (∀ m a x, s.dev.moves = [m] → m.axes = [x] → x.axis = a → a < 6 → m.coord = false →
        (m.planned = false → m.cause = none → a ≠ 0 → s.dev.policyLoose a = false → (s.dev.ax a).v = 0 → (s.dev.ax a).a = 0 →
          x.raw = (if m.rel then 0 else countOf (s.dev.ax a).x) → ∀ run, m.owner = .cmd run →
          (∀ r ∈ s.dev.running, r.id = run → r.kind = .move) → s.Does .servoPeriod (fun e => e.moves = [] ∧
            (∀ r ∈ e.running, r.id ≠ run) ∧ (e.ax a).x = (s.dev.ax a).x ∧ (e.ax a).v = 0 ∧ (e.ax a).kept = none)) ∧
        (m.planned = true → m.leader = a → s.Does .servoPeriod (fun e =>
          ((e.ax a).x = (s.dev.ax a).x + (e.ax a).v ∨ (e.ax a).x = x.target * 2 ^ 32) ∧
          ∀ b < 6, b ≠ a → (e.ax b).x = (s.dev.ax b).x)))) ∧
    (∀ rq (v : Word), s.dev.awake = true →
      (v.toNat % 16384 < 1250 ∨ 10000 < v.toNat % 16384 → s.dev.errFree rq → s.Does (.servoPeriodWrite rq v) (fun e =>
        s.dev.Discarded e .value R.AXS_SERVO_PERIOD)) ∧
      (1250 ≤ v.toNat % 16384 → v.toNat % 16384 ≤ 10000 →
        (s.dev.allStand = false → s.dev.errFree rq → s.Does (.servoPeriodWrite rq v) (fun e => s.dev.Discarded e .locked R.AXS_SERVO_PERIOD)) ∧
        (s.dev.allStand = true → s.Does (.servoPeriodWrite rq v) (fun e => e.f F.AXS_SERVO_PERIOD.SERVO_PERIOD = v.toNat % 16384 ∧
          s.dev.Only e [F.AXS_SERVO_PERIOD.SERVO_PERIOD]))))

/-- Stops by the drive and the switches (R355, R372, R383 to R387). A stall that is due sets STALLED, and the set-point takes the measured position
and ends the move there. An over-current latches, turns the gates off and does the same; OC_CLEAR clears it. A limit switch stops the
motion in its guarded direction, AXS_ESTOP every named move, and no other move is touched. The chopper turns a coil off at its trip
and on again while a demand lasts. -/
def Obligations.DriveStops : Prop :=
  ∀ (s : State) (a : Fin 6),
    ((s.dev.ax a).stallDue = false → s.Ignores (.stall a)) ∧
    ((s.dev.ax a).stallDue = true →
      ((∀ m ∈ s.dev.moves, m.planned = true → m.has a = false) → s.Does (.stall a) (fun e => e.f (F.AXS_SW_STATUS.STALLED a) = 1 ∧
        e.f (F.AXS_SW_STATUS.STALL_IDLE a) = 1 ∧ (e.ax a).x = s.dev.pos a * 2 ^ 32 ∧ (e.ax a).v = 0 ∧ (e.ax a).stallDue = false ∧
        e.moves = s.dev.moves)) ∧
      (∀ m x, s.dev.moves = [m] → m.planned = true → m.axes = [x] → x.axis = a.val → s.Does (.stall a) (fun e => e.moves = [] ∧
        e.f (F.AXS_SW_STATUS.STALLED a) = 1 ∧ (e.ax a).x = s.dev.pos a * 2 ^ 32 ∧ (e.ax a).v = 0))) ∧
    (∀ (c : Fin 2) (mon : Fin 4096),
      (s.dev.f (F.CHP_CFG.DRIVE_MODE a) ≠ 1 ∨ mon.val ≤ s.dev.f (F.CHP_LOOP.OC_LIMIT a) → s.Ignores (.overcurrent a c mon)) ∧
      (s.dev.f (F.CHP_CFG.DRIVE_MODE a) = 1 → s.dev.f (F.CHP_LOOP.OC_LIMIT a) < mon.val →
        s.Does (.overcurrent a c mon) (fun e => e.f (F.CHP_STATUS.OVERCURRENT a) = 1 ∧ (e.ax a).power = .off ∧
          (c = 0 → e.f (F.CHP_STATUS.IMON_A a) = mon) ∧ (s.dev.moves = [] → (e.ax a).x = s.dev.pos a * 2 ^ 32 ∧ (e.ax a).v = 0 ∧ e.moves = []))) ∧
      ((s.dev.ax a).power ≠ .chop ∨ ((s.dev.ax a).coils.getD c ⟨0, .off, false⟩).phase ≠ .on → s.Ignores (.chopperTrip a c mon)) ∧
      ((s.dev.ax a).power = .chop → ((s.dev.ax a).coils.getD c ⟨0, .off, false⟩).phase = .on → s.Does (.chopperTrip a c mon) (fun e =>
        ((e.ax a).coils.getD c ⟨0, .off, false⟩).phase = (if 16 ≤ s.dev.f (F.CHP_CFG.FAST_FRAC a) then .fast else .slow) ∧
        (if c = 0 then e.f (F.CHP_STATUS.IMON_A a) else e.f (F.CHP_IMON_B.IMON_B a)) = mon ∧
        { s.dev with axes := e.axes }.Only e [if c = 0 then F.CHP_STATUS.IMON_A a else F.CHP_IMON_B.IMON_B a])) ∧
      ((s.dev.ax a).power ≠ .chop ∨ ((s.dev.ax a).coils.getD c ⟨0, .off, false⟩).demand = 0 → s.Ignores (.chopperOn a c)) ∧
      (∀ k, (s.dev.ax a).coils[c.val]? = some k → (s.dev.ax a).power = .chop → k.demand ≠ 0 → s.Does (.chopperOn a c) (fun e =>
        ((e.ax a).coils.getD c ⟨0, .off, false⟩).phase = .on ∧ e = { s.dev with axes := e.axes, out := e.out }))) ∧
    (s.dev.awake = true → s.Does (.ocClear a) (fun e => e.f (F.CHP_STATUS.OVERCURRENT a) = 0 ∧ e.moves = s.dev.moves)) ∧
    (∀ act, s.dev.alive = true → s.Does (.limitSwitch a act) (fun e => e.f (F.AXS_SW_STATUS.LIM_LEVEL a) = b2n act ∧
      { s.dev with moves := e.moves }.Only e [F.AXS_SW_STATUS.LIM_LEVEL a] ∧
      (∀ m ∈ e.moves, m ∈ s.dev.moves ∨ ∃ o ∈ s.dev.moves, o.planned = true ∧ m = o.stopBy .limit) ∧
      (∀ m x, s.dev.moves = [m] → m.planned = true → m.axes = [x] → x.axis = a.val → m.leader = a.val → s.dev.f (F.AXS_SW_CFG.LIM_EN a) = 1 →
        e.moves = [if act = true ∧ (if s.dev.f (F.AXS_SW_CFG.LIM_DIR a) = 1 then m.s < 0 else 0 < m.s) then m.stopBy .limit else m]))) ∧
    (∀ v : Word, s.dev.awake = true → (∀ b ∈ maskList 6 v.toNat, (s.dev.ax b).ref = none) → s.Does (.axsEstop v) (fun e =>
      e = { s.dev.setF F.AXS_ESTOP.ESTOP (s.dev.f F.AXS_ESTOP.ESTOP ||| v.toNat) with
        moves := s.dev.moves.map (fun m => if (maskList 6 v.toNat).any m.has then m.stopBy .estop else m) }))

/-- Encoders, switch latches and position redefinition (R362, R377 to R381, R386). Counts move the measured position in the direction DIR_INV selects; an
SSI frame moves it by its difference from the one before, and one beyond a quarter of the range, a bad level or a bad time is a fault; a
fault latches its first cause, clears REFERENCED and stops the axis. A selected HOME edge latches its position. POS_GO moves the frame
by what brings the set-point to POS_SET, on an axis at rest alone. -/
def Obligations.EncodersAndLatches : Prop :=
  ∀ (s : State) (a : Fin 6),
    (∀ n, (s.dev.alive = false ∨ (s.dev.f (F.ENC_CFG.ENC_TYPE a) ≠ 1 ∧ s.dev.f (F.ENC_CFG.ENC_TYPE a) ≠ 2) → s.Ignores (.encoderCount a n)) ∧
      (s.dev.alive = true → s.dev.f (F.ENC_CFG.ENC_TYPE a) = 1 ∨ s.dev.f (F.ENC_CFG.ENC_TYPE a) = 2 → s.Does (.encoderCount a n) (fun e =>
        e.measured a = s.dev.measured a + (if s.dev.f (F.ENC_CFG.DIR_INV a) = 1 then -n else n) ∧
        (∀ b, b ≠ a.val → e.measured b = s.dev.measured b) ∧ e = { s.dev with meas := e.meas, sur := e.sur } ∧
        (a.val ≠ 0 → e.sur = s.dev.sur)))) ∧
    (∀ (raw : Word) high, s.dev.f (F.ENC_CFG.ENC_TYPE a) ≠ 3 → s.Ignores (.ssiFrame a raw high)) ∧
    (∀ (raw : Word) bits, s.dev.alive = true → s.dev.f (F.ENC_CFG.ENC_TYPE a) = 3 → bits = s.dev.f (F.ENC_CFG.SSI_BITS a) →
      (bits + 1) * s.dev.f (F.ENC_CFG.SSI_DIV a) + 56 ≤ s.dev.servoPeriod * 4 →
      (s.dev.f (F.ENC_STATUS.ENC_FAULT a) = 0 → s.Does (.ssiFrame a raw false) (fun e => e.f (F.ENC_STATUS.ENC_FAULT a) = 1 ∧
        e.f (F.ENC_STATUS.CAUSE a) = 3 ∧ e.f (F.AXS_REF_STATUS.REFERENCED a) = 0)) ∧
      (s.dev.f (F.ENC_CFG.SSI_GRAY a) = 0 → raw.toNat < 2 ^ bits →
        ((s.dev.ax a).ssi = none → s.Does (.ssiFrame a raw true) (fun e => e = s.dev.setAx a { s.dev.ax a with ssi := some raw.toNat })) ∧
        (∀ old diff, (s.dev.ax a).ssi = some old → diff = signed bits (unsigned bits ((raw.toNat : Int) - old)) →
          (diff.natAbs ≤ 2 ^ (bits - 2) → s.Does (.ssiFrame a raw true) (fun e => (e.ax a).ssi = some raw.toNat ∧
            e.measured a = s.dev.measured a + (if s.dev.f (F.ENC_CFG.DIR_INV a) = 1 then -diff else diff))) ∧
          (2 ^ (bits - 2) < diff.natAbs → s.dev.f (F.ENC_STATUS.ENC_FAULT a) = 0 → s.Does (.ssiFrame a raw true) (fun e =>
            e.f (F.ENC_STATUS.ENC_FAULT a) = 1 ∧ e.f (F.ENC_STATUS.CAUSE a) = 4 ∧ e.measured a = s.dev.measured a))))) ∧
    (∀ c : Fin 8, (s.dev.encFaultFits a c = false → s.Ignores (.encoderFault a c)) ∧
      (s.dev.alive = true → s.dev.encFaultFits a c = true → s.Does (.encoderFault a c) (fun e => e.f (F.ENC_STATUS.ENC_FAULT a) = 1 ∧
        e.moves = s.dev.moves.map (fun m => if m.has a then m.stopBy .fault else m) ∧
        (s.dev.f (F.ENC_STATUS.ENC_FAULT a) = 0 → e.f (F.ENC_STATUS.CAUSE a) = c ∧ e.f (F.AXS_REF_STATUS.REFERENCED a) = 0) ∧
        (s.dev.f (F.ENC_STATUS.ENC_FAULT a) = 1 → e.regs = s.dev.regs)))) ∧
    (s.dev.awake = true → s.Does (.encClear a) (fun e => e.f (F.ENC_STATUS.ENC_FAULT a) = 0 ∧ e.f (F.ENC_STATUS.CAUSE a) = 0 ∧
      s.dev.Only e [F.ENC_STATUS.ENC_FAULT a, F.ENC_STATUS.CAUSE a])) ∧
    (∀ act pos, s.dev.alive = true →
      (s.dev.f (F.AXS_SW_STATUS.HOME_LEVEL a) = b2n act → s.Ignores (.switchEdge a false act pos)) ∧
      (s.dev.f (F.AXS_SW_STATUS.HOME_LEVEL a) ≠ b2n act →
        (s.dev.f (F.AXS_SW_CFG.LATCH_SRC a) = 1 → s.Does (.switchEdge a false act pos) (fun e =>
          e.f (F.AXS_SW_STATUS.HOME_LEVEL a) = b2n act ∧ s.dev.Only e [F.AXS_SW_STATUS.HOME_LEVEL a])) ∧
        (s.dev.f (F.AXS_SW_CFG.LATCH_SRC a) = 0 → s.dev.f (F.AXS_SW_CFG.HOME_EDGE a) = 1 - b2n act ∨ s.dev.f (F.AXS_SW_CFG.HOME_EDGE a) = 2 →
          s.Does (.switchEdge a false act pos) (fun e => e.f (F.AXS_SW_STATUS.HOME_LEVEL a) = b2n act ∧
            e.f (F.AXS_SW_STATUS.LATCHED a) = 1 ∧ e.r64 (R.AXS_LATCH_LO a) (R.AXS_LATCH_HI a) = unsigned 64 pos ∧
            (∀ r, (s.dev.ax a).ref = some r → (e.ax a).ref = some { r with latch := some pos }))))) ∧
    (s.dev.awake = true → ∀ busy : Bool, busy = (!s.dev.stands a || (s.dev.moveOf a).isSome || (s.dev.ax a).ref.isSome) →
      (busy = true → s.Does (.posGo a) (fun e => e.f (F.AXS_STATUS.POS_REFUSED a) = 1 ∧
        s.dev.Only e [F.AXS_STATUS.POS_REFUSED a, intBit (intBitOf (R.AXS_STATUS a))])) ∧
      (busy = false → a.val ≠ 0 → ∀ delta, delta = s.dev.r64i (R.AXS_POS_SET_LO a) (R.AXS_POS_SET_HI a) - countOf (s.dev.ax a).x →
        s.Does (.posGo a) (fun e => e = { s.dev with axes := e.axes, meas := e.meas } ∧
          e.ax a = { s.dev.ax a with x := (s.dev.ax a).x + delta * 2 ^ 32, eofs := (s.dev.ax a).eofs - delta } ∧
          e.measured a = s.dev.pos a + delta ∧ ∀ b, b ≠ a.val → e.ax b = s.dev.ax b ∧ e.measured b = s.dev.measured b)))

/-- Referencing (R388 to R391). A start is refused with the first code of Table 15.5 that holds, DONE and nothing moved; else the axis is BUSY, keeps no
distance, and seeks: with METHOD 0 towards the edge, or back where the source already shows its level, with 1 and 2 towards the stop. The
procedure ends once the axis stands still: REFERENCED only with result 0, DONE with the result either way. -/
def Obligations.Referencing : Prop :=
  ∀ (s : State) (a : Fin 6),
    (s.dev.awake = true → ∀ (up : Bool) (set : Fin 4) (iRef : Fin 1024) (method : Nat) (i : Instr),
      (method = 0 ∧ i = .refSwitch a up set iRef) ∨ (method = 1 ∧ i = .refHardStop a up set iRef) ∨
        (method = 2 ∧ i = .refCombined a up set iRef) →
      ∀ code, code = (if s.dev.modeIn [.calibrate, .run, .service] = false ∨ (s.dev.axisState a ≠ 0 ∧ s.dev.axisState a ≠ 4) ∨
            (s.dev.ax a).ref ≠ none then 1
          else if a.val = 0 ∧ s.dev.follower = true then 8
          else if method ≠ 0 ∧ (s.dev.f (F.AXS_STALL_CFG.STALL_MODE a) = 0 ∨ s.dev.f (F.ENC_CFG.ENC_TYPE a) = 0) then 6
          else if s.dev.f (F.ENC_STATUS.ENC_FAULT a) = 1 then 5 else if s.dev.f (F.CHP_STATUS.OVERCURRENT a) = 1 then 9 else 0) →
      (code ≠ 0 → s.Does i (fun e => e.f (F.AXS_REF_STATUS.RESULT a) = code ∧ e.f (F.AXS_REF_STATUS.DONE a) = 1 ∧
        s.dev.Only e [whole (R.AXS_REF_CTRL a), F.AXS_REF_STATUS.RESULT a, F.AXS_REF_STATUS.DONE a, intBit (intBitOf (R.AXS_REF_STATUS a))])) ∧
      (code = 0 → s.Does i (fun e => e.f (F.AXS_REF_STATUS.BUSY a) = 1 ∧ (e.ax a).kept = none ∧ (e.ax a).x = (s.dev.ax a).x ∧
        ∃ (step : Nat) (out : Int), step = (if method ≠ 0 then 1 else if s.dev.edgeLevel a then 2 else 3) ∧
          out = (if step = 2 then -1 else 1) * (if up then 1 else -1) * s.dev.f (F.AXS_REF_MAX.REF_MAX a) ∧
          (e.ax a).ref = some ⟨method, if up then 1 else -1, set.val, iRef.val, step, none, none, 0⟩ ∧
          e.moves = s.dev.moves ++ [mkMove s.dev.nextMove (.ref a) false set.val false true none [(a.val, out)]]))) ∧
    ((s.dev.ax a).ref = none → s.Ignores (.referencingDone a)) ∧
    (∀ r, (s.dev.ax a).ref = some r →
      (r.result = none ∨ s.dev.stands a = false → s.Ignores (.referencingDone a)) ∧
      (∀ code, r.result = some code → code < 16 → s.dev.stands a = true → s.dev.moveOf a = none → code = 0 ∨ r.shift = 0 →
        s.Does (.referencingDone a) (fun e => (e.ax a).ref = none ∧ e.f (F.AXS_REF_STATUS.BUSY a) = 0 ∧
          e.f (F.AXS_REF_STATUS.DONE a) = 1 ∧ e.f (F.AXS_REF_STATUS.RESULT a) = code ∧
          e.f (F.AXS_REF_STATUS.REFERENCED a) = if code = 0 then 1 else s.dev.f (F.AXS_REF_STATUS.REFERENCED a))))

/-! ## Housekeeping converters and time (chapters 16 and 17) -/

/-- The housekeeping sequencers (R395, R397, R398, R401, R405, R409). RUN = 1 checks the written set: one that passes comes into force whole and the
sequencer runs, one that fails leaves RUN at 0 with its code in ERR, and nothing else. COMMIT waits for the next pass, which takes the set
or shows COMMIT_REFUSED. A pass counts, with its stamp; an entry without filter writes its own corrected mean. The FIFO gives its
results word by word, and a read of an empty one is an access error. CAL_RUN HKC_SELFCAL (R411): refused outside STANDBY, CALIBRATE and SERVICE with 1, while a sequencer runs with 2. A run commits every factor of
both converters at once, or, with the code of its first failure, none and CAL_OK = 0; DONE and the completion follow either way. -/
def Obligations.HousekeepingConverters : Prop :=
  (∀ (s : State) (c : Fin 2),
    (s.dev.awake = true →
      (s.dev.f (F.HKC_SEQ_CTRL.RUN c) = 1 → s.Ignores (.hkcRunStart c)) ∧
      (∀ code en, s.dev.f (F.HKC_SEQ_CTRL.RUN c) = 0 → s.dev.hkcCheck c (s.dev.hkcShadow c) = (code, en) →
        (code = 0 → s.Does (.hkcRunStart c) (fun e => e.f (F.HKC_SEQ_CTRL.RUN c) = 1 ∧ e.f (F.HKC_SEQ_STATUS.RUNNING c) = 1 ∧
          e.f (F.HKC_SEQ_STATUS.ERR c) = 0 ∧ (e.hkcOf c).live = s.dev.hkcShadow c ∧
          e.f (F.HKC_PASS_LEN.PASS_LEN c) = passLen (s.dev.hkcShadow c) ∧ (e.hkcOf c).fifo = (s.dev.hkcOf c).fifo)) ∧
        (code ≠ 0 → s.Does (.hkcRunStart c) (fun e => e.f (F.HKC_SEQ_CTRL.RUN c) = 0 ∧ e.f (F.HKC_SEQ_STATUS.RUNNING c) = 0 ∧
          e.f (F.HKC_SEQ_STATUS.ERR c) = code ∧ (∀ n, en = some n → n < 32 → e.f (F.HKC_SEQ_STATUS.ERR_ENTRY c) = n) ∧
          { s.dev with free := e.free }.Only e [F.HKC_SEQ_CTRL.RUN c, F.HKC_SEQ_STATUS.RUNNING c, F.HKC_SEQ_STATUS.ERR c,
            F.HKC_SEQ_STATUS.ERR_ENTRY c]))) ∧
      s.Does (.hkcCommit c) (fun e => e.f (F.HKC_SEQ_CTRL.COMMIT c) = 1 ∧ s.dev.Only e [F.HKC_SEQ_CTRL.COMMIT c]) ∧
      (∀ rq (off : Fin 64), ((s.dev.hkcOf c).fifo = [] → s.dev.errFree rq → s.Does (.hkcFifoPop rq c off) (fun e =>
          s.dev.Discarded e .emptyRead (0xC0400 + 0x1000 * c.val + 4 * off.val))) ∧
        ∀ w t, (s.dev.hkcOf c).fifo = w :: t → t.length < 64 → s.Does (.hkcFifoPop rq c off) (fun e =>
          e.hkcOf c = { s.dev.hkcOf c with fifo := t } ∧ e.f (F.HKC_FIFO_STATUS.LEVEL c) = (t.length + 1) / 2 ∧
          e.out = s.dev.out ++ [.readData (0xC0400 + 0x1000 * c.val + 4 * off.val) w] ∧
          { s.dev with hkc := e.hkc }.Only e [F.HKC_FIFO_STATUS.LEVEL c]))) ∧
    (∀ conv, s.dev.f (F.HKC_SEQ_CTRL.RUN c) = 0 → s.Ignores (.hkcPassStart c conv)) ∧
    (∀ conv, s.dev.f (F.HKC_SEQ_CTRL.RUN c) = 1 →
      (s.dev.f (F.HKC_SEQ_CTRL.COMMIT c) = 1 → ∀ set code en, set = (s.dev.setF (F.HKC_SEQ_CTRL.COMMIT c) 0).hkcShadow c →
        s.dev.hkcCheck c set = (code, en) → s.Does (.hkcPassStart c conv) (fun e => e.f (F.HKC_SEQ_CTRL.COMMIT c) = 0 ∧
          e.f (F.HKC_SEQ_STATUS.ERR c) = code ∧ (e.hkcOf c).live = (if code = 0 then set else (s.dev.hkcOf c).live) ∧
          (code ≠ 0 → e.f (F.HKC_SEQ_STATUS.COMMIT_REFUSED c) = 1))) ∧
      (s.dev.f (F.HKC_SEQ_CTRL.COMMIT c) = 0 → s.Does (.hkcPassStart c conv) (fun e => (e.hkcOf c).live = (s.dev.hkcOf c).live ∧
          e.f (F.HKC_SEQ_STATUS.PASS_CNT c) = (s.dev.f (F.HKC_SEQ_STATUS.PASS_CNT c) + 1) % 65536 ∧
          e.r64 (R.HKC_PASS_TIME_LO c) (R.HKC_PASS_TIME_HI c) = s.dev.stampVal (s.dev.f F.TIM_CFG.HKC_BASE) % 2 ^ 64) ∧
        ∀ set v reason fault, set = (s.dev.hkcOf c).live → setLast set = 0 → filtKind (setFilt set 0) = 0 → cfgCombine (setCfg set 0) = 0 →
          ((s.dev.hkcOf c).ent 0).change = none → ((s.dev.hkcOf c).ent 0).guard = 0 → ((s.dev.hkcOf c).ent 0).emit = 0 →
          ((s.dev.hkcOf c).ent 0).since = none → s.dev.hkcEntry c set 0 (conv.getD 0 []) = (v, reason, fault) →
          s.Does (.hkcPassStart c conv) (fun e =>
            e.f (F.HKC_RES_W0.VALUE c 0) = unsigned 20 (clampI v (-524287) 524287) ∧ e.f (F.HKC_RES_W0.REASON c 0) = reason ∧
            e.f (F.HKC_RES_W0.VALID c 0) = (if reason = 0 then 1 else 0) ∧ e.f (F.HKC_RES_W0.ENTRY c 0) = 0 ∧
            e.f (F.HKC_RES_W0.CONVERTER c 0) = c ∧ e.f (F.HKC_RES_W1.PASS c 0) = (s.dev.f (F.HKC_SEQ_STATUS.PASS_CNT c) + 1) % 65536)))) ∧
  (∀ (s : State) (src : Src) x,
    (∀ code, (s.dev.modeIn [.standby, .calibrate, .service] = false ∧ code = 1) ∨ (s.dev.modeIn [.standby, .calibrate, .service] = true ∧
        (s.dev.f (F.HKC_SEQ_CTRL.RUN 0) = 1 ∨ s.dev.f (F.HKC_SEQ_CTRL.RUN 1) = 1) ∧ code = 2) →
      s.Does (.hkcSelfcal src x) (fun e => ∃ m : Dev, m.f F.HKC_CAL_STATUS.RESULT = code ∧ m.f F.HKC_CAL_STATUS.DONE = 1 ∧
        s.dev.Only m [F.HKC_CAL_STATUS.RESULT, F.HKC_CAL_STATUS.DONE, intBit (intBitOf R.HKC_CAL_STATUS)] ∧
        m.Answered e (m.ring src) (plainCpl src 3 code 0))) ∧
    (s.dev.modeIn [.standby, .calibrate, .service] = true → s.dev.f (F.HKC_SEQ_CTRL.RUN 0) = 0 → s.dev.f (F.HKC_SEQ_CTRL.RUN 1) = 0 →
      (∀ code, s.dev.hkcMeasure x = .error code → s.Does (.hkcSelfcal src x) (fun e => ∃ m : Dev,
        m.f F.HKC_CAL_STATUS.RESULT = code ∧ m.f F.HKC_CAL_STATUS.CAL_OK = 0 ∧ m.f F.HKC_CAL_STATUS.DONE = 1 ∧
        s.dev.Only m [F.HKC_CAL_STATUS.RESULT, F.HKC_CAL_STATUS.CAL_OK, F.HKC_CAL_STATUS.DONE, intBit (intBitOf R.HKC_CAL_STATUS)] ∧
        m.Answered e (m.ring src) (plainCpl src 3 code 0))) ∧
      (∀ l, s.dev.hkcMeasure x = .ok l → s.Does (.hkcSelfcal src x) (fun e => ∃ m : Dev,
        m.f F.HKC_CAL_STATUS.RESULT = 0 ∧ m.f F.HKC_CAL_STATUS.CAL_OK = 1 ∧ m.f F.HKC_CAL_STATUS.DONE = 1 ∧ m.hkcCal = true ∧
        (∀ i < 12, m.fi (F.HKC_CAL.OFS (i / 6) (i % 6)) = (l.getD i (0, 0)).1 ∧
          (m.f (F.HKC_CAL.GCF (i / 6) (i % 6)) : Int) = (l.getD i (0, 0)).2 ∧ (l.getD i (0, 0)).1.natAbs ≤ 1024 ∧
          15565 ≤ (l.getD i (0, 0)).2 ∧ (l.getD i (0, 0)).2 ≤ 17203) ∧
        m.Answered e (m.ring src) (plainCpl src 0 0 0)))))

/-- The disciplined bases (R416 to R420). The first measurement after arming steps the base by θ, and no other does: each later one steers freq and
slew within their clamps, and eight near measurements in a row lock it. Without measurements the base holds over with slew 0. A FREE
timing master's NET takes no measurement, and only its SET_GO sets it. -/
def Obligations.BasesDisciplined : Prop :=
  ∀ s : State,
    (∀ (host : Bool) (t : BitVec 64) b, b = (if host then 2 else 1) →
      (s.dev.alive = false ∨ (host = false ∧ s.dev.netFree = true) → s.Ignores (.referenceMeasurement host t) ∧ s.Ignores (.holdover host)) ∧
      (s.dev.alive = true → host = true ∨ s.dev.netFree = false →
        s.Does (.referenceMeasurement host t) (fun e =>
          e.fi (F.TIM_BASE_OFS.VALUE b) = clampI t.toInt (-2147483648) 2147483647 ∧
          e.time = (s.dev.setDisc b (e.disc b)).time ∧
          { s.dev with time := e.time, slots := e.slots }.Only e [F.TIM_BASE_OFS.VALUE b, F.TIM_BASE_CTRL.STEP_ARMED b, F.TIM_BASE_CTRL.STATE b] ∧
          (s.dev.f (F.TIM_BASE_CTRL.STEP_ARMED b) = 1 →
            e.disc b = ⟨unsigned 112 (((s.dev.disc b).count : Int) + t.toInt * 2 ^ 48), 0, 0, 0⟩ ∧
            e.f (F.TIM_BASE_CTRL.STEP_ARMED b) = 0 ∧ e.f (F.TIM_BASE_CTRL.STATE b) = 1) ∧
          (s.dev.f (F.TIM_BASE_CTRL.STEP_ARMED b) = 0 → ∀ near good, near = decide (t.toInt.natAbs ≤ s.dev.f (F.TIM_BASE_CTRL.LOCK_THR b)) →
            good = (if near then min ((if s.dev.f (F.TIM_BASE_CTRL.STATE b) = 3 then 0 else (s.dev.disc b).good) + 1) 255 else 0) →
            e.disc b = { s.dev.disc b with
              freq := clampI ((s.dev.disc b).freq + divFloor (t.toInt * 65536) (2 ^ s.dev.f (F.TIM_BASE_CTRL.I_SHIFT b)))
                (-140737488355) 140737488355
              slew := clampI (divFloor (t.toInt * 65536) (2 ^ s.dev.f (F.TIM_BASE_CTRL.P_SHIFT b))) (-28147497671) 28147497671
              good := good } ∧
            e.slots = s.dev.slots ∧
            e.f (F.TIM_BASE_CTRL.STATE b) = (if 8 ≤ good then 2 else if s.dev.f (F.TIM_BASE_CTRL.STATE b) = 3 then 1
              else if near = false ∧ s.dev.f (F.TIM_BASE_CTRL.STATE b) = 2 then 1 else s.dev.f (F.TIM_BASE_CTRL.STATE b))))) ∧
      (s.dev.alive = true → host = true ∨ s.dev.netFree = false →
        (s.dev.f (F.TIM_BASE_CTRL.STATE b) = 1 ∨ s.dev.f (F.TIM_BASE_CTRL.STATE b) = 2 → s.Does (.holdover host) (fun e =>
          e.f (F.TIM_BASE_CTRL.STATE b) = 3 ∧ e.disc b = { s.dev.disc b with slew := 0 } ∧
          { s.dev with time := (s.dev.setDisc b (e.disc b)).time }.Only e [F.TIM_BASE_CTRL.STATE b])) ∧
        (s.dev.f (F.TIM_BASE_CTRL.STATE b) = 0 ∨ s.dev.f (F.TIM_BASE_CTRL.STATE b) = 3 → s.Ignores (.holdover host)))) ∧
    (s.dev.alive = false ∨ s.dev.link.ptm = false ∨ s.dev.canIssue = false → ∀ ns, s.Ignores (.ptmDialog ns)) ∧
    s.Ignores (.ptmDialog none) ∧
    (∀ n (t : BitVec 64), s.dev.alive = true → s.dev.link.ptm = true → s.dev.canIssue = true → s.dev.timingMaster = false →
      t.toInt = thetaOf (decToBin (n / 1000000000) (n % 1000000000)) (s.dev.baseVal 2) →
      s.Does (.ptmDialog (some n)) (fun e => exec (.referenceMeasurement true t) s = .next ⟨e, s.pending⟩)) ∧
    (s.dev.awake = true →
      (∀ b : Fin 4, s.Does (.rearm b) (fun e => e.f (F.TIM_BASE_CTRL.STEP_ARMED b) = 1 ∧ s.dev.Only e [F.TIM_BASE_CTRL.STEP_ARMED b])) ∧
      (s.dev.netFree = false → s.Ignores .netSetGo) ∧
      (s.dev.netFree = true → s.Does .netSetGo (fun e => e.time = { s.dev.time with net := { s.dev.time.net with
        count := s.dev.r64 R.TIM_NET_SET_LO R.TIM_NET_SET_HI * 2 ^ 48 } } ∧ e = { s.dev with time := e.time, slots := e.slots })) ∧
      (s.dev.allStand = false ∨ s.dev.axisLocks = false ∨ s.dev.f (F.TIM_BASE_CTRL.STEP_ARMED 3) = 0 → s.Ignores .axisStep) ∧
      (s.dev.allStand = true → s.dev.axisLocks = true → s.dev.f (F.TIM_BASE_CTRL.STEP_ARMED 3) = 1 → 0 < s.dev.servoPeriod →
        s.Does .axisStep (fun e => e.f (F.TIM_BASE_CTRL.STEP_ARMED 3) = 0 ∧ e.f (F.TIM_BASE_CTRL.STATE 3) = 1 ∧
          ∃ k next, e.time.axNext = some k ∧
            next = s.dev.netNs + (s.dev.servoPeriod * 10 - min (s.dev.servoPeriod * 10) (10 * (s.dev.time.axSub / 4))) ∧
            next ≤ k * (s.dev.servoPeriod * 10) ∧ k * (s.dev.servoPeriod * 10) < next + s.dev.servoPeriod * 10 ∧
            e.time.axLen = ((k * (s.dev.servoPeriod * 10) - next) / 10 : Nat))))

/-- Cairn and hardware stamps (R420, R423, R425, R444). A tick adds 30,517 ns, 37/64 ns and TRIM/64 ns, nothing lost; SET_GO and COPY take their
value and clear the fraction. An edge of PPS_IN or of a selected TEV input takes its stamp, sets its bit and raises the interrupt;
PPS_OUT pulses for PPS_W. -/
def Obligations.CairnAndStamps : Prop :=
  ∀ s : State,
    (s.dev.time.crnNs < 1000000000 → s.dev.time.crnFrac < 64 → s.dev.time.crnSec < 2 ^ 32 → s.Does .cairnTick (fun e =>
      e = { s.dev with time := e.time } ∧ e.time.crnNs < 1000000000 ∧ e.time.crnFrac < 64 ∧ e.time.crnSub = 0 ∧ ∃ carry, carry ≤ 1 ∧
        e.time.crnSec = (s.dev.time.crnSec + carry) % 2 ^ 32 ∧
        ((carry * 1000000000 + e.time.crnNs : Nat) * 64 + e.time.crnFrac : Int) =
          (s.dev.time.crnNs * 64 + s.dev.time.crnFrac : Nat) + 30517 * 64 + 37 + s.dev.fi F.CRN_CTRL.TRIM)) ∧
    (s.dev.awake = true →
      s.Does .cairnSetGo (fun e => e = { s.dev with time := e.time, slots := e.slots } ∧ e.time = { s.dev.time with
        crnSec := s.dev.f F.CRN_SET_HI.VALUE, crnNs := s.dev.f F.CRN_SET_LO.VALUE % 2 ^ 30, crnFrac := 0, crnSub := 0 }) ∧
      (∀ k : Fin 4, (k = 0 ∨ k = 3 → s.Ignores (.cairnCopy k)) ∧
        (k = 1 ∨ k = 2 → s.Does (.cairnCopy k) (fun e => e = { s.dev with time := e.time, slots := e.slots } ∧ e.time = { s.dev.time with
          crnSec := (binToDec (s.dev.baseVal k)).1 % 2 ^ 32, crnNs := (binToDec (s.dev.baseVal k)).2, crnFrac := 0, crnSub := 0 })))) ∧
    (s.dev.alive = false → s.Ignores .ppsEdge ∧ s.Ignores .ppsOut) ∧
    (s.dev.alive = true →
      s.Does .ppsOut (fun e => e = { s.dev with out := s.dev.out ++ [.pin "PPS_OUT" 0 (max 1 (s.dev.f F.TIM_CFG.PPS_W))] }) ∧
      (s.dev.timingMaster = false ∨ s.dev.f F.TIM_CFG.NET_SRC ≠ 2 → s.Does .ppsEdge (fun e =>
        bitOf (e.f F.TIM_EVT_STATUS.EVT_NEW) 8 = true ∧ e.f (intBit (intBitOf R.TIM_EVT_STATUS)) = 1 ∧
        e.r64 (R.TIM_EVT_TIME_LO 8) (R.TIM_EVT_TIME_HI 8) = s.dev.stampVal (s.dev.f F.TIM_CFG.EDGE_BASE) % 2 ^ 64 ∧
        s.dev.Only e [whole (R.TIM_EVT_TIME_LO 8), whole (R.TIM_EVT_TIME_HI 8), F.TIM_EVT_STATUS.EVT_NEW,
          F.TIM_STAMP_STATUS.FALLBACK_CNT, intBit (intBitOf R.TIM_EVT_STATUS)]))) ∧
    (∀ (n : Fin 4) (up : Bool),
      (s.dev.alive = false ∨ bitOf (s.dev.f F.TIM_CFG.TEV_DIR) n = true ∨
        bitOf (s.dev.f F.TIM_EVT_CFG.TEV_EDGE) (2 * n + (if up then 0 else 1)) = false → s.Ignores (.tevEdge n up)) ∧
      (s.dev.alive = true → bitOf (s.dev.f F.TIM_CFG.TEV_DIR) n = false →
        bitOf (s.dev.f F.TIM_EVT_CFG.TEV_EDGE) (2 * n + (if up then 0 else 1)) = true → s.Does (.tevEdge n up) (fun e =>
          bitOf (e.f F.TIM_EVT_STATUS.EVT_NEW) n = true ∧ e.f (intBit (intBitOf R.TIM_EVT_STATUS)) = 1 ∧
          e.r64 (R.TIM_EVT_TIME_LO n) (R.TIM_EVT_TIME_HI n) = s.dev.stampVal (s.dev.f F.TIM_CFG.EDGE_BASE) % 2 ^ 64 ∧
          s.dev.Only e [whole (R.TIM_EVT_TIME_LO n), whole (R.TIM_EVT_TIME_HI n), F.TIM_EVT_STATUS.EVT_NEW,
            F.TIM_STAMP_STATUS.FALLBACK_CNT, intBit (intBitOf R.TIM_EVT_STATUS)])))

/-- Scheduled actions (R426 to R429). TIME_SCHEDULE fills a free slot, late at once where its base is already at TIME; an unlisted action or base is
INVALID_FIELD, a pending slot SLOT_BUSY. Among the slots that are due the one of the lowest TIME, then number, acts: it is freed, a
late one under LATE_DROP completes LATE_DROPPED and does nothing, any other completes with its time and acts. -/
def Obligations.ScheduledActions : Prop :=
  ∀ s : State,
    (∀ src (n a : Fin 256) ld (b : Fin 8) (t : BitVec 64) ps,
      (a.val = 0 ∨ 10 < a.val ∨ 4 < b.val → s.Ends (.timeSchedule src n a ld b t ps) src (plainCpl src 2 0 1) s.dev) ∧
      (0 < a.val → a.val ≤ 10 → b.val ≤ 4 →
        (s.dev.modeIn [.standby, .calibrate, .run, .service] = false → s.Ends (.timeSchedule src n a ld b t ps) src (plainCpl src 5 0 0) s.dev) ∧
        (s.dev.modeIn [.standby, .calibrate, .run, .service] = true →
          (s.dev.slot n ≠ none → s.Ends (.timeSchedule src n a ld b t ps) src (plainCpl src 3 1 0) s.dev) ∧
          (s.dev.slot n = none → s.Does (.timeSchedule src n a ld b t ps) (fun e =>
            e = { s.dev.startRun src (.schedule n) with slots := e.slots } ∧ (∀ m, m ≠ n.val → e.slot m = s.dev.slot m) ∧
            e.slot n = some ⟨a, ld, b, t.toNat, (List.range 4).map (fun i => (ps.getD i 0#32).toNat), src, s.dev.nextRun,
              decide (t.toNat ≤ s.dev.slotBase b)⟩))))) ∧
    (s.dev.awake = false ∨ (∀ c ∈ s.dev.slots, s.dev.slotBase c.2.base < c.2.time) → s.Ignores .actionDue) ∧
    (∀ n x r, s.dev.awake = true → (n, x) ∈ s.dev.slots → x.time ≤ s.dev.slotBase x.base →
      (∀ c ∈ s.dev.slots, c.2.time ≤ s.dev.slotBase c.2.base → x.time < c.2.time ∨ (x.time = c.2.time ∧ n < c.1) ∨ c = (n, x)) →
      s.dev.running.find? (fun y => y.id = x.runId) = some r →
      (x.late = true → x.lateDrop = true → s.Does .actionDue (fun e =>
        { s.dev with slots := s.dev.slots.filter (fun c => c.1 ≠ n), running := s.dev.running.filter (fun y => y.id ≠ x.runId) }.Answered e
          (s.dev.ring r.src) (plainCpl r.src 7 0 0))) ∧
      (x.late = false ∨ x.lateDrop = false → x.base = 4 ∨ s.dev.f (F.TIM_BASE_CTRL.STATE x.base) ≠ 0 → x.action = 3 →
        ∀ p, p = x.param.getD 0 0 → bitOf (s.dev.f F.TIM_CFG.TEV_DIR) (p % 4) = true → p / 256 % 4 < 2 → s.Does .actionDue (fun e => ∃ k : Dev,
          { s.dev with slots := s.dev.slots.filter (fun c => c.1 ≠ n), running := s.dev.running.filter (fun y => y.id ≠ x.runId) }.Answered k
            (s.dev.ring r.src) { plainCpl r.src 0 0 0 with
              words := [r.src.cid.val * 2 ^ 16 + r.src.sq.val * 2 ^ 10, 0, s.dev.slotBase x.base % 2 ^ 32,
                s.dev.slotBase x.base / 2 ^ 32 % 2 ^ 32, 0, 0, 0], late := x.late } ∧
          e.time = { s.dev.time with tev := s.dev.time.tev.set (p % 4) (decide (p / 256 % 4 = 1)) } ∧
          e.out = k.out ++ [.pin "TEV" (p % 4) (p / 256 % 4)] ∧ e.f F.CRN_LAST.SLOT = n % 256 ∧ e.f F.CRN_LAST.RESULT = 0 ∧
          { k with time := e.time, out := e.out }.Only e [F.CRN_LAST.SLOT, F.CRN_LAST.RESULT])))

/-! ## Tether (chapter 17) -/

/-- The links of the ring, SYNC and the station's timeouts (R34, R432, R434-R437, R439). A link that locks may measure its delay: PD_REQ goes out with
its own SEQ and t1 is kept. A link lost while it carried traffic wraps the node. The timing master sends SYNC and FOLLOW with one
SEQ, its identity and priority, ORIGIN and CORR = 0. A node with a priority that hears no better SYNC becomes master, and NET does not step.
The feed master without returned frames holds FEED, a follower without its master reports it. -/
def Obligations.TetherLinks : Prop :=
  ∀ s : State,
    (∀ west p, p = (if west then 1 else 0) → s.dev.tet.ports.length = 2 →
      (s.dev.alive = false ∨ s.dev.f F.TET_CFG.EN = 0 → s.Ignores (.tetherLinkUp west) ∧ s.Ignores (.pdReq west)) ∧
      (s.dev.alive = true → s.dev.f F.TET_CFG.EN = 1 →
        s.Does (.tetherLinkUp west) (fun e => e.port p = { s.dev.port p with locked := true } ∧ e.port (1 - p) = s.dev.port (1 - p) ∧
          e = { s.dev with tet := { s.dev.tet with ports := e.tet.ports } }) ∧
        ((s.dev.port p).locked = false → s.Ignores (.pdReq west)) ∧
        ((s.dev.port p).locked = true → ∀ seq, seq = s.dev.tet.seqs.getD 2 0 → s.Does (.pdReq west) (fun e =>
          e.port p = { s.dev.port p with t1 := some (s.dev.baseVal 0) } ∧ e.port (1 - p) = s.dev.port (1 - p) ∧
          e = { s.dev with
            tet := { s.dev.tet with
              ports := e.tet.ports
              seqs := s.dev.tet.seqs.set 2 ((seq + 1) % 65536) }
            out := s.dev.out ++ [.frame p (s.dev.makeFrame 3 0 0 seq [])] }))) ∧
      ((s.dev.port p).locked = false → s.Ignores (.tetherLinkDown west)) ∧
      ((s.dev.port p).locked = true → s.Does (.tetherLinkDown west) (fun e =>
        e.port p = portInit ∧ e.port (1 - p) = s.dev.port (1 - p) ∧ e.f (F.TET_PORT.UP p) = 0 ∧
        ((s.dev.port p).carries = true → e.f F.TET_STATUS.WRAPPED = 1 ∧ e.f F.TET_STATUS.REROUTED = 1) ∧
        { s.dev with tet := { s.dev.tet with ports := e.tet.ports } }.Only e (F.TET_PORT.UP p ::
          if (s.dev.port p).carries then [F.TET_STATUS.WRAPPED, F.TET_STATUS.REROUTED, intBit 14] else [])))) ∧
    (s.dev.alive = false ∨ s.dev.f F.TET_CFG.EN = 0 ∨ s.dev.f F.TET_STATUS.TIMING_MASTER = 0 → s.Ignores .sync) ∧
    (s.dev.alive = true → s.dev.f F.TET_CFG.EN = 1 → s.dev.f F.TET_STATUS.TIMING_MASTER = 1 →
      ∀ seq id t sync follow, seq = s.dev.tet.seqs.getD 0 0 → id = s.dev.r64 R.TOP_DSN_LO R.TOP_DSN_HI → t = s.dev.baseVal 1 →
        sync = s.dev.makeFrame 1 0 0 seq [id % 2 ^ 32, id / 2 ^ 32 % 2 ^ 32, s.dev.f F.TET_CFG.PRIORITY * 2 ^ 24] →
        follow = s.dev.makeFrame 2 0 0 seq [t % 2 ^ 32, t / 2 ^ 32 % 2 ^ 32] →
        s.Does .sync (fun e => e = { s.dev with
            tet := e.tet
            out := e.out } ∧
          e.tet.seqs = (s.dev.tet.seqs.set 0 ((seq + 1) % 65536)).set 1 ((seq + 1) % 65536) ∧ e.tet.ports = s.dev.tet.ports ∧
          ((s.dev.port 0).carries = true → e.out = s.dev.out ++ [.frame 0 sync, .frame 0 follow]) ∧
          ((s.dev.port 0).carries = false → (s.dev.port 1).carries = true →
            e.out = s.dev.out ++ [.frame 1 (wrapFrame sync), .frame 1 (wrapFrame follow)]) ∧
          ((s.dev.port 0).carries = false → (s.dev.port 1).carries = false → e.out = s.dev.out))) ∧
    (s.dev.alive = false ∨ s.dev.f F.TET_CFG.EN = 0 ∨ s.dev.f F.TET_CFG.PRIORITY = 0 ∨ s.dev.f F.TET_STATUS.TIMING_MASTER = 1 →
      s.Ignores .electionTimeout) ∧
    (s.dev.alive = true → s.dev.f F.TET_CFG.EN = 1 → 0 < s.dev.f F.TET_CFG.PRIORITY → s.dev.f F.TET_STATUS.TIMING_MASTER = 0 →
      s.Does .electionTimeout (fun e => e.f F.TET_STATUS.TIMING_MASTER = 1 ∧ e.f F.TET_STATUS.MASTER_NODE = s.dev.f F.TET_CFG.NODE ∧
        e.f (F.TIM_BASE_CTRL.STATE 1) = (if s.dev.f F.TIM_CFG.NET_SRC = 0 then 2 else s.dev.f (F.TIM_BASE_CTRL.STATE 1)) ∧
        { s.dev with tet := { s.dev.tet with
            bestPriority := s.dev.f F.TET_CFG.PRIORITY
            bestId := s.dev.r64 R.TOP_DSN_LO R.TOP_DSN_HI } }.Only e
          [F.TET_STATUS.TIMING_MASTER, F.TET_STATUS.MASTER_NODE, F.TIM_BASE_CTRL.STATE 1])) ∧
    (s.dev.alive = false ∨ s.dev.inStation = false ∨ s.dev.f F.TET_CFG.FEED_MASTER = 0 → s.Ignores .govTimeout) ∧
    (s.dev.alive = true → s.dev.inStation = true → s.dev.f F.TET_CFG.FEED_MASTER = 1 → s.Does .govTimeout (fun e =>
      e.f F.TET_STATUS.GOV_LOST = 1 ∧
      { s.dev with tet := { s.dev.tet with lostHold := true } }.Only e [F.TET_STATUS.GOV_LOST, intBit 14])) ∧
    (s.dev.alive = false ∨ s.dev.inStation = false ∨ s.dev.f F.TET_CFG.FEED_MASTER = 1 → s.Ignores .stationMasterLost) ∧
    (s.dev.alive = true → s.dev.inStation = true → s.dev.f F.TET_CFG.FEED_MASTER = 0 → s.Does .stationMasterLost (fun e =>
      e.f F.TET_STATUS.STATION_MASTER_LOST = 1 ∧
      { s.dev with tet := { s.dev.tet with masterLost := true } }.Only e [F.TET_STATUS.STATION_MASTER_LOST, intBit 14]))

/-- A frame received (R431, R432, R434-R436, R438-R440). A bad one is counted and discarded. PD_REQ is answered on its link with TURN; PD_RESP gives
d_in, which makes the link carry traffic. Any other frame is forwarded with HOPS + 1 and delivered once; one's own is removed,
or shows DUP_NODE where the node did not send it. SYNC of a better node elects it, FOLLOW measures NET with θ = ORIGIN + CORR + d_in − r, and a
GOVERNOR frame that returns gives MEMBERS, FORMED and the ring's F, CAP and HOLD. -/
def Obligations.TetherFrames : Prop :=
  ∀ (s : State) (west : Bool) (words : List Word) (fwd p : Nat) (ws : List Nat) (typ src seq : Nat) (key : Seen) (seen : List Seen),
    p = (if west then 1 else 0) → ws = words.map (fun w => w.toNat) → typ = bitsOf (ws.headD 0) 31 28 → src = bitsOf (ws.headD 0) 27 24 →
    seq = bitsOf (ws.getD 1 0) 31 16 → key = ⟨src, typ, seq⟩ →
    seen = (if s.dev.tet.seen.contains key then s.dev.tet.seen else (key :: s.dev.tet.seen).take 64) →
    (s.dev.alive = false ∨ s.dev.f F.TET_CFG.EN = 0 → s.Ignores (.tetherFrameReceived west words fwd)) ∧
    (s.dev.alive = true → s.dev.f F.TET_CFG.EN = 1 →
      (frameOk ws = false → s.Does (.tetherFrameReceived west words fwd) (fun e =>
        e.f F.TET_COUNT.CRC_CNT = min (s.dev.f F.TET_COUNT.CRC_CNT + 1) 65535 ∧ s.dev.Only e [F.TET_COUNT.CRC_CNT])) ∧
      (frameOk ws = true →
        (typ = 3 → s.Does (.tetherFrameReceived west words fwd) (fun e => e = { s.dev with
          out := s.dev.out ++ [.frame p (s.dev.makeFrame 4 0 0 seq [fwd % 2 ^ 32, fwd / 2 ^ 32 % 2 ^ 32, p * 16 + s.dev.f F.TET_CFG.NODE])] })) ∧
        (typ = 4 → (s.dev.port p).t1 = none → s.Ignores (.tetherFrameReceived west words fwd)) ∧
        (typ = 4 → ∀ t1 din l, s.dev.tet.ports.length = 2 → (s.dev.port p).t1 = some t1 →
          din = divFloor (thetaOf (s.dev.baseVal 0) t1 - signed 64 (ws.getD 2 0 + ws.getD 3 0 * 2 ^ 32)) 2 + s.dev.fi (F.TET_ASYM.ASYM_ADJ p) →
          l = (din :: (s.dev.port p).dins).take 8 →
          s.Does (.tetherFrameReceived west words fwd) (fun e =>
            e.port p = ⟨(s.dev.port p).locked, true, none, l⟩ ∧ e.port (1 - p) = s.dev.port (1 - p) ∧
            e.f (F.TET_PORT.D_IN p) = unsigned 20 (divFloor (sumI l) l.length) ∧
            e.f (F.TET_PORT.NEIGHBOUR p) = bitsOf (ws.getD 4 0) 3 0 ∧
            ((s.dev.port p).carries = false → e.f (F.TET_PORT.UP p) = 1) ∧
            ((s.dev.port p).carries = false → s.dev.f F.TET_STATUS.WRAPPED = 1 → (s.dev.port (1 - p)).carries = true →
              e.f F.TET_STATUS.WRAPPED = 0 ∧ e.f F.TET_STATUS.REROUTED = 1) ∧
            { s.dev with tet := { s.dev.tet with ports := e.tet.ports } }.Only e [F.TET_PORT.D_IN p, F.TET_PORT.NEIGHBOUR p, F.TET_PORT.UP p,
              F.TET_STATUS.WRAPPED, F.TET_STATUS.REROUTED, intBit 14])) ∧
        (typ ≠ 3 → typ ≠ 4 → src = s.dev.f F.TET_CFG.NODE →
          (key ∉ s.dev.tet.sent → s.Does (.tetherFrameReceived west words fwd) (fun e => e.f F.TET_STATUS.DUP_NODE = 1 ∧
            { s.dev with tet := { s.dev.tet with seen := seen } }.Only e [F.TET_STATUS.DUP_NODE, intBit 14])) ∧
          (key ∈ s.dev.tet.sent → bitOf (ws.headD 0) 18 = false →
            typ ≠ 5 ∨ bitsOf (ws.headD 0) 7 0 ≠ 1 ∨ s.dev.inStation = false ∨ s.dev.f F.TET_CFG.FEED_MASTER = 0 →
            s.Does (.tetherFrameReceived west words fwd) (fun e => e = { s.dev with tet := { s.dev.tet with seen := seen } })) ∧
          (key ∈ s.dev.tet.sent → bitOf (ws.headD 0) 18 = true → key ∉ s.dev.tet.seen → (s.dev.port (1 - p)).carries = true →
            s.Does (.tetherFrameReceived west words fwd) (fun e => e = { s.dev with
              tet := { s.dev.tet with seen := seen }
              out := if bitsOf (ws.headD 0) 17 13 = 31 then s.dev.out else s.dev.out ++ [.frame (1 - p) (s.dev.onward ws)] })) ∧
          (key ∈ s.dev.tet.sent → bitOf (ws.headD 0) 18 = false → typ = 5 → bitsOf (ws.headD 0) 7 0 = 1 → s.dev.inStation = true →
            s.dev.f F.TET_CFG.FEED_MASTER = 1 → ∀ members locked masters holds ex ok n, members = bitsOf (ws.getD 4 0) 15 0 →
            masters = bitsOf (ws.getD 4 0) 31 16 → locked = bitsOf (ws.getD 5 0) 15 0 → holds = bitsOf (ws.getD 5 0) 31 16 →
            ex = s.dev.f F.TET_EXPECT.EXPECT → ok = decide (members &&& ex = ex ∧ locked &&& ex = ex) →
            n = (if ok then min 16 (s.dev.tet.govOk + 1) else 0) →
            s.Does (.tetherFrameReceived west words fwd) (fun e => e.f F.TET_STATUS.MEMBERS = members ∧
              (ok = false → e.f F.TET_STATUS.MEMBER_LOST = 1) ∧
              e.f F.TET_STATUS.FORMED = (if ok = true ∧ (s.dev.f F.TET_STATUS.FORMED = 1 ∨ 16 ≤ n) then 1 else 0) ∧
              (masters ≠ 2 ^ s.dev.f F.TET_CFG.NODE → e.f F.TET_STATUS.FEED_MASTER_CONFLICT = 1) ∧
              e.tet = { s.dev.tet with
                seen := seen
                ringF := bitsOf (ws.getD 2 0) 12 0
                ringCap := bitsOf (ws.getD 3 0) 23 0
                ringHold := decide (holds ≠ 0 ∧ holds ≠ 2 ^ s.dev.f F.TET_CFG.NODE)
                lostHold := false
                govOk := n
                conflict := decide (masters ≠ 2 ^ s.dev.f F.TET_CFG.NODE) } ∧
              { s.dev with
                tet := e.tet
                moves := e.moves }.Only e [F.TET_STATUS.MEMBERS, F.TET_STATUS.MEMBER_LOST, F.TET_STATUS.FORMED,
                  F.TET_STATUS.FEED_MASTER_CONFLICT, intBit 14]))) ∧
        (typ ≠ 3 → typ ≠ 4 → src ≠ s.dev.f F.TET_CFG.NODE →
          (key ∈ s.dev.tet.seen → typ ≠ 1 → s.Does (.tetherFrameReceived west words fwd) (fun e => e = { s.dev with out := e.out } ∧
            (bitsOf (ws.headD 0) 17 13 = 31 → e.out = s.dev.out) ∧
            (bitsOf (ws.headD 0) 17 13 < 31 →
              ((s.dev.port (1 - p)).carries = true → e.out = s.dev.out ++ [.frame (1 - p) (s.dev.onward ws)]) ∧
              ((s.dev.port (1 - p)).carries = false → bitOf ((s.dev.onward ws).headD 0) 18 = true → e.out = s.dev.out) ∧
              ((s.dev.port (1 - p)).carries = false → bitOf ((s.dev.onward ws).headD 0) 18 = false → (s.dev.port p).carries = true →
                e.out = s.dev.out ++ [.frame p (wrapFrame (s.dev.onward ws))])))) ∧
          (key ∉ s.dev.tet.seen → typ = 1 → ∀ pr id, pr = bitsOf (ws.getD 4 0) 31 24 → id = ws.getD 2 0 + ws.getD 3 0 * 2 ^ 32 →
            s.Does (.tetherFrameReceived west words fwd) (fun e =>
              e.tet.syncSeq = seq ∧ e.tet.syncPort = p ∧ e.tet.syncRecv = s.dev.baseVal 1 ∧
              ((0 < s.dev.f F.TET_CFG.PRIORITY ∧ nodeBetter pr id (s.dev.f F.TET_CFG.PRIORITY) s.dev.identity = false) ∨
                  (s.dev.f F.TET_STATUS.TIMING_MASTER = 0 ∧ nodeBetter s.dev.tet.bestPriority s.dev.tet.bestId pr id = true) →
                { s.dev with
                  tet := e.tet
                  out := e.out } = e) ∧
              ((s.dev.f F.TET_CFG.PRIORITY = 0 ∨ nodeBetter pr id (s.dev.f F.TET_CFG.PRIORITY) s.dev.identity = true) →
                  (s.dev.f F.TET_STATUS.TIMING_MASTER = 1 ∨ nodeBetter s.dev.tet.bestPriority s.dev.tet.bestId pr id = false) →
                e.f F.TET_STATUS.MASTER_NODE = src ∧ e.f F.TET_STATUS.TIMING_MASTER = 0 ∧ e.tet.bestPriority = pr ∧ e.tet.bestId = id ∧
                e.baseVal 1 = s.dev.baseVal 1 ∧
                { s.dev with
                  tet := e.tet
                  time := e.time }.Only e [F.TET_STATUS.MASTER_NODE, F.TET_STATUS.TIMING_MASTER, F.TIM_BASE_CTRL.STATE 1]))) ∧
          (key ∉ s.dev.tet.seen → typ = 2 → s.dev.f F.TET_STATUS.TIMING_MASTER = 0 → seq = s.dev.tet.syncSeq →
            src = s.dev.f F.TET_STATUS.MASTER_NODE → ∀ θ : BitVec 64, θ = BitVec.ofInt 64 ((ws.getD 2 0 + ws.getD 3 0 * 2 ^ 32 : Nat) +
              signed 64 (ws.getD 4 0 + ws.getD 5 0 * 2 ^ 32) + s.dev.dIn s.dev.tet.syncPort - s.dev.tet.syncRecv) →
            s.Does (.tetherFrameReceived west words fwd) (fun e => ∃ t, exec (.referenceMeasurement false θ) s = .next t ∧
              e = { t.dev with
                tet := { s.dev.tet with seen := seen }
                out := e.out })) ∧
          (key ∉ s.dev.tet.seen → typ = 5 → bitsOf (ws.headD 0) 7 0 = 1 → s.dev.inStation = true → s.dev.f F.TET_CFG.FEED_MASTER = 0 →
            bitsOf (ws.headD 0) 19 19 = s.dev.f F.TET_CFG.STATION →
            s.Does (.tetherFrameReceived west words fwd) (fun e => e.f F.TET_STATUS.FORMED = bitsOf (ws.getD 2 0) 17 17 ∧
              e.tet = { s.dev.tet with
                seen := seen
                feedMaster := some src
                masterLost := false
                masterPeriod := some (bitsOf (ws.getD 6 0) 13 0) } ∧
              (bitsOf (ws.getD 6 0) 13 0 ≠ s.dev.servoPeriod → e.f F.TET_STATUS.PERIOD_MISMATCH = 1) ∧
              { s.dev with tet := e.tet }.Only e [F.TET_STATUS.FORMED, F.TET_STATUS.PERIOD_MISMATCH, intBit 14])) ∧
          (key ∉ s.dev.tet.seen → typ = 5 → bitsOf (ws.headD 0) 7 0 = 2 → s.dev.inStation = true → s.dev.f F.TET_CFG.FEED_MASTER = 0 →
            bitsOf (ws.headD 0) 19 19 = s.dev.f F.TET_CFG.STATION → ∀ t, s.dev.tet.latchTime = some t →
            ((thetaOf t (ws.getD 4 0 + ws.getD 5 0 * 2 ^ 32)).natAbs ≤ 4294967 → s.Does (.tetherFrameReceived west words fwd) (fun e =>
              (e.ax 0).x = (s.dev.ax 0).x + (signed 64 (ws.getD 2 0 + ws.getD 3 0 * 2 ^ 32) - s.dev.tet.latchPos) * 2 ^ 32)) ∧
            (4294967 < (thetaOf t (ws.getD 4 0 + ws.getD 5 0 * 2 ^ 32)).natAbs → s.Does (.tetherFrameReceived west words fwd) (fun e =>
              e.f F.TET_STATUS.REF_MISMATCH = 1 ∧
              { s.dev with tet := { s.dev.tet with seen := seen } }.Only e [F.TET_STATUS.REF_MISMATCH, intBit 14]))))))

/-! ## Security, ledger and test access (chapters 19 to 21) -/

/-- ATTEST and STORE_WRITE (R469, R472, R475, R476, R479 to R481). An address that is no multiple of 8 is INVALID_FIELD word 2. ATTEST wants STANDBY,
CALIBRATE, RUN or SERVICE (1), 512 bytes (4) and an identity (0x10); the report is signed with the identity. STORE_WRITE wants STANDBY,
CALIBRATE or SERVICE (1) and no write under way (2), reads its image (4 when that fails) and checks it before a byte of flash or OTP changes.
An accepted firmware image goes to the slot that does not run, a calibration store to the slot not in use, which then is in use. -/
def Obligations.StoreCommands : Prop :=
  ∀ (s : State) (src : Src) (addr len : Nat) (img : HostRead) (fe : FlashEnd) (ok : Cpl) (d : Dev),
    ok = cmdCpl src { c := len } → d = { s.dev with out := s.dev.out ++ [.hostRead addr len] } →
    (∀ nonce,
      (addr % 8 ≠ 0 → s.Ends (.attest src addr len nonce) src (plainCpl src 2 0 2) s.dev) ∧
      (addr % 8 = 0 →
        (s.dev.modeIn [.standby, .calibrate, .run, .service] = false → s.Ends (.attest src addr len nonce) src (plainCpl src 3 1 0) s.dev) ∧
        (s.dev.modeIn [.standby, .calibrate, .run, .service] = true →
          (len < 512 → s.Ends (.attest src addr len nonce) src (plainCpl src 3 4 0) s.dev) ∧
          (512 ≤ len → s.dev.sec.otp.seed = none → s.Ends (.attest src addr len nonce) src (plainCpl src 3 0x10 0) s.dev) ∧
          (512 ≤ len → ∀ seed body, s.dev.sec.otp.seed = some seed → body = s.dev.attestBody nonce →
            body.take 40 = leBytes 4 0x54415A4C ++ leBytes 2 1 ++ leBytes 2 512 ++ part nonce 0 32 ∧
            s.Ends (.attest src addr len nonce) src (cmdCpl src { c := 512 })
              { s.dev with out := s.dev.out ++ [.hostWrite addr (body ++ edSign seed (sha512 body)) false] })))) ∧
    (∀ i ∈ [Instr.storeWriteFirmware src addr len img fe, .storeWriteCalStore src addr len img fe],
      (addr % 8 ≠ 0 → s.Ends i src (plainCpl src 2 0 2) s.dev) ∧
      (addr % 8 = 0 →
        (s.dev.modeIn [.standby, .calibrate, .service] = false → s.Ends i src (plainCpl src 3 1 0) s.dev) ∧
        (s.dev.modeIn [.standby, .calibrate, .service] = true → s.dev.f F.SEC_STORE_STATUS.WRITING = 1 →
          s.Ends i src (plainCpl src 3 2 0) s.dev) ∧
        (s.dev.modeIn [.standby, .calibrate, .service] = true → s.dev.f F.SEC_STORE_STATUS.WRITING = 0 → img = .error →
          s.Ends i src (plainCpl src 3 4 0) d))) ∧
    (addr % 8 = 0 → s.dev.modeIn [.standby, .calibrate, .service] = true → s.dev.f F.SEC_STORE_STATUS.WRITING = 0 → ∀ b, img = .data b →
      (∀ c, c = s.dev.otp.fwCode len b →
        (c ≠ 0 → s.Ends (.storeWriteFirmware src addr len img fe) src (plainCpl src 3 c 0) d) ∧
        (c = 0 → ∀ base, base = (match s.dev.sec.image with | some x => if x.slot = 0 then 0x400000 else 0 | none => 0) →
          (fe = .done → s.Does (.storeWriteFirmware src addr len img fe) (fun e => ∃ m : Dev, m = { d with flash := m.flash } ∧
            (∀ a, m.flashByte a = if base ≤ a ∧ a < base + 0x400000 then b.getD (a - base) 0xFF else s.dev.flashByte a) ∧
            m.Answered e (m.ring src) ok)) ∧
          (∀ n, fe = .lost n → s.Does (.storeWriteFirmware src addr len img fe) (fun e => e.f F.SEC_STORE_STATUS.WRITING = 1 ∧
            { d with flash := e.flash }.Only e [F.SEC_STORE_STATUS.WRITING] ∧
            ∀ a, a < base ∨ base + 0x400000 ≤ a → e.flashByte a = s.dev.flashByte a)) ∧
          (∀ n, fe = .timeout n → s.Does (.storeWriteFirmware src addr len img fe) (fun e => ∃ m : Dev, m = { d with flash := m.flash } ∧
            (∀ a, a < base ∨ base + 0x400000 ≤ a → m.flashByte a = s.dev.flashByte a) ∧
            m.Answered e (m.ring src) (plainCpl src 3 0x0D 0))))) ∧
      (∀ c, c = s.dev.storeCode len b →
        (c ≠ 0 → s.Ends (.storeWriteCalStore src addr len img fe) src (plainCpl src 3 c 0) d) ∧
        (c = 0 → ∀ slot base, slot = (match s.dev.sec.store with | some x => 1 - x.slot | none => 0) → base = 0x800000 + slot * 0x100000 →
          (fe = .done → s.Does (.storeWriteCalStore src addr len img fe) (fun e => ∃ m : Dev,
            (∀ a, m.flashByte a = if base ≤ a ∧ a < base + 0x100000 then b.getD (a - base) 0xFF else s.dev.flashByte a) ∧
            m.sec = { s.dev.sec with store := some ⟨slot, bufNat b 8 4, bufNat b 12 4, part b 96 64⟩ } ∧
            m.f F.SEC_STORE_STATUS.VALID = 1 ∧ m.f F.SEC_STORE_STATUS.SLOT = slot % 2 ∧ m.f F.SEC_STORE_SEQ.SEQ = bufNat b 8 4 ∧
            m = { d with
              flash := m.flash
              sec := m.sec
              regs := m.regs } ∧
            m.Answered e (m.ring src) ok)) ∧
          (∀ n, fe = .lost n → s.Does (.storeWriteCalStore src addr len img fe) (fun e => e.f F.SEC_STORE_STATUS.WRITING = 1 ∧
            { d with flash := e.flash }.Only e [F.SEC_STORE_STATUS.WRITING] ∧
            ∀ a, a < base ∨ base + 0x100000 ≤ a → e.flashByte a = s.dev.flashByte a)))))

/-- STORE_WRITE with STORE = OTP (R465, R466, R480). The request is checked before anything is programmed: length 4, header 5, SERIAL 0x0C, key 7,
signature 6. OEM_KEY_ADD programs an EMPTY slot with the digest of PUBKEY and its ACTIVE bit, REVOKE revokes its slot unless it is
ACTIVE alone, ROLLBACK_SET raises the count up to the running image's version, LOCK blows FLAGS bits; what each is not allowed ends with
NOT_ALLOWED or ROLLBACK and programs nothing. -/
def Obligations.OtpRequests : Prop :=
  ∀ (s : State) (src : Src) (addr len : Nat) (img : HostRead) (cut : Bool) (d : Dev), d = { s.dev with out := s.dev.out ++ [.hostRead addr len] } →
    ∀ p ∈ [(Instr.oemKeyAdd src addr len img cut, 1), (.oemKeyRevoke src addr len img, 2), (.rollbackSet src addr len img, 3),
        (.otpLock src addr len img, 4)],
      (∀ b, img = .data b → bufNat b 4 1 ≠ p.2 → s.Ignores p.1) ∧
      ((∀ b, img = .data b → bufNat b 4 1 = p.2) →
        (addr % 8 ≠ 0 → s.Ends p.1 src (plainCpl src 2 0 2) s.dev) ∧
        (addr % 8 = 0 →
          (s.dev.modeIn [.standby, .calibrate, .service] = false → s.Ends p.1 src (plainCpl src 3 1 0) s.dev) ∧
          (s.dev.modeIn [.standby, .calibrate, .service] = true → s.dev.f F.SEC_STORE_STATUS.WRITING = 1 →
            s.Ends p.1 src (plainCpl src 3 2 0) s.dev) ∧
          (s.dev.modeIn [.standby, .calibrate, .service] = true → s.dev.f F.SEC_STORE_STATUS.WRITING = 0 →
            (img = .error → s.Ends p.1 src (plainCpl src 3 4 0) d) ∧
            ∀ b, img = .data b →
              (len ≠ 160 ∨ b.length ≠ 160 → s.Ends p.1 src (plainCpl src 3 4 0) d) ∧
              (len = 160 → b.length = 160 →
                (otpHeaderOk b = false → s.Ends p.1 src (plainCpl src 3 5 0) d) ∧
                (otpHeaderOk b = true →
                  (bufNat b 8 8 ≠ s.dev.dsn → s.Ends p.1 src (plainCpl src 3 0x0C 0) d) ∧
                  (s.dev.otpAuth b ≠ 0 → s.Ends p.1 src (plainCpl src 3 (s.dev.otpAuth b) 0) d) ∧
                  (s.dev.otpAuth b = 0 → ∀ o : Otp, ∀ (t v : Nat) (done : Otp → Prop), o = s.dev.sec.otp → t = bufNat b 5 1 → v = bufNat b 80 4 →
                    (done = fun o' => s.Does p.1 (fun e => ∃ m : Dev, m.sec = { s.dev.sec with otp := o' } ∧
                      m.f F.SEC_OTP_STATUS.ROLLBACK_CNT = o'.rollback % 128 ∧ m.f F.SEC_OTP_STATUS.DEBUG_LOCK = b2n (bitOf o'.flags 1) ∧
                      m = { d with
                        sec := m.sec
                        regs := m.regs } ∧
                      if cut = true ∧ p.2 = 1 then e.f F.SEC_STORE_STATUS.WRITING = 1 ∧ m.Only e [F.SEC_STORE_STATUS.WRITING]
                      else m.Answered e (m.ring src) (cmdCpl src { c := 160 }))) →
                    (p.2 = 1 → (o.slot t).state ≠ 0 → s.Ends p.1 src (plainCpl src 3 0x0B 0) d) ∧
                    (p.2 = 1 → (o.slot t).state = 0 →
                      done { o with slots := o.slots.set (t - 1) ⟨sha512 (part b 16 32), !cut, false⟩ }) ∧
                    (p.2 = 2 → (o.slot t).state = 1 → (o.slots.filter (fun k => k.state = 1)).length = 1 →
                      s.Ends p.1 src (plainCpl src 3 0x0B 0) d) ∧
                    (p.2 = 2 → (o.slot t).state ≠ 1 ∨ (o.slots.filter (fun k => k.state = 1)).length ≠ 1 →
                      done { o with slots := o.slots.set (t - 1) { o.slot t with revoked := true } }) ∧
                    (p.2 = 3 → v < o.rollback ∨ (∀ x, s.dev.sec.image = some x → x.version < v) ∧ (s.dev.sec.image = none → 0 < v) →
                      s.Ends p.1 src (plainCpl src 3 0x0A 0) d) ∧
                    (p.2 = 3 → o.rollback ≤ v → (∃ x, s.dev.sec.image = some x ∧ v ≤ x.version) → done { o with rollback := v }) ∧
                    (p.2 = 4 → done { o with flags := o.flags ||| v % 16 })))))))

/-- Debug unlock and ledger (R482, R489, R498). CHAL_REQ shows a challenge of 32 bytes, or LOCKED_OUT after 8 failures; RESP_GO uses it up, and only a
response that carries it, the device's serial and a good signature of an accepted key unlocks the SCOPE it asks for; LOCK_NOW locks
again and disconnects the test pins; a challenge expires. A queued ledger entry goes to the lowest empty slot. -/
def Obligations.DebugUnlock : Prop :=
  ∀ s : State,
    (s.dev.awake = false → s.Ignores .chalReq ∧ s.Ignores .respGo ∧ s.Ignores .lockNow) ∧
    (s.dev.awake = true →
      (8 ≤ s.dev.f F.SEC_DBG_STATUS.FAIL_CNT → s.Does .chalReq (fun e => e.f F.SEC_DBG_STATUS.RESULT = 6 ∧
        s.dev.Only e [F.SEC_DBG_STATUS.RESULT])) ∧
      (s.dev.f F.SEC_DBG_STATUS.FAIL_CNT < 8 → s.Does .chalReq (fun e => ∃ c, e.sec = { s.dev.sec with challenge := some c } ∧ c.length = 32 ∧
        e.f F.SEC_DBG_STATUS.CHAL_VALID = 1 ∧ (∀ n < 8, (e.reg (R.SEC_DBG_CHAL n)).toNat = bufNat c (4 * n) 4) ∧
        { s.dev with
          sec := e.sec
          free := e.free }.Only e (F.SEC_DBG_STATUS.CHAL_VALID :: (List.range 8).map (fun n => whole (R.SEC_DBG_CHAL n))))) ∧
      (s.dev.sec.challenge = none → s.Does .respGo (fun e => e.f F.SEC_DBG_STATUS.RESULT = 2 ∧ s.dev.Only e [F.SEC_DBG_STATUS.RESULT])) ∧
      (∀ c r, s.dev.sec.challenge = some c → r = s.dev.respCheck c →
        (r = 1 → part s.dev.response 16 32 = c ∧ bufNat s.dev.response 8 8 = s.dev.r64 R.TOP_DSN_LO R.TOP_DSN_HI ∧
          bufNat s.dev.response 0 4 = 0x55445A4C ∧ (bufNat s.dev.response 4 1 = 0 → s.dev.otp.anyActive = false) ∧
          sigOver (part s.dev.response 48 32) (part s.dev.response 0 80) (part s.dev.response 80 64) = true ∧
          s.Does .respGo (fun e => e.sec = { s.dev.sec with
              challenge := none
              unlock := some (bufNat s.dev.response 5 1) } ∧
            e.f F.SEC_DBG_STATUS.RESULT = 1 ∧ e.f F.SEC_DBG_STATUS.FAIL_CNT = 0 ∧ e.f F.SEC_DBG_STATUS.CHAL_VALID = 0 ∧
            e.f F.SEC_DBG_STATUS.UNLOCKED = 1 ∧ (s.dev.otp.flag 1 = true → e.f F.SEC_DBG_STATUS.SCOPE = bufNat s.dev.response 5 1))) ∧
        (r ≠ 1 → s.Does .respGo (fun e => e.sec = { s.dev.sec with challenge := none } ∧ e.f F.SEC_DBG_STATUS.RESULT = r ∧
          e.f F.SEC_DBG_STATUS.FAIL_CNT = min 8 (s.dev.f F.SEC_DBG_STATUS.FAIL_CNT + 1) ∧ e.f F.SEC_DBG_STATUS.CHAL_VALID = 0 ∧
          { s.dev with sec := e.sec }.Only e (F.SEC_DBG_STATUS.CHAL_VALID :: F.SEC_DBG_STATUS.RESULT :: F.SEC_DBG_STATUS.FAIL_CNT ::
            (List.range 8).map (fun n => whole (R.SEC_DBG_CHAL n)))))) ∧
      s.Does .lockNow (fun e => e = { s.dev with
          sec := { s.dev.sec with unlock := none }
          regs := e.regs } ∧
        (s.dev.otp.flag 1 = true → e.f F.SEC_DBG_STATUS.UNLOCKED = 0 ∧ e.f F.SEC_DBG_STATUS.SCOPE = 0 ∧ e.f F.TST_STATUS.ACTIVE = 0 ∧
          (∀ n < 4, e.reg (R.TST_ATEST_SEL n) = regReset (R.TST_ATEST_SEL n)) ∧
          ∀ n < 8, e.reg (R.TST_DTEST_SEL n) = regReset (R.TST_DTEST_SEL n)))) ∧
    (s.dev.sec.challenge = none → s.Ignores .challengeExpiry) ∧
    (s.dev.sec.challenge ≠ none → s.Does .challengeExpiry (fun e => e.sec = { s.dev.sec with challenge := none } ∧
      e.f F.SEC_DBG_STATUS.CHAL_VALID = 0 ∧ (∀ n < 8, e.reg (R.SEC_DBG_CHAL n) = 0) ∧
      { s.dev with sec := e.sec }.Only e (F.SEC_DBG_STATUS.CHAL_VALID :: (List.range 8).map (fun n => whole (R.SEC_DBG_CHAL n))))) ∧
    (s.dev.ledgerQ = [] → s.Ignores .ledgerWrite) ∧
    (∀ x t, s.dev.ledgerQ = x :: t → t.length < 16 → s.dev.ledger.length < 128 → s.Does .ledgerWrite (fun e =>
      e.ledger = s.dev.ledger ++ [x] ∧ e.f F.SEC_LEDGER_STATUS.QUEUED = t.length ∧
      e.f F.SEC_OTP_STATUS.LEDGER_USED = s.dev.ledger.length + 1 ∧
      { s.dev with
        ledger := e.ledger
        ledgerQ := t }.Only e [F.SEC_LEDGER_STATUS.QUEUED, F.SEC_OTP_STATUS.LEDGER_USED]))

/-- The test pins (R498, R499, R502). A write that would select with BUF = 0 a node of block 0x1 to 0x8 belonging to a channel whose output is
selected for a tap is refused with SEL_REFUSED and the previous selection stays; with BUF = 1 such a selection is accepted, and the line
output is not marked. A selection while the pins are not connected is an access error of kind LOCKED, a code that no table lists one of
kind VALUE. An accepted one opens the ATEST pin, or drives the DTEST pin low, before the new node or signal appears. -/
def Obligations.TestPins : Prop :=
  ∀ (s : State) (rq : Req) (atest : Bool) (n : Fin 8) (v : Word) (a sel : Nat) (tapped : Prop),
    a = (if atest then R.TST_ATEST_SEL n else R.TST_DTEST_SEL n) → sel = bitsOf v.toNat 9 0 →
    tapped = (atest = true ∧ 0x1 ≤ sel / 64 ∧ sel / 64 ≤ 0x8 ∧ (s.dev.ch (sel / 64 - 1) (sel % 64 / 4)).tapOf ≠ none) →
    (s.dev.awake = false ∨ (atest = true ∧ 3 < n.val) → s.Ignores (.tstSelect rq atest n v)) ∧
    (s.dev.awake = true → (atest = true → n.val ≤ 3) →
      (s.dev.tstActive = false → s.dev.errFree rq → s.Does (.tstSelect rq atest n v) (fun e => s.dev.Discarded e .locked a)) ∧
      (s.dev.tstActive = true → tstListed atest sel = false → s.dev.errFree rq →
        s.Does (.tstSelect rq atest n v) (fun e => s.dev.Discarded e .value a)) ∧
      (s.dev.tstActive = true → tstListed atest sel = true → tapped → bitOf v.toNat 30 = false →
        s.Does (.tstSelect rq atest n v) (fun e => e.f F.TST_STATUS.SEL_REFUSED = 1 ∧ e.reg a = s.dev.reg a ∧
          { s.dev with nak := e.nak }.Only e [F.TST_STATUS.SEL_REFUSED, intBit 17])) ∧
      (s.dev.tstActive = true → tstListed atest sel = true → ¬ tapped ∨ bitOf v.toNat 30 = true →
        s.Does (.tstSelect rq atest n v) (fun e => bitOf (e.reg a).toNat 31 = bitOf v.toNat 31 ∧
          bitsOf (e.reg a).toNat 9 0 = sel ∧ (atest = true → bitOf (e.reg a).toNat 30 = bitOf v.toNat 30) ∧
          s.dev.Only e [whole a] ∧ e.pba = s.dev.pba ∧
          e.out = s.dev.out ++ .pin (if atest then "ATEST_OPEN" else "DTEST_LOW") n 0 ::
            if bitOf v.toNat 31 then [.pin (if atest then "ATEST_NODE" else "DTEST_SIGNAL") n sel] else [])))

/-- The test access port (R504, R506). Without the MAIN rails no instruction loads. EXTEST and CLAMP let the cells drive the pins, HIGHZ floats
them; loading any other instruction after them gives the pins back and sets BSCAN_TOOK_PINS. IDCODE shifts out 0xB860454F. A debug
instruction selects a debug chain only while debug is open for JTAG, BYPASS and every other code the bypass register. -/
def Obligations.JtagInstructions : Prop :=
  ∀ s : State,
    (s.dev.railsValid = false → ∀ cells pins code, ∀ i ∈ [Instr.extest cells, .idcode, .samplePreload pins cells, .clamp, .highz,
      .debugInstruction code, .bypass code, .testLogicReset], s.Ignores i) ∧
    (s.dev.railsValid = true →
      (∀ cells, s.Does (.extest cells) (fun e => e.tapReg = .boundary ∧ e = { s.dev with
        tap := ⟨0, cells.getD s.dev.tap.boundary⟩
        out := s.dev.out ++ .scanDrive s.dev.tap.boundary :: (cells.toList.map .scanDrive) })) ∧
      s.Does .clamp (fun e => e.tapReg = .bypass ∧ e = { s.dev with
        tap := ⟨4, s.dev.tap.boundary⟩
        out := s.dev.out ++ [.scanDrive s.dev.tap.boundary] }) ∧
      s.Does .highz (fun e => e.tapReg = .bypass ∧ e = { s.dev with
        tap := ⟨5, s.dev.tap.boundary⟩
        out := s.dev.out ++ [.scanFloat] }) ∧
      (∀ pins cells (code other : Fin 256), 0x80 ≤ code.val → code.val ≤ 0xFE → other.val = 3 ∨ (5 < other.val ∧ other.val < 0x80) ∨ other.val = 0xFF →
        ∀ p ∈ [(Instr.idcode, 1, s.dev.tap.boundary, TapReg.ident, [Out.tdo 0xB860454F]),
            (.samplePreload pins cells, 2, cells.getD s.dev.tap.boundary, .boundary, [.tdo (pins.foldr (fun b n => b2n b + 2 * n) 0)]),
            (.debugInstruction code, code.val, s.dev.tap.boundary, if s.dev.debugOpen then .debug else .bypass, []),
            (.bypass other, other.val, s.dev.tap.boundary, .bypass, []), (.testLogicReset, 1, s.dev.tap.boundary, .ident, [])],
          (s.dev.tap.ir ∉ [0, 4, 5] → s.Does p.1 (fun e => e.tapReg = p.2.2.2.1 ∧ e = { s.dev with
            tap := ⟨p.2.1, p.2.2.1⟩
            out := s.dev.out ++ p.2.2.2.2 })) ∧
          (s.dev.tap.ir ∈ [0, 4, 5] → s.Does p.1 (fun e => e.tap = ⟨p.2.1, p.2.2.1⟩ ∧ e.tapReg = p.2.2.2.1 ∧
            e.f F.TST_STATUS.BSCAN_TOOK_PINS = 1 ∧ (∃ l, e.out = s.dev.out ++ .scanRelease :: (l ++ p.2.2.2.2)) ∧
            { s.dev with tap := e.tap }.Only e [F.TST_STATUS.BSCAN_TOOK_PINS, intBit 17]))))

/-! ## Registers, windows and reset (chapters 0 and 23) -/

/-- Reads of registers and windows (R13, R14, R451, R538). The read of a group's lowest word gives its value and copies the higher words
into the reader's own shadow, whence they are read, however old; a read clears RC fields and nothing else. In BOOT only the PWR_
and identification registers and the two security status registers answer, the others read 0, and so does an address that holds nothing. -/
def Obligations.RegisterReads : Prop :=
  ∀ (s : State) (rq : Req) (addr a : Nat), a = addr / 4 * 4 → ∀ i ∈ [Instr.rcRead rq addr, .twoHalfRead rq addr],
    (s.dev.mode = .dormant ∨ s.dev.rst ≠ none → s.Ignores i) ∧
    (s.dev.mode ≠ .dormant → s.dev.rst = none →
      (s.dev.mode = .boot → ¬ (0x10000 ≤ a ∧ a < 0x11000) → a ∉ [R.TOP_ID, R.TOP_DSN_LO, R.TOP_DSN_HI, R.SEC_BOOT_STATUS, R.SEC_OTP_STATUS] →
        s.Does i (fun e => e = { s.dev with out := s.dev.out ++ [.readData a 0] })) ∧
      (s.dev.mode ≠ .boot ∨ (0x10000 ≤ a ∧ a < 0x11000) ∨ a ∈ [R.TOP_ID, R.TOP_DSN_LO, R.TOP_DSN_HI, R.SEC_BOOT_STATUS, R.SEC_OTP_STATUS] →
        (∀ f, famOf a = some f → isHigher f.base = true → s.Does i (fun e =>
          e = { s.dev with out := s.dev.out ++ [.readData a (s.dev.shadow rq a)] })) ∧
        (∀ f, famOf a = some f → isHigher f.base = false → a ≠ R.SMP_POOL_STATUS → s.Does i (fun e =>
          e = { s.dev with
            regs := e.regs
            shadows := e.shadows
            out := s.dev.out ++ [.readData a (s.dev.view a)] } ∧
          e.reg a = s.dev.reg a &&& ~~~ f.bits .rc ∧ (∀ b, b ≠ a → e.reg b = s.dev.reg b) ∧
          (∀ o ∈ highersOf f.base, e.shadow rq (a + o) = s.dev.view (a + o)) ∧
          (∀ r x, x < 2 ^ 26 → (r ≠ rq ∨ ∀ o ∈ highersOf f.base, x ≠ a + o) → e.shadow r x = s.dev.shadow r x))) ∧
        (winHaul ≤ a → a < winHaul + 0x4000 → s.Does i (fun e => e = { s.dev with out := s.dev.out ++ [.readData a (s.dev.mem a 4)] })) ∧
        (famOf a = none → i2cWin a = none → hkcWin a = none → regionOf a = .none → rq = .host ∨ rq = .supervisor →
          s.Does i (fun e => e = { s.dev with out := s.dev.out ++ [.readData a 0] }))))

/-- Writes of registers and windows (R12 to R14, R302, R323, R451, R541). A register write that does not enable all four bytes is discarded and
recorded as PARTIAL_WRITE, or a bus error for a Haul channel; a base of an enabled ring is LOCKED, one off its 4 KiB boundary VALUE.
A writable register stores, a read-only one and an address that holds nothing ignore the write; program memory takes the enabled bytes. -/
def Obligations.RegisterWrites : Prop :=
  ∀ (s : State) (rq : Req) (addr a : Nat) (v : Word) (be : Fin 16), a = addr / 4 * 4 →
    (s.dev.mode = .dormant ∨ s.dev.rst ≠ none ∨ (s.dev.mode = .boot ∧ ¬ (0x10000 ≤ a ∧ a < 0x11000)) → s.Ignores (.registerWrite rq addr v be)) ∧
    (s.dev.awake = true →
      (be ≠ 15 → famOf a ≠ none →
        (s.dev.errFree rq → s.Does (.registerWrite rq addr v be) (fun e => s.dev.Discarded e .partialWrite a)) ∧
        (∀ c, rq = .haul c → s.Does (.registerWrite rq addr v be) (fun e => e = { s.dev with nak := true }))) ∧
      (be = 15 →
        (a ∈ (List.range 36).map R.SEC_DBG_RESP ++ (List.range 6).flatMap (fun i => [R.AXS_POS_SET_LO i, R.AXS_POS_SET_HI i]) ++
            [R.TIM_NET_SET_LO, R.TIM_NET_SET_HI, R.CRN_SET_LO, R.CRN_SET_HI, R.TET_ASYM 0, R.TET_ASYM 1] →
          s.Does (.registerWrite rq addr v be) (fun e => e = { s.dev with regs := e.regs } ∧ e.reg a = v ∧ ∀ b, b ≠ a → e.reg b = s.dev.reg b)) ∧
        (a ∈ [R.TOP_ID, R.TOP_DSN_LO, R.TOP_DSN_HI, R.SEC_STORE_SEQ, R.PWR_DOM_STATUS 0] ++ (List.range 8).map R.SEC_ID_PUBKEY →
          s.Does (.registerWrite rq addr v be) (fun e => e = { s.dev with regs := e.regs } ∧ ∀ b, e.reg b = s.dev.reg b)) ∧
        (∀ n : Fin 64, a ∈ [R.HST_SQ_BASE_LO n, R.HST_SQ_BASE_HI n] →
          (s.dev.f (F.HST_SQ_CFG.EN n) = 1 → s.dev.errFree rq → s.Does (.registerWrite rq addr v be) (fun e => s.dev.Discarded e .locked a)) ∧
          (s.dev.f (F.HST_SQ_CFG.EN n) = 0 → a = R.HST_SQ_BASE_LO n → v.toNat % 4096 ≠ 0 → s.dev.errFree rq →
            s.Does (.registerWrite rq addr v be) (fun e => s.dev.Discarded e .value a)) ∧
          (s.dev.f (F.HST_SQ_CFG.EN n) = 0 → a = R.HST_SQ_BASE_HI n ∨ v.toNat % 4096 = 0 → s.Does (.registerWrite rq addr v be) (fun e =>
            e = { s.dev with regs := e.regs } ∧ e.reg a = v ∧ ∀ b, b ≠ a → e.reg b = s.dev.reg b)))) ∧
      (winHaul ≤ a → a < winHaul + 0x4000 → s.Does (.registerWrite rq addr v be) (fun e => e = { s.dev with ram := e.ram } ∧
        (∀ i < 4, e.byte (a + i) = if bitOf be.val i then BitVec.ofNat 8 (v.toNat / 256 ^ i) else s.dev.byte (a + i)) ∧
        ∀ b, b < a ∨ a + 4 ≤ b → e.byte b = s.dev.byte b)) ∧
      (famOf a = none → i2cWin a = none → hkcWin a = none → regionOf a = .none → rq = .host ∨ rq = .supervisor →
        s.Ignores (.registerWrite rq addr v be)))

/-- The machine after power-on reset, as far as the spec gives it: mode BOOT and no request pending (R452), every register at the value of its
table, TOP_ID 0x8604 B0, no ring enabled, no interrupt, every shadow 0 (R538), the power-on cause flagged, the servo period 25 µs, and the
TAP at IDCODE (R504). The commands' queue is empty, which is the model's (log 1). -/
def Obligations.ResetState : Prop :=
  State.reset.pending = [] ∧ State.reset.dev.mode = .boot ∧ State.reset.dev.req = none ∧
    (∀ a, State.reset.dev.reg a = regReset a) ∧ State.reset.dev.f F.TOP_ID.PART = 0x8604 ∧ State.reset.dev.f F.TOP_ID.REVISION = 0xB0 ∧
    State.reset.dev.f F.PWR_MODE_STATUS.MODE = 0 ∧ State.reset.dev.f F.PWR_MODE_STATUS.PENDING = 0 ∧
    State.reset.dev.reg R.PWR_RESET_CAUSE = 0x80000000#32 ∧
    State.reset.dev.reg R.TOP_INT_STATUS = 0 ∧ State.reset.dev.reg R.TOP_INT_ENABLE = 0 ∧
    (∀ n < 64, State.reset.dev.f (F.HST_SQ_CFG.EN n) = 0 ∧ State.reset.dev.f (F.HST_CQ_CFG.EN n) = 0) ∧
    (∀ rq a, State.reset.dev.shadow rq a = 0) ∧ State.reset.dev.f F.AXS_SERVO_PERIOD.SERVO_PERIOD = 2500 ∧
    State.reset.dev.tap.ir = 1 ∧ State.reset.dev.out = []

/-- The machine right after reset has every memory in its canonical form, which every step keeps, and every waiting command well formed.
The canonical form is the model's own way of holding memory. -/
def Obligations.ResetCanon : Prop :=
  State.reset.Canon ∧ State.reset.QueueWf

end
end

