-- ==== Sys2Proof/Laws/Bits.lean ====
section
/-! SUPPORT. Bit fields of a word: what `bitsOf` reads after `putBits` wrote. -/

namespace Sys2Proof.Machine

theorem bitsOf_lt (w hi lo : Nat) : bitsOf w hi lo < 2 ^ (hi + 1 - lo) := Nat.mod_lt _ (Nat.two_pow_pos _)

theorem testBit_bitsOf (w hi lo i : Nat) : (bitsOf w hi lo).testBit i = (decide (i < hi + 1 - lo) && w.testBit (lo + i)) := by
  rw [bitsOf, Nat.testBit_mod_two_pow, Nat.testBit_div_two_pow, Nat.add_comm lo i]

/-- `putBits` as high part, field and low part. -/
theorem putBits_eq (w hi lo v : Nat) (h : lo ≤ hi + 1) :
    putBits w hi lo v = w / 2 ^ (hi + 1) * 2 ^ (hi + 1) + (v % 2 ^ (hi + 1 - lo) * 2 ^ lo + w % 2 ^ lo) := by
  have hp : (2 : Nat) ^ (hi + 1) = 2 ^ lo * 2 ^ (hi + 1 - lo) := by rw [← Nat.pow_add]; congr 1; omega
  have h1 : w / 2 ^ (hi + 1) = w / 2 ^ lo / 2 ^ (hi + 1 - lo) := by rw [hp, Nat.div_div_eq_div_mul]
  have h2 : w = (w / 2 ^ (hi + 1) * 2 ^ (hi + 1 - lo) + bitsOf w hi lo) * 2 ^ lo + w % 2 ^ lo := by
    rw [h1, bitsOf, Nat.div_add_mod', Nat.div_add_mod']
  have h3 : w / 2 ^ (hi + 1) * 2 ^ (hi + 1) = w / 2 ^ (hi + 1) * 2 ^ (hi + 1 - lo) * 2 ^ lo := by
    rw [hp, Nat.mul_assoc, Nat.mul_comm (2 ^ lo)]
  rw [putBits, h3]
  rw [Nat.add_mul] at h2
  omega

theorem testBit_putBits (w hi lo v i : Nat) (h : lo ≤ hi + 1) :
    (putBits w hi lo v).testBit i = if lo ≤ i ∧ i ≤ hi then v.testBit (i - lo) else w.testBit i := by
  have hlow : v % 2 ^ (hi + 1 - lo) * 2 ^ lo + w % 2 ^ lo < 2 ^ (hi + 1) := by
    have hp : (2 : Nat) ^ (hi + 1) = 2 ^ (hi + 1 - lo) * 2 ^ lo := by rw [← Nat.pow_add]; congr 1; omega
    have h1 := Nat.mod_lt v (Nat.two_pow_pos (hi + 1 - lo))
    have h2 := Nat.mod_lt w (Nat.two_pow_pos lo)
    have h3 : (v % 2 ^ (hi + 1 - lo) + 1) * 2 ^ lo ≤ 2 ^ (hi + 1 - lo) * 2 ^ lo := Nat.mul_le_mul_right _ h1
    rw [Nat.add_mul] at h3
    omega
  rw [putBits_eq w hi lo v h, Nat.mul_comm, Nat.testBit_two_pow_mul_add _ hlow]
  rw [Nat.mul_comm, Nat.testBit_two_pow_mul_add _ (Nat.mod_lt w (Nat.two_pow_pos lo))]
  rw [Nat.testBit_mod_two_pow, Nat.testBit_mod_two_pow, Nat.testBit_div_two_pow]
  by_cases h1 : i < hi + 1
  · by_cases h2 : i < lo
    · have : ¬(lo ≤ i ∧ i ≤ hi) := by omega
      simp [h1, h2, this]
    · have h3 : lo ≤ i ∧ i ≤ hi := by omega
      have h4 : i - lo < hi + 1 - lo := by omega
      simp [h1, h2, h3, h4]
  · have h2 : ¬(lo ≤ i ∧ i ≤ hi) := by omega
    have h3 : i - (hi + 1) + (hi + 1) = i := by omega
    simp [h1, h2, h3]

theorem putBits_lt (w hi lo v n : Nat) (h : lo ≤ hi + 1) (hn : hi < n) (hw : w < 2 ^ n) : putBits w hi lo v < 2 ^ n := by
  refine Nat.lt_pow_two_of_testBit _ (fun i hi' => ?_)
  rw [testBit_putBits _ _ _ _ _ h]
  have : ¬(lo ≤ i ∧ i ≤ hi) := by omega
  simp only [this, if_false]
  exact Nat.testBit_lt_two_pow (Nat.lt_of_lt_of_le hw (Nat.pow_le_pow_right (by omega) hi'))

/-- The field written reads as written. -/
theorem bitsOf_putBits_self (w hi lo v : Nat) (h : lo ≤ hi + 1) : bitsOf (putBits w hi lo v) hi lo = v % 2 ^ (hi + 1 - lo) := by
  refine Nat.eq_of_testBit_eq (fun i => ?_)
  rw [testBit_bitsOf, testBit_putBits _ _ _ _ _ h, Nat.testBit_mod_two_pow]
  by_cases h1 : i < hi + 1 - lo
  · have h2 : lo ≤ lo + i ∧ lo + i ≤ hi := by omega
    simp [h1, h2]
  · simp [h1]

/-- A field apart from the one written reads as before. -/
theorem bitsOf_putBits_apart (w hi lo v hi' lo' : Nat) (h : lo ≤ hi + 1) (ha : hi < lo' ∨ hi' < lo) :
    bitsOf (putBits w hi lo v) hi' lo' = bitsOf w hi' lo' := by
  refine Nat.eq_of_testBit_eq (fun i => ?_)
  rw [testBit_bitsOf, testBit_bitsOf, testBit_putBits _ _ _ _ _ h]
  by_cases h1 : i < hi' + 1 - lo'
  · have h2 : ¬(lo ≤ lo' + i ∧ lo' + i ≤ hi) := by omega
    simp [h1, h2]
  · simp [h1]

end Sys2Proof.Machine
end

