-- ==== Sys2Proof/Laws/Sparse.lean ====
section
/-! SUPPORT. Sparse tables: read after write, and the canonical form under every operation. -/

namespace Sys2Proof.Machine

variable {β : Type} {dflt : Nat → β}

theorem spGet_filter_ne (m : List (Nat × β)) {a b : Nat} (h : b ≠ a) :
    spGet dflt (m.filter (fun c => c.1 ≠ a)) b = spGet dflt m b := by
  induction m with
  | nil => rfl
  | cons c t ih =>
    by_cases hc : c.1 = a
    · simp only [ne_eq, hc, not_true_eq_false, decide_false, Bool.false_eq_true, not_false_eq_true, List.filter_cons_of_neg]
      have : c.1 ≠ b := by omega
      simp only [spGet, this, if_false]
      simpa using ih
    · simp only [ne_eq, hc, not_false_eq_true, decide_true, List.filter_cons_of_pos, spGet]
      split
      · rfl
      · simpa using ih

theorem spGet_filter_self (m : List (Nat × β)) (a : Nat) : spGet dflt (m.filter (fun c => c.1 ≠ a)) a = dflt a := by
  induction m with
  | nil => rfl
  | cons c t ih =>
    by_cases hc : c.1 = a
    · rw [List.filter_cons_of_neg (by simp [hc])]; exact ih
    · rw [List.filter_cons_of_pos (by simp [hc])]
      simp only [spGet, hc, if_false]
      exact ih

theorem spGet_spIns_ne (m : List (Nat × β)) {a b : Nat} (v : β) (h : b ≠ a) :
    spGet dflt (spIns a v m) b = spGet dflt m b := by
  have ha : a ≠ b := fun e => h e.symm
  induction m with
  | nil => simp only [spIns, spGet, ha, if_false]
  | cons c t ih =>
    unfold spIns
    split
    · simp only [spGet, ha, if_false]
    · simp only [spGet, ih]

theorem spGet_spIns_self (m : List (Nat × β)) (a : Nat) (v : β) (h : ∀ c ∈ m, c.1 ≠ a) :
    spGet dflt (spIns a v m) a = v := by
  induction m with
  | nil => simp only [spIns, spGet, if_true]
  | cons c t ih =>
    have hc : c.1 ≠ a := h c List.mem_cons_self
    unfold spIns
    split
    · simp only [spGet, if_true]
    · simp only [spGet, hc, if_false]
      exact ih (fun x hx => h x (List.mem_cons_of_mem _ hx))

variable [DecidableEq β]

/-- The key written reads as written. -/
@[simp] theorem spGet_spSet_self (m : List (Nat × β)) (a : Nat) (v : β) : spGet dflt (spSet dflt m a v) a = v := by
  unfold spSet
  split
  · next h => rw [spGet_filter_self, h]
  · exact spGet_spIns_self _ _ _ (fun c hc => by simpa using (List.mem_filter.mp hc).2)

/-- Every other key reads as before. -/
theorem spGet_spSet_ne (m : List (Nat × β)) {a b : Nat} (v : β) (h : b ≠ a) :
    spGet dflt (spSet dflt m a v) b = spGet dflt m b := by
  unfold spSet
  split
  · exact spGet_filter_ne m h
  · rw [spGet_spIns_ne _ _ h, spGet_filter_ne m h]

theorem spGet_spSet (m : List (Nat × β)) (a b : Nat) (v : β) :
    spGet dflt (spSet dflt m a v) b = if b = a then v else spGet dflt m b := by
  split
  · next h => rw [h, spGet_spSet_self]
  · next h => exact spGet_spSet_ne m v h

/-! ## The canonical form -/

theorem spIns_filter (m : List (Nat × β)) (a : Nat) (v : β) :
    (spIns a v m).filter (fun c => c.1 ≠ a) = m.filter (fun c => c.1 ≠ a) := by
  induction m with
  | nil => simp [spIns]
  | cons c t ih =>
    rw [spIns]
    split
    · simp [List.filter_cons]
    · rw [List.filter_cons, List.filter_cons, ih]

/-- The later of two writes of one key stays. -/
theorem spSet_spSet (m : List (Nat × β)) (a : Nat) (v w : β) : spSet dflt (spSet dflt m a v) a w = spSet dflt m a w := by
  have h : (spSet dflt m a v).filter (fun c => c.1 ≠ a) = m.filter (fun c => c.1 ≠ a) := by
    unfold spSet
    split
    · rw [List.filter_filter]
      simp
    · rw [spIns_filter, List.filter_filter]
      simp
  unfold spSet at h ⊢
  rw [h]

/-- The canonical form from `lo` on, as a proposition. -/
theorem spWfFrom_cons (lo : Option Nat) (k : Nat) (v : β) (t : List (Nat × β)) :
    spWfFrom dflt lo ((k, v) :: t) = true ↔ (∀ l, lo = some l → l < k) ∧ v ≠ dflt k ∧ spWfFrom dflt (some k) t = true := by
  cases lo with
  | none => simp [spWfFrom]
  | some l => simp [spWfFrom, and_assoc]

theorem spWfFrom_mono {lo lo' : Option Nat} (m : List (Nat × β)) (h : ∀ l, lo' = some l → ∃ x, lo = some x ∧ l ≤ x)
    (hm : spWfFrom dflt lo m = true) : spWfFrom dflt lo' m = true := by
  cases m with
  | nil => rfl
  | cons c t =>
    obtain ⟨k, v⟩ := c
    rw [spWfFrom_cons] at hm ⊢
    refine ⟨fun l hl => ?_, hm.2⟩
    obtain ⟨x, hx, hlx⟩ := h l hl
    exact Nat.lt_of_le_of_lt hlx (hm.1 x hx)

theorem spWfFrom_filter (p : Nat × β → Bool) (m : List (Nat × β)) (lo : Option Nat) (hm : spWfFrom dflt lo m = true) :
    spWfFrom dflt lo (m.filter p) = true := by
  induction m generalizing lo with
  | nil => rfl
  | cons c t ih =>
    obtain ⟨k, v⟩ := c
    rw [spWfFrom_cons] at hm
    by_cases hp : p (k, v) = true
    · rw [List.filter_cons_of_pos hp, spWfFrom_cons]
      exact ⟨hm.1, hm.2.1, ih _ hm.2.2⟩
    · rw [List.filter_cons_of_neg hp]
      refine ih lo (spWfFrom_mono t (fun l hl => ⟨k, rfl, Nat.le_of_lt (hm.1 l hl)⟩) hm.2.2)

theorem spWfFrom_spIns (m : List (Nat × β)) (lo : Option Nat) (a : Nat) (v : β) (hm : spWfFrom dflt lo m = true)
    (hlo : ∀ l, lo = some l → l < a) (hv : v ≠ dflt a) (ha : ∀ c ∈ m, c.1 ≠ a) : spWfFrom dflt lo (spIns a v m) = true := by
  induction m generalizing lo with
  | nil => exact (spWfFrom_cons lo a v []).mpr ⟨hlo, hv, rfl⟩
  | cons c t ih =>
    obtain ⟨k, w⟩ := c
    have hm' := (spWfFrom_cons lo k w t).mp hm
    unfold spIns
    split
    · next hlt =>
      refine (spWfFrom_cons lo a v _).mpr ⟨hlo, hv, (spWfFrom_cons (some a) k w t).mpr ⟨?_, hm'.2⟩⟩
      intro l hl
      cases hl
      exact hlt
    · next hnl =>
      have hne : k ≠ a := ha (k, w) List.mem_cons_self
      refine (spWfFrom_cons lo k w _).mpr ⟨hm'.1, hm'.2.1, ih (some k) hm'.2.2 ?_ (fun x hx => ha x (List.mem_cons_of_mem _ hx))⟩
      intro l hl
      cases hl
      omega

/-- A write keeps the canonical form. -/
theorem spWf_spSet (m : List (Nat × β)) (a : Nat) (v : β) (hm : spWf dflt m = true) : spWf dflt (spSet dflt m a v) = true := by
  unfold spSet
  split
  · exact spWfFrom_filter _ m none hm
  · next hv =>
    exact spWfFrom_spIns _ none a v (spWfFrom_filter _ m none hm) (fun l hl => by cases hl) hv
      (fun c hc => by simpa using (List.mem_filter.mp hc).2)

/-- Dropping entries keeps it. -/
theorem spWf_filter (p : Nat × β → Bool) (m : List (Nat × β)) (hm : spWf dflt m = true) : spWf dflt (m.filter p) = true :=
  spWfFrom_filter p m none hm

theorem spGet_below (m : List (Nat × β)) (l a : Nat) (hm : spWfFrom dflt (some l) m = true) (h : a ≤ l) :
    spGet dflt m a = dflt a := by
  induction m generalizing l with
  | nil => rfl
  | cons c t ih =>
    obtain ⟨k, v⟩ := c
    rw [spWfFrom_cons] at hm
    have hk : l < k := hm.1 l rfl
    have : k ≠ a := by omega
    simp only [spGet, this, if_false]
    exact ih k hm.2.2 (by omega)

theorem spWfFrom_ext (m n : List (Nat × β)) (lo : Option Nat) (hm : spWfFrom dflt lo m = true) (hn : spWfFrom dflt lo n = true)
    (h : ∀ a, spGet dflt m a = spGet dflt n a) : m = n := by
  induction m generalizing lo n with
  | nil =>
    cases n with
    | nil => rfl
    | cons c t =>
      obtain ⟨k, v⟩ := c
      have hk := h k
      simp only [spGet, if_true] at hk
      exact absurd hk.symm ((spWfFrom_cons lo k v t).mp hn).2.1
  | cons c t ih =>
    obtain ⟨k, v⟩ := c
    have hm' := (spWfFrom_cons lo k v t).mp hm
    cases n with
    | nil =>
      have hk := h k
      simp only [spGet, if_true] at hk
      exact absurd hk hm'.2.1
    | cons c' t' =>
      obtain ⟨k', v'⟩ := c'
      have hn' := (spWfFrom_cons lo k' v' t').mp hn
      have hkk : k = k' := by
        rcases Nat.lt_trichotomy k k' with hlt | heq | hgt
        · have hk := h k
          have hne : k' ≠ k := by omega
          simp only [spGet, if_true, hne, if_false] at hk
          rw [spGet_below t' k' k hn'.2.2 (by omega)] at hk
          exact absurd hk hm'.2.1
        · exact heq
        · have hk := h k'
          have hne : k ≠ k' := by omega
          simp only [spGet, if_true, hne, if_false] at hk
          rw [spGet_below t k k' hm'.2.2 (by omega)] at hk
          exact absurd hk.symm hn'.2.1
      subst hkk
      have hv : v = v' := by
        have hk := h k
        simpa only [spGet, if_true] using hk
      subst hv
      have ht : t = t' := by
        refine ih t' (some k) hm'.2.2 hn'.2.2 (fun a => ?_)
        have ha := h a
        by_cases hka : k = a
        · subst hka
          rw [spGet_below t k k hm'.2.2 (Nat.le_refl k), spGet_below t' k k hn'.2.2 (Nat.le_refl k)]
        · simpa only [spGet, hka, if_false] using ha
      rw [ht]

/-- Equal contents in canonical form are equal data. -/
theorem spWf_ext (m n : List (Nat × β)) (hm : spWf dflt m = true) (hn : spWf dflt n = true)
    (h : ∀ a, spGet dflt m a = spGet dflt n a) : m = n := spWfFrom_ext m n none hm hn h

end Sys2Proof.Machine
end

