-- ==== Sys2Proof/Laws/Ops.lean ====
section
/-! SUPPORT. The named operations over registers, windows and flash: read after write, and what each leaves alone. -/

namespace Sys2Proof.Machine

/-! ## Registers -/

@[simp] theorem Dev.reg_setReg_self (d : Dev) (a : Nat) (w : Word) : (d.setReg a w).reg a = w := spGet_spSet_self _ _ _

theorem Dev.reg_setReg_ne (d : Dev) {a b : Nat} (w : Word) (h : b ≠ a) : (d.setReg a w).reg b = d.reg b :=
  spGet_spSet_ne _ _ h

theorem Dev.reg_setReg (d : Dev) (a b : Nat) (w : Word) : (d.setReg a w).reg b = if b = a then w else d.reg b :=
  spGet_spSet _ _ _ _

theorem Dev.reg_setF_ne (d : Dev) (x : Fld) (v : Nat) {b : Nat} (h : b ≠ x.addr) : (d.setF x v).reg b = d.reg b :=
  d.reg_setReg_ne _ h

theorem Dev.setF_toNat (d : Dev) (x : Fld) (v : Nat) (h : x.lo ≤ x.hi + 1) (h' : x.hi < 32) :
    ((d.setF x v).reg x.addr).toNat = putBits (d.reg x.addr).toNat x.hi x.lo v := by
  rw [Dev.setF, Dev.reg_setReg_self, BitVec.toNat_ofNat]
  exact Nat.mod_eq_of_lt (putBits_lt _ _ _ _ _ h h' (d.reg x.addr).isLt)

/-- A field written reads as written, cut to its width. -/
theorem Dev.f_setF_self (d : Dev) (x : Fld) (v : Nat) (h : x.lo ≤ x.hi + 1) (h' : x.hi < 32) :
    (d.setF x v).f x = v % 2 ^ (x.hi + 1 - x.lo) := by
  rw [Dev.f, d.setF_toNat x v h h', bitsOf_putBits_self _ _ _ _ h]

/-- A field of another register reads as before. -/
theorem Dev.f_setF_ne (d : Dev) (x y : Fld) (v : Nat) (h : y.addr ≠ x.addr) : (d.setF x v).f y = d.f y := by
  rw [Dev.f, Dev.f, d.reg_setF_ne x v h]

/-- A field of the same register apart from the one written reads as before. -/
theorem Dev.f_setF_apart (d : Dev) (x y : Fld) (v : Nat) (h : x.lo ≤ x.hi + 1) (h' : x.hi < 32) (ha : y.addr = x.addr)
    (hd : x.hi < y.lo ∨ y.hi < x.lo) : (d.setF x v).f y = d.f y := by
  rw [Dev.f, Dev.f, ha, d.setF_toNat x v h h', bitsOf_putBits_apart _ _ _ _ _ _ h hd]

theorem Dev.f_setReg_ne (d : Dev) (y : Fld) {a : Nat} (w : Word) (h : y.addr ≠ a) : (d.setReg a w).f y = d.f y := by
  rw [Dev.f, Dev.f, d.reg_setReg_ne w h]

theorem Dev.on_eq (d : Dev) (x : Fld) : d.on x = decide (d.f x ≠ 0) := rfl

/-! ## Windows -/

@[simp] theorem Dev.byte_setByte_self (d : Dev) (a : Nat) (b : Byte) : (d.setByte a b).byte a = b := spGet_spSet_self _ _ _

theorem Dev.byte_setByte_ne (d : Dev) {a c : Nat} (b : Byte) (h : c ≠ a) : (d.setByte a b).byte c = d.byte c :=
  spGet_spSet_ne _ _ h

/-- Bytes stored at `a` leave every address outside them alone. -/
theorem Dev.byte_setBytes_out (d : Dev) (a : Nat) (l : List Byte) (c : Nat) (h : c < a ∨ a + l.length ≤ c) :
    (d.setBytes a l).byte c = d.byte c := by
  induction l generalizing d a with
  | nil => rfl
  | cons b t ih =>
    rw [List.length_cons] at h
    rw [Dev.setBytes, ih _ _ (by omega), Dev.byte_setByte_ne _ _ (by omega)]

/-- Byte `i` of the bytes stored at `a`. -/
theorem Dev.byte_setBytes_in (d : Dev) (a : Nat) (l : List Byte) (i : Nat) (h : i < l.length) :
    (d.setBytes a l).byte (a + i) = l[i] := by
  induction l generalizing d a i with
  | nil => exact absurd h (Nat.not_lt_zero _)
  | cons b t ih =>
    rw [Dev.setBytes]
    cases i with
    | zero => rw [Dev.byte_setBytes_out _ _ _ _ (Or.inl (by omega))]; exact Dev.byte_setByte_self _ _ _
    | succ k =>
      have h' : k < t.length := by rw [List.length_cons] at h; omega
      have := ih (d.setByte a b) (a + 1) k h'
      rw [show a + (k + 1) = a + 1 + k by omega, this]
      rfl

@[simp] theorem Dev.byte_setReg (d : Dev) (a : Nat) (w : Word) (c : Nat) : (d.setReg a w).byte c = d.byte c := rfl
@[simp] theorem Dev.byte_setF (d : Dev) (x : Fld) (v c : Nat) : (d.setF x v).byte c = d.byte c := rfl
@[simp] theorem Dev.reg_setByte (d : Dev) (a : Nat) (b : Byte) (c : Nat) : (d.setByte a b).reg c = d.reg c := rfl

theorem spGet_filter_key {β : Type} (dflt : Nat → β) (m : List (Nat × β)) (p : Nat → Bool) (a : Nat) :
    spGet dflt (m.filter (fun c => p c.1)) a = if p a then spGet dflt m a else dflt a := by
  induction m with
  | nil => simp [spGet]
  | cons c t ih =>
    by_cases hc : p c.1 = true
    · rw [List.filter_cons_of_pos (p := fun c : Nat × β => p c.1) hc]
      simp only [spGet, ih]
      split
      · next h => simp [← h, hc]
      · rfl
    · rw [List.filter_cons_of_neg (p := fun c : Nat × β => p c.1) hc, ih]
      by_cases ha : c.1 = a
      · have hp : ¬ p a = true := by rw [← ha]; exact hc
        simp [hp]
      · simp only [spGet, ha, if_false]

/-- A range cleared reads as nothing written; outside it nothing changes. -/
theorem Dev.byte_clearRange (d : Dev) (a n c : Nat) :
    (d.clearRange a n).byte c = if a ≤ c ∧ c < a + n then ramDflt c else d.byte c := by
  have h := spGet_filter_key ramDflt d.ram (fun x => !(decide (a ≤ x) && decide (x < a + n))) c
  refine h.trans ?_
  by_cases h1 : a ≤ c ∧ c < a + n
  · simp [h1.1, h1.2]
  · have h2 : ¬(a ≤ c) ∨ ¬(c < a + n) := by omega
    rcases h2 with h2 | h2 <;> simp [h2, Dev.byte]

/-- A register returned by a reset reads its reset value; one of a more lasting domain stays. -/
theorem Dev.reg_resetRegs (d : Dev) (dom : Domain) (a : Nat) :
    (d.resetRegs dom).reg a = if (regDomain a).rank < dom.rank then d.reg a else regReset a := by
  have h := spGet_filter_key regReset d.regs (fun x => decide ((regDomain x).rank < dom.rank)) a
  refine h.trans ?_
  simp [Dev.reg]

/-! ## Flash -/

theorem Dev.flashByte_setFlash_out (d : Dev) (a : Nat) (l : List Byte) (c : Nat) (h : c < a ∨ a + l.length ≤ c) :
    (d.setFlash a l).flashByte c = d.flashByte c := by
  induction l generalizing d a with
  | nil => rfl
  | cons b t ih =>
    rw [List.length_cons] at h
    rw [Dev.setFlash, ih _ _ (by omega)]
    exact spGet_spSet_ne _ _ (by omega)

end Sys2Proof.Machine
end

