-- ==== Sys2Proof/Laws/Only.lean ====
section
/-! SUPPORT. The register frame `Dev.Only` through the named operations, and what it says of a field read. -/

namespace Sys2Proof.Machine

/-- What a command does, from the device function it lifts. -/
theorem State.does {s : State} {i : Instr} {f : Dev → Dev} {Q : Dev → Prop} (h : exec i s = s.lift f) (q : Q (f s.dev)) :
    s.Does i Q := ⟨_, h, rfl, q⟩

theorem State.ignores {s : State} {i : Instr} {f : Dev → Dev} (h : exec i s = s.lift f) (q : f s.dev = s.dev) : s.Ignores i := by
  rw [State.Ignores, h, State.lift, q]

/-- Field `x` lies within one of the fields `l`, and within a word. -/
def Fld.within (x : Fld) (l : List Fld) : Prop :=
  x.lo ≤ x.hi + 1 ∧ x.hi < 32 ∧ ∃ y ∈ l, y.addr = x.addr ∧ y.lo ≤ x.lo ∧ x.hi ≤ y.hi

theorem bitOf_bitsOf (w i : Nat) : bitOf w i = decide (bitsOf w i i = 1) := by
  simp [bitOf, bitsOf]

theorem bitOf_testBit (w i : Nat) : bitOf w i = w.testBit i := by
  rw [Nat.testBit_eq_decide_div_mod_eq]; rfl

theorem bitOf_putBits_apart (w hi lo v i : Nat) (h : lo ≤ hi + 1) (hd : i < lo ∨ hi < i) :
    bitOf (putBits w hi lo v) i = bitOf w i := by
  rw [bitOf_bitsOf, bitOf_bitsOf, bitsOf_putBits_apart _ _ _ _ _ _ h hd.symm]

theorem Dev.Only.refl (d : Dev) (l : List Fld) : d.Only d l := ⟨rfl, fun _ _ _ => rfl⟩

theorem Dev.Only.trans {d e g : Dev} {l : List Fld} (h : d.Only e l) (h' : e.Only g l) : d.Only g l := by
  refine ⟨?_, fun a i hi => (h'.2 a i hi).trans (h.2 a i hi)⟩
  rw [h'.1, h.1]

theorem Dev.Only.mono {d e : Dev} {l l' : List Fld} (h : d.Only e l) (hl : l ⊆ l') : d.Only e l' :=
  ⟨h.1, fun a i hi => h.2 a i (fun ⟨x, hx, hy⟩ => hi ⟨x, hl hx, hy⟩)⟩

theorem Dev.Only.setF {d e : Dev} {l : List Fld} (h : d.Only e l) (x : Fld) (v : Nat) (hx : x.within l) :
    d.Only (e.setF x v) l := by
  refine h.trans ⟨rfl, fun a i hi => ?_⟩
  obtain ⟨h1, h2, y, hy, ha, hlo, hhi⟩ := hx
  by_cases hax : a = x.addr
  · subst hax
    rw [e.setF_toNat x v h1 h2]
    refine bitOf_putBits_apart _ _ _ _ _ h1 ?_
    by_contra hc
    exact hi ⟨y, hy, ha, by omega, by omega⟩
  · rw [e.reg_setF_ne x v hax]

theorem Dev.Only.setFI {d e : Dev} {l : List Fld} (h : d.Only e l) (x : Fld) (v : Int) (hx : x.within l) :
    d.Only (e.setFI x v) l := h.setF x _ hx

theorem Dev.Only.setB {d e : Dev} {l : List Fld} (h : d.Only e l) (x : Fld) (v : Bool) (hx : x.within l) :
    d.Only (e.setB x v) l := h.setF x _ hx

theorem Dev.Only.count {d e : Dev} {l : List Fld} (h : d.Only e l) (x : Fld) (n : Nat) (hx : x.within l) :
    d.Only (e.count x n) l := h.setF x _ hx

theorem Dev.Only.setReg {d e : Dev} {l : List Fld} (h : d.Only e l) (a : Nat) (w : Word) (hx : (whole a).within l) :
    d.Only (e.setReg a w) l := by
  refine h.trans ⟨rfl, fun b i hi => ?_⟩
  obtain ⟨-, -, y, hy, ha, hlo, hhi⟩ := hx
  by_cases hb : b = a
  · subst hb
    by_cases h32 : i < 32
    · exact absurd ⟨y, hy, ha, le_trans hlo (Nat.zero_le _), by simp [whole] at hhi; omega⟩ hi
    · rw [bitOf_testBit, bitOf_testBit]
      have lt : ∀ w : Word, w.toNat < 2 ^ i := fun w => lt_of_lt_of_le w.isLt (Nat.pow_le_pow_right (by decide) (by omega))
      rw [Nat.testBit_lt_two_pow (lt _), Nat.testBit_lt_two_pow (lt _)]
  · rw [e.reg_setReg_ne w hb]

theorem Dev.Only.set64 {d e : Dev} {l : List Fld} (h : d.Only e l) (lo hi v : Nat) (hl : (whole lo).within l)
    (hh : (whole hi).within l) : d.Only (e.set64 lo hi v) l := (h.setReg lo _ hl).setReg hi _ hh

theorem Dev.Only.emit {d e : Dev} {l : List Fld} (h : d.Only e l) (o : Out) : d.Only (e.emit o) l := by
  refine h.trans ⟨rfl, fun a i _ => rfl⟩

theorem Dev.Only.sendMsi {d e : Dev} {l : List Fld} (h : d.Only e l) (v : Nat) : d.Only (e.sendMsi v) l := by
  unfold Dev.sendMsi
  split
  · exact h.trans ⟨rfl, fun a i _ => rfl⟩
  · exact h.emit _

theorem Dev.Only.irq {d e : Dev} {l : List Fld} (h : d.Only e l) (b : Nat) (hb : (intBit b).within l) : d.Only (e.irq b) l := by
  have h1 := h.setF (intBit b) 1 hb
  unfold Dev.irq
  dsimp only
  split
  · exact h1.sendMsi _
  · exact h1

theorem Dev.Only.flag {d e : Dev} {l : List Fld} (h : d.Only e l) (x : Fld) (hx : x.within l)
    (hb : (intBit (intBitOf x.addr)).within l) : d.Only (e.flag x) l := by
  unfold Dev.flag
  split
  · exact h
  · exact (h.setF x 1 hx).irq _ hb

theorem Dev.Only.flagIf {d e : Dev} {l : List Fld} (h : d.Only e l) (b : Bool) (x : Fld) (hx : x.within l)
    (hb : (intBit (intBitOf x.addr)).within l) : d.Only (e.flagIf b x) l := by
  unfold Dev.flagIf
  split
  · exact h.flag x hx hb
  · exact h

theorem Dev.Only.ite {d a b : Dev} {l : List Fld} {p : Prop} [Decidable p] (ha : d.Only a l) (hb : d.Only b l) :
    d.Only (if p then a else b) l := by
  split
  · exact ha
  · exact hb

theorem Dev.Only.foldl {α : Type} {f : Dev → α → Dev} {l : List α} {d e : Dev} {fl : List Fld} (h : d.Only e fl)
    (hf : ∀ e x, d.Only e fl → d.Only (f e x) fl) : d.Only (l.foldl f e) fl := by
  induction l generalizing e with
  | nil => exact h
  | cons x t ih => exact ih (hf e x h)

/-- A field apart from those of the frame reads as before. -/
theorem Dev.Only.f {d e : Dev} {l : List Fld} (h : d.Only e l) (y : Fld)
    (hd : ∀ x ∈ l, x.addr ≠ y.addr ∨ y.hi < x.lo ∨ x.hi < y.lo) : e.f y = d.f y := by
  unfold Dev.f bitsOf
  apply Nat.eq_of_testBit_eq
  intro i
  rw [Nat.testBit_mod_two_pow, Nat.testBit_mod_two_pow, Nat.testBit_div_two_pow, Nat.testBit_div_two_pow]
  by_cases hi : i < y.hi + 1 - y.lo
  · have hn : ¬ inFields l y.addr (i + y.lo) := by
      rintro ⟨x, hx, ha, hlo, hhi⟩
      rcases hd x hx with h1 | h1 | h1
      · exact h1 ha
      · omega
      · omega
    have := h.2 _ _ hn
    rw [bitOf_testBit, bitOf_testBit] at this
    rw [this]
  · simp [hi]

/-- A register apart from those of the frame reads as before. -/
theorem Dev.Only.reg {d e : Dev} {l : List Fld} (h : d.Only e l) (a : Nat) (hd : ∀ x ∈ l, x.addr ≠ a) : e.reg a = d.reg a := by
  apply BitVec.eq_of_toNat_eq
  apply Nat.eq_of_testBit_eq
  intro i
  have hn : ¬ inFields l a i := fun ⟨x, hx, ha, _⟩ => hd x hx ha
  have := h.2 _ _ hn
  rwa [bitOf_testBit, bitOf_testBit] at this

theorem Dev.Only.accessErr {d e : Dev} {l : List Fld} (h : d.Only e l) (rq : Req) (bar2 : Bool) (k : ErrKind) (off : Nat)
    (hq : rq = .host ∨ rq = .supervisor) (hl : accessErrFields ⊆ l) : d.Only (e.accessErr rq bar2 k off) l := by
  have w : ∀ x : Fld, x.lo ≤ x.hi + 1 → x.hi < 32 → x.addr = R.TOP_ERR_STATUS ∨ x.addr = R.TOP_ERR_ADDR ∨ x = intBit 0 → x.within l := by
    intro x h1 h2 h3
    refine ⟨h1, h2, ?_⟩
    rcases h3 with h3 | h3 | h3
    · exact ⟨whole R.TOP_ERR_STATUS, hl (by simp [accessErrFields]), h3.symm, Nat.zero_le _, by simp [whole]; omega⟩
    · exact ⟨whole R.TOP_ERR_ADDR, hl (by simp [accessErrFields]), h3.symm, Nat.zero_le _, by simp [whole]; omega⟩
    · exact ⟨intBit 0, hl (by simp [accessErrFields]), by rw [h3], by rw [h3], by rw [h3]⟩
  unfold Dev.accessErr
  rcases hq with rfl | rfl
  all_goals
    dsimp only
    refine Dev.Only.ite ?_ ?_
    · exact (h.count _ _ (w _ (by decide) (by decide) (by decide))).flag _ (w _ (by decide) (by decide) (by decide)) (w _ (by decide) (by decide) (by decide))
    · exact (((((h.count _ _ (w _ (by decide) (by decide) (by decide))).setB _ _ (w _ (by decide) (by decide) (by decide))).setB _ _ (w _ (by decide) (by decide) (by decide))).setF _ _ (w _ (by decide) (by decide) (by decide))).setF _ _ (w _ (by decide) (by decide) (by decide))).flag _ (w _ (by decide) (by decide) (by decide)) (w _ (by decide) (by decide) (by decide))

end Sys2Proof.Machine
end

