-- ==== Sys2Proof/Laws/State.lean ====
section
/-! SUPPORT. Which fields of the device the named updates leave alone: one lemma per field and update (generated text), so that
no later proof unfolds a record update. -/

namespace Sys2Proof.Machine

@[simp] theorem Dev.setReg_ram (d : Dev) (a : Nat) (w : Word) : (d.setReg a w).ram = d.ram := rfl
@[simp] theorem Dev.setReg_flash (d : Dev) (a : Nat) (w : Word) : (d.setReg a w).flash = d.flash := rfl
@[simp] theorem Dev.setReg_shadows (d : Dev) (a : Nat) (w : Word) : (d.setReg a w).shadows = d.shadows := rfl
@[simp] theorem Dev.setReg_msixTab (d : Dev) (a : Nat) (w : Word) : (d.setReg a w).msixTab = d.msixTab := rfl
@[simp] theorem Dev.setReg_pba (d : Dev) (a : Nat) (w : Word) : (d.setReg a w).pba = d.pba := rfl
@[simp] theorem Dev.setReg_clock (d : Dev) (a : Nat) (w : Word) : (d.setReg a w).clock = d.clock := rfl
@[simp] theorem Dev.setReg_free (d : Dev) (a : Nat) (w : Word) : (d.setReg a w).free = d.free := rfl
@[simp] theorem Dev.setReg_out (d : Dev) (a : Nat) (w : Word) : (d.setReg a w).out = d.out := rfl
@[simp] theorem Dev.setReg_link (d : Dev) (a : Nat) (w : Word) : (d.setReg a w).link = d.link := rfl
@[simp] theorem Dev.setReg_mode (d : Dev) (a : Nat) (w : Word) : (d.setReg a w).mode = d.mode := rfl
@[simp] theorem Dev.setReg_req (d : Dev) (a : Nat) (w : Word) : (d.setReg a w).req = d.req := rfl
@[simp] theorem Dev.setReg_rst (d : Dev) (a : Nat) (w : Word) : (d.setReg a w).rst = d.rst := rfl
@[simp] theorem Dev.setReg_bar (d : Dev) (a : Nat) (w : Word) : (d.setReg a w).bar = d.bar := rfl
@[simp] theorem Dev.setReg_sqs (d : Dev) (a : Nat) (w : Word) : (d.setReg a w).sqs = d.sqs := rfl
@[simp] theorem Dev.setReg_cqs (d : Dev) (a : Nat) (w : Word) : (d.setReg a w).cqs = d.cqs := rfl
@[simp] theorem Dev.setReg_rr (d : Dev) (a : Nat) (w : Word) : (d.setReg a w).rr = d.rr := rfl
@[simp] theorem Dev.setReg_nextRun (d : Dev) (a : Nat) (w : Word) : (d.setReg a w).nextRun = d.nextRun := rfl
@[simp] theorem Dev.setReg_running (d : Dev) (a : Nat) (w : Word) : (d.setReg a w).running = d.running := rfl
@[simp] theorem Dev.setReg_ctxs (d : Dev) (a : Nat) (w : Word) : (d.setReg a w).ctxs = d.ctxs := rfl
@[simp] theorem Dev.setReg_supplies (d : Dev) (a : Nat) (w : Word) : (d.setReg a w).supplies = d.supplies := rfl
@[simp] theorem Dev.setReg_sump (d : Dev) (a : Nat) (w : Word) : (d.setReg a w).sump = d.sump := rfl
@[simp] theorem Dev.setReg_time (d : Dev) (a : Nat) (w : Word) : (d.setReg a w).time = d.time := rfl
@[simp] theorem Dev.setReg_slots (d : Dev) (a : Nat) (w : Word) : (d.setReg a w).slots = d.slots := rfl
@[simp] theorem Dev.setReg_tet (d : Dev) (a : Nat) (w : Word) : (d.setReg a w).tet = d.tet := rfl
@[simp] theorem Dev.setReg_i2c (d : Dev) (a : Nat) (w : Word) : (d.setReg a w).i2c = d.i2c := rfl
@[simp] theorem Dev.setReg_lanes (d : Dev) (a : Nat) (w : Word) : (d.setReg a w).lanes = d.lanes := rfl
@[simp] theorem Dev.setReg_expects (d : Dev) (a : Nat) (w : Word) : (d.setReg a w).expects = d.expects := rfl
@[simp] theorem Dev.setReg_pulses (d : Dev) (a : Nat) (w : Word) : (d.setReg a w).pulses = d.pulses := rfl
@[simp] theorem Dev.setReg_misses (d : Dev) (a : Nat) (w : Word) : (d.setReg a w).misses = d.misses := rfl
@[simp] theorem Dev.setReg_afeCh (d : Dev) (a : Nat) (w : Word) : (d.setReg a w).afeCh = d.afeCh := rfl
@[simp] theorem Dev.setReg_afeGrp (d : Dev) (a : Nat) (w : Word) : (d.setReg a w).afeGrp = d.afeGrp := rfl
@[simp] theorem Dev.setReg_ltn (d : Dev) (a : Nat) (w : Word) : (d.setReg a w).ltn = d.ltn := rfl
@[simp] theorem Dev.setReg_gal (d : Dev) (a : Nat) (w : Word) : (d.setReg a w).gal = d.gal := rfl
@[simp] theorem Dev.setReg_shd (d : Dev) (a : Nat) (w : Word) : (d.setReg a w).shd = d.shd := rfl
@[simp] theorem Dev.setReg_sur (d : Dev) (a : Nat) (w : Word) : (d.setReg a w).sur = d.sur := rfl
@[simp] theorem Dev.setReg_str (d : Dev) (a : Nat) (w : Word) : (d.setReg a w).str = d.str := rfl
@[simp] theorem Dev.setReg_flw (d : Dev) (a : Nat) (w : Word) : (d.setReg a w).flw = d.flw := rfl
@[simp] theorem Dev.setReg_meas (d : Dev) (a : Nat) (w : Word) : (d.setReg a w).meas = d.meas := rfl
@[simp] theorem Dev.setReg_axes (d : Dev) (a : Nat) (w : Word) : (d.setReg a w).axes = d.axes := rfl
@[simp] theorem Dev.setReg_moves (d : Dev) (a : Nat) (w : Word) : (d.setReg a w).moves = d.moves := rfl
@[simp] theorem Dev.setReg_nextMove (d : Dev) (a : Nat) (w : Word) : (d.setReg a w).nextMove = d.nextMove := rfl
@[simp] theorem Dev.setReg_servoT (d : Dev) (a : Nat) (w : Word) : (d.setReg a w).servoT = d.servoT := rfl
@[simp] theorem Dev.setReg_haul (d : Dev) (a : Nat) (w : Word) : (d.setReg a w).haul = d.haul := rfl
@[simp] theorem Dev.setReg_nak (d : Dev) (a : Nat) (w : Word) : (d.setReg a w).nak = d.nak := rfl
@[simp] theorem Dev.setReg_hkc (d : Dev) (a : Nat) (w : Word) : (d.setReg a w).hkc = d.hkc := rfl
@[simp] theorem Dev.setReg_hkcCal (d : Dev) (a : Nat) (w : Word) : (d.setReg a w).hkcCal = d.hkcCal := rfl
@[simp] theorem Dev.setReg_sec (d : Dev) (a : Nat) (w : Word) : (d.setReg a w).sec = d.sec := rfl
@[simp] theorem Dev.setReg_rows (d : Dev) (a : Nat) (w : Word) : (d.setReg a w).rows = d.rows := rfl
@[simp] theorem Dev.setReg_rowErrs (d : Dev) (a : Nat) (w : Word) : (d.setReg a w).rowErrs = d.rowErrs := rfl
@[simp] theorem Dev.setReg_tap (d : Dev) (a : Nat) (w : Word) : (d.setReg a w).tap = d.tap := rfl
@[simp] theorem Dev.setReg_ledgerQ (d : Dev) (a : Nat) (w : Word) : (d.setReg a w).ledgerQ = d.ledgerQ := rfl
@[simp] theorem Dev.setReg_ledger (d : Dev) (a : Nat) (w : Word) : (d.setReg a w).ledger = d.ledger := rfl

@[simp] theorem Dev.setF_ram (d : Dev) (x : Fld) (v : Nat) : (d.setF x v).ram = d.ram := rfl
@[simp] theorem Dev.setF_flash (d : Dev) (x : Fld) (v : Nat) : (d.setF x v).flash = d.flash := rfl
@[simp] theorem Dev.setF_shadows (d : Dev) (x : Fld) (v : Nat) : (d.setF x v).shadows = d.shadows := rfl
@[simp] theorem Dev.setF_msixTab (d : Dev) (x : Fld) (v : Nat) : (d.setF x v).msixTab = d.msixTab := rfl
@[simp] theorem Dev.setF_pba (d : Dev) (x : Fld) (v : Nat) : (d.setF x v).pba = d.pba := rfl
@[simp] theorem Dev.setF_clock (d : Dev) (x : Fld) (v : Nat) : (d.setF x v).clock = d.clock := rfl
@[simp] theorem Dev.setF_free (d : Dev) (x : Fld) (v : Nat) : (d.setF x v).free = d.free := rfl
@[simp] theorem Dev.setF_out (d : Dev) (x : Fld) (v : Nat) : (d.setF x v).out = d.out := rfl
@[simp] theorem Dev.setF_link (d : Dev) (x : Fld) (v : Nat) : (d.setF x v).link = d.link := rfl
@[simp] theorem Dev.setF_mode (d : Dev) (x : Fld) (v : Nat) : (d.setF x v).mode = d.mode := rfl
@[simp] theorem Dev.setF_req (d : Dev) (x : Fld) (v : Nat) : (d.setF x v).req = d.req := rfl
@[simp] theorem Dev.setF_rst (d : Dev) (x : Fld) (v : Nat) : (d.setF x v).rst = d.rst := rfl
@[simp] theorem Dev.setF_bar (d : Dev) (x : Fld) (v : Nat) : (d.setF x v).bar = d.bar := rfl
@[simp] theorem Dev.setF_sqs (d : Dev) (x : Fld) (v : Nat) : (d.setF x v).sqs = d.sqs := rfl
@[simp] theorem Dev.setF_cqs (d : Dev) (x : Fld) (v : Nat) : (d.setF x v).cqs = d.cqs := rfl
@[simp] theorem Dev.setF_rr (d : Dev) (x : Fld) (v : Nat) : (d.setF x v).rr = d.rr := rfl
@[simp] theorem Dev.setF_nextRun (d : Dev) (x : Fld) (v : Nat) : (d.setF x v).nextRun = d.nextRun := rfl
@[simp] theorem Dev.setF_running (d : Dev) (x : Fld) (v : Nat) : (d.setF x v).running = d.running := rfl
@[simp] theorem Dev.setF_ctxs (d : Dev) (x : Fld) (v : Nat) : (d.setF x v).ctxs = d.ctxs := rfl
@[simp] theorem Dev.setF_supplies (d : Dev) (x : Fld) (v : Nat) : (d.setF x v).supplies = d.supplies := rfl
@[simp] theorem Dev.setF_sump (d : Dev) (x : Fld) (v : Nat) : (d.setF x v).sump = d.sump := rfl
@[simp] theorem Dev.setF_time (d : Dev) (x : Fld) (v : Nat) : (d.setF x v).time = d.time := rfl
@[simp] theorem Dev.setF_slots (d : Dev) (x : Fld) (v : Nat) : (d.setF x v).slots = d.slots := rfl
@[simp] theorem Dev.setF_tet (d : Dev) (x : Fld) (v : Nat) : (d.setF x v).tet = d.tet := rfl
@[simp] theorem Dev.setF_i2c (d : Dev) (x : Fld) (v : Nat) : (d.setF x v).i2c = d.i2c := rfl
@[simp] theorem Dev.setF_lanes (d : Dev) (x : Fld) (v : Nat) : (d.setF x v).lanes = d.lanes := rfl
@[simp] theorem Dev.setF_expects (d : Dev) (x : Fld) (v : Nat) : (d.setF x v).expects = d.expects := rfl
@[simp] theorem Dev.setF_pulses (d : Dev) (x : Fld) (v : Nat) : (d.setF x v).pulses = d.pulses := rfl
@[simp] theorem Dev.setF_misses (d : Dev) (x : Fld) (v : Nat) : (d.setF x v).misses = d.misses := rfl
@[simp] theorem Dev.setF_afeCh (d : Dev) (x : Fld) (v : Nat) : (d.setF x v).afeCh = d.afeCh := rfl
@[simp] theorem Dev.setF_afeGrp (d : Dev) (x : Fld) (v : Nat) : (d.setF x v).afeGrp = d.afeGrp := rfl
@[simp] theorem Dev.setF_ltn (d : Dev) (x : Fld) (v : Nat) : (d.setF x v).ltn = d.ltn := rfl
@[simp] theorem Dev.setF_gal (d : Dev) (x : Fld) (v : Nat) : (d.setF x v).gal = d.gal := rfl
@[simp] theorem Dev.setF_shd (d : Dev) (x : Fld) (v : Nat) : (d.setF x v).shd = d.shd := rfl
@[simp] theorem Dev.setF_sur (d : Dev) (x : Fld) (v : Nat) : (d.setF x v).sur = d.sur := rfl
@[simp] theorem Dev.setF_str (d : Dev) (x : Fld) (v : Nat) : (d.setF x v).str = d.str := rfl
@[simp] theorem Dev.setF_flw (d : Dev) (x : Fld) (v : Nat) : (d.setF x v).flw = d.flw := rfl
@[simp] theorem Dev.setF_meas (d : Dev) (x : Fld) (v : Nat) : (d.setF x v).meas = d.meas := rfl
@[simp] theorem Dev.setF_axes (d : Dev) (x : Fld) (v : Nat) : (d.setF x v).axes = d.axes := rfl
@[simp] theorem Dev.setF_moves (d : Dev) (x : Fld) (v : Nat) : (d.setF x v).moves = d.moves := rfl
@[simp] theorem Dev.setF_nextMove (d : Dev) (x : Fld) (v : Nat) : (d.setF x v).nextMove = d.nextMove := rfl
@[simp] theorem Dev.setF_servoT (d : Dev) (x : Fld) (v : Nat) : (d.setF x v).servoT = d.servoT := rfl
@[simp] theorem Dev.setF_haul (d : Dev) (x : Fld) (v : Nat) : (d.setF x v).haul = d.haul := rfl
@[simp] theorem Dev.setF_nak (d : Dev) (x : Fld) (v : Nat) : (d.setF x v).nak = d.nak := rfl
@[simp] theorem Dev.setF_hkc (d : Dev) (x : Fld) (v : Nat) : (d.setF x v).hkc = d.hkc := rfl
@[simp] theorem Dev.setF_hkcCal (d : Dev) (x : Fld) (v : Nat) : (d.setF x v).hkcCal = d.hkcCal := rfl
@[simp] theorem Dev.setF_sec (d : Dev) (x : Fld) (v : Nat) : (d.setF x v).sec = d.sec := rfl
@[simp] theorem Dev.setF_rows (d : Dev) (x : Fld) (v : Nat) : (d.setF x v).rows = d.rows := rfl
@[simp] theorem Dev.setF_rowErrs (d : Dev) (x : Fld) (v : Nat) : (d.setF x v).rowErrs = d.rowErrs := rfl
@[simp] theorem Dev.setF_tap (d : Dev) (x : Fld) (v : Nat) : (d.setF x v).tap = d.tap := rfl
@[simp] theorem Dev.setF_ledgerQ (d : Dev) (x : Fld) (v : Nat) : (d.setF x v).ledgerQ = d.ledgerQ := rfl
@[simp] theorem Dev.setF_ledger (d : Dev) (x : Fld) (v : Nat) : (d.setF x v).ledger = d.ledger := rfl

@[simp] theorem Dev.emit_regs (d : Dev) (o : Out) : (d.emit o).regs = d.regs := rfl
@[simp] theorem Dev.emit_ram (d : Dev) (o : Out) : (d.emit o).ram = d.ram := rfl
@[simp] theorem Dev.emit_flash (d : Dev) (o : Out) : (d.emit o).flash = d.flash := rfl
@[simp] theorem Dev.emit_shadows (d : Dev) (o : Out) : (d.emit o).shadows = d.shadows := rfl
@[simp] theorem Dev.emit_msixTab (d : Dev) (o : Out) : (d.emit o).msixTab = d.msixTab := rfl
@[simp] theorem Dev.emit_pba (d : Dev) (o : Out) : (d.emit o).pba = d.pba := rfl
@[simp] theorem Dev.emit_clock (d : Dev) (o : Out) : (d.emit o).clock = d.clock := rfl
@[simp] theorem Dev.emit_free (d : Dev) (o : Out) : (d.emit o).free = d.free := rfl
@[simp] theorem Dev.emit_link (d : Dev) (o : Out) : (d.emit o).link = d.link := rfl
@[simp] theorem Dev.emit_mode (d : Dev) (o : Out) : (d.emit o).mode = d.mode := rfl
@[simp] theorem Dev.emit_req (d : Dev) (o : Out) : (d.emit o).req = d.req := rfl
@[simp] theorem Dev.emit_rst (d : Dev) (o : Out) : (d.emit o).rst = d.rst := rfl
@[simp] theorem Dev.emit_bar (d : Dev) (o : Out) : (d.emit o).bar = d.bar := rfl
@[simp] theorem Dev.emit_sqs (d : Dev) (o : Out) : (d.emit o).sqs = d.sqs := rfl
@[simp] theorem Dev.emit_cqs (d : Dev) (o : Out) : (d.emit o).cqs = d.cqs := rfl
@[simp] theorem Dev.emit_rr (d : Dev) (o : Out) : (d.emit o).rr = d.rr := rfl
@[simp] theorem Dev.emit_nextRun (d : Dev) (o : Out) : (d.emit o).nextRun = d.nextRun := rfl
@[simp] theorem Dev.emit_running (d : Dev) (o : Out) : (d.emit o).running = d.running := rfl
@[simp] theorem Dev.emit_ctxs (d : Dev) (o : Out) : (d.emit o).ctxs = d.ctxs := rfl
@[simp] theorem Dev.emit_supplies (d : Dev) (o : Out) : (d.emit o).supplies = d.supplies := rfl
@[simp] theorem Dev.emit_sump (d : Dev) (o : Out) : (d.emit o).sump = d.sump := rfl
@[simp] theorem Dev.emit_time (d : Dev) (o : Out) : (d.emit o).time = d.time := rfl
@[simp] theorem Dev.emit_slots (d : Dev) (o : Out) : (d.emit o).slots = d.slots := rfl
@[simp] theorem Dev.emit_tet (d : Dev) (o : Out) : (d.emit o).tet = d.tet := rfl
@[simp] theorem Dev.emit_i2c (d : Dev) (o : Out) : (d.emit o).i2c = d.i2c := rfl
@[simp] theorem Dev.emit_lanes (d : Dev) (o : Out) : (d.emit o).lanes = d.lanes := rfl
@[simp] theorem Dev.emit_expects (d : Dev) (o : Out) : (d.emit o).expects = d.expects := rfl
@[simp] theorem Dev.emit_pulses (d : Dev) (o : Out) : (d.emit o).pulses = d.pulses := rfl
@[simp] theorem Dev.emit_misses (d : Dev) (o : Out) : (d.emit o).misses = d.misses := rfl
@[simp] theorem Dev.emit_afeCh (d : Dev) (o : Out) : (d.emit o).afeCh = d.afeCh := rfl
@[simp] theorem Dev.emit_afeGrp (d : Dev) (o : Out) : (d.emit o).afeGrp = d.afeGrp := rfl
@[simp] theorem Dev.emit_ltn (d : Dev) (o : Out) : (d.emit o).ltn = d.ltn := rfl
@[simp] theorem Dev.emit_gal (d : Dev) (o : Out) : (d.emit o).gal = d.gal := rfl
@[simp] theorem Dev.emit_shd (d : Dev) (o : Out) : (d.emit o).shd = d.shd := rfl
@[simp] theorem Dev.emit_sur (d : Dev) (o : Out) : (d.emit o).sur = d.sur := rfl
@[simp] theorem Dev.emit_str (d : Dev) (o : Out) : (d.emit o).str = d.str := rfl
@[simp] theorem Dev.emit_flw (d : Dev) (o : Out) : (d.emit o).flw = d.flw := rfl
@[simp] theorem Dev.emit_meas (d : Dev) (o : Out) : (d.emit o).meas = d.meas := rfl
@[simp] theorem Dev.emit_axes (d : Dev) (o : Out) : (d.emit o).axes = d.axes := rfl
@[simp] theorem Dev.emit_moves (d : Dev) (o : Out) : (d.emit o).moves = d.moves := rfl
@[simp] theorem Dev.emit_nextMove (d : Dev) (o : Out) : (d.emit o).nextMove = d.nextMove := rfl
@[simp] theorem Dev.emit_servoT (d : Dev) (o : Out) : (d.emit o).servoT = d.servoT := rfl
@[simp] theorem Dev.emit_haul (d : Dev) (o : Out) : (d.emit o).haul = d.haul := rfl
@[simp] theorem Dev.emit_nak (d : Dev) (o : Out) : (d.emit o).nak = d.nak := rfl
@[simp] theorem Dev.emit_hkc (d : Dev) (o : Out) : (d.emit o).hkc = d.hkc := rfl
@[simp] theorem Dev.emit_hkcCal (d : Dev) (o : Out) : (d.emit o).hkcCal = d.hkcCal := rfl
@[simp] theorem Dev.emit_sec (d : Dev) (o : Out) : (d.emit o).sec = d.sec := rfl
@[simp] theorem Dev.emit_rows (d : Dev) (o : Out) : (d.emit o).rows = d.rows := rfl
@[simp] theorem Dev.emit_rowErrs (d : Dev) (o : Out) : (d.emit o).rowErrs = d.rowErrs := rfl
@[simp] theorem Dev.emit_tap (d : Dev) (o : Out) : (d.emit o).tap = d.tap := rfl
@[simp] theorem Dev.emit_ledgerQ (d : Dev) (o : Out) : (d.emit o).ledgerQ = d.ledgerQ := rfl
@[simp] theorem Dev.emit_ledger (d : Dev) (o : Out) : (d.emit o).ledger = d.ledger := rfl

@[simp] theorem Dev.setByte_regs (d : Dev) (a : Nat) (b : Byte) : (d.setByte a b).regs = d.regs := rfl
@[simp] theorem Dev.setByte_flash (d : Dev) (a : Nat) (b : Byte) : (d.setByte a b).flash = d.flash := rfl
@[simp] theorem Dev.setByte_shadows (d : Dev) (a : Nat) (b : Byte) : (d.setByte a b).shadows = d.shadows := rfl
@[simp] theorem Dev.setByte_msixTab (d : Dev) (a : Nat) (b : Byte) : (d.setByte a b).msixTab = d.msixTab := rfl
@[simp] theorem Dev.setByte_pba (d : Dev) (a : Nat) (b : Byte) : (d.setByte a b).pba = d.pba := rfl
@[simp] theorem Dev.setByte_clock (d : Dev) (a : Nat) (b : Byte) : (d.setByte a b).clock = d.clock := rfl
@[simp] theorem Dev.setByte_free (d : Dev) (a : Nat) (b : Byte) : (d.setByte a b).free = d.free := rfl
@[simp] theorem Dev.setByte_out (d : Dev) (a : Nat) (b : Byte) : (d.setByte a b).out = d.out := rfl
@[simp] theorem Dev.setByte_link (d : Dev) (a : Nat) (b : Byte) : (d.setByte a b).link = d.link := rfl
@[simp] theorem Dev.setByte_mode (d : Dev) (a : Nat) (b : Byte) : (d.setByte a b).mode = d.mode := rfl
@[simp] theorem Dev.setByte_req (d : Dev) (a : Nat) (b : Byte) : (d.setByte a b).req = d.req := rfl
@[simp] theorem Dev.setByte_rst (d : Dev) (a : Nat) (b : Byte) : (d.setByte a b).rst = d.rst := rfl
@[simp] theorem Dev.setByte_bar (d : Dev) (a : Nat) (b : Byte) : (d.setByte a b).bar = d.bar := rfl
@[simp] theorem Dev.setByte_sqs (d : Dev) (a : Nat) (b : Byte) : (d.setByte a b).sqs = d.sqs := rfl
@[simp] theorem Dev.setByte_cqs (d : Dev) (a : Nat) (b : Byte) : (d.setByte a b).cqs = d.cqs := rfl
@[simp] theorem Dev.setByte_rr (d : Dev) (a : Nat) (b : Byte) : (d.setByte a b).rr = d.rr := rfl
@[simp] theorem Dev.setByte_nextRun (d : Dev) (a : Nat) (b : Byte) : (d.setByte a b).nextRun = d.nextRun := rfl
@[simp] theorem Dev.setByte_running (d : Dev) (a : Nat) (b : Byte) : (d.setByte a b).running = d.running := rfl
@[simp] theorem Dev.setByte_ctxs (d : Dev) (a : Nat) (b : Byte) : (d.setByte a b).ctxs = d.ctxs := rfl
@[simp] theorem Dev.setByte_supplies (d : Dev) (a : Nat) (b : Byte) : (d.setByte a b).supplies = d.supplies := rfl
@[simp] theorem Dev.setByte_sump (d : Dev) (a : Nat) (b : Byte) : (d.setByte a b).sump = d.sump := rfl
@[simp] theorem Dev.setByte_time (d : Dev) (a : Nat) (b : Byte) : (d.setByte a b).time = d.time := rfl
@[simp] theorem Dev.setByte_slots (d : Dev) (a : Nat) (b : Byte) : (d.setByte a b).slots = d.slots := rfl
@[simp] theorem Dev.setByte_tet (d : Dev) (a : Nat) (b : Byte) : (d.setByte a b).tet = d.tet := rfl
@[simp] theorem Dev.setByte_i2c (d : Dev) (a : Nat) (b : Byte) : (d.setByte a b).i2c = d.i2c := rfl
@[simp] theorem Dev.setByte_lanes (d : Dev) (a : Nat) (b : Byte) : (d.setByte a b).lanes = d.lanes := rfl
@[simp] theorem Dev.setByte_expects (d : Dev) (a : Nat) (b : Byte) : (d.setByte a b).expects = d.expects := rfl
@[simp] theorem Dev.setByte_pulses (d : Dev) (a : Nat) (b : Byte) : (d.setByte a b).pulses = d.pulses := rfl
@[simp] theorem Dev.setByte_misses (d : Dev) (a : Nat) (b : Byte) : (d.setByte a b).misses = d.misses := rfl
@[simp] theorem Dev.setByte_afeCh (d : Dev) (a : Nat) (b : Byte) : (d.setByte a b).afeCh = d.afeCh := rfl
@[simp] theorem Dev.setByte_afeGrp (d : Dev) (a : Nat) (b : Byte) : (d.setByte a b).afeGrp = d.afeGrp := rfl
@[simp] theorem Dev.setByte_ltn (d : Dev) (a : Nat) (b : Byte) : (d.setByte a b).ltn = d.ltn := rfl
@[simp] theorem Dev.setByte_gal (d : Dev) (a : Nat) (b : Byte) : (d.setByte a b).gal = d.gal := rfl
@[simp] theorem Dev.setByte_shd (d : Dev) (a : Nat) (b : Byte) : (d.setByte a b).shd = d.shd := rfl
@[simp] theorem Dev.setByte_sur (d : Dev) (a : Nat) (b : Byte) : (d.setByte a b).sur = d.sur := rfl
@[simp] theorem Dev.setByte_str (d : Dev) (a : Nat) (b : Byte) : (d.setByte a b).str = d.str := rfl
@[simp] theorem Dev.setByte_flw (d : Dev) (a : Nat) (b : Byte) : (d.setByte a b).flw = d.flw := rfl
@[simp] theorem Dev.setByte_meas (d : Dev) (a : Nat) (b : Byte) : (d.setByte a b).meas = d.meas := rfl
@[simp] theorem Dev.setByte_axes (d : Dev) (a : Nat) (b : Byte) : (d.setByte a b).axes = d.axes := rfl
@[simp] theorem Dev.setByte_moves (d : Dev) (a : Nat) (b : Byte) : (d.setByte a b).moves = d.moves := rfl
@[simp] theorem Dev.setByte_nextMove (d : Dev) (a : Nat) (b : Byte) : (d.setByte a b).nextMove = d.nextMove := rfl
@[simp] theorem Dev.setByte_servoT (d : Dev) (a : Nat) (b : Byte) : (d.setByte a b).servoT = d.servoT := rfl
@[simp] theorem Dev.setByte_haul (d : Dev) (a : Nat) (b : Byte) : (d.setByte a b).haul = d.haul := rfl
@[simp] theorem Dev.setByte_nak (d : Dev) (a : Nat) (b : Byte) : (d.setByte a b).nak = d.nak := rfl
@[simp] theorem Dev.setByte_hkc (d : Dev) (a : Nat) (b : Byte) : (d.setByte a b).hkc = d.hkc := rfl
@[simp] theorem Dev.setByte_hkcCal (d : Dev) (a : Nat) (b : Byte) : (d.setByte a b).hkcCal = d.hkcCal := rfl
@[simp] theorem Dev.setByte_sec (d : Dev) (a : Nat) (b : Byte) : (d.setByte a b).sec = d.sec := rfl
@[simp] theorem Dev.setByte_rows (d : Dev) (a : Nat) (b : Byte) : (d.setByte a b).rows = d.rows := rfl
@[simp] theorem Dev.setByte_rowErrs (d : Dev) (a : Nat) (b : Byte) : (d.setByte a b).rowErrs = d.rowErrs := rfl
@[simp] theorem Dev.setByte_tap (d : Dev) (a : Nat) (b : Byte) : (d.setByte a b).tap = d.tap := rfl
@[simp] theorem Dev.setByte_ledgerQ (d : Dev) (a : Nat) (b : Byte) : (d.setByte a b).ledgerQ = d.ledgerQ := rfl
@[simp] theorem Dev.setByte_ledger (d : Dev) (a : Nat) (b : Byte) : (d.setByte a b).ledger = d.ledger := rfl

/-- `e` is `d` but for registers, requests to the outside and waiting vectors. -/
def Dev.RegsOut (d e : Dev) : Prop := e = { d with regs := e.regs, out := e.out, pba := e.pba }

/-- `e` is `d` but for registers, completion rings, requests to the outside and waiting vectors. -/
def Dev.RingsOut (d e : Dev) : Prop := e = { d with regs := e.regs, cqs := e.cqs, out := e.out, pba := e.pba }

theorem Dev.RegsOut.trans {d e g : Dev} (h : d.RegsOut e) (h' : e.RegsOut g) : d.RegsOut g := by
  rw [Dev.RegsOut] at *
  rw [h', h]

theorem Dev.RingsOut.trans {d e g : Dev} (h : d.RingsOut e) (h' : e.RingsOut g) : d.RingsOut g := by
  rw [Dev.RingsOut] at *
  rw [h', h]

theorem Dev.RegsOut.eq {d e : Dev} (h : d.RegsOut e) {α : Type} (p : Dev → α) (hp : ∀ r o b, p { d with regs := r, out := o, pba := b } = p d) :
    p e = p d := by
  rw [Dev.RegsOut] at h
  rw [h, hp]

theorem Dev.RingsOut.eq {d e : Dev} (h : d.RingsOut e) {α : Type} (p : Dev → α)
    (hp : ∀ r c o b, p { d with regs := r, cqs := c, out := o, pba := b } = p d) : p e = p d := by
  rw [Dev.RingsOut] at h
  rw [h, hp]

theorem Dev.RegsOut.rings {d e : Dev} (h : d.RegsOut e) : d.RingsOut e := by
  rw [Dev.RegsOut] at h
  rw [Dev.RingsOut, h]

theorem Dev.setF_regsOut (d : Dev) (x : Fld) (v : Nat) : d.RegsOut (d.setF x v) := rfl
theorem Dev.emit_regsOut (d : Dev) (o : Out) : d.RegsOut (d.emit o) := rfl
theorem Dev.setCq_ringsOut (d : Dev) (n : Nat) (q : Cq) : d.RingsOut (d.setCq n q) := rfl

theorem Dev.sendMsi_regsOut (d : Dev) (v : Nat) : d.RegsOut (d.sendMsi v) := by
  unfold Dev.sendMsi
  split <;> rfl

theorem Dev.irq_regsOut (d : Dev) (b : Nat) : d.RegsOut (d.irq b) := by
  unfold Dev.irq
  dsimp only
  split
  · exact (d.setF_regsOut _ _).trans (Dev.sendMsi_regsOut _ _)
  · exact d.setF_regsOut _ _

theorem Dev.flag_regsOut (d : Dev) (x : Fld) : d.RegsOut (d.flag x) := by
  unfold Dev.flag
  split
  · rfl
  · exact (d.setF_regsOut _ _).trans (Dev.irq_regsOut _ _)

theorem Dev.flagIf_regsOut (d : Dev) (b : Bool) (x : Fld) : d.RegsOut (d.flagIf b x) := by
  unfold Dev.flagIf
  split
  · exact d.flag_regsOut x
  · rfl

theorem Dev.cqSignal_ringsOut (d : Dev) (n : Nat) : d.RingsOut (d.cqSignal n) :=
  (d.setCq_ringsOut _ _).trans (Dev.sendMsi_regsOut _ _).rings

theorem Dev.cqWrite_ringsOut (d : Dev) (n : Nat) (c : Cpl) : d.RingsOut (d.cqWrite n c) := by
  unfold Dev.cqWrite
  dsimp only
  have h := ((d.emit_regsOut (.hostWrite (d.r64 (R.HST_CQ_BASE_LO n) (R.HST_CQ_BASE_HI n) + 32 * d.f (F.HST_CQ_STATUS.TAIL n)) (d.cplBytes n c) false)).trans
    ((Dev.setF_regsOut _ (F.HST_CQ_STATUS.TAIL n) (if decide (d.f (F.HST_CQ_STATUS.TAIL n) + 1 = d.cqSize n) then 0 else d.f (F.HST_CQ_STATUS.TAIL n) + 1)).trans
    (Dev.setF_regsOut _ (F.HST_CQ_STATUS.PHASE n) (if decide (d.f (F.HST_CQ_STATUS.TAIL n) + 1 = d.cqSize n) then 1 - d.f (F.HST_CQ_STATUS.PHASE n) else d.f (F.HST_CQ_STATUS.PHASE n))))).rings
  split
  · exact (h.trans (Dev.setCq_ringsOut _ _ _)).trans (Dev.cqSignal_ringsOut _ _)
  · exact h.trans (Dev.setCq_ringsOut _ _ _)

theorem Dev.post_ringsOut (d : Dev) (n : Nat) (c : Cpl) : d.RingsOut (d.post n c) := by
  unfold Dev.post
  dsimp only
  split
  · exact d.cqWrite_ringsOut n c
  · exact (d.setCq_ringsOut _ _).trans (Dev.flagIf_regsOut _ _ _).rings

theorem Dev.complete_ringsOut (d : Dev) (src : Src) (o : CmdRes) : d.RingsOut (d.complete src o) := d.post_ringsOut _ _

@[simp] theorem Dev.sendMsi_regs (d : Dev) (v : Nat) : (d.sendMsi v).regs = d.regs := by
  unfold Dev.sendMsi
  split <;> rfl
@[simp] theorem Dev.sendMsi_ram (d : Dev) (v : Nat) : (d.sendMsi v).ram = d.ram := (d.sendMsi_regsOut v).eq Dev.ram fun _ _ _ => rfl
@[simp] theorem Dev.sendMsi_flash (d : Dev) (v : Nat) : (d.sendMsi v).flash = d.flash := (d.sendMsi_regsOut v).eq Dev.flash fun _ _ _ => rfl
@[simp] theorem Dev.sendMsi_shadows (d : Dev) (v : Nat) : (d.sendMsi v).shadows = d.shadows := (d.sendMsi_regsOut v).eq Dev.shadows fun _ _ _ => rfl
@[simp] theorem Dev.sendMsi_msixTab (d : Dev) (v : Nat) : (d.sendMsi v).msixTab = d.msixTab := (d.sendMsi_regsOut v).eq Dev.msixTab fun _ _ _ => rfl
@[simp] theorem Dev.sendMsi_clock (d : Dev) (v : Nat) : (d.sendMsi v).clock = d.clock := (d.sendMsi_regsOut v).eq Dev.clock fun _ _ _ => rfl
@[simp] theorem Dev.sendMsi_free (d : Dev) (v : Nat) : (d.sendMsi v).free = d.free := (d.sendMsi_regsOut v).eq Dev.free fun _ _ _ => rfl
@[simp] theorem Dev.sendMsi_link (d : Dev) (v : Nat) : (d.sendMsi v).link = d.link := (d.sendMsi_regsOut v).eq Dev.link fun _ _ _ => rfl
@[simp] theorem Dev.sendMsi_mode (d : Dev) (v : Nat) : (d.sendMsi v).mode = d.mode := (d.sendMsi_regsOut v).eq Dev.mode fun _ _ _ => rfl
@[simp] theorem Dev.sendMsi_req (d : Dev) (v : Nat) : (d.sendMsi v).req = d.req := (d.sendMsi_regsOut v).eq Dev.req fun _ _ _ => rfl
@[simp] theorem Dev.sendMsi_rst (d : Dev) (v : Nat) : (d.sendMsi v).rst = d.rst := (d.sendMsi_regsOut v).eq Dev.rst fun _ _ _ => rfl
@[simp] theorem Dev.sendMsi_bar (d : Dev) (v : Nat) : (d.sendMsi v).bar = d.bar := (d.sendMsi_regsOut v).eq Dev.bar fun _ _ _ => rfl
@[simp] theorem Dev.sendMsi_sqs (d : Dev) (v : Nat) : (d.sendMsi v).sqs = d.sqs := (d.sendMsi_regsOut v).eq Dev.sqs fun _ _ _ => rfl
@[simp] theorem Dev.sendMsi_cqs (d : Dev) (v : Nat) : (d.sendMsi v).cqs = d.cqs := (d.sendMsi_regsOut v).eq Dev.cqs fun _ _ _ => rfl
@[simp] theorem Dev.sendMsi_rr (d : Dev) (v : Nat) : (d.sendMsi v).rr = d.rr := (d.sendMsi_regsOut v).eq Dev.rr fun _ _ _ => rfl
@[simp] theorem Dev.sendMsi_nextRun (d : Dev) (v : Nat) : (d.sendMsi v).nextRun = d.nextRun := (d.sendMsi_regsOut v).eq Dev.nextRun fun _ _ _ => rfl
@[simp] theorem Dev.sendMsi_running (d : Dev) (v : Nat) : (d.sendMsi v).running = d.running := (d.sendMsi_regsOut v).eq Dev.running fun _ _ _ => rfl
@[simp] theorem Dev.sendMsi_ctxs (d : Dev) (v : Nat) : (d.sendMsi v).ctxs = d.ctxs := (d.sendMsi_regsOut v).eq Dev.ctxs fun _ _ _ => rfl
@[simp] theorem Dev.sendMsi_supplies (d : Dev) (v : Nat) : (d.sendMsi v).supplies = d.supplies := (d.sendMsi_regsOut v).eq Dev.supplies fun _ _ _ => rfl
@[simp] theorem Dev.sendMsi_sump (d : Dev) (v : Nat) : (d.sendMsi v).sump = d.sump := (d.sendMsi_regsOut v).eq Dev.sump fun _ _ _ => rfl
@[simp] theorem Dev.sendMsi_time (d : Dev) (v : Nat) : (d.sendMsi v).time = d.time := (d.sendMsi_regsOut v).eq Dev.time fun _ _ _ => rfl
@[simp] theorem Dev.sendMsi_slots (d : Dev) (v : Nat) : (d.sendMsi v).slots = d.slots := (d.sendMsi_regsOut v).eq Dev.slots fun _ _ _ => rfl
@[simp] theorem Dev.sendMsi_tet (d : Dev) (v : Nat) : (d.sendMsi v).tet = d.tet := (d.sendMsi_regsOut v).eq Dev.tet fun _ _ _ => rfl
@[simp] theorem Dev.sendMsi_i2c (d : Dev) (v : Nat) : (d.sendMsi v).i2c = d.i2c := (d.sendMsi_regsOut v).eq Dev.i2c fun _ _ _ => rfl
@[simp] theorem Dev.sendMsi_lanes (d : Dev) (v : Nat) : (d.sendMsi v).lanes = d.lanes := (d.sendMsi_regsOut v).eq Dev.lanes fun _ _ _ => rfl
@[simp] theorem Dev.sendMsi_expects (d : Dev) (v : Nat) : (d.sendMsi v).expects = d.expects := (d.sendMsi_regsOut v).eq Dev.expects fun _ _ _ => rfl
@[simp] theorem Dev.sendMsi_pulses (d : Dev) (v : Nat) : (d.sendMsi v).pulses = d.pulses := (d.sendMsi_regsOut v).eq Dev.pulses fun _ _ _ => rfl
@[simp] theorem Dev.sendMsi_misses (d : Dev) (v : Nat) : (d.sendMsi v).misses = d.misses := (d.sendMsi_regsOut v).eq Dev.misses fun _ _ _ => rfl
@[simp] theorem Dev.sendMsi_afeCh (d : Dev) (v : Nat) : (d.sendMsi v).afeCh = d.afeCh := (d.sendMsi_regsOut v).eq Dev.afeCh fun _ _ _ => rfl
@[simp] theorem Dev.sendMsi_afeGrp (d : Dev) (v : Nat) : (d.sendMsi v).afeGrp = d.afeGrp := (d.sendMsi_regsOut v).eq Dev.afeGrp fun _ _ _ => rfl
@[simp] theorem Dev.sendMsi_ltn (d : Dev) (v : Nat) : (d.sendMsi v).ltn = d.ltn := (d.sendMsi_regsOut v).eq Dev.ltn fun _ _ _ => rfl
@[simp] theorem Dev.sendMsi_gal (d : Dev) (v : Nat) : (d.sendMsi v).gal = d.gal := (d.sendMsi_regsOut v).eq Dev.gal fun _ _ _ => rfl
@[simp] theorem Dev.sendMsi_shd (d : Dev) (v : Nat) : (d.sendMsi v).shd = d.shd := (d.sendMsi_regsOut v).eq Dev.shd fun _ _ _ => rfl
@[simp] theorem Dev.sendMsi_sur (d : Dev) (v : Nat) : (d.sendMsi v).sur = d.sur := (d.sendMsi_regsOut v).eq Dev.sur fun _ _ _ => rfl
@[simp] theorem Dev.sendMsi_str (d : Dev) (v : Nat) : (d.sendMsi v).str = d.str := (d.sendMsi_regsOut v).eq Dev.str fun _ _ _ => rfl
@[simp] theorem Dev.sendMsi_flw (d : Dev) (v : Nat) : (d.sendMsi v).flw = d.flw := (d.sendMsi_regsOut v).eq Dev.flw fun _ _ _ => rfl
@[simp] theorem Dev.sendMsi_meas (d : Dev) (v : Nat) : (d.sendMsi v).meas = d.meas := (d.sendMsi_regsOut v).eq Dev.meas fun _ _ _ => rfl
@[simp] theorem Dev.sendMsi_axes (d : Dev) (v : Nat) : (d.sendMsi v).axes = d.axes := (d.sendMsi_regsOut v).eq Dev.axes fun _ _ _ => rfl
@[simp] theorem Dev.sendMsi_moves (d : Dev) (v : Nat) : (d.sendMsi v).moves = d.moves := (d.sendMsi_regsOut v).eq Dev.moves fun _ _ _ => rfl
@[simp] theorem Dev.sendMsi_nextMove (d : Dev) (v : Nat) : (d.sendMsi v).nextMove = d.nextMove := (d.sendMsi_regsOut v).eq Dev.nextMove fun _ _ _ => rfl
@[simp] theorem Dev.sendMsi_servoT (d : Dev) (v : Nat) : (d.sendMsi v).servoT = d.servoT := (d.sendMsi_regsOut v).eq Dev.servoT fun _ _ _ => rfl
@[simp] theorem Dev.sendMsi_haul (d : Dev) (v : Nat) : (d.sendMsi v).haul = d.haul := (d.sendMsi_regsOut v).eq Dev.haul fun _ _ _ => rfl
@[simp] theorem Dev.sendMsi_nak (d : Dev) (v : Nat) : (d.sendMsi v).nak = d.nak := (d.sendMsi_regsOut v).eq Dev.nak fun _ _ _ => rfl
@[simp] theorem Dev.sendMsi_hkc (d : Dev) (v : Nat) : (d.sendMsi v).hkc = d.hkc := (d.sendMsi_regsOut v).eq Dev.hkc fun _ _ _ => rfl
@[simp] theorem Dev.sendMsi_hkcCal (d : Dev) (v : Nat) : (d.sendMsi v).hkcCal = d.hkcCal := (d.sendMsi_regsOut v).eq Dev.hkcCal fun _ _ _ => rfl
@[simp] theorem Dev.sendMsi_sec (d : Dev) (v : Nat) : (d.sendMsi v).sec = d.sec := (d.sendMsi_regsOut v).eq Dev.sec fun _ _ _ => rfl
@[simp] theorem Dev.sendMsi_rows (d : Dev) (v : Nat) : (d.sendMsi v).rows = d.rows := (d.sendMsi_regsOut v).eq Dev.rows fun _ _ _ => rfl
@[simp] theorem Dev.sendMsi_rowErrs (d : Dev) (v : Nat) : (d.sendMsi v).rowErrs = d.rowErrs := (d.sendMsi_regsOut v).eq Dev.rowErrs fun _ _ _ => rfl
@[simp] theorem Dev.sendMsi_tap (d : Dev) (v : Nat) : (d.sendMsi v).tap = d.tap := (d.sendMsi_regsOut v).eq Dev.tap fun _ _ _ => rfl
@[simp] theorem Dev.sendMsi_ledgerQ (d : Dev) (v : Nat) : (d.sendMsi v).ledgerQ = d.ledgerQ := (d.sendMsi_regsOut v).eq Dev.ledgerQ fun _ _ _ => rfl
@[simp] theorem Dev.sendMsi_ledger (d : Dev) (v : Nat) : (d.sendMsi v).ledger = d.ledger := (d.sendMsi_regsOut v).eq Dev.ledger fun _ _ _ => rfl

@[simp] theorem Dev.irq_ram (d : Dev) (b : Nat) : (d.irq b).ram = d.ram := (d.irq_regsOut b).eq Dev.ram fun _ _ _ => rfl
@[simp] theorem Dev.irq_flash (d : Dev) (b : Nat) : (d.irq b).flash = d.flash := (d.irq_regsOut b).eq Dev.flash fun _ _ _ => rfl
@[simp] theorem Dev.irq_shadows (d : Dev) (b : Nat) : (d.irq b).shadows = d.shadows := (d.irq_regsOut b).eq Dev.shadows fun _ _ _ => rfl
@[simp] theorem Dev.irq_msixTab (d : Dev) (b : Nat) : (d.irq b).msixTab = d.msixTab := (d.irq_regsOut b).eq Dev.msixTab fun _ _ _ => rfl
@[simp] theorem Dev.irq_clock (d : Dev) (b : Nat) : (d.irq b).clock = d.clock := (d.irq_regsOut b).eq Dev.clock fun _ _ _ => rfl
@[simp] theorem Dev.irq_free (d : Dev) (b : Nat) : (d.irq b).free = d.free := (d.irq_regsOut b).eq Dev.free fun _ _ _ => rfl
@[simp] theorem Dev.irq_link (d : Dev) (b : Nat) : (d.irq b).link = d.link := (d.irq_regsOut b).eq Dev.link fun _ _ _ => rfl
@[simp] theorem Dev.irq_mode (d : Dev) (b : Nat) : (d.irq b).mode = d.mode := (d.irq_regsOut b).eq Dev.mode fun _ _ _ => rfl
@[simp] theorem Dev.irq_req (d : Dev) (b : Nat) : (d.irq b).req = d.req := (d.irq_regsOut b).eq Dev.req fun _ _ _ => rfl
@[simp] theorem Dev.irq_rst (d : Dev) (b : Nat) : (d.irq b).rst = d.rst := (d.irq_regsOut b).eq Dev.rst fun _ _ _ => rfl
@[simp] theorem Dev.irq_bar (d : Dev) (b : Nat) : (d.irq b).bar = d.bar := (d.irq_regsOut b).eq Dev.bar fun _ _ _ => rfl
@[simp] theorem Dev.irq_sqs (d : Dev) (b : Nat) : (d.irq b).sqs = d.sqs := (d.irq_regsOut b).eq Dev.sqs fun _ _ _ => rfl
@[simp] theorem Dev.irq_cqs (d : Dev) (b : Nat) : (d.irq b).cqs = d.cqs := (d.irq_regsOut b).eq Dev.cqs fun _ _ _ => rfl
@[simp] theorem Dev.irq_rr (d : Dev) (b : Nat) : (d.irq b).rr = d.rr := (d.irq_regsOut b).eq Dev.rr fun _ _ _ => rfl
@[simp] theorem Dev.irq_nextRun (d : Dev) (b : Nat) : (d.irq b).nextRun = d.nextRun := (d.irq_regsOut b).eq Dev.nextRun fun _ _ _ => rfl
@[simp] theorem Dev.irq_running (d : Dev) (b : Nat) : (d.irq b).running = d.running := (d.irq_regsOut b).eq Dev.running fun _ _ _ => rfl
@[simp] theorem Dev.irq_ctxs (d : Dev) (b : Nat) : (d.irq b).ctxs = d.ctxs := (d.irq_regsOut b).eq Dev.ctxs fun _ _ _ => rfl
@[simp] theorem Dev.irq_supplies (d : Dev) (b : Nat) : (d.irq b).supplies = d.supplies := (d.irq_regsOut b).eq Dev.supplies fun _ _ _ => rfl
@[simp] theorem Dev.irq_sump (d : Dev) (b : Nat) : (d.irq b).sump = d.sump := (d.irq_regsOut b).eq Dev.sump fun _ _ _ => rfl
@[simp] theorem Dev.irq_time (d : Dev) (b : Nat) : (d.irq b).time = d.time := (d.irq_regsOut b).eq Dev.time fun _ _ _ => rfl
@[simp] theorem Dev.irq_slots (d : Dev) (b : Nat) : (d.irq b).slots = d.slots := (d.irq_regsOut b).eq Dev.slots fun _ _ _ => rfl
@[simp] theorem Dev.irq_tet (d : Dev) (b : Nat) : (d.irq b).tet = d.tet := (d.irq_regsOut b).eq Dev.tet fun _ _ _ => rfl
@[simp] theorem Dev.irq_i2c (d : Dev) (b : Nat) : (d.irq b).i2c = d.i2c := (d.irq_regsOut b).eq Dev.i2c fun _ _ _ => rfl
@[simp] theorem Dev.irq_lanes (d : Dev) (b : Nat) : (d.irq b).lanes = d.lanes := (d.irq_regsOut b).eq Dev.lanes fun _ _ _ => rfl
@[simp] theorem Dev.irq_expects (d : Dev) (b : Nat) : (d.irq b).expects = d.expects := (d.irq_regsOut b).eq Dev.expects fun _ _ _ => rfl
@[simp] theorem Dev.irq_pulses (d : Dev) (b : Nat) : (d.irq b).pulses = d.pulses := (d.irq_regsOut b).eq Dev.pulses fun _ _ _ => rfl
@[simp] theorem Dev.irq_misses (d : Dev) (b : Nat) : (d.irq b).misses = d.misses := (d.irq_regsOut b).eq Dev.misses fun _ _ _ => rfl
@[simp] theorem Dev.irq_afeCh (d : Dev) (b : Nat) : (d.irq b).afeCh = d.afeCh := (d.irq_regsOut b).eq Dev.afeCh fun _ _ _ => rfl
@[simp] theorem Dev.irq_afeGrp (d : Dev) (b : Nat) : (d.irq b).afeGrp = d.afeGrp := (d.irq_regsOut b).eq Dev.afeGrp fun _ _ _ => rfl
@[simp] theorem Dev.irq_ltn (d : Dev) (b : Nat) : (d.irq b).ltn = d.ltn := (d.irq_regsOut b).eq Dev.ltn fun _ _ _ => rfl
@[simp] theorem Dev.irq_gal (d : Dev) (b : Nat) : (d.irq b).gal = d.gal := (d.irq_regsOut b).eq Dev.gal fun _ _ _ => rfl
@[simp] theorem Dev.irq_shd (d : Dev) (b : Nat) : (d.irq b).shd = d.shd := (d.irq_regsOut b).eq Dev.shd fun _ _ _ => rfl
@[simp] theorem Dev.irq_sur (d : Dev) (b : Nat) : (d.irq b).sur = d.sur := (d.irq_regsOut b).eq Dev.sur fun _ _ _ => rfl
@[simp] theorem Dev.irq_str (d : Dev) (b : Nat) : (d.irq b).str = d.str := (d.irq_regsOut b).eq Dev.str fun _ _ _ => rfl
@[simp] theorem Dev.irq_flw (d : Dev) (b : Nat) : (d.irq b).flw = d.flw := (d.irq_regsOut b).eq Dev.flw fun _ _ _ => rfl
@[simp] theorem Dev.irq_meas (d : Dev) (b : Nat) : (d.irq b).meas = d.meas := (d.irq_regsOut b).eq Dev.meas fun _ _ _ => rfl
@[simp] theorem Dev.irq_axes (d : Dev) (b : Nat) : (d.irq b).axes = d.axes := (d.irq_regsOut b).eq Dev.axes fun _ _ _ => rfl
@[simp] theorem Dev.irq_moves (d : Dev) (b : Nat) : (d.irq b).moves = d.moves := (d.irq_regsOut b).eq Dev.moves fun _ _ _ => rfl
@[simp] theorem Dev.irq_nextMove (d : Dev) (b : Nat) : (d.irq b).nextMove = d.nextMove := (d.irq_regsOut b).eq Dev.nextMove fun _ _ _ => rfl
@[simp] theorem Dev.irq_servoT (d : Dev) (b : Nat) : (d.irq b).servoT = d.servoT := (d.irq_regsOut b).eq Dev.servoT fun _ _ _ => rfl
@[simp] theorem Dev.irq_haul (d : Dev) (b : Nat) : (d.irq b).haul = d.haul := (d.irq_regsOut b).eq Dev.haul fun _ _ _ => rfl
@[simp] theorem Dev.irq_nak (d : Dev) (b : Nat) : (d.irq b).nak = d.nak := (d.irq_regsOut b).eq Dev.nak fun _ _ _ => rfl
@[simp] theorem Dev.irq_hkc (d : Dev) (b : Nat) : (d.irq b).hkc = d.hkc := (d.irq_regsOut b).eq Dev.hkc fun _ _ _ => rfl
@[simp] theorem Dev.irq_hkcCal (d : Dev) (b : Nat) : (d.irq b).hkcCal = d.hkcCal := (d.irq_regsOut b).eq Dev.hkcCal fun _ _ _ => rfl
@[simp] theorem Dev.irq_sec (d : Dev) (b : Nat) : (d.irq b).sec = d.sec := (d.irq_regsOut b).eq Dev.sec fun _ _ _ => rfl
@[simp] theorem Dev.irq_rows (d : Dev) (b : Nat) : (d.irq b).rows = d.rows := (d.irq_regsOut b).eq Dev.rows fun _ _ _ => rfl
@[simp] theorem Dev.irq_rowErrs (d : Dev) (b : Nat) : (d.irq b).rowErrs = d.rowErrs := (d.irq_regsOut b).eq Dev.rowErrs fun _ _ _ => rfl
@[simp] theorem Dev.irq_tap (d : Dev) (b : Nat) : (d.irq b).tap = d.tap := (d.irq_regsOut b).eq Dev.tap fun _ _ _ => rfl
@[simp] theorem Dev.irq_ledgerQ (d : Dev) (b : Nat) : (d.irq b).ledgerQ = d.ledgerQ := (d.irq_regsOut b).eq Dev.ledgerQ fun _ _ _ => rfl
@[simp] theorem Dev.irq_ledger (d : Dev) (b : Nat) : (d.irq b).ledger = d.ledger := (d.irq_regsOut b).eq Dev.ledger fun _ _ _ => rfl

@[simp] theorem Dev.flag_ram (d : Dev) (x : Fld) : (d.flag x).ram = d.ram := (d.flag_regsOut x).eq Dev.ram fun _ _ _ => rfl
@[simp] theorem Dev.flag_flash (d : Dev) (x : Fld) : (d.flag x).flash = d.flash := (d.flag_regsOut x).eq Dev.flash fun _ _ _ => rfl
@[simp] theorem Dev.flag_shadows (d : Dev) (x : Fld) : (d.flag x).shadows = d.shadows := (d.flag_regsOut x).eq Dev.shadows fun _ _ _ => rfl
@[simp] theorem Dev.flag_msixTab (d : Dev) (x : Fld) : (d.flag x).msixTab = d.msixTab := (d.flag_regsOut x).eq Dev.msixTab fun _ _ _ => rfl
@[simp] theorem Dev.flag_clock (d : Dev) (x : Fld) : (d.flag x).clock = d.clock := (d.flag_regsOut x).eq Dev.clock fun _ _ _ => rfl
@[simp] theorem Dev.flag_free (d : Dev) (x : Fld) : (d.flag x).free = d.free := (d.flag_regsOut x).eq Dev.free fun _ _ _ => rfl
@[simp] theorem Dev.flag_link (d : Dev) (x : Fld) : (d.flag x).link = d.link := (d.flag_regsOut x).eq Dev.link fun _ _ _ => rfl
@[simp] theorem Dev.flag_mode (d : Dev) (x : Fld) : (d.flag x).mode = d.mode := (d.flag_regsOut x).eq Dev.mode fun _ _ _ => rfl
@[simp] theorem Dev.flag_req (d : Dev) (x : Fld) : (d.flag x).req = d.req := (d.flag_regsOut x).eq Dev.req fun _ _ _ => rfl
@[simp] theorem Dev.flag_rst (d : Dev) (x : Fld) : (d.flag x).rst = d.rst := (d.flag_regsOut x).eq Dev.rst fun _ _ _ => rfl
@[simp] theorem Dev.flag_bar (d : Dev) (x : Fld) : (d.flag x).bar = d.bar := (d.flag_regsOut x).eq Dev.bar fun _ _ _ => rfl
@[simp] theorem Dev.flag_sqs (d : Dev) (x : Fld) : (d.flag x).sqs = d.sqs := (d.flag_regsOut x).eq Dev.sqs fun _ _ _ => rfl
@[simp] theorem Dev.flag_cqs (d : Dev) (x : Fld) : (d.flag x).cqs = d.cqs := (d.flag_regsOut x).eq Dev.cqs fun _ _ _ => rfl
@[simp] theorem Dev.flag_rr (d : Dev) (x : Fld) : (d.flag x).rr = d.rr := (d.flag_regsOut x).eq Dev.rr fun _ _ _ => rfl
@[simp] theorem Dev.flag_nextRun (d : Dev) (x : Fld) : (d.flag x).nextRun = d.nextRun := (d.flag_regsOut x).eq Dev.nextRun fun _ _ _ => rfl
@[simp] theorem Dev.flag_running (d : Dev) (x : Fld) : (d.flag x).running = d.running := (d.flag_regsOut x).eq Dev.running fun _ _ _ => rfl
@[simp] theorem Dev.flag_ctxs (d : Dev) (x : Fld) : (d.flag x).ctxs = d.ctxs := (d.flag_regsOut x).eq Dev.ctxs fun _ _ _ => rfl
@[simp] theorem Dev.flag_supplies (d : Dev) (x : Fld) : (d.flag x).supplies = d.supplies := (d.flag_regsOut x).eq Dev.supplies fun _ _ _ => rfl
@[simp] theorem Dev.flag_sump (d : Dev) (x : Fld) : (d.flag x).sump = d.sump := (d.flag_regsOut x).eq Dev.sump fun _ _ _ => rfl
@[simp] theorem Dev.flag_time (d : Dev) (x : Fld) : (d.flag x).time = d.time := (d.flag_regsOut x).eq Dev.time fun _ _ _ => rfl
@[simp] theorem Dev.flag_slots (d : Dev) (x : Fld) : (d.flag x).slots = d.slots := (d.flag_regsOut x).eq Dev.slots fun _ _ _ => rfl
@[simp] theorem Dev.flag_tet (d : Dev) (x : Fld) : (d.flag x).tet = d.tet := (d.flag_regsOut x).eq Dev.tet fun _ _ _ => rfl
@[simp] theorem Dev.flag_i2c (d : Dev) (x : Fld) : (d.flag x).i2c = d.i2c := (d.flag_regsOut x).eq Dev.i2c fun _ _ _ => rfl
@[simp] theorem Dev.flag_lanes (d : Dev) (x : Fld) : (d.flag x).lanes = d.lanes := (d.flag_regsOut x).eq Dev.lanes fun _ _ _ => rfl
@[simp] theorem Dev.flag_expects (d : Dev) (x : Fld) : (d.flag x).expects = d.expects := (d.flag_regsOut x).eq Dev.expects fun _ _ _ => rfl
@[simp] theorem Dev.flag_pulses (d : Dev) (x : Fld) : (d.flag x).pulses = d.pulses := (d.flag_regsOut x).eq Dev.pulses fun _ _ _ => rfl
@[simp] theorem Dev.flag_misses (d : Dev) (x : Fld) : (d.flag x).misses = d.misses := (d.flag_regsOut x).eq Dev.misses fun _ _ _ => rfl
@[simp] theorem Dev.flag_afeCh (d : Dev) (x : Fld) : (d.flag x).afeCh = d.afeCh := (d.flag_regsOut x).eq Dev.afeCh fun _ _ _ => rfl
@[simp] theorem Dev.flag_afeGrp (d : Dev) (x : Fld) : (d.flag x).afeGrp = d.afeGrp := (d.flag_regsOut x).eq Dev.afeGrp fun _ _ _ => rfl
@[simp] theorem Dev.flag_ltn (d : Dev) (x : Fld) : (d.flag x).ltn = d.ltn := (d.flag_regsOut x).eq Dev.ltn fun _ _ _ => rfl
@[simp] theorem Dev.flag_gal (d : Dev) (x : Fld) : (d.flag x).gal = d.gal := (d.flag_regsOut x).eq Dev.gal fun _ _ _ => rfl
@[simp] theorem Dev.flag_shd (d : Dev) (x : Fld) : (d.flag x).shd = d.shd := (d.flag_regsOut x).eq Dev.shd fun _ _ _ => rfl
@[simp] theorem Dev.flag_sur (d : Dev) (x : Fld) : (d.flag x).sur = d.sur := (d.flag_regsOut x).eq Dev.sur fun _ _ _ => rfl
@[simp] theorem Dev.flag_str (d : Dev) (x : Fld) : (d.flag x).str = d.str := (d.flag_regsOut x).eq Dev.str fun _ _ _ => rfl
@[simp] theorem Dev.flag_flw (d : Dev) (x : Fld) : (d.flag x).flw = d.flw := (d.flag_regsOut x).eq Dev.flw fun _ _ _ => rfl
@[simp] theorem Dev.flag_meas (d : Dev) (x : Fld) : (d.flag x).meas = d.meas := (d.flag_regsOut x).eq Dev.meas fun _ _ _ => rfl
@[simp] theorem Dev.flag_axes (d : Dev) (x : Fld) : (d.flag x).axes = d.axes := (d.flag_regsOut x).eq Dev.axes fun _ _ _ => rfl
@[simp] theorem Dev.flag_moves (d : Dev) (x : Fld) : (d.flag x).moves = d.moves := (d.flag_regsOut x).eq Dev.moves fun _ _ _ => rfl
@[simp] theorem Dev.flag_nextMove (d : Dev) (x : Fld) : (d.flag x).nextMove = d.nextMove := (d.flag_regsOut x).eq Dev.nextMove fun _ _ _ => rfl
@[simp] theorem Dev.flag_servoT (d : Dev) (x : Fld) : (d.flag x).servoT = d.servoT := (d.flag_regsOut x).eq Dev.servoT fun _ _ _ => rfl
@[simp] theorem Dev.flag_haul (d : Dev) (x : Fld) : (d.flag x).haul = d.haul := (d.flag_regsOut x).eq Dev.haul fun _ _ _ => rfl
@[simp] theorem Dev.flag_nak (d : Dev) (x : Fld) : (d.flag x).nak = d.nak := (d.flag_regsOut x).eq Dev.nak fun _ _ _ => rfl
@[simp] theorem Dev.flag_hkc (d : Dev) (x : Fld) : (d.flag x).hkc = d.hkc := (d.flag_regsOut x).eq Dev.hkc fun _ _ _ => rfl
@[simp] theorem Dev.flag_hkcCal (d : Dev) (x : Fld) : (d.flag x).hkcCal = d.hkcCal := (d.flag_regsOut x).eq Dev.hkcCal fun _ _ _ => rfl
@[simp] theorem Dev.flag_sec (d : Dev) (x : Fld) : (d.flag x).sec = d.sec := (d.flag_regsOut x).eq Dev.sec fun _ _ _ => rfl
@[simp] theorem Dev.flag_rows (d : Dev) (x : Fld) : (d.flag x).rows = d.rows := (d.flag_regsOut x).eq Dev.rows fun _ _ _ => rfl
@[simp] theorem Dev.flag_rowErrs (d : Dev) (x : Fld) : (d.flag x).rowErrs = d.rowErrs := (d.flag_regsOut x).eq Dev.rowErrs fun _ _ _ => rfl
@[simp] theorem Dev.flag_tap (d : Dev) (x : Fld) : (d.flag x).tap = d.tap := (d.flag_regsOut x).eq Dev.tap fun _ _ _ => rfl
@[simp] theorem Dev.flag_ledgerQ (d : Dev) (x : Fld) : (d.flag x).ledgerQ = d.ledgerQ := (d.flag_regsOut x).eq Dev.ledgerQ fun _ _ _ => rfl
@[simp] theorem Dev.flag_ledger (d : Dev) (x : Fld) : (d.flag x).ledger = d.ledger := (d.flag_regsOut x).eq Dev.ledger fun _ _ _ => rfl

@[simp] theorem Dev.flagIf_ram (d : Dev) (b : Bool) (x : Fld) : (d.flagIf b x).ram = d.ram := (d.flagIf_regsOut b x).eq Dev.ram fun _ _ _ => rfl
@[simp] theorem Dev.flagIf_flash (d : Dev) (b : Bool) (x : Fld) : (d.flagIf b x).flash = d.flash := (d.flagIf_regsOut b x).eq Dev.flash fun _ _ _ => rfl
@[simp] theorem Dev.flagIf_shadows (d : Dev) (b : Bool) (x : Fld) : (d.flagIf b x).shadows = d.shadows := (d.flagIf_regsOut b x).eq Dev.shadows fun _ _ _ => rfl
@[simp] theorem Dev.flagIf_msixTab (d : Dev) (b : Bool) (x : Fld) : (d.flagIf b x).msixTab = d.msixTab := (d.flagIf_regsOut b x).eq Dev.msixTab fun _ _ _ => rfl
@[simp] theorem Dev.flagIf_clock (d : Dev) (b : Bool) (x : Fld) : (d.flagIf b x).clock = d.clock := (d.flagIf_regsOut b x).eq Dev.clock fun _ _ _ => rfl
@[simp] theorem Dev.flagIf_free (d : Dev) (b : Bool) (x : Fld) : (d.flagIf b x).free = d.free := (d.flagIf_regsOut b x).eq Dev.free fun _ _ _ => rfl
@[simp] theorem Dev.flagIf_link (d : Dev) (b : Bool) (x : Fld) : (d.flagIf b x).link = d.link := (d.flagIf_regsOut b x).eq Dev.link fun _ _ _ => rfl
@[simp] theorem Dev.flagIf_mode (d : Dev) (b : Bool) (x : Fld) : (d.flagIf b x).mode = d.mode := (d.flagIf_regsOut b x).eq Dev.mode fun _ _ _ => rfl
@[simp] theorem Dev.flagIf_req (d : Dev) (b : Bool) (x : Fld) : (d.flagIf b x).req = d.req := (d.flagIf_regsOut b x).eq Dev.req fun _ _ _ => rfl
@[simp] theorem Dev.flagIf_rst (d : Dev) (b : Bool) (x : Fld) : (d.flagIf b x).rst = d.rst := (d.flagIf_regsOut b x).eq Dev.rst fun _ _ _ => rfl
@[simp] theorem Dev.flagIf_bar (d : Dev) (b : Bool) (x : Fld) : (d.flagIf b x).bar = d.bar := (d.flagIf_regsOut b x).eq Dev.bar fun _ _ _ => rfl
@[simp] theorem Dev.flagIf_sqs (d : Dev) (b : Bool) (x : Fld) : (d.flagIf b x).sqs = d.sqs := (d.flagIf_regsOut b x).eq Dev.sqs fun _ _ _ => rfl
@[simp] theorem Dev.flagIf_cqs (d : Dev) (b : Bool) (x : Fld) : (d.flagIf b x).cqs = d.cqs := (d.flagIf_regsOut b x).eq Dev.cqs fun _ _ _ => rfl
@[simp] theorem Dev.flagIf_rr (d : Dev) (b : Bool) (x : Fld) : (d.flagIf b x).rr = d.rr := (d.flagIf_regsOut b x).eq Dev.rr fun _ _ _ => rfl
@[simp] theorem Dev.flagIf_nextRun (d : Dev) (b : Bool) (x : Fld) : (d.flagIf b x).nextRun = d.nextRun := (d.flagIf_regsOut b x).eq Dev.nextRun fun _ _ _ => rfl
@[simp] theorem Dev.flagIf_running (d : Dev) (b : Bool) (x : Fld) : (d.flagIf b x).running = d.running := (d.flagIf_regsOut b x).eq Dev.running fun _ _ _ => rfl
@[simp] theorem Dev.flagIf_ctxs (d : Dev) (b : Bool) (x : Fld) : (d.flagIf b x).ctxs = d.ctxs := (d.flagIf_regsOut b x).eq Dev.ctxs fun _ _ _ => rfl
@[simp] theorem Dev.flagIf_supplies (d : Dev) (b : Bool) (x : Fld) : (d.flagIf b x).supplies = d.supplies := (d.flagIf_regsOut b x).eq Dev.supplies fun _ _ _ => rfl
@[simp] theorem Dev.flagIf_sump (d : Dev) (b : Bool) (x : Fld) : (d.flagIf b x).sump = d.sump := (d.flagIf_regsOut b x).eq Dev.sump fun _ _ _ => rfl
@[simp] theorem Dev.flagIf_time (d : Dev) (b : Bool) (x : Fld) : (d.flagIf b x).time = d.time := (d.flagIf_regsOut b x).eq Dev.time fun _ _ _ => rfl
@[simp] theorem Dev.flagIf_slots (d : Dev) (b : Bool) (x : Fld) : (d.flagIf b x).slots = d.slots := (d.flagIf_regsOut b x).eq Dev.slots fun _ _ _ => rfl
@[simp] theorem Dev.flagIf_tet (d : Dev) (b : Bool) (x : Fld) : (d.flagIf b x).tet = d.tet := (d.flagIf_regsOut b x).eq Dev.tet fun _ _ _ => rfl
@[simp] theorem Dev.flagIf_i2c (d : Dev) (b : Bool) (x : Fld) : (d.flagIf b x).i2c = d.i2c := (d.flagIf_regsOut b x).eq Dev.i2c fun _ _ _ => rfl
@[simp] theorem Dev.flagIf_lanes (d : Dev) (b : Bool) (x : Fld) : (d.flagIf b x).lanes = d.lanes := (d.flagIf_regsOut b x).eq Dev.lanes fun _ _ _ => rfl
@[simp] theorem Dev.flagIf_expects (d : Dev) (b : Bool) (x : Fld) : (d.flagIf b x).expects = d.expects := (d.flagIf_regsOut b x).eq Dev.expects fun _ _ _ => rfl
@[simp] theorem Dev.flagIf_pulses (d : Dev) (b : Bool) (x : Fld) : (d.flagIf b x).pulses = d.pulses := (d.flagIf_regsOut b x).eq Dev.pulses fun _ _ _ => rfl
@[simp] theorem Dev.flagIf_misses (d : Dev) (b : Bool) (x : Fld) : (d.flagIf b x).misses = d.misses := (d.flagIf_regsOut b x).eq Dev.misses fun _ _ _ => rfl
@[simp] theorem Dev.flagIf_afeCh (d : Dev) (b : Bool) (x : Fld) : (d.flagIf b x).afeCh = d.afeCh := (d.flagIf_regsOut b x).eq Dev.afeCh fun _ _ _ => rfl
@[simp] theorem Dev.flagIf_afeGrp (d : Dev) (b : Bool) (x : Fld) : (d.flagIf b x).afeGrp = d.afeGrp := (d.flagIf_regsOut b x).eq Dev.afeGrp fun _ _ _ => rfl
@[simp] theorem Dev.flagIf_ltn (d : Dev) (b : Bool) (x : Fld) : (d.flagIf b x).ltn = d.ltn := (d.flagIf_regsOut b x).eq Dev.ltn fun _ _ _ => rfl
@[simp] theorem Dev.flagIf_gal (d : Dev) (b : Bool) (x : Fld) : (d.flagIf b x).gal = d.gal := (d.flagIf_regsOut b x).eq Dev.gal fun _ _ _ => rfl
@[simp] theorem Dev.flagIf_shd (d : Dev) (b : Bool) (x : Fld) : (d.flagIf b x).shd = d.shd := (d.flagIf_regsOut b x).eq Dev.shd fun _ _ _ => rfl
@[simp] theorem Dev.flagIf_sur (d : Dev) (b : Bool) (x : Fld) : (d.flagIf b x).sur = d.sur := (d.flagIf_regsOut b x).eq Dev.sur fun _ _ _ => rfl
@[simp] theorem Dev.flagIf_str (d : Dev) (b : Bool) (x : Fld) : (d.flagIf b x).str = d.str := (d.flagIf_regsOut b x).eq Dev.str fun _ _ _ => rfl
@[simp] theorem Dev.flagIf_flw (d : Dev) (b : Bool) (x : Fld) : (d.flagIf b x).flw = d.flw := (d.flagIf_regsOut b x).eq Dev.flw fun _ _ _ => rfl
@[simp] theorem Dev.flagIf_meas (d : Dev) (b : Bool) (x : Fld) : (d.flagIf b x).meas = d.meas := (d.flagIf_regsOut b x).eq Dev.meas fun _ _ _ => rfl
@[simp] theorem Dev.flagIf_axes (d : Dev) (b : Bool) (x : Fld) : (d.flagIf b x).axes = d.axes := (d.flagIf_regsOut b x).eq Dev.axes fun _ _ _ => rfl
@[simp] theorem Dev.flagIf_moves (d : Dev) (b : Bool) (x : Fld) : (d.flagIf b x).moves = d.moves := (d.flagIf_regsOut b x).eq Dev.moves fun _ _ _ => rfl
@[simp] theorem Dev.flagIf_nextMove (d : Dev) (b : Bool) (x : Fld) : (d.flagIf b x).nextMove = d.nextMove := (d.flagIf_regsOut b x).eq Dev.nextMove fun _ _ _ => rfl
@[simp] theorem Dev.flagIf_servoT (d : Dev) (b : Bool) (x : Fld) : (d.flagIf b x).servoT = d.servoT := (d.flagIf_regsOut b x).eq Dev.servoT fun _ _ _ => rfl
@[simp] theorem Dev.flagIf_haul (d : Dev) (b : Bool) (x : Fld) : (d.flagIf b x).haul = d.haul := (d.flagIf_regsOut b x).eq Dev.haul fun _ _ _ => rfl
@[simp] theorem Dev.flagIf_nak (d : Dev) (b : Bool) (x : Fld) : (d.flagIf b x).nak = d.nak := (d.flagIf_regsOut b x).eq Dev.nak fun _ _ _ => rfl
@[simp] theorem Dev.flagIf_hkc (d : Dev) (b : Bool) (x : Fld) : (d.flagIf b x).hkc = d.hkc := (d.flagIf_regsOut b x).eq Dev.hkc fun _ _ _ => rfl
@[simp] theorem Dev.flagIf_hkcCal (d : Dev) (b : Bool) (x : Fld) : (d.flagIf b x).hkcCal = d.hkcCal := (d.flagIf_regsOut b x).eq Dev.hkcCal fun _ _ _ => rfl
@[simp] theorem Dev.flagIf_sec (d : Dev) (b : Bool) (x : Fld) : (d.flagIf b x).sec = d.sec := (d.flagIf_regsOut b x).eq Dev.sec fun _ _ _ => rfl
@[simp] theorem Dev.flagIf_rows (d : Dev) (b : Bool) (x : Fld) : (d.flagIf b x).rows = d.rows := (d.flagIf_regsOut b x).eq Dev.rows fun _ _ _ => rfl
@[simp] theorem Dev.flagIf_rowErrs (d : Dev) (b : Bool) (x : Fld) : (d.flagIf b x).rowErrs = d.rowErrs := (d.flagIf_regsOut b x).eq Dev.rowErrs fun _ _ _ => rfl
@[simp] theorem Dev.flagIf_tap (d : Dev) (b : Bool) (x : Fld) : (d.flagIf b x).tap = d.tap := (d.flagIf_regsOut b x).eq Dev.tap fun _ _ _ => rfl
@[simp] theorem Dev.flagIf_ledgerQ (d : Dev) (b : Bool) (x : Fld) : (d.flagIf b x).ledgerQ = d.ledgerQ := (d.flagIf_regsOut b x).eq Dev.ledgerQ fun _ _ _ => rfl
@[simp] theorem Dev.flagIf_ledger (d : Dev) (b : Bool) (x : Fld) : (d.flagIf b x).ledger = d.ledger := (d.flagIf_regsOut b x).eq Dev.ledger fun _ _ _ => rfl

@[simp] theorem Dev.post_ram (d : Dev) (n : Nat) (c : Cpl) : (d.post n c).ram = d.ram := (d.post_ringsOut n c).eq Dev.ram fun _ _ _ _ => rfl
@[simp] theorem Dev.post_flash (d : Dev) (n : Nat) (c : Cpl) : (d.post n c).flash = d.flash := (d.post_ringsOut n c).eq Dev.flash fun _ _ _ _ => rfl
@[simp] theorem Dev.post_shadows (d : Dev) (n : Nat) (c : Cpl) : (d.post n c).shadows = d.shadows := (d.post_ringsOut n c).eq Dev.shadows fun _ _ _ _ => rfl
@[simp] theorem Dev.post_msixTab (d : Dev) (n : Nat) (c : Cpl) : (d.post n c).msixTab = d.msixTab := (d.post_ringsOut n c).eq Dev.msixTab fun _ _ _ _ => rfl
@[simp] theorem Dev.post_clock (d : Dev) (n : Nat) (c : Cpl) : (d.post n c).clock = d.clock := (d.post_ringsOut n c).eq Dev.clock fun _ _ _ _ => rfl
@[simp] theorem Dev.post_free (d : Dev) (n : Nat) (c : Cpl) : (d.post n c).free = d.free := (d.post_ringsOut n c).eq Dev.free fun _ _ _ _ => rfl
@[simp] theorem Dev.post_link (d : Dev) (n : Nat) (c : Cpl) : (d.post n c).link = d.link := (d.post_ringsOut n c).eq Dev.link fun _ _ _ _ => rfl
@[simp] theorem Dev.post_mode (d : Dev) (n : Nat) (c : Cpl) : (d.post n c).mode = d.mode := (d.post_ringsOut n c).eq Dev.mode fun _ _ _ _ => rfl
@[simp] theorem Dev.post_req (d : Dev) (n : Nat) (c : Cpl) : (d.post n c).req = d.req := (d.post_ringsOut n c).eq Dev.req fun _ _ _ _ => rfl
@[simp] theorem Dev.post_rst (d : Dev) (n : Nat) (c : Cpl) : (d.post n c).rst = d.rst := (d.post_ringsOut n c).eq Dev.rst fun _ _ _ _ => rfl
@[simp] theorem Dev.post_bar (d : Dev) (n : Nat) (c : Cpl) : (d.post n c).bar = d.bar := (d.post_ringsOut n c).eq Dev.bar fun _ _ _ _ => rfl
@[simp] theorem Dev.post_sqs (d : Dev) (n : Nat) (c : Cpl) : (d.post n c).sqs = d.sqs := (d.post_ringsOut n c).eq Dev.sqs fun _ _ _ _ => rfl
@[simp] theorem Dev.post_rr (d : Dev) (n : Nat) (c : Cpl) : (d.post n c).rr = d.rr := (d.post_ringsOut n c).eq Dev.rr fun _ _ _ _ => rfl
@[simp] theorem Dev.post_nextRun (d : Dev) (n : Nat) (c : Cpl) : (d.post n c).nextRun = d.nextRun := (d.post_ringsOut n c).eq Dev.nextRun fun _ _ _ _ => rfl
@[simp] theorem Dev.post_running (d : Dev) (n : Nat) (c : Cpl) : (d.post n c).running = d.running := (d.post_ringsOut n c).eq Dev.running fun _ _ _ _ => rfl
@[simp] theorem Dev.post_ctxs (d : Dev) (n : Nat) (c : Cpl) : (d.post n c).ctxs = d.ctxs := (d.post_ringsOut n c).eq Dev.ctxs fun _ _ _ _ => rfl
@[simp] theorem Dev.post_supplies (d : Dev) (n : Nat) (c : Cpl) : (d.post n c).supplies = d.supplies := (d.post_ringsOut n c).eq Dev.supplies fun _ _ _ _ => rfl
@[simp] theorem Dev.post_sump (d : Dev) (n : Nat) (c : Cpl) : (d.post n c).sump = d.sump := (d.post_ringsOut n c).eq Dev.sump fun _ _ _ _ => rfl
@[simp] theorem Dev.post_time (d : Dev) (n : Nat) (c : Cpl) : (d.post n c).time = d.time := (d.post_ringsOut n c).eq Dev.time fun _ _ _ _ => rfl
@[simp] theorem Dev.post_slots (d : Dev) (n : Nat) (c : Cpl) : (d.post n c).slots = d.slots := (d.post_ringsOut n c).eq Dev.slots fun _ _ _ _ => rfl
@[simp] theorem Dev.post_tet (d : Dev) (n : Nat) (c : Cpl) : (d.post n c).tet = d.tet := (d.post_ringsOut n c).eq Dev.tet fun _ _ _ _ => rfl
@[simp] theorem Dev.post_i2c (d : Dev) (n : Nat) (c : Cpl) : (d.post n c).i2c = d.i2c := (d.post_ringsOut n c).eq Dev.i2c fun _ _ _ _ => rfl
@[simp] theorem Dev.post_lanes (d : Dev) (n : Nat) (c : Cpl) : (d.post n c).lanes = d.lanes := (d.post_ringsOut n c).eq Dev.lanes fun _ _ _ _ => rfl
@[simp] theorem Dev.post_expects (d : Dev) (n : Nat) (c : Cpl) : (d.post n c).expects = d.expects := (d.post_ringsOut n c).eq Dev.expects fun _ _ _ _ => rfl
@[simp] theorem Dev.post_pulses (d : Dev) (n : Nat) (c : Cpl) : (d.post n c).pulses = d.pulses := (d.post_ringsOut n c).eq Dev.pulses fun _ _ _ _ => rfl
@[simp] theorem Dev.post_misses (d : Dev) (n : Nat) (c : Cpl) : (d.post n c).misses = d.misses := (d.post_ringsOut n c).eq Dev.misses fun _ _ _ _ => rfl
@[simp] theorem Dev.post_afeCh (d : Dev) (n : Nat) (c : Cpl) : (d.post n c).afeCh = d.afeCh := (d.post_ringsOut n c).eq Dev.afeCh fun _ _ _ _ => rfl
@[simp] theorem Dev.post_afeGrp (d : Dev) (n : Nat) (c : Cpl) : (d.post n c).afeGrp = d.afeGrp := (d.post_ringsOut n c).eq Dev.afeGrp fun _ _ _ _ => rfl
@[simp] theorem Dev.post_ltn (d : Dev) (n : Nat) (c : Cpl) : (d.post n c).ltn = d.ltn := (d.post_ringsOut n c).eq Dev.ltn fun _ _ _ _ => rfl
@[simp] theorem Dev.post_gal (d : Dev) (n : Nat) (c : Cpl) : (d.post n c).gal = d.gal := (d.post_ringsOut n c).eq Dev.gal fun _ _ _ _ => rfl
@[simp] theorem Dev.post_shd (d : Dev) (n : Nat) (c : Cpl) : (d.post n c).shd = d.shd := (d.post_ringsOut n c).eq Dev.shd fun _ _ _ _ => rfl
@[simp] theorem Dev.post_sur (d : Dev) (n : Nat) (c : Cpl) : (d.post n c).sur = d.sur := (d.post_ringsOut n c).eq Dev.sur fun _ _ _ _ => rfl
@[simp] theorem Dev.post_str (d : Dev) (n : Nat) (c : Cpl) : (d.post n c).str = d.str := (d.post_ringsOut n c).eq Dev.str fun _ _ _ _ => rfl
@[simp] theorem Dev.post_flw (d : Dev) (n : Nat) (c : Cpl) : (d.post n c).flw = d.flw := (d.post_ringsOut n c).eq Dev.flw fun _ _ _ _ => rfl
@[simp] theorem Dev.post_meas (d : Dev) (n : Nat) (c : Cpl) : (d.post n c).meas = d.meas := (d.post_ringsOut n c).eq Dev.meas fun _ _ _ _ => rfl
@[simp] theorem Dev.post_axes (d : Dev) (n : Nat) (c : Cpl) : (d.post n c).axes = d.axes := (d.post_ringsOut n c).eq Dev.axes fun _ _ _ _ => rfl
@[simp] theorem Dev.post_moves (d : Dev) (n : Nat) (c : Cpl) : (d.post n c).moves = d.moves := (d.post_ringsOut n c).eq Dev.moves fun _ _ _ _ => rfl
@[simp] theorem Dev.post_nextMove (d : Dev) (n : Nat) (c : Cpl) : (d.post n c).nextMove = d.nextMove := (d.post_ringsOut n c).eq Dev.nextMove fun _ _ _ _ => rfl
@[simp] theorem Dev.post_servoT (d : Dev) (n : Nat) (c : Cpl) : (d.post n c).servoT = d.servoT := (d.post_ringsOut n c).eq Dev.servoT fun _ _ _ _ => rfl
@[simp] theorem Dev.post_haul (d : Dev) (n : Nat) (c : Cpl) : (d.post n c).haul = d.haul := (d.post_ringsOut n c).eq Dev.haul fun _ _ _ _ => rfl
@[simp] theorem Dev.post_nak (d : Dev) (n : Nat) (c : Cpl) : (d.post n c).nak = d.nak := (d.post_ringsOut n c).eq Dev.nak fun _ _ _ _ => rfl
@[simp] theorem Dev.post_hkc (d : Dev) (n : Nat) (c : Cpl) : (d.post n c).hkc = d.hkc := (d.post_ringsOut n c).eq Dev.hkc fun _ _ _ _ => rfl
@[simp] theorem Dev.post_hkcCal (d : Dev) (n : Nat) (c : Cpl) : (d.post n c).hkcCal = d.hkcCal := (d.post_ringsOut n c).eq Dev.hkcCal fun _ _ _ _ => rfl
@[simp] theorem Dev.post_sec (d : Dev) (n : Nat) (c : Cpl) : (d.post n c).sec = d.sec := (d.post_ringsOut n c).eq Dev.sec fun _ _ _ _ => rfl
@[simp] theorem Dev.post_rows (d : Dev) (n : Nat) (c : Cpl) : (d.post n c).rows = d.rows := (d.post_ringsOut n c).eq Dev.rows fun _ _ _ _ => rfl
@[simp] theorem Dev.post_rowErrs (d : Dev) (n : Nat) (c : Cpl) : (d.post n c).rowErrs = d.rowErrs := (d.post_ringsOut n c).eq Dev.rowErrs fun _ _ _ _ => rfl
@[simp] theorem Dev.post_tap (d : Dev) (n : Nat) (c : Cpl) : (d.post n c).tap = d.tap := (d.post_ringsOut n c).eq Dev.tap fun _ _ _ _ => rfl
@[simp] theorem Dev.post_ledgerQ (d : Dev) (n : Nat) (c : Cpl) : (d.post n c).ledgerQ = d.ledgerQ := (d.post_ringsOut n c).eq Dev.ledgerQ fun _ _ _ _ => rfl
@[simp] theorem Dev.post_ledger (d : Dev) (n : Nat) (c : Cpl) : (d.post n c).ledger = d.ledger := (d.post_ringsOut n c).eq Dev.ledger fun _ _ _ _ => rfl

@[simp] theorem Dev.complete_ram (d : Dev) (src : Src) (o : CmdRes) : (d.complete src o).ram = d.ram := (d.complete_ringsOut src o).eq Dev.ram fun _ _ _ _ => rfl
@[simp] theorem Dev.complete_flash (d : Dev) (src : Src) (o : CmdRes) : (d.complete src o).flash = d.flash := (d.complete_ringsOut src o).eq Dev.flash fun _ _ _ _ => rfl
@[simp] theorem Dev.complete_shadows (d : Dev) (src : Src) (o : CmdRes) : (d.complete src o).shadows = d.shadows := (d.complete_ringsOut src o).eq Dev.shadows fun _ _ _ _ => rfl
@[simp] theorem Dev.complete_msixTab (d : Dev) (src : Src) (o : CmdRes) : (d.complete src o).msixTab = d.msixTab := (d.complete_ringsOut src o).eq Dev.msixTab fun _ _ _ _ => rfl
@[simp] theorem Dev.complete_clock (d : Dev) (src : Src) (o : CmdRes) : (d.complete src o).clock = d.clock := (d.complete_ringsOut src o).eq Dev.clock fun _ _ _ _ => rfl
@[simp] theorem Dev.complete_free (d : Dev) (src : Src) (o : CmdRes) : (d.complete src o).free = d.free := (d.complete_ringsOut src o).eq Dev.free fun _ _ _ _ => rfl
@[simp] theorem Dev.complete_link (d : Dev) (src : Src) (o : CmdRes) : (d.complete src o).link = d.link := (d.complete_ringsOut src o).eq Dev.link fun _ _ _ _ => rfl
@[simp] theorem Dev.complete_mode (d : Dev) (src : Src) (o : CmdRes) : (d.complete src o).mode = d.mode := (d.complete_ringsOut src o).eq Dev.mode fun _ _ _ _ => rfl
@[simp] theorem Dev.complete_req (d : Dev) (src : Src) (o : CmdRes) : (d.complete src o).req = d.req := (d.complete_ringsOut src o).eq Dev.req fun _ _ _ _ => rfl
@[simp] theorem Dev.complete_rst (d : Dev) (src : Src) (o : CmdRes) : (d.complete src o).rst = d.rst := (d.complete_ringsOut src o).eq Dev.rst fun _ _ _ _ => rfl
@[simp] theorem Dev.complete_bar (d : Dev) (src : Src) (o : CmdRes) : (d.complete src o).bar = d.bar := (d.complete_ringsOut src o).eq Dev.bar fun _ _ _ _ => rfl
@[simp] theorem Dev.complete_sqs (d : Dev) (src : Src) (o : CmdRes) : (d.complete src o).sqs = d.sqs := (d.complete_ringsOut src o).eq Dev.sqs fun _ _ _ _ => rfl
@[simp] theorem Dev.complete_rr (d : Dev) (src : Src) (o : CmdRes) : (d.complete src o).rr = d.rr := (d.complete_ringsOut src o).eq Dev.rr fun _ _ _ _ => rfl
@[simp] theorem Dev.complete_nextRun (d : Dev) (src : Src) (o : CmdRes) : (d.complete src o).nextRun = d.nextRun := (d.complete_ringsOut src o).eq Dev.nextRun fun _ _ _ _ => rfl
@[simp] theorem Dev.complete_running (d : Dev) (src : Src) (o : CmdRes) : (d.complete src o).running = d.running := (d.complete_ringsOut src o).eq Dev.running fun _ _ _ _ => rfl
@[simp] theorem Dev.complete_ctxs (d : Dev) (src : Src) (o : CmdRes) : (d.complete src o).ctxs = d.ctxs := (d.complete_ringsOut src o).eq Dev.ctxs fun _ _ _ _ => rfl
@[simp] theorem Dev.complete_supplies (d : Dev) (src : Src) (o : CmdRes) : (d.complete src o).supplies = d.supplies := (d.complete_ringsOut src o).eq Dev.supplies fun _ _ _ _ => rfl
@[simp] theorem Dev.complete_sump (d : Dev) (src : Src) (o : CmdRes) : (d.complete src o).sump = d.sump := (d.complete_ringsOut src o).eq Dev.sump fun _ _ _ _ => rfl
@[simp] theorem Dev.complete_time (d : Dev) (src : Src) (o : CmdRes) : (d.complete src o).time = d.time := (d.complete_ringsOut src o).eq Dev.time fun _ _ _ _ => rfl
@[simp] theorem Dev.complete_slots (d : Dev) (src : Src) (o : CmdRes) : (d.complete src o).slots = d.slots := (d.complete_ringsOut src o).eq Dev.slots fun _ _ _ _ => rfl
@[simp] theorem Dev.complete_tet (d : Dev) (src : Src) (o : CmdRes) : (d.complete src o).tet = d.tet := (d.complete_ringsOut src o).eq Dev.tet fun _ _ _ _ => rfl
@[simp] theorem Dev.complete_i2c (d : Dev) (src : Src) (o : CmdRes) : (d.complete src o).i2c = d.i2c := (d.complete_ringsOut src o).eq Dev.i2c fun _ _ _ _ => rfl
@[simp] theorem Dev.complete_lanes (d : Dev) (src : Src) (o : CmdRes) : (d.complete src o).lanes = d.lanes := (d.complete_ringsOut src o).eq Dev.lanes fun _ _ _ _ => rfl
@[simp] theorem Dev.complete_expects (d : Dev) (src : Src) (o : CmdRes) : (d.complete src o).expects = d.expects := (d.complete_ringsOut src o).eq Dev.expects fun _ _ _ _ => rfl
@[simp] theorem Dev.complete_pulses (d : Dev) (src : Src) (o : CmdRes) : (d.complete src o).pulses = d.pulses := (d.complete_ringsOut src o).eq Dev.pulses fun _ _ _ _ => rfl
@[simp] theorem Dev.complete_misses (d : Dev) (src : Src) (o : CmdRes) : (d.complete src o).misses = d.misses := (d.complete_ringsOut src o).eq Dev.misses fun _ _ _ _ => rfl
@[simp] theorem Dev.complete_afeCh (d : Dev) (src : Src) (o : CmdRes) : (d.complete src o).afeCh = d.afeCh := (d.complete_ringsOut src o).eq Dev.afeCh fun _ _ _ _ => rfl
@[simp] theorem Dev.complete_afeGrp (d : Dev) (src : Src) (o : CmdRes) : (d.complete src o).afeGrp = d.afeGrp := (d.complete_ringsOut src o).eq Dev.afeGrp fun _ _ _ _ => rfl
@[simp] theorem Dev.complete_ltn (d : Dev) (src : Src) (o : CmdRes) : (d.complete src o).ltn = d.ltn := (d.complete_ringsOut src o).eq Dev.ltn fun _ _ _ _ => rfl
@[simp] theorem Dev.complete_gal (d : Dev) (src : Src) (o : CmdRes) : (d.complete src o).gal = d.gal := (d.complete_ringsOut src o).eq Dev.gal fun _ _ _ _ => rfl
@[simp] theorem Dev.complete_shd (d : Dev) (src : Src) (o : CmdRes) : (d.complete src o).shd = d.shd := (d.complete_ringsOut src o).eq Dev.shd fun _ _ _ _ => rfl
@[simp] theorem Dev.complete_sur (d : Dev) (src : Src) (o : CmdRes) : (d.complete src o).sur = d.sur := (d.complete_ringsOut src o).eq Dev.sur fun _ _ _ _ => rfl
@[simp] theorem Dev.complete_str (d : Dev) (src : Src) (o : CmdRes) : (d.complete src o).str = d.str := (d.complete_ringsOut src o).eq Dev.str fun _ _ _ _ => rfl
@[simp] theorem Dev.complete_flw (d : Dev) (src : Src) (o : CmdRes) : (d.complete src o).flw = d.flw := (d.complete_ringsOut src o).eq Dev.flw fun _ _ _ _ => rfl
@[simp] theorem Dev.complete_meas (d : Dev) (src : Src) (o : CmdRes) : (d.complete src o).meas = d.meas := (d.complete_ringsOut src o).eq Dev.meas fun _ _ _ _ => rfl
@[simp] theorem Dev.complete_axes (d : Dev) (src : Src) (o : CmdRes) : (d.complete src o).axes = d.axes := (d.complete_ringsOut src o).eq Dev.axes fun _ _ _ _ => rfl
@[simp] theorem Dev.complete_moves (d : Dev) (src : Src) (o : CmdRes) : (d.complete src o).moves = d.moves := (d.complete_ringsOut src o).eq Dev.moves fun _ _ _ _ => rfl
@[simp] theorem Dev.complete_nextMove (d : Dev) (src : Src) (o : CmdRes) : (d.complete src o).nextMove = d.nextMove := (d.complete_ringsOut src o).eq Dev.nextMove fun _ _ _ _ => rfl
@[simp] theorem Dev.complete_servoT (d : Dev) (src : Src) (o : CmdRes) : (d.complete src o).servoT = d.servoT := (d.complete_ringsOut src o).eq Dev.servoT fun _ _ _ _ => rfl
@[simp] theorem Dev.complete_haul (d : Dev) (src : Src) (o : CmdRes) : (d.complete src o).haul = d.haul := (d.complete_ringsOut src o).eq Dev.haul fun _ _ _ _ => rfl
@[simp] theorem Dev.complete_nak (d : Dev) (src : Src) (o : CmdRes) : (d.complete src o).nak = d.nak := (d.complete_ringsOut src o).eq Dev.nak fun _ _ _ _ => rfl
@[simp] theorem Dev.complete_hkc (d : Dev) (src : Src) (o : CmdRes) : (d.complete src o).hkc = d.hkc := (d.complete_ringsOut src o).eq Dev.hkc fun _ _ _ _ => rfl
@[simp] theorem Dev.complete_hkcCal (d : Dev) (src : Src) (o : CmdRes) : (d.complete src o).hkcCal = d.hkcCal := (d.complete_ringsOut src o).eq Dev.hkcCal fun _ _ _ _ => rfl
@[simp] theorem Dev.complete_sec (d : Dev) (src : Src) (o : CmdRes) : (d.complete src o).sec = d.sec := (d.complete_ringsOut src o).eq Dev.sec fun _ _ _ _ => rfl
@[simp] theorem Dev.complete_rows (d : Dev) (src : Src) (o : CmdRes) : (d.complete src o).rows = d.rows := (d.complete_ringsOut src o).eq Dev.rows fun _ _ _ _ => rfl
@[simp] theorem Dev.complete_rowErrs (d : Dev) (src : Src) (o : CmdRes) : (d.complete src o).rowErrs = d.rowErrs := (d.complete_ringsOut src o).eq Dev.rowErrs fun _ _ _ _ => rfl
@[simp] theorem Dev.complete_tap (d : Dev) (src : Src) (o : CmdRes) : (d.complete src o).tap = d.tap := (d.complete_ringsOut src o).eq Dev.tap fun _ _ _ _ => rfl
@[simp] theorem Dev.complete_ledgerQ (d : Dev) (src : Src) (o : CmdRes) : (d.complete src o).ledgerQ = d.ledgerQ := (d.complete_ringsOut src o).eq Dev.ledgerQ fun _ _ _ _ => rfl
@[simp] theorem Dev.complete_ledger (d : Dev) (src : Src) (o : CmdRes) : (d.complete src o).ledger = d.ledger := (d.complete_ringsOut src o).eq Dev.ledger fun _ _ _ _ => rfl

end Sys2Proof.Machine
end

