-- ==== Sys2Proof/Laws/Fields.lean ====
section
/-! SUPPORT. What a field reads after each of the named writes, in the form `simp` uses: side conditions on field bounds are numerals,
those on addresses are for `omega`. -/

namespace Sys2Proof.Machine

theorem Dev.f_same (d : Dev) (a hi lo v : Nat) (h : lo ≤ hi + 1) (h' : hi < 32) :
    (d.setF ⟨a, hi, lo⟩ v).f ⟨a, hi, lo⟩ = v % 2 ^ (hi + 1 - lo) := d.f_setF_self ⟨a, hi, lo⟩ v h h'

theorem Dev.f_apart (d : Dev) (a hi lo hi' lo' v : Nat) (h : lo ≤ hi + 1) (h' : hi < 32) (hd : hi < lo' ∨ hi' < lo) :
    (d.setF ⟨a, hi, lo⟩ v).f ⟨a, hi', lo'⟩ = d.f ⟨a, hi', lo'⟩ := d.f_setF_apart ⟨a, hi, lo⟩ ⟨a, hi', lo'⟩ v h h' rfl hd

theorem Dev.f_other (d : Dev) (a b hi lo hi' lo' v : Nat) (h : b ≠ a) :
    (d.setF ⟨a, hi, lo⟩ v).f ⟨b, hi', lo'⟩ = d.f ⟨b, hi', lo'⟩ := d.f_setF_ne ⟨a, hi, lo⟩ ⟨b, hi', lo'⟩ v h

theorem Dev.f_setReg_other (d : Dev) (a b hi lo : Nat) (w : Word) (h : b ≠ a) :
    (d.setReg a w).f ⟨b, hi, lo⟩ = d.f ⟨b, hi, lo⟩ := d.f_setReg_ne ⟨b, hi, lo⟩ w h

theorem Dev.f_setReg_same (d : Dev) (a hi lo : Nat) (w : Word) : (d.setReg a w).f ⟨a, hi, lo⟩ = bitsOf w.toNat hi lo := by
  rw [Dev.f, Dev.reg_setReg_self]

/-- A field reads the same in devices of equal registers. -/
theorem Dev.f_regs {d e : Dev} (h : e.regs = d.regs) (x : Fld) : e.f x = d.f x := by
  rw [Dev.f, Dev.f, Dev.reg, Dev.reg, h]

theorem Dev.reg_regs {d e : Dev} (h : e.regs = d.regs) (a : Nat) : e.reg a = d.reg a := by
  rw [Dev.reg, Dev.reg, h]

@[simp] theorem Dev.f_emit (d : Dev) (o : Out) (x : Fld) : (d.emit o).f x = d.f x := rfl
@[simp] theorem Dev.f_setByte (d : Dev) (a : Nat) (b : Byte) (x : Fld) : (d.setByte a b).f x = d.f x := rfl
@[simp] theorem Dev.f_sendMsi (d : Dev) (v : Nat) (x : Fld) : (d.sendMsi v).f x = d.f x := Dev.f_regs (d.sendMsi_regs v) x
@[simp] theorem Dev.reg_sendMsi (d : Dev) (v a : Nat) : (d.sendMsi v).reg a = d.reg a := Dev.reg_regs (d.sendMsi_regs v) a
@[simp] theorem Dev.reg_emit (d : Dev) (o : Out) (a : Nat) : (d.emit o).reg a = d.reg a := rfl

theorem Dev.on_one {d : Dev} {x : Fld} (h : d.f x = 1) : d.on x = true := by simp [Dev.on, h]
theorem Dev.on_zero {d : Dev} {x : Fld} (h : d.f x = 0) : d.on x = false := by simp [Dev.on, h]

theorem Dev.irq_regs (d : Dev) (b : Nat) : (d.irq b).regs = (d.setF ⟨R.TOP_INT_STATUS, b, b⟩ 1).regs := by
  unfold Dev.irq
  dsimp only
  split
  · exact Dev.sendMsi_regs _ _
  · rfl

theorem Dev.f_irq (d : Dev) (b a hi lo : Nat) (h : a ≠ R.TOP_INT_STATUS) : (d.irq b).f ⟨a, hi, lo⟩ = d.f ⟨a, hi, lo⟩ := by
  rw [Dev.f_regs (d.irq_regs b), d.f_other _ _ _ _ _ _ _ h]

theorem Dev.reg_irq (d : Dev) (b a : Nat) (h : a ≠ R.TOP_INT_STATUS) : (d.irq b).reg a = d.reg a := by
  rw [Dev.reg_regs (d.irq_regs b), d.reg_setF_ne _ _ h]

theorem Dev.f_lt (d : Dev) (a hi lo : Nat) : d.f ⟨a, hi, lo⟩ < 2 ^ (hi + 1 - lo) := Nat.mod_lt _ (Nat.two_pow_pos _)

theorem Dev.f_irq_self (d : Dev) (b : Nat) (h : b < 32) : (d.irq b).f (intBit b) = 1 := by
  rw [Dev.f_regs (d.irq_regs b), intBit, Dev.f_same _ _ _ _ _ (by omega) h]
  simp

/-- A flag that the device sets reads 1. -/
theorem Dev.f_flag_same (d : Dev) (a b : Nat) (h : b < 32) (ha : a ≠ R.TOP_INT_STATUS) : (d.flag ⟨a, b, b⟩).f ⟨a, b, b⟩ = 1 := by
  unfold Dev.flag
  split
  · rename_i ho
    have h2 := d.f_lt a b b
    rw [show b + 1 - b = 1 by omega] at h2
    simp only [Dev.on, decide_eq_true_eq] at ho
    omega
  · rw [Dev.f_irq _ _ _ _ _ ha, Dev.f_same _ _ _ _ _ (by omega) h]
    simp

/-- Any other field reads as before a flag is set. -/
theorem Dev.f_flag_other (d : Dev) (x : Fld) (a hi lo : Nat) (ha : a ≠ R.TOP_INT_STATUS) (h : a ≠ x.addr) :
    (d.flag x).f ⟨a, hi, lo⟩ = d.f ⟨a, hi, lo⟩ := by
  unfold Dev.flag
  split
  · rfl
  · rw [Dev.f_irq _ _ _ _ _ ha, d.f_setF_ne _ _ _ h]

theorem Dev.f_flag_apart (d : Dev) (x y : Fld) (hx : x.lo = x.hi) (h : x.hi < 32) (ha : y.addr = x.addr) (hi : y.addr ≠ R.TOP_INT_STATUS)
    (hd : x.hi < y.lo ∨ y.hi < x.lo) : (d.flag x).f y = d.f y := by
  unfold Dev.flag
  split
  · rfl
  · rw [show y = ⟨y.addr, y.hi, y.lo⟩ from rfl, Dev.f_irq _ _ _ _ _ hi]
    exact d.f_setF_apart x y 1 (by omega) h ha hd

/-- An access error recorded. -/
theorem Dev.accessErr_first (d : Dev) (rq : Req) (bar2 : Bool) (k : ErrKind) (off : Nat) (hq : rq = .host ∨ rq = .supervisor)
    (h0 : d.f F.TOP_ERR_STATUS.ACCESS_ERR = 0) :
    d.Only (d.accessErr rq bar2 k off) accessErrFields ∧ (d.accessErr rq bar2 k off).f F.TOP_ERR_STATUS.ACCESS_ERR = 1 ∧
    (d.accessErr rq bar2 k off).f F.TOP_ERR_STATUS.KIND = k.code ∧ (d.accessErr rq bar2 k off).f F.TOP_ERR_STATUS.SPACE = b2n bar2 ∧
    (d.accessErr rq bar2 k off).f F.TOP_ERR_STATUS.REQUESTER = b2n (decide (rq = .supervisor)) ∧
    (d.accessErr rq bar2 k off).f F.TOP_ERR_ADDR.OFFSET = off % 2 ^ 26 := by
  have hc : (d.count F.TOP_ERR_STATUS.ERR_CNT 1).on F.TOP_ERR_STATUS.ACCESS_ERR = false := by
    apply Dev.on_zero
    rw [Dev.count, Dev.f_apart _ _ _ _ _ _ _ (by decide) (by decide) (by decide)]
    exact h0
  have h1 : d.accessErr rq bar2 k off = (((((d.count F.TOP_ERR_STATUS.ERR_CNT 1).setB F.TOP_ERR_STATUS.SPACE bar2).setB F.TOP_ERR_STATUS.REQUESTER (decide (rq = .supervisor))).setF
        F.TOP_ERR_STATUS.KIND k.code).setF F.TOP_ERR_ADDR.OFFSET off).flag F.TOP_ERR_STATUS.ACCESS_ERR := by
    rcases hq with rfl | rfl <;> simp only [Dev.accessErr, hc, Bool.false_eq_true, if_false]
  refine ⟨(Dev.Only.refl _ _).accessErr _ _ _ _ hq (by simp), ?_⟩
  rw [h1]
  generalize d.count F.TOP_ERR_STATUS.ERR_CNT 1 = d1
  unfold Dev.setB
  refine ⟨Dev.f_flag_same _ _ _ (by decide) (by decide), ?_, ?_, ?_, ?_⟩
  · rw [Dev.f_flag_apart _ _ _ (by rfl) (by decide) (by rfl) (by decide) (by decide), Dev.f_other _ _ _ _ _ _ _ _ (by decide), Dev.f_same _ _ _ _ _ (by decide) (by decide)]
    cases k <;> rfl
  · rw [Dev.f_flag_apart _ _ _ (by rfl) (by decide) (by rfl) (by decide) (by decide), Dev.f_other _ _ _ _ _ _ _ _ (by decide), Dev.f_apart _ _ _ _ _ _ _ (by decide) (by decide) (by decide), Dev.f_apart _ _ _ _ _ _ _ (by decide) (by decide) (by decide), Dev.f_same _ _ _ _ _ (by decide) (by decide)]
    cases bar2 <;> rfl
  · rw [Dev.f_flag_apart _ _ _ (by rfl) (by decide) (by rfl) (by decide) (by decide), Dev.f_other _ _ _ _ _ _ _ _ (by decide), Dev.f_apart _ _ _ _ _ _ _ (by decide) (by decide) (by decide), Dev.f_same _ _ _ _ _ (by decide) (by decide)]
    cases decide (rq = .supervisor) <;> rfl
  · rw [Dev.f_flag_other _ _ _ _ _ (by decide) (by decide), Dev.f_same _ _ _ _ _ (by decide) (by decide)]

end Sys2Proof.Machine
end

