-- ==== Sys2Proof/Laws/Keeps.lean ====
section
/-! SUPPORT. A property of the device that the plain writes keep is kept by every operation of the model (generated text: one lemma
per operation, in the order of calls). `Keeps`: writes of registers, of the windows and of any field but the flash and the OTP;
`KeepsFlash`,
`KeepsOtp`: those of the flash, of the OTP as well. -/

namespace Sys2Proof.Machine

/-- `P` survives every write but one of the flash or of the OTP. -/
structure Keeps (P : Dev → Prop) : Prop where
  regs : ∀ (d : Dev) m, (spWf regReset d.regs = true → spWf regReset m = true) → P d → P { d with regs := m }
  ram : ∀ (d : Dev) m, (spWf ramDflt d.ram = true → spWf ramDflt m = true) → P d → P { d with ram := m }
  rest : ∀ d e : Dev, e.regs = d.regs → e.ram = d.ram → e.flash = d.flash → e.sec.otp = d.sec.otp → P d → P e

/-- And writes of the flash. -/
structure KeepsFlash (P : Dev → Prop) : Prop extends Keeps P where
  flash : ∀ (d : Dev) m, (spWf flashDflt d.flash = true → spWf flashDflt m = true) → P d → P { d with flash := m }

/-- And writes of the OTP. -/
structure KeepsOtp (P : Dev → Prop) : Prop extends Keeps P where
  otp : ∀ (d : Dev) o, P d → P { d with sec := { d.sec with otp := o } }

/-- `P` survives every write. -/
structure KeepsAll (P : Dev → Prop) : Prop extends KeepsFlash P, KeepsOtp P

variable {P : Dev → Prop}

theorem Keeps.mk' (c : Keeps P) {d : Dev} {r m f x4 x5 x6 x7 x8 x9 x10 x11 x12 x13 x14 x15 x16 x17 x18 x19 x20 x21 x22 x23 x24 x25 x26 x27 x28 x29 x30
    x31 x32 x33 x34 x35 x36 x37 x38 x39 x40 x41 x42 x43 x44 x45 x46 x47 x48 x49 x50 x51 x52 x53} (h : P d) (hr : d.regs = r) (hm : d.ram = m) (hf : d.flash = f)
    (ho : d.sec.otp = x48.otp) :
    P (Dev.mk r m f x4 x5 x6 x7 x8 x9 x10 x11 x12 x13 x14 x15 x16 x17 x18 x19 x20 x21 x22 x23 x24 x25 x26 x27 x28 x29 x30 x31 x32
      x33 x34 x35 x36 x37 x38 x39 x40 x41 x42 x43 x44 x45 x46 x47 x48 x49 x50 x51 x52 x53) :=
  c.rest _ _ hr.symm hm.symm hf.symm ho.symm h

theorem Dev.setReg_keeps (c : Keeps P) (d : Dev) (a : Nat) (w : Word) (h : P d) : P (d.setReg a w) :=
  c.regs _ _ (spWf_spSet _ _ _) h

theorem Dev.resetRegs_keeps (c : Keeps P) (d : Dev) (dom : Domain) (h : P d) : P (d.resetRegs dom) :=
  c.regs _ _ (spWf_filter _ _) h

theorem Dev.setByte_keeps (c : Keeps P) (d : Dev) (a : Nat) (b : Byte) (h : P d) : P (d.setByte a b) :=
  c.ram _ _ (spWf_spSet _ _ _) h

theorem Dev.setBytes_keeps (c : Keeps P) (d : Dev) (a : Nat) (l : List Byte) (h : P d) : P (d.setBytes a l) := by
  induction l generalizing d a with
  | nil => exact h
  | cons b t ih => exact ih _ _ (d.setByte_keeps c a b h)

theorem Dev.clearRange_keeps (c : Keeps P) (d : Dev) (a n : Nat) (h : P d) : P (d.clearRange a n) :=
  c.ram _ _ (spWf_filter _ _) h

theorem Dev.setFlash_keeps (c : KeepsFlash P) (d : Dev) (a : Nat) (l : List Byte) (h : P d) : P (d.setFlash a l) := by
  induction l generalizing d a with
  | nil => exact h
  | cons b t ih => exact ih _ _ (c.flash _ _ (spWf_spSet _ _ _) h)

theorem Dev.flashErase_keeps (c : KeepsFlash P) (d : Dev) (a n : Nat) (h : P d) : P (d.flashErase a n) :=
  c.flash _ _ (spWf_filter _ _) h

theorem foldl_keeps {α : Type} {f : Dev → α → Dev} {l : List α} {d : Dev} (h : ∀ d x, P d → P (f d x))
    (hd : P d) : P (l.foldl f d) := by
  induction l generalizing d with
  | nil => exact hd
  | cons x t ih => exact ih (h d x hd)

theorem foldl_fst_keeps {α β : Type} {f : Dev × β → α → Dev × β} {l : List α} {d : Dev × β}
    (h : ∀ d x, P d.1 → P (f d x).1) (hd : P d.1) : P (l.foldl f d).1 := by
  induction l generalizing d with
  | nil => exact hd
  | cons x t ih => exact ih (h d x hd)

theorem foldl_snd_keeps {α β : Type} {f : β × Dev → α → β × Dev} {l : List α} {d : β × Dev}
    (h : ∀ d x, P d.2 → P (f d x).2) (hd : P d.2) : P (l.foldl f d).2 := by
  induction l generalizing d with
  | nil => exact hd
  | cons x t ih => exact ih (h d x hd)

theorem forGC_keeps {d : Dev} {f : Dev → Nat → Nat → Dev} (h : ∀ d g c, P d → P (f d g c))
    (hd : P d) : P (forGC d f) := by
  unfold forGC
  exact foldl_keeps (fun d i hd => h _ _ _ hd) hd

theorem ite_keeps {p : Prop} [Decidable p] {a b : Dev} (ha : P a) (hb : P b) : P (if p then a else b) := by
  split
  · exact ha
  · exact hb

/-- The device of a pair that a match has taken apart. -/
theorem snd_keeps {α : Type} {p : α × Dev} {a : α} {d : Dev} (e : p = (a, d)) (h : P p.2) : P d := by
  rw [e] at h
  exact h

theorem fst_keeps {α : Type} {p : Dev × α} {a : α} {d : Dev} (e : p = (d, a)) (h : P p.1) : P d := by
  rw [e] at h
  exact h

theorem Dev.takeExpect_keeps (c : Keeps P) {d d' : Dev} {m t : Nat} {e : Expect} (h : d.takeExpect m t = some (e, d')) (hd : P d) : P d' := by
  unfold Dev.takeExpect at h
  split at h
  · cases h
    exact c.rest d _ rfl rfl rfl rfl hd
  · cases h

theorem Dev.setF_keeps (c : Keeps P) (d x0 x1) (h : P d) : P (Dev.setF d x0 x1) := by
  unfold Dev.setF
  try dsimp only
  with_reducible repeat' first | assumption | apply Dev.setReg_keeps c
theorem Dev.emit_keeps (c : Keeps P) (d x0) (h : P d) : P (Dev.emit d x0) := by
  unfold Dev.emit
  try dsimp only
  with_reducible repeat' first | assumption | fail_if_no_progress refine Keeps.mk' c ?_ rfl rfl rfl rfl
theorem Dev.sendMsi_keeps (c : Keeps P) (d x0) (h : P d) : P (Dev.sendMsi d x0) := by
  unfold Dev.sendMsi
  try dsimp only
  with_reducible repeat' first
    | assumption | apply Dev.emit_keeps c | apply ite_keeps
    | fail_if_no_progress refine Keeps.mk' c ?_ rfl rfl rfl rfl
theorem Dev.errVec_keeps (c : Keeps P) (d) (h : P d) : P (Dev.errVec d) := by
  unfold Dev.errVec
  try dsimp only
  with_reducible repeat' first | assumption | apply Dev.sendMsi_keeps c
theorem Dev.irq_keeps (c : Keeps P) (d x0) (h : P d) : P (Dev.irq d x0) := by
  unfold Dev.irq
  try dsimp only
  with_reducible repeat' first | assumption | apply Dev.errVec_keeps c | apply Dev.setF_keeps c | apply ite_keeps
theorem Dev.flag_keeps (c : Keeps P) (d x0) (h : P d) : P (Dev.flag d x0) := by
  unfold Dev.flag
  try dsimp only
  with_reducible repeat' first | assumption | apply Dev.setF_keeps c | apply Dev.irq_keeps c | apply ite_keeps
theorem Dev.flagIf_keeps (c : Keeps P) (d x0 x1) (h : P d) : P (Dev.flagIf d x0 x1) := by
  unfold Dev.flagIf
  try dsimp only
  with_reducible repeat' first | assumption | apply Dev.flag_keeps c | apply ite_keeps
theorem Dev.cqWaits_keeps (c : Keeps P) (d x0) (h : P d) : P (Dev.cqWaits d x0) := by
  unfold Dev.cqWaits
  try dsimp only
  with_reducible repeat' first | assumption | apply Dev.flagIf_keeps c
theorem Dev.setCq_keeps (c : Keeps P) (d x0 x1) (h : P d) : P (Dev.setCq d x0 x1) := by
  unfold Dev.setCq
  try dsimp only
  with_reducible repeat' first | assumption | fail_if_no_progress refine Keeps.mk' c ?_ rfl rfl rfl rfl
theorem Dev.cqSignal_keeps (c : Keeps P) (d x0) (h : P d) : P (Dev.cqSignal d x0) := by
  unfold Dev.cqSignal
  try dsimp only
  with_reducible repeat' first | assumption | apply Dev.sendMsi_keeps c | apply Dev.setCq_keeps c
theorem Dev.cqWrite_keeps (c : Keeps P) (d x0 x1) (h : P d) : P (Dev.cqWrite d x0 x1) := by
  unfold Dev.cqWrite
  try dsimp only
  with_reducible repeat' first
    | assumption | apply Dev.setCq_keeps c | apply Dev.cqSignal_keeps c | apply Dev.setF_keeps c
    | apply Dev.emit_keeps c | apply ite_keeps
theorem Dev.post_keeps (c : Keeps P) (d x0 x1) (h : P d) : P (Dev.post d x0 x1) := by
  unfold Dev.post
  try dsimp only
  with_reducible repeat' first
    | assumption | apply Dev.cqWaits_keeps c | apply Dev.setCq_keeps c | apply Dev.cqWrite_keeps c
    | apply ite_keeps
theorem Dev.complete_keeps (c : Keeps P) (d x0 x1) (h : P d) : P (Dev.complete d x0 x1) := by
  unfold Dev.complete
  try dsimp only
  with_reducible repeat' first | assumption | apply Dev.post_keeps c
theorem Dev.dropRun_keeps (c : Keeps P) (d x0) (h : P d) : P (Dev.dropRun d x0) := by
  unfold Dev.dropRun
  try dsimp only
  with_reducible repeat' first | assumption | fail_if_no_progress refine Keeps.mk' c ?_ rfl rfl rfl rfl
theorem Dev.finish_keeps (c : Keeps P) (d x0 x1) (h : P d) : P (Dev.finish d x0 x1) := by
  unfold Dev.finish
  try dsimp only
  with_reducible repeat' first
    | assumption | apply Dev.complete_keeps c | apply Dev.dropRun_keeps c | refine snd_keeps (by assumption) ?_
    | refine fst_keeps (by assumption) ?_ | split
theorem Dev.abortStops_keeps (c : Keeps P) (d x0) (h : P d) : P (Dev.abortStops d x0) := by
  unfold Dev.abortStops
  try dsimp only
  with_reducible repeat' first
    | assumption | apply Dev.finish_keeps c | (apply foldl_keeps; intro d x hd) | apply ite_keeps
    | refine snd_keeps (by assumption) ?_ | refine fst_keeps (by assumption) ?_ | split
theorem Dev.setCtx_keeps (c : Keeps P) (d x0 x1) (h : P d) : P (Dev.setCtx d x0 x1) := by
  unfold Dev.setCtx
  try dsimp only
  with_reducible repeat' first | assumption | fail_if_no_progress refine Keeps.mk' c ?_ rfl rfl rfl rfl
theorem Dev.closeBuf_keeps (c : Keeps P) (d x0 x1) (h : P d) : P (Dev.closeBuf d x0 x1) := by
  unfold Dev.closeBuf
  try dsimp only
  with_reducible repeat' first
    | assumption | apply Dev.setCtx_keeps c | apply Dev.post_keeps c | refine snd_keeps (by assumption) ?_
    | refine fst_keeps (by assumption) ?_ | split
theorem Dev.count_keeps (c : Keeps P) (d x0 x1) (h : P d) : P (Dev.count d x0 x1) := by
  unfold Dev.count
  try dsimp only
  with_reducible repeat' first | assumption | apply Dev.setF_keeps c
theorem Dev.quotaEvent_keeps (c : Keeps P) (d x0 x1) (h : P d) : P (Dev.quotaEvent d x0 x1) := by
  unfold Dev.quotaEvent
  try dsimp only
  with_reducible repeat' first | assumption | apply Dev.flag_keeps c | apply Dev.setF_keeps c | apply Dev.count_keeps c
theorem Dev.reportIf_keeps (c : Keeps P) (d x0 x1 x2) (h : P d) : P (Dev.reportIf d x0 x1 x2) := by
  unfold Dev.reportIf
  try dsimp only
  with_reducible repeat' first | assumption | apply Dev.quotaEvent_keeps c | apply ite_keeps
theorem Dev.sumpNote_keeps (c : Keeps P) (d) (h : P d) : P (Dev.sumpNote d) := by
  unfold Dev.sumpNote
  try dsimp only
  with_reducible repeat' first | assumption | apply Dev.setF_keeps c
theorem Dev.setCtxCells_keeps (c : Keeps P) (d x0 x1) (h : P d) : P (Dev.setCtxCells d x0 x1) := by
  unfold Dev.setCtxCells
  try dsimp only
  with_reducible repeat' first | assumption | apply Dev.reportIf_keeps c | apply Dev.setCtx_keeps c | apply Dev.sumpNote_keeps c
theorem Dev.ctxAbort_keeps (c : Keeps P) (d x0) (h : P d) : P (Dev.ctxAbort d x0) := by
  unfold Dev.ctxAbort
  try dsimp only
  with_reducible repeat' first
    | assumption | apply Dev.setCtx_keeps c | apply Dev.closeBuf_keeps c | apply Dev.setCtxCells_keeps c
    | apply ite_keeps
theorem Dev.abortContext_keeps (c : Keeps P) (d x0) (h : P d) : P (Dev.abortContext d x0).1 := by
  unfold Dev.abortContext
  try dsimp only
  with_reducible repeat' first | assumption | apply Dev.abortStops_keeps c | apply Dev.ctxAbort_keeps c | apply ite_keeps | split
theorem Dev.setCalUse_keeps (c : Keeps P) (d x0) (h : P d) : P (Dev.setCalUse d x0) := by
  unfold Dev.setCalUse
  try dsimp only
  with_reducible repeat' first | assumption | apply Dev.sumpNote_keeps c | fail_if_no_progress refine Keeps.mk' c ?_ rfl rfl rfl rfl
theorem Dev.calReport_keeps (c : Keeps P) (d x0) (h : P d) : P (Dev.calReport d x0) := by
  unfold Dev.calReport
  try dsimp only
  with_reducible repeat' first
    | assumption | apply Dev.finish_keeps c | apply Dev.setCalUse_keeps c | apply Dev.flag_keeps c
    | apply Dev.setF_keeps c | fail_if_no_progress refine Keeps.mk' c ?_ rfl rfl rfl rfl
theorem Dev.calFail_keeps (c : Keeps P) (d x0 x1 x2) (h : P d) : P (Dev.calFail d x0 x1 x2) := by
  unfold Dev.calFail
  try dsimp only
  with_reducible repeat' first
    | assumption | apply Dev.calReport_keeps c | apply ite_keeps | refine snd_keeps (by assumption) ?_
    | refine fst_keeps (by assumption) ?_ | split | fail_if_no_progress refine Keeps.mk' c ?_ rfl rfl rfl rfl
theorem Dev.shadingAbort_keeps (c : Keeps P) (d) (h : P d) : P (Dev.shadingAbort d).1 := by
  unfold Dev.shadingAbort
  try dsimp only
  with_reducible repeat' first
    | assumption | apply Dev.calFail_keeps c | apply ite_keeps | refine snd_keeps (by assumption) ?_
    | refine fst_keeps (by assumption) ?_ | split
theorem Dev.zeroEntries_keeps (c : Keeps P) (d x0 x1) (h : P d) : P (Dev.zeroEntries d x0 x1) := by
  unfold Dev.zeroEntries
  try dsimp only
  with_reducible repeat' first | assumption | apply Dev.clearRange_keeps c | (apply foldl_keeps; intro d x hd) | apply ite_keeps
theorem Dev.setB_keeps (c : Keeps P) (d x0 x1) (h : P d) : P (Dev.setB d x0 x1) := by
  unfold Dev.setB
  try dsimp only
  with_reducible repeat' first | assumption | apply Dev.setF_keeps c
theorem Dev.putValid_keeps (c : Keeps P) (d x0 x1) (h : P d) : P (Dev.putValid d x0 x1) := by
  unfold Dev.putValid
  try dsimp only
  with_reducible repeat' first | assumption | apply Dev.setB_keeps c | apply ite_keeps
theorem Dev.setHaulRun_keeps (c : Keeps P) (d x0) (h : P d) : P (Dev.setHaulRun d x0) := by
  unfold Dev.setHaulRun
  try dsimp only
  with_reducible repeat' first | assumption | fail_if_no_progress refine Keeps.mk' c ?_ rfl rfl rfl rfl
theorem Dev.haulEvent_keeps (c : Keeps P) (d x0) (h : P d) : P (Dev.haulEvent d x0) := by
  unfold Dev.haulEvent
  try dsimp only
  with_reducible repeat' first
    | assumption | apply Dev.setHaulRun_keeps c | apply ite_keeps | refine snd_keeps (by assumption) ?_
    | refine fst_keeps (by assumption) ?_ | split
theorem Dev.refreshLock_keeps (c : Keeps P) (d) (h : P d) : P (Dev.refreshLock d) := by
  unfold Dev.refreshLock
  try dsimp only
  with_reducible repeat' first | assumption | apply Dev.setB_keeps c
theorem Dev.swap_keeps (c : Keeps P) (d) (h : P d) : P (Dev.swap d) := by
  unfold Dev.swap
  try dsimp only
  with_reducible repeat' first
    | assumption | apply Dev.haulEvent_keeps c | apply Dev.flag_keeps c | apply Dev.setF_keeps c
    | apply Dev.refreshLock_keeps c | fail_if_no_progress refine Keeps.mk' c ?_ rfl rfl rfl rfl
theorem Dev.offerShadow_keeps (c : Keeps P) (d) (h : P d) : P (Dev.offerShadow d) := by
  unfold Dev.offerShadow
  try dsimp only
  with_reducible repeat' first
    | assumption | apply Dev.swap_keeps c | apply ite_keeps
    | fail_if_no_progress refine Keeps.mk' c ?_ rfl rfl rfl rfl
theorem Dev.endLoad_keeps (c : Keeps P) (d x0 x1 x2) (h : P d) : P (Dev.endLoad d x0 x1 x2) := by
  unfold Dev.endLoad
  try dsimp only
  with_reducible repeat' first
    | assumption | apply Dev.finish_keeps c | apply Dev.zeroEntries_keeps c | apply Dev.putValid_keeps c
    | apply Dev.offerShadow_keeps c | apply Dev.setF_keeps c | apply ite_keeps | fail_if_no_progress refine Keeps.mk' c ?_ rfl rfl rfl rfl
theorem Dev.setHch_keeps (c : Keeps P) (d x0 x1) (h : P d) : P (Dev.setHch d x0 x1) := by
  unfold Dev.setHch
  try dsimp only
  with_reducible repeat' first | assumption | fail_if_no_progress refine Keeps.mk' c ?_ rfl rfl rfl rfl
theorem Dev.strHold_keeps (c : Keeps P) (d) (h : P d) : P (Dev.strHold d) := by
  unfold Dev.strHold
  try dsimp only
  with_reducible repeat' first | assumption | fail_if_no_progress refine Keeps.mk' c ?_ rfl rfl rfl rfl
theorem Dev.stamped_keeps (c : Keeps P) (d x0 x1) (h : P d) : P (Dev.stamped d x0 x1) := by
  unfold Dev.stamped
  try dsimp only
  with_reducible repeat' first | assumption | apply Dev.count_keeps c | apply ite_keeps
theorem Dev.set64_keeps (c : Keeps P) (d x0 x1 x2) (h : P d) : P (Dev.set64 d x0 x1 x2) := by
  unfold Dev.set64
  try dsimp only
  with_reducible repeat' first | assumption | apply Dev.setReg_keeps c
theorem Dev.eventStamp_keeps (c : Keeps P) (d x0) (h : P d) : P (Dev.eventStamp d x0) := by
  unfold Dev.eventStamp
  try dsimp only
  with_reducible repeat' first
    | assumption | apply Dev.stamped_keeps c | apply Dev.set64_keeps c | apply Dev.setF_keeps c
    | apply Dev.irq_keeps c
theorem Dev.strRelease_keeps (c : Keeps P) (d) (h : P d) : P (Dev.strRelease d) := by
  unfold Dev.strRelease
  try dsimp only
  with_reducible repeat' first | assumption | fail_if_no_progress refine Keeps.mk' c ?_ rfl rfl rfl rfl
theorem Dev.linePulse_keeps (c : Keeps P) (d x0) (h : P d) : P (Dev.linePulse d x0) := by
  unfold Dev.linePulse
  try dsimp only
  with_reducible repeat' first
    | assumption | apply Dev.haulEvent_keeps c | apply Dev.strHold_keeps c | apply Dev.eventStamp_keeps c
    | apply Dev.strRelease_keeps c | apply Dev.setF_keeps c | apply ite_keeps
theorem Dev.endProgram_keeps (c : Keeps P) (d e p) (hp : ∀ d n, P d → P (p d n)) (h : P d) : P (Dev.endProgram d e p) := by
  unfold Dev.endProgram
  try dsimp only
  with_reducible repeat' first
    | assumption | apply Dev.irq_keeps c | apply Dev.emit_keeps c | apply Dev.setHch_keeps c
    | apply Dev.set64_keeps c | apply Dev.setF_keeps c | apply Dev.setHaulRun_keeps c | apply hp | apply ite_keeps | split
theorem Dev.endLoadRun_keeps (c : Keeps P) (d x0 x1 x2 x3) (h : P d) : P (Dev.endLoadRun d x0 x1 x2 x3) := by
  unfold Dev.endLoadRun
  try dsimp only
  with_reducible repeat' first
    | assumption | apply Dev.endLoad_keeps c | apply Dev.linePulse_keeps c
    | (apply Dev.endProgram_keeps c; intro d n hd)
theorem Dev.abortLoad_keeps (c : Keeps P) (d x0) (h : P d) : P (Dev.abortLoad d x0) := by
  unfold Dev.abortLoad
  try dsimp only
  with_reducible repeat' first
    | assumption | apply Dev.endLoad_keeps c | apply Dev.setHch_keeps c | apply Dev.endLoadRun_keeps c
    | refine snd_keeps (by assumption) ?_ | refine fst_keeps (by assumption) ?_ | split
    | fail_if_no_progress refine Keeps.mk' c ?_ rfl rfl rfl rfl
theorem Dev.freeSlot_keeps (c : Keeps P) (d x0) (h : P d) : P (Dev.freeSlot d x0) := by
  unfold Dev.freeSlot
  try dsimp only
  with_reducible repeat' first | assumption | split | fail_if_no_progress refine Keeps.mk' c ?_ rfl rfl rfl rfl
theorem Dev.abortRun_keeps (c : Keeps P) (d x0) (h : P d) : P (Dev.abortRun d x0).1 := by
  unfold Dev.abortRun
  try dsimp only
  with_reducible repeat' first
    | assumption | apply Dev.finish_keeps c | apply Dev.shadingAbort_keeps c | apply Dev.abortLoad_keeps c
    | apply Dev.freeSlot_keeps c | apply ite_keeps | refine snd_keeps (by assumption) ?_ | refine fst_keeps (by assumption) ?_ | split
theorem Dev.stopAxes_keeps (c : Keeps P) (d x0 x1) (h : P d) : P (Dev.stopAxes d x0 x1) := by
  unfold Dev.stopAxes
  try dsimp only
  with_reducible repeat' first | assumption | apply ite_keeps | fail_if_no_progress refine Keeps.mk' c ?_ rfl rfl rfl rfl
theorem Dev.silence_keeps (c : Keeps P) (d x0) (h : P d) : P (Dev.silence d x0) := by
  unfold Dev.silence
  try dsimp only
  with_reducible repeat' first
    | assumption | apply Dev.dropRun_keeps c | apply Dev.stopAxes_keeps c | apply ite_keeps
    | fail_if_no_progress refine Keeps.mk' c ?_ rfl rfl rfl rfl
theorem Dev.endOfRing_keeps (c : Keeps P) (d x0) (h : P d) : P (Dev.endOfRing d x0) := by
  unfold Dev.endOfRing
  try dsimp only
  with_reducible repeat' first
    | assumption | apply Dev.finish_keeps c | apply Dev.abortRun_keeps c | apply Dev.silence_keeps c
    | refine snd_keeps (by assumption) ?_ | refine fst_keeps (by assumption) ?_ | split
theorem Dev.setSq_keeps (c : Keeps P) (d x0 x1) (h : P d) : P (Dev.setSq d x0 x1) := by
  unfold Dev.setSq
  try dsimp only
  with_reducible repeat' first | assumption | fail_if_no_progress refine Keeps.mk' c ?_ rfl rfl rfl rfl
theorem Dev.sqEmpty_keeps (c : Keeps P) (d x0) (h : P d) : P (Dev.sqEmpty d x0) := by
  unfold Dev.sqEmpty
  try dsimp only
  with_reducible repeat' first | assumption | apply Dev.setSq_keeps c | apply Dev.setF_keeps c
theorem Dev.abortRing_keeps (c : Keeps P) (d x0) (h : P d) : P (Dev.abortRing d x0).1 := by
  unfold Dev.abortRing
  try dsimp only
  with_reducible repeat' first
    | assumption | apply Dev.endOfRing_keeps c | apply Dev.sqEmpty_keeps c | apply Dev.abortStops_keeps c
    | apply Dev.ctxAbort_keeps c | apply Dev.setF_keeps c | (apply foldl_keeps; intro d x hd) | (apply foldl_fst_keeps; intro d x hd)
    | (apply foldl_snd_keeps; intro d x hd) | apply ite_keeps | split
theorem Dev.abortHaul_keeps (c : Keeps P) (d x0) (h : P d) : P (Dev.abortHaul d x0).1 := by
  unfold Dev.abortHaul
  try dsimp only
  with_reducible repeat' first
    | assumption | apply Dev.endLoad_keeps c | apply Dev.linePulse_keeps c | apply Dev.setHch_keeps c
    | (apply Dev.endProgram_keeps c; intro d n hd) | apply Dev.endLoadRun_keeps c | (apply foldl_keeps; intro d x hd)
    | (apply foldl_fst_keeps; intro d x hd) | (apply foldl_snd_keeps; intro d x hd) | apply ite_keeps
    | refine snd_keeps (by assumption) ?_ | refine fst_keeps (by assumption) ?_ | split
theorem Dev.setAx_keeps (c : Keeps P) (d x0 x1) (h : P d) : P (Dev.setAx d x0 x1) := by
  unfold Dev.setAx
  try dsimp only
  with_reducible repeat' first | assumption | fail_if_no_progress refine Keeps.mk' c ?_ rfl rfl rfl rfl
theorem Dev.refFail_keeps (c : Keeps P) (d x0 x1) (h : P d) : P (Dev.refFail d x0 x1) := by
  unfold Dev.refFail
  try dsimp only
  with_reducible repeat' first
    | assumption | apply Dev.setAx_keeps c | apply ite_keeps | refine snd_keeps (by assumption) ?_
    | refine fst_keeps (by assumption) ?_ | split
theorem Dev.abortAxes_keeps (c : Keeps P) (d x0) (h : P d) : P (Dev.abortAxes d x0).1 := by
  unfold Dev.abortAxes
  try dsimp only
  with_reducible repeat' first | assumption | apply Dev.stopAxes_keeps c | apply Dev.refFail_keeps c | (apply foldl_keeps; intro d x hd)
theorem Dev.abortCommand_keeps (c : Keeps P) (d x0 x1) (h : P d) : P (Dev.abortCommand d x0 x1).1 := by
  unfold Dev.abortCommand
  try dsimp only
  with_reducible repeat' first
    | assumption | apply Dev.abortRun_keeps c | refine snd_keeps (by assumption) ?_
    | refine fst_keeps (by assumption) ?_ | split
theorem Dev.abort_keeps (c : Keeps P) (d x0 x1 x2) (h : P d) : P (Dev.abort d x0 x1 x2).1 := by
  unfold Dev.abort
  try dsimp only
  with_reducible repeat' first
    | assumption | apply Dev.abortContext_keeps c | apply Dev.abortRing_keeps c | apply Dev.abortHaul_keeps c
    | apply Dev.abortAxes_keeps c | apply Dev.abortCommand_keeps c | apply ite_keeps | split
theorem Dev.abortCmd_keeps (c : Keeps P) (d x0 x1 x2 x3) (h : P d) : P (Dev.abortCmd d x0 x1 x2 x3) := by
  unfold Dev.abortCmd
  try dsimp only
  with_reducible repeat' first | assumption | apply Dev.complete_keeps c | apply Dev.abort_keeps c | apply ite_keeps
theorem Dev.takeMode_keeps (c : Keeps P) (d x0 x1 x2) (h : P d) : P (Dev.takeMode d x0 x1 x2) := by
  unfold Dev.takeMode
  try dsimp only
  with_reducible repeat' first
    | assumption | apply Dev.setReg_keeps c | apply Dev.setF_keeps c | apply ite_keeps
    | refine snd_keeps (by assumption) ?_ | refine fst_keeps (by assumption) ?_ | split
theorem Dev.reschedule_keeps (c : Keeps P) (d) (h : P d) : P (Dev.reschedule d) := by
  unfold Dev.reschedule
  try dsimp only
  with_reducible repeat' first
    | assumption | apply Dev.setReg_keeps c | apply Dev.setB_keeps c | apply Dev.setF_keeps c | apply ite_keeps
    | refine snd_keeps (by assumption) ?_ | refine fst_keeps (by assumption) ?_ | split
theorem Dev.showLanes_keeps (c : Keeps P) (d x0) (h : P d) : P (Dev.showLanes d x0) := by
  unfold Dev.showLanes
  try dsimp only
  with_reducible repeat' first | assumption | apply Dev.setB_keeps c | apply Dev.setF_keeps c | (apply foldl_keeps; intro d x hd)
theorem Dev.takePads_keeps (c : Keeps P) (d x0 x1) (h : P d) : P (Dev.takePads d x0 x1) := by
  unfold Dev.takePads
  try dsimp only
  with_reducible repeat' first | assumption | apply Dev.setF_keeps c | apply Dev.showLanes_keeps c | (apply foldl_keeps; intro d x hd)
theorem Dev.setFI_keeps (c : Keeps P) (d x0 x1) (h : P d) : P (Dev.setFI d x0 x1) := by
  unfold Dev.setFI
  try dsimp only
  with_reducible repeat' first | assumption | apply Dev.setF_keeps c
theorem Dev.showAlign_keeps (c : Keeps P) (d) (h : P d) : P (Dev.showAlign d) := by
  unfold Dev.showAlign
  try dsimp only
  with_reducible repeat' first
    | assumption | apply Dev.setReg_keeps c | apply Dev.setFI_keeps c | apply Dev.flagIf_keeps c
    | apply Dev.setB_keeps c | apply Dev.setF_keeps c | (apply foldl_keeps; intro d x hd) | refine snd_keeps (by assumption) ?_
    | refine fst_keeps (by assumption) ?_ | split
theorem Dev.takePll_keeps (c : Keeps P) (d x0 x1) (h : P d) : P (Dev.takePll d x0 x1) := by
  unfold Dev.takePll
  try dsimp only
  with_reducible repeat' first | assumption | apply Dev.setF_keeps c
theorem Dev.acceptBar_keeps (c : Keeps P) (d x0) (h : P d) : P (Dev.acceptBar d x0) := by
  unfold Dev.acceptBar
  try dsimp only
  with_reducible repeat' first
    | assumption | apply Dev.takeMode_keeps c | apply Dev.reschedule_keeps c | apply Dev.takePads_keeps c
    | apply Dev.flag_keeps c | apply Dev.showAlign_keeps c | apply Dev.putValid_keeps c | apply Dev.takePll_keeps c
    | apply Dev.setF_keeps c | (apply foldl_keeps; intro d x hd) | apply ite_keeps
    | fail_if_no_progress refine Keeps.mk' c ?_ rfl rfl rfl rfl
theorem Dev.setGrp_keeps (c : Keeps P) (d x0 x1) (h : P d) : P (Dev.setGrp d x0 x1) := by
  unfold Dev.setGrp
  try dsimp only
  with_reducible repeat' first | assumption | fail_if_no_progress refine Keeps.mk' c ?_ rfl rfl rfl rfl
theorem Dev.rbRestart_keeps (c : Keeps P) (d x0) (h : P d) : P (Dev.rbRestart d x0) := by
  unfold Dev.rbRestart
  try dsimp only
  with_reducible repeat' first | assumption | apply Dev.setGrp_keeps c
theorem Dev.mapLines_keeps (c : Keeps P) (d x0) (h : P d) : P (Dev.mapLines d x0) := by
  unfold Dev.mapLines
  try dsimp only
  with_reducible repeat' first | assumption | fail_if_no_progress refine Keeps.mk' c ?_ rfl rfl rfl rfl
theorem Dev.reconFallback_keeps (c : Keeps P) (d x0 x1) (h : P d) : P (Dev.reconFallback d x0 x1) := by
  unfold Dev.reconFallback
  try dsimp only
  with_reducible repeat' first | assumption | apply Dev.mapLines_keeps c
theorem Dev.setSurveyUse_keeps (c : Keeps P) (d x0) (h : P d) : P (Dev.setSurveyUse d x0) := by
  unfold Dev.setSurveyUse
  try dsimp only
  with_reducible repeat' first
    | assumption | apply Dev.reportIf_keeps c | apply Dev.sumpNote_keeps c | split
    | fail_if_no_progress refine Keeps.mk' c ?_ rfl rfl rfl rfl
theorem Dev.setMeas_keeps (c : Keeps P) (d x0) (h : P d) : P (Dev.setMeas d x0) := by
  unfold Dev.setMeas
  try dsimp only
  with_reducible repeat' first
    | assumption | apply Dev.setSurveyUse_keeps c | apply Dev.setF_keeps c
    | fail_if_no_progress refine Keeps.mk' c ?_ rfl rfl rfl rfl
theorem Dev.surveyDisarm_keeps (c : Keeps P) (d) (h : P d) : P (Dev.surveyDisarm d) := by
  unfold Dev.surveyDisarm
  try dsimp only
  with_reducible repeat' first
    | assumption | apply Dev.setMeas_keeps c | apply Dev.setF_keeps c | apply Dev.count_keeps c
    | fail_if_no_progress refine Keeps.mk' c ?_ rfl rfl rfl rfl
theorem Dev.setGroupUse_keeps (c : Keeps P) (d x0 x1) (h : P d) : P (Dev.setGroupUse d x0 x1) := by
  unfold Dev.setGroupUse
  try dsimp only
  with_reducible repeat' first
    | assumption | apply Dev.reportIf_keeps c | apply Dev.sumpNote_keeps c | apply Dev.setF_keeps c | split
    | fail_if_no_progress refine Keeps.mk' c ?_ rfl rfl rfl rfl
theorem Dev.clearHist_keeps (c : Keeps P) (d) (h : P d) : P (Dev.clearHist d) := by
  unfold Dev.clearHist
  try dsimp only
  with_reducible repeat' first
    | assumption | apply Dev.setGroupUse_keeps c | (apply foldl_keeps; intro d x hd) | apply ite_keeps
    | refine snd_keeps (by assumption) ?_ | refine fst_keeps (by assumption) ?_ | split
    | fail_if_no_progress refine Keeps.mk' c ?_ rfl rfl rfl rfl
theorem Dev.clearDark_keeps (c : Keeps P) (d) (h : P d) : P (Dev.clearDark d) := by
  unfold Dev.clearDark
  try dsimp only
  with_reducible repeat' first
    | assumption | apply Dev.clearHist_keeps c | apply ite_keeps
    | fail_if_no_progress refine Keeps.mk' c ?_ rfl rfl rfl rfl
theorem Dev.disarm_keeps (c : Keeps P) (d x0) (h : P d) : P (Dev.disarm d x0) := by
  unfold Dev.disarm
  try dsimp only
  with_reducible repeat' first
    | assumption | apply Dev.rbRestart_keeps c | apply Dev.reschedule_keeps c | apply Dev.reconFallback_keeps c
    | apply Dev.flag_keeps c | apply Dev.surveyDisarm_keeps c | apply Dev.clearDark_keeps c | apply Dev.offerShadow_keeps c
    | apply Dev.setF_keeps c | (apply foldl_keeps; intro d x hd) | apply ite_keeps
    | fail_if_no_progress refine Keeps.mk' c ?_ rfl rfl rfl rfl
theorem Dev.checkStop_keeps (c : Keeps P) (d x0) (h : P d) : P (Dev.checkStop d x0) := by
  unfold Dev.checkStop
  try dsimp only
  with_reducible repeat' first
    | assumption | apply Dev.finish_keeps c | apply Dev.setCtx_keeps c | apply Dev.closeBuf_keeps c
    | (apply foldl_keeps; intro d x hd) | apply ite_keeps | refine snd_keeps (by assumption) ?_ | refine fst_keeps (by assumption) ?_
    | split
theorem Dev.stopNow_keeps (c : Keeps P) (d x0 x1 x2) (h : P d) : P (Dev.stopNow d x0 x1 x2) := by
  unfold Dev.stopNow
  try dsimp only
  with_reducible repeat' first | assumption | apply Dev.checkStop_keeps c | apply Dev.setCtx_keeps c
theorem Dev.ctxModeExit_keeps (c : Keeps P) (d) (h : P d) : P (Dev.ctxModeExit d) := by
  unfold Dev.ctxModeExit
  try dsimp only
  with_reducible repeat' first
    | assumption | apply Dev.stopNow_keeps c | (apply foldl_keeps; intro d x hd)
    | (apply foldl_fst_keeps; intro d x hd) | (apply foldl_snd_keeps; intro d x hd) | apply ite_keeps
theorem Dev.exitActions_keeps (c : Keeps P) (d) (h : P d) : P (Dev.exitActions d) := by
  unfold Dev.exitActions
  try dsimp only
  with_reducible repeat' first
    | assumption | apply Dev.disarm_keeps c | apply Dev.setB_keeps c | apply Dev.setF_keeps c
    | apply Dev.ctxModeExit_keeps c | apply ite_keeps | fail_if_no_progress refine Keeps.mk' c ?_ rfl rfl rfl rfl
theorem Dev.setCh_keeps (c : Keeps P) (d x0 x1 x2) (h : P d) : P (Dev.setCh d x0 x1 x2) := by
  unfold Dev.setCh
  try dsimp only
  with_reducible repeat' first | assumption | fail_if_no_progress refine Keeps.mk' c ?_ rfl rfl rfl rfl
theorem Dev.setSource_keeps (c : Keeps P) (d x0 x1 x2) (h : P d) : P (Dev.setSource d x0 x1 x2) := by
  unfold Dev.setSource
  try dsimp only
  with_reducible repeat' first | assumption | apply Dev.setF_keeps c | apply ite_keeps
theorem Dev.disconnect_keeps (c : Keeps P) (d x0 x1) (h : P d) : P (Dev.disconnect d x0 x1) := by
  unfold Dev.disconnect
  try dsimp only
  with_reducible repeat' first | assumption | apply Dev.setSource_keeps c | apply Dev.setCh_keeps c
theorem Dev.powerDown_keeps (c : Keeps P) (d x0 x1) (h : P d) : P (Dev.powerDown d x0 x1) := by
  unfold Dev.powerDown
  try dsimp only
  with_reducible repeat' first | assumption | apply Dev.disconnect_keeps c | apply Dev.setCh_keeps c | apply Dev.setF_keeps c
theorem Dev.powerCh_keeps (c : Keeps P) (d x0 x1) (h : P d) : P (Dev.powerCh d x0 x1) := by
  unfold Dev.powerCh
  try dsimp only
  with_reducible repeat' first
    | assumption | apply Dev.setCh_keeps c | apply Dev.powerDown_keeps c | apply Dev.setF_keeps c
    | apply ite_keeps
theorem Dev.powerAll_keeps (c : Keeps P) (d) (h : P d) : P (Dev.powerAll d) := by
  unfold Dev.powerAll
  try dsimp only
  with_reducible repeat' first | assumption | apply Dev.powerCh_keeps c | (apply forGC_keeps; intro d g c' hd)
theorem Dev.acceptMode_keeps (c : Keeps P) (d x0 x1) (h : P d) : P (Dev.acceptMode d x0 x1) := by
  unfold Dev.acceptMode
  try dsimp only
  with_reducible repeat' first
    | assumption | apply Dev.exitActions_keeps c | apply Dev.powerAll_keeps c | apply Dev.setF_keeps c
    | apply Dev.stopAxes_keeps c | apply ite_keeps | fail_if_no_progress refine Keeps.mk' c ?_ rfl rfl rfl rfl
theorem Dev.setCal_keeps (c : Keeps P) (d x0) (h : P d) : P (Dev.setCal d x0) := by
  unfold Dev.setCal
  try dsimp only
  with_reducible repeat' first | assumption | fail_if_no_progress refine Keeps.mk' c ?_ rfl rfl rfl rfl
theorem Dev.calDark_keeps (c : Keeps P) (d) (h : P d) : P (Dev.calDark d) := by
  unfold Dev.calDark
  try dsimp only
  with_reducible repeat' first
    | assumption | apply Dev.clearDark_keeps c | apply Dev.setCal_keeps c | refine snd_keeps (by assumption) ?_
    | refine fst_keeps (by assumption) ?_ | split
theorem Dev.calShutter_keeps (c : Keeps P) (d x0) (h : P d) : P (Dev.calShutter d x0) := by
  unfold Dev.calShutter
  try dsimp only
  with_reducible repeat' first
    | assumption | apply Dev.calDark_keeps c | apply Dev.calFail_keeps c | apply Dev.setCal_keeps c
    | apply ite_keeps | refine snd_keeps (by assumption) ?_ | refine fst_keeps (by assumption) ?_ | split
theorem Dev.reportMove_keeps (c : Keeps P) (d x0 x1 x2) (h : P d) : P (Dev.reportMove d x0 x1 x2) := by
  unfold Dev.reportMove
  try dsimp only
  with_reducible repeat' first
    | assumption | apply Dev.finish_keeps c | apply Dev.calShutter_keeps c | apply Dev.setAx_keeps c
    | apply ite_keeps | refine snd_keeps (by assumption) ?_ | refine fst_keeps (by assumption) ?_ | split
    | fail_if_no_progress refine Keeps.mk' c ?_ rfl rfl rfl rfl
theorem Dev.newMove_keeps (c : Keeps P) (d) (h : P d) : P (Dev.newMove d).2 := by
  unfold Dev.newMove
  try dsimp only
  with_reducible repeat' first | assumption | fail_if_no_progress refine Keeps.mk' c ?_ rfl rfl rfl rfl
theorem Dev.orphan_keeps (c : Keeps P) (d x0 x1) (h : P d) : P (Dev.orphan d x0 x1) := by
  unfold Dev.orphan
  try dsimp only
  with_reducible repeat' first
    | assumption | apply Dev.newMove_keeps c | apply ite_keeps | split
    | fail_if_no_progress refine Keeps.mk' c ?_ rfl rfl rfl rfl
theorem Dev.setMem_keeps (c : Keeps P) (d x0 x1 x2) (h : P d) : P (Dev.setMem d x0 x1 x2) := by
  unfold Dev.setMem
  try dsimp only
  with_reducible repeat' first | assumption | apply Dev.setBytes_keeps c
theorem Dev.logStop_keeps (c : Keeps P) (d x0 x1 x2 x3) (h : P d) : P (Dev.logStop d x0 x1 x2 x3) := by
  unfold Dev.logStop
  try dsimp only
  with_reducible repeat' first | assumption | apply Dev.setMem_keeps c | apply ite_keeps
theorem Dev.dropMove_keeps (c : Keeps P) (d x0) (h : P d) : P (Dev.dropMove d x0) := by
  unfold Dev.dropMove
  try dsimp only
  with_reducible repeat' first | assumption | fail_if_no_progress refine Keeps.mk' c ?_ rfl rfl rfl rfl
theorem Dev.supersede_keeps (c : Keeps P) (d x0 x1) (h : P d) : P (Dev.supersede d x0 x1) := by
  unfold Dev.supersede
  try dsimp only
  with_reducible repeat' first
    | assumption | apply Dev.reportMove_keeps c | apply Dev.orphan_keeps c | apply Dev.logStop_keeps c
    | apply Dev.dropMove_keeps c | (apply foldl_keeps; intro d x hd) | apply ite_keeps | refine snd_keeps (by assumption) ?_
    | refine fst_keeps (by assumption) ?_ | split
theorem Dev.acceptMove_keeps (c : Keeps P) (d x0) (h : P d) : P (Dev.acceptMove d x0) := by
  unfold Dev.acceptMove
  try dsimp only
  with_reducible repeat' first
    | assumption | apply Dev.supersede_keeps c | apply Dev.refFail_keeps c | (apply foldl_keeps; intro d x hd)
    | apply ite_keeps | refine snd_keeps (by assumption) ?_ | refine fst_keeps (by assumption) ?_ | split
    | fail_if_no_progress refine Keeps.mk' c ?_ rfl rfl rfl rfl
theorem Dev.accessErr_keeps (c : Keeps P) (d x0 x1 x2 x3) (h : P d) : P (Dev.accessErr d x0 x1 x2 x3) := by
  unfold Dev.accessErr
  try dsimp only
  with_reducible repeat' first
    | assumption | apply Dev.flag_keeps c | apply Dev.setB_keeps c | apply Dev.setF_keeps c
    | apply Dev.count_keeps c | apply ite_keeps | refine snd_keeps (by assumption) ?_ | refine fst_keeps (by assumption) ?_ | split
    | fail_if_no_progress refine Keeps.mk' c ?_ rfl rfl rfl rfl
theorem Dev.cfgRefused_keeps (c : Keeps P) {d d' : Dev} {rq : Req} {en : Fld} {v : Word} (e : d.cfgRefused rq en v = some d') (h : P d) : P d' := by
  unfold Dev.cfgRefused at e
  dsimp only at e
  split at e
  · cases e; exact Dev.accessErr_keeps c _ _ _ _ _ h
  · split at e
    · cases e; exact Dev.accessErr_keeps c _ _ _ _ _ h
    · cases e
theorem Dev.startRun_keeps (c : Keeps P) (d x0 x1) (h : P d) : P (Dev.startRun d x0 x1) := by
  unfold Dev.startRun
  try dsimp only
  with_reducible repeat' first | assumption | fail_if_no_progress refine Keeps.mk' c ?_ rfl rfl rfl rfl
theorem Dev.ctxStop_keeps (c : Keeps P) (d x0 x1 x2) (h : P d) : P (Dev.ctxStop d x0 x1 x2) := by
  unfold Dev.ctxStop
  try dsimp only
  with_reducible repeat' first
    | assumption | apply Dev.setCtx_keeps c | apply Dev.startRun_keeps c | apply Dev.complete_keeps c
    | apply Dev.stopNow_keeps c | apply ite_keeps | refine snd_keeps (by assumption) ?_ | refine fst_keeps (by assumption) ?_ | split
theorem Dev.resumeCmd_keeps (c : Keeps P) (d x0 x1) (h : P d) : P (Dev.resumeCmd d x0 x1) := by
  unfold Dev.resumeCmd
  try dsimp only
  with_reducible repeat' first
    | assumption | apply Dev.acceptMove_keeps c | apply Dev.startRun_keeps c | apply Dev.complete_keeps c
    | apply Dev.newMove_keeps c | (apply foldl_keeps; intro d x hd) | (apply foldl_fst_keeps; intro d x hd)
    | (apply foldl_snd_keeps; intro d x hd) | apply ite_keeps | refine snd_keeps (by assumption) ?_ | refine fst_keeps (by assumption) ?_
    | split
theorem Dev.ctxStart_keeps (c : Keeps P) (d x0 x1 x2) (h : P d) : P (Dev.ctxStart d x0 x1 x2) := by
  unfold Dev.ctxStart
  try dsimp only
  with_reducible repeat' first | assumption | apply Dev.setCtx_keeps c | apply Dev.complete_keeps c | apply ite_keeps
theorem Dev.chooseSet_keeps (c : Keeps P) (d) (h : P d) : P (Dev.chooseSet d) := by
  unfold Dev.chooseSet
  try dsimp only
  with_reducible repeat' first | assumption | apply Dev.swap_keeps c | apply Dev.setF_keeps c | apply ite_keeps
theorem Dev.boundarySet_keeps (c : Keeps P) (d) (h : P d) : P (Dev.boundarySet d) := by
  unfold Dev.boundarySet
  try dsimp only
  with_reducible repeat' first
    | assumption | apply Dev.flag_keeps c | apply Dev.swap_keeps c | apply Dev.count_keeps c
    | apply Dev.chooseSet_keeps c | apply ite_keeps
theorem Dev.strobes_keeps (c : Keeps P) (d x0 x1 x2) (h : P d) : P (Dev.strobes d x0 x1 x2) := by
  unfold Dev.strobes
  try dsimp only
  with_reducible repeat' first | assumption | apply Dev.emit_keeps c | (apply foldl_keeps; intro d x hd) | apply ite_keeps
theorem Dev.pulse_keeps (c : Keeps P) (d x0 x1 x2) (h : P d) : P (Dev.pulse d x0 x1 x2) := by
  unfold Dev.pulse
  try dsimp only
  with_reducible repeat' first
    | assumption | apply Dev.emit_keeps c | apply ite_keeps
    | fail_if_no_progress refine Keeps.mk' c ?_ rfl rfl rfl rfl
theorem Dev.mainPins_keeps (c : Keeps P) (d x0 x1 x2) (h : P d) : P (Dev.mainPins d x0 x1 x2) := by
  unfold Dev.mainPins
  try dsimp only
  with_reducible repeat' first | assumption | apply Dev.strobes_keeps c | apply Dev.pulse_keeps c | (apply foldl_keeps; intro d x hd)
theorem Dev.showLantern_keeps (c : Keeps P) (d) (h : P d) : P (Dev.showLantern d) := by
  unfold Dev.showLantern
  try dsimp only
  with_reducible repeat' first | assumption | apply Dev.setB_keeps c | apply Dev.setF_keeps c
theorem Dev.calRange_keeps (c : Keeps P) (d x0) (h : P d) : P (Dev.calRange d x0) := by
  unfold Dev.calRange
  try dsimp only
  with_reducible repeat' first
    | assumption | apply ite_keeps | refine snd_keeps (by assumption) ?_ | refine fst_keeps (by assumption) ?_
    | split | fail_if_no_progress refine Keeps.mk' c ?_ rfl rfl rfl rfl
theorem Dev.ledWear_keeps (c : Keeps P) (d x0) (h : P d) : P (Dev.ledWear d x0) := by
  unfold Dev.ledWear
  try dsimp only
  with_reducible repeat' first | assumption | apply Dev.flagIf_keeps c | apply Dev.setF_keeps c | apply ite_keeps
theorem Dev.ledWearAll_keeps (c : Keeps P) (d) (h : P d) : P (Dev.ledWearAll d) := by
  unfold Dev.ledWearAll
  try dsimp only
  with_reducible repeat' first | assumption | apply Dev.ledWear_keeps c | (apply foldl_keeps; intro d x hd)
theorem Dev.applySets_keeps (c : Keeps P) (d x0) (h : P d) : P (Dev.applySets d x0) := by
  unfold Dev.applySets
  try dsimp only
  with_reducible repeat' first
    | assumption | apply Dev.ledWearAll_keeps c | apply Dev.setF_keeps c | apply Dev.emit_keeps c
    | (apply foldl_keeps; intro d x hd) | apply ite_keeps | fail_if_no_progress refine Keeps.mk' c ?_ rfl rfl rfl rfl
theorem Dev.discardPair_keeps (c : Keeps P) (d x0 x1) (h : P d) : P (Dev.discardPair d x0 x1) := by
  unfold Dev.discardPair
  try dsimp only
  with_reducible repeat' first | assumption | apply Dev.flag_keeps c | apply Dev.setGrp_keeps c | apply ite_keeps
theorem Dev.rbIdle_keeps (c : Keeps P) (d x0) (h : P d) : P (Dev.rbIdle d x0) := by
  unfold Dev.rbIdle
  try dsimp only
  with_reducible repeat' first
    | assumption | apply Dev.disconnect_keeps c | apply Dev.setF_keeps c | refine snd_keeps (by assumption) ?_
    | refine fst_keeps (by assumption) ?_ | split
theorem Dev.boundaryGrp_keeps (c : Keeps P) (x0 d x1) (h : P d) : P (Dev.boundaryGrp x0 d x1) := by
  unfold Dev.boundaryGrp
  try dsimp only
  with_reducible repeat' first
    | assumption | apply Dev.setReg_keeps c | apply Dev.rbRestart_keeps c | apply Dev.discardPair_keeps c
    | apply Dev.rbIdle_keeps c | apply Dev.setF_keeps c | apply ite_keeps | refine snd_keeps (by assumption) ?_
    | refine fst_keeps (by assumption) ?_ | split
theorem Dev.markChecked_keeps (c : Keeps P) (d x0) (h : P d) : P (Dev.markChecked d x0) := by
  unfold Dev.markChecked
  try dsimp only
  with_reducible repeat' first
    | assumption | apply ite_keeps | refine snd_keeps (by assumption) ?_ | refine fst_keeps (by assumption) ?_
    | split | fail_if_no_progress refine Keeps.mk' c ?_ rfl rfl rfl rfl
theorem Dev.applyRange_keeps (c : Keeps P) (d x0 x1) (h : P d) : P (Dev.applyRange d x0 x1) := by
  unfold Dev.applyRange
  try dsimp only
  with_reducible repeat' first | assumption | apply Dev.setReg_keeps c | apply Dev.setF_keeps c | apply ite_keeps
theorem Dev.boundaryCh_keeps (c : Keeps P) (d x0 x1) (h : P d) : P (Dev.boundaryCh d x0 x1) := by
  unfold Dev.boundaryCh
  try dsimp only
  with_reducible repeat' first
    | assumption | apply Dev.setSource_keeps c | apply Dev.flag_keeps c | apply Dev.setCh_keeps c
    | apply Dev.setGrp_keeps c | apply Dev.markChecked_keeps c | apply Dev.applyRange_keeps c | apply ite_keeps
    | refine snd_keeps (by assumption) ?_ | refine fst_keeps (by assumption) ?_ | split
theorem Dev.boundaryAfe_keeps (c : Keeps P) (d) (h : P d) : P (Dev.boundaryAfe d) := by
  unfold Dev.boundaryAfe
  try dsimp only
  with_reducible repeat' first
    | assumption | apply Dev.boundaryGrp_keeps c | apply Dev.boundaryCh_keeps c
    | (apply forGC_keeps; intro d g c' hd) | (apply foldl_keeps; intro d x hd)
theorem Dev.setRoles_keeps (c : Keeps P) (d x0) (h : P d) : P (Dev.setRoles d x0) := by
  unfold Dev.setRoles
  try dsimp only
  with_reducible repeat' first | assumption | apply Dev.setF_keeps c | fail_if_no_progress refine Keeps.mk' c ?_ rfl rfl rfl rfl
theorem Dev.takeRoles_keeps (c : Keeps P) (d) (h : P d) : P (Dev.takeRoles d) := by
  unfold Dev.takeRoles
  try dsimp only
  with_reducible repeat' first
    | assumption | apply Dev.setRoles_keeps c | refine snd_keeps (by assumption) ?_
    | refine fst_keeps (by assumption) ?_ | split | fail_if_no_progress refine Keeps.mk' c ?_ rfl rfl rfl rfl
theorem Dev.countLines_keeps (c : Keeps P) (d) (h : P d) : P (Dev.countLines d) := by
  unfold Dev.countLines
  try dsimp only
  with_reducible repeat' first | assumption | apply Dev.setCh_keeps c | (apply forGC_keeps; intro d g c' hd) | apply ite_keeps
theorem Dev.setLane_keeps (c : Keeps P) (d x0 x1) (h : P d) : P (Dev.setLane d x0 x1) := by
  unfold Dev.setLane
  try dsimp only
  with_reducible repeat' first | assumption | fail_if_no_progress refine Keeps.mk' c ?_ rfl rfl rfl rfl
theorem Dev.boundaryLane_keeps (c : Keeps P) (d x0) (h : P d) : P (Dev.boundaryLane d x0) := by
  unfold Dev.boundaryLane
  try dsimp only
  with_reducible repeat' first
    | assumption | apply Dev.setLane_keeps c | apply Dev.showLanes_keeps c | apply ite_keeps
    | refine snd_keeps (by assumption) ?_ | refine fst_keeps (by assumption) ?_ | split
theorem Dev.boundaryLanes_keeps (c : Keeps P) (d) (h : P d) : P (Dev.boundaryLanes d) := by
  unfold Dev.boundaryLanes
  try dsimp only
  with_reducible repeat' first | assumption | apply Dev.boundaryLane_keeps c | (apply foldl_keeps; intro d x hd)
theorem Dev.boundaryMul_keeps (c : Keeps P) (d) (h : P d) : P (Dev.boundaryMul d).1 := by
  unfold Dev.boundaryMul
  try dsimp only
  with_reducible repeat' first
    | assumption | apply Dev.setF_keeps c | (apply foldl_keeps; intro d x hd)
    | (apply foldl_fst_keeps; intro d x hd) | (apply foldl_snd_keeps; intro d x hd) | split
    | fail_if_no_progress refine Keeps.mk' c ?_ rfl rfl rfl rfl
theorem Dev.startMain_keeps (c : Keeps P) (d x0 x1) (h : P d) : P (Dev.startMain d x0 x1) := by
  unfold Dev.startMain
  try dsimp only
  with_reducible repeat' first
    | assumption | apply Dev.haulEvent_keeps c | apply Dev.boundarySet_keeps c | apply Dev.mainPins_keeps c
    | apply Dev.stamped_keeps c | apply Dev.showLantern_keeps c | apply Dev.calRange_keeps c | apply Dev.applySets_keeps c
    | apply Dev.boundaryAfe_keeps c | apply Dev.takeRoles_keeps c | apply Dev.countLines_keeps c | apply Dev.boundaryLanes_keeps c
    | apply Dev.refreshLock_keeps c | apply Dev.boundaryMul_keeps c | refine snd_keeps (by assumption) ?_
    | refine fst_keeps (by assumption) ?_ | split | fail_if_no_progress refine Keeps.mk' c ?_ rfl rfl rfl rfl
theorem Dev.holdQueue_keeps (c : Keeps P) (d) (h : P d) : P (Dev.holdQueue d) := by
  unfold Dev.holdQueue
  try dsimp only
  with_reducible repeat' first
    | assumption | apply Dev.showLantern_keeps c | apply ite_keeps
    | fail_if_no_progress refine Keeps.mk' c ?_ rfl rfl rfl rfl
theorem Dev.ctxTrigger_keeps (c : Keeps P) (d x0 x1 x2 x3) (h : P d) : P (Dev.ctxTrigger d x0 x1 x2 x3) := by
  unfold Dev.ctxTrigger
  try dsimp only
  with_reducible repeat' first
    | assumption | apply Dev.setCtx_keeps c | apply Dev.stopNow_keeps c | apply ite_keeps
    | refine snd_keeps (by assumption) ?_ | refine fst_keeps (by assumption) ?_ | split
theorem Dev.ctxTriggers_keeps (c : Keeps P) (d x0 x1 x2) (h : P d) : P (Dev.ctxTriggers d x0 x1 x2) := by
  unfold Dev.ctxTriggers
  try dsimp only
  with_reducible repeat' first | assumption | apply Dev.ctxTrigger_keeps c | (apply foldl_keeps; intro d x hd)
theorem Dev.fireMain_keeps (c : Keeps P) (d x0 x1 x2) (h : P d) : P (Dev.fireMain d x0 x1 x2) := by
  unfold Dev.fireMain
  try dsimp only
  with_reducible repeat' first
    | assumption | apply Dev.reconFallback_keeps c | apply Dev.startMain_keeps c | apply Dev.flag_keeps c
    | apply Dev.holdQueue_keeps c | apply Dev.ctxTriggers_keeps c | apply Dev.count_keeps c | refine snd_keeps (by assumption) ?_
    | refine fst_keeps (by assumption) ?_ | split | fail_if_no_progress refine Keeps.mk' c ?_ rfl rfl rfl rfl
theorem Dev.otherLine_keeps (c : Keeps P) (d) (h : P d) : P (Dev.otherLine d) := by
  unfold Dev.otherLine
  try dsimp only
  with_reducible repeat' first
    | assumption | apply Dev.fireMain_keeps c | apply ite_keeps | refine snd_keeps (by assumption) ?_
    | refine fst_keeps (by assumption) ?_ | split | fail_if_no_progress refine Keeps.mk' c ?_ rfl rfl rfl rfl
theorem Dev.actLine_keeps (c : Keeps P) (d) (h : P d) : P (Dev.actLine d).1 := by
  unfold Dev.actLine
  try dsimp only
  with_reducible repeat' first | assumption | apply Dev.otherLine_keeps c | apply ite_keeps | split
theorem Dev.moveCmd_keeps (c : Keeps P) (d x0 x1 x2 x3 x4 x5) (h : P d) : P (Dev.moveCmd d x0 x1 x2 x3 x4 x5) := by
  unfold Dev.moveCmd
  try dsimp only
  with_reducible repeat' first
    | assumption | apply Dev.acceptMove_keeps c | apply Dev.startRun_keeps c | apply Dev.complete_keeps c
    | apply Dev.newMove_keeps c | apply ite_keeps | refine snd_keeps (by assumption) ?_ | refine fst_keeps (by assumption) ?_ | split
theorem Dev.moveOne_keeps (c : Keeps P) (d x0 x1 x2 x3 x4 x5) (h : P d) : P (Dev.moveOne d x0 x1 x2 x3 x4 x5) := by
  unfold Dev.moveOne
  try dsimp only
  with_reducible repeat' first | assumption | apply Dev.moveCmd_keeps c | apply Dev.complete_keeps c | apply ite_keeps
theorem Dev.surveyArm_keeps (c : Keeps P) (d) (h : P d) : P (Dev.surveyArm d) := by
  unfold Dev.surveyArm
  try dsimp only
  with_reducible repeat' first
    | assumption | apply Dev.setFI_keeps c | apply Dev.flagIf_keeps c | apply Dev.setB_keeps c
    | apply Dev.setF_keeps c | (apply foldl_keeps; intro d x hd) | apply ite_keeps | refine snd_keeps (by assumption) ?_
    | refine fst_keeps (by assumption) ?_ | split | fail_if_no_progress refine Keeps.mk' c ?_ rfl rfl rfl rfl
theorem Dev.setLeadHwm_keeps (c : Keeps P) (d x0) (h : P d) : P (Dev.setLeadHwm d x0) := by
  unfold Dev.setLeadHwm
  try dsimp only
  with_reducible repeat' first | assumption | apply Dev.set64_keeps c
theorem Dev.setHwm_keeps (c : Keeps P) (d x0) (h : P d) : P (Dev.setHwm d x0) := by
  unfold Dev.setHwm
  try dsimp only
  with_reducible repeat' first | assumption | apply Dev.set64_keeps c
theorem Dev.arm_keeps (c : Keeps P) (d) (h : P d) : P (Dev.arm d) := by
  unfold Dev.arm
  try dsimp only
  with_reducible repeat' first
    | assumption | apply Dev.surveyArm_keeps c | apply Dev.reschedule_keeps c | apply Dev.setLeadHwm_keeps c
    | apply Dev.setF_keeps c | apply Dev.setHwm_keeps c | apply ite_keeps | fail_if_no_progress refine Keeps.mk' c ?_ rfl rfl rfl rfl
theorem Dev.gridCtrlWrite_keeps (c : Keeps P) (d x0 x1) (h : P d) : P (Dev.gridCtrlWrite d x0 x1) := by
  unfold Dev.gridCtrlWrite
  try dsimp only
  with_reducible repeat' first
    | assumption | apply Dev.accessErr_keeps c | apply Dev.setReg_keeps c | apply Dev.reschedule_keeps c
    | apply Dev.disarm_keeps c | apply Dev.showAlign_keeps c | apply Dev.otherLine_keeps c | apply Dev.arm_keeps c | apply ite_keeps
theorem Dev.actArm_keeps (c : Keeps P) (d x0) (h : P d) : P (Dev.actArm d x0).1 := by
  unfold Dev.actArm
  try dsimp only
  with_reducible repeat' first | assumption | apply Dev.gridCtrlWrite_keeps c
theorem Dev.actPin_keeps (c : Keeps P) (d x0 x1) (h : P d) : P (Dev.actPin d x0 x1).1 := by
  unfold Dev.actPin
  try dsimp only
  with_reducible repeat' first
    | assumption | apply Dev.emit_keeps c | apply ite_keeps | split
    | fail_if_no_progress refine Keeps.mk' c ?_ rfl rfl rfl rfl
theorem Dev.crnLast_keeps (c : Keeps P) (d x0 x1) (h : P d) : P (Dev.crnLast d x0 x1) := by
  unfold Dev.crnLast
  try dsimp only
  with_reducible repeat' first | assumption | apply Dev.setF_keeps c
theorem Dev.haulRequest_keeps (c : Keeps P) (d x0) (h : P d) : P (Dev.haulRequest d x0) := by
  unfold Dev.haulRequest
  try dsimp only
  with_reducible repeat' first
    | assumption | apply Dev.setHaulRun_keeps c | refine snd_keeps (by assumption) ?_
    | refine fst_keeps (by assumption) ?_ | split
theorem Dev.actPulse_keeps (c : Keeps P) (d x0) (h : P d) : P (Dev.actPulse d x0).1 := by
  unfold Dev.actPulse
  try dsimp only
  with_reducible repeat' first | assumption | apply Dev.haulEvent_keeps c | apply Dev.emit_keeps c
theorem Dev.haulPush_keeps (c : Keeps P) (d x0 x1) (h : P d) : P (Dev.haulPush d x0 x1) := by
  unfold Dev.haulPush
  try dsimp only
  with_reducible repeat' first | assumption | apply Dev.setHch_keeps c
theorem Dev.actHaul_keeps (c : Keeps P) (d x0 x1) (h : P d) : P (Dev.actHaul d x0 x1).1 := by
  unfold Dev.actHaul
  try dsimp only
  with_reducible repeat' first | assumption | apply Dev.haulPush_keeps c | apply ite_keeps | split
theorem Dev.act_keeps (c : Keeps P) (d x0 x1) (h : P d) : P (Dev.act d x0 x1) := by
  unfold Dev.act
  try dsimp only
  with_reducible repeat' first
    | assumption | apply Dev.ctxStop_keeps c | apply Dev.resumeCmd_keeps c | apply Dev.ctxStart_keeps c
    | apply Dev.actLine_keeps c | apply Dev.moveOne_keeps c | apply Dev.actArm_keeps c | apply Dev.actPin_keeps c
    | apply Dev.complete_keeps c | apply Dev.crnLast_keeps c | apply Dev.haulRequest_keeps c | apply Dev.actPulse_keeps c
    | apply Dev.actHaul_keeps c | apply ite_keeps
theorem Dev.slotStamp_keeps (c : Keeps P) (d x0) (h : P d) : P (Dev.slotStamp d x0).2 := by
  unfold Dev.slotStamp
  try dsimp only
  with_reducible repeat' first | assumption | apply Dev.stamped_keeps c | apply ite_keeps | split
theorem Dev.actionDue_keeps (c : Keeps P) (d) (h : P d) : P (Dev.actionDue d) := by
  unfold Dev.actionDue
  try dsimp only
  with_reducible repeat' first
    | assumption | apply Dev.finish_keeps c | apply Dev.act_keeps c | apply Dev.freeSlot_keeps c
    | apply Dev.slotStamp_keeps c | apply ite_keeps | refine snd_keeps (by assumption) ?_ | refine fst_keeps (by assumption) ?_ | split
theorem Dev.roomCheck_keeps (c : Keeps P) (d x0) (h : P d) : P (Dev.roomCheck d x0) := by
  unfold Dev.roomCheck
  try dsimp only
  with_reducible repeat' first | assumption | apply Dev.closeBuf_keeps c | apply Dev.flag_keeps c | apply ite_keeps
theorem Dev.addRecord_keeps (c : Keeps P) (d x0 x1 x2 x3 x4 x5) (h : P d) : P (Dev.addRecord d x0 x1 x2 x3 x4 x5).1 := by
  unfold Dev.addRecord
  try dsimp only
  with_reducible repeat' first
    | assumption | apply Dev.setCtx_keeps c | apply Dev.cqWaits_keeps c | apply Dev.roomCheck_keeps c
    | apply Dev.setCtxCells_keeps c | apply ite_keeps | split
theorem Dev.fullReport_keeps (c : Keeps P) (d x0 x1 x2 x3 x4) (h : P d) : P (Dev.fullReport d x0 x1 x2 x3 x4) := by
  unfold Dev.fullReport
  try dsimp only
  with_reducible repeat' first
    | assumption | apply Dev.flag_keeps c | apply Dev.complete_keeps c | apply Dev.setB_keeps c
    | apply Dev.setF_keeps c
theorem Dev.refVerdict_keeps (c : Keeps P) (d x0) (h : P d) : P (Dev.refVerdict d x0).1 := by
  unfold Dev.refVerdict
  try dsimp only
  with_reducible repeat' first | assumption | apply Dev.flag_keeps c | apply Dev.setF_keeps c | apply ite_keeps | split
theorem Dev.refCheck_keeps (c : Keeps P) (d x0 x1) (h : P d) : P (Dev.refCheck d x0 x1).1 := by
  unfold Dev.refCheck
  try dsimp only
  with_reducible repeat' first | assumption | apply Dev.refVerdict_keeps c
theorem Dev.fullRefs_keeps (c : Keeps P) (d x0 x1 x2) (h : P d) : P (Dev.fullRefs d x0 x1 x2).1 := by
  unfold Dev.fullRefs
  try dsimp only
  with_reducible repeat' first
    | assumption | apply Dev.refVerdict_keeps c | apply Dev.refCheck_keeps c
    | (apply foldl_keeps; intro d x hd) | (apply foldl_fst_keeps; intro d x hd) | (apply foldl_snd_keeps; intro d x hd)
    | refine snd_keeps (by assumption) ?_ | refine fst_keeps (by assumption) ?_ | split
theorem Dev.setChkRef_keeps (c : Keeps P) (d x0 x1 x2 x3 x4) (h : P d) : P (Dev.setChkRef d x0 x1 x2 x3 x4) := by
  unfold Dev.setChkRef
  try dsimp only
  with_reducible repeat' first | assumption | apply Dev.setF_keeps c | apply ite_keeps
theorem Dev.trimWear_keeps (c : Keeps P) (d x0 x1) (h : P d) : P (Dev.trimWear d x0 x1) := by
  unfold Dev.trimWear
  try dsimp only
  with_reducible repeat' first | assumption | apply Dev.flagIf_keeps c | apply Dev.setF_keeps c
theorem Dev.writeTrim_keeps (c : Keeps P) (d x0 x1 x2 x3 x4) (h : P d) : P (Dev.writeTrim d x0 x1 x2 x3 x4) := by
  unfold Dev.writeTrim
  try dsimp only
  with_reducible repeat' first
    | assumption | apply Dev.trimWear_keeps c | apply Dev.setCh_keeps c | apply Dev.setB_keeps c
    | apply Dev.setF_keeps c | apply Dev.count_keeps c
theorem Dev.fullCommit_keeps (c : Keeps P) (d x0 x1 x2) (h : P d) : P (Dev.fullCommit d x0 x1 x2) := by
  unfold Dev.fullCommit
  try dsimp only
  with_reducible repeat' first
    | assumption | apply Dev.setChkRef_keeps c | apply Dev.writeTrim_keeps c
    | (apply foldl_keeps; intro d x hd) | (apply foldl_fst_keeps; intro d x hd) | (apply foldl_snd_keeps; intro d x hd) | apply ite_keeps
    | refine snd_keeps (by assumption) ?_ | refine fst_keeps (by assumption) ?_ | split
theorem Dev.afeFull_keeps (c : Keeps P) (d x0 x1) (h : P d) : P (Dev.afeFull d x0 x1) := by
  unfold Dev.afeFull
  try dsimp only
  with_reducible repeat' first
    | assumption | apply Dev.fullReport_keeps c | apply Dev.flag_keeps c | apply Dev.fullRefs_keeps c
    | apply Dev.fullCommit_keeps c | apply ite_keeps | refine snd_keeps (by assumption) ?_ | refine fst_keeps (by assumption) ?_ | split
theorem Dev.plainWrite_keeps (c : Keeps P) (d x0 x1) (h : P d) : P (Dev.plainWrite d x0 x1) := by
  unfold Dev.plainWrite
  try dsimp only
  with_reducible repeat' first
    | assumption | apply Dev.setReg_keeps c | refine snd_keeps (by assumption) ?_
    | refine fst_keeps (by assumption) ?_ | split
theorem Dev.noTarget_keeps (c : Keeps P) (d x0) (h : P d) : P (Dev.noTarget d x0) := by
  unfold Dev.noTarget
  try dsimp only
  with_reducible repeat' first
    | assumption | refine snd_keeps (by assumption) ?_ | refine fst_keeps (by assumption) ?_ | split
    | fail_if_no_progress refine Keeps.mk' c ?_ rfl rfl rfl rfl
theorem Dev.discarded_keeps (c : Keeps P) (d x0) (h : P d) : P (Dev.discarded d x0) := by
  unfold Dev.discarded
  try dsimp only
  with_reducible repeat' first | assumption | apply Dev.noTarget_keeps c
theorem Dev.angleWrite_keeps (c : Keeps P) (d x0 x1 x2 x3 x4) (h : P d) : P (Dev.angleWrite d x0 x1 x2 x3 x4) := by
  unfold Dev.angleWrite
  try dsimp only
  with_reducible repeat' first
    | assumption | apply Dev.accessErr_keeps c | apply Dev.plainWrite_keeps c | apply Dev.discarded_keeps c
    | apply ite_keeps
theorem Dev.tstRefresh_keeps (c : Keeps P) (d) (h : P d) : P (Dev.tstRefresh d) := by
  unfold Dev.tstRefresh
  try dsimp only
  with_reducible repeat' first
    | assumption | apply Dev.setReg_keeps c | apply Dev.setB_keeps c | (apply foldl_keeps; intro d x hd)
    | apply ite_keeps
theorem Dev.secRefresh_keeps (c : Keeps P) (d) (h : P d) : P (Dev.secRefresh d) := by
  unfold Dev.secRefresh
  try dsimp only
  with_reducible repeat' first | assumption | apply Dev.tstRefresh_keeps c | apply Dev.setB_keeps c | apply Dev.setF_keeps c
theorem Dev.coilPhase_keeps (c : Keeps P) (d x0 x1 x2 x3) (h : P d) : P (Dev.coilPhase d x0 x1 x2 x3) := by
  unfold Dev.coilPhase
  try dsimp only
  with_reducible repeat' first | assumption | apply Dev.setAx_keeps c | apply Dev.emit_keeps c | apply ite_keeps
theorem Dev.setPower_keeps (c : Keeps P) (d x0 x1) (h : P d) : P (Dev.setPower d x0 x1) := by
  unfold Dev.setPower
  try dsimp only
  with_reducible repeat' first
    | assumption | apply Dev.coilPhase_keeps c | apply Dev.setAx_keeps c | apply Dev.setF_keeps c
    | apply Dev.emit_keeps c | apply ite_keeps | refine snd_keeps (by assumption) ?_ | refine fst_keeps (by assumption) ?_ | split
theorem Dev.floatPins_keeps (c : Keeps P) (d) (h : P d) : P (Dev.floatPins d) := by
  unfold Dev.floatPins
  try dsimp only
  with_reducible repeat' first | assumption | apply Dev.setPower_keeps c | apply Dev.emit_keeps c | (apply foldl_keeps; intro d x hd)
theorem Dev.funcState_keeps (c : Keeps P) (d) (h : P d) : P (Dev.funcState d) := by
  have hd : P { d with ram := d.ram.filter (fun c => decide (winShade ≤ c.1)) } := c.ram _ _ (spWf_filter _ _) h
  unfold Dev.funcState
  dsimp only
  apply foldl_keeps
  · intro d x hd
    apply Dev.showLanes_keeps c
    apply Dev.setLane_keeps c
    exact hd
  · apply forGC_keeps
    · intro d g c' hd
      apply Dev.setCh_keeps c
      exact hd
    · exact c.rest { d with ram := d.ram.filter (fun c => decide (winShade ≤ c.1)) } _ rfl rfl rfl rfl hd
theorem Dev.linkReset_keeps (c : Keeps P) (d x0) (h : P d) : P (Dev.linkReset d x0) := by
  unfold Dev.linkReset
  try dsimp only
  with_reducible repeat' first
    | assumption | refine snd_keeps (by assumption) ?_ | refine fst_keeps (by assumption) ?_ | split
    | fail_if_no_progress refine Keeps.mk' c ?_ rfl rfl rfl rfl
theorem Dev.setMode_keeps (c : Keeps P) (d x0) (h : P d) : P (Dev.setMode d x0) := by
  unfold Dev.setMode
  try dsimp only
  with_reducible repeat' first
    | assumption | apply Dev.flag_keeps c | apply Dev.setF_keeps c | apply ite_keeps
    | fail_if_no_progress refine Keeps.mk' c ?_ rfl rfl rfl rfl
theorem Dev.warmState_keeps (c : Keeps P) (d) (h : P d) : P (Dev.warmState d) := by
  unfold Dev.warmState
  try dsimp only
  with_reducible repeat' first | assumption | fail_if_no_progress refine Keeps.mk' c ?_ rfl rfl rfl rfl
theorem Dev.applyReset_keeps (c : Keeps P) (d k) (h : P d) : P (Dev.applyReset d k) := by
  unfold Dev.applyReset
  extract_lets boot fails inBoot d1 d2 d3 d4 d5 l6 d6 d7 d8 d9
  have h1 : P d1 := Dev.floatPins_keeps c _ h
  have h2 : P d2 := ite_keeps (c.rest { d1 with ram := [] } _ rfl rfl rfl rfl (c.ram _ _ (fun _ => rfl) h1)) h1
  have h3 : P d3 := ite_keeps (Dev.warmState_keeps c _ h2) h2
  have h4 : P d4 := Dev.resetRegs_keeps c _ _ h3
  have h5 : P d5 := ite_keeps h4 (Dev.setF_keeps c _ _ _ (Dev.setF_keeps c _ _ _ h4))
  have h6 : P d6 := ite_keeps (c.rest d5 _ rfl rfl rfl rfl h5) h5
  have h7 : P d7 := Dev.linkReset_keeps c _ _ (Dev.funcState_keeps c _ h6)
  have h8 : P d8 := c.rest d7 _ rfl rfl rfl rfl h7
  have h9 : P d9 := Dev.flag_keeps c _ _ h8
  exact ite_keeps h9 (Dev.secRefresh_keeps c _ (Dev.setMode_keeps c _ _ h9))
theorem Dev.setMissRun_keeps (c : Keeps P) (d x0 x1) (h : P d) : P (Dev.setMissRun d x0 x1) := by
  unfold Dev.setMissRun
  try dsimp only
  with_reducible repeat' first | assumption | apply ite_keeps | fail_if_no_progress refine Keeps.mk' c ?_ rfl rfl rfl rfl
theorem Dev.mapLine_keeps (c : Keeps P) (d x0 x1) (h : P d) : P (Dev.mapLine d x0 x1) := by
  unfold Dev.mapLine
  try dsimp only
  with_reducible repeat' first | assumption | apply Dev.mapLines_keeps c
theorem Dev.requestRaw_keeps (c : Keeps P) (d x0 x1 x2) (h : P d) : P (Dev.requestRaw d x0 x1 x2) := by
  unfold Dev.requestRaw
  try dsimp only
  with_reducible repeat' first
    | assumption | apply Dev.mapLine_keeps c | apply Dev.setGroupUse_keeps c | apply ite_keeps
    | refine snd_keeps (by assumption) ?_ | refine fst_keeps (by assumption) ?_ | split
theorem Dev.arrived_keeps (c : Keeps P) (d x0 x1 x2) (h : P d) : P (Dev.arrived d x0 x1 x2) := by
  unfold Dev.arrived
  try dsimp only
  with_reducible repeat' first
    | assumption | apply Dev.setMissRun_keeps c | apply Dev.mapLine_keeps c | apply Dev.requestRaw_keeps c
    | refine snd_keeps (by assumption) ?_ | refine fst_keeps (by assumption) ?_ | split
theorem Dev.storeReport_keeps (c : Keeps P) (d x0 x1 x2) (h : P d) : P (Dev.storeReport d x0 x1 x2) := by
  unfold Dev.storeReport
  try dsimp only
  with_reducible repeat' first | assumption | apply Dev.complete_keeps c
theorem Dev.attest_keeps (c : Keeps P) (d x0 x1 x2 x3) (h : P d) : P (Dev.attest d x0 x1 x2 x3) := by
  unfold Dev.attest
  try dsimp only
  with_reducible repeat' first
    | assumption | apply Dev.storeReport_keeps c | apply Dev.emit_keeps c | apply ite_keeps
    | refine snd_keeps (by assumption) ?_ | refine fst_keeps (by assumption) ?_ | split
theorem Dev.attestCmd_keeps (c : Keeps P) (d x0 x1 x2 x3) (h : P d) : P (Dev.attestCmd d x0 x1 x2 x3) := by
  unfold Dev.attestCmd
  try dsimp only
  with_reducible repeat' first | assumption | apply Dev.complete_keeps c | apply Dev.attest_keeps c | apply ite_keeps
theorem Dev.setMeasured_keeps (c : Keeps P) (d x0 x1) (h : P d) : P (Dev.setMeasured d x0 x1) := by
  unfold Dev.setMeasured
  try dsimp only
  with_reducible repeat' first | assumption | fail_if_no_progress refine Keeps.mk' c ?_ rfl rfl rfl rfl
theorem Dev.axisAfter_keeps (c : Keeps P) (d x0 x1) (h : P d) : P (Dev.axisAfter d x0 x1) := by
  unfold Dev.axisAfter
  try dsimp only
  with_reducible repeat' first | assumption | apply Dev.setMeasured_keeps c | apply Dev.setAx_keeps c | apply ite_keeps
theorem Dev.axisPeriod_keeps (c : Keeps P) (d) (h : P d) : P (Dev.axisPeriod d) := by
  unfold Dev.axisPeriod
  try dsimp only
  with_reducible repeat' first
    | assumption | apply Dev.setFI_keeps c | apply Dev.setF_keeps c | apply ite_keeps
    | fail_if_no_progress refine Keeps.mk' c ?_ rfl rfl rfl rfl
theorem Dev.axisStep_keeps (c : Keeps P) (d) (h : P d) : P (Dev.axisStep d) := by
  unfold Dev.axisStep
  try dsimp only
  with_reducible repeat' first
    | assumption | apply Dev.setF_keeps c | apply ite_keeps
    | fail_if_no_progress refine Keeps.mk' c ?_ rfl rfl rfl rfl
theorem Dev.setAngleZero_keeps (c : Keeps P) (d x0) (h : P d) : P (Dev.setAngleZero d x0) := by
  unfold Dev.setAngleZero
  try dsimp only
  with_reducible repeat' first | assumption | apply Dev.set64_keeps c
theorem Dev.flowShift_keeps (c : Keeps P) (d x0) (h : P d) : P (Dev.flowShift d x0) := by
  unfold Dev.flowShift
  try dsimp only
  with_reducible repeat' first
    | assumption | apply Dev.setAngleZero_keeps c | apply Dev.setMem_keeps c
    | (apply foldl_keeps; intro d x hd) | fail_if_no_progress refine Keeps.mk' c ?_ rfl rfl rfl rfl
theorem Dev.setBoundaries_keeps (c : Keeps P) (d x0) (h : P d) : P (Dev.setBoundaries d x0) := by
  unfold Dev.setBoundaries
  try dsimp only
  with_reducible repeat' first | assumption | apply Dev.setF_keeps c | fail_if_no_progress refine Keeps.mk' c ?_ rfl rfl rfl rfl
theorem Dev.deliverAnalysis_keeps (c : Keeps P) (d x0 x1 x2 x3 x4 x5) (h : P d) : P (Dev.deliverAnalysis d x0 x1 x2 x3 x4 x5) := by
  unfold Dev.deliverAnalysis
  try dsimp only
  with_reducible repeat' first
    | assumption | apply Dev.addRecord_keeps c | (apply foldl_keeps; intro d x hd)
    | (apply foldl_fst_keeps; intro d x hd) | (apply foldl_snd_keeps; intro d x hd) | apply ite_keeps
theorem Dev.dropEntry_keeps (c : Keeps P) (d) (h : P d) : P (Dev.dropEntry d) := by
  unfold Dev.dropEntry
  try dsimp only
  with_reducible repeat' first | assumption | apply Dev.count_keeps c
theorem Dev.queueEntry_keeps (c : Keeps P) (d x0) (h : P d) : P (Dev.queueEntry d x0).1 := by
  unfold Dev.queueEntry
  try dsimp only
  with_reducible repeat' first
    | assumption | apply Dev.flag_keeps c | apply Dev.dropEntry_keeps c | apply Dev.setF_keeps c
    | apply ite_keeps | split | fail_if_no_progress refine Keeps.mk' c ?_ rfl rfl rfl rfl
theorem Dev.enterStrata_keeps (c : Keeps P) (d x0 x1) (h : P d) : P (Dev.enterStrata d x0 x1).1 := by
  unfold Dev.enterStrata
  try dsimp only
  with_reducible repeat' first
    | assumption | apply Dev.flag_keeps c | apply Dev.dropEntry_keeps c | apply Dev.queueEntry_keeps c
    | apply ite_keeps | split
theorem Dev.strEnter_keeps (c : Keeps P) (d x0 x1) (h : P d) : P (Dev.strEnter d x0 x1).1 := by
  unfold Dev.strEnter
  try dsimp only
  with_reducible repeat' first
    | assumption | apply Dev.enterStrata_keeps c | apply Dev.flagIf_keeps c | apply Dev.dropEntry_keeps c
    | apply ite_keeps | split
theorem Dev.sendVia_keeps (c : Keeps P) (d x0 x1) (h : P d) : P (Dev.sendVia d x0 x1) := by
  unfold Dev.sendVia
  try dsimp only
  with_reducible repeat' first | assumption | apply Dev.emit_keeps c | apply ite_keeps
theorem Dev.originate_keeps (c : Keeps P) (d x0 x1 x2 x3) (h : P d) : P (Dev.originate d x0 x1 x2 x3) := by
  unfold Dev.originate
  try dsimp only
  with_reducible repeat' first | assumption | apply Dev.sendVia_keeps c | fail_if_no_progress refine Keeps.mk' c ?_ rfl rfl rfl rfl
theorem Dev.sendResult_keeps (c : Keeps P) (d x0 x1) (h : P d) : P (Dev.sendResult d x0 x1) := by
  unfold Dev.sendResult
  try dsimp only
  with_reducible repeat' first
    | assumption | apply Dev.originate_keeps c | apply Dev.count_keeps c | apply ite_keeps
    | refine snd_keeps (by assumption) ?_ | refine fst_keeps (by assumption) ?_ | split
theorem Dev.putStrata_keeps (c : Keeps P) (d x0 x1) (h : P d) : P (Dev.putStrata d x0 x1) := by
  unfold Dev.putStrata
  try dsimp only
  with_reducible repeat' first
    | assumption | apply Dev.deliverAnalysis_keeps c | apply Dev.strEnter_keeps c | apply Dev.setMem_keeps c
    | apply Dev.setBytes_keeps c | apply Dev.setF_keeps c | apply Dev.haulRequest_keeps c | apply Dev.count_keeps c
    | apply Dev.sendResult_keeps c | apply ite_keeps | split | fail_if_no_progress refine Keeps.mk' c ?_ rfl rfl rfl rfl
theorem Dev.strataDiscard_keeps (c : Keeps P) (d x0) (h : P d) : P (Dev.strataDiscard d x0) := by
  unfold Dev.strataDiscard
  try dsimp only
  with_reducible repeat' first
    | assumption | apply Dev.setBoundaries_keeps c | apply Dev.putStrata_keeps c
    | (apply foldl_keeps; intro d x hd) | fail_if_no_progress refine Keeps.mk' c ?_ rfl rfl rfl rfl
theorem Dev.strataFrame_keeps (c : Keeps P) (d) (h : P d) : P (Dev.strataFrame d) := by
  unfold Dev.strataFrame
  try dsimp only
  with_reducible repeat' first
    | assumption | apply Dev.strataDiscard_keeps c | apply Dev.flagIf_keeps c
    | fail_if_no_progress refine Keeps.mk' c ?_ rfl rfl rfl rfl
theorem Dev.redefine_keeps (c : Keeps P) (d x0 x1) (h : P d) : P (Dev.redefine d x0 x1) := by
  unfold Dev.redefine
  try dsimp only
  with_reducible repeat' first
    | assumption | apply Dev.flowShift_keeps c | apply Dev.disarm_keeps c | apply Dev.setMeasured_keeps c
    | apply Dev.strataFrame_keeps c | apply Dev.setAx_keeps c | apply ite_keeps
theorem Dev.posGo_keeps (c : Keeps P) (d x0) (h : P d) : P (Dev.posGo d x0) := by
  unfold Dev.posGo
  try dsimp only
  with_reducible repeat' first | assumption | apply Dev.redefine_keeps c | apply Dev.flag_keeps c | apply ite_keeps
theorem Dev.axsStatusWrite_keeps (c : Keeps P) (d x0 x1) (h : P d) : P (Dev.axsStatusWrite d x0 x1) := by
  unfold Dev.axsStatusWrite
  try dsimp only
  with_reducible repeat' first | assumption | apply Dev.posGo_keeps c | apply Dev.setF_keeps c | apply ite_keeps
theorem Dev.bankErrors_keeps (c : Keeps P) (d x0 x1) (h : P d) : P (Dev.bankErrors d x0 x1) := by
  unfold Dev.bankErrors
  try dsimp only
  with_reducible repeat' first
    | assumption | apply Dev.setF_keeps c | apply Dev.count_keeps c | apply Dev.irq_keeps c | apply ite_keeps
    | fail_if_no_progress refine Keeps.mk' c ?_ rfl rfl rfl rfl
theorem Dev.barFailed_keeps (c : Keeps P) (d x0 x1) (h : P d) : P (Dev.barFailed d x0 x1) := by
  unfold Dev.barFailed
  try dsimp only
  with_reducible repeat' first | assumption | apply Dev.setB_keeps c | apply Dev.setF_keeps c
theorem Dev.rearm_keeps (c : Keeps P) (d x0) (h : P d) : P (Dev.rearm d x0) := by
  unfold Dev.rearm
  try dsimp only
  with_reducible repeat' first | assumption | apply Dev.setF_keeps c
theorem Dev.stepSlots_keeps (c : Keeps P) (d x0) (h : P d) : P (Dev.stepSlots d x0) := by
  unfold Dev.stepSlots
  try dsimp only
  with_reducible repeat' first | assumption | apply ite_keeps | split | fail_if_no_progress refine Keeps.mk' c ?_ rfl rfl rfl rfl
theorem Dev.setDisc_keeps (c : Keeps P) (d x0 x1) (h : P d) : P (Dev.setDisc d x0 x1) := by
  unfold Dev.setDisc
  try dsimp only
  with_reducible repeat' first | assumption | apply ite_keeps | fail_if_no_progress refine Keeps.mk' c ?_ rfl rfl rfl rfl
theorem Dev.netSetGo_keeps (c : Keeps P) (d) (h : P d) : P (Dev.netSetGo d) := by
  unfold Dev.netSetGo
  try dsimp only
  with_reducible repeat' first | assumption | apply Dev.stepSlots_keeps c | apply Dev.setDisc_keeps c | apply ite_keeps
theorem Dev.baseCtrlWrite_keeps (c : Keeps P) (d x0 x1) (h : P d) : P (Dev.baseCtrlWrite d x0 x1) := by
  unfold Dev.baseCtrlWrite
  try dsimp only
  with_reducible repeat' first
    | assumption | apply Dev.rearm_keeps c | apply Dev.plainWrite_keeps c | apply Dev.netSetGo_keeps c
    | apply ite_keeps
theorem Dev.baseWrite_keeps (c : Keeps P) (d x0 x1 x2 x3 x4) (h : P d) : P (Dev.baseWrite d x0 x1 x2 x3 x4) := by
  unfold Dev.baseWrite
  try dsimp only
  with_reducible repeat' first | assumption | apply Dev.accessErr_keeps c | apply Dev.plainWrite_keeps c | apply ite_keeps
theorem Dev.binWrite_keeps (c : Keeps P) (d x0 x1 x2) (h : P d) : P (Dev.binWrite d x0 x1 x2) := by
  unfold Dev.binWrite
  try dsimp only
  with_reducible repeat' first
    | assumption | apply Dev.accessErr_keeps c | apply ite_keeps
    | fail_if_no_progress refine Keeps.mk' c ?_ rfl rfl rfl rfl
theorem Dev.calCode_keeps (c : Keeps P) (d x0 x1 x2 x3 x4 x5) (h : P d) : P (Dev.calCode d x0 x1 x2 x3 x4 x5) := by
  unfold Dev.calCode
  try dsimp only
  with_reducible repeat' first
    | assumption | apply Dev.flag_keeps c | apply Dev.writeTrim_keeps c | refine snd_keeps (by assumption) ?_
    | refine fst_keeps (by assumption) ?_ | split
theorem Dev.calChan_keeps (c : Keeps P) (d x0 x1 x2 x3 x4) (h : P d) : P (Dev.calChan d x0 x1 x2 x3 x4) := by
  unfold Dev.calChan
  try dsimp only
  with_reducible repeat' first | assumption | apply Dev.calCode_keeps c | apply Dev.setChkRef_keeps c | (apply foldl_keeps; intro d x hd)
theorem Dev.bootCal_keeps (c : Keeps P) (d x0) (h : P d) : P (Dev.bootCal d x0) := by
  unfold Dev.bootCal
  try dsimp only
  with_reducible repeat' first | assumption | apply Dev.setCh_keeps c | apply Dev.calChan_keeps c | apply Dev.setF_keeps c
theorem Dev.hkcSelfcal_keeps (c : Keeps P) (d x0) (h : P d) : P (Dev.hkcSelfcal d x0).1 := by
  unfold Dev.hkcSelfcal
  try dsimp only
  with_reducible repeat' first
    | assumption | apply Dev.flag_keeps c | apply Dev.setFI_keeps c | apply Dev.setB_keeps c
    | apply Dev.setF_keeps c | (apply foldl_keeps; intro d x hd) | (apply foldl_fst_keeps; intro d x hd)
    | (apply foldl_snd_keeps; intro d x hd) | refine snd_keeps (by assumption) ?_ | refine fst_keeps (by assumption) ?_ | split
    | fail_if_no_progress refine Keeps.mk' c ?_ rfl rfl rfl rfl
theorem Dev.bootEnd_keeps (c : Keeps P) (d x0) (h : P d) : P (Dev.bootEnd d x0) := by
  unfold Dev.bootEnd
  try dsimp only
  with_reducible repeat' first
    | assumption | apply Dev.secRefresh_keeps c | apply Dev.bootCal_keeps c | apply Dev.hkcSelfcal_keeps c
    | apply Dev.setF_keeps c | apply Dev.setMode_keeps c | (apply foldl_keeps; intro d x hd)
theorem Dev.formTaps_keeps (c : Keeps P) (d x0) (h : P d) : P (Dev.formTaps d x0) := by
  unfold Dev.formTaps
  try dsimp only
  with_reducible repeat' first | assumption | apply Dev.setCh_keeps c | (apply foldl_keeps; intro d x hd) | apply ite_keeps
theorem Dev.reapply_keeps (c : Keeps P) (d x0) (h : P d) : P (Dev.reapply d x0).1 := by
  unfold Dev.reapply
  try dsimp only
  with_reducible repeat' first
    | assumption | apply Dev.setCh_keeps c | apply Dev.setLane_keeps c | apply ite_keeps
    | refine snd_keeps (by assumption) ?_ | refine fst_keeps (by assumption) ?_ | split
    | fail_if_no_progress refine Keeps.mk' c ?_ rfl rfl rfl rfl
theorem Dev.ledgerBoot_keeps (c : Keeps P) (d) (h : P d) : P (Dev.ledgerBoot d) := by
  unfold Dev.ledgerBoot
  try dsimp only
  with_reducible repeat' first
    | assumption | apply Dev.formTaps_keeps c | apply Dev.setLane_keeps c | apply Dev.reapply_keeps c
    | apply Dev.setB_keeps c | apply Dev.setRoles_keeps c | apply Dev.setF_keeps c | apply Dev.showLanes_keeps c
    | (apply foldl_keeps; intro d x hd) | (apply foldl_fst_keeps; intro d x hd) | (apply foldl_snd_keeps; intro d x hd) | apply ite_keeps
    | split | fail_if_no_progress refine Keeps.mk' c ?_ rfl rfl rfl rfl
theorem Dev.imgResult_keeps (c : Keeps P) (d x0 x1) (h : P d) : P (Dev.imgResult d x0 x1) := by
  unfold Dev.imgResult
  try dsimp only
  with_reducible repeat' first | assumption | apply Dev.setF_keeps c
theorem Dev.setSec_keeps (c : Keeps P) (d : Dev) (x : Sec) (h : P d) (e : x.otp = d.sec.otp) : P (d.setSec x) := c.rest d _ rfl rfl rfl e h
theorem Dev.imgStart_keeps (c : Keeps P) (d x0 x1) (h : P d) : P (Dev.imgStart d x0 x1) := by
  unfold Dev.imgStart
  try dsimp only
  with_reducible repeat' first
    | assumption | (apply Dev.setSec_keeps c; on_goal 2 => with_unfolding_all rfl) | apply Dev.setB_keeps c
    | apply Dev.setF_keeps c
theorem Dev.imgBoot_keeps (c : Keeps P) (d x0 x1) (h : P d) : P (Dev.imgBoot d x0 x1).1 := by
  unfold Dev.imgBoot
  try dsimp only
  with_reducible repeat' first | assumption | apply Dev.imgResult_keeps c | apply Dev.imgStart_keeps c | apply ite_keeps | split
theorem Dev.deriveIdentity_keeps (c : Keeps P) (d) (h : P d) : P (Dev.deriveIdentity d) := by
  unfold Dev.deriveIdentity
  try dsimp only
  with_reducible repeat' first
    | assumption | apply Dev.setReg_keeps c | apply Dev.set64_keeps c
    | (apply Dev.setSec_keeps c; on_goal 2 => with_unfolding_all rfl) | (apply foldl_keeps; intro d x hd)
theorem Dev.bootFail_keeps (c : Keeps P) (d x0) (h : P d) : P (Dev.bootFail d x0) := by
  unfold Dev.bootFail
  try dsimp only
  with_reducible repeat' first | assumption | apply Dev.setF_keeps c
theorem Dev.storeBoot_keeps (c : Keeps P) (d) (h : P d) : P (Dev.storeBoot d) := by
  unfold Dev.storeBoot
  try dsimp only
  with_reducible repeat' first | assumption | apply Dev.flagIf_keeps c | (apply Dev.setSec_keeps c; on_goal 2 => with_unfolding_all rfl)
theorem Dev.boot_keeps (c : Keeps P) (d x0) (h : P d) : P (Dev.boot d x0) := by
  unfold Dev.boot
  try dsimp only
  with_reducible repeat' first
    | assumption | apply Dev.bootEnd_keeps c | apply Dev.secRefresh_keeps c | apply Dev.ledgerBoot_keeps c
    | apply Dev.imgBoot_keeps c | apply Dev.deriveIdentity_keeps c | (apply Dev.setSec_keeps c; on_goal 2 => with_unfolding_all rfl)
    | apply Dev.bootFail_keeps c | apply Dev.setF_keeps c | apply Dev.storeBoot_keeps c | apply Dev.count_keeps c | apply ite_keeps
theorem Dev.completeQuiet_keeps (c : Keeps P) (d x0 x1) (h : P d) : P (Dev.completeQuiet d x0 x1) := by
  unfold Dev.completeQuiet
  try dsimp only
  with_reducible repeat' first | assumption | apply Dev.complete_keeps c | apply ite_keeps
theorem Dev.boundaryPost_keeps (c : Keeps P) (d x0 x1 x2 x3 x4 x5) (h : P d) : P (Dev.boundaryPost d x0 x1 x2 x3 x4 x5) := by
  unfold Dev.boundaryPost
  try dsimp only
  with_reducible repeat' first
    | assumption | apply Dev.setBoundaries_keeps c | apply Dev.putStrata_keeps c | apply Dev.complete_keeps c
    | apply Dev.completeQuiet_keeps c | apply Dev.count_keeps c | apply ite_keeps
    | fail_if_no_progress refine Keeps.mk' c ?_ rfl rfl rfl rfl
theorem Dev.bufferFlush_keeps (c : Keeps P) (d x0) (h : P d) : P (Dev.bufferFlush d x0) := by
  unfold Dev.bufferFlush
  try dsimp only
  with_reducible repeat' first | assumption | apply Dev.closeBuf_keeps c | apply ite_keeps
theorem Dev.setSupply_keeps (c : Keeps P) (d x0 x1) (h : P d) : P (Dev.setSupply d x0 x1) := by
  unfold Dev.setSupply
  try dsimp only
  with_reducible repeat' first | assumption | apply Dev.setF_keeps c | fail_if_no_progress refine Keeps.mk' c ?_ rfl rfl rfl rfl
theorem Dev.bufferPost_keeps (c : Keeps P) (d x0 x1 x2) (h : P d) : P (Dev.bufferPost d x0 x1 x2) := by
  unfold Dev.bufferPost
  try dsimp only
  with_reducible repeat' first
    | assumption | apply Dev.complete_keeps c | apply Dev.completeQuiet_keeps c | apply Dev.setSupply_keeps c
    | apply ite_keeps
theorem Dev.cairnLoad_keeps (c : Keeps P) (d x0 x1) (h : P d) : P (Dev.cairnLoad d x0 x1) := by
  unfold Dev.cairnLoad
  try dsimp only
  with_reducible repeat' first | assumption | apply Dev.stepSlots_keeps c | fail_if_no_progress refine Keeps.mk' c ?_ rfl rfl rfl rfl
theorem Dev.cairnCopy_keeps (c : Keeps P) (d x0) (h : P d) : P (Dev.cairnCopy d x0) := by
  unfold Dev.cairnCopy
  try dsimp only
  with_reducible repeat' first | assumption | apply Dev.cairnLoad_keeps c | apply ite_keeps
theorem Dev.cairnSetGo_keeps (c : Keeps P) (d) (h : P d) : P (Dev.cairnSetGo d) := by
  unfold Dev.cairnSetGo
  try dsimp only
  with_reducible repeat' first | assumption | apply Dev.cairnLoad_keeps c
theorem Dev.cairnTick_keeps (c : Keeps P) (d) (h : P d) : P (Dev.cairnTick d) := by
  unfold Dev.cairnTick
  try dsimp only
  with_reducible repeat' first | assumption | apply ite_keeps | fail_if_no_progress refine Keeps.mk' c ?_ rfl rfl rfl rfl
theorem Dev.calDarkEnd_keeps (c : Keeps P) (d x0 x1) (h : P d) : P (Dev.calDarkEnd d x0 x1) := by
  unfold Dev.calDarkEnd
  try dsimp only
  with_reducible repeat' first
    | assumption | apply Dev.calFail_keeps c | apply Dev.setCal_keeps c | refine snd_keeps (by assumption) ?_
    | refine fst_keeps (by assumption) ?_ | split
theorem Dev.calLine_keeps (c : Keeps P) (d x0 x1 x2) (h : P d) : P (Dev.calLine d x0 x1 x2) := by
  unfold Dev.calLine
  try dsimp only
  with_reducible repeat' first
    | assumption | apply Dev.setCal_keeps c | (apply foldl_keeps; intro d x hd)
    | (apply foldl_fst_keeps; intro d x hd) | (apply foldl_snd_keeps; intro d x hd) | apply ite_keeps
    | refine snd_keeps (by assumption) ?_ | refine fst_keeps (by assumption) ?_ | split
theorem Dev.calWhiteEnd_keeps (c : Keeps P) (d x0 x1) (h : P d) : P (Dev.calWhiteEnd d x0 x1) := by
  unfold Dev.calWhiteEnd
  try dsimp only
  with_reducible repeat' first
    | assumption | apply Dev.calFail_keeps c | apply Dev.setCal_keeps c | apply ite_keeps
    | refine snd_keeps (by assumption) ?_ | refine fst_keeps (by assumption) ?_ | split
    | fail_if_no_progress refine Keeps.mk' c ?_ rfl rfl rfl rfl
theorem Dev.calSetDone_keeps (c : Keeps P) (d x0) (h : P d) : P (Dev.calSetDone d x0) := by
  unfold Dev.calSetDone
  try dsimp only
  with_reducible repeat' first
    | assumption | apply Dev.calWhiteEnd_keeps c | apply Dev.calFail_keeps c | apply Dev.calDarkEnd_keeps c
    | apply Dev.setCal_keeps c | apply ite_keeps | refine snd_keeps (by assumption) ?_ | refine fst_keeps (by assumption) ?_ | split
theorem Dev.chCtrlWrite_keeps (c : Keeps P) (d x0 x1 x2) (h : P d) : P (Dev.chCtrlWrite d x0 x1 x2) := by
  unfold Dev.chCtrlWrite
  try dsimp only
  with_reducible repeat' first | assumption | apply Dev.powerCh_keeps c | apply Dev.setF_keeps c
theorem Dev.chRangeWrite_keeps (c : Keeps P) (d x0 x1 x2 x3) (h : P d) : P (Dev.chRangeWrite d x0 x1 x2 x3) := by
  unfold Dev.chRangeWrite
  try dsimp only
  with_reducible repeat' first
    | assumption | apply Dev.accessErr_keeps c | apply Dev.setReg_keeps c | apply Dev.setF_keeps c
    | apply ite_keeps
theorem Dev.freeNat_keeps (c : Keeps P) (d x0) (h : P d) : P (Dev.freeNat d x0).2 := by
  unfold Dev.freeNat
  try dsimp only
  with_reducible repeat' first | assumption | fail_if_no_progress refine Keeps.mk' c ?_ rfl rfl rfl rfl
theorem Dev.setChallenge_keeps (c : Keeps P) (d x0) (h : P d) : P (Dev.setChallenge d x0) := by
  unfold Dev.setChallenge
  try dsimp only
  with_reducible repeat' first
    | assumption | apply Dev.setReg_keeps c | (apply Dev.setSec_keeps c; on_goal 2 => with_unfolding_all rfl)
    | apply Dev.setB_keeps c | (apply foldl_keeps; intro d x hd)
theorem Dev.chalReq_keeps (c : Keeps P) (d) (h : P d) : P (Dev.chalReq d) := by
  unfold Dev.chalReq
  try dsimp only
  with_reducible repeat' first
    | assumption | apply Dev.freeNat_keeps c | apply Dev.setChallenge_keeps c | apply Dev.setF_keeps c
    | apply ite_keeps
theorem Dev.retireCh_keeps (c : Keeps P) (d x0 x1) (h : P d) : P (Dev.retireCh d x0 x1) := by
  unfold Dev.retireCh
  try dsimp only
  with_reducible repeat' first | assumption | apply Dev.setCh_keeps c | apply Dev.powerDown_keeps c | apply Dev.setF_keeps c
theorem Dev.ledgerEvent_keeps (c : Keeps P) (d x0) (h : P d) : P (Dev.ledgerEvent d x0) := by
  unfold Dev.ledgerEvent
  try dsimp only
  with_reducible repeat' first
    | assumption | apply Dev.flag_keeps c | apply Dev.setF_keeps c | apply ite_keeps
    | fail_if_no_progress refine Keeps.mk' c ?_ rfl rfl rfl rfl
theorem Dev.connect_keeps (c : Keeps P) (d x0 x1 x2) (h : P d) : P (Dev.connect d x0 x1 x2) := by
  unfold Dev.connect
  try dsimp only
  with_reducible repeat' first | assumption | apply Dev.setSource_keeps c | apply Dev.setCh_keeps c
theorem Dev.substitute_keeps (c : Keeps P) (d x0 x1 x2 x3) (h : P d) : P (Dev.substitute d x0 x1 x2 x3) := by
  unfold Dev.substitute
  try dsimp only
  with_reducible repeat' first
    | assumption | apply Dev.setReg_keeps c | apply Dev.retireCh_keeps c | apply Dev.ledgerEvent_keeps c
    | apply Dev.setCh_keeps c | apply Dev.connect_keeps c | apply Dev.markChecked_keeps c | apply Dev.setB_keeps c
    | apply Dev.setF_keeps c | apply ite_keeps | refine snd_keeps (by assumption) ?_ | refine fst_keeps (by assumption) ?_ | split
theorem Dev.chkFail_keeps (c : Keeps P) (d x0 x1) (h : P d) : P (Dev.chkFail d x0 x1) := by
  unfold Dev.chkFail
  try dsimp only
  with_reducible repeat' first
    | assumption | apply Dev.retireCh_keeps c | apply Dev.ledgerEvent_keeps c | apply Dev.flag_keeps c
    | apply Dev.setCh_keeps c | apply Dev.markChecked_keeps c | apply Dev.substitute_keeps c | apply Dev.setF_keeps c | apply ite_keeps
    | refine snd_keeps (by assumption) ?_ | refine fst_keeps (by assumption) ?_ | split
theorem Dev.checkCh_keeps (c : Keeps P) (d x0 x1 x2) (h : P d) : P (Dev.checkCh d x0 x1 x2) := by
  unfold Dev.checkCh
  try dsimp only
  with_reducible repeat' first | assumption | apply Dev.chkFail_keeps c | apply Dev.setCh_keeps c | apply ite_keeps
theorem Dev.releaseRaw_keeps (c : Keeps P) (d) (h : P d) : P (Dev.releaseRaw d) := by
  unfold Dev.releaseRaw
  try dsimp only
  with_reducible repeat' first
    | assumption | apply Dev.setGroupUse_keeps c | (apply foldl_keeps; intro d x hd)
    | refine snd_keeps (by assumption) ?_ | refine fst_keeps (by assumption) ?_ | split
    | fail_if_no_progress refine Keeps.mk' c ?_ rfl rfl rfl rfl
theorem Dev.channelCheck_keeps (c : Keeps P) (d x0 x1) (h : P d) : P (Dev.channelCheck d x0 x1) := by
  unfold Dev.channelCheck
  try dsimp only
  with_reducible repeat' first
    | assumption | apply Dev.checkCh_keeps c | apply Dev.releaseRaw_keeps c | apply Dev.markChecked_keeps c
    | apply Dev.count_keeps c | (apply forGC_keeps; intro d g c' hd) | apply ite_keeps
theorem Dev.chargeMatch_keeps (c : Keeps P) (d x0 x1) (h : P d) : P (Dev.chargeMatch d x0 x1).2 := by
  unfold Dev.chargeMatch
  try dsimp only
  with_reducible repeat' first
    | assumption | apply Dev.freeNat_keeps c | apply ite_keeps | refine snd_keeps (by assumption) ?_
    | refine fst_keeps (by assumption) ?_ | split
theorem Dev.checkStops_keeps (c : Keeps P) (d) (h : P d) : P (Dev.checkStops d) := by
  unfold Dev.checkStops
  try dsimp only
  with_reducible repeat' first | assumption | apply Dev.checkStop_keeps c | (apply foldl_keeps; intro d x hd)
theorem Dev.chopperOn_keeps (c : Keeps P) (d x0 x1) (h : P d) : P (Dev.chopperOn d x0 x1) := by
  unfold Dev.chopperOn
  try dsimp only
  with_reducible repeat' first | assumption | apply Dev.coilPhase_keeps c | apply ite_keeps
theorem Dev.chopperTrip_keeps (c : Keeps P) (d x0 x1 x2) (h : P d) : P (Dev.chopperTrip d x0 x1 x2) := by
  unfold Dev.chopperTrip
  try dsimp only
  with_reducible repeat' first | assumption | apply Dev.coilPhase_keeps c | apply Dev.setF_keeps c | apply ite_keeps
theorem Dev.chpCfgWrite_keeps (c : Keeps P) (d x0 x1 x2) (h : P d) : P (Dev.chpCfgWrite d x0 x1 x2) := by
  unfold Dev.chpCfgWrite
  try dsimp only
  with_reducible repeat' first | assumption | apply Dev.accessErr_keeps c | apply Dev.plainWrite_keeps c | apply ite_keeps
theorem Dev.closeMeas_keeps (c : Keeps P) (d x0) (h : P d) : P (Dev.closeMeas d x0) := by
  unfold Dev.closeMeas
  try dsimp only
  with_reducible repeat' first | assumption | apply Dev.setMeas_keeps c | fail_if_no_progress refine Keeps.mk' c ?_ rfl rfl rfl rfl
theorem Dev.coilPeriod_keeps (c : Keeps P) (d x0 x1) (h : P d) : P (Dev.coilPeriod d x0 x1) := by
  unfold Dev.coilPeriod
  try dsimp only
  with_reducible repeat' first | assumption | apply Dev.flagIf_keeps c | apply Dev.setAx_keeps c
theorem Dev.sqRefresh_keeps (c : Keeps P) (d x0) (h : P d) : P (Dev.sqRefresh d x0) := by
  unfold Dev.sqRefresh
  try dsimp only
  with_reducible repeat' first | assumption | apply Dev.setF_keeps c | apply ite_keeps
theorem Dev.invalidOpcode_keeps (c : Keeps P) (d x0) (h : P d) : P (Dev.invalidOpcode d x0) := by
  unfold Dev.invalidOpcode
  try dsimp only
  with_reducible repeat' first | assumption | apply Dev.complete_keeps c
theorem Dev.tableLoad_keeps (c : Keeps P) (d x0 x1 x2 x3 x4) (h : P d) : P (Dev.tableLoad d x0 x1 x2 x3 x4) := by
  unfold Dev.tableLoad
  try dsimp only
  with_reducible repeat' first
    | assumption | apply Dev.startRun_keeps c | apply Dev.complete_keeps c | apply Dev.barFailed_keeps c
    | apply Dev.setF_keeps c | apply ite_keeps | fail_if_no_progress refine Keeps.mk' c ?_ rfl rfl rfl rfl
theorem Dev.holdsDone_keeps (c : Keeps P) (d) (h : P d) : P (Dev.holdsDone d) := by
  unfold Dev.holdsDone
  try dsimp only
  with_reducible repeat' first | assumption | apply Dev.finish_keeps c | (apply foldl_keeps; intro d x hd)
theorem Dev.holdCmd_keeps (c : Keeps P) (d x0 x1) (h : P d) : P (Dev.holdCmd d x0 x1) := by
  unfold Dev.holdCmd
  try dsimp only
  with_reducible repeat' first
    | assumption | apply Dev.startRun_keeps c | apply Dev.complete_keeps c | apply Dev.holdsDone_keeps c
    | apply Dev.stopAxes_keeps c | apply Dev.refFail_keeps c | (apply foldl_keeps; intro d x hd) | apply ite_keeps
theorem Dev.moveCoord_keeps (c : Keeps P) (d x0 x1 x2 x3 x4 x5) (h : P d) : P (Dev.moveCoord d x0 x1 x2 x3 x4 x5) := by
  unfold Dev.moveCoord
  try dsimp only
  with_reducible repeat' first
    | assumption | apply Dev.moveCmd_keeps c | apply Dev.complete_keeps c | apply ite_keeps
    | refine snd_keeps (by assumption) ?_ | refine fst_keeps (by assumption) ?_ | split
theorem Dev.hkcCalRun_keeps (c : Keeps P) (d x0 x1) (h : P d) : P (Dev.hkcCalRun d x0 x1) := by
  unfold Dev.hkcCalRun
  try dsimp only
  with_reducible repeat' first
    | assumption | apply Dev.hkcSelfcal_keeps c | apply Dev.flag_keeps c | apply Dev.complete_keeps c
    | apply Dev.setF_keeps c | apply ite_keeps
theorem Dev.flashProgram_keeps (c : KeepsFlash P) (d x0) (h : P d) : P (Dev.flashProgram d x0) := by
  unfold Dev.flashProgram
  try dsimp only
  with_reducible repeat' first | assumption | apply Dev.setFlash_keeps c | (apply foldl_keeps; intro d x hd)
theorem Dev.flashWrite_keeps (c : KeepsFlash P) (d x0 x1 x2 x3) (h : P d) : P (Dev.flashWrite d x0 x1 x2 x3).1 := by
  unfold Dev.flashWrite
  try dsimp only
  with_reducible repeat' first
    | assumption | apply Dev.flashErase_keeps c | apply Dev.flashProgram_keeps c | apply Dev.setFlash_keeps c
    | refine snd_keeps (by assumption) ?_ | refine fst_keeps (by assumption) ?_ | split
theorem Dev.writeFirmware_keeps (c : KeepsFlash P) (d x0 x1 x2 x3) (h : P d) : P (Dev.writeFirmware d x0 x1 x2 x3) := by
  unfold Dev.writeFirmware
  try dsimp only
  with_reducible repeat' first
    | assumption | apply Dev.flashWrite_keeps c | apply Dev.storeReport_keeps c.toKeeps
    | apply Dev.setF_keeps c.toKeeps | apply ite_keeps | refine snd_keeps (by assumption) ?_ | refine fst_keeps (by assumption) ?_ | split
theorem Dev.writeCalStore_keeps (c : KeepsFlash P) (d x0 x1 x2 x3) (h : P d) : P (Dev.writeCalStore d x0 x1 x2 x3) := by
  unfold Dev.writeCalStore
  try dsimp only
  with_reducible repeat' first
    | assumption | apply Dev.secRefresh_keeps c.toKeeps | apply Dev.flashWrite_keeps c
    | apply Dev.storeReport_keeps c.toKeeps | ((apply Dev.setSec_keeps c.toKeeps); on_goal 2 => with_unfolding_all rfl) | apply Dev.setF_keeps c.toKeeps
    | apply ite_keeps | refine snd_keeps (by assumption) ?_ | refine fst_keeps (by assumption) ?_ | split
theorem Dev.storeCmd_keeps (c : Keeps P) (d src a n f) (hf : ∀ d, P d → P (f d)) (h : P d) : P (Dev.storeCmd d src a n f) := by
  unfold Dev.storeCmd
  try dsimp only
  with_reducible repeat' first
    | assumption | apply hf | apply Dev.complete_keeps c | apply Dev.emit_keeps c | apply Dev.accessErr_keeps c
    | apply ite_keeps
theorem Dev.setOtp_keeps (c : KeepsOtp P) (d x0) (h : P d) : P (Dev.setOtp d x0) := c.otp _ _ h
theorem Dev.otpRequest_keeps (c : KeepsOtp P) (d x0 x1 x2 x3) (h : P d) : P (Dev.otpRequest d x0 x1 x2 x3) := by
  unfold Dev.otpRequest
  try dsimp only
  with_reducible repeat' first
    | assumption | apply Dev.secRefresh_keeps c.toKeeps | apply Dev.storeReport_keeps c.toKeeps
    | apply Dev.setF_keeps c.toKeeps | apply Dev.setOtp_keeps c | apply ite_keeps | refine snd_keeps (by assumption) ?_
    | refine fst_keeps (by assumption) ?_ | split
theorem Dev.storeWrite_keeps (c : KeepsAll P) (d x0 x1 x2 x3 x4) (h : P d) : P (Dev.storeWrite d x0 x1 x2 x3 x4) := by
  unfold Dev.storeWrite
  try dsimp only
  with_reducible repeat' first
    | assumption | apply Dev.writeFirmware_keeps c.toKeepsFlash | apply Dev.storeReport_keeps c.toKeeps
    | apply Dev.writeCalStore_keeps c.toKeepsFlash | ((apply Dev.storeCmd_keeps c.toKeeps); intro d hd) | apply Dev.otpRequest_keeps c.toKeepsOtp
    | apply ite_keeps
theorem Dev.shadingFull_keeps (c : Keeps P) (d x0) (h : P d) : P (Dev.shadingFull d x0) := by
  unfold Dev.shadingFull
  try dsimp only
  with_reducible repeat' first
    | assumption | apply Dev.calDark_keeps c | apply Dev.setCalUse_keeps c | apply Dev.calFail_keeps c
    | apply Dev.startRun_keeps c | apply Dev.complete_keeps c | apply Dev.setF_keeps c | apply Dev.setCal_keeps c | apply ite_keeps
    | refine snd_keeps (by assumption) ?_ | refine fst_keeps (by assumption) ?_ | split
    | fail_if_no_progress refine Keeps.mk' c ?_ rfl rfl rfl rfl
theorem Dev.nop_keeps (c : Keeps P) (d x0) (h : P d) : P (Dev.nop d x0) := by
  unfold Dev.nop
  try dsimp only
  with_reducible repeat' first | assumption | apply Dev.complete_keeps c | apply ite_keeps
theorem Dev.schedule_keeps (c : Keeps P) (d x0 x1 x2 x3 x4 x5 x6) (h : P d) : P (Dev.schedule d x0 x1 x2 x3 x4 x5 x6) := by
  unfold Dev.schedule
  try dsimp only
  with_reducible repeat' first
    | assumption | apply Dev.startRun_keeps c | apply Dev.complete_keeps c | apply ite_keeps
    | fail_if_no_progress refine Keeps.mk' c ?_ rfl rfl rfl rfl
theorem Dev.runCommand_keeps (c : KeepsAll P) (d x0 x1 x2 x3) (h : P d) : P (Dev.runCommand d x0 x1 x2 x3) := by
  unfold Dev.runCommand
  try dsimp only
  with_reducible repeat' first
    | assumption | apply Dev.tableLoad_keeps c.toKeeps | apply Dev.afeFull_keeps c.toKeeps
    | apply Dev.ctxStop_keeps c.toKeeps | apply Dev.resumeCmd_keeps c.toKeeps | apply Dev.abortCmd_keeps c.toKeeps
    | apply Dev.holdCmd_keeps c.toKeeps | apply Dev.ctxStart_keeps c.toKeeps | apply Dev.moveCoord_keeps c.toKeeps
    | apply Dev.bufferPost_keeps c.toKeeps | apply Dev.hkcCalRun_keeps c.toKeeps | apply Dev.moveOne_keeps c.toKeeps
    | apply Dev.complete_keeps c.toKeeps | apply Dev.storeWrite_keeps c | apply Dev.shadingFull_keeps c.toKeeps
    | apply Dev.attestCmd_keeps c.toKeeps | apply Dev.boundaryPost_keeps c.toKeeps | apply Dev.nop_keeps c.toKeeps
    | apply Dev.schedule_keeps c.toKeeps | apply ite_keeps
theorem Dev.startEntry_keeps (c : KeepsAll P) (d x0 x1 x2) (h : P d) : P (Dev.startEntry d x0 x1 x2) := by
  unfold Dev.startEntry
  try dsimp only
  with_reducible repeat' first
    | assumption | apply Dev.invalidOpcode_keeps c.toKeeps | apply Dev.runCommand_keeps c
    | apply Dev.complete_keeps c.toKeeps | apply ite_keeps | refine snd_keeps (by assumption) ?_ | refine fst_keeps (by assumption) ?_
    | split
theorem Dev.commandStart_keeps (c : KeepsAll P) (d x0) (h : P d) : P (Dev.commandStart d x0) := by
  unfold Dev.commandStart
  try dsimp only
  with_reducible repeat' first
    | assumption | apply Dev.sqRefresh_keeps c.toKeeps | apply Dev.startEntry_keeps c
    | apply Dev.setSq_keeps c.toKeeps | apply Dev.setF_keeps c.toKeeps | apply ite_keeps | refine snd_keeps (by assumption) ?_
    | refine fst_keeps (by assumption) ?_ | split | fail_if_no_progress refine Keeps.mk' c.toKeeps ?_ rfl rfl rfl rfl
theorem Dev.squeezeTrim_keeps (c : Keeps P) (d x0 x1 x2 x3 x4 x5) (h : P d) : P (Dev.squeezeTrim d x0 x1 x2 x3 x4 x5) := by
  unfold Dev.squeezeTrim
  try dsimp only
  with_reducible repeat' first
    | assumption | apply Dev.flag_keeps c | apply Dev.flagIf_keeps c | apply Dev.writeTrim_keeps c
    | apply ite_keeps | refine snd_keeps (by assumption) ?_ | refine fst_keeps (by assumption) ?_ | split
theorem Dev.commitPoint_keeps (c : Keeps P) (d x0 x1) (h : P d) : P (Dev.commitPoint d x0 x1) := by
  unfold Dev.commitPoint
  try dsimp only
  with_reducible repeat' first
    | assumption | apply Dev.refVerdict_keeps c | apply Dev.setChkRef_keeps c | apply Dev.setGrp_keeps c
    | apply Dev.squeezeTrim_keeps c | apply ite_keeps | refine snd_keeps (by assumption) ?_ | refine fst_keeps (by assumption) ?_ | split
theorem Dev.commitRefs_keeps (c : Keeps P) (d x0 x1 x2 x3) (h : P d) : P (Dev.commitRefs d x0 x1 x2 x3) := by
  unfold Dev.commitRefs
  try dsimp only
  with_reducible repeat' first
    | assumption | apply Dev.freeNat_keeps c | apply Dev.setMem_keeps c | refine snd_keeps (by assumption) ?_
    | refine fst_keeps (by assumption) ?_ | split
theorem Dev.commitWords_keeps (c : Keeps P) (d x0 x1 x2 x3 x4) (h : P d) : P (Dev.commitWords d x0 x1 x2 x3 x4) := by
  unfold Dev.commitWords
  try dsimp only
  with_reducible repeat' first
    | assumption | apply Dev.freeNat_keeps c | apply Dev.setMem_keeps c | (apply foldl_keeps; intro d x hd)
    | (apply foldl_fst_keeps; intro d x hd) | (apply foldl_snd_keeps; intro d x hd) | apply ite_keeps
    | refine snd_keeps (by assumption) ?_ | refine fst_keeps (by assumption) ?_ | split
theorem Dev.commitSet_keeps (c : Keeps P) (d x0 x1) (h : P d) : P (Dev.commitSet d x0 x1) := by
  unfold Dev.commitSet
  try dsimp only
  with_reducible repeat' first
    | assumption | apply Dev.commitWords_keeps c | apply Dev.putValid_keeps c | apply Dev.commitRefs_keeps c
    | apply Dev.setMem_keeps c | (apply foldl_keeps; intro d x hd)
theorem Dev.setRb_keeps (c : Keeps P) (d x0 x1) (h : P d) : P (Dev.setRb d x0 x1) := by
  unfold Dev.setRb
  try dsimp only
  with_reducible repeat' first | assumption | apply Dev.setF_keeps c
theorem Dev.compareEnd_keeps (c : Keeps P) (d x0 x1) (h : P d) : P (Dev.compareEnd d x0 x1) := by
  unfold Dev.compareEnd
  try dsimp only
  with_reducible repeat' first
    | assumption | apply Dev.setRb_keeps c | apply Dev.flag_keeps c | apply Dev.disconnect_keeps c
    | apply Dev.setGrp_keeps c | apply Dev.setF_keeps c | apply ite_keeps | refine snd_keeps (by assumption) ?_
    | refine fst_keeps (by assumption) ?_ | split
theorem Dev.completionWrite_keeps (c : Keeps P) (d x0) (h : P d) : P (Dev.completionWrite d x0) := by
  unfold Dev.completionWrite
  try dsimp only
  with_reducible repeat' first
    | assumption | apply Dev.setCq_keeps c | apply Dev.cqWrite_keeps c | apply ite_keeps
    | refine snd_keeps (by assumption) ?_ | refine fst_keeps (by assumption) ?_ | split
theorem Dev.cprWrite_keeps (c : Keeps P) (d x0 x1) (h : P d) : P (Dev.cprWrite d x0 x1) := by
  unfold Dev.cprWrite
  try dsimp only
  with_reducible repeat' first
    | assumption | apply Dev.accessErr_keeps c | apply Dev.plainWrite_keeps c | apply Dev.discarded_keeps c
    | apply ite_keeps
theorem Dev.cqCfgWrite_keeps (c : Keeps P) (d x0 x1 x2) (h : P d) : P (Dev.cqCfgWrite d x0 x1 x2) := by
  unfold Dev.cqCfgWrite
  try dsimp only
  with_reducible repeat' first
    | assumption | apply Dev.setReg_keeps c | apply Dev.setCq_keeps c | apply Dev.setF_keeps c
    | refine Dev.cfgRefused_keeps c (by assumption) ?_ | apply ite_keeps | refine snd_keeps (by assumption) ?_
    | refine fst_keeps (by assumption) ?_ | split
theorem Dev.doorbellRefused_keeps (c : Keeps P) (d x0 x1 x2) (h : P d) : P (Dev.doorbellRefused d x0 x1 x2) := by
  unfold Dev.doorbellRefused
  try dsimp only
  with_reducible repeat' first | assumption | apply Dev.accessErr_keeps c | apply ite_keeps
theorem Dev.cqDoorbell_keeps (c : Keeps P) (d x0 x1 x2) (h : P d) : P (Dev.cqDoorbell d x0 x1 x2) := by
  unfold Dev.cqDoorbell
  try dsimp only
  with_reducible repeat' first
    | assumption | apply Dev.setCq_keeps c | apply Dev.doorbellRefused_keeps c | apply Dev.setF_keeps c
    | apply Dev.irq_keeps c | apply ite_keeps
theorem Dev.crnCtrlWrite_keeps (c : Keeps P) (d x0) (h : P d) : P (Dev.crnCtrlWrite d x0) := by
  unfold Dev.crnCtrlWrite
  try dsimp only
  with_reducible repeat' first
    | assumption | apply Dev.plainWrite_keeps c | apply Dev.cairnCopy_keeps c | apply Dev.cairnSetGo_keeps c
    | apply ite_keeps
theorem Dev.cycleStart_keeps (c : Keeps P) (d x0) (h : P d) : P (Dev.cycleStart d x0) := by
  unfold Dev.cycleStart
  try dsimp only
  with_reducible repeat' first | assumption | apply Dev.setGrp_keeps c | apply ite_keeps
theorem Dev.pbaSend_keeps (c : Keeps P) (d x0) (h : P d) : P (Dev.pbaSend d x0) := by
  unfold Dev.pbaSend
  try dsimp only
  with_reducible repeat' first
    | assumption | apply Dev.sendMsi_keeps c | apply ite_keeps
    | fail_if_no_progress refine Keeps.mk' c ?_ rfl rfl rfl rfl
theorem Dev.d0_keeps (c : Keeps P) (d) (h : P d) : P (Dev.d0 d) := by
  unfold Dev.d0
  try dsimp only
  with_reducible repeat' first
    | assumption | apply Dev.pbaSend_keeps c | (apply foldl_keeps; intro d x hd)
    | fail_if_no_progress refine Keeps.mk' c ?_ rfl rfl rfl rfl
theorem Dev.d3Aborts_keeps (c : Keeps P) (d) (h : P d) : P (Dev.d3Aborts d) := by
  unfold Dev.d3Aborts
  try dsimp only
  with_reducible repeat' first
    | assumption | apply Dev.abortRun_keeps c | (apply foldl_keeps; intro d x hd)
    | (apply foldl_fst_keeps; intro d x hd) | (apply foldl_snd_keeps; intro d x hd) | refine snd_keeps (by assumption) ?_
    | refine fst_keeps (by assumption) ?_ | split
theorem Dev.d3hot_keeps (c : Keeps P) (d) (h : P d) : P (Dev.d3hot d) := by
  unfold Dev.d3hot
  try dsimp only
  with_reducible repeat' first
    | assumption | apply Dev.acceptMode_keeps c | apply Dev.d3Aborts_keeps c | apply Dev.setF_keeps c
    | apply ite_keeps | fail_if_no_progress refine Keeps.mk' c ?_ rfl rfl rfl rfl
theorem Dev.lockNow_keeps (c : Keeps P) (d) (h : P d) : P (Dev.lockNow d) := by
  unfold Dev.lockNow
  try dsimp only
  with_reducible repeat' first | assumption | apply Dev.secRefresh_keeps c | (apply Dev.setSec_keeps c; on_goal 2 => with_unfolding_all rfl)
theorem Dev.respGo_keeps (c : Keeps P) (d) (h : P d) : P (Dev.respGo d) := by
  unfold Dev.respGo
  try dsimp only
  with_reducible repeat' first
    | assumption | apply Dev.secRefresh_keeps c | apply Dev.setChallenge_keeps c
    | (apply Dev.setSec_keeps c; on_goal 2 => with_unfolding_all rfl) | apply Dev.setF_keeps c | apply ite_keeps | refine snd_keeps (by assumption) ?_
    | refine fst_keeps (by assumption) ?_ | split
theorem Dev.dbgCtrlWrite_keeps (c : Keeps P) (d x0) (h : P d) : P (Dev.dbgCtrlWrite d x0) := by
  unfold Dev.dbgCtrlWrite
  try dsimp only
  with_reducible repeat' first
    | assumption | apply Dev.lockNow_keeps c | apply Dev.respGo_keeps c | apply Dev.chalReq_keeps c
    | apply ite_keeps
theorem Dev.dropRecord_keeps (c : Keeps P) (d x0) (h : P d) : P (Dev.dropRecord d x0) := by
  unfold Dev.dropRecord
  try dsimp only
  with_reducible repeat' first | assumption | apply Dev.setCtx_keeps c
theorem Dev.deliverTo_keeps (c : Keeps P) (d x0 x1 x2 x3 x4) (h : P d) : P (Dev.deliverTo d x0 x1 x2 x3 x4) := by
  unfold Dev.deliverTo
  try dsimp only
  with_reducible repeat' first | assumption | apply Dev.addRecord_keeps c | apply Dev.dropRecord_keeps c | apply ite_keeps
theorem Dev.deliver_keeps (c : Keeps P) (d x0 x1 x2 x3) (h : P d) : P (Dev.deliver d x0 x1 x2 x3) := by
  unfold Dev.deliver
  try dsimp only
  with_reducible repeat' first | assumption | apply Dev.deliverTo_keeps c | (apply foldl_keeps; intro d x hd)
theorem Dev.measureBase_keeps (c : Keeps P) (d x0 x1) (h : P d) : P (Dev.measureBase d x0 x1) := by
  unfold Dev.measureBase
  try dsimp only
  with_reducible repeat' first
    | assumption | apply Dev.stepSlots_keeps c | apply Dev.setFI_keeps c | apply Dev.setDisc_keeps c
    | apply Dev.setF_keeps c | apply ite_keeps
theorem Dev.gotFollow_keeps (c : Keeps P) (d x0) (h : P d) : P (Dev.gotFollow d x0) := by
  unfold Dev.gotFollow
  try dsimp only
  with_reducible repeat' first | assumption | apply Dev.measureBase_keeps c | apply ite_keeps
theorem Dev.enterSurvey_keeps (c : Keeps P) (d x0 x1 x2 x3) (h : P d) : P (Dev.enterSurvey d x0 x1 x2 x3) := by
  unfold Dev.enterSurvey
  try dsimp only
  with_reducible repeat' first | assumption | apply Dev.dropEntry_keeps c | apply Dev.queueEntry_keeps c | apply ite_keeps
theorem Dev.gotResult_keeps (c : Keeps P) (d x0) (h : P d) : P (Dev.gotResult d x0) := by
  unfold Dev.gotResult
  try dsimp only
  with_reducible repeat' first | assumption | apply Dev.enterStrata_keeps c | apply Dev.enterSurvey_keeps c | apply ite_keeps
theorem Dev.gotRefEdge_keeps (c : Keeps P) (d x0) (h : P d) : P (Dev.gotRefEdge d x0) := by
  unfold Dev.gotRefEdge
  try dsimp only
  with_reducible repeat' first
    | assumption | apply Dev.redefine_keeps c | apply Dev.flag_keeps c | apply ite_keeps
    | refine snd_keeps (by assumption) ?_ | refine fst_keeps (by assumption) ?_ | split
theorem Dev.setTet_keeps (c : Keeps P) (d x0) (h : P d) : P (Dev.setTet d x0) := by
  unfold Dev.setTet
  try dsimp only
  with_reducible repeat' first | assumption | fail_if_no_progress refine Keeps.mk' c ?_ rfl rfl rfl rfl
theorem Dev.masterConflict_keeps (c : Keeps P) (d) (h : P d) : P (Dev.masterConflict d) := by
  unfold Dev.masterConflict
  try dsimp only
  with_reducible repeat' first | assumption | apply Dev.flag_keeps c | apply Dev.setTet_keeps c | apply Dev.stopAxes_keeps c
theorem Dev.gotGovernor_keeps (c : Keeps P) (d x0) (h : P d) : P (Dev.gotGovernor d x0) := by
  unfold Dev.gotGovernor
  try dsimp only
  with_reducible repeat' first
    | assumption | apply Dev.flagIf_keeps c | apply Dev.setTet_keeps c | apply Dev.setB_keeps c
    | apply Dev.masterConflict_keeps c | apply ite_keeps
theorem Dev.netRole_keeps (c : Keeps P) (d x0) (h : P d) : P (Dev.netRole d x0) := by
  unfold Dev.netRole
  try dsimp only
  with_reducible repeat' first | assumption | apply Dev.setDisc_keeps c | apply Dev.setF_keeps c | apply ite_keeps
theorem Dev.setTimingMaster_keeps (c : Keeps P) (d x0) (h : P d) : P (Dev.setTimingMaster d x0) := by
  unfold Dev.setTimingMaster
  try dsimp only
  with_reducible repeat' first | assumption | apply Dev.netRole_keeps c | apply Dev.setB_keeps c
theorem Dev.gotSync_keeps (c : Keeps P) (d x0 x1 x2) (h : P d) : P (Dev.gotSync d x0 x1 x2) := by
  unfold Dev.gotSync
  try dsimp only
  with_reducible repeat' first
    | assumption | apply Dev.setTet_keeps c | apply Dev.setTimingMaster_keeps c | apply Dev.setF_keeps c
    | apply ite_keeps
theorem Dev.deliverFrame_keeps (c : Keeps P) (d x0 x1 x2) (h : P d) : P (Dev.deliverFrame d x0 x1 x2) := by
  unfold Dev.deliverFrame
  try dsimp only
  with_reducible repeat' first
    | assumption | apply Dev.gotFollow_keeps c | apply Dev.gotResult_keeps c | apply Dev.gotRefEdge_keeps c
    | apply Dev.gotGovernor_keeps c | apply Dev.gotSync_keeps c | apply ite_keeps | refine snd_keeps (by assumption) ?_
    | refine fst_keeps (by assumption) ?_ | split
theorem Dev.setI2c_keeps (c : Keeps P) (d x0 x1) (h : P d) : P (Dev.setI2c d x0 x1) := by
  unfold Dev.setI2c
  try dsimp only
  with_reducible repeat' first | assumption | apply Dev.setF_keeps c | fail_if_no_progress refine Keeps.mk' c ?_ rfl rfl rfl rfl
theorem Dev.i2cSettle_keeps (c : Keeps P) (d x0) (h : P d) : P (Dev.i2cSettle d x0) := by
  unfold Dev.i2cSettle
  try dsimp only
  with_reducible repeat' first | assumption | apply Dev.setI2c_keeps c
theorem Dev.i2cPop_keeps (c : Keeps P) (d x0 x1) (h : P d) : P (Dev.i2cPop d x0 x1).2 := by
  unfold Dev.i2cPop
  try dsimp only
  with_reducible repeat' first
    | assumption | apply Dev.accessErr_keeps c | apply Dev.i2cSettle_keeps c | apply Dev.setI2c_keeps c
    | apply ite_keeps | split
theorem Dev.setHkc_keeps (c : Keeps P) (d x0 x1) (h : P d) : P (Dev.setHkc d x0 x1) := by
  unfold Dev.setHkc
  try dsimp only
  with_reducible repeat' first | assumption | fail_if_no_progress refine Keeps.mk' c ?_ rfl rfl rfl rfl
theorem Dev.setFifo_keeps (c : Keeps P) (d x0 x1) (h : P d) : P (Dev.setFifo d x0 x1) := by
  unfold Dev.setFifo
  try dsimp only
  with_reducible repeat' first | assumption | apply Dev.setHkc_keeps c | apply Dev.setF_keeps c
theorem Dev.hkcPop_keeps (c : Keeps P) (d x0 x1 x2) (h : P d) : P (Dev.hkcPop d x0 x1 x2).2 := by
  unfold Dev.hkcPop
  try dsimp only
  with_reducible repeat' first
    | assumption | apply Dev.accessErr_keeps c | apply Dev.setFifo_keeps c
    | refine snd_keeps (by assumption) ?_ | refine fst_keeps (by assumption) ?_ | split
theorem Dev.readWindow_keeps (c : Keeps P) (d x0 x1) (h : P d) : P (Dev.readWindow d x0 x1).2 := by
  unfold Dev.readWindow
  try dsimp only
  with_reducible repeat' first
    | assumption | apply Dev.noTarget_keeps c | apply Dev.i2cPop_keeps c | apply Dev.hkcPop_keeps c
    | refine snd_keeps (by assumption) ?_ | refine fst_keeps (by assumption) ?_ | split
theorem Dev.setShadow_keeps (c : Keeps P) (d x0 x1 x2) (h : P d) : P (Dev.setShadow d x0 x1 x2) := by
  unfold Dev.setShadow
  try dsimp only
  with_reducible repeat' first | assumption | fail_if_no_progress refine Keeps.mk' c ?_ rfl rfl rfl rfl
theorem Dev.readReg_keeps (c : Keeps P) (d x0 x1 x2) (h : P d) : P (Dev.readReg d x0 x1 x2).2 := by
  unfold Dev.readReg
  try dsimp only
  with_reducible repeat' first
    | assumption | apply Dev.setReg_keeps c | apply Dev.sumpNote_keeps c | apply Dev.setShadow_keeps c
    | (apply foldl_keeps; intro d x hd) | (apply foldl_fst_keeps; intro d x hd) | (apply foldl_snd_keeps; intro d x hd) | apply ite_keeps
    | split
theorem Dev.readWord_keeps (c : Keeps P) (d x0 x1) (h : P d) : P (Dev.readWord d x0 x1).2 := by
  unfold Dev.readWord
  try dsimp only
  with_reducible repeat' first
    | assumption | apply Dev.readWindow_keeps c | apply Dev.readReg_keeps c | apply ite_keeps
    | refine snd_keeps (by assumption) ?_ | refine fst_keeps (by assumption) ?_ | split
theorem Dev.devRead_keeps (c : Keeps P) (d x0 x1) (h : P d) : P (Dev.devRead d x0 x1).2 := by
  unfold Dev.devRead
  try dsimp only
  with_reducible repeat' first
    | assumption | apply Dev.readWord_keeps c | apply ite_keeps | split
    | fail_if_no_progress refine Keeps.mk' c ?_ rfl rfl rfl rfl
theorem Dev.devReads_keeps (c : Keeps P) (d ch a n x) (h : P d) : P (Dev.devReads d ch a n x).2 := by
  induction n generalizing d a x with
  | zero => exact h
  | succ k ih =>
    have h' := Dev.devRead_keeps c d ch a h
    unfold Dev.devReads
    split <;> rename_i heq <;> rw [heq] at h'
    · exact ih _ _ _ h'
    · exact h'
theorem Dev.i2cPush_keeps (c : Keeps P) (d x0 x1 x2) (h : P d) : P (Dev.i2cPush d x0 x1 x2) := by
  unfold Dev.i2cPush
  try dsimp only
  with_reducible repeat' first
    | assumption | apply Dev.accessErr_keeps c | apply Dev.i2cSettle_keeps c | apply Dev.setI2c_keeps c
    | apply ite_keeps
theorem Dev.writeWindow_keeps (c : Keeps P) (d x0 x1 x2 x3) (h : P d) : P (Dev.writeWindow d x0 x1 x2 x3) := by
  unfold Dev.writeWindow
  try dsimp only
  with_reducible repeat' first
    | assumption | apply Dev.accessErr_keeps c | apply Dev.binWrite_keeps c | apply Dev.setMem_keeps c
    | apply Dev.noTarget_keeps c | apply Dev.i2cPush_keeps c | apply ite_keeps | refine snd_keeps (by assumption) ?_
    | refine fst_keeps (by assumption) ?_ | split
theorem Dev.sqCfgWrite_keeps (c : Keeps P) (d x0 x1 x2) (h : P d) : P (Dev.sqCfgWrite d x0 x1 x2) := by
  unfold Dev.sqCfgWrite
  try dsimp only
  with_reducible repeat' first
    | assumption | apply Dev.setReg_keeps c | apply Dev.sqEmpty_keeps c | apply Dev.setSq_keeps c
    | apply Dev.setF_keeps c | refine Dev.cfgRefused_keeps c (by assumption) ?_ | apply ite_keeps | refine snd_keeps (by assumption) ?_
    | refine fst_keeps (by assumption) ?_ | split
theorem Dev.supplyCfg_keeps (c : Keeps P) (d x0 x1 x2) (h : P d) : P (Dev.supplyCfg d x0 x1 x2) := by
  unfold Dev.supplyCfg
  try dsimp only
  with_reducible repeat' first
    | assumption | apply Dev.accessErr_keeps c | apply Dev.setReg_keeps c | apply Dev.setSupply_keeps c
    | apply ite_keeps
theorem Dev.registerAbort_keeps (c : Keeps P) (d x0 x1) (h : P d) : P (Dev.registerAbort d x0 x1) := by
  unfold Dev.registerAbort
  try dsimp only
  with_reducible repeat' first
    | assumption | apply Dev.accessErr_keeps c | apply Dev.abort_keeps c | apply Dev.setF_keeps c
    | apply Dev.irq_keeps c | apply ite_keeps | split
theorem Dev.writeRings_keeps (c : Keeps P) (d x0 x1 x2 x3 x4) (h : P d) : P (Dev.writeRings d x0 x1 x2 x3 x4) := by
  unfold Dev.writeRings
  try dsimp only
  with_reducible repeat' first
    | assumption | apply Dev.sqCfgWrite_keeps c | apply Dev.supplyCfg_keeps c | apply Dev.plainWrite_keeps c
    | apply Dev.registerAbort_keeps c | apply Dev.baseWrite_keeps c | apply Dev.cqCfgWrite_keeps c | apply ite_keeps
theorem Dev.spareEnChanged_keeps (c : Keeps P) (d x0) (h : P d) : P (Dev.spareEnChanged d x0) := by
  unfold Dev.spareEnChanged
  try dsimp only
  with_reducible repeat' first
    | assumption | apply Dev.powerCh_keeps c | apply Dev.setF_keeps c | (apply foldl_keeps; intro d x hd)
    | apply ite_keeps
theorem Dev.switchWrite_keeps (c : Keeps P) (d x0 x1) (h : P d) : P (Dev.switchWrite d x0 x1) := by
  unfold Dev.switchWrite
  try dsimp only
  with_reducible repeat' first | assumption | apply Dev.plainWrite_keeps c | apply Dev.spareEnChanged_keeps c | apply ite_keeps
theorem Dev.serviceGo_keeps (c : Keeps P) (d x0 x1) (h : P d) : P (Dev.serviceGo d x0 x1) := by
  unfold Dev.serviceGo
  try dsimp only
  with_reducible repeat' first
    | assumption | apply Dev.setCh_keeps c | apply Dev.connect_keeps c | apply Dev.setF_keeps c
    | apply ite_keeps
theorem Dev.refCfgWrite_keeps (c : Keeps P) (d x0 x1) (h : P d) : P (Dev.refCfgWrite d x0 x1) := by
  unfold Dev.refCfgWrite
  try dsimp only
  with_reducible repeat' first | assumption | apply Dev.accessErr_keeps c | apply Dev.plainWrite_keeps c | apply ite_keeps
theorem Dev.retireCancel_keeps (c : Keeps P) (d x0 x1) (h : P d) : P (Dev.retireCancel d x0 x1) := by
  unfold Dev.retireCancel
  try dsimp only
  with_reducible repeat' first | assumption | apply Dev.setF_keeps c
theorem Dev.retireReq_keeps (c : Keeps P) (d x0 x1 x2) (h : P d) : P (Dev.retireReq d x0 x1 x2) := by
  unfold Dev.retireReq
  try dsimp only
  with_reducible repeat' first | assumption | apply Dev.accessErr_keeps c | apply Dev.setF_keeps c | apply ite_keeps
theorem Dev.wearWrite_keeps (c : Keeps P) (d x0 x1 x2 x3) (h : P d) : P (Dev.wearWrite d x0 x1 x2 x3) := by
  unfold Dev.wearWrite
  try dsimp only
  with_reducible repeat' first
    | assumption | apply Dev.plainWrite_keeps c | apply Dev.retireCancel_keeps c | apply Dev.retireReq_keeps c
    | apply ite_keeps
theorem Dev.trimWrite_keeps (c : Keeps P) (d x0 x1 x2 x3) (h : P d) : P (Dev.trimWrite d x0 x1 x2 x3) := by
  unfold Dev.trimWrite
  try dsimp only
  with_reducible repeat' first
    | assumption | apply Dev.setReg_keeps c | apply Dev.discardPair_keeps c | apply Dev.flag_keeps c
    | apply Dev.setGrp_keeps c | apply ite_keeps | refine snd_keeps (by assumption) ?_ | refine fst_keeps (by assumption) ?_ | split
theorem Dev.injGo_keeps (c : Keeps P) (d x0 x1 x2) (h : P d) : P (Dev.injGo d x0 x1 x2) := by
  unfold Dev.injGo
  try dsimp only
  with_reducible repeat' first
    | assumption | apply Dev.accessErr_keeps c | apply Dev.setGrp_keeps c | apply Dev.setF_keeps c
    | apply ite_keeps
theorem Dev.writeAfe_keeps (c : Keeps P) (d x0 x1 x2 x3 x4 x5 x6) (h : P d) : P (Dev.writeAfe d x0 x1 x2 x3 x4 x5 x6) := by
  unfold Dev.writeAfe
  try dsimp only
  with_reducible repeat' first
    | assumption | apply Dev.switchWrite_keeps c | apply Dev.plainWrite_keeps c | apply Dev.serviceGo_keeps c
    | apply Dev.refCfgWrite_keeps c | apply Dev.wearWrite_keeps c | apply Dev.trimWrite_keeps c | apply Dev.chRangeWrite_keeps c
    | apply Dev.chCtrlWrite_keeps c | apply Dev.injGo_keeps c | apply ite_keeps
theorem Dev.startReset_keeps (c : Keeps P) (d x0) (h : P d) : P (Dev.startReset d x0) := by
  unfold Dev.startReset
  try dsimp only
  with_reducible repeat' first
    | assumption | apply Dev.setPower_keeps c | apply Dev.flag_keeps c | apply Dev.disarm_keeps c
    | apply Dev.applyReset_keeps c | apply Dev.stopAxes_keeps c | (apply foldl_keeps; intro d x hd) | apply ite_keeps
    | refine snd_keeps (by assumption) ?_ | refine fst_keeps (by assumption) ?_ | split
    | fail_if_no_progress refine Keeps.mk' c ?_ rfl rfl rfl rfl
theorem Dev.resetCtrl_keeps (c : Keeps P) (d x0 x1) (h : P d) : P (Dev.resetCtrl d x0 x1) := by
  unfold Dev.resetCtrl
  try dsimp only
  with_reducible repeat' first | assumption | apply Dev.accessErr_keeps c | apply Dev.startReset_keeps c | apply ite_keeps
theorem Dev.intEnableWrite_keeps (c : Keeps P) (d x0) (h : P d) : P (Dev.intEnableWrite d x0) := by
  unfold Dev.intEnableWrite
  try dsimp only
  with_reducible repeat' first | assumption | apply Dev.plainWrite_keeps c | apply Dev.errVec_keeps c | apply ite_keeps
theorem Dev.intStatusWrite_keeps (c : Keeps P) (d x0) (h : P d) : P (Dev.intStatusWrite d x0) := by
  unfold Dev.intStatusWrite
  try dsimp only
  with_reducible repeat' first | assumption | apply Dev.plainWrite_keeps c | apply Dev.errVec_keeps c | apply ite_keeps
theorem Dev.modeReq_keeps (c : Keeps P) (d x0 x1) (h : P d) : P (Dev.modeReq d x0 x1) := by
  unfold Dev.modeReq
  try dsimp only
  with_reducible repeat' first
    | assumption | apply Dev.acceptMode_keeps c | apply Dev.accessErr_keeps c | apply Dev.setF_keeps c
    | apply ite_keeps | refine snd_keeps (by assumption) ?_ | refine fst_keeps (by assumption) ?_ | split
theorem Dev.writeTop_keeps (c : Keeps P) (d x0 x1 x2) (h : P d) : P (Dev.writeTop d x0 x1 x2) := by
  unfold Dev.writeTop
  try dsimp only
  with_reducible repeat' first
    | assumption | apply Dev.resetCtrl_keeps c | apply Dev.plainWrite_keeps c
    | apply Dev.intEnableWrite_keeps c | apply Dev.intStatusWrite_keeps c | apply Dev.dbgCtrlWrite_keeps c | apply Dev.modeReq_keeps c
    | apply ite_keeps
theorem Dev.timCfgWrite_keeps (c : Keeps P) (d x0 x1) (h : P d) : P (Dev.timCfgWrite d x0 x1) := by
  unfold Dev.timCfgWrite
  try dsimp only
  with_reducible repeat' first
    | assumption | apply Dev.accessErr_keeps c | apply Dev.netRole_keeps c | apply Dev.plainWrite_keeps c
    | apply Dev.setF_keeps c | apply ite_keeps
theorem Dev.setPort_keeps (c : Keeps P) (d x0 x1) (h : P d) : P (Dev.setPort d x0 x1) := by
  unfold Dev.setPort
  try dsimp only
  with_reducible repeat' first | assumption | fail_if_no_progress refine Keeps.mk' c ?_ rfl rfl rfl rfl
theorem Dev.tetCfgWrite_keeps (c : Keeps P) (d x0) (h : P d) : P (Dev.tetCfgWrite d x0) := by
  unfold Dev.tetCfgWrite
  try dsimp only
  with_reducible repeat' first
    | assumption | apply Dev.plainWrite_keeps c | apply Dev.setPort_keeps c | apply Dev.setF_keeps c
    | (apply foldl_keeps; intro d x hd) | apply ite_keeps | fail_if_no_progress refine Keeps.mk' c ?_ rfl rfl rfl rfl
theorem Dev.trimHiWrite_keeps (c : Keeps P) (d x0 x1) (h : P d) : P (Dev.trimHiWrite d x0 x1) := by
  unfold Dev.trimHiWrite
  try dsimp only
  with_reducible repeat' first
    | assumption | apply Dev.accessErr_keeps c | apply Dev.setReg_keeps c | apply ite_keeps
    | fail_if_no_progress refine Keeps.mk' c ?_ rfl rfl rfl rfl
theorem Dev.writeTime_keeps (c : Keeps P) (d x0 x1 x2 x3 x4) (h : P d) : P (Dev.writeTime d x0 x1 x2 x3 x4) := by
  unfold Dev.writeTime
  try dsimp only
  with_reducible repeat' first
    | assumption | apply Dev.setReg_keeps c | apply Dev.plainWrite_keeps c | apply Dev.timCfgWrite_keeps c
    | apply Dev.baseCtrlWrite_keeps c | apply Dev.tetCfgWrite_keeps c | apply Dev.crnCtrlWrite_keeps c | apply Dev.trimHiWrite_keeps c
    | apply ite_keeps
theorem Dev.rangeWrite_keeps (c : Keeps P) (d x0 x1 x2 x3 x4) (h : P d) : P (Dev.rangeWrite d x0 x1 x2 x3 x4) := by
  unfold Dev.rangeWrite
  try dsimp only
  with_reducible repeat' first | assumption | apply Dev.accessErr_keeps c | apply Dev.plainWrite_keeps c | apply ite_keeps
theorem Dev.unlessArmed_keeps (c : Keeps P) (d rq a f) (hf : ∀ d, P d → P (f d)) (h : P d) : P (Dev.unlessArmed d rq a f) := by
  unfold Dev.unlessArmed
  try dsimp only
  with_reducible repeat' first
    | assumption | apply hf | apply Dev.complete_keeps c | apply Dev.emit_keeps c | apply Dev.accessErr_keeps c
    | apply ite_keeps
theorem Dev.surCtrlWrite_keeps (c : Keeps P) (d x0 x1) (h : P d) : P (Dev.surCtrlWrite d x0 x1) := by
  unfold Dev.surCtrlWrite
  try dsimp only
  with_reducible repeat' first
    | assumption | apply Dev.accessErr_keeps c | apply Dev.setReg_keeps c | apply Dev.plainWrite_keeps c
    | apply ite_keeps
theorem Dev.signedWrite_keeps (c : Keeps P) (d x0 x1 x2 x3) (h : P d) : P (Dev.signedWrite d x0 x1 x2 x3) := by
  unfold Dev.signedWrite
  try dsimp only
  with_reducible repeat' first | assumption | apply Dev.accessErr_keeps c | apply Dev.plainWrite_keeps c | apply ite_keeps
theorem Dev.strataStop_keeps (c : Keeps P) (d) (h : P d) : P (Dev.strataStop d) := by
  unfold Dev.strataStop
  try dsimp only
  with_reducible repeat' first
    | assumption | apply Dev.strataDiscard_keeps c | apply Dev.flag_keeps c
    | fail_if_no_progress refine Keeps.mk' c ?_ rfl rfl rfl rfl
theorem Dev.strCtrlWrite_keeps (c : Keeps P) (d x0 x1) (h : P d) : P (Dev.strCtrlWrite d x0 x1) := by
  unfold Dev.strCtrlWrite
  try dsimp only
  with_reducible repeat' first
    | assumption | apply Dev.accessErr_keeps c | apply Dev.strataStop_keeps c | apply Dev.setReg_keeps c
    | apply ite_keeps
theorem Dev.limitChanged_keeps (c : Keeps P) (d x0 x1 x2 x3 x4) (h : P d) : P (Dev.limitChanged d x0 x1 x2 x3 x4) := by
  unfold Dev.limitChanged
  try dsimp only
  with_reducible repeat' first
    | assumption | apply Dev.reportIf_keeps c | apply ite_keeps | split
    | fail_if_no_progress refine Keeps.mk' c ?_ rfl rfl rfl rfl
theorem Dev.surQuotaWrite_keeps (c : Keeps P) (d x0) (h : P d) : P (Dev.surQuotaWrite d x0) := by
  unfold Dev.surQuotaWrite
  try dsimp only
  with_reducible repeat' first | assumption | apply Dev.plainWrite_keeps c | apply Dev.limitChanged_keeps c
theorem Dev.writeAnalysis_keeps (c : Keeps P) (d x0 x1 x2 x3 x4) (h : P d) : P (Dev.writeAnalysis d x0 x1 x2 x3 x4) := by
  unfold Dev.writeAnalysis
  try dsimp only
  with_reducible repeat' first
    | assumption | apply Dev.accessErr_keeps c | apply Dev.rangeWrite_keeps c
    | (apply Dev.unlessArmed_keeps c; intro d hd) | apply Dev.plainWrite_keeps c | apply Dev.surCtrlWrite_keeps c
    | apply Dev.signedWrite_keeps c | apply Dev.strCtrlWrite_keeps c | apply Dev.surQuotaWrite_keeps c | apply Dev.cprWrite_keeps c
    | apply ite_keeps
theorem Dev.i2cEnd_keeps (c : Keeps P) (d x0 x1 x2) (h : P d) : P (Dev.i2cEnd d x0 x1 x2) := by
  unfold Dev.i2cEnd
  try dsimp only
  with_reducible repeat' first
    | assumption | apply Dev.setI2c_keeps c | apply Dev.flag_keeps c | apply Dev.setF_keeps c
    | apply Dev.irq_keeps c
theorem Dev.i2cCfg_keeps (c : Keeps P) (d x0 x1 x2) (h : P d) : P (Dev.i2cCfg d x0 x1 x2) := by
  unfold Dev.i2cCfg
  try dsimp only
  with_reducible repeat' first
    | assumption | apply Dev.accessErr_keeps c | apply Dev.setReg_keeps c | apply Dev.setI2c_keeps c
    | apply Dev.i2cEnd_keeps c | apply ite_keeps | refine snd_keeps (by assumption) ?_ | refine fst_keeps (by assumption) ?_ | split
theorem Dev.servoPeriodWrite_keeps (c : Keeps P) (d x0 x1) (h : P d) : P (Dev.servoPeriodWrite d x0 x1) := by
  unfold Dev.servoPeriodWrite
  try dsimp only
  with_reducible repeat' first | assumption | apply Dev.accessErr_keeps c | apply Dev.setF_keeps c | apply ite_keeps
theorem Dev.refMove_keeps (c : Keeps P) (d x0 x1 x2) (h : P d) : P (Dev.refMove d x0 x1 x2) := by
  unfold Dev.refMove
  try dsimp only
  with_reducible repeat' first | assumption | apply Dev.acceptMove_keeps c | apply Dev.setAx_keeps c | apply Dev.newMove_keeps c
theorem Dev.refGo_keeps (c : Keeps P) (d x0 x1 x2) (h : P d) : P (Dev.refGo d x0 x1 x2) := by
  unfold Dev.refGo
  try dsimp only
  with_reducible repeat' first | assumption | apply Dev.refMove_keeps c
theorem Dev.refReport_keeps (c : Keeps P) (d x0 x1) (h : P d) : P (Dev.refReport d x0 x1) := by
  unfold Dev.refReport
  try dsimp only
  with_reducible repeat' first | assumption | apply Dev.setF_keeps c | apply Dev.irq_keeps c
theorem Dev.refStart_keeps (c : Keeps P) (d x0 x1 x2 x3 x4) (h : P d) : P (Dev.refStart d x0 x1 x2 x3 x4) := by
  unfold Dev.refStart
  try dsimp only
  with_reducible repeat' first
    | assumption | apply Dev.refGo_keeps c | apply Dev.refReport_keeps c | apply Dev.setAx_keeps c
    | apply Dev.setB_keeps c | apply Dev.setF_keeps c | apply ite_keeps
theorem Dev.refCtrlWrite_keeps (c : Keeps P) (d x0 x1) (h : P d) : P (Dev.refCtrlWrite d x0 x1) := by
  unfold Dev.refCtrlWrite
  try dsimp only
  with_reducible repeat' first | assumption | apply Dev.plainWrite_keeps c | apply Dev.refStart_keeps c | apply ite_keeps
theorem Dev.tickWrite_keeps (c : Keeps P) (d x0 x1 x2) (h : P d) : P (Dev.tickWrite d x0 x1 x2) := by
  unfold Dev.tickWrite
  try dsimp only
  with_reducible repeat' first | assumption | apply Dev.accessErr_keeps c | apply Dev.plainWrite_keeps c | apply ite_keeps
theorem Dev.stallCfgWrite_keeps (c : Keeps P) (d x0 x1 x2) (h : P d) : P (Dev.stallCfgWrite d x0 x1 x2) := by
  unfold Dev.stallCfgWrite
  try dsimp only
  with_reducible repeat' first | assumption | apply Dev.accessErr_keeps c | apply Dev.plainWrite_keeps c | apply ite_keeps
theorem Dev.limitWrite_keeps (c : Keeps P) (d x0 x1 x2) (h : P d) : P (Dev.limitWrite d x0 x1 x2) := by
  unfold Dev.limitWrite
  try dsimp only
  with_reducible repeat' first | assumption | apply Dev.accessErr_keeps c | apply Dev.plainWrite_keeps c | apply ite_keeps
theorem Dev.estop_keeps (c : Keeps P) (d x0) (h : P d) : P (Dev.estop d x0) := by
  unfold Dev.estop
  try dsimp only
  with_reducible repeat' first
    | assumption | apply Dev.setF_keeps c | apply Dev.stopAxes_keeps c | apply Dev.refFail_keeps c
    | (apply foldl_keeps; intro d x hd)
theorem Dev.writeAxs_keeps (c : Keeps P) (d x0 x1 x2 x3 x4) (h : P d) : P (Dev.writeAxs d x0 x1 x2 x3 x4) := by
  unfold Dev.writeAxs
  try dsimp only
  with_reducible repeat' first
    | assumption | apply Dev.servoPeriodWrite_keeps c | apply Dev.refCtrlWrite_keeps c
    | apply Dev.tickWrite_keeps c | apply Dev.stallCfgWrite_keeps c | apply Dev.plainWrite_keeps c | apply Dev.limitWrite_keeps c
    | apply Dev.axsStatusWrite_keeps c | apply Dev.estop_keeps c | apply ite_keeps
theorem Dev.hkcStop_keeps (c : Keeps P) (d x0) (h : P d) : P (Dev.hkcStop d x0) := by
  unfold Dev.hkcStop
  try dsimp only
  with_reducible repeat' first | assumption | apply Dev.setF_keeps c
theorem Dev.hkcApply_keeps (c : Keeps P) (d x0) (h : P d) : P (Dev.hkcApply d x0).1 := by
  unfold Dev.hkcApply
  try dsimp only
  with_reducible repeat' first
    | assumption | apply Dev.freeNat_keeps c | apply Dev.setHkc_keeps c | apply Dev.setF_keeps c
    | apply ite_keeps | refine snd_keeps (by assumption) ?_ | refine fst_keeps (by assumption) ?_ | split
theorem Dev.hkcStart_keeps (c : Keeps P) (d x0) (h : P d) : P (Dev.hkcStart d x0) := by
  unfold Dev.hkcStart
  try dsimp only
  with_reducible repeat' first | assumption | apply Dev.hkcApply_keeps c | apply Dev.setB_keeps c
theorem Dev.hkcCtrlWrite_keeps (c : Keeps P) (d x0 x1) (h : P d) : P (Dev.hkcCtrlWrite d x0 x1) := by
  unfold Dev.hkcCtrlWrite
  try dsimp only
  with_reducible repeat' first
    | assumption | apply Dev.setReg_keeps c | apply Dev.hkcStop_keeps c | apply Dev.hkcStart_keeps c
    | apply Dev.setB_keeps c | apply ite_keeps
theorem Dev.writeHkc_keeps (c : Keeps P) (d x0 x1 x2 x3 x4) (h : P d) : P (Dev.writeHkc d x0 x1 x2 x3 x4) := by
  unfold Dev.writeHkc
  try dsimp only
  with_reducible repeat' first
    | assumption | apply Dev.accessErr_keeps c | apply Dev.plainWrite_keeps c | apply Dev.hkcCtrlWrite_keeps c
    | apply ite_keeps
theorem Dev.tierWrite_keeps (c : Keeps P) (d x0 x1 x2 x3 x4) (h : P d) : P (Dev.tierWrite d x0 x1 x2 x3 x4) := by
  unfold Dev.tierWrite
  try dsimp only
  with_reducible repeat' first | assumption | apply Dev.accessErr_keeps c | apply Dev.plainWrite_keeps c | apply ite_keeps
theorem Dev.ocClear_keeps (c : Keeps P) (d x0) (h : P d) : P (Dev.ocClear d x0) := by
  unfold Dev.ocClear
  try dsimp only
  with_reducible repeat' first | assumption | apply Dev.setPower_keeps c | apply Dev.setF_keeps c
theorem Dev.encCfgWrite_keeps (c : Keeps P) (d x0 x1 x2) (h : P d) : P (Dev.encCfgWrite d x0 x1 x2) := by
  unfold Dev.encCfgWrite
  try dsimp only
  with_reducible repeat' first
    | assumption | apply Dev.accessErr_keeps c | apply Dev.plainWrite_keeps c | apply Dev.setMeasured_keeps c
    | apply Dev.setAx_keeps c | apply Dev.setF_keeps c | apply ite_keeps
theorem Dev.encClear_keeps (c : Keeps P) (d x0) (h : P d) : P (Dev.encClear d x0) := by
  unfold Dev.encClear
  try dsimp only
  with_reducible repeat' first | assumption | apply Dev.setF_keeps c
theorem Dev.writeDrive_keeps (c : Keeps P) (d x0 x1 x2 x3 x4) (h : P d) : P (Dev.writeDrive d x0 x1 x2 x3 x4) := by
  unfold Dev.writeDrive
  try dsimp only
  with_reducible repeat' first
    | assumption | apply Dev.angleWrite_keeps c | apply Dev.tierWrite_keeps c | apply Dev.plainWrite_keeps c
    | apply Dev.chpCfgWrite_keeps c | apply Dev.ocClear_keeps c | apply Dev.encCfgWrite_keeps c | apply Dev.encClear_keeps c
    | apply ite_keeps
theorem Dev.freeTarget_keeps (c : Keeps P) (d) (h : P d) : P (Dev.freeTarget d).2 := by
  unfold Dev.freeTarget
  try dsimp only
  with_reducible repeat' first
    | assumption | apply Dev.freeNat_keeps c | (apply foldl_keeps; intro d x hd)
    | (apply foldl_fst_keeps; intro d x hd) | (apply foldl_snd_keeps; intro d x hd)
theorem Dev.i2cCmd_keeps (c : Keeps P) (d x0 x1 x2 x3) (h : P d) : P (Dev.i2cCmd d x0 x1 x2 x3) := by
  unfold Dev.i2cCmd
  try dsimp only
  with_reducible repeat' first
    | assumption | apply Dev.accessErr_keeps c | apply Dev.setReg_keeps c | apply Dev.i2cSettle_keeps c
    | apply Dev.setI2c_keeps c | apply Dev.i2cEnd_keeps c | apply Dev.setF_keeps c | apply Dev.emit_keeps c | apply ite_keeps
theorem Dev.i2cCmdWrite_keeps (c : Keeps P) (d x0 x1 x2) (h : P d) : P (Dev.i2cCmdWrite d x0 x1 x2) := by
  unfold Dev.i2cCmdWrite
  try dsimp only
  with_reducible repeat' first | assumption | apply Dev.freeTarget_keeps c | apply Dev.i2cCmd_keeps c | apply ite_keeps
theorem Dev.shdCtrlWrite_keeps (c : Keeps P) (d x0) (h : P d) : P (Dev.shdCtrlWrite d x0) := by
  unfold Dev.shdCtrlWrite
  try dsimp only
  with_reducible repeat' first
    | assumption | apply Dev.plainWrite_keeps c | apply Dev.setF_keeps c | apply ite_keeps
    | fail_if_no_progress refine Keeps.mk' c ?_ rfl rfl rfl rfl
theorem Dev.dropTrack_keeps (c : Keeps P) (d x0 x1) (h : P d) : P (Dev.dropTrack d x0 x1) := by
  unfold Dev.dropTrack
  try dsimp only
  with_reducible repeat' first | assumption | fail_if_no_progress refine Keeps.mk' c ?_ rfl rfl rfl rfl
theorem Dev.mulWrite_keeps (c : Keeps P) (d x0 x1 x2 x3) (h : P d) : P (Dev.mulWrite d x0 x1 x2 x3) := by
  unfold Dev.mulWrite
  try dsimp only
  with_reducible repeat' first
    | assumption | apply Dev.accessErr_keeps c | apply Dev.dropTrack_keeps c | apply Dev.setF_keeps c
    | apply ite_keeps | split | fail_if_no_progress refine Keeps.mk' c ?_ rfl rfl rfl rfl
theorem Dev.writeLight_keeps (c : Keeps P) (d x0 x1 x2 x3 x4 x5) (h : P d) : P (Dev.writeLight d x0 x1 x2 x3 x4 x5) := by
  unfold Dev.writeLight
  try dsimp only
  with_reducible repeat' first
    | assumption | apply Dev.shdCtrlWrite_keeps c | apply Dev.plainWrite_keeps c | apply Dev.discarded_keeps c
    | apply Dev.signedWrite_keeps c | apply Dev.mulWrite_keeps c | apply ite_keeps
theorem Dev.tstPin_keeps (c : Keeps P) (d x0 x1 x2) (h : P d) : P (Dev.tstPin d x0 x1 x2) := by
  unfold Dev.tstPin
  try dsimp only
  with_reducible repeat' first | assumption | apply Dev.emit_keeps c | apply ite_keeps
theorem Dev.tstWrite_keeps (c : Keeps P) (d x0 x1 x2 x3) (h : P d) : P (Dev.tstWrite d x0 x1 x2 x3) := by
  unfold Dev.tstWrite
  try dsimp only
  with_reducible repeat' first
    | assumption | apply Dev.accessErr_keeps c | apply Dev.plainWrite_keeps c | apply Dev.flag_keeps c
    | apply Dev.discarded_keeps c | apply Dev.tstPin_keeps c | apply ite_keeps
theorem Dev.gridHalf_keeps (c : Keeps P) (d x0 x1 x2) (h : P d) : P (Dev.gridHalf d x0 x1 x2) := by
  unfold Dev.gridHalf
  try dsimp only
  with_reducible repeat' first | assumption | apply Dev.accessErr_keeps c | apply Dev.setReg_keeps c | apply ite_keeps
theorem Dev.seqWrite_keeps (c : Keeps P) (d x0 x1 x2 x3) (h : P d) : P (Dev.seqWrite d x0 x1 x2 x3) := by
  unfold Dev.seqWrite
  try dsimp only
  with_reducible repeat' first
    | assumption | apply Dev.accessErr_keeps c | apply Dev.setReg_keeps c | apply Dev.reschedule_keeps c
    | apply ite_keeps | fail_if_no_progress refine Keeps.mk' c ?_ rfl rfl rfl rfl
theorem Dev.setPoint_keeps (c : Keeps P) (d x0 x1) (h : P d) : P (Dev.setPoint d x0 x1) := by
  unfold Dev.setPoint
  try dsimp only
  with_reducible repeat' first | assumption | apply Dev.setF_keeps c
theorem Dev.writeLtn_keeps (c : Keeps P) (d x0 x1 x2 x3 x4) (h : P d) : P (Dev.writeLtn d x0 x1 x2 x3 x4) := by
  unfold Dev.writeLtn
  try dsimp only
  with_reducible repeat' first
    | assumption | apply Dev.gridCtrlWrite_keeps c | apply Dev.plainWrite_keeps c | apply Dev.gridHalf_keeps c
    | apply Dev.seqWrite_keeps c | apply Dev.setPoint_keeps c | apply ite_keeps
theorem Dev.reserveWrite_keeps (c : Keeps P) (d x0 x1 x2) (h : P d) : P (Dev.reserveWrite d x0 x1 x2) := by
  unfold Dev.reserveWrite
  try dsimp only
  with_reducible repeat' first
    | assumption | apply Dev.accessErr_keeps c | apply Dev.plainWrite_keeps c | apply Dev.limitChanged_keeps c
    | apply ite_keeps
theorem Dev.setQuota_keeps (c : Keeps P) (d x0 x1) (h : P d) : P (Dev.setQuota d x0 x1) := by
  unfold Dev.setQuota
  try dsimp only
  with_reducible repeat' first | assumption | apply Dev.reportIf_keeps c | apply Dev.setCtx_keeps c | apply Dev.setMem_keeps c
theorem Dev.quotaSet_keeps (c : Keeps P) (d x0 x1) (h : P d) : P (Dev.quotaSet d x0 x1) := by
  unfold Dev.quotaSet
  try dsimp only
  with_reducible repeat' first
    | assumption | apply Dev.flag_keeps c | apply Dev.setQuota_keeps c | apply Dev.setF_keeps c
    | apply ite_keeps
theorem Dev.haulClear_keeps (c : Keeps P) (d x0) (h : P d) : P (Dev.haulClear d x0) := by
  unfold Dev.haulClear
  try dsimp only
  with_reducible repeat' first | assumption | apply Dev.setHch_keeps c
theorem Dev.levelWrite_keeps (c : Keeps P) (d x0 x1 x2) (h : P d) : P (Dev.levelWrite d x0 x1 x2) := by
  unfold Dev.levelWrite
  try dsimp only
  with_reducible repeat' first | assumption | apply Dev.accessErr_keeps c | apply Dev.plainWrite_keeps c | apply ite_keeps
theorem Dev.haulStart_keeps (c : Keeps P) (d x0 x1 x2) (h : P d) : P (Dev.haulStart d x0 x1 x2) := by
  unfold Dev.haulStart
  try dsimp only
  with_reducible repeat' first | assumption | apply Dev.accessErr_keeps c | apply Dev.haulPush_keeps c | apply ite_keeps
theorem Dev.haulQuotaWrite_keeps (c : Keeps P) (d x0) (h : P d) : P (Dev.haulQuotaWrite d x0) := by
  unfold Dev.haulQuotaWrite
  try dsimp only
  with_reducible repeat' first | assumption | apply Dev.plainWrite_keeps c | apply Dev.limitChanged_keeps c
theorem Dev.writeSump_keeps (c : Keeps P) (d x0 x1 x2 x3 x4) (h : P d) : P (Dev.writeSump d x0 x1 x2 x3 x4) := by
  unfold Dev.writeSump
  try dsimp only
  with_reducible repeat' first
    | assumption | apply Dev.accessErr_keeps c | apply Dev.setReg_keeps c | apply Dev.plainWrite_keeps c
    | apply Dev.reserveWrite_keeps c | apply Dev.quotaSet_keeps c | apply Dev.haulClear_keeps c | apply Dev.levelWrite_keeps c
    | apply Dev.haulStart_keeps c | apply Dev.haulQuotaWrite_keeps c | apply ite_keeps
theorem Dev.writeReg_keeps (c : Keeps P) (d x0 x1 x2 x3) (h : P d) : P (Dev.writeReg d x0 x1 x2 x3) := by
  unfold Dev.writeReg
  try dsimp only
  with_reducible repeat' first
    | assumption | apply Dev.writeRings_keeps c | apply Dev.writeAfe_keeps c | apply Dev.plainWrite_keeps c
    | apply Dev.writeTop_keeps c | apply Dev.writeTime_keeps c | apply Dev.writeAnalysis_keeps c | apply Dev.i2cCfg_keeps c
    | apply Dev.writeAxs_keeps c | apply Dev.writeHkc_keeps c | apply Dev.writeDrive_keeps c | apply Dev.i2cCmdWrite_keeps c
    | apply Dev.writeLight_keeps c | apply Dev.tstWrite_keeps c | apply Dev.writeLtn_keeps c | apply Dev.writeSump_keeps c
    | apply ite_keeps
theorem Dev.writeWord_keeps (c : Keeps P) (d x0 x1 x2 x3) (h : P d) : P (Dev.writeWord d x0 x1 x2 x3) := by
  unfold Dev.writeWord
  try dsimp only
  with_reducible repeat' first
    | assumption | apply Dev.accessErr_keeps c | apply Dev.writeWindow_keeps c | apply Dev.writeReg_keeps c
    | apply ite_keeps | refine snd_keeps (by assumption) ?_ | refine fst_keeps (by assumption) ?_ | split
theorem Dev.devWrite_keeps (c : Keeps P) (d x0 x1 x2) (h : P d) : P (Dev.devWrite d x0 x1 x2).2 := by
  unfold Dev.devWrite
  try dsimp only
  with_reducible repeat' first
    | assumption | apply Dev.writeWord_keeps c | apply ite_keeps | split
    | fail_if_no_progress refine Keeps.mk' c ?_ rfl rfl rfl rfl
theorem Dev.devWrites_keeps (c : Keeps P) (d ch a n l x) (h : P d) : P (Dev.devWrites d ch a n l x).2 := by
  induction n generalizing d a l x with
  | zero => exact h
  | succ k ih =>
    have h' := Dev.devWrite_keeps c d ch a (leNat (l.take 4)) h
    unfold Dev.devWrites
    split <;> rename_i heq <;> rw [heq] at h'
    · exact ih _ _ _ _ h'
    · exact h'
theorem Dev.disarmedSwap_keeps (c : Keeps P) (d) (h : P d) : P (Dev.disarmedSwap d) := by
  unfold Dev.disarmedSwap
  try dsimp only
  with_reducible repeat' first | assumption | apply Dev.chooseSet_keeps c | apply ite_keeps
theorem Dev.dropHist_keeps (c : Keeps P) (d x0 x1) (h : P d) : P (Dev.dropHist d x0 x1) := by
  unfold Dev.dropHist
  try dsimp only
  with_reducible repeat' first
    | assumption | apply Dev.setGroupUse_keeps c | (apply foldl_keeps; intro d x hd) | apply ite_keeps
    | refine snd_keeps (by assumption) ?_ | refine fst_keeps (by assumption) ?_ | split
    | fail_if_no_progress refine Keeps.mk' c ?_ rfl rfl rfl rfl
theorem Dev.electionTimeout_keeps (c : Keeps P) (d) (h : P d) : P (Dev.electionTimeout d) := by
  unfold Dev.electionTimeout
  try dsimp only
  with_reducible repeat' first
    | assumption | apply Dev.setTet_keeps c | apply Dev.setTimingMaster_keeps c | apply Dev.setF_keeps c
    | apply ite_keeps
theorem Dev.encFault_keeps (c : Keeps P) (d x0 x1) (h : P d) : P (Dev.encFault d x0 x1) := by
  unfold Dev.encFault
  try dsimp only
  with_reducible repeat' first
    | assumption | apply Dev.setF_keeps c | apply Dev.stopAxes_keeps c | apply Dev.refFail_keeps c
    | apply ite_keeps
theorem Dev.surveyWatch_keeps (c : Keeps P) (d x0) (h : P d) : P (Dev.surveyWatch d x0) := by
  unfold Dev.surveyWatch
  try dsimp only
  with_reducible repeat' first | assumption | apply ite_keeps | fail_if_no_progress refine Keeps.mk' c ?_ rfl rfl rfl rfl
theorem Dev.encMove_keeps (c : Keeps P) (d x0 x1) (h : P d) : P (Dev.encMove d x0 x1) := by
  unfold Dev.encMove
  try dsimp only
  with_reducible repeat' first | assumption | apply Dev.setMeasured_keeps c | apply Dev.surveyWatch_keeps c | apply ite_keeps
theorem Dev.encoderCount_keeps (c : Keeps P) (d x0 x1) (h : P d) : P (Dev.encoderCount d x0 x1) := by
  unfold Dev.encoderCount
  try dsimp only
  with_reducible repeat' first | assumption | apply Dev.encMove_keeps c | apply ite_keeps
theorem Dev.takeGenA_keeps (c : Keeps P) (d x0 x1 x2 x3) (h : P d) : P (Dev.takeGenA d x0 x1 x2 x3) := by
  unfold Dev.takeGenA
  try dsimp only
  with_reducible repeat' first
    | assumption | apply Dev.mapLine_keeps c | apply Dev.requestRaw_keeps c | apply Dev.flagIf_keeps c
    | (apply foldl_keeps; intro d x hd) | apply ite_keeps | refine snd_keeps (by assumption) ?_ | refine fst_keeps (by assumption) ?_
    | split
theorem Dev.surveyExposed_keeps (c : Keeps P) (d x0) (h : P d) : P (Dev.surveyExposed d x0) := by
  unfold Dev.surveyExposed
  try dsimp only
  with_reducible repeat' first | assumption | apply ite_keeps | fail_if_no_progress refine Keeps.mk' c ?_ rfl rfl rfl rfl
theorem Dev.endLine_keeps (c : Keeps P) (d x0 x1 x2 x3) (h : P d) : P (Dev.endLine d x0 x1 x2 x3) := by
  unfold Dev.endLine
  try dsimp only
  with_reducible repeat' first
    | assumption | apply Dev.takeGenA_keeps c | apply Dev.mapLine_keeps c | apply Dev.surveyExposed_keeps c
    | apply ite_keeps | refine snd_keeps (by assumption) ?_ | refine fst_keeps (by assumption) ?_ | split
theorem Dev.endMove_keeps (c : Keeps P) (d x0 x1) (h : P d) : P (Dev.endMove d x0 x1) := by
  unfold Dev.endMove
  try dsimp only
  with_reducible repeat' first
    | assumption | apply Dev.reportMove_keeps c | apply Dev.logStop_keeps c | apply Dev.dropMove_keeps c
    | apply Dev.setAx_keeps c | (apply foldl_keeps; intro d x hd) | apply ite_keeps | refine snd_keeps (by assumption) ?_
    | refine fst_keeps (by assumption) ?_ | split
theorem Dev.setHaulUse_keeps (c : Keeps P) (d x0) (h : P d) : P (Dev.setHaulUse d x0) := by
  unfold Dev.setHaulUse
  try dsimp only
  with_reducible repeat' first
    | assumption | apply Dev.reportIf_keeps c | apply Dev.sumpNote_keeps c | split
    | fail_if_no_progress refine Keeps.mk' c ?_ rfl rfl rfl rfl
theorem Dev.enterDormant_keeps (c : Keeps P) (d) (h : P d) : P (Dev.enterDormant d) := by
  unfold Dev.enterDormant
  try dsimp only
  with_reducible repeat' first
    | assumption | apply Dev.hkcStop_keeps c | apply Dev.floatPins_keeps c | apply Dev.setHaulUse_keeps c
    | apply Dev.emit_keeps c | apply Dev.setMode_keeps c | fail_if_no_progress refine Keeps.mk' c ?_ rfl rfl rfl rfl
theorem Dev.estopClear_keeps (c : Keeps P) (d) (h : P d) : P (Dev.estopClear d) := by
  unfold Dev.estopClear
  try dsimp only
  with_reducible repeat' first | assumption | apply Dev.setF_keeps c | (apply foldl_keeps; intro d x hd) | apply ite_keeps
theorem Dev.eyeAdjust_keeps (c : Keeps P) (d x0 x1) (h : P d) : P (Dev.eyeAdjust d x0 x1) := by
  unfold Dev.eyeAdjust
  try dsimp only
  with_reducible repeat' first
    | assumption | apply Dev.flagIf_keeps c | apply Dev.setLane_keeps c | apply Dev.setF_keeps c
    | (apply foldl_keeps; intro d x hd) | (apply foldl_fst_keeps; intro d x hd) | (apply foldl_snd_keeps; intro d x hd)
    | refine snd_keeps (by assumption) ?_ | refine fst_keeps (by assumption) ?_ | split
theorem Dev.setBin_keeps (c : Keeps P) (d x0 x1) (h : P d) : P (Dev.setBin d x0 x1) := by
  unfold Dev.setBin
  try dsimp only
  with_reducible repeat' first | assumption | apply Dev.setMem_keeps c
theorem Dev.learn_keeps (c : Keeps P) (d x0 x1 x2 x3) (h : P d) : P (Dev.learn d x0 x1 x2 x3) := by
  unfold Dev.learn
  try dsimp only
  with_reducible repeat' first
    | assumption | apply Dev.setBin_keeps c | apply Dev.flagIf_keeps c | (apply foldl_keeps; intro d x hd)
    | (apply foldl_fst_keeps; intro d x hd) | (apply foldl_snd_keeps; intro d x hd) | apply ite_keeps
theorem Dev.flowEntry_keeps (c : Keeps P) (d) (h : P d) : P (Dev.flowEntry d) := by
  unfold Dev.flowEntry
  try dsimp only
  with_reducible repeat' first
    | assumption | apply Dev.learn_keeps c | apply Dev.setF_keeps c | apply Dev.count_keeps c
    | refine snd_keeps (by assumption) ?_ | refine fst_keeps (by assumption) ?_ | split
    | fail_if_no_progress refine Keeps.mk' c ?_ rfl rfl rfl rfl
theorem Dev.flowVisible_keeps (c : Keeps P) (d) (h : P d) : P (Dev.flowVisible d) := by
  unfold Dev.flowVisible
  try dsimp only
  with_reducible repeat' first
    | assumption | apply Dev.setMem_keeps c | (apply foldl_keeps; intro d x hd)
    | (apply foldl_fst_keeps; intro d x hd) | (apply foldl_snd_keeps; intro d x hd) | split
    | fail_if_no_progress refine Keeps.mk' c ?_ rfl rfl rfl rfl
theorem Dev.leadPins_keeps (c : Keeps P) (d x0 x1 x2) (h : P d) : P (Dev.leadPins d x0 x1 x2) := by
  unfold Dev.leadPins
  try dsimp only
  with_reducible repeat' first | assumption | apply Dev.strobes_keeps c | apply Dev.pulse_keeps c | (apply foldl_keeps; intro d x hd)
theorem Dev.flush_keeps (c : Keeps P) (d x0) (h : P d) : P (Dev.flush d x0) := by
  unfold Dev.flush
  try dsimp only
  with_reducible repeat' first
    | assumption | apply Dev.mainPins_keeps c | apply Dev.showLantern_keeps c | apply Dev.leadPins_keeps c
    | apply ite_keeps | refine snd_keeps (by assumption) ?_ | refine fst_keeps (by assumption) ?_ | split
    | fail_if_no_progress refine Keeps.mk' c ?_ rfl rfl rfl rfl
theorem Dev.followLeader_keeps (c : Keeps P) (d x0 x1) (h : P d) : P (Dev.followLeader d x0 x1) := by
  unfold Dev.followLeader
  try dsimp only
  with_reducible repeat' first
    | assumption | apply Dev.setAx_keeps c | (apply foldl_keeps; intro d x hd) | apply ite_keeps
    | refine snd_keeps (by assumption) ?_ | refine fst_keeps (by assumption) ?_ | split
theorem Dev.forward_keeps (c : Keeps P) (d x0 x1) (h : P d) : P (Dev.forward d x0 x1) := by
  unfold Dev.forward
  try dsimp only
  with_reducible repeat' first | assumption | apply Dev.sendVia_keeps c | apply ite_keeps
theorem Dev.govReturned_keeps (c : Keeps P) (d x0) (h : P d) : P (Dev.govReturned d x0) := by
  unfold Dev.govReturned
  try dsimp only
  with_reducible repeat' first
    | assumption | apply Dev.flagIf_keeps c | apply Dev.setTet_keeps c | apply Dev.setB_keeps c
    | apply Dev.setF_keeps c | apply Dev.masterConflict_keeps c | apply ite_keeps
theorem Dev.linkCarries_keeps (c : Keeps P) (d x0) (h : P d) : P (Dev.linkCarries d x0) := by
  unfold Dev.linkCarries
  try dsimp only
  with_reducible repeat' first
    | assumption | apply Dev.setPort_keeps c | apply Dev.flag_keeps c | apply Dev.setF_keeps c
    | apply ite_keeps
theorem Dev.pdResp_keeps (c : Keeps P) (d x0 x1) (h : P d) : P (Dev.pdResp d x0 x1) := by
  unfold Dev.pdResp
  try dsimp only
  with_reducible repeat' first
    | assumption | apply Dev.linkCarries_keeps c | apply Dev.setPort_keeps c | apply Dev.setF_keeps c
    | refine snd_keeps (by assumption) ?_ | refine fst_keeps (by assumption) ?_ | split
theorem Dev.sendLink_keeps (c : Keeps P) (d x0 x1 x2 x3) (h : P d) : P (Dev.sendLink d x0 x1 x2 x3) := by
  unfold Dev.sendLink
  try dsimp only
  with_reducible repeat' first | assumption | apply Dev.emit_keeps c
theorem Dev.frameReceived_keeps (c : Keeps P) (d x0 x1 x2) (h : P d) : P (Dev.frameReceived d x0 x1 x2) := by
  unfold Dev.frameReceived
  try dsimp only
  with_reducible repeat' first
    | assumption | apply Dev.govReturned_keeps c | apply Dev.flag_keeps c | apply Dev.pdResp_keeps c
    | apply Dev.setTet_keeps c | apply Dev.deliverFrame_keeps c | apply Dev.forward_keeps c | apply Dev.count_keeps c
    | apply Dev.sendLink_keeps c | apply ite_keeps
theorem Dev.freedCal_keeps (c : Keeps P) (d x0 x1) (h : P d) : P (Dev.freedCal d x0 x1) := by
  unfold Dev.freedCal
  try dsimp only
  with_reducible repeat' first
    | assumption | apply Dev.setRb_keeps c | apply Dev.setCh_keeps c | apply Dev.calChan_keeps c
    | apply ite_keeps | refine snd_keeps (by assumption) ?_ | refine fst_keeps (by assumption) ?_ | split
theorem Dev.freshen_keeps (c : Keeps P) (d x0 x1) (h : P d) : P (Dev.freshen d x0 x1) := by
  unfold Dev.freshen
  try dsimp only
  with_reducible repeat' first
    | assumption | apply Dev.clearHist_keeps c | apply ite_keeps
    | fail_if_no_progress refine Keeps.mk' c ?_ rfl rfl rfl rfl
theorem Dev.missing_keeps (c : Keeps P) (d x0 x1 x2) (h : P d) : P (Dev.missing d x0 x1 x2) := by
  unfold Dev.missing
  try dsimp only
  with_reducible repeat' first
    | assumption | apply Dev.setMissRun_keeps c | apply Dev.mapLine_keeps c | apply Dev.flag_keeps c
    | apply Dev.setF_keeps c | apply Dev.count_keeps c | apply ite_keeps | refine snd_keeps (by assumption) ?_
    | refine fst_keeps (by assumption) ?_ | split
theorem Dev.rxFail_keeps (c : Keeps P) (d x0 x1 x2) (h : P d) : P (Dev.rxFail d x0 x1 x2) := by
  unfold Dev.rxFail
  try dsimp only
  with_reducible repeat' first | assumption | apply Dev.ledgerEvent_keeps c | apply Dev.flag_keeps c | apply Dev.setLane_keeps c
theorem Dev.lineVerdict_keeps (c : Keeps P) (d x0 x1 x2 x3 x4 x5) (h : P d) : P (Dev.lineVerdict d x0 x1 x2 x3 x4 x5) := by
  unfold Dev.lineVerdict
  try dsimp only
  with_reducible repeat' first
    | assumption | apply Dev.arrived_keeps c | apply Dev.flag_keeps c | apply Dev.missing_keeps c
    | apply Dev.rxFail_keeps c | refine snd_keeps (by assumption) ?_ | refine fst_keeps (by assumption) ?_ | split
theorem Dev.genB_keeps (c : Keeps P) (d x0 x1 x2) (h : P d) : P (Dev.genB d x0 x1 x2) := by
  unfold Dev.genB
  try dsimp only
  with_reducible repeat' first
    | assumption | apply Dev.missing_keeps c | apply Dev.lineVerdict_keeps c
    | refine Dev.takeExpect_keeps c (by assumption) ?_ | apply ite_keeps | refine snd_keeps (by assumption) ?_
    | refine fst_keeps (by assumption) ?_ | split
theorem Dev.genBLocked_keeps (c : Keeps P) (d x0) (h : P d) : P (Dev.genBLocked d x0) := by
  unfold Dev.genBLocked
  try dsimp only
  with_reducible repeat' first | assumption | apply Dev.setLane_keeps c | apply Dev.showLanes_keeps c
theorem Dev.genBLost_keeps (c : Keeps P) (d x0) (h : P d) : P (Dev.genBLost d x0) := by
  unfold Dev.genBLost
  try dsimp only
  with_reducible repeat' first | assumption | apply Dev.flag_keeps c | apply Dev.setLane_keeps c | apply Dev.showLanes_keeps c
theorem Dev.genC_keeps (c : Keeps P) (d x0 x1 x2 x3) (h : P d) : P (Dev.genC d x0 x1 x2 x3) := by
  unfold Dev.genC
  try dsimp only
  with_reducible repeat' first
    | assumption | apply Dev.lineVerdict_keeps c | refine Dev.takeExpect_keeps c (by assumption) ?_
    | apply ite_keeps | refine snd_keeps (by assumption) ?_ | refine fst_keeps (by assumption) ?_ | split
theorem Dev.genCLock_keeps (c : Keeps P) (d x0 x1 x2) (h : P d) : P (Dev.genCLock d x0 x1 x2) := by
  unfold Dev.genCLock
  try dsimp only
  with_reducible repeat' first
    | assumption | apply Dev.setLane_keeps c | apply Dev.showLanes_keeps c | apply ite_keeps
    | refine snd_keeps (by assumption) ?_ | refine fst_keeps (by assumption) ?_ | split
    | fail_if_no_progress refine Keeps.mk' c ?_ rfl rfl rfl rfl
theorem Dev.genCLoss_keeps (c : Keeps P) (d x0 x1 x2) (h : P d) : P (Dev.genCLoss d x0 x1 x2) := by
  unfold Dev.genCLoss
  try dsimp only
  with_reducible repeat' first
    | assumption | apply Dev.setLane_keeps c | apply Dev.rxFail_keeps c | apply Dev.showLanes_keeps c
    | apply ite_keeps
theorem Dev.govStep_keeps (c : Keeps P) (d) (h : P d) : P (Dev.govStep d) := by
  unfold Dev.govStep
  try dsimp only
  with_reducible repeat' first
    | assumption | apply Dev.flag_keeps c | apply Dev.setB_keeps c | apply Dev.setF_keeps c
    | apply Dev.count_keeps c | apply ite_keeps | split | fail_if_no_progress refine Keeps.mk' c ?_ rfl rfl rfl rfl
theorem Dev.govTimeout_keeps (c : Keeps P) (d) (h : P d) : P (Dev.govTimeout d) := by
  unfold Dev.govTimeout
  try dsimp only
  with_reducible repeat' first | assumption | apply Dev.flag_keeps c | apply Dev.setTet_keeps c | apply ite_keeps
theorem Dev.surveyLost_keeps (c : Keeps P) (d x0) (h : P d) : P (Dev.surveyLost d x0) := by
  unfold Dev.surveyLost
  try dsimp only
  with_reducible repeat' first | assumption | apply Dev.closeMeas_keeps c | apply Dev.count_keeps c | apply ite_keeps
theorem Dev.gridTrigger_keeps (c : Keeps P) (d) (h : P d) : P (Dev.gridTrigger d) := by
  unfold Dev.gridTrigger
  try dsimp only
  with_reducible repeat' first
    | assumption | apply Dev.reconFallback_keeps c | apply Dev.flag_keeps c | apply Dev.surveyLost_keeps c
    | apply Dev.fireMain_keeps c | apply Dev.count_keeps c | apply Dev.setHwm_keeps c | apply Dev.irq_keeps c | apply ite_keeps
    | refine snd_keeps (by assumption) ?_ | refine fst_keeps (by assumption) ?_ | split
theorem Dev.halt_keeps (c : Keeps P) (d x0) (h : P d) : P (Dev.halt d x0) := by
  unfold Dev.halt
  try dsimp only
  with_reducible repeat' first | assumption | apply Dev.setAx_keeps c
theorem Dev.haltMove_keeps (c : Keeps P) (d x0 x1) (h : P d) : P (Dev.haltMove d x0 x1) := by
  unfold Dev.haltMove
  try dsimp only
  with_reducible repeat' first
    | assumption | apply Dev.endMove_keeps c | apply Dev.halt_keeps c | (apply foldl_keeps; intro d x hd)
    | refine snd_keeps (by assumption) ?_ | refine fst_keeps (by assumption) ?_ | split
theorem Dev.putPrev_keeps (c : Keeps P) (d x0 x1 x2) (h : P d) : P (Dev.putPrev d x0 x1 x2) := by
  unfold Dev.putPrev
  try dsimp only
  with_reducible repeat' first | assumption | fail_if_no_progress refine Keeps.mk' c ?_ rfl rfl rfl rfl
theorem Dev.putDark_keeps (c : Keeps P) (d x0 x1 x2) (h : P d) : P (Dev.putDark d x0 x1 x2) := by
  unfold Dev.putDark
  try dsimp only
  with_reducible repeat' first | assumption | fail_if_no_progress refine Keeps.mk' c ?_ rfl rfl rfl rfl
theorem Dev.keepRow_keeps (c : Keeps P) (d x0 x1 x2) (h : P d) : P (Dev.keepRow d x0 x1 x2) := by
  unfold Dev.keepRow
  try dsimp only
  with_reducible repeat' first
    | assumption | apply Dev.putPrev_keeps c | apply Dev.flag_keeps c | apply Dev.putDark_keeps c
    | apply Dev.setF_keeps c | (apply foldl_keeps; intro d x hd) | (apply foldl_fst_keeps; intro d x hd)
    | (apply foldl_snd_keeps; intro d x hd) | apply ite_keeps
theorem Dev.putSurvey_keeps (c : Keeps P) (d x0 x1 x2 x3 x4 x5 x6 x7 x8 x9) (h : P d) : P (Dev.putSurvey d x0 x1 x2 x3 x4 x5 x6 x7 x8 x9) := by
  unfold Dev.putSurvey
  try dsimp only
  with_reducible repeat' first
    | assumption | apply Dev.deliverAnalysis_keeps c | apply Dev.setMem_keeps c | apply Dev.setBytes_keeps c
    | apply Dev.setF_keeps c | apply Dev.haulRequest_keeps c | fail_if_no_progress refine Keeps.mk' c ?_ rfl rfl rfl rfl
theorem Dev.surveyMain_keeps (c : Keeps P) (d x0 x1 x2 x3) (h : P d) : P (Dev.surveyMain d x0 x1 x2 x3) := by
  unfold Dev.surveyMain
  try dsimp only
  with_reducible repeat' first
    | assumption | apply Dev.closeMeas_keeps c | apply Dev.putSurvey_keeps c | apply Dev.flag_keeps c
    | apply Dev.count_keeps c | apply ite_keeps | fail_if_no_progress refine Keeps.mk' c ?_ rfl rfl rfl rfl
theorem Dev.strataCaptured_keeps (c : Keeps P) (d x0 x1) (h : P d) : P (Dev.strataCaptured d x0 x1) := by
  unfold Dev.strataCaptured
  try dsimp only
  with_reducible repeat' first
    | assumption | apply ite_keeps | refine snd_keeps (by assumption) ?_ | refine fst_keeps (by assumption) ?_
    | split | fail_if_no_progress refine Keeps.mk' c ?_ rfl rfl rfl rfl
theorem Dev.trackLine_keeps (c : Keeps P) (d x0 x1 x2 x3 x4) (h : P d) : P (Dev.trackLine d x0 x1 x2 x3 x4) := by
  unfold Dev.trackLine
  try dsimp only
  with_reducible repeat' first
    | assumption | apply Dev.dropTrack_keeps c | apply Dev.flag_keeps c | apply Dev.count_keeps c
    | apply ite_keeps | fail_if_no_progress refine Keeps.mk' c ?_ rfl rfl rfl rfl
theorem Dev.trackRow_keeps (c : Keeps P) (d x0 x1 x2 x3 x4) (h : P d) : P (Dev.trackRow d x0 x1 x2 x3 x4) := by
  unfold Dev.trackRow
  try dsimp only
  with_reducible repeat' first
    | assumption | apply Dev.trackLine_keeps c | (apply foldl_keeps; intro d x hd)
    | (apply foldl_fst_keeps; intro d x hd) | (apply foldl_snd_keeps; intro d x hd) | apply ite_keeps
    | refine snd_keeps (by assumption) ?_ | refine fst_keeps (by assumption) ?_ | split
theorem Dev.strataReduce_keeps (c : Keeps P) (d x0 x1 x2) (h : P d) : P (Dev.strataReduce d x0 x1 x2) := by
  unfold Dev.strataReduce
  try dsimp only
  with_reducible repeat' first
    | assumption | apply Dev.flag_keeps c | (apply foldl_keeps; intro d x hd) | apply ite_keeps
    | fail_if_no_progress refine Keeps.mk' c ?_ rfl rfl rfl rfl
theorem Dev.placeLine_keeps (c : Keeps P) (d x0 x1 x2 x3) (h : P d) : P (Dev.placeLine d x0 x1 x2 x3) := by
  unfold Dev.placeLine
  try dsimp only
  with_reducible repeat' first
    | assumption | apply Dev.dropHist_keeps c | apply Dev.setGroupUse_keeps c
    | (apply foldl_keeps; intro d x hd) | apply ite_keeps | refine snd_keeps (by assumption) ?_ | refine fst_keeps (by assumption) ?_
    | split | fail_if_no_progress refine Keeps.mk' c ?_ rfl rfl rfl rfl
theorem Dev.leaveGallery_keeps (c : Keeps P) (d x0) (h : P d) : P (Dev.leaveGallery d x0) := by
  unfold Dev.leaveGallery
  try dsimp only
  with_reducible repeat' first
    | assumption | apply Dev.refreshLock_keeps c | apply ite_keeps
    | fail_if_no_progress refine Keeps.mk' c ?_ rfl rfl rfl rfl
theorem Dev.handOff_keeps (c : Keeps P) (d x0 x1) (h : P d) : P (Dev.handOff d x0 x1) := by
  unfold Dev.handOff
  try dsimp only
  with_reducible repeat' first
    | assumption | apply Dev.keepRow_keeps c | apply Dev.surveyMain_keeps c | apply Dev.deliver_keeps c
    | apply Dev.mapLine_keeps c | apply Dev.calSetDone_keeps c | apply Dev.strataCaptured_keeps c | apply Dev.flag_keeps c
    | apply Dev.trackRow_keeps c | apply Dev.freshen_keeps c | apply Dev.checkStops_keeps c | apply Dev.strataReduce_keeps c
    | apply Dev.calLine_keeps c | apply Dev.placeLine_keeps c | apply Dev.leaveGallery_keeps c | apply Dev.count_keeps c | apply ite_keeps
    | refine snd_keeps (by assumption) ?_ | refine fst_keeps (by assumption) ?_ | split
theorem Dev.pushLoads_keeps (c : Keeps P) (d) (h : P d) : P (Dev.pushLoads d) := by
  unfold Dev.pushLoads
  try dsimp only
  with_reducible repeat' first
    | assumption | apply Dev.haulPush_keeps c | apply Dev.putValid_keeps c | (apply foldl_keeps; intro d x hd)
    | apply ite_keeps | fail_if_no_progress refine Keeps.mk' c ?_ rfl rfl rfl rfl
theorem Dev.haulBegin_keeps (c : Keeps P) (d) (h : P d) : P (Dev.haulBegin d) := by
  unfold Dev.haulBegin
  try dsimp only
  with_reducible repeat' first
    | assumption | apply Dev.pushLoads_keeps c | apply Dev.setHaulRun_keeps c | apply Dev.setHch_keeps c
    | apply Dev.setB_keeps c | apply ite_keeps | refine snd_keeps (by assumption) ?_ | refine fst_keeps (by assumption) ?_ | split
theorem Dev.issueReads_keeps (c : Keeps P) (d x0 x1) (h : P d) : P (Dev.issueReads d x0 x1) := by
  unfold Dev.issueReads
  try dsimp only
  with_reducible repeat' first | assumption | apply Dev.emit_keeps c | apply ite_keeps
theorem Dev.takeSide_keeps (c : Keeps P) (d x0 x1 x2 x3) (h : P d) : P (Dev.takeSide d x0 x1 x2 x3).2 := by
  unfold Dev.takeSide
  try dsimp only
  with_reducible repeat' first
    | assumption | apply Dev.issueReads_keeps c | apply Dev.devReads_keeps c | apply ite_keeps
    | refine snd_keeps (by assumption) ?_ | refine fst_keeps (by assumption) ?_ | split
theorem Dev.putBurst_keeps (c : Keeps P) (d x0 x1 x2 x3) (h : P d) : P (Dev.putBurst d x0 x1 x2 x3).2 := by
  unfold Dev.putBurst
  try dsimp only
  with_reducible repeat' first | assumption | apply Dev.devWrites_keeps c | apply Dev.emit_keeps c | apply ite_keeps | split
theorem Dev.haulBurst_keeps (c : Keeps P) (d x0 x1) (h : P d) : P (Dev.haulBurst d x0 x1).2 := by
  unfold Dev.haulBurst
  try dsimp only
  with_reducible repeat' first
    | assumption | apply Dev.takeSide_keeps c | apply Dev.putBurst_keeps c | apply ite_keeps
    | refine snd_keeps (by assumption) ?_ | refine fst_keeps (by assumption) ?_ | split
theorem Dev.haulBursts_keeps (c : Keeps P) (d w cause n) (h : P d) : P (Dev.haulBursts d w cause n).2 := by
  induction n generalizing d w with
  | zero => exact h
  | succ k ih =>
    have h' := Dev.haulBurst_keeps c d w cause h
    unfold Dev.haulBursts
    split
    · exact h
    · split <;> rename_i heq <;> rw [heq] at h'
      · exact h'
      · exact ih _ _ h'
theorem Dev.haulFetch_keeps (c : Keeps P) (d x0 x1) (h : P d) : P (Dev.haulFetch d x0 x1).2 := by
  unfold Dev.haulFetch
  try dsimp only
  with_reducible repeat' first | assumption | apply Dev.emit_keeps c | apply ite_keeps | split
theorem Dev.haulEnd_keeps (c : Keeps P) (d x0 x1) (h : P d) : P (Dev.haulEnd d x0 x1) := by
  unfold Dev.haulEnd
  try dsimp only
  with_reducible repeat' first
    | assumption | apply Dev.linePulse_keeps c | apply Dev.setHaulRun_keeps c
    | (apply Dev.endProgram_keeps c; intro d n hd)
theorem Dev.moveImage_keeps (c : Keeps P) (d x0 x1) (h : P d) : P (Dev.moveImage d x0 x1) := by
  unfold Dev.moveImage
  try dsimp only
  with_reducible repeat' first
    | assumption | apply Dev.setBytes_keeps c | (apply foldl_keeps; intro d x hd) | apply ite_keeps
    | refine snd_keeps (by assumption) ?_ | refine fst_keeps (by assumption) ?_ | split
theorem Dev.loadBusError_keeps (c : Keeps P) (d x0 x1 x2 x3) (h : P d) : P (Dev.loadBusError d x0 x1 x2 x3) := by
  unfold Dev.loadBusError
  try dsimp only
  with_reducible repeat' first
    | assumption | apply Dev.endLoad_keeps c | apply Dev.linePulse_keeps c | apply Dev.moveImage_keeps c
    | apply Dev.setHaulRun_keeps c | (apply Dev.endProgram_keeps c; intro d n hd) | apply Dev.barFailed_keeps c | apply ite_keeps
theorem Dev.haulWaits_keeps (c : Keeps P) (d x0) (h : P d) : P (Dev.haulWaits d x0) := by
  unfold Dev.haulWaits
  try dsimp only
  with_reducible repeat' first | assumption | apply Dev.setHaulRun_keeps c
theorem Dev.haulIns_keeps (c : Keeps P) (d op ins f) (hf : ∀ d r ws, P d → P (f d r ws)) (h : P d) : P (Dev.haulIns d op ins f) := by
  unfold Dev.haulIns
  try dsimp only
  with_reducible repeat' first
    | assumption | apply hf | apply Dev.haulWaits_keeps c | apply Dev.haulEnd_keeps c
    | apply Dev.haulFetch_keeps c | apply ite_keeps | refine snd_keeps (by assumption) ?_ | split
theorem Dev.haulIndex_keeps (c : Keeps P) (d x0 x1 x2 x3) (h : P d) : P (Dev.haulIndex d x0 x1 x2 x3).2 := by
  unfold Dev.haulIndex
  try dsimp only
  with_reducible repeat' first
    | assumption | apply Dev.takeSide_keeps c | refine snd_keeps (by assumption) ?_
    | refine fst_keeps (by assumption) ?_ | split
theorem Dev.haulGo_keeps (c : Keeps P) (d x0 x1) (h : P d) : P (Dev.haulGo d x0 x1) := by
  unfold Dev.haulGo
  try dsimp only
  with_reducible repeat' first | assumption | apply Dev.haulEnd_keeps c | apply Dev.setHaulRun_keeps c | apply ite_keeps
theorem Dev.haulRunBursts_keeps (c : Keeps P) (d x0 x1 x2) (h : P d) : P (Dev.haulRunBursts d x0 x1 x2) := by
  unfold Dev.haulRunBursts
  try dsimp only
  with_reducible repeat' first
    | assumption | apply Dev.haulEnd_keeps c | apply Dev.setHaulRun_keeps c | apply Dev.haulBursts_keeps c
    | apply Dev.setHaulUse_keeps c | apply Dev.haulGo_keeps c | apply ite_keeps | refine snd_keeps (by assumption) ?_
    | refine fst_keeps (by assumption) ?_ | split
theorem Dev.haulTransfer_keeps (c : Keeps P) (d x0 x1 x2 x3 x4 x5) (h : P d) : P (Dev.haulTransfer d x0 x1 x2 x3 x4 x5) := by
  unfold Dev.haulTransfer
  try dsimp only
  with_reducible repeat' first
    | assumption | apply Dev.haulIndex_keeps c | apply Dev.haulRunBursts_keeps c | apply Dev.haulEnd_keeps c
    | apply Dev.setHaulRun_keeps c | apply Dev.haulWaits_keeps c | apply Dev.haulGo_keeps c | apply ite_keeps
    | refine snd_keeps (by assumption) ?_ | refine fst_keeps (by assumption) ?_ | split
theorem Dev.haulBusError_keeps (c : Keeps P) (d x0 x1 x2 x3 x4 x5) (h : P d) : P (Dev.haulBusError d x0 x1 x2 x3 x4 x5) := by
  unfold Dev.haulBusError
  try dsimp only
  with_reducible repeat' first
    | assumption | apply Dev.haulFetch_keeps c | apply Dev.haulEnd_keeps c | apply Dev.loadBusError_keeps c
    | (apply Dev.haulIns_keeps c; intro d r ws hd) | apply Dev.haulTransfer_keeps c | apply Dev.haulBurst_keeps c | apply Dev.emit_keeps c
    | apply ite_keeps | refine snd_keeps (by assumption) ?_ | refine fst_keeps (by assumption) ?_ | split
theorem Dev.loadCompare_keeps (c : Keeps P) (d x0 x1 x2) (h : P d) : P (Dev.loadCompare d x0 x1 x2) := by
  unfold Dev.loadCompare
  try dsimp only
  with_reducible repeat' first
    | assumption | apply Dev.setHaulRun_keeps c | apply Dev.endLoadRun_keeps c | apply Dev.emit_keeps c
    | refine snd_keeps (by assumption) ?_ | refine fst_keeps (by assumption) ?_ | split
theorem Dev.loadMove_keeps (c : Keeps P) (d x0 x1 x2) (h : P d) : P (Dev.loadMove d x0 x1 x2) := by
  unfold Dev.loadMove
  try dsimp only
  with_reducible repeat' first
    | assumption | apply Dev.moveImage_keeps c | apply Dev.acceptBar_keeps c | apply Dev.setHaulRun_keeps c
    | apply Dev.endLoadRun_keeps c | apply Dev.barFailed_keeps c | apply Dev.emit_keeps c | apply ite_keeps
    | refine snd_keeps (by assumption) ?_ | refine fst_keeps (by assumption) ?_ | split
theorem Dev.haulLoad_keeps (c : Keeps P) (d x0 x1) (h : P d) : P (Dev.haulLoad d x0 x1) := by
  unfold Dev.haulLoad
  try dsimp only
  with_reducible repeat' first
    | assumption | apply Dev.loadCompare_keeps c | apply Dev.loadMove_keeps c | apply Dev.haulWaits_keeps c
    | apply Dev.setHaulUse_keeps c | apply ite_keeps | refine snd_keeps (by assumption) ?_ | refine fst_keeps (by assumption) ?_ | split
theorem Dev.haulCmp_keeps (c : Keeps P) (d x0 x1 x2) (h : P d) : P (Dev.haulCmp d x0 x1 x2) := by
  unfold Dev.haulCmp
  try dsimp only
  with_reducible repeat' first
    | assumption | apply Dev.haulLoad_keeps c | (apply Dev.haulIns_keeps c; intro d r ws hd)
    | apply Dev.haulTransfer_keeps c | apply ite_keeps
theorem Dev.haulEndIns_keeps (c : Keeps P) (d x0) (h : P d) : P (Dev.haulEndIns d x0) := by
  unfold Dev.haulEndIns
  try dsimp only
  with_reducible repeat' first | assumption | apply Dev.haulEnd_keeps c | apply Dev.setHaulRun_keeps c | apply ite_keeps
theorem Dev.haulLoopIns_keeps (c : Keeps P) (d x0 x1) (h : P d) : P (Dev.haulLoopIns d x0 x1) := by
  unfold Dev.haulLoopIns
  try dsimp only
  with_reducible repeat' first
    | assumption | apply Dev.haulEnd_keeps c | apply Dev.haulGo_keeps c | apply ite_keeps
    | refine snd_keeps (by assumption) ?_ | refine fst_keeps (by assumption) ?_ | split
theorem Dev.haulMove_keeps (c : Keeps P) (d x0 x1) (h : P d) : P (Dev.haulMove d x0 x1) := by
  unfold Dev.haulMove
  try dsimp only
  with_reducible repeat' first
    | assumption | apply Dev.haulLoad_keeps c | (apply Dev.haulIns_keeps c; intro d r ws hd)
    | apply Dev.haulTransfer_keeps c
theorem Dev.haulNextIns_keeps (c : Keeps P) (d x0 x1) (h : P d) : P (Dev.haulNextIns d x0 x1) := by
  unfold Dev.haulNextIns
  try dsimp only
  with_reducible repeat' first | assumption | apply Dev.haulGo_keeps c
theorem Dev.haulRequested_keeps (c : Keeps P) (d x0 x1) (h : P d) : P (Dev.haulRequested d x0 x1) := by
  unfold Dev.haulRequested
  try dsimp only
  with_reducible repeat' first
    | assumption | apply Dev.haulRunBursts_keeps c | apply ite_keeps | refine snd_keeps (by assumption) ?_
    | refine fst_keeps (by assumption) ?_ | split
theorem Dev.haulReread_keeps (c : Keeps P) (d x0) (h : P d) : P (Dev.haulReread d x0) := by
  unfold Dev.haulReread
  try dsimp only
  with_reducible repeat' first
    | assumption | apply Dev.haulNextIns_keeps c | apply Dev.haulEnd_keeps c | apply Dev.emit_keeps c
    | apply ite_keeps | refine snd_keeps (by assumption) ?_ | refine fst_keeps (by assumption) ?_ | split
theorem Dev.haulTimeout_keeps (c : Keeps P) (d x0) (h : P d) : P (Dev.haulTimeout d x0) := by
  unfold Dev.haulTimeout
  try dsimp only
  with_reducible repeat' first | assumption | apply Dev.haulEnd_keeps c | (apply Dev.haulIns_keeps c; intro d r ws hd) | apply ite_keeps
theorem Dev.haulUe_keeps (c : Keeps P) (d) (h : P d) : P (Dev.haulUe d) := by
  unfold Dev.haulUe
  try dsimp only
  with_reducible repeat' first
    | assumption | apply Dev.freeNat_keeps c | apply Dev.haulEnd_keeps c | apply Dev.loadBusError_keeps c
    | refine snd_keeps (by assumption) ?_ | refine fst_keeps (by assumption) ?_ | split
theorem Dev.haulWaitIns_keeps (c : Keeps P) (d x0 x1) (h : P d) : P (Dev.haulWaitIns d x0 x1) := by
  unfold Dev.haulWaitIns
  try dsimp only
  with_reducible repeat' first | assumption | apply Dev.haulWaits_keeps c | apply Dev.haulGo_keeps c | apply ite_keeps
theorem Dev.hkcPush_keeps (c : Keeps P) (d x0 x1) (h : P d) : P (Dev.hkcPush d x0 x1) := by
  unfold Dev.hkcPush
  try dsimp only
  with_reducible repeat' first
    | assumption | apply Dev.flag_keeps c | apply Dev.setFifo_keeps c | apply Dev.count_keeps c
    | apply ite_keeps
theorem Dev.hkcEmit_keeps (c : Keeps P) (d x0 x1 x2 x3 x4) (h : P d) : P (Dev.hkcEmit d x0 x1 x2 x3 x4) := by
  unfold Dev.hkcEmit
  try dsimp only
  with_reducible repeat' first | assumption | apply Dev.setReg_keeps c | apply Dev.hkcPush_keeps c | apply ite_keeps
theorem Dev.hkcExcite_keeps (c : Keeps P) (d x0 x1 x2) (h : P d) : P (Dev.hkcExcite d x0 x1 x2) := by
  unfold Dev.hkcExcite
  try dsimp only
  with_reducible repeat' first | assumption | apply Dev.emit_keeps c | apply ite_keeps
theorem Dev.hkcRunEntry_keeps (c : Keeps P) (acc c0 s e conv) (h : P acc.1) : P (Dev.hkcRunEntry acc c0 s e conv).1 := by
  unfold Dev.hkcRunEntry
  try dsimp only
  with_reducible repeat' first
    | assumption | apply Dev.setHkc_keeps c | apply Dev.hkcEmit_keeps c | apply Dev.flagIf_keeps c
    | apply Dev.hkcEntry_keeps c | apply Dev.hkcExcite_keeps c | apply Dev.setReg_keeps c | apply Dev.setF_keeps c
    | apply Dev.set64_keeps c | apply Dev.flag_keeps c | apply ite_keeps
theorem Dev.hkcPass_keeps (c : Keeps P) (d x0 x1) (h : P d) : P (Dev.hkcPass d x0 x1) := by
  unfold Dev.hkcPass
  try dsimp only
  with_reducible repeat' first
    | assumption | apply Dev.stamped_keeps c | apply Dev.set64_keeps c | apply Dev.flagIf_keeps c
    | apply Dev.hkcApply_keeps c | apply Dev.setF_keeps c | apply Dev.hkcRunEntry_keeps c | (apply foldl_keeps; intro d x hd)
    | (apply foldl_fst_keeps; intro d x hd) | (apply foldl_snd_keeps; intro d x hd) | apply ite_keeps
theorem Dev.holdover_keeps (c : Keeps P) (d x0) (h : P d) : P (Dev.holdover d x0) := by
  unfold Dev.holdover
  try dsimp only
  with_reducible repeat' first | assumption | apply Dev.setDisc_keeps c | apply Dev.setF_keeps c | apply ite_keeps
theorem Dev.hostRead_keeps (c : Keeps P) (d x0 x1) (h : P d) : P (Dev.hostRead d x0 x1) := by
  unfold Dev.hostRead
  try dsimp only
  with_reducible repeat' first | assumption | apply Dev.readWord_keeps c | apply Dev.emit_keeps c | apply ite_keeps
theorem Dev.i2cDone_keeps (c : Keeps P) (d x0) (h : P d) : P (Dev.i2cDone d x0) := by
  unfold Dev.i2cDone
  try dsimp only
  with_reducible repeat' first
    | assumption | apply Dev.i2cEnd_keeps c | apply Dev.emit_keeps c | refine snd_keeps (by assumption) ?_
    | refine fst_keeps (by assumption) ?_ | split
theorem Dev.i2cStall_keeps (c : Keeps P) (d x0) (h : P d) : P (Dev.i2cStall d x0) := by
  unfold Dev.i2cStall
  try dsimp only
  with_reducible repeat' first
    | assumption | apply Dev.i2cEnd_keeps c | apply Dev.emit_keeps c | apply ite_keeps
    | refine snd_keeps (by assumption) ?_ | refine fst_keeps (by assumption) ?_ | split
theorem Dev.i2cStuck_keeps (c : Keeps P) (d x0) (h : P d) : P (Dev.i2cStuck d x0) := by
  unfold Dev.i2cStuck
  try dsimp only
  with_reducible repeat' first
    | assumption | apply Dev.i2cEnd_keeps c | apply Dev.emit_keeps c | refine snd_keeps (by assumption) ?_
    | refine fst_keeps (by assumption) ?_ | split
theorem Dev.injectionDone_keeps (c : Keeps P) (d x0) (h : P d) : P (Dev.injectionDone d x0) := by
  unfold Dev.injectionDone
  try dsimp only
  with_reducible repeat' first | assumption | apply Dev.setGrp_keeps c | apply Dev.setF_keeps c | apply ite_keeps
theorem Dev.jtag_keeps (c : Keeps P) (d f) (hf : ∀ d, P d → P (f d)) (h : P d) : P (Dev.jtag d f) := by
  unfold Dev.jtag
  try dsimp only
  with_reducible repeat' first
    | assumption | apply hf | apply Dev.complete_keeps c | apply Dev.emit_keeps c | apply Dev.accessErr_keeps c
    | apply ite_keeps
theorem Dev.lanesOff_keeps (c : Keeps P) (d) (h : P d) : P (Dev.lanesOff d) := by
  unfold Dev.lanesOff
  try dsimp only
  with_reducible repeat' first | assumption | apply Dev.setLane_keeps c | apply Dev.showLanes_keeps c | (apply foldl_keeps; intro d x hd)
theorem Dev.latchEdge_keeps (c : Keeps P) (d x0 x1 x2) (h : P d) : P (Dev.latchEdge d x0 x1 x2) := by
  unfold Dev.latchEdge
  try dsimp only
  with_reducible repeat' first
    | assumption | apply Dev.stamped_keeps c | apply Dev.set64_keeps c | apply Dev.flag_keeps c
    | apply Dev.setAx_keeps c | apply ite_keeps | refine snd_keeps (by assumption) ?_ | refine fst_keeps (by assumption) ?_ | split
    | fail_if_no_progress refine Keeps.mk' c ?_ rfl rfl rfl rfl
theorem Dev.openMeas_keeps (c : Keeps P) (d x0 x1) (h : P d) : P (Dev.openMeas d x0 x1) := by
  unfold Dev.openMeas
  try dsimp only
  with_reducible repeat' first | assumption | apply Dev.flagIf_keeps c | apply Dev.setMeas_keeps c | apply ite_keeps
theorem Dev.surveyLead_keeps (c : Keeps P) (d x0 x1 x2) (h : P d) : P (Dev.surveyLead d x0 x1 x2) := by
  unfold Dev.surveyLead
  try dsimp only
  with_reducible repeat' first
    | assumption | apply Dev.openMeas_keeps c | (apply foldl_keeps; intro d x hd)
    | (apply foldl_fst_keeps; intro d x hd) | (apply foldl_snd_keeps; intro d x hd) | apply ite_keeps | split
    | fail_if_no_progress refine Keeps.mk' c ?_ rfl rfl rfl rfl
theorem Dev.leadOff_keeps (c : Keeps P) (d x0) (h : P d) : P (Dev.leadOff d x0) := by
  unfold Dev.leadOff
  try dsimp only
  with_reducible repeat' first
    | assumption | apply Dev.keepRow_keeps c | apply Dev.trackRow_keeps c | apply Dev.freshen_keeps c
    | apply Dev.surveyLead_keeps c | apply Dev.leaveGallery_keeps c | apply ite_keeps | refine snd_keeps (by assumption) ?_
    | refine fst_keeps (by assumption) ?_ | split
theorem Dev.startLead_keeps (c : Keeps P) (d x0 x1) (h : P d) : P (Dev.startLead d x0 x1) := by
  unfold Dev.startLead
  try dsimp only
  with_reducible repeat' first
    | assumption | apply Dev.stamped_keeps c | apply Dev.showLantern_keeps c | apply Dev.applySets_keeps c
    | apply Dev.leadPins_keeps c | apply Dev.refreshLock_keeps c | fail_if_no_progress refine Keeps.mk' c ?_ rfl rfl rfl rfl
theorem Dev.leadTrigger_keeps (c : Keeps P) (d) (h : P d) : P (Dev.leadTrigger d) := by
  unfold Dev.leadTrigger
  try dsimp only
  with_reducible repeat' first
    | assumption | apply Dev.reconFallback_keeps c | apply Dev.flag_keeps c | apply Dev.holdQueue_keeps c
    | apply Dev.setLeadHwm_keeps c | apply Dev.startLead_keeps c | apply Dev.count_keeps c | apply Dev.irq_keeps c | apply ite_keeps
    | refine snd_keeps (by assumption) ?_ | refine fst_keeps (by assumption) ?_ | split
    | fail_if_no_progress refine Keeps.mk' c ?_ rfl rfl rfl rfl
theorem Dev.ledgerWrite_keeps (c : Keeps P) (d) (h : P d) : P (Dev.ledgerWrite d) := by
  unfold Dev.ledgerWrite
  try dsimp only
  with_reducible repeat' first
    | assumption | apply Dev.setF_keeps c | refine snd_keeps (by assumption) ?_
    | refine fst_keeps (by assumption) ?_ | split | fail_if_no_progress refine Keeps.mk' c ?_ rfl rfl rfl rfl
theorem Dev.limitStop_keeps (c : Keeps P) (d) (h : P d) : P (Dev.limitStop d) := by
  unfold Dev.limitStop
  try dsimp only
  with_reducible repeat' first | assumption | apply ite_keeps | fail_if_no_progress refine Keeps.mk' c ?_ rfl rfl rfl rfl
theorem Dev.limitSwitch_keeps (c : Keeps P) (d x0 x1) (h : P d) : P (Dev.limitSwitch d x0 x1) := by
  unfold Dev.limitSwitch
  try dsimp only
  with_reducible repeat' first | assumption | apply Dev.limitStop_keeps c | apply Dev.setB_keeps c | apply ite_keeps
theorem Dev.lineTimeout_keeps (c : Keeps P) (d x0 x1) (h : P d) : P (Dev.lineTimeout d x0 x1) := by
  unfold Dev.lineTimeout
  try dsimp only
  with_reducible repeat' first
    | assumption | apply Dev.missing_keeps c | refine Dev.takeExpect_keeps c (by assumption) ?_
    | apply ite_keeps | refine snd_keeps (by assumption) ?_ | refine fst_keeps (by assumption) ?_ | split
theorem Dev.linkDown_keeps (c : Keeps P) (d x0) (h : P d) : P (Dev.linkDown d x0) := by
  unfold Dev.linkDown
  try dsimp only
  with_reducible repeat' first
    | assumption | apply Dev.setPort_keeps c | apply Dev.flag_keeps c | apply Dev.setF_keeps c
    | apply ite_keeps
theorem Dev.linkTrained_keeps (c : Keeps P) (d) (h : P d) : P (Dev.linkTrained d) := by
  unfold Dev.linkTrained
  try dsimp only
  with_reducible repeat' first | assumption | apply ite_keeps | fail_if_no_progress refine Keeps.mk' c ?_ rfl rfl rfl rfl
theorem Dev.linkUp_keeps (c : Keeps P) (d x0) (h : P d) : P (Dev.linkUp d x0) := by
  unfold Dev.linkUp
  try dsimp only
  with_reducible repeat' first | assumption | apply Dev.setPort_keeps c | apply ite_keeps
theorem Dev.loadCells_keeps (c : Keeps P) (d x0) (h : P d) : P (Dev.loadCells d x0) := by
  unfold Dev.loadCells
  try dsimp only
  with_reducible repeat' first
    | assumption | apply Dev.emit_keeps c | apply ite_keeps | refine snd_keeps (by assumption) ?_
    | refine fst_keeps (by assumption) ?_ | split | fail_if_no_progress refine Keeps.mk' c ?_ rfl rfl rfl rfl
theorem Dev.loadIr_keeps (c : Keeps P) (d x0) (h : P d) : P (Dev.loadIr d x0) := by
  unfold Dev.loadIr
  try dsimp only
  with_reducible repeat' first
    | assumption | apply Dev.flag_keeps c | apply Dev.emit_keeps c | apply ite_keeps
    | fail_if_no_progress refine Keeps.mk' c ?_ rfl rfl rfl rfl
theorem Dev.logMove_keeps (c : Keeps P) (d x0 x1 x2 x3 x4) (h : P d) : P (Dev.logMove d x0 x1 x2 x3 x4).2 := by
  unfold Dev.logMove
  try dsimp only
  with_reducible repeat' first
    | assumption | apply Dev.flagIf_keeps c | apply Dev.setMem_keeps c | apply Dev.setF_keeps c
    | fail_if_no_progress refine Keeps.mk' c ?_ rfl rfl rfl rfl
theorem Dev.logResume_keeps (c : Keeps P) (d x0 x1) (h : P d) : P (Dev.logResume d x0 x1) := by
  unfold Dev.logResume
  try dsimp only
  with_reducible repeat' first | assumption | apply Dev.setMem_keeps c | apply ite_keeps
theorem Dev.stepPulses_keeps (c : Keeps P) (d x0 x1) (h : P d) : P (Dev.stepPulses d x0 x1) := by
  unfold Dev.stepPulses
  try dsimp only
  with_reducible repeat' first
    | assumption | apply Dev.flagIf_keeps c | apply Dev.setAx_keeps c | apply Dev.emit_keeps c
    | apply ite_keeps
theorem Dev.setDemand_keeps (c : Keeps P) (d x0 x1 x2) (h : P d) : P (Dev.setDemand d x0 x1 x2) := by
  unfold Dev.setDemand
  try dsimp only
  with_reducible repeat' first | assumption | apply Dev.coilPhase_keeps c | apply Dev.setAx_keeps c | apply ite_keeps
theorem Dev.loopAxis_keeps (c : Keeps P) (d x0) (h : P d) : P (Dev.loopAxis d x0) := by
  unfold Dev.loopAxis
  try dsimp only
  with_reducible repeat' first
    | assumption | apply Dev.stepPulses_keeps c | apply Dev.setPower_keeps c | apply Dev.setDemand_keeps c
    | apply Dev.setAx_keeps c | apply Dev.coilPeriod_keeps c | apply Dev.setF_keeps c | apply ite_keeps
theorem Dev.ltnConfig_keeps (c : Keeps P) (d x0 x1 x2) (h : P d) : P (Dev.ltnConfig d x0 x1 x2) := by
  unfold Dev.ltnConfig
  try dsimp only
  with_reducible repeat' first
    | assumption | apply Dev.seqWrite_keeps c | refine snd_keeps (by assumption) ?_
    | refine fst_keeps (by assumption) ?_ | split
theorem Dev.mapPlane_keeps (c : Keeps P) (d x0 x1 x2) (h : P d) : P (Dev.mapPlane d x0 x1 x2) := by
  unfold Dev.mapPlane
  try dsimp only
  with_reducible repeat' first | assumption | apply Dev.mapLine_keeps c
theorem Dev.migrated_keeps (c : Keeps P) (d) (h : P d) : P (Dev.migrated d) := by
  unfold Dev.migrated
  try dsimp only
  with_reducible repeat' first
    | assumption | apply Dev.ledgerEvent_keeps c | apply Dev.flag_keeps c | refine snd_keeps (by assumption) ?_
    | refine fst_keeps (by assumption) ?_ | split | fail_if_no_progress refine Keeps.mk' c ?_ rfl rfl rfl rfl
theorem Dev.modTime_keeps (c : Keeps P) (d x0) (h : P d) : P (Dev.modTime d x0) := by
  unfold Dev.modTime
  try dsimp only
  with_reducible repeat' first | assumption | apply Dev.cqSignal_keeps c | apply ite_keeps
theorem Dev.pllRefresh_keeps (c : Keeps P) (d) (h : P d) : P (Dev.pllRefresh d) := by
  unfold Dev.pllRefresh
  try dsimp only
  with_reducible repeat' first | assumption | apply Dev.setB_keeps c | (apply foldl_keeps; intro d x hd)
theorem Dev.serviceEnd_keeps (c : Keeps P) (d) (h : P d) : P (Dev.serviceEnd d) := by
  unfold Dev.serviceEnd
  try dsimp only
  with_reducible repeat' first
    | assumption | apply Dev.setSource_keeps c | apply Dev.setCh_keeps c | apply Dev.setF_keeps c
    | (apply forGC_keeps; intro d g c' hd) | (apply foldl_keeps; intro d x hd) | apply ite_keeps
theorem Dev.modeDone_keeps (c : Keeps P) (d) (h : P d) : P (Dev.modeDone d) := by
  unfold Dev.modeDone
  try dsimp only
  with_reducible repeat' first
    | assumption | apply Dev.secRefresh_keeps c | apply Dev.pllRefresh_keeps c | apply Dev.powerAll_keeps c
    | apply Dev.lanesOff_keeps c | apply Dev.serviceEnd_keeps c | apply Dev.enterDormant_keeps c | apply Dev.setF_keeps c
    | apply Dev.setMode_keeps c | apply ite_keeps | refine snd_keeps (by assumption) ?_ | refine fst_keeps (by assumption) ?_ | split
    | fail_if_no_progress refine Keeps.mk' c ?_ rfl rfl rfl rfl
theorem Dev.msixWrite_keeps (c : Keeps P) (d x0 x1) (h : P d) : P (Dev.msixWrite d x0 x1) := by
  unfold Dev.msixWrite
  try dsimp only
  with_reducible repeat' first | assumption | apply Dev.pbaSend_keeps c | fail_if_no_progress refine Keeps.mk' c ?_ rfl rfl rfl rfl
theorem Dev.msixUnmask_keeps (c : Keeps P) (d x0) (h : P d) : P (Dev.msixUnmask d x0) := by
  unfold Dev.msixUnmask
  try dsimp only
  with_reducible repeat' first | assumption | apply Dev.msixWrite_keeps c
theorem Dev.openBuf_keeps (c : Keeps P) (d x0 x1) (h : P d) : P (Dev.openBuf d x0 x1) := by
  unfold Dev.openBuf
  try dsimp only
  with_reducible repeat' first
    | assumption | apply Dev.setCtx_keeps c | apply Dev.setSupply_keeps c | refine snd_keeps (by assumption) ?_
    | refine fst_keeps (by assumption) ?_ | split
theorem Dev.otpRow_keeps (c : KeepsOtp P) (d x0 x1 x2 x3 x4 x5) (h : P d) : P (Dev.otpRow d x0 x1 x2 x3 x4 x5) := by
  unfold Dev.otpRow
  try dsimp only
  with_reducible repeat' first
    | assumption | ((apply Dev.storeCmd_keeps c.toKeeps); intro d hd) | apply Dev.otpRequest_keeps c
    | apply ite_keeps
theorem Dev.overcurrent_keeps (c : Keeps P) (d x0 x1 x2) (h : P d) : P (Dev.overcurrent d x0 x1 x2) := by
  unfold Dev.overcurrent
  try dsimp only
  with_reducible repeat' first
    | assumption | apply Dev.setPower_keeps c | apply Dev.haltMove_keeps c | apply Dev.setF_keeps c
    | apply Dev.refFail_keeps c | apply ite_keeps | fail_if_no_progress refine Keeps.mk' c ?_ rfl rfl rfl rfl
theorem Dev.pdReq_keeps (c : Keeps P) (d x0) (h : P d) : P (Dev.pdReq d x0) := by
  unfold Dev.pdReq
  try dsimp only
  with_reducible repeat' first
    | assumption | apply Dev.setPort_keeps c | apply Dev.setTet_keeps c | apply Dev.sendLink_keeps c
    | apply ite_keeps
theorem Dev.perstHigh_keeps (c : Keeps P) (d) (h : P d) : P (Dev.perstHigh d) := by
  unfold Dev.perstHigh
  try dsimp only
  with_reducible repeat' first
    | assumption | apply Dev.emit_keeps c | apply ite_keeps
    | fail_if_no_progress refine Keeps.mk' c ?_ rfl rfl rfl rfl
theorem Dev.planFeed_keeps (c : Keeps P) (d x0) (h : P d) : P (Dev.planFeed d x0).1 := by
  unfold Dev.planFeed
  try dsimp only
  with_reducible repeat' first
    | assumption | apply Dev.logResume_keeps c | apply Dev.logMove_keeps c
    | refine snd_keeps (by assumption) ?_ | refine fst_keeps (by assumption) ?_ | split
theorem Dev.putMove_keeps (c : Keeps P) (d x0) (h : P d) : P (Dev.putMove d x0) := by
  unfold Dev.putMove
  try dsimp only
  with_reducible repeat' first | assumption | apply ite_keeps | fail_if_no_progress refine Keeps.mk' c ?_ rfl rfl rfl rfl
theorem Dev.planMove_keeps (c : Keeps P) (d x0) (h : P d) : P (Dev.planMove d x0) := by
  unfold Dev.planMove
  try dsimp only
  with_reducible repeat' first
    | assumption | apply Dev.putMove_keeps c | apply Dev.endMove_keeps c | apply Dev.planFeed_keeps c
    | apply Dev.setAx_keeps c | apply Dev.halt_keeps c | (apply foldl_keeps; intro d x hd) | (apply foldl_fst_keeps; intro d x hd)
    | (apply foldl_snd_keeps; intro d x hd) | apply ite_keeps
theorem Dev.pllLost_keeps (c : Keeps P) (d x0 x1) (h : P d) : P (Dev.pllLost d x0 x1) := by
  unfold Dev.pllLost
  try dsimp only
  with_reducible repeat' first | assumption | apply Dev.flag_keeps c | apply Dev.setF_keeps c | apply ite_keeps
theorem Dev.ppsEdge_keeps (c : Keeps P) (d) (h : P d) : P (Dev.ppsEdge d) := by
  unfold Dev.ppsEdge
  try dsimp only
  with_reducible repeat' first | assumption | apply Dev.measureBase_keeps c | apply Dev.eventStamp_keeps c | apply ite_keeps
theorem Dev.ppsOut_keeps (c : Keeps P) (d) (h : P d) : P (Dev.ppsOut d) := by
  unfold Dev.ppsOut
  try dsimp only
  with_reducible repeat' first | assumption | apply Dev.emit_keeps c | apply ite_keeps
theorem Dev.prepDone_keeps (c : Keeps P) (d x0 x1 x2) (h : P d) : P (Dev.prepDone d x0 x1 x2) := by
  unfold Dev.prepDone
  try dsimp only
  with_reducible repeat' first
    | assumption | apply Dev.setReg_keeps c | apply Dev.setRb_keeps c | apply Dev.rbRestart_keeps c
    | apply Dev.refCheck_keeps c | apply Dev.connect_keeps c | apply Dev.setGrp_keeps c | apply Dev.calChan_keeps c
    | apply Dev.rbIdle_keeps c | apply ite_keeps | refine snd_keeps (by assumption) ?_ | refine fst_keeps (by assumption) ?_ | split
theorem Dev.ptmDialog_keeps (c : Keeps P) (d x0) (h : P d) : P (Dev.ptmDialog d x0) := by
  unfold Dev.ptmDialog
  try dsimp only
  with_reducible repeat' first
    | assumption | apply Dev.measureBase_keeps c | apply ite_keeps | refine snd_keeps (by assumption) ?_
    | refine fst_keeps (by assumption) ?_ | split
theorem Dev.pwrOk_keeps (c : Keeps P) (d x0 x1) (h : P d) : P (Dev.pwrOk d x0 x1) := by
  unfold Dev.pwrOk
  try dsimp only
  with_reducible repeat' first
    | assumption | apply Dev.setCh_keeps c | apply Dev.connect_keeps c | apply Dev.setF_keeps c
    | apply ite_keeps | refine snd_keeps (by assumption) ?_ | refine fst_keeps (by assumption) ?_ | split
theorem Dev.rbCompare_keeps (c : Keeps P) (d x0 x1 x2) (h : P d) : P (Dev.rbCompare d x0 x1 x2) := by
  unfold Dev.rbCompare
  try dsimp only
  with_reducible repeat' first
    | assumption | apply Dev.flagIf_keeps c | apply Dev.setGrp_keeps c | apply Dev.compareEnd_keeps c
    | apply Dev.chargeMatch_keeps c | (apply foldl_keeps; intro d x hd) | (apply foldl_fst_keeps; intro d x hd)
    | (apply foldl_snd_keeps; intro d x hd) | apply ite_keeps | refine snd_keeps (by assumption) ?_ | refine fst_keeps (by assumption) ?_
    | split
theorem Dev.rbSwap_keeps (c : Keeps P) (d x0) (h : P d) : P (Dev.rbSwap d x0) := by
  unfold Dev.rbSwap
  try dsimp only
  with_reducible repeat' first
    | assumption | apply Dev.setReg_keeps c | apply Dev.setSource_keeps c | apply Dev.setRb_keeps c
    | apply Dev.retireCh_keeps c | apply Dev.ledgerEvent_keeps c | apply Dev.flag_keeps c | apply Dev.disconnect_keeps c
    | apply Dev.setCh_keeps c | apply Dev.setGrp_keeps c | apply ite_keeps | refine snd_keeps (by assumption) ?_
    | refine fst_keeps (by assumption) ?_ | split
theorem Dev.reconWait_keeps (c : Keeps P) (d x0) (h : P d) : P (Dev.reconWait d x0) := by
  unfold Dev.reconWait
  try dsimp only
  with_reducible repeat' first | assumption | apply Dev.reconFallback_keeps c
theorem Dev.reconnectionDone_keeps (c : Keeps P) (d x0 x1 x2) (h : P d) : P (Dev.reconnectionDone d x0 x1 x2) := by
  unfold Dev.reconnectionDone
  try dsimp only
  with_reducible repeat' first
    | assumption | apply Dev.setSource_keeps c | apply Dev.setCh_keeps c | apply Dev.commitPoint_keeps c
    | apply Dev.setF_keeps c | apply ite_keeps | refine snd_keeps (by assumption) ?_ | refine fst_keeps (by assumption) ?_ | split
theorem Dev.reconstruction_keeps (c : Keeps P) (d x0 x1 x2) (h : P d) : P (Dev.reconstruction d x0 x1 x2) := by
  unfold Dev.reconstruction
  try dsimp only
  with_reducible repeat' first
    | assumption | apply Dev.mapLine_keeps c | apply Dev.handOff_keeps c | apply Dev.leadOff_keeps c
    | (apply foldl_keeps; intro d x hd) | apply ite_keeps | refine snd_keeps (by assumption) ?_ | refine fst_keeps (by assumption) ?_
    | split
theorem Dev.recordWrite_keeps (c : Keeps P) (d) (h : P d) : P (Dev.recordWrite d) := by
  unfold Dev.recordWrite
  try dsimp only
  with_reducible repeat' first
    | assumption | apply Dev.checkStop_keeps c | apply Dev.setCtx_keeps c | apply Dev.openBuf_keeps c
    | apply Dev.roomCheck_keeps c | apply Dev.closeBuf_keeps c | apply Dev.setCtxCells_keeps c | apply Dev.emit_keeps c | apply ite_keeps
    | refine snd_keeps (by assumption) ?_ | refine fst_keeps (by assumption) ?_ | split
theorem Dev.sendRefEdge_keeps (c : Keeps P) (d x0) (h : P d) : P (Dev.sendRefEdge d x0) := by
  unfold Dev.sendRefEdge
  try dsimp only
  with_reducible repeat' first
    | assumption | apply Dev.originate_keeps c | apply ite_keeps | refine snd_keeps (by assumption) ?_
    | refine fst_keeps (by assumption) ?_ | split
theorem Dev.refDone_keeps (c : Keeps P) (d x0) (h : P d) : P (Dev.refDone d x0) := by
  unfold Dev.refDone
  try dsimp only
  with_reducible repeat' first
    | assumption | apply Dev.sendRefEdge_keeps c | apply Dev.redefine_keeps c | apply Dev.refReport_keeps c
    | apply Dev.setAx_keeps c | apply Dev.setF_keeps c | apply ite_keeps | refine snd_keeps (by assumption) ?_
    | refine fst_keeps (by assumption) ?_ | split
theorem Dev.refResult_keeps (c : Keeps P) (d x0 x1 x2) (h : P d) : P (Dev.refResult d x0 x1 x2) := by
  unfold Dev.refResult
  try dsimp only
  with_reducible repeat' first | assumption | apply Dev.setAx_keeps c
theorem Dev.refStep_keeps (c : Keeps P) (d x0) (h : P d) : P (Dev.refStep d x0) := by
  unfold Dev.refStep
  try dsimp only
  with_reducible repeat' first
    | assumption | apply Dev.redefine_keeps c | apply Dev.refResult_keeps c | apply Dev.refGo_keeps c
    | apply Dev.setAx_keeps c | apply ite_keeps | refine snd_keeps (by assumption) ?_ | refine fst_keeps (by assumption) ?_ | split
    | fail_if_no_progress refine Keeps.mk' c ?_ rfl rfl rfl rfl
theorem Dev.referenceMeasurement_keeps (c : Keeps P) (d x0 x1) (h : P d) : P (Dev.referenceMeasurement d x0 x1) := by
  unfold Dev.referenceMeasurement
  try dsimp only
  with_reducible repeat' first | assumption | apply Dev.measureBase_keeps c | apply ite_keeps
theorem Dev.replayDone_keeps (c : Keeps P) (d x0 x1 x2 x3) (h : P d) : P (Dev.replayDone d x0 x1 x2 x3) := by
  unfold Dev.replayDone
  try dsimp only
  with_reducible repeat' first
    | assumption | apply Dev.mapPlane_keeps c | apply Dev.leadOff_keeps c | apply ite_keeps
    | refine snd_keeps (by assumption) ?_ | refine fst_keeps (by assumption) ?_ | split
theorem Dev.resetMul_keeps (c : Keeps P) (d) (h : P d) : P (Dev.resetMul d) := by
  unfold Dev.resetMul
  try dsimp only
  with_reducible repeat' first
    | assumption | apply Dev.ledWearAll_keeps c | apply Dev.setF_keeps c | (apply foldl_keeps; intro d x hd)
    | fail_if_no_progress refine Keeps.mk' c ?_ rfl rfl rfl rfl
theorem Dev.resetStopped_keeps (c : Keeps P) (d x0) (h : P d) : P (Dev.resetStopped d x0) := by
  unfold Dev.resetStopped
  try dsimp only
  with_reducible repeat' first
    | assumption | apply Dev.setPower_keeps c | apply Dev.applyReset_keeps c
    | (apply foldl_keeps; intro d x hd) | apply ite_keeps | refine snd_keeps (by assumption) ?_ | refine fst_keeps (by assumption) ?_
    | split
theorem Dev.retireSlice_keeps (c : Keeps P) (d x0 x1) (h : P d) : P (Dev.retireSlice d x0 x1) := by
  unfold Dev.retireSlice
  try dsimp only
  with_reducible repeat' first
    | assumption | apply Dev.ledgerEvent_keeps c | apply Dev.flag_keeps c | apply Dev.setF_keeps c
    | apply Dev.irq_keeps c | apply ite_keeps | refine snd_keeps (by assumption) ?_ | refine fst_keeps (by assumption) ?_ | split
    | fail_if_no_progress refine Keeps.mk' c ?_ rfl rfl rfl rfl
theorem Dev.rotationStart_keeps (c : Keeps P) (d x0) (h : P d) : P (Dev.rotationStart d x0) := by
  unfold Dev.rotationStart
  try dsimp only
  with_reducible repeat' first
    | assumption | apply Dev.setRb_keeps c | apply Dev.setGrp_keeps c | apply Dev.setB_keeps c
    | apply ite_keeps | refine snd_keeps (by assumption) ?_ | refine fst_keeps (by assumption) ?_ | split
theorem Dev.rowErrors_keeps (c : Keeps P) (d x0 x1 x2) (h : P d) : P (Dev.rowErrors d x0 x1 x2) := by
  unfold Dev.rowErrors
  try dsimp only
  with_reducible repeat' first
    | assumption | apply Dev.ledgerEvent_keeps c | apply Dev.flag_keeps c | apply Dev.setF_keeps c
    | apply ite_keeps | split | fail_if_no_progress refine Keeps.mk' c ?_ rfl rfl rfl rfl
theorem Dev.stepMove_keeps (c : Keeps P) (d x0) (h : P d) : P (Dev.stepMove d x0) := by
  unfold Dev.stepMove
  try dsimp only
  with_reducible repeat' first
    | assumption | apply Dev.putMove_keeps c | apply Dev.endMove_keeps c | apply Dev.setAx_keeps c
    | apply Dev.followLeader_keeps c | apply ite_keeps
theorem Dev.runMoves_keeps (c : Keeps P) (d) (h : P d) : P (Dev.runMoves d) := by
  unfold Dev.runMoves
  try dsimp only
  with_reducible repeat' first
    | assumption | apply Dev.planMove_keeps c | apply Dev.stepMove_keeps c | apply Dev.limitStop_keeps c
    | (apply foldl_keeps; intro d x hd) | apply ite_keeps | refine snd_keeps (by assumption) ?_ | refine fst_keeps (by assumption) ?_
    | split
theorem Dev.sliceFail_keeps (c : Keeps P) (d x0) (h : P d) : P (Dev.sliceFail d x0) := by
  unfold Dev.sliceFail
  try dsimp only
  with_reducible repeat' first
    | assumption | apply Dev.retireSlice_keeps c | apply ite_keeps | refine snd_keeps (by assumption) ?_
    | refine fst_keeps (by assumption) ?_ | split | fail_if_no_progress refine Keeps.mk' c ?_ rfl rfl rfl rfl
theorem Dev.segmentJob_keeps (c : Keeps P) (d x0 x1 x2 x3) (h : P d) : P (Dev.segmentJob d x0 x1 x2 x3) := by
  unfold Dev.segmentJob
  try dsimp only
  with_reducible repeat' first
    | assumption | apply Dev.flag_keeps c | apply Dev.mapPlane_keeps c | apply Dev.sliceFail_keeps c
    | apply Dev.leadOff_keeps c | apply Dev.count_keeps c | apply ite_keeps | refine snd_keeps (by assumption) ?_
    | refine fst_keeps (by assumption) ?_ | split
theorem Dev.sendGovernor_keeps (c : Keeps P) (d) (h : P d) : P (Dev.sendGovernor d) := by
  unfold Dev.sendGovernor
  try dsimp only
  with_reducible repeat' first | assumption | apply Dev.originate_keeps c | apply ite_keeps
theorem Dev.sendSync_keeps (c : Keeps P) (d) (h : P d) : P (Dev.sendSync d) := by
  unfold Dev.sendSync
  try dsimp only
  with_reducible repeat' first | assumption | apply Dev.sendVia_keeps c | apply Dev.setTet_keeps c | apply ite_keeps
theorem Dev.sequenceEnd_keeps (c : Keeps P) (d x0 x1 x2) (h : P d) : P (Dev.sequenceEnd d x0 x1 x2) := by
  unfold Dev.sequenceEnd
  try dsimp only
  with_reducible repeat' first
    | assumption | apply Dev.endLine_keeps c | apply Dev.startMain_keeps c | apply Dev.holdQueue_keeps c
    | apply Dev.startLead_keeps c | apply ite_keeps | refine snd_keeps (by assumption) ?_ | refine fst_keeps (by assumption) ?_ | split
    | fail_if_no_progress refine Keeps.mk' c ?_ rfl rfl rfl rfl
theorem Dev.shutterMove_keeps (c : Keeps P) (d) (h : P d) : P (Dev.shutterMove d) := by
  unfold Dev.shutterMove
  try dsimp only
  with_reducible repeat' first
    | assumption | apply Dev.acceptMove_keeps c | apply Dev.calShutter_keeps c | apply Dev.newMove_keeps c
    | apply ite_keeps | refine snd_keeps (by assumption) ?_ | refine fst_keeps (by assumption) ?_ | split
    | fail_if_no_progress refine Keeps.mk' c ?_ rfl rfl rfl rfl
theorem Dev.servoStep_keeps (c : Keeps P) (d) (h : P d) : P (Dev.servoStep d) := by
  unfold Dev.servoStep
  try dsimp only
  with_reducible repeat' first
    | assumption | apply Dev.flowVisible_keeps c | apply Dev.axisAfter_keeps c | apply Dev.reschedule_keeps c
    | apply Dev.runMoves_keeps c | apply Dev.govStep_keeps c | apply Dev.axisPeriod_keeps c | apply Dev.refStep_keeps c
    | apply Dev.loopAxis_keeps c | apply Dev.sendGovernor_keeps c | apply Dev.holdsDone_keeps c | apply Dev.estopClear_keeps c
    | apply Dev.shutterMove_keeps c | (apply foldl_keeps; intro d x hd) | apply ite_keeps
    | fail_if_no_progress refine Keeps.mk' c ?_ rfl rfl rfl rfl
theorem Dev.setBusMaster_keeps (c : Keeps P) (d x0) (h : P d) : P (Dev.setBusMaster d x0) := by
  unfold Dev.setBusMaster
  try dsimp only
  with_reducible repeat' first
    | assumption | apply Dev.pbaSend_keeps c | (apply foldl_keeps; intro d x hd)
    | fail_if_no_progress refine Keeps.mk' c ?_ rfl rfl rfl rfl
theorem Dev.setNext_keeps (c : Keeps P) (d x0 x1 x2) (h : P d) : P (Dev.setNext d x0 x1 x2) := by
  unfold Dev.setNext
  try dsimp only
  with_reducible repeat' first
    | assumption | apply Dev.flag_keeps c | apply Dev.setF_keeps c | apply ite_keeps | split
    | fail_if_no_progress refine Keeps.mk' c ?_ rfl rfl rfl rfl
theorem Dev.shadingCommit_keeps (c : Keeps P) (d) (h : P d) : P (Dev.shadingCommit d) := by
  unfold Dev.shadingCommit
  try dsimp only
  with_reducible repeat' first
    | assumption | apply Dev.commitSet_keeps c | apply Dev.resetMul_keeps c | apply Dev.swap_keeps c
    | apply Dev.offerShadow_keeps c | apply Dev.calReport_keeps c | apply Dev.setF_keeps c | apply ite_keeps
    | refine snd_keeps (by assumption) ?_ | refine fst_keeps (by assumption) ?_ | split
theorem Dev.showWin_keeps (c : Keeps P) (d x0) (h : P d) : P (Dev.showWin d x0) := by
  unfold Dev.showWin
  try dsimp only
  with_reducible repeat' first | assumption | apply Dev.setFI_keeps c | apply Dev.setF_keeps c
theorem Dev.spareRotate_keeps (c : Keeps P) (d x0) (h : P d) : P (Dev.spareRotate d x0) := by
  unfold Dev.spareRotate
  try dsimp only
  with_reducible repeat' first
    | assumption | apply Dev.setLane_keeps c | apply Dev.showLanes_keeps c | apply ite_keeps
    | refine snd_keeps (by assumption) ?_ | refine fst_keeps (by assumption) ?_ | split
theorem Dev.sqError_keeps (c : Keeps P) (d x0 x1 x2) (h : P d) : P (Dev.sqError d x0 x1 x2) := by
  unfold Dev.sqError
  try dsimp only
  with_reducible repeat' first
    | assumption | apply Dev.post_keeps c | apply Dev.set64_keeps c | apply Dev.setF_keeps c
    | apply Dev.irq_keeps c
theorem Dev.sqDoorbell_keeps (c : Keeps P) (d x0 x1 x2) (h : P d) : P (Dev.sqDoorbell d x0 x1 x2) := by
  unfold Dev.sqDoorbell
  try dsimp only
  with_reducible repeat' first
    | assumption | apply Dev.cqWaits_keeps c | apply Dev.sqRefresh_keeps c | apply Dev.sqError_keeps c
    | apply Dev.setSq_keeps c | apply Dev.doorbellRefused_keeps c | apply ite_keeps
theorem Dev.sqFetch_keeps (c : Keeps P) (d x0 x1) (h : P d) : P (Dev.sqFetch d x0 x1) := by
  unfold Dev.sqFetch
  try dsimp only
  with_reducible repeat' first
    | assumption | apply Dev.sqRefresh_keeps c | apply Dev.setSq_keeps c | apply Dev.emit_keeps c
    | apply ite_keeps
theorem Dev.sqFetchError_keeps (c : Keeps P) (d x0 x1) (h : P d) : P (Dev.sqFetchError d x0 x1) := by
  unfold Dev.sqFetchError
  try dsimp only
  with_reducible repeat' first | assumption | apply Dev.sqError_keeps c | apply Dev.emit_keeps c | apply ite_keeps
theorem Dev.squeezePoint_keeps (c : Keeps P) (d x0 x1 x2) (h : P d) : P (Dev.squeezePoint d x0 x1 x2) := by
  unfold Dev.squeezePoint
  try dsimp only
  with_reducible repeat' first
    | assumption | apply Dev.connect_keeps c | apply Dev.setGrp_keeps c | apply Dev.count_keeps c
    | apply ite_keeps | refine snd_keeps (by assumption) ?_ | refine fst_keeps (by assumption) ?_ | split
theorem Dev.ssiFrame_keeps (c : Keeps P) (d x0 x1 x2) (h : P d) : P (Dev.ssiFrame d x0 x1 x2) := by
  unfold Dev.ssiFrame
  try dsimp only
  with_reducible repeat' first
    | assumption | apply Dev.encMove_keeps c | apply Dev.encFault_keeps c | apply Dev.setAx_keeps c
    | apply ite_keeps | refine snd_keeps (by assumption) ?_ | refine fst_keeps (by assumption) ?_ | split
theorem Dev.stallFlag_keeps (c : Keeps P) (d x0) (h : P d) : P (Dev.stallFlag d x0) := by
  unfold Dev.stallFlag
  try dsimp only
  with_reducible repeat' first
    | assumption | apply Dev.stamped_keeps c | apply Dev.set64_keeps c | apply Dev.flag_keeps c
    | apply Dev.flagIf_keeps c | apply Dev.haltMove_keeps c | apply Dev.setAx_keeps c | apply ite_keeps
theorem Dev.standstillCheck_keeps (c : Keeps P) (d x0) (h : P d) : P (Dev.standstillCheck d x0) := by
  unfold Dev.standstillCheck
  try dsimp only
  with_reducible repeat' first | assumption | apply Dev.checkCh_keeps c | (apply forGC_keeps; intro d g c' hd) | apply ite_keeps
theorem Dev.stationMasterLost_keeps (c : Keeps P) (d) (h : P d) : P (Dev.stationMasterLost d) := by
  unfold Dev.stationMasterLost
  try dsimp only
  with_reducible repeat' first | assumption | apply Dev.flag_keeps c | apply Dev.setTet_keeps c | apply ite_keeps
theorem Dev.strMeasure_keeps (c : Keeps P) (d x0 x1) (h : P d) : P (Dev.strMeasure d x0 x1).2 := by
  unfold Dev.strMeasure
  try dsimp only
  with_reducible repeat' first
    | assumption | (apply foldl_keeps; intro d x hd) | (apply foldl_fst_keeps; intro d x hd)
    | (apply foldl_snd_keeps; intro d x hd) | apply ite_keeps | refine snd_keeps (by assumption) ?_ | refine fst_keeps (by assumption) ?_
    | split | fail_if_no_progress refine Keeps.mk' c ?_ rfl rfl rfl rfl
theorem Dev.strataMeasure_keeps (c : Keeps P) (d) (h : P d) : P (Dev.strataMeasure d) := by
  unfold Dev.strataMeasure
  try dsimp only
  with_reducible repeat' first
    | assumption | apply Dev.setBoundaries_keeps c | apply Dev.putStrata_keeps c | apply Dev.strMeasure_keeps c
    | apply ite_keeps | refine snd_keeps (by assumption) ?_ | refine fst_keeps (by assumption) ?_ | split
theorem Dev.surResult_keeps (c : Keeps P) (d x0 x1) (h : P d) : P (Dev.surResult d x0 x1) := by
  unfold Dev.surResult
  try dsimp only
  with_reducible repeat' first
    | assumption | apply Dev.putSurvey_keeps c | apply Dev.enterSurvey_keeps c | apply Dev.sendResult_keeps c
    | apply ite_keeps
theorem Dev.surveyMeasure_keeps (c : Keeps P) (d) (h : P d) : P (Dev.surveyMeasure d) := by
  unfold Dev.surveyMeasure
  try dsimp only
  with_reducible repeat' first
    | assumption | apply Dev.closeMeas_keeps c | apply Dev.surResult_keeps c | apply Dev.showWin_keeps c
    | (apply foldl_keeps; intro d x hd) | refine snd_keeps (by assumption) ?_ | refine fst_keeps (by assumption) ?_ | split
    | fail_if_no_progress refine Keeps.mk' c ?_ rfl rfl rfl rfl
theorem Dev.switchEdge_keeps (c : Keeps P) (d x0 x1 x2 x3) (h : P d) : P (Dev.switchEdge d x0 x1 x2 x3) := by
  unfold Dev.switchEdge
  try dsimp only
  with_reducible repeat' first
    | assumption | apply Dev.latchEdge_keeps c | apply Dev.setAx_keeps c | apply Dev.setB_keeps c
    | apply ite_keeps
theorem Dev.tevEdge_keeps (c : Keeps P) (d x0 x1) (h : P d) : P (Dev.tevEdge d x0 x1) := by
  unfold Dev.tevEdge
  try dsimp only
  with_reducible repeat' first | assumption | apply Dev.eventStamp_keeps c | apply ite_keeps
theorem Dev.tick_keeps (c : Keeps P) (d) (h : P d) : P (Dev.tick d) := by
  unfold Dev.tick
  try dsimp only
  with_reducible repeat' first | assumption | apply ite_keeps | fail_if_no_progress refine Keeps.mk' c ?_ rfl rfl rfl rfl
theorem Dev.timerTrigger_keeps (c : Keeps P) (d) (h : P d) : P (Dev.timerTrigger d) := by
  unfold Dev.timerTrigger
  try dsimp only
  with_reducible repeat' first | assumption | apply Dev.otherLine_keeps c | apply ite_keeps
theorem Dev.trackUpdate_keeps (c : Keeps P) (d x0 x1) (h : P d) : P (Dev.trackUpdate d x0 x1) := by
  unfold Dev.trackUpdate
  try dsimp only
  with_reducible repeat' first
    | assumption | apply Dev.ledWearAll_keeps c | apply Dev.dropTrack_keeps c | apply Dev.setNext_keeps c
    | (apply foldl_keeps; intro d x hd) | apply ite_keeps | refine snd_keeps (by assumption) ?_ | refine fst_keeps (by assumption) ?_
    | split
theorem Dev.ueSurvey_keeps (c : Keeps P) (d x0 x1) (h : P d) : P (Dev.ueSurvey d x0 x1) := by
  unfold Dev.ueSurvey
  try dsimp only
  with_reducible repeat' first
    | assumption | apply ite_keeps | refine snd_keeps (by assumption) ?_ | refine fst_keeps (by assumption) ?_
    | split | fail_if_no_progress refine Keeps.mk' c ?_ rfl rfl rfl rfl
theorem Dev.ueRecord_keeps (c : Keeps P) (d x0 x1) (h : P d) : P (Dev.ueRecord d x0 x1) := by
  unfold Dev.ueRecord
  try dsimp only
  with_reducible repeat' first
    | assumption | apply Dev.checkStop_keeps c | apply Dev.setCtx_keeps c | apply Dev.roomCheck_keeps c
    | apply Dev.setCtxCells_keeps c | refine snd_keeps (by assumption) ?_ | refine fst_keeps (by assumption) ?_ | split
theorem Dev.ueRaw_keeps (c : Keeps P) (d x0 x1 x2 x3) (h : P d) : P (Dev.ueRaw d x0 x1 x2 x3) := by
  unfold Dev.ueRaw
  try dsimp only
  with_reducible repeat' first | assumption | apply ite_keeps | fail_if_no_progress refine Keeps.mk' c ?_ rfl rfl rfl rfl
theorem Dev.ueHistory_keeps (c : Keeps P) (d x0 x1) (h : P d) : P (Dev.ueHistory d x0 x1) := by
  unfold Dev.ueHistory
  try dsimp only
  with_reducible repeat' first
    | assumption | refine snd_keeps (by assumption) ?_ | refine fst_keeps (by assumption) ?_ | split
    | fail_if_no_progress refine Keeps.mk' c ?_ rfl rfl rfl rfl
theorem Dev.ue_keeps (c : Keeps P) (d x0) (h : P d) : P (Dev.ue d x0) := by
  unfold Dev.ue
  try dsimp only
  with_reducible repeat' first
    | assumption | apply Dev.haulUe_keeps c | apply Dev.ueSurvey_keeps c | apply Dev.ueRecord_keeps c
    | apply Dev.ueRaw_keeps c | apply Dev.ueHistory_keeps c | apply Dev.count_keeps c | apply ite_keeps
    | refine snd_keeps (by assumption) ?_ | refine fst_keeps (by assumption) ?_ | split
theorem Dev.verification_keeps (c : Keeps P) (d x0) (h : P d) : P (Dev.verification d x0) := by
  unfold Dev.verification
  try dsimp only
  with_reducible repeat' first
    | assumption | apply Dev.flagIf_keeps c | apply ite_keeps | refine snd_keeps (by assumption) ?_
    | refine fst_keeps (by assumption) ?_ | split | fail_if_no_progress refine Keeps.mk' c ?_ rfl rfl rfl rfl
theorem Dev.wake_keeps (c : Keeps P) (d x0 x1) (h : P d) : P (Dev.wake d x0 x1) := by
  unfold Dev.wake
  try dsimp only
  with_reducible repeat' first
    | assumption | apply Dev.applyReset_keeps c | apply Dev.setF_keeps c | apply Dev.emit_keeps c
    | apply ite_keeps | fail_if_no_progress refine Keeps.mk' c ?_ rfl rfl rfl rfl
end Sys2Proof.Machine
end

