-- ==== Sys2Proof/Laws/Rings.lean ====
section
/-! SUPPORT. Completion rings: what writing, holding back and posting an entry do. -/

namespace Sys2Proof.Machine

theorem Dev.cq_setCq (d : Dev) (n m : Nat) (q : Cq) : (d.setCq n q).cq m = if m = n then q else d.cq m := spGet_spSet _ _ _ _
theorem Dev.sq_setSq (d : Dev) (n m : Nat) (q : Sq) : (d.setSq n q).sq m = if m = n then q else d.sq m := spGet_spSet _ _ _ _

/-- A message goes out, or its vector waits. -/
theorem Dev.sendMsi_out (d : Dev) (v : Nat) : ∃ more, (d.sendMsi v).out = d.out ++ more ∧ ∀ o ∈ more, ∃ v a x, o = Out.msix v a x := by
  unfold Dev.sendMsi
  split
  · exact ⟨[], by simp, by simp⟩
  · exact ⟨[_], rfl, by simp⟩

theorem Dev.Only.cqs {d e g : Dev} {l : List Fld} (h : { d with cqs := e.cqs }.Only e l) (h' : e.Only g l) (hc : g.cqs = e.cqs) :
    { d with cqs := g.cqs }.Only g l := by
  rw [hc]
  exact h.trans h'

/-- An entry written and counted; the interrupt of the ring may follow. -/
theorem Dev.Posted.signal {d e : Dev} {q : Nat} {ws : List Nat} (h : d.Posted e q ws) : d.Posted (e.cqSignal q) q ws := by
  obtain ⟨⟨m, ho, hm⟩, ht, hp, hf, h1, h2, h3⟩ := h
  unfold Dev.cqSignal
  set e1 := e.setCq q { e.cq q with unsig := 0 } with he1
  have hcq : ∀ v m, (e1.sendMsi v).cq m = e1.cq m := fun v m => by rw [Dev.cq, Dev.sendMsi_cqs]; rfl
  obtain ⟨m', ho', hm'⟩ := e1.sendMsi_out (e.f (F.HST_CQ_CFG.VECTOR q))
  refine ⟨⟨m ++ m', ?_, ?_⟩, ?_, ?_, ?_, ?_, ?_, ?_⟩
  · rw [ho', show e1.out = e.out from rfl, ho]
    simp
  · intro o h
    rcases List.mem_append.mp h with h | h
    · exact hm o h
    · exact hm' o h
  · rw [Dev.f_sendMsi]; exact ht
  · rw [Dev.f_sendMsi]; exact hp
  · have h4 : { d with cqs := e1.cqs }.Only e1 [F.HST_CQ_STATUS.TAIL q, F.HST_CQ_STATUS.PHASE q] := by
      refine ⟨?_, hf.2⟩
      exact congrArg (fun g : Dev => { g with cqs := e1.cqs }) hf.1
    rw [Dev.sendMsi_cqs]
    exact h4.sendMsi _
  · rw [hcq, he1, Dev.cq_setCq, if_pos rfl]; exact h1
  · rw [hcq, he1, Dev.cq_setCq, if_pos rfl]; exact h2
  · intro m hm
    rw [hcq, he1, Dev.cq_setCq, if_neg hm]
    exact h3 m hm

/-- An entry written; its count follows. -/
theorem Dev.Posted.count {d e : Dev} {q : Nat} {ws : List Nat}
    (ho : e.out = d.out ++ [.hostWrite (d.r64 (R.HST_CQ_BASE_LO q) (R.HST_CQ_BASE_HI q) + 32 * d.f (F.HST_CQ_STATUS.TAIL q))
      (ws.flatMap (leBytes 4)) false])
    (ht : e.f (F.HST_CQ_STATUS.TAIL q) =
      (if d.f (F.HST_CQ_STATUS.TAIL q) + 1 = 2 ^ d.f (F.HST_CQ_CFG.SIZE_LOG q) then 0
       else (d.f (F.HST_CQ_STATUS.TAIL q) + 1) % 65536))
    (hp : e.f (F.HST_CQ_STATUS.PHASE q) =
      (if d.f (F.HST_CQ_STATUS.TAIL q) + 1 = 2 ^ d.f (F.HST_CQ_CFG.SIZE_LOG q) then 1 - d.f (F.HST_CQ_STATUS.PHASE q)
       else d.f (F.HST_CQ_STATUS.PHASE q)))
    (hf : d.Only e [F.HST_CQ_STATUS.TAIL q, F.HST_CQ_STATUS.PHASE q]) (hc : ∀ m, e.cq m = d.cq m) (x : Nat) :
    d.Posted (e.setCq q { e.cq q with unsig := x }) q ws := by
  refine ⟨⟨[], ho, by simp⟩, ht, hp, ⟨?_, hf.2⟩, ?_, ?_, ?_⟩
  · exact congrArg (fun g : Dev => { g with cqs := (e.setCq q { e.cq q with unsig := x }).cqs }) hf.1
  · rw [Dev.cq_setCq, if_pos rfl, hc]
  · rw [Dev.cq_setCq, if_pos rfl, hc]
  · intro m hm
    rw [Dev.cq_setCq, if_neg hm, hc]

/-- An entry at the tail, and a tail and a phase. -/
theorem Dev.cqPut_posted (d : Dev) (q t p x : Nat) (bs : List Byte) (ws : List Nat) (h : bs = ws.flatMap (leBytes 4))
    (ht : t % 65536 = (if d.f (F.HST_CQ_STATUS.TAIL q) + 1 = 2 ^ d.f (F.HST_CQ_CFG.SIZE_LOG q) then 0
       else (d.f (F.HST_CQ_STATUS.TAIL q) + 1) % 65536))
    (hp : p % 2 = (if d.f (F.HST_CQ_STATUS.TAIL q) + 1 = 2 ^ d.f (F.HST_CQ_CFG.SIZE_LOG q) then 1 - d.f (F.HST_CQ_STATUS.PHASE q)
       else d.f (F.HST_CQ_STATUS.PHASE q))) {e : Dev}
    (he : e = ((d.emit (.hostWrite (d.r64 (R.HST_CQ_BASE_LO q) (R.HST_CQ_BASE_HI q) + 32 * d.f (F.HST_CQ_STATUS.TAIL q)) bs false)).setF
      (F.HST_CQ_STATUS.TAIL q) t).setF (F.HST_CQ_STATUS.PHASE q) p) :
    d.Posted (e.setCq q { e.cq q with unsig := x }) q ws := by
  refine Dev.Posted.count ?_ ?_ ?_ ?_ ?_ x
  · rw [he, Dev.setF_out, Dev.setF_out, h]
    rfl
  · rw [he, Dev.f_apart _ _ _ _ _ _ _ (by decide) (by decide) (by decide), Dev.f_same _ _ _ _ _ (by decide) (by decide)]
    exact ht
  · rw [he, Dev.f_same _ _ _ _ _ (by decide) (by decide)]
    exact hp
  · rw [he]
    exact (((Dev.Only.refl d _).emit _).setF _ _ (by simp [Fld.within])).setF _ _ (by simp [Fld.within])
  · intro m
    rw [he, Dev.cq, Dev.setF_cqs, Dev.setF_cqs, Dev.emit_cqs, Dev.cq]

/-- Writing an entry (R288, R295, R300). -/
theorem Dev.cqWrite_posted (d : Dev) (q : Nat) (c : Cpl) (ws : List Nat) (h : d.cplBytes q c = ws.flatMap (leBytes 4)) :
    d.Posted (d.cqWrite q c) q ws := by
  have hlt := d.f_lt (R.HST_CQ_STATUS q) 28 28
  have key := fun e he => d.cqPut_posted q (if decide (d.f (F.HST_CQ_STATUS.TAIL q) + 1 = d.cqSize q) then 0 else d.f (F.HST_CQ_STATUS.TAIL q) + 1)
    (if decide (d.f (F.HST_CQ_STATUS.TAIL q) + 1 = d.cqSize q) then 1 - d.f (F.HST_CQ_STATUS.PHASE q) else d.f (F.HST_CQ_STATUS.PHASE q))
    ((d.cq q).unsig + 1) (d.cplBytes q c) ws h
    (by rw [Dev.cqSize]
        by_cases h1 : d.f (F.HST_CQ_STATUS.TAIL q) + 1 = 2 ^ d.f (F.HST_CQ_CFG.SIZE_LOG q)
        · simp only [h1, decide_true, if_true]
        · simp only [h1, decide_false, if_false]
          rfl)
    (by rw [Dev.cqSize]
        by_cases h1 : d.f (F.HST_CQ_STATUS.TAIL q) + 1 = 2 ^ d.f (F.HST_CQ_CFG.SIZE_LOG q)
        · simp only [h1, decide_true, if_true]
          exact Nat.mod_eq_of_lt (by omega)
        · simp only [h1, decide_false, if_false]
          exact Nat.mod_eq_of_lt hlt) (e := e) he
  unfold Dev.cqWrite
  extract_lets t base d1 wrap d2 u d3
  have k := key d2 rfl
  split
  · exact k.signal
  · exact k

theorem Dev.cplBytes_entry (d : Dev) (q : Nat) (c : Cpl) : d.cplBytes q c = (d.entry q c).flatMap (leBytes 4) := by
  unfold Dev.cplBytes Dev.entry
  simp only [List.flatMap_append, List.flatMap_map, List.flatMap_cons, List.flatMap_nil, List.append_nil]
  all_goals rfl

theorem cmdCpl_plain (src : Src) (st detail info : Nat) (hi : info < 2 ^ 24) :
    cmdCpl src { status := st, detail := detail, info := info } = plainCpl src st detail info := by
  simp only [cmdCpl, Nat.mod_eq_of_lt hi]
  rfl

theorem Dev.sq_sqs {d e : Dev} (h : e.sqs = d.sqs) (n : Nat) : e.sq n = d.sq n := by rw [Dev.sq, h, Dev.sq]
theorem Dev.cq_cqs {d e : Dev} (h : e.cqs = d.cqs) (n : Nat) : e.cq n = d.cq n := by rw [Dev.cq, h, Dev.cq]

theorem intBitOf_cq : ∀ q < 64, intBitOf (R.HST_CQ_STATUS q) = 9 := by
  decide

theorem Dev.on_iff (d : Dev) (x : Fld) : d.on x = true ↔ d.f x ≠ 0 := by simp [Dev.on]

theorem Dev.flag_out (d : Dev) (x : Fld) : ∃ more, (d.flag x).out = d.out ++ more ∧ ∀ o ∈ more, ∃ v a x, o = Out.msix v a x := by
  unfold Dev.flag
  split
  · exact ⟨[], by simp, by simp⟩
  · unfold Dev.irq
    dsimp only
    split
    · obtain ⟨m, h, hm⟩ := (((d.setF x 1).setF ⟨R.TOP_INT_STATUS, intBitOf x.addr, intBitOf x.addr⟩ 1)).sendMsi_out
        ((((d.setF x 1).setF ⟨R.TOP_INT_STATUS, intBitOf x.addr, intBitOf x.addr⟩ 1)).f F.HST_CFG.ERR_VEC)
      exact ⟨m, by rw [Dev.errVec, h, Dev.setF_out, Dev.setF_out], hm⟩
    · exact ⟨[], by simp, by simp⟩

@[simp] theorem Dev.setSq_regs (d : Dev) (n : Nat) (q : Sq) : (d.setSq n q).regs = d.regs := rfl
@[simp] theorem Dev.setCq_regs (d : Dev) (n : Nat) (q : Cq) : (d.setCq n q).regs = d.regs := rfl
@[simp] theorem Dev.f_setSq (d : Dev) (n : Nat) (q : Sq) (x : Fld) : (d.setSq n q).f x = d.f x := rfl
@[simp] theorem Dev.f_setCq (d : Dev) (n : Nat) (q : Cq) (x : Fld) : (d.setCq n q).f x = d.f x := rfl
@[simp] theorem Dev.reg_setSq (d : Dev) (n : Nat) (q : Sq) (a : Nat) : (d.setSq n q).reg a = d.reg a := rfl
@[simp] theorem Dev.reg_setCq (d : Dev) (n : Nat) (q : Cq) (a : Nat) : (d.setCq n q).reg a = d.reg a := rfl

theorem Dev.setSq_eq (d : Dev) (n : Nat) (q : Sq) {l : List (Nat × Sq)} (h : l = (d.setSq n q).sqs) : { d with sqs := l } = d.setSq n q := by
  rw [h]
  rfl

theorem Dev.setCq_eq (d : Dev) (n : Nat) (q : Cq) {l : List (Nat × Cq)} (h : l = (d.setCq n q).cqs) : { d with cqs := l } = d.setCq n q := by
  rw [h]
  rfl

theorem Dev.setCq_setCq (d : Dev) (n : Nat) (q r : Cq) : (d.setCq n q).setCq n r = d.setCq n r := by
  unfold Dev.setCq
  congr 1
  exact spSet_spSet _ _ _ _

/-- IDLE or ACTIVE. -/
theorem Dev.sqRefresh_only (d : Dev) (n : Nat) : d.Only (d.sqRefresh n) [F.HST_SQ_STATUS.STATE n] := by
  unfold Dev.sqRefresh
  exact Dev.Only.ite ((Dev.Only.refl _ _).setF _ _ (by simp [Fld.within])) (Dev.Only.refl _ _)

@[simp] theorem Dev.sqRefresh_sqs (d : Dev) (n : Nat) : (d.sqRefresh n).sqs = d.sqs :=
  Dev.RegsOut.eq (d.sqRefresh_only n).1 Dev.sqs fun _ _ _ => rfl

@[simp] theorem Dev.sqRefresh_out (d : Dev) (n : Nat) : (d.sqRefresh n).out = d.out := by
  unfold Dev.sqRefresh
  extract_lets s
  split
  · exact Dev.setF_out _ _ _
  · rfl

theorem Dev.sqRefresh_state (d : Dev) (n : Nat) (h : d.f (F.HST_SQ_STATUS.STATE n) = 1 ∨ d.f (F.HST_SQ_STATUS.STATE n) = 2) :
    (d.sqRefresh n).f (F.HST_SQ_STATUS.STATE n) = if (d.sq n).fetched.isEmpty && decide (d.sqToFetch n = 0) then 1 else 2 := by
  unfold Dev.sqRefresh
  rw [if_pos h, Dev.f_same _ _ _ _ _ (by decide) (by decide)]
  split <;> rfl

/-- CQ_FULL. -/
theorem Dev.cqWaits_only (d : Dev) (n : Nat) (hn : n < 64) : d.Only (d.cqWaits n) [F.HST_CQ_STATUS.CQ_FULL n, intBit 9] := by
  unfold Dev.cqWaits
  refine (Dev.Only.refl _ _).flagIf _ _ (by simp [Fld.within]) ?_
  rw [show (F.HST_CQ_STATUS.CQ_FULL n).addr = R.HST_CQ_STATUS n from rfl, intBitOf_cq n hn]
  simp [Fld.within, intBit]

@[simp] theorem Dev.cqWaits_sqs (d : Dev) (n : Nat) : (d.cqWaits n).sqs = d.sqs := by
  unfold Dev.cqWaits
  exact Dev.flagIf_sqs _ _ _

/-- Holding an entry back. -/
theorem Dev.held_answered (d : Dev) (q : Nat) (c : Cpl) (hq : q < 64) {e : Dev} (he : e = d.setCq q { d.cq q with held := (d.cq q).held ++ [c] }) :
    (e.cqWaits q).cq q = { d.cq q with held := (d.cq q).held ++ [c] } ∧ (∀ m, m ≠ q → (e.cqWaits q).cq m = d.cq m) ∧
    (∃ more, (e.cqWaits q).out = d.out ++ more ∧ ∀ o ∈ more, ∃ v a x, o = Out.msix v a x) ∧
    { d with cqs := (e.cqWaits q).cqs }.Only (e.cqWaits q) [F.HST_CQ_STATUS.CQ_FULL q, intBit 9] ∧
    (e.cqWaits q).f (F.HST_CQ_STATUS.CQ_FULL q) =
      (if 63 ≤ (d.cq q).held.length ∧ d.f (F.HST_CQ_CFG.EN q) = 1 then 1 else d.f (F.HST_CQ_STATUS.CQ_FULL q)) := by
  have hcq : ∀ m, (e.cqWaits q).cq m = e.cq m := fun m => by rw [Dev.cq, Dev.cqWaits, Dev.flagIf_cqs, Dev.cq]
  have hregs : e.regs = d.regs := by rw [he]; rfl
  have hl : (e.cq q).held.length = (d.cq q).held.length + 1 := by rw [he, Dev.cq_setCq, if_pos rfl]; simp
  have hen : (64 ≤ (e.cq q).held.length ∧ e.on (F.HST_CQ_CFG.EN q) = true) ↔ (63 ≤ (d.cq q).held.length ∧ d.f (F.HST_CQ_CFG.EN q) = 1) := by
    have h1 := d.f_lt (R.HST_CQ_CFG q) 31 31
    have h2 := Dev.f_regs hregs (F.HST_CQ_CFG.EN q)
    rw [hl, Dev.on_iff, h2]
    change d.f (F.HST_CQ_CFG.EN q) < 2 at h1
    omega
  refine ⟨?_, ?_, ?_, ?_, ?_⟩
  · rw [hcq, he, Dev.cq_setCq, if_pos rfl]
  · intro m hm
    rw [hcq, he, Dev.cq_setCq, if_neg hm]
  · unfold Dev.cqWaits Dev.flagIf
    split
    · obtain ⟨m, h, hm⟩ := e.flag_out (F.HST_CQ_STATUS.CQ_FULL q)
      exact ⟨m, by rw [h, he]; rfl, hm⟩
    · exact ⟨[], by rw [he]; simp [Dev.setCq], by simp⟩
  · have h0 : { d with cqs := e.cqs }.Only e [F.HST_CQ_STATUS.CQ_FULL q, intBit 9] := by
      refine ⟨?_, ?_⟩
      · rw [he]; rfl
      · intro a i _
        rw [Dev.reg_regs hregs]
        rfl
    rw [Dev.cqWaits, Dev.flagIf_cqs]
    refine h0.flagIf _ _ (by simp [Fld.within]) ?_
    rw [show (F.HST_CQ_STATUS.CQ_FULL q).addr = R.HST_CQ_STATUS q from rfl, intBitOf_cq q hq]
    simp [Fld.within, intBit]
  · rw [Dev.cqWaits, Dev.flagIf]
    simp only [Bool.and_eq_true, decide_eq_true_eq, hen]
    split
    · exact Dev.f_flag_same _ _ _ (by decide) (by simp only [R.HST_CQ_STATUS, R.TOP_INT_STATUS]; omega)
    · exact Dev.f_regs hregs _

/-- Posting an entry: written or held back. -/
theorem Dev.post_answered (d : Dev) (q : Nat) (c : Cpl) (hq : q < 64) : d.Answered (d.post q c) q c := by
  unfold Dev.Answered Dev.post
  dsimp only
  by_cases h : (d.cq q).held = [] ∧ d.cqTakes q = true
  · rw [if_pos h, if_pos (by rw [h.1, h.2]; rfl)]
    exact d.cqWrite_posted q c _ (d.cplBytes_entry q c)
  · rw [if_neg h, if_neg (by simpa using h)]
    exact d.held_answered q c hq rfl

theorem Dev.ring_lt (d : Dev) (src : Src) : d.ring src < 64 := d.f_lt _ 21 16

theorem Dev.complete_answered (d : Dev) (src : Src) (o : CmdRes) : d.Answered (d.complete src o) (d.ring src) (cmdCpl src o) :=
  d.post_answered _ _ (d.ring_lt src)

/-- A completion without results. -/
theorem Dev.complete_plain (d : Dev) (src : Src) (st detail info : Nat) (hi : info < 2 ^ 24) :
    d.Answered (d.complete src { status := st, detail := detail, info := info }) (d.ring src) (plainCpl src st detail info) := by
  have h := d.complete_answered src { status := st, detail := detail, info := info }
  rwa [cmdCpl_plain src st detail info hi] at h

theorem sqErrBit_ok (n : Nat) : (sqErrBit n).hi < 32 ∧ (sqErrBit n).lo = (sqErrBit n).hi ∧ ((sqErrBit n).addr = R.HST_SQ_ERR_LO ∨ (sqErrBit n).addr = R.HST_SQ_ERR_HI) := by
  unfold sqErrBit
  refine ⟨Nat.mod_lt _ (by decide), rfl, ?_⟩
  dsimp only
  split
  · exact Or.inl rfl
  · exact Or.inr rfl
/-- An SQ enters ERROR (R285, R286). -/
theorem Dev.sqError_failed (d : Dev) (n cause addr : Nat) (hn : n < 64) (hc : cause < 16) : d.SqFailed (d.sqError n cause addr) n cause addr := by
  obtain ⟨b1, b2, b3⟩ := sqErrBit_ok n
  have hb : (d.f (F.HST_SQ_CFG.CQ n)) < 64 := d.f_lt _ 21 16
  set m := ((((d.setF (F.HST_SQ_STATUS.STATE n) 3).setF (F.HST_SQ_STATUS.CAUSE n) cause).setF (sqErrBit n) 1).set64 (R.HST_SQ_ERR_ADDR_LO n) (R.HST_SQ_ERR_ADDR_HI n) addr).irq 9 with hm
  have hm' : d.sqError n cause addr = m.post (m.f (F.HST_SQ_CFG.CQ n)) { words := [n * 2 ^ 10 + 2 * 2 ^ 8 + 8, cause * 2 ^ 24, addr % 2 ^ 32, addr / 2 ^ 32, 0, 0, 0], sq := none, late := false } := rfl
  have ho : d.Only m [F.HST_SQ_STATUS.STATE n, F.HST_SQ_STATUS.CAUSE n, sqErrBit n, whole (R.HST_SQ_ERR_ADDR_LO n), whole (R.HST_SQ_ERR_ADDR_HI n), intBit 9] := by
    refine Dev.Only.irq (Dev.Only.set64 (Dev.Only.setF (Dev.Only.setF (Dev.Only.setF (Dev.Only.refl _ _) _ _ ?_) _ _ ?_) _ _ ?_) _ _ _ ?_ ?_) _ ?_
    · simp [Fld.within]
    · simp [Fld.within]
    · refine ⟨by omega, b1, sqErrBit n, by simp, rfl, le_rfl, le_rfl⟩
    · simp [Fld.within, whole]
    · simp [Fld.within, whole]
    · simp [Fld.within, intBit]
  have hcq : m.f (F.HST_SQ_CFG.CQ n) = d.f (F.HST_SQ_CFG.CQ n) := ho.f _ (by
    simp [whole, intBit]
    left; rcases b3 with h | h <;> rw [h] <;> simp only [R.HST_SQ_STATUS, R.HST_SQ_ERR_ADDR_LO, R.HST_SQ_ERR_ADDR_HI, R.TOP_INT_STATUS, R.HST_SQ_CFG, R.HST_SQ_ERR_LO, R.HST_SQ_ERR_HI] <;> omega)
  have e1 : R.HST_SQ_STATUS n ≠ (sqErrBit n).addr := by rcases b3 with h | h <;> rw [h] <;> simp only [R.HST_SQ_STATUS, R.HST_SQ_ERR_ADDR_LO, R.HST_SQ_ERR_ADDR_HI, R.TOP_INT_STATUS, R.HST_SQ_CFG, R.HST_SQ_ERR_LO, R.HST_SQ_ERR_HI] <;> omega
  have e2 : (sqErrBit n).addr ≠ R.HST_SQ_ERR_ADDR_LO n ∧ (sqErrBit n).addr ≠ R.HST_SQ_ERR_ADDR_HI n ∧ (sqErrBit n).addr ≠ R.TOP_INT_STATUS := by
    rcases b3 with h | h <;> rw [h] <;> simp only [R.HST_SQ_STATUS, R.HST_SQ_ERR_ADDR_LO, R.HST_SQ_ERR_ADDR_HI, R.TOP_INT_STATUS, R.HST_SQ_CFG, R.HST_SQ_ERR_LO, R.HST_SQ_ERR_HI] <;> omega
  refine ⟨m, ho, ?_, ?_, ?_, ?_, ?_, ?_⟩
  · rw [hm, Dev.f_irq _ _ _ _ _ (by simp only [R.HST_SQ_STATUS, R.HST_SQ_ERR_ADDR_LO, R.HST_SQ_ERR_ADDR_HI, R.TOP_INT_STATUS, R.HST_SQ_CFG, R.HST_SQ_ERR_LO, R.HST_SQ_ERR_HI]; omega), Dev.set64, Dev.f_setReg_other _ _ _ _ _ _ (by simp only [R.HST_SQ_STATUS, R.HST_SQ_ERR_ADDR_LO, R.HST_SQ_ERR_ADDR_HI, R.TOP_INT_STATUS, R.HST_SQ_CFG, R.HST_SQ_ERR_LO, R.HST_SQ_ERR_HI]; omega), Dev.f_setReg_other _ _ _ _ _ _ (by simp only [R.HST_SQ_STATUS, R.HST_SQ_ERR_ADDR_LO, R.HST_SQ_ERR_ADDR_HI, R.TOP_INT_STATUS, R.HST_SQ_CFG, R.HST_SQ_ERR_LO, R.HST_SQ_ERR_HI]; omega), Dev.f_setF_ne _ _ _ _ e1]
    rw [Dev.f_apart _ _ _ _ _ _ _ (by decide) (by decide) (by decide), Dev.f_same _ _ _ _ _ (by decide) (by decide)]
    rfl
  · rw [hm, Dev.f_irq _ _ _ _ _ (by simp only [R.HST_SQ_STATUS, R.HST_SQ_ERR_ADDR_LO, R.HST_SQ_ERR_ADDR_HI, R.TOP_INT_STATUS, R.HST_SQ_CFG, R.HST_SQ_ERR_LO, R.HST_SQ_ERR_HI]; omega), Dev.set64, Dev.f_setReg_other _ _ _ _ _ _ (by simp only [R.HST_SQ_STATUS, R.HST_SQ_ERR_ADDR_LO, R.HST_SQ_ERR_ADDR_HI, R.TOP_INT_STATUS, R.HST_SQ_CFG, R.HST_SQ_ERR_LO, R.HST_SQ_ERR_HI]; omega), Dev.f_setReg_other _ _ _ _ _ _ (by simp only [R.HST_SQ_STATUS, R.HST_SQ_ERR_ADDR_LO, R.HST_SQ_ERR_ADDR_HI, R.TOP_INT_STATUS, R.HST_SQ_CFG, R.HST_SQ_ERR_LO, R.HST_SQ_ERR_HI]; omega), Dev.f_setF_ne _ _ _ _ e1]
    rw [Dev.f_same _ _ _ _ _ (by decide) (by decide)]
    exact Nat.mod_eq_of_lt (by simpa using hc)
  · rw [hm, show sqErrBit n = ⟨(sqErrBit n).addr, (sqErrBit n).hi, (sqErrBit n).lo⟩ from rfl, Dev.f_irq _ _ _ _ _ e2.2.2, Dev.set64, Dev.f_setReg_other _ _ _ _ _ _ e2.2.1, Dev.f_setReg_other _ _ _ _ _ _ e2.1, b2, Dev.f_same _ _ _ _ _ (by omega) b1]
    simp
  · rw [hm]
    exact Dev.f_irq_self _ _ (by decide)
  · rw [hm, Dev.r64, Dev.reg_irq _ _ _ (by simp only [R.HST_SQ_STATUS, R.HST_SQ_ERR_ADDR_LO, R.HST_SQ_ERR_ADDR_HI, R.TOP_INT_STATUS, R.HST_SQ_CFG, R.HST_SQ_ERR_LO, R.HST_SQ_ERR_HI]; omega), Dev.reg_irq _ _ _ (by simp only [R.HST_SQ_STATUS, R.HST_SQ_ERR_ADDR_LO, R.HST_SQ_ERR_ADDR_HI, R.TOP_INT_STATUS, R.HST_SQ_CFG, R.HST_SQ_ERR_LO, R.HST_SQ_ERR_HI]; omega), Dev.set64, Dev.reg_setReg_self, Dev.reg_setReg_ne _ _ (by simp only [R.HST_SQ_STATUS, R.HST_SQ_ERR_ADDR_LO, R.HST_SQ_ERR_ADDR_HI, R.TOP_INT_STATUS, R.HST_SQ_CFG, R.HST_SQ_ERR_LO, R.HST_SQ_ERR_HI]; omega), Dev.reg_setReg_self]
    simp only [BitVec.toNat_ofNat]
    omega
  · rw [hm', hcq]
    exact Dev.post_answered _ _ _ hb

end Sys2Proof.Machine
end

