-- ==== Sys2Proof/Laws/Step.lean ====
section
/-! SUPPORT. What no command and no step breaks: a property that the plain writes keep is kept by `exec` and by `step`, and the queue
moves only at its front. -/

namespace Sys2Proof.Machine

variable {P : Dev → Prop}

theorem exec_lifts (i : Instr) (s : State) (k : Keeps P) (hf : i.writesFlash = true → KeepsFlash P) (ho : i.writesOtp = true → KeepsOtp P) :
    ∃ f, exec i s = s.lift f ∧ (P s.dev → P (f s.dev)) := by
  cases i with
  | nop src => exact ⟨(·.nop src), rfl, fun h => by apply Dev.nop_keeps k; exact h⟩
  | invalidOpcode src => exact ⟨(·.invalidOpcode src), rfl, fun h => by apply Dev.invalidOpcode_keeps k; exact h⟩
  | bufferPost src supply addr => exact ⟨(·.bufferPost src supply addr), rfl, fun h => by apply Dev.bufferPost_keeps k; exact h⟩
  | ctxStart src n line => exact ⟨(·.ctxStart src n line), rfl, fun h => by apply Dev.ctxStart_keeps k; exact h⟩
  | ctxStop src n line => exact ⟨(·.ctxStop src n line), rfl, fun h => by apply Dev.ctxStop_keeps k; exact h⟩
  | move src axis target set rev rel => exact ⟨(·.moveOne src axis target set rev rel), rfl, fun h => by apply Dev.moveOne_keeps k; exact h⟩
  | moveCoord src mask targets set rev rel => exact ⟨(·.moveCoord src mask targets set rev rel), rfl, fun h => by apply Dev.moveCoord_keeps k; exact h⟩
  | hold src mask => exact ⟨(·.holdCmd src mask), rfl, fun h => by apply Dev.holdCmd_keeps k; exact h⟩
  | resume src mask => exact ⟨(·.resumeCmd src mask), rfl, fun h => by apply Dev.resumeCmd_keeps k; exact h⟩
  | abortContext src ctx => exact ⟨(·.abortCmd src 0 ctx 0), rfl, fun h => by apply Dev.abortCmd_keeps k; exact h⟩
  | abortRing src ring => exact ⟨(·.abortCmd src 1 ring 0), rfl, fun h => by apply Dev.abortCmd_keeps k; exact h⟩
  | abortAxis src mask => exact ⟨(·.abortCmd src 2 mask 0), rfl, fun h => by apply Dev.abortCmd_keeps k; exact h⟩
  | abortHaul src ch => exact ⟨(·.abortCmd src 3 ch 0), rfl, fun h => by apply Dev.abortCmd_keeps k; exact h⟩
  | abortCommand src ring cid => exact ⟨(·.abortCmd src 4 cid ring), rfl, fun h => by apply Dev.abortCmd_keeps k; exact h⟩
  | afeFull src x => exact ⟨(·.afeFull src x), rfl, fun h => by apply Dev.afeFull_keeps k; exact h⟩
  | shadingFull src => exact ⟨(·.shadingFull src), rfl, fun h => by apply Dev.shadingFull_keeps k; exact h⟩
  | hkcSelfcal src x => exact ⟨(·.hkcCalRun src x), rfl, fun h => by apply Dev.hkcCalRun_keeps k; exact h⟩
  | tableLoadBarRecord src addr len => exact ⟨(·.tableLoad src 1 addr len false), rfl, fun h => by apply Dev.tableLoad_keeps k; exact h⟩
  | tableLoadShading src addr len swap => exact ⟨(·.tableLoad src 2 addr len swap), rfl, fun h => by apply Dev.tableLoad_keeps k; exact h⟩
  | tableLoadContext src addr len => exact ⟨(·.tableLoad src 3 addr len false), rfl, fun h => by apply Dev.tableLoad_keeps k; exact h⟩
  | tableLoadFlowstone src addr len => exact ⟨(·.tableLoad src 4 addr len false), rfl, fun h => by apply Dev.tableLoad_keeps k; exact h⟩
  | timeSchedule src slot action lateDrop base time param => exact ⟨(·.schedule src slot action lateDrop base time.toNat param), rfl, fun h => by apply Dev.schedule_keeps k; exact h⟩
  | boundaryPost src sens swath adv pos mask => exact ⟨(fun d => d.boundaryPost src sens swath.toNat adv.toNat pos (mask.1.toNat + mask.2.toNat * 2 ^ 32)), rfl, fun h => by dsimp only; with_reducible repeat' first | assumption | apply Dev.boundaryPost_keeps k⟩
  | attest src addr len nonce => exact ⟨(·.attestCmd src addr len nonce), rfl, fun h => by apply Dev.attestCmd_keeps k; exact h⟩
  | storeWriteFirmware src addr len img e => exact ⟨(·.storeCmd src addr len (·.writeFirmware src len img e)), rfl, fun h => by dsimp only; with_reducible repeat' first | assumption | (apply Dev.storeCmd_keeps k; intro d hd) | apply Dev.writeFirmware_keeps (hf rfl)⟩
  | storeWriteCalStore src addr len img e => exact ⟨(·.storeCmd src addr len (·.writeCalStore src len img e)), rfl, fun h => by dsimp only; with_reducible repeat' first | assumption | (apply Dev.storeCmd_keeps k; intro d hd) | apply Dev.writeCalStore_keeps (hf rfl)⟩
  | oemKeyAdd src addr len img cut => exact ⟨(·.otpRow 1 src addr len img cut), rfl, fun h => by apply Dev.otpRow_keeps (ho rfl); exact h⟩
  | oemKeyRevoke src addr len img => exact ⟨(·.otpRow 2 src addr len img false), rfl, fun h => by apply Dev.otpRow_keeps (ho rfl); exact h⟩
  | rollbackSet src addr len img => exact ⟨(·.otpRow 3 src addr len img false), rfl, fun h => by apply Dev.otpRow_keeps (ho rfl); exact h⟩
  | otpLock src addr len img => exact ⟨(·.otpRow 4 src addr len img false), rfl, fun h => by apply Dev.otpRow_keeps (ho rfl); exact h⟩
  | sqDoorbell sq v full => exact ⟨(·.sqDoorbell sq v full), rfl, fun h => by apply Dev.sqDoorbell_keeps k; exact h⟩
  | cqDoorbell cq v full => exact ⟨(·.cqDoorbell cq v full), rfl, fun h => by apply Dev.cqDoorbell_keeps k; exact h⟩
  | sqFetch sq entries => exact ⟨(·.sqFetch sq entries), rfl, fun h => by apply Dev.sqFetch_keeps k; exact h⟩
  | commandStart x => exact ⟨(·.commandStart x), rfl, fun h => by apply Dev.commandStart_keeps ⟨hf rfl, (ho rfl).otp⟩; exact h⟩
  | cplTimeout sq => exact ⟨(·.sqFetchError sq 1), rfl, fun h => by apply Dev.sqFetchError_keeps k; exact h⟩
  | ringError sq cause => exact ⟨(·.sqFetchError sq (cause.val + 2)), rfl, fun h => by apply Dev.sqFetchError_keeps k; exact h⟩
  | completionWrite cq => exact ⟨(·.completionWrite cq), rfl, fun h => by apply Dev.completionWrite_keeps k; exact h⟩
  | interruptModTime cq => exact ⟨(·.modTime cq), rfl, fun h => by apply Dev.modTime_keeps k; exact h⟩
  | msixUnmask vector => exact ⟨(·.msixUnmask vector), rfl, fun h => by apply Dev.msixUnmask_keeps k; exact h⟩
  | busMasterEnable on => exact ⟨(·.setBusMaster on), rfl, fun h => by apply Dev.setBusMaster_keeps k; exact h⟩
  | d3hotTransition  => exact ⟨(·.d3hot), rfl, fun h => by apply Dev.d3hot_keeps k; exact h⟩
  | d0Return  => exact ⟨(·.d0), rfl, fun h => by apply Dev.d0_keeps k; exact h⟩
  | registerAbort rq v => exact ⟨(fun d => if d.awake then d.registerAbort rq v else d), rfl, fun h => by dsimp only; with_reducible repeat' first | assumption | apply Dev.registerAbort_keeps k | apply ite_keeps⟩
  | sqCfgWrite rq sq v => exact ⟨(fun d => if d.awake then d.sqCfgWrite rq sq v else d), rfl, fun h => by dsimp only; with_reducible repeat' first | assumption | apply Dev.sqCfgWrite_keeps k | apply ite_keeps⟩
  | cqCfgWrite rq cq v => exact ⟨(fun d => if d.awake then d.cqCfgWrite rq cq v else d), rfl, fun h => by dsimp only; with_reducible repeat' first | assumption | apply Dev.cqCfgWrite_keeps k | apply ite_keeps⟩
  | modeReqStandby rq => exact ⟨(·.modeReq rq 1), rfl, fun h => by apply Dev.modeReq_keeps k; exact h⟩
  | modeReqCalibrate rq => exact ⟨(·.modeReq rq 2), rfl, fun h => by apply Dev.modeReq_keeps k; exact h⟩
  | modeReqRun rq => exact ⟨(·.modeReq rq 3), rfl, fun h => by apply Dev.modeReq_keeps k; exact h⟩
  | modeReqService rq => exact ⟨(·.modeReq rq 4), rfl, fun h => by apply Dev.modeReq_keeps k; exact h⟩
  | modeReqDormant rq => exact ⟨(·.modeReq rq 5), rfl, fun h => by apply Dev.modeReq_keeps k; exact h⟩
  | modeRequestComplete  => exact ⟨(·.modeDone), rfl, fun h => by apply Dev.modeDone_keeps k; exact h⟩
  | warmSoftwareReset rq v => exact ⟨(·.resetCtrl rq v.toNat), rfl, fun h => by apply Dev.resetCtrl_keeps k; exact h⟩
  | powerOnReset  => exact ⟨(·.applyReset .aonLost), rfl, fun h => by apply Dev.applyReset_keeps k; exact h⟩
  | brownOut  => exact ⟨(fun d => if d.mode = .dormant then d else d.applyReset .aonKept), rfl, fun h => by dsimp only; with_reducible repeat' first | assumption | apply Dev.applyReset_keeps k | apply ite_keeps⟩
  | railsValid  => exact ⟨(fun d => match d.rst with | some k => if k.stops then d else { d with rst := none } | none => d), rfl, fun h => by dsimp only; with_reducible repeat' first | assumption | apply ite_keeps | split | fail_if_no_progress refine Keeps.mk' k ?_ rfl rfl rfl rfl⟩
  | resetN  => exact ⟨(fun d => if d.mode = .dormant then d.wake 3 false else d.applyReset .pin), rfl, fun h => by dsimp only; with_reducible repeat' first | assumption | apply Dev.wake_keeps k | apply Dev.applyReset_keeps k | apply ite_keeps⟩
  | watchdogExpiry  => exact ⟨(·.startReset .watchdog), rfl, fun h => by dsimp only; with_reducible repeat' first | assumption | apply Dev.startReset_keeps k | apply Dev.startReset_keeps k⟩
  | pcieConventionalReset perst => exact ⟨(fun d => { d with link := { d.link with up := false, perst := d.link.perst || perst } }.startReset .conventional), rfl, fun h => by dsimp only; with_reducible repeat' first | assumption | apply Dev.startReset_keeps k | fail_if_no_progress refine Keeps.mk' k ?_ rfl rfl rfl rfl⟩
  | functionLevelReset  => exact ⟨(·.startReset .flr), rfl, fun h => by dsimp only; with_reducible repeat' first | assumption | apply Dev.startReset_keeps k | apply Dev.startReset_keeps k⟩
  | resetAxisStopped timeout => exact ⟨(·.resetStopped timeout), rfl, fun h => by apply Dev.resetStopped_keeps k; exact h⟩
  | wakeFromDormant src falling => exact ⟨(·.wake src falling), rfl, fun h => by apply Dev.wake_keeps k; exact h⟩
  | boot x => exact ⟨(·.boot x), rfl, fun h => by apply Dev.boot_keeps k; exact h⟩
  | i2cGo rq n v target => exact ⟨(fun d => if d.awake then d.i2cCmd rq n (v ||| 0x80000000#32) target else d), rfl, fun h => by dsimp only; with_reducible repeat' first | assumption | apply Dev.i2cCmd_keeps k | apply ite_keeps⟩
  | i2cCfgWrite rq n v => exact ⟨(fun d => if d.awake then d.i2cCfg rq n v else d), rfl, fun h => by dsimp only; with_reducible repeat' first | assumption | apply Dev.i2cCfg_keeps k | apply ite_keeps⟩
  | i2cTxPush rq n v => exact ⟨(fun d => if d.awake then d.i2cPush rq n v else d), rfl, fun h => by dsimp only; with_reducible repeat' first | assumption | apply Dev.i2cPush_keeps k | apply ite_keeps⟩
  | i2cRxPop rq n => exact ⟨(fun d => if d.awake then (d.i2cPop rq n).2.emit (.readData (R.I2C_CFG n + 0x60) (d.i2cPop rq n).1) else d), rfl, fun h => by dsimp only; with_reducible repeat' first | assumption | apply Dev.i2cPop_keeps k | apply Dev.emit_keeps k | apply ite_keeps⟩
  | i2cTransferEnd n => exact ⟨(·.i2cDone n), rfl, fun h => by apply Dev.i2cDone_keeps k; exact h⟩
  | busStuck n => exact ⟨(·.i2cStuck n), rfl, fun h => by apply Dev.i2cStuck_keeps k; exact h⟩
  | fifoStall n => exact ⟨(·.i2cStall n), rfl, fun h => by apply Dev.i2cStall_keeps k; exact h⟩
  | genbLine g live spare => exact ⟨(·.genB g live spare), rfl, fun h => by apply Dev.genB_keeps k; exact h⟩
  | gencPacket g pad live spare => exact ⟨(·.genC g pad live spare), rfl, fun h => by apply Dev.genC_keeps k; exact h⟩
  | genbClockLost g => exact ⟨(·.genBLost g), rfl, fun h => by apply Dev.genBLost_keeps k; exact h⟩
  | genbLock g => exact ⟨(·.genBLocked g), rfl, fun h => by apply Dev.genBLocked_keeps k; exact h⟩
  | gencLock g pad spare => exact ⟨(·.genCLock g pad spare), rfl, fun h => by apply Dev.genCLock_keeps k; exact h⟩
  | gencLossOfLock g pad spare => exact ⟨(·.genCLoss g pad spare), rfl, fun h => by apply Dev.genCLoss_keeps k; exact h⟩
  | eyeAdjust g eyes => exact ⟨(·.eyeAdjust g eyes), rfl, fun h => by apply Dev.eyeAdjust_keeps k; exact h⟩
  | spareRotation g => exact ⟨(·.spareRotate g), rfl, fun h => by apply Dev.spareRotate_keeps k; exact h⟩
  | lineMissing g pad => exact ⟨(·.lineTimeout g pad), rfl, fun h => by apply Dev.lineTimeout_keeps k; exact h⟩
  | channelCheck codes abandoned => exact ⟨(·.channelCheck codes abandoned), rfl, fun h => by apply Dev.channelCheck_keeps k; exact h⟩
  | standstillCheck codes => exact ⟨(·.standstillCheck codes), rfl, fun h => by apply Dev.standstillCheck_keeps k; exact h⟩
  | pwrOk g c => exact ⟨(·.pwrOk g c), rfl, fun h => by apply Dev.pwrOk_keeps k; exact h⟩
  | reconnectionDone g c code => exact ⟨(·.reconnectionDone g c code), rfl, fun h => by apply Dev.reconnectionDone_keeps k; exact h⟩
  | afeChCtrlWrite g c v => exact ⟨(fun d => if d.awake then d.chCtrlWrite g c v else d), rfl, fun h => by dsimp only; with_reducible repeat' first | assumption | apply Dev.chCtrlWrite_keeps k | apply ite_keeps⟩
  | afeChRangeWrite rq g c v => exact ⟨(fun d => if d.awake then d.chRangeWrite rq g c v else d), rfl, fun h => by dsimp only; with_reducible repeat' first | assumption | apply Dev.chRangeWrite_keeps k | apply ite_keeps⟩
  | trimWrite g c n v => exact ⟨(fun d => if d.awake then d.trimWrite g c n v else d), rfl, fun h => by dsimp only; with_reducible repeat' first | assumption | apply Dev.trimWrite_keeps k | apply ite_keeps⟩
  | injGo rq g v => exact ⟨(fun d => if d.awake then d.injGo rq g v else d), rfl, fun h => by dsimp only; with_reducible repeat' first | assumption | apply Dev.injGo_keeps k | apply ite_keeps⟩
  | injectionDone g => exact ⟨(·.injectionDone g), rfl, fun h => by apply Dev.injectionDone_keeps k; exact h⟩
  | afeGrpService g v => exact ⟨(fun d => if d.awake then d.serviceGo g v else d), rfl, fun h => by dsimp only; with_reducible repeat' first | assumption | apply Dev.serviceGo_keeps k | apply ite_keeps⟩
  | retireReq rq g c => exact ⟨(fun d => if d.awake then d.retireReq rq g c else d), rfl, fun h => by dsimp only; with_reducible repeat' first | assumption | apply Dev.retireReq_keeps k | apply ite_keeps⟩
  | retireCancel g c => exact ⟨(fun d => if d.awake then d.retireCancel g c else d), rfl, fun h => by dsimp only; with_reducible repeat' first | assumption | apply Dev.retireCancel_keeps k | apply ite_keeps⟩
  | squeezeCycleStart g => exact ⟨(·.cycleStart g), rfl, fun h => by apply Dev.cycleStart_keeps k; exact h⟩
  | squeezePoint g sum clipped => exact ⟨(·.squeezePoint g sum clipped), rfl, fun h => by apply Dev.squeezePoint_keeps k; exact h⟩
  | rebelayRotationStart g => exact ⟨(·.rotationStart g), rfl, fun h => by apply Dev.rotationStart_keeps k; exact h⟩
  | rebelayPrepDone g ref cal => exact ⟨(·.prepDone g ref cal), rfl, fun h => by apply Dev.prepDone_keeps k; exact h⟩
  | rebelayCompare g pairs pts => exact ⟨(·.rbCompare g pairs pts), rfl, fun h => by apply Dev.rbCompare_keeps k; exact h⟩
  | rebelaySwap g => exact ⟨(·.rbSwap g), rfl, fun h => by apply Dev.rbSwap_keeps k; exact h⟩
  | freedCalDone g cal => exact ⟨(·.freedCal g cal), rfl, fun h => by apply Dev.freedCal_keeps k; exact h⟩
  | gridTrigger  => exact ⟨(·.gridTrigger), rfl, fun h => by apply Dev.gridTrigger_keeps k; exact h⟩
  | leadTrigger  => exact ⟨(·.leadTrigger), rfl, fun h => by apply Dev.leadTrigger_keeps k; exact h⟩
  | timerTrigger  => exact ⟨(·.timerTrigger), rfl, fun h => by apply Dev.timerTrigger_keeps k; exact h⟩
  | softTrig rq v => exact ⟨(fun d => if d.awake then d.gridCtrlWrite rq (v ||| 0x00800000#32) else d), rfl, fun h => by dsimp only; with_reducible repeat' first | assumption | apply Dev.gridCtrlWrite_keeps k | apply ite_keeps⟩
  | arm rq v => exact ⟨(fun d => if d.awake then d.gridCtrlWrite rq (v ||| 0x80000000#32) else d), rfl, fun h => by dsimp only; with_reducible repeat' first | assumption | apply Dev.gridCtrlWrite_keeps k | apply ite_keeps⟩
  | disarm rq v => exact ⟨(fun d => if d.awake then d.gridCtrlWrite rq (v &&& 0x7FFFFFFF#32) else d), rfl, fun h => by dsimp only; with_reducible repeat' first | assumption | apply Dev.gridCtrlWrite_keeps k | apply ite_keeps⟩
  | ltnConfigWrite rq r v => exact ⟨(fun d => if d.awake then d.ltnConfig rq r v else d), rfl, fun h => by dsimp only; with_reducible repeat' first | assumption | apply Dev.ltnConfig_keeps k | apply ite_keeps⟩
  | sequenceEnd lead pos sigs => exact ⟨(·.sequenceEnd lead pos sigs), rfl, fun h => by apply Dev.sequenceEnd_keeps k; exact h⟩
  | flush lead => exact ⟨(·.flush lead), rfl, fun h => by apply Dev.flush_keeps k; exact h⟩
  | segmentJobDone lead plane seg fail => exact ⟨(·.segmentJob lead plane seg fail), rfl, fun h => by apply Dev.segmentJob_keeps k; exact h⟩
  | handOff late ecc => exact ⟨(·.handOff late ecc), rfl, fun h => by apply Dev.handOff_keeps k; exact h⟩
  | replayDone lead plane seg fail => exact ⟨(·.replayDone lead plane seg fail), rfl, fun h => by apply Dev.replayDone_keeps k; exact h⟩
  | verification mismatch => exact ⟨(·.verification mismatch), rfl, fun h => by dsimp only; with_reducible repeat' first | assumption | apply Dev.verification_keeps k | apply ite_keeps | split⟩
  | reconWait lead => exact ⟨(·.reconWait lead), rfl, fun h => by apply Dev.reconWait_keeps k; exact h⟩
  | reconstructionDone lead late ecc => exact ⟨(·.reconstruction lead late ecc), rfl, fun h => by apply Dev.reconstruction_keeps k; exact h⟩
  | swapReq  => exact ⟨(fun d => if d.awake then d.setF F.SHD_CTRL.SWAP_REQ 1 else d), rfl, fun h => by dsimp only; with_reducible repeat' first | assumption | apply Dev.setF_keeps k | apply ite_keeps⟩
  | swapCancel  => exact ⟨(fun d => if d.awake then d.setF F.SHD_CTRL.SWAP_REQ 0 else d), rfl, fun h => by dsimp only; with_reducible repeat' first | assumption | apply Dev.setF_keeps k | apply ite_keeps⟩
  | disarmedSwap  => exact ⟨(·.disarmedSwap), rfl, fun h => by apply Dev.disarmedSwap_keeps k; exact h⟩
  | shadingCommit  => exact ⟨(·.shadingCommit), rfl, fun h => by apply Dev.shadingCommit_keeps k; exact h⟩
  | trackUpdate m p => exact ⟨(·.trackUpdate m p), rfl, fun h => by apply Dev.trackUpdate_keeps k; exact h⟩
  | mWrite rq m p v => exact ⟨(fun d => if d.awake then d.mulWrite rq m p (v.toNat % 65536) else d), rfl, fun h => by dsimp only; with_reducible repeat' first | assumption | apply Dev.mulWrite_keeps k | apply ite_keeps⟩
  | surveyMeasurement  => exact ⟨(·.surveyMeasure), rfl, fun h => by apply Dev.surveyMeasure_keeps k; exact h⟩
  | strataMeasurement  => exact ⟨(·.strataMeasure), rfl, fun h => by apply Dev.strataMeasure_keeps k; exact h⟩
  | strCtrlWrite rq v => exact ⟨(fun d => if d.awake then d.strCtrlWrite rq v else d), rfl, fun h => by dsimp only; with_reducible repeat' first | assumption | apply Dev.strCtrlWrite_keeps k | apply ite_keeps⟩
  | flowstoneEntry  => exact ⟨(·.flowEntry), rfl, fun h => by apply Dev.flowEntry_keeps k; exact h⟩
  | flowstoneBinWrite rq i v => exact ⟨(fun d => if d.awake then d.binWrite rq i v else d), rfl, fun h => by dsimp only; with_reducible repeat' first | assumption | apply Dev.binWrite_keeps k | apply ite_keeps⟩
  | recordWrite  => exact ⟨(·.recordWrite), rfl, fun h => by apply Dev.recordWrite_keeps k; exact h⟩
  | bufferFlush n => exact ⟨(·.bufferFlush n), rfl, fun h => by apply Dev.bufferFlush_keeps k; exact h⟩
  | smpQuotaSet v => exact ⟨(fun d => if d.awake then d.quotaSet (bitsOf v.toNat 11 0) (bitsOf v.toNat 28 16) else d), rfl, fun h => by dsimp only; with_reducible repeat' first | assumption | apply Dev.quotaSet_keeps k | apply ite_keeps⟩
  | bankMigration b n => exact ⟨(fun d => if d.alive then d.bankErrors b n else d), rfl, fun h => by dsimp only; with_reducible repeat' first | assumption | apply Dev.bankErrors_keeps k | apply ite_keeps⟩
  | migrationDone  => exact ⟨(·.migrated), rfl, fun h => by apply Dev.migrated_keeps k; exact h⟩
  | uncorrectableError cell => exact ⟨(fun d => if d.alive then d.ue cell else d), rfl, fun h => by dsimp only; with_reducible repeat' first | assumption | apply Dev.ue_keeps k | apply ite_keeps⟩
  | rowRepair m row n => exact ⟨(fun d => if d.mode = .dormant then d else d.rowErrors m row n), rfl, fun h => by dsimp only; with_reducible repeat' first | assumption | apply Dev.rowErrors_keeps k | apply ite_keeps⟩
  | haulStart rq ch hi => exact ⟨(fun d => if d.awake then d.haulStart rq ch hi.toNat else d), rfl, fun h => by dsimp only; with_reducible repeat' first | assumption | apply Dev.haulStart_keeps k | apply ite_keeps⟩
  | haulProgramStart  => exact ⟨(·.haulBegin), rfl, fun h => by apply Dev.haulBegin_keeps k; exact h⟩
  | haulMove ins data => exact ⟨(·.haulMove ins data), rfl, fun h => by apply Dev.haulMove_keeps k; exact h⟩
  | haulMovex ins idx data => exact ⟨(·.haulIns 2 ins (fun d r ws => d.haulTransfer r ws idx data [] 0)), rfl, fun h => by dsimp only; with_reducible repeat' first | assumption | (apply Dev.haulIns_keeps k; intro d r ws hd) | apply Dev.haulTransfer_keeps k⟩
  | haulFill ins => exact ⟨(·.haulIns 3 ins (fun d r ws => d.haulTransfer r ws [] [] [] 0)), rfl, fun h => by dsimp only; with_reducible repeat' first | assumption | (apply Dev.haulIns_keeps k; intro d r ws hd) | apply Dev.haulTransfer_keeps k⟩
  | haulCmp ins a b => exact ⟨(·.haulCmp ins a b), rfl, fun h => by apply Dev.haulCmp_keeps k; exact h⟩
  | haulLoop ins => exact ⟨(·.haulIns 5 ins (fun d r ws => d.haulLoopIns r ws)), rfl, fun h => by dsimp only; with_reducible repeat' first | assumption | (apply Dev.haulIns_keeps k; intro d r ws hd) | apply Dev.haulLoopIns_keeps k⟩
  | haulWait ins => exact ⟨(·.haulIns 6 ins (fun d r ws => d.haulWaitIns r ws)), rfl, fun h => by dsimp only; with_reducible repeat' first | assumption | (apply Dev.haulIns_keeps k; intro d r ws hd) | apply Dev.haulWaitIns_keeps k⟩
  | haulWaitTimeout ins => exact ⟨(·.haulTimeout ins), rfl, fun h => by apply Dev.haulTimeout_keeps k; exact h⟩
  | haulSignal ins => exact ⟨(·.haulIns 7 ins (fun d r ws => (d.haulGo r.count r.after).linePulse (insLine ws))), rfl, fun h => by dsimp only; with_reducible repeat' first | assumption | (apply Dev.haulIns_keeps k; intro d r ws hd) | apply Dev.haulGo_keeps k | apply Dev.linePulse_keeps k⟩
  | haulNext ins => exact ⟨(·.haulIns 8 ins (fun d r ws => d.haulNextIns r ws)), rfl, fun h => by dsimp only; with_reducible repeat' first | assumption | (apply Dev.haulIns_keeps k; intro d r ws hd) | apply Dev.haulNextIns_keeps k⟩
  | haulEnd ins => exact ⟨(·.haulIns 9 ins (fun d r _ => d.haulEndIns r)), rfl, fun h => by dsimp only; with_reducible repeat' first | assumption | (apply Dev.haulIns_keeps k; intro d r ws hd) | apply Dev.haulEndIns_keeps k⟩
  | haulEndReread words => exact ⟨(·.haulReread words), rfl, fun h => by apply Dev.haulReread_keeps k; exact h⟩
  | burstRequest a b => exact ⟨(·.haulRequested a b), rfl, fun h => by apply Dev.haulRequested_keeps k; exact h⟩
  | busError cause fetch ins idx a b => exact ⟨(·.haulBusError (cause.val + 1) fetch ins idx a b), rfl, fun h => by apply Dev.haulBusError_keeps k; exact h⟩
  | haulClear ch => exact ⟨(fun d => if d.awake then d.haulClear ch else d), rfl, fun h => by dsimp only; with_reducible repeat' first | assumption | apply Dev.haulClear_keeps k | apply ite_keeps⟩
  | servoPeriod  => exact ⟨(·.servoStep), rfl, fun h => by apply Dev.servoStep_keeps k; exact h⟩
  | stall a => exact ⟨(·.stallFlag a), rfl, fun h => by apply Dev.stallFlag_keeps k; exact h⟩
  | limitSwitch a active => exact ⟨(·.limitSwitch a active), rfl, fun h => by apply Dev.limitSwitch_keeps k; exact h⟩
  | overcurrent a coil mon => exact ⟨(·.overcurrent a coil mon), rfl, fun h => by apply Dev.overcurrent_keeps k; exact h⟩
  | encoderFault a cause => exact ⟨(fun d => if d.alive && d.encFaultFits a cause then d.encFault a cause else d), rfl, fun h => by dsimp only; with_reducible repeat' first | assumption | apply Dev.encFault_keeps k | apply ite_keeps⟩
  | ssiFrame a raw high => exact ⟨(·.ssiFrame a raw.toNat high), rfl, fun h => by apply Dev.ssiFrame_keeps k; exact h⟩
  | switchEdge a z active pos => exact ⟨(·.switchEdge a z active pos), rfl, fun h => by apply Dev.switchEdge_keeps k; exact h⟩
  | axsEstop v => exact ⟨(fun d => if d.awake then d.estop v.toNat else d), rfl, fun h => by dsimp only; with_reducible repeat' first | assumption | apply Dev.estop_keeps k | apply ite_keeps⟩
  | posGo a => exact ⟨(fun d => if d.awake then d.posGo a else d), rfl, fun h => by dsimp only; with_reducible repeat' first | assumption | apply Dev.posGo_keeps k | apply ite_keeps⟩
  | servoPeriodWrite rq v => exact ⟨(fun d => if d.awake then d.servoPeriodWrite rq v.toNat else d), rfl, fun h => by dsimp only; with_reducible repeat' first | assumption | apply Dev.servoPeriodWrite_keeps k | apply ite_keeps⟩
  | ocClear a => exact ⟨(fun d => if d.awake then d.ocClear a else d), rfl, fun h => by dsimp only; with_reducible repeat' first | assumption | apply Dev.ocClear_keeps k | apply ite_keeps⟩
  | encClear a => exact ⟨(fun d => if d.awake then (d.setF (F.ENC_STATUS.ENC_FAULT a) 0).setF (F.ENC_STATUS.CAUSE a) 0 else d), rfl, fun h => by dsimp only; with_reducible repeat' first | assumption | apply Dev.setF_keeps k | apply ite_keeps⟩
  | refSwitch a up set iRef => exact ⟨(fun d => if d.awake then d.refStart a 0 up set iRef else d), rfl, fun h => by dsimp only; with_reducible repeat' first | assumption | apply Dev.refStart_keeps k | apply ite_keeps⟩
  | refHardStop a up set iRef => exact ⟨(fun d => if d.awake then d.refStart a 1 up set iRef else d), rfl, fun h => by dsimp only; with_reducible repeat' first | assumption | apply Dev.refStart_keeps k | apply ite_keeps⟩
  | refCombined a up set iRef => exact ⟨(fun d => if d.awake then d.refStart a 2 up set iRef else d), rfl, fun h => by dsimp only; with_reducible repeat' first | assumption | apply Dev.refStart_keeps k | apply ite_keeps⟩
  | referencingDone a => exact ⟨(·.refDone a), rfl, fun h => by apply Dev.refDone_keeps k; exact h⟩
  | chopperTrip a coil mon => exact ⟨(·.chopperTrip a coil mon), rfl, fun h => by apply Dev.chopperTrip_keeps k; exact h⟩
  | chopperOn a coil => exact ⟨(·.chopperOn a coil), rfl, fun h => by apply Dev.chopperOn_keeps k; exact h⟩
  | hkcPassStart c conv => exact ⟨(·.hkcPass c conv), rfl, fun h => by apply Dev.hkcPass_keeps k; exact h⟩
  | hkcCommit c => exact ⟨(fun d => if d.awake then d.setF (F.HKC_SEQ_CTRL.COMMIT c) 1 else d), rfl, fun h => by dsimp only; with_reducible repeat' first | assumption | apply Dev.setF_keeps k | apply ite_keeps⟩
  | hkcRunStart c => exact ⟨(fun d => if d.awake && !d.on (F.HKC_SEQ_CTRL.RUN c) then d.hkcStart c else d), rfl, fun h => by dsimp only; with_reducible repeat' first | assumption | apply Dev.hkcStart_keeps k | apply ite_keeps⟩
  | hkcFifoPop rq c off => exact ⟨(fun d => if d.awake then (d.hkcPop rq c (0xC0400 + 0x1000 * c.val + 4 * off.val)).2.emit (.readData (0xC0400 + 0x1000 * c.val + 4 * off.val) (d.hkcPop rq c (0xC0400 + 0x1000 * c.val + 4 * off.val)).1) else d), rfl, fun h => by dsimp only; with_reducible repeat' first | assumption | apply Dev.hkcPop_keeps k | apply Dev.emit_keeps k | apply ite_keeps⟩
  | referenceMeasurement host theta => exact ⟨(·.referenceMeasurement host theta.toInt), rfl, fun h => by apply Dev.referenceMeasurement_keeps k; exact h⟩
  | holdover host => exact ⟨(·.holdover host), rfl, fun h => by apply Dev.holdover_keeps k; exact h⟩
  | ptmDialog ns => exact ⟨(·.ptmDialog ns), rfl, fun h => by apply Dev.ptmDialog_keeps k; exact h⟩
  | ppsEdge  => exact ⟨(·.ppsEdge), rfl, fun h => by apply Dev.ppsEdge_keeps k; exact h⟩
  | rearm b => exact ⟨(fun d => if d.awake then d.rearm b else d), rfl, fun h => by dsimp only; with_reducible repeat' first | assumption | apply Dev.rearm_keeps k | apply ite_keeps⟩
  | netSetGo  => exact ⟨(fun d => if d.awake then d.netSetGo else d), rfl, fun h => by dsimp only; with_reducible repeat' first | assumption | apply Dev.netSetGo_keeps k | apply ite_keeps⟩
  | axisStep  => exact ⟨(fun d => if d.awake && d.allStand then d.axisStep else d), rfl, fun h => by dsimp only; with_reducible repeat' first | assumption | apply Dev.axisStep_keeps k | apply ite_keeps⟩
  | cairnTick  => exact ⟨(·.cairnTick), rfl, fun h => by apply Dev.cairnTick_keeps k; exact h⟩
  | cairnSetGo  => exact ⟨(fun d => if d.awake then d.cairnSetGo else d), rfl, fun h => by dsimp only; with_reducible repeat' first | assumption | apply Dev.cairnSetGo_keeps k | apply ite_keeps⟩
  | cairnCopy src => exact ⟨(fun d => if d.awake then d.cairnCopy src else d), rfl, fun h => by dsimp only; with_reducible repeat' first | assumption | apply Dev.cairnCopy_keeps k | apply ite_keeps⟩
  | actionDue  => exact ⟨(·.actionDue), rfl, fun h => by apply Dev.actionDue_keeps k; exact h⟩
  | tetherFrameReceived west words fwd => exact ⟨(·.frameReceived (b2n west) (words.map (fun w => w.toNat)) fwd), rfl, fun h => by apply Dev.frameReceived_keeps k; exact h⟩
  | tetherLinkDown west => exact ⟨(·.linkDown (b2n west)), rfl, fun h => by apply Dev.linkDown_keeps k; exact h⟩
  | tetherLinkUp west => exact ⟨(·.linkUp (b2n west)), rfl, fun h => by apply Dev.linkUp_keeps k; exact h⟩
  | pdReq west => exact ⟨(·.pdReq (b2n west)), rfl, fun h => by apply Dev.pdReq_keeps k; exact h⟩
  | sync  => exact ⟨(·.sendSync), rfl, fun h => by apply Dev.sendSync_keeps k; exact h⟩
  | electionTimeout  => exact ⟨(·.electionTimeout), rfl, fun h => by apply Dev.electionTimeout_keeps k; exact h⟩
  | govTimeout  => exact ⟨(·.govTimeout), rfl, fun h => by apply Dev.govTimeout_keeps k; exact h⟩
  | stationMasterLost  => exact ⟨(·.stationMasterLost), rfl, fun h => by apply Dev.stationMasterLost_keeps k; exact h⟩
  | chalReq  => exact ⟨(fun d => if d.awake then d.chalReq else d), rfl, fun h => by dsimp only; with_reducible repeat' first | assumption | apply Dev.chalReq_keeps k | apply ite_keeps⟩
  | respGo  => exact ⟨(fun d => if d.awake then d.respGo else d), rfl, fun h => by dsimp only; with_reducible repeat' first | assumption | apply Dev.respGo_keeps k | apply ite_keeps⟩
  | lockNow  => exact ⟨(fun d => if d.awake then d.lockNow else d), rfl, fun h => by dsimp only; with_reducible repeat' first | assumption | apply Dev.lockNow_keeps k | apply ite_keeps⟩
  | challengeExpiry  => exact ⟨(fun d => if d.sec.challenge.isSome then d.setChallenge none else d), rfl, fun h => by dsimp only; with_reducible repeat' first | assumption | apply Dev.setChallenge_keeps k | apply ite_keeps⟩
  | ledgerWrite  => exact ⟨(·.ledgerWrite), rfl, fun h => by apply Dev.ledgerWrite_keeps k; exact h⟩
  | tstSelect rq atest n v => exact ⟨(fun d => if d.awake && !(atest && decide (3 < n.val)) then d.tstWrite rq atest n v else d), rfl, fun h => by dsimp only; with_reducible repeat' first | assumption | apply Dev.tstWrite_keeps k | apply ite_keeps⟩
  | extest cells => exact ⟨(·.jtag (fun d => (d.loadIr 0).loadCells cells)), rfl, fun h => by dsimp only; with_reducible repeat' first | assumption | (apply Dev.jtag_keeps k; intro d hd) | apply Dev.loadIr_keeps k | apply Dev.loadCells_keeps k⟩
  | idcode  => exact ⟨(·.jtag (fun d => (d.loadIr 1).emit (.tdo idcode))), rfl, fun h => by dsimp only; with_reducible repeat' first | assumption | (apply Dev.jtag_keeps k; intro d hd) | apply Dev.loadIr_keeps k | apply Dev.emit_keeps k⟩
  | samplePreload pins cells => exact ⟨(·.jtag (fun d => ((d.loadIr 2).emit (.tdo (pins.foldr (fun b n => b2n b + 2 * n) 0))).loadCells cells)), rfl, fun h => by dsimp only; with_reducible repeat' first | assumption | (apply Dev.jtag_keeps k; intro d hd) | apply Dev.loadIr_keeps k | apply Dev.emit_keeps k | apply Dev.loadCells_keeps k⟩
  | clamp  => exact ⟨(·.jtag (·.loadIr 4)), rfl, fun h => by dsimp only; with_reducible repeat' first | assumption | (apply Dev.jtag_keeps k; intro d hd) | apply Dev.loadIr_keeps k⟩
  | highz  => exact ⟨(·.jtag (·.loadIr 5)), rfl, fun h => by dsimp only; with_reducible repeat' first | assumption | (apply Dev.jtag_keeps k; intro d hd) | apply Dev.loadIr_keeps k⟩
  | debugInstruction code => exact ⟨(·.jtag (fun d => if 0x80 ≤ code.val ∧ code.val ≤ 0xFE then d.loadIr code else d)), rfl, fun h => by dsimp only; with_reducible repeat' first | assumption | (apply Dev.jtag_keeps k; intro d hd) | apply Dev.loadIr_keeps k | apply ite_keeps⟩
  | bypass code => exact ⟨(·.jtag (·.loadIr (if code.val ≤ 5 ∧ code.val ≠ 3 ∨ 0x80 ≤ code.val then 0xFF else code))), rfl, fun h => by dsimp only; with_reducible repeat' first | assumption | (apply Dev.jtag_keeps k; intro d hd) | apply Dev.loadIr_keeps k | apply ite_keeps⟩
  | topIntWrite rq enable v => exact ⟨(·.writeWord rq (if enable then R.TOP_INT_ENABLE else R.TOP_INT_STATUS) v 15), rfl, fun h => by dsimp only; with_reducible repeat' first | assumption | apply Dev.writeWord_keeps k | apply ite_keeps⟩
  | twoHalfRead rq a => exact ⟨(·.hostRead rq a), rfl, fun h => by apply Dev.hostRead_keeps k; exact h⟩
  | rcRead rq a => exact ⟨(·.hostRead rq a), rfl, fun h => by apply Dev.hostRead_keeps k; exact h⟩
  | registerWrite rq a v be => exact ⟨(·.writeWord rq a v be), rfl, fun h => by apply Dev.writeWord_keeps k; exact h⟩
  | encoderCount a n => exact ⟨(·.encoderCount a n), rfl, fun h => by apply Dev.encoderCount_keeps k; exact h⟩
  | tevEdge n rising => exact ⟨(·.tevEdge n rising), rfl, fun h => by apply Dev.tevEdge_keeps k; exact h⟩
  | ppsOut  => exact ⟨(·.ppsOut), rfl, fun h => by apply Dev.ppsOut_keeps k; exact h⟩
  | lockLost g back => exact ⟨(·.pllLost g back), rfl, fun h => by apply Dev.pllLost_keeps k; exact h⟩
  | perstNDeassertion  => exact ⟨(·.perstHigh), rfl, fun h => by apply Dev.perstHigh_keeps k; exact h⟩
  | linkTrained  => exact ⟨(·.linkTrained), rfl, fun h => by apply Dev.linkTrained_keeps k; exact h⟩
  | testLogicReset  => exact ⟨(·.jtag (·.loadIr 1)), rfl, fun h => by dsimp only; with_reducible repeat' first | assumption | (apply Dev.jtag_keeps k; intro d hd) | apply Dev.loadIr_keeps k⟩

theorem exec_keeps {i : Instr} {s t : State} (c : Keeps P) (hf : i.writesFlash = true → KeepsFlash P) (ho : i.writesOtp = true → KeepsOtp P)
    (h : exec i s = .next t) (hp : P s.dev) : P t.dev := by
  obtain ⟨f, h1, h2⟩ := exec_lifts i s c hf ho
  rw [h1, State.lift] at h
  cases h
  exact h2 hp

/-- No command touches the queue. -/
theorem exec_pending {i : Instr} {s t : State} (h : exec i s = .next t) : t.pending = s.pending := by
  have c : KeepsAll (fun _ => True) := ⟨⟨⟨fun _ _ _ _ => trivial, fun _ _ _ _ => trivial, fun _ _ _ _ _ _ _ => trivial⟩, fun _ _ _ _ => trivial⟩,
    fun _ _ _ => trivial⟩
  obtain ⟨f, h1, -⟩ := exec_lifts i s c.toKeeps (fun _ => c.toKeepsFlash) (fun _ => c.toKeepsOtp)
  rw [h1, State.lift] at h
  cases h
  rfl

end Sys2Proof.Machine
end

