-- ==== Sys2Proof/Tests/Slice0.lean ====
section
/-! SUPPORT. Tests: ill-formed commands that the check refuses, values worked out from the spec, and for every statement states
and operands that meet the hypotheses of its clauses together. -/

namespace Sys2Proof.Tests

set_option Elab.async false

open Sys2Proof.Machine

/-! ## Small states -/

/-- The device after reset, in a mode, with its link up and Bus Master Enable set. -/
def inMode (m : Mode) : Dev := { devReset with mode := m, link := ⟨true, true, false, false, true, false, false, true⟩ }

/-- Fields set on a device. -/
def set (d : Dev) (l : List (Fld × Nat)) : Dev := l.foldl (fun d p => d.setF p.1 p.2) d

def st (d : Dev) : State := ⟨d, []⟩

/-- SQ 63 bound to CQ 5, both enabled with 16 entries. -/
def rings : Dev := set (inMode .run) [(F.HST_SQ_CFG.EN 63, 1), (F.HST_SQ_CFG.SIZE_LOG 63, 4), (F.HST_SQ_CFG.CQ 63, 5),
  (F.HST_SQ_STATUS.STATE 63, 1), (F.HST_CQ_CFG.EN 5, 1), (F.HST_CQ_CFG.SIZE_LOG 5, 4), (F.HST_CQ_STATUS.STATE 5, 1),
  (F.HST_CQ_STATUS.PHASE 5, 1)]

def src0 : Src := ⟨63, 7, false, false⟩

def cpl0 : Cpl := ⟨[1, 2, 3, 4, 5, 6, 7], none, false⟩

/-- The device after a command. -/
def after (i : Instr) (d : Dev) : Option Dev := match exec i (st d) with | .next t => some t.dev | _ => none
/-- The state after a step. -/
def stepped (s : State) : Option State := match step s with | .next t => some t | _ => none

/-! ## Well-formedness: one ill-formed command for each check -/

theorem test_wf_address : Instr.wf (.bufferPost src0 0 (2 ^ 64)) = false ∧ Instr.wf (.bufferPost src0 0 (2 ^ 64 - 1)) = true := by
  decide +kernel

theorem test_wf_length : Instr.wf (.tableLoadBarRecord src0 0 (2 ^ 32)) = false ∧
    Instr.wf (.tableLoadShading src0 (2 ^ 64) 0 false) = false ∧ Instr.wf (.tableLoadContext src0 0 (2 ^ 32)) = false ∧
    Instr.wf (.tableLoadFlowstone src0 0 (2 ^ 32)) = false ∧ Instr.wf (.storeWriteFirmware src0 0 (2 ^ 32) .error .done) = false ∧
    Instr.wf (.storeWriteCalStore src0 0 (2 ^ 32) .error .done) = false := by decide +kernel

theorem test_wf_requests : Instr.wf (.oemKeyAdd src0 0 (2 ^ 32) .error false) = false ∧
    Instr.wf (.oemKeyRevoke src0 (2 ^ 64) 160 .error) = false ∧ Instr.wf (.rollbackSet src0 0 (2 ^ 32) .error) = false ∧
    Instr.wf (.otpLock src0 0 (2 ^ 32) .error) = false ∧ Instr.wf (.attest src0 0 512 []) = false := by decide +kernel

theorem test_wf_signed64 : Instr.wf (.move src0 0 (2 ^ 63) 0 false false) = false ∧
    Instr.wf (.ctxStart src0 0 (some (2 ^ 63))) = false ∧ Instr.wf (.ctxStop src0 0 (some (-(2 ^ 63) - 1))) = false ∧
    Instr.wf (.moveCoord src0 1 [0, 0, 0, 0, 0] 0 false false) = false ∧
    Instr.wf (.moveCoord src0 1 [0, 0, 0, 0, 0, 2 ^ 63] 0 false false) = false ∧
    Instr.wf (.ptmDialog (some (2 ^ 64))) = false ∧ Instr.wf (.boundaryPost src0 0 0 0 (2 ^ 63) (0, 0)) = false ∧
    Instr.wf (.sequenceEnd false [2 ^ 63] []) = false := by decide +kernel

theorem test_wf_words : Instr.wf (.haulFill []) = false ∧ Instr.wf (.haulMove (List.replicate 9 0) []) = false ∧
    Instr.wf (.tetherFrameReceived false [] 0) = false ∧ Instr.wf (.sqFetch 0 (List.replicate 9 (List.replicate 16 0))) = false ∧
    Instr.wf (.sqFetch 0 [[]]) = false ∧ Instr.wf (.timeSchedule src0 0 1 false 0 0 []) = false ∧
    (∀ i ∈ [Instr.haulMovex [] [] [], .haulCmp [] [] [], .haulLoop [], .haulWait [], .haulWaitTimeout [], .haulSignal [], .haulNext [],
      .haulEnd [], .busError 0 false [] [] [] []], i.wf = false) := by decide +kernel

theorem test_wf_codes : Instr.wf (.reconnectionDone 0 0 65536) = false ∧ Instr.wf (.debugInstruction 0x7F) = false ∧
    Instr.wf (.debugInstruction 0xFF) = false ∧ Instr.wf (.bypass 5) = false ∧ Instr.wf (.bypass 0x80) = false ∧
    Instr.wf (.bypass 3) = true ∧ Instr.wf (.genbLine 0 [65536] none) = false ∧ Instr.wf (.genbLine 0 [] (some [65536])) = false ∧
    Instr.wf (.eyeAdjust 0 [(65, 0)]) = false := by decide +kernel

theorem test_wf_offsets : Instr.wf (.registerWrite .host 2 0 15) = false ∧ Instr.wf (.rcRead .host (2 ^ 26)) = false ∧
    Instr.wf (.twoHalfRead .host 1) = false ∧ Instr.wf (.rcRead .host (2 ^ 26 - 4)) = true := by decide +kernel

/-! ## The hypotheses of the statements are met -/

theorem meets_StepTakesFront : (inMode .dormant).inReset = false ∧ (inMode .dormant).mode = .dormant ∧ (inMode .run).mode ≠ .dormant ∧
    { inMode .run with rst := some ResetKind.pin }.inReset = true := by decide +kernel

theorem meets_CanonKept : (st (set (inMode .run) [(F.HST_SQ_CFG.EN 0, 1)])).Canon ∧
    stepped (st (inMode .dormant)) = some (st { inMode .dormant with clock := 1 }) := by decide +kernel

theorem meets_FlashWriters : Instr.writesFlash .powerOnReset = false ∧ Instr.writesFlash .chalReq = false ∧
    after .ppsEdge (inMode .boot) = some (inMode .boot) := by decide +kernel

theorem meets_OtpWriters : Instr.writesOtp .powerOnReset = false ∧ Instr.writesOtp (.storeWriteFirmware src0 0 0 .error .done) = false ∧
    after .ppsEdge (inMode .boot) = some (inMode .boot) := by decide +kernel

theorem meets_ModeWriters : Instr.changesMode (.modeReqRun .host) = false ∧
    after .modeRequestComplete (inMode .run) = some (inMode .run) ∧
    after (.modeReqRun .host) (inMode .dormant) = some (inMode .dormant) := by decide +kernel

/-- A completion waits for CQ 5. -/
def heldBack : Dev := rings.setCq 5 ⟨0, 0, [cpl0], 0⟩

theorem meets_RingCompletions : (heldBack.cq 5).held = [cpl0] ∧ heldBack.cqTakes 5 = true ∧
    ({ heldBack with link := devReset.link }.cq 5).held = [cpl0] ∧ { heldBack with link := devReset.link }.cqTakes 5 = false := by
  decide +kernel

theorem meets_DoorbellsAct : rings.awake = true ∧ rings.f (F.HST_SQ_CFG.EN 63) = 1 ∧ 15 < 2 ^ rings.f (F.HST_SQ_CFG.SIZE_LOG 63) ∧
    rings.f (F.HST_SQ_STATUS.STATE 63) = 1 ∧ rings.f (F.HST_CQ_CFG.EN 5) = 1 ∧ 0 < 2 ^ rings.f (F.HST_CQ_CFG.SIZE_LOG 5) ∧
    (0 + rings.cqSize 5 - (rings.cq 5).head) % rings.cqSize 5 ≤
      (rings.f (F.HST_CQ_STATUS.TAIL 5) + rings.cqSize 5 - (rings.cq 5).head) % rings.cqSize 5 ∧
    rings.f F.TOP_ERR_STATUS.ACCESS_ERR = 0 ∧ rings.f (F.HST_SQ_CFG.EN 62) = 0 ∧ rings.f (F.HST_CQ_CFG.EN 0) = 0 := by decide +kernel

/-- CQ 5 in ERROR, three completions in it unread. -/
def broken : Dev := set rings [(F.HST_CQ_STATUS.STATE 5, 2)]

theorem meets_DoorbellRange : rings.awake = true ∧ rings.f (F.HST_SQ_CFG.EN 63) = 1 ∧
    2 ^ rings.f (F.HST_SQ_CFG.SIZE_LOG 63) ≤ (16 : Word).toNat % 65536 ∧ rings.f (F.HST_CQ_CFG.EN 5) = 1 ∧
    2 ^ rings.f (F.HST_CQ_CFG.SIZE_LOG 5) ≤ (16 : Word).toNat % 65536 ∧
    (rings.f (F.HST_CQ_STATUS.TAIL 5) + rings.cqSize 5 - (rings.cq 5).head) % rings.cqSize 5 <
      ((1 : Word).toNat % 65536 + rings.cqSize 5 - (rings.cq 5).head) % rings.cqSize 5 ∧
    broken.f (F.HST_CQ_STATUS.STATE 5) = 2 ∧ broken.ring src0 = 5 ∧ broken.f (F.HST_SQ_CFG.CQ 63) = 5 ∧ broken.ctxRing 0 = 0 ∧
    (set broken [(F.HST_CQ_STATUS.STATE 0, 2)]).f (F.HST_CQ_STATUS.STATE 0) = 2 := by decide +kernel

/-- Three entries of SQ 63 to fetch. -/
def toFetch : Dev := rings.setSq 63 ⟨3, 0, 3, []⟩
/-- A NOP and an unknown opcode fetched. -/
def nopFetched : Dev := rings.setSq 63 ⟨1, 1, 1, [0x00070000#32 :: List.replicate 15 0#32]⟩
def oddFetched : Dev := rings.setSq 63 ⟨1, 1, 1, [0x000700FF#32 :: List.replicate 15 0#32]⟩
/-- An entry with FENCE. -/
def fenceFetched : Dev := rings.setSq 63 ⟨1, 1, 1, [0x00070100#32 :: List.replicate 15 0#32]⟩

theorem meets_CommandsFetched : toFetch.sqFetches 63 = true ∧ 0 < toFetch.sqFetchCount 63 ∧ nopFetched.awake = true ∧
    nopFetched.nextSq = some 63 ∧ (nopFetched.sq 63).fetched = [0x00070000#32 :: List.replicate 15 0#32] ∧
    nopFetched.modeIn [.standby, .calibrate, .run, .service] = true ∧ oddFetched.nextSq = some 63 ∧
    (oddFetched.sq 63).fetched = [0x000700FF#32 :: List.replicate 15 0#32] ∧
    0xFF ∉ [0, 1, 2, 3, 0x10, 0x11, 0x12, 0x13, 0x20, 0x30, 0x31, 0x40, 0x50, 0x60, 0x61] ∧
    fenceFetched.nextSq = some 63 := by decide +kernel

theorem meets_RingEnable : rings.awake = true ∧ (4 ≤ (0x80000004#32).toNat % 32 ∧ (0x80000010#32).toNat % 32 ≤ 16) ∧
    rings.f (F.HST_SQ_CFG.EN 62) = 0 ∧ rings.f (F.HST_CQ_CFG.EN 4) = 0 ∧ bitOf (0x80000004#32).toNat 31 = true ∧
    rings.f (F.HST_SQ_CFG.EN 63) = 1 ∧ (0x00050004#32 ||| 0x80000000#32) &&& 0xE03F001F#32 = rings.reg (R.HST_SQ_CFG 63) ∧
    bitOf (0x00050004#32).toNat 31 = false ∧ (rings.sq 63).tail < 65536 ∧ rings.f (F.HST_CQ_CFG.EN 5) = 1 ∧
    ((rings.reg (R.HST_CQ_CFG 5) &&& 0x7FFFFFFF#32) ||| 0x80000000#32) &&& 0xFF0FF01F#32 = rings.reg (R.HST_CQ_CFG 5) ∧
    4 ≤ (rings.reg (R.HST_CQ_CFG 5) &&& 0x7FFFFFFF#32).toNat % 32 ∧ (rings.reg (R.HST_CQ_CFG 5) &&& 0x7FFFFFFF#32).toNat % 32 ≤ 16 ∧
    bitOf (rings.reg (R.HST_CQ_CFG 5) &&& 0x7FFFFFFF#32).toNat 31 = false := by decide +kernel

/-- CQ 5 with one entry not signalled; vector 0 unmasked; vector 1 waiting. -/
def unsignalled : Dev := { (set rings [(F.HST_CQ_MOD.MOD_TIME 5, 1), (F.TOP_INT_STATUS.HST, 1)]).setCq 5 ⟨0, 0, [], 1⟩ with
  msixTab := [(3, 0)]
  pba := [1] }

theorem meets_InterruptMessages : 0 < unsignalled.f (F.HST_CQ_MOD.MOD_TIME 5) ∧ 0 < (unsignalled.cq 5).unsig ∧
    unsignalled.msixMasked (unsignalled.f (F.HST_CQ_CFG.VECTOR 5)) = false ∧ unsignalled.canIssue = true ∧ 1 ∈ unsignalled.pba ∧
    unsignalled.awake = true ∧ (inMode .boot).awake = false ∧ unsignalled.f F.HST_CFG.ERR_VEC = 0 ∧
    unsignalled.reg R.TOP_INT_STATUS &&& 0x200#32 ≠ 0 ∧ unsignalled.reg R.TOP_INT_STATUS &&& unsignalled.reg R.TOP_INT_ENABLE = 0 ∧
    (set unsignalled [(F.TOP_INT_ENABLE.HST, 1)]).reg R.TOP_INT_STATUS &&& (set unsignalled [(F.TOP_INT_ENABLE.HST, 1)]).reg R.TOP_INT_ENABLE ≠ 0 ∧
    (inMode .run).msixMasked 0 = true ∧ { unsignalled with link := devReset.link }.canIssue = false := by decide +kernel

/-- One Gen A image module of 8 photosites on channel 0 of group 0, in plane R. -/
def mod1 : Module :=
  { id := 0, gen := 1, role := 0, group := 0, taps := 1, layout := 0, map := [0, 255, 255, 255], orient := 0, mode := 0, spOut := 0,
    photosites := 8, blackLead := 1, blackTrail := 1, overlap := 0, tileStart := 0, tileCount := 0, dummyLead := 0, dummyTrail := 0,
    xweb := 0, aweb := 0, rate := 20000, spWidth := 10, phase := 0 }

def bar1 : Bar := ⟨[], 1, 0, [mod1]⟩

/-- RUN with a bar record, a valid shading set, supply 63 and CQ 5, and an entry of context 4095 that passes every check. -/
def ready : Dev := ((((set { rings with bar := some bar1 } [(F.SHD_CTRL.VALID_0, 1), (F.CTX_SUPPLY_CFG.EN 63, 1),
  (F.CTX_SUPPLY_CFG.LEN 63, 1)]).setMem (ctxEntry 4095) 4 0x10000000).setMem (ctxEntry 4095 + 4) 4 0x17F01000).setMem
  (ctxEntry 4095 + 12) 4 6).setMem (ctxEntry 4095 + 36) 4 1

def rec0 : Rec := ⟨[1, 2, 3, 4, 5, 6, 7, 8], false, [1, 2, 3], 1⟩

theorem meets_BuffersAndQuotas : (0x1000 : Nat) % 4096 = 0 ∧ (4095 : Nat) % 4096 ≠ 0 ∧
    ready.modeIn [.standby, .calibrate, .run, .service] = true ∧ ready.f (F.CTX_SUPPLY_CFG.EN 63) = 1 ∧
    (ready.supply 63).length < 4096 ∧ (inMode .boot).modeIn [.standby, .calibrate, .run, .service] = false ∧
    ready.f (F.CTX_SUPPLY_CFG.EN 0) = 0 ∧ 4096 ≤ (({ ready with supplies := [(63, List.replicate 4096 4096)] } : Dev).supply 63).length ∧
    (0x00000FFF#32).toNat / 65536 % 8192 = 0 ∧ 4096 < (0x10010FFF#32).toNat / 65536 % 8192 ∧
    (0x10000FFF#32).toNat / 65536 % 8192 = 4096 ∧ recordCells (ready.ctxLargest 4095) ≤ 4096 ∧
    1 < recordCells ((ready.setMem (ctxEntry 4095 + 12) 4 0x7FFFF).ctxLargest 4095) := by decide +kernel

/-- Context 4095 is RUNNING with a record that waits; then with nothing left. -/
def capturing : Dev := ready.setCtx 4095 { ctxInit 4095 with state := 2, waiting := [rec0], cells := 1, sq := some 63 }
def drained : Dev := ready.setCtx 4095 { ctxInit 4095 with state := 2 }

theorem meets_ContextLifecycle : ready.ctxCheck 4095 = 0 ∧ ready.linePassed 5 = false ∧
    ({ ready with ltn := { ready.ltn with lastK := some 5 } } : Dev).linePassed 5 = true ∧
    ({ ready with ltn := { ready.ltn with lastK := some 5 } } : Dev).ctxCheck 4095 = 0 ∧ ready.ctxCheck 0 ≠ 0 ∧
    (inMode .standby).modeIn [.run, .service] = false ∧ rings.modeIn [.run, .service] = true ∧ rings.bar = none ∧
    (ready.ctx 4095).state = 0 ∧ (capturing.ctx 4095).state ≠ 0 ∧ capturing.modeIn [.run, .service] = true ∧
    (capturing.ctx 4095).waiting ≠ [] ∧ capturing.linePassed 5 = false ∧ (drained.ctx 4095).state ≠ 0 ∧ (drained.ctx 4095).waiting = [] ∧
    (drained.ctx 4095).buf = none ∧ drained.gal.lines = [] ∧ drained.ltn.mainQ = [] ∧ drained.running = [] := by decide +kernel

/-- A record of context 4095 goes into its open buffer, or into a new one. -/
def intoBuf : Dev := ready.setCtx 4095 { ctxInit 4095 with state := 2, waiting := [rec0], buf := some ⟨0x1000, 63, 0, 0, 0⟩ }
def intoNew : Dev := capturing.setSupply 63 [0x2000]

theorem meets_RecordsDelivered : ready.nextWriter = none ∧ intoBuf.nextWriter = some 4095 ∧ (intoBuf.ctx 4095).waiting = [rec0] ∧
    0 + rec0.size ≤ intoBuf.supplyLen 63 ∧ intoNew.nextWriter = some 4095 ∧ (intoNew.ctx 4095).buf = none ∧
    intoNew.supply (intoNew.ctxSupply 4095) = [0x2000] ∧ (ready.ctx 4095).buf = none ∧ intoBuf.ctxField 4095 9 15 0 ≠ 0 ∧
    intoBuf.canWrite 4095 = true ∧ ready.ctxField 0 9 15 0 = 0 := by decide +kernel

theorem meets_ContextAndRingAborts : capturing.modeIn [.standby, .calibrate, .run, .service] = true ∧ (ready.ctx 4095).state = 0 ∧
    (capturing.ctx 4095).state ≠ 0 ∧ capturing.f (F.HST_SQ_STATUS.STATE 0) = 0 ∧ capturing.f (F.HST_SQ_STATUS.STATE 63) ≠ 0 ∧
    capturing.running = [] ∧ (capturing.ctx 4095).sq = some 63 := by decide +kernel

/-- A MOVE of axis 5 under way; slot 255 scheduled; Haul channel 7 halted, and with a program queued. -/
def lims0 : Lims := ⟨1, 1, 1, 1, 1, 1⟩
def move5 : Move :=
  { id := 0, owner := .cmd 0, adv := none, coord := false, set := 0, rev := false, rel := false,
    axes := [⟨5, 1000, 1000, 1000, 0, lims0⟩], leader := 5, planned := true, s := 0, braking := false, reversed := false, cause := none,
    emerg := false, held := false, seg := 0, boundary := false, cap := none, factor := 4096 }
def moving : Dev := { ready with moves := [move5] }
def scheduled : Dev := { ready with
  running := [⟨0, src0, .schedule 255⟩]
  slots := [(255, ⟨1, false, 0, 0, [0, 0, 0, 0], src0, 0, false⟩)] }
def halted7 : Dev := ready.setHch 7 ⟨[], true⟩
def queued7 : Dev := ready.setHch 7 ⟨[⟨0x100000, none⟩], false⟩

theorem meets_AxisCommandAndHaulAborts :
    ((maskList 6 63).any (fun a => (ready.moveOf a).isSome || (ready.ax a).ref.isSome)) = false ∧
    (maskList 6 32).any (fun a => (moving.moveOf a).isSome) = true ∧ moving.axes = [] ∧
    (∀ r ∈ ready.running, r.src.sq ≠ 63) ∧ scheduled.running = [⟨0, src0, .schedule 255⟩] ∧ src0.sq = 63 ∧ src0.cid = 7 ∧
    ready.hch 7 = ⟨[], false⟩ ∧ ready.haul.run = none ∧ halted7.hch 7 = ⟨[], true⟩ ∧ queued7.hch 7 ≠ ⟨[], false⟩ := by decide +kernel

theorem meets_AbortsRefusedOrRegister : (inMode .boot).modeIn [.standby, .calibrate, .run, .service] = false ∧ ready.awake = true ∧
    ready.f F.HST_ABORT_STATUS.BUSY = 0 ∧ abortTargetOk 0 4096 = false ∧ abortTargetOk 5 0 = false ∧
    (0x00000FFF#32).toNat / 2 ^ 28 = 0 ∧ (0x00000FFF#32).toNat % 65536 < 4096 ∧ (ready.ctx 4095).state = 0 := by decide +kernel

def line0 : LineSet :=
  { serial := 5, lead := false, k := 9, grid := some 9, mode := .run, planes := [], raws := [], bad := [], recon := [], rangeChanged := [],
    set := 0, gains := [], cells := [], ended := false, checked := false, fallback := false, darkShift := 0, fade := 0, adj := [],
    handed := 0, fresh := false, setChanged := false, mChanged := [], after := [], reconDone := false, holes := [] }

/-- STANDBY with nothing under way, and with a request pending. -/
def idle : Dev := { inMode .standby with bar := some bar1 }
def asked (t : Mode) : Dev := { idle with req := some ⟨t, false⟩ }

theorem meets_ModeRequests : idle.mode ≠ .dormant ∧ idle.rst = none ∧ idle.req = none ∧ idle.mode = .standby ∧
    (inMode .run).mode ≠ .dormant ∧ ((inMode .run).setF F.PWR_MODE_STATUS.TARGET 5).requestCode .dormant ≠ 0 ∧
    ((inMode .standby).setF F.PWR_MODE_STATUS.TARGET 2).requestCode .calibrate ≠ 0 ∧
    ((inMode .standby).setF F.PWR_MODE_STATUS.TARGET 3).requestCode .run ≠ 0 ∧
    ((inMode .boot).setF F.PWR_MODE_STATUS.TARGET 1).requestCode .standby ≠ 0 ∧
    ((inMode .boot).setF F.PWR_MODE_STATUS.TARGET 4).requestCode .service ≠ 0 ∧ (asked .run).req ≠ none ∧
    idle.f F.TOP_ERR_STATUS.ACCESS_ERR = 0 ∧ (inMode .dormant).mode = .dormant ∧ { idle with rst := some ResetKind.warm }.rst ≠ none ∧
    idle.busyRuns = false ∧ idle.allStand = true ∧
    (∀ p ∈ [(Mode.calibrate, 2), (.run, 3), (.service, 4)], idle.mode ≠ p.1 ∧ (idle.setF F.PWR_MODE_STATUS.TARGET p.2).requestCode p.1 = 0) ∧
    (ready.setF F.PWR_MODE_STATUS.TARGET 1).requestCode .standby = 0 ∧ (asked .standby).req = some ⟨.standby, false⟩ ∧
    { asked .standby with gal := { galleryInit with lines := [line0] } }.gal.lines ≠ [] ∧
    (asked .run).modeReady ⟨.run, false⟩ = true ∧ (asked .standby).modeReady ⟨.standby, false⟩ = true ∧
    ({ asked .standby with moves := [move5], axes := [(5, { axisInit 5 with v := 1 })] } : Dev).allStand = false := by decide +kernel

theorem meets_LinkAndPll : (inMode .boot).awake = false ∧ idle.awake = true ∧ idle.mode = .standby ∧ idle.req = none ∧ idle.running = [] ∧
    idle.link.perst = false ∧ idle.mode ≠ .dormant ∧ devReset.link.perst = true ∧ (inMode .dormant).mode = .dormant ∧
    idle.pllRuns 0 = false ∧ ready.pllRuns 0 = true := by decide +kernel

/-- An axis that moves. -/
def spinning : Dev := { ready with
  moves := [move5]
  axes := [(5, { axisInit 5 with v := 1 })] }

theorem meets_ResetsAct : ready.mode ≠ .dormant ∧ ready.rst = none ∧ ready.allStand = true ∧ (0xA5000001#32).toNat / 2 ^ 24 = 0xA5 ∧
    bitOf (0xA5000001#32).toNat 0 = true ∧ { ready with rst := some ResetKind.aonLost }.rst = some .aonLost ∧
    { ready with rst := some ResetKind.warm }.rst = some .warm ∧ ResetKind.warm.stops = true ∧ spinning.mode ∉ [.dormant, .boot] ∧
    spinning.rst = none ∧ spinning.allStand = false ∧ ready.f F.TOP_ERR_STATUS.ACCESS_ERR = 0 ∧
    (0xA4000001#32).toNat / 2 ^ 24 ≠ 0xA5 ∧ bitOf (0xA5000000#32).toNat 0 = false := by decide +kernel

/-- DORMANT with the TEV_0 wake source enabled. -/
def sleeping : Dev := set (inMode .dormant) [(F.PWR_WAKE_CFG.TEV0_EN, 1), (F.PWR_WAKE_CFG.TEV0_EDGE, 1)]
def bootIn (a b c : Bool) : BootIn := ⟨a, b, c, false, false, [], []⟩

theorem meets_WakesAndBoots : ready.mode ≠ .dormant ∧ sleeping.mode = .dormant ∧ sleeping.wakes 1 false = false ∧ sleeping.wakes 1 true = true ∧
    sleeping.wakes 2 true = sleeping.on F.PWR_WAKE_CFG.PERST_EN ∧ (inMode .boot).mode = .boot ∧ (inMode .boot).rst = none ∧
    { inMode .boot with rst := some ResetKind.aonLost }.rst ≠ none ∧ (bootIn false false false).sram = false ∧
    ((bootIn true true false).sram = true ∧ (bootIn true true false).otpError = true) ∧
    ((bootIn true false false).otpError = false ∧ (bootIn true false false).flash = false) ∧
    (bootIn true false true).flash = true := by decide +kernel

/-- Controller 3: in use; with a transfer that has ended; with one under way; with a full and a filled FIFO. -/
def bus : Dev := set ready [(F.I2C_CFG.EN 3, 1)]
def xfer (e : Option Nat) : I2cRun := ⟨0x50, 2, 4, true, 2, [1, 2, 3, 4], 0, e⟩
def busRun (e : Option Nat) : Dev := { bus with i2c := [(3, ⟨[], [], some (xfer e)⟩)] }

theorem meets_I2cTransfers : bus.awake = true ∧ bus.f (F.I2C_STATUS.BUSY 3) = 0 ∧ bus.f (F.I2C_CFG.EN 2) = 0 ∧ bus.f (F.I2C_CFG.EN 3) = 1 ∧
    (0x80000000#32).toNat % 2 ^ 18 = 0 ∧ 256 < (0x80000101#32).toNat % 512 ∧ 256 < (0x80020200#32).toNat / 512 % 512 ∧
    ((0x80020100#32).toNat % 2 ^ 18 ≠ 0 ∧ (0x80020100#32).toNat % 512 ≤ 256 ∧ (0x80020100#32).toNat / 512 % 512 ≤ 256) ∧
    ((0xC0000000#32).toNat / 2 ^ 29 % 4 ≠ 3 ∧ bitOf (0xC0000000#32).toNat 31 = true) ∧ bitOf (0x40000000#32).toNat 31 = false ∧
    ({ bus with i2c := [(3, ⟨List.replicate 28 0, [], none⟩)] }.i2cOf 3).tx.length ≤ 28 ∧
    28 < ({ bus with i2c := [(3, ⟨List.replicate 29 0, [], none⟩)] }.i2cOf 3).tx.length ∧
    ({ bus with i2c := [(3, ⟨[], [1], none⟩)] }.i2cOf 3).rx ≠ [] ∧ (bus.i2cOf 3).run = none ∧ bus.f F.TOP_ERR_STATUS.ACCESS_ERR = 0 ∧
    ((busRun (some 0)).i2cOf 3).run = some (xfer (some 0)) ∧ (xfer (some 0)).moved < 1024 ∧ (xfer none).ended = none ∧
    ((busRun none).i2cOf 3).run = some (xfer none) := by decide +kernel

/-- A Gen B module of 2 pixels on pads 0 to 2 of group 7, and a Gen C module of 2 pixels on pad 3 of group 6. -/
def mod2 : Module := { mod1 with
  id := 1
  gen := 2
  group := 7
  taps := 3
  map := [0, 1, 2, 255]
  photosites := 2 }
def mod3 : Module := { mod1 with
  id := 2
  gen := 3
  group := 6
  map := [3, 255, 255, 255]
  photosites := 2 }
def digital : Dev := { ready with
  bar := some ⟨[], 1, 0, [mod2, mod3]⟩
  expects := [⟨1, 0, 0, some 5, 0⟩, ⟨2, 0, 0, some 5, 0⟩]
  gal := { galleryInit with lines := [line0] }
  lanes := [(6, { lanesInit 6 with laneLock := [false, false, false, true] }), (7, { lanesInit 7 with clockLock := true })] }
def packet : LanePacket :=
  let b : List Byte := [0, 255, 2, 0, 1, 2, 3]
  ⟨false, b, crc16 b, 0⟩
def rotated : Dev := { digital with lanes := [(7, { lanesInit 7 with spareCount := 256 })] }

theorem meets_LineReception : digital.genBModule 7 = some mod2 ∧
    digital.expects.find? (fun e => e.module = mod2.id ∧ e.tap = 0) = some ⟨1, 0, 0, some 5, 0⟩ ∧ digital.lineOf 5 = some line0 ∧
    (digital.lane 7).clockLock = true ∧ (genBLine mod2 [0x2FFFF, 0x20001]).isSome = true ∧ genBLine mod2 [] = none ∧ mod2.errPad 0 < 4 ∧
    digital.missRun ⟨1, 0, 0, some 5, 0⟩ = 0 ∧ digital.padModule 6 3 = some (mod3, 0) ∧
    digital.expects.find? (fun e => e.module = mod3.id ∧ e.tap = 0) = some ⟨2, 0, 0, some 5, 0⟩ ∧ mod3.gen = 3 ∧
    (digital.lane 6).laneLock.getD 3 false = true ∧ (genCLine mod3 ⟨2, 0, 0, some 5, 0⟩ packet).isSome = true ∧
    ({ digital with lanes := [] }.lane 6).laneLock.getD 3 false = false ∧ mod3.errPad 0 = 3 ∧ ready.expects = [] ∧
    (digital.lane 7).shadows 1 = false ∧ (digital.lane 7).shadows 0 = true ∧ (digital.lane 7).spareCount < 256 ∧
    256 ≤ (rotated.lane 7).spareCount ∧ (rotated.lane 7).rotating = true ∧ (rotated.lane 7).pending = none ∧
    rotated.activePads 7 ≠ [] := by decide +kernel

/-- SERVICE, the spare channel of group 7 powered in charge mode; it injects, is being reconnected, or belongs to tap 0 of group 0. -/
def svc : Dev := set { inMode .service with bar := some bar1 } [(F.AFE_CH_CTRL.PWR_OK 7 8, 1), (F.AFE_CH_CTRL.MODE 7 8, 1), (F.AFE_GRP_CAL.METHOD 7, 1)]
def injects : Dev := (set svc [(F.AFE_GRP_SERVICE.CH 7, 8), (F.AFE_GRP_INJ.INJ_CH 7, 8)]).setGrp 7 { afeGrpInit 7 with injecting := true }

theorem meets_FrontEndWrites : svc.awake = true ∧ svc.f (F.AFE_CH_CTRL.MODE 7 7) = 0 ∧
    (∀ p < 4, (0x7777#32).toNat / 2 ^ (4 * p) % 16 ≤ 7) ∧ (∀ p < 4, (0x3333#32).toNat / 2 ^ (4 * p) % 16 ≤ 3) ∧
    3 < (0x4000#32).toNat / 2 ^ (4 * 3) % 16 ∧ 7 < (0x0008#32).toNat / 2 ^ (4 * 0) % 16 ∧ svc.f F.TOP_ERR_STATUS.ACCESS_ERR = 0 ∧
    (svc.grp 7).points = [] ∧ (0x00080FFF#32).toNat / 2 ^ 16 % 16 = 8 ∧ svc.modeIn [.service] = true ∧ svc.f (F.AFE_CH_CTRL.PWR_OK 7 8) = 1 ∧
    svc.f (F.AFE_CH_CTRL.MODE 7 8) = 1 ∧ (svc.ch 7 8).tapOf = none ∧ (svc.grp 7).injecting = false ∧ ready.modeIn [.service] = false ∧
    9 ≤ (0x00090000#32).toNat / 2 ^ 16 % 16 ∧ (injects.grp 7).injecting = true ∧ (0x000000B8#32).toNat % 16 = 8 ∧
    svc.sourceOffered 7 8 ((0x000000B8#32).toNat / 16 % 16) = true ∧ svc.f (F.AFE_GRP_SERVICE.BUSY 7) = 0 ∧
    svc.f (F.AFE_GRP_CAL.METHOD 7) = 1 ∧ svc.f (F.AFE_GRP_CAL.METHOD 0) = 0 := by decide +kernel

/-- Channel 0 of group 0 powered, not yet ready; then ready. -/
def powering : Dev := ready.setCh 0 0 { afeChInit 0 with powered := true }
def reconnects : Dev := ready.setCh 0 0 { afeChInit 0 with connecting := some 0 }
def chan0 : Dev := set ready [(F.AFE_CH_CTRL.PWR_OK 0 0, 1)]

theorem meets_FrontEndEvents : (ready.ch 0 0).powered = false ∧ (powering.ch 0 0).powered = true ∧ powering.f (F.AFE_CH_CTRL.PWR_OK 0 0) = 0 ∧
    (powering.ch 0 0).tapOf = some 0 ∧ (ready.ch 0 0).connecting = none ∧ (reconnects.ch 0 0).connecting = some 0 ∧
    (reconnects.ch 0 0).service = false ∧ (reconnects.grp 0).live = none ∧ (ready.grp 7).injecting = false ∧ (injects.grp 7).injecting = true ∧
    injects.f (F.AFE_GRP_SERVICE.CH 7) = injects.f (F.AFE_GRP_INJ.INJ_CH 7) ∧ ready.feActive = true ∧ idle.feActive = false ∧
    (∀ h < 8, ∀ k < 9, chan0.isChecked h k = true → h = 0 ∧ k = 0) ∧ chan0.isChecked 0 0 = true ∧ (chan0.ch 0 0).spare = false ∧
    (chan0.ch 0 0).tapOf = some 0 ∧ chan0.spareReady 0 = none ∧ chan0.feActive = true ∧ chan0.chkPasses 0 0 65535 65535 = false ∧
    chan0.chkPasses 0 0 (chan0.chkRef 0 0).1 (chan0.chkRef 0 0).2 = true := by decide +kernel

/-- Group 0 under Squeeze, at a point; with its channel away from its tap; standing still with a gap; under Rebelay in each state. -/
def squeeze : Dev := set chan0 [(F.AFE_GRP_CAL.CAL_EN 0, 1)]
def atPoint : Dev := squeeze.setGrp 0 { afeGrpInit 0 with points := [.refZero] }
def away : Dev := (squeeze.setGrp 0 { afeGrpInit 0 with points := [.gain 0 7], live := some ⟨0, 0, false⟩, m0 := some 0 }).setCh 0 0
  { afeChInit 0 with connecting := some 0 }
def rebelay (n : Nat) : Dev := (set chan0 [(F.AFE_GRP_CAL.CAL_EN 0, 1), (F.AFE_GRP_CAL.METHOD 0, 1), (F.AFE_CH_CTRL.PWR_OK 0 8, 1),
  (F.AFE_GRP_CAL.RB_STATE 0, n)]).setGrp 0 { afeGrpInit 0 with target := 0 }
def wantsOut : Dev := set (rebelay 3) [(F.AFE_CH_WEAR.RETIRE_REQ 0 0, 1)]

theorem meets_LiveCalibration : ready.liveRuns 0 0 = false ∧ squeeze.liveRuns 0 0 = true ∧ (squeeze.grp 0).points = [] ∧
    squeeze.cyclePoints 0 ≠ [] ∧ atPoint.liveRuns 0 0 = true ∧ (atPoint.grp 0).points = [.refZero] ∧ (atPoint.grp 0).live = none ∧
    ((set atPoint [(F.LTN_GRID_CTRL.ARMED, 1), (F.LTN_CAP.V_CAP, 1)]).setHwm (-6000)).gapTakes 0 0 = false ∧ atPoint.gapTakes 0 (atPoint.pointTap 0 .refZero) = true ∧
    atPoint.serving 0 (atPoint.pointTap 0 .refZero) = some 0 ∧ (away.grp 0).points = [.gain 0 7] ∧
    (away.grp 0).live = some ⟨0, 0, false⟩ ∧ (away.grp 0).m0 = some 0 ∧ (away.ch 0 0).connecting ≠ none ∧
    (rebelay 0).spareOf 0 = some 8 ∧ (rebelay 0).nextTarget 0 = some 0 ∧ (rebelay 0).liveRuns 0 1 = true ∧ (rebelay 0).rbState 0 = 0 ∧
    (rebelay 0).powered 0 8 = true ∧ (rebelay 1).rbState 0 = 1 ∧ (rebelay 1).mode = .run ∧ ((rebelay 2).grp 0).target = 0 ∧
    (rebelay 2).serving 0 0 = some 0 ∧ (rebelay 2).rbState 0 = 2 ∧ (rebelay 2).f (F.AFE_CH_CTRL.MODE 0 8) = 0 ∧
    compareFit ([(18432, 18432)].foldl compareAdd ((rebelay 2).grp 0).sums) = none ∧
    compareFit ((List.replicate 256 (2049, 2050)).foldl compareAdd ((rebelay 2).grp 0).sums) = some (16, 0, true) ∧
    (rebelay 3).rbState 0 = 3 ∧ (rebelay 3).f (F.AFE_CH_WEAR.RETIRE_REQ 0 0) = 0 ∧ wantsOut.f (F.AFE_CH_WEAR.RETIRE_REQ 0 0) = 1 ∧
    wantsOut.rbState 0 = 3 ∧ (rebelay 4).rbState 0 = 4 := by decide +kernel

/-- SHADING_FULL in its dark phase. -/
def shadRun (ph : Nat) : ShadCal := ⟨0, ph, 0, 0, 0, 0, 0, 0, [], [], 0, 0, 0, 0, 3⟩
def calib : Dev := { inMode .calibrate with bar := some bar1 }
def shading (ph : Nat) : Dev := { calib with shd := { shadingInit with cal := some (shadRun ph) } }

theorem meets_AfeFullAllOrNothing : ready.modeIn [.calibrate, .service] = false ∧ calib.modeIn [.calibrate, .service] = true ∧
    (inMode .calibrate).modeIn [.calibrate, .service] = true ∧ (inMode .calibrate).bar = none ∧ calib.bar ≠ none ∧
    (shading 1).shd.cal ≠ none ∧ (shading 1).bar ≠ none ∧ calib.shd.cal = none ∧ calib.poweredList = [] := by decide +kernel

/-- An armed grid whose next point the FEED has reached (its origin 6000 ticks behind), with no LEAD plane and with one. -/
def mod4 : Module := { mod1 with
  id := 63
  role := 1 }
def bar2 : Bar := ⟨[], 1, 0, [mod1, mod4]⟩
def grid (main : Option SeqRun) (q : List Trig) : Dev := { (set ready [(F.LTN_GRID_CTRL.ARMED, 1)]).setHwm (-6000) |>.setLeadHwm (-6000) with
  bar := some bar2
  ltn := { lanternInit with main := main, mainQ := q, lead := main, leadQ := q } }
def trig0 : Trig := ⟨1, 1, some 6000, .run⟩
def softMode (n : Nat) : Dev := set svc [(F.LTN_GRID_CTRL.TRIG_SRC, n)]

theorem meets_Triggers : ready.bar = some bar1 ∧ -(2 ^ 63) ≤ ready.hwm + ready.pitch ∧ ready.hwm + ready.pitch < 2 ^ 63 ∧
    -(2 ^ 63) ≤ (grid none []).leadHwm + (grid none []).pitchL ∧ (grid none []).leadHwm + (grid none []).pitchL < 2 ^ 63 ∧
    ready.gridLive = false ∧ (grid none []).gridLive = true ∧ bar2.leads ≠ [] ∧ bar1.leads = [] ∧
    ((grid none []).setHwm (-5999)).feedTicks < ((grid none []).setHwm (-5999)).hwm + ((grid none []).setHwm (-5999)).pitch ∧
    (grid none []).hwm + (grid none []).pitch = (grid none []).feedTicks ∧ (grid none []).ltn.main = none ∧
    (grid (some ⟨some 0⟩) [trig0]).ltn.main ≠ none ∧ (grid (some ⟨some 0⟩) [trig0]).ltn.mainQ.length < 2 ∧
    (grid (some ⟨some 0⟩) [trig0]).gridLive = true ∧ 2 ≤ (grid (some ⟨some 0⟩) [trig0, trig0]).ltn.mainQ.length ∧
    (grid (some ⟨some 0⟩) [trig0, trig0]).hwm + 6000 = (grid (some ⟨some 0⟩) [trig0, trig0]).feedTicks ∧
    (grid none []).leadHwm + (grid none []).pitchL ≤ (grid none []).feedTicks ∧ (grid none []).ltn.lead = none ∧
    (grid (some ⟨some 0⟩) [trig0, trig0]).ltn.lead ≠ none ∧ 2 ≤ (grid (some ⟨some 0⟩) [trig0, trig0]).ltn.leadQ.length ∧
    (softMode 1).mode = .service ∧ (softMode 1).ltn.main = none ∧ (softMode 1).bar = some bar1 ∧
    (softMode 1).f F.LTN_GRID_CTRL.TRIG_SRC = 1 ∧ (softMode 2).rst = none ∧ (softMode 2).req = none ∧
    (softMode 2).f F.LTN_GRID_CTRL.ARMED = 0 ∧ bitOf ((softMode 2).reg R.LTN_GRID_CTRL).toNat 31 = false ∧
    (softMode 2).f F.LTN_GRID_CTRL.TRIG_SRC = 2 ∧ ((softMode 2).reg R.LTN_GRID_CTRL).toNat / 2 ^ 28 % 4 ≠ 3 ∧
    ready.mode = .run ∧ ready.shd.cal = none := by decide +kernel

/-- Armed, and the write that arms or disarms it. -/
def armedDev : Dev := set ready [(F.LTN_GRID_CTRL.ARMED, 1)]

theorem meets_Arming : ready.awake = true ∧ (ready.reg R.LTN_GRID_CTRL).toNat / 2 ^ 28 % 4 ≠ 3 ∧
    (ready.reg R.LTN_GRID_CTRL).toNat / 2 ^ 24 % 4 ≠ 3 ∧ bitOf (ready.reg R.LTN_GRID_CTRL).toNat 23 = false ∧
    ready.f F.LTN_GRID_CTRL.ARMED = 0 ∧ (idle.setReg R.LTN_GRID_CTRL (idle.reg R.LTN_GRID_CTRL &&& 0x7F00FF00#32)).armCode ≠ 0 ∧
    (ready.setReg R.LTN_GRID_CTRL (ready.reg R.LTN_GRID_CTRL &&& 0x7F00FF00#32)).armCode = 0 ∧ armedDev.f F.LTN_GRID_CTRL.ARMED = 1 ∧
    (armedDev.reg R.LTN_GRID_CTRL ^^^ 0x04000000#32) &&& 0x0F000000#32 ≠ armedDev.reg R.LTN_GRID_CTRL &&& 0x0F000000#32 ∧
    (armedDev.reg R.LTN_GRID_CTRL ^^^ 0x04000000#32) &&& 0x3000FF00#32 = armedDev.reg R.LTN_GRID_CTRL &&& 0x3000FF00#32 ∧
    armedDev.f F.TOP_ERR_STATUS.ACCESS_ERR = 0 ∧ (50 ≤ (50 : Word).toNat % 2 ^ 15 ∧ (20000 : Word).toNat % 2 ^ 15 ≤ 20000) ∧
    (49 : Word).toNat % 2 ^ 15 < 50 ∧ 20000 < (20001 : Word).toNat % 2 ^ 15 := by decide +kernel

def flushing (l : Bool) : Dev := { ready with
  bar := some bar2
  ltn := { lanternInit with main := if l then none else some ⟨none⟩, lead := if l then some ⟨none⟩ else none } }

theorem meets_Sequences : (grid none []).bar = some bar2 ∧ (grid none []).ltn.main = none ∧ (grid none []).ltn.lead = none ∧
    (grid (some ⟨some 0⟩) []).ltn.main = some ⟨some 0⟩ ∧ (grid (some ⟨some 0⟩) []).ltn.mainQ = [] ∧
    (grid (some ⟨some 0⟩) [trig0]).ltn.mainQ = [trig0] ∧ (grid (some ⟨some 0⟩) []).ltn.lead = some ⟨some 0⟩ ∧
    (grid (some ⟨some 0⟩) []).ltn.leadQ = [] ∧ (grid none []).mode ∈ [.calibrate, .run, .service] ∧ bar2.leads ≠ [] ∧
    (flushing false).ltn.main ≠ none ∧ (flushing true).ltn.lead ≠ none := by decide +kernel

/-- A main line of plane R in Gallery, its sequence ended, with its jobs in given states. -/
def plane0 (j : Nat) : PlaneRun := ⟨0, 0, 0, j, 1, false⟩
def gline (j : Nat) (f : LineSet → LineSet) : LineSet := f { line0 with planes := [plane0 j], ended := true }
def withLine (j : Nat) (f : LineSet → LineSet) : Dev := { ready with gal := { galleryInit with lines := [gline j f] } }
def verifies (n : Nat) : Dev := { set ready [(F.GAL_CTRL.VERIFY_INTERVAL, 8)] with gal := { galleryInit with verifyCount := n } }
def checked (l : LineSet) : LineSet := { l with checked := true }
def torn (f : Bool) (l : LineSet) : LineSet := { l with
  recon := [⟨0, 0, 0, 1⟩]
  fallback := f }

theorem meets_GalleryJobs : ready.jobLine false 0 0 0 = none ∧ ready.jobLine false 0 0 2 = none ∧ ready.bar ≠ none ∧
    (withLine 0 id).jobLine false 0 0 0 = some (gline 0 id) ∧ (withLine 2 id).jobLine false 0 0 2 = some (gline 2 id) ∧
    (set ready [(F.GAL_CTRL.VERIFY_INTERVAL, 0)]).f F.GAL_CTRL.VERIFY_INTERVAL = 0 ∧ (verifies 7).gal.verifyCount < (verifies 7).f F.GAL_CTRL.VERIFY_INTERVAL ∧
    0 < (verifies 8).f F.GAL_CTRL.VERIFY_INTERVAL ∧ (verifies 8).f F.GAL_CTRL.VERIFY_INTERVAL = (verifies 8).gal.verifyCount ∧
    ((verifies 8).sliceOf 2).isSome = true ∧ (verifies 8).replaying = false ∧ (withLine 2 id).replaying = true ∧ ready.handReady = none ∧
    (withLine 1 checked).handReady = some (gline 1 checked, plane0 1) ∧ (gline 1 checked).planes.length ≤ (gline 1 checked).handed + 1 ∧
    ready.reconLine false = none ∧ (withLine 1 (torn true)).reconLine false = some (gline 1 (torn true)) ∧
    (withLine 1 (torn true)).lineAfter (gline 1 (torn true)) = none ∧ (gline 1 (torn true)).fallback = true ∧
    (gline 1 (torn false)).fallback = false ∧ (gline 1 (torn true)).checked = false ∧
    (∀ x ∈ (withLine 1 (torn true)).gal.lines, x.lead = false → x.k ≠ (gline 1 (torn true)).k + 1) ∧
    (withLine 1 (torn true)).ltn.mainQ = [] := by decide +kernel

/-- Both shading sets valid; a tracked module at and below its accumulation; SHADING_FULL about to start, and about to commit. -/
def swaps : Dev := set ready [(F.SHD_CTRL.VALID_1, 1), (F.SHD_CTRL.SWAP_REQ, 1)]
def tracked (n m : Nat) : Dev := { set ready [(F.SHD_CTRL.TRACK_LOG, 4), (F.SHD_CTRL.TRACK_EN, 1)] with
  shd := { shadingInit with track := [⟨0, 0, 0, n, m⟩] } }
def tileIn : Dev := set calib [(F.SHD_CAL_CFG.TILE_MOVE, 1), (F.AXS_REF_STATUS.REFERENCED 5, 1)]
def dest1 : Dev := { shading 4 with shd := { shadingInit with cal := some { shadRun 4 with cfg := 2 ^ 30 } } }

theorem meets_ShadingLoadsAndLines : swaps.awake = true ∧ armedDev.armed = true ∧ swaps.armed = false ∧ swaps.gal.lines = [] ∧
    swaps.setValid swaps.shadowSet = true ∧ swaps.tagMatches swaps.shadowSet = true ∧ swaps.f F.SHD_CTRL.SWAP_REQ = 1 ∧
    (withLine 0 id).gal.lines ≠ [] ∧ swaps.trackOf 63 3 = none ∧ (tracked 15 16384).trackOf 0 0 = some ⟨0, 0, 0, 15, 16384⟩ ∧
    15 < 2 ^ (tracked 15 16384).trackLog ∧ 2 ^ (tracked 16 24576).trackLog ≤ 16 ∧ (tracked 16 24576).trackOf 0 0 = some ⟨0, 0, 0, 16, 24576⟩ ∧
    (tracked 16 24576).f (F.SHD_TRACK_SRC.MODE 0) = 0 ∧ (tracked 16 24576).f F.SHD_CTRL.TRACK_EN = 1 ∧
    (tracked 16 24576).f F.TOP_ERR_STATUS.ACCESS_ERR = 0 ∧ swaps.f F.SHD_CTRL.TRACK_EN = 0 ∧ ready.modeIn [.calibrate] = false ∧
    tileIn.modeIn [.calibrate] = true ∧ tileIn.bar = some bar1 ∧ (inMode .calibrate).bar = none ∧ (shading 1).shd.cal ≠ none ∧
    (set calib [(F.SHD_CTRL.LOAD_BUSY, 1)]).f F.SHD_CTRL.LOAD_BUSY = 1 ∧ tileIn.shd.cal = none ∧ tileIn.f F.SHD_CTRL.LOAD_BUSY = 0 ∧
    tileIn.f F.SHD_CAL_CFG.TILE_MOVE = 1 ∧ tileIn.f (F.AXS_REF_STATUS.REFERENCED 5) = 1 ∧
    tileIn.calGrants (ceilDiv (10 * sumN (bar1.mods.map (·.photosites)) * bar1.planeList.length) 4096) = true ∧
    (shading 4).shd.cal = some (shadRun 4) ∧ (shading 4).bar = some bar1 ∧ (shadRun 3).phase ≠ 4 ∧
    (shading 4).holdsSet (shading 4).shadowSet = false ∧ bitOf (shadRun 4).cfg 30 = false ∧
    ({ shading 4 with gal := { galleryInit with lines := [{ line0 with set := 1 }] } } : Dev).holdsSet 1 = true ∧
    dest1.shd.cal = some { shadRun 4 with cfg := 2 ^ 30 } := by decide +kernel

/-- A measurement waits; window 15 is enabled and passed, window 14 enabled and refused. -/
def surveys : Dev := { set ready [(F.SUR_WIN_CFG.EN 15, 1), (F.SUR_WIN_CFG.EN 14, 1)] with
  sur := { surveyInit with passed := [15], jobs := [⟨3, 0, 0, []⟩], seq := 65535 } }

theorem meets_SurveyMeasured : ready.sur.jobs = [] ∧ surveys.sur.jobs = [⟨3, 0, 0, []⟩] ∧ surveys.sur.seq < 65536 ∧
    surveys.f (F.SUR_WIN_CFG.EN 0) = 0 ∧ surveys.f (F.SUR_WIN_CFG.EN 14) = 1 ∧ 14 ∉ surveys.sur.passed ∧
    surveys.f (F.SUR_WIN_CFG.EN 15) = 1 := by decide +kernel

/-- Strata on, with no boundary, a boundary that is due, and 256 of them. -/
def strOn : Dev := set ready [(F.STR_CTRL.STR_EN, 1)]
def bnd (k : Int) : Boundary := ⟨1, 100, 0, 0, 1, k⟩
def posted (n : Nat) (k : Int) : Dev := { strOn with str := { strataInit with queue := List.replicate n (bnd k), lastPos := some 100, reached := some 5 } }

theorem meets_StrataBoundaries : idle.modeIn [.run] = false ∧ strOn.modeIn [.run] = true ∧ ready.f F.STR_CTRL.STR_EN = 0 ∧
    strOn.f F.STR_CTRL.STR_EN = 1 ∧ (posted 1 0).str.lastPos = some 100 ∧ strOn.str.lastPos = none ∧ 256 ≤ (posted 256 0).str.queue.length ∧
    (posted 255 0).str.queue.length < 256 ∧
    divFloor (strOn.hwm - strOn.origin) strOn.pitch - (strOn.boundaryLine 0 - strOn.strK) ≤ 63 ∧
    63 < divFloor (strOn.hwm - strOn.origin) strOn.pitch - (strOn.boundaryLine (-2000000) - strOn.strK) ∧
    strOn.str.queue = [] ∧ (posted 1 (5 - strOn.strK)).str.queue = [bnd (5 - strOn.strK)] ∧ strOn.bar = some bar1 ∧
    (posted 1 0).str.reached = some 5 ∧ (5 : Int) < (bnd (6 - strOn.strK)).kb + strOn.strK ∧ (bnd (5 - strOn.strK)).kb + strOn.strK ≤ 5 ∧
    strOn.armed = false ∧ armedDev.armed = true ∧ armedDev.awake = true ∧ bitOf (0x80000000#32).toNat 31 = true ∧
    bitOf (0x7FFFFFFF#32).toNat 31 = false ∧ (0x80000000#32 : Word) &&& 0xFFF80000#32 ≠ armedDev.reg R.STR_CTRL &&& 0xFFF80000#32 ∧
    armedDev.f F.TOP_ERR_STATUS.ACCESS_ERR = 0 := by decide +kernel

/-- An entry of half a bin waits for Flowstone. -/
def flows : Dev := { set ready [(F.FLW_CPR.CPR, 1024)] with flw := { flowInit with queue := [⟨0, 1, 100, 65536⟩] } }

theorem meets_FlowstoneLearns : ready.flw.queue = [] ∧ flows.flw.queue = [⟨0, 1, 100, 65536⟩] ∧ flows.awake = true ∧
    (flows.integral 0 1).2.1 ≠ 0 ∧ (set flows [(F.FLW_CTRL.LEARN_EN, 1)]).f F.FLW_CTRL.LEARN_EN = 1 ∧ flows.f F.FLW_CTRL.LEARN_EN = 0 ∧
    flows.f F.TOP_ERR_STATUS.ACCESS_ERR = 0 := by decide +kernel

/-- Error counts one below their limits; the spare bank free and taken; a macro with 3 and 4 spare rows used. -/
def eccAt (used : Bool) : Dev := { set ready [(F.SMP_ECC_CFG.ECC_LIMIT, 8), (F.SMP_BANK.CE_TOTAL 15, 7), (F.TOP_SRAM_STATUS.ROW_LIMIT, 1)] with
  sump := { sumpInit with spareUsed := used } }
def migrates : Dev := { ready with sump := { sumpInit with migrating := some 15 } }
def rowsUsed (n : Nat) : Dev := { eccAt false with rows := List.replicate n (255, 0) }
def held1 : Dev := { capturing with gal := { galleryInit with hist := [⟨0, 0, 0, 0, [none], 1⟩] } }

theorem meets_EccRepairs : (eccAt false).alive = true ∧ (eccAt false).f F.SMP_ECC_CFG.ECC_LIMIT = 8 ∧
    (eccAt false).f (F.SMP_BANK.CE_TOTAL 15) = 7 ∧ min (7 + 1) (F.SMP_BANK.CE_TOTAL 15).max = 8 ∧
    ready.f F.SMP_ECC_CFG.ECC_LIMIT ≠ 8 ∧ (eccAt false).sump.spareUsed = false ∧ (eccAt false).sump.migrating = none ∧
    (eccAt true).sump.spareUsed = true ∧ migrates.sump.migrating = some 15 ∧ migrates.alive = true ∧
    migrates.ledger.length + migrates.ledgerQ.length < 128 ∧ (rowsUsed 3).f F.TOP_SRAM_STATUS.ROW_LIMIT = 1 ∧
    (rowsUsed 3).rowCount 255 65535 = 0 ∧ ((rowsUsed 3).rows.filter (fun r => r.1 = 255)).length < 4 ∧
    4 ≤ ((rowsUsed 4).rows.filter (fun r => r.1 = 255)).length ∧ ready.ueHeld (.record 0 0) = false ∧ held1.alive = true ∧
    (held1.ctx 4095).waiting[0]? = some rec0 ∧ held1.gal.hist[0]? = some ⟨0, 0, 0, 0, [none], 1⟩ := by decide +kernel

/-- Haul channel 7 runs a program in host memory, from an instruction address, with a stack; its instruction as host memory answers. -/
def prog (st : List LoopEntry) : HaulRun := ⟨7, 0x1000, none, 0, st, 0, 0, none, 0, [], [], none, false, [], false⟩
def runs (r : HaulRun) : Dev := { ready with haul := ⟨[], some r, []⟩ }
def ins (w0 w1 : Word) : List Word := [w0, w1, 0#32, 0#32, 0x8000#32, 0#32, 0#32, 0#32]
def words (w0 w1 : Nat) : List Nat := [w0, w1, 0, 0, 0x8000, 0, 0, 0]
def loopIns (n : Word) : List Word := [n <<< 16 ||| 5#32, 0#32, 0x800#32, 0#32, 0#32, 0#32, 0#32, 0#32]
def loopWords (n : Nat) : List Nat := [n * 65536 + 5, 0, 0x800, 0, 0, 0, 0, 0]
def ctlIns (w0 : Word) : List Word := [w0, 0#32, 0#32, 0#32, 0#32, 0#32, 0#32, 0#32]
def ctlWords (w0 : Nat) : List Nat := [w0, 0, 0, 0, 0, 0, 0, 0]
def loopTop (left : Nat) : LoopEntry := ⟨0x1000, left, 1⟩
def other (a : Nat) : LoopEntry := ⟨a, 1, 1⟩

theorem meets_HaulPrograms : ready.awake = true ∧ ({ queued7 with haul := ⟨[(7, ⟨List.replicate 3 ⟨0, none⟩, false⟩)], none, []⟩ }.hch 7).queue.length < 4 ∧
    4 ≤ ({ queued7 with haul := ⟨[(7, ⟨List.replicate 4 ⟨0, none⟩, false⟩)], none, []⟩ }.hch 7).queue.length ∧
    ready.f F.TOP_ERR_STATUS.ACCESS_ERR = 0 ∧ (runs (prog [])).haul.run ≠ none ∧ ready.haul.loads = [] ∧
    (∀ k < 8, (halted7.hch k).halted = true ∨ (halted7.hch k).queue = []) ∧ queued7.haul.run = none ∧ queued7.haul.loads = [] ∧
    (queued7.hch 7).halted = false ∧ (queued7.hch 7).queue = [⟨0x100000, none⟩] ∧
    (∀ k < 8, (queued7.hch k).halted = true ∨ (queued7.hch k).queue = [] ∨ queued7.f (F.HAU_CH_CFG.PRIO k) < queued7.f (F.HAU_CH_CFG.PRIO 7) ∨
      (queued7.f (F.HAU_CH_CFG.PRIO k) = queued7.f (F.HAU_CH_CFG.PRIO 7) ∧ 7 ≤ k)) ∧
    (runs (prog [])).haul.run = some (prog []) ∧ (prog []).load = none ∧ (prog []).xfer = none ∧ pcDev (prog []).pc = false ∧
    ready.haul.run = none := by decide +kernel

theorem meets_HaulLoop : (runs (prog [loopTop 0])).Runs (prog [loopTop 0]) (loopIns 3#32) (loopWords 3) ∧
    (runs (prog [loopTop 2])).Runs (prog [loopTop 2]) (loopIns 3#32) (loopWords 3) ∧ insOp (loopWords 3) = 5 ∧ (loopTop 0).left = 0 ∧
    (loopTop 2).addr = (prog []).pc ∧ (runs (prog [])).Runs (prog []) (loopIns 0#32) (loopWords 0) ∧ insWord (loopWords 0) 0 / 65536 = 0 ∧
    (runs (prog [other 0, other 32, other 64])).Runs (prog [other 0, other 32, other 64]) (loopIns 65535#32) (loopWords 65535) ∧
    (prog [other 0, other 32, other 64]).stack.length < 4 ∧ 0 < insWord (loopWords 65535) 0 / 65536 ∧
    (runs (prog [other 0, other 32, other 64, other 96])).Runs (prog [other 0, other 32, other 64, other 96]) (loopIns 1#32) (loopWords 1) ∧
    4 ≤ (prog [other 0, other 32, other 64, other 96]).stack.length ∧
    (∀ x ∈ (prog [other 0, other 32, other 64, other 96]).stack, x.addr ≠ 0x1000) := by unfold Dev.Runs; and_intros <;> decide +kernel

def waits : HaulRun := { prog [] with waiting := true }
def ended (r : HaulRun) : HaulRun := { r with ended := true }

theorem meets_HaulInstructions : (runs (prog [])).Runs (prog []) (ctlIns 0x10006#32) (ctlWords 0x10006) ∧ insOp (ctlWords 0x10006) = 6 ∧
    (runs (prog [])).waitMet (prog []) (ctlWords 0x10006) = true ∧ (runs (prog [])).waitMet (prog []) (ctlWords 0x10B06) = false ∧
    (runs (prog [])).Runs (prog []) (ctlIns 0x10B06#32) (ctlWords 0x10B06) ∧ (runs waits).Runs waits (ctlIns 0x10B06#32) (ctlWords 0x10B06) ∧
    waits.waiting = true ∧ 0 < insWord (ctlWords 0x10B06) 0 / 65536 ∧ insWord (ctlWords 0xB06) 0 / 65536 = 0 ∧
    (runs (prog [])).Runs (prog []) (ctlIns 0xB07#32) (ctlWords 0xB07) ∧ insOp (ctlWords 0xB07) = 7 ∧ insLine (ctlWords 0xB07) = 11 ∧
    (runs (prog [])).Runs (prog []) (ctlIns 8#32) (ctlWords 8) ∧ insOp (ctlWords 8) = 8 ∧
    (runs (prog [])).Runs (prog []) (ctlIns 9#32) (ctlWords 9) ∧ insOp (ctlWords 9) = 9 ∧ insOp (ctlWords 10) = 10 ∧
    (runs (ended (prog []))).haul.run = some (ended (prog [])) ∧ (runs (ended (prog []))).awake = true ∧
    (runs (ended (prog []))).canIssue = true ∧ (ended (prog [])).executed + 1 < (runs (ended (prog []))).haulBudget 7 ∧
    (8 : Word).toNat % 16 = 8 ∧ (9 : Word).toNat % 16 ≠ 8 := by unfold Dev.Runs; and_intros <;> decide +kernel

/-- A FILL that waits for a burst of 16 bytes of its 64. -/
def fill64 : Xfer := ⟨words 0x4A43 64, 0, [], 0, 0, 64, []⟩
def filling (n : Nat) : HaulRun := { prog [] with
  xfer := some fill64
  waiting := true
  reqs := [(10, n)] }
/-- A MOVE from the program memory of the device. -/
def fromWin : List Word := [0x4011#32, 16#32, 0x00100000#32, 0#32, 0x8000#32, 0#32, 0#32, 0#32]

theorem meets_HaulTransfers :
    (∀ p ∈ [((0x4001#32 : Word), 0x4001, 1), (0x4003#32, 0x4003, 3), (0x4004#32, 0x4004, 4), (0x4084#32, 0x4084, 4)],
      (runs (prog [])).Runs (prog []) (ins p.1 0#32) (words p.2.1 0) ∧ (runs (prog [])).Runs (prog []) (ins p.1 16#32) (words p.2.1 16) ∧
      insOp (words p.2.1 16) = p.2.2 ∧ insDstDev (words p.2.1 16) = false ∧ insSrcDev (words p.2.1 16) = false ∧
      insReqEn (words p.2.1 16) = false ∧ (runs (prog [])).haulMayMove (words p.2.1 16) = true) ∧
    0 < insWord (words 0x4003 16) 1 ∧ insWord (words 0x4003 0) 1 = 0 ∧ insAddr (words 0x4003 16) 4 + 16 ≤ 2 ^ 64 ∧
    (runs (prog [])).Runs (prog []) (ins 0x4002#32 0x10010#32) (words 0x4002 0x10010) ∧ insOp (words 0x4002 0x10010) = 2 ∧
    insCount (words 0x4082 0x10010) = 1 ∧ (runs (prog [])).Runs (prog []) (ins 0x4082#32 0x10010#32) (words 0x4082 0x10010) ∧
    insFlag (words 0x4082 0x10010) = true ∧ insIdxDev (words 0x4002 0x10010) = false ∧ (prog []).cmpCnt ≤ 0xFFFFFFFF ∧
    insFlag (words 0x4084 16) = true ∧ wrap64 (0x8000 + bufInt [0, 0, 0, 0x80] 0 4) + 16 ≤ 2 ^ 64 := by
  unfold Dev.Runs; and_intros <;> decide +kernel

theorem meets_HaulBursts : (runs (prog [])).Runs (prog []) fromWin [0x4011, 16, 0x100000, 0, 0x8000, 0, 0, 0] ∧
    insSrcDev [0x4011, 16, 0x100000, 0, 0x8000, 0, 0, 0] = true ∧ winHaul ≤ insAddr [0x4011, 16, 0x100000, 0, 0x8000, 0, 0, 0] 2 ∧
    (runs (prog [])).haulMayMove [0x4011, 16, 0x100000, 0, 0x8000, 0, 0, 0] = true ∧
    (runs (prog [])).Runs (prog []) (ins 0x4041#32 64#32) (words 0x4041 64) ∧ insReqEn (words 0x4041 64) = true ∧ insOp (words 0x4041 64) = 1 ∧
    (runs (prog [])).haulMayMove (words 0x4041 64) = true ∧ (runs (filling 1)).awake = true ∧ (runs (filling 1)).haul.run = some (filling 1) ∧
    (filling 1).xfer = some fill64 ∧ (runs (filling 0)).lineAsserted (filling 0) (insLine fill64.ins) fill64.burst = false ∧
    (runs (filling 1)).lineAsserted (filling 1) (insLine fill64.ins) fill64.burst = true ∧
    (runs (filling 1)).haulMayMove fill64.ins = true ∧ insOp fill64.ins = 3 ∧ insDstDev fill64.ins = false ∧ fill64.burst < fill64.left := by
  unfold Dev.Runs; and_intros <;> decide +kernel

/-! ## Table loads: a bar record of one module of 16 photosites, a context image of one entry, with their CRCs -/

def crcRun (c : BitVec 32) (bs : List Byte) : BitVec 32 := bs.foldl (fun c b => crc32Steps 8 (c ^^^ b.zeroExtend 32)) c

theorem crc32_eq_of_run {bs : List Byte} {c : BitVec 32} (h : crcRun 0xFFFFFFFF#32 bs = c) : crc32 bs = (c ^^^ 0xFFFFFFFF#32).toNat := by
  rw [← h, crcRun, crc32]

theorem crcRun_append {c c1 c2 : BitVec 32} {a b : List Byte} (h1 : crcRun c a = c1) (h2 : crcRun c1 b = c2) : crcRun c (a ++ b) = c2 := by
  rw [← h2, ← h1, crcRun, crcRun, crcRun, List.foldl_append]

def barImage : List Byte := [
  76, 90, 66, 82, 1, 0, 128, 0, 1, 1, 0, 0, 89, 136, 176, 1, 0, 0, 0, 0, 0, 0, 0, 0, 0, 0, 0, 0, 0, 0, 0, 0,
  0, 0, 0, 0, 0, 0, 0, 0, 0, 0, 0, 0, 0, 0, 0, 0, 0, 0, 0, 0, 0, 0, 0, 0, 0, 0, 0, 0, 88, 86, 202, 65,
  0, 1, 0, 0, 1, 0, 0, 255, 255, 255, 0, 0, 0, 255, 0, 0, 16, 0, 8, 0, 0, 0, 0, 0, 0, 0, 0, 0, 0, 0, 0, 0,
  0, 0, 0, 0, 0, 0, 0, 0, 0, 0, 0, 0, 32, 78, 0, 0, 10, 0, 0, 0, 0, 0, 0, 0, 0, 0, 0, 0, 0, 0, 0, 0]

theorem barImage_crc : crc32 (zeroed barImage 60 64) = bufNat barImage 60 4 := by
  have h : zeroed barImage 60 64 = ((zeroed barImage 60 64).drop 0).take 16 ++ (((zeroed barImage 60 64).drop 16).take 16 ++ (((zeroed barImage 60 64).drop 32).take 16 ++ (((zeroed barImage 60 64).drop 48).take 16 ++ (((zeroed barImage 60 64).drop 64).take 16 ++ (((zeroed barImage 60 64).drop 80).take 16 ++ (((zeroed barImage 60 64).drop 96).take 16 ++ (((zeroed barImage 60 64).drop 112).take 16))))))) := by decide +kernel
  rw [h, crc32_eq_of_run (c := 0xBE35A9A7#32)]
  · decide +kernel
  · exact crcRun_append (c1 := 0x671363A0#32) (by decide +kernel) (
      crcRun_append (c1 := 0x71D27CA2#32) (by decide +kernel) (
      crcRun_append (c1 := 0xADBF8571#32) (by decide +kernel) (
      crcRun_append (c1 := 0x26077D84#32) (by decide +kernel) (
      crcRun_append (c1 := 0x653CD4CC#32) (by decide +kernel) (
      crcRun_append (c1 := 0xD8422550#32) (by decide +kernel) (
      crcRun_append (c1 := 0xFA19B5D2#32) (by decide +kernel) (
      by decide +kernel)))))))

def ctxImage : List Byte := [
  76, 90, 67, 84, 1, 0, 0, 0, 255, 15, 1, 0, 128, 0, 0, 0, 0, 0, 0, 0, 0, 0, 0, 0, 0, 0, 0, 0, 0, 0, 0, 0,
  0, 0, 0, 0, 0, 0, 0, 0, 0, 0, 0, 0, 0, 0, 0, 0, 0, 0, 0, 0, 0, 0, 0, 0, 0, 0, 0, 0, 50, 56, 89, 96,
  0, 0, 0, 0, 0, 0, 0, 0, 0, 0, 0, 0, 0, 0, 0, 0, 0, 0, 0, 0, 0, 0, 0, 0, 0, 0, 0, 0, 0, 0, 0, 0,
  0, 0, 0, 0, 0, 0, 0, 0, 0, 0, 0, 0, 0, 0, 0, 0, 0, 0, 0, 0, 0, 0, 0, 0, 0, 0, 0, 0, 0, 0, 0, 0]

theorem ctxImage_crc : crc32 (zeroed ctxImage 60 64) = bufNat ctxImage 60 4 := by
  have h : zeroed ctxImage 60 64 = ((zeroed ctxImage 60 64).drop 0).take 16 ++ (((zeroed ctxImage 60 64).drop 16).take 16 ++ (((zeroed ctxImage 60 64).drop 32).take 16 ++ (((zeroed ctxImage 60 64).drop 48).take 16 ++ (((zeroed ctxImage 60 64).drop 64).take 16 ++ (((zeroed ctxImage 60 64).drop 80).take 16 ++ (((zeroed ctxImage 60 64).drop 96).take 16 ++ (((zeroed ctxImage 60 64).drop 112).take 16))))))) := by decide +kernel
  rw [h, crc32_eq_of_run (c := 0x9FA6C7CD#32)]
  · decide +kernel
  · exact crcRun_append (c1 := 0xEAC6D88F#32) (by decide +kernel) (
      crcRun_append (c1 := 0x734E980A#32) (by decide +kernel) (
      crcRun_append (c1 := 0xBCC3AB64#32) (by decide +kernel) (
      crcRun_append (c1 := 0x76C4E5D0#32) (by decide +kernel) (
      crcRun_append (c1 := 0x6AED1A12#32) (by decide +kernel) (
      crcRun_append (c1 := 0xCE12554C#32) (by decide +kernel) (
      crcRun_append (c1 := 0x549F3F46#32) (by decide +kernel) (
      by decide +kernel)))))))

def load (t n : Nat) : Load := ⟨0, t, 0x2000, n, false⟩
def loading (t n ph : Nat) (img : List Byte) : HaulRun := { prog [] with
  load := some (load t n)
  phase := ph
  img := img }
def loads (r : HaulRun) : Dev := { runs r with mode := .standby }

theorem meets_TableLoads : (4 : Nat) % 8 ≠ 0 ∧ (8 : Nat) % 8 = 0 ∧ ready.modeIn [.standby] = false ∧ idle.modeIn [.standby] = true ∧
    (inMode .service).modeIn [.standby, .calibrate, .run] = false ∧ (inMode .standby).bar = none ∧
    idle.modeIn [.standby, .calibrate, .run, .service] = true ∧ idle.shadingRuns = false ∧ idle.f F.SHD_CTRL.LOAD_BUSY = 0 ∧
    (shading 1).shadingRuns = true ∧ idle.bar ≠ none ∧ (inMode .boot).modeIn [.standby, .calibrate, .run, .service] = false ∧
    idle.f F.FLW_CTRL.LEARN_EN = 0 ∧ (set idle [(F.FLW_CTRL.LEARN_EN, 1)]).f F.FLW_CTRL.LEARN_EN = 1 ∧
    (loads (loading 1 128 0 [])).haul.run = some (loading 1 128 0 []) ∧ (loading 1 128 0 []).load = some (load 1 128) ∧
    (loads (loading 1 128 0 [])).awake = true ∧ (loads (loading 1 128 0 [])).haulGrants 1 = true ∧
    (loads (loading 1 128 0 [])).canIssue = true ∧ (loading 1 128 0 []).phase = 0 ∧ (load 1 128).table = 1 := by decide +kernel

theorem meets_TableLoads_bar : barImage.length = 128 ∧ barFail barImage 128 = none ∧ barFail ctxImage 128 = some (2, none) := by
  refine ⟨by decide +kernel, ?_, by decide +kernel⟩
  simp only [barFail, barImage_crc]
  decide +kernel

theorem meets_TableLoads_images : ctxImage.length = 128 ∧ (loads (loading 3 128 0 [])).imageBad (load 3 128) ctxImage = 0 ∧
    firstDiff (load 4 128) 0 ctxImage ctxImage = none ∧ firstDiff (load 2 128) 0 ctxImage (ctxImage.set 127 1) = some 127 ∧
    (loading 2 128 1 ctxImage).img.length = (load 2 128).len := by
  decide +kernel

/-- FEED is a follower; axis 5 has an over-current; it keeps a distance of its own, or of a coordinated move of axes 4 and 5. -/
def followsDev : Dev := set ready [(F.TET_CFG.STN_EN, 1), (F.TET_CFG.EN, 1)]
def keeps (c : Bool) (m : Nat) : Remain := ⟨0, 100, 0, false, none, c, m⟩
def keeping (c : Bool) (m : Nat) : Dev := { ready with axes := [(5, { axisInit 5 with kept := some (keeps c m) })] }
def faulty : Dev := set ready [(F.CHP_STATUS.OVERCURRENT 5, 1), (F.ENC_STATUS.ENC_FAULT 4, 1)]

theorem meets_Moves : idle.modeIn [.calibrate, .run, .service] = false ∧ ready.modeIn [.calibrate, .run, .service] = true ∧
    2 ≤ (maskList 6 48).length ∧ (∀ a < 6, bitOf 48 a = false → ([0, 0, 0, 0, 7, 8] : List Int).getD a 0 = 0) ∧ (maskList 6 32).length < 2 ∧
    ready.follower = false ∧ ready.tet.conflict = false ∧ faulty.f (F.CHP_STATUS.OVERCURRENT 5) = 1 ∧ faulty.f (F.ENC_STATUS.ENC_FAULT 4) = 1 ∧
    ready.f (F.CHP_STATUS.OVERCURRENT 0) = 0 ∧ ready.f (F.ENC_STATUS.ENC_FAULT 0) = 0 ∧ (ready.ax 0).ref = none ∧ ready.moveOf 0 = none ∧
    ((keeping false 32).ax 5).kept = some (keeps false 32) ∧ (keeping false 32).moveOf 5 = none ∧ ((keeping false 32).ax 5).ref = none ∧
    (∀ a ∈ maskList 6 63, ready.f (F.CHP_STATUS.OVERCURRENT a) = 0 ∧ ready.f (F.ENC_STATUS.ENC_FAULT a) = 0 ∧ (ready.ax a).ref = none ∧
      ready.moveOf a = none ∧ (ready.ax a).kept = none ∧ ready.stands a = true) ∧
    ((keeping true 48).ax 5).kept = some (keeps true 48) ∧ 5 ∈ maskList 6 32 ∧ 4 ∈ maskList 6 48 ∧ 4 ∉ maskList 6 32 ∧
    (∀ r ∈ ready.running, r.id < ready.nextRun) ∧ moving.moveOf 5 ≠ none ∧ (∀ a ∈ maskList 6 32, (moving.ax a).ref = none) := by decide +kernel

theorem meets_Moves_follower : followsDev.follower = true ∧ followsDev.modeIn [.calibrate, .run, .service] = true := by decide +kernel

def shadowMove : Move := { move5 with
  owner := .cmd 3
  planned := false
  axes := [⟨5, 0, 0, 0, 0, lims0⟩] }
def noDistance : Dev := { set ready [(F.CHP_CFG.STANDSTILL 5, 0)] with
  moves := [shadowMove]
  running := [⟨3, src0, .move⟩] }

theorem meets_ServoPeriods : (inMode .dormant).mode = .dormant ∧ { inMode .run with rst := some ResetKind.pin }.inReset = true ∧
    (inMode .boot).mode = .boot ∧ (inMode .boot).inReset = false ∧ ready.mode ≠ .dormant ∧ ready.mode ≠ .boot ∧ ready.inReset = false ∧
    ready.shd.shutter = none ∧ (∀ a < 6, (ready.ax a).ref = none) ∧ ready.moves = [] ∧ noDistance.moves = [shadowMove] ∧
    shadowMove.axes = [⟨5, 0, 0, 0, 0, lims0⟩] ∧ noDistance.policyLoose 5 = false ∧ (noDistance.ax 5).v = 0 ∧ (noDistance.ax 5).a = 0 ∧
    (0 : Int) = (if shadowMove.rel then 0 else countOf (noDistance.ax 5).x) ∧ (∀ r ∈ noDistance.running, r.id = 3 → r.kind = .move) ∧
    (∀ a < 6, (noDistance.ax a).ref = none) ∧ moving.moves = [move5] ∧ move5.planned = true ∧ move5.leader = 5 ∧
    (∀ a < 6, (moving.ax a).ref = none) ∧ moving.shd.shutter = none ∧ (1249 : Word).toNat % 16384 < 1250 ∧
    10000 < (10001 : Word).toNat % 16384 ∧ 1250 ≤ (1250 : Word).toNat % 16384 ∧ (10000 : Word).toNat % 16384 ≤ 10000 ∧
    spinning.allStand = false ∧ ready.allStand = true ∧ ready.f F.TOP_ERR_STATUS.ACCESS_ERR = 0 := by decide +kernel

/-- Axis 5: stalling, with a move and without; chopping with coil 1 on and a demand. -/
def stalls (m : List Move) : Dev := { ready with
  axes := [(5, { axisInit 5 with stallDue := true })]
  moves := m }
def chops : Dev := { set ready [(F.CHP_CFG.DRIVE_MODE 5, 1), (F.AXS_SW_CFG.LIM_EN 5, 1)] with
  axes := [(5, { axisInit 5 with power := .chop, coils := [⟨0, .off, false⟩, ⟨100, .on, false⟩] })]
  moves := [move5] }

theorem meets_DriveStops : (ready.ax 5).stallDue = false ∧ ((stalls []).ax 5).stallDue = true ∧ (stalls []).moves = [] ∧
    (stalls [move5]).moves = [move5] ∧ move5.planned = true ∧ move5.axes = [⟨5, 1000, 1000, 1000, 0, lims0⟩] ∧
    ready.f (F.CHP_CFG.DRIVE_MODE 5) ≠ 1 ∧ chops.f (F.CHP_CFG.DRIVE_MODE 5) = 1 ∧ chops.f (F.CHP_LOOP.OC_LIMIT 5) ≤ chops.f (F.CHP_LOOP.OC_LIMIT 5) ∧
    (set chops [(F.CHP_LOOP.OC_LIMIT 5, 4094)]).f (F.CHP_LOOP.OC_LIMIT 5) < 4095 ∧ (ready.ax 5).power ≠ .chop ∧ (chops.ax 5).power = .chop ∧
    ((chops.ax 5).coils.getD 1 ⟨0, .off, false⟩).phase = .on ∧ ((chops.ax 5).coils.getD 0 ⟨0, .off, false⟩).demand = 0 ∧
    (chops.ax 5).coils[1]? = some ⟨100, .on, false⟩ ∧ chops.awake = true ∧ chops.alive = true ∧ chops.moves = [move5] ∧ move5.leader = 5 ∧
    chops.f (F.AXS_SW_CFG.LIM_EN 5) = 1 ∧ (∀ b ∈ maskList 6 63, (chops.ax b).ref = none) := by decide +kernel

/-- Axis 5 with each encoder: 1 AB, 2 sine, 3 SSI of 32 bits with a value read. -/
def enc (t : Nat) (o : Option Nat) : Dev := { set ready [(F.ENC_CFG.ENC_TYPE 5, t), (F.ENC_CFG.SSI_BITS 5, 32), (F.ENC_CFG.SSI_DIV 5, 8)] with
  axes := [(5, { axisInit 5 with ssi := o })] }
def latches : Dev := { set ready [(F.AXS_SW_CFG.HOME_EDGE 5, 0)] with
  axes := [(5, { axisInit 5 with ref := some ⟨0, 1, 0, 0, 2, none, none, 0⟩ })] }

theorem meets_EncodersAndLatches : (inMode .boot).alive = false ∧ (enc 0 none).f (F.ENC_CFG.ENC_TYPE 5) = 0 ∧
    (∀ t < 4, (enc t none).f (F.ENC_CFG.ENC_TYPE 5) = t) ∧ (enc 3 none).alive = true ∧ (enc 3 none).f (F.ENC_CFG.SSI_BITS 5) = 32 ∧
    (32 + 1) * (enc 3 none).f (F.ENC_CFG.SSI_DIV 5) + 56 ≤ (enc 3 none).servoPeriod * 4 ∧ (enc 3 none).f (F.ENC_STATUS.ENC_FAULT 5) = 0 ∧
    (enc 3 none).f (F.ENC_CFG.SSI_GRAY 5) = 0 ∧ (0xFFFFFFFF#32).toNat < 2 ^ 32 ∧ ((enc 3 none).ax 5).ssi = none ∧
    ((enc 3 (some 0)).ax 5).ssi = some 0 ∧ (signed 32 (unsigned 32 (((0xC0000000#32).toNat : Int) - 0))).natAbs ≤ 2 ^ (32 - 2) ∧
    2 ^ (32 - 2) < (signed 32 (unsigned 32 (((0x40000001#32).toNat : Int) - 0))).natAbs ∧ (enc 3 none).encFaultFits 5 1 = false ∧
    (enc 3 none).encFaultFits 5 5 = true ∧ faulty.f (F.ENC_STATUS.ENC_FAULT 4) = 1 ∧ ready.awake = true ∧ latches.alive = true ∧
    latches.f (F.AXS_SW_STATUS.HOME_LEVEL 5) = b2n false ∧ latches.f (F.AXS_SW_STATUS.HOME_LEVEL 5) ≠ b2n true ∧
    latches.f (F.AXS_SW_CFG.LATCH_SRC 5) = 0 ∧ latches.f (F.AXS_SW_CFG.HOME_EDGE 5) = 1 - b2n true ∧
    (set latches [(F.AXS_SW_CFG.LATCH_SRC 5, 1)]).f (F.AXS_SW_CFG.LATCH_SRC 5) = 1 ∧
    (latches.ax 5).ref = some ⟨0, 1, 0, 0, 2, none, none, 0⟩ ∧
    (!ready.stands 5 || (ready.moveOf 5).isSome || (ready.ax 5).ref.isSome) = false ∧
    (!moving.stands 5 || (moving.moveOf 5).isSome || (moving.ax 5).ref.isSome) = true := by decide +kernel

/-- The procedure of axis 5 has failed with HARD_STOP's timeout, or not ended. -/
def referencing (r : Option Nat) : Dev := { ready with axes := [(5, { axisInit 5 with ref := some ⟨0, 1, 0, 0, 2, none, r, 0⟩ })] }
def refReady : Dev := set ready [(F.AXS_STALL_CFG.STALL_MODE 5, 1), (F.ENC_CFG.ENC_TYPE 5, 1)]

theorem meets_Referencing : ready.awake = true ∧ idle.modeIn [.calibrate, .run, .service] = false ∧
    refReady.modeIn [.calibrate, .run, .service] = true ∧ refReady.axisState 5 = 0 ∧ (refReady.ax 5).ref = none ∧
    refReady.f (F.AXS_STALL_CFG.STALL_MODE 5) = 1 ∧ refReady.f (F.ENC_CFG.ENC_TYPE 5) = 1 ∧ refReady.f (F.ENC_STATUS.ENC_FAULT 5) = 0 ∧
    refReady.f (F.CHP_STATUS.OVERCURRENT 5) = 0 ∧ faulty.f (F.CHP_STATUS.OVERCURRENT 5) = 1 ∧ (keeping false 32).axisState 5 = 4 ∧
    ((referencing none).ax 5).ref = some ⟨0, 1, 0, 0, 2, none, none, 0⟩ ∧
    (∀ c ∈ [0, 15], ((referencing (some c)).ax 5).ref = some ⟨0, 1, 0, 0, 2, none, some c, 0⟩ ∧ (referencing (some c)).stands 5 = true ∧
      (referencing (some c)).moveOf 5 = none) := by decide +kernel

/-- Sequencer 1 stopped with a set that passes, and one that fails; running, with COMMIT; with a result in its FIFO. -/
def hkcRuns (cm : Nat) : Dev := set ready [(F.HKC_SEQ_CTRL.RUN 1, 1), (F.HKC_SEQ_CTRL.COMMIT 1, cm)]
def hkcBad : Dev := set ready [(F.HKC_ENT_CFG.COMBINE 1 0, 3)]
def hkcFull : Dev := { ready with hkc := [(1, { hkcInit 1 with fifo := [0xFFFFFFFF, 1] })] }
def hkcEmpty : Dev := { ready with hkc := [(1, { hkcInit 1 with fifo := [] })] }
def hkcGood : List (Int × Int × Bool) := List.replicate 12 (0, 393216, true)

theorem meets_HousekeepingConverters : ready.awake = true ∧ (hkcRuns 0).f (F.HKC_SEQ_CTRL.RUN 1) = 1 ∧ ready.f (F.HKC_SEQ_CTRL.RUN 1) = 0 ∧
    (ready.hkcCheck 1 (ready.hkcShadow 1)).1 = 0 ∧ (hkcBad.hkcCheck 1 (hkcBad.hkcShadow 1)).1 ≠ 0 ∧ (hkcEmpty.hkcOf 1).fifo = [] ∧
    (hkcFull.hkcOf 1).fifo = [0xFFFFFFFF, 1] ∧ (hkcRuns 1).f (F.HKC_SEQ_CTRL.COMMIT 1) = 1 ∧ (hkcRuns 0).f (F.HKC_SEQ_CTRL.COMMIT 1) = 0 ∧
    ((hkcRuns 1).hkcCheck 1 (((hkcRuns 1).setF (F.HKC_SEQ_CTRL.COMMIT 1) 0).hkcShadow 1)).1 = 0 ∧
    setLast ((hkcRuns 0).hkcOf 1).live = 0 ∧ filtKind (setFilt ((hkcRuns 0).hkcOf 1).live 0) = 0 ∧
    idle.modeIn [.standby, .calibrate, .service] = true ∧ ready.modeIn [.standby, .calibrate, .service] = false ∧
    { hkcRuns 0 with mode := .standby }.f (F.HKC_SEQ_CTRL.RUN 1) = 1 ∧ idle.f (F.HKC_SEQ_CTRL.RUN 0) = 0 ∧ idle.f (F.HKC_SEQ_CTRL.RUN 1) = 0 ∧
    idle.f F.TOP_ERR_STATUS.ACCESS_ERR = 0 := by decide +kernel

/-- A Tether node: timing master whose NET runs free; a base armed for its step; a slot that is due. -/
def netMaster : Dev := set ready [(F.TET_STATUS.TIMING_MASTER, 1), (F.TIM_CFG.NET_SRC, 0)]
def netOther : Dev := set ready [(F.TIM_CFG.NET_SRC, 2)]
def armedBase : Dev := set netOther [(F.TIM_BASE_CTRL.STEP_ARMED 1, 1), (F.TIM_BASE_CTRL.STEP_ARMED 2, 0)]
def inState (n : Nat) : Dev := set netOther [(F.TIM_BASE_CTRL.STATE 1, n)]
def ptmOn : Dev := { netOther with link := { netOther.link with ptm := true } }
def axArmed : Dev := set ready [(F.TIM_BASE_CTRL.STEP_ARMED 3, 1), (F.TET_STATUS.FORMED, 1), (F.TET_CFG.STN_EN, 1), (F.TET_CFG.EN, 1), (F.TET_CFG.FEED_MASTER, 1)]
def theta1 : BitVec 64 := BitVec.ofInt 64 (thetaOf (decToBin 4294967295 999999999) (ptmOn.baseVal 2))

theorem meets_BasesDisciplined : (inMode .boot).alive = false ∧ netMaster.netFree = true ∧ netOther.alive = true ∧ netOther.netFree = false ∧
    armedBase.f (F.TIM_BASE_CTRL.STEP_ARMED 1) = 1 ∧ armedBase.f (F.TIM_BASE_CTRL.STEP_ARMED 2) = 0 ∧
    (∀ n < 4, (inState n).f (F.TIM_BASE_CTRL.STATE 1) = n) ∧ { ready with link := devReset.link }.link.ptm = false ∧ ptmOn.alive = true ∧ ptmOn.link.ptm = true ∧
    ptmOn.canIssue = true ∧ ptmOn.timingMaster = false ∧
    theta1.toInt = thetaOf (decToBin (4294967295999999999 / 1000000000) (4294967295999999999 % 1000000000)) (ptmOn.baseVal 2) ∧
    netOther.awake = true ∧ axArmed.allStand = true ∧ axArmed.axisLocks = true ∧ axArmed.f (F.TIM_BASE_CTRL.STEP_ARMED 3) = 1 ∧
    0 < axArmed.servoPeriod ∧ (set axArmed [(F.TET_STATUS.FORMED, 0)]).axisLocks = false ∧ axArmed.awake = true := by decide +kernel

/-- Cairn at the last tick of its last second. -/
def lastTick : Dev := { ready with time := { timeInit with crnSec := 2 ^ 32 - 1, crnNs := 999999999, crnFrac := 63 } }

theorem meets_CairnAndStamps : lastTick.time.crnNs < 1000000000 ∧ lastTick.time.crnFrac < 64 ∧ lastTick.time.crnSec < 2 ^ 32 ∧
    ready.awake = true ∧ (inMode .boot).alive = false ∧ ready.alive = true ∧ ready.timingMaster = false ∧ netOther.f F.TIM_CFG.NET_SRC = 2 ∧
    netMaster.f F.TIM_CFG.NET_SRC ≠ 2 ∧ bitOf ((set ready [(F.TIM_CFG.TEV_DIR, 8)]).f F.TIM_CFG.TEV_DIR) 3 = true ∧
    bitOf ((set ready [(F.TIM_CFG.TEV_DIR, 7)]).f F.TIM_CFG.TEV_DIR) 3 = false ∧
    bitOf ((set ready [(F.TIM_EVT_CFG.TEV_EDGE, 0x80)]).f F.TIM_EVT_CFG.TEV_EDGE) (2 * 3 + 1) = true ∧
    bitOf ((set ready [(F.TIM_EVT_CFG.TEV_EDGE, 0x80)]).f F.TIM_EVT_CFG.TEV_EDGE) (2 * 3 + 0) = false := by decide +kernel

/-- Slot 255 on Cairn's base, to drive TEV_3 high; due, on time or late. -/
def slotAt (t : Nat) (late drop : Bool) : Slot := ⟨3, drop, 4, t, [0x103, 0, 0, 0], src0, 0, late⟩
def due (t : Nat) (late drop : Bool) : Dev := { set ready [(F.TIM_CFG.TEV_DIR, 8)] with
  slots := [(255, slotAt t late drop)]
  running := [⟨0, src0, .schedule 255⟩] }

theorem meets_ScheduledActions : (inMode .boot).modeIn [.standby, .calibrate, .run, .service] = false ∧
    ready.modeIn [.standby, .calibrate, .run, .service] = true ∧ (due 0 false false).slot 255 ≠ none ∧ (due 0 false false).slot 0 = none ∧
    (∀ c ∈ (due 1 false false).slots, (due 1 false false).slotBase c.2.base < c.2.time) ∧
    (∀ p ∈ [(false, false), (true, false), (true, true)], (due 0 p.1 p.2).awake = true ∧
      (255, slotAt 0 p.1 p.2) ∈ (due 0 p.1 p.2).slots ∧ 0 ≤ (due 0 p.1 p.2).slotBase 4 ∧
      (∀ c ∈ (due 0 p.1 p.2).slots, c = (255, slotAt 0 p.1 p.2)) ∧
      (due 0 p.1 p.2).running.find? (fun y => y.id = 0) = some ⟨0, src0, .schedule 255⟩ ∧
      bitOf ((due 0 p.1 p.2).f F.TIM_CFG.TEV_DIR) (0x103 % 4) = true) ∧ 0x103 / 256 % 4 < 2 := by decide +kernel

/-- A node of a ring: with its ports' links in given states; timing master; in a station, as feed master or follower. -/
def node (e w : Port) : Dev := { set ready [(F.TET_CFG.EN, 1), (F.TET_CFG.NODE, 9), (F.TET_CFG.PRIORITY, 1)] with tet := { tetherInit with ports := [e, w] } }
def carries : Port := ⟨true, true, none, []⟩
def lockedPort : Port := ⟨true, false, none, []⟩
def master (e w : Port) : Dev := set (node e w) [(F.TET_STATUS.TIMING_MASTER, 1)]
def station (n : Nat) : Dev := set (node carries carries) [(F.TET_CFG.STN_EN, 1), (F.TET_CFG.FEED_MASTER, n)]

theorem meets_TetherLinks : (node portInit portInit).tet.ports.length = 2 ∧ ready.f F.TET_CFG.EN = 0 ∧ (node portInit carries).alive = true ∧
    (node portInit carries).f F.TET_CFG.EN = 1 ∧ ((node portInit carries).port 0).locked = false ∧ ((node portInit carries).port 1).locked = true ∧
    ((node portInit carries).port 1).carries = true ∧ ((node lockedPort carries).port 0).locked = true ∧
    ((node lockedPort carries).port 0).carries = false ∧ (node carries carries).f F.TET_STATUS.TIMING_MASTER = 0 ∧
    (master carries carries).f F.TET_STATUS.TIMING_MASTER = 1 ∧ ((master carries carries).port 0).carries = true ∧
    ((master portInit carries).port 0).carries = false ∧ ((master portInit carries).port 1).carries = true ∧
    ((master portInit portInit).port 1).carries = false ∧ 0 < (node carries carries).f F.TET_CFG.PRIORITY ∧
    (set (node carries carries) [(F.TET_CFG.PRIORITY, 0)]).f F.TET_CFG.PRIORITY = 0 ∧ (station 1).inStation = true ∧
    (station 1).f F.TET_CFG.FEED_MASTER = 1 ∧ (station 0).f F.TET_CFG.FEED_MASTER = 0 ∧ ready.inStation = false := by decide +kernel

/-- Frames of another node (NODE 3) and of the node itself, as they would arrive. -/
def other3 : Dev := set (node carries carries) [(F.TET_CFG.NODE, 3), (F.TET_CFG.STN_EN, 1)]
def frameOf (d : Dev) (typ sub seq : Nat) (p : List Nat) : List Nat := d.makeFrame typ 0 sub seq p

theorem meets_TetherFrames_types : frameOk [] = false ∧ frameOk (frameOf other3 3 0 0 []) = true ∧ frameOk (frameOf other3 4 0 7 []) = true := by
  decide +kernel

def own (typ sub seq : Nat) (p : List Nat) : List Nat := frameOf (station 1) typ sub seq p
def keyOf (ws : List Nat) : Seen := ⟨bitsOf (ws.headD 0) 27 24, bitsOf (ws.headD 0) 31 28, bitsOf (ws.getD 1 0) 31 16⟩
def knows (d : Dev) (l : List Seen) (m : List Seen) : Dev := { d with tet := { d.tet with sent := l, seen := m, latchTime := some 0, syncSeq := 4 } }
def sync9 : List Nat := own 1 0 4 [1, 0, 1 * 2 ^ 24]
def gov9 : List Nat := own 5 1 65535 [4096, 0xFFFFFF, 0x02000200, 0x200, 0]
def sync3 : List Nat := frameOf other3 1 0 4 [1, 0, 255 * 2 ^ 24]
def follow3 : List Nat := frameOf other3 2 0 4 [0, 1, 0, 0]
def gov3 : List Nat := frameOf other3 5 1 4 [4096, 0x20000 + 0xFFFFFF, 0, 0, 1250]
def latch3 (t : Nat) : List Nat := frameOf other3 5 2 4 [5, 0, t, 0]
def waitsPd : Dev := node carries ⟨true, false, some 12, []⟩

theorem meets_TetherFrames : (station 1).alive = true ∧ (station 1).f F.TET_CFG.EN = 1 ∧
    (∀ ws ∈ [sync9, gov9, wrapFrame sync9, sync3, follow3, gov3, latch3 4294967, latch3 4294968], frameOk ws = true ∧
      (ws.map (fun n => BitVec.ofNat 32 n)).map (fun w => w.toNat) = ws) ∧
    (waitsPd.port 1).t1 = some 12 ∧ ((station 1).port 1).t1 = none ∧ waitsPd.tet.ports.length = 2 ∧ (waitsPd.port 1).carries = false ∧
    (station 1).f F.TET_CFG.NODE = 9 ∧ (keyOf sync9).src = 9 ∧ (keyOf gov9).src = 9 ∧ keyOf sync9 ∉ (station 1).tet.sent ∧
    keyOf sync9 ∈ (knows (station 1) [keyOf sync9] []).tet.sent ∧ bitOf (sync9.headD 0) 18 = false ∧ (keyOf sync9).typ = 1 ∧
    bitOf ((wrapFrame sync9).headD 0) 18 = true ∧ keyOf (wrapFrame sync9) = keyOf sync9 ∧
    keyOf sync9 ∉ (knows (station 1) [keyOf sync9] []).tet.seen ∧ (keyOf gov9).typ = 5 ∧ bitsOf (gov9.headD 0) 7 0 = 1 ∧
    (station 1).inStation = true ∧ (station 1).f F.TET_CFG.FEED_MASTER = 1 ∧ (station 0).f F.TET_CFG.FEED_MASTER = 0 ∧
    (keyOf sync3).src = 3 ∧ (keyOf sync3).typ = 1 ∧ keyOf sync3 ∉ (station 0).tet.seen ∧ keyOf gov3 ∈ (knows (station 0) [] [keyOf gov3]).tet.seen ∧
    nodeBetter 255 1 ((station 0).f F.TET_CFG.PRIORITY) (station 0).identity = true ∧
    nodeBetter 255 1 ((set (station 0) [(F.TET_CFG.PRIORITY, 255)]).f F.TET_CFG.PRIORITY) (station 0).identity = false ∧
    (keyOf follow3).typ = 2 ∧ (station 0).f F.TET_STATUS.TIMING_MASTER = 0 ∧ (knows (station 0) [] []).tet.syncSeq = 4 ∧ (keyOf follow3).seq = 4 ∧
    (set (station 0) [(F.TET_STATUS.MASTER_NODE, 3)]).f F.TET_STATUS.MASTER_NODE = 3 ∧ bitsOf (gov3.headD 0) 19 19 = (station 0).f F.TET_CFG.STATION ∧
    bitsOf (gov3.headD 0) 7 0 = 1 ∧ bitsOf ((latch3 0).headD 0) 7 0 = 2 ∧ (knows (station 0) [] []).tet.latchTime = some 0 ∧
    (thetaOf 0 ((latch3 4294967).getD 4 0)).natAbs ≤ 4294967 ∧ 4294967 < (thetaOf 0 ((latch3 4294968).getD 4 0)).natAbs := by
  decide +kernel

/-! ## Security: keys whose every signature is the neutral point's, so that images can be written out -/

/-- A number in little-endian bytes. -/
def le (n v : Nat) : List Byte := (List.range n).map (fun i => BitVec.ofNat 8 (v / 256 ^ i))
def neutralKey : List Byte := 1 :: List.replicate 31 0
def neutralSig : List Byte := 1 :: List.replicate 63 0
def z (n : Nat) : List Byte := List.replicate n 0

/-- A firmware image of one word of 4 bytes; a calibration store of SEQ 1 without host data; an OTP request of an operation and target. -/
def fwImage : List Byte := le 4 0x57465A4C ++ le 2 1 ++ le 2 256 ++ le 4 4 ++ z 52 ++ neutralKey ++ neutralSig ++ z 96 ++ z 4
def storeHead : List Byte := le 4 0x53435A4C ++ le 2 1 ++ z 2 ++ le 4 1 ++ le 4 192 ++ z 48
def storeImage : List Byte := storeHead ++ z 32 ++ sha512 storeHead ++ z 32
def otpReq (op t : Nat) : List Byte :=
  le 4 0x544F5A4C ++ [BitVec.ofNat 8 op, BitVec.ofNat 8 t, 0, 0] ++ z 8 ++ (if op = 1 then neutralKey else z 32) ++ z 112
def rooted : Dev := { idle with sec := { secInit with otp := { otpInit with vroot := sha512 neutralKey } } }
def stored : Dev := { rooted with sec := { rooted.sec with store := some ⟨1, 0, 192, []⟩, image := some ⟨0, [], 5, 0⟩ } }

theorem meets_StoreCommands : (4 : Nat) % 8 ≠ 0 ∧ (8 : Nat) % 8 = 0 ∧ (inMode .boot).modeIn [.standby, .calibrate, .run, .service] = false ∧
    rooted.modeIn [.standby, .calibrate, .service] = true ∧ ready.modeIn [.standby, .calibrate, .service] = false ∧
    ready.modeIn [.standby, .calibrate, .run, .service] = true ∧ rooted.sec.otp.seed = none ∧
    { rooted with sec := { secInit with otp := { otpInit with seed := some (z 32) } } }.sec.otp.seed = some (z 32) ∧
    (set rooted [(F.SEC_STORE_STATUS.WRITING, 1)]).f F.SEC_STORE_STATUS.WRITING = 1 ∧ rooted.f F.SEC_STORE_STATUS.WRITING = 0 ∧
    rooted.sec.image = none ∧ stored.sec.image = some ⟨0, [], 5, 0⟩ ∧ rooted.sec.store = none ∧ stored.sec.store = some ⟨1, 0, 192, []⟩ := by
  decide +kernel

theorem meets_StoreCommands_images : rooted.otp.fwCode 260 fwImage = 0 ∧ rooted.otp.fwCode 259 fwImage = 4 ∧ idle.otp.fwCode 260 fwImage = 7 ∧
    rooted.storeCode 192 storeImage = 0 ∧ stored.storeCode 192 storeImage = 0 ∧ rooted.storeCode 192 (storeHead ++ z 128) = 5 := by decide +kernel

/-- Slot 4 ACTIVE, alone and with slot 1. -/
def keySlot : KeySlot := ⟨sha512 neutralKey, true, false⟩
def oneKey : Dev := { stored with sec := { stored.sec with otp := { otpInit with slots := [slotEmpty, slotEmpty, slotEmpty, keySlot], rollback := 3 } } }
def signedReq (op t v : Nat) : List Byte :=
  le 4 0x544F5A4C ++ [BitVec.ofNat 8 op, BitVec.ofNat 8 t, 4, 0] ++ z 8 ++ (if op = 1 then neutralKey else z 32) ++ neutralKey ++ le 4 v ++ z 12 ++ neutralSig

theorem meets_OtpRequests : (∀ p ∈ [(1, 1), (2, 4), (3, 0), (4, 0)], bufNat (otpReq p.1 p.2) 4 1 = p.1 ∧ (otpReq p.1 p.2).length = 160 ∧
      otpHeaderOk (otpReq p.1 p.2) = true ∧ bufNat (otpReq p.1 p.2) 8 8 = rooted.dsn ∧ rooted.otpAuth (otpReq p.1 p.2) = 0 ∧
      oneKey.otpAuth (otpReq p.1 p.2) = 7) ∧
    otpHeaderOk (otpReq 1 5) = false ∧ rooted.modeIn [.standby, .calibrate, .service] = true ∧ ready.modeIn [.standby, .calibrate, .service] = false ∧
    bufNat ((otpReq 3 0).set 8 1) 8 8 ≠ rooted.dsn ∧ otpHeaderOk ((otpReq 3 0).set 8 1) = true ∧ (rooted.sec.otp.slot 1).state = 0 ∧
    (rooted.sec.otp.slot 4).state ≠ 1 ∧ (oneKey.sec.otp.slot 4).state = 1 ∧ (oneKey.sec.otp.slots.filter (fun k => k.state = 1)).length = 1 ∧
    oneKey.sec.otp.rollback = 3 ∧ (∃ x ∈ oneKey.sec.image, 5 = x.version) := by decide +kernel

theorem meets_OtpRequests_signed : ∀ p ∈ [(1, 4, 0), (2, 4, 0), (3, 0, 2), (3, 0, 3), (3, 0, 5), (3, 0, 6), (4, 0, 15)],
    oneKey.otpAuth (signedReq p.1 p.2.1 p.2.2) = 0 ∧ bufNat (signedReq p.1 p.2.1 p.2.2) 80 4 = p.2.2 ∧
    otpHeaderOk (signedReq p.1 p.2.1 p.2.2) = true ∧ (signedReq p.1 p.2.1 p.2.2).length = 160 := by decide +kernel

/-- A challenge of zeros in force and the response to it. -/
def response : List Byte := le 4 0x55445A4C ++ [0, 3, 0, 0] ++ z 8 ++ z 32 ++ neutralKey ++ neutralSig
def challenged : Dev := (List.range 36).foldl (fun d n => d.setReg (R.SEC_DBG_RESP n) (BitVec.ofNat 32 (bufNat response (4 * n) 4)))
  { rooted with sec := { rooted.sec with challenge := some (z 32) } }

theorem meets_DebugUnlock : (inMode .boot).awake = false ∧ challenged.awake = true ∧ rooted.sec.challenge = none ∧
    8 ≤ (set rooted [(F.SEC_DBG_STATUS.FAIL_CNT, 8)]).f F.SEC_DBG_STATUS.FAIL_CNT ∧
    (set rooted [(F.SEC_DBG_STATUS.FAIL_CNT, 7)]).f F.SEC_DBG_STATUS.FAIL_CNT < 8 ∧ challenged.sec.challenge = some (z 32) ∧
    challenged.respCheck (z 32) = 1 ∧ challenged.respCheck (1 :: z 31) = 2 ∧ challenged.otp.flag 1 = false ∧ rooted.ledgerQ = [] ∧
    { rooted with ledgerQ := [z 8] }.ledgerQ = [z 8] ∧ rooted.ledger.length < 128 := by decide +kernel

/-- SERVICE with the test pins connected: node 0 of channel 0 of group 0 serves a tap, channel 8 none. -/
theorem meets_TestPins : (inMode .boot).awake = false ∧ svc.awake = true ∧ ready.tstActive = false ∧ svc.tstActive = true ∧
    tstListed true 0x40 = true ∧ (svc.ch (0x40 / 64 - 1) (0x40 % 64 / 4)).tapOf ≠ none ∧ tstListed true 0x223 = true ∧
    (svc.ch (0x223 / 64 - 1) (0x223 % 64 / 4)).tapOf = none ∧ tstListed true 0x224 = false ∧ tstListed false 0x307 = true ∧
    tstListed false 0x308 = false ∧ bitOf (0x40000040#32).toNat 30 = true ∧ bitOf (0x80000040#32).toNat 30 = false ∧
    bitsOf (0x80000040#32).toNat 9 0 = 0x40 ∧ svc.f F.TOP_ERR_STATUS.ACCESS_ERR = 0 := by decide +kernel

theorem meets_JtagInstructions : (inMode .dormant).railsValid = false ∧ ready.railsValid = true ∧
    (∀ n ∈ [1, 2, 0x80, 0xFE, 0xFF], ({ ready with tap := ⟨n, []⟩ } : Dev).tap.ir ∉ [0, 4, 5]) ∧
    (∀ n ∈ [0, 4, 5], ({ ready with tap := ⟨n, []⟩ } : Dev).tap.ir ∈ [0, 4, 5]) ∧ devReset.tap.ir = 1 := by decide +kernel

theorem meets_RegisterReads : (inMode .dormant).mode = .dormant ∧ { ready with rst := some ResetKind.warm }.rst ≠ none ∧ ready.mode ≠ .dormant ∧
    ready.rst = none ∧ (inMode .boot).mode = .boot ∧ ¬ (0x10000 ≤ 0x11000 ∧ 0x11000 < 0x11000) ∧
    R.HST_SQ_CFG 0 ∉ [R.TOP_ID, R.TOP_DSN_LO, R.TOP_DSN_HI, R.SEC_BOOT_STATUS, R.SEC_OTP_STATUS] ∧
    (∃ f ∈ famOf R.TOP_DSN_HI, isHigher f.base = true) ∧ (∃ f ∈ famOf R.TOP_DSN_LO, isHigher f.base = false) ∧
    R.TOP_DSN_LO ≠ R.SMP_POOL_STATUS ∧ winHaul ≤ 0x103FFC ∧ 0x103FFC < winHaul + 0x4000 ∧ famOf 0x03FFFFFC = none ∧
    i2cWin 0x03FFFFFC = none ∧ hkcWin 0x03FFFFFC = none ∧ regionOf 0x03FFFFFC = .none := by decide +kernel

theorem meets_RegisterWrites : (inMode .dormant).mode = .dormant ∧ (inMode .boot).mode = .boot ∧ ready.awake = true ∧
    famOf (R.HST_SQ_BASE_LO 63) ≠ none ∧ ready.f F.TOP_ERR_STATUS.ACCESS_ERR = 0 ∧ ready.f (F.HST_SQ_CFG.EN 63) = 1 ∧
    ready.f (F.HST_SQ_CFG.EN 62) = 0 ∧ (0x1000#32).toNat % 4096 = 0 ∧ (0xFFF#32).toNat % 4096 ≠ 0 ∧
    R.SEC_ID_PUBKEY 7 ∈ [R.TOP_ID, R.TOP_DSN_LO, R.TOP_DSN_HI, R.SEC_STORE_SEQ, R.PWR_DOM_STATUS 0] ++ (List.range 8).map R.SEC_ID_PUBKEY ∧
    R.SEC_DBG_RESP 35 ∈ (List.range 36).map R.SEC_DBG_RESP := by decide +kernel

/-! ## Values of the spec's worked examples -/

/-- The conversions of 03_video_front_end.md's worked example: 41,498 and 17,920. -/
theorem test_convert : convert false false 2 (2150 * 65536 + 1990) 600000000 = 41498 ∧
    convert true false 1 0x08000800 250000 = 17920 := by decide +kernel

/-- 04, example of the cap: t_seq 12,080 gives 1,202 ticks per period; t_lseq 2,965 gives 1,225 and 612. -/
theorem test_speed_cap : ready.capOf 6000 12080 = 1202 ∧ ready.capOf 1500 2965 = 1225 ∧ ready.capOf 750 2965 = 612 := by
  decide +kernel

/-- 05: the offset and gain of a photosite give 38,952 (q 4,064, r 1,500 and w 16,384 place it). -/
theorem test_shade_pixel : shadePx 37935 15 17000 16220 = 38952 := by decide +kernel

/-- 06: o = 15 and g = 17,000, word 0x4268_000F. -/
theorem test_shading_word : roundShift 960 6 = 15 ∧ roundShift 2467264 6 = 38551 ∧
    divFloor (2 * 40000 * 16384 + 38551) (2 * 38551) = 17000 ∧ (17000 * 65536 + 15 : Nat) = 0x4268000F := by decide +kernel

/-- 07: the ideal span, the two means and the new pair of the Squeeze example. -/
theorem test_squeeze_trims : idealSpan false 2 1250000 = 655360 ∧ newTrims 2150 1990 32808 686808 655360 = some (2184, 1989) := by
  decide +kernel

/-- 08: d64 = 7 along the feed and across it; ERROR 1,116; WEAVE −430. -/
theorem test_survey_fit : fit64 354000 180000 290000 = 7 ∧ fit64 520000 180000 400000 = 7 ∧
    confMean [(217, 850), (190, 1420)] = 1116 ∧ confMean [(217, -544), (190, -300)] = -430 := by decide +kernel

/-- The device of 09's example: 10,240,000 counts a revolution, 3 ticks a count. -/
def feedRoller : Dev := set ready [(F.FLW_CPR.CPR, 10240000), (F.AXS_TICK_NUM.TICK_NUM, 3), (F.AXS_TICK_DEN.TICK_DEN, 1),
  (F.FLW_LEAK.LEAK, 64), (F.FLW_CTRL.CORR_EN, 1)]

/-- 09: advance 500 starts at the angle 2 × 2^26, covers bin 0 whole and bin 20 not at all; counts(45) = 15, ticks(15) = 45. -/
theorem test_flow_angles : feedRoller.angle 20480000 = 134217728 ∧
    coverage (feedRoller.angle 20480000) (feedRoller.angle 20680000) 0 = 65536 ∧
    coverage (feedRoller.angle 20480000) (feedRoller.angle 20680000) 19 = 65536 ∧
    coverage (feedRoller.angle 20480000) (feedRoller.angle 20680000) 20 = 0 ∧
    feedRoller.countsOf 45 = 15 ∧ feedRoller.ticksOf 15 = 45 := by decide +kernel

/-- The device of 09's boundary: window 3 of plane 1 reads 30,000 before line 17,427, 30,100 after it and 29,500 about it. -/
def swath : Dev := { set ready [(F.STR_CTRL.BSEARCH, 1), (F.STR_CTRL.BZ, 1), (F.STR_CTRL.GUARD, 2), (F.STR_CTRL.NI, 8),
    (F.STR_LIMITS2.FLAT_MAX, 4), (F.STR_SENS.SENS 0 0 1, 16500)] with
  str := { strataInit with
    means := (List.range 25).map (fun (i : Nat) => ⟨3, 1, 17415 + i, some (if i < 11 then 30000 else if i < 14 then 29500 else 30100)⟩),
    lines := (List.range 25).map (fun (i : Nat) => ⟨17415 + i, 0, []⟩) } }

/-- 09: mi = 30,050, the step stands at line 17,427 and e = 302. -/
theorem test_strata_step : swath.strK = 12 ∧
    swath.strInterior ⟨0, 62040000, 500, 0, 8, 17427⟩ 3 1 = some ⟨3, 1, 30050, 16500⟩ ∧
    swath.strLocate ⟨0, 62040000, 500, 0, 8, 17427⟩ [⟨3, 1, 30050, 16500⟩] = 17427 ∧
    swath.strStep 17427 0 ⟨3, 1, 30050, 16500⟩ = some 302 := by decide +kernel

/-- 10: the record of context 17 takes 11 cells; samples 0x972 and 0x123, packed to 12 bits, take bytes 0x72, 0x39 and 0x12. -/
theorem test_record_size : recordCells 45000 = 11 ∧ leBytes 3 (packBits 12 [0x972, 0x123]) = [0x72, 0x39, 0x12] := by decide +kernel

/-- 12: at LOW 2,048, HIGH 3,072 and FULL 3,840 an occupancy of 3,456 gives the factor 2,048; 2,044 releases a hold. -/
theorem test_governor_rule : govRule 2048 3072 3840 3456 false false = (false, 2048) ∧
    (govRule 2048 3072 3840 3840 false false).1 = true ∧ (govRule 2048 3072 3840 2048 false true).1 = true ∧
    (govRule 2048 3072 3840 2044 false true).1 = false := by decide +kernel

/-- 13: the bursts of LENGTH 1,000 to DST …0FE0 with BURST_LOG 8: 32 to the next multiple of 256, whole ones, then 200. -/
theorem test_burst_lengths : [0, 32, 288, 544, 800].map (fun o =>
    (⟨[0x8001, 1000, 0x1003, 0x10, 0xFE0, 0x20, 0, 0], 0, [], 0, o, 1000 - o, []⟩ : Xfer).burst) = [32, 256, 256, 256, 200] := by
  decide +kernel

/-- 14: at 4,800 counts a period, DEC 4 and JERK 1, the way to standstill is 2,884,800 counts. -/
theorem test_stop_distance : stopDist (4800 * 2 ^ 32) 0 (4 * 2 ^ 32) (2 ^ 32) = 2884800 * 2 ^ 32 := by decide +kernel

/-- 15: S(556) = −8,739 and S(300) = 31,580; i = 600 gives coil A 160, negative, and coil B 578. -/
theorem test_coil_demands : sineOf 556 = -8739 ∧ sineOf 300 = 31580 ∧ coilDemand 600 556 = -160 ∧ coilDemand 600 300 = 578 := by
  decide +kernel

/-- 15: in tier 2 the angle 300 gives 288; on the way to 352 the point 320 of tier 3 is passed, and the tier applies. -/
theorem test_tier_change : thetaOut 2 300 = 288 ∧ thetaOut 3 352 = 320 ∧
    (inMode .run).tierNext 0 { axisInit 0 with tier := 2, tierPend := 3, theta := 300, v := 4 * 2 ^ 32 } 352 = (3, 3) := by
  decide +kernel

/-- Table 16.8's set. -/
def rtdSet : List Nat :=
  let c (mux gain exc comb : Nat) := mux * 2 ^ 26 + gain * 2 ^ 23 + exc * 2 ^ 20 + comb * 2 ^ 18 + 19
  [4 * 2 ^ 24 + 30 * 2 ^ 16 + 10 * 2 ^ 8 + 9, 20 * 2 ^ 16, 0, 0, 0, 0, c 32 3 1 0, 0, c 32 3 2 1, 2 ^ 30 + 18, c 4 0 3 0, 2 ^ 30 + 18,
    c 5 0 0 0, 0, c 52 0 0 0, 0]

/-- 16: t_e of the five entries in 10 ns, the pass within T_pass − 1 µs, the N50 window of 180 passes and MEAN = 20,960. -/
theorem test_pass_length : (List.range 5).map (entLen rtdSet) = [2301, 2250, 2301, 301, 301] ∧ passLen rtdSet = 7454 ∧
    passTooLong rtdSet = false ∧ filtLen 30 (2 ^ 30 + 18) = 180 ∧ hkcCorrect 0 16384 1311 = 20976 ∧
    divFloor (20976 + 20944 + 1) 2 = 20960 := by decide +kernel

/-- 17: θ = −4 units with P_SHIFT = 0 gives slew −262,144. -/
theorem test_slew : (correct 0 (-4) 0 0).2 = -262144 := by decide +kernel

/-- 20: the entry of channel 5 of group 2 in the 17th BOOT ends in CHECK 0xE1. -/
theorem test_ledger_check : ledgerBytes ⟨1, 2, 5, 8, 1⟩ 17 = [0x01, 0x02, 0x05, 0x08, 0x11, 0x00, 0x01, 0xE1] := by decide +kernel

/-- 23: Cairn's halves through the host's shadow: the read of LO keeps 41 s although Cairn carries to 42 s before HI is read. -/
theorem test_cairn_shadow : ((after (.rcRead .host R.CRN_TIME_LO) { ready with time := { ready.time with crnSec := 41, crnNs := 999999990 } }).bind (fun d =>
    after (.rcRead .host R.CRN_TIME_HI) { d with time := { d.time with crnSec := 42, crnNs := 0 } })).map (·.out) =
      some (ready.out ++ [.readData R.CRN_TIME_LO 999999990, .readData R.CRN_TIME_HI 41]) := by decide +kernel

end Sys2Proof.Tests
end

section
/-! SUPPORT. A doorbell out of range and a completion ring in ERROR (R285): the ring in ERROR takes no entry and stops the fetches
of the submission rings bound to it; RECORD_WRITE touches the context it serves alone, and a context of such a ring is not served. -/

namespace Sys2Proof.Machine

/-! ## A completion ring in ERROR -/

theorem Dev.cqTakes_of_error {d : Dev} {n : Nat} (h : d.f (F.HST_CQ_STATUS.STATE n) = 2) : d.cqTakes n = false := by
  simp [Dev.cqTakes, h]

theorem Dev.cqBlocks_of_error {d : Dev} {n : Nat} (h : d.f (F.HST_CQ_STATUS.STATE n) = 2) : d.cqBlocks n = true := by
  simp [Dev.cqBlocks, h]

theorem Dev.completionWrite_of_not_takes {d : Dev} {n : Nat} (h : d.cqTakes n = false) : d.completionWrite n = d := by
  unfold Dev.completionWrite
  split
  · rfl
  · simp [h]

theorem Dev.sqFetch_of_not_fetches {d : Dev} {n : Nat} (h : d.sqFetches n = false) (l : List (List Word)) :
    d.sqFetch n l = d.sqRefresh n := by
  simp [Dev.sqFetch, h]

theorem Dev.sqFetches_of_blocks {d : Dev} {n : Nat} (h : d.cqBlocks (d.f (F.HST_SQ_CFG.CQ n)) = true) : d.sqFetches n = false := by
  simp [Dev.sqFetches, h]

/-- A completion that its ring does not take is held back behind those that wait. -/
theorem Dev.Answered.held_of_not_takes {d e : Dev} {q : Nat} {c : Cpl} (h : d.Answered e q c) (hq : d.cqTakes q = false) :
    (e.cq q).held = (d.cq q).held ++ [c] ∧ ∃ more, e.out = d.out ++ more ∧ ∀ o ∈ more, ∃ v a x, o = Out.msix v a x := by
  rw [Dev.Answered, if_neg (by simp [hq])] at h
  obtain ⟨hcq, -, hout, -⟩ := h
  exact ⟨by rw [hcq], hout⟩

/-! ## Doorbells out of range -/

theorem Dev.sqDoorbell_beyond {d : Dev} {n : Nat} {v : Word} (ha : d.awake = true) (hen : d.f (F.HST_SQ_CFG.EN n) = 1)
    (hv : 2 ^ d.f (F.HST_SQ_CFG.SIZE_LOG n) ≤ v.toNat % 65536) :
    d.sqDoorbell n v true = (d.setSq n { d.sq n with db := v.toNat }).sqError n 5 0 := by
  rw [← Dev.sqSize] at hv
  simp [Dev.sqDoorbell, ha, Dev.on_one hen, hv]

theorem Dev.cqDoorbell_beyond {d : Dev} {n : Nat} {v : Word} (ha : d.awake = true) (hen : d.f (F.HST_CQ_CFG.EN n) = 1)
    (hv : 2 ^ d.f (F.HST_CQ_CFG.SIZE_LOG n) ≤ v.toNat % 65536 ∨
      (d.f (F.HST_CQ_STATUS.TAIL n) + d.cqSize n - (d.cq n).head) % d.cqSize n <
        (v.toNat % 65536 + d.cqSize n - (d.cq n).head) % d.cqSize n) :
    d.cqDoorbell n v true =
      if d.f (F.HST_CQ_STATUS.STATE n) = 2 then d.setCq n { d.cq n with db := v.toNat }
      else ((d.setCq n { d.cq n with db := v.toNat }).setF (F.HST_CQ_STATUS.STATE n) 2).irq 9 := by
  rw [← Dev.cqSize] at hv
  simp only [Dev.cqDoorbell, ha, Dev.on_one hen, Bool.not_true, Bool.or_self, Bool.false_eq_true, if_false]
  exact if_pos hv

/-- CQ `n` enters ERROR and the host block raises its interrupt. -/
theorem Dev.cqError_state_only (d : Dev) (n : Nat) :
    ((d.setF (F.HST_CQ_STATUS.STATE n) 2).irq 9).f (F.HST_CQ_STATUS.STATE n) = 2 ∧
    d.Only ((d.setF (F.HST_CQ_STATUS.STATE n) 2).irq 9) [F.HST_CQ_STATUS.STATE n, intBit 9] := by
  constructor
  · rw [Dev.f_irq _ _ _ _ _ (by simp only [R.HST_CQ_STATUS, R.TOP_INT_STATUS]; omega),
      Dev.f_same _ _ _ _ _ (by decide) (by decide)]
    rfl
  · exact ((Dev.Only.refl d _).setF _ _ (by simp [Fld.within])).irq 9 (by simp [Fld.within, intBit])

/-! ## The other contexts -/

theorem Dev.ctx_ctxs {d e : Dev} (h : e.ctxs = d.ctxs) (m : Nat) : e.ctx m = d.ctx m := by rw [Dev.ctx, h, Dev.ctx]

theorem Dev.ctx_setCtx_ne (d : Dev) {n m : Nat} (c : Ctx) (h : m ≠ n) : (d.setCtx n c).ctx m = d.ctx m := spGet_spSet_ne _ _ h

@[simp] theorem Dev.quotaEvent_ctxs (d : Dev) (kind holder : Nat) : (d.quotaEvent kind holder).ctxs = d.ctxs := by
  rw [Dev.quotaEvent, Dev.flag_ctxs, Dev.count, Dev.setF_ctxs, Dev.setF_ctxs, Dev.setF_ctxs]

@[simp] theorem Dev.reportIf_ctxs (d : Dev) (b : Bool) (kind holder : Nat) : (d.reportIf b kind holder).ctxs = d.ctxs := by
  unfold Dev.reportIf
  split
  · exact d.quotaEvent_ctxs _ _
  · rfl

@[simp] theorem Dev.sumpNote_ctxs (d : Dev) : d.sumpNote.ctxs = d.ctxs := rfl

theorem Dev.ctx_setCtxCells_ne (d : Dev) {n m : Nat} (cells : Nat) (h : m ≠ n) : (d.setCtxCells n cells).ctx m = d.ctx m := by
  unfold Dev.setCtxCells
  rw [Dev.ctx_ctxs ((Dev.sumpNote_ctxs _).trans (Dev.reportIf_ctxs _ _ _ _)), Dev.ctx_setCtx_ne _ _ h]

theorem Dev.ctx_closeBuf_ne (d : Dev) {n m : Nat} (code : Nat) (h : m ≠ n) : (d.closeBuf n code).ctx m = d.ctx m := by
  unfold Dev.closeBuf
  dsimp only
  split
  · rfl
  · rw [Dev.ctx_ctxs (Dev.post_ctxs _ _ _), Dev.ctx_setCtx_ne _ _ h]

theorem Dev.ctx_openBuf_ne (d : Dev) {n m : Nat} (seq : Nat) (h : m ≠ n) : (d.openBuf n seq).ctx m = d.ctx m := by
  unfold Dev.openBuf
  dsimp only
  split
  · rfl
  · exact Dev.ctx_setCtx_ne _ _ h

theorem Dev.ctx_roomCheck_ne (d : Dev) {n m : Nat} (h : m ≠ n) : (d.roomCheck n).ctx m = d.ctx m := by
  unfold Dev.roomCheck
  extract_lets c d1 s
  split
  · rfl
  · have hd1 : d1.ctx m = d.ctx m := by
      unfold d1
      split
      · exact d.ctx_closeBuf_ne 0 h
      · rfl
    split
    · exact (Dev.ctx_ctxs (Dev.flag_ctxs _ _) m).trans hd1
    · exact hd1

@[simp] theorem Dev.finish_ctxs (d : Dev) (id : Nat) (o : CmdRes) : (d.finish id o).ctxs = d.ctxs := by
  unfold Dev.finish
  split
  · exact Dev.complete_ctxs _ _ _
  · rfl

theorem Dev.ctx_checkStop_ne (d : Dev) {n m : Nat} (h : m ≠ n) : (d.checkStop n).ctx m = d.ctx m := by
  unfold Dev.checkStop
  extract_lets c
  split
  · rfl
  · next code _ =>
    split
    · rfl
    · extract_lets d1 d2
      refine foldl_keeps (P := fun e => e.ctx m = d.ctx m) (fun e r he => ?_) ?_
      · split
        · split
          · exact (Dev.ctx_ctxs (Dev.finish_ctxs _ _ _) m).trans he
          · exact he
        · exact he
      · exact (d1.ctx_setCtx_ne _ h).trans (d.ctx_closeBuf_ne code h)

/-! ## Which context is written -/

/-- The context that RECORD_WRITE serves may write (R267, R268, R285). -/
theorem Dev.canWrite_of_nextWriter {d : Dev} {k : Nat} (h : d.nextWriter = some k) : d.canWrite k = true := by
  refine List.foldlRecOn (motive := fun best => ∀ k, best = some k → d.canWrite k = true) _ _ ?_ ?_ k h
  · simp
  · intro best hbest n hn k hk
    have hnw : d.canWrite n = true := (List.mem_filter.mp hn).2
    split at hk
    · cases hk
      exact hnw
    · split at hk
      · cases hk
        exact hnw
      · exact hbest k hk

theorem Dev.ctx_recordWrite_ne (d : Dev) {m : Nat} (h : d.nextWriter ≠ some m) : d.recordWrite.ctx m = d.ctx m := by
  unfold Dev.recordWrite
  split
  · rfl
  · next n hn =>
    have hm : m ≠ n := fun e => h (e ▸ hn)
    split
    · rfl
    · extract_lets seq d1
      have hd1 : d1.ctx m = d.ctx m := by
        unfold d1
        split
        · rfl
        · rw [Dev.ctx_openBuf_ne _ _ hm, Dev.ctx_closeBuf_ne _ _ hm]
      split
      · exact hd1
      · rw [Dev.ctx_checkStop_ne _ hm, Dev.ctx_roomCheck_ne _ hm, Dev.ctx_setCtxCells_ne _ _ hm, Dev.ctx_setCtx_ne _ _ hm]
        exact hd1

/-- A context whose completion ring blocks its producers is not served. -/
theorem Dev.nextWriter_ne_of_blocks {d : Dev} {m : Nat} (h : d.cqBlocks (d.ctxRing m) = true) : d.nextWriter ≠ some m := by
  intro hm
  have hw := Dev.canWrite_of_nextWriter hm
  simp [Dev.canWrite, h] at hw

/-! ## The statement -/

/-- Settles O9, one clause at a time: the two doorbells by what they do out of range, then what a CQ in ERROR stops. -/
theorem doorbellRange : Obligations.DoorbellRange := by
  intro s n v
  refine ⟨fun ha hen hv => ?_, fun ha hen hv => ?_, fun hs => ⟨?_, ?_, ?_, ?_⟩⟩
  · refine State.does (f := (·.sqDoorbell n v true)) rfl ?_
    rw [Dev.sqDoorbell_beyond ha hen hv]
    exact Dev.sqError_failed _ _ _ _ n.isLt (by decide)
  · refine State.does (f := (·.cqDoorbell n v true)) rfl ?_
    rw [Dev.cqDoorbell_beyond ha hen hv]
    split
    · next h2 => exact ⟨h2, Dev.Only.refl _ _⟩
    · exact Dev.cqError_state_only _ _
  · exact State.ignores (f := (·.completionWrite n)) rfl (Dev.completionWrite_of_not_takes (Dev.cqTakes_of_error hs))
  · intro src hr
    rw [← hr] at hs ⊢
    exact State.does (f := (·.invalidOpcode src)) rfl ((s.dev.complete_plain src 1 0 0 (by decide)).held_of_not_takes (Dev.cqTakes_of_error hs))
  · intro m l hm
    refine State.does (f := (·.sqFetch m l)) rfl ?_
    rw [Dev.sqFetch_of_not_fetches (Dev.sqFetches_of_blocks (hm ▸ Dev.cqBlocks_of_error hs))]
    exact ⟨Dev.sqRefresh_sqs _ _, Dev.sqRefresh_out _ _⟩
  · intro m t hm ht
    cases ht
    rw [Dev.ctx_recordWrite_ne _ (Dev.nextWriter_ne_of_blocks (hm ▸ Dev.cqBlocks_of_error hs))]

end Sys2Proof.Machine
end

section
/-! SUPPORT. The selectors of the test multiplexers (R498, R499, R502): what a write by access types stores in one, what the pin
shows, and the four outcomes of a write. -/

namespace Sys2Proof.Machine

/-! ## A write by access types -/

/-- A read-write bit of a family without W1C and W1S fields is stored as written. -/
theorem RegFam.testBit_store_rw {f : RegFam} (hc : f.bits .w1c = 0) (hs : f.bits .w1s = 0) (old v : Word) {i : Nat}
    (hi : (f.bits .rw).toNat.testBit i = true) : (f.store old v).toNat.testBit i = v.toNat.testBit i := by
  have hlt : i < 32 := (f.bits .rw).lt_of_getLsbD hi
  simp only [BitVec.testBit_toNat] at hi ⊢
  simp only [RegFam.store, hc, hs, BitVec.getLsbD_or, BitVec.getLsbD_and, BitVec.getLsbD_not, hi]
  simp [hlt]

/-- A field whose bits are all read-write is stored as written. -/
theorem RegFam.bitsOf_store_rw {f : RegFam} (hc : f.bits .w1c = 0) (hs : f.bits .w1s = 0) (old v : Word) {hi lo : Nat}
    (hrw : ∀ i < hi + 1 - lo, (f.bits .rw).toNat.testBit (lo + i) = true) :
    bitsOf (f.store old v).toNat hi lo = bitsOf v.toNat hi lo := by
  refine Nat.eq_of_testBit_eq fun i => ?_
  rw [testBit_bitsOf, testBit_bitsOf]
  by_cases h : i < hi + 1 - lo
  · rw [RegFam.testBit_store_rw hc hs old v (hrw i h)]
  · simp [h]

theorem Dev.plainWrite_of_famOf {d : Dev} {a : Nat} {f : RegFam} (h : famOf a = some f) (v : Word) :
    d.plainWrite a v = d.setReg a (f.store (d.reg a) v) := by
  simp [Dev.plainWrite, h]

theorem Dev.plainWrite_only (d : Dev) (a : Nat) (v : Word) : d.Only (d.plainWrite a v) [whole a] := by
  unfold Dev.plainWrite
  split
  · exact (Dev.Only.refl d _).setReg a _ (by simp [Fld.within, whole])
  · exact Dev.Only.refl d _

@[simp] theorem Dev.plainWrite_out (d : Dev) (a : Nat) (v : Word) : (d.plainWrite a v).out = d.out := by
  unfold Dev.plainWrite
  split <;> rfl

@[simp] theorem Dev.plainWrite_pba (d : Dev) (a : Nat) (v : Word) : (d.plainWrite a v).pba = d.pba := by
  unfold Dev.plainWrite
  split <;> rfl

/-! ## Discarded writes -/

/-- A first access error in BAR0 is the one that the error registers show. -/
theorem Dev.accessErr_discarded {d : Dev} {rq : Req} (h : d.errFree rq) (k : ErrKind) {a : Nat} (ha : a < 2 ^ 26) :
    d.Discarded (d.accessErr rq false k a) k a := by
  obtain ⟨honly, herr, hkind, hspace, -, hoff⟩ := d.accessErr_first rq false k a h.1 h.2
  exact ⟨honly, herr, hkind, hspace, hoff.trans (Nat.mod_eq_of_lt ha)⟩

/-- A write discarded without a record changes nothing but a Haul channel's bus error. -/
theorem Dev.discarded_eq_nak (d : Dev) (rq : Req) : ∃ b, d.discarded rq = { d with nak := b } := by
  cases rq with
  | host => exact ⟨d.nak, rfl⟩
  | supervisor => exact ⟨d.nak, rfl⟩
  | haul ch => exact ⟨true, rfl⟩

theorem Dev.Only.nak {d e : Dev} {l : List Fld} (h : d.Only e l) (b : Bool) :
    ({ d with nak := b } : Dev).Only { e with nak := b } l := by
  obtain ⟨heq, hbits⟩ := h
  exact ⟨by rw [heq], hbits⟩

/-! ## The selectors -/

/-- The address of selector `n`, of an ATEST or of a DTEST pin (Table 21.4). -/
def tstSel (atest : Bool) (n : Nat) : Nat := if atest then R.TST_ATEST_SEL n else R.TST_DTEST_SEL n

/-- The register family of the selectors: BUF exists for the ATEST pins only. -/
def tstFam (atest : Bool) : RegFam :=
  if atest then ⟨"TST_ATEST_SEL", 0x12000, [(4, 4)], .warm, 0x40000000, [(31, 31, .rw), (30, 30, .rw), (9, 0, .rw)]⟩
  else ⟨"TST_DTEST_SEL", 0x12010, [(8, 4)], .warm, 0x0, [(31, 31, .rw), (9, 0, .rw)]⟩

theorem famOf_tstSel : ∀ (atest : Bool) (n : Fin 8), (atest = true → n.val ≤ 3) → famOf (tstSel atest n) = some (tstFam atest) := by
  decide

/-- The selectors lie between the registers that a refusal or an access error writes. -/
theorem tstSel_between : ∀ (atest : Bool) (n : Fin 8), R.TOP_INT_STATUS < tstSel atest n ∧ tstSel atest n < R.TST_STATUS := by
  decide

theorem tstFam_w1c (atest : Bool) : (tstFam atest).bits .w1c = 0 := by cases atest <;> rfl
theorem tstFam_w1s (atest : Bool) : (tstFam atest).bits .w1s = 0 := by cases atest <;> rfl

/-- EN and SEL are read-write in every selector, BUF in those of the ATEST pins. -/
theorem tstFam_rw (atest : Bool) : ((tstFam atest).bits .rw).toNat.testBit 31 = true ∧
    (∀ i < 10, ((tstFam atest).bits .rw).toNat.testBit (0 + i) = true) ∧
    (atest = true → ((tstFam atest).bits .rw).toNat.testBit 30 = true) := by
  cases atest <;> decide

/-- A selector written takes EN and SEL, one of an ATEST pin BUF as well. -/
theorem Dev.reg_plainWrite_tstSel (d : Dev) (atest : Bool) (n : Fin 8) (v : Word) (hn : atest = true → n.val ≤ 3) :
    bitOf ((d.plainWrite (tstSel atest n) v).reg (tstSel atest n)).toNat 31 = bitOf v.toNat 31 ∧
    bitsOf ((d.plainWrite (tstSel atest n) v).reg (tstSel atest n)).toNat 9 0 = bitsOf v.toNat 9 0 ∧
    (atest = true → bitOf ((d.plainWrite (tstSel atest n) v).reg (tstSel atest n)).toNat 30 = bitOf v.toNat 30) := by
  obtain ⟨hen, hsel, hbuf⟩ := tstFam_rw atest
  have hc := tstFam_w1c atest
  have hs := tstFam_w1s atest
  rw [Dev.plainWrite_of_famOf (famOf_tstSel atest n hn), Dev.reg_setReg_self]
  simp only [bitOf_testBit]
  exact ⟨RegFam.testBit_store_rw hc hs _ v hen, RegFam.bitsOf_store_rw hc hs _ v hsel,
    fun h => RegFam.testBit_store_rw hc hs _ v (hbuf h)⟩

/-! ## The pins (R499) -/

/-- The pin reports of a selection alone: open or low first, then the new node or signal of a connected pin. -/
theorem Dev.tstPin_eq (d : Dev) (atest : Bool) (n : Nat) (v : Word) :
    d.tstPin atest n v = { d with out := d.out ++ .pin (if atest then "ATEST_OPEN" else "DTEST_LOW") n 0 ::
      (if bitOf v.toNat 31 then [.pin (if atest then "ATEST_NODE" else "DTEST_SIGNAL") n (bitsOf v.toNat 9 0)] else []) } := by
  by_cases h : bitOf v.toNat 31 = true
  · simp [Dev.tstPin, Dev.emit, h]
  · simp [Dev.tstPin, Dev.emit, h]

/-! ## The four outcomes of a write -/

/-- R502: a direct selection, in a block of the groups, of a channel that serves a tap. -/
theorem Dev.tstRefused_iff (d : Dev) (v : Word) : d.tstRefused v = true ↔ bitOf v.toNat 30 = false ∧
    1 ≤ bitsOf v.toNat 9 0 / 64 ∧ bitsOf v.toNat 9 0 / 64 ≤ 8 ∧
    (d.ch (bitsOf v.toNat 9 0 / 64 - 1) (bitsOf v.toNat 9 0 % 64 / 4)).tapOf ≠ none := by
  rw [show bitsOf v.toNat 9 0 = wordF (F.TST_ATEST_SEL.SEL 0) v from rfl]
  simp [Dev.tstRefused, Option.isSome_iff_ne_none, and_assoc]

theorem Dev.tstWrite_of_inactive {d : Dev} (h : d.tstActive = false) (rq : Req) (atest : Bool) (n : Nat) (v : Word) :
    d.tstWrite rq atest n v = d.accessErr rq false .locked (tstSel atest n) := by
  simp [Dev.tstWrite, tstSel, h]

theorem Dev.tstWrite_of_unlisted {d : Dev} {atest : Bool} {v : Word} (h : d.tstActive = true)
    (hl : tstListed atest (bitsOf v.toNat 9 0) = false) (rq : Req) (n : Nat) :
    d.tstWrite rq atest n v = d.accessErr rq false .value (tstSel atest n) := by
  simp [Dev.tstWrite, tstSel, h, hl]

theorem Dev.tstWrite_of_refused {d : Dev} {v : Word} (h : d.tstActive = true) (hl : tstListed true (bitsOf v.toNat 9 0) = true)
    (hr : d.tstRefused v = true) (rq : Req) (n : Nat) :
    d.tstWrite rq true n v = (d.flag F.TST_STATUS.SEL_REFUSED).discarded rq := by
  simp [Dev.tstWrite, h, hl, hr]

theorem Dev.tstWrite_of_accepted {d : Dev} {atest : Bool} {v : Word} (h : d.tstActive = true)
    (hl : tstListed atest (bitsOf v.toNat 9 0) = true) (hr : ¬ (atest = true ∧ d.tstRefused v = true)) (rq : Req) (n : Nat) :
    d.tstWrite rq atest n v = (d.plainWrite (tstSel atest n) v).tstPin atest n v := by
  simp [Dev.tstWrite, tstSel, h, hl, hr]

/-- What a refusal leaves: SEL_REFUSED, its interrupt, a Haul channel's bus error. -/
theorem Dev.flag_discarded_selRefused (d : Dev) (rq : Req) : ∃ b, (d.flag F.TST_STATUS.SEL_REFUSED).discarded rq =
      { d.flag F.TST_STATUS.SEL_REFUSED with nak := b } ∧
    ({ d with nak := b } : Dev).Only { d.flag F.TST_STATUS.SEL_REFUSED with nak := b } [F.TST_STATUS.SEL_REFUSED, intBit 17] := by
  obtain ⟨b, hb⟩ := (d.flag F.TST_STATUS.SEL_REFUSED).discarded_eq_nak rq
  refine ⟨b, hb, Dev.Only.nak ?_ b⟩
  exact (Dev.Only.refl d _).flag _ (by simp [Fld.within]) (by rw [show intBitOf R.TST_STATUS = 17 from rfl]; simp [Fld.within, intBit])

/-! ## The command -/

/-- Where the device answers and the pin exists, the command is the write of its selector. -/
theorem State.does_tstSelect {s : State} {rq : Req} {atest : Bool} {n : Fin 8} {v : Word} {Q : Dev → Prop} (ha : s.dev.awake = true)
    (hn : atest = true → n.val ≤ 3) (q : Q (s.dev.tstWrite rq atest n v)) : s.Does (.tstSelect rq atest n v) Q := by
  have hc : (s.dev.awake && !(atest && decide (3 < n.val))) = true := by
    cases atest with
    | false => simp [ha]
    | true => simp [ha, hn rfl]
  refine State.does (f := fun d => if d.awake && !(atest && decide (3 < n.val)) then d.tstWrite rq atest n v else d) rfl ?_
  rwa [if_pos hc]

theorem State.ignores_tstSelect {s : State} {rq : Req} {atest : Bool} {n : Fin 8} {v : Word}
    (h : s.dev.awake = false ∨ (atest = true ∧ 3 < n.val)) : s.Ignores (.tstSelect rq atest n v) := by
  refine State.ignores (f := fun d => if d.awake && !(atest && decide (3 < n.val)) then d.tstWrite rq atest n v else d) rfl ?_
  rcases h with ha | ⟨rfl, hn⟩
  · simp [ha]
  · simp [hn]

/-- Settles O55, by the outcome of the write: not connected, not listed, refused for a tap, accepted. -/
theorem testPins : Obligations.TestPins := by
  intro s rq atest n v a sel tapped ha hsel htap
  change a = tstSel atest n at ha
  subst ha hsel htap
  obtain ⟨hgt, hlt⟩ := tstSel_between atest n
  have herr : tstSel atest n < 2 ^ 26 := lt_trans hlt (by decide)
  refine ⟨State.ignores_tstSelect, fun hw hn => ⟨fun hact hfree => ?_, fun hact hl hfree => ?_, fun hact hl ht hbuf => ?_,
    fun hact hl hok => ?_⟩⟩ <;> refine State.does_tstSelect hw hn ?_
  · rw [Dev.tstWrite_of_inactive hact]
    exact Dev.accessErr_discarded hfree _ herr
  · rw [Dev.tstWrite_of_unlisted hact hl]
    exact Dev.accessErr_discarded hfree _ herr
  · obtain ⟨rfl, hlo, hhi, htap⟩ := ht
    obtain ⟨b, hb, honly⟩ := s.dev.flag_discarded_selRefused rq
    rw [Dev.tstWrite_of_refused hact hl ((Dev.tstRefused_iff _ _).2 ⟨hbuf, hlo, hhi, htap⟩), hb]
    refine ⟨Dev.f_flag_same s.dev _ 31 (by decide) (by decide), honly.reg _ ?_, honly⟩
    exact List.forall_mem_cons.2 ⟨hlt.ne', List.forall_mem_singleton.2 hgt.ne⟩
  · have hr : ¬ (atest = true ∧ s.dev.tstRefused v = true) := by
      rw [Dev.tstRefused_iff]
      rintro ⟨hat, hbuf, hgrp⟩
      rcases hok with hnt | hbuf1
      · exact hnt ⟨hat, hgrp⟩
      · simp [hbuf] at hbuf1
    obtain ⟨hen, hselv, hbufv⟩ := s.dev.reg_plainWrite_tstSel atest n v hn
    have honly := s.dev.plainWrite_only (tstSel atest n) v
    rw [Dev.tstWrite_of_accepted hact hl hr, Dev.tstPin_eq]
    exact ⟨hen, hselv, hbufv, honly.trans ⟨rfl, fun _ _ _ => rfl⟩, Dev.plainWrite_pba _ _ _, by rw [Dev.plainWrite_out]⟩

end Sys2Proof.Machine
end

section
/-! SUPPORT. The machine as a whole: the clock, the queue, the memories' canonical form, what the flash and the OTP are written by, and
the state after reset. -/

namespace Sys2Proof.Machine

/-! ## One clock -/

theorem unsigned_cast (n : Nat) (x : Int) : (unsigned n x : Int) = x % 2 ^ n :=
  Int.toNat_of_nonneg (Int.emod_nonneg x (by positivity))

/-- In DORMANT and while a reset is held only the clocks are counted. -/
theorem Dev.tick_of_stopped {d : Dev} (h : d.mode = .dormant ∨ d.inReset = true) : d.tick = { d with clock := d.clock + 1 } :=
  if_pos (c := ({ d with clock := d.clock + 1 } : Dev).mode = .dormant ∨ ({ d with clock := d.clock + 1 } : Dev).inReset = true) h

/-- Otherwise every base advances by one clock (R415, R425). -/
theorem Dev.tick_of_running {d : Dev} (h : ¬ (d.mode = .dormant ∨ d.inReset = true)) : d.tick = { d with
    clock := d.clock + 1
    time := { d.time with
      loc := d.time.loc.advance d.time.trim
      net := d.time.net.advance d.netRate
      host := d.time.host.advance d.time.host.rate
      axSub := d.time.axSub + 1
      crnSub := d.time.crnSub + 1 } } :=
  if_neg (c := ({ d with clock := d.clock + 1 } : Dev).mode = .dormant ∨ ({ d with clock := d.clock + 1 } : Dev).inReset = true) h

/-- What a clock adds to a base, modulo 2^112 (R415). -/
theorem Base.advance_count (b : Base) (rate : Int) : ((b.advance rate).count : Int) =
    ((b.count : Int) + 3022314549036573 + Int.fdiv (3022314549036573 * rate) (2 ^ 48)) % 2 ^ 112 := by
  rw [Int.add_assoc]
  exact unsigned_cast _ _

/-- Settles O1: the queue's cases of `step`, then those of `tick`. -/
theorem stepTakesFront : Obligations.StepTakesFront := by
  refine ⟨fun _ _ _ => rfl, fun d => ⟨d.tick, rfl, ?_⟩⟩
  by_cases h : d.mode = .dormant ∨ d.inReset = true
  · rw [if_pos h, Dev.tick_of_stopped h]
    exact ⟨rfl, rfl⟩
  · rw [if_neg h, Dev.tick_of_running h]
    exact ⟨rfl, Base.advance_count _ _, rfl, rfl⟩

/-! ## What every step keeps -/

/-- A step is a command's meaning or a clock, and both keep what every write keeps. -/
theorem step_keeps {P : Dev → Prop} (c : KeepsAll P) {s t : State} (h : step s = .next t) (hp : P s.dev) : P t.dev := by
  obtain ⟨d, _ | ⟨i, rest⟩⟩ := s
  · cases h
    exact Dev.tick_keeps c.toKeeps d hp
  · exact exec_keeps (s := ⟨d, rest⟩) c.toKeeps (fun _ => c.toKeepsFlash) (fun _ => c.toKeepsOtp) h hp

theorem keepsAll_true : KeepsAll (fun _ => True) :=
  ⟨⟨⟨fun _ _ _ _ => trivial, fun _ _ _ _ => trivial, fun _ _ _ _ _ _ _ => trivial⟩, fun _ _ _ _ => trivial⟩, fun _ _ _ => trivial⟩

/-- Every command has a next state. -/
theorem exec_next (i : Instr) (s : State) : ∃ t, exec i s = .next t := by
  obtain ⟨f, hf, -⟩ := exec_lifts i s keepsAll_true.toKeeps (fun _ => keepsAll_true.toKeepsFlash) (fun _ => keepsAll_true.toKeepsOtp)
  exact ⟨_, hf⟩

/-- Settles O2, by the cases of the queue. -/
theorem stepAlwaysNext : Obligations.StepAlwaysNext := by
  rintro ⟨d, _ | ⟨i, rest⟩⟩
  · exact ⟨_, rfl, rfl⟩
  · obtain ⟨t, ht⟩ := exec_next i ⟨d, rest⟩
    exact ⟨t, ht, exec_pending ht⟩

theorem Dev.canon_iff (d : Dev) : d.canon = true ↔
    spWf regReset d.regs = true ∧ spWf ramDflt d.ram = true ∧ spWf flashDflt d.flash = true := by
  simp [Dev.canon, and_assoc]

/-- Every write keeps the canonical form. -/
theorem keepsAll_canon : KeepsAll (fun d => d.canon = true) where
  regs d m hm h := by
    rw [Dev.canon_iff] at h ⊢
    exact ⟨hm h.1, h.2⟩
  ram d m hm h := by
    rw [Dev.canon_iff] at h ⊢
    exact ⟨h.1, hm h.2.1, h.2.2⟩
  rest d e hr hm hf _ h := by
    rw [Dev.canon_iff] at h ⊢
    rwa [hr, hm, hf]
  flash d m hm h := by
    rw [Dev.canon_iff] at h ⊢
    exact ⟨h.1, h.2.1, hm h.2.2⟩
  otp d o h := h

/-- Settles O3: the canonical form is a property that every write keeps. -/
theorem canonKept : Obligations.CanonKept := fun _ _ hs h => step_keeps keepsAll_canon h hs

/-- Every write but one of the flash keeps the flash. -/
theorem keepsOtp_flash (m : List (Nat × Byte)) : KeepsOtp (fun d => d.flash = m) where
  regs _ _ _ h := h
  ram _ _ _ h := h
  rest _ _ _ _ hf _ h := hf.trans h
  otp _ _ h := h

/-- Settles O4: the flash as a whole is kept by a command that does not write it. -/
theorem flashWriters : Obligations.FlashWriters := by
  intro s t i hi h a
  have hf : t.dev.flash = s.dev.flash :=
    exec_keeps (keepsOtp_flash s.dev.flash).toKeeps (by simp [hi]) (fun _ => keepsOtp_flash _) h rfl
  rw [Dev.flashByte, Dev.flashByte, hf]

/-- Every write but one of the OTP keeps the OTP. -/
theorem keepsFlash_otp (o : Otp) : KeepsFlash (fun d => d.sec.otp = o) where
  regs _ _ _ h := h
  ram _ _ _ h := h
  rest _ _ _ _ _ ho h := ho.trans h
  flash _ _ _ h := h

/-- Settles O5: the OTP is kept by a command that does not write it. -/
theorem otpWriters : Obligations.OtpWriters := fun s _ i hi h =>
  exec_keeps (keepsFlash_otp s.dev.sec.otp).toKeeps (fun _ => keepsFlash_otp _) (by simp [hi]) h rfl

/-! ## The state after reset -/

/-- No register is listed right after reset, so each reads its reset value. -/
theorem reset_reg (a : Nat) : State.reset.dev.reg a = regReset a := rfl

/-- No ring is enabled at reset. -/
theorem reset_rings_disabled : ∀ n < 64, bitsOf (regReset (R.HST_SQ_CFG n)).toNat 31 31 = 0 ∧
    bitsOf (regReset (R.HST_CQ_CFG n)).toNat 31 31 = 0 := by
  decide +kernel

/-- Settles O59: the registers by their table, the rest by the definition of the reset state. -/
theorem resetState : Obligations.ResetState := by
  refine ⟨rfl, rfl, rfl, reset_reg, ?_, ?_, ?_, ?_, ?_, ?_, ?_, reset_rings_disabled, fun _ _ => rfl, ?_, rfl, rfl⟩ <;> decide +kernel

/-- Settles O60: nothing is listed and nothing waits. -/
theorem resetCanon : Obligations.ResetCanon := ⟨rfl, rfl⟩

end Sys2Proof.Machine
end

section
/-! SUPPORT. Register writes by address, and the interrupts: the messages of the vectors (R279, R300) and the interrupt registers (R542). -/

namespace Sys2Proof.Machine

/-! ## A write of BAR0, by what stands at the address -/

theorem Dev.answers_of_awake {d : Dev} (h : d.awake = true) : d.answers = true := by
  simp only [Dev.awake, Dev.alive, Bool.and_eq_true] at h
  simp [Dev.answers, h.1.2, h.2]

theorem Dev.alive_of_awake {d : Dev} (h : d.awake = true) : d.alive = true := by
  simp only [Dev.awake, Bool.and_eq_true] at h
  exact h.1

theorem Dev.rst_of_awake {d : Dev} (h : d.awake = true) : d.rst = none := by
  simp only [Dev.awake, Bool.and_eq_true, Option.isNone_iff_eq_none] at h
  exact h.2

theorem Dev.alive_iff (d : Dev) : d.alive = true ↔ d.mode ≠ .boot ∧ d.mode ≠ .dormant := by
  simp [Dev.alive]

theorem Dev.awake_iff (d : Dev) : d.awake = true ↔ d.mode ≠ .boot ∧ d.mode ≠ .dormant ∧ d.rst = none := by
  simp [Dev.awake, Dev.alive_iff, and_assoc]

/-- An awake device takes a full write of a register as the write of its family. -/
theorem Dev.writeWord_of_famOf {d : Dev} {rq : Req} {a : Nat} {f : RegFam} (hw : d.awake = true) (ha : a % 4 = 0) (hf : famOf a = some f)
    (v : Word) : d.writeWord rq a v 15 = d.writeReg rq f a v := by
  have hb : d.mode ≠ .boot := ((Dev.awake_iff d).1 hw).1
  simp [Dev.writeWord, Dev.answers_of_awake hw, hb, Nat.div_mul_cancel (Nat.dvd_of_mod_eq_zero ha), hf]

/-- A device that is not awake ignores writes outside the PWR_ registers (R451). -/
theorem Dev.writeWord_of_not_awake {d : Dev} {a : Nat} (hw : d.awake = false) (ha : a % 4 = 0) (hwin : ¬ (0x10000 ≤ a ∧ a < 0x11000))
    (rq : Req) (v : Word) (be : Nat) : d.writeWord rq a v be = d := by
  have h : ¬ (d.mode ≠ .boot ∧ d.mode ≠ .dormant ∧ d.rst = none) := by rw [← Dev.awake_iff, hw]; decide
  have hin : inWindow a 0x10000 0x1000 = false := by
    simp only [inWindow, Bool.and_eq_false_iff, decide_eq_false_iff_not]
    omega
  unfold Dev.writeWord
  rw [Nat.div_mul_cancel (Nat.dvd_of_mod_eq_zero ha)]
  refine if_pos ?_
  rw [hin]
  by_cases hb : d.mode = .boot
  · simp [hb]
  · by_cases hd : d.mode = .dormant
    · simp [Dev.answers, hd]
    · obtain ⟨k, hk⟩ := Option.ne_none_iff_exists'.1 (fun hr => h ⟨hb, hd, hr⟩)
      simp [Dev.answers, hk]

/-! ## Messages of a vector -/

theorem Dev.canIssue_link {d e : Dev} (hl : e.link = d.link) (hm : e.mode = d.mode) : e.canIssue = d.canIssue := by
  rw [Dev.canIssue, Dev.canIssue, hl, hm]

theorem Dev.msixMasked_tab {d e : Dev} (h : e.msixTab = d.msixTab) (v : Nat) : e.msixMasked v = d.msixMasked v := by
  rw [Dev.msixMasked, Dev.msixMasked, Dev.msixWord, Dev.msixWord, h]

/-- The message of vector `v` (R300). -/
def Dev.msixOut (d : Dev) (v : Nat) : Out :=
  .msix v (d.msixWord (4 * v) + d.msixWord (4 * v + 1) * 2 ^ 32) (d.msixWord (4 * v + 2))

theorem Dev.sendMsi_of_sent {d : Dev} {v : Nat} (hc : d.canIssue = true) (hm : d.msixMasked v = false) :
    d.sendMsi v = { d with out := d.out ++ [d.msixOut v] } := by
  simp [Dev.sendMsi, hc, hm, Dev.emit, Dev.msixOut]

theorem Dev.sendMsi_of_held {d : Dev} {v : Nat} (h : d.canIssue = false ∨ d.msixMasked v = true) :
    (d.sendMsi v).out = d.out ∧ v ∈ (d.sendMsi v).pba := by
  have hc : (d.msixMasked v || !d.canIssue) = true := by
    rcases h with h | h <;> simp [h]
  unfold Dev.sendMsi
  rw [if_pos hc]
  refine ⟨rfl, ?_⟩
  by_cases hv : d.pba.contains v = true
  · rw [if_pos hv]
    simpa using hv
  · rw [if_neg hv]
    exact List.mem_cons_self

theorem Dev.pbaSend_of_sent {d : Dev} {v : Nat} (hv : v ∈ d.pba) (hc : d.canIssue = true) (hm : d.msixMasked v = false) :
    d.pbaSend v = { d with pba := d.pba.filter (· ≠ v), out := d.out ++ [d.msixOut v] } := by
  unfold Dev.pbaSend
  rw [if_pos (by simp [hv, hc, hm])]
  exact Dev.sendMsi_of_sent (d := { d with pba := d.pba.filter (· ≠ v) }) hc hm

/-- A pending bit goes with its message, or nothing happens. -/
theorem Dev.pbaSend_cases (d : Dev) (v : Nat) : d.pbaSend v = d ∨
    (d.canIssue = true ∧ d.pbaSend v = { d with pba := d.pba.filter (· ≠ v), out := d.out ++ [d.msixOut v] }) := by
  by_cases h : (d.pba.contains v && !d.msixMasked v && d.canIssue) = true
  · simp only [Bool.and_eq_true, List.contains_eq_mem, decide_eq_true_eq, Bool.not_eq_true'] at h
    obtain ⟨⟨hv, hm⟩, hc⟩ := h
    exact Or.inr ⟨hc, Dev.pbaSend_of_sent hv hc hm⟩
  · exact Or.inl (if_neg h)

/-- Only messages go out, and only pending bits clear, while the vectors of a list are tried. -/
theorem Dev.pbaSends_frame (l : List Nat) (d : Dev) : l.foldl (fun d v => d.pbaSend v) d =
    { d with pba := (l.foldl (fun d v => d.pbaSend v) d).pba, out := (l.foldl (fun d v => d.pbaSend v) d).out } ∧
    (l.foldl (fun d v => d.pbaSend v) d).pba ⊆ d.pba := by
  induction l generalizing d with
  | nil => exact ⟨rfl, List.Subset.refl _⟩
  | cons v t ih =>
    obtain ⟨he, hp⟩ := ih (d.pbaSend v)
    rw [List.foldl_cons]
    rcases d.pbaSend_cases v with h | ⟨-, h⟩
    · rw [h] at he hp ⊢
      exact ⟨he, hp⟩
    · constructor
      · conv_lhs => rw [he]
        rw [h]
      · refine List.Subset.trans hp ?_
        rw [h]
        exact List.filter_subset_self _

/-- A vector that may send is pending no longer once it was tried. -/
theorem Dev.not_mem_pba_of_pbaSends {l : List Nat} {d : Dev} {v : Nat} (hv : v ∈ l) (hc : d.canIssue = true)
    (hm : d.msixMasked v = false) : v ∉ (l.foldl (fun d v => d.pbaSend v) d).pba := by
  induction l generalizing d with
  | nil => cases hv
  | cons w t ih =>
    rw [List.foldl_cons]
    have hcw : (d.pbaSend w).canIssue = true ∧ (d.pbaSend w).msixMasked v = false := by
      rcases d.pbaSend_cases w with h | ⟨-, h⟩ <;> rw [h] <;> exact ⟨hc, hm⟩
    by_cases hw : v = w
    · subst hw
      refine fun hmem => absurd ((Dev.pbaSends_frame t (d.pbaSend v)).2 hmem) ?_
      by_cases hp : v ∈ d.pba
      · rw [Dev.pbaSend_of_sent hp hc hm]
        simp
      · rcases d.pbaSend_cases v with h | ⟨-, h⟩
        · rwa [h]
        · rw [h]
          simp
    · exact ih (List.mem_of_ne_of_mem hw hv) hcw.1 hcw.2

/-- The table with vector `v` unmasked. -/
def Dev.unmasked (d : Dev) (v : Nat) : Dev :=
  { d with msixTab := spSet msixDflt d.msixTab (4 * v + 3) (BitVec.ofNat 32 (d.msixWord (4 * v + 3)) &&& 0xFFFFFFFE#32) }

theorem Dev.msixMasked_unmasked (d : Dev) (v : Nat) : (d.unmasked v).msixMasked v = false := by
  rw [Dev.msixMasked, Dev.msixWord]
  simp only [Dev.unmasked, spGet_spSet_self, bitOf_testBit, BitVec.testBit_toNat, BitVec.getLsbD_and]
  rw [show (0xFFFFFFFE#32).getLsbD 0 = false from rfl, Bool.and_false]

theorem Dev.msixWord_unmasked_ne (d : Dev) {v i : Nat} (h : i ≠ 4 * v + 3) : (d.unmasked v).msixWord i = d.msixWord i := by
  rw [Dev.msixWord, Dev.msixWord, Dev.unmasked, spGet_spSet_ne _ _ h]

theorem Dev.msixUnmask_eq (d : Dev) (v : Nat) : d.msixUnmask v = (d.unmasked v).pbaSend v := by
  rw [Dev.msixUnmask, Dev.msixWrite, show (4 * v + 3) / 4 = v by omega]
  rfl

/-! ## The interrupt registers (R542) -/

theorem famOf_intStatus : famOf R.TOP_INT_STATUS = some ⟨"TOP_INT_STATUS", 0x110, [], .func, 0x0, (List.range 18).reverse.map (fun b => (b, b, .w1c))⟩ := by
  decide

theorem famOf_intEnable : famOf R.TOP_INT_ENABLE = some ⟨"TOP_INT_ENABLE", 0x114, [], .func, 0x0, (List.range 18).reverse.map (fun b => (b, b, .rw))⟩ := by
  decide

/-- The write of TOP_INT_ENABLE or TOP_INT_STATUS on a device that is awake. -/
theorem Dev.writeWord_int {d : Dev} (h : d.awake = true) (rq : Req) (enable : Bool) (v : Word) :
    d.writeWord rq (if enable then R.TOP_INT_ENABLE else R.TOP_INT_STATUS) v 15 = if enable then d.intEnableWrite v else d.intStatusWrite v := by
  cases enable with
  | true =>
    rw [if_pos rfl, if_pos rfl, Dev.writeWord_of_famOf h (by decide) famOf_intEnable]
    rfl
  | false =>
    rw [if_neg (by decide), if_neg (by decide), Dev.writeWord_of_famOf h (by decide) famOf_intStatus]
    rfl

theorem Dev.writeWord_int_of_not_awake {d : Dev} (h : d.awake = false) (rq : Req) (enable : Bool) (v : Word) :
    d.writeWord rq (if enable then R.TOP_INT_ENABLE else R.TOP_INT_STATUS) v 15 = d := by
  cases enable <;> exact Dev.writeWord_of_not_awake h (by decide) (by decide) _ _ _

/-- A W1C bit of a family without W1S fields clears where 1 is written. -/
theorem RegFam.testBit_store_w1c {f : RegFam} (hs : f.bits .w1s = 0) (hr : f.bits .rw = 0) (old v : Word) {i : Nat}
    (hi : (f.bits .w1c).toNat.testBit i = true) : (f.store old v).toNat.testBit i = (old.toNat.testBit i && !v.toNat.testBit i) := by
  have hlt : i < 32 := (f.bits .w1c).lt_of_getLsbD hi
  simp only [BitVec.testBit_toNat] at hi ⊢
  simp only [RegFam.store, hr, hs, BitVec.getLsbD_or, BitVec.getLsbD_and, BitVec.getLsbD_not, hi]
  simp [hlt]

/-- The bits of the two registers are read-write, and write-1-to-clear. -/
theorem int_bits : ∀ b < 18, bitOf (RegFam.bits ⟨"TOP_INT_ENABLE", 0x114, [], .func, 0x0, (List.range 18).reverse.map (fun b => (b, b, .rw))⟩ .rw).toNat b = true ∧
    bitOf (RegFam.bits ⟨"TOP_INT_STATUS", 0x110, [], .func, 0x0, (List.range 18).reverse.map (fun b => (b, b, .w1c))⟩ .w1c).toNat b = true := by
  decide

theorem Dev.intEnable_written (d : Dev) (v : Word) {b : Nat} (hb : b < 18) :
    bitOf ((d.plainWrite R.TOP_INT_ENABLE v).reg R.TOP_INT_ENABLE).toNat b = bitOf v.toNat b := by
  rw [Dev.plainWrite_of_famOf famOf_intEnable, Dev.reg_setReg_self, bitOf_testBit, bitOf_testBit]
  exact RegFam.testBit_store_rw (by decide) (by decide) _ v ((bitOf_testBit _ _).symm.trans (int_bits b hb).1)

theorem Dev.intStatus_written (d : Dev) (v : Word) {b : Nat} (hb : b < 18) :
    bitOf ((d.plainWrite R.TOP_INT_STATUS v).reg R.TOP_INT_STATUS).toNat b = (bitOf (d.reg R.TOP_INT_STATUS).toNat b && !bitOf v.toNat b) := by
  rw [Dev.plainWrite_of_famOf famOf_intStatus, Dev.reg_setReg_self, bitOf_testBit, bitOf_testBit, bitOf_testBit]
  exact RegFam.testBit_store_w1c (by decide) (by decide) _ v ((bitOf_testBit _ _).symm.trans (int_bits b hb).2)

/-- What an interrupt register's write leaves, given whether a message follows. -/
theorem Dev.intWrite_eq (d : Dev) (enable : Bool) (v : Word) :
    (if enable then d.intEnableWrite v else d.intStatusWrite v) =
      if (enable = false ∨ d.intPending = false) ∧ (d.plainWrite (if enable then R.TOP_INT_ENABLE else R.TOP_INT_STATUS) v).intPending = true then
        (d.plainWrite (if enable then R.TOP_INT_ENABLE else R.TOP_INT_STATUS) v).errVec
      else d.plainWrite (if enable then R.TOP_INT_ENABLE else R.TOP_INT_STATUS) v := by
  cases enable <;> simp [Dev.intEnableWrite, Dev.intStatusWrite]

theorem Dev.intPending_iff (d : Dev) : d.intPending = true ↔ d.reg R.TOP_INT_STATUS &&& d.reg R.TOP_INT_ENABLE ≠ 0 := by
  simp only [Dev.intPending, decide_eq_true_eq]

theorem Dev.intPending_false_iff (d : Dev) : d.intPending = false ↔ d.reg R.TOP_INT_STATUS &&& d.reg R.TOP_INT_ENABLE = 0 := by
  rw [← Bool.not_eq_true, Dev.intPending_iff, not_not]

/-- A message of ERR_VEC touches no register. -/
theorem Dev.reg_errVec (d : Dev) (a : Nat) : d.errVec.reg a = d.reg a := Dev.reg_sendMsi _ _ _

theorem Dev.plainWrite_eq_regs (d : Dev) (a : Nat) (v : Word) : d.plainWrite a v = { d with regs := (d.plainWrite a v).regs } := by
  unfold Dev.plainWrite
  split <;> rfl

theorem Dev.reg_plainWrite_ne (d : Dev) {a b : Nat} (v : Word) (h : b ≠ a) : (d.plainWrite a v).reg b = d.reg b := by
  unfold Dev.plainWrite
  split
  · exact d.reg_setReg_ne _ h
  · rfl

/-- The frame and the message of an interrupt register's write (R542). -/
theorem Dev.intWrite_message (d : Dev) (enable : Bool) (v : Word) : ∀ e, e = (if enable then d.intEnableWrite v else d.intStatusWrite v) →
    d.Only e [whole (if enable then R.TOP_INT_ENABLE else R.TOP_INT_STATUS)] ∧
    (∀ a, e.reg a = (d.plainWrite (if enable then R.TOP_INT_ENABLE else R.TOP_INT_STATUS) v).reg a) ∧
    ∀ x after, x = d.f F.HST_CFG.ERR_VEC → after = e.reg R.TOP_INT_STATUS &&& e.reg R.TOP_INT_ENABLE →
      (after = 0 ∨ (enable = true ∧ d.reg R.TOP_INT_STATUS &&& d.reg R.TOP_INT_ENABLE ≠ 0) → e.out = d.out ∧ e.pba = d.pba) ∧
      (after ≠ 0 → enable = false ∨ d.reg R.TOP_INT_STATUS &&& d.reg R.TOP_INT_ENABLE = 0 →
        (d.canIssue = true → d.msixMasked x = false → e.pba = d.pba ∧ e.out = d.out ++ [d.msixOut x]) ∧
        (d.canIssue = false ∨ d.msixMasked x = true → e.out = d.out ∧ x ∈ e.pba)) := by
  intro e he
  rw [Dev.intWrite_eq] at he
  set a := if enable then R.TOP_INT_ENABLE else R.TOP_INT_STATUS with ha
  set m := d.plainWrite a v with hm
  have hregs : ∀ b, e.reg b = m.reg b := by
    intro b
    rw [he]
    split
    · exact m.reg_errVec b
    · rfl
  have heq : m = { d with regs := m.regs } := d.plainWrite_eq_regs a v
  have hvec : m.f F.HST_CFG.ERR_VEC = d.f F.HST_CFG.ERR_VEC := by
    rw [Dev.f, Dev.f, hm, Dev.reg_plainWrite_ne]
    cases enable <;> decide
  have hci : m.canIssue = d.canIssue := by rw [heq]; rfl
  have hmk : ∀ x, m.msixMasked x = d.msixMasked x := fun x => by rw [heq]; rfl
  have hms : ∀ x, m.msixOut x = d.msixOut x := fun x => by rw [heq]; rfl
  refine ⟨?_, hregs, fun x after hx hafter => ?_⟩
  · rw [he]
    exact Dev.Only.ite ((d.plainWrite_only a v).sendMsi _) (d.plainWrite_only a v)
  rw [hregs, hregs] at hafter
  subst hafter
  rw [← Dev.intPending_false_iff d, ← Dev.intPending_false_iff m, Ne, Ne, ← Dev.intPending_false_iff d, ← Dev.intPending_false_iff m,
    Bool.not_eq_false, Bool.not_eq_false]
  refine ⟨fun h => ?_, fun h1 h2 => ?_⟩
  · rw [if_neg] at he
    · rw [he, hm]
      exact ⟨Dev.plainWrite_out _ _ _, Dev.plainWrite_pba _ _ _⟩
    · rintro ⟨hp, hq⟩
      rcases h with h | ⟨h, h'⟩
      · simp [h] at hq
      · simp [h, h'] at hp
  · rw [if_pos ⟨h2, h1⟩, Dev.errVec, hvec, ← hx] at he
    refine ⟨fun hc hk => ?_, fun hk => ?_⟩
    · rw [he, Dev.sendMsi_of_sent (hci.trans hc) ((hmk x).trans hk), hms]
      exact ⟨Dev.plainWrite_pba _ _ _, congrArg (· ++ [d.msixOut x]) (Dev.plainWrite_out _ _ _)⟩
    · have hs := Dev.sendMsi_of_held (d := m) (v := x) (by rwa [hci, hmk])
      rw [he]
      exact ⟨hs.1.trans (Dev.plainWrite_out _ _ _), hs.2⟩

/-! ## The statement -/

/-- Settles O12: MOD_TIME, unmasking and Bus Master Enable one by one, then the writes of the two interrupt registers. -/
theorem interruptMessages : Obligations.InterruptMessages := by
  refine ⟨fun s => ⟨fun q hmod hun hmask hci => ?_, fun v hv hci => ?_, ?_, ?_⟩, fun s rq enable v => ⟨fun hw => ?_, fun hw => ?_⟩⟩
  · refine State.does (f := (·.modTime q)) rfl ?_
    set d := s.dev.setCq q { s.dev.cq q with unsig := 0 } with hd
    have h : s.dev.modTime q = { d with out := d.out ++ [d.msixOut (s.dev.f (F.HST_CQ_CFG.VECTOR q))] } := by
      rw [Dev.modTime, if_neg (by omega), Dev.cqSignal]
      exact Dev.sendMsi_of_sent (d := d) hci hmask
    rw [h]
    refine ⟨rfl, ?_, fun m hm => ?_, rfl⟩
    · exact (s.dev.cq_setCq q q _).trans (if_pos rfl)
    · exact (s.dev.cq_setCq q m _).trans (if_neg hm)
  · refine State.does (f := (·.msixUnmask v)) rfl ?_
    have hm := s.dev.msixMasked_unmasked v.val
    have hword := fun i (hi : i ≠ 4 * v.val + 3) => s.dev.msixWord_unmasked_ne hi
    rw [Dev.msixUnmask_eq, Dev.pbaSend_of_sent (d := s.dev.unmasked v) hv hci hm]
    refine ⟨rfl, hm, hword, rfl, ?_⟩
    rw [Dev.msixOut, hword _ (by omega), hword _ (by omega), hword _ (by omega)]
    rfl
  · refine State.does (f := (·.setBusMaster false)) rfl ?_
    have hc : ({ s.dev with link := { s.dev.link with busMaster := false } } : Dev).canIssue = false := by simp [Dev.canIssue]
    have h : s.dev.setBusMaster false = { s.dev with link := { s.dev.link with busMaster := false } } := by
      refine foldl_keeps (P := fun e => e = { s.dev with link := { s.dev.link with busMaster := false } }) (fun e v he => ?_) rfl
      rcases e.pbaSend_cases v with h | ⟨h, -⟩
      · rw [h, he]
      · rw [he, hc] at h
        cases h
    rw [h]
    exact ⟨rfl, hc, fun q => by simp [Dev.cqTakes, hc], fun n => by simp [Dev.sqFetches, hc]⟩
  · refine State.does (f := (·.setBusMaster true)) rfl ?_
    obtain ⟨he, -⟩ := Dev.pbaSends_frame s.dev.pba { s.dev with link := { s.dev.link with busMaster := true } }
    refine ⟨he, fun v hv hc hm => Dev.not_mem_pba_of_pbaSends hv ?_ hm⟩
    exact (Dev.canIssue_link (congrArg Dev.link he) (congrArg Dev.mode he)).symm.trans hc
  · exact State.ignores (f := (·.writeWord rq (if enable then R.TOP_INT_ENABLE else R.TOP_INT_STATUS) v 15)) rfl
      (Dev.writeWord_int_of_not_awake hw rq enable v)
  · refine State.does (f := (·.writeWord rq (if enable then R.TOP_INT_ENABLE else R.TOP_INT_STATUS) v 15)) rfl ?_
    obtain ⟨honly, hregs, hmsg⟩ := s.dev.intWrite_message enable v _ (Dev.writeWord_int hw rq enable v)
    refine ⟨honly, fun b hb he => ?_, fun b hb he => ?_, hmsg⟩
    · subst he
      rw [hregs]
      exact s.dev.intEnable_written v hb
    · subst he
      rw [hregs]
      exact s.dev.intStatus_written v hb

end Sys2Proof.Machine
end

section
/-! SUPPORT. Who changes the mode (R445): a property that looks at the mode alone is kept by every operation that neither completes a request, nor
boots, nor resets, nor wakes (one lemma per operation, in the order of calls, as in Laws/Keeps). -/

namespace Sys2Proof.Machine

/-- `P` looks at the mode alone. -/
def KeepsMode (P : Dev → Prop) : Prop := ∀ d e : Dev, e.mode = d.mode → P d → P e

variable {P : Dev → Prop}

theorem KeepsMode.mk' (c : KeepsMode P) {d : Dev} {x0 x1 x2 x3 x4 x5 x6 x7 x8 x9 x10 x11 x12 x13 x14 x15 x16 x17 x18 x19 x20 x21 x22 x23 x24 x25 x26
    x27 x28 x29 x30 x31 x32 x33 x34 x35 x36 x37 x38 x39 x40 x41 x42 x43 x44 x45 x46 x47 x48 x49 x50 x51 x52}
    (h : P d) (hm : d.mode = x10) :
    P (Dev.mk x0 x1 x2 x3 x4 x5 x6 x7 x8 x9 x10 x11 x12 x13 x14 x15 x16 x17 x18 x19 x20 x21 x22 x23 x24 x25 x26
      x27 x28 x29 x30 x31 x32 x33 x34 x35 x36 x37 x38 x39 x40 x41 x42 x43 x44 x45 x46 x47 x48 x49 x50 x51 x52) :=
  c d _ hm.symm h

theorem Dev.setReg_keepsMode (c : KeepsMode P) (d : Dev) (a : Nat) (w : Word) (h : P d) : P (d.setReg a w) := c d _ rfl h
theorem Dev.setByte_keepsMode (c : KeepsMode P) (d : Dev) (a : Nat) (b : Byte) (h : P d) : P (d.setByte a b) := c d _ rfl h
theorem Dev.setBytes_keepsMode (c : KeepsMode P) (d : Dev) (a : Nat) (l : List Byte) (h : P d) : P (d.setBytes a l) := by
  induction l generalizing d a with
  | nil => exact h
  | cons b t ih => exact ih _ _ (d.setByte_keepsMode c a b h)
theorem Dev.clearRange_keepsMode (c : KeepsMode P) (d : Dev) (a n : Nat) (h : P d) : P (d.clearRange a n) := c d _ rfl h
theorem Dev.setFlash_keepsMode (c : KeepsMode P) (d : Dev) (a : Nat) (l : List Byte) (h : P d) : P (d.setFlash a l) := by
  induction l generalizing d a with
  | nil => exact h
  | cons b t ih => exact ih _ _ (c d _ rfl h)
theorem Dev.flashErase_keepsMode (c : KeepsMode P) (d : Dev) (a n : Nat) (h : P d) : P (d.flashErase a n) := c d _ rfl h
theorem Dev.takeExpect_keepsMode (c : KeepsMode P) {d d' : Dev} {m t : Nat} {e : Expect} (h : d.takeExpect m t = some (e, d')) (hd : P d) : P d' := by
  unfold Dev.takeExpect at h
  split at h
  · cases h
    exact c d _ rfl hd
  · cases h
theorem Dev.setF_keepsMode (c : KeepsMode P) (d x0 x1) (h : P d) : P (Dev.setF d x0 x1) := by
  unfold Dev.setF
  try dsimp only
  with_reducible repeat' first | assumption | apply Dev.setReg_keepsMode c
theorem Dev.emit_keepsMode (c : KeepsMode P) (d x0) (h : P d) : P (Dev.emit d x0) := by
  unfold Dev.emit
  try dsimp only
  with_reducible repeat' first | assumption | fail_if_no_progress refine KeepsMode.mk' c ?_ rfl
theorem Dev.sendMsi_keepsMode (c : KeepsMode P) (d x0) (h : P d) : P (Dev.sendMsi d x0) := by
  unfold Dev.sendMsi
  try dsimp only
  with_reducible repeat' first
    | assumption | apply Dev.emit_keepsMode c | apply ite_keeps
    | fail_if_no_progress refine KeepsMode.mk' c ?_ rfl
theorem Dev.errVec_keepsMode (c : KeepsMode P) (d) (h : P d) : P (Dev.errVec d) := by
  unfold Dev.errVec
  try dsimp only
  with_reducible repeat' first | assumption | apply Dev.sendMsi_keepsMode c
theorem Dev.irq_keepsMode (c : KeepsMode P) (d x0) (h : P d) : P (Dev.irq d x0) := by
  unfold Dev.irq
  try dsimp only
  with_reducible repeat' first | assumption | apply Dev.errVec_keepsMode c | apply Dev.setF_keepsMode c | apply ite_keeps
theorem Dev.flag_keepsMode (c : KeepsMode P) (d x0) (h : P d) : P (Dev.flag d x0) := by
  unfold Dev.flag
  try dsimp only
  with_reducible repeat' first | assumption | apply Dev.setF_keepsMode c | apply Dev.irq_keepsMode c | apply ite_keeps
theorem Dev.flagIf_keepsMode (c : KeepsMode P) (d x0 x1) (h : P d) : P (Dev.flagIf d x0 x1) := by
  unfold Dev.flagIf
  try dsimp only
  with_reducible repeat' first | assumption | apply Dev.flag_keepsMode c | apply ite_keeps
theorem Dev.cqWaits_keepsMode (c : KeepsMode P) (d x0) (h : P d) : P (Dev.cqWaits d x0) := by
  unfold Dev.cqWaits
  try dsimp only
  with_reducible repeat' first | assumption | apply Dev.flagIf_keepsMode c
theorem Dev.setCq_keepsMode (c : KeepsMode P) (d x0 x1) (h : P d) : P (Dev.setCq d x0 x1) := by
  unfold Dev.setCq
  try dsimp only
  with_reducible repeat' first | assumption | fail_if_no_progress refine KeepsMode.mk' c ?_ rfl
theorem Dev.cqSignal_keepsMode (c : KeepsMode P) (d x0) (h : P d) : P (Dev.cqSignal d x0) := by
  unfold Dev.cqSignal
  try dsimp only
  with_reducible repeat' first | assumption | apply Dev.sendMsi_keepsMode c | apply Dev.setCq_keepsMode c
theorem Dev.cqWrite_keepsMode (c : KeepsMode P) (d x0 x1) (h : P d) : P (Dev.cqWrite d x0 x1) := by
  unfold Dev.cqWrite
  try dsimp only
  with_reducible repeat' first
    | assumption | apply Dev.setCq_keepsMode c | apply Dev.cqSignal_keepsMode c | apply Dev.setF_keepsMode c
    | apply Dev.emit_keepsMode c | apply ite_keeps
theorem Dev.post_keepsMode (c : KeepsMode P) (d x0 x1) (h : P d) : P (Dev.post d x0 x1) := by
  unfold Dev.post
  try dsimp only
  with_reducible repeat' first
    | assumption | apply Dev.cqWaits_keepsMode c | apply Dev.setCq_keepsMode c | apply Dev.cqWrite_keepsMode c
    | apply ite_keeps
theorem Dev.complete_keepsMode (c : KeepsMode P) (d x0 x1) (h : P d) : P (Dev.complete d x0 x1) := by
  unfold Dev.complete
  try dsimp only
  with_reducible repeat' first | assumption | apply Dev.post_keepsMode c
theorem Dev.dropRun_keepsMode (c : KeepsMode P) (d x0) (h : P d) : P (Dev.dropRun d x0) := by
  unfold Dev.dropRun
  try dsimp only
  with_reducible repeat' first | assumption | fail_if_no_progress refine KeepsMode.mk' c ?_ rfl
theorem Dev.finish_keepsMode (c : KeepsMode P) (d x0 x1) (h : P d) : P (Dev.finish d x0 x1) := by
  unfold Dev.finish
  try dsimp only
  with_reducible repeat' first
    | assumption | apply Dev.complete_keepsMode c | apply Dev.dropRun_keepsMode c | refine snd_keeps (by assumption) ?_
    | refine fst_keeps (by assumption) ?_ | split
theorem Dev.abortStops_keepsMode (c : KeepsMode P) (d x0) (h : P d) : P (Dev.abortStops d x0) := by
  unfold Dev.abortStops
  try dsimp only
  with_reducible repeat' first
    | assumption | apply Dev.finish_keepsMode c | (apply foldl_keeps; intro d x hd) | apply ite_keeps
    | refine snd_keeps (by assumption) ?_ | refine fst_keeps (by assumption) ?_ | split
theorem Dev.setCtx_keepsMode (c : KeepsMode P) (d x0 x1) (h : P d) : P (Dev.setCtx d x0 x1) := by
  unfold Dev.setCtx
  try dsimp only
  with_reducible repeat' first | assumption | fail_if_no_progress refine KeepsMode.mk' c ?_ rfl
theorem Dev.closeBuf_keepsMode (c : KeepsMode P) (d x0 x1) (h : P d) : P (Dev.closeBuf d x0 x1) := by
  unfold Dev.closeBuf
  try dsimp only
  with_reducible repeat' first
    | assumption | apply Dev.setCtx_keepsMode c | apply Dev.post_keepsMode c | refine snd_keeps (by assumption) ?_
    | refine fst_keeps (by assumption) ?_ | split
theorem Dev.count_keepsMode (c : KeepsMode P) (d x0 x1) (h : P d) : P (Dev.count d x0 x1) := by
  unfold Dev.count
  try dsimp only
  with_reducible repeat' first | assumption | apply Dev.setF_keepsMode c
theorem Dev.quotaEvent_keepsMode (c : KeepsMode P) (d x0 x1) (h : P d) : P (Dev.quotaEvent d x0 x1) := by
  unfold Dev.quotaEvent
  try dsimp only
  with_reducible repeat' first | assumption | apply Dev.flag_keepsMode c | apply Dev.setF_keepsMode c | apply Dev.count_keepsMode c
theorem Dev.reportIf_keepsMode (c : KeepsMode P) (d x0 x1 x2) (h : P d) : P (Dev.reportIf d x0 x1 x2) := by
  unfold Dev.reportIf
  try dsimp only
  with_reducible repeat' first | assumption | apply Dev.quotaEvent_keepsMode c | apply ite_keeps
theorem Dev.sumpNote_keepsMode (c : KeepsMode P) (d) (h : P d) : P (Dev.sumpNote d) := by
  unfold Dev.sumpNote
  try dsimp only
  with_reducible repeat' first | assumption | apply Dev.setF_keepsMode c
theorem Dev.setCtxCells_keepsMode (c : KeepsMode P) (d x0 x1) (h : P d) : P (Dev.setCtxCells d x0 x1) := by
  unfold Dev.setCtxCells
  try dsimp only
  with_reducible repeat' first | assumption | apply Dev.reportIf_keepsMode c | apply Dev.setCtx_keepsMode c | apply Dev.sumpNote_keepsMode c
theorem Dev.ctxAbort_keepsMode (c : KeepsMode P) (d x0) (h : P d) : P (Dev.ctxAbort d x0) := by
  unfold Dev.ctxAbort
  try dsimp only
  with_reducible repeat' first
    | assumption | apply Dev.setCtx_keepsMode c | apply Dev.closeBuf_keepsMode c | apply Dev.setCtxCells_keepsMode c
    | apply ite_keeps
theorem Dev.abortContext_keepsMode (c : KeepsMode P) (d x0) (h : P d) : P (Dev.abortContext d x0).1 := by
  unfold Dev.abortContext
  try dsimp only
  with_reducible repeat' first | assumption | apply Dev.abortStops_keepsMode c | apply Dev.ctxAbort_keepsMode c | apply ite_keeps | split
theorem Dev.setCalUse_keepsMode (c : KeepsMode P) (d x0) (h : P d) : P (Dev.setCalUse d x0) := by
  unfold Dev.setCalUse
  try dsimp only
  with_reducible repeat' first | assumption | apply Dev.sumpNote_keepsMode c | fail_if_no_progress refine KeepsMode.mk' c ?_ rfl
theorem Dev.calReport_keepsMode (c : KeepsMode P) (d x0) (h : P d) : P (Dev.calReport d x0) := by
  unfold Dev.calReport
  try dsimp only
  with_reducible repeat' first
    | assumption | apply Dev.finish_keepsMode c | apply Dev.setCalUse_keepsMode c | apply Dev.flag_keepsMode c
    | apply Dev.setF_keepsMode c | fail_if_no_progress refine KeepsMode.mk' c ?_ rfl
theorem Dev.calFail_keepsMode (c : KeepsMode P) (d x0 x1 x2) (h : P d) : P (Dev.calFail d x0 x1 x2) := by
  unfold Dev.calFail
  try dsimp only
  with_reducible repeat' first
    | assumption | apply Dev.calReport_keepsMode c | apply ite_keeps | refine snd_keeps (by assumption) ?_
    | refine fst_keeps (by assumption) ?_ | split | fail_if_no_progress refine KeepsMode.mk' c ?_ rfl
theorem Dev.shadingAbort_keepsMode (c : KeepsMode P) (d) (h : P d) : P (Dev.shadingAbort d).1 := by
  unfold Dev.shadingAbort
  try dsimp only
  with_reducible repeat' first
    | assumption | apply Dev.calFail_keepsMode c | apply ite_keeps | refine snd_keeps (by assumption) ?_
    | refine fst_keeps (by assumption) ?_ | split
theorem Dev.zeroEntries_keepsMode (c : KeepsMode P) (d x0 x1) (h : P d) : P (Dev.zeroEntries d x0 x1) := by
  unfold Dev.zeroEntries
  try dsimp only
  with_reducible repeat' first | assumption | apply Dev.clearRange_keepsMode c | (apply foldl_keeps; intro d x hd) | apply ite_keeps
theorem Dev.setB_keepsMode (c : KeepsMode P) (d x0 x1) (h : P d) : P (Dev.setB d x0 x1) := by
  unfold Dev.setB
  try dsimp only
  with_reducible repeat' first | assumption | apply Dev.setF_keepsMode c
theorem Dev.putValid_keepsMode (c : KeepsMode P) (d x0 x1) (h : P d) : P (Dev.putValid d x0 x1) := by
  unfold Dev.putValid
  try dsimp only
  with_reducible repeat' first | assumption | apply Dev.setB_keepsMode c | apply ite_keeps
theorem Dev.setHaulRun_keepsMode (c : KeepsMode P) (d x0) (h : P d) : P (Dev.setHaulRun d x0) := by
  unfold Dev.setHaulRun
  try dsimp only
  with_reducible repeat' first | assumption | fail_if_no_progress refine KeepsMode.mk' c ?_ rfl
theorem Dev.haulEvent_keepsMode (c : KeepsMode P) (d x0) (h : P d) : P (Dev.haulEvent d x0) := by
  unfold Dev.haulEvent
  try dsimp only
  with_reducible repeat' first
    | assumption | apply Dev.setHaulRun_keepsMode c | apply ite_keeps | refine snd_keeps (by assumption) ?_
    | refine fst_keeps (by assumption) ?_ | split
theorem Dev.refreshLock_keepsMode (c : KeepsMode P) (d) (h : P d) : P (Dev.refreshLock d) := by
  unfold Dev.refreshLock
  try dsimp only
  with_reducible repeat' first | assumption | apply Dev.setB_keepsMode c
theorem Dev.swap_keepsMode (c : KeepsMode P) (d) (h : P d) : P (Dev.swap d) := by
  unfold Dev.swap
  try dsimp only
  with_reducible repeat' first
    | assumption | apply Dev.haulEvent_keepsMode c | apply Dev.flag_keepsMode c | apply Dev.setF_keepsMode c
    | apply Dev.refreshLock_keepsMode c | fail_if_no_progress refine KeepsMode.mk' c ?_ rfl
theorem Dev.offerShadow_keepsMode (c : KeepsMode P) (d) (h : P d) : P (Dev.offerShadow d) := by
  unfold Dev.offerShadow
  try dsimp only
  with_reducible repeat' first
    | assumption | apply Dev.swap_keepsMode c | apply ite_keeps
    | fail_if_no_progress refine KeepsMode.mk' c ?_ rfl
theorem Dev.endLoad_keepsMode (c : KeepsMode P) (d x0 x1 x2) (h : P d) : P (Dev.endLoad d x0 x1 x2) := by
  unfold Dev.endLoad
  try dsimp only
  with_reducible repeat' first
    | assumption | apply Dev.finish_keepsMode c | apply Dev.zeroEntries_keepsMode c | apply Dev.putValid_keepsMode c
    | apply Dev.offerShadow_keepsMode c | apply Dev.setF_keepsMode c | apply ite_keeps | fail_if_no_progress refine KeepsMode.mk' c ?_ rfl
theorem Dev.setHch_keepsMode (c : KeepsMode P) (d x0 x1) (h : P d) : P (Dev.setHch d x0 x1) := by
  unfold Dev.setHch
  try dsimp only
  with_reducible repeat' first | assumption | fail_if_no_progress refine KeepsMode.mk' c ?_ rfl
theorem Dev.strHold_keepsMode (c : KeepsMode P) (d) (h : P d) : P (Dev.strHold d) := by
  unfold Dev.strHold
  try dsimp only
  with_reducible repeat' first | assumption | fail_if_no_progress refine KeepsMode.mk' c ?_ rfl
theorem Dev.stamped_keepsMode (c : KeepsMode P) (d x0 x1) (h : P d) : P (Dev.stamped d x0 x1) := by
  unfold Dev.stamped
  try dsimp only
  with_reducible repeat' first | assumption | apply Dev.count_keepsMode c | apply ite_keeps
theorem Dev.set64_keepsMode (c : KeepsMode P) (d x0 x1 x2) (h : P d) : P (Dev.set64 d x0 x1 x2) := by
  unfold Dev.set64
  try dsimp only
  with_reducible repeat' first | assumption | apply Dev.setReg_keepsMode c
theorem Dev.eventStamp_keepsMode (c : KeepsMode P) (d x0) (h : P d) : P (Dev.eventStamp d x0) := by
  unfold Dev.eventStamp
  try dsimp only
  with_reducible repeat' first
    | assumption | apply Dev.stamped_keepsMode c | apply Dev.set64_keepsMode c | apply Dev.setF_keepsMode c
    | apply Dev.irq_keepsMode c
theorem Dev.strRelease_keepsMode (c : KeepsMode P) (d) (h : P d) : P (Dev.strRelease d) := by
  unfold Dev.strRelease
  try dsimp only
  with_reducible repeat' first | assumption | fail_if_no_progress refine KeepsMode.mk' c ?_ rfl
theorem Dev.linePulse_keepsMode (c : KeepsMode P) (d x0) (h : P d) : P (Dev.linePulse d x0) := by
  unfold Dev.linePulse
  try dsimp only
  with_reducible repeat' first
    | assumption | apply Dev.haulEvent_keepsMode c | apply Dev.strHold_keepsMode c | apply Dev.eventStamp_keepsMode c
    | apply Dev.strRelease_keepsMode c | apply Dev.setF_keepsMode c | apply ite_keeps
theorem Dev.endProgram_keepsMode (c : KeepsMode P) (d e p) (hp : ∀ d n, P d → P (p d n)) (h : P d) : P (Dev.endProgram d e p) := by
  unfold Dev.endProgram
  try dsimp only
  with_reducible repeat' first
    | assumption | apply Dev.irq_keepsMode c | apply Dev.emit_keepsMode c | apply Dev.setHch_keepsMode c
    | apply Dev.set64_keepsMode c | apply Dev.setF_keepsMode c | apply Dev.setHaulRun_keepsMode c | apply hp | apply ite_keeps | split
theorem Dev.endLoadRun_keepsMode (c : KeepsMode P) (d x0 x1 x2 x3) (h : P d) : P (Dev.endLoadRun d x0 x1 x2 x3) := by
  unfold Dev.endLoadRun
  try dsimp only
  with_reducible repeat' first
    | assumption | apply Dev.endLoad_keepsMode c | apply Dev.linePulse_keepsMode c
    | (apply Dev.endProgram_keepsMode c; intro d n hd)
theorem Dev.abortLoad_keepsMode (c : KeepsMode P) (d x0) (h : P d) : P (Dev.abortLoad d x0) := by
  unfold Dev.abortLoad
  try dsimp only
  with_reducible repeat' first
    | assumption | apply Dev.endLoad_keepsMode c | apply Dev.setHch_keepsMode c | apply Dev.endLoadRun_keepsMode c
    | refine snd_keeps (by assumption) ?_ | refine fst_keeps (by assumption) ?_ | split
    | fail_if_no_progress refine KeepsMode.mk' c ?_ rfl
theorem Dev.freeSlot_keepsMode (c : KeepsMode P) (d x0) (h : P d) : P (Dev.freeSlot d x0) := by
  unfold Dev.freeSlot
  try dsimp only
  with_reducible repeat' first | assumption | split | fail_if_no_progress refine KeepsMode.mk' c ?_ rfl
theorem Dev.abortRun_keepsMode (c : KeepsMode P) (d x0) (h : P d) : P (Dev.abortRun d x0).1 := by
  unfold Dev.abortRun
  try dsimp only
  with_reducible repeat' first
    | assumption | apply Dev.finish_keepsMode c | apply Dev.shadingAbort_keepsMode c | apply Dev.abortLoad_keepsMode c
    | apply Dev.freeSlot_keepsMode c | apply ite_keeps | refine snd_keeps (by assumption) ?_ | refine fst_keeps (by assumption) ?_ | split
theorem Dev.stopAxes_keepsMode (c : KeepsMode P) (d x0 x1) (h : P d) : P (Dev.stopAxes d x0 x1) := by
  unfold Dev.stopAxes
  try dsimp only
  with_reducible repeat' first | assumption | apply ite_keeps | fail_if_no_progress refine KeepsMode.mk' c ?_ rfl
theorem Dev.silence_keepsMode (c : KeepsMode P) (d x0) (h : P d) : P (Dev.silence d x0) := by
  unfold Dev.silence
  try dsimp only
  with_reducible repeat' first
    | assumption | apply Dev.dropRun_keepsMode c | apply Dev.stopAxes_keepsMode c | apply ite_keeps
    | fail_if_no_progress refine KeepsMode.mk' c ?_ rfl
theorem Dev.endOfRing_keepsMode (c : KeepsMode P) (d x0) (h : P d) : P (Dev.endOfRing d x0) := by
  unfold Dev.endOfRing
  try dsimp only
  with_reducible repeat' first
    | assumption | apply Dev.finish_keepsMode c | apply Dev.abortRun_keepsMode c | apply Dev.silence_keepsMode c
    | refine snd_keeps (by assumption) ?_ | refine fst_keeps (by assumption) ?_ | split
theorem Dev.setSq_keepsMode (c : KeepsMode P) (d x0 x1) (h : P d) : P (Dev.setSq d x0 x1) := by
  unfold Dev.setSq
  try dsimp only
  with_reducible repeat' first | assumption | fail_if_no_progress refine KeepsMode.mk' c ?_ rfl
theorem Dev.sqEmpty_keepsMode (c : KeepsMode P) (d x0) (h : P d) : P (Dev.sqEmpty d x0) := by
  unfold Dev.sqEmpty
  try dsimp only
  with_reducible repeat' first | assumption | apply Dev.setSq_keepsMode c | apply Dev.setF_keepsMode c
theorem Dev.abortRing_keepsMode (c : KeepsMode P) (d x0) (h : P d) : P (Dev.abortRing d x0).1 := by
  unfold Dev.abortRing
  try dsimp only
  with_reducible repeat' first
    | assumption | apply Dev.endOfRing_keepsMode c | apply Dev.sqEmpty_keepsMode c | apply Dev.abortStops_keepsMode c
    | apply Dev.ctxAbort_keepsMode c | apply Dev.setF_keepsMode c | (apply foldl_keeps; intro d x hd) | (apply foldl_fst_keeps; intro d x hd)
    | (apply foldl_snd_keeps; intro d x hd) | apply ite_keeps | split
theorem Dev.abortHaul_keepsMode (c : KeepsMode P) (d x0) (h : P d) : P (Dev.abortHaul d x0).1 := by
  unfold Dev.abortHaul
  try dsimp only
  with_reducible repeat' first
    | assumption | apply Dev.endLoad_keepsMode c | apply Dev.linePulse_keepsMode c | apply Dev.setHch_keepsMode c
    | (apply Dev.endProgram_keepsMode c; intro d n hd) | apply Dev.endLoadRun_keepsMode c | (apply foldl_keeps; intro d x hd)
    | (apply foldl_fst_keeps; intro d x hd) | (apply foldl_snd_keeps; intro d x hd) | apply ite_keeps
    | refine snd_keeps (by assumption) ?_ | refine fst_keeps (by assumption) ?_ | split
theorem Dev.setAx_keepsMode (c : KeepsMode P) (d x0 x1) (h : P d) : P (Dev.setAx d x0 x1) := by
  unfold Dev.setAx
  try dsimp only
  with_reducible repeat' first | assumption | fail_if_no_progress refine KeepsMode.mk' c ?_ rfl
theorem Dev.refFail_keepsMode (c : KeepsMode P) (d x0 x1) (h : P d) : P (Dev.refFail d x0 x1) := by
  unfold Dev.refFail
  try dsimp only
  with_reducible repeat' first
    | assumption | apply Dev.setAx_keepsMode c | apply ite_keeps | refine snd_keeps (by assumption) ?_
    | refine fst_keeps (by assumption) ?_ | split
theorem Dev.abortAxes_keepsMode (c : KeepsMode P) (d x0) (h : P d) : P (Dev.abortAxes d x0).1 := by
  unfold Dev.abortAxes
  try dsimp only
  with_reducible repeat' first | assumption | apply Dev.stopAxes_keepsMode c | apply Dev.refFail_keepsMode c | (apply foldl_keeps; intro d x hd)
theorem Dev.abortCommand_keepsMode (c : KeepsMode P) (d x0 x1) (h : P d) : P (Dev.abortCommand d x0 x1).1 := by
  unfold Dev.abortCommand
  try dsimp only
  with_reducible repeat' first
    | assumption | apply Dev.abortRun_keepsMode c | refine snd_keeps (by assumption) ?_
    | refine fst_keeps (by assumption) ?_ | split
theorem Dev.abort_keepsMode (c : KeepsMode P) (d x0 x1 x2) (h : P d) : P (Dev.abort d x0 x1 x2).1 := by
  unfold Dev.abort
  try dsimp only
  with_reducible repeat' first
    | assumption | apply Dev.abortContext_keepsMode c | apply Dev.abortRing_keepsMode c | apply Dev.abortHaul_keepsMode c
    | apply Dev.abortAxes_keepsMode c | apply Dev.abortCommand_keepsMode c | apply ite_keeps | split
theorem Dev.abortCmd_keepsMode (c : KeepsMode P) (d x0 x1 x2 x3) (h : P d) : P (Dev.abortCmd d x0 x1 x2 x3) := by
  unfold Dev.abortCmd
  try dsimp only
  with_reducible repeat' first | assumption | apply Dev.complete_keepsMode c | apply Dev.abort_keepsMode c | apply ite_keeps
theorem Dev.reschedule_keepsMode (c : KeepsMode P) (d) (h : P d) : P (Dev.reschedule d) := by
  unfold Dev.reschedule
  try dsimp only
  with_reducible repeat' first
    | assumption | apply Dev.setReg_keepsMode c | apply Dev.setB_keepsMode c | apply Dev.setF_keepsMode c | apply ite_keeps
    | refine snd_keeps (by assumption) ?_ | refine fst_keeps (by assumption) ?_ | split
theorem Dev.showLanes_keepsMode (c : KeepsMode P) (d x0) (h : P d) : P (Dev.showLanes d x0) := by
  unfold Dev.showLanes
  try dsimp only
  with_reducible repeat' first | assumption | apply Dev.setB_keepsMode c | apply Dev.setF_keepsMode c | (apply foldl_keeps; intro d x hd)
theorem Dev.takePads_keepsMode (c : KeepsMode P) (d x0 x1) (h : P d) : P (Dev.takePads d x0 x1) := by
  unfold Dev.takePads
  try dsimp only
  with_reducible repeat' first | assumption | apply Dev.setF_keepsMode c | apply Dev.showLanes_keepsMode c | (apply foldl_keeps; intro d x hd)
theorem Dev.setFI_keepsMode (c : KeepsMode P) (d x0 x1) (h : P d) : P (Dev.setFI d x0 x1) := by
  unfold Dev.setFI
  try dsimp only
  with_reducible repeat' first | assumption | apply Dev.setF_keepsMode c
theorem Dev.showAlign_keepsMode (c : KeepsMode P) (d) (h : P d) : P (Dev.showAlign d) := by
  unfold Dev.showAlign
  try dsimp only
  with_reducible repeat' first
    | assumption | apply Dev.setReg_keepsMode c | apply Dev.setFI_keepsMode c | apply Dev.flagIf_keepsMode c
    | apply Dev.setB_keepsMode c | apply Dev.setF_keepsMode c | (apply foldl_keeps; intro d x hd) | refine snd_keeps (by assumption) ?_
    | refine fst_keeps (by assumption) ?_ | split
theorem Dev.setGrp_keepsMode (c : KeepsMode P) (d x0 x1) (h : P d) : P (Dev.setGrp d x0 x1) := by
  unfold Dev.setGrp
  try dsimp only
  with_reducible repeat' first | assumption | fail_if_no_progress refine KeepsMode.mk' c ?_ rfl
theorem Dev.rbRestart_keepsMode (c : KeepsMode P) (d x0) (h : P d) : P (Dev.rbRestart d x0) := by
  unfold Dev.rbRestart
  try dsimp only
  with_reducible repeat' first | assumption | apply Dev.setGrp_keepsMode c
theorem Dev.mapLines_keepsMode (c : KeepsMode P) (d x0) (h : P d) : P (Dev.mapLines d x0) := by
  unfold Dev.mapLines
  try dsimp only
  with_reducible repeat' first | assumption | fail_if_no_progress refine KeepsMode.mk' c ?_ rfl
theorem Dev.reconFallback_keepsMode (c : KeepsMode P) (d x0 x1) (h : P d) : P (Dev.reconFallback d x0 x1) := by
  unfold Dev.reconFallback
  try dsimp only
  with_reducible repeat' first | assumption | apply Dev.mapLines_keepsMode c
theorem Dev.setSurveyUse_keepsMode (c : KeepsMode P) (d x0) (h : P d) : P (Dev.setSurveyUse d x0) := by
  unfold Dev.setSurveyUse
  try dsimp only
  with_reducible repeat' first
    | assumption | apply Dev.reportIf_keepsMode c | apply Dev.sumpNote_keepsMode c | split
    | fail_if_no_progress refine KeepsMode.mk' c ?_ rfl
theorem Dev.setMeas_keepsMode (c : KeepsMode P) (d x0) (h : P d) : P (Dev.setMeas d x0) := by
  unfold Dev.setMeas
  try dsimp only
  with_reducible repeat' first
    | assumption | apply Dev.setSurveyUse_keepsMode c | apply Dev.setF_keepsMode c
    | fail_if_no_progress refine KeepsMode.mk' c ?_ rfl
theorem Dev.surveyDisarm_keepsMode (c : KeepsMode P) (d) (h : P d) : P (Dev.surveyDisarm d) := by
  unfold Dev.surveyDisarm
  try dsimp only
  with_reducible repeat' first
    | assumption | apply Dev.setMeas_keepsMode c | apply Dev.setF_keepsMode c | apply Dev.count_keepsMode c
    | fail_if_no_progress refine KeepsMode.mk' c ?_ rfl
theorem Dev.setGroupUse_keepsMode (c : KeepsMode P) (d x0 x1) (h : P d) : P (Dev.setGroupUse d x0 x1) := by
  unfold Dev.setGroupUse
  try dsimp only
  with_reducible repeat' first
    | assumption | apply Dev.reportIf_keepsMode c | apply Dev.sumpNote_keepsMode c | apply Dev.setF_keepsMode c | split
    | fail_if_no_progress refine KeepsMode.mk' c ?_ rfl
theorem Dev.clearHist_keepsMode (c : KeepsMode P) (d) (h : P d) : P (Dev.clearHist d) := by
  unfold Dev.clearHist
  try dsimp only
  with_reducible repeat' first
    | assumption | apply Dev.setGroupUse_keepsMode c | (apply foldl_keeps; intro d x hd) | apply ite_keeps
    | refine snd_keeps (by assumption) ?_ | refine fst_keeps (by assumption) ?_ | split
    | fail_if_no_progress refine KeepsMode.mk' c ?_ rfl
theorem Dev.clearDark_keepsMode (c : KeepsMode P) (d) (h : P d) : P (Dev.clearDark d) := by
  unfold Dev.clearDark
  try dsimp only
  with_reducible repeat' first
    | assumption | apply Dev.clearHist_keepsMode c | apply ite_keeps
    | fail_if_no_progress refine KeepsMode.mk' c ?_ rfl
theorem Dev.disarm_keepsMode (c : KeepsMode P) (d x0) (h : P d) : P (Dev.disarm d x0) := by
  unfold Dev.disarm
  try dsimp only
  with_reducible repeat' first
    | assumption | apply Dev.rbRestart_keepsMode c | apply Dev.reschedule_keepsMode c | apply Dev.reconFallback_keepsMode c
    | apply Dev.flag_keepsMode c | apply Dev.surveyDisarm_keepsMode c | apply Dev.clearDark_keepsMode c | apply Dev.offerShadow_keepsMode c
    | apply Dev.setF_keepsMode c | (apply foldl_keeps; intro d x hd) | apply ite_keeps
    | fail_if_no_progress refine KeepsMode.mk' c ?_ rfl
theorem Dev.checkStop_keepsMode (c : KeepsMode P) (d x0) (h : P d) : P (Dev.checkStop d x0) := by
  unfold Dev.checkStop
  try dsimp only
  with_reducible repeat' first
    | assumption | apply Dev.finish_keepsMode c | apply Dev.setCtx_keepsMode c | apply Dev.closeBuf_keepsMode c
    | (apply foldl_keeps; intro d x hd) | apply ite_keeps | refine snd_keeps (by assumption) ?_ | refine fst_keeps (by assumption) ?_
    | split
theorem Dev.stopNow_keepsMode (c : KeepsMode P) (d x0 x1 x2) (h : P d) : P (Dev.stopNow d x0 x1 x2) := by
  unfold Dev.stopNow
  try dsimp only
  with_reducible repeat' first | assumption | apply Dev.checkStop_keepsMode c | apply Dev.setCtx_keepsMode c
theorem Dev.ctxModeExit_keepsMode (c : KeepsMode P) (d) (h : P d) : P (Dev.ctxModeExit d) := by
  unfold Dev.ctxModeExit
  try dsimp only
  with_reducible repeat' first
    | assumption | apply Dev.stopNow_keepsMode c | (apply foldl_keeps; intro d x hd)
    | (apply foldl_fst_keeps; intro d x hd) | (apply foldl_snd_keeps; intro d x hd) | apply ite_keeps
theorem Dev.exitActions_keepsMode (c : KeepsMode P) (d) (h : P d) : P (Dev.exitActions d) := by
  unfold Dev.exitActions
  try dsimp only
  with_reducible repeat' first
    | assumption | apply Dev.disarm_keepsMode c | apply Dev.setB_keepsMode c | apply Dev.setF_keepsMode c
    | apply Dev.ctxModeExit_keepsMode c | apply ite_keeps | fail_if_no_progress refine KeepsMode.mk' c ?_ rfl
theorem Dev.setCh_keepsMode (c : KeepsMode P) (d x0 x1 x2) (h : P d) : P (Dev.setCh d x0 x1 x2) := by
  unfold Dev.setCh
  try dsimp only
  with_reducible repeat' first | assumption | fail_if_no_progress refine KeepsMode.mk' c ?_ rfl
theorem Dev.setSource_keepsMode (c : KeepsMode P) (d x0 x1 x2) (h : P d) : P (Dev.setSource d x0 x1 x2) := by
  unfold Dev.setSource
  try dsimp only
  with_reducible repeat' first | assumption | apply Dev.setF_keepsMode c | apply ite_keeps
theorem Dev.disconnect_keepsMode (c : KeepsMode P) (d x0 x1) (h : P d) : P (Dev.disconnect d x0 x1) := by
  unfold Dev.disconnect
  try dsimp only
  with_reducible repeat' first | assumption | apply Dev.setSource_keepsMode c | apply Dev.setCh_keepsMode c
theorem Dev.powerDown_keepsMode (c : KeepsMode P) (d x0 x1) (h : P d) : P (Dev.powerDown d x0 x1) := by
  unfold Dev.powerDown
  try dsimp only
  with_reducible repeat' first | assumption | apply Dev.disconnect_keepsMode c | apply Dev.setCh_keepsMode c | apply Dev.setF_keepsMode c
theorem Dev.powerCh_keepsMode (c : KeepsMode P) (d x0 x1) (h : P d) : P (Dev.powerCh d x0 x1) := by
  unfold Dev.powerCh
  try dsimp only
  with_reducible repeat' first
    | assumption | apply Dev.setCh_keepsMode c | apply Dev.powerDown_keepsMode c | apply Dev.setF_keepsMode c
    | apply ite_keeps
theorem Dev.powerAll_keepsMode (c : KeepsMode P) (d) (h : P d) : P (Dev.powerAll d) := by
  unfold Dev.powerAll
  try dsimp only
  with_reducible repeat' first | assumption | apply Dev.powerCh_keepsMode c | (apply forGC_keeps; intro d g c' hd)
theorem Dev.acceptMode_keepsMode (c : KeepsMode P) (d x0 x1) (h : P d) : P (Dev.acceptMode d x0 x1) := by
  unfold Dev.acceptMode
  try dsimp only
  with_reducible repeat' first
    | assumption | apply Dev.exitActions_keepsMode c | apply Dev.powerAll_keepsMode c | apply Dev.setF_keepsMode c
    | apply Dev.stopAxes_keepsMode c | apply ite_keeps | fail_if_no_progress refine KeepsMode.mk' c ?_ rfl
theorem Dev.setCal_keepsMode (c : KeepsMode P) (d x0) (h : P d) : P (Dev.setCal d x0) := by
  unfold Dev.setCal
  try dsimp only
  with_reducible repeat' first | assumption | fail_if_no_progress refine KeepsMode.mk' c ?_ rfl
theorem Dev.calDark_keepsMode (c : KeepsMode P) (d) (h : P d) : P (Dev.calDark d) := by
  unfold Dev.calDark
  try dsimp only
  with_reducible repeat' first
    | assumption | apply Dev.clearDark_keepsMode c | apply Dev.setCal_keepsMode c | refine snd_keeps (by assumption) ?_
    | refine fst_keeps (by assumption) ?_ | split
theorem Dev.calShutter_keepsMode (c : KeepsMode P) (d x0) (h : P d) : P (Dev.calShutter d x0) := by
  unfold Dev.calShutter
  try dsimp only
  with_reducible repeat' first
    | assumption | apply Dev.calDark_keepsMode c | apply Dev.calFail_keepsMode c | apply Dev.setCal_keepsMode c
    | apply ite_keeps | refine snd_keeps (by assumption) ?_ | refine fst_keeps (by assumption) ?_ | split
theorem Dev.reportMove_keepsMode (c : KeepsMode P) (d x0 x1 x2) (h : P d) : P (Dev.reportMove d x0 x1 x2) := by
  unfold Dev.reportMove
  try dsimp only
  with_reducible repeat' first
    | assumption | apply Dev.finish_keepsMode c | apply Dev.calShutter_keepsMode c | apply Dev.setAx_keepsMode c
    | apply ite_keeps | refine snd_keeps (by assumption) ?_ | refine fst_keeps (by assumption) ?_ | split
    | fail_if_no_progress refine KeepsMode.mk' c ?_ rfl
theorem Dev.newMove_keepsMode (c : KeepsMode P) (d) (h : P d) : P (Dev.newMove d).2 := by
  unfold Dev.newMove
  try dsimp only
  with_reducible repeat' first | assumption | fail_if_no_progress refine KeepsMode.mk' c ?_ rfl
theorem Dev.orphan_keepsMode (c : KeepsMode P) (d x0 x1) (h : P d) : P (Dev.orphan d x0 x1) := by
  unfold Dev.orphan
  try dsimp only
  with_reducible repeat' first
    | assumption | apply Dev.newMove_keepsMode c | apply ite_keeps | split
    | fail_if_no_progress refine KeepsMode.mk' c ?_ rfl
theorem Dev.setMem_keepsMode (c : KeepsMode P) (d x0 x1 x2) (h : P d) : P (Dev.setMem d x0 x1 x2) := by
  unfold Dev.setMem
  try dsimp only
  with_reducible repeat' first | assumption | apply Dev.setBytes_keepsMode c
theorem Dev.logStop_keepsMode (c : KeepsMode P) (d x0 x1 x2 x3) (h : P d) : P (Dev.logStop d x0 x1 x2 x3) := by
  unfold Dev.logStop
  try dsimp only
  with_reducible repeat' first | assumption | apply Dev.setMem_keepsMode c | apply ite_keeps
theorem Dev.dropMove_keepsMode (c : KeepsMode P) (d x0) (h : P d) : P (Dev.dropMove d x0) := by
  unfold Dev.dropMove
  try dsimp only
  with_reducible repeat' first | assumption | fail_if_no_progress refine KeepsMode.mk' c ?_ rfl
theorem Dev.supersede_keepsMode (c : KeepsMode P) (d x0 x1) (h : P d) : P (Dev.supersede d x0 x1) := by
  unfold Dev.supersede
  try dsimp only
  with_reducible repeat' first
    | assumption | apply Dev.reportMove_keepsMode c | apply Dev.orphan_keepsMode c | apply Dev.logStop_keepsMode c
    | apply Dev.dropMove_keepsMode c | (apply foldl_keeps; intro d x hd) | apply ite_keeps | refine snd_keeps (by assumption) ?_
    | refine fst_keeps (by assumption) ?_ | split
theorem Dev.acceptMove_keepsMode (c : KeepsMode P) (d x0) (h : P d) : P (Dev.acceptMove d x0) := by
  unfold Dev.acceptMove
  try dsimp only
  with_reducible repeat' first
    | assumption | apply Dev.supersede_keepsMode c | apply Dev.refFail_keepsMode c | (apply foldl_keeps; intro d x hd)
    | apply ite_keeps | refine snd_keeps (by assumption) ?_ | refine fst_keeps (by assumption) ?_ | split
    | fail_if_no_progress refine KeepsMode.mk' c ?_ rfl
theorem Dev.accessErr_keepsMode (c : KeepsMode P) (d x0 x1 x2 x3) (h : P d) : P (Dev.accessErr d x0 x1 x2 x3) := by
  unfold Dev.accessErr
  try dsimp only
  with_reducible repeat' first
    | assumption | apply Dev.flag_keepsMode c | apply Dev.setB_keepsMode c | apply Dev.setF_keepsMode c
    | apply Dev.count_keepsMode c | apply ite_keeps | refine snd_keeps (by assumption) ?_ | refine fst_keeps (by assumption) ?_ | split
    | fail_if_no_progress refine KeepsMode.mk' c ?_ rfl
theorem Dev.cfgRefused_keepsMode (c : KeepsMode P) {d d' : Dev} {rq : Req} {en : Fld} {v : Word} (e : d.cfgRefused rq en v = some d') (h : P d) : P d' := by
  unfold Dev.cfgRefused at e
  dsimp only at e
  split at e
  · cases e; exact Dev.accessErr_keepsMode c _ _ _ _ _ h
  · split at e
    · cases e; exact Dev.accessErr_keepsMode c _ _ _ _ _ h
    · cases e
theorem Dev.startRun_keepsMode (c : KeepsMode P) (d x0 x1) (h : P d) : P (Dev.startRun d x0 x1) := by
  unfold Dev.startRun
  try dsimp only
  with_reducible repeat' first | assumption | fail_if_no_progress refine KeepsMode.mk' c ?_ rfl
theorem Dev.ctxStop_keepsMode (c : KeepsMode P) (d x0 x1 x2) (h : P d) : P (Dev.ctxStop d x0 x1 x2) := by
  unfold Dev.ctxStop
  try dsimp only
  with_reducible repeat' first
    | assumption | apply Dev.setCtx_keepsMode c | apply Dev.startRun_keepsMode c | apply Dev.complete_keepsMode c
    | apply Dev.stopNow_keepsMode c | apply ite_keeps | refine snd_keeps (by assumption) ?_ | refine fst_keeps (by assumption) ?_ | split
theorem Dev.resumeCmd_keepsMode (c : KeepsMode P) (d x0 x1) (h : P d) : P (Dev.resumeCmd d x0 x1) := by
  unfold Dev.resumeCmd
  try dsimp only
  with_reducible repeat' first
    | assumption | apply Dev.acceptMove_keepsMode c | apply Dev.startRun_keepsMode c | apply Dev.complete_keepsMode c
    | apply Dev.newMove_keepsMode c | (apply foldl_keeps; intro d x hd) | (apply foldl_fst_keeps; intro d x hd)
    | (apply foldl_snd_keeps; intro d x hd) | apply ite_keeps | refine snd_keeps (by assumption) ?_ | refine fst_keeps (by assumption) ?_
    | split
theorem Dev.ctxStart_keepsMode (c : KeepsMode P) (d x0 x1 x2) (h : P d) : P (Dev.ctxStart d x0 x1 x2) := by
  unfold Dev.ctxStart
  try dsimp only
  with_reducible repeat' first | assumption | apply Dev.setCtx_keepsMode c | apply Dev.complete_keepsMode c | apply ite_keeps
theorem Dev.chooseSet_keepsMode (c : KeepsMode P) (d) (h : P d) : P (Dev.chooseSet d) := by
  unfold Dev.chooseSet
  try dsimp only
  with_reducible repeat' first | assumption | apply Dev.swap_keepsMode c | apply Dev.setF_keepsMode c | apply ite_keeps
theorem Dev.boundarySet_keepsMode (c : KeepsMode P) (d) (h : P d) : P (Dev.boundarySet d) := by
  unfold Dev.boundarySet
  try dsimp only
  with_reducible repeat' first
    | assumption | apply Dev.flag_keepsMode c | apply Dev.swap_keepsMode c | apply Dev.count_keepsMode c
    | apply Dev.chooseSet_keepsMode c | apply ite_keeps
theorem Dev.strobes_keepsMode (c : KeepsMode P) (d x0 x1 x2) (h : P d) : P (Dev.strobes d x0 x1 x2) := by
  unfold Dev.strobes
  try dsimp only
  with_reducible repeat' first | assumption | apply Dev.emit_keepsMode c | (apply foldl_keeps; intro d x hd) | apply ite_keeps
theorem Dev.pulse_keepsMode (c : KeepsMode P) (d x0 x1 x2) (h : P d) : P (Dev.pulse d x0 x1 x2) := by
  unfold Dev.pulse
  try dsimp only
  with_reducible repeat' first
    | assumption | apply Dev.emit_keepsMode c | apply ite_keeps
    | fail_if_no_progress refine KeepsMode.mk' c ?_ rfl
theorem Dev.mainPins_keepsMode (c : KeepsMode P) (d x0 x1 x2) (h : P d) : P (Dev.mainPins d x0 x1 x2) := by
  unfold Dev.mainPins
  try dsimp only
  with_reducible repeat' first | assumption | apply Dev.strobes_keepsMode c | apply Dev.pulse_keepsMode c | (apply foldl_keeps; intro d x hd)
theorem Dev.showLantern_keepsMode (c : KeepsMode P) (d) (h : P d) : P (Dev.showLantern d) := by
  unfold Dev.showLantern
  try dsimp only
  with_reducible repeat' first | assumption | apply Dev.setB_keepsMode c | apply Dev.setF_keepsMode c
theorem Dev.calRange_keepsMode (c : KeepsMode P) (d x0) (h : P d) : P (Dev.calRange d x0) := by
  unfold Dev.calRange
  try dsimp only
  with_reducible repeat' first
    | assumption | apply ite_keeps | refine snd_keeps (by assumption) ?_ | refine fst_keeps (by assumption) ?_
    | split | fail_if_no_progress refine KeepsMode.mk' c ?_ rfl
theorem Dev.ledWear_keepsMode (c : KeepsMode P) (d x0) (h : P d) : P (Dev.ledWear d x0) := by
  unfold Dev.ledWear
  try dsimp only
  with_reducible repeat' first | assumption | apply Dev.flagIf_keepsMode c | apply Dev.setF_keepsMode c | apply ite_keeps
theorem Dev.ledWearAll_keepsMode (c : KeepsMode P) (d) (h : P d) : P (Dev.ledWearAll d) := by
  unfold Dev.ledWearAll
  try dsimp only
  with_reducible repeat' first | assumption | apply Dev.ledWear_keepsMode c | (apply foldl_keeps; intro d x hd)
theorem Dev.applySets_keepsMode (c : KeepsMode P) (d x0) (h : P d) : P (Dev.applySets d x0) := by
  unfold Dev.applySets
  try dsimp only
  with_reducible repeat' first
    | assumption | apply Dev.ledWearAll_keepsMode c | apply Dev.setF_keepsMode c | apply Dev.emit_keepsMode c
    | (apply foldl_keeps; intro d x hd) | apply ite_keeps | fail_if_no_progress refine KeepsMode.mk' c ?_ rfl
theorem Dev.discardPair_keepsMode (c : KeepsMode P) (d x0 x1) (h : P d) : P (Dev.discardPair d x0 x1) := by
  unfold Dev.discardPair
  try dsimp only
  with_reducible repeat' first | assumption | apply Dev.flag_keepsMode c | apply Dev.setGrp_keepsMode c | apply ite_keeps
theorem Dev.rbIdle_keepsMode (c : KeepsMode P) (d x0) (h : P d) : P (Dev.rbIdle d x0) := by
  unfold Dev.rbIdle
  try dsimp only
  with_reducible repeat' first
    | assumption | apply Dev.disconnect_keepsMode c | apply Dev.setF_keepsMode c | refine snd_keeps (by assumption) ?_
    | refine fst_keeps (by assumption) ?_ | split
theorem Dev.boundaryGrp_keepsMode (c : KeepsMode P) (x0 d x1) (h : P d) : P (Dev.boundaryGrp x0 d x1) := by
  unfold Dev.boundaryGrp
  try dsimp only
  with_reducible repeat' first
    | assumption | apply Dev.setReg_keepsMode c | apply Dev.rbRestart_keepsMode c | apply Dev.discardPair_keepsMode c
    | apply Dev.rbIdle_keepsMode c | apply Dev.setF_keepsMode c | apply ite_keeps | refine snd_keeps (by assumption) ?_
    | refine fst_keeps (by assumption) ?_ | split
theorem Dev.markChecked_keepsMode (c : KeepsMode P) (d x0) (h : P d) : P (Dev.markChecked d x0) := by
  unfold Dev.markChecked
  try dsimp only
  with_reducible repeat' first
    | assumption | apply ite_keeps | refine snd_keeps (by assumption) ?_ | refine fst_keeps (by assumption) ?_
    | split | fail_if_no_progress refine KeepsMode.mk' c ?_ rfl
theorem Dev.applyRange_keepsMode (c : KeepsMode P) (d x0 x1) (h : P d) : P (Dev.applyRange d x0 x1) := by
  unfold Dev.applyRange
  try dsimp only
  with_reducible repeat' first | assumption | apply Dev.setReg_keepsMode c | apply Dev.setF_keepsMode c | apply ite_keeps
theorem Dev.boundaryCh_keepsMode (c : KeepsMode P) (d x0 x1) (h : P d) : P (Dev.boundaryCh d x0 x1) := by
  unfold Dev.boundaryCh
  try dsimp only
  with_reducible repeat' first
    | assumption | apply Dev.setSource_keepsMode c | apply Dev.flag_keepsMode c | apply Dev.setCh_keepsMode c
    | apply Dev.setGrp_keepsMode c | apply Dev.markChecked_keepsMode c | apply Dev.applyRange_keepsMode c | apply ite_keeps
    | refine snd_keeps (by assumption) ?_ | refine fst_keeps (by assumption) ?_ | split
theorem Dev.boundaryAfe_keepsMode (c : KeepsMode P) (d) (h : P d) : P (Dev.boundaryAfe d) := by
  unfold Dev.boundaryAfe
  try dsimp only
  with_reducible repeat' first
    | assumption | apply Dev.boundaryGrp_keepsMode c | apply Dev.boundaryCh_keepsMode c
    | (apply forGC_keeps; intro d g c' hd) | (apply foldl_keeps; intro d x hd)
theorem Dev.setRoles_keepsMode (c : KeepsMode P) (d x0) (h : P d) : P (Dev.setRoles d x0) := by
  unfold Dev.setRoles
  try dsimp only
  with_reducible repeat' first | assumption | apply Dev.setF_keepsMode c | fail_if_no_progress refine KeepsMode.mk' c ?_ rfl
theorem Dev.takeRoles_keepsMode (c : KeepsMode P) (d) (h : P d) : P (Dev.takeRoles d) := by
  unfold Dev.takeRoles
  try dsimp only
  with_reducible repeat' first
    | assumption | apply Dev.setRoles_keepsMode c | refine snd_keeps (by assumption) ?_
    | refine fst_keeps (by assumption) ?_ | split | fail_if_no_progress refine KeepsMode.mk' c ?_ rfl
theorem Dev.countLines_keepsMode (c : KeepsMode P) (d) (h : P d) : P (Dev.countLines d) := by
  unfold Dev.countLines
  try dsimp only
  with_reducible repeat' first | assumption | apply Dev.setCh_keepsMode c | (apply forGC_keeps; intro d g c' hd) | apply ite_keeps
theorem Dev.setLane_keepsMode (c : KeepsMode P) (d x0 x1) (h : P d) : P (Dev.setLane d x0 x1) := by
  unfold Dev.setLane
  try dsimp only
  with_reducible repeat' first | assumption | fail_if_no_progress refine KeepsMode.mk' c ?_ rfl
theorem Dev.boundaryLane_keepsMode (c : KeepsMode P) (d x0) (h : P d) : P (Dev.boundaryLane d x0) := by
  unfold Dev.boundaryLane
  try dsimp only
  with_reducible repeat' first
    | assumption | apply Dev.setLane_keepsMode c | apply Dev.showLanes_keepsMode c | apply ite_keeps
    | refine snd_keeps (by assumption) ?_ | refine fst_keeps (by assumption) ?_ | split
theorem Dev.boundaryLanes_keepsMode (c : KeepsMode P) (d) (h : P d) : P (Dev.boundaryLanes d) := by
  unfold Dev.boundaryLanes
  try dsimp only
  with_reducible repeat' first | assumption | apply Dev.boundaryLane_keepsMode c | (apply foldl_keeps; intro d x hd)
theorem Dev.boundaryMul_keepsMode (c : KeepsMode P) (d) (h : P d) : P (Dev.boundaryMul d).1 := by
  unfold Dev.boundaryMul
  try dsimp only
  with_reducible repeat' first
    | assumption | apply Dev.setF_keepsMode c | (apply foldl_keeps; intro d x hd)
    | (apply foldl_fst_keeps; intro d x hd) | (apply foldl_snd_keeps; intro d x hd) | split
    | fail_if_no_progress refine KeepsMode.mk' c ?_ rfl
theorem Dev.startMain_keepsMode (c : KeepsMode P) (d x0 x1) (h : P d) : P (Dev.startMain d x0 x1) := by
  unfold Dev.startMain
  try dsimp only
  with_reducible repeat' first
    | assumption | apply Dev.haulEvent_keepsMode c | apply Dev.boundarySet_keepsMode c | apply Dev.mainPins_keepsMode c
    | apply Dev.stamped_keepsMode c | apply Dev.showLantern_keepsMode c | apply Dev.calRange_keepsMode c | apply Dev.applySets_keepsMode c
    | apply Dev.boundaryAfe_keepsMode c | apply Dev.takeRoles_keepsMode c | apply Dev.countLines_keepsMode c | apply Dev.boundaryLanes_keepsMode c
    | apply Dev.refreshLock_keepsMode c | apply Dev.boundaryMul_keepsMode c | refine snd_keeps (by assumption) ?_
    | refine fst_keeps (by assumption) ?_ | split | fail_if_no_progress refine KeepsMode.mk' c ?_ rfl
theorem Dev.holdQueue_keepsMode (c : KeepsMode P) (d) (h : P d) : P (Dev.holdQueue d) := by
  unfold Dev.holdQueue
  try dsimp only
  with_reducible repeat' first
    | assumption | apply Dev.showLantern_keepsMode c | apply ite_keeps
    | fail_if_no_progress refine KeepsMode.mk' c ?_ rfl
theorem Dev.ctxTrigger_keepsMode (c : KeepsMode P) (d x0 x1 x2 x3) (h : P d) : P (Dev.ctxTrigger d x0 x1 x2 x3) := by
  unfold Dev.ctxTrigger
  try dsimp only
  with_reducible repeat' first
    | assumption | apply Dev.setCtx_keepsMode c | apply Dev.stopNow_keepsMode c | apply ite_keeps
    | refine snd_keeps (by assumption) ?_ | refine fst_keeps (by assumption) ?_ | split
theorem Dev.ctxTriggers_keepsMode (c : KeepsMode P) (d x0 x1 x2) (h : P d) : P (Dev.ctxTriggers d x0 x1 x2) := by
  unfold Dev.ctxTriggers
  try dsimp only
  with_reducible repeat' first | assumption | apply Dev.ctxTrigger_keepsMode c | (apply foldl_keeps; intro d x hd)
theorem Dev.fireMain_keepsMode (c : KeepsMode P) (d x0 x1 x2) (h : P d) : P (Dev.fireMain d x0 x1 x2) := by
  unfold Dev.fireMain
  try dsimp only
  with_reducible repeat' first
    | assumption | apply Dev.reconFallback_keepsMode c | apply Dev.startMain_keepsMode c | apply Dev.flag_keepsMode c
    | apply Dev.holdQueue_keepsMode c | apply Dev.ctxTriggers_keepsMode c | apply Dev.count_keepsMode c | refine snd_keeps (by assumption) ?_
    | refine fst_keeps (by assumption) ?_ | split | fail_if_no_progress refine KeepsMode.mk' c ?_ rfl
theorem Dev.otherLine_keepsMode (c : KeepsMode P) (d) (h : P d) : P (Dev.otherLine d) := by
  unfold Dev.otherLine
  try dsimp only
  with_reducible repeat' first
    | assumption | apply Dev.fireMain_keepsMode c | apply ite_keeps | refine snd_keeps (by assumption) ?_
    | refine fst_keeps (by assumption) ?_ | split | fail_if_no_progress refine KeepsMode.mk' c ?_ rfl
theorem Dev.actLine_keepsMode (c : KeepsMode P) (d) (h : P d) : P (Dev.actLine d).1 := by
  unfold Dev.actLine
  try dsimp only
  with_reducible repeat' first | assumption | apply Dev.otherLine_keepsMode c | apply ite_keeps | split
theorem Dev.moveCmd_keepsMode (c : KeepsMode P) (d x0 x1 x2 x3 x4 x5) (h : P d) : P (Dev.moveCmd d x0 x1 x2 x3 x4 x5) := by
  unfold Dev.moveCmd
  try dsimp only
  with_reducible repeat' first
    | assumption | apply Dev.acceptMove_keepsMode c | apply Dev.startRun_keepsMode c | apply Dev.complete_keepsMode c
    | apply Dev.newMove_keepsMode c | apply ite_keeps | refine snd_keeps (by assumption) ?_ | refine fst_keeps (by assumption) ?_ | split
theorem Dev.moveOne_keepsMode (c : KeepsMode P) (d x0 x1 x2 x3 x4 x5) (h : P d) : P (Dev.moveOne d x0 x1 x2 x3 x4 x5) := by
  unfold Dev.moveOne
  try dsimp only
  with_reducible repeat' first | assumption | apply Dev.moveCmd_keepsMode c | apply Dev.complete_keepsMode c | apply ite_keeps
theorem Dev.surveyArm_keepsMode (c : KeepsMode P) (d) (h : P d) : P (Dev.surveyArm d) := by
  unfold Dev.surveyArm
  try dsimp only
  with_reducible repeat' first
    | assumption | apply Dev.setFI_keepsMode c | apply Dev.flagIf_keepsMode c | apply Dev.setB_keepsMode c
    | apply Dev.setF_keepsMode c | (apply foldl_keeps; intro d x hd) | apply ite_keeps | refine snd_keeps (by assumption) ?_
    | refine fst_keeps (by assumption) ?_ | split | fail_if_no_progress refine KeepsMode.mk' c ?_ rfl
theorem Dev.setLeadHwm_keepsMode (c : KeepsMode P) (d x0) (h : P d) : P (Dev.setLeadHwm d x0) := by
  unfold Dev.setLeadHwm
  try dsimp only
  with_reducible repeat' first | assumption | apply Dev.set64_keepsMode c
theorem Dev.setHwm_keepsMode (c : KeepsMode P) (d x0) (h : P d) : P (Dev.setHwm d x0) := by
  unfold Dev.setHwm
  try dsimp only
  with_reducible repeat' first | assumption | apply Dev.set64_keepsMode c
theorem Dev.arm_keepsMode (c : KeepsMode P) (d) (h : P d) : P (Dev.arm d) := by
  unfold Dev.arm
  try dsimp only
  with_reducible repeat' first
    | assumption | apply Dev.surveyArm_keepsMode c | apply Dev.reschedule_keepsMode c | apply Dev.setLeadHwm_keepsMode c
    | apply Dev.setF_keepsMode c | apply Dev.setHwm_keepsMode c | apply ite_keeps | fail_if_no_progress refine KeepsMode.mk' c ?_ rfl
theorem Dev.gridCtrlWrite_keepsMode (c : KeepsMode P) (d x0 x1) (h : P d) : P (Dev.gridCtrlWrite d x0 x1) := by
  unfold Dev.gridCtrlWrite
  try dsimp only
  with_reducible repeat' first
    | assumption | apply Dev.accessErr_keepsMode c | apply Dev.setReg_keepsMode c | apply Dev.reschedule_keepsMode c
    | apply Dev.disarm_keepsMode c | apply Dev.showAlign_keepsMode c | apply Dev.otherLine_keepsMode c | apply Dev.arm_keepsMode c | apply ite_keeps
theorem Dev.actArm_keepsMode (c : KeepsMode P) (d x0) (h : P d) : P (Dev.actArm d x0).1 := by
  unfold Dev.actArm
  try dsimp only
  with_reducible repeat' first | assumption | apply Dev.gridCtrlWrite_keepsMode c
theorem Dev.actPin_keepsMode (c : KeepsMode P) (d x0 x1) (h : P d) : P (Dev.actPin d x0 x1).1 := by
  unfold Dev.actPin
  try dsimp only
  with_reducible repeat' first
    | assumption | apply Dev.emit_keepsMode c | apply ite_keeps | split
    | fail_if_no_progress refine KeepsMode.mk' c ?_ rfl
theorem Dev.crnLast_keepsMode (c : KeepsMode P) (d x0 x1) (h : P d) : P (Dev.crnLast d x0 x1) := by
  unfold Dev.crnLast
  try dsimp only
  with_reducible repeat' first | assumption | apply Dev.setF_keepsMode c
theorem Dev.haulRequest_keepsMode (c : KeepsMode P) (d x0) (h : P d) : P (Dev.haulRequest d x0) := by
  unfold Dev.haulRequest
  try dsimp only
  with_reducible repeat' first
    | assumption | apply Dev.setHaulRun_keepsMode c | refine snd_keeps (by assumption) ?_
    | refine fst_keeps (by assumption) ?_ | split
theorem Dev.actPulse_keepsMode (c : KeepsMode P) (d x0) (h : P d) : P (Dev.actPulse d x0).1 := by
  unfold Dev.actPulse
  try dsimp only
  with_reducible repeat' first | assumption | apply Dev.haulEvent_keepsMode c | apply Dev.emit_keepsMode c
theorem Dev.haulPush_keepsMode (c : KeepsMode P) (d x0 x1) (h : P d) : P (Dev.haulPush d x0 x1) := by
  unfold Dev.haulPush
  try dsimp only
  with_reducible repeat' first | assumption | apply Dev.setHch_keepsMode c
theorem Dev.actHaul_keepsMode (c : KeepsMode P) (d x0 x1) (h : P d) : P (Dev.actHaul d x0 x1).1 := by
  unfold Dev.actHaul
  try dsimp only
  with_reducible repeat' first | assumption | apply Dev.haulPush_keepsMode c | apply ite_keeps | split
theorem Dev.act_keepsMode (c : KeepsMode P) (d x0 x1) (h : P d) : P (Dev.act d x0 x1) := by
  unfold Dev.act
  try dsimp only
  with_reducible repeat' first
    | assumption | apply Dev.ctxStop_keepsMode c | apply Dev.resumeCmd_keepsMode c | apply Dev.ctxStart_keepsMode c
    | apply Dev.actLine_keepsMode c | apply Dev.moveOne_keepsMode c | apply Dev.actArm_keepsMode c | apply Dev.actPin_keepsMode c
    | apply Dev.complete_keepsMode c | apply Dev.crnLast_keepsMode c | apply Dev.haulRequest_keepsMode c | apply Dev.actPulse_keepsMode c
    | apply Dev.actHaul_keepsMode c | apply ite_keeps
theorem Dev.slotStamp_keepsMode (c : KeepsMode P) (d x0) (h : P d) : P (Dev.slotStamp d x0).2 := by
  unfold Dev.slotStamp
  try dsimp only
  with_reducible repeat' first | assumption | apply Dev.stamped_keepsMode c | apply ite_keeps | split
theorem Dev.actionDue_keepsMode (c : KeepsMode P) (d) (h : P d) : P (Dev.actionDue d) := by
  unfold Dev.actionDue
  try dsimp only
  with_reducible repeat' first
    | assumption | apply Dev.finish_keepsMode c | apply Dev.act_keepsMode c | apply Dev.freeSlot_keepsMode c
    | apply Dev.slotStamp_keepsMode c | apply ite_keeps | refine snd_keeps (by assumption) ?_ | refine fst_keeps (by assumption) ?_ | split
theorem Dev.roomCheck_keepsMode (c : KeepsMode P) (d x0) (h : P d) : P (Dev.roomCheck d x0) := by
  unfold Dev.roomCheck
  try dsimp only
  with_reducible repeat' first | assumption | apply Dev.closeBuf_keepsMode c | apply Dev.flag_keepsMode c | apply ite_keeps
theorem Dev.addRecord_keepsMode (c : KeepsMode P) (d x0 x1 x2 x3 x4 x5) (h : P d) : P (Dev.addRecord d x0 x1 x2 x3 x4 x5).1 := by
  unfold Dev.addRecord
  try dsimp only
  with_reducible repeat' first
    | assumption | apply Dev.setCtx_keepsMode c | apply Dev.cqWaits_keepsMode c | apply Dev.roomCheck_keepsMode c
    | apply Dev.setCtxCells_keepsMode c | apply ite_keeps | split
theorem Dev.fullReport_keepsMode (c : KeepsMode P) (d x0 x1 x2 x3 x4) (h : P d) : P (Dev.fullReport d x0 x1 x2 x3 x4) := by
  unfold Dev.fullReport
  try dsimp only
  with_reducible repeat' first
    | assumption | apply Dev.flag_keepsMode c | apply Dev.complete_keepsMode c | apply Dev.setB_keepsMode c
    | apply Dev.setF_keepsMode c
theorem Dev.refVerdict_keepsMode (c : KeepsMode P) (d x0) (h : P d) : P (Dev.refVerdict d x0).1 := by
  unfold Dev.refVerdict
  try dsimp only
  with_reducible repeat' first | assumption | apply Dev.flag_keepsMode c | apply Dev.setF_keepsMode c | apply ite_keeps | split
theorem Dev.refCheck_keepsMode (c : KeepsMode P) (d x0 x1) (h : P d) : P (Dev.refCheck d x0 x1).1 := by
  unfold Dev.refCheck
  try dsimp only
  with_reducible repeat' first | assumption | apply Dev.refVerdict_keepsMode c
theorem Dev.fullRefs_keepsMode (c : KeepsMode P) (d x0 x1 x2) (h : P d) : P (Dev.fullRefs d x0 x1 x2).1 := by
  unfold Dev.fullRefs
  try dsimp only
  with_reducible repeat' first
    | assumption | apply Dev.refVerdict_keepsMode c | apply Dev.refCheck_keepsMode c
    | (apply foldl_keeps; intro d x hd) | (apply foldl_fst_keeps; intro d x hd) | (apply foldl_snd_keeps; intro d x hd)
    | refine snd_keeps (by assumption) ?_ | refine fst_keeps (by assumption) ?_ | split
theorem Dev.setChkRef_keepsMode (c : KeepsMode P) (d x0 x1 x2 x3 x4) (h : P d) : P (Dev.setChkRef d x0 x1 x2 x3 x4) := by
  unfold Dev.setChkRef
  try dsimp only
  with_reducible repeat' first | assumption | apply Dev.setF_keepsMode c | apply ite_keeps
theorem Dev.trimWear_keepsMode (c : KeepsMode P) (d x0 x1) (h : P d) : P (Dev.trimWear d x0 x1) := by
  unfold Dev.trimWear
  try dsimp only
  with_reducible repeat' first | assumption | apply Dev.flagIf_keepsMode c | apply Dev.setF_keepsMode c
theorem Dev.writeTrim_keepsMode (c : KeepsMode P) (d x0 x1 x2 x3 x4) (h : P d) : P (Dev.writeTrim d x0 x1 x2 x3 x4) := by
  unfold Dev.writeTrim
  try dsimp only
  with_reducible repeat' first
    | assumption | apply Dev.trimWear_keepsMode c | apply Dev.setCh_keepsMode c | apply Dev.setB_keepsMode c
    | apply Dev.setF_keepsMode c | apply Dev.count_keepsMode c
theorem Dev.fullCommit_keepsMode (c : KeepsMode P) (d x0 x1 x2) (h : P d) : P (Dev.fullCommit d x0 x1 x2) := by
  unfold Dev.fullCommit
  try dsimp only
  with_reducible repeat' first
    | assumption | apply Dev.setChkRef_keepsMode c | apply Dev.writeTrim_keepsMode c
    | (apply foldl_keeps; intro d x hd) | (apply foldl_fst_keeps; intro d x hd) | (apply foldl_snd_keeps; intro d x hd) | apply ite_keeps
    | refine snd_keeps (by assumption) ?_ | refine fst_keeps (by assumption) ?_ | split
theorem Dev.afeFull_keepsMode (c : KeepsMode P) (d x0 x1) (h : P d) : P (Dev.afeFull d x0 x1) := by
  unfold Dev.afeFull
  try dsimp only
  with_reducible repeat' first
    | assumption | apply Dev.fullReport_keepsMode c | apply Dev.flag_keepsMode c | apply Dev.fullRefs_keepsMode c
    | apply Dev.fullCommit_keepsMode c | apply ite_keeps | refine snd_keeps (by assumption) ?_ | refine fst_keeps (by assumption) ?_ | split
theorem Dev.plainWrite_keepsMode (c : KeepsMode P) (d x0 x1) (h : P d) : P (Dev.plainWrite d x0 x1) := by
  unfold Dev.plainWrite
  try dsimp only
  with_reducible repeat' first
    | assumption | apply Dev.setReg_keepsMode c | refine snd_keeps (by assumption) ?_
    | refine fst_keeps (by assumption) ?_ | split
theorem Dev.noTarget_keepsMode (c : KeepsMode P) (d x0) (h : P d) : P (Dev.noTarget d x0) := by
  unfold Dev.noTarget
  try dsimp only
  with_reducible repeat' first
    | assumption | refine snd_keeps (by assumption) ?_ | refine fst_keeps (by assumption) ?_ | split
    | fail_if_no_progress refine KeepsMode.mk' c ?_ rfl
theorem Dev.discarded_keepsMode (c : KeepsMode P) (d x0) (h : P d) : P (Dev.discarded d x0) := by
  unfold Dev.discarded
  try dsimp only
  with_reducible repeat' first | assumption | apply Dev.noTarget_keepsMode c
theorem Dev.tstRefresh_keepsMode (c : KeepsMode P) (d) (h : P d) : P (Dev.tstRefresh d) := by
  unfold Dev.tstRefresh
  try dsimp only
  with_reducible repeat' first
    | assumption | apply Dev.setReg_keepsMode c | apply Dev.setB_keepsMode c | (apply foldl_keeps; intro d x hd)
    | apply ite_keeps
theorem Dev.secRefresh_keepsMode (c : KeepsMode P) (d) (h : P d) : P (Dev.secRefresh d) := by
  unfold Dev.secRefresh
  try dsimp only
  with_reducible repeat' first | assumption | apply Dev.tstRefresh_keepsMode c | apply Dev.setB_keepsMode c | apply Dev.setF_keepsMode c
theorem Dev.coilPhase_keepsMode (c : KeepsMode P) (d x0 x1 x2 x3) (h : P d) : P (Dev.coilPhase d x0 x1 x2 x3) := by
  unfold Dev.coilPhase
  try dsimp only
  with_reducible repeat' first | assumption | apply Dev.setAx_keepsMode c | apply Dev.emit_keepsMode c | apply ite_keeps
theorem Dev.setPower_keepsMode (c : KeepsMode P) (d x0 x1) (h : P d) : P (Dev.setPower d x0 x1) := by
  unfold Dev.setPower
  try dsimp only
  with_reducible repeat' first
    | assumption | apply Dev.coilPhase_keepsMode c | apply Dev.setAx_keepsMode c | apply Dev.setF_keepsMode c
    | apply Dev.emit_keepsMode c | apply ite_keeps | refine snd_keeps (by assumption) ?_ | refine fst_keeps (by assumption) ?_ | split
theorem Dev.floatPins_keepsMode (c : KeepsMode P) (d) (h : P d) : P (Dev.floatPins d) := by
  unfold Dev.floatPins
  try dsimp only
  with_reducible repeat' first | assumption | apply Dev.setPower_keepsMode c | apply Dev.emit_keepsMode c | (apply foldl_keeps; intro d x hd)
theorem Dev.setMissRun_keepsMode (c : KeepsMode P) (d x0 x1) (h : P d) : P (Dev.setMissRun d x0 x1) := by
  unfold Dev.setMissRun
  try dsimp only
  with_reducible repeat' first | assumption | apply ite_keeps | fail_if_no_progress refine KeepsMode.mk' c ?_ rfl
theorem Dev.mapLine_keepsMode (c : KeepsMode P) (d x0 x1) (h : P d) : P (Dev.mapLine d x0 x1) := by
  unfold Dev.mapLine
  try dsimp only
  with_reducible repeat' first | assumption | apply Dev.mapLines_keepsMode c
theorem Dev.requestRaw_keepsMode (c : KeepsMode P) (d x0 x1 x2) (h : P d) : P (Dev.requestRaw d x0 x1 x2) := by
  unfold Dev.requestRaw
  try dsimp only
  with_reducible repeat' first
    | assumption | apply Dev.mapLine_keepsMode c | apply Dev.setGroupUse_keepsMode c | apply ite_keeps
    | refine snd_keeps (by assumption) ?_ | refine fst_keeps (by assumption) ?_ | split
theorem Dev.arrived_keepsMode (c : KeepsMode P) (d x0 x1 x2) (h : P d) : P (Dev.arrived d x0 x1 x2) := by
  unfold Dev.arrived
  try dsimp only
  with_reducible repeat' first
    | assumption | apply Dev.setMissRun_keepsMode c | apply Dev.mapLine_keepsMode c | apply Dev.requestRaw_keepsMode c
    | refine snd_keeps (by assumption) ?_ | refine fst_keeps (by assumption) ?_ | split
theorem Dev.storeReport_keepsMode (c : KeepsMode P) (d x0 x1 x2) (h : P d) : P (Dev.storeReport d x0 x1 x2) := by
  unfold Dev.storeReport
  try dsimp only
  with_reducible repeat' first | assumption | apply Dev.complete_keepsMode c
theorem Dev.attest_keepsMode (c : KeepsMode P) (d x0 x1 x2 x3) (h : P d) : P (Dev.attest d x0 x1 x2 x3) := by
  unfold Dev.attest
  try dsimp only
  with_reducible repeat' first
    | assumption | apply Dev.storeReport_keepsMode c | apply Dev.emit_keepsMode c | apply ite_keeps
    | refine snd_keeps (by assumption) ?_ | refine fst_keeps (by assumption) ?_ | split
theorem Dev.attestCmd_keepsMode (c : KeepsMode P) (d x0 x1 x2 x3) (h : P d) : P (Dev.attestCmd d x0 x1 x2 x3) := by
  unfold Dev.attestCmd
  try dsimp only
  with_reducible repeat' first | assumption | apply Dev.complete_keepsMode c | apply Dev.attest_keepsMode c | apply ite_keeps
theorem Dev.setMeasured_keepsMode (c : KeepsMode P) (d x0 x1) (h : P d) : P (Dev.setMeasured d x0 x1) := by
  unfold Dev.setMeasured
  try dsimp only
  with_reducible repeat' first | assumption | fail_if_no_progress refine KeepsMode.mk' c ?_ rfl
theorem Dev.axisAfter_keepsMode (c : KeepsMode P) (d x0 x1) (h : P d) : P (Dev.axisAfter d x0 x1) := by
  unfold Dev.axisAfter
  try dsimp only
  with_reducible repeat' first | assumption | apply Dev.setMeasured_keepsMode c | apply Dev.setAx_keepsMode c | apply ite_keeps
theorem Dev.axisPeriod_keepsMode (c : KeepsMode P) (d) (h : P d) : P (Dev.axisPeriod d) := by
  unfold Dev.axisPeriod
  try dsimp only
  with_reducible repeat' first
    | assumption | apply Dev.setFI_keepsMode c | apply Dev.setF_keepsMode c | apply ite_keeps
    | fail_if_no_progress refine KeepsMode.mk' c ?_ rfl
theorem Dev.axisStep_keepsMode (c : KeepsMode P) (d) (h : P d) : P (Dev.axisStep d) := by
  unfold Dev.axisStep
  try dsimp only
  with_reducible repeat' first
    | assumption | apply Dev.setF_keepsMode c | apply ite_keeps
    | fail_if_no_progress refine KeepsMode.mk' c ?_ rfl
theorem Dev.setAngleZero_keepsMode (c : KeepsMode P) (d x0) (h : P d) : P (Dev.setAngleZero d x0) := by
  unfold Dev.setAngleZero
  try dsimp only
  with_reducible repeat' first | assumption | apply Dev.set64_keepsMode c
theorem Dev.flowShift_keepsMode (c : KeepsMode P) (d x0) (h : P d) : P (Dev.flowShift d x0) := by
  unfold Dev.flowShift
  try dsimp only
  with_reducible repeat' first
    | assumption | apply Dev.setAngleZero_keepsMode c | apply Dev.setMem_keepsMode c
    | (apply foldl_keeps; intro d x hd) | fail_if_no_progress refine KeepsMode.mk' c ?_ rfl
theorem Dev.setBoundaries_keepsMode (c : KeepsMode P) (d x0) (h : P d) : P (Dev.setBoundaries d x0) := by
  unfold Dev.setBoundaries
  try dsimp only
  with_reducible repeat' first | assumption | apply Dev.setF_keepsMode c | fail_if_no_progress refine KeepsMode.mk' c ?_ rfl
theorem Dev.deliverAnalysis_keepsMode (c : KeepsMode P) (d x0 x1 x2 x3 x4 x5) (h : P d) : P (Dev.deliverAnalysis d x0 x1 x2 x3 x4 x5) := by
  unfold Dev.deliverAnalysis
  try dsimp only
  with_reducible repeat' first
    | assumption | apply Dev.addRecord_keepsMode c | (apply foldl_keeps; intro d x hd)
    | (apply foldl_fst_keeps; intro d x hd) | (apply foldl_snd_keeps; intro d x hd) | apply ite_keeps
theorem Dev.dropEntry_keepsMode (c : KeepsMode P) (d) (h : P d) : P (Dev.dropEntry d) := by
  unfold Dev.dropEntry
  try dsimp only
  with_reducible repeat' first | assumption | apply Dev.count_keepsMode c
theorem Dev.queueEntry_keepsMode (c : KeepsMode P) (d x0) (h : P d) : P (Dev.queueEntry d x0).1 := by
  unfold Dev.queueEntry
  try dsimp only
  with_reducible repeat' first
    | assumption | apply Dev.flag_keepsMode c | apply Dev.dropEntry_keepsMode c | apply Dev.setF_keepsMode c
    | apply ite_keeps | split | fail_if_no_progress refine KeepsMode.mk' c ?_ rfl
theorem Dev.enterStrata_keepsMode (c : KeepsMode P) (d x0 x1) (h : P d) : P (Dev.enterStrata d x0 x1).1 := by
  unfold Dev.enterStrata
  try dsimp only
  with_reducible repeat' first
    | assumption | apply Dev.flag_keepsMode c | apply Dev.dropEntry_keepsMode c | apply Dev.queueEntry_keepsMode c
    | apply ite_keeps | split
theorem Dev.strEnter_keepsMode (c : KeepsMode P) (d x0 x1) (h : P d) : P (Dev.strEnter d x0 x1).1 := by
  unfold Dev.strEnter
  try dsimp only
  with_reducible repeat' first
    | assumption | apply Dev.enterStrata_keepsMode c | apply Dev.flagIf_keepsMode c | apply Dev.dropEntry_keepsMode c
    | apply ite_keeps | split
theorem Dev.sendVia_keepsMode (c : KeepsMode P) (d x0 x1) (h : P d) : P (Dev.sendVia d x0 x1) := by
  unfold Dev.sendVia
  try dsimp only
  with_reducible repeat' first | assumption | apply Dev.emit_keepsMode c | apply ite_keeps
theorem Dev.originate_keepsMode (c : KeepsMode P) (d x0 x1 x2 x3) (h : P d) : P (Dev.originate d x0 x1 x2 x3) := by
  unfold Dev.originate
  try dsimp only
  with_reducible repeat' first | assumption | apply Dev.sendVia_keepsMode c | fail_if_no_progress refine KeepsMode.mk' c ?_ rfl
theorem Dev.sendResult_keepsMode (c : KeepsMode P) (d x0 x1) (h : P d) : P (Dev.sendResult d x0 x1) := by
  unfold Dev.sendResult
  try dsimp only
  with_reducible repeat' first
    | assumption | apply Dev.originate_keepsMode c | apply Dev.count_keepsMode c | apply ite_keeps
    | refine snd_keeps (by assumption) ?_ | refine fst_keeps (by assumption) ?_ | split
theorem Dev.putStrata_keepsMode (c : KeepsMode P) (d x0 x1) (h : P d) : P (Dev.putStrata d x0 x1) := by
  unfold Dev.putStrata
  try dsimp only
  with_reducible repeat' first
    | assumption | apply Dev.deliverAnalysis_keepsMode c | apply Dev.strEnter_keepsMode c | apply Dev.setMem_keepsMode c
    | apply Dev.setBytes_keepsMode c | apply Dev.setF_keepsMode c | apply Dev.haulRequest_keepsMode c | apply Dev.count_keepsMode c
    | apply Dev.sendResult_keepsMode c | apply ite_keeps | split | fail_if_no_progress refine KeepsMode.mk' c ?_ rfl
theorem Dev.strataDiscard_keepsMode (c : KeepsMode P) (d x0) (h : P d) : P (Dev.strataDiscard d x0) := by
  unfold Dev.strataDiscard
  try dsimp only
  with_reducible repeat' first
    | assumption | apply Dev.setBoundaries_keepsMode c | apply Dev.putStrata_keepsMode c
    | (apply foldl_keeps; intro d x hd) | fail_if_no_progress refine KeepsMode.mk' c ?_ rfl
theorem Dev.strataFrame_keepsMode (c : KeepsMode P) (d) (h : P d) : P (Dev.strataFrame d) := by
  unfold Dev.strataFrame
  try dsimp only
  with_reducible repeat' first
    | assumption | apply Dev.strataDiscard_keepsMode c | apply Dev.flagIf_keepsMode c
    | fail_if_no_progress refine KeepsMode.mk' c ?_ rfl
theorem Dev.redefine_keepsMode (c : KeepsMode P) (d x0 x1) (h : P d) : P (Dev.redefine d x0 x1) := by
  unfold Dev.redefine
  try dsimp only
  with_reducible repeat' first
    | assumption | apply Dev.flowShift_keepsMode c | apply Dev.disarm_keepsMode c | apply Dev.setMeasured_keepsMode c
    | apply Dev.strataFrame_keepsMode c | apply Dev.setAx_keepsMode c | apply ite_keeps
theorem Dev.posGo_keepsMode (c : KeepsMode P) (d x0) (h : P d) : P (Dev.posGo d x0) := by
  unfold Dev.posGo
  try dsimp only
  with_reducible repeat' first | assumption | apply Dev.redefine_keepsMode c | apply Dev.flag_keepsMode c | apply ite_keeps
theorem Dev.bankErrors_keepsMode (c : KeepsMode P) (d x0 x1) (h : P d) : P (Dev.bankErrors d x0 x1) := by
  unfold Dev.bankErrors
  try dsimp only
  with_reducible repeat' first
    | assumption | apply Dev.setF_keepsMode c | apply Dev.count_keepsMode c | apply Dev.irq_keepsMode c | apply ite_keeps
    | fail_if_no_progress refine KeepsMode.mk' c ?_ rfl
theorem Dev.barFailed_keepsMode (c : KeepsMode P) (d x0 x1) (h : P d) : P (Dev.barFailed d x0 x1) := by
  unfold Dev.barFailed
  try dsimp only
  with_reducible repeat' first | assumption | apply Dev.setB_keepsMode c | apply Dev.setF_keepsMode c
theorem Dev.rearm_keepsMode (c : KeepsMode P) (d x0) (h : P d) : P (Dev.rearm d x0) := by
  unfold Dev.rearm
  try dsimp only
  with_reducible repeat' first | assumption | apply Dev.setF_keepsMode c
theorem Dev.stepSlots_keepsMode (c : KeepsMode P) (d x0) (h : P d) : P (Dev.stepSlots d x0) := by
  unfold Dev.stepSlots
  try dsimp only
  with_reducible repeat' first | assumption | apply ite_keeps | split | fail_if_no_progress refine KeepsMode.mk' c ?_ rfl
theorem Dev.setDisc_keepsMode (c : KeepsMode P) (d x0 x1) (h : P d) : P (Dev.setDisc d x0 x1) := by
  unfold Dev.setDisc
  try dsimp only
  with_reducible repeat' first | assumption | apply ite_keeps | fail_if_no_progress refine KeepsMode.mk' c ?_ rfl
theorem Dev.netSetGo_keepsMode (c : KeepsMode P) (d) (h : P d) : P (Dev.netSetGo d) := by
  unfold Dev.netSetGo
  try dsimp only
  with_reducible repeat' first | assumption | apply Dev.stepSlots_keepsMode c | apply Dev.setDisc_keepsMode c | apply ite_keeps
theorem Dev.binWrite_keepsMode (c : KeepsMode P) (d x0 x1 x2) (h : P d) : P (Dev.binWrite d x0 x1 x2) := by
  unfold Dev.binWrite
  try dsimp only
  with_reducible repeat' first
    | assumption | apply Dev.accessErr_keepsMode c | apply ite_keeps
    | fail_if_no_progress refine KeepsMode.mk' c ?_ rfl
theorem Dev.calCode_keepsMode (c : KeepsMode P) (d x0 x1 x2 x3 x4 x5) (h : P d) : P (Dev.calCode d x0 x1 x2 x3 x4 x5) := by
  unfold Dev.calCode
  try dsimp only
  with_reducible repeat' first
    | assumption | apply Dev.flag_keepsMode c | apply Dev.writeTrim_keepsMode c | refine snd_keeps (by assumption) ?_
    | refine fst_keeps (by assumption) ?_ | split
theorem Dev.calChan_keepsMode (c : KeepsMode P) (d x0 x1 x2 x3 x4) (h : P d) : P (Dev.calChan d x0 x1 x2 x3 x4) := by
  unfold Dev.calChan
  try dsimp only
  with_reducible repeat' first | assumption | apply Dev.calCode_keepsMode c | apply Dev.setChkRef_keepsMode c | (apply foldl_keeps; intro d x hd)
theorem Dev.bootCal_keepsMode (c : KeepsMode P) (d x0) (h : P d) : P (Dev.bootCal d x0) := by
  unfold Dev.bootCal
  try dsimp only
  with_reducible repeat' first | assumption | apply Dev.setCh_keepsMode c | apply Dev.calChan_keepsMode c | apply Dev.setF_keepsMode c
theorem Dev.hkcSelfcal_keepsMode (c : KeepsMode P) (d x0) (h : P d) : P (Dev.hkcSelfcal d x0).1 := by
  unfold Dev.hkcSelfcal
  try dsimp only
  with_reducible repeat' first
    | assumption | apply Dev.flag_keepsMode c | apply Dev.setFI_keepsMode c | apply Dev.setB_keepsMode c
    | apply Dev.setF_keepsMode c | (apply foldl_keeps; intro d x hd) | (apply foldl_fst_keeps; intro d x hd)
    | (apply foldl_snd_keeps; intro d x hd) | refine snd_keeps (by assumption) ?_ | refine fst_keeps (by assumption) ?_ | split
    | fail_if_no_progress refine KeepsMode.mk' c ?_ rfl
theorem Dev.formTaps_keepsMode (c : KeepsMode P) (d x0) (h : P d) : P (Dev.formTaps d x0) := by
  unfold Dev.formTaps
  try dsimp only
  with_reducible repeat' first | assumption | apply Dev.setCh_keepsMode c | (apply foldl_keeps; intro d x hd) | apply ite_keeps
theorem Dev.reapply_keepsMode (c : KeepsMode P) (d x0) (h : P d) : P (Dev.reapply d x0).1 := by
  unfold Dev.reapply
  try dsimp only
  with_reducible repeat' first
    | assumption | apply Dev.setCh_keepsMode c | apply Dev.setLane_keepsMode c | apply ite_keeps
    | refine snd_keeps (by assumption) ?_ | refine fst_keeps (by assumption) ?_ | split
    | fail_if_no_progress refine KeepsMode.mk' c ?_ rfl
theorem Dev.ledgerBoot_keepsMode (c : KeepsMode P) (d) (h : P d) : P (Dev.ledgerBoot d) := by
  unfold Dev.ledgerBoot
  try dsimp only
  with_reducible repeat' first
    | assumption | apply Dev.formTaps_keepsMode c | apply Dev.setLane_keepsMode c | apply Dev.reapply_keepsMode c
    | apply Dev.setB_keepsMode c | apply Dev.setRoles_keepsMode c | apply Dev.setF_keepsMode c | apply Dev.showLanes_keepsMode c
    | (apply foldl_keeps; intro d x hd) | (apply foldl_fst_keeps; intro d x hd) | (apply foldl_snd_keeps; intro d x hd) | apply ite_keeps
    | split | fail_if_no_progress refine KeepsMode.mk' c ?_ rfl
theorem Dev.imgResult_keepsMode (c : KeepsMode P) (d x0 x1) (h : P d) : P (Dev.imgResult d x0 x1) := by
  unfold Dev.imgResult
  try dsimp only
  with_reducible repeat' first | assumption | apply Dev.setF_keepsMode c
theorem Dev.setSec_keepsMode (c : KeepsMode P) (d : Dev) (x : Sec) (h : P d) : P (d.setSec x) := c d _ rfl h
theorem Dev.imgStart_keepsMode (c : KeepsMode P) (d x0 x1) (h : P d) : P (Dev.imgStart d x0 x1) := by
  unfold Dev.imgStart
  try dsimp only
  with_reducible repeat' first
    | assumption | apply Dev.setSec_keepsMode c | apply Dev.setB_keepsMode c
    | apply Dev.setF_keepsMode c
theorem Dev.imgBoot_keepsMode (c : KeepsMode P) (d x0 x1) (h : P d) : P (Dev.imgBoot d x0 x1).1 := by
  unfold Dev.imgBoot
  try dsimp only
  with_reducible repeat' first | assumption | apply Dev.imgResult_keepsMode c | apply Dev.imgStart_keepsMode c | apply ite_keeps | split
theorem Dev.deriveIdentity_keepsMode (c : KeepsMode P) (d) (h : P d) : P (Dev.deriveIdentity d) := by
  unfold Dev.deriveIdentity
  try dsimp only
  with_reducible repeat' first
    | assumption | apply Dev.setReg_keepsMode c | apply Dev.set64_keepsMode c
    | apply Dev.setSec_keepsMode c | (apply foldl_keeps; intro d x hd)
theorem Dev.bootFail_keepsMode (c : KeepsMode P) (d x0) (h : P d) : P (Dev.bootFail d x0) := by
  unfold Dev.bootFail
  try dsimp only
  with_reducible repeat' first | assumption | apply Dev.setF_keepsMode c
theorem Dev.storeBoot_keepsMode (c : KeepsMode P) (d) (h : P d) : P (Dev.storeBoot d) := by
  unfold Dev.storeBoot
  try dsimp only
  with_reducible repeat' first | assumption | apply Dev.flagIf_keepsMode c | apply Dev.setSec_keepsMode c
theorem Dev.completeQuiet_keepsMode (c : KeepsMode P) (d x0 x1) (h : P d) : P (Dev.completeQuiet d x0 x1) := by
  unfold Dev.completeQuiet
  try dsimp only
  with_reducible repeat' first | assumption | apply Dev.complete_keepsMode c | apply ite_keeps
theorem Dev.boundaryPost_keepsMode (c : KeepsMode P) (d x0 x1 x2 x3 x4 x5) (h : P d) : P (Dev.boundaryPost d x0 x1 x2 x3 x4 x5) := by
  unfold Dev.boundaryPost
  try dsimp only
  with_reducible repeat' first
    | assumption | apply Dev.setBoundaries_keepsMode c | apply Dev.putStrata_keepsMode c | apply Dev.complete_keepsMode c
    | apply Dev.completeQuiet_keepsMode c | apply Dev.count_keepsMode c | apply ite_keeps
    | fail_if_no_progress refine KeepsMode.mk' c ?_ rfl
theorem Dev.bufferFlush_keepsMode (c : KeepsMode P) (d x0) (h : P d) : P (Dev.bufferFlush d x0) := by
  unfold Dev.bufferFlush
  try dsimp only
  with_reducible repeat' first | assumption | apply Dev.closeBuf_keepsMode c | apply ite_keeps
theorem Dev.setSupply_keepsMode (c : KeepsMode P) (d x0 x1) (h : P d) : P (Dev.setSupply d x0 x1) := by
  unfold Dev.setSupply
  try dsimp only
  with_reducible repeat' first | assumption | apply Dev.setF_keepsMode c | fail_if_no_progress refine KeepsMode.mk' c ?_ rfl
theorem Dev.bufferPost_keepsMode (c : KeepsMode P) (d x0 x1 x2) (h : P d) : P (Dev.bufferPost d x0 x1 x2) := by
  unfold Dev.bufferPost
  try dsimp only
  with_reducible repeat' first
    | assumption | apply Dev.complete_keepsMode c | apply Dev.completeQuiet_keepsMode c | apply Dev.setSupply_keepsMode c
    | apply ite_keeps
theorem Dev.cairnLoad_keepsMode (c : KeepsMode P) (d x0 x1) (h : P d) : P (Dev.cairnLoad d x0 x1) := by
  unfold Dev.cairnLoad
  try dsimp only
  with_reducible repeat' first | assumption | apply Dev.stepSlots_keepsMode c | fail_if_no_progress refine KeepsMode.mk' c ?_ rfl
theorem Dev.cairnCopy_keepsMode (c : KeepsMode P) (d x0) (h : P d) : P (Dev.cairnCopy d x0) := by
  unfold Dev.cairnCopy
  try dsimp only
  with_reducible repeat' first | assumption | apply Dev.cairnLoad_keepsMode c | apply ite_keeps
theorem Dev.cairnSetGo_keepsMode (c : KeepsMode P) (d) (h : P d) : P (Dev.cairnSetGo d) := by
  unfold Dev.cairnSetGo
  try dsimp only
  with_reducible repeat' first | assumption | apply Dev.cairnLoad_keepsMode c
theorem Dev.cairnTick_keepsMode (c : KeepsMode P) (d) (h : P d) : P (Dev.cairnTick d) := by
  unfold Dev.cairnTick
  try dsimp only
  with_reducible repeat' first | assumption | apply ite_keeps | fail_if_no_progress refine KeepsMode.mk' c ?_ rfl
theorem Dev.calDarkEnd_keepsMode (c : KeepsMode P) (d x0 x1) (h : P d) : P (Dev.calDarkEnd d x0 x1) := by
  unfold Dev.calDarkEnd
  try dsimp only
  with_reducible repeat' first
    | assumption | apply Dev.calFail_keepsMode c | apply Dev.setCal_keepsMode c | refine snd_keeps (by assumption) ?_
    | refine fst_keeps (by assumption) ?_ | split
theorem Dev.calLine_keepsMode (c : KeepsMode P) (d x0 x1 x2) (h : P d) : P (Dev.calLine d x0 x1 x2) := by
  unfold Dev.calLine
  try dsimp only
  with_reducible repeat' first
    | assumption | apply Dev.setCal_keepsMode c | (apply foldl_keeps; intro d x hd)
    | (apply foldl_fst_keeps; intro d x hd) | (apply foldl_snd_keeps; intro d x hd) | apply ite_keeps
    | refine snd_keeps (by assumption) ?_ | refine fst_keeps (by assumption) ?_ | split
theorem Dev.calWhiteEnd_keepsMode (c : KeepsMode P) (d x0 x1) (h : P d) : P (Dev.calWhiteEnd d x0 x1) := by
  unfold Dev.calWhiteEnd
  try dsimp only
  with_reducible repeat' first
    | assumption | apply Dev.calFail_keepsMode c | apply Dev.setCal_keepsMode c | apply ite_keeps
    | refine snd_keeps (by assumption) ?_ | refine fst_keeps (by assumption) ?_ | split
    | fail_if_no_progress refine KeepsMode.mk' c ?_ rfl
theorem Dev.calSetDone_keepsMode (c : KeepsMode P) (d x0) (h : P d) : P (Dev.calSetDone d x0) := by
  unfold Dev.calSetDone
  try dsimp only
  with_reducible repeat' first
    | assumption | apply Dev.calWhiteEnd_keepsMode c | apply Dev.calFail_keepsMode c | apply Dev.calDarkEnd_keepsMode c
    | apply Dev.setCal_keepsMode c | apply ite_keeps | refine snd_keeps (by assumption) ?_ | refine fst_keeps (by assumption) ?_ | split
theorem Dev.chCtrlWrite_keepsMode (c : KeepsMode P) (d x0 x1 x2) (h : P d) : P (Dev.chCtrlWrite d x0 x1 x2) := by
  unfold Dev.chCtrlWrite
  try dsimp only
  with_reducible repeat' first | assumption | apply Dev.powerCh_keepsMode c | apply Dev.setF_keepsMode c
theorem Dev.chRangeWrite_keepsMode (c : KeepsMode P) (d x0 x1 x2 x3) (h : P d) : P (Dev.chRangeWrite d x0 x1 x2 x3) := by
  unfold Dev.chRangeWrite
  try dsimp only
  with_reducible repeat' first
    | assumption | apply Dev.accessErr_keepsMode c | apply Dev.setReg_keepsMode c | apply Dev.setF_keepsMode c
    | apply ite_keeps
theorem Dev.freeNat_keepsMode (c : KeepsMode P) (d x0) (h : P d) : P (Dev.freeNat d x0).2 := by
  unfold Dev.freeNat
  try dsimp only
  with_reducible repeat' first | assumption | fail_if_no_progress refine KeepsMode.mk' c ?_ rfl
theorem Dev.setChallenge_keepsMode (c : KeepsMode P) (d x0) (h : P d) : P (Dev.setChallenge d x0) := by
  unfold Dev.setChallenge
  try dsimp only
  with_reducible repeat' first
    | assumption | apply Dev.setReg_keepsMode c | apply Dev.setSec_keepsMode c
    | apply Dev.setB_keepsMode c | (apply foldl_keeps; intro d x hd)
theorem Dev.chalReq_keepsMode (c : KeepsMode P) (d) (h : P d) : P (Dev.chalReq d) := by
  unfold Dev.chalReq
  try dsimp only
  with_reducible repeat' first
    | assumption | apply Dev.freeNat_keepsMode c | apply Dev.setChallenge_keepsMode c | apply Dev.setF_keepsMode c
    | apply ite_keeps
theorem Dev.retireCh_keepsMode (c : KeepsMode P) (d x0 x1) (h : P d) : P (Dev.retireCh d x0 x1) := by
  unfold Dev.retireCh
  try dsimp only
  with_reducible repeat' first | assumption | apply Dev.setCh_keepsMode c | apply Dev.powerDown_keepsMode c | apply Dev.setF_keepsMode c
theorem Dev.ledgerEvent_keepsMode (c : KeepsMode P) (d x0) (h : P d) : P (Dev.ledgerEvent d x0) := by
  unfold Dev.ledgerEvent
  try dsimp only
  with_reducible repeat' first
    | assumption | apply Dev.flag_keepsMode c | apply Dev.setF_keepsMode c | apply ite_keeps
    | fail_if_no_progress refine KeepsMode.mk' c ?_ rfl
theorem Dev.connect_keepsMode (c : KeepsMode P) (d x0 x1 x2) (h : P d) : P (Dev.connect d x0 x1 x2) := by
  unfold Dev.connect
  try dsimp only
  with_reducible repeat' first | assumption | apply Dev.setSource_keepsMode c | apply Dev.setCh_keepsMode c
theorem Dev.substitute_keepsMode (c : KeepsMode P) (d x0 x1 x2 x3) (h : P d) : P (Dev.substitute d x0 x1 x2 x3) := by
  unfold Dev.substitute
  try dsimp only
  with_reducible repeat' first
    | assumption | apply Dev.setReg_keepsMode c | apply Dev.retireCh_keepsMode c | apply Dev.ledgerEvent_keepsMode c
    | apply Dev.setCh_keepsMode c | apply Dev.connect_keepsMode c | apply Dev.markChecked_keepsMode c | apply Dev.setB_keepsMode c
    | apply Dev.setF_keepsMode c | apply ite_keeps | refine snd_keeps (by assumption) ?_ | refine fst_keeps (by assumption) ?_ | split
theorem Dev.chkFail_keepsMode (c : KeepsMode P) (d x0 x1) (h : P d) : P (Dev.chkFail d x0 x1) := by
  unfold Dev.chkFail
  try dsimp only
  with_reducible repeat' first
    | assumption | apply Dev.retireCh_keepsMode c | apply Dev.ledgerEvent_keepsMode c | apply Dev.flag_keepsMode c
    | apply Dev.setCh_keepsMode c | apply Dev.markChecked_keepsMode c | apply Dev.substitute_keepsMode c | apply Dev.setF_keepsMode c | apply ite_keeps
    | refine snd_keeps (by assumption) ?_ | refine fst_keeps (by assumption) ?_ | split
theorem Dev.checkCh_keepsMode (c : KeepsMode P) (d x0 x1 x2) (h : P d) : P (Dev.checkCh d x0 x1 x2) := by
  unfold Dev.checkCh
  try dsimp only
  with_reducible repeat' first | assumption | apply Dev.chkFail_keepsMode c | apply Dev.setCh_keepsMode c | apply ite_keeps
theorem Dev.releaseRaw_keepsMode (c : KeepsMode P) (d) (h : P d) : P (Dev.releaseRaw d) := by
  unfold Dev.releaseRaw
  try dsimp only
  with_reducible repeat' first
    | assumption | apply Dev.setGroupUse_keepsMode c | (apply foldl_keeps; intro d x hd)
    | refine snd_keeps (by assumption) ?_ | refine fst_keeps (by assumption) ?_ | split
    | fail_if_no_progress refine KeepsMode.mk' c ?_ rfl
theorem Dev.channelCheck_keepsMode (c : KeepsMode P) (d x0 x1) (h : P d) : P (Dev.channelCheck d x0 x1) := by
  unfold Dev.channelCheck
  try dsimp only
  with_reducible repeat' first
    | assumption | apply Dev.checkCh_keepsMode c | apply Dev.releaseRaw_keepsMode c | apply Dev.markChecked_keepsMode c
    | apply Dev.count_keepsMode c | (apply forGC_keeps; intro d g c' hd) | apply ite_keeps
theorem Dev.chargeMatch_keepsMode (c : KeepsMode P) (d x0 x1) (h : P d) : P (Dev.chargeMatch d x0 x1).2 := by
  unfold Dev.chargeMatch
  try dsimp only
  with_reducible repeat' first
    | assumption | apply Dev.freeNat_keepsMode c | apply ite_keeps | refine snd_keeps (by assumption) ?_
    | refine fst_keeps (by assumption) ?_ | split
theorem Dev.checkStops_keepsMode (c : KeepsMode P) (d) (h : P d) : P (Dev.checkStops d) := by
  unfold Dev.checkStops
  try dsimp only
  with_reducible repeat' first | assumption | apply Dev.checkStop_keepsMode c | (apply foldl_keeps; intro d x hd)
theorem Dev.chopperOn_keepsMode (c : KeepsMode P) (d x0 x1) (h : P d) : P (Dev.chopperOn d x0 x1) := by
  unfold Dev.chopperOn
  try dsimp only
  with_reducible repeat' first | assumption | apply Dev.coilPhase_keepsMode c | apply ite_keeps
theorem Dev.chopperTrip_keepsMode (c : KeepsMode P) (d x0 x1 x2) (h : P d) : P (Dev.chopperTrip d x0 x1 x2) := by
  unfold Dev.chopperTrip
  try dsimp only
  with_reducible repeat' first | assumption | apply Dev.coilPhase_keepsMode c | apply Dev.setF_keepsMode c | apply ite_keeps
theorem Dev.closeMeas_keepsMode (c : KeepsMode P) (d x0) (h : P d) : P (Dev.closeMeas d x0) := by
  unfold Dev.closeMeas
  try dsimp only
  with_reducible repeat' first | assumption | apply Dev.setMeas_keepsMode c | fail_if_no_progress refine KeepsMode.mk' c ?_ rfl
theorem Dev.coilPeriod_keepsMode (c : KeepsMode P) (d x0 x1) (h : P d) : P (Dev.coilPeriod d x0 x1) := by
  unfold Dev.coilPeriod
  try dsimp only
  with_reducible repeat' first | assumption | apply Dev.flagIf_keepsMode c | apply Dev.setAx_keepsMode c
theorem Dev.sqRefresh_keepsMode (c : KeepsMode P) (d x0) (h : P d) : P (Dev.sqRefresh d x0) := by
  unfold Dev.sqRefresh
  try dsimp only
  with_reducible repeat' first | assumption | apply Dev.setF_keepsMode c | apply ite_keeps
theorem Dev.invalidOpcode_keepsMode (c : KeepsMode P) (d x0) (h : P d) : P (Dev.invalidOpcode d x0) := by
  unfold Dev.invalidOpcode
  try dsimp only
  with_reducible repeat' first | assumption | apply Dev.complete_keepsMode c
theorem Dev.tableLoad_keepsMode (c : KeepsMode P) (d x0 x1 x2 x3 x4) (h : P d) : P (Dev.tableLoad d x0 x1 x2 x3 x4) := by
  unfold Dev.tableLoad
  try dsimp only
  with_reducible repeat' first
    | assumption | apply Dev.startRun_keepsMode c | apply Dev.complete_keepsMode c | apply Dev.barFailed_keepsMode c
    | apply Dev.setF_keepsMode c | apply ite_keeps | fail_if_no_progress refine KeepsMode.mk' c ?_ rfl
theorem Dev.holdsDone_keepsMode (c : KeepsMode P) (d) (h : P d) : P (Dev.holdsDone d) := by
  unfold Dev.holdsDone
  try dsimp only
  with_reducible repeat' first | assumption | apply Dev.finish_keepsMode c | (apply foldl_keeps; intro d x hd)
theorem Dev.holdCmd_keepsMode (c : KeepsMode P) (d x0 x1) (h : P d) : P (Dev.holdCmd d x0 x1) := by
  unfold Dev.holdCmd
  try dsimp only
  with_reducible repeat' first
    | assumption | apply Dev.startRun_keepsMode c | apply Dev.complete_keepsMode c | apply Dev.holdsDone_keepsMode c
    | apply Dev.stopAxes_keepsMode c | apply Dev.refFail_keepsMode c | (apply foldl_keeps; intro d x hd) | apply ite_keeps
theorem Dev.moveCoord_keepsMode (c : KeepsMode P) (d x0 x1 x2 x3 x4 x5) (h : P d) : P (Dev.moveCoord d x0 x1 x2 x3 x4 x5) := by
  unfold Dev.moveCoord
  try dsimp only
  with_reducible repeat' first
    | assumption | apply Dev.moveCmd_keepsMode c | apply Dev.complete_keepsMode c | apply ite_keeps
    | refine snd_keeps (by assumption) ?_ | refine fst_keeps (by assumption) ?_ | split
theorem Dev.hkcCalRun_keepsMode (c : KeepsMode P) (d x0 x1) (h : P d) : P (Dev.hkcCalRun d x0 x1) := by
  unfold Dev.hkcCalRun
  try dsimp only
  with_reducible repeat' first
    | assumption | apply Dev.hkcSelfcal_keepsMode c | apply Dev.flag_keepsMode c | apply Dev.complete_keepsMode c
    | apply Dev.setF_keepsMode c | apply ite_keeps
theorem Dev.flashProgram_keepsMode (c : KeepsMode P) (d x0) (h : P d) : P (Dev.flashProgram d x0) := by
  unfold Dev.flashProgram
  try dsimp only
  with_reducible repeat' first | assumption | apply Dev.setFlash_keepsMode c | (apply foldl_keeps; intro d x hd)
theorem Dev.flashWrite_keepsMode (c : KeepsMode P) (d x0 x1 x2 x3) (h : P d) : P (Dev.flashWrite d x0 x1 x2 x3).1 := by
  unfold Dev.flashWrite
  try dsimp only
  with_reducible repeat' first
    | assumption | apply Dev.flashErase_keepsMode c | apply Dev.flashProgram_keepsMode c | apply Dev.setFlash_keepsMode c
    | refine snd_keeps (by assumption) ?_ | refine fst_keeps (by assumption) ?_ | split
theorem Dev.writeFirmware_keepsMode (c : KeepsMode P) (d x0 x1 x2 x3) (h : P d) : P (Dev.writeFirmware d x0 x1 x2 x3) := by
  unfold Dev.writeFirmware
  try dsimp only
  with_reducible repeat' first
    | assumption | apply Dev.flashWrite_keepsMode c | apply Dev.storeReport_keepsMode c
    | apply Dev.setF_keepsMode c | apply ite_keeps | refine snd_keeps (by assumption) ?_ | refine fst_keeps (by assumption) ?_ | split
theorem Dev.writeCalStore_keepsMode (c : KeepsMode P) (d x0 x1 x2 x3) (h : P d) : P (Dev.writeCalStore d x0 x1 x2 x3) := by
  unfold Dev.writeCalStore
  try dsimp only
  with_reducible repeat' first
    | assumption | apply Dev.secRefresh_keepsMode c | apply Dev.flashWrite_keepsMode c
    | apply Dev.storeReport_keepsMode c | apply Dev.setSec_keepsMode c | apply Dev.setF_keepsMode c
    | apply ite_keeps | refine snd_keeps (by assumption) ?_ | refine fst_keeps (by assumption) ?_ | split
theorem Dev.storeCmd_keepsMode (c : KeepsMode P) (d src a n f) (hf : ∀ d, P d → P (f d)) (h : P d) : P (Dev.storeCmd d src a n f) := by
  unfold Dev.storeCmd
  try dsimp only
  with_reducible repeat' first
    | assumption | apply hf | apply Dev.complete_keepsMode c | apply Dev.emit_keepsMode c | apply Dev.accessErr_keepsMode c
    | apply ite_keeps
theorem Dev.setOtp_keepsMode (c : KeepsMode P) (d : Dev) (x : Otp) (h : P d) : P (d.setOtp x) := c d _ rfl h
theorem Dev.otpRequest_keepsMode (c : KeepsMode P) (d x0 x1 x2 x3) (h : P d) : P (Dev.otpRequest d x0 x1 x2 x3) := by
  unfold Dev.otpRequest
  try dsimp only
  with_reducible repeat' first
    | assumption | apply Dev.secRefresh_keepsMode c | apply Dev.storeReport_keepsMode c
    | apply Dev.setF_keepsMode c | apply Dev.setOtp_keepsMode c | apply ite_keeps | refine snd_keeps (by assumption) ?_
    | refine fst_keeps (by assumption) ?_ | split
theorem Dev.storeWrite_keepsMode (c : KeepsMode P) (d x0 x1 x2 x3 x4) (h : P d) : P (Dev.storeWrite d x0 x1 x2 x3 x4) := by
  unfold Dev.storeWrite
  try dsimp only
  with_reducible repeat' first
    | assumption | apply Dev.writeFirmware_keepsMode c | apply Dev.storeReport_keepsMode c
    | apply Dev.writeCalStore_keepsMode c | ((apply Dev.storeCmd_keepsMode c); intro d hd) | apply Dev.otpRequest_keepsMode c
    | apply ite_keeps
theorem Dev.shadingFull_keepsMode (c : KeepsMode P) (d x0) (h : P d) : P (Dev.shadingFull d x0) := by
  unfold Dev.shadingFull
  try dsimp only
  with_reducible repeat' first
    | assumption | apply Dev.calDark_keepsMode c | apply Dev.setCalUse_keepsMode c | apply Dev.calFail_keepsMode c
    | apply Dev.startRun_keepsMode c | apply Dev.complete_keepsMode c | apply Dev.setF_keepsMode c | apply Dev.setCal_keepsMode c | apply ite_keeps
    | refine snd_keeps (by assumption) ?_ | refine fst_keeps (by assumption) ?_ | split
    | fail_if_no_progress refine KeepsMode.mk' c ?_ rfl
theorem Dev.nop_keepsMode (c : KeepsMode P) (d x0) (h : P d) : P (Dev.nop d x0) := by
  unfold Dev.nop
  try dsimp only
  with_reducible repeat' first | assumption | apply Dev.complete_keepsMode c | apply ite_keeps
theorem Dev.schedule_keepsMode (c : KeepsMode P) (d x0 x1 x2 x3 x4 x5 x6) (h : P d) : P (Dev.schedule d x0 x1 x2 x3 x4 x5 x6) := by
  unfold Dev.schedule
  try dsimp only
  with_reducible repeat' first
    | assumption | apply Dev.startRun_keepsMode c | apply Dev.complete_keepsMode c | apply ite_keeps
    | fail_if_no_progress refine KeepsMode.mk' c ?_ rfl
theorem Dev.runCommand_keepsMode (c : KeepsMode P) (d x0 x1 x2 x3) (h : P d) : P (Dev.runCommand d x0 x1 x2 x3) := by
  unfold Dev.runCommand
  try dsimp only
  with_reducible repeat' first
    | assumption | apply Dev.tableLoad_keepsMode c | apply Dev.afeFull_keepsMode c
    | apply Dev.ctxStop_keepsMode c | apply Dev.resumeCmd_keepsMode c | apply Dev.abortCmd_keepsMode c
    | apply Dev.holdCmd_keepsMode c | apply Dev.ctxStart_keepsMode c | apply Dev.moveCoord_keepsMode c
    | apply Dev.bufferPost_keepsMode c | apply Dev.hkcCalRun_keepsMode c | apply Dev.moveOne_keepsMode c
    | apply Dev.complete_keepsMode c | apply Dev.storeWrite_keepsMode c | apply Dev.shadingFull_keepsMode c
    | apply Dev.attestCmd_keepsMode c | apply Dev.boundaryPost_keepsMode c | apply Dev.nop_keepsMode c
    | apply Dev.schedule_keepsMode c | apply ite_keeps
theorem Dev.startEntry_keepsMode (c : KeepsMode P) (d x0 x1 x2) (h : P d) : P (Dev.startEntry d x0 x1 x2) := by
  unfold Dev.startEntry
  try dsimp only
  with_reducible repeat' first
    | assumption | apply Dev.invalidOpcode_keepsMode c | apply Dev.runCommand_keepsMode c
    | apply Dev.complete_keepsMode c | apply ite_keeps | refine snd_keeps (by assumption) ?_ | refine fst_keeps (by assumption) ?_
    | split
theorem Dev.commandStart_keepsMode (c : KeepsMode P) (d x0) (h : P d) : P (Dev.commandStart d x0) := by
  unfold Dev.commandStart
  try dsimp only
  with_reducible repeat' first
    | assumption | apply Dev.sqRefresh_keepsMode c | apply Dev.startEntry_keepsMode c
    | apply Dev.setSq_keepsMode c | apply Dev.setF_keepsMode c | apply ite_keeps | refine snd_keeps (by assumption) ?_
    | refine fst_keeps (by assumption) ?_ | split | fail_if_no_progress refine KeepsMode.mk' c ?_ rfl
theorem Dev.squeezeTrim_keepsMode (c : KeepsMode P) (d x0 x1 x2 x3 x4 x5) (h : P d) : P (Dev.squeezeTrim d x0 x1 x2 x3 x4 x5) := by
  unfold Dev.squeezeTrim
  try dsimp only
  with_reducible repeat' first
    | assumption | apply Dev.flag_keepsMode c | apply Dev.flagIf_keepsMode c | apply Dev.writeTrim_keepsMode c
    | apply ite_keeps | refine snd_keeps (by assumption) ?_ | refine fst_keeps (by assumption) ?_ | split
theorem Dev.commitPoint_keepsMode (c : KeepsMode P) (d x0 x1) (h : P d) : P (Dev.commitPoint d x0 x1) := by
  unfold Dev.commitPoint
  try dsimp only
  with_reducible repeat' first
    | assumption | apply Dev.refVerdict_keepsMode c | apply Dev.setChkRef_keepsMode c | apply Dev.setGrp_keepsMode c
    | apply Dev.squeezeTrim_keepsMode c | apply ite_keeps | refine snd_keeps (by assumption) ?_ | refine fst_keeps (by assumption) ?_ | split
theorem Dev.commitRefs_keepsMode (c : KeepsMode P) (d x0 x1 x2 x3) (h : P d) : P (Dev.commitRefs d x0 x1 x2 x3) := by
  unfold Dev.commitRefs
  try dsimp only
  with_reducible repeat' first
    | assumption | apply Dev.freeNat_keepsMode c | apply Dev.setMem_keepsMode c | refine snd_keeps (by assumption) ?_
    | refine fst_keeps (by assumption) ?_ | split
theorem Dev.commitWords_keepsMode (c : KeepsMode P) (d x0 x1 x2 x3 x4) (h : P d) : P (Dev.commitWords d x0 x1 x2 x3 x4) := by
  unfold Dev.commitWords
  try dsimp only
  with_reducible repeat' first
    | assumption | apply Dev.freeNat_keepsMode c | apply Dev.setMem_keepsMode c | (apply foldl_keeps; intro d x hd)
    | (apply foldl_fst_keeps; intro d x hd) | (apply foldl_snd_keeps; intro d x hd) | apply ite_keeps
    | refine snd_keeps (by assumption) ?_ | refine fst_keeps (by assumption) ?_ | split
theorem Dev.commitSet_keepsMode (c : KeepsMode P) (d x0 x1) (h : P d) : P (Dev.commitSet d x0 x1) := by
  unfold Dev.commitSet
  try dsimp only
  with_reducible repeat' first
    | assumption | apply Dev.commitWords_keepsMode c | apply Dev.putValid_keepsMode c | apply Dev.commitRefs_keepsMode c
    | apply Dev.setMem_keepsMode c | (apply foldl_keeps; intro d x hd)
theorem Dev.setRb_keepsMode (c : KeepsMode P) (d x0 x1) (h : P d) : P (Dev.setRb d x0 x1) := by
  unfold Dev.setRb
  try dsimp only
  with_reducible repeat' first | assumption | apply Dev.setF_keepsMode c
theorem Dev.compareEnd_keepsMode (c : KeepsMode P) (d x0 x1) (h : P d) : P (Dev.compareEnd d x0 x1) := by
  unfold Dev.compareEnd
  try dsimp only
  with_reducible repeat' first
    | assumption | apply Dev.setRb_keepsMode c | apply Dev.flag_keepsMode c | apply Dev.disconnect_keepsMode c
    | apply Dev.setGrp_keepsMode c | apply Dev.setF_keepsMode c | apply ite_keeps | refine snd_keeps (by assumption) ?_
    | refine fst_keeps (by assumption) ?_ | split
theorem Dev.completionWrite_keepsMode (c : KeepsMode P) (d x0) (h : P d) : P (Dev.completionWrite d x0) := by
  unfold Dev.completionWrite
  try dsimp only
  with_reducible repeat' first
    | assumption | apply Dev.setCq_keepsMode c | apply Dev.cqWrite_keepsMode c | apply ite_keeps
    | refine snd_keeps (by assumption) ?_ | refine fst_keeps (by assumption) ?_ | split
theorem Dev.cqCfgWrite_keepsMode (c : KeepsMode P) (d x0 x1 x2) (h : P d) : P (Dev.cqCfgWrite d x0 x1 x2) := by
  unfold Dev.cqCfgWrite
  try dsimp only
  with_reducible repeat' first
    | assumption | apply Dev.setReg_keepsMode c | apply Dev.setCq_keepsMode c | apply Dev.setF_keepsMode c
    | refine Dev.cfgRefused_keepsMode c (by assumption) ?_ | apply ite_keeps | refine snd_keeps (by assumption) ?_
    | refine fst_keeps (by assumption) ?_ | split
theorem Dev.doorbellRefused_keepsMode (c : KeepsMode P) (d x0 x1 x2) (h : P d) : P (Dev.doorbellRefused d x0 x1 x2) := by
  unfold Dev.doorbellRefused
  try dsimp only
  with_reducible repeat' first | assumption | apply Dev.accessErr_keepsMode c | apply ite_keeps
theorem Dev.cqDoorbell_keepsMode (c : KeepsMode P) (d x0 x1 x2) (h : P d) : P (Dev.cqDoorbell d x0 x1 x2) := by
  unfold Dev.cqDoorbell
  try dsimp only
  with_reducible repeat' first
    | assumption | apply Dev.setCq_keepsMode c | apply Dev.doorbellRefused_keepsMode c | apply Dev.setF_keepsMode c
    | apply Dev.irq_keepsMode c | apply ite_keeps
theorem Dev.cycleStart_keepsMode (c : KeepsMode P) (d x0) (h : P d) : P (Dev.cycleStart d x0) := by
  unfold Dev.cycleStart
  try dsimp only
  with_reducible repeat' first | assumption | apply Dev.setGrp_keepsMode c | apply ite_keeps
theorem Dev.pbaSend_keepsMode (c : KeepsMode P) (d x0) (h : P d) : P (Dev.pbaSend d x0) := by
  unfold Dev.pbaSend
  try dsimp only
  with_reducible repeat' first
    | assumption | apply Dev.sendMsi_keepsMode c | apply ite_keeps
    | fail_if_no_progress refine KeepsMode.mk' c ?_ rfl
theorem Dev.d0_keepsMode (c : KeepsMode P) (d) (h : P d) : P (Dev.d0 d) := by
  unfold Dev.d0
  try dsimp only
  with_reducible repeat' first
    | assumption | apply Dev.pbaSend_keepsMode c | (apply foldl_keeps; intro d x hd)
    | fail_if_no_progress refine KeepsMode.mk' c ?_ rfl
theorem Dev.d3Aborts_keepsMode (c : KeepsMode P) (d) (h : P d) : P (Dev.d3Aborts d) := by
  unfold Dev.d3Aborts
  try dsimp only
  with_reducible repeat' first
    | assumption | apply Dev.abortRun_keepsMode c | (apply foldl_keeps; intro d x hd)
    | (apply foldl_fst_keeps; intro d x hd) | (apply foldl_snd_keeps; intro d x hd) | refine snd_keeps (by assumption) ?_
    | refine fst_keeps (by assumption) ?_ | split
theorem Dev.d3hot_keepsMode (c : KeepsMode P) (d) (h : P d) : P (Dev.d3hot d) := by
  unfold Dev.d3hot
  try dsimp only
  with_reducible repeat' first
    | assumption | apply Dev.acceptMode_keepsMode c | apply Dev.d3Aborts_keepsMode c | apply Dev.setF_keepsMode c
    | apply ite_keeps | fail_if_no_progress refine KeepsMode.mk' c ?_ rfl
theorem Dev.lockNow_keepsMode (c : KeepsMode P) (d) (h : P d) : P (Dev.lockNow d) := by
  unfold Dev.lockNow
  try dsimp only
  with_reducible repeat' first | assumption | apply Dev.secRefresh_keepsMode c | apply Dev.setSec_keepsMode c
theorem Dev.respGo_keepsMode (c : KeepsMode P) (d) (h : P d) : P (Dev.respGo d) := by
  unfold Dev.respGo
  try dsimp only
  with_reducible repeat' first
    | assumption | apply Dev.secRefresh_keepsMode c | apply Dev.setChallenge_keepsMode c
    | apply Dev.setSec_keepsMode c | apply Dev.setF_keepsMode c | apply ite_keeps | refine snd_keeps (by assumption) ?_
    | refine fst_keeps (by assumption) ?_ | split
theorem Dev.dropRecord_keepsMode (c : KeepsMode P) (d x0) (h : P d) : P (Dev.dropRecord d x0) := by
  unfold Dev.dropRecord
  try dsimp only
  with_reducible repeat' first | assumption | apply Dev.setCtx_keepsMode c
theorem Dev.deliverTo_keepsMode (c : KeepsMode P) (d x0 x1 x2 x3 x4) (h : P d) : P (Dev.deliverTo d x0 x1 x2 x3 x4) := by
  unfold Dev.deliverTo
  try dsimp only
  with_reducible repeat' first | assumption | apply Dev.addRecord_keepsMode c | apply Dev.dropRecord_keepsMode c | apply ite_keeps
theorem Dev.deliver_keepsMode (c : KeepsMode P) (d x0 x1 x2 x3) (h : P d) : P (Dev.deliver d x0 x1 x2 x3) := by
  unfold Dev.deliver
  try dsimp only
  with_reducible repeat' first | assumption | apply Dev.deliverTo_keepsMode c | (apply foldl_keeps; intro d x hd)
theorem Dev.measureBase_keepsMode (c : KeepsMode P) (d x0 x1) (h : P d) : P (Dev.measureBase d x0 x1) := by
  unfold Dev.measureBase
  try dsimp only
  with_reducible repeat' first
    | assumption | apply Dev.stepSlots_keepsMode c | apply Dev.setFI_keepsMode c | apply Dev.setDisc_keepsMode c
    | apply Dev.setF_keepsMode c | apply ite_keeps
theorem Dev.gotFollow_keepsMode (c : KeepsMode P) (d x0) (h : P d) : P (Dev.gotFollow d x0) := by
  unfold Dev.gotFollow
  try dsimp only
  with_reducible repeat' first | assumption | apply Dev.measureBase_keepsMode c | apply ite_keeps
theorem Dev.enterSurvey_keepsMode (c : KeepsMode P) (d x0 x1 x2 x3) (h : P d) : P (Dev.enterSurvey d x0 x1 x2 x3) := by
  unfold Dev.enterSurvey
  try dsimp only
  with_reducible repeat' first | assumption | apply Dev.dropEntry_keepsMode c | apply Dev.queueEntry_keepsMode c | apply ite_keeps
theorem Dev.gotResult_keepsMode (c : KeepsMode P) (d x0) (h : P d) : P (Dev.gotResult d x0) := by
  unfold Dev.gotResult
  try dsimp only
  with_reducible repeat' first | assumption | apply Dev.enterStrata_keepsMode c | apply Dev.enterSurvey_keepsMode c | apply ite_keeps
theorem Dev.gotRefEdge_keepsMode (c : KeepsMode P) (d x0) (h : P d) : P (Dev.gotRefEdge d x0) := by
  unfold Dev.gotRefEdge
  try dsimp only
  with_reducible repeat' first
    | assumption | apply Dev.redefine_keepsMode c | apply Dev.flag_keepsMode c | apply ite_keeps
    | refine snd_keeps (by assumption) ?_ | refine fst_keeps (by assumption) ?_ | split
theorem Dev.setTet_keepsMode (c : KeepsMode P) (d x0) (h : P d) : P (Dev.setTet d x0) := by
  unfold Dev.setTet
  try dsimp only
  with_reducible repeat' first | assumption | fail_if_no_progress refine KeepsMode.mk' c ?_ rfl
theorem Dev.masterConflict_keepsMode (c : KeepsMode P) (d) (h : P d) : P (Dev.masterConflict d) := by
  unfold Dev.masterConflict
  try dsimp only
  with_reducible repeat' first | assumption | apply Dev.flag_keepsMode c | apply Dev.setTet_keepsMode c | apply Dev.stopAxes_keepsMode c
theorem Dev.gotGovernor_keepsMode (c : KeepsMode P) (d x0) (h : P d) : P (Dev.gotGovernor d x0) := by
  unfold Dev.gotGovernor
  try dsimp only
  with_reducible repeat' first
    | assumption | apply Dev.flagIf_keepsMode c | apply Dev.setTet_keepsMode c | apply Dev.setB_keepsMode c
    | apply Dev.masterConflict_keepsMode c | apply ite_keeps
theorem Dev.netRole_keepsMode (c : KeepsMode P) (d x0) (h : P d) : P (Dev.netRole d x0) := by
  unfold Dev.netRole
  try dsimp only
  with_reducible repeat' first | assumption | apply Dev.setDisc_keepsMode c | apply Dev.setF_keepsMode c | apply ite_keeps
theorem Dev.setTimingMaster_keepsMode (c : KeepsMode P) (d x0) (h : P d) : P (Dev.setTimingMaster d x0) := by
  unfold Dev.setTimingMaster
  try dsimp only
  with_reducible repeat' first | assumption | apply Dev.netRole_keepsMode c | apply Dev.setB_keepsMode c
theorem Dev.gotSync_keepsMode (c : KeepsMode P) (d x0 x1 x2) (h : P d) : P (Dev.gotSync d x0 x1 x2) := by
  unfold Dev.gotSync
  try dsimp only
  with_reducible repeat' first
    | assumption | apply Dev.setTet_keepsMode c | apply Dev.setTimingMaster_keepsMode c | apply Dev.setF_keepsMode c
    | apply ite_keeps
theorem Dev.deliverFrame_keepsMode (c : KeepsMode P) (d x0 x1 x2) (h : P d) : P (Dev.deliverFrame d x0 x1 x2) := by
  unfold Dev.deliverFrame
  try dsimp only
  with_reducible repeat' first
    | assumption | apply Dev.gotFollow_keepsMode c | apply Dev.gotResult_keepsMode c | apply Dev.gotRefEdge_keepsMode c
    | apply Dev.gotGovernor_keepsMode c | apply Dev.gotSync_keepsMode c | apply ite_keeps | refine snd_keeps (by assumption) ?_
    | refine fst_keeps (by assumption) ?_ | split
theorem Dev.setI2c_keepsMode (c : KeepsMode P) (d x0 x1) (h : P d) : P (Dev.setI2c d x0 x1) := by
  unfold Dev.setI2c
  try dsimp only
  with_reducible repeat' first | assumption | apply Dev.setF_keepsMode c | fail_if_no_progress refine KeepsMode.mk' c ?_ rfl
theorem Dev.i2cSettle_keepsMode (c : KeepsMode P) (d x0) (h : P d) : P (Dev.i2cSettle d x0) := by
  unfold Dev.i2cSettle
  try dsimp only
  with_reducible repeat' first | assumption | apply Dev.setI2c_keepsMode c
theorem Dev.i2cPop_keepsMode (c : KeepsMode P) (d x0 x1) (h : P d) : P (Dev.i2cPop d x0 x1).2 := by
  unfold Dev.i2cPop
  try dsimp only
  with_reducible repeat' first
    | assumption | apply Dev.accessErr_keepsMode c | apply Dev.i2cSettle_keepsMode c | apply Dev.setI2c_keepsMode c
    | apply ite_keeps | split
theorem Dev.setHkc_keepsMode (c : KeepsMode P) (d x0 x1) (h : P d) : P (Dev.setHkc d x0 x1) := by
  unfold Dev.setHkc
  try dsimp only
  with_reducible repeat' first | assumption | fail_if_no_progress refine KeepsMode.mk' c ?_ rfl
theorem Dev.setFifo_keepsMode (c : KeepsMode P) (d x0 x1) (h : P d) : P (Dev.setFifo d x0 x1) := by
  unfold Dev.setFifo
  try dsimp only
  with_reducible repeat' first | assumption | apply Dev.setHkc_keepsMode c | apply Dev.setF_keepsMode c
theorem Dev.hkcPop_keepsMode (c : KeepsMode P) (d x0 x1 x2) (h : P d) : P (Dev.hkcPop d x0 x1 x2).2 := by
  unfold Dev.hkcPop
  try dsimp only
  with_reducible repeat' first
    | assumption | apply Dev.accessErr_keepsMode c | apply Dev.setFifo_keepsMode c
    | refine snd_keeps (by assumption) ?_ | refine fst_keeps (by assumption) ?_ | split
theorem Dev.readWindow_keepsMode (c : KeepsMode P) (d x0 x1) (h : P d) : P (Dev.readWindow d x0 x1).2 := by
  unfold Dev.readWindow
  try dsimp only
  with_reducible repeat' first
    | assumption | apply Dev.noTarget_keepsMode c | apply Dev.i2cPop_keepsMode c | apply Dev.hkcPop_keepsMode c
    | refine snd_keeps (by assumption) ?_ | refine fst_keeps (by assumption) ?_ | split
theorem Dev.setShadow_keepsMode (c : KeepsMode P) (d x0 x1 x2) (h : P d) : P (Dev.setShadow d x0 x1 x2) := by
  unfold Dev.setShadow
  try dsimp only
  with_reducible repeat' first | assumption | fail_if_no_progress refine KeepsMode.mk' c ?_ rfl
theorem Dev.readReg_keepsMode (c : KeepsMode P) (d x0 x1 x2) (h : P d) : P (Dev.readReg d x0 x1 x2).2 := by
  unfold Dev.readReg
  try dsimp only
  with_reducible repeat' first
    | assumption | apply Dev.setReg_keepsMode c | apply Dev.sumpNote_keepsMode c | apply Dev.setShadow_keepsMode c
    | (apply foldl_keeps; intro d x hd) | (apply foldl_fst_keeps; intro d x hd) | (apply foldl_snd_keeps; intro d x hd) | apply ite_keeps
    | split
theorem Dev.readWord_keepsMode (c : KeepsMode P) (d x0 x1) (h : P d) : P (Dev.readWord d x0 x1).2 := by
  unfold Dev.readWord
  try dsimp only
  with_reducible repeat' first
    | assumption | apply Dev.readWindow_keepsMode c | apply Dev.readReg_keepsMode c | apply ite_keeps
    | refine snd_keeps (by assumption) ?_ | refine fst_keeps (by assumption) ?_ | split
theorem Dev.i2cPush_keepsMode (c : KeepsMode P) (d x0 x1 x2) (h : P d) : P (Dev.i2cPush d x0 x1 x2) := by
  unfold Dev.i2cPush
  try dsimp only
  with_reducible repeat' first
    | assumption | apply Dev.accessErr_keepsMode c | apply Dev.i2cSettle_keepsMode c | apply Dev.setI2c_keepsMode c
    | apply ite_keeps
theorem Dev.sqCfgWrite_keepsMode (c : KeepsMode P) (d x0 x1 x2) (h : P d) : P (Dev.sqCfgWrite d x0 x1 x2) := by
  unfold Dev.sqCfgWrite
  try dsimp only
  with_reducible repeat' first
    | assumption | apply Dev.setReg_keepsMode c | apply Dev.sqEmpty_keepsMode c | apply Dev.setSq_keepsMode c
    | apply Dev.setF_keepsMode c | refine Dev.cfgRefused_keepsMode c (by assumption) ?_ | apply ite_keeps | refine snd_keeps (by assumption) ?_
    | refine fst_keeps (by assumption) ?_ | split
theorem Dev.registerAbort_keepsMode (c : KeepsMode P) (d x0 x1) (h : P d) : P (Dev.registerAbort d x0 x1) := by
  unfold Dev.registerAbort
  try dsimp only
  with_reducible repeat' first
    | assumption | apply Dev.accessErr_keepsMode c | apply Dev.abort_keepsMode c | apply Dev.setF_keepsMode c
    | apply Dev.irq_keepsMode c | apply ite_keeps | split
theorem Dev.serviceGo_keepsMode (c : KeepsMode P) (d x0 x1) (h : P d) : P (Dev.serviceGo d x0 x1) := by
  unfold Dev.serviceGo
  try dsimp only
  with_reducible repeat' first
    | assumption | apply Dev.setCh_keepsMode c | apply Dev.connect_keepsMode c | apply Dev.setF_keepsMode c
    | apply ite_keeps
theorem Dev.retireCancel_keepsMode (c : KeepsMode P) (d x0 x1) (h : P d) : P (Dev.retireCancel d x0 x1) := by
  unfold Dev.retireCancel
  try dsimp only
  with_reducible repeat' first | assumption | apply Dev.setF_keepsMode c
theorem Dev.retireReq_keepsMode (c : KeepsMode P) (d x0 x1 x2) (h : P d) : P (Dev.retireReq d x0 x1 x2) := by
  unfold Dev.retireReq
  try dsimp only
  with_reducible repeat' first | assumption | apply Dev.accessErr_keepsMode c | apply Dev.setF_keepsMode c | apply ite_keeps
theorem Dev.trimWrite_keepsMode (c : KeepsMode P) (d x0 x1 x2 x3) (h : P d) : P (Dev.trimWrite d x0 x1 x2 x3) := by
  unfold Dev.trimWrite
  try dsimp only
  with_reducible repeat' first
    | assumption | apply Dev.setReg_keepsMode c | apply Dev.discardPair_keepsMode c | apply Dev.flag_keepsMode c
    | apply Dev.setGrp_keepsMode c | apply ite_keeps | refine snd_keeps (by assumption) ?_ | refine fst_keeps (by assumption) ?_ | split
theorem Dev.injGo_keepsMode (c : KeepsMode P) (d x0 x1 x2) (h : P d) : P (Dev.injGo d x0 x1 x2) := by
  unfold Dev.injGo
  try dsimp only
  with_reducible repeat' first
    | assumption | apply Dev.accessErr_keepsMode c | apply Dev.setGrp_keepsMode c | apply Dev.setF_keepsMode c
    | apply ite_keeps
theorem Dev.intEnableWrite_keepsMode (c : KeepsMode P) (d x0) (h : P d) : P (Dev.intEnableWrite d x0) := by
  unfold Dev.intEnableWrite
  try dsimp only
  with_reducible repeat' first | assumption | apply Dev.plainWrite_keepsMode c | apply Dev.errVec_keepsMode c | apply ite_keeps
theorem Dev.intStatusWrite_keepsMode (c : KeepsMode P) (d x0) (h : P d) : P (Dev.intStatusWrite d x0) := by
  unfold Dev.intStatusWrite
  try dsimp only
  with_reducible repeat' first | assumption | apply Dev.plainWrite_keepsMode c | apply Dev.errVec_keepsMode c | apply ite_keeps
theorem Dev.modeReq_keepsMode (c : KeepsMode P) (d x0 x1) (h : P d) : P (Dev.modeReq d x0 x1) := by
  unfold Dev.modeReq
  try dsimp only
  with_reducible repeat' first
    | assumption | apply Dev.acceptMode_keepsMode c | apply Dev.accessErr_keepsMode c | apply Dev.setF_keepsMode c
    | apply ite_keeps | refine snd_keeps (by assumption) ?_ | refine fst_keeps (by assumption) ?_ | split
theorem Dev.setPort_keepsMode (c : KeepsMode P) (d x0 x1) (h : P d) : P (Dev.setPort d x0 x1) := by
  unfold Dev.setPort
  try dsimp only
  with_reducible repeat' first | assumption | fail_if_no_progress refine KeepsMode.mk' c ?_ rfl
theorem Dev.strataStop_keepsMode (c : KeepsMode P) (d) (h : P d) : P (Dev.strataStop d) := by
  unfold Dev.strataStop
  try dsimp only
  with_reducible repeat' first
    | assumption | apply Dev.strataDiscard_keepsMode c | apply Dev.flag_keepsMode c
    | fail_if_no_progress refine KeepsMode.mk' c ?_ rfl
theorem Dev.strCtrlWrite_keepsMode (c : KeepsMode P) (d x0 x1) (h : P d) : P (Dev.strCtrlWrite d x0 x1) := by
  unfold Dev.strCtrlWrite
  try dsimp only
  with_reducible repeat' first
    | assumption | apply Dev.accessErr_keepsMode c | apply Dev.strataStop_keepsMode c | apply Dev.setReg_keepsMode c
    | apply ite_keeps
theorem Dev.i2cEnd_keepsMode (c : KeepsMode P) (d x0 x1 x2) (h : P d) : P (Dev.i2cEnd d x0 x1 x2) := by
  unfold Dev.i2cEnd
  try dsimp only
  with_reducible repeat' first
    | assumption | apply Dev.setI2c_keepsMode c | apply Dev.flag_keepsMode c | apply Dev.setF_keepsMode c
    | apply Dev.irq_keepsMode c
theorem Dev.i2cCfg_keepsMode (c : KeepsMode P) (d x0 x1 x2) (h : P d) : P (Dev.i2cCfg d x0 x1 x2) := by
  unfold Dev.i2cCfg
  try dsimp only
  with_reducible repeat' first
    | assumption | apply Dev.accessErr_keepsMode c | apply Dev.setReg_keepsMode c | apply Dev.setI2c_keepsMode c
    | apply Dev.i2cEnd_keepsMode c | apply ite_keeps | refine snd_keeps (by assumption) ?_ | refine fst_keeps (by assumption) ?_ | split
theorem Dev.servoPeriodWrite_keepsMode (c : KeepsMode P) (d x0 x1) (h : P d) : P (Dev.servoPeriodWrite d x0 x1) := by
  unfold Dev.servoPeriodWrite
  try dsimp only
  with_reducible repeat' first | assumption | apply Dev.accessErr_keepsMode c | apply Dev.setF_keepsMode c | apply ite_keeps
theorem Dev.refMove_keepsMode (c : KeepsMode P) (d x0 x1 x2) (h : P d) : P (Dev.refMove d x0 x1 x2) := by
  unfold Dev.refMove
  try dsimp only
  with_reducible repeat' first | assumption | apply Dev.acceptMove_keepsMode c | apply Dev.setAx_keepsMode c | apply Dev.newMove_keepsMode c
theorem Dev.refGo_keepsMode (c : KeepsMode P) (d x0 x1 x2) (h : P d) : P (Dev.refGo d x0 x1 x2) := by
  unfold Dev.refGo
  try dsimp only
  with_reducible repeat' first | assumption | apply Dev.refMove_keepsMode c
theorem Dev.refReport_keepsMode (c : KeepsMode P) (d x0 x1) (h : P d) : P (Dev.refReport d x0 x1) := by
  unfold Dev.refReport
  try dsimp only
  with_reducible repeat' first | assumption | apply Dev.setF_keepsMode c | apply Dev.irq_keepsMode c
theorem Dev.refStart_keepsMode (c : KeepsMode P) (d x0 x1 x2 x3 x4) (h : P d) : P (Dev.refStart d x0 x1 x2 x3 x4) := by
  unfold Dev.refStart
  try dsimp only
  with_reducible repeat' first
    | assumption | apply Dev.refGo_keepsMode c | apply Dev.refReport_keepsMode c | apply Dev.setAx_keepsMode c
    | apply Dev.setB_keepsMode c | apply Dev.setF_keepsMode c | apply ite_keeps
theorem Dev.estop_keepsMode (c : KeepsMode P) (d x0) (h : P d) : P (Dev.estop d x0) := by
  unfold Dev.estop
  try dsimp only
  with_reducible repeat' first
    | assumption | apply Dev.setF_keepsMode c | apply Dev.stopAxes_keepsMode c | apply Dev.refFail_keepsMode c
    | (apply foldl_keeps; intro d x hd)
theorem Dev.hkcStop_keepsMode (c : KeepsMode P) (d x0) (h : P d) : P (Dev.hkcStop d x0) := by
  unfold Dev.hkcStop
  try dsimp only
  with_reducible repeat' first | assumption | apply Dev.setF_keepsMode c
theorem Dev.hkcApply_keepsMode (c : KeepsMode P) (d x0) (h : P d) : P (Dev.hkcApply d x0).1 := by
  unfold Dev.hkcApply
  try dsimp only
  with_reducible repeat' first
    | assumption | apply Dev.freeNat_keepsMode c | apply Dev.setHkc_keepsMode c | apply Dev.setF_keepsMode c
    | apply ite_keeps | refine snd_keeps (by assumption) ?_ | refine fst_keeps (by assumption) ?_ | split
theorem Dev.hkcStart_keepsMode (c : KeepsMode P) (d x0) (h : P d) : P (Dev.hkcStart d x0) := by
  unfold Dev.hkcStart
  try dsimp only
  with_reducible repeat' first | assumption | apply Dev.hkcApply_keepsMode c | apply Dev.setB_keepsMode c
theorem Dev.ocClear_keepsMode (c : KeepsMode P) (d x0) (h : P d) : P (Dev.ocClear d x0) := by
  unfold Dev.ocClear
  try dsimp only
  with_reducible repeat' first | assumption | apply Dev.setPower_keepsMode c | apply Dev.setF_keepsMode c
theorem Dev.i2cCmd_keepsMode (c : KeepsMode P) (d x0 x1 x2 x3) (h : P d) : P (Dev.i2cCmd d x0 x1 x2 x3) := by
  unfold Dev.i2cCmd
  try dsimp only
  with_reducible repeat' first
    | assumption | apply Dev.accessErr_keepsMode c | apply Dev.setReg_keepsMode c | apply Dev.i2cSettle_keepsMode c
    | apply Dev.setI2c_keepsMode c | apply Dev.i2cEnd_keepsMode c | apply Dev.setF_keepsMode c | apply Dev.emit_keepsMode c | apply ite_keeps
theorem Dev.dropTrack_keepsMode (c : KeepsMode P) (d x0 x1) (h : P d) : P (Dev.dropTrack d x0 x1) := by
  unfold Dev.dropTrack
  try dsimp only
  with_reducible repeat' first | assumption | fail_if_no_progress refine KeepsMode.mk' c ?_ rfl
theorem Dev.mulWrite_keepsMode (c : KeepsMode P) (d x0 x1 x2 x3) (h : P d) : P (Dev.mulWrite d x0 x1 x2 x3) := by
  unfold Dev.mulWrite
  try dsimp only
  with_reducible repeat' first
    | assumption | apply Dev.accessErr_keepsMode c | apply Dev.dropTrack_keepsMode c | apply Dev.setF_keepsMode c
    | apply ite_keeps | split | fail_if_no_progress refine KeepsMode.mk' c ?_ rfl
theorem Dev.tstPin_keepsMode (c : KeepsMode P) (d x0 x1 x2) (h : P d) : P (Dev.tstPin d x0 x1 x2) := by
  unfold Dev.tstPin
  try dsimp only
  with_reducible repeat' first | assumption | apply Dev.emit_keepsMode c | apply ite_keeps
theorem Dev.tstWrite_keepsMode (c : KeepsMode P) (d x0 x1 x2 x3) (h : P d) : P (Dev.tstWrite d x0 x1 x2 x3) := by
  unfold Dev.tstWrite
  try dsimp only
  with_reducible repeat' first
    | assumption | apply Dev.accessErr_keepsMode c | apply Dev.plainWrite_keepsMode c | apply Dev.flag_keepsMode c
    | apply Dev.discarded_keepsMode c | apply Dev.tstPin_keepsMode c | apply ite_keeps
theorem Dev.seqWrite_keepsMode (c : KeepsMode P) (d x0 x1 x2 x3) (h : P d) : P (Dev.seqWrite d x0 x1 x2 x3) := by
  unfold Dev.seqWrite
  try dsimp only
  with_reducible repeat' first
    | assumption | apply Dev.accessErr_keepsMode c | apply Dev.setReg_keepsMode c | apply Dev.reschedule_keepsMode c
    | apply ite_keeps | fail_if_no_progress refine KeepsMode.mk' c ?_ rfl
theorem Dev.setQuota_keepsMode (c : KeepsMode P) (d x0 x1) (h : P d) : P (Dev.setQuota d x0 x1) := by
  unfold Dev.setQuota
  try dsimp only
  with_reducible repeat' first | assumption | apply Dev.reportIf_keepsMode c | apply Dev.setCtx_keepsMode c | apply Dev.setMem_keepsMode c
theorem Dev.quotaSet_keepsMode (c : KeepsMode P) (d x0 x1) (h : P d) : P (Dev.quotaSet d x0 x1) := by
  unfold Dev.quotaSet
  try dsimp only
  with_reducible repeat' first
    | assumption | apply Dev.flag_keepsMode c | apply Dev.setQuota_keepsMode c | apply Dev.setF_keepsMode c
    | apply ite_keeps
theorem Dev.haulClear_keepsMode (c : KeepsMode P) (d x0) (h : P d) : P (Dev.haulClear d x0) := by
  unfold Dev.haulClear
  try dsimp only
  with_reducible repeat' first | assumption | apply Dev.setHch_keepsMode c
theorem Dev.haulStart_keepsMode (c : KeepsMode P) (d x0 x1 x2) (h : P d) : P (Dev.haulStart d x0 x1 x2) := by
  unfold Dev.haulStart
  try dsimp only
  with_reducible repeat' first | assumption | apply Dev.accessErr_keepsMode c | apply Dev.haulPush_keepsMode c | apply ite_keeps
theorem Dev.disarmedSwap_keepsMode (c : KeepsMode P) (d) (h : P d) : P (Dev.disarmedSwap d) := by
  unfold Dev.disarmedSwap
  try dsimp only
  with_reducible repeat' first | assumption | apply Dev.chooseSet_keepsMode c | apply ite_keeps
theorem Dev.dropHist_keepsMode (c : KeepsMode P) (d x0 x1) (h : P d) : P (Dev.dropHist d x0 x1) := by
  unfold Dev.dropHist
  try dsimp only
  with_reducible repeat' first
    | assumption | apply Dev.setGroupUse_keepsMode c | (apply foldl_keeps; intro d x hd) | apply ite_keeps
    | refine snd_keeps (by assumption) ?_ | refine fst_keeps (by assumption) ?_ | split
    | fail_if_no_progress refine KeepsMode.mk' c ?_ rfl
theorem Dev.electionTimeout_keepsMode (c : KeepsMode P) (d) (h : P d) : P (Dev.electionTimeout d) := by
  unfold Dev.electionTimeout
  try dsimp only
  with_reducible repeat' first
    | assumption | apply Dev.setTet_keepsMode c | apply Dev.setTimingMaster_keepsMode c | apply Dev.setF_keepsMode c
    | apply ite_keeps
theorem Dev.encFault_keepsMode (c : KeepsMode P) (d x0 x1) (h : P d) : P (Dev.encFault d x0 x1) := by
  unfold Dev.encFault
  try dsimp only
  with_reducible repeat' first
    | assumption | apply Dev.setF_keepsMode c | apply Dev.stopAxes_keepsMode c | apply Dev.refFail_keepsMode c
    | apply ite_keeps
theorem Dev.surveyWatch_keepsMode (c : KeepsMode P) (d x0) (h : P d) : P (Dev.surveyWatch d x0) := by
  unfold Dev.surveyWatch
  try dsimp only
  with_reducible repeat' first | assumption | apply ite_keeps | fail_if_no_progress refine KeepsMode.mk' c ?_ rfl
theorem Dev.encMove_keepsMode (c : KeepsMode P) (d x0 x1) (h : P d) : P (Dev.encMove d x0 x1) := by
  unfold Dev.encMove
  try dsimp only
  with_reducible repeat' first | assumption | apply Dev.setMeasured_keepsMode c | apply Dev.surveyWatch_keepsMode c | apply ite_keeps
theorem Dev.encoderCount_keepsMode (c : KeepsMode P) (d x0 x1) (h : P d) : P (Dev.encoderCount d x0 x1) := by
  unfold Dev.encoderCount
  try dsimp only
  with_reducible repeat' first | assumption | apply Dev.encMove_keepsMode c | apply ite_keeps
theorem Dev.takeGenA_keepsMode (c : KeepsMode P) (d x0 x1 x2 x3) (h : P d) : P (Dev.takeGenA d x0 x1 x2 x3) := by
  unfold Dev.takeGenA
  try dsimp only
  with_reducible repeat' first
    | assumption | apply Dev.mapLine_keepsMode c | apply Dev.requestRaw_keepsMode c | apply Dev.flagIf_keepsMode c
    | (apply foldl_keeps; intro d x hd) | apply ite_keeps | refine snd_keeps (by assumption) ?_ | refine fst_keeps (by assumption) ?_
    | split
theorem Dev.surveyExposed_keepsMode (c : KeepsMode P) (d x0) (h : P d) : P (Dev.surveyExposed d x0) := by
  unfold Dev.surveyExposed
  try dsimp only
  with_reducible repeat' first | assumption | apply ite_keeps | fail_if_no_progress refine KeepsMode.mk' c ?_ rfl
theorem Dev.endLine_keepsMode (c : KeepsMode P) (d x0 x1 x2 x3) (h : P d) : P (Dev.endLine d x0 x1 x2 x3) := by
  unfold Dev.endLine
  try dsimp only
  with_reducible repeat' first
    | assumption | apply Dev.takeGenA_keepsMode c | apply Dev.mapLine_keepsMode c | apply Dev.surveyExposed_keepsMode c
    | apply ite_keeps | refine snd_keeps (by assumption) ?_ | refine fst_keeps (by assumption) ?_ | split
theorem Dev.endMove_keepsMode (c : KeepsMode P) (d x0 x1) (h : P d) : P (Dev.endMove d x0 x1) := by
  unfold Dev.endMove
  try dsimp only
  with_reducible repeat' first
    | assumption | apply Dev.reportMove_keepsMode c | apply Dev.logStop_keepsMode c | apply Dev.dropMove_keepsMode c
    | apply Dev.setAx_keepsMode c | (apply foldl_keeps; intro d x hd) | apply ite_keeps | refine snd_keeps (by assumption) ?_
    | refine fst_keeps (by assumption) ?_ | split
theorem Dev.setHaulUse_keepsMode (c : KeepsMode P) (d x0) (h : P d) : P (Dev.setHaulUse d x0) := by
  unfold Dev.setHaulUse
  try dsimp only
  with_reducible repeat' first
    | assumption | apply Dev.reportIf_keepsMode c | apply Dev.sumpNote_keepsMode c | split
    | fail_if_no_progress refine KeepsMode.mk' c ?_ rfl
theorem Dev.estopClear_keepsMode (c : KeepsMode P) (d) (h : P d) : P (Dev.estopClear d) := by
  unfold Dev.estopClear
  try dsimp only
  with_reducible repeat' first | assumption | apply Dev.setF_keepsMode c | (apply foldl_keeps; intro d x hd) | apply ite_keeps
theorem Dev.eyeAdjust_keepsMode (c : KeepsMode P) (d x0 x1) (h : P d) : P (Dev.eyeAdjust d x0 x1) := by
  unfold Dev.eyeAdjust
  try dsimp only
  with_reducible repeat' first
    | assumption | apply Dev.flagIf_keepsMode c | apply Dev.setLane_keepsMode c | apply Dev.setF_keepsMode c
    | (apply foldl_keeps; intro d x hd) | (apply foldl_fst_keeps; intro d x hd) | (apply foldl_snd_keeps; intro d x hd)
    | refine snd_keeps (by assumption) ?_ | refine fst_keeps (by assumption) ?_ | split
theorem Dev.setBin_keepsMode (c : KeepsMode P) (d x0 x1) (h : P d) : P (Dev.setBin d x0 x1) := by
  unfold Dev.setBin
  try dsimp only
  with_reducible repeat' first | assumption | apply Dev.setMem_keepsMode c
theorem Dev.learn_keepsMode (c : KeepsMode P) (d x0 x1 x2 x3) (h : P d) : P (Dev.learn d x0 x1 x2 x3) := by
  unfold Dev.learn
  try dsimp only
  with_reducible repeat' first
    | assumption | apply Dev.setBin_keepsMode c | apply Dev.flagIf_keepsMode c | (apply foldl_keeps; intro d x hd)
    | (apply foldl_fst_keeps; intro d x hd) | (apply foldl_snd_keeps; intro d x hd) | apply ite_keeps
theorem Dev.flowEntry_keepsMode (c : KeepsMode P) (d) (h : P d) : P (Dev.flowEntry d) := by
  unfold Dev.flowEntry
  try dsimp only
  with_reducible repeat' first
    | assumption | apply Dev.learn_keepsMode c | apply Dev.setF_keepsMode c | apply Dev.count_keepsMode c
    | refine snd_keeps (by assumption) ?_ | refine fst_keeps (by assumption) ?_ | split
    | fail_if_no_progress refine KeepsMode.mk' c ?_ rfl
theorem Dev.flowVisible_keepsMode (c : KeepsMode P) (d) (h : P d) : P (Dev.flowVisible d) := by
  unfold Dev.flowVisible
  try dsimp only
  with_reducible repeat' first
    | assumption | apply Dev.setMem_keepsMode c | (apply foldl_keeps; intro d x hd)
    | (apply foldl_fst_keeps; intro d x hd) | (apply foldl_snd_keeps; intro d x hd) | split
    | fail_if_no_progress refine KeepsMode.mk' c ?_ rfl
theorem Dev.leadPins_keepsMode (c : KeepsMode P) (d x0 x1 x2) (h : P d) : P (Dev.leadPins d x0 x1 x2) := by
  unfold Dev.leadPins
  try dsimp only
  with_reducible repeat' first | assumption | apply Dev.strobes_keepsMode c | apply Dev.pulse_keepsMode c | (apply foldl_keeps; intro d x hd)
theorem Dev.flush_keepsMode (c : KeepsMode P) (d x0) (h : P d) : P (Dev.flush d x0) := by
  unfold Dev.flush
  try dsimp only
  with_reducible repeat' first
    | assumption | apply Dev.mainPins_keepsMode c | apply Dev.showLantern_keepsMode c | apply Dev.leadPins_keepsMode c
    | apply ite_keeps | refine snd_keeps (by assumption) ?_ | refine fst_keeps (by assumption) ?_ | split
    | fail_if_no_progress refine KeepsMode.mk' c ?_ rfl
theorem Dev.followLeader_keepsMode (c : KeepsMode P) (d x0 x1) (h : P d) : P (Dev.followLeader d x0 x1) := by
  unfold Dev.followLeader
  try dsimp only
  with_reducible repeat' first
    | assumption | apply Dev.setAx_keepsMode c | (apply foldl_keeps; intro d x hd) | apply ite_keeps
    | refine snd_keeps (by assumption) ?_ | refine fst_keeps (by assumption) ?_ | split
theorem Dev.forward_keepsMode (c : KeepsMode P) (d x0 x1) (h : P d) : P (Dev.forward d x0 x1) := by
  unfold Dev.forward
  try dsimp only
  with_reducible repeat' first | assumption | apply Dev.sendVia_keepsMode c | apply ite_keeps
theorem Dev.govReturned_keepsMode (c : KeepsMode P) (d x0) (h : P d) : P (Dev.govReturned d x0) := by
  unfold Dev.govReturned
  try dsimp only
  with_reducible repeat' first
    | assumption | apply Dev.flagIf_keepsMode c | apply Dev.setTet_keepsMode c | apply Dev.setB_keepsMode c
    | apply Dev.setF_keepsMode c | apply Dev.masterConflict_keepsMode c | apply ite_keeps
theorem Dev.linkCarries_keepsMode (c : KeepsMode P) (d x0) (h : P d) : P (Dev.linkCarries d x0) := by
  unfold Dev.linkCarries
  try dsimp only
  with_reducible repeat' first
    | assumption | apply Dev.setPort_keepsMode c | apply Dev.flag_keepsMode c | apply Dev.setF_keepsMode c
    | apply ite_keeps
theorem Dev.pdResp_keepsMode (c : KeepsMode P) (d x0 x1) (h : P d) : P (Dev.pdResp d x0 x1) := by
  unfold Dev.pdResp
  try dsimp only
  with_reducible repeat' first
    | assumption | apply Dev.linkCarries_keepsMode c | apply Dev.setPort_keepsMode c | apply Dev.setF_keepsMode c
    | refine snd_keeps (by assumption) ?_ | refine fst_keeps (by assumption) ?_ | split
theorem Dev.sendLink_keepsMode (c : KeepsMode P) (d x0 x1 x2 x3) (h : P d) : P (Dev.sendLink d x0 x1 x2 x3) := by
  unfold Dev.sendLink
  try dsimp only
  with_reducible repeat' first | assumption | apply Dev.emit_keepsMode c
theorem Dev.frameReceived_keepsMode (c : KeepsMode P) (d x0 x1 x2) (h : P d) : P (Dev.frameReceived d x0 x1 x2) := by
  unfold Dev.frameReceived
  try dsimp only
  with_reducible repeat' first
    | assumption | apply Dev.govReturned_keepsMode c | apply Dev.flag_keepsMode c | apply Dev.pdResp_keepsMode c
    | apply Dev.setTet_keepsMode c | apply Dev.deliverFrame_keepsMode c | apply Dev.forward_keepsMode c | apply Dev.count_keepsMode c
    | apply Dev.sendLink_keepsMode c | apply ite_keeps
theorem Dev.freedCal_keepsMode (c : KeepsMode P) (d x0 x1) (h : P d) : P (Dev.freedCal d x0 x1) := by
  unfold Dev.freedCal
  try dsimp only
  with_reducible repeat' first
    | assumption | apply Dev.setRb_keepsMode c | apply Dev.setCh_keepsMode c | apply Dev.calChan_keepsMode c
    | apply ite_keeps | refine snd_keeps (by assumption) ?_ | refine fst_keeps (by assumption) ?_ | split
theorem Dev.freshen_keepsMode (c : KeepsMode P) (d x0 x1) (h : P d) : P (Dev.freshen d x0 x1) := by
  unfold Dev.freshen
  try dsimp only
  with_reducible repeat' first
    | assumption | apply Dev.clearHist_keepsMode c | apply ite_keeps
    | fail_if_no_progress refine KeepsMode.mk' c ?_ rfl
theorem Dev.missing_keepsMode (c : KeepsMode P) (d x0 x1 x2) (h : P d) : P (Dev.missing d x0 x1 x2) := by
  unfold Dev.missing
  try dsimp only
  with_reducible repeat' first
    | assumption | apply Dev.setMissRun_keepsMode c | apply Dev.mapLine_keepsMode c | apply Dev.flag_keepsMode c
    | apply Dev.setF_keepsMode c | apply Dev.count_keepsMode c | apply ite_keeps | refine snd_keeps (by assumption) ?_
    | refine fst_keeps (by assumption) ?_ | split
theorem Dev.rxFail_keepsMode (c : KeepsMode P) (d x0 x1 x2) (h : P d) : P (Dev.rxFail d x0 x1 x2) := by
  unfold Dev.rxFail
  try dsimp only
  with_reducible repeat' first | assumption | apply Dev.ledgerEvent_keepsMode c | apply Dev.flag_keepsMode c | apply Dev.setLane_keepsMode c
theorem Dev.lineVerdict_keepsMode (c : KeepsMode P) (d x0 x1 x2 x3 x4 x5) (h : P d) : P (Dev.lineVerdict d x0 x1 x2 x3 x4 x5) := by
  unfold Dev.lineVerdict
  try dsimp only
  with_reducible repeat' first
    | assumption | apply Dev.arrived_keepsMode c | apply Dev.flag_keepsMode c | apply Dev.missing_keepsMode c
    | apply Dev.rxFail_keepsMode c | refine snd_keeps (by assumption) ?_ | refine fst_keeps (by assumption) ?_ | split
theorem Dev.genB_keepsMode (c : KeepsMode P) (d x0 x1 x2) (h : P d) : P (Dev.genB d x0 x1 x2) := by
  unfold Dev.genB
  try dsimp only
  with_reducible repeat' first
    | assumption | apply Dev.missing_keepsMode c | apply Dev.lineVerdict_keepsMode c
    | refine Dev.takeExpect_keepsMode c (by assumption) ?_ | apply ite_keeps | refine snd_keeps (by assumption) ?_
    | refine fst_keeps (by assumption) ?_ | split
theorem Dev.genBLocked_keepsMode (c : KeepsMode P) (d x0) (h : P d) : P (Dev.genBLocked d x0) := by
  unfold Dev.genBLocked
  try dsimp only
  with_reducible repeat' first | assumption | apply Dev.setLane_keepsMode c | apply Dev.showLanes_keepsMode c
theorem Dev.genBLost_keepsMode (c : KeepsMode P) (d x0) (h : P d) : P (Dev.genBLost d x0) := by
  unfold Dev.genBLost
  try dsimp only
  with_reducible repeat' first | assumption | apply Dev.flag_keepsMode c | apply Dev.setLane_keepsMode c | apply Dev.showLanes_keepsMode c
theorem Dev.genC_keepsMode (c : KeepsMode P) (d x0 x1 x2 x3) (h : P d) : P (Dev.genC d x0 x1 x2 x3) := by
  unfold Dev.genC
  try dsimp only
  with_reducible repeat' first
    | assumption | apply Dev.lineVerdict_keepsMode c | refine Dev.takeExpect_keepsMode c (by assumption) ?_
    | apply ite_keeps | refine snd_keeps (by assumption) ?_ | refine fst_keeps (by assumption) ?_ | split
theorem Dev.genCLock_keepsMode (c : KeepsMode P) (d x0 x1 x2) (h : P d) : P (Dev.genCLock d x0 x1 x2) := by
  unfold Dev.genCLock
  try dsimp only
  with_reducible repeat' first
    | assumption | apply Dev.setLane_keepsMode c | apply Dev.showLanes_keepsMode c | apply ite_keeps
    | refine snd_keeps (by assumption) ?_ | refine fst_keeps (by assumption) ?_ | split
    | fail_if_no_progress refine KeepsMode.mk' c ?_ rfl
theorem Dev.genCLoss_keepsMode (c : KeepsMode P) (d x0 x1 x2) (h : P d) : P (Dev.genCLoss d x0 x1 x2) := by
  unfold Dev.genCLoss
  try dsimp only
  with_reducible repeat' first
    | assumption | apply Dev.setLane_keepsMode c | apply Dev.rxFail_keepsMode c | apply Dev.showLanes_keepsMode c
    | apply ite_keeps
theorem Dev.govStep_keepsMode (c : KeepsMode P) (d) (h : P d) : P (Dev.govStep d) := by
  unfold Dev.govStep
  try dsimp only
  with_reducible repeat' first
    | assumption | apply Dev.flag_keepsMode c | apply Dev.setB_keepsMode c | apply Dev.setF_keepsMode c
    | apply Dev.count_keepsMode c | apply ite_keeps | split | fail_if_no_progress refine KeepsMode.mk' c ?_ rfl
theorem Dev.govTimeout_keepsMode (c : KeepsMode P) (d) (h : P d) : P (Dev.govTimeout d) := by
  unfold Dev.govTimeout
  try dsimp only
  with_reducible repeat' first | assumption | apply Dev.flag_keepsMode c | apply Dev.setTet_keepsMode c | apply ite_keeps
theorem Dev.surveyLost_keepsMode (c : KeepsMode P) (d x0) (h : P d) : P (Dev.surveyLost d x0) := by
  unfold Dev.surveyLost
  try dsimp only
  with_reducible repeat' first | assumption | apply Dev.closeMeas_keepsMode c | apply Dev.count_keepsMode c | apply ite_keeps
theorem Dev.gridTrigger_keepsMode (c : KeepsMode P) (d) (h : P d) : P (Dev.gridTrigger d) := by
  unfold Dev.gridTrigger
  try dsimp only
  with_reducible repeat' first
    | assumption | apply Dev.reconFallback_keepsMode c | apply Dev.flag_keepsMode c | apply Dev.surveyLost_keepsMode c
    | apply Dev.fireMain_keepsMode c | apply Dev.count_keepsMode c | apply Dev.setHwm_keepsMode c | apply Dev.irq_keepsMode c | apply ite_keeps
    | refine snd_keeps (by assumption) ?_ | refine fst_keeps (by assumption) ?_ | split
theorem Dev.halt_keepsMode (c : KeepsMode P) (d x0) (h : P d) : P (Dev.halt d x0) := by
  unfold Dev.halt
  try dsimp only
  with_reducible repeat' first | assumption | apply Dev.setAx_keepsMode c
theorem Dev.haltMove_keepsMode (c : KeepsMode P) (d x0 x1) (h : P d) : P (Dev.haltMove d x0 x1) := by
  unfold Dev.haltMove
  try dsimp only
  with_reducible repeat' first
    | assumption | apply Dev.endMove_keepsMode c | apply Dev.halt_keepsMode c | (apply foldl_keeps; intro d x hd)
    | refine snd_keeps (by assumption) ?_ | refine fst_keeps (by assumption) ?_ | split
theorem Dev.putPrev_keepsMode (c : KeepsMode P) (d x0 x1 x2) (h : P d) : P (Dev.putPrev d x0 x1 x2) := by
  unfold Dev.putPrev
  try dsimp only
  with_reducible repeat' first | assumption | fail_if_no_progress refine KeepsMode.mk' c ?_ rfl
theorem Dev.putDark_keepsMode (c : KeepsMode P) (d x0 x1 x2) (h : P d) : P (Dev.putDark d x0 x1 x2) := by
  unfold Dev.putDark
  try dsimp only
  with_reducible repeat' first | assumption | fail_if_no_progress refine KeepsMode.mk' c ?_ rfl
theorem Dev.keepRow_keepsMode (c : KeepsMode P) (d x0 x1 x2) (h : P d) : P (Dev.keepRow d x0 x1 x2) := by
  unfold Dev.keepRow
  try dsimp only
  with_reducible repeat' first
    | assumption | apply Dev.putPrev_keepsMode c | apply Dev.flag_keepsMode c | apply Dev.putDark_keepsMode c
    | apply Dev.setF_keepsMode c | (apply foldl_keeps; intro d x hd) | (apply foldl_fst_keeps; intro d x hd)
    | (apply foldl_snd_keeps; intro d x hd) | apply ite_keeps
theorem Dev.putSurvey_keepsMode (c : KeepsMode P) (d x0 x1 x2 x3 x4 x5 x6 x7 x8 x9) (h : P d) : P (Dev.putSurvey d x0 x1 x2 x3 x4 x5 x6 x7 x8 x9) := by
  unfold Dev.putSurvey
  try dsimp only
  with_reducible repeat' first
    | assumption | apply Dev.deliverAnalysis_keepsMode c | apply Dev.setMem_keepsMode c | apply Dev.setBytes_keepsMode c
    | apply Dev.setF_keepsMode c | apply Dev.haulRequest_keepsMode c | fail_if_no_progress refine KeepsMode.mk' c ?_ rfl
theorem Dev.surveyMain_keepsMode (c : KeepsMode P) (d x0 x1 x2 x3) (h : P d) : P (Dev.surveyMain d x0 x1 x2 x3) := by
  unfold Dev.surveyMain
  try dsimp only
  with_reducible repeat' first
    | assumption | apply Dev.closeMeas_keepsMode c | apply Dev.putSurvey_keepsMode c | apply Dev.flag_keepsMode c
    | apply Dev.count_keepsMode c | apply ite_keeps | fail_if_no_progress refine KeepsMode.mk' c ?_ rfl
theorem Dev.strataCaptured_keepsMode (c : KeepsMode P) (d x0 x1) (h : P d) : P (Dev.strataCaptured d x0 x1) := by
  unfold Dev.strataCaptured
  try dsimp only
  with_reducible repeat' first
    | assumption | apply ite_keeps | refine snd_keeps (by assumption) ?_ | refine fst_keeps (by assumption) ?_
    | split | fail_if_no_progress refine KeepsMode.mk' c ?_ rfl
theorem Dev.trackLine_keepsMode (c : KeepsMode P) (d x0 x1 x2 x3 x4) (h : P d) : P (Dev.trackLine d x0 x1 x2 x3 x4) := by
  unfold Dev.trackLine
  try dsimp only
  with_reducible repeat' first
    | assumption | apply Dev.dropTrack_keepsMode c | apply Dev.flag_keepsMode c | apply Dev.count_keepsMode c
    | apply ite_keeps | fail_if_no_progress refine KeepsMode.mk' c ?_ rfl
theorem Dev.trackRow_keepsMode (c : KeepsMode P) (d x0 x1 x2 x3 x4) (h : P d) : P (Dev.trackRow d x0 x1 x2 x3 x4) := by
  unfold Dev.trackRow
  try dsimp only
  with_reducible repeat' first
    | assumption | apply Dev.trackLine_keepsMode c | (apply foldl_keeps; intro d x hd)
    | (apply foldl_fst_keeps; intro d x hd) | (apply foldl_snd_keeps; intro d x hd) | apply ite_keeps
    | refine snd_keeps (by assumption) ?_ | refine fst_keeps (by assumption) ?_ | split
theorem Dev.strataReduce_keepsMode (c : KeepsMode P) (d x0 x1 x2) (h : P d) : P (Dev.strataReduce d x0 x1 x2) := by
  unfold Dev.strataReduce
  try dsimp only
  with_reducible repeat' first
    | assumption | apply Dev.flag_keepsMode c | (apply foldl_keeps; intro d x hd) | apply ite_keeps
    | fail_if_no_progress refine KeepsMode.mk' c ?_ rfl
theorem Dev.placeLine_keepsMode (c : KeepsMode P) (d x0 x1 x2 x3) (h : P d) : P (Dev.placeLine d x0 x1 x2 x3) := by
  unfold Dev.placeLine
  try dsimp only
  with_reducible repeat' first
    | assumption | apply Dev.dropHist_keepsMode c | apply Dev.setGroupUse_keepsMode c
    | (apply foldl_keeps; intro d x hd) | apply ite_keeps | refine snd_keeps (by assumption) ?_ | refine fst_keeps (by assumption) ?_
    | split | fail_if_no_progress refine KeepsMode.mk' c ?_ rfl
theorem Dev.leaveGallery_keepsMode (c : KeepsMode P) (d x0) (h : P d) : P (Dev.leaveGallery d x0) := by
  unfold Dev.leaveGallery
  try dsimp only
  with_reducible repeat' first
    | assumption | apply Dev.refreshLock_keepsMode c | apply ite_keeps
    | fail_if_no_progress refine KeepsMode.mk' c ?_ rfl
theorem Dev.handOff_keepsMode (c : KeepsMode P) (d x0 x1) (h : P d) : P (Dev.handOff d x0 x1) := by
  unfold Dev.handOff
  try dsimp only
  with_reducible repeat' first
    | assumption | apply Dev.keepRow_keepsMode c | apply Dev.surveyMain_keepsMode c | apply Dev.deliver_keepsMode c
    | apply Dev.mapLine_keepsMode c | apply Dev.calSetDone_keepsMode c | apply Dev.strataCaptured_keepsMode c | apply Dev.flag_keepsMode c
    | apply Dev.trackRow_keepsMode c | apply Dev.freshen_keepsMode c | apply Dev.checkStops_keepsMode c | apply Dev.strataReduce_keepsMode c
    | apply Dev.calLine_keepsMode c | apply Dev.placeLine_keepsMode c | apply Dev.leaveGallery_keepsMode c | apply Dev.count_keepsMode c | apply ite_keeps
    | refine snd_keeps (by assumption) ?_ | refine fst_keeps (by assumption) ?_ | split
theorem Dev.pushLoads_keepsMode (c : KeepsMode P) (d) (h : P d) : P (Dev.pushLoads d) := by
  unfold Dev.pushLoads
  try dsimp only
  with_reducible repeat' first
    | assumption | apply Dev.haulPush_keepsMode c | apply Dev.putValid_keepsMode c | (apply foldl_keeps; intro d x hd)
    | apply ite_keeps | fail_if_no_progress refine KeepsMode.mk' c ?_ rfl
theorem Dev.haulBegin_keepsMode (c : KeepsMode P) (d) (h : P d) : P (Dev.haulBegin d) := by
  unfold Dev.haulBegin
  try dsimp only
  with_reducible repeat' first
    | assumption | apply Dev.pushLoads_keepsMode c | apply Dev.setHaulRun_keepsMode c | apply Dev.setHch_keepsMode c
    | apply Dev.setB_keepsMode c | apply ite_keeps | refine snd_keeps (by assumption) ?_ | refine fst_keeps (by assumption) ?_ | split
theorem Dev.haulFetch_keepsMode (c : KeepsMode P) (d x0 x1) (h : P d) : P (Dev.haulFetch d x0 x1).2 := by
  unfold Dev.haulFetch
  try dsimp only
  with_reducible repeat' first | assumption | apply Dev.emit_keepsMode c | apply ite_keeps | split
theorem Dev.haulEnd_keepsMode (c : KeepsMode P) (d x0 x1) (h : P d) : P (Dev.haulEnd d x0 x1) := by
  unfold Dev.haulEnd
  try dsimp only
  with_reducible repeat' first
    | assumption | apply Dev.linePulse_keepsMode c | apply Dev.setHaulRun_keepsMode c
    | (apply Dev.endProgram_keepsMode c; intro d n hd)
theorem Dev.moveImage_keepsMode (c : KeepsMode P) (d x0 x1) (h : P d) : P (Dev.moveImage d x0 x1) := by
  unfold Dev.moveImage
  try dsimp only
  with_reducible repeat' first
    | assumption | apply Dev.setBytes_keepsMode c | (apply foldl_keeps; intro d x hd) | apply ite_keeps
    | refine snd_keeps (by assumption) ?_ | refine fst_keeps (by assumption) ?_ | split
theorem Dev.loadBusError_keepsMode (c : KeepsMode P) (d x0 x1 x2 x3) (h : P d) : P (Dev.loadBusError d x0 x1 x2 x3) := by
  unfold Dev.loadBusError
  try dsimp only
  with_reducible repeat' first
    | assumption | apply Dev.endLoad_keepsMode c | apply Dev.linePulse_keepsMode c | apply Dev.moveImage_keepsMode c
    | apply Dev.setHaulRun_keepsMode c | (apply Dev.endProgram_keepsMode c; intro d n hd) | apply Dev.barFailed_keepsMode c | apply ite_keeps
theorem Dev.haulWaits_keepsMode (c : KeepsMode P) (d x0) (h : P d) : P (Dev.haulWaits d x0) := by
  unfold Dev.haulWaits
  try dsimp only
  with_reducible repeat' first | assumption | apply Dev.setHaulRun_keepsMode c
theorem Dev.haulIns_keepsMode (c : KeepsMode P) (d op ins f) (hf : ∀ d r ws, P d → P (f d r ws)) (h : P d) : P (Dev.haulIns d op ins f) := by
  unfold Dev.haulIns
  try dsimp only
  with_reducible repeat' first
    | assumption | apply hf | apply Dev.haulWaits_keepsMode c | apply Dev.haulEnd_keepsMode c
    | apply Dev.haulFetch_keepsMode c | apply ite_keeps | refine snd_keeps (by assumption) ?_ | split
theorem Dev.haulGo_keepsMode (c : KeepsMode P) (d x0 x1) (h : P d) : P (Dev.haulGo d x0 x1) := by
  unfold Dev.haulGo
  try dsimp only
  with_reducible repeat' first | assumption | apply Dev.haulEnd_keepsMode c | apply Dev.setHaulRun_keepsMode c | apply ite_keeps
theorem Dev.haulEndIns_keepsMode (c : KeepsMode P) (d x0) (h : P d) : P (Dev.haulEndIns d x0) := by
  unfold Dev.haulEndIns
  try dsimp only
  with_reducible repeat' first | assumption | apply Dev.haulEnd_keepsMode c | apply Dev.setHaulRun_keepsMode c | apply ite_keeps
theorem Dev.haulLoopIns_keepsMode (c : KeepsMode P) (d x0 x1) (h : P d) : P (Dev.haulLoopIns d x0 x1) := by
  unfold Dev.haulLoopIns
  try dsimp only
  with_reducible repeat' first
    | assumption | apply Dev.haulEnd_keepsMode c | apply Dev.haulGo_keepsMode c | apply ite_keeps
    | refine snd_keeps (by assumption) ?_ | refine fst_keeps (by assumption) ?_ | split
theorem Dev.haulNextIns_keepsMode (c : KeepsMode P) (d x0 x1) (h : P d) : P (Dev.haulNextIns d x0 x1) := by
  unfold Dev.haulNextIns
  try dsimp only
  with_reducible repeat' first | assumption | apply Dev.haulGo_keepsMode c
theorem Dev.haulReread_keepsMode (c : KeepsMode P) (d x0) (h : P d) : P (Dev.haulReread d x0) := by
  unfold Dev.haulReread
  try dsimp only
  with_reducible repeat' first
    | assumption | apply Dev.haulNextIns_keepsMode c | apply Dev.haulEnd_keepsMode c | apply Dev.emit_keepsMode c
    | apply ite_keeps | refine snd_keeps (by assumption) ?_ | refine fst_keeps (by assumption) ?_ | split
theorem Dev.haulTimeout_keepsMode (c : KeepsMode P) (d x0) (h : P d) : P (Dev.haulTimeout d x0) := by
  unfold Dev.haulTimeout
  try dsimp only
  with_reducible repeat' first | assumption | apply Dev.haulEnd_keepsMode c | (apply Dev.haulIns_keepsMode c; intro d r ws hd) | apply ite_keeps
theorem Dev.haulUe_keepsMode (c : KeepsMode P) (d) (h : P d) : P (Dev.haulUe d) := by
  unfold Dev.haulUe
  try dsimp only
  with_reducible repeat' first
    | assumption | apply Dev.freeNat_keepsMode c | apply Dev.haulEnd_keepsMode c | apply Dev.loadBusError_keepsMode c
    | refine snd_keeps (by assumption) ?_ | refine fst_keeps (by assumption) ?_ | split
theorem Dev.haulWaitIns_keepsMode (c : KeepsMode P) (d x0 x1) (h : P d) : P (Dev.haulWaitIns d x0 x1) := by
  unfold Dev.haulWaitIns
  try dsimp only
  with_reducible repeat' first | assumption | apply Dev.haulWaits_keepsMode c | apply Dev.haulGo_keepsMode c | apply ite_keeps
theorem Dev.hkcPush_keepsMode (c : KeepsMode P) (d x0 x1) (h : P d) : P (Dev.hkcPush d x0 x1) := by
  unfold Dev.hkcPush
  try dsimp only
  with_reducible repeat' first
    | assumption | apply Dev.flag_keepsMode c | apply Dev.setFifo_keepsMode c | apply Dev.count_keepsMode c
    | apply ite_keeps
theorem Dev.hkcEmit_keepsMode (c : KeepsMode P) (d x0 x1 x2 x3 x4) (h : P d) : P (Dev.hkcEmit d x0 x1 x2 x3 x4) := by
  unfold Dev.hkcEmit
  try dsimp only
  with_reducible repeat' first | assumption | apply Dev.setReg_keepsMode c | apply Dev.hkcPush_keepsMode c | apply ite_keeps
theorem Dev.hkcExcite_keepsMode (c : KeepsMode P) (d x0 x1 x2) (h : P d) : P (Dev.hkcExcite d x0 x1 x2) := by
  unfold Dev.hkcExcite
  try dsimp only
  with_reducible repeat' first | assumption | apply Dev.emit_keepsMode c | apply ite_keeps
theorem Dev.hkcRunEntry_keepsMode (c : KeepsMode P) (acc c0 s e conv) (h : P acc.1) : P (Dev.hkcRunEntry acc c0 s e conv).1 := by
  unfold Dev.hkcRunEntry
  try dsimp only
  with_reducible repeat' first
    | assumption | apply Dev.setHkc_keepsMode c | apply Dev.hkcEmit_keepsMode c | apply Dev.flagIf_keepsMode c
    | apply Dev.hkcEntry_keepsMode c | apply Dev.hkcExcite_keepsMode c | apply Dev.setReg_keepsMode c | apply Dev.setF_keepsMode c
    | apply Dev.set64_keepsMode c | apply Dev.flag_keepsMode c | apply ite_keeps
theorem Dev.hkcPass_keepsMode (c : KeepsMode P) (d x0 x1) (h : P d) : P (Dev.hkcPass d x0 x1) := by
  unfold Dev.hkcPass
  try dsimp only
  with_reducible repeat' first
    | assumption | apply Dev.stamped_keepsMode c | apply Dev.set64_keepsMode c | apply Dev.flagIf_keepsMode c
    | apply Dev.hkcApply_keepsMode c | apply Dev.setF_keepsMode c | apply Dev.hkcRunEntry_keepsMode c | (apply foldl_keeps; intro d x hd)
    | (apply foldl_fst_keeps; intro d x hd) | (apply foldl_snd_keeps; intro d x hd) | apply ite_keeps
theorem Dev.holdover_keepsMode (c : KeepsMode P) (d x0) (h : P d) : P (Dev.holdover d x0) := by
  unfold Dev.holdover
  try dsimp only
  with_reducible repeat' first | assumption | apply Dev.setDisc_keepsMode c | apply Dev.setF_keepsMode c | apply ite_keeps
theorem Dev.hostRead_keepsMode (c : KeepsMode P) (d x0 x1) (h : P d) : P (Dev.hostRead d x0 x1) := by
  unfold Dev.hostRead
  try dsimp only
  with_reducible repeat' first | assumption | apply Dev.readWord_keepsMode c | apply Dev.emit_keepsMode c | apply ite_keeps
theorem Dev.i2cDone_keepsMode (c : KeepsMode P) (d x0) (h : P d) : P (Dev.i2cDone d x0) := by
  unfold Dev.i2cDone
  try dsimp only
  with_reducible repeat' first
    | assumption | apply Dev.i2cEnd_keepsMode c | apply Dev.emit_keepsMode c | refine snd_keeps (by assumption) ?_
    | refine fst_keeps (by assumption) ?_ | split
theorem Dev.i2cStall_keepsMode (c : KeepsMode P) (d x0) (h : P d) : P (Dev.i2cStall d x0) := by
  unfold Dev.i2cStall
  try dsimp only
  with_reducible repeat' first
    | assumption | apply Dev.i2cEnd_keepsMode c | apply Dev.emit_keepsMode c | apply ite_keeps
    | refine snd_keeps (by assumption) ?_ | refine fst_keeps (by assumption) ?_ | split
theorem Dev.i2cStuck_keepsMode (c : KeepsMode P) (d x0) (h : P d) : P (Dev.i2cStuck d x0) := by
  unfold Dev.i2cStuck
  try dsimp only
  with_reducible repeat' first
    | assumption | apply Dev.i2cEnd_keepsMode c | apply Dev.emit_keepsMode c | refine snd_keeps (by assumption) ?_
    | refine fst_keeps (by assumption) ?_ | split
theorem Dev.injectionDone_keepsMode (c : KeepsMode P) (d x0) (h : P d) : P (Dev.injectionDone d x0) := by
  unfold Dev.injectionDone
  try dsimp only
  with_reducible repeat' first | assumption | apply Dev.setGrp_keepsMode c | apply Dev.setF_keepsMode c | apply ite_keeps
theorem Dev.jtag_keepsMode (c : KeepsMode P) (d f) (hf : ∀ d, P d → P (f d)) (h : P d) : P (Dev.jtag d f) := by
  unfold Dev.jtag
  try dsimp only
  with_reducible repeat' first
    | assumption | apply hf | apply Dev.complete_keepsMode c | apply Dev.emit_keepsMode c | apply Dev.accessErr_keepsMode c
    | apply ite_keeps
theorem Dev.lanesOff_keepsMode (c : KeepsMode P) (d) (h : P d) : P (Dev.lanesOff d) := by
  unfold Dev.lanesOff
  try dsimp only
  with_reducible repeat' first | assumption | apply Dev.setLane_keepsMode c | apply Dev.showLanes_keepsMode c | (apply foldl_keeps; intro d x hd)
theorem Dev.latchEdge_keepsMode (c : KeepsMode P) (d x0 x1 x2) (h : P d) : P (Dev.latchEdge d x0 x1 x2) := by
  unfold Dev.latchEdge
  try dsimp only
  with_reducible repeat' first
    | assumption | apply Dev.stamped_keepsMode c | apply Dev.set64_keepsMode c | apply Dev.flag_keepsMode c
    | apply Dev.setAx_keepsMode c | apply ite_keeps | refine snd_keeps (by assumption) ?_ | refine fst_keeps (by assumption) ?_ | split
    | fail_if_no_progress refine KeepsMode.mk' c ?_ rfl
theorem Dev.openMeas_keepsMode (c : KeepsMode P) (d x0 x1) (h : P d) : P (Dev.openMeas d x0 x1) := by
  unfold Dev.openMeas
  try dsimp only
  with_reducible repeat' first | assumption | apply Dev.flagIf_keepsMode c | apply Dev.setMeas_keepsMode c | apply ite_keeps
theorem Dev.surveyLead_keepsMode (c : KeepsMode P) (d x0 x1 x2) (h : P d) : P (Dev.surveyLead d x0 x1 x2) := by
  unfold Dev.surveyLead
  try dsimp only
  with_reducible repeat' first
    | assumption | apply Dev.openMeas_keepsMode c | (apply foldl_keeps; intro d x hd)
    | (apply foldl_fst_keeps; intro d x hd) | (apply foldl_snd_keeps; intro d x hd) | apply ite_keeps | split
    | fail_if_no_progress refine KeepsMode.mk' c ?_ rfl
theorem Dev.leadOff_keepsMode (c : KeepsMode P) (d x0) (h : P d) : P (Dev.leadOff d x0) := by
  unfold Dev.leadOff
  try dsimp only
  with_reducible repeat' first
    | assumption | apply Dev.keepRow_keepsMode c | apply Dev.trackRow_keepsMode c | apply Dev.freshen_keepsMode c
    | apply Dev.surveyLead_keepsMode c | apply Dev.leaveGallery_keepsMode c | apply ite_keeps | refine snd_keeps (by assumption) ?_
    | refine fst_keeps (by assumption) ?_ | split
theorem Dev.startLead_keepsMode (c : KeepsMode P) (d x0 x1) (h : P d) : P (Dev.startLead d x0 x1) := by
  unfold Dev.startLead
  try dsimp only
  with_reducible repeat' first
    | assumption | apply Dev.stamped_keepsMode c | apply Dev.showLantern_keepsMode c | apply Dev.applySets_keepsMode c
    | apply Dev.leadPins_keepsMode c | apply Dev.refreshLock_keepsMode c | fail_if_no_progress refine KeepsMode.mk' c ?_ rfl
theorem Dev.leadTrigger_keepsMode (c : KeepsMode P) (d) (h : P d) : P (Dev.leadTrigger d) := by
  unfold Dev.leadTrigger
  try dsimp only
  with_reducible repeat' first
    | assumption | apply Dev.reconFallback_keepsMode c | apply Dev.flag_keepsMode c | apply Dev.holdQueue_keepsMode c
    | apply Dev.setLeadHwm_keepsMode c | apply Dev.startLead_keepsMode c | apply Dev.count_keepsMode c | apply Dev.irq_keepsMode c | apply ite_keeps
    | refine snd_keeps (by assumption) ?_ | refine fst_keeps (by assumption) ?_ | split
    | fail_if_no_progress refine KeepsMode.mk' c ?_ rfl
theorem Dev.ledgerWrite_keepsMode (c : KeepsMode P) (d) (h : P d) : P (Dev.ledgerWrite d) := by
  unfold Dev.ledgerWrite
  try dsimp only
  with_reducible repeat' first
    | assumption | apply Dev.setF_keepsMode c | refine snd_keeps (by assumption) ?_
    | refine fst_keeps (by assumption) ?_ | split | fail_if_no_progress refine KeepsMode.mk' c ?_ rfl
theorem Dev.limitStop_keepsMode (c : KeepsMode P) (d) (h : P d) : P (Dev.limitStop d) := by
  unfold Dev.limitStop
  try dsimp only
  with_reducible repeat' first | assumption | apply ite_keeps | fail_if_no_progress refine KeepsMode.mk' c ?_ rfl
theorem Dev.limitSwitch_keepsMode (c : KeepsMode P) (d x0 x1) (h : P d) : P (Dev.limitSwitch d x0 x1) := by
  unfold Dev.limitSwitch
  try dsimp only
  with_reducible repeat' first | assumption | apply Dev.limitStop_keepsMode c | apply Dev.setB_keepsMode c | apply ite_keeps
theorem Dev.lineTimeout_keepsMode (c : KeepsMode P) (d x0 x1) (h : P d) : P (Dev.lineTimeout d x0 x1) := by
  unfold Dev.lineTimeout
  try dsimp only
  with_reducible repeat' first
    | assumption | apply Dev.missing_keepsMode c | refine Dev.takeExpect_keepsMode c (by assumption) ?_
    | apply ite_keeps | refine snd_keeps (by assumption) ?_ | refine fst_keeps (by assumption) ?_ | split
theorem Dev.linkDown_keepsMode (c : KeepsMode P) (d x0) (h : P d) : P (Dev.linkDown d x0) := by
  unfold Dev.linkDown
  try dsimp only
  with_reducible repeat' first
    | assumption | apply Dev.setPort_keepsMode c | apply Dev.flag_keepsMode c | apply Dev.setF_keepsMode c
    | apply ite_keeps
theorem Dev.linkTrained_keepsMode (c : KeepsMode P) (d) (h : P d) : P (Dev.linkTrained d) := by
  unfold Dev.linkTrained
  try dsimp only
  with_reducible repeat' first | assumption | apply ite_keeps | fail_if_no_progress refine KeepsMode.mk' c ?_ rfl
theorem Dev.linkUp_keepsMode (c : KeepsMode P) (d x0) (h : P d) : P (Dev.linkUp d x0) := by
  unfold Dev.linkUp
  try dsimp only
  with_reducible repeat' first | assumption | apply Dev.setPort_keepsMode c | apply ite_keeps
theorem Dev.loadCells_keepsMode (c : KeepsMode P) (d x0) (h : P d) : P (Dev.loadCells d x0) := by
  unfold Dev.loadCells
  try dsimp only
  with_reducible repeat' first
    | assumption | apply Dev.emit_keepsMode c | apply ite_keeps | refine snd_keeps (by assumption) ?_
    | refine fst_keeps (by assumption) ?_ | split | fail_if_no_progress refine KeepsMode.mk' c ?_ rfl
theorem Dev.loadIr_keepsMode (c : KeepsMode P) (d x0) (h : P d) : P (Dev.loadIr d x0) := by
  unfold Dev.loadIr
  try dsimp only
  with_reducible repeat' first
    | assumption | apply Dev.flag_keepsMode c | apply Dev.emit_keepsMode c | apply ite_keeps
    | fail_if_no_progress refine KeepsMode.mk' c ?_ rfl
theorem Dev.logMove_keepsMode (c : KeepsMode P) (d x0 x1 x2 x3 x4) (h : P d) : P (Dev.logMove d x0 x1 x2 x3 x4).2 := by
  unfold Dev.logMove
  try dsimp only
  with_reducible repeat' first
    | assumption | apply Dev.flagIf_keepsMode c | apply Dev.setMem_keepsMode c | apply Dev.setF_keepsMode c
    | fail_if_no_progress refine KeepsMode.mk' c ?_ rfl
theorem Dev.logResume_keepsMode (c : KeepsMode P) (d x0 x1) (h : P d) : P (Dev.logResume d x0 x1) := by
  unfold Dev.logResume
  try dsimp only
  with_reducible repeat' first | assumption | apply Dev.setMem_keepsMode c | apply ite_keeps
theorem Dev.stepPulses_keepsMode (c : KeepsMode P) (d x0 x1) (h : P d) : P (Dev.stepPulses d x0 x1) := by
  unfold Dev.stepPulses
  try dsimp only
  with_reducible repeat' first
    | assumption | apply Dev.flagIf_keepsMode c | apply Dev.setAx_keepsMode c | apply Dev.emit_keepsMode c
    | apply ite_keeps
theorem Dev.setDemand_keepsMode (c : KeepsMode P) (d x0 x1 x2) (h : P d) : P (Dev.setDemand d x0 x1 x2) := by
  unfold Dev.setDemand
  try dsimp only
  with_reducible repeat' first | assumption | apply Dev.coilPhase_keepsMode c | apply Dev.setAx_keepsMode c | apply ite_keeps
theorem Dev.loopAxis_keepsMode (c : KeepsMode P) (d x0) (h : P d) : P (Dev.loopAxis d x0) := by
  unfold Dev.loopAxis
  try dsimp only
  with_reducible repeat' first
    | assumption | apply Dev.stepPulses_keepsMode c | apply Dev.setPower_keepsMode c | apply Dev.setDemand_keepsMode c
    | apply Dev.setAx_keepsMode c | apply Dev.coilPeriod_keepsMode c | apply Dev.setF_keepsMode c | apply ite_keeps
theorem Dev.ltnConfig_keepsMode (c : KeepsMode P) (d x0 x1 x2) (h : P d) : P (Dev.ltnConfig d x0 x1 x2) := by
  unfold Dev.ltnConfig
  try dsimp only
  with_reducible repeat' first
    | assumption | apply Dev.seqWrite_keepsMode c | refine snd_keeps (by assumption) ?_
    | refine fst_keeps (by assumption) ?_ | split
theorem Dev.mapPlane_keepsMode (c : KeepsMode P) (d x0 x1 x2) (h : P d) : P (Dev.mapPlane d x0 x1 x2) := by
  unfold Dev.mapPlane
  try dsimp only
  with_reducible repeat' first | assumption | apply Dev.mapLine_keepsMode c
theorem Dev.migrated_keepsMode (c : KeepsMode P) (d) (h : P d) : P (Dev.migrated d) := by
  unfold Dev.migrated
  try dsimp only
  with_reducible repeat' first
    | assumption | apply Dev.ledgerEvent_keepsMode c | apply Dev.flag_keepsMode c | refine snd_keeps (by assumption) ?_
    | refine fst_keeps (by assumption) ?_ | split | fail_if_no_progress refine KeepsMode.mk' c ?_ rfl
theorem Dev.modTime_keepsMode (c : KeepsMode P) (d x0) (h : P d) : P (Dev.modTime d x0) := by
  unfold Dev.modTime
  try dsimp only
  with_reducible repeat' first | assumption | apply Dev.cqSignal_keepsMode c | apply ite_keeps
theorem Dev.pllRefresh_keepsMode (c : KeepsMode P) (d) (h : P d) : P (Dev.pllRefresh d) := by
  unfold Dev.pllRefresh
  try dsimp only
  with_reducible repeat' first | assumption | apply Dev.setB_keepsMode c | (apply foldl_keeps; intro d x hd)
theorem Dev.serviceEnd_keepsMode (c : KeepsMode P) (d) (h : P d) : P (Dev.serviceEnd d) := by
  unfold Dev.serviceEnd
  try dsimp only
  with_reducible repeat' first
    | assumption | apply Dev.setSource_keepsMode c | apply Dev.setCh_keepsMode c | apply Dev.setF_keepsMode c
    | (apply forGC_keeps; intro d g c' hd) | (apply foldl_keeps; intro d x hd) | apply ite_keeps
theorem Dev.msixWrite_keepsMode (c : KeepsMode P) (d x0 x1) (h : P d) : P (Dev.msixWrite d x0 x1) := by
  unfold Dev.msixWrite
  try dsimp only
  with_reducible repeat' first | assumption | apply Dev.pbaSend_keepsMode c | fail_if_no_progress refine KeepsMode.mk' c ?_ rfl
theorem Dev.msixUnmask_keepsMode (c : KeepsMode P) (d x0) (h : P d) : P (Dev.msixUnmask d x0) := by
  unfold Dev.msixUnmask
  try dsimp only
  with_reducible repeat' first | assumption | apply Dev.msixWrite_keepsMode c
theorem Dev.openBuf_keepsMode (c : KeepsMode P) (d x0 x1) (h : P d) : P (Dev.openBuf d x0 x1) := by
  unfold Dev.openBuf
  try dsimp only
  with_reducible repeat' first
    | assumption | apply Dev.setCtx_keepsMode c | apply Dev.setSupply_keepsMode c | refine snd_keeps (by assumption) ?_
    | refine fst_keeps (by assumption) ?_ | split
theorem Dev.otpRow_keepsMode (c : KeepsMode P) (d x0 x1 x2 x3 x4 x5) (h : P d) : P (Dev.otpRow d x0 x1 x2 x3 x4 x5) := by
  unfold Dev.otpRow
  try dsimp only
  with_reducible repeat' first
    | assumption | ((apply Dev.storeCmd_keepsMode c); intro d hd) | apply Dev.otpRequest_keepsMode c
    | apply ite_keeps
theorem Dev.overcurrent_keepsMode (c : KeepsMode P) (d x0 x1 x2) (h : P d) : P (Dev.overcurrent d x0 x1 x2) := by
  unfold Dev.overcurrent
  try dsimp only
  with_reducible repeat' first
    | assumption | apply Dev.setPower_keepsMode c | apply Dev.haltMove_keepsMode c | apply Dev.setF_keepsMode c
    | apply Dev.refFail_keepsMode c | apply ite_keeps | fail_if_no_progress refine KeepsMode.mk' c ?_ rfl
theorem Dev.pdReq_keepsMode (c : KeepsMode P) (d x0) (h : P d) : P (Dev.pdReq d x0) := by
  unfold Dev.pdReq
  try dsimp only
  with_reducible repeat' first
    | assumption | apply Dev.setPort_keepsMode c | apply Dev.setTet_keepsMode c | apply Dev.sendLink_keepsMode c
    | apply ite_keeps
theorem Dev.perstHigh_keepsMode (c : KeepsMode P) (d) (h : P d) : P (Dev.perstHigh d) := by
  unfold Dev.perstHigh
  try dsimp only
  with_reducible repeat' first
    | assumption | apply Dev.emit_keepsMode c | apply ite_keeps
    | fail_if_no_progress refine KeepsMode.mk' c ?_ rfl
theorem Dev.planFeed_keepsMode (c : KeepsMode P) (d x0) (h : P d) : P (Dev.planFeed d x0).1 := by
  unfold Dev.planFeed
  try dsimp only
  with_reducible repeat' first
    | assumption | apply Dev.logResume_keepsMode c | apply Dev.logMove_keepsMode c
    | refine snd_keeps (by assumption) ?_ | refine fst_keeps (by assumption) ?_ | split
theorem Dev.putMove_keepsMode (c : KeepsMode P) (d x0) (h : P d) : P (Dev.putMove d x0) := by
  unfold Dev.putMove
  try dsimp only
  with_reducible repeat' first | assumption | apply ite_keeps | fail_if_no_progress refine KeepsMode.mk' c ?_ rfl
theorem Dev.planMove_keepsMode (c : KeepsMode P) (d x0) (h : P d) : P (Dev.planMove d x0) := by
  unfold Dev.planMove
  try dsimp only
  with_reducible repeat' first
    | assumption | apply Dev.putMove_keepsMode c | apply Dev.endMove_keepsMode c | apply Dev.planFeed_keepsMode c
    | apply Dev.setAx_keepsMode c | apply Dev.halt_keepsMode c | (apply foldl_keeps; intro d x hd) | (apply foldl_fst_keeps; intro d x hd)
    | (apply foldl_snd_keeps; intro d x hd) | apply ite_keeps
theorem Dev.pllLost_keepsMode (c : KeepsMode P) (d x0 x1) (h : P d) : P (Dev.pllLost d x0 x1) := by
  unfold Dev.pllLost
  try dsimp only
  with_reducible repeat' first | assumption | apply Dev.flag_keepsMode c | apply Dev.setF_keepsMode c | apply ite_keeps
theorem Dev.ppsEdge_keepsMode (c : KeepsMode P) (d) (h : P d) : P (Dev.ppsEdge d) := by
  unfold Dev.ppsEdge
  try dsimp only
  with_reducible repeat' first | assumption | apply Dev.measureBase_keepsMode c | apply Dev.eventStamp_keepsMode c | apply ite_keeps
theorem Dev.ppsOut_keepsMode (c : KeepsMode P) (d) (h : P d) : P (Dev.ppsOut d) := by
  unfold Dev.ppsOut
  try dsimp only
  with_reducible repeat' first | assumption | apply Dev.emit_keepsMode c | apply ite_keeps
theorem Dev.prepDone_keepsMode (c : KeepsMode P) (d x0 x1 x2) (h : P d) : P (Dev.prepDone d x0 x1 x2) := by
  unfold Dev.prepDone
  try dsimp only
  with_reducible repeat' first
    | assumption | apply Dev.setReg_keepsMode c | apply Dev.setRb_keepsMode c | apply Dev.rbRestart_keepsMode c
    | apply Dev.refCheck_keepsMode c | apply Dev.connect_keepsMode c | apply Dev.setGrp_keepsMode c | apply Dev.calChan_keepsMode c
    | apply Dev.rbIdle_keepsMode c | apply ite_keeps | refine snd_keeps (by assumption) ?_ | refine fst_keeps (by assumption) ?_ | split
theorem Dev.ptmDialog_keepsMode (c : KeepsMode P) (d x0) (h : P d) : P (Dev.ptmDialog d x0) := by
  unfold Dev.ptmDialog
  try dsimp only
  with_reducible repeat' first
    | assumption | apply Dev.measureBase_keepsMode c | apply ite_keeps | refine snd_keeps (by assumption) ?_
    | refine fst_keeps (by assumption) ?_ | split
theorem Dev.pwrOk_keepsMode (c : KeepsMode P) (d x0 x1) (h : P d) : P (Dev.pwrOk d x0 x1) := by
  unfold Dev.pwrOk
  try dsimp only
  with_reducible repeat' first
    | assumption | apply Dev.setCh_keepsMode c | apply Dev.connect_keepsMode c | apply Dev.setF_keepsMode c
    | apply ite_keeps | refine snd_keeps (by assumption) ?_ | refine fst_keeps (by assumption) ?_ | split
theorem Dev.rbCompare_keepsMode (c : KeepsMode P) (d x0 x1 x2) (h : P d) : P (Dev.rbCompare d x0 x1 x2) := by
  unfold Dev.rbCompare
  try dsimp only
  with_reducible repeat' first
    | assumption | apply Dev.flagIf_keepsMode c | apply Dev.setGrp_keepsMode c | apply Dev.compareEnd_keepsMode c
    | apply Dev.chargeMatch_keepsMode c | (apply foldl_keeps; intro d x hd) | (apply foldl_fst_keeps; intro d x hd)
    | (apply foldl_snd_keeps; intro d x hd) | apply ite_keeps | refine snd_keeps (by assumption) ?_ | refine fst_keeps (by assumption) ?_
    | split
theorem Dev.rbSwap_keepsMode (c : KeepsMode P) (d x0) (h : P d) : P (Dev.rbSwap d x0) := by
  unfold Dev.rbSwap
  try dsimp only
  with_reducible repeat' first
    | assumption | apply Dev.setReg_keepsMode c | apply Dev.setSource_keepsMode c | apply Dev.setRb_keepsMode c
    | apply Dev.retireCh_keepsMode c | apply Dev.ledgerEvent_keepsMode c | apply Dev.flag_keepsMode c | apply Dev.disconnect_keepsMode c
    | apply Dev.setCh_keepsMode c | apply Dev.setGrp_keepsMode c | apply ite_keeps | refine snd_keeps (by assumption) ?_
    | refine fst_keeps (by assumption) ?_ | split
theorem Dev.reconWait_keepsMode (c : KeepsMode P) (d x0) (h : P d) : P (Dev.reconWait d x0) := by
  unfold Dev.reconWait
  try dsimp only
  with_reducible repeat' first | assumption | apply Dev.reconFallback_keepsMode c
theorem Dev.reconnectionDone_keepsMode (c : KeepsMode P) (d x0 x1 x2) (h : P d) : P (Dev.reconnectionDone d x0 x1 x2) := by
  unfold Dev.reconnectionDone
  try dsimp only
  with_reducible repeat' first
    | assumption | apply Dev.setSource_keepsMode c | apply Dev.setCh_keepsMode c | apply Dev.commitPoint_keepsMode c
    | apply Dev.setF_keepsMode c | apply ite_keeps | refine snd_keeps (by assumption) ?_ | refine fst_keeps (by assumption) ?_ | split
theorem Dev.reconstruction_keepsMode (c : KeepsMode P) (d x0 x1 x2) (h : P d) : P (Dev.reconstruction d x0 x1 x2) := by
  unfold Dev.reconstruction
  try dsimp only
  with_reducible repeat' first
    | assumption | apply Dev.mapLine_keepsMode c | apply Dev.handOff_keepsMode c | apply Dev.leadOff_keepsMode c
    | (apply foldl_keeps; intro d x hd) | apply ite_keeps | refine snd_keeps (by assumption) ?_ | refine fst_keeps (by assumption) ?_
    | split
theorem Dev.recordWrite_keepsMode (c : KeepsMode P) (d) (h : P d) : P (Dev.recordWrite d) := by
  unfold Dev.recordWrite
  try dsimp only
  with_reducible repeat' first
    | assumption | apply Dev.checkStop_keepsMode c | apply Dev.setCtx_keepsMode c | apply Dev.openBuf_keepsMode c
    | apply Dev.roomCheck_keepsMode c | apply Dev.closeBuf_keepsMode c | apply Dev.setCtxCells_keepsMode c | apply Dev.emit_keepsMode c | apply ite_keeps
    | refine snd_keeps (by assumption) ?_ | refine fst_keeps (by assumption) ?_ | split
theorem Dev.sendRefEdge_keepsMode (c : KeepsMode P) (d x0) (h : P d) : P (Dev.sendRefEdge d x0) := by
  unfold Dev.sendRefEdge
  try dsimp only
  with_reducible repeat' first
    | assumption | apply Dev.originate_keepsMode c | apply ite_keeps | refine snd_keeps (by assumption) ?_
    | refine fst_keeps (by assumption) ?_ | split
theorem Dev.refDone_keepsMode (c : KeepsMode P) (d x0) (h : P d) : P (Dev.refDone d x0) := by
  unfold Dev.refDone
  try dsimp only
  with_reducible repeat' first
    | assumption | apply Dev.sendRefEdge_keepsMode c | apply Dev.redefine_keepsMode c | apply Dev.refReport_keepsMode c
    | apply Dev.setAx_keepsMode c | apply Dev.setF_keepsMode c | apply ite_keeps | refine snd_keeps (by assumption) ?_
    | refine fst_keeps (by assumption) ?_ | split
theorem Dev.refResult_keepsMode (c : KeepsMode P) (d x0 x1 x2) (h : P d) : P (Dev.refResult d x0 x1 x2) := by
  unfold Dev.refResult
  try dsimp only
  with_reducible repeat' first | assumption | apply Dev.setAx_keepsMode c
theorem Dev.refStep_keepsMode (c : KeepsMode P) (d x0) (h : P d) : P (Dev.refStep d x0) := by
  unfold Dev.refStep
  try dsimp only
  with_reducible repeat' first
    | assumption | apply Dev.redefine_keepsMode c | apply Dev.refResult_keepsMode c | apply Dev.refGo_keepsMode c
    | apply Dev.setAx_keepsMode c | apply ite_keeps | refine snd_keeps (by assumption) ?_ | refine fst_keeps (by assumption) ?_ | split
    | fail_if_no_progress refine KeepsMode.mk' c ?_ rfl
theorem Dev.referenceMeasurement_keepsMode (c : KeepsMode P) (d x0 x1) (h : P d) : P (Dev.referenceMeasurement d x0 x1) := by
  unfold Dev.referenceMeasurement
  try dsimp only
  with_reducible repeat' first | assumption | apply Dev.measureBase_keepsMode c | apply ite_keeps
theorem Dev.replayDone_keepsMode (c : KeepsMode P) (d x0 x1 x2 x3) (h : P d) : P (Dev.replayDone d x0 x1 x2 x3) := by
  unfold Dev.replayDone
  try dsimp only
  with_reducible repeat' first
    | assumption | apply Dev.mapPlane_keepsMode c | apply Dev.leadOff_keepsMode c | apply ite_keeps
    | refine snd_keeps (by assumption) ?_ | refine fst_keeps (by assumption) ?_ | split
theorem Dev.resetMul_keepsMode (c : KeepsMode P) (d) (h : P d) : P (Dev.resetMul d) := by
  unfold Dev.resetMul
  try dsimp only
  with_reducible repeat' first
    | assumption | apply Dev.ledWearAll_keepsMode c | apply Dev.setF_keepsMode c | (apply foldl_keeps; intro d x hd)
    | fail_if_no_progress refine KeepsMode.mk' c ?_ rfl
theorem Dev.retireSlice_keepsMode (c : KeepsMode P) (d x0 x1) (h : P d) : P (Dev.retireSlice d x0 x1) := by
  unfold Dev.retireSlice
  try dsimp only
  with_reducible repeat' first
    | assumption | apply Dev.ledgerEvent_keepsMode c | apply Dev.flag_keepsMode c | apply Dev.setF_keepsMode c
    | apply Dev.irq_keepsMode c | apply ite_keeps | refine snd_keeps (by assumption) ?_ | refine fst_keeps (by assumption) ?_ | split
    | fail_if_no_progress refine KeepsMode.mk' c ?_ rfl
theorem Dev.rotationStart_keepsMode (c : KeepsMode P) (d x0) (h : P d) : P (Dev.rotationStart d x0) := by
  unfold Dev.rotationStart
  try dsimp only
  with_reducible repeat' first
    | assumption | apply Dev.setRb_keepsMode c | apply Dev.setGrp_keepsMode c | apply Dev.setB_keepsMode c
    | apply ite_keeps | refine snd_keeps (by assumption) ?_ | refine fst_keeps (by assumption) ?_ | split
theorem Dev.rowErrors_keepsMode (c : KeepsMode P) (d x0 x1 x2) (h : P d) : P (Dev.rowErrors d x0 x1 x2) := by
  unfold Dev.rowErrors
  try dsimp only
  with_reducible repeat' first
    | assumption | apply Dev.ledgerEvent_keepsMode c | apply Dev.flag_keepsMode c | apply Dev.setF_keepsMode c
    | apply ite_keeps | split | fail_if_no_progress refine KeepsMode.mk' c ?_ rfl
theorem Dev.stepMove_keepsMode (c : KeepsMode P) (d x0) (h : P d) : P (Dev.stepMove d x0) := by
  unfold Dev.stepMove
  try dsimp only
  with_reducible repeat' first
    | assumption | apply Dev.putMove_keepsMode c | apply Dev.endMove_keepsMode c | apply Dev.setAx_keepsMode c
    | apply Dev.followLeader_keepsMode c | apply ite_keeps
theorem Dev.runMoves_keepsMode (c : KeepsMode P) (d) (h : P d) : P (Dev.runMoves d) := by
  unfold Dev.runMoves
  try dsimp only
  with_reducible repeat' first
    | assumption | apply Dev.planMove_keepsMode c | apply Dev.stepMove_keepsMode c | apply Dev.limitStop_keepsMode c
    | (apply foldl_keeps; intro d x hd) | apply ite_keeps | refine snd_keeps (by assumption) ?_ | refine fst_keeps (by assumption) ?_
    | split
theorem Dev.sliceFail_keepsMode (c : KeepsMode P) (d x0) (h : P d) : P (Dev.sliceFail d x0) := by
  unfold Dev.sliceFail
  try dsimp only
  with_reducible repeat' first
    | assumption | apply Dev.retireSlice_keepsMode c | apply ite_keeps | refine snd_keeps (by assumption) ?_
    | refine fst_keeps (by assumption) ?_ | split | fail_if_no_progress refine KeepsMode.mk' c ?_ rfl
theorem Dev.segmentJob_keepsMode (c : KeepsMode P) (d x0 x1 x2 x3) (h : P d) : P (Dev.segmentJob d x0 x1 x2 x3) := by
  unfold Dev.segmentJob
  try dsimp only
  with_reducible repeat' first
    | assumption | apply Dev.flag_keepsMode c | apply Dev.mapPlane_keepsMode c | apply Dev.sliceFail_keepsMode c
    | apply Dev.leadOff_keepsMode c | apply Dev.count_keepsMode c | apply ite_keeps | refine snd_keeps (by assumption) ?_
    | refine fst_keeps (by assumption) ?_ | split
theorem Dev.sendGovernor_keepsMode (c : KeepsMode P) (d) (h : P d) : P (Dev.sendGovernor d) := by
  unfold Dev.sendGovernor
  try dsimp only
  with_reducible repeat' first | assumption | apply Dev.originate_keepsMode c | apply ite_keeps
theorem Dev.sendSync_keepsMode (c : KeepsMode P) (d) (h : P d) : P (Dev.sendSync d) := by
  unfold Dev.sendSync
  try dsimp only
  with_reducible repeat' first | assumption | apply Dev.sendVia_keepsMode c | apply Dev.setTet_keepsMode c | apply ite_keeps
theorem Dev.sequenceEnd_keepsMode (c : KeepsMode P) (d x0 x1 x2) (h : P d) : P (Dev.sequenceEnd d x0 x1 x2) := by
  unfold Dev.sequenceEnd
  try dsimp only
  with_reducible repeat' first
    | assumption | apply Dev.endLine_keepsMode c | apply Dev.startMain_keepsMode c | apply Dev.holdQueue_keepsMode c
    | apply Dev.startLead_keepsMode c | apply ite_keeps | refine snd_keeps (by assumption) ?_ | refine fst_keeps (by assumption) ?_ | split
    | fail_if_no_progress refine KeepsMode.mk' c ?_ rfl
theorem Dev.shutterMove_keepsMode (c : KeepsMode P) (d) (h : P d) : P (Dev.shutterMove d) := by
  unfold Dev.shutterMove
  try dsimp only
  with_reducible repeat' first
    | assumption | apply Dev.acceptMove_keepsMode c | apply Dev.calShutter_keepsMode c | apply Dev.newMove_keepsMode c
    | apply ite_keeps | refine snd_keeps (by assumption) ?_ | refine fst_keeps (by assumption) ?_ | split
    | fail_if_no_progress refine KeepsMode.mk' c ?_ rfl
theorem Dev.servoStep_keepsMode (c : KeepsMode P) (d) (h : P d) : P (Dev.servoStep d) := by
  unfold Dev.servoStep
  try dsimp only
  with_reducible repeat' first
    | assumption | apply Dev.flowVisible_keepsMode c | apply Dev.axisAfter_keepsMode c | apply Dev.reschedule_keepsMode c
    | apply Dev.runMoves_keepsMode c | apply Dev.govStep_keepsMode c | apply Dev.axisPeriod_keepsMode c | apply Dev.refStep_keepsMode c
    | apply Dev.loopAxis_keepsMode c | apply Dev.sendGovernor_keepsMode c | apply Dev.holdsDone_keepsMode c | apply Dev.estopClear_keepsMode c
    | apply Dev.shutterMove_keepsMode c | (apply foldl_keeps; intro d x hd) | apply ite_keeps
    | fail_if_no_progress refine KeepsMode.mk' c ?_ rfl
theorem Dev.setBusMaster_keepsMode (c : KeepsMode P) (d x0) (h : P d) : P (Dev.setBusMaster d x0) := by
  unfold Dev.setBusMaster
  try dsimp only
  with_reducible repeat' first
    | assumption | apply Dev.pbaSend_keepsMode c | (apply foldl_keeps; intro d x hd)
    | fail_if_no_progress refine KeepsMode.mk' c ?_ rfl
theorem Dev.setNext_keepsMode (c : KeepsMode P) (d x0 x1 x2) (h : P d) : P (Dev.setNext d x0 x1 x2) := by
  unfold Dev.setNext
  try dsimp only
  with_reducible repeat' first
    | assumption | apply Dev.flag_keepsMode c | apply Dev.setF_keepsMode c | apply ite_keeps | split
    | fail_if_no_progress refine KeepsMode.mk' c ?_ rfl
theorem Dev.shadingCommit_keepsMode (c : KeepsMode P) (d) (h : P d) : P (Dev.shadingCommit d) := by
  unfold Dev.shadingCommit
  try dsimp only
  with_reducible repeat' first
    | assumption | apply Dev.commitSet_keepsMode c | apply Dev.resetMul_keepsMode c | apply Dev.swap_keepsMode c
    | apply Dev.offerShadow_keepsMode c | apply Dev.calReport_keepsMode c | apply Dev.setF_keepsMode c | apply ite_keeps
    | refine snd_keeps (by assumption) ?_ | refine fst_keeps (by assumption) ?_ | split
theorem Dev.showWin_keepsMode (c : KeepsMode P) (d x0) (h : P d) : P (Dev.showWin d x0) := by
  unfold Dev.showWin
  try dsimp only
  with_reducible repeat' first | assumption | apply Dev.setFI_keepsMode c | apply Dev.setF_keepsMode c
theorem Dev.spareRotate_keepsMode (c : KeepsMode P) (d x0) (h : P d) : P (Dev.spareRotate d x0) := by
  unfold Dev.spareRotate
  try dsimp only
  with_reducible repeat' first
    | assumption | apply Dev.setLane_keepsMode c | apply Dev.showLanes_keepsMode c | apply ite_keeps
    | refine snd_keeps (by assumption) ?_ | refine fst_keeps (by assumption) ?_ | split
theorem Dev.sqError_keepsMode (c : KeepsMode P) (d x0 x1 x2) (h : P d) : P (Dev.sqError d x0 x1 x2) := by
  unfold Dev.sqError
  try dsimp only
  with_reducible repeat' first
    | assumption | apply Dev.post_keepsMode c | apply Dev.set64_keepsMode c | apply Dev.setF_keepsMode c
    | apply Dev.irq_keepsMode c
theorem Dev.sqDoorbell_keepsMode (c : KeepsMode P) (d x0 x1 x2) (h : P d) : P (Dev.sqDoorbell d x0 x1 x2) := by
  unfold Dev.sqDoorbell
  try dsimp only
  with_reducible repeat' first
    | assumption | apply Dev.cqWaits_keepsMode c | apply Dev.sqRefresh_keepsMode c | apply Dev.sqError_keepsMode c
    | apply Dev.setSq_keepsMode c | apply Dev.doorbellRefused_keepsMode c | apply ite_keeps
theorem Dev.sqFetch_keepsMode (c : KeepsMode P) (d x0 x1) (h : P d) : P (Dev.sqFetch d x0 x1) := by
  unfold Dev.sqFetch
  try dsimp only
  with_reducible repeat' first
    | assumption | apply Dev.sqRefresh_keepsMode c | apply Dev.setSq_keepsMode c | apply Dev.emit_keepsMode c
    | apply ite_keeps
theorem Dev.sqFetchError_keepsMode (c : KeepsMode P) (d x0 x1) (h : P d) : P (Dev.sqFetchError d x0 x1) := by
  unfold Dev.sqFetchError
  try dsimp only
  with_reducible repeat' first | assumption | apply Dev.sqError_keepsMode c | apply Dev.emit_keepsMode c | apply ite_keeps
theorem Dev.squeezePoint_keepsMode (c : KeepsMode P) (d x0 x1 x2) (h : P d) : P (Dev.squeezePoint d x0 x1 x2) := by
  unfold Dev.squeezePoint
  try dsimp only
  with_reducible repeat' first
    | assumption | apply Dev.connect_keepsMode c | apply Dev.setGrp_keepsMode c | apply Dev.count_keepsMode c
    | apply ite_keeps | refine snd_keeps (by assumption) ?_ | refine fst_keeps (by assumption) ?_ | split
theorem Dev.ssiFrame_keepsMode (c : KeepsMode P) (d x0 x1 x2) (h : P d) : P (Dev.ssiFrame d x0 x1 x2) := by
  unfold Dev.ssiFrame
  try dsimp only
  with_reducible repeat' first
    | assumption | apply Dev.encMove_keepsMode c | apply Dev.encFault_keepsMode c | apply Dev.setAx_keepsMode c
    | apply ite_keeps | refine snd_keeps (by assumption) ?_ | refine fst_keeps (by assumption) ?_ | split
theorem Dev.stallFlag_keepsMode (c : KeepsMode P) (d x0) (h : P d) : P (Dev.stallFlag d x0) := by
  unfold Dev.stallFlag
  try dsimp only
  with_reducible repeat' first
    | assumption | apply Dev.stamped_keepsMode c | apply Dev.set64_keepsMode c | apply Dev.flag_keepsMode c
    | apply Dev.flagIf_keepsMode c | apply Dev.haltMove_keepsMode c | apply Dev.setAx_keepsMode c | apply ite_keeps
theorem Dev.standstillCheck_keepsMode (c : KeepsMode P) (d x0) (h : P d) : P (Dev.standstillCheck d x0) := by
  unfold Dev.standstillCheck
  try dsimp only
  with_reducible repeat' first | assumption | apply Dev.checkCh_keepsMode c | (apply forGC_keeps; intro d g c' hd) | apply ite_keeps
theorem Dev.stationMasterLost_keepsMode (c : KeepsMode P) (d) (h : P d) : P (Dev.stationMasterLost d) := by
  unfold Dev.stationMasterLost
  try dsimp only
  with_reducible repeat' first | assumption | apply Dev.flag_keepsMode c | apply Dev.setTet_keepsMode c | apply ite_keeps
theorem Dev.strMeasure_keepsMode (c : KeepsMode P) (d x0 x1) (h : P d) : P (Dev.strMeasure d x0 x1).2 := by
  unfold Dev.strMeasure
  try dsimp only
  with_reducible repeat' first
    | assumption | (apply foldl_keeps; intro d x hd) | (apply foldl_fst_keeps; intro d x hd)
    | (apply foldl_snd_keeps; intro d x hd) | apply ite_keeps | refine snd_keeps (by assumption) ?_ | refine fst_keeps (by assumption) ?_
    | split | fail_if_no_progress refine KeepsMode.mk' c ?_ rfl
theorem Dev.strataMeasure_keepsMode (c : KeepsMode P) (d) (h : P d) : P (Dev.strataMeasure d) := by
  unfold Dev.strataMeasure
  try dsimp only
  with_reducible repeat' first
    | assumption | apply Dev.setBoundaries_keepsMode c | apply Dev.putStrata_keepsMode c | apply Dev.strMeasure_keepsMode c
    | apply ite_keeps | refine snd_keeps (by assumption) ?_ | refine fst_keeps (by assumption) ?_ | split
theorem Dev.surResult_keepsMode (c : KeepsMode P) (d x0 x1) (h : P d) : P (Dev.surResult d x0 x1) := by
  unfold Dev.surResult
  try dsimp only
  with_reducible repeat' first
    | assumption | apply Dev.putSurvey_keepsMode c | apply Dev.enterSurvey_keepsMode c | apply Dev.sendResult_keepsMode c
    | apply ite_keeps
theorem Dev.surveyMeasure_keepsMode (c : KeepsMode P) (d) (h : P d) : P (Dev.surveyMeasure d) := by
  unfold Dev.surveyMeasure
  try dsimp only
  with_reducible repeat' first
    | assumption | apply Dev.closeMeas_keepsMode c | apply Dev.surResult_keepsMode c | apply Dev.showWin_keepsMode c
    | (apply foldl_keeps; intro d x hd) | refine snd_keeps (by assumption) ?_ | refine fst_keeps (by assumption) ?_ | split
    | fail_if_no_progress refine KeepsMode.mk' c ?_ rfl
theorem Dev.switchEdge_keepsMode (c : KeepsMode P) (d x0 x1 x2 x3) (h : P d) : P (Dev.switchEdge d x0 x1 x2 x3) := by
  unfold Dev.switchEdge
  try dsimp only
  with_reducible repeat' first
    | assumption | apply Dev.latchEdge_keepsMode c | apply Dev.setAx_keepsMode c | apply Dev.setB_keepsMode c
    | apply ite_keeps
theorem Dev.tevEdge_keepsMode (c : KeepsMode P) (d x0 x1) (h : P d) : P (Dev.tevEdge d x0 x1) := by
  unfold Dev.tevEdge
  try dsimp only
  with_reducible repeat' first | assumption | apply Dev.eventStamp_keepsMode c | apply ite_keeps
theorem Dev.timerTrigger_keepsMode (c : KeepsMode P) (d) (h : P d) : P (Dev.timerTrigger d) := by
  unfold Dev.timerTrigger
  try dsimp only
  with_reducible repeat' first | assumption | apply Dev.otherLine_keepsMode c | apply ite_keeps
theorem Dev.trackUpdate_keepsMode (c : KeepsMode P) (d x0 x1) (h : P d) : P (Dev.trackUpdate d x0 x1) := by
  unfold Dev.trackUpdate
  try dsimp only
  with_reducible repeat' first
    | assumption | apply Dev.ledWearAll_keepsMode c | apply Dev.dropTrack_keepsMode c | apply Dev.setNext_keepsMode c
    | (apply foldl_keeps; intro d x hd) | apply ite_keeps | refine snd_keeps (by assumption) ?_ | refine fst_keeps (by assumption) ?_
    | split
theorem Dev.ueSurvey_keepsMode (c : KeepsMode P) (d x0 x1) (h : P d) : P (Dev.ueSurvey d x0 x1) := by
  unfold Dev.ueSurvey
  try dsimp only
  with_reducible repeat' first
    | assumption | apply ite_keeps | refine snd_keeps (by assumption) ?_ | refine fst_keeps (by assumption) ?_
    | split | fail_if_no_progress refine KeepsMode.mk' c ?_ rfl
theorem Dev.ueRecord_keepsMode (c : KeepsMode P) (d x0 x1) (h : P d) : P (Dev.ueRecord d x0 x1) := by
  unfold Dev.ueRecord
  try dsimp only
  with_reducible repeat' first
    | assumption | apply Dev.checkStop_keepsMode c | apply Dev.setCtx_keepsMode c | apply Dev.roomCheck_keepsMode c
    | apply Dev.setCtxCells_keepsMode c | refine snd_keeps (by assumption) ?_ | refine fst_keeps (by assumption) ?_ | split
theorem Dev.ueRaw_keepsMode (c : KeepsMode P) (d x0 x1 x2 x3) (h : P d) : P (Dev.ueRaw d x0 x1 x2 x3) := by
  unfold Dev.ueRaw
  try dsimp only
  with_reducible repeat' first | assumption | apply ite_keeps | fail_if_no_progress refine KeepsMode.mk' c ?_ rfl
theorem Dev.ueHistory_keepsMode (c : KeepsMode P) (d x0 x1) (h : P d) : P (Dev.ueHistory d x0 x1) := by
  unfold Dev.ueHistory
  try dsimp only
  with_reducible repeat' first
    | assumption | refine snd_keeps (by assumption) ?_ | refine fst_keeps (by assumption) ?_ | split
    | fail_if_no_progress refine KeepsMode.mk' c ?_ rfl
theorem Dev.ue_keepsMode (c : KeepsMode P) (d x0) (h : P d) : P (Dev.ue d x0) := by
  unfold Dev.ue
  try dsimp only
  with_reducible repeat' first
    | assumption | apply Dev.haulUe_keepsMode c | apply Dev.ueSurvey_keepsMode c | apply Dev.ueRecord_keepsMode c
    | apply Dev.ueRaw_keepsMode c | apply Dev.ueHistory_keepsMode c | apply Dev.count_keepsMode c | apply ite_keeps
    | refine snd_keeps (by assumption) ?_ | refine fst_keeps (by assumption) ?_ | split
theorem Dev.verification_keepsMode (c : KeepsMode P) (d x0) (h : P d) : P (Dev.verification d x0) := by
  unfold Dev.verification
  try dsimp only
  with_reducible repeat' first
    | assumption | apply Dev.flagIf_keepsMode c | apply ite_keeps | refine snd_keeps (by assumption) ?_
    | refine fst_keeps (by assumption) ?_ | split | fail_if_no_progress refine KeepsMode.mk' c ?_ rfl

/-- Every command but those that `changesMode` lists lifts a device function that keeps the mode. -/
theorem exec_lifts_mode (i : Instr) (s : State) (hi : i.changesMode = false) (k : KeepsMode P) :
    ∃ f, exec i s = s.lift f ∧ (P s.dev → P (f s.dev)) := by
  cases i with
  | nop src => exact ⟨(·.nop src), rfl, fun h => by apply Dev.nop_keepsMode k; exact h⟩
  | invalidOpcode src => exact ⟨(·.invalidOpcode src), rfl, fun h => by apply Dev.invalidOpcode_keepsMode k; exact h⟩
  | bufferPost src supply addr => exact ⟨(·.bufferPost src supply addr), rfl, fun h => by apply Dev.bufferPost_keepsMode k; exact h⟩
  | ctxStart src n line => exact ⟨(·.ctxStart src n line), rfl, fun h => by apply Dev.ctxStart_keepsMode k; exact h⟩
  | ctxStop src n line => exact ⟨(·.ctxStop src n line), rfl, fun h => by apply Dev.ctxStop_keepsMode k; exact h⟩
  | move src axis target set rev rel => exact ⟨(·.moveOne src axis target set rev rel), rfl, fun h => by apply Dev.moveOne_keepsMode k; exact h⟩
  | moveCoord src mask targets set rev rel => exact ⟨(·.moveCoord src mask targets set rev rel), rfl, fun h => by apply Dev.moveCoord_keepsMode k; exact h⟩
  | hold src mask => exact ⟨(·.holdCmd src mask), rfl, fun h => by apply Dev.holdCmd_keepsMode k; exact h⟩
  | resume src mask => exact ⟨(·.resumeCmd src mask), rfl, fun h => by apply Dev.resumeCmd_keepsMode k; exact h⟩
  | abortContext src ctx => exact ⟨(·.abortCmd src 0 ctx 0), rfl, fun h => by apply Dev.abortCmd_keepsMode k; exact h⟩
  | abortRing src ring => exact ⟨(·.abortCmd src 1 ring 0), rfl, fun h => by apply Dev.abortCmd_keepsMode k; exact h⟩
  | abortAxis src mask => exact ⟨(·.abortCmd src 2 mask 0), rfl, fun h => by apply Dev.abortCmd_keepsMode k; exact h⟩
  | abortHaul src ch => exact ⟨(·.abortCmd src 3 ch 0), rfl, fun h => by apply Dev.abortCmd_keepsMode k; exact h⟩
  | abortCommand src ring cid => exact ⟨(·.abortCmd src 4 cid ring), rfl, fun h => by apply Dev.abortCmd_keepsMode k; exact h⟩
  | afeFull src x => exact ⟨(·.afeFull src x), rfl, fun h => by apply Dev.afeFull_keepsMode k; exact h⟩
  | shadingFull src => exact ⟨(·.shadingFull src), rfl, fun h => by apply Dev.shadingFull_keepsMode k; exact h⟩
  | hkcSelfcal src x => exact ⟨(·.hkcCalRun src x), rfl, fun h => by apply Dev.hkcCalRun_keepsMode k; exact h⟩
  | tableLoadBarRecord src addr len => exact ⟨(·.tableLoad src 1 addr len false), rfl, fun h => by apply Dev.tableLoad_keepsMode k; exact h⟩
  | tableLoadShading src addr len swap => exact ⟨(·.tableLoad src 2 addr len swap), rfl, fun h => by apply Dev.tableLoad_keepsMode k; exact h⟩
  | tableLoadContext src addr len => exact ⟨(·.tableLoad src 3 addr len false), rfl, fun h => by apply Dev.tableLoad_keepsMode k; exact h⟩
  | tableLoadFlowstone src addr len => exact ⟨(·.tableLoad src 4 addr len false), rfl, fun h => by apply Dev.tableLoad_keepsMode k; exact h⟩
  | timeSchedule src slot action lateDrop base time param => exact ⟨(·.schedule src slot action lateDrop base time.toNat param), rfl, fun h => by apply Dev.schedule_keepsMode k; exact h⟩
  | boundaryPost src sens swath adv pos mask => exact ⟨(fun d => d.boundaryPost src sens swath.toNat adv.toNat pos (mask.1.toNat + mask.2.toNat * 2 ^ 32)), rfl, fun h => by dsimp only; with_reducible repeat' first | assumption | apply Dev.boundaryPost_keepsMode k⟩
  | attest src addr len nonce => exact ⟨(·.attestCmd src addr len nonce), rfl, fun h => by apply Dev.attestCmd_keepsMode k; exact h⟩
  | storeWriteFirmware src addr len img e => exact ⟨(·.storeCmd src addr len (·.writeFirmware src len img e)), rfl, fun h => by dsimp only; with_reducible repeat' first | assumption | (apply Dev.storeCmd_keepsMode k; intro d hd) | apply Dev.writeFirmware_keepsMode k⟩
  | storeWriteCalStore src addr len img e => exact ⟨(·.storeCmd src addr len (·.writeCalStore src len img e)), rfl, fun h => by dsimp only; with_reducible repeat' first | assumption | (apply Dev.storeCmd_keepsMode k; intro d hd) | apply Dev.writeCalStore_keepsMode k⟩
  | oemKeyAdd src addr len img cut => exact ⟨(·.otpRow 1 src addr len img cut), rfl, fun h => by apply Dev.otpRow_keepsMode k; exact h⟩
  | oemKeyRevoke src addr len img => exact ⟨(·.otpRow 2 src addr len img false), rfl, fun h => by apply Dev.otpRow_keepsMode k; exact h⟩
  | rollbackSet src addr len img => exact ⟨(·.otpRow 3 src addr len img false), rfl, fun h => by apply Dev.otpRow_keepsMode k; exact h⟩
  | otpLock src addr len img => exact ⟨(·.otpRow 4 src addr len img false), rfl, fun h => by apply Dev.otpRow_keepsMode k; exact h⟩
  | sqDoorbell sq v full => exact ⟨(·.sqDoorbell sq v full), rfl, fun h => by apply Dev.sqDoorbell_keepsMode k; exact h⟩
  | cqDoorbell cq v full => exact ⟨(·.cqDoorbell cq v full), rfl, fun h => by apply Dev.cqDoorbell_keepsMode k; exact h⟩
  | sqFetch sq entries => exact ⟨(·.sqFetch sq entries), rfl, fun h => by apply Dev.sqFetch_keepsMode k; exact h⟩
  | commandStart x => exact ⟨(·.commandStart x), rfl, fun h => by apply Dev.commandStart_keepsMode k; exact h⟩
  | cplTimeout sq => exact ⟨(·.sqFetchError sq 1), rfl, fun h => by apply Dev.sqFetchError_keepsMode k; exact h⟩
  | ringError sq cause => exact ⟨(·.sqFetchError sq (cause.val + 2)), rfl, fun h => by apply Dev.sqFetchError_keepsMode k; exact h⟩
  | completionWrite cq => exact ⟨(·.completionWrite cq), rfl, fun h => by apply Dev.completionWrite_keepsMode k; exact h⟩
  | interruptModTime cq => exact ⟨(·.modTime cq), rfl, fun h => by apply Dev.modTime_keepsMode k; exact h⟩
  | msixUnmask vector => exact ⟨(·.msixUnmask vector), rfl, fun h => by apply Dev.msixUnmask_keepsMode k; exact h⟩
  | busMasterEnable on => exact ⟨(·.setBusMaster on), rfl, fun h => by apply Dev.setBusMaster_keepsMode k; exact h⟩
  | d3hotTransition  => exact ⟨(·.d3hot), rfl, fun h => by apply Dev.d3hot_keepsMode k; exact h⟩
  | d0Return  => exact ⟨(·.d0), rfl, fun h => by apply Dev.d0_keepsMode k; exact h⟩
  | registerAbort rq v => exact ⟨(fun d => if d.awake then d.registerAbort rq v else d), rfl, fun h => by dsimp only; with_reducible repeat' first | assumption | apply Dev.registerAbort_keepsMode k | apply ite_keeps⟩
  | sqCfgWrite rq sq v => exact ⟨(fun d => if d.awake then d.sqCfgWrite rq sq v else d), rfl, fun h => by dsimp only; with_reducible repeat' first | assumption | apply Dev.sqCfgWrite_keepsMode k | apply ite_keeps⟩
  | cqCfgWrite rq cq v => exact ⟨(fun d => if d.awake then d.cqCfgWrite rq cq v else d), rfl, fun h => by dsimp only; with_reducible repeat' first | assumption | apply Dev.cqCfgWrite_keepsMode k | apply ite_keeps⟩
  | modeReqStandby rq => exact ⟨(·.modeReq rq 1), rfl, fun h => by apply Dev.modeReq_keepsMode k; exact h⟩
  | modeReqCalibrate rq => exact ⟨(·.modeReq rq 2), rfl, fun h => by apply Dev.modeReq_keepsMode k; exact h⟩
  | modeReqRun rq => exact ⟨(·.modeReq rq 3), rfl, fun h => by apply Dev.modeReq_keepsMode k; exact h⟩
  | modeReqService rq => exact ⟨(·.modeReq rq 4), rfl, fun h => by apply Dev.modeReq_keepsMode k; exact h⟩
  | modeReqDormant rq => exact ⟨(·.modeReq rq 5), rfl, fun h => by apply Dev.modeReq_keepsMode k; exact h⟩
  | modeRequestComplete => cases hi
  | warmSoftwareReset rq v => cases hi
  | powerOnReset => cases hi
  | brownOut => cases hi
  | railsValid  => exact ⟨(fun d => match d.rst with | some k => if k.stops then d else { d with rst := none } | none => d), rfl, fun h => by dsimp only; with_reducible repeat' first | assumption | apply ite_keeps | split | fail_if_no_progress refine KeepsMode.mk' k ?_ rfl⟩
  | resetN => cases hi
  | watchdogExpiry => cases hi
  | pcieConventionalReset perst => cases hi
  | functionLevelReset => cases hi
  | resetAxisStopped timeout => cases hi
  | wakeFromDormant src falling => cases hi
  | boot x => cases hi
  | i2cGo rq n v target => exact ⟨(fun d => if d.awake then d.i2cCmd rq n (v ||| 0x80000000#32) target else d), rfl, fun h => by dsimp only; with_reducible repeat' first | assumption | apply Dev.i2cCmd_keepsMode k | apply ite_keeps⟩
  | i2cCfgWrite rq n v => exact ⟨(fun d => if d.awake then d.i2cCfg rq n v else d), rfl, fun h => by dsimp only; with_reducible repeat' first | assumption | apply Dev.i2cCfg_keepsMode k | apply ite_keeps⟩
  | i2cTxPush rq n v => exact ⟨(fun d => if d.awake then d.i2cPush rq n v else d), rfl, fun h => by dsimp only; with_reducible repeat' first | assumption | apply Dev.i2cPush_keepsMode k | apply ite_keeps⟩
  | i2cRxPop rq n => exact ⟨(fun d => if d.awake then (d.i2cPop rq n).2.emit (.readData (R.I2C_CFG n + 0x60) (d.i2cPop rq n).1) else d), rfl, fun h => by dsimp only; with_reducible repeat' first | assumption | apply Dev.i2cPop_keepsMode k | apply Dev.emit_keepsMode k | apply ite_keeps⟩
  | i2cTransferEnd n => exact ⟨(·.i2cDone n), rfl, fun h => by apply Dev.i2cDone_keepsMode k; exact h⟩
  | busStuck n => exact ⟨(·.i2cStuck n), rfl, fun h => by apply Dev.i2cStuck_keepsMode k; exact h⟩
  | fifoStall n => exact ⟨(·.i2cStall n), rfl, fun h => by apply Dev.i2cStall_keepsMode k; exact h⟩
  | genbLine g live spare => exact ⟨(·.genB g live spare), rfl, fun h => by apply Dev.genB_keepsMode k; exact h⟩
  | gencPacket g pad live spare => exact ⟨(·.genC g pad live spare), rfl, fun h => by apply Dev.genC_keepsMode k; exact h⟩
  | genbClockLost g => exact ⟨(·.genBLost g), rfl, fun h => by apply Dev.genBLost_keepsMode k; exact h⟩
  | genbLock g => exact ⟨(·.genBLocked g), rfl, fun h => by apply Dev.genBLocked_keepsMode k; exact h⟩
  | gencLock g pad spare => exact ⟨(·.genCLock g pad spare), rfl, fun h => by apply Dev.genCLock_keepsMode k; exact h⟩
  | gencLossOfLock g pad spare => exact ⟨(·.genCLoss g pad spare), rfl, fun h => by apply Dev.genCLoss_keepsMode k; exact h⟩
  | eyeAdjust g eyes => exact ⟨(·.eyeAdjust g eyes), rfl, fun h => by apply Dev.eyeAdjust_keepsMode k; exact h⟩
  | spareRotation g => exact ⟨(·.spareRotate g), rfl, fun h => by apply Dev.spareRotate_keepsMode k; exact h⟩
  | lineMissing g pad => exact ⟨(·.lineTimeout g pad), rfl, fun h => by apply Dev.lineTimeout_keepsMode k; exact h⟩
  | channelCheck codes abandoned => exact ⟨(·.channelCheck codes abandoned), rfl, fun h => by apply Dev.channelCheck_keepsMode k; exact h⟩
  | standstillCheck codes => exact ⟨(·.standstillCheck codes), rfl, fun h => by apply Dev.standstillCheck_keepsMode k; exact h⟩
  | pwrOk g c => exact ⟨(·.pwrOk g c), rfl, fun h => by apply Dev.pwrOk_keepsMode k; exact h⟩
  | reconnectionDone g c code => exact ⟨(·.reconnectionDone g c code), rfl, fun h => by apply Dev.reconnectionDone_keepsMode k; exact h⟩
  | afeChCtrlWrite g c v => exact ⟨(fun d => if d.awake then d.chCtrlWrite g c v else d), rfl, fun h => by dsimp only; with_reducible repeat' first | assumption | apply Dev.chCtrlWrite_keepsMode k | apply ite_keeps⟩
  | afeChRangeWrite rq g c v => exact ⟨(fun d => if d.awake then d.chRangeWrite rq g c v else d), rfl, fun h => by dsimp only; with_reducible repeat' first | assumption | apply Dev.chRangeWrite_keepsMode k | apply ite_keeps⟩
  | trimWrite g c n v => exact ⟨(fun d => if d.awake then d.trimWrite g c n v else d), rfl, fun h => by dsimp only; with_reducible repeat' first | assumption | apply Dev.trimWrite_keepsMode k | apply ite_keeps⟩
  | injGo rq g v => exact ⟨(fun d => if d.awake then d.injGo rq g v else d), rfl, fun h => by dsimp only; with_reducible repeat' first | assumption | apply Dev.injGo_keepsMode k | apply ite_keeps⟩
  | injectionDone g => exact ⟨(·.injectionDone g), rfl, fun h => by apply Dev.injectionDone_keepsMode k; exact h⟩
  | afeGrpService g v => exact ⟨(fun d => if d.awake then d.serviceGo g v else d), rfl, fun h => by dsimp only; with_reducible repeat' first | assumption | apply Dev.serviceGo_keepsMode k | apply ite_keeps⟩
  | retireReq rq g c => exact ⟨(fun d => if d.awake then d.retireReq rq g c else d), rfl, fun h => by dsimp only; with_reducible repeat' first | assumption | apply Dev.retireReq_keepsMode k | apply ite_keeps⟩
  | retireCancel g c => exact ⟨(fun d => if d.awake then d.retireCancel g c else d), rfl, fun h => by dsimp only; with_reducible repeat' first | assumption | apply Dev.retireCancel_keepsMode k | apply ite_keeps⟩
  | squeezeCycleStart g => exact ⟨(·.cycleStart g), rfl, fun h => by apply Dev.cycleStart_keepsMode k; exact h⟩
  | squeezePoint g sum clipped => exact ⟨(·.squeezePoint g sum clipped), rfl, fun h => by apply Dev.squeezePoint_keepsMode k; exact h⟩
  | rebelayRotationStart g => exact ⟨(·.rotationStart g), rfl, fun h => by apply Dev.rotationStart_keepsMode k; exact h⟩
  | rebelayPrepDone g ref cal => exact ⟨(·.prepDone g ref cal), rfl, fun h => by apply Dev.prepDone_keepsMode k; exact h⟩
  | rebelayCompare g pairs pts => exact ⟨(·.rbCompare g pairs pts), rfl, fun h => by apply Dev.rbCompare_keepsMode k; exact h⟩
  | rebelaySwap g => exact ⟨(·.rbSwap g), rfl, fun h => by apply Dev.rbSwap_keepsMode k; exact h⟩
  | freedCalDone g cal => exact ⟨(·.freedCal g cal), rfl, fun h => by apply Dev.freedCal_keepsMode k; exact h⟩
  | gridTrigger  => exact ⟨(·.gridTrigger), rfl, fun h => by apply Dev.gridTrigger_keepsMode k; exact h⟩
  | leadTrigger  => exact ⟨(·.leadTrigger), rfl, fun h => by apply Dev.leadTrigger_keepsMode k; exact h⟩
  | timerTrigger  => exact ⟨(·.timerTrigger), rfl, fun h => by apply Dev.timerTrigger_keepsMode k; exact h⟩
  | softTrig rq v => exact ⟨(fun d => if d.awake then d.gridCtrlWrite rq (v ||| 0x00800000#32) else d), rfl, fun h => by dsimp only; with_reducible repeat' first | assumption | apply Dev.gridCtrlWrite_keepsMode k | apply ite_keeps⟩
  | arm rq v => exact ⟨(fun d => if d.awake then d.gridCtrlWrite rq (v ||| 0x80000000#32) else d), rfl, fun h => by dsimp only; with_reducible repeat' first | assumption | apply Dev.gridCtrlWrite_keepsMode k | apply ite_keeps⟩
  | disarm rq v => exact ⟨(fun d => if d.awake then d.gridCtrlWrite rq (v &&& 0x7FFFFFFF#32) else d), rfl, fun h => by dsimp only; with_reducible repeat' first | assumption | apply Dev.gridCtrlWrite_keepsMode k | apply ite_keeps⟩
  | ltnConfigWrite rq r v => exact ⟨(fun d => if d.awake then d.ltnConfig rq r v else d), rfl, fun h => by dsimp only; with_reducible repeat' first | assumption | apply Dev.ltnConfig_keepsMode k | apply ite_keeps⟩
  | sequenceEnd lead pos sigs => exact ⟨(·.sequenceEnd lead pos sigs), rfl, fun h => by apply Dev.sequenceEnd_keepsMode k; exact h⟩
  | flush lead => exact ⟨(·.flush lead), rfl, fun h => by apply Dev.flush_keepsMode k; exact h⟩
  | segmentJobDone lead plane seg fail => exact ⟨(·.segmentJob lead plane seg fail), rfl, fun h => by apply Dev.segmentJob_keepsMode k; exact h⟩
  | handOff late ecc => exact ⟨(·.handOff late ecc), rfl, fun h => by apply Dev.handOff_keepsMode k; exact h⟩
  | replayDone lead plane seg fail => exact ⟨(·.replayDone lead plane seg fail), rfl, fun h => by apply Dev.replayDone_keepsMode k; exact h⟩
  | verification mismatch => exact ⟨(·.verification mismatch), rfl, fun h => by dsimp only; with_reducible repeat' first | assumption | apply Dev.verification_keepsMode k | apply ite_keeps | split⟩
  | reconWait lead => exact ⟨(·.reconWait lead), rfl, fun h => by apply Dev.reconWait_keepsMode k; exact h⟩
  | reconstructionDone lead late ecc => exact ⟨(·.reconstruction lead late ecc), rfl, fun h => by apply Dev.reconstruction_keepsMode k; exact h⟩
  | swapReq  => exact ⟨(fun d => if d.awake then d.setF F.SHD_CTRL.SWAP_REQ 1 else d), rfl, fun h => by dsimp only; with_reducible repeat' first | assumption | apply Dev.setF_keepsMode k | apply ite_keeps⟩
  | swapCancel  => exact ⟨(fun d => if d.awake then d.setF F.SHD_CTRL.SWAP_REQ 0 else d), rfl, fun h => by dsimp only; with_reducible repeat' first | assumption | apply Dev.setF_keepsMode k | apply ite_keeps⟩
  | disarmedSwap  => exact ⟨(·.disarmedSwap), rfl, fun h => by apply Dev.disarmedSwap_keepsMode k; exact h⟩
  | shadingCommit  => exact ⟨(·.shadingCommit), rfl, fun h => by apply Dev.shadingCommit_keepsMode k; exact h⟩
  | trackUpdate m p => exact ⟨(·.trackUpdate m p), rfl, fun h => by apply Dev.trackUpdate_keepsMode k; exact h⟩
  | mWrite rq m p v => exact ⟨(fun d => if d.awake then d.mulWrite rq m p (v.toNat % 65536) else d), rfl, fun h => by dsimp only; with_reducible repeat' first | assumption | apply Dev.mulWrite_keepsMode k | apply ite_keeps⟩
  | surveyMeasurement  => exact ⟨(·.surveyMeasure), rfl, fun h => by apply Dev.surveyMeasure_keepsMode k; exact h⟩
  | strataMeasurement  => exact ⟨(·.strataMeasure), rfl, fun h => by apply Dev.strataMeasure_keepsMode k; exact h⟩
  | strCtrlWrite rq v => exact ⟨(fun d => if d.awake then d.strCtrlWrite rq v else d), rfl, fun h => by dsimp only; with_reducible repeat' first | assumption | apply Dev.strCtrlWrite_keepsMode k | apply ite_keeps⟩
  | flowstoneEntry  => exact ⟨(·.flowEntry), rfl, fun h => by apply Dev.flowEntry_keepsMode k; exact h⟩
  | flowstoneBinWrite rq i v => exact ⟨(fun d => if d.awake then d.binWrite rq i v else d), rfl, fun h => by dsimp only; with_reducible repeat' first | assumption | apply Dev.binWrite_keepsMode k | apply ite_keeps⟩
  | recordWrite  => exact ⟨(·.recordWrite), rfl, fun h => by apply Dev.recordWrite_keepsMode k; exact h⟩
  | bufferFlush n => exact ⟨(·.bufferFlush n), rfl, fun h => by apply Dev.bufferFlush_keepsMode k; exact h⟩
  | smpQuotaSet v => exact ⟨(fun d => if d.awake then d.quotaSet (bitsOf v.toNat 11 0) (bitsOf v.toNat 28 16) else d), rfl, fun h => by dsimp only; with_reducible repeat' first | assumption | apply Dev.quotaSet_keepsMode k | apply ite_keeps⟩
  | bankMigration b n => exact ⟨(fun d => if d.alive then d.bankErrors b n else d), rfl, fun h => by dsimp only; with_reducible repeat' first | assumption | apply Dev.bankErrors_keepsMode k | apply ite_keeps⟩
  | migrationDone  => exact ⟨(·.migrated), rfl, fun h => by apply Dev.migrated_keepsMode k; exact h⟩
  | uncorrectableError cell => exact ⟨(fun d => if d.alive then d.ue cell else d), rfl, fun h => by dsimp only; with_reducible repeat' first | assumption | apply Dev.ue_keepsMode k | apply ite_keeps⟩
  | rowRepair m row n => exact ⟨(fun d => if d.mode = .dormant then d else d.rowErrors m row n), rfl, fun h => by dsimp only; with_reducible repeat' first | assumption | apply Dev.rowErrors_keepsMode k | apply ite_keeps⟩
  | haulStart rq ch high => exact ⟨(fun d => if d.awake then d.haulStart rq ch high.toNat else d), rfl, fun h => by dsimp only; with_reducible repeat' first | assumption | apply Dev.haulStart_keepsMode k | apply ite_keeps⟩
  | haulProgramStart  => exact ⟨(·.haulBegin), rfl, fun h => by apply Dev.haulBegin_keepsMode k; exact h⟩
  | haulMove ins data => cases hi
  | haulMovex ins idx data => cases hi
  | haulFill ins => cases hi
  | haulCmp ins a b => cases hi
  | haulLoop ins => exact ⟨(·.haulIns 5 ins (fun d r ws => d.haulLoopIns r ws)), rfl, fun h => by dsimp only; with_reducible repeat' first | assumption | (apply Dev.haulIns_keepsMode k; intro d r ws hd) | apply Dev.haulLoopIns_keepsMode k⟩
  | haulWait ins => exact ⟨(·.haulIns 6 ins (fun d r ws => d.haulWaitIns r ws)), rfl, fun h => by dsimp only; with_reducible repeat' first | assumption | (apply Dev.haulIns_keepsMode k; intro d r ws hd) | apply Dev.haulWaitIns_keepsMode k⟩
  | haulWaitTimeout ins => exact ⟨(·.haulTimeout ins), rfl, fun h => by apply Dev.haulTimeout_keepsMode k; exact h⟩
  | haulSignal ins => exact ⟨(·.haulIns 7 ins (fun d r ws => (d.haulGo r.count r.after).linePulse (insLine ws))), rfl, fun h => by dsimp only; with_reducible repeat' first | assumption | (apply Dev.haulIns_keepsMode k; intro d r ws hd) | apply Dev.haulGo_keepsMode k | apply Dev.linePulse_keepsMode k⟩
  | haulNext ins => exact ⟨(·.haulIns 8 ins (fun d r ws => d.haulNextIns r ws)), rfl, fun h => by dsimp only; with_reducible repeat' first | assumption | (apply Dev.haulIns_keepsMode k; intro d r ws hd) | apply Dev.haulNextIns_keepsMode k⟩
  | haulEnd ins => exact ⟨(·.haulIns 9 ins (fun d r _ => d.haulEndIns r)), rfl, fun h => by dsimp only; with_reducible repeat' first | assumption | (apply Dev.haulIns_keepsMode k; intro d r ws hd) | apply Dev.haulEndIns_keepsMode k⟩
  | haulEndReread words => exact ⟨(·.haulReread words), rfl, fun h => by apply Dev.haulReread_keepsMode k; exact h⟩
  | burstRequest a b => cases hi
  | busError cause fetch ins idx a b => cases hi
  | haulClear ch => exact ⟨(fun d => if d.awake then d.haulClear ch else d), rfl, fun h => by dsimp only; with_reducible repeat' first | assumption | apply Dev.haulClear_keepsMode k | apply ite_keeps⟩
  | servoPeriod  => exact ⟨(·.servoStep), rfl, fun h => by apply Dev.servoStep_keepsMode k; exact h⟩
  | stall a => exact ⟨(·.stallFlag a), rfl, fun h => by apply Dev.stallFlag_keepsMode k; exact h⟩
  | limitSwitch a active => exact ⟨(·.limitSwitch a active), rfl, fun h => by apply Dev.limitSwitch_keepsMode k; exact h⟩
  | overcurrent a coil mon => exact ⟨(·.overcurrent a coil mon), rfl, fun h => by apply Dev.overcurrent_keepsMode k; exact h⟩
  | encoderFault a cause => exact ⟨(fun d => if d.alive && d.encFaultFits a cause then d.encFault a cause else d), rfl, fun h => by dsimp only; with_reducible repeat' first | assumption | apply Dev.encFault_keepsMode k | apply ite_keeps⟩
  | ssiFrame a raw high => exact ⟨(·.ssiFrame a raw.toNat high), rfl, fun h => by apply Dev.ssiFrame_keepsMode k; exact h⟩
  | switchEdge a z active pos => exact ⟨(·.switchEdge a z active pos), rfl, fun h => by apply Dev.switchEdge_keepsMode k; exact h⟩
  | axsEstop v => exact ⟨(fun d => if d.awake then d.estop v.toNat else d), rfl, fun h => by dsimp only; with_reducible repeat' first | assumption | apply Dev.estop_keepsMode k | apply ite_keeps⟩
  | posGo a => exact ⟨(fun d => if d.awake then d.posGo a else d), rfl, fun h => by dsimp only; with_reducible repeat' first | assumption | apply Dev.posGo_keepsMode k | apply ite_keeps⟩
  | servoPeriodWrite rq v => exact ⟨(fun d => if d.awake then d.servoPeriodWrite rq v.toNat else d), rfl, fun h => by dsimp only; with_reducible repeat' first | assumption | apply Dev.servoPeriodWrite_keepsMode k | apply ite_keeps⟩
  | ocClear a => exact ⟨(fun d => if d.awake then d.ocClear a else d), rfl, fun h => by dsimp only; with_reducible repeat' first | assumption | apply Dev.ocClear_keepsMode k | apply ite_keeps⟩
  | encClear a => exact ⟨(fun d => if d.awake then (d.setF (F.ENC_STATUS.ENC_FAULT a) 0).setF (F.ENC_STATUS.CAUSE a) 0 else d), rfl, fun h => by dsimp only; with_reducible repeat' first | assumption | apply Dev.setF_keepsMode k | apply ite_keeps⟩
  | refSwitch a up set iRef => exact ⟨(fun d => if d.awake then d.refStart a 0 up set iRef else d), rfl, fun h => by dsimp only; with_reducible repeat' first | assumption | apply Dev.refStart_keepsMode k | apply ite_keeps⟩
  | refHardStop a up set iRef => exact ⟨(fun d => if d.awake then d.refStart a 1 up set iRef else d), rfl, fun h => by dsimp only; with_reducible repeat' first | assumption | apply Dev.refStart_keepsMode k | apply ite_keeps⟩
  | refCombined a up set iRef => exact ⟨(fun d => if d.awake then d.refStart a 2 up set iRef else d), rfl, fun h => by dsimp only; with_reducible repeat' first | assumption | apply Dev.refStart_keepsMode k | apply ite_keeps⟩
  | referencingDone a => exact ⟨(·.refDone a), rfl, fun h => by apply Dev.refDone_keepsMode k; exact h⟩
  | chopperTrip a coil mon => exact ⟨(·.chopperTrip a coil mon), rfl, fun h => by apply Dev.chopperTrip_keepsMode k; exact h⟩
  | chopperOn a coil => exact ⟨(·.chopperOn a coil), rfl, fun h => by apply Dev.chopperOn_keepsMode k; exact h⟩
  | hkcPassStart c conv => exact ⟨(·.hkcPass c conv), rfl, fun h => by apply Dev.hkcPass_keepsMode k; exact h⟩
  | hkcCommit c => exact ⟨(fun d => if d.awake then d.setF (F.HKC_SEQ_CTRL.COMMIT c) 1 else d), rfl, fun h => by dsimp only; with_reducible repeat' first | assumption | apply Dev.setF_keepsMode k | apply ite_keeps⟩
  | hkcRunStart c => exact ⟨(fun d => if d.awake && !d.on (F.HKC_SEQ_CTRL.RUN c) then d.hkcStart c else d), rfl, fun h => by dsimp only; with_reducible repeat' first | assumption | apply Dev.hkcStart_keepsMode k | apply ite_keeps⟩
  | hkcFifoPop rq c off => exact ⟨(fun d => if d.awake then (d.hkcPop rq c (0xC0400 + 0x1000 * c.val + 4 * off.val)).2.emit (.readData (0xC0400 + 0x1000 * c.val + 4 * off.val) (d.hkcPop rq c (0xC0400 + 0x1000 * c.val + 4 * off.val)).1) else d), rfl, fun h => by dsimp only; with_reducible repeat' first | assumption | apply Dev.hkcPop_keepsMode k | apply Dev.emit_keepsMode k | apply ite_keeps⟩
  | referenceMeasurement host theta => exact ⟨(·.referenceMeasurement host theta.toInt), rfl, fun h => by apply Dev.referenceMeasurement_keepsMode k; exact h⟩
  | holdover host => exact ⟨(·.holdover host), rfl, fun h => by apply Dev.holdover_keepsMode k; exact h⟩
  | ptmDialog ns => exact ⟨(·.ptmDialog ns), rfl, fun h => by apply Dev.ptmDialog_keepsMode k; exact h⟩
  | ppsEdge  => exact ⟨(·.ppsEdge), rfl, fun h => by apply Dev.ppsEdge_keepsMode k; exact h⟩
  | rearm b => exact ⟨(fun d => if d.awake then d.rearm b else d), rfl, fun h => by dsimp only; with_reducible repeat' first | assumption | apply Dev.rearm_keepsMode k | apply ite_keeps⟩
  | netSetGo  => exact ⟨(fun d => if d.awake then d.netSetGo else d), rfl, fun h => by dsimp only; with_reducible repeat' first | assumption | apply Dev.netSetGo_keepsMode k | apply ite_keeps⟩
  | axisStep  => exact ⟨(fun d => if d.awake && d.allStand then d.axisStep else d), rfl, fun h => by dsimp only; with_reducible repeat' first | assumption | apply Dev.axisStep_keepsMode k | apply ite_keeps⟩
  | cairnTick  => exact ⟨(·.cairnTick), rfl, fun h => by apply Dev.cairnTick_keepsMode k; exact h⟩
  | cairnSetGo  => exact ⟨(fun d => if d.awake then d.cairnSetGo else d), rfl, fun h => by dsimp only; with_reducible repeat' first | assumption | apply Dev.cairnSetGo_keepsMode k | apply ite_keeps⟩
  | cairnCopy src => exact ⟨(fun d => if d.awake then d.cairnCopy src else d), rfl, fun h => by dsimp only; with_reducible repeat' first | assumption | apply Dev.cairnCopy_keepsMode k | apply ite_keeps⟩
  | actionDue  => exact ⟨(·.actionDue), rfl, fun h => by apply Dev.actionDue_keepsMode k; exact h⟩
  | tetherFrameReceived west words fwd => exact ⟨(·.frameReceived (b2n west) (words.map (fun w => w.toNat)) fwd), rfl, fun h => by apply Dev.frameReceived_keepsMode k; exact h⟩
  | tetherLinkDown west => exact ⟨(·.linkDown (b2n west)), rfl, fun h => by apply Dev.linkDown_keepsMode k; exact h⟩
  | tetherLinkUp west => exact ⟨(·.linkUp (b2n west)), rfl, fun h => by apply Dev.linkUp_keepsMode k; exact h⟩
  | pdReq west => exact ⟨(·.pdReq (b2n west)), rfl, fun h => by apply Dev.pdReq_keepsMode k; exact h⟩
  | sync  => exact ⟨(·.sendSync), rfl, fun h => by apply Dev.sendSync_keepsMode k; exact h⟩
  | electionTimeout  => exact ⟨(·.electionTimeout), rfl, fun h => by apply Dev.electionTimeout_keepsMode k; exact h⟩
  | govTimeout  => exact ⟨(·.govTimeout), rfl, fun h => by apply Dev.govTimeout_keepsMode k; exact h⟩
  | stationMasterLost  => exact ⟨(·.stationMasterLost), rfl, fun h => by apply Dev.stationMasterLost_keepsMode k; exact h⟩
  | chalReq  => exact ⟨(fun d => if d.awake then d.chalReq else d), rfl, fun h => by dsimp only; with_reducible repeat' first | assumption | apply Dev.chalReq_keepsMode k | apply ite_keeps⟩
  | respGo  => exact ⟨(fun d => if d.awake then d.respGo else d), rfl, fun h => by dsimp only; with_reducible repeat' first | assumption | apply Dev.respGo_keepsMode k | apply ite_keeps⟩
  | lockNow  => exact ⟨(fun d => if d.awake then d.lockNow else d), rfl, fun h => by dsimp only; with_reducible repeat' first | assumption | apply Dev.lockNow_keepsMode k | apply ite_keeps⟩
  | challengeExpiry  => exact ⟨(fun d => if d.sec.challenge.isSome then d.setChallenge none else d), rfl, fun h => by dsimp only; with_reducible repeat' first | assumption | apply Dev.setChallenge_keepsMode k | apply ite_keeps⟩
  | ledgerWrite  => exact ⟨(·.ledgerWrite), rfl, fun h => by apply Dev.ledgerWrite_keepsMode k; exact h⟩
  | tstSelect rq atest n v => exact ⟨(fun d => if d.awake && !(atest && decide (3 < n.val)) then d.tstWrite rq atest n v else d), rfl, fun h => by dsimp only; with_reducible repeat' first | assumption | apply Dev.tstWrite_keepsMode k | apply ite_keeps⟩
  | extest cells => exact ⟨(·.jtag (fun d => (d.loadIr 0).loadCells cells)), rfl, fun h => by dsimp only; with_reducible repeat' first | assumption | (apply Dev.jtag_keepsMode k; intro d hd) | apply Dev.loadIr_keepsMode k | apply Dev.loadCells_keepsMode k⟩
  | idcode  => exact ⟨(·.jtag (fun d => (d.loadIr 1).emit (.tdo idcode))), rfl, fun h => by dsimp only; with_reducible repeat' first | assumption | (apply Dev.jtag_keepsMode k; intro d hd) | apply Dev.loadIr_keepsMode k | apply Dev.emit_keepsMode k⟩
  | samplePreload pins cells => exact ⟨(·.jtag (fun d => ((d.loadIr 2).emit (.tdo (pins.foldr (fun b n => b2n b + 2 * n) 0))).loadCells cells)), rfl, fun h => by dsimp only; with_reducible repeat' first | assumption | (apply Dev.jtag_keepsMode k; intro d hd) | apply Dev.loadIr_keepsMode k | apply Dev.emit_keepsMode k | apply Dev.loadCells_keepsMode k⟩
  | clamp  => exact ⟨(·.jtag (·.loadIr 4)), rfl, fun h => by dsimp only; with_reducible repeat' first | assumption | (apply Dev.jtag_keepsMode k; intro d hd) | apply Dev.loadIr_keepsMode k⟩
  | highz  => exact ⟨(·.jtag (·.loadIr 5)), rfl, fun h => by dsimp only; with_reducible repeat' first | assumption | (apply Dev.jtag_keepsMode k; intro d hd) | apply Dev.loadIr_keepsMode k⟩
  | debugInstruction code => exact ⟨(·.jtag (fun d => if 0x80 ≤ code.val ∧ code.val ≤ 0xFE then d.loadIr code else d)), rfl, fun h => by dsimp only; with_reducible repeat' first | assumption | (apply Dev.jtag_keepsMode k; intro d hd) | apply Dev.loadIr_keepsMode k | apply ite_keeps⟩
  | bypass code => exact ⟨(·.jtag (·.loadIr (if code.val ≤ 5 ∧ code.val ≠ 3 ∨ 0x80 ≤ code.val then 0xFF else code))), rfl, fun h => by dsimp only; with_reducible repeat' first | assumption | (apply Dev.jtag_keepsMode k; intro d hd) | apply Dev.loadIr_keepsMode k | apply ite_keeps⟩
  | topIntWrite rq enable v =>
    refine ⟨(·.writeWord rq (if enable then R.TOP_INT_ENABLE else R.TOP_INT_STATUS) v 15), rfl, fun h => ?_⟩
    dsimp only
    cases hw : s.dev.awake with
    | false =>
      rw [Dev.writeWord_int_of_not_awake hw]
      exact h
    | true =>
      rw [Dev.writeWord_int hw]
      exact ite_keeps (Dev.intEnableWrite_keepsMode k _ _ h) (Dev.intStatusWrite_keepsMode k _ _ h)
  | twoHalfRead rq a => exact ⟨(·.hostRead rq a), rfl, fun h => by apply Dev.hostRead_keepsMode k; exact h⟩
  | rcRead rq a => exact ⟨(·.hostRead rq a), rfl, fun h => by apply Dev.hostRead_keepsMode k; exact h⟩
  | registerWrite rq a v be => cases hi
  | encoderCount a n => exact ⟨(·.encoderCount a n), rfl, fun h => by apply Dev.encoderCount_keepsMode k; exact h⟩
  | tevEdge n rising => exact ⟨(·.tevEdge n rising), rfl, fun h => by apply Dev.tevEdge_keepsMode k; exact h⟩
  | ppsOut  => exact ⟨(·.ppsOut), rfl, fun h => by apply Dev.ppsOut_keepsMode k; exact h⟩
  | lockLost g back => exact ⟨(·.pllLost g back), rfl, fun h => by apply Dev.pllLost_keepsMode k; exact h⟩
  | perstNDeassertion  => exact ⟨(·.perstHigh), rfl, fun h => by apply Dev.perstHigh_keepsMode k; exact h⟩
  | linkTrained  => exact ⟨(·.linkTrained), rfl, fun h => by apply Dev.linkTrained_keepsMode k; exact h⟩
  | testLogicReset  => exact ⟨(·.jtag (·.loadIr 1)), rfl, fun h => by dsimp only; with_reducible repeat' first | assumption | (apply Dev.jtag_keepsMode k; intro d hd) | apply Dev.loadIr_keepsMode k⟩

/-! ## The writers of the mode -/

theorem keepsMode_eq (m : Mode) : KeepsMode (fun d => d.mode = m) := fun _ _ h hd => h.trans hd

theorem Dev.setMode_mode (d : Dev) (m : Mode) : (d.setMode m).mode = m := by
  unfold Dev.setMode
  extract_lets was d1 d2
  have h2 : d2.mode = m := by
    unfold d2
    split <;> rfl
  split
  · exact h2
  · exact (Dev.flag_mode _ _).trans h2

theorem Dev.enterDormant_mode (d : Dev) : d.enterDormant.mode = .dormant := by
  unfold Dev.enterDormant
  exact Dev.emit_keepsMode (keepsMode_eq _) _ _ (Dev.floatPins_keepsMode (keepsMode_eq _) _ (Dev.setMode_mode _ _))

/-- A request that completes leads to its target (R449). -/
theorem Dev.modeDone_mode (d : Dev) : d.modeDone.mode = d.mode ∨ ∃ r, d.req = some r ∧ d.modeDone.mode = r.target := by
  unfold Dev.modeDone
  split
  · exact .inl rfl
  · next r hr =>
    split
    · exact .inl rfl
    · refine .inr ⟨r, hr, ?_⟩
      extract_lets d1 d2 d3 l d4 d5 d6
      have k := keepsMode_eq r.target
      split
      · next ht => exact d2.enterDormant_mode.trans ht.symm
      · have h4 : d4.mode = r.target := d2.setMode_mode r.target
        have h5 : d5.mode = r.target := Dev.pllRefresh_keepsMode k _ (Dev.powerAll_keepsMode k _ h4)
        exact Dev.secRefresh_keepsMode k _ (ite_keeps (P := fun e => e.mode = r.target) h5 (Dev.lanesOff_keepsMode k _ h5))

theorem Dev.bootEnd_mode (d : Dev) (x : BootIn) : (d.bootEnd x).mode = .standby := by
  unfold Dev.bootEnd
  extract_lets d1 d2 d3
  exact Dev.secRefresh_keepsMode (keepsMode_eq _) _ (d3.setMode_mode _)

/-- The mode after a BOOT from `d`: the same, or STANDBY after BOOT. -/
def Dev.Boots (d e : Dev) : Prop := e.mode = d.mode ∨ (d.mode = .boot ∧ e.mode = .standby)

/-- A BOOT that fails stays in BOOT, one that succeeds leads to STANDBY (R451). -/
theorem Dev.boot_mode (d : Dev) (x : BootIn) : d.Boots (d.boot x) := by
  by_cases h : d.mode ≠ .boot ∨ d.rst.isSome
  · rw [Dev.boot, if_pos h]
    exact .inl rfl
  · rw [Dev.boot, if_neg h]
    rw [not_or, not_not] at h
    have k := keepsMode_eq d.mode
    dsimp only
    refine ite_keeps (.inl ?_) (ite_keeps (.inl ?_) (ite_keeps (.inl ?_) (ite_keeps (.inl ?_) (.inr ⟨h.1, Dev.bootEnd_mode _ x⟩))))
    all_goals
      apply Dev.bootFail_keepsMode k
      with_reducible repeat' first
        | apply Dev.imgBoot_keepsMode k | apply Dev.secRefresh_keepsMode k | apply Dev.ledgerBoot_keepsMode k | apply Dev.setSec_keepsMode k
        | apply Dev.setF_keepsMode k | apply Dev.count_keepsMode k | rfl

/-- Settles O6: a command that is not listed keeps the mode, the completion of a request and BOOT by their own cases. -/
theorem modeWriters : Obligations.ModeWriters := by
  intro s t i h
  refine ⟨fun hi => ?_, ?_, ?_⟩
  · obtain ⟨f, hf, hk⟩ := exec_lifts_mode i s hi (keepsMode_eq s.dev.mode)
    rw [hf] at h
    cases h
    exact hk rfl
  · rintro rfl
    cases h
    exact s.dev.modeDone_mode
  · rintro x rfl
    cases h
    exact s.dev.boot_mode x

end Sys2Proof.Machine
end

section
/-! SUPPORT. Doorbells within range and refused (R278, R282, R284), the fetch of entries (R284, R286) and the start of the next command
(R289, R291, R292). -/

namespace Sys2Proof.Machine

/-! ## Doorbells -/

/-- A first access error of the host in BAR2 is the one that the error registers show. -/
theorem Dev.accessErr_bar2 {d : Dev} (h : d.f F.TOP_ERR_STATUS.ACCESS_ERR = 0) (k : ErrKind) {off : Nat} (ho : off < 2 ^ 26) :
    d.Only (d.accessErr .host true k off) accessErrFields ∧ (d.accessErr .host true k off).f F.TOP_ERR_STATUS.ACCESS_ERR = 1 ∧
    (d.accessErr .host true k off).f F.TOP_ERR_STATUS.KIND = k.code ∧ (d.accessErr .host true k off).f F.TOP_ERR_STATUS.SPACE = 1 ∧
    (d.accessErr .host true k off).f F.TOP_ERR_ADDR.OFFSET = off := by
  obtain ⟨honly, herr, hkind, hspace, -, hoff⟩ := d.accessErr_first .host true k off (.inl rfl) h
  exact ⟨honly, herr, hkind, hspace, hoff.trans (Nat.mod_eq_of_lt ho)⟩

theorem Dev.doorbellRefused_eq (d : Dev) {full en : Bool} (h : full = false ∨ en = false) (off : Nat) :
    d.doorbellRefused full en off = d.accessErr .host true (if full then .ringOff else .partialWrite) off := by
  rw [Dev.doorbellRefused]
  cases full with
  | false => rw [if_pos Bool.not_false, if_neg Bool.false_ne_true]
  | true =>
    rw [h.resolve_left (by decide), if_neg (by decide), if_pos Bool.not_false, if_pos rfl]

theorem doorbell_kind (full : Bool) : (if full then ErrKind.ringOff else ErrKind.partialWrite).code = if full then 5 else 1 := by
  cases full <;> rfl

theorem Dev.sqDoorbell_refused {d : Dev} {n : Nat} {v : Word} {full : Bool} (ha : d.awake = true)
    (h : full = false ∨ d.f (F.HST_SQ_CFG.EN n) = 0) :
    d.sqDoorbell n v full = d.accessErr .host true (if full then .ringOff else .partialWrite) (0x1000 * n) := by
  have hc : full = false ∨ d.on (F.HST_SQ_CFG.EN n) = false := h.imp_right Dev.on_zero
  rw [← Dev.doorbellRefused_eq d hc, Dev.sqDoorbell, if_neg (by simp [ha]), if_pos]
  rcases hc with h | h <;> simp [h]

theorem Dev.cqDoorbell_refused {d : Dev} {n : Nat} {v : Word} {full : Bool} (ha : d.awake = true)
    (h : full = false ∨ d.f (F.HST_CQ_CFG.EN n) = 0) :
    d.cqDoorbell n v full = d.accessErr .host true (if full then .ringOff else .partialWrite) (0x40000 + 0x1000 * n) := by
  have hc : full = false ∨ d.on (F.HST_CQ_CFG.EN n) = false := h.imp_right Dev.on_zero
  rw [← Dev.doorbellRefused_eq d hc, Dev.cqDoorbell, if_neg (by simp [ha]), if_pos]
  rcases hc with h | h <;> simp [h]

theorem Dev.sqDoorbell_within {d : Dev} {n : Nat} {v : Word} (ha : d.awake = true) (hen : d.f (F.HST_SQ_CFG.EN n) = 1)
    (hv : v.toNat % 65536 < 2 ^ d.f (F.HST_SQ_CFG.SIZE_LOG n)) :
    d.sqDoorbell n v true = ((d.setSq n { d.sq n with tail := v.toNat % 65536, db := v.toNat }).sqRefresh n).cqWaits
      (d.f (F.HST_SQ_CFG.CQ n)) := by
  rw [← Dev.sqSize] at hv
  simp [Dev.sqDoorbell, ha, Dev.on_one hen, hv]

theorem Dev.cqDoorbell_within {d : Dev} {n : Nat} {v : Word} (ha : d.awake = true) (hen : d.f (F.HST_CQ_CFG.EN n) = 1)
    (hv : v.toNat % 65536 < 2 ^ d.f (F.HST_CQ_CFG.SIZE_LOG n))
    (hr : (v.toNat % 65536 + d.cqSize n - (d.cq n).head) % d.cqSize n ≤
      (d.f (F.HST_CQ_STATUS.TAIL n) + d.cqSize n - (d.cq n).head) % d.cqSize n) :
    d.cqDoorbell n v true = d.setCq n { d.cq n with head := v.toNat % 65536, db := v.toNat } := by
  rw [← Dev.cqSize] at hv
  rw [Dev.cqDoorbell, if_neg (by simp [ha]), if_neg (by simp [Dev.on_one hen])]
  dsimp only
  rw [if_neg (by omega), Dev.setCq_setCq, Dev.cq_setCq, if_pos rfl]

/-- The registers of an SQ's status lie apart from those that CQ_FULL writes. -/
theorem sqStatus_apart : ∀ n < 64, ∀ q < 64, R.HST_CQ_STATUS q ≠ R.HST_SQ_STATUS n ∧ R.HST_CQ_STATUS q ≠ R.HST_SQ_CFG n ∧
    R.TOP_INT_STATUS ≠ R.HST_SQ_STATUS n ∧ R.TOP_INT_STATUS ≠ R.HST_SQ_CFG n ∧ R.HST_SQ_STATUS n ≠ R.HST_SQ_CFG n := by
  simp only [R.HST_CQ_STATUS, R.HST_SQ_STATUS, R.HST_SQ_CFG, R.TOP_INT_STATUS]
  omega

theorem Dev.sqToFetch_of {d e : Dev} {n : Nat} (hs : e.sq n = d.sq n) (hf : e.f (F.HST_SQ_CFG.SIZE_LOG n) = d.f (F.HST_SQ_CFG.SIZE_LOG n)) :
    e.sqToFetch n = d.sqToFetch n := by
  rw [Dev.sqToFetch, Dev.sqToFetch, Dev.sqSize, Dev.sqSize, hs, hf]

/-- IDLE or ACTIVE, then CQ_FULL: what both leave. -/
theorem Dev.sqRefresh_cqWaits (d : Dev) {n q : Nat} (hn : n < 64) (hq : q < 64) : ∀ e, e = (d.sqRefresh n).cqWaits q →
    e.sqs = d.sqs ∧ d.Only e [F.HST_SQ_STATUS.STATE n, F.HST_CQ_STATUS.CQ_FULL q, intBit 9] ∧
    (d.f (F.HST_SQ_STATUS.STATE n) = 1 ∨ d.f (F.HST_SQ_STATUS.STATE n) = 2 →
      e.f (F.HST_SQ_STATUS.STATE n) = if (d.sq n).fetched.isEmpty && decide (e.sqToFetch n = 0) then 1 else 2) := by
  rintro e rfl
  obtain ⟨h1, h2, h3, h4, h5⟩ := sqStatus_apart n hn q hq
  have hsqs : ((d.sqRefresh n).cqWaits q).sqs = d.sqs := (Dev.cqWaits_sqs _ _).trans (Dev.sqRefresh_sqs _ _)
  have hw := (d.sqRefresh n).cqWaits_only q hq
  have hr := d.sqRefresh_only n
  refine ⟨hsqs, (hr.mono (by simp)).trans (hw.mono (by simp)), fun hst => ?_⟩
  rw [Dev.sqToFetch_of (Dev.sq_sqs hsqs n), hw.f, Dev.sqRefresh_state _ _ hst]
  · simpa [intBit] using ⟨.inl h1, .inl h3⟩
  · rw [hw.f, hr.f]
    · simpa using .inl h5
    · simpa [intBit] using ⟨.inl h2, .inl h4⟩

/-- Settles O8: the two doorbells within their ranges, then their refusals. -/
theorem doorbellsAct : Obligations.DoorbellsAct := by
  refine ⟨fun s n v ha => ⟨fun hen hv => ?_, fun hen hv hr => ?_⟩, fun s n v full ha herr => ⟨fun h => ?_, fun h => ?_⟩⟩
  · refine State.does (f := (·.sqDoorbell n v true)) rfl ?_
    dsimp only
    rw [Dev.sqDoorbell_within ha hen hv]
    set d := s.dev.setSq n { s.dev.sq n with tail := v.toNat % 65536, db := v.toNat } with hd
    obtain ⟨hsqs, honly, hst⟩ := d.sqRefresh_cqWaits n.isLt (s.dev.f_lt (R.HST_SQ_CFG n) 21 16) _ rfl
    refine ⟨?_, fun m hm => ?_, fun h => ?_, ?_⟩
    · rw [Dev.sq_sqs hsqs, hd, Dev.sq_setSq, if_pos rfl]
    · rw [Dev.sq_sqs hsqs, hd, Dev.sq_setSq, if_neg hm]
    · have hf : (s.dev.sq n).fetched = (d.sq n).fetched := by rw [hd, Dev.sq_setSq, if_pos rfl]
      rw [hf]
      exact hst h
    · rw [Dev.setSq_eq _ _ _ hsqs]
      exact honly
  · refine State.does (f := (·.cqDoorbell n v true)) rfl ?_
    dsimp only
    rw [Dev.cqDoorbell_within ha hen hv hr]
    refine ⟨rfl, ?_, fun m hm => ?_⟩
    · rw [Dev.cq_setCq, if_pos rfl]
    · rw [Dev.cq_setCq, if_neg hm]
  · refine State.does (f := (·.sqDoorbell n v full)) rfl ?_
    rw [Dev.sqDoorbell_refused ha h, ← doorbell_kind]
    exact Dev.accessErr_bar2 herr _ (by omega)
  · refine State.does (f := (·.cqDoorbell n v full)) rfl ?_
    rw [Dev.cqDoorbell_refused ha h, ← doorbell_kind]
    exact Dev.accessErr_bar2 herr _ (by omega)

/-! ## The fetch of entries -/

theorem Dev.sqFetch_of_fetches {d : Dev} {n : Nat} (h : d.sqFetches n = true) (hk : 0 < d.sqFetchCount n) (l : List (List Word)) :
    d.sqFetch n l = ((d.emit (.hostRead (d.sqFetchAddr n) (64 * d.sqFetchCount n))).setSq n { d.sq n with
      fetch := ((d.sq n).fetch + d.sqFetchCount n) % d.sqSize n
      fetched := (d.sq n).fetched ++ (List.range (d.sqFetchCount n)).map (fun i => l.getD i []) }).sqRefresh n := by
  rw [Dev.sqFetch, if_neg]
  simp only [h, Bool.not_true, Bool.false_or, decide_eq_true_eq]
  omega

theorem Dev.sqFetchError_of_fetches {d : Dev} {n : Nat} (h : d.sqFetches n = true) (hk : 0 < d.sqFetchCount n) (cause : Nat) :
    d.sqFetchError n cause = (d.emit (.hostRead (d.sqFetchAddr n) (64 * d.sqFetchCount n))).sqError n cause (d.sqFetchAddr n) := by
  rw [Dev.sqFetchError, if_neg]
  simp only [h, Bool.not_true, Bool.false_or, decide_eq_true_eq]
  omega

theorem Dev.state_of_sqFetches {d : Dev} {n : Nat} (h : d.sqFetches n = true) :
    d.f (F.HST_SQ_STATUS.STATE n) = 1 ∨ d.f (F.HST_SQ_STATUS.STATE n) = 2 := by
  simp only [Dev.sqFetches, Bool.and_eq_true, decide_eq_true_eq] at h
  exact h.1.1.1

/-- R284: at most 8 entries, up to the latched tail, never across the end of the ring. -/
theorem Dev.sqFetchCount_bounds {d : Dev} {n : Nat} (hk : 0 < d.sqFetchCount n) : d.sqFetchCount n ≤ 8 ∧
    d.sqFetchCount n ≤ d.sqToFetch n ∧ (d.sq n).fetch + d.sqFetchCount n ≤ d.sqSize n := by
  unfold Dev.sqFetchCount at hk ⊢
  omega

/-! ## The next command -/

/-- A fold that keeps the better of two candidates ends with one that is at least as good as every other. -/
theorem foldl_best {α : Type} {f : Option α → α → Option α} {before : α → α → Bool} {Le : α → α → Prop} (hnone : ∀ n, f none n = some n)
    (hsome : ∀ m n, f (some m) n = if before n m then some n else some m) (hrefl : ∀ n, Le n n)
    (htrans : ∀ a b c, Le a b → Le b c → Le a c) (hb : ∀ n m, before n m = true → Le n m) (hnb : ∀ n m, before n m = false → Le m n)
    {l : List α} {best : Option α} {b : α} (h : l.foldl f best = some b) :
    (some b = best ∨ b ∈ l) ∧ (∀ x, best = some x → Le b x) ∧ ∀ x ∈ l, Le b x := by
  induction l generalizing best with
  | nil => exact ⟨.inl h.symm, fun x hx => by cases h.symm.trans hx; exact hrefl b, by simp⟩
  | cons y t ih =>
    obtain ⟨hmem, hle, hall⟩ := ih h
    cases best with
    | none =>
      rw [hnone] at hmem hle
      refine ⟨.inr (hmem.elim (fun e => by cases e; exact List.mem_cons_self) (List.mem_cons_of_mem _)), by simp, ?_⟩
      exact List.forall_mem_cons.2 ⟨hle y rfl, hall⟩
    | some m =>
      rw [hsome] at hmem hle
      cases hym : before y m with
      | true =>
        rw [hym, if_pos rfl] at hmem hle
        refine ⟨.inr (hmem.elim (fun e => by cases e; exact List.mem_cons_self) (List.mem_cons_of_mem _)), ?_, ?_⟩
        · rintro x ⟨⟩
          exact htrans _ _ _ (hle y rfl) (hb _ _ hym)
        · exact List.forall_mem_cons.2 ⟨hle y rfl, hall⟩
      | false =>
        rw [hym, if_neg (by decide)] at hmem hle
        refine ⟨hmem.imp_right (List.mem_cons_of_mem _), hle, List.forall_mem_cons.2 ⟨?_, hall⟩⟩
        exact htrans _ _ _ (hle m rfl) (hnb _ _ hym)

/-- The SQ served next may start its entry, and none that may has a higher PRIO (R289). -/
theorem Dev.nextSq_spec {d : Dev} {n : Nat} (h : d.nextSq = some n) : n < 64 ∧ d.startable n = true ∧
    ∀ m, m < 64 → d.startable m = true → d.f (F.HST_SQ_CFG.PRIO m) ≤ d.f (F.HST_SQ_CFG.PRIO n) := by
  obtain ⟨hmem, -, hall⟩ := foldl_best (before := d.servedBefore)
    (Le := fun a b => d.f (F.HST_SQ_CFG.PRIO b) ≤ d.f (F.HST_SQ_CFG.PRIO a)) (fun _ => rfl) (fun _ _ => rfl) (fun _ => le_rfl)
    (fun _ _ _ hab hbc => hbc.trans hab)
    (fun n m hnm => by
      simp only [Dev.servedBefore, Bool.or_eq_true, Bool.and_eq_true, decide_eq_true_eq] at hnm
      omega)
    (fun n m hnm => by
      simp only [Dev.servedBefore, Bool.or_eq_false_iff, decide_eq_false_iff_not] at hnm
      omega) h
  simp only [reduceCtorEq, List.mem_filter, List.mem_range, false_or] at hmem hall
  exact ⟨hmem.1, hmem.2, fun m hm hs => hall m ⟨hm, hs⟩⟩

/-- An entry that may start: its ring takes it, and a FENCE has no earlier command of its SQ before it. -/
theorem Dev.startable_cons {d : Dev} {n : Nat} {w : List Word} {rest : List (List Word)} (h : d.startable n = true)
    (hw : (d.sq n).fetched = w :: rest) :
    bitOf (w.getD 0 0).toNat 8 = true → ∀ r ∈ d.running, r.src.sq.val = n → r.src.cairn = true := by
  unfold Dev.startable at h
  rw [hw] at h
  intro hf r hr hn
  simp only [Bool.and_eq_true, Bool.not_eq_true', Bool.and_eq_false_iff, List.any_eq_false, decide_eq_true_eq] at h
  have h2 := h.2.resolve_left (by rw [Bool.not_eq_false]; exact hf) r hr
  simpa [hn] using h2

/-- The state from which the entry of SQ `n` starts. -/
def Dev.tookEntry (d : Dev) (n : Nat) (rest : List (List Word)) : Dev :=
  ((({ d with rr := spSet (fun _ => 63) d.rr (d.f (F.HST_SQ_CFG.PRIO n)) n }.setSq n { d.sq n with fetched := rest }).setF
    (F.HST_SQ_STATUS.HEAD n) ((d.f (F.HST_SQ_STATUS.HEAD n) + 1) % d.sqSize n)).sqRefresh n)

theorem Dev.commandStart_eq {d : Dev} {n : Nat} {w : List Word} {rest : List (List Word)} (ha : d.awake = true)
    (hn : d.nextSq = some n) (hw : (d.sq n).fetched = w :: rest) (x : CmdEnv) :
    d.commandStart x = (d.tookEntry n rest).startEntry n w x := by
  rw [Dev.commandStart, if_neg (by simp [ha])]
  simp only [hn, hw]
  rfl

theorem Dev.tookEntry_sqs (d : Dev) (n : Nat) (rest : List (List Word)) :
    (d.tookEntry n rest).sqs = (d.setSq n { d.sq n with fetched := rest }).sqs := Dev.sqRefresh_sqs _ _

theorem Dev.tookEntry_head (d : Dev) (n : Nat) (rest : List (List Word)) : (d.tookEntry n rest).f (F.HST_SQ_STATUS.HEAD n) =
    (d.f (F.HST_SQ_STATUS.HEAD n) + 1) % d.sqSize n % 65536 := by
  rw [Dev.tookEntry, (Dev.sqRefresh_only _ _).f _ (by simp), Dev.f_same _ _ _ _ _ (by decide) (by decide)]
  rfl

theorem Dev.tookEntry_only (d : Dev) (n : Nat) (rest : List (List Word)) :
    { d with rr := (d.tookEntry n rest).rr, sqs := (d.tookEntry n rest).sqs }.Only (d.tookEntry n rest)
      [F.HST_SQ_STATUS.HEAD n, F.HST_SQ_STATUS.STATE n] := by
  have h : ({ d with rr := spSet (fun _ => 63) d.rr (d.f (F.HST_SQ_CFG.PRIO n)) n }.setSq n { d.sq n with fetched := rest }).Only
      (d.tookEntry n rest) [F.HST_SQ_STATUS.HEAD n, F.HST_SQ_STATUS.STATE n] :=
    ((Dev.Only.refl _ _).setF _ _ (by simp [Fld.within])).trans ((Dev.sqRefresh_only _ _).mono (by simp))
  have hrr : (d.tookEntry n rest).rr = spSet (fun _ => 63) d.rr (d.f (F.HST_SQ_CFG.PRIO n)) n := Dev.RegsOut.eq h.1 Dev.rr fun _ _ _ => rfl
  rw [d.tookEntry_sqs, hrr]
  exact h

theorem Dev.tookEntry_mode (d : Dev) (n : Nat) (rest : List (List Word)) : (d.tookEntry n rest).mode = d.mode :=
  Dev.RegsOut.eq (Dev.sqRefresh_only _ _).1 Dev.mode fun _ _ _ => rfl

theorem Dev.tookEntry_req (d : Dev) (n : Nat) (rest : List (List Word)) : (d.tookEntry n rest).req = d.req :=
  Dev.RegsOut.eq (Dev.sqRefresh_only _ _).1 Dev.req fun _ _ _ => rfl

theorem Dev.startEntry_of_unlisted {d : Dev} {n : Nat} {w : List Word} (h : opcodes.contains ((w.getD 0 0#32).toNat % 256) = false)
    (x : CmdEnv) : d.startEntry n w x =
      d.invalidOpcode ⟨Fin.ofNat 64 n, Fin.ofNat 65536 ((w.getD 0 0).toNat / 65536), bitOf (w.getD 0 0).toNat 9, false⟩ := by
  rw [Dev.startEntry, if_pos (by rw [h]; rfl)]
  rfl

/-- The bits of word 0 that Table 11.3 defines. -/
theorem word0_mask {x : Nat} (hx : x < 2 ^ 32) (h : x % 65536 / 1024 = 0) : x &&& 0xFFFF03FF = x := by
  have hm : ∀ i < 32, i < 10 ∨ 16 ≤ i → Nat.testBit 0xFFFF03FF i = true := by decide
  refine Nat.eq_of_testBit_eq fun i => ?_
  rw [Nat.testBit_and]
  by_cases hi : i < 32
  · by_cases hr : i < 10 ∨ 16 ≤ i
    · rw [hm i hi hr, Bool.and_true]
    · have h0 : (x % 65536 / 1024).testBit (i - 10) = x.testBit i := by
        rw [show 65536 = 2 ^ 16 from rfl, show 1024 = 2 ^ 10 from rfl, Nat.testBit_div_two_pow, Nat.testBit_mod_two_pow,
          show i - 10 + 10 = i by omega]
        simp only [Bool.and_eq_right_iff_imp, decide_eq_true_eq]
        omega
      rw [← h0, h]
      simp
  · rw [Nat.testBit_lt_two_pow (lt_of_lt_of_le hx (Nat.pow_le_pow_right (by decide) (by omega)))]
    simp

/-- A NOP whose reserved bits are 0 has no field out of range. -/
theorem fieldBad_nop {w : List Word} (h0 : (w.getD 0 0#32).toNat % 65536 / 1024 = 0) (h : (w.drop 1).take 15 = List.replicate 15 0) :
    fieldBad 0 (fun i => (w.getD i 0#32).toNat) = none := by
  refine List.find?_eq_none.2 fun i hi => ?_
  simp only [ne_eq, decide_eq_true_eq, not_not]
  rw [List.mem_range] at hi
  cases i with
  | zero => exact word0_mask (BitVec.isLt _) h0
  | succ j =>
    have hj : w.getD (j + 1) 0#32 = 0#32 := by
      have h1 := congrArg (fun l : List Word => l.getD j 0#32) h
      simp only [List.getD_eq_getElem?_getD, List.getElem?_take, List.getElem?_drop, List.getElem?_replicate] at h1
      rw [if_pos (by omega), if_pos (by omega), Nat.add_comm 1 j] at h1
      simpa [List.getD_eq_getElem?_getD] using h1
    rw [hj]
    simp

theorem Dev.startEntry_nop {d : Dev} {n : Nat} {w : List Word} (hop : (w.getD 0 0#32).toNat % 256 = 0)
    (h0 : (w.getD 0 0#32).toNat % 65536 / 1024 = 0) (h : (w.drop 1).take 15 = List.replicate 15 0) (x : CmdEnv) : d.startEntry n w x =
      d.nop ⟨Fin.ofNat 64 n, Fin.ofNat 65536 ((w.getD 0 0).toNat / 65536), bitOf (w.getD 0 0).toNat 9, false⟩ := by
  rw [Dev.startEntry, hop, if_neg (by decide)]
  simp only [fieldBad_nop h0 h]
  rw [Dev.runCommand, if_pos rfl, BitVec.ofNat_eq_ofNat]

/-- Settles O10: the fetch and its errors, then the order of the commands and the two that end at once. -/
theorem commandsFetched : Obligations.CommandsFetched := by
  refine ⟨fun s n hf hk => ⟨fun l => ?_, ?_, fun c => ?_⟩, fun s x n w rest ha hn hw => ?_⟩
  · refine State.does (f := (·.sqFetch n l)) rfl ?_
    dsimp only
    rw [Dev.sqFetch_of_fetches hf hk]
    obtain ⟨h8, hto, hend⟩ := Dev.sqFetchCount_bounds hk
    set q : Sq := { s.dev.sq n with
      fetch := ((s.dev.sq n).fetch + s.dev.sqFetchCount n) % s.dev.sqSize n
      fetched := (s.dev.sq n).fetched ++ (List.range (s.dev.sqFetchCount n)).map (fun i => l.getD i []) } with hq
    set d := (s.dev.emit (.hostRead (s.dev.sqFetchAddr n) (64 * s.dev.sqFetchCount n))).setSq n q with hd
    have hself : (d.sqRefresh n).sq n = q := by rw [Dev.sq_sqs (Dev.sqRefresh_sqs _ _), hd, Dev.sq_setSq, if_pos rfl]
    have hdn : d.sq n = q := by rw [hd, Dev.sq_setSq, if_pos rfl]
    refine ⟨h8, hto, hend, ?_, ?_, ?_, ?_, fun m hm => ?_, ?_, ?_⟩
    · rw [Dev.sqRefresh_out]
      rfl
    · rw [hself]
    · rw [hself]
    · rw [hself]
    · rw [Dev.sq_sqs (Dev.sqRefresh_sqs _ _), hd, Dev.sq_setSq, if_neg hm]
      rfl
    · rw [Dev.sqRefresh_state d n (Dev.state_of_sqFetches hf), hdn, if_neg]
      simp only [hq, Bool.and_eq_true, List.isEmpty_iff, List.append_eq_nil_iff, List.map_eq_nil_iff, List.range_eq_nil]
      omega
    · rw [Dev.sqRefresh_sqs]
      exact ((Dev.Only.refl _ _).emit _).trans (d.sqRefresh_only n)
  · refine State.does (f := (·.sqFetchError n 1)) rfl ?_
    rw [Dev.sqFetchError_of_fetches hf hk]
    exact Dev.sqError_failed _ _ _ _ n.isLt (by decide)
  · refine State.does (f := (·.sqFetchError n (c.val + 2))) rfl ?_
    rw [Dev.sqFetchError_of_fetches hf hk]
    exact Dev.sqError_failed _ _ _ _ n.isLt (by omega)
  · obtain ⟨-, hst, hprio⟩ := Dev.nextSq_spec hn
    refine ⟨hprio, Dev.startable_cons hst hw, State.does (f := (·.commandStart x)) rfl ?_⟩
    dsimp only
    rw [Dev.commandStart_eq ha hn hw]
    refine ⟨s.dev.tookEntry n rest, ?_, fun k hk => ?_, s.dev.tookEntry_head n rest, s.dev.tookEntry_only n rest, fun hop => ?_,
      fun hop h0 h15 hmode => ?_⟩
    · rw [Dev.sq_sqs (s.dev.tookEntry_sqs n rest), Dev.sq_setSq, if_pos rfl]
    · rw [Dev.sq_sqs (s.dev.tookEntry_sqs n rest), Dev.sq_setSq, if_neg hk]
    · rw [Dev.startEntry_of_unlisted (by simpa [opcodes] using hop)]
      exact Dev.complete_plain _ _ 1 0 0 (by decide)
    · rw [Dev.startEntry_nop hop h0 h15, Dev.nop, if_pos]
      · exact Dev.complete_plain _ _ 0 0 0 (by decide)
      · rw [Dev.modeIn, Dev.tookEntry_mode, Dev.tookEntry_req]
        exact hmode

end Sys2Proof.Machine
end

section
/-! SUPPORT. Buffers posted to a supply (R265) and quotas set by the host (R312). -/

namespace Sys2Proof.Machine

/-! ## Little-endian words of a window -/

theorem leBytes_length (n w : Nat) : (leBytes n w).length = n := by
  induction n generalizing w with
  | zero => rfl
  | succ n ih => rw [leBytes, List.length_cons, ih]

theorem leNat_leBytes (n w : Nat) : leNat (leBytes n w) = w % 256 ^ n := by
  induction n generalizing w with
  | zero => rw [Nat.pow_zero, Nat.mod_one]; rfl
  | succ n ih =>
    
    rw [leBytes, leNat, ih, BitVec.toNat_ofNat, show 256 ^ (n + 1) = 256 * 256 ^ n from Nat.pow_succ']
    exact Nat.mod_mul.symm

theorem leNat_lt (l : List Byte) : leNat l < 256 ^ l.length := by
  induction l with
  | nil => exact Nat.one_pos
  | cons b t ih =>
    rw [leNat, List.length_cons, Nat.pow_succ']
    have := b.isLt
    omega

theorem Dev.bytes_length (d : Dev) (a n : Nat) : (d.bytes a n).length = n := by
  induction n generalizing a with
  | zero => rfl
  | succ n ih => rw [Dev.bytes, List.length_cons, ih]

theorem Dev.bytes_congr {d e : Dev} {a n : Nat} (h : ∀ c, a ≤ c → c < a + n → e.byte c = d.byte c) : e.bytes a n = d.bytes a n := by
  induction n generalizing a with
  | zero => rfl
  | succ n ih => rw [Dev.bytes, Dev.bytes, h a le_rfl (by omega), ih fun c h1 h2 => h c (by omega) (by omega)]

theorem Dev.bytes_setBytes (d : Dev) (a : Nat) (l : List Byte) : (d.setBytes a l).bytes a l.length = l := by
  induction l generalizing d a with
  | nil => rfl
  | cons b t ih =>
    rw [Dev.setBytes, List.length_cons, Dev.bytes, ih, Dev.byte_setBytes_out _ _ _ _ (.inl (by omega)), Dev.byte_setByte_self]

theorem Dev.mem_setMem (d : Dev) (a n v : Nat) : (d.setMem a n v).mem a n = v % 256 ^ n := by
  have h := d.bytes_setBytes a (leBytes n v)
  rw [leBytes_length] at h
  rw [Dev.mem, Dev.setMem, h, leNat_leBytes]

theorem Dev.byte_setMem_out (d : Dev) (a n v : Nat) {c : Nat} (h : c < a ∨ a + n ≤ c) : (d.setMem a n v).byte c = d.byte c :=
  d.byte_setBytes_out a _ c (by rwa [leBytes_length])

theorem Dev.mem_ram {d e : Dev} (h : e.ram = d.ram) (a n : Nat) : e.mem a n = d.mem a n := by
  rw [Dev.mem, Dev.mem, Dev.bytes_congr fun c _ _ => congrArg (spGet ramDflt · c) h]

theorem Dev.mem_lt (d : Dev) (a n : Nat) : d.mem a n < 256 ^ n := by
  have h := leNat_lt (d.bytes a n)
  rwa [Dev.bytes_length] at h

theorem Dev.setBytes_eq (d : Dev) (a : Nat) (l : List Byte) : d.setBytes a l = { d with ram := (d.setBytes a l).ram } := by
  induction l generalizing d a with
  | nil => rfl
  | cons b t ih => exact ih (d.setByte a b) (a + 1)

/-! ## Flags -/

/-- A field of the flag's register apart from the flag reads as before. -/
theorem Dev.f_flag_apart' (d : Dev) (a b hi lo : Nat) (h : b < 32) (ha : a ≠ R.TOP_INT_STATUS) (hd : b < lo ∨ hi < b) :
    (d.flag ⟨a, b, b⟩).f ⟨a, hi, lo⟩ = d.f ⟨a, hi, lo⟩ := d.f_flag_apart ⟨a, b, b⟩ ⟨a, hi, lo⟩ rfl h rfl ha hd

/-- The interrupt that a flag of block `b` may raise. -/
theorem intBit_within {a b : Nat} {l : List Fld} (ha : intBitOf a = b) (hb : b < 32) (h : intBit b ∈ l) : (intBit (intBitOf a)).within l := by
  rw [ha]
  exact ⟨Nat.le_succ _, hb, intBit b, h, rfl, le_rfl, le_rfl⟩

/-! ## BUFFER_POST -/

theorem Dev.supply_setSupply (d : Dev) (k j : Nat) (l : List Nat) :
    (d.setSupply k l).supply j = if j = k then l else d.supply j := spGet_spSet _ _ _ _

theorem Dev.completeQuiet_ok (d : Dev) (src : Src) (o : CmdRes) (h : o.status = 0) :
    d.completeQuiet src o = if src.quiet then d else d.complete src o := by
  simp [Dev.completeQuiet, h]

theorem Dev.bufferPost_of_taken {d : Dev} {k addr : Nat} (ha : addr % 4096 = 0) (hm : d.modeIn [.standby, .calibrate, .run, .service] = true)
    (hen : d.f (F.CTX_SUPPLY_CFG.EN k) = 1) (hl : (d.supply k).length < 4096) (src : Src) :
    d.bufferPost src k addr = if src.quiet then d.setSupply k (d.supply k ++ [addr])
      else (d.setSupply k (d.supply k ++ [addr])).complete src stOk := by
  rw [Dev.bufferPost, if_neg (by omega), if_neg (by simp [hm]), if_neg (by simp [Dev.on_one hen]), if_neg (by omega),
    Dev.completeQuiet_ok _ _ _ rfl]

/-! ## SMP_QUOTA_SET -/

theorem Dev.quotaEvent_only (d : Dev) (kind holder : Nat) :
    d.Only (d.quotaEvent kind holder) [whole R.SMP_QUOTA_EVENT, F.SMP_COUNT.QEX_CNT, intBit 10] := by
  refine ((((Dev.Only.refl _ _).setF _ _ ?_).setF _ _ ?_).count _ _ ?_).flag _ ?_ (intBit_within (b := 10) rfl (by decide) (by simp)) <;>
    simp [Fld.within, whole]

theorem Dev.reportIf_only (d : Dev) (b : Bool) (kind holder : Nat) :
    d.Only (d.reportIf b kind holder) [whole R.SMP_QUOTA_EVENT, F.SMP_COUNT.QEX_CNT, intBit 10] := by
  unfold Dev.reportIf
  exact Dev.Only.ite (d.quotaEvent_only kind holder) (Dev.Only.refl _ _)

/-- The QUOTA of entry `n` written, without the report of R311. -/
def Dev.putQuota (d : Dev) (n q : Nat) : Dev :=
  (d.setMem (ctxEntry n + 4) 4 (putBits (d.ctxWord n 1) 12 0 q)).setCtx n
    { d.ctx n with overQuota := (quotaLimit (d.ctx n).overQuota (d.ctx n).cells (d.ctxQuota n) q).1 }

theorem Dev.setQuota_only (d : Dev) (n q : Nat) :
    (d.putQuota n q).Only (d.setQuota n q) [whole R.SMP_QUOTA_EVENT, F.SMP_COUNT.QEX_CNT, intBit 10] := Dev.reportIf_only _ _ _ _

theorem Dev.putQuota_eq (d : Dev) (n q : Nat) :
    { d with ram := (d.putQuota n q).ram, ctxs := (d.putQuota n q).ctxs } = d.putQuota n q := by
  unfold Dev.putQuota Dev.setMem
  rw [Dev.setBytes_eq]
  rfl

theorem Dev.ctxQuota_putQuota (d : Dev) (n q : Nat) : (d.putQuota n q).ctxQuota n = q % 8192 := by
  have hw : d.ctxWord n 1 < 2 ^ 32 := d.mem_lt _ 4
  have hm : (d.putQuota n q).ctxWord n 1 = putBits (d.ctxWord n 1) 12 0 q := by
    refine (Dev.mem_setMem d _ 4 _).trans (Nat.mod_eq_of_lt ?_)
    exact putBits_lt _ 12 0 q 32 (by decide) (by decide) hw
  rw [Dev.ctxQuota, Dev.ctxField, hm, bitsOf_putBits_self _ _ _ _ (by decide)]
  rfl

theorem Dev.byte_putQuota (d : Dev) (n q : Nat) {a : Nat} (h : a < ctxEntry n + 4 ∨ ctxEntry n + 8 ≤ a) :
    (d.putQuota n q).byte a = d.byte a := d.byte_setMem_out _ _ _ (by omega)

theorem Dev.ctx_putQuota_ne (d : Dev) {n m : Nat} (q : Nat) (h : m ≠ n) : (d.putQuota n q).ctx m = d.ctx m := by
  refine (Dev.ctx_setCtx_ne _ _ h).trans (Dev.ctx_ctxs ?_ m)
  rw [Dev.setMem, Dev.setBytes_eq]

/-- The result registers of SMP_QUOTA_SET. -/
def Dev.quotaResult (d : Dev) (r n : Nat) : Dev :=
  ((d.setF F.SMP_QUOTA_RESULT.RESULT r).setF F.SMP_QUOTA_RESULT.CONTEXT n).flag F.SMP_QUOTA_RESULT.DONE

theorem Dev.quotaResult_only (d : Dev) (r n : Nat) : d.Only (d.quotaResult r n) [whole R.SMP_QUOTA_RESULT, intBit 10] := by
  refine (((Dev.Only.refl _ _).setF _ _ ?_).setF _ _ ?_).flag _ ?_ (intBit_within (b := 10) rfl (by decide) (by simp)) <;>
    simp [Fld.within, whole]

theorem Dev.quotaResult_fields (d : Dev) {r n : Nat} (hr : r < 16) (hn : n < 4096) :
    (d.quotaResult r n).f F.SMP_QUOTA_RESULT.CONTEXT = n ∧ (d.quotaResult r n).f F.SMP_QUOTA_RESULT.DONE = 1 ∧
    (d.quotaResult r n).f F.SMP_QUOTA_RESULT.RESULT = r := by
  refine ⟨?_, Dev.f_flag_same _ _ _ (by decide) (by decide), ?_⟩
  · rw [Dev.quotaResult, Dev.f_flag_apart' _ _ _ _ _ (by decide) (by decide) (by decide), Dev.f_same _ _ _ _ _ (by decide) (by decide)]
    exact Nat.mod_eq_of_lt hn
  · rw [Dev.quotaResult, Dev.f_flag_apart' _ _ _ _ _ (by decide) (by decide) (by decide),
      Dev.f_apart _ _ _ _ _ _ _ (by decide) (by decide) (by decide), Dev.f_same _ _ _ _ _ (by decide) (by decide)]
    exact Nat.mod_eq_of_lt hr

theorem Dev.quotaSet_refused {d : Dev} {n q r : Nat} (hr : r ≠ 0)
    (h : (if q = 0 ∨ 4096 < q then 1 else if q < recordCells (d.ctxLargest n) then 2 else 0) = r) :
    d.quotaSet n q = d.quotaResult r n := by
  rw [Dev.quotaSet, h, if_neg hr]
  rfl

theorem Dev.quotaSet_taken {d : Dev} {n q : Nat} (h : (if q = 0 ∨ 4096 < q then 1 else if q < recordCells (d.ctxLargest n) then 2 else 0) = 0) :
    d.quotaSet n q = (d.setQuota n q).quotaResult 0 n := by
  rw [Dev.quotaSet, h, if_pos rfl]
  rfl

/-- Settles O13: the posting of a buffer and its refusals in turn, then the three results of SMP_QUOTA_SET. -/
theorem buffersAndQuotas : Obligations.BuffersAndQuotas := by
  refine ⟨fun s src k addr => ⟨fun ha hm hen hl => ?_, fun ha => ?_, fun ha hm => ?_, fun ha hm hen => ?_, fun ha hm hen hl => ?_⟩,
    fun s v hw => ?_⟩
  · refine State.does (f := (·.bufferPost src k addr)) rfl ?_
    rw [Dev.bufferPost_of_taken ha hm hen hl]
    refine ⟨s.dev.setSupply k (s.dev.supply k ++ [addr]), ?_, fun j hj => ?_, ?_, ?_, ?_⟩
    · rw [Dev.supply_setSupply, if_pos rfl]
    · rw [Dev.supply_setSupply, if_neg hj]
    · rw [Dev.setSupply, Dev.f_same _ _ _ _ _ (by decide) (by decide), List.length_append, List.length_singleton]
      exact Nat.mod_eq_of_lt (by omega)
    · exact (Dev.Only.refl _ _).setF _ _ (by simp [Fld.within])
    · cases src.quiet with
      | true => rfl
      | false => exact Dev.complete_plain _ _ 0 0 0 (by decide)
  · refine State.does (f := (·.bufferPost src k addr)) rfl ?_
    rw [Dev.bufferPost, if_pos ha]
    exact Dev.complete_plain _ _ 2 0 2 (by decide)
  · refine State.does (f := (·.bufferPost src k addr)) rfl ?_
    rw [Dev.bufferPost, if_neg (by omega), if_pos (by simp [hm])]
    exact Dev.complete_plain _ _ 5 0 0 (by decide)
  · refine State.does (f := (·.bufferPost src k addr)) rfl ?_
    rw [Dev.bufferPost, if_neg (by omega), if_neg (by simp [hm]), if_pos (by simp [Dev.on_zero hen])]
    exact Dev.complete_plain _ _ 3 1 0 (by decide)
  · refine State.does (f := (·.bufferPost src k addr)) rfl ?_
    rw [Dev.bufferPost, if_neg (by omega), if_neg (by simp [hm]), if_neg (by simp [Dev.on_one hen]), if_pos hl]
    exact Dev.complete_plain _ _ 3 2 0 (by decide)
  · refine State.does (f := fun d => if d.awake then d.quotaSet (bitsOf v.toNat 11 0) (bitsOf v.toNat 28 16) else d) rfl ?_
    have hn : bitsOf v.toNat 11 0 = v.toNat % 4096 := by simp [bitsOf]
    have hq : bitsOf v.toNat 28 16 = v.toNat / 65536 % 8192 := by simp [bitsOf]
    rw [if_pos hw, hn, hq]
    generalize hn' : v.toNat % 4096 = n
    have hlt : n < 4096 := by omega
    generalize hq' : v.toNat / 65536 % 8192 = q
    have hrefused : ∀ r, r ≠ 0 → r < 16 → s.dev.quotaSet n q = s.dev.quotaResult r n →
        (s.dev.quotaSet n q).f F.SMP_QUOTA_RESULT.CONTEXT = n ∧ (s.dev.quotaSet n q).f F.SMP_QUOTA_RESULT.DONE = 1 ∧
        { s.dev with ram := (s.dev.quotaSet n q).ram, ctxs := (s.dev.quotaSet n q).ctxs }.Only (s.dev.quotaSet n q)
          [whole R.SMP_QUOTA_RESULT, whole R.SMP_QUOTA_EVENT, F.SMP_COUNT.QEX_CNT, intBit 10] ∧
        (s.dev.quotaSet n q).f F.SMP_QUOTA_RESULT.RESULT = r ∧ (s.dev.quotaSet n q).ram = s.dev.ram ∧
        (s.dev.quotaSet n q).ctxs = s.dev.ctxs := by
      intro r _ hr he
      rw [he]
      obtain ⟨hctx, hdone, hres⟩ := s.dev.quotaResult_fields hr hlt
      have honly := s.dev.quotaResult_only r n
      have hram := Dev.RegsOut.eq honly.1 Dev.ram fun _ _ _ => rfl
      have hctxs := Dev.RegsOut.eq honly.1 Dev.ctxs fun _ _ _ => rfl
      refine ⟨hctx, hdone, ?_, hres, hram, hctxs⟩
      rw [hram, hctxs]
      exact honly.mono (by simp)
    by_cases h1 : q = 0 ∨ 4096 < q
    · obtain ⟨a, b, c, d⟩ := hrefused 1 (by decide) (by decide) (Dev.quotaSet_refused (by decide) (if_pos h1))
      exact ⟨a, b, c, by rwa [if_pos h1]⟩
    · by_cases h2 : q < recordCells (s.dev.ctxLargest n)
      · obtain ⟨a, b, c, d⟩ := hrefused 2 (by decide) (by decide) (Dev.quotaSet_refused (by decide) (by rw [if_neg h1, if_pos h2]))
        exact ⟨a, b, c, by rwa [if_neg h1, if_pos h2]⟩
      · rw [Dev.quotaSet_taken (by rw [if_neg h1, if_neg h2]), if_neg h1, if_neg h2]
        obtain ⟨hctx, hdone, hres⟩ := (s.dev.setQuota n q).quotaResult_fields (r := 0) (by decide) hlt
        have honly := ((s.dev.setQuota_only n q).mono (l' := [whole R.SMP_QUOTA_RESULT, whole R.SMP_QUOTA_EVENT, F.SMP_COUNT.QEX_CNT, intBit 10])
          (by simp)).trans (((s.dev.setQuota n q).quotaResult_only 0 n).mono (by simp))
        have hram := Dev.RegsOut.eq honly.1 Dev.ram fun _ _ _ => rfl
        have hctxs := Dev.RegsOut.eq honly.1 Dev.ctxs fun _ _ _ => rfl
        refine ⟨hctx, hdone, ?_, hres, ?_, fun a ha => ?_, fun m hm => ?_⟩
        · rw [hram, hctxs, Dev.putQuota_eq]
          exact honly
        · rw [Dev.ctxQuota, Dev.ctxField, Dev.ctxWord, Dev.mem_ram hram]
          exact (s.dev.ctxQuota_putQuota n q).trans (Nat.mod_eq_of_lt (by omega))
        · rw [Dev.byte, hram]
          exact s.dev.byte_putQuota n q ha
        · rw [Dev.ctx_ctxs hctxs]
          exact s.dev.ctx_putQuota_ne q hm

end Sys2Proof.Machine
end

section
/-! SUPPORT. Start and stop of an inspection context (R269 to R271). -/

namespace Sys2Proof.Machine

/-! ## CTX_START -/

/-- An AT line that has been triggered. -/
def Dev.atPassed (d : Dev) : Option Int → Bool
  | some a => d.linePassed a
  | none => false

theorem Dev.ctxStart_failed {d : Dev} {n : Nat} (h : d.ctxCheck n ≠ 0) (src : Src) (line : Option Int) : d.ctxStart src n line =
    (d.setCtx n { d.ctx n with lastResult := d.ctxCheck n }).complete src (stCode (d.ctxCheck n)) := by
  unfold Dev.ctxStart
  exact if_pos h

/-- The context after a successful start. -/
def Dev.startedCtx (d : Dev) (src : Src) (n : Nat) (line : Option Int) (missed : Bool) : Ctx :=
  { ctxInit n with
    state := if line.isSome && !missed then 1 else 2
    atMissed := missed
    lastClose := (d.ctx n).lastClose
    fromSerial := d.ltn.serial
    fromLine := if line.isSome && !missed then line else none
    sq := some src.sq.val }

theorem Dev.ctxStart_started {d : Dev} {n : Nat} (h : d.ctxCheck n = 0) (src : Src) (line : Option Int) : d.ctxStart src n line =
    (d.setCtx n (d.startedCtx src n line (d.atPassed line))).complete src { stOk with info := b2n (d.atPassed line) } := by
  unfold Dev.ctxStart
  extract_lets code missed wait e
  refine (if_neg (by simp [code, h])).trans ?_
  cases line <;> rfl

theorem Dev.ctxCheck_of_wrongMode {d : Dev} (h : d.modeIn [.run, .service] = false) (n : Nat) : d.ctxCheck n = 1 := by
  rw [Dev.ctxCheck, if_pos (by simp [h])]

theorem Dev.ctxCheck_of_no_bar {d : Dev} (h : d.modeIn [.run, .service] = true) (hb : d.bar = none) (n : Nat) : d.ctxCheck n = 2 := by
  rw [Dev.ctxCheck, if_neg (by simp [h]), if_pos (by simp [hb])]

/-- What an entry that passes every check of Table 10.7 has. -/
theorem Dev.ctxCheck_zero {d : Dev} {n : Nat} (h : d.ctxCheck n = 0) : (d.ctx n).state = 0 ∧ 0 < d.ctxQuota n ∧ d.ctxQuota n ≤ 4096 ∧
    0 < d.ctxWidth n ∧ d.on (F.CTX_SUPPLY_CFG.EN (d.ctxSupply n)) = true ∧ d.f (F.HST_CQ_STATUS.STATE (d.ctxRing n)) = 1 ∧
    recordCells (d.ctxLargest n) ≤ d.ctxQuota n := by
  unfold Dev.ctxCheck at h
  extract_lets mask planes w big q supply st at h
  repeat' split at h
  all_goals first | omega | skip
  rename_i _ _ _ hstate hfields _ _ hen _ hcells hring
  simp only [Bool.or_eq_true, decide_eq_true_eq, not_or, Bool.not_eq_true', Bool.not_eq_false] at hfields hen hstate
  obtain ⟨⟨⟨⟨-, hq⟩, hq'⟩, hwidth⟩, -⟩ := hfields
  exact ⟨not_not.1 hstate, by omega, by omega, by omega, hen, not_not.1 hring, not_lt.1 hcells⟩

theorem Dev.one_of_on {d : Dev} {a i : Nat} (h : d.on ⟨a, i, i⟩ = true) : d.f ⟨a, i, i⟩ = 1 := by
  have hlt := d.f_lt a i i
  have hne := (d.on_iff _).1 h
  rw [show i + 1 - i = 1 by omega] at hlt
  omega

/-! ## CTX_STOP -/

theorem Dev.ctx_setCtx_self (d : Dev) (n : Nat) (c : Ctx) : (d.setCtx n c).ctx n = c := spGet_spSet_self _ _ _

/-- A context that has stopped. -/
def Ctx.stopped (c : Ctx) : Ctx := { c with state := 0, draining := none, toSerial := none, fromLine := none, toLine := none }

/-- A context whose stop has taken effect. -/
def Ctx.stopping (c : Ctx) (t code : Nat) : Ctx :=
  { c with state := 3, toSerial := some t, toLine := none, draining := some (c.draining.getD code) }

/-- The CTX_STOP commands of context `n` complete. -/
def Dev.endCtxStop (n : Nat) (d : Dev) (r : Running) : Dev :=
  match r.kind with
  | .ctxStop m missed => if m = n then d.finish r.id { stOk with info := b2n missed } else d
  | _ => d

theorem Dev.endCtxStop_of_ne {n : Nat} {r : Running} (h : ∀ b, r.kind ≠ .ctxStop n b) (d : Dev) : d.endCtxStop n r = d := by
  unfold Dev.endCtxStop
  split
  next m missed hk => rw [if_neg (by rintro rfl; exact h _ hk)]
  next => rfl

theorem Dev.closeBuf_none {d : Dev} {n : Nat} (h : (d.ctx n).buf = none) (code : Nat) : d.closeBuf n code = d := by
  unfold Dev.closeBuf
  extract_lets c
  rw [show c.buf = none from h]

theorem Dev.checkStop_waits {d : Dev} {n : Nat} (h : (d.ctx n).waiting ≠ []) : d.checkStop n = d := by
  unfold Dev.checkStop
  extract_lets c
  cases hd : c.draining with
  | none => rfl
  | some code => exact if_pos (by simp [c, h])

/-- A draining context with no record, no line and no open buffer is STOPPED, and its CTX_STOP commands complete. -/
theorem Dev.checkStop_drained {d : Dev} {n code : Nat} (hd : (d.ctx n).draining = some code) (hw : (d.ctx n).waiting = [])
    (hl : d.linesDue (d.ctx n) = false) (hb : (d.ctx n).buf = none) :
    d.checkStop n = d.running.foldl (Dev.endCtxStop n) (d.setCtx n (d.ctx n).stopped) := by
  unfold Dev.checkStop
  extract_lets c
  rw [show c.draining = some code from hd]
  dsimp only
  rw [if_neg (by simp [c, hw, hl]), Dev.closeBuf_none hb]
  rfl

theorem Dev.linesDue_of_empty {d : Dev} (hg : d.gal.lines = []) (hq : d.ltn.mainQ = []) (c : Ctx) : d.linesDue c = false := by
  simp [Dev.linesDue, hg, hq]

/-- A command that was just started ends, and the state is as if it had never run. -/
theorem Dev.finish_started {d : Dev} {src : Src} {k : RunKind} (h : ∀ r ∈ d.running, r.id < d.nextRun) (o : CmdRes) {e : Dev}
    (he : e.running = (d.startRun src k).running) : e.finish d.nextRun o = { e with running := d.running }.complete src o := by
  have hne : ∀ r ∈ d.running, r.id ≠ d.nextRun := fun r hr => Nat.ne_of_lt (h r hr)
  have hfind : e.running.find? (fun r => r.id = d.nextRun) = some ⟨d.nextRun, src, k⟩ := by
    rw [he, Dev.startRun, List.find?_append, List.find?_eq_none.2 (by simpa using hne)]
    simp
  have hdrop : e.running.filter (fun r => r.id ≠ d.nextRun) = d.running := by
    rw [he, Dev.startRun, List.filter_append, List.filter_eq_self.2 (by simpa using hne)]
    simp
  rw [Dev.finish, hfind]
  dsimp only
  rw [Dev.dropRun, hdrop]

theorem Dev.foldl_endCtxStop {n : Nat} {l : List Running} (h : ∀ r ∈ l, ∀ b, r.kind ≠ .ctxStop n b) (d : Dev) :
    l.foldl (Dev.endCtxStop n) d = d := by
  induction l with
  | nil => rfl
  | cons r t ih =>
    rw [List.foldl_cons, Dev.endCtxStop_of_ne (h r List.mem_cons_self), ih fun r hr => h r (List.mem_cons_of_mem _ hr)]

/-- A stop with nothing left to drain completes at once. -/
theorem Dev.ctxStop_at_once {d : Dev} {n : Nat} (hw : (d.ctx n).waiting = []) (hb : (d.ctx n).buf = none) (hg : d.gal.lines = [])
    (hq : d.ltn.mainQ = []) (hr : ∀ r ∈ d.running, r.id < d.nextRun ∧ ∀ b, r.kind ≠ .ctxStop n b) (src : Src) (t : Nat) :
    (d.startRun src (.ctxStop n false)).stopNow n 2 t =
      ({ d with nextRun := d.nextRun + 1 }.setCtx n (d.ctx n).stopped).complete src { stOk with info := 0 } := by
  have hstop : (d.startRun src (.ctxStop n false)).stopNow n 2 t =
      ((d.startRun src (.ctxStop n false)).setCtx n ((d.ctx n).stopping t 2)).checkStop n := rfl
  rw [hstop]
  set d1 := (d.startRun src (.ctxStop n false)).setCtx n ((d.ctx n).stopping t 2) with hd1
  have hc1 : d1.ctx n = (d.ctx n).stopping t 2 := Dev.ctx_setCtx_self _ _ _
  rw [Dev.checkStop_drained (d := d1) (code := (d.ctx n).draining.getD 2) (by rw [hc1]; rfl) (by rw [hc1]; exact hw) (Dev.linesDue_of_empty hg hq _)
    (by rw [hc1]; exact hb), show d1.running = d.running ++ [⟨d.nextRun, src, .ctxStop n false⟩] from rfl, List.foldl_append,
    Dev.foldl_endCtxStop fun r h => (hr r h).2, List.foldl_cons, List.foldl_nil, hc1]
  have he : Dev.endCtxStop n (d1.setCtx n (d.ctx n).stopped) ⟨d.nextRun, src, .ctxStop n false⟩ =
      (d1.setCtx n (d.ctx n).stopped).finish d.nextRun { stOk with info := b2n false } := if_pos rfl
  refine Eq.trans he ?_
  rw [Dev.finish_started (e := d1.setCtx n (d.ctx n).stopped) (src := src) (k := .ctxStop n false) (fun r h => (hr r h).1) _ rfl]
  have hset : { d1.setCtx n (d.ctx n).stopped with running := d.running } =
      { d with nextRun := d.nextRun + 1 }.setCtx n (d.ctx n).stopped := by
    rw [hd1]
    unfold Dev.setCtx Dev.startRun
    dsimp only
    rw [spSet_spSet]
  rw [hset]
  rfl

theorem Dev.ctxStop_stops {d : Dev} {n : Nat} (hm : d.modeIn [.run, .service] = true) (hs : (d.ctx n).state ≠ 0) (src : Src) {line : Option Int}
    (hl : d.atPassed line = false) : d.ctxStop src n line = (match line with
      | some a => (d.startRun src (.ctxStop n false)).setCtx n { d.ctx n with state := 3, toLine := some a }
      | none => (d.startRun src (.ctxStop n false)).stopNow n 2 d.ltn.serial) := by
  unfold Dev.ctxStop
  refine (if_neg (by simp [hm])).trans ((if_neg hs).trans ?_)
  cases line with
  | none => rfl
  | some a =>
    rw [Dev.atPassed] at hl
    simp only [hl]
    rfl

/-- Settles O14: the checks and the outcomes of CTX_START, then those of CTX_STOP. -/
theorem contextLifecycle : Obligations.ContextLifecycle := by
  refine ⟨fun s src n line => ⟨fun hc hl => ?_, fun a hc ha hp => ?_, fun hc => ?_, fun hm => Dev.ctxCheck_of_wrongMode hm n,
    fun hm hb => Dev.ctxCheck_of_no_bar hm hb n, fun hc => ?_⟩,
    fun s src n line => ⟨fun hm => ?_, fun hm hs => ?_, fun hm hs => ⟨fun a ha hp => ?_, fun ha hw => ?_, fun ha hw hb hg hq hr => ?_⟩⟩⟩
  · refine State.does (f := (·.ctxStart src n line)) rfl ?_
    have hp : s.dev.atPassed line = false := by
      cases line with
      | none => rfl
      | some a => exact hl a rfl
    rw [Dev.ctxStart_started hc, hp]
    cases line <;> exact Dev.complete_plain _ _ 0 0 0 (by decide)
  · refine State.does (f := (·.ctxStart src n line)) rfl ?_
    subst ha
    rw [Dev.ctxStart_started hc, Dev.atPassed, hp]
    exact Dev.complete_plain _ _ 0 0 1 (by decide)
  · refine State.does (f := (·.ctxStart src n line)) rfl ?_
    rw [Dev.ctxStart_failed hc]
    exact Dev.complete_plain _ _ 3 _ 0 (by decide)
  · obtain ⟨hstate, hq, hq', hwidth, hen, hring, hcells⟩ := Dev.ctxCheck_zero hc
    exact ⟨hstate, hq, hq', hwidth, Dev.one_of_on hen, hring, hcells⟩
  · refine State.does (f := (·.ctxStop src n line)) rfl ?_
    rw [Dev.ctxStop.eq_def, if_pos (by simp [hm])]
    exact Dev.complete_plain _ _ 5 0 0 (by decide)
  · refine State.does (f := (·.ctxStop src n line)) rfl ?_
    rw [Dev.ctxStop.eq_def, if_neg (by simp [hm]), if_pos hs]
    exact Dev.complete_plain _ _ 3 1 0 (by decide)
  · refine State.does (f := (·.ctxStop src n line)) rfl ?_
    subst ha
    exact Dev.ctxStop_stops (line := some a) hm hs src hp
  · refine State.does (f := (·.ctxStop src n line)) rfl ?_
    subst ha
    rw [Dev.ctxStop_stops hm hs src rfl]
    exact Dev.checkStop_waits (by rw [Dev.ctx, Dev.setCtx, spGet_spSet_self]; exact hw)
  · refine State.does (f := (·.ctxStop src n line)) rfl ?_
    subst ha
    rw [Dev.ctxStop_stops hm hs src rfl]
    dsimp only
    rw [Dev.ctxStop_at_once hw hb hg hq hr]
    exact Dev.complete_plain _ _ 0 0 0 (by decide)

end Sys2Proof.Machine
end

section
/-! SUPPORT. Records written into their buffers, and buffers flushed (R266 to R268). -/

namespace Sys2Proof.Machine

/-! ## What follows a record: requests after those before, its context's own counts, the supplies -/

/-- `e` goes on from `d`: its requests to the outside come after those of `d`. -/
def Dev.outGrows (d e : Dev) : Prop := d.out <+: e.out

theorem Dev.sendMsi_grows (d : Dev) (v : Nat) : d.outGrows (d.sendMsi v) := by
  obtain ⟨more, h, -⟩ := d.sendMsi_out v
  exact ⟨more, h.symm⟩

theorem Dev.flag_grows (d : Dev) (x : Fld) : d.outGrows (d.flag x) := by
  obtain ⟨more, h, -⟩ := d.flag_out x
  exact ⟨more, h.symm⟩

theorem Dev.Answered.grows {d e : Dev} {q : Nat} {c : Cpl} (h : d.Answered e q c) : d.outGrows e := by
  rw [Dev.Answered] at h
  split at h
  · obtain ⟨⟨more, hout, -⟩, -⟩ := h
    exact ⟨_, hout.symm⟩
  · obtain ⟨-, -, ⟨more, hout, -⟩, -⟩ := h
    exact ⟨more, hout.symm⟩

theorem Dev.ctxRing_lt (d : Dev) (n : Nat) : d.ctxRing n < 64 := bitsOf_lt _ 31 26

/-- What stays of context `n`, the supplies and the requests after a step of its delivery. -/
def Dev.delivers (d : Dev) (n : Nat) (e : Dev) : Prop :=
  d.outGrows e ∧ (e.ctx n).waiting = (d.ctx n).waiting ∧ (e.ctx n).records = (d.ctx n).records ∧ e.supplies = d.supplies

theorem Dev.delivers.refl (d : Dev) (n : Nat) : d.delivers n d := ⟨List.prefix_rfl, rfl, rfl, rfl⟩

theorem Dev.delivers.trans {d e g : Dev} {n : Nat} (h : d.delivers n e) (h' : e.delivers n g) : d.delivers n g := by
  obtain ⟨ho, hw, hr, hs⟩ := h
  obtain ⟨ho', hw', hr', hs'⟩ := h'
  exact ⟨ho.trans ho', hw'.trans hw, hr'.trans hr, hs'.trans hs⟩

theorem Dev.delivers_of_rings {d e : Dev} (h : d.RingsOut e) (ho : d.outGrows e) (n : Nat) : d.delivers n e := by
  have hc : e.ctx n = d.ctx n := Dev.ctx_ctxs (h.eq Dev.ctxs fun _ _ _ _ => rfl) n
  exact ⟨ho, by rw [hc], by rw [hc], h.eq Dev.supplies fun _ _ _ _ => rfl⟩

theorem Dev.delivers_setCtx (d : Dev) {n : Nat} {c : Ctx} (hw : c.waiting = (d.ctx n).waiting) (hr : c.records = (d.ctx n).records) :
    d.delivers n (d.setCtx n c) :=
  ⟨List.prefix_rfl, by rw [Dev.ctx_setCtx_self, hw], by rw [Dev.ctx_setCtx_self, hr], rfl⟩

theorem Dev.post_delivers (d : Dev) {q : Nat} (hq : q < 64) (c : Cpl) (n : Nat) : d.delivers n (d.post q c) :=
  Dev.delivers_of_rings (d.post_ringsOut q c) (d.post_answered q c hq).grows n

theorem Dev.complete_delivers (d : Dev) (src : Src) (o : CmdRes) (n : Nat) : d.delivers n (d.complete src o) :=
  d.post_delivers (d.ring_lt src) _ n

theorem Dev.closeBuf_delivers (d : Dev) (n code : Nat) : d.delivers n (d.closeBuf n code) := by
  unfold Dev.closeBuf
  extract_lets c
  split
  · exact Dev.delivers.refl d n
  · next b _ =>
    have h : d.delivers n (d.setCtx n { c with buf := none, lastClose := code }) := d.delivers_setCtx rfl rfl
    exact h.trans (Dev.post_delivers _ (d.ctxRing_lt n) _ n)

theorem Dev.reportIf_grows (d : Dev) (b : Bool) (kind holder : Nat) : d.outGrows (d.reportIf b kind holder) := by
  unfold Dev.reportIf
  split
  · unfold Dev.quotaEvent
    generalize hg : ((d.setF F.SMP_QUOTA_EVENT.KIND kind).setF F.SMP_QUOTA_EVENT.HOLDER holder).count F.SMP_COUNT.QEX_CNT 1 = g
    have ho : g.out = d.out := by rw [← hg, Dev.count, Dev.setF_out, Dev.setF_out, Dev.setF_out]
    rw [Dev.outGrows, ← ho]
    exact g.flag_grows _
  · exact List.prefix_rfl

theorem Dev.setCtxCells_delivers (d : Dev) (n cells : Nat) : d.delivers n (d.setCtxCells n cells) := by
  unfold Dev.setCtxCells
  extract_lets c q
  have hnote : ∀ e : Dev, e.delivers n e.sumpNote := fun e => ⟨List.prefix_rfl, rfl, rfl, rfl⟩
  have hset : d.delivers n (d.setCtx n { c with cells := cells, overQuota := q.1 }) := d.delivers_setCtx rfl rfl
  exact (hset.trans (Dev.delivers_of_rings (Dev.RegsOut.rings (Dev.reportIf_only _ q.2 0 n).1) (Dev.reportIf_grows _ q.2 0 n) n)).trans
    (hnote _)

theorem Dev.flag_delivers (d : Dev) (x : Fld) (n : Nat) : d.delivers n (d.flag x) :=
  Dev.delivers_of_rings (d.flag_regsOut x).rings (d.flag_grows x) n

theorem Dev.roomCheck_delivers (d : Dev) (n : Nat) : d.delivers n (d.roomCheck n) := by
  unfold Dev.roomCheck
  extract_lets c d1 s
  have h1 : d.delivers n d1 := by
    unfold d1
    split
    · exact d.closeBuf_delivers n 0
    · exact Dev.delivers.refl d n
  clear_value d1
  split
  · exact Dev.delivers.refl d n
  · split
    · exact h1.trans (d1.flag_delivers _ n)
    · exact h1

theorem Dev.finish_delivers (d : Dev) (id : Nat) (o : CmdRes) (n : Nat) : d.delivers n (d.finish id o) := by
  unfold Dev.finish
  split
  · have h : d.delivers n (d.dropRun id) := ⟨List.prefix_rfl, rfl, rfl, rfl⟩
    exact h.trans (Dev.complete_delivers _ _ _ n)
  · exact Dev.delivers.refl d n

theorem Dev.endCtxStop_delivers (d : Dev) (n : Nat) (r : Running) : d.delivers n (d.endCtxStop n r) := by
  unfold Dev.endCtxStop
  split
  · split
    · exact d.finish_delivers _ _ n
    · exact Dev.delivers.refl d n
  · exact Dev.delivers.refl d n

theorem Dev.foldl_endCtxStop_delivers (l : List Running) (d : Dev) (n : Nat) : d.delivers n (l.foldl (Dev.endCtxStop n) d) := by
  induction l generalizing d with
  | nil => exact Dev.delivers.refl d n
  | cons r t ih => exact (d.endCtxStop_delivers n r).trans (ih _)

theorem Dev.checkStop_delivers (d : Dev) (n : Nat) : d.delivers n (d.checkStop n) := by
  unfold Dev.checkStop
  extract_lets c
  split
  · exact Dev.delivers.refl d n
  · next code _ =>
    split
    · exact Dev.delivers.refl d n
    · extract_lets d1 c1 d2
      have h1 : d.delivers n d1 := d.closeBuf_delivers n code
      clear_value d1
      have h2 : d1.delivers n d2 := d1.delivers_setCtx rfl rfl
      exact (h1.trans h2).trans (Dev.foldl_endCtxStop_delivers d2.running d2 n)

/-! ## RECORD_WRITE -/

/-- Record `r` written at the end of the open buffer `b`. -/
def Dev.putRecord (d : Dev) (n : Nat) (r : Rec) (rest : List Rec) (b : Buf) : Dev :=
  let d := d.emit (.hostWrite (b.addr + b.used) r.bytes d.link.relaxed)
  let c := d.ctx n
  let d := d.setCtx n { c with waiting := rest, records := (c.records + 1) % 2 ^ 32, buf := some { b with used := b.used + r.size, records := b.records + 1 } }
  ((d.setCtxCells n (c.cells - r.cells)).roomCheck n).checkStop n

theorem Dev.putRecord_delivered (d : Dev) (n : Nat) (r : Rec) (rest : List Rec) (b : Buf) :
    (∃ more, (d.putRecord n r rest b).out = d.out ++ .hostWrite (b.addr + b.used) r.bytes d.link.relaxed :: more) ∧
    ((d.putRecord n r rest b).ctx n).waiting = rest ∧ ((d.putRecord n r rest b).ctx n).records = ((d.ctx n).records + 1) % 2 ^ 32 ∧
    (d.putRecord n r rest b).supplies = d.supplies := by
  unfold Dev.putRecord
  extract_lets d1 c d2
  obtain ⟨⟨more, hout⟩, hw, hr, hs⟩ := ((d2.setCtxCells_delivers n (c.cells - r.cells)).trans (Dev.roomCheck_delivers _ n)).trans
    (Dev.checkStop_delivers _ n)
  refine ⟨⟨more, ?_⟩, ?_, ?_, hs⟩
  · rw [← hout, show d2.out = d.out ++ [.hostWrite (b.addr + b.used) r.bytes d.link.relaxed] from rfl, List.append_assoc]
    rfl
  · rw [hw, show d2.ctx n = _ from Dev.ctx_setCtx_self _ _ _]
  · rw [hr, show d2.ctx n = _ from Dev.ctx_setCtx_self _ _ _]
    rfl

theorem Dev.recordWrite_fits {d : Dev} {n : Nat} {r : Rec} {rest : List Rec} {b : Buf} (hn : d.nextWriter = some n)
    (hw : (d.ctx n).waiting = r :: rest) (hb : (d.ctx n).buf = some b) (hf : b.used + r.size ≤ d.supplyLen b.supply) :
    d.recordWrite = d.putRecord n r rest b := by
  have hfits : d.fits n = true := by simp [Dev.fits, hb, hw, hf]
  unfold Dev.recordWrite
  rw [hn]
  dsimp only
  rw [hw]
  dsimp only
  rw [if_pos hfits, hb]
  rfl

/-- The next buffer of the supply opened. -/
def Dev.opened (d : Dev) (n a seq : Nat) (t : List Nat) : Dev :=
  (d.setSupply (d.ctxSupply n) t).setCtx n { d.ctx n with buf := some ⟨a, d.ctxSupply n, 0, 0, seq⟩ }

theorem Dev.openBuf_cons {d : Dev} {n a : Nat} {t : List Nat} (h : d.supply (d.ctxSupply n) = a :: t) (seq : Nat) :
    d.openBuf n seq = d.opened n a seq t := by
  unfold Dev.openBuf
  extract_lets s
  rw [show d.supply s = a :: t from h]
  rfl

theorem Dev.recordWrite_opens {d : Dev} {n a : Nat} {r : Rec} {rest : List Rec} {t : List Nat} (hn : d.nextWriter = some n)
    (hw : (d.ctx n).waiting = r :: rest) (hb : (d.ctx n).buf = none) (hs : d.supply (d.ctxSupply n) = a :: t) :
    d.recordWrite = (d.opened n a (r.words.getD 1 0 / 2 ^ 20) t).putRecord n r rest
      ⟨a, d.ctxSupply n, 0, 0, r.words.getD 1 0 / 2 ^ 20⟩ := by
  have hfits : d.fits n = false := by simp [Dev.fits, hb]
  unfold Dev.recordWrite
  rw [hn]
  dsimp only
  rw [hw]
  dsimp only
  rw [if_neg (by simp [hfits]), Dev.closeBuf_none hb, Dev.openBuf_cons hs]
  have hbuf : ((d.opened n a (r.words.getD 1 0 / 2 ^ 20) t).ctx n).buf = some ⟨a, d.ctxSupply n, 0, 0, r.words.getD 1 0 / 2 ^ 20⟩ := by
    rw [Dev.opened, Dev.ctx_setCtx_self]
  rw [hbuf]
  rfl

theorem spGet_of_not_key {β : Type} {dflt : Nat → β} {m : List (Nat × β)} {a : Nat} (h : a ∉ m.map (·.1)) : spGet dflt m a = dflt a := by
  induction m with
  | nil => rfl
  | cons c t ih =>
    rw [List.map_cons, List.mem_cons, not_or] at h
    rw [spGet, if_neg (Ne.symm h.1), ih h.2]

theorem Dev.key_of_canWrite {d : Dev} {k : Nat} (h : d.canWrite k = true) : k ∈ d.ctxs.map (·.1) := by
  by_contra hk
  have hc : d.ctx k = ctxInit k := spGet_of_not_key hk
  simp [Dev.canWrite, hc, ctxInit] at h

/-- No context that may write comes before the one that is next (R268). -/
theorem Dev.nextWriter_best {d : Dev} {n : Nat} (h : d.nextWriter = some n) {k : Nat} (hk : d.canWrite k = true) :
    d.ctxPriority k < d.ctxPriority n ∨ (d.ctxPriority k = d.ctxPriority n ∧ n ≤ k) := by
  obtain ⟨-, -, hall⟩ := foldl_best
    (before := fun n m => decide (d.ctxPriority m < d.ctxPriority n ∨ (d.ctxPriority m = d.ctxPriority n ∧ n < m)))
    (Le := fun a b => d.ctxPriority b < d.ctxPriority a ∨ (d.ctxPriority b = d.ctxPriority a ∧ a ≤ b)) (fun _ => rfl)
    (fun m n => by simp only [decide_eq_true_eq]) (fun _ => .inr ⟨rfl, le_rfl⟩) (fun a b c hab hbc => by omega)
    (fun n m hnm => by simp only [decide_eq_true_eq] at hnm; omega) (fun n m hnm => by simp only [decide_eq_false_iff_not] at hnm; omega) h
  exact hall k (List.mem_filter.2 ⟨Dev.key_of_canWrite hk, hk⟩)

/-! ## BUFFER_FLUSH -/

theorem Dev.bufferFlush_open {d : Dev} {n : Nat} {b : Buf} (hf : d.ctxField n 9 15 0 ≠ 0) (hb : (d.ctx n).buf = some b) :
    d.bufferFlush n = (d.setCtx n { d.ctx n with buf := none, lastClose := 1 }).post (d.ctxRing n)
      (bufCpl n 1 b.supply b.used b.records (d.ctxTag n) b.addr b.firstSeq) := by
  rw [Dev.bufferFlush, if_neg hf]
  unfold Dev.closeBuf
  extract_lets c
  rw [show c.buf = some b from hb]

/-- Settles O15: the writer and the place of a record, then the flush. -/
theorem recordsDelivered : Obligations.RecordsDelivered := by
  refine ⟨fun s => ⟨fun hn => State.ignores (f := (·.recordWrite)) rfl (by unfold Dev.recordWrite; rw [hn]),
    fun n r rest hn hw => ⟨fun k hk => Dev.nextWriter_best hn hk, fun b hb hf => ?_, fun a t hb hs => ?_⟩⟩,
    fun s n => ⟨fun h => State.ignores (f := (·.bufferFlush n)) rfl ?_, fun b hf hb => ?_⟩⟩
  · have hne : ∀ m, m ≠ n → s.dev.recordWrite.ctx m = s.dev.ctx m := fun m hm =>
      Dev.ctx_recordWrite_ne _ (by rw [hn]; simpa using hm.symm)
    rw [Dev.recordWrite_fits hn hw hb hf] at hne
    refine State.does (f := (·.recordWrite)) rfl ?_
    rw [Dev.recordWrite_fits hn hw hb hf]
    obtain ⟨hout, hwait, hrec, hsup⟩ := s.dev.putRecord_delivered n r rest b
    exact ⟨hout, hwait, hrec, hne, hsup⟩
  · have hne : ∀ m, m ≠ n → s.dev.recordWrite.ctx m = s.dev.ctx m := fun m hm =>
      Dev.ctx_recordWrite_ne _ (by rw [hn]; simpa using hm.symm)
    rw [Dev.recordWrite_opens hn hw hb hs] at hne
    refine State.does (f := (·.recordWrite)) rfl ?_
    rw [Dev.recordWrite_opens hn hw hb hs]
    obtain ⟨hout, hwait, hrec, hsup⟩ := (s.dev.opened n a (r.words.getD 1 0 / 2 ^ 20) t).putRecord_delivered n r rest
      ⟨a, s.dev.ctxSupply n, 0, 0, r.words.getD 1 0 / 2 ^ 20⟩
    refine ⟨hout, hwait, ?_, hne, ?_⟩
    · rw [hrec, Dev.opened, Dev.ctx_setCtx_self]
    · rw [Dev.supply, hsup]
      exact spGet_spSet_self _ _ _
  · rcases h with h | h
    · exact if_pos h
    · rw [Dev.bufferFlush, Dev.closeBuf_none h, ite_self]
  · refine State.does (f := (·.bufferFlush n)) rfl ?_
    rw [Dev.bufferFlush_open hf hb]
    exact Dev.post_answered _ _ _ (s.dev.ctxRing_lt n)

end Sys2Proof.Machine
end

section
/-! SUPPORT. ABORT of a context and of a ring (R287, R298). -/

namespace Sys2Proof.Machine

/-! ## What an abort of contexts touches -/

/-- `e` is `d` but for contexts, started commands that ended, completions and registers. -/
def Dev.CtxOut (d e : Dev) : Prop :=
  e = { d with regs := e.regs, cqs := e.cqs, out := e.out, pba := e.pba, ctxs := e.ctxs, running := e.running } ∧ e.running ⊆ d.running

theorem Dev.CtxOut.refl (d : Dev) : d.CtxOut d := ⟨rfl, List.Subset.refl _⟩

theorem Dev.CtxOut.trans {d e g : Dev} (h : d.CtxOut e) (h' : e.CtxOut g) : d.CtxOut g := by
  obtain ⟨heq, hrun⟩ := h
  obtain ⟨heq', hrun'⟩ := h'
  exact ⟨by rw [heq', heq], List.Subset.trans hrun' hrun⟩

theorem Dev.CtxOut.eq {d e : Dev} (h : d.CtxOut e) {α : Type} (p : Dev → α)
    (hp : ∀ r c o b x n, p { d with regs := r, cqs := c, out := o, pba := b, ctxs := x, running := n } = p d) : p e = p d := by
  obtain ⟨heq, -⟩ := h
  rw [heq, hp]

theorem Dev.RingsOut.ctxOut {d e : Dev} (h : d.RingsOut e) : d.CtxOut e := by
  have hrun : e.running = d.running := h.eq Dev.running fun _ _ _ _ => rfl
  refine ⟨?_, by rw [hrun]; exact List.Subset.refl _⟩
  rw [Dev.RingsOut] at h
  rw [h]

theorem Dev.setCtx_ctxOut (d : Dev) (n : Nat) (c : Ctx) : d.CtxOut (d.setCtx n c) := ⟨rfl, List.Subset.refl _⟩

theorem Dev.closeBuf_ctxOut (d : Dev) (n code : Nat) : d.CtxOut (d.closeBuf n code) := by
  unfold Dev.closeBuf
  extract_lets c
  split
  · exact Dev.CtxOut.refl d
  · exact (d.setCtx_ctxOut _ _).trans (Dev.post_ringsOut _ _ _).ctxOut

theorem Dev.ctx_closeBuf (d : Dev) (n code : Nat) : (d.closeBuf n code).ctx n = { d.ctx n with
    buf := none
    lastClose := if (d.ctx n).buf.isSome then code else (d.ctx n).lastClose } := by
  cases hb : (d.ctx n).buf with
  | none => rw [Dev.closeBuf_none hb, if_neg (by simp), ← hb]
  | some b =>
    unfold Dev.closeBuf
    rw [if_pos (by simp)]
    dsimp only
    rw [hb]
    exact (Dev.ctx_ctxs ((Dev.post_ringsOut _ _ _).eq Dev.ctxs fun _ _ _ _ => rfl) n).trans (Dev.ctx_setCtx_self _ _ _)

theorem Dev.setCtxCells_ctxOut (d : Dev) (n cells : Nat) : d.CtxOut (d.setCtxCells n cells) := by
  unfold Dev.setCtxCells
  extract_lets c q
  have hnote : ∀ e : Dev, e.RingsOut e.sumpNote := fun e => rfl
  exact ((d.setCtx_ctxOut _ _).trans (Dev.RegsOut.rings (Dev.reportIf_only _ q.2 0 n).1).ctxOut).trans (hnote _).ctxOut

theorem Dev.ctx_setCtxCells (d : Dev) (n cells : Nat) : (d.setCtxCells n cells).ctx n = { d.ctx n with
    cells := cells
    overQuota := (quotaTrack (d.ctx n).overQuota cells (d.ctxQuota n)).1 } := by
  unfold Dev.setCtxCells
  extract_lets c q
  refine (Dev.ctx_ctxs ?_ n).trans (Dev.ctx_setCtx_self d n _)
  rw [Dev.sumpNote_ctxs, Dev.reportIf_ctxs]

theorem Dev.finish_ctxOut (d : Dev) (id : Nat) (o : CmdRes) : d.CtxOut (d.finish id o) := by
  unfold Dev.finish
  split
  · have h : d.CtxOut (d.dropRun id) := ⟨rfl, List.filter_subset_self _⟩
    exact h.trans (Dev.complete_ringsOut _ _ _).ctxOut
  · exact Dev.CtxOut.refl d

/-- The CTX_STOP command `r` ends ABORTED if it waits for context `n`. -/
def Dev.abortCtxStop (n : Nat) (d : Dev) (r : Running) : Dev :=
  match r.kind with
  | .ctxStop m _ => if m = n then d.finish r.id stAborted else d
  | _ => d

theorem Dev.abortCtxStop_or (d : Dev) (n : Nat) (r : Running) : d.abortCtxStop n r = d.finish r.id stAborted ∨ d.abortCtxStop n r = d := by
  unfold Dev.abortCtxStop
  split
  · split
    · exact .inl rfl
    · exact .inr rfl
  · exact .inr rfl

theorem Dev.abortStops_eq (d : Dev) (n : Nat) : d.abortStops n = d.running.foldl (Dev.abortCtxStop n) d := rfl

theorem Dev.foldl_abortCtxStop (l : List Running) (d : Dev) (n : Nat) :
    d.CtxOut (l.foldl (Dev.abortCtxStop n) d) ∧ (l.foldl (Dev.abortCtxStop n) d).ctxs = d.ctxs := by
  induction l generalizing d with
  | nil => exact ⟨Dev.CtxOut.refl d, rfl⟩
  | cons r t ih =>
    obtain ⟨hout, hctxs⟩ := ih (d.abortCtxStop n r)
    rw [List.foldl_cons]
    rcases d.abortCtxStop_or n r with h | h
    · rw [h] at hout hctxs ⊢
      exact ⟨(d.finish_ctxOut _ _).trans hout, hctxs.trans (d.finish_ctxs _ _)⟩
    · rw [h] at hout hctxs ⊢
      exact ⟨hout, hctxs⟩

theorem Dev.abortStops_ctxOut (d : Dev) (n : Nat) : d.CtxOut (d.abortStops n) := by
  rw [Dev.abortStops_eq]
  exact (Dev.foldl_abortCtxStop _ d n).1

theorem Dev.ctx_abortStops (d : Dev) (n k : Nat) : (d.abortStops n).ctx k = d.ctx k := by
  rw [Dev.abortStops_eq]
  exact Dev.ctx_ctxs (Dev.foldl_abortCtxStop _ d n).2 k

/-! ## ABORT of a context -/

/-- Context `n` without its records, its cells and its buffer. -/
def Dev.dropCtx (d : Dev) (n : Nat) : Dev := ((d.setCtx n { d.ctx n with waiting := [] }).setCtxCells n 0).closeBuf n 5

theorem Dev.ctxAbort_eq {d : Dev} {n : Nat} (h : (d.ctx n).state ≠ 0) :
    d.ctxAbort n = (d.dropCtx n).setCtx n ((d.dropCtx n).ctx n).stopped := by
  unfold Dev.ctxAbort
  exact if_neg h

theorem Dev.ctxAbort_of_stopped {d : Dev} {n : Nat} (h : (d.ctx n).state = 0) : d.ctxAbort n = d := by
  unfold Dev.ctxAbort
  exact if_pos h

theorem Dev.ctxAbort_ctxOut (d : Dev) (n : Nat) : d.CtxOut (d.ctxAbort n) := by
  by_cases h : (d.ctx n).state = 0
  · rw [Dev.ctxAbort_of_stopped h]
    exact Dev.CtxOut.refl d
  · rw [Dev.ctxAbort_eq h]
    exact (((d.setCtx_ctxOut _ _).trans (Dev.setCtxCells_ctxOut _ _ _)).trans (Dev.closeBuf_ctxOut _ _ _)).trans (Dev.setCtx_ctxOut _ _ _)

theorem Dev.ctx_ctxAbort_ne (d : Dev) {n m : Nat} (h : m ≠ n) : (d.ctxAbort n).ctx m = d.ctx m := by
  by_cases h0 : (d.ctx n).state = 0
  · rw [Dev.ctxAbort_of_stopped h0]
  · rw [Dev.ctxAbort_eq h0, Dev.ctx_setCtx_ne _ _ h, Dev.dropCtx, Dev.ctx_closeBuf_ne _ _ h, Dev.ctx_setCtxCells_ne _ _ h,
      Dev.ctx_setCtx_ne _ _ h]

/-- An aborted context: STOPPED, without records, cells or a buffer. -/
theorem Dev.ctx_ctxAbort (d : Dev) {n : Nat} (h : (d.ctx n).state ≠ 0) : ((d.ctxAbort n).ctx n).state = 0 ∧
    ((d.ctxAbort n).ctx n).waiting = [] ∧ ((d.ctxAbort n).ctx n).cells = 0 ∧ ((d.ctxAbort n).ctx n).buf = none ∧
    ((d.ctxAbort n).ctx n).draining = none := by
  rw [Dev.ctxAbort_eq h, Dev.ctx_setCtx_self, Dev.dropCtx, Dev.ctx_closeBuf, Dev.ctx_setCtxCells, Dev.ctx_setCtx_self]
  exact ⟨rfl, rfl, rfl, rfl, rfl⟩

theorem Dev.state_ctxAbort (d : Dev) (n : Nat) : ((d.ctxAbort n).ctx n).state = 0 := by
  by_cases h : (d.ctx n).state = 0
  · rw [Dev.ctxAbort_of_stopped h, h]
  · exact (d.ctx_ctxAbort h).1

theorem Dev.abortCmd_eq {d : Dev} (hm : d.modeIn allModes = true) (src : Src) (scope target sq : Nat) :
    d.abortCmd src scope target sq = (d.abort scope target sq).1.complete src (d.abort scope target sq).2.res := by
  unfold Dev.abortCmd
  exact if_neg (by simp [hm])

theorem Dev.notFound_plain (d : Dev) (src : Src) :
    d.Answered (d.complete src (AbortEnd.res ⟨1, 0⟩)) (d.ring src) (plainCpl src 3 1 0) := d.complete_plain src 3 1 0 (by decide)

theorem Dev.aborted_answered (d : Dev) (src : Src) (c : Nat) :
    d.Answered (d.complete src (AbortEnd.res ⟨0, c⟩)) (d.ring src) (cmdCpl src { c := c }) := by
  have h : AbortEnd.res ⟨0, c⟩ = { c := c } := rfl
  rw [h]
  exact d.complete_answered src _

theorem Dev.abort_context (d : Dev) (n : Nat) : d.abort 0 n 0 = d.abortContext n := if_pos rfl

theorem Dev.abort_ring (d : Dev) (n : Nat) : d.abort 1 n 0 = d.abortRing n := (if_neg (by decide)).trans (if_pos rfl)

/-! ## ABORT of a ring -/

/-- Context `c` ends with its ring. -/
def Dev.endCtx (d : Dev) (c : Nat) : Dev := (d.ctxAbort c).abortStops c

theorem Dev.endCtx_ctxOut (d : Dev) (c : Nat) : d.CtxOut (d.endCtx c) := (d.ctxAbort_ctxOut c).trans (Dev.abortStops_ctxOut _ c)

theorem Dev.state_endCtx (d : Dev) (c k : Nat) (h : k = c ∨ (d.ctx k).state = 0) : ((d.endCtx c).ctx k).state = 0 := by
  rw [Dev.endCtx, Dev.ctx_abortStops]
  by_cases hk : k = c
  · rw [hk, d.state_ctxAbort]
  · rw [d.ctx_ctxAbort_ne hk, h.resolve_left hk]

theorem Dev.foldl_endCtx (l : List Nat) (d : Dev) : d.CtxOut (l.foldl Dev.endCtx d) ∧
    ∀ k, k ∈ l ∨ (d.ctx k).state = 0 → ((l.foldl Dev.endCtx d).ctx k).state = 0 := by
  induction l generalizing d with
  | nil => exact ⟨Dev.CtxOut.refl d, fun k h => h.resolve_left (by simp)⟩
  | cons c t ih =>
    obtain ⟨hout, hstate⟩ := ih (d.endCtx c)
    refine ⟨(d.endCtx_ctxOut c).trans hout, fun k h => hstate k ?_⟩
    by_cases hk : k ∈ t
    · exact .inl hk
    · refine .inr (d.state_endCtx c k ?_)
      simpa [hk] using h

/-- The contexts that an abort of SQ `n` ends. -/
def Dev.ctxsOf (d : Dev) (n : Nat) : List Nat := (d.ctxs.filter (fun c => c.2.sq = some n ∧ c.2.state ≠ 0)).map (fun c => c.1)

theorem mem_of_spGet {β : Type} {dflt : Nat → β} {m : List (Nat × β)} {a : Nat} (h : spGet dflt m a ≠ dflt a) : (a, spGet dflt m a) ∈ m := by
  induction m with
  | nil => exact absurd rfl h
  | cons c t ih =>
    rw [spGet] at h ⊢
    by_cases hc : c.1 = a
    · rw [if_pos hc, ← hc]
      exact List.mem_cons_self
    · rw [if_neg hc] at h ⊢
      exact List.mem_cons_of_mem _ (ih h)

theorem Dev.mem_ctxsOf {d : Dev} {n k : Nat} (hs : (d.ctx k).sq = some n) (hst : (d.ctx k).state ≠ 0) : k ∈ d.ctxsOf n := by
  have hmem : (k, d.ctx k) ∈ d.ctxs := mem_of_spGet fun h => hst (by rw [Dev.ctx, h]; rfl)
  exact List.mem_map.2 ⟨_, List.mem_filter.2 ⟨hmem, by simp [hs, hst]⟩, rfl⟩

/-- The ring that an abort empties. -/
def Dev.closedSq (d : Dev) (n : Nat) : Dev := (d.sqEmpty n).setF (F.HST_SQ_CFG.EN n) 0

theorem Dev.abortRing_eq {d : Dev} {n : Nat} (h : d.f (F.HST_SQ_STATUS.STATE n) ≠ 0) (hr : ∀ r ∈ d.running, r.src.sq.val ≠ n) :
    ∃ c, d.abortRing n = (((d.ctxsOf n).foldl Dev.endCtx d).closedSq n, ⟨0, c⟩) := by
  unfold Dev.abortRing
  rw [if_neg h]
  extract_lets used own d1 d2 d3
  have h1 : d1 = (d.ctxsOf n).foldl Dev.endCtx d := rfl
  have h2 : d2 = d1 := by
    have hnone : d1.running.filter (fun r => r.src.sq.val = n) = [] := by
      refine List.filter_eq_nil_iff.2 fun r hmem => ?_
      simpa using hr r ((Dev.foldl_endCtx (d.ctxsOf n) d).1.2 (h1 ▸ hmem))
    unfold d2
    rw [hnone]
    rfl
  have h3 : d3 = d2.closedSq n := rfl
  exact ⟨_, by rw [h3, h2, h1]⟩

theorem sqErrBit_apart (n : Nat) (hn : n < 64) : R.HST_SQ_STATUS n ≠ (sqErrBit n).addr ∧ R.HST_SQ_CFG n ≠ (sqErrBit n).addr ∧
    R.HST_SQ_STATUS n ≠ R.HST_SQ_CFG n := by
  obtain ⟨-, -, h⟩ := sqErrBit_ok n
  rcases h with h | h <;> rw [h] <;> simp only [R.HST_SQ_STATUS, R.HST_SQ_CFG, R.HST_SQ_ERR_LO, R.HST_SQ_ERR_HI] <;> omega

theorem Dev.closedSq_sqs (d : Dev) (n : Nat) : (d.closedSq n).sqs = (d.setSq n { d.sq n with fetch := (d.sq n).tail, fetched := [] }).sqs := by
  rw [Dev.closedSq, Dev.sqEmpty, Dev.setF_sqs, Dev.setF_sqs, Dev.setF_sqs, Dev.setF_sqs]

theorem Dev.closedSq_ctxs (d : Dev) (n : Nat) : (d.closedSq n).ctxs = d.ctxs := by
  rw [Dev.closedSq, Dev.sqEmpty, Dev.setF_ctxs, Dev.setF_ctxs, Dev.setF_ctxs, Dev.setF_ctxs]
  rfl

theorem Dev.closedSq_fields (d : Dev) {n : Nat} (hn : n < 64) : (d.closedSq n).f (F.HST_SQ_CFG.EN n) = 0 ∧
    (d.closedSq n).f (F.HST_SQ_STATUS.STATE n) = 0 ∧ (d.closedSq n).f (sqErrBit n) = 0 ∧
    (d.closedSq n).f (F.HST_SQ_STATUS.HEAD n) = (d.sq n).tail % 65536 := by
  obtain ⟨hs, hc, hsc⟩ := sqErrBit_apart n hn
  obtain ⟨hlt, hlo, -⟩ := sqErrBit_ok n
  unfold Dev.closedSq Dev.sqEmpty
  extract_lets q d1
  refine ⟨?_, ?_, ?_, ?_⟩
  · rw [Dev.f_same _ _ _ _ _ (by decide) (by decide)]
    rfl
  · rw [Dev.f_other _ _ _ _ _ _ _ _ hsc, Dev.f_setF_ne _ _ _ _ hs, Dev.f_same _ _ _ _ _ (by decide) (by decide)]
    rfl
  · rw [Dev.f_setF_ne _ _ _ _ (Ne.symm hc), Dev.f_setF_self _ _ _ (by omega) hlt, Nat.zero_mod]
  · rw [Dev.f_other _ _ _ _ _ _ _ _ hsc, Dev.f_setF_ne _ _ _ _ hs, Dev.f_apart _ _ _ _ _ _ _ (by decide) (by decide) (by decide),
      Dev.f_same _ _ _ _ _ (by decide) (by decide)]
    rfl

/-- Settles O16: the abort of a context, then that of a ring as the abort of its contexts and the emptied ring. -/
theorem contextAndRingAborts : Obligations.ContextAndRingAborts := by
  refine ⟨fun s src n hm => ⟨fun h0 => ?_, fun h => ?_⟩, fun s src n hm => ⟨fun h0 => ?_, fun h hr => ?_⟩⟩
  · refine State.does (f := (·.abortCmd src 0 n 0)) rfl ?_
    rw [Dev.abortCmd_eq hm, Dev.abort_context, Dev.abortContext, if_pos h0]
    exact Dev.notFound_plain _ _
  · refine State.does (f := (·.abortCmd src 0 n 0)) rfl ?_
    rw [Dev.abortCmd_eq hm, Dev.abort_context, Dev.abortContext, if_neg h]
    obtain ⟨hst, hw, hc, hb, hd⟩ := s.dev.ctx_ctxAbort h
    have hout := s.dev.endCtx_ctxOut n
    refine ⟨s.dev.endCtx n, ?_, ?_, ?_, ?_, ?_, fun k hk => ?_, hout.eq Dev.ram fun _ _ _ _ _ _ => rfl,
      hout.eq Dev.supplies fun _ _ _ _ _ _ => rfl, hout.eq Dev.moves fun _ _ _ _ _ _ => rfl, Dev.aborted_answered _ src _⟩
    · rw [Dev.endCtx, Dev.ctx_abortStops, hst]
    · rw [Dev.endCtx, Dev.ctx_abortStops, hw]
    · rw [Dev.endCtx, Dev.ctx_abortStops, hc]
    · rw [Dev.endCtx, Dev.ctx_abortStops, hb]
    · rw [Dev.endCtx, Dev.ctx_abortStops, hd]
    · rw [Dev.endCtx, Dev.ctx_abortStops, s.dev.ctx_ctxAbort_ne hk]
  · refine State.does (f := (·.abortCmd src 1 n 0)) rfl ?_
    rw [Dev.abortCmd_eq hm, Dev.abort_ring, Dev.abortRing, if_pos h0]
    exact Dev.notFound_plain _ _
  · refine State.does (f := (·.abortCmd src 1 n 0)) rfl ?_
    obtain ⟨c, hc⟩ := Dev.abortRing_eq h fun r hmem he => hr r hmem (Fin.ext he)
    rw [Dev.abortCmd_eq hm, Dev.abort_ring, hc]
    dsimp only
    obtain ⟨hout, hstate⟩ := Dev.foldl_endCtx (s.dev.ctxsOf n) s.dev
    set g := (s.dev.ctxsOf n).foldl Dev.endCtx s.dev with hg
    have hsq : ∀ k, g.sq k = s.dev.sq k := Dev.sq_sqs (hout.eq Dev.sqs fun _ _ _ _ _ _ => rfl)
    obtain ⟨hen, hst, herr, hhead⟩ := g.closedSq_fields n.isLt
    refine ⟨g.closedSq n, fun k hk => ?_, ?_, fun k hk => ?_, hen, hst, herr, ?_, c, (g.closedSq n).aborted_answered src c⟩
    · rw [Dev.ctx_ctxs (g.closedSq_ctxs n)]
      refine hstate k ?_
      by_cases h0 : (s.dev.ctx k).state = 0
      · exact .inr h0
      · exact .inl (Dev.mem_ctxsOf hk h0)
    · rw [Dev.sq_sqs (g.closedSq_sqs n), Dev.sq_setSq, if_pos rfl, hsq]
    · rw [Dev.sq_sqs (g.closedSq_sqs n), Dev.sq_setSq, if_neg hk, hsq]
    · rw [hhead, hsq]

end Sys2Proof.Machine
end

section
/-! SUPPORT. Mode requests: their acceptance, refusal and completion (R446 to R449, R452). -/

namespace Sys2Proof.Machine

/-! ## What a change of the powered blocks touches -/

/-- `e` is `d` but for registers, requests, waiting vectors, and the state of channels, lanes, axis drivers and Sump. -/
def Dev.PowerOut (d e : Dev) : Prop :=
  e = { d with regs := e.regs, out := e.out, pba := e.pba, afeCh := e.afeCh, lanes := e.lanes, axes := e.axes, sump := e.sump }

theorem Dev.PowerOut.trans {d e g : Dev} (h : d.PowerOut e) (h' : e.PowerOut g) : d.PowerOut g := by
  rw [Dev.PowerOut] at *
  rw [h', h]

theorem Dev.PowerOut.refl (d : Dev) : d.PowerOut d := rfl

theorem Dev.PowerOut.eq {d e : Dev} (h : d.PowerOut e) {α : Type} (p : Dev → α) (hp : ∀ r o b c l a s,
    p { d with regs := r, out := o, pba := b, afeCh := c, lanes := l, axes := a, sump := s } = p d) : p e = p d := by
  rw [Dev.PowerOut] at h
  rw [h, hp]

theorem Dev.RegsOut.powerOut {d e : Dev} (h : d.RegsOut e) : d.PowerOut e := by
  rw [Dev.RegsOut] at h
  rw [Dev.PowerOut, h]

theorem Dev.setF_powerOut (d : Dev) (x : Fld) (v : Nat) : d.PowerOut (d.setF x v) := rfl
theorem Dev.PowerOut.setF {d e : Dev} (h : d.PowerOut e) (x : Fld) (v : Nat) : d.PowerOut (e.setF x v) := h.trans (e.setF_powerOut x v)
theorem Dev.PowerOut.setB {d e : Dev} (h : d.PowerOut e) (x : Fld) (v : Bool) : d.PowerOut (e.setB x v) := h.trans (e.setF_powerOut x _)
theorem Dev.setCh_powerOut (d : Dev) (g c : Nat) (x : AfeCh) : d.PowerOut (d.setCh g c x) := rfl
theorem Dev.setLane_powerOut (d : Dev) (g : Nat) (x : Lanes) : d.PowerOut (d.setLane g x) := rfl
theorem Dev.setAx_powerOut (d : Dev) (a : Nat) (x : Axis) : d.PowerOut (d.setAx a x) := rfl
theorem Dev.emit_powerOut (d : Dev) (o : Out) : d.PowerOut (d.emit o) := rfl

theorem Dev.foldl_powerOut {α : Type} {f : Dev → α → Dev} (hf : ∀ (d : Dev) x, d.PowerOut (f d x)) (l : List α) (d : Dev) :
    d.PowerOut (l.foldl f d) := by
  induction l generalizing d with
  | nil => rfl
  | cons x t ih => exact (hf d x).trans (ih _)

theorem Dev.setSource_powerOut (d : Dev) (g c s : Nat) : d.PowerOut (d.setSource g c s) := by
  unfold Dev.setSource
  extract_lets d1
  split
  · exact (d.setF_powerOut _ _).trans (Dev.setF_powerOut _ _ _)
  · exact d.setF_powerOut _ _

theorem Dev.powerDown_powerOut (d : Dev) (g c : Nat) : d.PowerOut (d.powerDown g c) := by
  have h : d.PowerOut (d.disconnect g c) := (d.setSource_powerOut g c 15).trans (Dev.setCh_powerOut _ _ _ _)
  exact ((h.trans (Dev.setCh_powerOut _ _ _ _)).trans (Dev.setF_powerOut _ _ _)).trans (Dev.setF_powerOut _ _ _)

theorem Dev.powerCh_powerOut (d : Dev) (g c : Nat) : d.PowerOut (d.powerCh g c) := by
  unfold Dev.powerCh
  extract_lets want
  split
  · exact (d.setCh_powerOut _ _ _).trans (Dev.setF_powerOut _ _ _)
  · split
    · exact d.powerDown_powerOut g c
    · rfl

theorem Dev.powerAll_powerOut (d : Dev) : d.PowerOut d.powerAll := Dev.foldl_powerOut (fun d i => d.powerCh_powerOut (i / 9) (i % 9)) _ d

theorem Dev.pllRefresh_powerOut (d : Dev) : d.PowerOut d.pllRefresh := Dev.foldl_powerOut (fun d _ => d.setF_powerOut _ _) _ d

theorem Dev.showLanes_powerOut (d : Dev) (g : Nat) : d.PowerOut (d.showLanes g) := by
  unfold Dev.showLanes
  extract_lets x d1 d2
  have h1 : d.PowerOut d1 := ((d.setF_powerOut _ _).trans (Dev.setF_powerOut _ _ _)).trans (Dev.setF_powerOut _ _ _)
  have h2 : d1.PowerOut d2 := d1.setF_powerOut _ _
  exact (h1.trans h2).trans (Dev.foldl_powerOut (fun d _ => (d.setF_powerOut _ _).trans (Dev.setF_powerOut _ _ _)) _ d2)

theorem Dev.lanesOff_powerOut (d : Dev) : d.PowerOut d.lanesOff :=
  Dev.foldl_powerOut (fun d g => (d.setLane_powerOut g _).trans (Dev.showLanes_powerOut _ g)) _ d

theorem Dev.setReg_powerOut (d : Dev) (a : Nat) (w : Word) : d.PowerOut (d.setReg a w) := rfl

theorem Dev.tstRefresh_powerOut (d : Dev) : d.PowerOut d.tstRefresh := by
  unfold Dev.tstRefresh
  extract_lets d1
  have h1 : d.PowerOut d1 := d.setF_powerOut _ _
  split
  · exact h1
  · exact (h1.trans (Dev.foldl_powerOut (fun d _ => d.setReg_powerOut _ _) _ _)).trans
      (Dev.foldl_powerOut (fun d _ => d.setReg_powerOut _ _) _ _)

theorem Dev.secRefresh_powerOut (d : Dev) : d.PowerOut d.secRefresh := by
  unfold Dev.secRefresh
  extract_lets o d1 d2 d3 d4 d5 d6
  have h : d.PowerOut d6 := by
    unfold d6 d5 d4 d3 d2 d1
    with_reducible repeat' first | exact Dev.PowerOut.refl _ | apply Dev.PowerOut.setF | apply Dev.PowerOut.setB
  exact h.trans d6.tstRefresh_powerOut

theorem Dev.coilPhase_powerOut (d : Dev) (a c : Nat) (p : CoilPhase) (name : String) : d.PowerOut (d.coilPhase a c p name) := by
  unfold Dev.coilPhase
  extract_lets x k
  split
  · rfl
  · exact (d.setAx_powerOut _ _).trans (Dev.emit_powerOut _ _)

theorem Dev.setPower_powerOut (d : Dev) (a : Nat) (p : Power) : d.PowerOut (d.setPower a p) := by
  unfold Dev.setPower
  extract_lets x d1 d2
  split
  · rfl
  · have h2 : d.PowerOut d2 := by
      unfold d2
      split
      · exact (d.setAx_powerOut _ _).trans (Dev.setF_powerOut _ _ _)
      · exact d.setAx_powerOut _ _
    clear_value d2
    cases p with
    | off => exact ((h2.trans (Dev.coilPhase_powerOut _ _ _ _ _)).trans (Dev.coilPhase_powerOut _ _ _ _ _)).trans (Dev.emit_powerOut _ _)
    | short => exact (h2.trans (Dev.coilPhase_powerOut _ _ _ _ _)).trans (Dev.coilPhase_powerOut _ _ _ _ _)
    | chop => exact ((h2.trans (Dev.coilPhase_powerOut _ _ _ _ _)).trans (Dev.coilPhase_powerOut _ _ _ _ _)).trans (Dev.emit_powerOut _ _)
    | stepDir => exact ((h2.trans (Dev.coilPhase_powerOut _ _ _ _ _)).trans (Dev.coilPhase_powerOut _ _ _ _ _)).trans (Dev.emit_powerOut _ _)

theorem Dev.floatPins_powerOut (d : Dev) : d.PowerOut d.floatPins := by
  unfold Dev.floatPins
  extract_lets d1
  have h : d.PowerOut d1 := Dev.foldl_powerOut (fun d a => d.setPower_powerOut a .off) _ d
  exact (h.trans (Dev.emit_powerOut _ _)).trans (Dev.emit_powerOut _ _)

/-! ## The pending request -/

theorem Dev.setMode_req (d : Dev) (m : Mode) : (d.setMode m).req = d.req := by
  unfold Dev.setMode
  extract_lets was d1 d2
  have h2 : d2.req = d.req := by
    unfold d2
    split
    · rfl
    · exact Dev.setF_req _ _ _
  split
  · exact h2
  · exact ((Dev.flag_regsOut _ _).eq Dev.req fun _ _ _ => rfl).trans h2

theorem Dev.sumpNote_powerOut (d : Dev) : d.PowerOut d.sumpNote := by
  unfold Dev.sumpNote
  extract_lets u
  exact ((Dev.PowerOut.refl d).setF F.SMP_POOL_STATUS.USED u).setF F.SMP_POOL_STATUS.PEAK _

theorem Dev.setHaulUse_powerOut (d : Dev) (use : Nat) : d.PowerOut (d.setHaulUse use) := by
  unfold Dev.setHaulUse
  extract_lets q
  clear_value q
  have h : d.PowerOut { d with sump := { d.sump with haul := use, overHaul := q.1 } } := rfl
  exact (h.trans (Dev.RegsOut.powerOut (Dev.reportIf_only _ q.2 3 0).1)).trans (Dev.sumpNote_powerOut _)

theorem Dev.enterDormant_req (d : Dev) : d.enterDormant.req = d.req := by
  unfold Dev.enterDormant
  extract_lets d1 d2 l d3
  have h2 : d2.req = d.req := (Dev.setHaulUse_powerOut _ 0).eq Dev.req fun _ _ _ _ _ _ _ => rfl
  refine (((d3.setMode .dormant).floatPins_powerOut.trans (Dev.emit_powerOut _ _)).eq Dev.req fun _ _ _ _ _ _ _ => rfl).trans ?_
  exact (d3.setMode_req _).trans h2

theorem Dev.acceptMode_req (d : Dev) (t : Mode) (b : Bool) : (d.acceptMode t b).req = some ⟨t, b⟩ := by
  unfold Dev.acceptMode
  extract_lets d1 d2 d3
  have h3 : d3.req = some ⟨t, b⟩ := rfl
  clear_value d3
  split
  · exact (d3.powerAll_powerOut.eq Dev.req fun _ _ _ _ _ _ _ => rfl).trans h3
  · exact h3

theorem Dev.modeDone_of_ready {d : Dev} {r : ModeReq} (hr : d.req = some r) (hrst : d.rst = none) (h : d.modeReady r = true) :
    d.modeDone.mode = r.target ∧ d.modeDone.req = none := by
  unfold Dev.modeDone
  split
  next hnone => exact absurd (hr.symm.trans hnone) nofun
  next r' hr' =>
  obtain rfl : r' = r := Option.some.inj (hr'.symm.trans hr)
  rw [if_neg (by simp [h, hrst])]
  extract_lets d1 d2 d3 l d4 d5 d6
  have h2 : d2.req = none := rfl
  clear_value d2
  have k := keepsMode_eq r'.target
  split
  · next ht => exact ⟨d2.enterDormant_mode.trans ht.symm, d2.enterDormant_req.trans h2⟩
  · have hm4 : d4.mode = r'.target := d2.setMode_mode r'.target
    have hr4 : d4.req = none := (d2.setMode_req r'.target).trans h2
    clear_value d4
    have h6 : d4.PowerOut d6 := by
      have h5 : d4.PowerOut d5 := d4.powerAll_powerOut.trans (Dev.pllRefresh_powerOut _)
      unfold d6
      split
      · exact h5
      · exact h5.trans d5.lanesOff_powerOut
    have h7 := h6.trans d6.secRefresh_powerOut
    exact ⟨(h7.eq Dev.mode fun _ _ _ _ _ _ _ => rfl).trans hm4, (h7.eq Dev.req fun _ _ _ _ _ _ _ => rfl).trans hr4⟩

theorem Dev.modeDone_of_not_ready {d : Dev} {r : ModeReq} (hr : d.req = some r) (h : d.modeReady r = false) : d.modeDone = d := by
  unfold Dev.modeDone
  rw [hr]
  exact if_pos (by simp [h])

theorem Dev.modeReady_standby {d : Dev} {r : ModeReq} (ht : r.target = .standby) (h : d.allStand = false ∨ d.gal.lines ≠ []) :
    d.modeReady r = false := by
  rw [Dev.modeReady, if_pos ht]
  rcases h with h | h
  · simp [h]
  · simp [h]

/-! ## MODE_REQ -/

/-- The codes of MODE_REQ. -/
def modeCodes : List (Nat × Mode) := [(1, .standby), (2, .calibrate), (3, .run), (4, .service), (5, .dormant)]

theorem Dev.modeReq_free {d : Dev} (hm : d.mode ≠ .dormant) (hrst : d.rst = none) (hreq : d.req = none) {v : Nat} {p : Nat × Mode}
    (hp : modeCodes.find? (fun q => q.1 = v) = some p) (rq : Req) : d.modeReq rq v =
      if d.mode = p.2 then (d.setF F.PWR_MODE_STATUS.TARGET v).setF F.PWR_MODE_STATUS.LAST_RESULT 0
      else if (d.setF F.PWR_MODE_STATUS.TARGET v).requestCode p.2 ≠ 0 then
        (d.setF F.PWR_MODE_STATUS.TARGET v).setF F.PWR_MODE_STATUS.LAST_RESULT ((d.setF F.PWR_MODE_STATUS.TARGET v).requestCode p.2)
      else (d.setF F.PWR_MODE_STATUS.TARGET v).acceptMode p.2 false := by
  unfold modeCodes at hp
  unfold Dev.modeReq
  rw [if_neg (by simp [hm, hrst]), if_neg (by simp [hreq])]
  dsimp only
  rw [hp]
  dsimp only
  rw [Dev.setF_mode]

theorem Dev.modeReq_pending {d : Dev} (hm : d.mode ≠ .dormant) (hrst : d.rst = none) (hreq : d.req ≠ none) (rq : Req) (v : Nat) :
    d.modeReq rq v = d.accessErr rq false .locked R.PWR_MODE_CTRL := by
  unfold Dev.modeReq
  rw [if_neg (by simp [hm, hrst]), if_pos (by simpa [Option.isSome_iff_ne_none] using hreq)]

theorem Dev.modeReq_deaf {d : Dev} (h : d.mode = .dormant ∨ d.rst ≠ none) (rq : Req) (v : Nat) : d.modeReq rq v = d := by
  unfold Dev.modeReq
  exact if_pos (by simpa [Option.isSome_iff_ne_none] using h)

theorem Dev.requestCode_lt (d : Dev) (t : Mode) : d.requestCode t < 16 := by
  unfold Dev.requestCode
  repeat' split
  all_goals decide

theorem Dev.pairListed_iff (d : Dev) (t : Mode) : d.pairListed t = true ↔
    (d.mode = .standby ∧ t ∈ [.calibrate, .run, .service, .dormant]) ∨
      (d.mode ∈ [.calibrate, .run, .service] ∧ t ∈ [.standby, .calibrate, .run, .service] ∧ d.mode ≠ t) := by
  unfold Dev.pairListed
  generalize d.mode = m
  cases m <;> cases t <;> decide

theorem Dev.requestCode_one_iff (d : Dev) (t : Mode) : d.requestCode t = 1 ↔ d.pairListed t = false := by
  unfold Dev.requestCode
  cases d.pairListed t
  · simp
  · simp only [Bool.not_true, Bool.false_eq_true, if_false, Bool.true_eq_false, iff_false]
    repeat' split
    all_goals decide

theorem Dev.requestCode_zero {d : Dev} {t : Mode} (h : d.requestCode t = 0) :
    ((t = .calibrate ∨ t = .run) → d.bar ≠ none) ∧ d.busyRuns = false ∧ (t = .dormant → d.allStand = true) := by
  unfold Dev.requestCode at h
  repeat' split at h
  all_goals first | omega | skip
  rename_i _ hbar hbusy hstand
  refine ⟨fun ht hb => hbar ⟨ht, by simp [hb]⟩, by simpa using hbusy, fun ht => ?_⟩
  simpa [ht] using hstand

/-- TARGET and LAST_RESULT after a request that does not go on. -/
theorem Dev.modeResult_shown (d : Dev) {v c : Nat} (hv : v < 8) (hc : c < 16) :
    ((d.setF F.PWR_MODE_STATUS.TARGET v).setF F.PWR_MODE_STATUS.LAST_RESULT c).f F.PWR_MODE_STATUS.TARGET = v ∧
    ((d.setF F.PWR_MODE_STATUS.TARGET v).setF F.PWR_MODE_STATUS.LAST_RESULT c).f F.PWR_MODE_STATUS.LAST_RESULT = c ∧
    d.Only ((d.setF F.PWR_MODE_STATUS.TARGET v).setF F.PWR_MODE_STATUS.LAST_RESULT c)
      [F.PWR_MODE_STATUS.TARGET, F.PWR_MODE_STATUS.LAST_RESULT] := by
  refine ⟨?_, ?_, ((Dev.Only.refl _ _).setF _ _ (by simp [Fld.within])).setF _ _ (by simp [Fld.within])⟩
  · rw [Dev.f_apart _ _ _ _ _ _ _ (by decide) (by decide) (by decide), Dev.f_same _ _ _ _ _ (by decide) (by decide)]
    exact Nat.mod_eq_of_lt hv
  · rw [Dev.f_same _ _ _ _ _ (by decide) (by decide)]
    exact Nat.mod_eq_of_lt hc

theorem Dev.acceptMode_dormant {d : Dev} (hm : d.mode = .standby) :
    d.acceptMode .dormant false = { d with req := some ⟨.dormant, false⟩ }.setF F.PWR_MODE_STATUS.PENDING 1 := by
  have hexit : d.exitActions = d := by
    unfold Dev.exitActions
    exact if_pos (by simp [hm])
  unfold Dev.acceptMode
  rw [hexit]
  dsimp only
  rw [if_neg (show ¬ Mode.dormant = .standby by decide)]
  refine if_neg ?_
  rw [Dev.feActive, Dev.setF_mode, Dev.setF_req, hm]
  simp

theorem Dev.acceptMode_dormant_shown {d : Dev} (hm : d.mode = .standby) : (d.acceptMode .dormant false).f F.PWR_MODE_STATUS.PENDING = 1 ∧
    (d.acceptMode .dormant false).f F.PWR_MODE_STATUS.TARGET = d.f F.PWR_MODE_STATUS.TARGET ∧
    { d with req := (d.acceptMode .dormant false).req }.Only (d.acceptMode .dormant false) [F.PWR_MODE_STATUS.PENDING] := by
  rw [Dev.acceptMode_req, Dev.acceptMode_dormant hm]
  have hf : { d with req := some ⟨.dormant, false⟩ }.f F.PWR_MODE_STATUS.TARGET = d.f F.PWR_MODE_STATUS.TARGET := rfl
  rw [← hf]
  generalize { d with req := some ⟨.dormant, false⟩ } = m
  refine ⟨?_, ?_, (Dev.Only.refl _ _).setF _ _ (by simp [Fld.within])⟩
  · rw [Dev.f_same _ _ _ _ _ (by decide) (by decide)]
    rfl
  · rw [Dev.f_apart _ _ _ _ _ _ _ (by decide) (by decide) (by decide)]

theorem Dev.setF_withReq (d : Dev) (x : Fld) (v : Nat) (r : Option ModeReq) :
    { d.setF x v with req := r } = { d with req := r }.setF x v := rfl

theorem Dev.allStand_setF (d : Dev) (x : Fld) (v : Nat) : (d.setF x v).allStand = d.allStand := by
  have h : (d.setF x v).stands = d.stands := funext fun a => by
    rw [Dev.stands, Dev.stands, Dev.ax, Dev.setF_axes, Dev.setF_moves, Dev.ax]
  rw [Dev.allStand, h, Dev.setF_moves, Dev.allStand]

theorem Dev.busyRuns_target (d : Dev) (v : Nat) : (d.setF F.PWR_MODE_STATUS.TARGET v).busyRuns = d.busyRuns := by
  unfold Dev.busyRuns
  rw [Dev.setF_running, Dev.on_eq, Dev.on_eq, Dev.f_other _ _ _ _ _ _ _ _ (by decide)]

theorem Dev.requestCode_dormant {d : Dev} (hm : d.mode = .standby) (hb : d.busyRuns = false) (hs : d.allStand = true) :
    d.requestCode .dormant = 0 := by
  have hl : d.pairListed .dormant = true := (d.pairListed_iff _).2 (.inl ⟨hm, by decide⟩)
  rw [Dev.requestCode, if_neg (by simp [hl]), if_neg (by simp), if_neg (by simp [hb]), if_neg (by simp [hs])]

theorem Dev.acceptMode_mode (d : Dev) (t : Mode) (b : Bool) : (d.acceptMode t b).mode = d.mode :=
  Dev.acceptMode_keepsMode (keepsMode_eq d.mode) d t b rfl

/-- Settles O19: the outcomes of a request by its code, the tables of pairs and reasons, acceptance and completion. -/
theorem modeRequests : Obligations.ModeRequests := by
  have hcodes : ∀ (s : State) (rq : Req), ∀ p ∈ [(Instr.modeReqStandby rq, 1, Mode.standby), (.modeReqCalibrate rq, 2, .calibrate),
      (.modeReqRun rq, 3, .run), (.modeReqService rq, 4, .service), (.modeReqDormant rq, 5, .dormant)],
      exec p.1 s = s.lift (·.modeReq rq p.2.1) ∧ modeCodes.find? (fun q => q.1 = p.2.1) = some p.2 ∧ p.2.1 < 8 := by
    intro s rq
    simp only [List.forall_mem_cons, List.forall_mem_nil]
    exact ⟨⟨rfl, rfl, by decide⟩, ⟨rfl, rfl, by decide⟩, ⟨rfl, rfl, by decide⟩, ⟨rfl, rfl, by decide⟩, ⟨rfl, rfl, by decide⟩, fun _ => nofun⟩
  refine ⟨fun s rq p hp => ?_, fun d t => ⟨?_, Dev.requestCode_zero⟩, fun s rq hrst hreq => ⟨fun hm hb hs => ?_, fun p hp hne hd h0 => ?_⟩,
    fun s => ⟨fun hr => State.ignores (f := (·.modeDone)) rfl (by unfold Dev.modeDone; rw [hr]), fun r hr => ⟨fun ht h => ?_, fun hrst h => ?_⟩⟩⟩
  · obtain ⟨hexec, hfind, hlt⟩ := hcodes s rq p hp
    refine ⟨fun hm hrst hreq => ⟨fun he => ?_, fun he hc => ?_⟩, fun hm hrst hreq hq h0 => ?_, fun h => ?_⟩
    · refine State.does hexec ?_
      rw [Dev.modeReq_free hm hrst hreq hfind, if_pos he]
      exact Dev.modeResult_shown _ hlt (by decide)
    · refine State.does hexec ?_
      rw [Dev.modeReq_free hm hrst hreq hfind, if_neg he, if_pos hc]
      exact Dev.modeResult_shown _ hlt (Dev.requestCode_lt _ _)
    · refine State.does hexec ?_
      rw [Dev.modeReq_pending hm hrst hreq]
      obtain ⟨honly, -, hkind, -, -, hoff⟩ := s.dev.accessErr_first rq false .locked R.PWR_MODE_CTRL hq h0
      exact ⟨honly, hkind, hoff.trans (Nat.mod_eq_of_lt (by decide))⟩
    · exact State.ignores hexec (Dev.modeReq_deaf h rq _)
  · rw [Dev.requestCode_one_iff, ← Dev.pairListed_iff, Bool.not_eq_true]
  · refine State.does (f := (·.modeReq rq 5)) rfl ?_
    have hm' : (s.dev.setF F.PWR_MODE_STATUS.TARGET 5).mode = .standby := (Dev.setF_mode _ _ _).trans hm
    have hc := Dev.requestCode_dormant hm' ((s.dev.busyRuns_target 5).trans hb) ((s.dev.allStand_setF _ _).trans hs)
    rw [Dev.modeReq_free (p := (5, .dormant)) (by simp [hm]) hrst hreq rfl, if_neg (by simp [hm]), if_neg (by simp [hc])]
    dsimp only
    obtain ⟨hp, ht, honly⟩ := Dev.acceptMode_dormant_shown hm'
    refine ⟨Dev.acceptMode_req _ _ _, hp, ?_, ?_⟩
    · rw [ht, Dev.f_same _ _ _ _ _ (by decide) (by decide)]
      rfl
    · rw [Dev.setF_withReq] at honly
      have h0 : { s.dev with req := ((s.dev.setF F.PWR_MODE_STATUS.TARGET 5).acceptMode .dormant false).req }.Only
          ({ s.dev with req := ((s.dev.setF F.PWR_MODE_STATUS.TARGET 5).acceptMode .dormant false).req }.setF F.PWR_MODE_STATUS.TARGET 5)
          [F.PWR_MODE_STATUS.TARGET] := (Dev.Only.refl _ _).setF _ _ (by simp [Fld.within])
      exact (h0.mono (by simp)).trans (honly.mono (by simp))
  · obtain ⟨hexec, hfind, -⟩ := hcodes s rq p (by simp only [List.mem_cons] at hp ⊢; tauto)
    refine State.does hexec ?_
    rw [Dev.modeReq_free hd hrst hreq hfind, if_neg hne, if_neg (by simp [h0])]
    exact ⟨Dev.acceptMode_req _ _ _, (Dev.acceptMode_mode _ _ _).trans (Dev.setF_mode _ _ _)⟩
  · exact State.ignores (f := (·.modeDone)) rfl (Dev.modeDone_of_not_ready hr (Dev.modeReady_standby ht h))
  · exact State.does (f := (·.modeDone)) rfl (Dev.modeDone_of_ready hr hrst h)

end Sys2Proof.Machine
end

section
/-! SUPPORT. Cairn's tick and settings, and the stamps of edges (R420, R423, R425, R444). -/

namespace Sys2Proof.Machine

/-! ## The tick of Cairn -/

theorem signed_bounds {n : Nat} (hn : 0 < n) (w : Nat) : -(2 ^ (n - 1) : Int) ≤ signed n w ∧ signed n w < 2 ^ (n - 1) := by
  obtain ⟨k, rfl⟩ : ∃ k, n = k + 1 := ⟨n - 1, by omega⟩
  have hp : (2 : Int) ^ (k + 1) = 2 * 2 ^ k := by rw [pow_succ, mul_comm]
  have hlt : w % 2 ^ (k + 1) < 2 * 2 ^ k := by
    rw [← Nat.pow_succ']
    exact Nat.mod_lt _ (Nat.two_pow_pos _)
  unfold signed
  extract_lets v
  rw [Nat.add_sub_cancel, hp]
  have hv : v < 2 * 2 ^ k := hlt
  clear_value v
  have hcast : ((2 ^ k : Nat) : Int) = 2 ^ k := by push_cast; rfl
  split <;> omega

theorem Dev.trim_bounds (d : Dev) : -2048 ≤ d.fi F.CRN_CTRL.TRIM ∧ d.fi F.CRN_CTRL.TRIM < 2048 := signed_bounds (n := 12) (by decide) _

/-- The parts of a number of 1/64 ns. -/
theorem divFloor_parts (f : Int) : divFloor f 64 * 64 + f % 64 = f ∧ 0 ≤ f % 64 ∧ f % 64 < 64 := by
  rw [divFloor, Int.fdiv_eq_ediv_of_nonneg _ (by decide)]
  omega

/-- The seconds, nanoseconds and fraction after a tick, with its carry: nothing is lost (R425). -/
theorem Dev.cairnTick_sum {d : Dev} (hns : d.time.crnNs < 1000000000) (hf : d.time.crnFrac < 64) (hsec : d.time.crnSec < 2 ^ 32) :
    d.cairnTick.time.crnNs < 1000000000 ∧ d.cairnTick.time.crnFrac < 64 ∧ d.cairnTick.time.crnSub = 0 ∧ ∃ carry, carry ≤ 1 ∧
      d.cairnTick.time.crnSec = (d.time.crnSec + carry) % 2 ^ 32 ∧
      ((carry * 1000000000 + d.cairnTick.time.crnNs : Nat) * 64 + d.cairnTick.time.crnFrac : Int) =
        (d.time.crnNs * 64 + d.time.crnFrac : Nat) + 30517 * 64 + 37 + d.fi F.CRN_CTRL.TRIM := by
  unfold Dev.cairnTick
  extract_lets t f ns carry
  obtain ⟨hlo, hhi⟩ := d.trim_bounds
  obtain ⟨hsum, h0, h64⟩ := divFloor_parts f
  have hfdef : f = (d.time.crnFrac : Int) + 37 + d.fi F.CRN_CTRL.TRIM := rfl
  have hnsdef : ns = ((d.time.crnNs : Int) + 30517 + divFloor f 64).toNat := rfl
  have hcdef : carry = decide (1000000000 ≤ ns) := rfl
  have hsec' : t.crnSec = d.time.crnSec := rfl
  clear_value carry ns f
  generalize divFloor f 64 = q at *
  dsimp only
  by_cases hc : 1000000000 ≤ ns
  · rw [hcdef, decide_eq_true hc]
    refine ⟨?_, by omega, rfl, 1, le_rfl, ?_, ?_⟩
    · rw [if_pos rfl]
      omega
    · rw [if_pos rfl, hsec']
    · rw [if_pos rfl]
      omega
  · rw [hcdef, decide_eq_false hc]
    refine ⟨?_, by omega, rfl, 0, by omega, ?_, ?_⟩
    · rw [if_neg (by decide)]
      omega
    · rw [if_neg (by decide), hsec', Nat.add_zero, Nat.mod_eq_of_lt hsec]
    · rw [if_neg (by decide)]
      omega

theorem Dev.cairnTick_eq (d : Dev) : d.cairnTick = { d with time := d.cairnTick.time } := rfl

theorem Dev.cairnLoad_eq (d : Dev) (sec ns : Nat) :
    d.cairnLoad sec ns = { d with time := (d.cairnLoad sec ns).time, slots := (d.cairnLoad sec ns).slots } ∧
    (d.cairnLoad sec ns).time = { d.time with crnSec := sec % 2 ^ 32, crnNs := ns, crnFrac := 0, crnSub := 0 } := ⟨rfl, rfl⟩

/-! ## Stamps of edges -/

/-- The bit of event `e` in EVT_NEW. -/
theorem bitOf_f_setF (d : Dev) (a hi e : Nat) (he : e ≤ hi) (hhi : hi < 32) (v : Nat) (hv : v = 1) :
    bitOf ((d.setF ⟨a, e, e⟩ v).f ⟨a, hi, 0⟩) e = true := by
  subst hv
  have h : (d.setF ⟨a, e, e⟩ 1).f ⟨a, e, e⟩ = 1 := by
    rw [Dev.f_same _ _ _ _ _ (by omega) (by omega), show e + 1 - e = 1 by omega]
    rfl
  have h1 : bitsOf (bitsOf ((d.setF ⟨a, e, e⟩ 1).reg a).toNat hi 0) e e = 1 := by
    refine Eq.trans ?_ h
    refine Nat.eq_of_testBit_eq fun i => ?_
    rw [Dev.f, testBit_bitsOf, testBit_bitsOf, testBit_bitsOf, Nat.zero_add]
    by_cases hi' : i < e + 1 - e
    · have hlt : e + i < hi + 1 - 0 := by omega
      rw [decide_eq_true hlt, Bool.true_and]
    · rw [decide_eq_false hi', Bool.false_and, Bool.false_and]
  rw [bitOf_bitsOf]
  exact decide_eq_true h1

/-- The registers that the stamp of event `e` writes. -/
def evtFields (e : Nat) : List Fld := [whole (R.TIM_EVT_TIME_LO e), whole (R.TIM_EVT_TIME_HI e), F.TIM_EVT_STATUS.EVT_NEW,
  F.TIM_STAMP_STATUS.FALLBACK_CNT, intBit (intBitOf R.TIM_EVT_STATUS)]

theorem Dev.stamped_only (d : Dev) (b n : Nat) : d.Only (d.stamped b n) [F.TIM_STAMP_STATUS.FALLBACK_CNT] := by
  unfold Dev.stamped
  exact Dev.Only.ite ((Dev.Only.refl _ _).count _ _ (by simp [Fld.within])) (Dev.Only.refl _ _)

theorem Dev.r64_set64 (d : Dev) (lo hi v : Nat) (h : lo ≠ hi) : (d.set64 lo hi v).r64 lo hi = v % 2 ^ 64 := by
  rw [Dev.r64, Dev.set64, Dev.reg_setReg_self, Dev.reg_setReg_ne _ _ h, Dev.reg_setReg_self, BitVec.toNat_ofNat, BitVec.toNat_ofNat]
  omega

theorem Dev.eventStamp_stamped (d : Dev) {e : Nat} (he : e ≤ 8) : bitOf ((d.eventStamp e).f F.TIM_EVT_STATUS.EVT_NEW) e = true ∧
    (d.eventStamp e).f (intBit (intBitOf R.TIM_EVT_STATUS)) = 1 ∧
    (d.eventStamp e).r64 (R.TIM_EVT_TIME_LO e) (R.TIM_EVT_TIME_HI e) = d.stampVal (d.f F.TIM_CFG.EDGE_BASE) % 2 ^ 64 ∧
    d.Only (d.eventStamp e) (evtFields e) := by
  have hlo : R.TIM_EVT_TIME_LO e ≠ R.TIM_EVT_STATUS ∧ R.TIM_EVT_TIME_LO e ≠ R.TOP_INT_STATUS ∧ R.TIM_EVT_TIME_LO e ≠ R.TIM_STAMP_STATUS := by
    simp only [R.TIM_EVT_TIME_LO, R.TIM_EVT_STATUS, R.TOP_INT_STATUS, R.TIM_STAMP_STATUS]
    omega
  have hhi : R.TIM_EVT_TIME_HI e ≠ R.TIM_EVT_STATUS ∧ R.TIM_EVT_TIME_HI e ≠ R.TOP_INT_STATUS ∧ R.TIM_EVT_TIME_HI e ≠ R.TIM_STAMP_STATUS := by
    simp only [R.TIM_EVT_TIME_HI, R.TIM_EVT_STATUS, R.TOP_INT_STATUS, R.TIM_STAMP_STATUS]
    omega
  have hne : R.TIM_EVT_TIME_LO e ≠ R.TIM_EVT_TIME_HI e := by
    simp only [R.TIM_EVT_TIME_LO, R.TIM_EVT_TIME_HI]
    omega
  unfold Dev.eventStamp
  extract_lets b d1
  have hst : ∀ a, a ≠ R.TIM_STAMP_STATUS →
      d1.reg a = (d.set64 (R.TIM_EVT_TIME_LO e) (R.TIM_EVT_TIME_HI e) (d.stampVal b)).reg a := fun a ha =>
    (Dev.stamped_only _ b 1).reg a (by simpa using ha.symm)
  have honly : d.Only d1 (evtFields e) := (((Dev.Only.refl d _).set64 _ _ _ (by simp [evtFields, Fld.within, whole])
    (by simp [evtFields, Fld.within, whole])).trans ((Dev.stamped_only _ b 1).mono (by simp [evtFields])))
  clear_value d1
  refine ⟨?_, Dev.f_irq_self _ _ (by decide), ?_, ?_⟩
  · rw [Dev.f_irq _ _ _ _ _ (by decide)]
    exact bitOf_f_setF d1 _ 8 e he (by decide) 1 rfl
  · rw [Dev.r64, Dev.reg_irq _ _ _ hlo.2.1, Dev.reg_irq _ _ _ hhi.2.1, Dev.reg_setF_ne _ _ _ hlo.1, Dev.reg_setF_ne _ _ _ hhi.1,
      hst _ hlo.2.2, hst _ hhi.2.2]
    exact Dev.r64_set64 d _ _ _ hne
  · refine (honly.setF _ _ ?_).irq _ ?_
    · refine ⟨by simp, Nat.lt_of_le_of_lt he (by decide), F.TIM_EVT_STATUS.EVT_NEW, by simp [evtFields], rfl, by simp, he⟩
    · refine ⟨by simp [intBit], by decide, intBit (intBitOf R.TIM_EVT_STATUS), by simp [evtFields], rfl, le_rfl, le_rfl⟩

theorem Dev.ppsEdge_stamps {d : Dev} (ha : d.alive = true) (h : d.timingMaster = false ∨ d.f F.TIM_CFG.NET_SRC ≠ 2) :
    d.ppsEdge = d.eventStamp 8 := by
  have honly := (d.eventStamp_stamped (e := 8) le_rfl).2.2.2
  have hm : (d.eventStamp 8).timingMaster = d.timingMaster := by
    rw [Dev.timingMaster, Dev.on_eq, Dev.timingMaster, Dev.on_eq, honly.f]
    simp only [evtFields, whole, intBit, List.forall_mem_cons]
    decide
  have hs : (d.eventStamp 8).f F.TIM_CFG.NET_SRC = d.f F.TIM_CFG.NET_SRC := by
    refine honly.f _ ?_
    simp only [evtFields, whole, intBit, List.forall_mem_cons]
    decide
  unfold Dev.ppsEdge
  rw [if_neg (by simp [ha])]
  refine if_neg ?_
  rw [hm, hs]
  simpa [Bool.and_eq_true, imp_iff_not_or] using h

/-- Settles O48: the tick's sum, the settings of Cairn, and the stamps of the edges. -/
theorem cairnAndStamps : Obligations.CairnAndStamps := by
  intro s
  refine ⟨fun hns hf hsec => ?_, fun ha => ⟨?_, fun k => ⟨fun hk => ?_, fun hk => ?_⟩⟩, fun ha => ⟨?_, ?_⟩, fun ha => ⟨?_, fun h => ?_⟩,
    fun n up => ⟨fun h => ?_, fun ha hd he => ?_⟩⟩
  · refine State.does (f := (·.cairnTick)) rfl ?_
    exact ⟨s.dev.cairnTick_eq, Dev.cairnTick_sum hns hf hsec⟩
  · refine State.does (f := fun d => if d.awake then d.cairnSetGo else d) rfl ?_
    rw [if_pos ha, Dev.cairnSetGo]
    obtain ⟨heq, htime⟩ := s.dev.cairnLoad_eq (s.dev.f F.CRN_SET_HI.VALUE) (bitsOf (s.dev.f F.CRN_SET_LO.VALUE) 29 0)
    have hsec : s.dev.f F.CRN_SET_HI.VALUE % 2 ^ 32 = s.dev.f F.CRN_SET_HI.VALUE := Nat.mod_eq_of_lt (s.dev.f_lt R.CRN_SET_HI 31 0)
    have hns : bitsOf (s.dev.f F.CRN_SET_LO.VALUE) 29 0 = s.dev.f F.CRN_SET_LO.VALUE % 2 ^ 30 := by
      rw [bitsOf, Nat.pow_zero, Nat.div_one]
    refine ⟨heq, htime.trans ?_⟩
    rw [hsec, hns]
  · refine State.ignores (f := fun d => if d.awake then d.cairnCopy k else d) rfl ?_
    rw [if_pos ha, Dev.cairnCopy, if_neg]
    rcases hk with rfl | rfl <;> decide
  · refine State.does (f := fun d => if d.awake then d.cairnCopy k else d) rfl ?_
    have hk' : k.val = 1 ∨ k.val = 2 := by rcases hk with rfl | rfl <;> decide
    rw [if_pos ha, Dev.cairnCopy, if_pos hk']
    exact s.dev.cairnLoad_eq _ _
  · exact State.ignores (f := (·.ppsEdge)) rfl (if_pos (by simp [ha]))
  · exact State.ignores (f := (·.ppsOut)) rfl (if_pos (by simp [ha]))
  · refine State.does (f := (·.ppsOut)) rfl ?_
    rw [Dev.ppsOut, if_neg (by simp [ha])]
    rfl
  · refine State.does (f := (·.ppsEdge)) rfl ?_
    rw [Dev.ppsEdge_stamps ha h]
    exact s.dev.eventStamp_stamped le_rfl
  · refine State.ignores (f := (·.tevEdge n up)) rfl (if_pos ?_)
    rcases h with h | h | h <;> simp [h]
  · refine State.does (f := (·.tevEdge n up)) rfl ?_
    rw [Dev.tevEdge, if_neg (by simp [ha, hd, he])]
    exact s.dev.eventStamp_stamped (by omega)

end Sys2Proof.Machine
end

section
/-! SUPPORT. The instructions of the test access port (R504 to R506). -/

namespace Sys2Proof.Machine

/-- The register that instruction `c` selects, with debug open for JTAG or not (Table 21.3). -/
def tapRegOf (c : Nat) (o : Bool) : TapReg :=
  if c = 0 ∨ c = 2 then .boundary
  else if c = 1 then .ident
  else if 0x80 ≤ c ∧ c ≤ 0xFE ∧ o then .debug
  else .bypass

theorem Dev.tapReg_eq (d : Dev) : d.tapReg = tapRegOf d.tap.ir d.debugOpen := rfl

/-- Cells `b` in the boundary register, and `l` shifted out. -/
def Dev.scanned (d : Dev) (l : List Out) (b : List Bool) : Dev := { d with tap := ⟨d.tap.ir, b⟩, out := d.out ++ l }

theorem Dev.jtag_valid {d : Dev} (h : d.railsValid = true) (f : Dev → Dev) : d.jtag f = f d := if_pos h

theorem Dev.jtag_invalid {d : Dev} (h : d.railsValid = false) (f : Dev → Dev) : d.jtag f = d := if_neg (by simp [h])

/-! ## Update-IR -/

theorem Dev.loadIr_drives (d : Dev) {c : Nat} (hc : c = 0 ∨ c = 4) :
    d.loadIr c = { d with tap := ⟨c, d.tap.boundary⟩, out := d.out ++ [.scanDrive d.tap.boundary] } := by
  unfold Dev.loadIr
  exact if_pos hc

theorem Dev.loadIr_floats (d : Dev) : d.loadIr 5 = { d with tap := ⟨5, d.tap.boundary⟩, out := d.out ++ [.scanFloat] } := by
  unfold Dev.loadIr
  exact (if_neg (by decide)).trans (if_pos rfl)

theorem takesPins_iff (c : Nat) : takesPins c = true ↔ c ∈ [0, 4, 5] := by simp [takesPins]

theorem Dev.loadIr_plain {d : Dev} {c : Nat} (hc : c ∉ [0, 4, 5]) (h : d.tap.ir ∉ [0, 4, 5]) :
    d.loadIr c = { d with tap := ⟨c, d.tap.boundary⟩ } := by
  simp only [List.mem_cons, List.not_mem_nil, or_false, not_or] at hc
  unfold Dev.loadIr
  refine (if_neg (by omega)).trans ((if_neg (by omega)).trans (if_neg ?_))
  rwa [takesPins_iff]

theorem Dev.loadIr_releases {d : Dev} {c : Nat} (hc : c ∉ [0, 4, 5]) (h : d.tap.ir ∈ [0, 4, 5]) :
    d.loadIr c = ({ d with tap := ⟨c, d.tap.boundary⟩ }.emit .scanRelease).flag F.TST_STATUS.BSCAN_TOOK_PINS := by
  simp only [List.mem_cons, List.not_mem_nil, or_false, not_or] at hc
  unfold Dev.loadIr
  refine (if_neg (by omega)).trans ((if_neg (by omega)).trans (if_pos ?_))
  rwa [takesPins_iff]

theorem Dev.loadIr_tap (d : Dev) (c : Nat) : (d.loadIr c).tap = ⟨c, d.tap.boundary⟩ := by
  unfold Dev.loadIr
  extract_lets was d1
  split
  · rfl
  · split
    · rfl
    · split
      · exact (Dev.flag_regsOut _ _).eq Dev.tap fun _ _ _ => rfl
      · rfl

theorem Dev.loadCells_scanned {d : Dev} (h : d.tap.ir ≠ 0) (cells : Option (List Bool)) :
    d.loadCells cells = d.scanned [] (cells.getD d.tap.boundary) := by
  unfold Dev.loadCells Dev.scanned
  rw [List.append_nil]
  cases cells with
  | none => rfl
  | some l => exact if_neg h

/-- The pins given back: what an instruction other than EXTEST, CLAMP and HIGHZ does after one of them (R506). -/
theorem Dev.released_scanned {d : Dev} {c : Nat} (hc : c ∉ [0, 4, 5]) (h : d.tap.ir ∈ [0, 4, 5]) (l : List Out) (b : List Bool) :
    ((d.loadIr c).scanned l b).tap = ⟨c, b⟩ ∧ ((d.loadIr c).scanned l b).tapReg = tapRegOf c d.debugOpen ∧
    ((d.loadIr c).scanned l b).f F.TST_STATUS.BSCAN_TOOK_PINS = 1 ∧
    (∃ m, ((d.loadIr c).scanned l b).out = d.out ++ .scanRelease :: (m ++ l)) ∧
    { d with tap := ((d.loadIr c).scanned l b).tap }.Only ((d.loadIr c).scanned l b) [F.TST_STATUS.BSCAN_TOOK_PINS, intBit 17] := by
  have htap : ((d.loadIr c).scanned l b).tap = ⟨c, b⟩ := by rw [Dev.scanned, Dev.loadIr_tap]
  have honly : { d with tap := ⟨c, d.tap.boundary⟩ }.Only (d.loadIr c) [F.TST_STATUS.BSCAN_TOOK_PINS, intBit 17] := by
    rw [Dev.loadIr_releases hc h]
    exact ((Dev.Only.refl _ _).emit _).flag _ (by simp [Fld.within]) (intBit_within (b := 17) rfl (by decide) (by simp))
  have hfield : ∀ x : Fld, (∀ y ∈ [F.TST_STATUS.BSCAN_TOOK_PINS, intBit 17], y.addr ≠ x.addr ∨ x.hi < y.lo ∨ y.hi < x.lo) →
      ((d.loadIr c).scanned l b).f x = d.f x := fun x hx => honly.f x hx
  have hopen : ((d.loadIr c).scanned l b).debugOpen = d.debugOpen := by
    rw [Dev.debugOpen, Dev.on_eq, hfield _ (by decide), hfield _ (by decide), Dev.debugOpen, Dev.on_eq]
  refine ⟨htap, by rw [Dev.tapReg_eq, htap, hopen], ?_, ?_, ?_⟩
  · have hflag : (d.loadIr c).f F.TST_STATUS.BSCAN_TOOK_PINS = 1 := by
      rw [Dev.loadIr_releases hc h]
      exact Dev.f_flag_same _ _ _ (by decide) (by decide)
    exact hflag
  · obtain ⟨m, hm, -⟩ := ({ d with tap := ⟨c, d.tap.boundary⟩ }.emit .scanRelease).flag_out F.TST_STATUS.BSCAN_TOOK_PINS
    refine ⟨m, ?_⟩
    rw [Dev.scanned, Dev.loadIr_releases hc h]
    dsimp only
    rw [hm]
    simp [Dev.emit]
  · obtain ⟨heq, hbits⟩ := honly
    refine ⟨?_, hbits⟩
    rw [htap, Dev.scanned, Dev.loadIr_tap]
    rw [heq]

theorem Dev.plain_scanned {d : Dev} {c : Nat} (hc : c ∉ [0, 4, 5]) (h : d.tap.ir ∉ [0, 4, 5]) (l : List Out) (b : List Bool) :
    ((d.loadIr c).scanned l b).tapReg = tapRegOf c d.debugOpen ∧
    (d.loadIr c).scanned l b = { d with tap := ⟨c, b⟩, out := d.out ++ l } := by
  rw [Dev.loadIr_plain hc h]
  exact ⟨rfl, rfl⟩

/-- What one of the instructions that leave the pins alone runs as. -/
def ScanRow (s : State) (i : Instr) (c : Nat) (b : List Bool) (r : TapReg) (l : List Out) : Prop :=
  (∃ f, exec i s = s.lift (·.jtag f) ∧ f s.dev = (s.dev.loadIr c).scanned l b) ∧ c ∉ [0, 4, 5] ∧ tapRegOf c s.dev.debugOpen = r

theorem ScanRow.does {s : State} {i : Instr} {c : Nat} {b : List Bool} {r : TapReg} {l : List Out} (h : ScanRow s i c b r l)
    (hv : s.dev.railsValid = true) :
    (s.dev.tap.ir ∉ [0, 4, 5] → s.Does i (fun e => e.tapReg = r ∧ e = { s.dev with tap := ⟨c, b⟩, out := s.dev.out ++ l })) ∧
    (s.dev.tap.ir ∈ [0, 4, 5] → s.Does i (fun e => e.tap = ⟨c, b⟩ ∧ e.tapReg = r ∧ e.f F.TST_STATUS.BSCAN_TOOK_PINS = 1 ∧
      (∃ m, e.out = s.dev.out ++ .scanRelease :: (m ++ l)) ∧
      { s.dev with tap := e.tap }.Only e [F.TST_STATUS.BSCAN_TOOK_PINS, intBit 17])) := by
  obtain ⟨⟨f, hexec, hf⟩, hc, rfl⟩ := h
  refine ⟨fun hir => State.does hexec ?_, fun hir => State.does hexec ?_⟩
  · dsimp only
    rw [Dev.jtag_valid hv, hf]
    exact Dev.plain_scanned hc hir l b
  · dsimp only
    rw [Dev.jtag_valid hv, hf]
    exact Dev.released_scanned hc hir l b

theorem Dev.scanned_nil (d : Dev) : d = d.scanned [] d.tap.boundary := by
  rw [Dev.scanned, List.append_nil]

theorem scanRow_loadIr {s : State} {i : Instr} {c : Nat} {r : TapReg} {f : Dev → Dev} (hexec : exec i s = s.lift (·.jtag f))
    (hf : f s.dev = s.dev.loadIr c) (hc : c ∉ [0, 4, 5]) (hr : tapRegOf c s.dev.debugOpen = r) :
    ScanRow s i c s.dev.tap.boundary r [] := by
  refine ⟨⟨f, hexec, ?_⟩, hc, hr⟩
  have h := (s.dev.loadIr c).scanned_nil
  rw [s.dev.loadIr_tap c] at h
  rw [hf]
  exact h

theorem scanRow_idcode (s : State) : ScanRow s .idcode 1 s.dev.tap.boundary .ident [.tdo 0xB860454F] := by
  refine ⟨⟨_, rfl, ?_⟩, by decide, rfl⟩
  rw [Dev.scanned, Dev.loadIr_tap]
  have h := s.dev.loadIr_tap 1
  rw [← h]
  rfl

theorem scanRow_sample (s : State) (pins : List Bool) (cells : Option (List Bool)) :
    ScanRow s (.samplePreload pins cells) 2 (cells.getD s.dev.tap.boundary) .boundary
      [.tdo (pins.foldr (fun b n => b2n b + 2 * n) 0)] := by
  refine ⟨⟨_, rfl, ?_⟩, by decide, rfl⟩
  have h := s.dev.loadIr_tap 2
  have htap : ((s.dev.loadIr 2).emit (.tdo (pins.foldr (fun b n => b2n b + 2 * n) 0))).tap = ⟨2, s.dev.tap.boundary⟩ := h
  rw [Dev.loadCells_scanned (by rw [htap]; simp), htap, Dev.scanned, Dev.scanned, List.append_nil, htap, h]
  rfl

theorem scanRow_debug (s : State) {code : Fin 256} (hlo : 0x80 ≤ code.val) (hhi : code.val ≤ 0xFE) :
    ScanRow s (.debugInstruction code) code s.dev.tap.boundary (if s.dev.debugOpen then .debug else .bypass) [] := by
  refine scanRow_loadIr rfl (if_pos ⟨hlo, hhi⟩) ?_ ?_
  · simp only [List.mem_cons, List.not_mem_nil, or_false, not_or]
    omega
  · unfold tapRegOf
    rw [if_neg (by omega), if_neg (by omega)]
    simp [hlo, hhi]

theorem scanRow_bypass (s : State) {other : Fin 256} (h : other.val = 3 ∨ (5 < other.val ∧ other.val < 0x80) ∨ other.val = 0xFF) :
    ScanRow s (.bypass other) other s.dev.tap.boundary .bypass [] := by
  have hcode : (if other.val ≤ 5 ∧ other.val ≠ 3 ∨ 0x80 ≤ other.val then 0xFF else other.val) = other.val := by
    split <;> omega
  refine scanRow_loadIr rfl (congrArg s.dev.loadIr hcode) ?_ ?_
  · simp only [List.mem_cons, List.not_mem_nil, or_false, not_or]
    omega
  · unfold tapRegOf
    rw [if_neg (by omega), if_neg (by omega), if_neg (by omega)]

theorem exec_jtag (s : State) (cells : Option (List Bool)) (pins : List Bool) (code : Fin 256) : ∀ i ∈ [Instr.extest cells, .idcode,
    .samplePreload pins cells, .clamp, .highz, .debugInstruction code, .bypass code, .testLogicReset],
    ∃ f, exec i s = s.lift (·.jtag f) := by
  simp only [List.forall_mem_cons, List.forall_mem_nil]
  exact ⟨⟨_, rfl⟩, ⟨_, rfl⟩, ⟨_, rfl⟩, ⟨_, rfl⟩, ⟨_, rfl⟩, ⟨_, rfl⟩, ⟨_, rfl⟩, ⟨_, rfl⟩, fun _ => nofun⟩

/-- Settles O56: nothing without the rails, then the instructions that take the pins and those that give them back. -/
theorem jtagInstructions : Obligations.JtagInstructions := by
  intro s
  refine ⟨fun hv cells pins code i hi => ?_, fun hv => ⟨fun cells => ?_, ?_, ?_, fun pins cells code other hlo hhi ho => ?_⟩⟩
  · obtain ⟨f, hexec⟩ := exec_jtag s cells pins code i hi
    exact State.ignores hexec (Dev.jtag_invalid hv f)
  · refine State.does (f := (·.jtag (fun d => (d.loadIr 0).loadCells cells))) rfl ?_
    dsimp only
    rw [Dev.jtag_valid hv, Dev.loadIr_drives _ (.inl rfl)]
    cases cells with
    | none => exact ⟨rfl, rfl⟩
    | some l => exact ⟨rfl, by simp [Dev.loadCells, Dev.emit]⟩
  · refine State.does (f := (·.jtag (·.loadIr 4))) rfl ?_
    dsimp only
    rw [Dev.jtag_valid hv, Dev.loadIr_drives _ (.inr rfl)]
    exact ⟨rfl, rfl⟩
  · refine State.does (f := (·.jtag (·.loadIr 5))) rfl ?_
    dsimp only
    rw [Dev.jtag_valid hv, Dev.loadIr_floats]
    exact ⟨rfl, rfl⟩
  · simp only [List.forall_mem_cons]
    exact ⟨(scanRow_idcode s).does hv, (scanRow_sample s pins cells).does hv, (scanRow_debug s hlo hhi).does hv,
      (scanRow_bypass s ho).does hv, (scanRow_loadIr (i := .testLogicReset) (c := 1) rfl rfl (by decide) rfl).does hv, fun _ => nofun⟩

end Sys2Proof.Machine
end

section
/-! SUPPORT. Reads and writes of registers and windows by address (R12 to R14, R302, R323, R451, R538, R541). -/

namespace Sys2Proof.Machine

/-! ## Addresses -/

/-- Registers lie below 0xD3000 (Table 23.1). -/
theorem lt_of_famOf {a : Nat} {f : RegFam} (h : famOf a = some f) : a < 0xD3000 := by
  by_contra hge
  have hn : famsAt a = [] := by
    unfold famsAt
    repeat rw [if_neg (by omega)]
  simp [famOf, hn] at h

theorem famOf_of_ge {a : Nat} (h : 0xD3000 ≤ a) : famOf a = none := by
  cases hf : famOf a with
  | none => rfl
  | some f => exact absurd (lt_of_famOf hf) (by omega)

theorem inWindow_iff (a base size : Nat) : inWindow a base size = true ↔ base ≤ a ∧ a < base + size := by simp [inWindow]

theorem bootReads_iff (a : Nat) : bootReads a = true ↔ (0x10000 ≤ a ∧ a < 0x11000) ∨
    a ∈ [R.TOP_ID, R.TOP_DSN_LO, R.TOP_DSN_HI, R.SEC_BOOT_STATUS, R.SEC_OTP_STATUS] := by
  simp [bootReads, inWindow_iff, or_assoc]

/-- The program memory of Haul lies in no other window. -/
theorem regionOf_program {a : Nat} (hlo : winHaul ≤ a) (hhi : a < winHaul + 0x4000) :
    famOf a = none ∧ i2cWin a = none ∧ hkcWin a = none ∧ regionOf a = .program := by
  rw [winHaul] at hlo hhi
  have hno : ∀ base size, base + size ≤ 0x100000 → inWindow a base size = false := fun base size h => by
    rw [← Bool.not_eq_true, inWindow_iff]
    omega
  refine ⟨famOf_of_ge (by omega), ?_, ?_, ?_⟩
  · simp [i2cWin, hno]
  · simp [hkcWin, hno]
  · rw [regionOf, if_pos]
    rw [inWindow_iff, winHaul]
    exact ⟨hlo, hhi⟩

/-! ## Shadows (R538) -/

/-- A requester's number in the keys of the shadows. -/
def reqKey : Req → Nat
  | .host => 0
  | .supervisor => 1
  | .haul c => 2 + c.val

theorem shadowKey_eq (rq : Req) (a : Nat) : shadowKey rq a = reqKey rq * 2 ^ 26 + a := by
  unfold shadowKey
  cases rq <;> simp only [reqKey]

theorem reqKey_inj {r q : Req} (h : reqKey r = reqKey q) : r = q := by
  cases r with
  | host => cases q with
    | host => rfl
    | supervisor => exact absurd h (by decide)
    | haul c => exact absurd h (by simp only [reqKey]; omega)
  | supervisor => cases q with
    | host => exact absurd h (by decide)
    | supervisor => rfl
    | haul c => exact absurd h (by simp only [reqKey]; omega)
  | haul b => cases q with
    | host => exact absurd h (by simp only [reqKey]; omega)
    | supervisor => exact absurd h (by simp only [reqKey]; omega)
    | haul c =>
      simp only [reqKey] at h
      exact congrArg Req.haul (Fin.ext (by omega))

theorem shadowKey_inj {r q : Req} {a b : Nat} (ha : a < 2 ^ 26) (hb : b < 2 ^ 26) (h : shadowKey r a = shadowKey q b) : r = q ∧ a = b := by
  rw [shadowKey_eq, shadowKey_eq] at h
  have hk : reqKey r = reqKey q := by omega
  exact ⟨reqKey_inj hk, by rw [hk] at h; omega⟩

theorem Dev.shadow_setShadow_self (d : Dev) (rq : Req) (a : Nat) {v : Nat} (hv : v < 2 ^ 32) : (d.setShadow rq a v).shadow rq a = v := by
  rw [Dev.shadow, Dev.setShadow, spGet_spSet_self, BitVec.toNat_ofNat, Nat.mod_eq_of_lt hv]

theorem Dev.shadow_setShadow_ne (d : Dev) {rq r : Req} {a x v : Nat} (h : shadowKey r x ≠ shadowKey rq a) :
    (d.setShadow rq a v).shadow r x = d.shadow r x := by
  rw [Dev.shadow, Dev.setShadow, spGet_spSet_ne _ _ h, Dev.shadow]

/-- The higher words of a group, copied into the shadows of requester `rq`. -/
def Dev.copyHighers (d e : Dev) (rq : Req) (a : Nat) (l : List Nat) : Dev := l.foldl (fun x o => x.setShadow rq (a + o) (d.view (a + o))) e

theorem Dev.copyHighers_eq (d e : Dev) (rq : Req) (a : Nat) (l : List Nat) :
    d.copyHighers e rq a l = { e with shadows := (d.copyHighers e rq a l).shadows } := by
  induction l generalizing e with
  | nil => rfl
  | cons o t ih => exact ih (e.setShadow rq (a + o) (d.view (a + o)))

theorem Dev.view_lt (d : Dev) (a : Nat) : d.view a < 2 ^ 32 := by
  unfold Dev.view
  split
  · decide
  · exact BitVec.isLt _

theorem Dev.shadow_copyHighers (d e : Dev) {rq : Req} {a : Nat} {l : List Nat} {o : Nat}
    (h : o ∈ l ∨ e.shadow rq (a + o) = d.view (a + o)) : (d.copyHighers e rq a l).shadow rq (a + o) = d.view (a + o) := by
  induction l generalizing e with
  | nil => exact h.resolve_left (by simp)
  | cons p t ih =>
    refine ih (e := e.setShadow rq (a + p) (d.view (a + p))) ?_
    by_cases hp : shadowKey rq (a + o) = shadowKey rq (a + p)
    · have hop : o = p := by
        rw [shadowKey_eq, shadowKey_eq] at hp
        omega
      exact .inr (by rw [hop, Dev.shadow_setShadow_self _ _ _ (d.view_lt _)])
    · rw [Dev.shadow_setShadow_ne _ hp]
      rcases h with h | h
      · rcases List.mem_cons.1 h with rfl | h
        · exact absurd rfl hp
        · exact .inl h
      · exact .inr h

theorem Dev.shadow_copyHighers_ne (d e : Dev) {rq r : Req} {a x : Nat} {l : List Nat} (h : ∀ o ∈ l, shadowKey r x ≠ shadowKey rq (a + o)) :
    (d.copyHighers e rq a l).shadow r x = e.shadow r x := by
  induction l generalizing e with
  | nil => rfl
  | cons p t ih =>
    exact (ih (e := e.setShadow rq (a + p) (d.view (a + p))) fun o ho => h o (List.mem_cons_of_mem _ ho)).trans
      (e.shadow_setShadow_ne (h p List.mem_cons_self))

theorem highersOf_le {b o : Nat} (h : o ∈ highersOf b) : o ≤ 16 := by
  have hall : ∀ g ∈ groups, ∀ o ∈ g.2, o ≤ 16 := by decide
  unfold highersOf at h
  cases hg : groups.find? (fun g => g.1 = b) with
  | none => simp [hg] at h
  | some g =>
    simp only [hg, Option.map_some, Option.getD_some] at h
    exact hall g (List.mem_of_find?_eq_some hg) o h

/-! ## Reads -/

theorem Dev.readReg_higher {d : Dev} {f : RegFam} (h : isHigher f.base = true) (rq : Req) (a : Nat) : d.readReg rq f a = (d.shadow rq a, d) := by
  unfold Dev.readReg
  exact if_pos h

/-- A register of the lowest word after a read: its RC fields clear (R13, R538). -/
theorem Dev.readReg_lowest {d : Dev} {f : RegFam} (h : isHigher f.base = false) (rq : Req) {a : Nat} (ha : a ≠ R.SMP_POOL_STATUS) :
    (d.readReg rq f a).1 = d.view a ∧
    (d.readReg rq f a).2 = { d with regs := (d.readReg rq f a).2.regs, shadows := (d.copyHighers d rq a (highersOf f.base)).shadows } ∧
    (d.readReg rq f a).2.reg a = d.reg a &&& ~~~ f.bits .rc ∧ ∀ b, b ≠ a → (d.readReg rq f a).2.reg b = d.reg b := by
  have hcopy := d.copyHighers_eq d rq a (highersOf f.base)
  unfold Dev.readReg
  rw [if_neg (by simp [h])]
  dsimp only
  rw [if_neg ha, show (highersOf f.base).foldl (fun (x : Dev) o => x.setShadow rq (a + o) (d.view (a + o))) d =
    d.copyHighers d rq a (highersOf f.base) from rfl]
  generalize d.copyHighers d rq a (highersOf f.base) = e at hcopy ⊢
  have hreg : ∀ b, e.reg b = d.reg b := fun b => by rw [hcopy]; rfl
  by_cases hrc : f.bits .rc = 0
  · rw [if_pos hrc]
    refine ⟨rfl, ?_, ?_, fun b _ => hreg b⟩
    · have hr : e.regs = d.regs := by rw [hcopy]
      rw [hr]
      exact hcopy
    · rw [hrc, hreg, show ~~~(0 : Word) = BitVec.allOnes 32 from rfl, BitVec.and_allOnes]
  · rw [if_neg hrc]
    refine ⟨rfl, ?_, ?_, fun b hb => ?_⟩
    · have hregs : ∀ r, { e with regs := r } = { d with regs := r, shadows := e.shadows } := fun r => by rw [hcopy]
      exact hregs _
    · rw [Dev.reg_setReg_self, hreg]
    · rw [Dev.reg_setReg_ne _ _ hb, hreg]

theorem Dev.answers_iff (d : Dev) : d.answers = true ↔ d.mode ≠ .dormant ∧ d.rst = none := by simp [Dev.answers]

theorem Dev.hostRead_deaf {d : Dev} (h : d.mode = .dormant ∨ d.rst ≠ none) (rq : Req) (addr : Nat) : d.hostRead rq addr = d := by
  unfold Dev.hostRead
  refine if_pos ?_
  rw [Bool.not_eq_true', ← Bool.not_eq_true, Dev.answers_iff]
  tauto

theorem Dev.hostRead_of_answers {d : Dev} (h : d.answers = true) (rq : Req) (addr : Nat) :
    d.hostRead rq addr = (d.readWord rq addr).2.emit (.readData (addr / 4 * 4) (d.readWord rq addr).1) := by
  unfold Dev.hostRead
  exact if_neg (by simp [h])

theorem Dev.readWord_boot {d : Dev} {addr : Nat} (hb : d.mode = .boot) (h : bootReads (addr / 4 * 4) = false) (rq : Req) :
    d.readWord rq addr = (0, d) := by
  unfold Dev.readWord
  exact if_pos (by simp [hb, h])

/-- What a read that is answered reads. -/
theorem Dev.readWord_open {d : Dev} {addr : Nat} (ha : d.answers = true) (h : d.mode ≠ .boot ∨ bootReads (addr / 4 * 4) = true) (rq : Req) :
    d.readWord rq addr = (match famOf (addr / 4 * 4) with
      | some f => d.readReg rq f (addr / 4 * 4)
      | none => d.readWindow rq (addr / 4 * 4)) := by
  unfold Dev.readWord
  refine if_neg ?_
  rcases h with h | h <;> simp [ha, h]

theorem Dev.readWindow_program {d : Dev} {a : Nat} (hlo : winHaul ≤ a) (hhi : a < winHaul + 0x4000) (rq : Req) :
    d.readWindow rq a = (d.mem a 4, d) := by
  obtain ⟨-, hi, hh, hr⟩ := regionOf_program hlo hhi
  unfold Dev.readWindow
  rw [hi, hh, hr]

theorem Dev.noTarget_eq {d : Dev} {rq : Req} (h : rq = .host ∨ rq = .supervisor) : d.noTarget rq = d := by
  rcases h with rfl | rfl <;> rfl

theorem Dev.readWindow_nothing {d : Dev} {a : Nat} (hi : i2cWin a = none) (hh : hkcWin a = none) (hr : regionOf a = .none) {rq : Req}
    (hq : rq = .host ∨ rq = .supervisor) : d.readWindow rq a = (0, d) := by
  unfold Dev.readWindow
  rw [hi, hh, hr]
  dsimp only
  rw [Dev.noTarget_eq hq]

/-- Settles O57: who answers, then higher words, lowest words, program memory and nothing. -/
theorem registerReads : Obligations.RegisterReads := by
  intro s rq addr a ha i hi
  have hexec : exec i s = s.lift (·.hostRead rq addr) := by
    simp only [List.mem_cons, List.not_mem_nil, or_false] at hi
    rcases hi with rfl | rfl <;> rfl
  subst ha
  refine ⟨fun h => State.ignores hexec (Dev.hostRead_deaf h rq addr), fun hm hrst => ?_⟩
  have hans : s.dev.answers = true := (Dev.answers_iff _).2 ⟨hm, hrst⟩
  refine ⟨fun hb hno hlist => ?_, fun hopen => ?_⟩
  · refine State.does hexec ?_
    have hbr : bootReads (addr / 4 * 4) = false := by
      rw [← Bool.not_eq_true, bootReads_iff]
      tauto
    rw [Dev.hostRead_of_answers hans, Dev.readWord_boot hb hbr]
    rfl
  · have hword := Dev.readWord_open hans (hopen.imp_right (bootReads_iff _).2) rq
    refine ⟨fun f hf hh => ?_, fun f hf hh hne => ?_, fun hlo hhi => ?_, fun hf hi2 hhk hr hq => ?_⟩
    · refine State.does hexec ?_
      rw [hf] at hword
      rw [Dev.hostRead_of_answers hans, hword]
      dsimp only
      rw [Dev.readReg_higher hh]
      rfl
    · refine State.does hexec ?_
      rw [hf] at hword
      obtain ⟨hval, heq, hreg, hother⟩ := Dev.readReg_lowest (d := s.dev) hh rq hne
      rw [Dev.hostRead_of_answers hans, hword]
      dsimp only
      rw [hval]
      generalize hx : s.dev.readReg rq f (addr / 4 * 4) = x at heq hreg hother
      have hlt := lt_of_famOf hf
      have hsh : x.2.shadows = (s.dev.copyHighers s.dev rq (addr / 4 * 4) (highersOf f.base)).shadows := by rw [heq]
      refine ⟨?_, hreg, hother, fun o ho => ?_, fun r y hy h => ?_⟩
      · rw [Dev.emit]
        conv_lhs => rw [heq]
        rw [← hsh]
      · rw [Dev.shadow, Dev.emit_shadows, hsh]
        exact s.dev.shadow_copyHighers s.dev (.inl ho)
      · rw [Dev.shadow, Dev.emit_shadows, hsh]
        refine s.dev.shadow_copyHighers_ne s.dev fun o ho hk => ?_
        obtain ⟨hr, hxo⟩ := shadowKey_inj hy (by have := highersOf_le ho; omega) hk
        exact h.elim (· hr) (fun h => h o ho hxo)
    · refine State.does hexec ?_
      rw [(regionOf_program hlo hhi).1] at hword
      rw [Dev.hostRead_of_answers hans, hword]
      dsimp only
      rw [Dev.readWindow_program hlo hhi]
      rfl
    · refine State.does hexec ?_
      rw [hf] at hword
      rw [Dev.hostRead_of_answers hans, hword]
      dsimp only
      rw [Dev.readWindow_nothing hi2 hhk hr hq]
      rfl

/-! ## Writes -/

theorem Dev.writeWord_deaf {d : Dev} {addr : Nat} (h : d.mode = .dormant ∨ d.rst ≠ none ∨
    (d.mode = .boot ∧ ¬ (0x10000 ≤ addr / 4 * 4 ∧ addr / 4 * 4 < 0x11000))) (rq : Req) (v : Word) (be : Nat) : d.writeWord rq addr v be = d := by
  unfold Dev.writeWord
  refine if_pos ?_
  rw [Bool.or_eq_true, Bool.and_eq_true, decide_eq_true_eq, Bool.not_eq_true', Bool.not_eq_true', ← Bool.not_eq_true, ← Bool.not_eq_true,
    Dev.answers_iff, inWindow_iff]
  tauto

/-- What a write of an awake device reaches. -/
theorem Dev.writeWord_awake {d : Dev} (ha : d.awake = true) (rq : Req) (addr : Nat) (v : Word) (be : Nat) :
    d.writeWord rq addr v be = (match famOf (addr / 4 * 4) with
      | some f => if be ≠ 15 then d.accessErr rq false .partialWrite (addr / 4 * 4) else d.writeReg rq f (addr / 4 * 4) v
      | none => d.writeWindow rq (addr / 4 * 4) v be) := by
  unfold Dev.writeWord
  refine if_neg ?_
  simp [Dev.answers_of_awake ha, ((Dev.awake_iff d).1 ha).1]

theorem Dev.writeWord_full {d : Dev} (ha : d.awake = true) {addr : Nat} {f : RegFam} (hf : famOf (addr / 4 * 4) = some f) (rq : Req) (v : Word) :
    d.writeWord rq addr v 15 = d.writeReg rq f (addr / 4 * 4) v := by
  rw [Dev.writeWord_awake ha, hf]
  exact if_neg (by decide)

/-- Does register `a` of a family at `b` take a write by its access types alone? -/
def plainRoute (b a : Nat) : Bool :=
  (decide (b < 0x12000) && !(a ∈ [R.TOP_INT_STATUS, R.TOP_INT_ENABLE, R.PWR_MODE_CTRL, R.PWR_RESET_CTRL, R.SEC_DBG_CTRL] : Bool)) ||
  (b ∈ [R.AXS_POS_SET_LO 0, R.AXS_POS_SET_HI 0, R.TIM_NET_SET_LO, R.TIM_NET_SET_HI, R.CRN_SET_LO, R.CRN_SET_HI, R.TET_ASYM 0] : Bool)

theorem Dev.writeTop_plain {d : Dev} {a : Nat} (h : a ∉ [R.TOP_INT_STATUS, R.TOP_INT_ENABLE, R.PWR_MODE_CTRL, R.PWR_RESET_CTRL, R.SEC_DBG_CTRL])
    (rq : Req) (v : Word) : d.writeTop rq a v = d.plainWrite a v := by
  simp only [List.mem_cons, List.not_mem_nil, or_false, not_or] at h
  obtain ⟨h1, h2, h3, h4, h5⟩ := h
  rw [Dev.writeTop, if_neg h1, if_neg h2, if_neg h3, if_neg h4, if_neg h5]

theorem Dev.writeReg_plain {f : RegFam} {a : Nat} (h : plainRoute f.base a = true) (d : Dev) (rq : Req) (v : Word) :
    d.writeReg rq f a v = d.plainWrite a v := by
  unfold Dev.writeReg
  extract_lets ix i j b
  simp only [plainRoute, Bool.or_eq_true, Bool.and_eq_true, decide_eq_true_eq, Bool.not_eq_true', decide_eq_false_iff_not] at h
  rcases h with ⟨hb, ha⟩ | hb
  · exact (if_pos hb).trans (Dev.writeTop_plain ha rq v)
  · simp only [List.mem_cons, List.not_mem_nil, or_false] at hb
    have hbb : b = f.base := rfl
    clear_value b i j ix
    rcases hb with hb | hb | hb | hb | hb | hb | hb <;> rw [← hbb] at hb <;> subst hb <;> rfl

/-- A family whose bits are all read-write. -/
def RegFam.allRw (f : RegFam) : Bool := decide (f.bits .rw = BitVec.allOnes 32 ∧ f.bits .w1c = 0 ∧ f.bits .w1s = 0)

/-- A family that a write does not change. -/
def RegFam.allRo (f : RegFam) : Bool := decide (f.bits .rw = 0 ∧ f.bits .w1c = 0 ∧ f.bits .w1s = 0)

theorem RegFam.store_of_allRw {f : RegFam} (h : f.allRw = true) (old v : Word) : f.store old v = v := by
  obtain ⟨hrw, hc, hs⟩ := of_decide_eq_true h
  rw [RegFam.store, hrw, hc, hs]
  ext i hi
  simp only [BitVec.getElem_or, BitVec.getElem_and, BitVec.getElem_not, BitVec.getElem_allOnes, BitVec.ofNat_eq_ofNat, BitVec.getElem_zero]
  simp

theorem RegFam.store_of_allRo {f : RegFam} (h : f.allRo = true) (old v : Word) : f.store old v = old := by
  obtain ⟨hrw, hc, hs⟩ := of_decide_eq_true h
  rw [RegFam.store, hrw, hc, hs]
  ext i hi
  simp only [BitVec.getElem_or, BitVec.getElem_and, BitVec.getElem_not, BitVec.getElem_allOnes, BitVec.ofNat_eq_ofNat, BitVec.getElem_zero]
  simp

theorem Dev.plainWrite_allRw {d : Dev} {a : Nat} {f : RegFam} (hf : famOf a = some f) (h : f.allRw = true) (v : Word) :
    d.plainWrite a v = { d with regs := (d.plainWrite a v).regs } ∧ (d.plainWrite a v).reg a = v ∧
    ∀ b, b ≠ a → (d.plainWrite a v).reg b = d.reg b := by
  refine ⟨d.plainWrite_eq_regs a v, ?_, fun b hb => d.reg_plainWrite_ne v hb⟩
  rw [Dev.plainWrite_of_famOf hf, Dev.reg_setReg_self, RegFam.store_of_allRw h]

theorem Dev.plainWrite_allRo {d : Dev} {a : Nat} {f : RegFam} (hf : famOf a = some f) (h : f.allRo = true) (v : Word) :
    d.plainWrite a v = { d with regs := (d.plainWrite a v).regs } ∧ ∀ b, (d.plainWrite a v).reg b = d.reg b := by
  refine ⟨d.plainWrite_eq_regs a v, fun b => ?_⟩
  rw [Dev.plainWrite_of_famOf hf, RegFam.store_of_allRo h, Dev.reg_setReg]
  split
  · next hb => rw [hb]
  · rfl

/-- The registers of 32 read-write bits that have no more to them. -/
theorem wholeRw_registers : ∀ a ∈ (List.range 36).map R.SEC_DBG_RESP ++ (List.range 6).flatMap (fun i => [R.AXS_POS_SET_LO i, R.AXS_POS_SET_HI i]) ++
    [R.TIM_NET_SET_LO, R.TIM_NET_SET_HI, R.CRN_SET_LO, R.CRN_SET_HI, R.TET_ASYM 0, R.TET_ASYM 1],
    (famOf a).any (fun f => f.allRw && plainRoute f.base a) = true := by
  decide +kernel

theorem readOnly_registers : ∀ a ∈ [R.TOP_ID, R.TOP_DSN_LO, R.TOP_DSN_HI, R.SEC_STORE_SEQ, R.PWR_DOM_STATUS 0] ++ (List.range 8).map R.SEC_ID_PUBKEY,
    (famOf a).any (fun f => f.allRo && plainRoute f.base a) = true := by
  decide +kernel

/-- The registers of an SQ's base. -/
theorem sqBase_registers : ∀ n : Fin 64, ∀ lo : Bool, (famOf (if lo then R.HST_SQ_BASE_LO n else R.HST_SQ_BASE_HI n)).any (fun f =>
    f.allRw && decide (f.base = if lo then R.HST_SQ_BASE_LO 0 else R.HST_SQ_BASE_HI 0) &&
    decide (((f.at (if lo then R.HST_SQ_BASE_LO n else R.HST_SQ_BASE_HI n)).getD []).getD 0 0 = n.val)) = true := by
  decide +kernel

theorem any_some {α : Type} {o : Option α} {p : α → Bool} (h : o.any p = true) : ∃ x, o = some x ∧ p x = true := by
  cases o with
  | none => exact absurd h (by simp)
  | some x => exact ⟨x, rfl, by simpa using h⟩

/-- A write of half of an SQ's base is that of a base (R302). -/
theorem Dev.writeReg_sqBase (d : Dev) (rq : Req) (n : Fin 64) (lo : Bool) (v : Word) :
    ∃ f, famOf (if lo then R.HST_SQ_BASE_LO n else R.HST_SQ_BASE_HI n) = some f ∧ f.allRw = true ∧
      d.writeReg rq f (if lo then R.HST_SQ_BASE_LO n else R.HST_SQ_BASE_HI n) v =
        d.baseWrite rq (F.HST_SQ_CFG.EN n) lo (if lo then R.HST_SQ_BASE_LO n else R.HST_SQ_BASE_HI n) v := by
  obtain ⟨f, hf, hp⟩ := any_some (sqBase_registers n lo)
  simp only [Bool.and_eq_true, decide_eq_true_eq] at hp
  obtain ⟨⟨hrw, hbase⟩, hidx⟩ := hp
  refine ⟨f, hf, hrw, ?_⟩
  unfold Dev.writeReg
  dsimp only
  rw [hidx, hbase]
  cases lo <;> rfl

/-! ## Bytes of a word -/

theorem byte_of_leNat (l : List Byte) {i : Nat} (h : i < l.length) : BitVec.ofNat 8 (leNat l / 256 ^ i) = l[i] := by
  induction l generalizing i with
  | nil => exact absurd h (Nat.not_lt_zero i)
  | cons b t ih =>
    have hb := b.isLt
    cases i with
    | zero =>
      refine BitVec.eq_of_toNat_eq ?_
      rw [BitVec.toNat_ofNat, leNat, Nat.pow_zero, Nat.div_one, List.getElem_cons_zero]
      omega
    | succ j =>
      have hdiv : leNat (b :: t) / 256 ^ (j + 1) = leNat t / 256 ^ j := by
        rw [leNat, Nat.pow_succ', ← Nat.div_div_eq_div_mul]
        congr 1
        omega
      rw [hdiv, ih (Nat.lt_of_succ_lt_succ h)]
      rfl

theorem Dev.getElem_bytes (d : Dev) (a n : Nat) {i : Nat} (h : i < (d.bytes a n).length) : (d.bytes a n)[i] = d.byte (a + i) := by
  induction n generalizing a i with
  | zero => exact absurd h (Nat.not_lt_zero i)
  | succ n ih =>
    cases i with
    | zero => rfl
    | succ j => exact (ih (a + 1) (Nat.lt_of_succ_lt_succ h)).trans (congrArg d.byte (by omega))

theorem leBytes_leNat (l : List Byte) : leBytes l.length (leNat l) = l := by
  induction l with
  | nil => rfl
  | cons b t ih =>
    have hb := b.isLt
    have hmod : BitVec.ofNat 8 (leNat (b :: t)) = b := BitVec.eq_of_toNat_eq (by rw [BitVec.toNat_ofNat, leNat]; omega)
    have hdiv : leNat (b :: t) / 256 = leNat t := by rw [leNat]; omega
    rw [List.length_cons, leBytes, hmod, hdiv, ih]

/-- The enabled bytes of a write of program memory, and the others. -/
theorem Dev.byte_mergeBytes (d : Dev) (a v be : Nat) {i : Nat} (hi : i < 4) : (d.setMem a 4 (mergeBytes (d.mem a 4) v be)).byte (a + i) =
    if bitOf be i then BitVec.ofNat 8 (v / 256 ^ i) else d.byte (a + i) := by
  unfold mergeBytes Dev.setMem
  generalize hl : (List.range 4).map (fun i => BitVec.ofNat 8 ((if bitOf be i then v else d.mem a 4) / 256 ^ i)) = l
  have hlen : l.length = 4 := by rw [← hl]; simp
  have hle := leBytes_leNat l
  rw [hlen] at hle
  rw [hle, Dev.byte_setBytes_in _ _ _ _ (by omega)]
  have hget : l[i]'(by omega) = BitVec.ofNat 8 ((if bitOf be i then v else d.mem a 4) / 256 ^ i) := by
    simp only [← hl, List.getElem_map, List.getElem_range]
  rw [hget]
  split
  · rfl
  · rw [Dev.mem, byte_of_leNat _ (by rw [Dev.bytes_length]; exact hi), Dev.getElem_bytes]

theorem Dev.writeWindow_program {d : Dev} {a : Nat} (hlo : winHaul ≤ a) (hhi : a < winHaul + 0x4000) (rq : Req) (v : Word) (be : Nat) :
    d.writeWindow rq a v be = d.setMem a 4 (mergeBytes (d.mem a 4) v.toNat be) := by
  obtain ⟨-, hi, hh, hr⟩ := regionOf_program hlo hhi
  unfold Dev.writeWindow
  rw [hi, hh, hr]
  rfl

theorem Dev.writeWindow_nothing {d : Dev} {a : Nat} (hi : i2cWin a = none) (hh : hkcWin a = none) (hr : regionOf a = .none) {rq : Req}
    (hq : rq = .host ∨ rq = .supervisor) (v : Word) (be : Nat) : d.writeWindow rq a v be = d := by
  unfold Dev.writeWindow
  rw [hi, hh, hr]
  exact Dev.noTarget_eq hq

/-- Settles O58: who takes a write, then partial writes, plain registers, bases, program memory and nothing. -/
theorem registerWrites : Obligations.RegisterWrites := by
  intro s rq addr a v be ha
  subst ha
  have hexec : exec (.registerWrite rq addr v be) s = s.lift (·.writeWord rq addr v be) := rfl
  refine ⟨fun h => State.ignores hexec (Dev.writeWord_deaf h rq v be), fun hw => ⟨fun hbe hf => ?_, fun hbe => ?_, fun hlo hhi => ?_,
    fun hf hi hh hr hq => ?_⟩⟩
  · obtain ⟨f, hf⟩ := Option.ne_none_iff_exists'.1 hf
    have hne : be.val ≠ 15 := fun h => hbe (Fin.ext h)
    have hword : s.dev.writeWord rq addr v be = s.dev.accessErr rq false .partialWrite (addr / 4 * 4) := by
      rw [Dev.writeWord_awake hw, hf]
      exact if_pos hne
    have hlt := lt_of_famOf hf
    refine ⟨fun he => State.does hexec ?_, fun c hc => State.does hexec ?_⟩
    · rw [hword]
      exact Dev.accessErr_discarded he _ (by omega)
    · dsimp only
      rw [hword, hc]
      rfl
  · subst hbe
    have hplain : ∀ {f : RegFam}, famOf (addr / 4 * 4) = some f → plainRoute f.base (addr / 4 * 4) = true →
        s.dev.writeWord rq addr v 15 = s.dev.plainWrite (addr / 4 * 4) v := fun hf hp =>
      (Dev.writeWord_full hw hf rq v).trans (Dev.writeReg_plain hp _ rq v)
    refine ⟨fun h => State.does hexec ?_, fun h => State.does hexec ?_, fun n h => ?_⟩
    · obtain ⟨f, hf, hp⟩ := any_some (wholeRw_registers _ h)
      rw [Bool.and_eq_true] at hp
      exact (hplain hf hp.2).symm ▸ Dev.plainWrite_allRw hf hp.1 v
    · obtain ⟨f, hf, hp⟩ := any_some (readOnly_registers _ h)
      rw [Bool.and_eq_true] at hp
      exact (hplain hf hp.2).symm ▸ Dev.plainWrite_allRo hf hp.1 v
    · obtain ⟨lo, hlo⟩ : ∃ lo : Bool, addr / 4 * 4 = if lo then R.HST_SQ_BASE_LO n else R.HST_SQ_BASE_HI n := by
        simp only [List.mem_cons, List.not_mem_nil, or_false] at h
        rcases h with h | h
        · exact ⟨true, h⟩
        · exact ⟨false, h⟩
      obtain ⟨f, hf, hrw, hwrite⟩ := s.dev.writeReg_sqBase rq n lo v
      rw [← hlo] at hf hwrite
      have hword : s.dev.writeWord rq addr v 15 = s.dev.baseWrite rq (F.HST_SQ_CFG.EN n) lo (addr / 4 * 4) v :=
        (Dev.writeWord_full hw hf rq v).trans hwrite
      have hlt := lt_of_famOf hf
      refine ⟨fun hen he => State.does hexec ?_, fun hen hal hv he => State.does hexec ?_, fun hen hv => State.does hexec ?_⟩
      · refine hword.symm ▸ ?_
        rw [Dev.baseWrite, if_pos (Dev.on_one hen)]
        exact Dev.accessErr_discarded he _ (by omega)
      · have hlo' : lo = true := by
          cases lo with
          | true => rfl
          | false => exact absurd (hlo.symm.trans hal) (by simp only [R.HST_SQ_BASE_LO, R.HST_SQ_BASE_HI]; simp)
        refine hword.symm ▸ ?_
        rw [Dev.baseWrite, if_neg (by simp [Dev.on_zero hen]), if_pos (by simp [hlo', hv])]
        exact Dev.accessErr_discarded he _ (by omega)
      · refine hword.symm ▸ ?_
        rw [Dev.baseWrite, if_neg (by simp [Dev.on_zero hen]), if_neg]
        · exact Dev.plainWrite_allRw hf hrw v
        · rintro hc
          simp only [Bool.and_eq_true, decide_eq_true_eq] at hc
          obtain ⟨rfl, hc⟩ := hc
          rcases hv with hv | hv
          · exact absurd (hlo.symm.trans hv) (by simp only [R.HST_SQ_BASE_LO, R.HST_SQ_BASE_HI]; simp)
          · exact hc hv
  · refine State.does hexec ?_
    have hword : s.dev.writeWord rq addr v be = s.dev.setMem (addr / 4 * 4) 4 (mergeBytes (s.dev.mem (addr / 4 * 4) 4) v.toNat be) := by
      rw [Dev.writeWord_awake hw, (regionOf_program hlo hhi).1]
      exact Dev.writeWindow_program hlo hhi rq v be
    refine hword.symm ▸ ⟨s.dev.setBytes_eq _ _, fun i hi => s.dev.byte_mergeBytes _ _ _ hi, fun b hb => s.dev.byte_setMem_out _ 4 _ hb⟩
  · refine State.ignores hexec ?_
    rw [Dev.writeWord_awake hw, hf]
    exact Dev.writeWindow_nothing hi hh hr hq v be

end Sys2Proof.Machine
end

section
/-! SUPPORT. The feed table of Flowstone: one entry learned bin by bin (R248, R251, R253). -/

namespace Sys2Proof.Machine

/-! ## A bin -/

theorem signed_unsigned_32 {x : Int} (h0 : -2147483648 ≤ x) (h1 : x ≤ 2147483647) : signed 32 (unsigned 32 x) = x := by
  unfold signed unsigned
  extract_lets v
  have hv : v = (x % 2 ^ 32).toNat % 2 ^ 32 := rfl
  clear_value v
  norm_num at hv ⊢
  split <;> omega

theorem Dev.bin_ram {d e : Dev} (h : e.ram = d.ram) (i : Nat) : e.bin i = d.bin i := by
  rw [Dev.bin, Dev.bin, Dev.mem_ram h]

theorem Dev.bin_setBin_self (d : Dev) (i : Nat) {x : Int} (h0 : -2147483648 ≤ x) (h1 : x ≤ 2147483647) :
    (d.setBin i x).bin i = x := by
  rw [Dev.bin, Dev.setBin, Dev.mem_setMem]
  refine Eq.trans ?_ (signed_unsigned_32 h0 h1)
  unfold signed
  rw [show (256 : Nat) ^ 4 = 2 ^ 32 by norm_num, Nat.mod_mod]

theorem Dev.bin_setBin_ne (d : Dev) {i j : Nat} (x : Int) (h : j ≠ i) : (d.setBin i x).bin j = d.bin j := by
  rw [Dev.bin, Dev.bin, Dev.mem, Dev.mem, Dev.setBin, Dev.bytes_congr fun c h1 h2 => d.byte_setMem_out _ _ _ (by omega)]

theorem Dev.setBin_eq (d : Dev) (i : Nat) (x : Int) : d.setBin i x = { d with ram := (d.setBin i x).ram } :=
  d.setBytes_eq _ _

/-! ## One bin of an entry, and all of them -/

/-- What one bin that the entry covers learns: leak, then the share of its coverage, within 32 bits (R248). -/
def learnLaw (leak q r fi : Int) (gain : Nat) (b : Int) : Int :=
  clampI (b - divFloor (b * leak + 32768) 65536 + divFloor (2 * gain * r * fi + q) (2 * q)) (-2147483648) 2147483647

theorem learnLaw_bounds (leak q r fi : Int) (gain : Nat) (b : Int) :
    -2147483648 ≤ learnLaw leak q r fi gain b ∧ learnLaw leak q r fi gain b ≤ 2147483647 := by
  unfold learnLaw clampI
  constructor <;> split <;> try split
  all_goals omega

/-- One bin's part of `Dev.learn`. -/
def Dev.learnBin (f : List Int) (leak q r : Int) (gain : Nat) (d : Dev) (i : Nat) : Dev :=
  if f.getD i 0 ≤ 0 then d
  else
    (d.setBin i (learnLaw leak q r (f.getD i 0) gain (d.bin i))).flagIf
      (decide (learnLaw leak q r (f.getD i 0) gain (d.bin i) = -2147483648) ||
        decide (learnLaw leak q r (f.getD i 0) gain (d.bin i) = 2147483647)) F.FLW_STATUS.BIN_SAT

theorem Dev.learn_eq (d : Dev) (c0 c1 e : Int) (gain : Nat) : d.learn c0 c1 e gain =
    (List.range 1024).foldl (Dev.learnBin (d.integral c0 c1).1 (d.f F.FLW_LEAK.LEAK) (d.integral c0 c1).2.1
      (e * 65536 - (d.integral c0 c1).2.2) gain) d := rfl

section
variable (f : List Int) (leak q r : Int) (gain : Nat)

theorem Dev.bin_learnBin_self (d : Dev) (i : Nat) : (Dev.learnBin f leak q r gain d i).bin i =
    if f.getD i 0 ≤ 0 then d.bin i else learnLaw leak q r (f.getD i 0) gain (d.bin i) := by
  unfold Dev.learnBin
  split
  case isTrue => rfl
  case isFalse =>
    obtain ⟨h0, h1⟩ := learnLaw_bounds leak q r (f.getD i 0) gain (d.bin i)
    rw [Dev.bin_ram (Dev.flagIf_ram _ _ _), Dev.bin_setBin_self d i h0 h1]

theorem Dev.byte_learnBin (d : Dev) (i : Nat) {a : Nat} (h : a < winFlow + 4 * i ∨ winFlow + 4 * i + 4 ≤ a) :
    (Dev.learnBin f leak q r gain d i).byte a = d.byte a := by
  unfold Dev.learnBin
  split
  case isTrue => rfl
  case isFalse => exact (congrArg (spGet ramDflt · a) (Dev.flagIf_ram _ _ _)).trans (d.byte_setMem_out _ _ _ h)

theorem Dev.bin_learnBin_ne (d : Dev) {i j : Nat} (h : j ≠ i) : (Dev.learnBin f leak q r gain d i).bin j = d.bin j := by
  rw [Dev.bin, Dev.bin, Dev.mem, Dev.mem, Dev.bytes_congr fun c h1 h2 => Dev.byte_learnBin f leak q r gain d i (by omega)]

theorem Dev.learnBin_only (d : Dev) (i : Nat) : { d with ram := (Dev.learnBin f leak q r gain d i).ram }.Only (Dev.learnBin f leak q r gain d i)
    [F.FLW_STATUS.BIN_SAT, intBit (intBitOf R.FLW_STATUS)] := by
  unfold Dev.learnBin
  split
  case isTrue => exact Dev.Only.refl _ _
  case isFalse =>
    rw [Dev.flagIf_ram, Dev.setBin_eq d i]
    exact (Dev.Only.refl _ _).flagIf _ _ (by simp [Fld.within]) (intBit_within rfl (by decide) (by simp))

/-- What learning the bins of a list without repeats does: each its law, nothing else. -/
theorem Dev.learnBins (l : List Nat) (hl : l.Nodup) (d : Dev) :
    { d with ram := (l.foldl (Dev.learnBin f leak q r gain) d).ram }.Only (l.foldl (Dev.learnBin f leak q r gain) d)
      [F.FLW_STATUS.BIN_SAT, intBit (intBitOf R.FLW_STATUS)] ∧
    (∀ a, (∀ i ∈ l, a < winFlow + 4 * i ∨ winFlow + 4 * i + 4 ≤ a) → (l.foldl (Dev.learnBin f leak q r gain) d).byte a = d.byte a) ∧
    (∀ j, (l.foldl (Dev.learnBin f leak q r gain) d).bin j = if j ∈ l then (if f.getD j 0 ≤ 0 then d.bin j else
      learnLaw leak q r (f.getD j 0) gain (d.bin j)) else d.bin j) := by
  induction l generalizing d with
  | nil => exact ⟨Dev.Only.refl _ _, fun _ _ => rfl, fun j => by simp⟩
  | cons i t ih =>
    obtain ⟨hi, ht⟩ := List.nodup_cons.mp hl
    obtain ⟨h1, h2, h3⟩ := ih ht (Dev.learnBin f leak q r gain d i)
    simp only [List.foldl_cons]
    generalize List.foldl (Dev.learnBin f leak q r gain) (Dev.learnBin f leak q r gain d i) t = e at h1 h2 h3 ⊢
    refine ⟨?_, ?_, ?_⟩
    · obtain ⟨g1, g2⟩ := Dev.learnBin_only f leak q r gain d i
      refine Dev.Only.trans (e := { Dev.learnBin f leak q r gain d i with ram := e.ram }) ⟨?_, g2⟩ h1
      rw [g1]
    · intro a ha
      rw [List.forall_mem_cons] at ha
      rw [h2 a ha.2, Dev.byte_learnBin f leak q r gain d i ha.1]
    · intro j
      rw [h3 j]
      by_cases hj : j = i
      · rw [hj, if_neg hi, if_pos List.mem_cons_self, Dev.bin_learnBin_self]
      · rw [Dev.bin_learnBin_ne f leak q r gain d hj]
        simp only [List.mem_cons, hj, false_or]

end

/-! ## An entry of the queue -/

theorem Dev.angle_setQueued (d : Dev) (l : List FlwEntry) (n : Nat) (c : Int) :
    ({ d with flw := { d.flw with queue := l } }.setF F.FLW_STATUS.QUEUED n).angle c = d.angle c := by
  unfold Dev.angle Dev.angleZero Dev.r64i Dev.r64
  rw [Dev.f_setF_ne _ _ _ _ (by decide), Dev.reg_setF_ne _ _ _ (by decide), Dev.reg_setF_ne _ _ _ (by decide)]
  rfl

theorem Dev.integral_setQueued (d : Dev) (l : List FlwEntry) (n : Nat) (c0 c1 : Int) :
    ({ d with flw := { d.flw with queue := l } }.setF F.FLW_STATUS.QUEUED n).integral c0 c1 = d.integral c0 c1 := by
  unfold Dev.integral
  rw [Dev.angle_setQueued, Dev.angle_setQueued]
  rfl

theorem Dev.bin_setQueued (d : Dev) (l : List FlwEntry) (n i : Nat) :
    ({ d with flw := { d.flw with queue := l } }.setF F.FLW_STATUS.QUEUED n).bin i = d.bin i := rfl

/-- A saturating count at its register field. -/
theorem Dev.f_count_self (d : Dev) (x : Fld) (n : Nat) (h : x.lo ≤ x.hi + 1) (h' : x.hi < 32) :
    (d.count x n).f x = min (d.f x + n) x.max := by
  refine (d.f_setF_self x _ h h').trans (Nat.mod_eq_of_lt (lt_of_le_of_lt (min_le_right _ _) ?_))
  exact Nat.sub_lt (Nat.two_pow_pos _) one_pos

/-- The device just before the bins of the front entry learn. -/
theorem Dev.flowEntry_of_cons {d : Dev} {x : FlwEntry} {t : List FlwEntry} (h : d.flw.queue = x :: t) :
    d.flowEntry = (({ d with flw := { d.flw with queue := t } }.setF F.FLW_STATUS.QUEUED t.length).learn x.c0 x.c1 x.e x.gain).count
      F.FLW_COUNT.ENTER_CNT 1 := by
  unfold Dev.flowEntry
  rw [h]

/-- Settles O36, by induction on the bins that the entry covers. -/
theorem flowstoneLearns : Obligations.FlowstoneLearns := by
  intro s
  refine ⟨fun h => ?_, fun x t hq => ?_, fun rq i v haw => ⟨fun hen hfr => ?_, fun hen => ?_⟩⟩
  · refine State.ignores (f := (·.flowEntry)) rfl ?_
    unfold Dev.flowEntry
    rw [h]
  · refine State.does (f := (·.flowEntry)) rfl ?_
    rw [Dev.flowEntry_of_cons hq]
    have hin := s.dev.integral_setQueued t t.length x.c0 x.c1
    have hb := fun j => s.dev.bin_setQueued t t.length j
    have hleak : ({ s.dev with flw := { s.dev.flw with queue := t } }.setF F.FLW_STATUS.QUEUED t.length).f F.FLW_LEAK.LEAK =
        s.dev.f F.FLW_LEAK.LEAK := Dev.f_setF_ne _ _ _ _ (by decide)
    have ho : { s.dev with flw := { s.dev.flw with queue := t } }.Only ({ s.dev with flw := { s.dev.flw with queue := t } }.setF
        F.FLW_STATUS.QUEUED t.length) [F.FLW_STATUS.QUEUED, F.FLW_STATUS.BIN_SAT, F.FLW_COUNT.ENTER_CNT, intBit (intBitOf R.FLW_STATUS)] :=
      (Dev.Only.refl _ _).setF _ _ (by simp [Fld.within])
    have hcnt0 : ({ s.dev with flw := { s.dev.flw with queue := t } }.setF F.FLW_STATUS.QUEUED t.length).f F.FLW_COUNT.ENTER_CNT =
        s.dev.f F.FLW_COUNT.ENTER_CNT := Dev.f_setF_ne _ _ _ _ (by decide)
    have hbyte : ∀ a, ({ s.dev with flw := { s.dev.flw with queue := t } }.setF F.FLW_STATUS.QUEUED t.length).byte a = s.dev.byte a :=
      fun _ => rfl
    generalize ({ s.dev with flw := { s.dev.flw with queue := t } }.setF F.FLW_STATUS.QUEUED t.length) = k at hin hb hleak ho hbyte hcnt0 ⊢
    rw [Dev.learn_eq, hin, hleak]
    obtain ⟨h1, h2, h3⟩ := Dev.learnBins (s.dev.integral x.c0 x.c1).1 (s.dev.f F.FLW_LEAK.LEAK) (s.dev.integral x.c0 x.c1).2.1
      (x.e * 65536 - (s.dev.integral x.c0 x.c1).2.2) x.gain (List.range 1024) List.nodup_range k
    generalize List.foldl _ k (List.range 1024) = e at h1 h2 h3 ⊢
    have hflw : e.flw = { s.dev.flw with queue := t } := (Dev.RegsOut.eq h1.1 Dev.flw fun _ _ _ => rfl).trans
      (Dev.RegsOut.eq ho.1 Dev.flw fun _ _ _ => rfl)
    have hcnt : e.f F.FLW_COUNT.ENTER_CNT = s.dev.f F.FLW_COUNT.ENTER_CNT := (h1.f _ (by decide)).trans hcnt0
    refine ⟨hflw, ?_, ?_, fun a ha => ?_, fun i f q iq b hi hbi => ?_⟩
    · rw [Dev.f_count_self _ _ _ (by decide) (by decide), hcnt]
      rfl
    · refine Dev.Only.count ?_ _ _ (by simp [Fld.within])
      obtain ⟨g1, g2⟩ := ho
      refine Dev.Only.trans (e := { k with ram := e.ram }) ⟨?_, g2⟩ (h1.mono (by simp))
      conv_lhs => rw [g1]
      change _ = { s.dev with
        flw := e.flw
        ram := e.ram
        regs := k.regs
        out := k.out
        pba := k.pba }
      rw [hflw]
    · exact (h2 a fun i hi => by have := List.mem_range.mp hi; omega).trans (hbyte a)
    · have := h3 i.val
      rw [if_pos (List.mem_range.mpr i.isLt), hb, hi] at this
      rw [hbi]
      exact this
  · refine State.does (f := fun d => if d.awake then d.binWrite rq i v else d) rfl ?_
    rw [if_pos haw]
    unfold Dev.binWrite
    rw [if_pos (Dev.on_one hen)]
    exact Dev.accessErr_discarded hfr _ (by unfold winFlow; omega)
  · refine State.does (f := fun d => if d.awake then d.binWrite rq i v else d) rfl ?_
    rw [if_pos haw]
    exact if_neg (by rw [Dev.on_zero hen]; decide)

end Sys2Proof.Machine
end

section
/-! SUPPORT. The debug unlock: the challenge, its answer, the lock and the ledger (R482, R489, R498). -/

namespace Sys2Proof.Machine

/-! ## Registers written one after the other -/

theorem Dev.reg_setRegs_ne (A : Nat → Nat) (W : Nat → Word) (l : List Nat) (d : Dev) {b : Nat} (h : ∀ n ∈ l, b ≠ A n) :
    (l.foldl (fun (d : Dev) n => d.setReg (A n) (W n)) d).reg b = d.reg b := by
  induction l generalizing d with
  | nil => rfl
  | cons n t ih =>
    rw [List.forall_mem_cons] at h
    rw [List.foldl_cons, ih _ h.2, Dev.reg_setReg_ne d (W n) h.1]

theorem Dev.reg_setRegs (A : Nat → Nat) (W : Nat → Word) (l : List Nat) (d : Dev) (hA : ∀ n m, A n = A m → n = m) {m : Nat} (h : m ∈ l) :
    (l.foldl (fun (d : Dev) n => d.setReg (A n) (W n)) d).reg (A m) = W m := by
  induction l generalizing d with
  | nil => cases h
  | cons n t ih =>
    rw [List.foldl_cons]
    by_cases ht : m ∈ t
    · exact ih _ ht
    · obtain rfl : m = n := (List.mem_cons.mp h).resolve_right ht
      rw [Dev.reg_setRegs_ne A W t _ fun k hk hc => ht (by rwa [hA _ _ hc]), Dev.reg_setReg_self]

theorem Dev.setRegs_eq (A : Nat → Nat) (W : Nat → Word) (l : List Nat) (d : Dev) :
    (l.foldl (fun (d : Dev) n => d.setReg (A n) (W n)) d) =
      { d with regs := (l.foldl (fun (d : Dev) n => d.setReg (A n) (W n)) d).regs } := by
  induction l generalizing d with
  | nil => rfl
  | cons n t ih => exact ih (d.setReg (A n) (W n))

theorem Dev.setRegs_only (A : Nat → Nat) (W : Nat → Word) (l : List Nat) (d : Dev) :
    d.Only (l.foldl (fun (d : Dev) n => d.setReg (A n) (W n)) d) (l.map fun n => whole (A n)) := by
  induction l generalizing d with
  | nil => exact Dev.Only.refl _ _
  | cons n t ih =>
    exact ((Dev.Only.refl d _).setReg (A n) (W n) (by simp [Fld.within, whole])).trans
      ((ih _).mono (List.subset_cons_self _ _))

/-! ## The challenge -/

theorem Dev.reg_setSec (d : Dev) (x : Sec) (a : Nat) : (d.setSec x).reg a = d.reg a := rfl
theorem Dev.sec_setSec (d : Dev) (x : Sec) : (d.setSec x).sec = x := rfl
theorem Dev.f_setSec (d : Dev) (x : Sec) (y : Fld) : (d.setSec x).f y = d.f y := rfl

theorem Dev.setChallenge_sec (d : Dev) (c : Option (List Byte)) : (d.setChallenge c).sec = { d.sec with challenge := c } :=
  congrArg (fun x : Sec => { x with challenge := c }) (congrArg Dev.sec (Dev.setRegs_eq R.SEC_DBG_CHAL _ (List.range 8) d))

theorem Dev.setChallenge_only (d : Dev) (c : Option (List Byte)) : { d with sec := { d.sec with challenge := c } }.Only (d.setChallenge c)
    (F.SEC_DBG_STATUS.CHAL_VALID :: (List.range 8).map (fun n => whole (R.SEC_DBG_CHAL n))) := by
  obtain ⟨h1, h2⟩ := ((Dev.setRegs_only R.SEC_DBG_CHAL (fun n => BitVec.ofNat 32 (bufNat (c.getD []) (4 * n) 4)) (List.range 8) d).mono
    (List.subset_cons_self F.SEC_DBG_STATUS.CHAL_VALID _)).setB F.SEC_DBG_STATUS.CHAL_VALID c.isSome (by simp [Fld.within])
  refine ⟨?_, h2⟩
  rw [Dev.setChallenge, h1]
  rfl

theorem R.secDbgChal_ne (n : Nat) : R.SEC_DBG_CHAL n ≠ R.SEC_DBG_STATUS := by
  unfold R.SEC_DBG_CHAL R.SEC_DBG_STATUS
  omega

theorem Dev.setChallenge_reg (d : Dev) (c : Option (List Byte)) {n : Nat} (h : n < 8) :
    ((d.setChallenge c).reg (R.SEC_DBG_CHAL n)).toNat = bufNat (c.getD []) (4 * n) 4 := by
  have hr : (d.setChallenge c).reg (R.SEC_DBG_CHAL n) = BitVec.ofNat 32 (bufNat (c.getD []) (4 * n) 4) := by
    rw [Dev.setChallenge, Dev.reg_setSec, Dev.setB, Dev.reg_setF_ne _ _ _ (R.secDbgChal_ne n)]
    exact Dev.reg_setRegs R.SEC_DBG_CHAL _ _ d (fun a b hab => by unfold R.SEC_DBG_CHAL at hab; omega) (List.mem_range.mpr h)
  have hlt := leNat_lt (((c.getD []).drop (4 * n)).take 4)
  rw [hr, BitVec.toNat_ofNat, Nat.mod_eq_of_lt]
  refine lt_of_lt_of_le hlt ?_
  exact (Nat.pow_le_pow_right (by decide) (List.length_take_le _ _)).trans (by decide)

theorem Dev.setChallenge_valid (d : Dev) (c : Option (List Byte)) : (d.setChallenge c).f F.SEC_DBG_STATUS.CHAL_VALID = c.isSome.toNat := by
  rw [Dev.setChallenge, Dev.f_setSec, Dev.setB, Dev.f_same _ _ _ _ _ (by decide) (by decide)]
  cases c <;> rfl

/-! ## What the lock shows -/

/-- The registers of a device after a command that writes registers alone. -/
def Dev.RegsTo (d e : Dev) : Prop := e = { d with regs := e.regs }

theorem Dev.RegsTo.trans {d e g : Dev} (h : d.RegsTo e) (h' : e.RegsTo g) : d.RegsTo g := by
  unfold Dev.RegsTo at *
  rw [h', h]

theorem Dev.RegsTo.refl (d : Dev) : d.RegsTo d := rfl

theorem Dev.RegsTo.eq {d e : Dev} (h : d.RegsTo e) {α : Type} (p : Dev → α) (hp : ∀ r, p { d with regs := r } = p d) : p e = p d := by
  rw [h, hp]

theorem Dev.RegsTo.setF {d e : Dev} (h : d.RegsTo e) (x : Fld) (v : Nat) : d.RegsTo (e.setF x v) := h.trans rfl
theorem Dev.RegsTo.setB {d e : Dev} (h : d.RegsTo e) (x : Fld) (v : Bool) : d.RegsTo (e.setB x v) := h.trans rfl

theorem Dev.tstActive_regsTo {d e : Dev} (h : d.RegsTo e) : e.tstActive = d.tstActive := by
  rw [h]
  rfl

theorem Dev.tstRefresh_regsTo (d : Dev) : d.RegsTo d.tstRefresh := by
  unfold Dev.tstRefresh
  extract_lets e
  split
  · exact rfl
  · exact Dev.RegsTo.trans (e := e) rfl (.trans (Dev.setRegs_eq _ _ _ _) (Dev.setRegs_eq _ _ _ _))

/-- The fields of the test selectors. -/
def tstFields : List Fld :=
  F.TST_STATUS.ACTIVE :: ((List.range 4).map (fun n => whole (R.TST_ATEST_SEL n)) ++ (List.range 8).map (fun n => whole (R.TST_DTEST_SEL n)))

theorem Dev.tstRefresh_only (d : Dev) : d.Only d.tstRefresh tstFields := by
  unfold Dev.tstRefresh
  extract_lets e
  have h : d.Only e tstFields := (Dev.Only.refl _ _).setB _ _ (by simp [Fld.within, tstFields])
  refine Dev.Only.ite h (h.trans (((Dev.setRegs_only _ _ _ e).mono ?_).trans ((Dev.setRegs_only _ _ _ _).mono ?_)))
  · exact List.subset_cons_of_subset _ (List.subset_append_left _ _)
  · exact List.subset_cons_of_subset _ (List.subset_append_right _ _)

/-- Closed test pins leave every selector at its reset value. -/
theorem Dev.tstRefresh_closed {d : Dev} (h : d.tstActive = false) : d.tstRefresh.f F.TST_STATUS.ACTIVE = 0 ∧
    (∀ n < 4, d.tstRefresh.reg (R.TST_ATEST_SEL n) = regReset (R.TST_ATEST_SEL n)) ∧
    ∀ n < 8, d.tstRefresh.reg (R.TST_DTEST_SEL n) = regReset (R.TST_DTEST_SEL n) := by
  have he : d.tstRefresh = (List.range 8).foldl (fun (d : Dev) n => d.setReg (R.TST_DTEST_SEL n) (regReset (R.TST_DTEST_SEL n)))
      ((List.range 4).foldl (fun (d : Dev) n => d.setReg (R.TST_ATEST_SEL n) (regReset (R.TST_ATEST_SEL n)))
        (d.setB F.TST_STATUS.ACTIVE d.tstActive)) :=
    if_neg (by rw [Dev.tstActive_regsTo (d := d) (.setB (.refl d) _ _), h]; decide)
  rw [he]
  refine ⟨?_, fun n hn => ?_, fun n hn => ?_⟩
  · refine ((Dev.setRegs_only _ _ _ _).f _ (by decide)).trans (((Dev.setRegs_only _ _ _ _).f _ (by decide)).trans ?_)
    rw [h, Dev.setB, Dev.f_same _ _ _ _ _ (by decide) (by decide)]
    rfl
  · rw [Dev.reg_setRegs_ne R.TST_DTEST_SEL _ _ _ fun k _ => by unfold R.TST_ATEST_SEL R.TST_DTEST_SEL; omega]
    exact Dev.reg_setRegs R.TST_ATEST_SEL _ _ _ (fun a b hab => by unfold R.TST_ATEST_SEL at hab; omega) (List.mem_range.mpr hn)
  · exact Dev.reg_setRegs R.TST_DTEST_SEL _ _ _ (fun a b hab => by unfold R.TST_DTEST_SEL at hab; omega) (List.mem_range.mpr hn)

/-- What a refresh of the security block shows of the debug lock, and the registers that it leaves. -/
theorem Dev.secRefresh_shows (d : Dev) : ∃ k, d.RegsTo k ∧ d.secRefresh = k.tstRefresh ∧
    k.f F.SEC_DBG_STATUS.UNLOCKED = b2n d.unlocked ∧ k.f F.SEC_DBG_STATUS.SCOPE = d.scope % 4 ∧
    k.f F.SEC_DBG_STATUS.CHAL_VALID = d.f F.SEC_DBG_STATUS.CHAL_VALID ∧ k.f F.SEC_DBG_STATUS.RESULT = d.f F.SEC_DBG_STATUS.RESULT ∧
    k.f F.SEC_DBG_STATUS.FAIL_CNT = d.f F.SEC_DBG_STATUS.FAIL_CNT := by
  unfold Dev.secRefresh
  extract_lets o d1 d2 d3 d4 d5 d6
  have r3 : d.RegsTo d3 := (((((((((((Dev.RegsTo.refl d).setB _ _).setB _ _).setB _ _).setB _ _).setB _ _).setB _ _).setF _ _)).setF _ _).setF _ _)
  have o3 : d.Only d3 [whole R.SEC_OTP_STATUS] := by
    have w (x : Fld) (h : x.addr = R.SEC_OTP_STATUS) (h1 : x.lo ≤ x.hi + 1) (h2 : x.hi < 32) : x.within [whole R.SEC_OTP_STATUS] :=
      ⟨h1, h2, whole R.SEC_OTP_STATUS, by simp, h.symm, Nat.zero_le _, Nat.le_of_lt_succ h2⟩
    refine Dev.Only.setF (Dev.Only.setF ?_ _ _ (w _ rfl (by decide) (by decide))) _ _ (w _ rfl (by decide) (by decide))
    refine Dev.Only.setF (Dev.Only.setB (Dev.Only.setB ?_ _ _ (w _ rfl (by decide) (by decide))) _ _ (w _ rfl (by decide) (by decide))) _ _
      (w _ rfl (by decide) (by decide))
    refine Dev.Only.setB (Dev.Only.setB ?_ _ _ (w _ rfl (by decide) (by decide))) _ _ (w _ rfl (by decide) (by decide))
    exact Dev.Only.setB ((Dev.Only.refl d _).setB _ _ (w _ rfl (by decide) (by decide))) _ _ (w _ rfl (by decide) (by decide))
  have o6 : d4.Only d6 [whole R.SEC_STORE_STATUS, whole R.SEC_STORE_SEQ] :=
    (((Dev.Only.refl d4 _).setB _ _ (by simp [Fld.within, whole])).setF _ _ (by simp [Fld.within, whole])).setF _ _
      (by simp [Fld.within, whole])
  have hu : d3.unlocked = d.unlocked := r3.eq Dev.unlocked fun _ => rfl
  have hs : d3.scope = d.scope := r3.eq Dev.scope fun _ => rfl
  have h4 : d4 = (d3.setB F.SEC_DBG_STATUS.UNLOCKED d3.unlocked).setF F.SEC_DBG_STATUS.SCOPE d3.scope := rfl
  have r4 : d.RegsTo d4 := (r3.setB _ _).setF _ _
  have r6 : d.RegsTo d6 := ((r4.setB _ _).setF _ _).setF _ _
  clear_value d6 d4 d3
  rw [hu, hs] at h4
  subst h4
  refine ⟨d6, r6, rfl, ?_, ?_, ?_, ?_, ?_⟩
  · rw [o6.f _ (by decide), Dev.f_apart _ _ _ _ _ _ _ (by decide) (by decide) (by decide), Dev.setB,
      Dev.f_same _ _ _ _ _ (by decide) (by decide)]
    cases d.unlocked <;> rfl
  · exact (o6.f _ (by decide)).trans (Dev.f_same _ _ _ _ _ (by decide) (by decide))
  all_goals rw [o6.f _ (by decide), Dev.f_apart _ _ _ _ _ _ _ (by decide) (by decide) (by decide), Dev.setB,
    Dev.f_apart _ _ _ _ _ _ _ (by decide) (by decide) (by decide), o3.f _ (by decide)]

theorem Dev.secRefresh_status (d : Dev) : d.RegsTo d.secRefresh ∧
    d.secRefresh.f F.SEC_DBG_STATUS.UNLOCKED = b2n d.unlocked ∧ d.secRefresh.f F.SEC_DBG_STATUS.SCOPE = d.scope % 4 ∧
    d.secRefresh.f F.SEC_DBG_STATUS.CHAL_VALID = d.f F.SEC_DBG_STATUS.CHAL_VALID ∧
    d.secRefresh.f F.SEC_DBG_STATUS.RESULT = d.f F.SEC_DBG_STATUS.RESULT ∧
    d.secRefresh.f F.SEC_DBG_STATUS.FAIL_CNT = d.f F.SEC_DBG_STATUS.FAIL_CNT := by
  obtain ⟨k, hk, he, h1, h2, h3, h4, h5⟩ := d.secRefresh_shows
  have ho := k.tstRefresh_only
  rw [he]
  exact ⟨hk.trans k.tstRefresh_regsTo, (ho.f _ (by decide)).trans h1, (ho.f _ (by decide)).trans h2, (ho.f _ (by decide)).trans h3,
    (ho.f _ (by decide)).trans h4, (ho.f _ (by decide)).trans h5⟩

/-- Under the lock the test pins are closed. -/
theorem Dev.secRefresh_locked {d : Dev} (h : d.unlocked = false) : d.secRefresh.f F.TST_STATUS.ACTIVE = 0 ∧
    (∀ n < 4, d.secRefresh.reg (R.TST_ATEST_SEL n) = regReset (R.TST_ATEST_SEL n)) ∧
    ∀ n < 8, d.secRefresh.reg (R.TST_DTEST_SEL n) = regReset (R.TST_DTEST_SEL n) := by
  obtain ⟨k, hk, he, -⟩ := d.secRefresh_shows
  rw [he]
  refine Dev.tstRefresh_closed ?_
  rw [Dev.tstActive_regsTo hk, Dev.tstActive, h]
  simp

/-! ## The answer -/

theorem ite_eq_other {p : Prop} [Decidable p] {n m r : Nat} (h : (if p then n else m) = r) (hn : n ≠ r) : ¬ p ∧ m = r := by
  by_cases hp : p
  · exact absurd ((if_pos hp).symm.trans h) hn
  · exact ⟨hp, (if_neg hp).symm.trans h⟩

/-- A response that is good passes every check. -/
theorem Dev.respCheck_one {d : Dev} {c : List Byte} (h : d.respCheck c = 1) : part d.response 16 32 = c ∧
    bufNat d.response 8 8 = d.r64 R.TOP_DSN_LO R.TOP_DSN_HI ∧ bufNat d.response 0 4 = 0x55445A4C ∧
    (bufNat d.response 4 1 = 0 → d.otp.anyActive = false) ∧ bufNat d.response 5 1 < 4 ∧
    sigOver (part d.response 48 32) (part d.response 0 80) (part d.response 80 64) = true := by
  unfold Dev.respCheck at h
  extract_lets b q key at h
  obtain ⟨h1, h⟩ := ite_eq_other h (by decide)
  obtain ⟨h2, h⟩ := ite_eq_other h (by decide)
  obtain ⟨h3, h⟩ := ite_eq_other h (by decide)
  obtain ⟨h4, h⟩ := ite_eq_other h (by decide)
  simp only [Bool.or_eq_true, decide_eq_true_eq, not_or, not_not, not_le] at h4
  refine ⟨not_not.mp h1, not_not.mp h2, h4.1.1, fun h0 => ?_, h4.1.2, ?_⟩
  · rw [if_pos h0] at h3
    simp only [Bool.not_eq_true', Bool.and_eq_false_iff, not_or, Bool.not_eq_false', Bool.not_eq_false] at h3
    simpa using h3.1
  · by_contra hs
    rw [if_neg hs] at h
    exact absurd h (by decide)

theorem Dev.respCheck_lt (d : Dev) (c : List Byte) : d.respCheck c < 16 := by
  unfold Dev.respCheck
  extract_lets b q key
  repeat' split
  all_goals decide

theorem Dev.chalReq_of_lt {d : Dev} (h : d.f F.SEC_DBG_STATUS.FAIL_CNT < 8) :
    d.chalReq = { d with free := d.free + 1 }.setChallenge (some (leBytes 32 (d.freeNat 256).1)) := by
  unfold Dev.chalReq
  exact if_neg (by omega)

theorem Dev.respGo_of_none {d : Dev} (h : d.sec.challenge = none) : d.respGo = d.setF F.SEC_DBG_STATUS.RESULT 2 := by
  unfold Dev.respGo
  rw [h]

theorem R.secDbgResp_ne (n : Nat) : R.SEC_DBG_RESP n ≠ R.SEC_DBG_STATUS ∧ ∀ m < 8, R.SEC_DBG_RESP n ≠ R.SEC_DBG_CHAL m := by
  unfold R.SEC_DBG_RESP R.SEC_DBG_STATUS R.SEC_DBG_CHAL
  exact ⟨by omega, fun m hm => by omega⟩

theorem Dev.response_shown (d : Dev) (c : Option (List Byte)) (r : Nat) :
    ((d.setChallenge c).setF F.SEC_DBG_STATUS.RESULT r).response = d.response := by
  unfold Dev.response
  refine congrArg (fun g : Nat → List Byte => (List.range 36).flatMap g) (funext fun n => congrArg (fun w : Word => leBytes 4 w.toNat) ?_)
  obtain ⟨h1, h2⟩ := R.secDbgResp_ne n
  refine (Dev.reg_setF_ne _ _ _ h1).trans ((d.setChallenge_only c).reg _ ?_)
  rw [List.forall_mem_cons, List.forall_mem_map]
  exact ⟨h1.symm, fun m hm => (h2 m (List.mem_range.mp hm)).symm⟩

/-- The device once the answer has used up the challenge. -/
def Dev.usedUp (d : Dev) (r : Nat) : Dev := (d.setChallenge none).setF F.SEC_DBG_STATUS.RESULT r

theorem Dev.respGo_of_some {d : Dev} {c : List Byte} (h : d.sec.challenge = some c) : d.respGo =
    if d.respCheck c = 1 then
      (((d.usedUp (d.respCheck c)).setF F.SEC_DBG_STATUS.FAIL_CNT 0).setSec { (d.usedUp (d.respCheck c)).sec with
        unlock := some (bufNat d.response 5 1) }).secRefresh
    else (d.usedUp (d.respCheck c)).setF F.SEC_DBG_STATUS.FAIL_CNT (min 8 ((d.usedUp (d.respCheck c)).f F.SEC_DBG_STATUS.FAIL_CNT + 1)) := by
  have hr : (d.usedUp (d.respCheck c)).response = d.response := d.response_shown _ _
  rw [← hr, Dev.respGo, h]
  rfl

theorem Dev.usedUp_facts (d : Dev) {r : Nat} (hr : r < 16) : (d.usedUp r).sec = { d.sec with challenge := none } ∧
    (d.usedUp r).f F.SEC_DBG_STATUS.RESULT = r ∧ (d.usedUp r).f F.SEC_DBG_STATUS.CHAL_VALID = 0 ∧
    (d.usedUp r).f F.SEC_DBG_STATUS.FAIL_CNT = d.f F.SEC_DBG_STATUS.FAIL_CNT ∧
    { d with sec := { d.sec with challenge := none } }.Only (d.usedUp r) (F.SEC_DBG_STATUS.CHAL_VALID :: F.SEC_DBG_STATUS.RESULT ::
      F.SEC_DBG_STATUS.FAIL_CNT :: (List.range 8).map (fun n => whole (R.SEC_DBG_CHAL n))) := by
  have hv := d.setChallenge_valid none
  have hf : (d.setChallenge none).f F.SEC_DBG_STATUS.FAIL_CNT = d.f F.SEC_DBG_STATUS.FAIL_CNT := (d.setChallenge_only none).f _ (by decide)
  have ho := d.setChallenge_only none
  have hs := d.setChallenge_sec none
  unfold Dev.usedUp
  generalize d.setChallenge none = k at hv hf ho hs ⊢
  refine ⟨hs, (Dev.f_same _ _ _ _ _ (by decide) (by decide)).trans (Nat.mod_eq_of_lt hr),
    (Dev.f_apart _ _ _ _ _ _ _ (by decide) (by decide) (by decide)).trans hv,
    (Dev.f_apart _ _ _ _ _ _ _ (by decide) (by decide) (by decide)).trans hf, ?_⟩
  refine (ho.mono ?_).setF _ _ (by simp [Fld.within])
  exact List.cons_subset_cons _ (List.subset_cons_of_subset _ (List.subset_cons_self _ _))

/-! ## The obligation -/

/-- Settles O54, with what a refresh shows and the checks of a response. -/
theorem debugUnlock : Obligations.DebugUnlock := by
  intro s
  refine ⟨fun ha => ⟨?_, ?_, ?_⟩, fun ha => ⟨fun h8 => ?_, fun h8 => ?_, fun hc => ?_, fun c r hc hr => ⟨fun h1 => ?_, fun h1 => ?_⟩, ?_⟩,
    fun hc => ?_, fun hc => ?_, fun hq => ?_, fun x t hq ht hl => ?_⟩
  · exact State.ignores (f := fun d => if d.awake then d.chalReq else d) rfl (if_neg (by rw [ha]; decide))
  · exact State.ignores (f := fun d => if d.awake then d.respGo else d) rfl (if_neg (by rw [ha]; decide))
  · exact State.ignores (f := fun d => if d.awake then d.lockNow else d) rfl (if_neg (by rw [ha]; decide))
  · refine State.does (f := fun d => if d.awake then d.chalReq else d) rfl ?_
    rw [if_pos ha, Dev.chalReq, if_pos h8]
    exact ⟨Dev.f_same _ _ _ _ _ (by decide) (by decide), (Dev.Only.refl _ _).setF _ _ (by simp [Fld.within])⟩
  · refine State.does (f := fun d => if d.awake then d.chalReq else d) rfl ?_
    rw [if_pos ha, Dev.chalReq_of_lt h8]
    refine ⟨leBytes 32 (s.dev.freeNat 256).1, Dev.setChallenge_sec _ _, leBytes_length _ _, Dev.setChallenge_valid _ _,
      fun n hn => Dev.setChallenge_reg _ _ hn, ?_⟩
    have ho := Dev.setChallenge_only { s.dev with free := s.dev.free + 1 } (some (leBytes 32 (s.dev.freeNat 256).1))
    rw [Dev.setChallenge_sec]
    exact ho
  · refine State.does (f := fun d => if d.awake then d.respGo else d) rfl ?_
    rw [if_pos ha, Dev.respGo_of_none hc]
    exact ⟨Dev.f_same _ _ _ _ _ (by decide) (by decide), (Dev.Only.refl _ _).setF _ _ (by simp [Fld.within])⟩
  · obtain ⟨p1, p2, p3, p4, p5, p6⟩ := Dev.respCheck_one (hr.symm.trans h1)
    refine ⟨p1, p2, p3, p4, p6, ?_⟩
    refine State.does (f := fun d => if d.awake then d.respGo else d) rfl ?_
    rw [if_pos ha, Dev.respGo_of_some hc, ← hr, if_pos h1, h1]
    obtain ⟨u1, u2, u3, -, -⟩ := s.dev.usedUp_facts (r := 1) (by decide)
    generalize s.dev.usedUp 1 = u at u1 u2 u3 ⊢
    rw [u1]
    obtain ⟨g0, g1, g2, g3, g4, g5⟩ := ((u.setF F.SEC_DBG_STATUS.FAIL_CNT 0).setSec { s.dev.sec with
      challenge := none
      unlock := some (bufNat s.dev.response 5 1) }).secRefresh_status
    refine ⟨(g0.eq Dev.sec fun _ => rfl).trans (Dev.sec_setSec _ _), ?_, ?_, ?_, ?_, fun hf => ?_⟩
    · rw [g4, Dev.f_setSec, Dev.f_apart _ _ _ _ _ _ _ (by decide) (by decide) (by decide), u2]
    · rw [g5, Dev.f_setSec, Dev.f_same _ _ _ _ _ (by decide) (by decide), Nat.zero_mod]
    · rw [g3, Dev.f_setSec, Dev.f_apart _ _ _ _ _ _ _ (by decide) (by decide) (by decide), u3]
    · rw [g1, Dev.unlocked, Dev.sec_setSec, Option.isSome_some, Bool.or_true]
      rfl
    · rw [g2, Dev.scope, Dev.otp, Dev.sec_setSec, if_pos (show s.dev.sec.otp.flag 1 = true from hf)]
      exact Nat.mod_eq_of_lt p5
  · refine State.does (f := fun d => if d.awake then d.respGo else d) rfl ?_
    rw [if_pos ha, Dev.respGo_of_some hc, ← hr, if_neg h1]
    obtain ⟨u1, u2, u3, u4, u5⟩ := s.dev.usedUp_facts (hr ▸ s.dev.respCheck_lt c : r < 16)
    generalize s.dev.usedUp r = u at u1 u2 u3 u4 u5 ⊢
    rw [u4]
    refine ⟨(Dev.setF_sec _ _ _).trans u1, ?_, ?_, ?_, ?_⟩
    · exact (Dev.f_apart _ _ _ _ _ _ _ (by decide) (by decide) (by decide)).trans u2
    · exact (Dev.f_same _ _ _ _ _ (by decide) (by decide)).trans (Nat.mod_eq_of_lt (by omega))
    · exact (Dev.f_apart _ _ _ _ _ _ _ (by decide) (by decide) (by decide)).trans u3
    · rw [Dev.setF_sec, u1]
      exact u5.setF _ _ (by simp [Fld.within])
  · refine State.does (f := fun d => if d.awake then d.lockNow else d) rfl ?_
    rw [if_pos ha]
    obtain ⟨g0, g1, g2, -⟩ := (s.dev.setSec { s.dev.sec with unlock := none }).secRefresh_status
    refine ⟨g0, fun hf => ?_⟩
    have hu : (s.dev.setSec { s.dev.sec with unlock := none }).unlocked = false := by
      rw [Dev.unlocked, show (s.dev.setSec { s.dev.sec with unlock := none }).otp.flag 1 = true from hf]
      rfl
    refine ⟨g1.trans (congrArg b2n hu), g2.trans ?_, Dev.secRefresh_locked hu⟩
    exact congrArg (· % 4) (if_pos hf)
  · exact State.ignores (f := fun d => if d.sec.challenge.isSome then d.setChallenge none else d) rfl (if_neg (by rw [hc]; decide))
  · refine State.does (f := fun d => if d.sec.challenge.isSome then d.setChallenge none else d) rfl ?_
    rw [if_pos (Option.isSome_iff_ne_none.mpr hc)]
    refine ⟨Dev.setChallenge_sec _ _, Dev.setChallenge_valid _ _, fun n hn => ?_, ?_⟩
    · exact BitVec.eq_of_toNat_eq ((Dev.setChallenge_reg s.dev none hn).trans (by simp [bufNat, leNat]))
    · rw [Dev.setChallenge_sec]
      exact Dev.setChallenge_only _ _
  · refine State.ignores (f := (·.ledgerWrite)) rfl ?_
    unfold Dev.ledgerWrite
    rw [hq]
  · refine State.does (f := (·.ledgerWrite)) rfl ?_
    unfold Dev.ledgerWrite
    rw [hq]
    refine ⟨rfl, ?_, ?_, ?_⟩
    · rw [Dev.f_other _ _ _ _ _ _ _ _ (by decide)]
      exact (Dev.f_same _ _ _ _ _ (by decide) (by decide)).trans (Nat.mod_eq_of_lt (by omega))
    · exact (Dev.f_same _ _ _ _ _ (by decide) (by decide)).trans (Nat.mod_eq_of_lt (by omega))
    · exact ((Dev.Only.refl _ _).setF _ _ (by simp [Fld.within])).setF _ _ (by simp [Fld.within])

end Sys2Proof.Machine
end

section
/-! SUPPORT. Scheduled actions: the free slot, the slot that is due first, and the PIN action (R426 to R429). -/

namespace Sys2Proof.Machine

/-! ## A slot in the list -/

theorem find_spIns_self {β : Type} (n : Nat) (v : β) (l : List (Nat × β)) (h : l.find? (fun c => c.1 = n) = none) :
    (spIns n v l).find? (fun c => c.1 = n) = some (n, v) := by
  induction l with
  | nil => simp [spIns]
  | cons c t ih =>
    obtain ⟨k, w⟩ := c
    rw [List.find?_cons] at h
    by_cases hk : k = n
    · rw [hk] at h
      simp at h
    · rw [decide_eq_false hk] at h
      unfold spIns
      split
      · simp
      · rw [List.find?_cons, decide_eq_false hk]
        exact ih h

theorem find_spIns_ne {β : Type} {n m : Nat} (hm : m ≠ n) (v : β) (l : List (Nat × β)) :
    (spIns n v l).find? (fun c => c.1 = m) = l.find? (fun c => c.1 = m) := by
  induction l with
  | nil => simp [spIns, hm.symm]
  | cons c t ih =>
    obtain ⟨k, w⟩ := c
    unfold spIns
    split
    · rw [List.find?_cons, decide_eq_false hm.symm]
    · rw [List.find?_cons, List.find?_cons, ih]

/-! ## The slot that acts -/

/-- One of two slots is not behind the other in ascending TIME and then ascending number. -/
def notBehind (a b : Nat × Slot) : Prop := a.2.time < b.2.time ∨ (a.2.time = b.2.time ∧ a.1 ≤ b.1)

/-- One of two slots acts before the other. -/
def actsFirst (a b : Nat × Slot) : Bool := decide (a.2.time < b.2.time ∨ (a.2.time = b.2.time ∧ a.1 < b.1))

theorem Dev.dueSlot_none {d : Dev} (h : ∀ c ∈ d.slots, d.slotBase c.2.base < c.2.time) : d.dueSlot = none := by
  unfold Dev.dueSlot
  rw [List.filter_eq_nil_iff.mpr fun c hc => by simpa using h c hc]
  rfl

theorem Dev.dueSlot_spec {d : Dev} {b : Nat × Slot} (h : d.dueSlot = some b) :
    (b ∈ d.slots ∧ b.2.time ≤ d.slotBase b.2.base) ∧ ∀ c ∈ d.slots, c.2.time ≤ d.slotBase c.2.base → notBehind b c := by
  obtain ⟨hmem, -, hall⟩ := foldl_best (before := actsFirst) (Le := notBehind) (fun _ => rfl)
    (fun m n => by simp only [actsFirst, decide_eq_true_eq])
    (fun n => .inr ⟨rfl, le_rfl⟩)
    (fun a b c hab hbc => by unfold notBehind at *; omega)
    (fun n m hnm => by simp only [actsFirst, decide_eq_true_eq] at hnm; unfold notBehind; omega)
    (fun n m hnm => by simp only [actsFirst, decide_eq_false_iff_not] at hnm; unfold notBehind; omega) h
  simp only [reduceCtorEq, List.mem_filter, decide_eq_true_eq, false_or] at hmem hall
  exact ⟨hmem, fun c hc hd => hall c ⟨hc, hd⟩⟩

theorem foldl_best_some {α : Type} {f : Option α → α → Option α} (hf : ∀ b x, ∃ y, f b x = some y) (l : List α) (x : α) :
    ∃ y, l.foldl f (some x) = some y := by
  induction l generalizing x with
  | nil => exact ⟨x, rfl⟩
  | cons z t ih =>
    obtain ⟨y, hy⟩ := hf (some x) z
    rw [List.foldl_cons, hy]
    exact ih y

theorem Dev.dueSlot_isSome {d : Dev} {c : Nat × Slot} (hc : c ∈ d.slots) (ht : c.2.time ≤ d.slotBase c.2.base) : d.dueSlot ≠ none := by
  unfold Dev.dueSlot
  have hm : c ∈ d.slots.filter (fun c => decide (c.2.time ≤ d.slotBase c.2.base)) := List.mem_filter.mpr ⟨hc, decide_eq_true ht⟩
  generalize d.slots.filter (fun c => decide (c.2.time ≤ d.slotBase c.2.base)) = l at hm ⊢
  cases l with
  | nil => cases hm
  | cons x t =>
    rw [List.foldl_cons]
    obtain ⟨y, hy⟩ := foldl_best_some (f := fun best c => match best with
      | none => some c
      | some b => if c.2.time < b.2.time ∨ (c.2.time = b.2.time ∧ c.1 < b.1) then some c else some b)
      (fun b x => by cases b <;> dsimp only <;> (try split) <;> exact ⟨_, rfl⟩) t x
    exact fun hn => Option.some_ne_none y (hy.symm.trans hn)

theorem Dev.dueSlot_of_first {d : Dev} {n : Nat} {x : Slot} (hm : (n, x) ∈ d.slots) (ht : x.time ≤ d.slotBase x.base)
    (hf : ∀ c ∈ d.slots, c.2.time ≤ d.slotBase c.2.base → x.time < c.2.time ∨ (x.time = c.2.time ∧ n < c.1) ∨ c = (n, x)) :
    d.dueSlot = some (n, x) := by
  obtain ⟨b, hb⟩ := Option.ne_none_iff_exists'.mp (Dev.dueSlot_isSome hm ht)
  obtain ⟨⟨hbm, hbt⟩, hall⟩ := Dev.dueSlot_spec hb
  have h1 := hall _ hm ht
  unfold notBehind at h1
  rcases hf b hbm hbt with h | h | h
  · dsimp only at h1
    omega
  · dsimp only at h1
    omega
  · rw [hb, h]

/-! ## The action -/

theorem Dev.Answered.only {d e : Dev} {q : Nat} {c : Cpl} (h : d.Answered e q c) : { d with cqs := e.cqs }.Only e
    [F.HST_CQ_STATUS.TAIL q, F.HST_CQ_STATUS.PHASE q, F.HST_CQ_STATUS.CQ_FULL q, intBit 9] := by
  unfold Dev.Answered at h
  split at h
  case isTrue =>
    obtain ⟨-, -, -, ho, -⟩ := h
    exact ho.mono (by simp)
  case isFalse =>
    obtain ⟨-, -, -, ho, -⟩ := h
    exact ho.mono (by simp)

/-- A completion leaves every register apart from its ring's status and the interrupts. -/
theorem Dev.Answered.f {d e : Dev} {q : Nat} {c : Cpl} (h : d.Answered e q c) {y : Fld} (h0 : R.HST_CQ_STATUS q ≠ y.addr)
    (h1 : R.TOP_INT_STATUS ≠ y.addr) : e.f y = d.f y := by
  refine (h.only.f y ?_).trans rfl
  simp only [List.forall_mem_cons]
  exact ⟨.inl h0, .inl h0, .inl h0, .inl h1, by simp⟩

theorem Dev.finish_of_found {d : Dev} {id : Nat} {r : Running} (h : d.running.find? (fun y => y.id = id) = some r) (o : CmdRes) :
    d.finish id o = { d with running := d.running.filter (fun y => y.id ≠ id) }.complete r.src o := by
  unfold Dev.finish
  rw [h]
  rfl

theorem Dev.slotStamp_locked {d : Dev} {b : Nat} (h : b = 4 ∨ d.f (F.TIM_BASE_CTRL.STATE b) ≠ 0) : d.slotStamp b = (d.slotBase b, d) := by
  unfold Dev.slotStamp
  split
  case isTrue h4 => rw [h4]
  case isFalse h4 =>
    have hs : ¬ d.baseState b = 0 := h.resolve_left h4
    rw [Dev.stampVal, if_neg hs, Dev.stamped, if_neg hs, Dev.slotBase, if_neg h4]

theorem Dev.actPin_level {d : Dev} {n op : Nat} (hd : bitOf (d.f F.TIM_CFG.TEV_DIR) n = true) (h : op < 2) : d.actPin n op =
    ({ d with time := { d.time with tev := d.time.tev.set n (decide (op = 1)) } }.emit (.pin "TEV" n op), 0) := by
  unfold Dev.actPin
  rw [if_neg (by rw [hd]; simp; omega)]
  obtain rfl | rfl : op = 0 ∨ op = 1 := by omega
  · rfl
  · rfl

theorem R.hstCqStatus_ne {q a : Nat} (hq : q < 64) (ha : a < 0x92010 ∨ 0x92810 ≤ a) : R.HST_CQ_STATUS q ≠ a := by
  unfold R.HST_CQ_STATUS
  omega

/-- The completion of an action that was executed: its time and whether it was late. -/
theorem cmdCpl_time (src : Src) (t : Nat) (late : Bool) : cmdCpl src { stOk with
      a := t
      late := late } =
    { plainCpl src 0 0 0 with
      words := [src.cid.val * 2 ^ 16 + src.sq.val * 2 ^ 10, 0, t % 2 ^ 32, t / 2 ^ 32 % 2 ^ 32, 0, 0, 0]
      late := late } := by
  simp [cmdCpl, plainCpl, stOk]

theorem Dev.act_pin {x : Slot} (d : Dev) (n : Nat) (h : x.action = 3) : d.act n x =
    (d.actPin (x.param.getD 0 0 % 4) (bitsOf (x.param.getD 0 0) 9 8)).1.crnLast n
      (d.actPin (x.param.getD 0 0 % 4) (bitsOf (x.param.getD 0 0) 9 8)).2 := by
  unfold Dev.act
  rw [if_neg (by omega), if_neg (by omega), if_pos h]

theorem Dev.crnLast_spec (d : Dev) (n : Nat) : (d.crnLast n 0).f F.CRN_LAST.SLOT = n % 256 ∧ (d.crnLast n 0).f F.CRN_LAST.RESULT = 0 ∧
    d.Only (d.crnLast n 0) [F.CRN_LAST.SLOT, F.CRN_LAST.RESULT] :=
  ⟨(Dev.f_apart _ _ _ _ _ _ _ (by decide) (by decide) (by decide)).trans (Dev.f_same _ _ _ _ _ (by decide) (by decide)),
    Dev.f_same _ _ _ _ _ (by decide) (by decide),
    ((Dev.Only.refl _ _).setF _ _ (by simp [Fld.within])).setF _ _ (by simp [Fld.within])⟩

theorem Dev.crnLast_eq (d : Dev) (n r : Nat) : d.crnLast n r = { d with regs := (d.crnLast n r).regs } := rfl

theorem Dev.actionDue_of_first {d : Dev} {n : Nat} {x : Slot} (ha : d.awake = true) (h : d.dueSlot = some (n, x)) : d.actionDue =
    if x.late && x.lateDrop then (d.freeSlot n).finish x.runId stLateDropped
    else (((d.freeSlot n).slotStamp x.base).2.finish x.runId { stOk with
      a := ((d.freeSlot n).slotStamp x.base).1
      late := x.late }).act n x := by
  unfold Dev.actionDue
  rw [if_neg (by rw [ha]; decide), h]

/-! ## The obligation -/

/-- Settles O49, with the order of the due slots. -/
theorem scheduledActions : Obligations.ScheduledActions := by
  intro s
  refine ⟨fun src n a ld b t ps => ⟨fun h => ?_, fun h0 h1 h2 => ⟨fun hm => ?_, fun hm => ⟨fun hs => ?_, fun hs => ?_⟩⟩⟩, fun h => ?_,
    fun n x r ha hm ht hf hr => ⟨fun hl hd => ?_, fun hl hb hact p hp hdir hop => ?_⟩⟩
  · refine State.does (f := (·.schedule src n a ld b t.toNat ps)) rfl ?_
    unfold Dev.schedule
    rw [if_pos h]
    exact Dev.complete_plain _ _ _ _ _ (by decide)
  · refine State.does (f := (·.schedule src n a ld b t.toNat ps)) rfl ?_
    unfold Dev.schedule
    rw [if_neg (by omega), if_pos (by rw [allModes, hm]; rfl)]
    exact Dev.complete_plain _ _ _ _ _ (by decide)
  · refine State.does (f := (·.schedule src n a ld b t.toNat ps)) rfl ?_
    unfold Dev.schedule
    rw [if_neg (by omega), if_neg (by rw [allModes, hm]; decide), if_pos (Option.isSome_iff_ne_none.mpr hs)]
    exact Dev.complete_plain _ _ _ _ _ (by decide)
  · refine State.does (f := (·.schedule src n a ld b t.toNat ps)) rfl ?_
    unfold Dev.schedule
    rw [if_neg (by omega), if_neg (by rw [allModes, hm]; decide), if_neg (by rw [hs]; decide)]
    refine ⟨rfl, fun m hmn => ?_, ?_⟩
    · exact congrArg (Option.map _) (find_spIns_ne hmn _ _)
    · exact congrArg (Option.map _) (find_spIns_self _ _ _ (Option.map_eq_none_iff.mp hs))
  · refine State.ignores (f := (·.actionDue)) rfl ?_
    unfold Dev.actionDue
    rcases h with h | h
    · rw [if_pos (by rw [h]; rfl)]
    · rw [Dev.dueSlot_none h]
      split <;> rfl
  · refine State.does (f := (·.actionDue)) rfl ?_
    rw [Dev.actionDue_of_first ha (Dev.dueSlot_of_first hm ht hf), if_pos (by rw [hl, hd]; rfl),
      Dev.finish_of_found (d := s.dev.freeSlot n) hr]
    exact Dev.complete_plain _ _ _ _ _ (by decide)
  · refine State.does (f := (·.actionDue)) rfl ?_
    have hlock : (s.dev.freeSlot n).slotStamp x.base = (s.dev.slotBase x.base, s.dev.freeSlot n) := Dev.slotStamp_locked hb
    rw [Dev.actionDue_of_first ha (Dev.dueSlot_of_first hm ht hf), if_neg (by rcases hl with h | h <;> rw [h] <;> simp), hlock,
      Dev.finish_of_found (d := s.dev.freeSlot n) hr, Dev.act_pin _ _ hact, ← hp]
    obtain ⟨k, hk⟩ : ∃ k, k = Dev.complete { s.dev with
        slots := s.dev.slots.filter (fun c => c.1 ≠ n)
        running := s.dev.running.filter (fun y => y.id ≠ x.runId) } r.src { stOk with
          a := s.dev.slotBase x.base
          late := x.late } := ⟨_, rfl⟩
    have hans : Dev.Answered { s.dev with
        slots := s.dev.slots.filter (fun c => c.1 ≠ n)
        running := s.dev.running.filter (fun y => y.id ≠ x.runId) } k (s.dev.ring r.src) (cmdCpl r.src { stOk with
          a := s.dev.slotBase x.base
          late := x.late }) := hk ▸ Dev.complete_answered _ _ _
    have htime : k.time = s.dev.time := hk ▸ Dev.complete_time _ _ _
    have hdk : bitOf (k.f F.TIM_CFG.TEV_DIR) (p % 4) = true := by
      rw [hans.f (y := F.TIM_CFG.TEV_DIR) (R.hstCqStatus_ne (s.dev.ring_lt _) (by decide)) (by decide)]
      exact hdir
    change ∃ k, _ ∧ _
    rw [cmdCpl_time] at hans
    refine ⟨k, hans, ?_⟩
    have hv : bitsOf p 9 8 = p / 256 % 4 := rfl
    have hgoal : ∀ e, e = (k.actPin (p % 4) (bitsOf p 9 8)).1.crnLast n (k.actPin (p % 4) (bitsOf p 9 8)).2 →
        e.time = { s.dev.time with tev := s.dev.time.tev.set (p % 4) (decide (p / 256 % 4 = 1)) } ∧
        e.out = k.out ++ [.pin "TEV" (p % 4) (p / 256 % 4)] ∧ e.f F.CRN_LAST.SLOT = n % 256 ∧ e.f F.CRN_LAST.RESULT = 0 ∧
        { k with time := e.time, out := e.out }.Only e [F.CRN_LAST.SLOT, F.CRN_LAST.RESULT] := by
      rintro e rfl
      rw [hv, Dev.actPin_level hdk hop, htime]
      obtain ⟨h1, h2, h3⟩ := Dev.crnLast_spec ({ k with time := { s.dev.time with
        tev := s.dev.time.tev.set (p % 4) (decide (p / 256 % 4 = 1)) } }.emit (.pin "TEV" (p % 4) (p / 256 % 4))) n
      exact ⟨rfl, rfl, h1, h2, h3⟩
    exact hgoal _ (by rw [hk]; rfl)

end Sys2Proof.Machine
end

section
/-! SUPPORT. One servo period: what comes before the generators leaves every move and set-point, and what the generators and
what comes after them do to a single move (R344, R345, R347, R350, R376). -/

namespace Sys2Proof.Machine

/-! ## What the generators read -/

/-- What the generators read of an axis. -/
def Axis.motion (x : Axis) : Int × Int × Int × Option Remain × Nat × Option RefRun := (x.x, x.v, x.a, x.kept, x.still, x.ref)

/-- What the generators read of the device: the moves, their commands, the axes and the policy STANDSTILL. -/
def Dev.servoView (d : Dev) : List Move × List Running × Option Bool × (Nat → Int × Int × Int × Option Remain × Nat × Option RefRun) ×
    (Fin 6 → Nat × Nat) :=
  (d.moves, d.running, d.shd.shutter, fun a => (d.ax a).motion, fun a => (d.f (F.CHP_CFG.STANDSTILL a), d.f (F.CHP_LOOP.HOLD_DELAY a)))

theorem Dev.servoView_of {d e : Dev} (hm : e.moves = d.moves) (hr : e.running = d.running) (hs : e.shd = d.shd)
    (ha : ∀ a, (e.ax a).motion = (d.ax a).motion)
    (hf : ∀ a : Fin 6, e.f (F.CHP_CFG.STANDSTILL a) = d.f (F.CHP_CFG.STANDSTILL a) ∧ e.f (F.CHP_LOOP.HOLD_DELAY a) = d.f (F.CHP_LOOP.HOLD_DELAY a)) :
    e.servoView = d.servoView := by
  unfold Dev.servoView
  have hp : (fun a : Fin 6 => (e.f (F.CHP_CFG.STANDSTILL a), e.f (F.CHP_LOOP.HOLD_DELAY a))) =
      fun a : Fin 6 => (d.f (F.CHP_CFG.STANDSTILL a), d.f (F.CHP_LOOP.HOLD_DELAY a)) := funext fun a => by rw [(hf a).1, (hf a).2]
  rw [hm, hr, hs, funext ha, hp]

theorem Dev.servoView_congr {d e : Dev} (hr : e.regs = d.regs) (hm : e.moves = d.moves) (hn : e.running = d.running) (hs : e.shd = d.shd)
    (ha : e.axes = d.axes) : e.servoView = d.servoView :=
  Dev.servoView_of hm hn hs (fun a => by rw [Dev.ax, Dev.ax, ha]) fun _ => ⟨Dev.f_regs hr _, Dev.f_regs hr _⟩

/-- A register that no policy of an axis reads. -/
def policyFree (a : Nat) : Prop := ∀ n : Fin 6, R.CHP_CFG n ≠ a ∧ R.CHP_LOOP n ≠ a

theorem policyFree_of_out {a : Nat} (h : a < 0xB4000 ∨ 0xB4600 ≤ a) : policyFree a := by
  intro n
  unfold R.CHP_CFG R.CHP_LOOP
  omega

theorem policyFree_of_block {a n k : Nat} (h : a = 0xB4000 + 0x100 * n + k) (hk : k < 0x100) (h0 : k ≠ 0) (h8 : k ≠ 8) : policyFree a := by
  intro n
  unfold R.CHP_CFG R.CHP_LOOP
  omega

theorem Dev.servoView_setReg (d : Dev) (a : Nat) (w : Word) (h : policyFree a) : (d.setReg a w).servoView = d.servoView :=
  Dev.servoView_of rfl rfl rfl (fun _ => rfl) fun n => ⟨d.f_setReg_ne _ w (h n).1, d.f_setReg_ne _ w (h n).2⟩

theorem Dev.servoView_setF (d : Dev) (x : Fld) (v : Nat) (h : policyFree x.addr) : (d.setF x v).servoView = d.servoView :=
  d.servoView_setReg _ _ h

theorem Dev.servoView_setB (d : Dev) (x : Fld) (v : Bool) (h : policyFree x.addr) : (d.setB x v).servoView = d.servoView :=
  d.servoView_setF _ _ h

theorem Dev.servoView_regsOut {d e : Dev} {l : List Fld} (h : d.Only e l) (hl : ∀ x ∈ l, policyFree x.addr) : e.servoView = d.servoView := by
  have hf (n : Fin 6) : e.f (F.CHP_CFG.STANDSTILL n) = d.f (F.CHP_CFG.STANDSTILL n) ∧ e.f (F.CHP_LOOP.HOLD_DELAY n) = d.f (F.CHP_LOOP.HOLD_DELAY n) :=
    ⟨h.f _ fun x hx => .inl (hl x hx n).1.symm, h.f _ fun x hx => .inl (hl x hx n).2.symm⟩
  refine Dev.servoView_of ?_ ?_ ?_ (fun a => ?_) hf
  · exact Dev.RegsOut.eq h.1 Dev.moves fun _ _ _ => rfl
  · exact Dev.RegsOut.eq h.1 Dev.running fun _ _ _ => rfl
  · exact Dev.RegsOut.eq h.1 Dev.shd fun _ _ _ => rfl
  · exact Dev.RegsOut.eq h.1 (fun d => (d.ax a).motion) fun _ _ _ => rfl

theorem intBitOf_lt (a : Nat) : intBitOf a < 32 := by
  have h (c : Prop) [Decidable c] {n m : Nat} (hn : n < 32) (hm : m < 32) : (if c then n else m) < 32 := by
    split
    · exact hn
    · exact hm
  unfold intBitOf
  repeat' refine h _ (by decide) ?_
  decide

theorem Dev.servoView_emit (d : Dev) (o : Out) : (d.emit o).servoView = d.servoView := rfl

theorem Dev.servoView_flagIf (d : Dev) (b : Bool) (x : Fld) (hx : x.lo ≤ x.hi + 1 ∧ x.hi < 32) (h : policyFree x.addr) :
    (d.flagIf b x).servoView = d.servoView :=
  Dev.servoView_regsOut (l := [x, intBit (intBitOf x.addr)])
    ((Dev.Only.refl d _).flagIf b x ⟨hx.1, hx.2, x, by simp, rfl, le_rfl, le_rfl⟩ (intBit_within rfl (intBitOf_lt _) (by simp)))
    (by
      simp only [List.forall_mem_cons, List.forall_mem_nil]
      exact ⟨h, policyFree_of_out (.inl (show R.TOP_INT_STATUS < 0xB4000 by decide)), by simp⟩)

theorem Dev.servoView_flag (d : Dev) (x : Fld) (hx : x.lo ≤ x.hi + 1 ∧ x.hi < 32) (h : policyFree x.addr) : (d.flag x).servoView = d.servoView :=
  d.servoView_flagIf true x hx h

theorem Dev.ax_setAx (d : Dev) (a b : Nat) (x : Axis) : (d.setAx a x).ax b = if b = a then x else d.ax b := by
  unfold Dev.ax Dev.setAx
  split
  case isTrue h => rw [h, spGet_spSet_self]
  case isFalse h => exact spGet_spSet_ne _ _ h

theorem Dev.servoView_setAx (d : Dev) (a : Nat) (x : Axis) (h : x.motion = (d.ax a).motion) : (d.setAx a x).servoView = d.servoView := by
  refine Dev.servoView_of rfl rfl rfl (fun b => ?_) fun _ => ⟨rfl, rfl⟩
  rw [Dev.ax_setAx]
  split
  case isTrue hb => rw [h, hb]
  case isFalse => rfl

theorem Dev.servoView_foldl {α : Type} {f : Dev → α → Dev} (l : List α) (h : ∀ d, ∀ x ∈ l, (f d x).servoView = d.servoView) (d : Dev) :
    (l.foldl f d).servoView = d.servoView := by
  induction l generalizing d with
  | nil => rfl
  | cons x t ih =>
    rw [List.foldl_cons, ih (fun d y hy => h d y (List.mem_cons_of_mem _ hy)), h d x List.mem_cons_self]

/-! ## The loop of an axis -/

theorem R.axsRefStatus_free {a : Nat} (ha : a < 6) : policyFree (R.AXS_REF_STATUS a) :=
  policyFree_of_out (.inl (by unfold R.AXS_REF_STATUS; omega))

theorem R.axsBlock_lt {a : Nat} (ha : a < 6) : R.AXS_BOOST_RATE a < 0xB4000 ∧ R.AXS_SW_STATUS a < 0xB4000 := by
  unfold R.AXS_BOOST_RATE R.AXS_SW_STATUS
  omega

theorem R.chpStatus_free (a : Nat) : policyFree (R.CHP_STATUS a) :=
  policyFree_of_block (n := a) (k := 0x30) (by unfold R.CHP_STATUS; omega) (by decide) (by decide) (by decide)

theorem Dev.servoView_coilPhase (d : Dev) (a c : Nat) (p : CoilPhase) (name : String) : (d.coilPhase a c p name).servoView = d.servoView := by
  unfold Dev.coilPhase
  extract_lets x k
  split
  · rfl
  · exact (d.servoView_setAx a _ rfl)

theorem Dev.servoView_setPower (d : Dev) {a : Nat} (ha : a < 6) (p : Power) : (d.setPower a p).servoView = d.servoView := by
  unfold Dev.setPower
  extract_lets x d1 d2
  split
  · rfl
  · have h1 : d1.servoView = d.servoView := d.servoView_setAx a _ rfl
    have h2 : d2.servoView = d.servoView := by
      unfold d2
      split
      · exact (d1.servoView_setF _ _ (R.axsRefStatus_free ha)).trans h1
      · exact h1
    clear_value d2
    cases p with
    | off => exact (((Dev.servoView_emit _ _).trans (Dev.servoView_coilPhase _ _ _ _ _)).trans (Dev.servoView_coilPhase _ _ _ _ _)).trans h2
    | short => exact ((Dev.servoView_coilPhase _ _ _ _ _).trans (Dev.servoView_coilPhase _ _ _ _ _)).trans h2
    | chop => exact (((Dev.servoView_emit _ _).trans (Dev.servoView_coilPhase _ _ _ _ _)).trans (Dev.servoView_coilPhase _ _ _ _ _)).trans h2
    | stepDir => exact (((Dev.servoView_emit _ _).trans (Dev.servoView_coilPhase _ _ _ _ _)).trans (Dev.servoView_coilPhase _ _ _ _ _)).trans h2

theorem Dev.servoView_coilPeriod (d : Dev) (a c : Nat) : (d.coilPeriod a c).servoView = d.servoView := by
  unfold Dev.coilPeriod
  extract_lets x k e
  refine (e.servoView_setAx a _ ?_).trans (d.servoView_flagIf _ _ (by simp) (R.chpStatus_free a))
  rfl

theorem Dev.servoView_setDemand (d : Dev) (a c : Nat) (n : Int) : (d.setDemand a c n).servoView = d.servoView := by
  unfold Dev.setDemand
  extract_lets x k e
  have h : e.servoView = d.servoView := d.servoView_setAx a _ rfl
  split
  · exact (Dev.servoView_coilPhase _ _ _ _ _).trans h
  · split
    · exact (Dev.servoView_coilPhase _ _ _ _ _).trans h
    · exact h

theorem Dev.servoView_stepPulses (d : Dev) (a : Nat) (theta : Int) : (d.stepPulses a theta).servoView = d.servoView := by
  unfold Dev.stepPulses
  extract_lets x due room n e
  have h : e.servoView = d.servoView :=
    (Dev.servoView_flagIf _ _ _ (by simp) (R.chpStatus_free a)).trans (d.servoView_setAx a _ rfl)
  split
  · exact h
  · exact h

theorem Dev.servoView_loopAxis (d : Dev) {a : Nat} (ha : a < 6) : (d.loopAxis a).servoView = d.servoView := by
  unfold Dev.loopAxis
  extract_lets d1 x e theta phi drive mode lz energised boost dev due i t out d2 src d3 d4
  have h1 : d1.servoView = d.servoView :=
    (Dev.servoView_setPower _ ha _).trans ((Dev.servoView_coilPeriod _ _ _).trans (d.servoView_coilPeriod _ _))
  clear_value d1 x e theta phi drive mode lz energised boost dev due i t out
  have h2 : d2.servoView = d.servoView := by
    unfold d2
    split
    · exact (d1.servoView_stepPulses a theta).trans h1
    · exact h1
  have h3 : d3.servoView = d.servoView := by
    change (d2.setAx a _).servoView = d.servoView
    refine (d2.servoView_setAx a _ ?_).trans h2
    rfl
  have h4 : d4.servoView = d.servoView := by
    refine (Dev.servoView_setF _ (F.CHP_STATUS.THETA_OUT a) _ (R.chpStatus_free a)).trans ?_
    refine (Dev.servoView_setF _ (F.CHP_STATUS.TIER_PEND a) _ (R.chpStatus_free a)).trans ?_
    refine (Dev.servoView_setF _ (F.CHP_STATUS.TIER a) _ (R.chpStatus_free a)).trans ?_
    refine (Dev.servoView_setF _ (F.AXS_SW_STATUS.PHI a) _ (policyFree_of_out (.inl (R.axsBlock_lt ha).2))).trans ?_
    exact (Dev.servoView_setF _ (F.AXS_BOOST_RATE.BOOST a) _ (policyFree_of_out (.inl (R.axsBlock_lt ha).1))).trans h3
  split
  · exact (Dev.servoView_setDemand _ _ _ _).trans ((Dev.servoView_setDemand _ _ _ _).trans h4)
  · exact h4

/-! ## What else comes before the generators -/

theorem Dev.servoView_flowVisible (d : Dev) : d.flowVisible.servoView = d.servoView := by
  unfold Dev.flowVisible
  extract_lets e
  have h : e.servoView = d.servoView := Dev.servoView_foldl _ (fun d x _ => by
    rw [Dev.setMem, Dev.setBytes_eq]
    rfl) d
  exact h

/-- A register below the drives' registers, and one above. -/
theorem Dev.servoView_setF_low (d : Dev) (x : Fld) (v : Nat) (h : x.addr < 0xB4000) : (d.setF x v).servoView = d.servoView :=
  d.servoView_setF x v (policyFree_of_out (.inl h))

theorem Dev.servoView_setB_low (d : Dev) (x : Fld) (v : Bool) (h : x.addr < 0xB4000) : (d.setB x v).servoView = d.servoView :=
  d.servoView_setB x v (policyFree_of_out (.inl h))

theorem Dev.servoView_reschedule (d : Dev) : d.reschedule.servoView = d.servoView := by
  unfold Dev.reschedule
  have w : policyFree R.LTN_CAP := policyFree_of_out (.inl (by decide))
  have h1 (v v' : Nat) : ((d.setF F.LTN_TSEQ.DURATION v).setF F.LTN_TLSEQ.DURATION v').servoView = d.servoView :=
    (Dev.servoView_setF_low _ F.LTN_TLSEQ.DURATION _ (by decide)).trans (d.servoView_setF_low F.LTN_TSEQ.DURATION _ (by decide))
  split
  · exact (Dev.servoView_setReg _ _ _ w).trans (h1 _ _)
  · extract_lets ts tl d1 m l byLead
    split
    · exact (Dev.servoView_setB_low _ F.LTN_CAP.LEAD_LIMITS _ (by decide)).trans
        ((Dev.servoView_setF_low _ F.LTN_CAP.V_CAP _ (by decide)).trans (h1 _ _))
    · exact (Dev.servoView_setReg _ _ _ w).trans (h1 _ _)

theorem Dev.servoView_setTime (d : Dev) (t : Time) : { d with time := t }.servoView = d.servoView := Dev.servoView_congr rfl rfl rfl rfl rfl
theorem Dev.servoView_setSump (d : Dev) (x : Sump) : { d with sump := x }.servoView = d.servoView := Dev.servoView_congr rfl rfl rfl rfl rfl

theorem Dev.servoView_axisPeriod (d : Dev) : d.axisPeriod.servoView = d.servoView := by
  unfold Dev.axisPeriod
  extract_lets t tns since d1 src r dev good d2 d3 d4 src2
  have w : policyFree (F.TIM_BASE_CTRL.STATE 3).addr := policyFree_of_out (.inr (by decide))
  have w' : policyFree (F.TIM_BASE_OFS.VALUE 3).addr := policyFree_of_out (.inr (by decide))
  have h2 : d2.servoView = d.servoView := Dev.servoView_congr rfl rfl rfl rfl rfl
  have h3 : d3.servoView = d.servoView := (d2.servoView_setF (F.TIM_BASE_CTRL.STATE 3) _ w).trans h2
  have h4 : d4.servoView = d.servoView := (d3.servoView_setF (F.TIM_BASE_OFS.VALUE 3) _ w').trans h3
  split
  · exact (Dev.servoView_setF _ (F.TIM_BASE_CTRL.STATE 3) _ w).trans (Dev.servoView_congr rfl rfl rfl rfl rfl)
  · split
    · exact Dev.servoView_congr rfl rfl rfl rfl rfl
    · split
      · exact (d4.servoView_setTime _).trans h4
      · exact h4

/-- The registers of the governor. -/
theorem Dev.servoView_showGov (d : Dev) (a b c : Bool) (n : Nat) : ((((d.setB F.SMP_GOV_STATUS.HOLDING a).setB
    F.SMP_GOV_STATUS.LANTERN_HOLD b).setB F.SMP_GOV_STATUS.STATION_HOLD c).setF F.SMP_GOV_STATUS.FACTOR n).servoView = d.servoView := by
  rw [Dev.servoView_setF_low _ F.SMP_GOV_STATUS.FACTOR _ (by decide), Dev.servoView_setB_low _ F.SMP_GOV_STATUS.STATION_HOLD _ (by decide),
    Dev.servoView_setB_low _ F.SMP_GOV_STATUS.LANTERN_HOLD _ (by decide), Dev.servoView_setB_low _ F.SMP_GOV_STATUS.HOLDING _ (by decide)]

theorem Dev.servoView_govStep (d : Dev) : d.govStep.servoView = d.servoView := by
  unfold Dev.govStep
  extract_lets lan src d1 o was r d2 d3 d4
  split
  · exact (d1.servoView_showGov _ _ _ _).trans (d.servoView_setSump _)
  · have h2 : d2.servoView = d.servoView := d.servoView_setSump _
    have h3 : d3.servoView = d.servoView := by
      unfold d3
      split
      · rw [Dev.count, Dev.servoView_setF_low _ F.SMP_COUNT.HOLD_CNT _ (by decide), Dev.servoView_flag _ F.SMP_GOV_STATUS.HOLD_SEEN
          (by decide) (policyFree_of_out (.inl (by decide))), h2]
      · exact h2
    have h4 : d4.servoView = d.servoView := (d3.servoView_showGov _ _ _ _).trans h3
    rw [Dev.servoView_setF_low _ F.SMP_GOV_SRC.CONTEXT _ (by decide), Dev.servoView_setF_low _ F.SMP_GOV_SRC.OCC _ (by decide),
      Dev.servoView_setB_low _ F.SMP_GOV_SRC.FROM_CONTEXT _ (by decide), h4]

theorem Dev.servoView_sendGovernor (d : Dev) : d.sendGovernor.servoView = d.servoView := by
  unfold Dev.sendGovernor Dev.originate Dev.sendVia
  split
  · rfl
  · extract_lets formed ws seq e
    split
    · rfl
    · split
      · rfl
      · split <;> rfl

/-- Without a wait of the shutter nothing starts it. -/
theorem Dev.shutterMove_of_none {d : Dev} (h : d.shd.shutter = none) : d.shutterMove = d := by
  unfold Dev.shutterMove
  rw [h]

/-- The device as the generators of a servo period find it. -/
def Dev.beforeMoves (d : Dev) : Dev :=
  let t := d.f F.AXS_SERVO_PERIOD.SERVO_PERIOD
  let d := if d.servoT = t then d else { d with servoT := t }.reschedule
  let d := d.axisPeriod.flowVisible
  let d := (List.range 6).foldl (fun d a => d.loopAxis a) d
  d.govStep.sendGovernor.shutterMove

/-- The servo period from the generators on. -/
def Dev.afterMoves (d : Dev) (xs : List Int) : Dev :=
  let d := (List.range 6).foldl (fun d a => d.refStep a) d
  let d := (List.range 6).foldl (fun d a => d.axisAfter a (xs.getD a 0)) d
  d.holdsDone.estopClear

theorem Dev.servoStep_eq {d : Dev} (h : ¬ (d.mode = .dormant ∨ d.inReset = true)) (hb : d.mode ≠ .boot) :
    d.servoStep = d.beforeMoves.runMoves.afterMoves ((List.range 6).map (fun a => (d.beforeMoves.ax a).x)) := by
  unfold Dev.servoStep
  rw [if_neg h, if_neg hb]
  rfl

theorem Dev.servoView_beforeMoves {d : Dev} (h : d.shd.shutter = none) : d.beforeMoves.servoView = d.servoView := by
  unfold Dev.beforeMoves
  extract_lets t d1 d2 d3
  have h1 : d1.servoView = d.servoView := by
    unfold d1
    split
    · rfl
    · exact Dev.servoView_reschedule _
  have h2 : d2.servoView = d.servoView := (Dev.servoView_flowVisible _).trans ((Dev.servoView_axisPeriod _).trans h1)
  have h3 : d3.servoView = d.servoView := (Dev.servoView_foldl _ (fun d a ha => d.servoView_loopAxis (List.mem_range.mp ha)) d2).trans h2
  have h4 : d3.govStep.sendGovernor.servoView = d.servoView := (Dev.servoView_sendGovernor _).trans ((Dev.servoView_govStep _).trans h3)
  rw [Dev.shutterMove_of_none, h4]
  have := congrArg (fun v => v.2.2.1) h4
  exact this.trans h

/-! ## What neither moves nor steers an axis -/

/-- The axes and moves stay, and commands may end. -/
def Dev.MotionOut (d e : Dev) : Prop := e.axes = d.axes ∧ e.moves = d.moves ∧ e.running ⊆ d.running

theorem Dev.MotionOut.refl (d : Dev) : d.MotionOut d := ⟨rfl, rfl, List.Subset.refl _⟩

theorem Dev.MotionOut.trans {d e g : Dev} (h : d.MotionOut e) (h' : e.MotionOut g) : d.MotionOut g :=
  ⟨h'.1.trans h.1, h'.2.1.trans h.2.1, fun _ hx => h.2.2 (h'.2.2 hx)⟩

theorem Dev.RingsOut.motionOut {d e : Dev} (h : d.RingsOut e) : d.MotionOut e :=
  ⟨h.eq Dev.axes fun _ _ _ _ => rfl, h.eq Dev.moves fun _ _ _ _ => rfl, by rw [h.eq Dev.running fun _ _ _ _ => rfl]; exact List.Subset.refl _⟩

theorem Dev.RegsOut.motionOut {d e : Dev} (h : d.RegsOut e) : d.MotionOut e := h.rings.motionOut

theorem Dev.motionOut_foldl {α : Type} {f : Dev → α → Dev} (h : ∀ (d : Dev) x, d.MotionOut (f d x)) (l : List α) (d : Dev) :
    d.MotionOut (l.foldl f d) := by
  induction l generalizing d with
  | nil => exact .refl d
  | cons x t ih => exact (h d x).trans (ih _)

theorem Dev.finish_motionOut (d : Dev) (id : Nat) (o : CmdRes) : d.MotionOut (d.finish id o) := by
  unfold Dev.finish
  split
  · refine Dev.MotionOut.trans (e := d.dropRun id) ⟨rfl, rfl, ?_⟩ (Dev.complete_ringsOut _ _ _).motionOut
    exact List.filter_subset_self _
  · exact .refl d

theorem Dev.setGroupUse_motionOut (d : Dev) (g use : Nat) : d.MotionOut (d.setGroupUse g use) := by
  unfold Dev.setGroupUse
  extract_lets q src
  refine Dev.MotionOut.trans (e := (Dev.setF { d with sump := { src with
    groupUse := src.groupUse.set g use
    overGroup := src.overGroup.set g q.1 } } (F.SMP_GRP_RESERVE.USED g) use).reportIf q.2 1 g) ?_ ⟨rfl, rfl, List.Subset.refl _⟩
  exact Dev.MotionOut.trans (e := Dev.setF { d with sump := { src with
    groupUse := src.groupUse.set g use
    overGroup := src.overGroup.set g q.1 } } (F.SMP_GRP_RESERVE.USED g) use) ⟨rfl, rfl, List.Subset.refl _⟩
    (Dev.RegsOut.motionOut (Dev.reportIf_only _ _ _ _).1)

theorem Dev.clearDark_motionOut (d : Dev) : d.MotionOut d.clearDark := by
  unfold Dev.clearDark Dev.clearHist
  extract_lets src e src2 k
  have he : d.MotionOut e := ⟨rfl, rfl, List.Subset.refl _⟩
  split
  · refine he.trans (Dev.MotionOut.trans (e := { e with gal := { src2 with
      dark := []
      prev := []
      prevK := none
      prevLeadK := none } }) ⟨rfl, rfl, List.Subset.refl _⟩ ?_)
    refine Dev.MotionOut.trans (e := k) ?_ ⟨rfl, rfl, List.Subset.refl _⟩
    refine Dev.motionOut_foldl (f := fun (d : Dev) (h : Placed) => match d.bar.bind (fun b => b.mods[h.module]?) with
      | some m => if h.cells = 0 then d else d.setGroupUse m.group (d.groupUse m.group - h.cells)
      | none => d) (fun d h => ?_) _ _
    split
    · split
      · exact .refl d
      · exact Dev.setGroupUse_motionOut _ _ _
    · exact .refl d
  · exact he

theorem Dev.calReport_motionOut (d : Dev) (c : ShadCal) : d.MotionOut (d.calReport c) := by
  unfold Dev.calReport
  extract_lets d1 src d2 d3
  have h1 : d.MotionOut d1 := ⟨rfl, rfl, List.Subset.refl _⟩
  have h2 : d1.MotionOut d2 := ⟨rfl, rfl, List.Subset.refl _⟩
  have h3 : d2.MotionOut d3 := Dev.MotionOut.trans (e := d2.setCalUse 0) ⟨rfl, rfl, List.Subset.refl _⟩ (Dev.RegsOut.motionOut (Dev.flag_regsOut _ _))
  exact ((h1.trans h2).trans h3).trans (Dev.finish_motionOut _ _ _)

theorem Dev.calFail_motionOut (d : Dev) (code m p : Nat) : d.MotionOut (d.calFail code m p) := by
  unfold Dev.calFail
  split
  · exact .refl d
  · extract_lets back src e
    have he : d.MotionOut e := by
      unfold e
      split
      · exact ⟨rfl, rfl, List.Subset.refl _⟩
      · exact .refl d
    exact he.trans (Dev.calReport_motionOut _ _)

theorem Dev.calShutter_motionOut (d : Dev) (ok : Bool) : d.MotionOut (d.calShutter ok) := by
  unfold Dev.calShutter Dev.calDark
  split
  · exact .refl d
  · split
    · split
      · split
        · exact Dev.MotionOut.trans ⟨rfl, rfl, List.Subset.refl _⟩ (Dev.clearDark_motionOut _)
        · exact .refl d
      · exact Dev.calFail_motionOut _ _ _ _
    · split
      · split
        · exact ⟨rfl, rfl, List.Subset.refl _⟩
        · exact Dev.calFail_motionOut _ _ _ _
      · exact .refl d

/-! ## What comes after the generators -/

/-- Where an axis is, at what speed, and what it keeps. -/
def Axis.rest (x : Axis) : Int × Int × Option Remain × Option RefRun := (x.x, x.v, x.kept, x.ref)

theorem Axis.rest_inj {x y : Axis} (h : x.rest = y.rest) : x.x = y.x ∧ x.v = y.v ∧ x.kept = y.kept ∧ x.ref = y.ref := by
  unfold Axis.rest at h
  simpa only [Prod.mk.injEq] using h

/-- The moves and the axes' places stay, and commands may end. -/
def Dev.PlacesKept (d e : Dev) : Prop := e.moves = d.moves ∧ (∀ a, (e.ax a).rest = (d.ax a).rest) ∧
  e.running.map Running.id ⊆ d.running.map Running.id

theorem Dev.PlacesKept.refl (d : Dev) : d.PlacesKept d := ⟨rfl, fun _ => rfl, List.Subset.refl _⟩

theorem Dev.PlacesKept.trans {d e g : Dev} (h : d.PlacesKept e) (h' : e.PlacesKept g) : d.PlacesKept g :=
  ⟨h'.1.trans h.1, fun a => (h'.2.1 a).trans (h.2.1 a), fun _ hx => h.2.2 (h'.2.2 hx)⟩

theorem Dev.MotionOut.places {d e : Dev} (h : d.MotionOut e) : d.PlacesKept e :=
  ⟨h.2.1, fun a => by rw [Dev.ax, Dev.ax, h.1], List.map_subset _ h.2.2⟩

theorem Dev.placesKept_foldl {α : Type} {f : Dev → α → Dev} (h : ∀ (d : Dev) x, d.PlacesKept (f d x)) (l : List α) (d : Dev) :
    d.PlacesKept (l.foldl f d) := by
  induction l generalizing d with
  | nil => exact .refl d
  | cons x t ih => exact (h d x).trans (ih _)

theorem Dev.setAx_places (d : Dev) (a : Nat) (x : Axis) (h : x.rest = (d.ax a).rest) : d.PlacesKept (d.setAx a x) := by
  refine ⟨rfl, fun b => ?_, List.Subset.refl _⟩
  rw [Dev.ax_setAx]
  split
  case isTrue hb => rw [h, hb]
  case isFalse => rfl

theorem Dev.axisAfter_places (d : Dev) (a : Nat) (x0 : Int) : d.PlacesKept (d.axisAfter a x0) := by
  unfold Dev.axisAfter
  extract_lets x ran e
  have h : d.PlacesKept e := by
    refine d.setAx_places a _ ?_
    rfl
  split
  · exact h.trans ⟨rfl, fun _ => rfl, List.Subset.refl _⟩
  · exact h

theorem Dev.refStep_of_none {d : Dev} {a : Nat} (h : (d.ax a).ref = none) : d.refStep a = d := by
  unfold Dev.refStep
  extract_lets x
  rw [show x.ref = none from h]

theorem Dev.refSteps_of_none {l : List Nat} {d : Dev} (h : ∀ a ∈ l, (d.ax a).ref = none) : l.foldl (fun d a => d.refStep a) d = d := by
  induction l with
  | nil => rfl
  | cons a t ih =>
    rw [List.forall_mem_cons] at h
    rw [List.foldl_cons, Dev.refStep_of_none h.1, ih h.2]

theorem Dev.afterMoves_places {d : Dev} (h : ∀ a < 6, (d.ax a).ref = none) (xs : List Int) : d.PlacesKept (d.afterMoves xs) := by
  unfold Dev.afterMoves Dev.holdsDone Dev.estopClear
  rw [Dev.refSteps_of_none fun a ha => h a (List.mem_range.mp ha)]
  extract_lets d1 d2
  have h2 : d.PlacesKept d2 := Dev.placesKept_foldl (fun d a => d.axisAfter_places a _) _ d
  refine (h2.trans (Dev.placesKept_foldl (fun d r => (Dev.finish_motionOut d _ _).places) _ _)).trans (Dev.placesKept_foldl (fun d a => ?_) _ _)
  split
  · exact (Dev.setF_regsOut _ _ _).motionOut.places
  · exact .refl d

/-! ## The end of a move -/

theorem Dev.reportMove_places (d : Dev) (m : Move) (r : CmdRes) (st : Option StopCause) : d.PlacesKept (d.reportMove m r st) := by
  unfold Dev.reportMove
  extract_lets adv
  split
  · split
    · split
      · extract_lets es ends a
        split
        · exact (Dev.finish_motionOut _ _ _).places
        · refine ⟨rfl, fun _ => rfl, ?_⟩
          dsimp only
          rw [List.map_map, List.map_congr_left fun y _ => show (Running.id ∘ _) y = y.id by dsimp only [Function.comp]; split <;> rfl]
          exact List.Subset.refl _
      · exact (Dev.finish_motionOut _ _ _).places
    · exact .refl d
  · refine d.setAx_places _ _ ?_
    rfl
  · exact (d.calShutter_motionOut _).places
  · exact .refl d
  · exact .refl d

theorem Dev.logStop_motionOut (d : Dev) (adv : Nat) (pos : Int) (c a : Bool) : d.MotionOut (d.logStop adv pos c a) := by
  unfold Dev.logStop
  split
  · exact .refl d
  · rw [Dev.setMem, Dev.setBytes_eq, Dev.setMem, Dev.setBytes_eq]
    exact ⟨rfl, rfl, List.Subset.refl _⟩

/-- The end of a move of one axis: the axis stands where it is, and every other axis stays. -/
theorem Dev.endMove_single {d : Dev} {m : Move} {x : MvAxis} (hx : m.axes = [x]) (f : GenEnd) :
    (d.endMove m f).moves = d.moves.filter (fun y => y.id ≠ m.id) ∧
    (∀ b, ((d.endMove m f).ax b).x = (d.ax b).x ∧ ((d.endMove m f).ax b).ref = (d.ax b).ref) ∧
    ((d.endMove m f).ax x.axis).v = 0 ∧ (f = .complete → ((d.endMove m f).ax x.axis).kept = none) ∧
    (d.endMove m f).running.map Running.id ⊆ d.running.map Running.id := by
  unfold Dev.endMove
  extract_lets d1 keep d2 d3
  have h2 : d2 = d1.setAx x.axis { d1.ax x.axis with
      v := 0
      a := 0
      kept := if keep = true then some ⟨m.id, x.target - countOf (d1.ax x.axis).x, m.set, m.rev, m.adv, m.coord, m.mask⟩ else none } := by
    unfold d2
    rw [hx]
    rfl
  have h3 : d2.MotionOut d3 := by
    unfold d3
    split
    · split
      · exact Dev.logStop_motionOut _ _ _ _ _
      · exact .refl _
    · exact .refl _
  clear_value d3 d2
  obtain ⟨hm, hax, hrun⟩ := h3.places.trans (d3.reportMove_places m (m.endRes f) (if f = GenEnd.complete then none else some (m.cause.getD .hold)))
  generalize d3.reportMove m (m.endRes f) (if f = GenEnd.complete then none else some (m.cause.getD .hold)) = e at hm hax hrun ⊢
  subst h2
  have hsame := hax x.axis
  rw [Dev.ax_setAx, if_pos rfl] at hsame
  obtain ⟨-, hv, hk, -⟩ := Axis.rest_inj hsame
  refine ⟨hm, fun b => ?_, hv, fun hf => ?_, hrun⟩
  · obtain ⟨h1, -, -, h4⟩ := Axis.rest_inj (hax b)
    rw [h1, h4, Dev.ax_setAx]
    split
    case isTrue hb => exact hb ▸ ⟨rfl, rfl⟩
    case isFalse => exact ⟨rfl, rfl⟩
  · rw [hk]
    exact if_neg (by simp [keep, hf])

/-! ## One period of a planned move -/

/-- A period advances the set-point by its new speed or lands it on the target, and ends at standstill (R350). -/
theorem genPeriod_advances (l : GenLim) (win : Int) (stopping held braking rev reversed : Bool) (s x v a t : Int) (g : GenOut)
    (h : g = genPeriod l win stopping held braking rev reversed s x v a t) :
    (g.x = x + g.v ∨ g.x = t * 2 ^ 32) ∧ (g.fin ≠ .none → g.v = 0) := by
  unfold genPeriod at h
  extract_lets u b r c o brk u1 b1 x1 seg r1 k at h
  clear_value o seg
  split at h
  case isTrue hu =>
    have hv : k.v = 0 := by
      change s * u1 = 0
      rw [hu.1, mul_zero]
    split at h
    · exact h ▸ ⟨.inl rfl, fun _ => hv⟩
    split at h
    · exact h ▸ ⟨.inl rfl, fun _ => hv⟩
    split at h
    · exact h ▸ ⟨.inl rfl, fun _ => hv⟩
    split at h
    · exact h ▸ ⟨.inl rfl, fun _ => hv⟩
    split at h
    · exact h ▸ ⟨.inr rfl, fun _ => hv⟩
    · exact h ▸ ⟨.inl rfl, fun _ => hv⟩
  case isFalse =>
    exact h ▸ ⟨.inl rfl, fun hn => absurd rfl hn⟩

/-- The leader's entry keeps its axis and its target when its limits are taken. -/
theorem Dev.takeLimits_single (d : Dev) {m : Move} {x : MvAxis} (hx : m.axes = [x]) : (d.takeLimits m).id = m.id ∧
    (d.takeLimits m).leader = m.leader ∧ (d.takeLimits m).coord = m.coord ∧
    ∃ lim, (d.takeLimits m).axes = [{ x with lim := lim }] := by
  unfold Dev.takeLimits
  split
  · rw [hx]
    exact ⟨rfl, rfl, rfl, _, rfl⟩
  · exact ⟨rfl, rfl, rfl, x.lim, hx⟩

theorem Dev.stepMove_single {d : Dev} {m : Move} {x : MvAxis} (hx : m.axes = [x]) (hl : m.leader = x.axis) (hc : m.coord = false) :
    (((d.stepMove m).ax x.axis).x = (d.ax x.axis).x + ((d.stepMove m).ax x.axis).v ∨ ((d.stepMove m).ax x.axis).x = x.target * 2 ^ 32) ∧
    (∀ b, b ≠ x.axis → ((d.stepMove m).ax b).x = (d.ax b).x) ∧ ∀ b, ((d.stepMove m).ax b).ref = (d.ax b).ref := by
  unfold Dev.stepMove
  obtain ⟨t1, t2, t3, lim, t4⟩ := d.takeLimits_single hx
  generalize d.takeLimits m = m' at t1 t2 t3 t4 ⊢
  rw [hl] at t2
  rw [hc] at t3
  extract_lets m1 held y t g d1 m2 d2
  have ht : t = x.target := by
    change (match m'.entry m'.leader with | some e => e.target | none => 0) = _
    rw [Move.entry, t4, t2]
    simp
  obtain ⟨hg, hfin⟩ := genPeriod_advances _ _ _ _ _ _ _ _ _ _ _ _ g rfl
  have hd2 : d2 = d1 := if_neg (by change ¬ m'.coord = true; rw [t3]; decide)
  have hd1 : d1 = d.setAx x.axis { d.ax x.axis with
      x := g.x
      v := g.v
      a := g.a
      seg := g.seg } := by
    change d.setAx m'.leader { d.ax m'.leader with
      x := g.x
      v := g.v
      a := g.a
      seg := g.seg } = _
    rw [t2]
  have hy : y = d.ax x.axis := by
    change d.ax m'.leader = _
    rw [t2]
  have ha2 : m2.axes = [{ x with lim := lim }] := t4
  rw [hd2]
  rw [ht, hy] at hg
  clear_value g m2 d2 d1
  obtain ⟨hx1, hv1⟩ : (d1.ax x.axis).x = g.x ∧ (d1.ax x.axis).v = g.v := by
    rw [hd1, Dev.ax_setAx, if_pos rfl]
    exact ⟨rfl, rfl⟩
  have hother (b : Nat) (hb : b ≠ x.axis) : (d1.ax b).x = (d.ax b).x := by
    rw [hd1, Dev.ax_setAx, if_neg hb]
  have href (b : Nat) : (d1.ax b).ref = (d.ax b).ref := by
    rw [hd1, Dev.ax_setAx]
    split
    case isTrue hb => exact hb ▸ rfl
    case isFalse => rfl
  split
  case isTrue hn =>
    change ((d1.ax x.axis).x = _ + (d1.ax x.axis).v ∨ (d1.ax x.axis).x = _) ∧ _
    rw [hx1, hv1]
    exact ⟨hg, hother, href⟩
  case isFalse hn =>
    obtain ⟨-, hpos, hv, -, -⟩ := Dev.endMove_single (d := d1) ha2 g.fin
    refine ⟨?_, fun b hb => (hpos b).1.trans (hother b hb), fun b => (hpos b).2.trans (href b)⟩
    dsimp only at hv
    rw [hv, (hpos x.axis).1, hx1, ← hfin hn]
    exact hg

/-! ## A move without distance -/

theorem Dev.resolve_single {d : Dev} {m : Move} {x : MvAxis} (hx : m.axes = [x]) (hp : m.planned = false)
    (hraw : x.raw = if m.rel then 0 else countOf (d.ax x.axis).x) : d.resolve m = { m with axes := [{ x with
      target := countOf (d.ax x.axis).x
      d := 0 }] } := by
  unfold Dev.resolve
  rw [if_neg (by rw [hp]; decide), hx]
  have ht : (if m.rel = true then countOf (d.ax x.axis).x + x.raw else x.raw) = countOf (d.ax x.axis).x := by
    rw [hraw]
    split
    · exact add_zero _
    · rfl
  simp only [List.map_cons, List.map_nil, ht, sub_self]

/-- The report of a plain command's move ends the command. -/
theorem Dev.reportMove_run {d : Dev} {m : Move} {run : Nat} (ho : m.owner = .cmd run) (hk : ∀ r ∈ d.running, r.id = run → r.kind = .move)
    (r : CmdRes) (st : Option StopCause) : ∀ y ∈ (d.reportMove m r st).running, y.id ≠ run := by
  unfold Dev.reportMove
  extract_lets adv
  rw [ho]
  dsimp only
  cases hf : d.running.find? (fun x => x.id = run) with
  | none =>
    intro y hy
    simpa using List.find?_eq_none.mp hf y hy
  | some z =>
    have hz : z.kind = .move := hk z (List.mem_of_find?_eq_some hf) (by simpa using List.find?_some hf)
    dsimp only
    rw [hz]
    dsimp only
    rw [Dev.finish_of_found hf, Dev.complete_running]
    intro y hy
    simpa using (List.mem_filter.mp hy).2

theorem Dev.logStop_running (d : Dev) (adv : Nat) (pos : Int) (c a : Bool) : (d.logStop adv pos c a).running = d.running := by
  unfold Dev.logStop
  split
  · rfl
  · rw [Dev.setMem, Dev.setBytes_eq, Dev.setMem, Dev.setBytes_eq]

theorem Dev.endMove_run {d : Dev} {m : Move} {x : MvAxis} (hx : m.axes = [x]) (f : GenEnd) {run : Nat} (ho : m.owner = .cmd run)
    (hk : ∀ r ∈ d.running, r.id = run → r.kind = .move) : ∀ r ∈ (d.endMove m f).running, r.id ≠ run := by
  unfold Dev.endMove
  extract_lets d1 keep d2 d3
  have h2 : d2.running = d.running := by
    unfold d2
    rw [hx]
    rfl
  have h3 : d3.running = d.running := by
    unfold d3
    split
    · split
      · exact (Dev.logStop_running _ _ _ _ _).trans h2
      · exact h2
    · exact h2
  exact Dev.reportMove_run ho (h3 ▸ hk) _ _

theorem Dev.planMove_nowhere {d : Dev} {m : Move} {x : MvAxis} (hm : d.moves = [m]) (hx : m.axes = [x]) (h0 : x.axis ≠ 0)
    (hp : m.planned = false) (hc : m.cause = none) (hloose : d.policyLoose x.axis = false) (hv : (d.ax x.axis).v = 0)
    (ha : (d.ax x.axis).a = 0) (hraw : x.raw = if m.rel then 0 else countOf (d.ax x.axis).x) {run : Nat} (ho : m.owner = .cmd run)
    (hk : ∀ r ∈ d.running, r.id = run → r.kind = .move) :
    (d.planMove m).moves = [] ∧ (∀ r ∈ (d.planMove m).running, r.id ≠ run) ∧
    (∀ b, ((d.planMove m).ax b).x = (d.ax b).x ∧ ((d.planMove m).ax b).ref = (d.ax b).ref) ∧
    ((d.planMove m).ax x.axis).v = 0 ∧ ((d.planMove m).ax x.axis).kept = none := by
  unfold Dev.planMove
  extract_lets d1 m1 p d2 m2 l y t m3 d3 d4 rest
  have hd1 : d1 = d := by
    unfold d1
    rw [hx, List.foldl_cons, List.foldl_nil, if_neg (by rw [hloose]; decide)]
  have hm1 : m1 = { m with axes := [{ x with
      target := countOf (d.ax x.axis).x
      d := 0 }] } := by
    unfold m1
    rw [hd1]
    exact Dev.resolve_single hx hp hraw
  have hp1 : p = (d, m1) := by
    unfold p Dev.planFeed
    rw [hd1, hm1, Move.entry, List.find?_cons, decide_eq_false h0, List.find?_nil]
  have hd2 : d2 = d := congrArg Prod.fst hp1
  have hm2 : m2 = m1 := congrArg Prod.snd hp1
  have hl : l = x.axis := by
    change leaderOf m2.axes = _
    rw [hm2, hm1]
    rfl
  have ht : t = countOf (d.ax x.axis).x := by
    change (match m2.entry l with | some e => e.target | none => 0) = _
    rw [hm2, hm1, hl, Move.entry]
    simp
  have hy : y = d.ax x.axis := by
    change d2.ax l = _
    rw [hd2, hl]
  obtain ⟨x', hx', ha'⟩ : ∃ x', m3.axes = [x'] ∧ x'.axis = x.axis := by
    change ∃ x', m2.axes.map _ = [x'] ∧ _
    rw [hm2, hm1]
    exact ⟨_, rfl, rfl⟩
  have hs : m3.s = 0 := by
    change genDir y.x y.v y.a t = 0
    rw [hy, ht, genDir, if_neg (by rw [hv]; decide), if_neg (by rw [ha]; decide), countOf, sub_self]
    rfl
  have hid : m3.id = m.id ∧ m3.owner = m.owner := by
    change m2.id = _ ∧ m2.owner = _
    rw [hm2, hm1]
    exact ⟨rfl, rfl⟩
  have hd4 : d4.moves = [m3] ∧ d4.running = d.running ∧ ∀ b, (d4.ax b).x = (d.ax b).x ∧ (d4.ax b).ref = (d.ax b).ref := by
    have h3 : d3.moves = [m3] ∧ d3.running = d.running ∧ d3.axes = d.axes := by
      change List.map (fun z => if z.id = m3.id then m3 else z) d2.moves = _ ∧ d2.running = _ ∧ d2.axes = _
      rw [hd2, hm, List.map_cons, List.map_nil, if_pos hid.1.symm]
      exact ⟨rfl, rfl, rfl⟩
    have h4 : d4 = d3.setAx x'.axis { d3.ax x'.axis with
        kept := none
        set := m3.set } := by
      unfold d4
      rw [hx']
      rfl
    clear_value d4 d3
    rw [h4]
    refine ⟨h3.1, h3.2.1, fun b => ?_⟩
    have hb : d3.ax b = d.ax b := by rw [Dev.ax, Dev.ax, h3.2.2]
    rw [Dev.ax_setAx, ← hb]
    split
    case isTrue h => exact h ▸ ⟨rfl, rfl⟩
    case isFalse => exact ⟨rfl, rfl⟩
  have hrest : rest = true := by
    change (decide (y.v = 0) && decide (y.a = 0)) = true
    rw [hy, hv, ha]
    rfl
  have hc1 : m1.cause.isSome = false := by rw [hm1]; exact congrArg Option.isSome hc
  clear_value rest m3 d4
  rw [if_neg (by rw [hc1]; decide), if_pos (by rw [hrest, hs]; rfl)]
  obtain ⟨e1, e2, e3, e4, e5⟩ := Dev.endMove_single (d := d4) hx' .complete
  rw [ha'] at e3 e4
  refine ⟨?_, Dev.endMove_run hx' .complete (hid.2.trans ho) (hd4.2.1.symm ▸ hk), fun b => ?_, e3, e4 rfl⟩
  · rw [e1, hd4.1]
    simp
  · exact ⟨(e2 b).1.trans (hd4.2.2 b).1, (e2 b).2.trans (hd4.2.2 b).2⟩

/-! ## The generators -/

theorem Move.stopBy_keeps (m : Move) (c : StopCause) : (m.stopBy c).id = m.id ∧ (m.stopBy c).axes = m.axes ∧
    (m.stopBy c).leader = m.leader ∧ (m.stopBy c).coord = m.coord ∧ (m.stopBy c).planned = m.planned := by
  unfold Move.stopBy
  extract_lets higher
  split <;> exact ⟨rfl, rfl, rfl, rfl, rfl⟩

theorem Dev.limitStop_eq (d : Dev) {m : Move} (h : d.moves = [m]) : ∃ m', d.limitStop = { d with moves := [m'] } ∧
    m'.id = m.id ∧ m'.axes = m.axes ∧ m'.leader = m.leader ∧ m'.coord = m.coord ∧ m'.planned = m.planned ∧ (m.planned = false → m' = m) := by
  refine ⟨if m.planned && m.axes.any (fun e => d.guarded e.axis (m.dirOf e)) then m.stopBy .limit else m, ?_, ?_⟩
  · rw [Dev.limitStop, h]
    rfl
  · split
    case isTrue hg =>
      obtain ⟨h1, h2, h3, h4, h5⟩ := m.stopBy_keeps .limit
      exact ⟨h1, h2, h3, h4, h5, fun hp => by rw [hp] at hg; simp at hg⟩
    case isFalse => exact ⟨rfl, rfl, rfl, rfl, rfl, fun _ => rfl⟩

theorem Dev.runMoves_of_nil {d : Dev} (h : d.moves = []) : d.runMoves = { d with moves := [] } := by
  unfold Dev.runMoves
  extract_lets d1 d2
  have h1 : d1 = { d with moves := [] } := by
    unfold d1 Dev.limitStop
    rw [h]
    rfl
  have h2 : d2 = { d with moves := [] } := by
    unfold d2
    rw [h1]
    rfl
  rw [h2]
  rfl

theorem Dev.runMoves_planned {d : Dev} {m : Move} (h : d.moves = [m]) (hp : m.planned = true) :
    ∃ m', m'.axes = m.axes ∧ m'.leader = m.leader ∧ m'.coord = m.coord ∧ d.runMoves = { d with moves := [m'] }.stepMove m' := by
  obtain ⟨m', hl, -, h2, h3, h4, h5, -⟩ := d.limitStop_eq h
  refine ⟨m', h2, h3, h4, ?_⟩
  have hpl : m'.planned = true := h5.trans hp
  unfold Dev.runMoves
  rw [hl]
  simp [hpl]

theorem Dev.runMoves_new {d : Dev} {m : Move} (h : d.moves = [m]) (hp : m.planned = false) (hw : d.moveWaits m = false)
    (hd : (d.planMove m).moves = []) : d.runMoves = d.planMove m := by
  obtain ⟨m', hl, -, -, -, -, -, h6⟩ := d.limitStop_eq h
  rw [h6 hp] at hl
  have hself : { d with moves := [m] } = d := by rw [← h]
  unfold Dev.runMoves
  rw [hl, hself]
  dsimp only
  rw [h]
  simp [hp, hw, hd]

/-! ## The obligation -/

theorem Axis.motion_inj {x y : Axis} (h : x.motion = y.motion) : x.x = y.x ∧ x.v = y.v ∧ x.a = y.a ∧ x.ref = y.ref := by
  simp only [Axis.motion, Prod.mk.injEq] at h
  obtain ⟨h1, h2, h3, -, -, h6⟩ := h
  exact ⟨h1, h2, h3, h6⟩

/-- Registers and the bases alone change. -/
def Dev.ClockOut (d e : Dev) : Prop := e = { d with regs := e.regs, time := e.time }

theorem Dev.ClockOut.trans {d e g : Dev} (h : d.ClockOut e) (h' : e.ClockOut g) : d.ClockOut g := by
  unfold Dev.ClockOut at *
  rw [h', h]

theorem Dev.ClockOut.setF {d e : Dev} (h : d.ClockOut e) (x : Fld) (v : Nat) : d.ClockOut (e.setF x v) := h.trans rfl
theorem Dev.ClockOut.setTime {d e : Dev} (h : d.ClockOut e) (t : Time) : d.ClockOut { e with time := t } := h.trans rfl

theorem Dev.axisPeriod_clockOut (d : Dev) : d.ClockOut d.axisPeriod := by
  unfold Dev.axisPeriod
  extract_lets t tns since d1 src r dev good d2 d3 d4 src2
  have h1 : d.ClockOut d1 := Dev.ClockOut.setTime (e := d) rfl _
  have h4 : d.ClockOut d4 := ((h1.setTime _).setF (F.TIM_BASE_CTRL.STATE 3) _).setF (F.TIM_BASE_OFS.VALUE 3) _
  split
  · exact (h1.setTime _).setF (F.TIM_BASE_CTRL.STATE 3) _
  · split
    · exact h1
    · split
      · exact h4.setTime _
      · exact h4

/-- What the generators find is what stood before the period. -/
theorem Dev.beforeMoves_same {d : Dev} (h : d.shd.shutter = none) : d.beforeMoves.moves = d.moves ∧ d.beforeMoves.running = d.running ∧
    (∀ a, (d.beforeMoves.ax a).motion = (d.ax a).motion) ∧ ∀ a < 6, d.beforeMoves.policyLoose a = d.policyLoose a := by
  have hv := Dev.servoView_beforeMoves h
  generalize d.beforeMoves = k at hv
  unfold Dev.servoView at hv
  simp only [Prod.mk.injEq] at hv
  obtain ⟨hm, hr, -, ha, hf⟩ := hv
  refine ⟨hm, hr, congrFun ha, fun a h6 => ?_⟩
  have hp := congrFun hf ⟨a, h6⟩
  have hx := congrFun ha a
  simp only [Prod.mk.injEq] at hp
  simp only [Axis.motion, Prod.mk.injEq] at hx
  obtain ⟨-, x2, x3, -, x5, -⟩ := hx
  rw [Dev.policyLoose, Dev.policyLoose, Dev.stands, Dev.stands, hp.1, hp.2, hm, x2, x3, x5]

theorem bitsOf_13_0 (v : Nat) : bitsOf v 13 0 = v % 16384 := congrArg (· % 16384) (Nat.div_one v)

theorem Dev.servoPeriodWrite_out {d : Dev} {rq : Req} {v : Nat} (h : v % 16384 < 1250 ∨ 10000 < v % 16384) :
    d.servoPeriodWrite rq v = d.accessErr rq false .value R.AXS_SERVO_PERIOD := by
  unfold Dev.servoPeriodWrite
  rw [bitsOf_13_0]
  exact if_pos h

theorem Dev.servoPeriodWrite_in {d : Dev} {rq : Req} {v : Nat} (h1 : 1250 ≤ v % 16384) (h2 : v % 16384 ≤ 10000) :
    d.servoPeriodWrite rq v = if !d.allStand then d.accessErr rq false .locked R.AXS_SERVO_PERIOD
      else d.setF F.AXS_SERVO_PERIOD.SERVO_PERIOD (v % 16384) := by
  unfold Dev.servoPeriodWrite
  rw [bitsOf_13_0]
  exact if_neg (by omega)

/-- Settles O42: what comes before the generators leaves the moves and the axes, a single move is followed through the generators, and what
comes after leaves every place. -/
theorem servoPeriods : Obligations.ServoPeriods := by
  intro s
  refine ⟨fun h => ?_, fun hb hr => ?_, fun hd hb hr hsh href => ⟨fun hm => ?_, fun m a x hm hx hxa h6 hc =>
    ⟨fun hp hcause h0 hloose hv ha hraw run ho hk => ?_, fun hp hl => ?_⟩⟩, fun rq v ha => ⟨fun hrange hf => ?_, fun h1 h2 => ⟨fun hs hf => ?_, fun hs => ?_⟩⟩⟩
  · exact State.ignores (f := (·.servoStep)) rfl (if_pos h)
  · refine State.does (f := (·.servoStep)) rfl ?_
    have hn : ¬ (s.dev.mode = .dormant ∨ s.dev.inReset = true) := by rw [hb, hr]; simp
    rw [Dev.servoStep, if_neg hn, if_pos hb]
    exact s.dev.axisPeriod_clockOut
  · obtain ⟨k1, k2, k3, -⟩ := Dev.beforeMoves_same hsh
    refine State.does (f := (·.servoStep)) rfl ?_
    rw [Dev.servoStep_eq (by rw [hr]; simp [hd]) hb]
    have hrun := Dev.runMoves_of_nil (k1.trans hm)
    obtain ⟨e1, e2, -⟩ := Dev.afterMoves_places (d := s.dev.beforeMoves.runMoves) (fun a h6 => by
      rw [hrun]
      exact (Axis.motion_inj (k3 a)).2.2.2.trans (href a h6)) ((List.range 6).map (fun a => (s.dev.beforeMoves.ax a).x))
    generalize s.dev.beforeMoves.runMoves.afterMoves ((List.range 6).map (fun a => (s.dev.beforeMoves.ax a).x)) = e at e1 e2 ⊢
    rw [hrun] at e1 e2
    refine ⟨e1, fun a h6 => ?_⟩
    obtain ⟨m1, m2, -, -⟩ := Axis.motion_inj (k3 a)
    obtain ⟨r1, r2, -, -⟩ := Axis.rest_inj (e2 a)
    exact ⟨r1.trans m1, r2.trans m2⟩
  · obtain ⟨k1, k2, k3, k4⟩ := Dev.beforeMoves_same hsh
    refine State.does (f := (·.servoStep)) rfl ?_
    rw [Dev.servoStep_eq (by rw [hr]; simp [hd]) hb]
    subst hxa
    have hk4 := k4 x.axis h6
    have hk3 := k3
    generalize (List.range 6).map (fun a => (s.dev.beforeMoves.ax a).x) = xs
    generalize s.dev.beforeMoves = k at k1 k2 k3 k4 hk4 ⊢
    obtain ⟨x1, x2, x3, -⟩ := Axis.motion_inj (k3 x.axis)
    have hw : k.moveWaits m = false := by
      rw [Dev.moveWaits, hcause, hc, Move.has, hx]
      simp [h0]
    obtain ⟨p1, p2, p3, p4, p5⟩ := Dev.planMove_nowhere (k1.trans hm) hx h0 hp hcause (hk4.trans hloose) (x2.trans hv) (x3.trans ha)
      (by rw [hraw, x1]) ho (k2.symm ▸ hk)
    rw [Dev.runMoves_new (k1.trans hm) hp hw p1]
    obtain ⟨e1, e2, e3⟩ := Dev.afterMoves_places (d := k.planMove m) (fun a h6 => by
      rw [(p3 a).2]
      exact (Axis.motion_inj (k3 a)).2.2.2.trans (href a h6)) xs
    generalize (k.planMove m).afterMoves xs = e at e1 e2 e3 ⊢
    obtain ⟨r1, r2, r3, -⟩ := Axis.rest_inj (e2 x.axis)
    refine ⟨e1.trans p1, fun r hrn hid => ?_, (r1.trans (p3 _).1).trans x1, r2.trans p4, r3.trans p5⟩
    obtain ⟨y, hy, hyid⟩ := List.mem_map.mp (e3 (List.mem_map_of_mem hrn))
    exact p2 y hy (hyid.trans hid)
  · obtain ⟨k1, k2, k3, -⟩ := Dev.beforeMoves_same hsh
    refine State.does (f := (·.servoStep)) rfl ?_
    rw [Dev.servoStep_eq (by rw [hr]; simp [hd]) hb]
    subst hxa
    generalize (List.range 6).map (fun a => (s.dev.beforeMoves.ax a).x) = xs
    generalize s.dev.beforeMoves = k at k1 k2 k3 ⊢
    obtain ⟨m', m1, m2, m3, hrun⟩ := Dev.runMoves_planned (k1.trans hm) hp
    obtain ⟨g1, g2, g3⟩ := Dev.stepMove_single (d := { k with moves := [m'] }) (m1.trans hx) (m2.trans hl) (m3.trans hc)
    rw [hrun]
    obtain ⟨-, e2, -⟩ := Dev.afterMoves_places (d := Dev.stepMove { k with moves := [m'] } m') (fun a h6 => by
      rw [g3 a]
      exact (Axis.motion_inj (k3 a)).2.2.2.trans (href a h6)) xs
    generalize (Dev.stepMove { k with moves := [m'] } m').afterMoves xs = e at e2 ⊢
    generalize Dev.stepMove { k with moves := [m'] } m' = g at g1 g2 g3 e2
    obtain ⟨r1, r2, -, -⟩ := Axis.rest_inj (e2 x.axis)
    rw [r1, r2, ← (Axis.motion_inj (k3 x.axis)).1]
    refine ⟨g1, fun b h6 hne => ?_⟩
    exact ((Axis.rest_inj (e2 b)).1.trans (g2 b hne)).trans (Axis.motion_inj (k3 b)).1
  · refine State.does (f := fun d => if d.awake then d.servoPeriodWrite rq v.toNat else d) rfl ?_
    rw [if_pos ha, Dev.servoPeriodWrite_out hrange]
    exact Dev.accessErr_discarded hf _ (by decide)
  · refine State.does (f := fun d => if d.awake then d.servoPeriodWrite rq v.toNat else d) rfl ?_
    rw [if_pos ha, Dev.servoPeriodWrite_in h1 h2, if_pos (by rw [hs]; rfl)]
    exact Dev.accessErr_discarded hf _ (by decide)
  · refine State.does (f := fun d => if d.awake then d.servoPeriodWrite rq v.toNat else d) rfl ?_
    rw [if_pos ha, Dev.servoPeriodWrite_in h1 h2, if_neg (by rw [hs]; decide)]
    exact ⟨(Dev.f_same _ _ _ _ _ (by decide) (by decide)).trans (Nat.mod_eq_of_lt (by omega)), (Dev.Only.refl _ _).setF _ _ (by simp [Fld.within])⟩

end Sys2Proof.Machine
end

section
/-! SUPPORT. The grid armed, refused and disarmed, and the configuration of the sequences (R106, R107). -/

namespace Sys2Proof.Machine

/-! ## Registers of the lantern and below stay -/

/-- No register below Gallery's changes, except the interrupts. -/
def Dev.LowKept (d e : Dev) : Prop := ∀ a, a < 0x60000 → a ≠ R.TOP_INT_STATUS → e.reg a = d.reg a

theorem Dev.LowKept.refl (d : Dev) : d.LowKept d := fun _ _ _ => rfl

theorem Dev.LowKept.trans {d e g : Dev} (h : d.LowKept e) (h' : e.LowKept g) : d.LowKept g :=
  fun a ha hn => (h' a ha hn).trans (h a ha hn)

theorem Dev.LowKept.of_regs {d e : Dev} (h : e.regs = d.regs) : d.LowKept e := fun a _ _ => Dev.reg_regs h a

theorem Dev.LowKept.setF {d e : Dev} (h : d.LowKept e) (x : Fld) (v : Nat) (hx : 0x60000 ≤ x.addr) : d.LowKept (e.setF x v) :=
  fun a ha hn => (Dev.reg_setF_ne e x v (by omega)).trans (h a ha hn)

theorem Dev.LowKept.setB {d e : Dev} (h : d.LowKept e) (x : Fld) (v : Bool) (hx : 0x60000 ≤ x.addr) : d.LowKept (e.setB x v) :=
  h.setF x _ hx

theorem Dev.LowKept.only {d e : Dev} {l : List Fld} (h : d.Only e l) (hl : ∀ x ∈ l, 0x60000 ≤ x.addr ∨ x.addr = R.TOP_INT_STATUS) :
    d.LowKept e := by
  intro a ha hn
  refine h.reg a fun x hx => ?_
  rcases hl x hx with h1 | h1
  · omega
  · exact h1 ▸ hn.symm

theorem Dev.LowKept.f {d e : Dev} (h : d.LowKept e) {x : Fld} (hx : x.addr < 0x60000) (hn : x.addr ≠ R.TOP_INT_STATUS) : e.f x = d.f x := by
  rw [Dev.f, Dev.f, h x.addr hx hn]

theorem Dev.lowKept_foldl {α : Type} {f : Dev → α → Dev} (h : ∀ (d : Dev) x, d.LowKept (f d x)) (l : List α) (d : Dev) :
    d.LowKept (l.foldl f d) := by
  induction l generalizing d with
  | nil => exact .refl d
  | cons x t ih => exact (h d x).trans (ih _)

theorem Dev.reportIf_lowKept (d : Dev) (b : Bool) (kind holder : Nat) : d.LowKept (d.reportIf b kind holder) :=
  .only (d.reportIf_only b kind holder) (by decide)

theorem Dev.sumpNote_lowKept (d : Dev) : d.LowKept d.sumpNote := by
  unfold Dev.sumpNote
  extract_lets u
  exact ((Dev.LowKept.refl d).setF F.SMP_POOL_STATUS.USED u (by decide)).setF F.SMP_POOL_STATUS.PEAK _ (by decide)

theorem Dev.setSurveyUse_lowKept (d : Dev) (use : Nat) : d.LowKept (d.setSurveyUse use) := by
  unfold Dev.setSurveyUse
  extract_lets q src
  refine Dev.LowKept.trans (Dev.LowKept.trans (e := { d with sump := { src with
    survey := use
    overSurvey := q.1 } }) (.of_regs rfl) (Dev.reportIf_lowKept _ _ _ _)) (Dev.sumpNote_lowKept _)

theorem R.smpGrpReserve_ge (g : Nat) : 0x60000 ≤ R.SMP_GRP_RESERVE g := by
  unfold R.SMP_GRP_RESERVE
  omega

theorem Dev.setGroupUse_lowKept (d : Dev) (g use : Nat) : d.LowKept (d.setGroupUse g use) := by
  unfold Dev.setGroupUse
  extract_lets q src
  refine Dev.LowKept.trans (Dev.LowKept.trans (Dev.LowKept.setF (e := { d with sump := { src with
    groupUse := src.groupUse.set g use
    overGroup := src.overGroup.set g q.1 } }) (.of_regs rfl) (F.SMP_GRP_RESERVE.USED g) use (R.smpGrpReserve_ge g))
    (Dev.reportIf_lowKept _ _ _ _)) (Dev.sumpNote_lowKept _)

theorem Dev.LowKept.count {d e : Dev} (h : d.LowKept e) (x : Fld) (n : Nat) (hx : 0x60000 ≤ x.addr) : d.LowKept (e.count x n) :=
  h.setF x _ hx

theorem Dev.LowKept.flag {d e : Dev} (h : d.LowKept e) (x : Fld) (hb : x.lo ≤ x.hi + 1 ∧ x.hi < 32) (hx : 0x60000 ≤ x.addr) :
    d.LowKept (e.flag x) := by
  have ho : e.Only (e.flag x) [x, intBit (intBitOf x.addr)] := (Dev.Only.refl e _).flag x ⟨hb.1, hb.2, x, by simp, rfl, le_rfl, le_rfl⟩
    (intBit_within rfl (intBitOf_lt _) (by simp))
  refine h.trans (.only ho ?_)
  rw [List.forall_mem_cons]
  exact ⟨.inl hx, by simp [intBit]⟩

theorem Dev.LowKept.flagIf {d e : Dev} (h : d.LowKept e) (b : Bool) (x : Fld) (hb : x.lo ≤ x.hi + 1 ∧ x.hi < 32) (hx : 0x60000 ≤ x.addr) :
    d.LowKept (e.flagIf b x) := by
  unfold Dev.flagIf
  split
  · exact h.flag x hb hx
  · exact h

theorem Dev.setMeas_lowKept (d : Dev) (ms : List SurMeas) : d.LowKept (d.setMeas ms) := by
  unfold Dev.setMeas
  extract_lets src
  refine Dev.LowKept.trans ?_ (Dev.setSurveyUse_lowKept _ _)
  exact Dev.LowKept.setF (e := { d with sur := { src with meas := ms } }) (.of_regs rfl) F.SUR_STATUS.CELLS_USED _ (by decide)

theorem Dev.surveyDisarm_lowKept (d : Dev) : d.LowKept d.surveyDisarm := by
  unfold Dev.surveyDisarm
  extract_lets n src e
  have he : d.LowKept e := Dev.LowKept.setF (Dev.LowKept.trans (e := { d with sur := { src with
    lines := []
    jobs := []
    active := false } }) (.of_regs rfl) (Dev.setMeas_lowKept _ _)) F.SUR_STATUS.ACTIVE _ (by decide)
  exact he.count F.SUR_COUNT.DROP_COUNT _ (by decide)

theorem Dev.clearHist_lowKept (d : Dev) : d.LowKept d.clearHist := by
  unfold Dev.clearHist
  extract_lets k src
  refine Dev.LowKept.trans (e := k) ?_ (.of_regs rfl)
  refine Dev.lowKept_foldl (f := fun (d : Dev) (h : Placed) => match d.bar.bind (fun b => b.mods[h.module]?) with
    | some m => if h.cells = 0 then d else d.setGroupUse m.group (d.groupUse m.group - h.cells)
    | none => d) (fun d h => ?_) _ _
  split
  · split
    · exact .refl d
    · exact Dev.setGroupUse_lowKept _ _ _
  · exact .refl d

theorem Dev.clearDark_lowKept (d : Dev) : d.LowKept d.clearDark := by
  unfold Dev.clearDark
  extract_lets src e src2
  have he : d.LowKept e := .of_regs rfl
  split
  · exact he.trans (Dev.LowKept.trans (e := { e with gal := { src2 with
      dark := []
      prev := []
      prevK := none
      prevLeadK := none } }) (.of_regs rfl) (Dev.clearHist_lowKept _))
  · exact he

theorem Dev.haulEvent_regs (d : Dev) (n : Nat) : (d.haulEvent n).regs = d.regs ∧ (d.haulEvent n).shd = d.shd := by
  unfold Dev.haulEvent
  split <;> exact ⟨rfl, rfl⟩

theorem Dev.refreshLock_lowKept (d : Dev) : d.LowKept d.refreshLock := by
  unfold Dev.refreshLock
  exact Dev.LowKept.setB (.refl d) F.SHD_CTRL.SHADOW_LOCKED _ (by decide)
theorem Dev.refreshLock_track (d : Dev) : d.refreshLock.shd.track = d.shd.track := by
  rw [Dev.refreshLock, Dev.setB, Dev.setF_shd]

theorem Dev.regs_setShd (d : Dev) (x : Shading) : { d with shd := x }.regs = d.regs := rfl

/-- The end of a swap: the lock is shown and Haul's event raised. -/
theorem Dev.swap_end {d e d2 : Dev} (he : d.LowKept e) (hr : d2.regs = e.regs) (ht : d2.shd.track = []) :
    d.LowKept (d2.refreshLock.haulEvent 13) ∧ (d2.refreshLock.haulEvent 13).shd.track = [] := by
  obtain ⟨h1, h2⟩ := Dev.haulEvent_regs d2.refreshLock 13
  refine ⟨((he.trans (.of_regs hr)).trans d2.refreshLock_lowKept).trans (.of_regs h1), ?_⟩
  rw [h2, Dev.refreshLock_track, ht]

theorem Dev.swap_spec (d : Dev) : d.LowKept d.swap ∧ d.swap.shd.track = [] := by
  unfold Dev.swap
  extract_lets e src
  have he : d.LowKept e := Dev.LowKept.trans (Dev.LowKept.setF (.refl d) F.SHD_CTRL.ACTIVE_SET _ (by decide))
    (Dev.LowKept.flag (.refl _) F.SHD_STATUS.SWAPPED (by decide) (by decide))
  exact Dev.swap_end he (d2 := { e with shd := { src with
      track := []
      swapSoon := false } }) (Dev.regs_setShd e _) rfl

theorem Dev.offerShadow_spec (d : Dev) : d.LowKept d.offerShadow ∧ (d.shd.track = [] → d.offerShadow.shd.track = []) := by
  unfold Dev.offerShadow
  split
  · exact ⟨.refl d, id⟩
  · split
    · exact ⟨.of_regs rfl, id⟩
    · exact ⟨d.swap_spec.1, fun _ => d.swap_spec.2⟩

/-! ## Arming -/

/-- Registers alone change in a reschedule, and those of the durations and the cap. -/
theorem Dev.reschedule_only (d : Dev) : d.Only d.reschedule [F.LTN_TSEQ.DURATION, F.LTN_TLSEQ.DURATION, whole R.LTN_CAP] := by
  unfold Dev.reschedule
  split
  · exact (((Dev.Only.refl _ _).setF _ _ (by simp [Fld.within])).setF _ _ (by simp [Fld.within])).setReg _ _ (by simp [Fld.within, whole])
  · extract_lets ts tl d1 m l byLead
    have h1 : d.Only d1 [F.LTN_TSEQ.DURATION, F.LTN_TLSEQ.DURATION, whole R.LTN_CAP] :=
      ((Dev.Only.refl _ _).setF _ _ (by simp [Fld.within])).setF _ _ (by simp [Fld.within])
    split
    · exact (h1.setF _ _ (by simp [Fld.within, whole])).setB _ _ (by simp [Fld.within, whole])
    · exact h1.setReg _ _ (by simp [Fld.within, whole])

/-- Disarmed, the cap is 0. -/
theorem Dev.reschedule_cap {d : Dev} (h : d.armed = false) : d.reschedule.f F.LTN_CAP.V_CAP = 0 := by
  unfold Dev.reschedule
  split
  · exact Dev.f_setReg_same _ _ _ _ _
  · extract_lets ts tl d1 m l byLead
    have h1 : d1.armed = false := by
      rw [← h]
      exact congrArg (fun n => decide (n ≠ 0)) ((Dev.f_setF_ne _ _ _ _ (by decide)).trans (Dev.f_setF_ne _ _ _ _ (by decide)))
    rw [h1]
    exact Dev.f_setReg_same _ _ _ _ _

theorem R.surWinD_ge (w : Nat) : 0x60000 ≤ R.SUR_WIN_D w := by
  unfold R.SUR_WIN_D
  omega

theorem Dev.regsTo_foldl {α : Type} {f : Dev → α → Dev} (h : ∀ (d : Dev) x, d.RegsTo (f d x)) (l : List α) (d : Dev) : d.RegsTo (l.foldl f d) := by
  induction l generalizing d with
  | nil => exact .refl d
  | cons x t ih => exact (h d x).trans (ih _)

/-- The survey's part of arming. -/
theorem Dev.surveyArm_spec (d : Dev) : d.LowKept d.surveyArm ∧ d.surveyArm.gal = d.gal ∧ d.surveyArm.ltn = d.ltn := by
  unfold Dev.surveyArm
  split
  · refine ⟨?_, Dev.setF_gal _ _ _, Dev.setF_ltn _ _ _⟩
    exact Dev.LowKept.setF (.of_regs rfl) F.SUR_STATUS.ACTIVE _ (by decide)
  · extract_lets ok e on src
    have he : d.LowKept e := Dev.lowKept_foldl (fun d w => Dev.LowKept.setF (.refl d) (F.SUR_WIN_D.D_W w) _ (R.surWinD_ge w)) _ _
    have hr : d.RegsTo e := Dev.regsTo_foldl (fun d w => Dev.RegsTo.setF (.refl d) (F.SUR_WIN_D.D_W w) _) _ _
    clear_value e on
    obtain ⟨k, hk⟩ : ∃ k, k = Dev.setB { e with sur := { src with
        active := on
        passed := ok } } F.SUR_STATUS.ACTIVE on := ⟨_, rfl⟩
    have hkl : d.LowKept k := by
      rw [hk]
      exact Dev.LowKept.setB (he.trans (.of_regs rfl)) F.SUR_STATUS.ACTIVE _ (by decide)
    have hkg : k.gal = d.gal ∧ k.ltn = d.ltn := by
      rw [hk, Dev.setB, Dev.setF_gal, Dev.setF_ltn]
      exact ⟨hr.eq Dev.gal fun _ => rfl, hr.eq Dev.ltn fun _ => rfl⟩
    refine hk ▸ ⟨hkl.flagIf _ F.SUR_STATUS.NO_LEAD (by decide) (by decide), ?_, ?_⟩
    · rw [Dev.flagIf_gal, hkg.1]
    · rw [Dev.flagIf_ltn, hkg.2]

/-! ## Disarming -/

theorem Dev.rbRestarts_regs (d : Dev) (l : List Nat) : (l.foldl (fun d g => d.rbRestart g) d).regs = d.regs ∧
    (l.foldl (fun d g => d.rbRestart g) d).shd = d.shd := by
  induction l generalizing d with
  | nil => exact ⟨rfl, rfl⟩
  | cons g t ih => exact ih (d.rbRestart g)

theorem Dev.reconFallback_regs (d : Dev) (lead : Bool) (k : Option Int) : (d.reconFallback lead k).regs = d.regs ∧
    (d.reconFallback lead k).shd = d.shd := ⟨rfl, rfl⟩

theorem Dev.offerShadow_soon {d : Dev} (h : d.shd.track = []) :
    d.LowKept (Dev.offerShadow { d with shd := { d.shd with swapSoon := false } }) ∧
    (Dev.offerShadow { d with shd := { d.shd with swapSoon := false } }).shd.track = [] := by
  obtain ⟨o1, o2⟩ := Dev.offerShadow_spec { d with shd := { d.shd with swapSoon := false } }
  have h0 : d.LowKept { d with shd := { d.shd with swapSoon := false } } := .of_regs (Dev.regs_setShd d _)
  exact ⟨h0.trans o1, o2 h⟩

/-- What disarming leaves: the grid's registers as the disarming shows them, and no tracking. -/
theorem Dev.disarm_spec {d : Dev} (h : d.f F.LTN_GRID_CTRL.ARMED = 1) (cause : Nat) (hc : cause < 8) :
    (d.disarm cause).f F.LTN_GRID_CTRL.ARMED = 0 ∧ (d.disarm cause).f F.LTN_STATUS.DISARM_CAUSE = cause ∧
    (d.disarm cause).f F.LTN_STATUS.GRID_DISARMED = 1 ∧ (d.disarm cause).shd.track = [] := by
  unfold Dev.disarm
  extract_lets d1 d2 src d3 d4 d5 src2
  have h1 : d1.f F.LTN_GRID_CTRL.ARMED = 0 ∧ d1.f F.LTN_STATUS.DISARM_CAUSE = cause :=
    ⟨(Dev.f_setF_ne _ _ _ _ (by decide)).trans (Dev.f_same _ _ _ _ _ (by decide) (by decide)),
      (Dev.f_same _ _ _ _ _ (by decide) (by decide)).trans (Nat.mod_eq_of_lt hc)⟩
  have h2 : d2.f F.LTN_GRID_CTRL.ARMED = 0 ∧ d2.f F.LTN_STATUS.DISARM_CAUSE = cause ∧ d2.f F.LTN_STATUS.GRID_DISARMED = 1 := by
    clear_value d1
    have hl : (d1.flag F.LTN_STATUS.GRID_DISARMED).reschedule.LowKept d2 := (Dev.surveyDisarm_lowKept _).trans (Dev.clearDark_lowKept _)
    have hr := (d1.flag F.LTN_STATUS.GRID_DISARMED).reschedule_only
    clear_value d2
    rw [hl.f (by decide) (by decide), hl.f (by decide) (by decide), hl.f (by decide) (by decide), hr.f _ (by decide), hr.f _ (by decide),
      hr.f _ (by decide), Dev.f_flag_other _ _ _ _ _ (by decide) (by decide), h1.1, Dev.f_flag_same _ _ _ (by decide) (by decide),
      Dev.f_flag_apart' _ _ _ _ _ (by decide) (by decide) (by decide), h1.2]
    exact ⟨rfl, rfl, rfl⟩
  clear_value d2
  obtain ⟨h5, h5t⟩ : d5.regs = d2.regs ∧ d5.shd.track = [] := by
    obtain ⟨g1, g2⟩ := d3.rbRestarts_regs (List.range 8)
    obtain ⟨r1, r2⟩ := d4.reconFallback_regs false none
    obtain ⟨s1, s2⟩ := (d4.reconFallback false none).reconFallback_regs true none
    exact ⟨((s1.trans r1).trans g1).trans (Dev.regs_setShd _ _), congrArg Shading.track ((s2.trans r2).trans g2)⟩
  clear_value d5
  rw [if_neg (by rw [Dev.armed, Dev.on_one h]; decide)]
  have hfin (e : Dev) (he : d5.LowKept e) (ht : e.shd.track = []) : e.f F.LTN_GRID_CTRL.ARMED = 0 ∧ e.f F.LTN_STATUS.DISARM_CAUSE = cause ∧
      e.f F.LTN_STATUS.GRID_DISARMED = 1 ∧ e.shd.track = [] := by
    rw [he.f (by decide) (by decide), he.f (by decide) (by decide), he.f (by decide) (by decide), Dev.f_regs h5, Dev.f_regs h5, Dev.f_regs h5]
    exact ⟨h2.1, h2.2.1, h2.2.2, ht⟩
  split
  · obtain ⟨o1, o2⟩ := Dev.offerShadow_soon (d := d5) h5t
    exact hfin _ o1 o2
  · exact hfin _ (.refl _) h5t

/-! ## A write of the control register -/

theorem xor_and_eq_zero {v w m : Word} (h : v &&& m = w &&& m) : (v ^^^ w) &&& m = 0#32 := by
  refine BitVec.eq_of_getLsbD_eq fun i _ => ?_
  have hi := congrArg (·.getLsbD i) h
  simp only [BitVec.getLsbD_and, BitVec.getLsbD_xor, BitVec.getLsbD_zero] at hi ⊢
  revert hi
  cases v.getLsbD i <;> cases w.getLsbD i <;> simp

theorem and_eq_of_xor {v w m : Word} (h : (v ^^^ w) &&& m = 0#32) : v &&& m = w &&& m := by
  refine BitVec.eq_of_getLsbD_eq fun i _ => ?_
  have hi := congrArg (·.getLsbD i) h
  simp only [BitVec.getLsbD_and, BitVec.getLsbD_xor, BitVec.getLsbD_zero] at hi ⊢
  revert hi
  cases v.getLsbD i <;> cases w.getLsbD i <;> simp

theorem bitsOf_congr {v w : Word} {hi lo : Nat} (h : ∀ i, lo ≤ i → i ≤ hi → v.getLsbD i = w.getLsbD i) :
    bitsOf v.toNat hi lo = bitsOf w.toNat hi lo := by
  unfold bitsOf
  apply Nat.eq_of_testBit_eq
  intro i
  rw [Nat.testBit_mod_two_pow, Nat.testBit_mod_two_pow, Nat.testBit_div_two_pow, Nat.testBit_div_two_pow]
  by_cases hi : i < hi + 1 - lo
  · rw [BitVec.testBit_toNat, BitVec.testBit_toNat, h _ (by omega) (by omega)]
  · simp [hi]

theorem and_mask_of {v w m m' : Word} (h : v &&& m = w &&& m) (hm : m &&& m' = m') : v &&& m' = w &&& m' := by
  rw [← hm, ← BitVec.and_assoc, ← BitVec.and_assoc, h]

theorem Dev.pitch_setCtrl {d : Dev} {v : Word} (h : v &&& 0x3000FF00#32 = d.reg R.LTN_GRID_CTRL &&& 0x3000FF00#32) :
    (d.setReg R.LTN_GRID_CTRL ((v &&& 0x7F00FF00#32) ||| (d.reg R.LTN_GRID_CTRL &&& 0x80000000#32))).pitch = d.pitch := by
  refine congrArg (fun n => [6000, 12000, 24000, 6000].getD n 6000) ?_
  change bitsOf (Dev.reg _ R.LTN_GRID_CTRL).toNat 29 28 = bitsOf (d.reg R.LTN_GRID_CTRL).toNat 29 28
  rw [Dev.reg_setReg_self]
  refine bitsOf_congr fun i h1 h2 => ?_
  obtain rfl | rfl : i = 28 ∨ i = 29 := by omega
  · simpa using congrArg (·.getLsbD 28) h
  · simpa using congrArg (·.getLsbD 29) h

/-- A write that keeps PITCH and PLANE_ORDER, up to what it does with ARMED. -/
theorem Dev.gridCtrlWrite_of {d : Dev} (rq : Req) {v : Word} (h : v &&& 0x3000FF00#32 = d.reg R.LTN_GRID_CTRL &&& 0x3000FF00#32)
    (h28 : v.toNat / 2 ^ 28 % 4 ≠ 3) (h24 : v.toNat / 2 ^ 24 % 4 ≠ 3) (h23 : bitOf v.toNat 23 = false)
    (hl : d.armed = true → v &&& 0x3F00FF00#32 = d.reg R.LTN_GRID_CTRL &&& 0x3F00FF00#32) {e : Dev}
    (he : e = d.setReg R.LTN_GRID_CTRL ((v &&& 0x7F00FF00#32) ||| (d.reg R.LTN_GRID_CTRL &&& 0x80000000#32))) :
    d.gridCtrlWrite rq v = if d.armed && !bitOf v.toNat 31 then e.disarm 1 else if !d.armed && bitOf v.toNat 31 then e.arm else e := by
  subst he
  unfold Dev.gridCtrlWrite
  extract_lets a old was pitch d1 d2 d3 want d4
  have hb28 : bitsOf v.toNat 29 28 = v.toNat / 2 ^ 28 % 4 := rfl
  have hb24 : bitsOf v.toNat 25 24 = v.toNat / 2 ^ 24 % 4 := rfl
  have hlock : ¬ (d.armed && decide ((v ^^^ old) &&& 0x3F00FF00#32 ≠ 0#32)) = true := by
    cases ha : d.armed
    case false => simp
    case true => simp [xor_and_eq_zero (w := old) (hl ha)]
  rw [if_neg (by rw [hb28, hb24]; tauto), if_neg hlock]
  have hp : d1.pitch = pitch := Dev.pitch_setCtrl h
  have hd2 : d2 = d1 := if_pos hp
  have hd3 : d3 = d1 := (if_pos (xor_and_eq_zero (and_mask_of h (by decide)))).trans hd2
  refine (if_neg (by rw [h23]; simp)).trans ?_
  change (if (d.armed && !bitOf v.toNat 31) = true then d3.disarm 1 else if (!d.armed && bitOf v.toNat 31) = true then d3.arm else d3) = _
  rw [hd3]

/-- A write that changes a field of an armed grid, apart from ARMED and ARM_MODE. -/
theorem Dev.gridCtrlWrite_locked {d : Dev} (rq : Req) {v : Word} (h28 : v.toNat / 2 ^ 28 % 4 ≠ 3) (h24 : v.toNat / 2 ^ 24 % 4 ≠ 3)
    (ha : d.armed = true) (hl : v &&& 0x0F000000#32 ≠ d.reg R.LTN_GRID_CTRL &&& 0x0F000000#32) :
    d.gridCtrlWrite rq v = d.accessErr rq false .locked R.LTN_GRID_CTRL := by
  have hb28 : bitsOf v.toNat 29 28 = v.toNat / 2 ^ 28 % 4 := rfl
  have hb24 : bitsOf v.toNat 25 24 = v.toNat / 2 ^ 24 % 4 := rfl
  have hx : (v ^^^ d.reg R.LTN_GRID_CTRL) &&& 0x3F00FF00#32 ≠ 0#32 := by
    intro h0
    exact hl (and_mask_of (m := 0x3F00FF00#32) (and_eq_of_xor h0) (by decide))
  unfold Dev.gridCtrlWrite
  extract_lets a old
  rw [if_neg (by rw [hb28, hb24]; tauto), if_pos (by rw [ha]; simpa using hx)]

/-- Two words that agree but for bit 31. -/
def sameLow (v w : Word) : Prop := ∀ i < 31, w.getLsbD i = v.getLsbD i

theorem sameLow_or (v : Word) : sameLow v (v ||| 0x80000000#32) := by
  intro i hi
  have h0 : ∀ i < 31, (0x80000000#32).getLsbD i = false := by decide
  rw [BitVec.getLsbD_or, h0 i hi, Bool.or_false]

theorem sameLow_and (v : Word) : sameLow v (v &&& 0x7FFFFFFF#32) := by
  intro i hi
  have h0 : ∀ i < 31, (0x7FFFFFFF#32).getLsbD i = true := by decide
  rw [BitVec.getLsbD_and, h0 i hi, Bool.and_true]

theorem sameLow.and {v w : Word} (h : sameLow v w) {m : Word} (hm : m.getLsbD 31 = false) : w &&& m = v &&& m := by
  refine BitVec.eq_of_getLsbD_eq fun i hi => ?_
  rw [BitVec.getLsbD_and, BitVec.getLsbD_and]
  by_cases h31 : i = 31
  · rw [h31, hm, Bool.and_false, Bool.and_false]
  · rw [h i (by omega)]

theorem sameLow.bitsOf {v w : Word} (h : sameLow v w) {hi lo : Nat} (hh : hi < 31) : bitsOf w.toNat hi lo = bitsOf v.toNat hi lo :=
  bitsOf_congr fun i _ h2 => h i (by omega)

theorem sameLow.bitOf {v w : Word} (h : sameLow v w) {i : Nat} (hi : i < 31) : bitOf w.toNat i = bitOf v.toNat i := by
  rw [bitOf_testBit, bitOf_testBit, BitVec.testBit_toNat, BitVec.testBit_toNat, h i hi]

theorem and_bit31_of_off {d : Dev} (h : d.f F.LTN_GRID_CTRL.ARMED = 0) : d.reg R.LTN_GRID_CTRL &&& 0x80000000#32 = 0#32 := by
  have h31 : (d.reg R.LTN_GRID_CTRL).getLsbD 31 = false := by
    rw [← BitVec.testBit_toNat, ← bitOf_testBit]
    change decide (d.f F.LTN_GRID_CTRL.ARMED = 1) = false
    rw [h]
    rfl
  have h0 : ∀ i < 31, (0x80000000#32).getLsbD i = false := by decide
  refine BitVec.eq_of_getLsbD_eq fun i hi => ?_
  rw [BitVec.getLsbD_and, BitVec.getLsbD_zero]
  by_cases hi31 : i = 31
  · rw [hi31, h31, Bool.false_and]
  · rw [h0 i (by omega), Bool.and_false]

theorem Dev.armCode_lt (d : Dev) : d.armCode < 4 := by
  unfold Dev.armCode
  extract_lets modes
  split
  · decide
  · repeat' split
    all_goals decide

theorem Dev.arm_refused {d : Dev} (h : d.armCode ≠ 0) : d.arm = (d.setF F.LTN_GRID_CTRL.ARMED 0).setF F.LTN_STATUS.ARM_ERR d.armCode := by
  unfold Dev.arm
  exact if_pos h

theorem Dev.hwmLo_setLeadHwm (d : Dev) (x : Int) : (d.setLeadHwm x).reg R.LTN_HWM_LO = d.reg R.LTN_HWM_LO := by
  rw [Dev.setLeadHwm, Dev.set64, Dev.reg_setReg_ne _ _ (by decide), Dev.reg_setReg_ne _ _ (by decide)]

/-- An arming that succeeds. -/
theorem Dev.arm_taken {d : Dev} (h : d.armCode = 0) : d.arm.f F.LTN_GRID_CTRL.ARMED = 1 ∧ d.arm.gal.fresh = true ∧ d.arm.gal.freshLead = true ∧
    (d.f F.LTN_GRID_CTRL.ARM_MODE = 0 → d.arm.ltn.lastK = none ∧
      d.arm.reg R.LTN_HWM_LO = BitVec.ofNat 32 (unsigned 64 (d.origin + divFloor (d.feedTicks - d.origin) d.pitch * d.pitch))) := by
  unfold Dev.arm
  extract_lets code keep d1 d2 src src2 d3
  rw [if_neg (not_not.mpr h)]
  obtain ⟨s1, s2, s3⟩ := (d3.setF F.LTN_GRID_CTRL.ARMED 1).reschedule.surveyArm_spec
  have hr := (d3.setF F.LTN_GRID_CTRL.ARMED 1).reschedule_only
  have hg : (d3.setF F.LTN_GRID_CTRL.ARMED 1).reschedule.gal = d3.gal := (Dev.RegsOut.eq hr.1 Dev.gal fun _ _ _ => rfl).trans (Dev.setF_gal _ _ _)
  have hl : (d3.setF F.LTN_GRID_CTRL.ARMED 1).reschedule.ltn = d3.ltn := (Dev.RegsOut.eq hr.1 Dev.ltn fun _ _ _ => rfl).trans (Dev.setF_ltn _ _ _)
  have h3 : d3.gal.fresh = true ∧ d3.gal.freshLead = true ∧ d3.ltn.lastK = if keep then some (divFloor (d2.hwm - d2.origin) d2.pitch) else none :=
    ⟨rfl, rfl, rfl⟩
  have h3r : d3.reg R.LTN_HWM_LO = d1.reg R.LTN_HWM_LO :=
    (Dev.reg_regs (show d3.regs = d2.regs from rfl) _).trans (Dev.hwmLo_setLeadHwm _ _)
  rw [s1.f (by decide) (by decide), s2, s3, s1 R.LTN_HWM_LO (by decide) (by decide), hg, hl, hr.f _ (by decide), hr.reg _ (by decide)]
  refine ⟨Dev.f_same _ _ _ _ _ (by decide) (by decide), h3.1, h3.2.1, fun hk => ?_⟩
  have hkeep : keep = false := Dev.on_zero hk
  refine ⟨by rw [h3.2.2, hkeep]; rfl, ?_⟩
  have hd1 : d1 = d.setHwm (d.origin + divFloor (d.feedTicks - d.origin) d.pitch * d.pitch) := if_neg (by rw [hkeep]; decide)
  rw [Dev.reg_setF_ne _ _ _ (by decide), h3r, hd1, Dev.setHwm, Dev.set64, Dev.reg_setReg_ne _ _ (by decide), Dev.reg_setReg_self]

/-- A write of ARMED = 1 to a disarmed grid arms it. -/
theorem Dev.gridCtrlWrite_arms {d d1 : Dev} (rq : Req) {v : Word} (h : v &&& 0x3000FF00#32 = d.reg R.LTN_GRID_CTRL &&& 0x3000FF00#32)
    (h28 : v.toNat / 2 ^ 28 % 4 ≠ 3) (h24 : v.toNat / 2 ^ 24 % 4 ≠ 3) (h23 : bitOf v.toNat 23 = false) (hoff : d.f F.LTN_GRID_CTRL.ARMED = 0)
    (hd1 : d1 = d.setReg R.LTN_GRID_CTRL (v &&& 0x7F00FF00#32)) : d.gridCtrlWrite rq (v ||| 0x80000000#32) = d1.arm := by
  have hl := sameLow_or v
  have h31 : bitOf (v ||| 0x80000000#32).toNat 31 = true := by
    rw [bitOf_testBit, BitVec.testBit_toNat, BitVec.getLsbD_or]
    simp
  have ha : d.armed = false := Dev.on_zero hoff
  rw [Dev.gridCtrlWrite_of (e := d1) rq ((hl.and (by decide)).trans h) ?_ ?_ ((hl.bitOf (by decide)).trans h23) ?_ ?_, if_neg (by rw [ha]; simp),
    if_pos (by rw [ha, h31]; rfl)]
  · exact (hl.bitsOf (hi := 29) (lo := 28) (by decide)).trans_ne h28
  · exact (hl.bitsOf (hi := 25) (lo := 24) (by decide)).trans_ne h24
  · rw [ha]
    exact fun h => absurd h (by decide)
  · rw [hd1, and_bit31_of_off hoff, BitVec.or_zero, hl.and (by decide)]

theorem Dev.armMode_setCtrl {d d1 : Dev} {v : Word} (hd1 : d1 = d.setReg R.LTN_GRID_CTRL (v &&& 0x7F00FF00#32)) (h : v.toNat / 2 ^ 30 % 2 = 0) :
    d1.f F.LTN_GRID_CTRL.ARM_MODE = 0 := by
  rw [← h]
  change bitsOf (d1.reg R.LTN_GRID_CTRL).toNat 30 30 = bitsOf v.toNat 30 30
  rw [hd1, Dev.reg_setReg_self]
  refine bitsOf_congr fun i h1 h2 => ?_
  obtain rfl : i = 30 := by omega
  simp

/-! ## The configuration of the sequences -/

theorem Dev.seqWrite_locked {d : Dev} (h : d.f F.LTN_GRID_CTRL.ARMED = 1) (rq : Req) (a : Nat) (mask v : Word) :
    d.seqWrite rq a mask v = d.accessErr rq false .locked a := by
  unfold Dev.seqWrite
  exact if_pos (Dev.on_one h)

theorem R.ltnChCfg_lt (n : Fin 16) : R.LTN_CH_CFG n < 2 ^ 26 := by
  unfold R.LTN_CH_CFG
  omega

theorem R.ltnChCfg_apart (n : Fin 16) : ∀ x ∈ [F.LTN_TSEQ.DURATION, F.LTN_TLSEQ.DURATION, whole R.LTN_CAP], x.addr ≠ R.LTN_CH_CFG n := by
  have h : ∀ n : Fin 16, ∀ x ∈ [F.LTN_TSEQ.DURATION, F.LTN_TLSEQ.DURATION, whole R.LTN_CAP], x.addr ≠ R.LTN_CH_CFG n := by decide
  exact h n

/-- A write of a disarmed grid's configuration stores, and the durations and the cap follow. -/
theorem Dev.seqWrite_stores {d : Dev} (h : d.f F.LTN_GRID_CTRL.ARMED = 0) (rq : Req) {a : Nat} (mask v : Word)
    (hc : R.LTN_CH_CFG 0 ≤ a → ¬ (bitsOf v.toNat 14 0 < 50 ∨ 20000 < bitsOf v.toNat 14 0) ∧ ¬ (bitsOf v.toNat 29 27 = 5 ∨ bitsOf v.toNat 29 27 = 6)) :
    d.seqWrite rq a mask v = (d.setReg a (v &&& mask)).reschedule := by
  unfold Dev.seqWrite
  extract_lets isCh w role
  rw [if_neg (by rw [Dev.armed, Dev.on_zero h]; decide)]
  by_cases hi : R.LTN_CH_CFG 0 ≤ a
  · obtain ⟨h1, h2⟩ := hc hi
    rw [if_neg, if_neg]
    · simp only [role, Bool.and_eq_true, decide_eq_true_eq]
      exact fun h => h2 h.2
    · simp only [w, Bool.and_eq_true, Bool.or_eq_true, decide_eq_true_eq]
      exact fun h => h1 h.2
  · have hn : isCh = false := decide_eq_false hi
    rw [hn]
    rfl

theorem Dev.seqWrite_width {d : Dev} (h : d.f F.LTN_GRID_CTRL.ARMED = 0) (rq : Req) (n : Fin 16) {v : Word} (mask : Word)
    (hw : bitsOf v.toNat 14 0 < 50 ∨ 20000 < bitsOf v.toNat 14 0) :
    d.seqWrite rq (R.LTN_CH_CFG n) mask v = d.accessErr rq false .value (R.LTN_CH_CFG n) := by
  unfold Dev.seqWrite
  extract_lets isCh w role
  have hc : isCh = true := decide_eq_true (by unfold R.LTN_CH_CFG; omega)
  rw [if_neg (by rw [Dev.armed, Dev.on_zero h]; decide), if_pos]
  rw [hc]
  simpa [w] using hw

/-! ## The obligation -/

/-- Settles O30. -/
theorem arming : Obligations.Arming := by
  intro s rq v d1 haw hk h28 h24 h23
  refine ⟨fun hd1 hoff => ⟨fun hcode => ?_, fun hcode => ?_⟩, fun hon hf => ?_, fun hon hf hfree => ⟨?_, ?_⟩,
    fun n => ⟨fun hon hfree => ⟨?_, ?_, ?_⟩, fun hoff => ⟨?_, ?_, fun h1 h2 h3 h4 => ?_, fun hfree hw => ?_⟩⟩⟩
  · refine State.does (f := fun d => if d.awake then d.gridCtrlWrite rq (v ||| 0x80000000#32) else d) rfl ?_
    rw [if_pos haw, Dev.gridCtrlWrite_arms rq hk h28 h24 h23 hoff hd1, Dev.arm_refused hcode]
    refine ⟨(Dev.f_setF_ne _ _ _ _ (by decide)).trans (Dev.f_same _ _ _ _ _ (by decide) (by decide)),
      (Dev.f_same _ _ _ _ _ (by decide) (by decide)).trans (Nat.mod_eq_of_lt d1.armCode_lt),
      ((Dev.Only.refl _ _).setF _ _ (by simp [Fld.within])).setF _ _ (by simp [Fld.within])⟩
  · refine State.does (f := fun d => if d.awake then d.gridCtrlWrite rq (v ||| 0x80000000#32) else d) rfl ?_
    rw [if_pos haw, Dev.gridCtrlWrite_arms rq hk h28 h24 h23 hoff hd1]
    obtain ⟨a1, a2, a3, a4⟩ := Dev.arm_taken hcode
    refine ⟨a1, a2, a3, fun h30 => ?_⟩
    obtain ⟨b1, b2⟩ := a4 (Dev.armMode_setCtrl hd1 h30)
    have ho : d1.origin = s.dev.origin := by
      rw [hd1, Dev.origin, Dev.origin, Dev.r64i, Dev.r64i, Dev.r64, Dev.r64, Dev.reg_setReg_ne _ _ (by decide), Dev.reg_setReg_ne _ _ (by decide)]
    have ht : d1.feedTicks = s.dev.feedTicks := by
      rw [hd1, Dev.feedTicks, Dev.feedTicks, Dev.ticksOf, Dev.ticksOf, Dev.f_setReg_ne _ _ _ (by decide), Dev.f_setReg_ne _ _ _ (by decide)]
      rfl
    have hp : d1.pitch = s.dev.pitch := by
      have := Dev.pitch_setCtrl hk
      rwa [and_bit31_of_off hoff, BitVec.or_zero, ← hd1] at this
    exact ⟨b1, by rw [b2, ho, ht, hp]⟩
  · have hl := sameLow_and v
    refine State.does (f := fun d => if d.awake then d.gridCtrlWrite rq (v &&& 0x7FFFFFFF#32) else d) rfl ?_
    have h31 : bitOf (v &&& 0x7FFFFFFF#32).toNat 31 = false := by
      rw [bitOf_testBit, BitVec.testBit_toNat, BitVec.getLsbD_and]
      simp
    rw [if_pos haw, Dev.gridCtrlWrite_of (e := s.dev.setReg R.LTN_GRID_CTRL (((v &&& 0x7FFFFFFF#32) &&& 0x7F00FF00#32) ||| (s.dev.reg R.LTN_GRID_CTRL &&& 0x80000000#32)))
      rq ((hl.and (by decide)).trans hk) ?_ ?_ ((hl.bitOf (by decide)).trans h23) (fun _ => (hl.and (by decide)).trans hf) rfl,
      if_pos (by rw [h31, Dev.armed, Dev.on_one hon]; rfl)]
    · refine Dev.disarm_spec ?_ 1 (by decide)
      rw [← hon]
      change bitsOf (Dev.reg _ R.LTN_GRID_CTRL).toNat 31 31 = bitsOf (s.dev.reg R.LTN_GRID_CTRL).toNat 31 31
      rw [Dev.reg_setReg_self]
      refine bitsOf_congr fun i h1 h2 => ?_
      obtain rfl : i = 31 := by omega
      simp
    · exact ((hl.bitsOf (hi := 29) (lo := 28) (by decide)).trans_ne h28)
    · exact ((hl.bitsOf (hi := 25) (lo := 24) (by decide)).trans_ne h24)
  · have hl := sameLow_and v
    refine State.does (f := fun d => if d.awake then d.gridCtrlWrite rq (v &&& 0x7FFFFFFF#32) else d) rfl ?_
    rw [if_pos haw, Dev.gridCtrlWrite_locked rq ((hl.bitsOf (hi := 29) (lo := 28) (by decide)).trans_ne h28)
      ((hl.bitsOf (hi := 25) (lo := 24) (by decide)).trans_ne h24) (Dev.on_one hon) (by rwa [hl.and (by decide)])]
    exact Dev.accessErr_discarded hfree _ (by decide)
  · have hl := sameLow_or v
    refine State.does (f := fun d => if d.awake then d.gridCtrlWrite rq (v ||| 0x80000000#32) else d) rfl ?_
    rw [if_pos haw, Dev.gridCtrlWrite_locked rq ((hl.bitsOf (hi := 29) (lo := 28) (by decide)).trans_ne h28)
      ((hl.bitsOf (hi := 25) (lo := 24) (by decide)).trans_ne h24) (Dev.on_one hon) (by rwa [hl.and (by decide)])]
    exact Dev.accessErr_discarded hfree _ (by decide)
  · refine State.does (f := fun d => if d.awake then d.ltnConfig rq .timing v else d) rfl ?_
    rw [if_pos haw, Dev.ltnConfig, Dev.seqWrite_locked hon]
    exact Dev.accessErr_discarded hfree _ (by decide)
  · refine State.does (f := fun d => if d.awake then d.ltnConfig rq .misc v else d) rfl ?_
    rw [if_pos haw, Dev.ltnConfig, Dev.seqWrite_locked hon]
    exact Dev.accessErr_discarded hfree _ (by decide)
  · refine State.does (f := fun d => if d.awake then d.ltnConfig rq (.channel n) v else d) rfl ?_
    rw [if_pos haw, Dev.ltnConfig, Dev.seqWrite_locked hon]
    exact Dev.accessErr_discarded hfree _ (R.ltnChCfg_lt n)
  · refine State.does (f := fun d => if d.awake then d.ltnConfig rq .timing v else d) rfl ?_
    rw [if_pos haw, Dev.ltnConfig, Dev.seqWrite_stores hoff rq _ _ (fun h => absurd h (by decide))]
    refine ⟨?_, Dev.reschedule_cap ?_⟩
    · rw [(Dev.reschedule_only _).reg _ (by decide), Dev.reg_setReg_self]
    · exact Dev.on_zero ((Dev.f_setReg_ne _ _ _ (by decide)).trans hoff)
  · refine State.does (f := fun d => if d.awake then d.ltnConfig rq .misc v else d) rfl ?_
    rw [if_pos haw, Dev.ltnConfig, Dev.seqWrite_stores hoff rq _ _ (fun h => absurd h (by decide))]
    rw [(Dev.reschedule_only _).reg _ (by decide), Dev.reg_setReg_self]
  · refine State.does (f := fun d => if d.awake then d.ltnConfig rq (.channel n) v else d) rfl ?_
    have h0 : bitsOf v.toNat 14 0 = v.toNat % 2 ^ 15 := congrArg (· % 32768) (Nat.div_one _)
    have h27 : bitsOf v.toNat 29 27 = v.toNat / 2 ^ 27 % 8 := rfl
    rw [if_pos haw, Dev.ltnConfig, Dev.seqWrite_stores hoff rq _ _ (fun _ => ⟨by rw [h0]; omega, by rw [h27]; tauto⟩)]
    rw [(Dev.reschedule_only _).reg _ (R.ltnChCfg_apart n), Dev.reg_setReg_self]
  · refine State.does (f := fun d => if d.awake then d.ltnConfig rq (.channel n) v else d) rfl ?_
    have h0 : bitsOf v.toNat 14 0 = v.toNat % 2 ^ 15 := congrArg (· % 32768) (Nat.div_one _)
    rw [if_pos haw, Dev.ltnConfig, Dev.seqWrite_width hoff rq n _ (by rwa [h0])]
    exact Dev.accessErr_discarded hfree _ (R.ltnChCfg_lt n)

end Sys2Proof.Machine
end

section
/-! SUPPORT. Lantern's sequencers and the line sets: what leaves them alone at a line boundary (R108, R123, R125 to R127). -/

namespace Sys2Proof.Machine

/-! ## The view -/

/-- What names a line set, and whether its sequence has ended. -/
def LineSet.key (l : LineSet) : Nat × Bool × Option Int × Int × Bool := (l.serial, l.lead, l.grid, l.k, l.ended)

/-- The sequencers with their queues and counters, and the line sets by name. -/
def Dev.seqView (d : Dev) : (Option SeqRun × Option SeqRun × List Trig × List Trig × Nat × Nat) × List (Nat × Bool × Option Int × Int × Bool) ×
    Option Bar :=
  ((d.ltn.main, d.ltn.lead, d.ltn.mainQ, d.ltn.leadQ, d.ltn.serial, d.ltn.soft), d.gal.lines.map LineSet.key, d.bar)

theorem Dev.seqView_of {d e : Dev} (hl : e.ltn = d.ltn) (hg : e.gal = d.gal) (hb : e.bar = d.bar) : e.seqView = d.seqView := by
  unfold Dev.seqView
  rw [hl, hg, hb]

theorem Dev.PowerOut.seqView {d e : Dev} (h : d.PowerOut e) : e.seqView = d.seqView :=
  Dev.seqView_of (h.eq Dev.ltn fun _ _ _ _ _ _ _ => rfl) (h.eq Dev.gal fun _ _ _ _ _ _ _ => rfl) (h.eq Dev.bar fun _ _ _ _ _ _ _ => rfl)

theorem Dev.RegsOut.seqView {d e : Dev} (h : d.RegsOut e) : e.seqView = d.seqView := h.powerOut.seqView

theorem Dev.CtxOut.seqView {d e : Dev} (h : d.CtxOut e) : e.seqView = d.seqView :=
  Dev.seqView_of (h.eq Dev.ltn fun _ _ _ _ _ _ => rfl) (h.eq Dev.gal fun _ _ _ _ _ _ => rfl) (h.eq Dev.bar fun _ _ _ _ _ _ => rfl)

theorem Dev.seqView_foldl {α : Type} {f : Dev → α → Dev} (h : ∀ (d : Dev) x, (f d x).seqView = d.seqView) (l : List α) (d : Dev) :
    (l.foldl f d).seqView = d.seqView := by
  induction l generalizing d with
  | nil => rfl
  | cons x t ih => exact (ih _).trans (h d x)

theorem Dev.seqView_setF (d : Dev) (x : Fld) (v : Nat) : (d.setF x v).seqView = d.seqView := (d.setF_regsOut x v).seqView
theorem Dev.seqView_setReg (d : Dev) (a : Nat) (w : Word) : (d.setReg a w).seqView = d.seqView := (d.setReg_powerOut a w).seqView
theorem Dev.seqView_setB (d : Dev) (x : Fld) (v : Bool) : (d.setB x v).seqView = d.seqView := d.seqView_setF x _
theorem Dev.seqView_count (d : Dev) (x : Fld) (n : Nat) : (d.count x n).seqView = d.seqView := d.seqView_setF x _
theorem Dev.seqView_emit (d : Dev) (o : Out) : (d.emit o).seqView = d.seqView := (d.emit_regsOut o).seqView
theorem Dev.seqView_flag (d : Dev) (x : Fld) : (d.flag x).seqView = d.seqView := (d.flag_regsOut x).seqView
theorem Dev.seqView_flagIf (d : Dev) (b : Bool) (x : Fld) : (d.flagIf b x).seqView = d.seqView := (d.flagIf_regsOut b x).seqView
theorem Dev.seqView_irq (d : Dev) (b : Nat) : (d.irq b).seqView = d.seqView := (d.irq_regsOut b).seqView
theorem Dev.seqView_setCh (d : Dev) (g c : Nat) (x : AfeCh) : (d.setCh g c x).seqView = d.seqView := (d.setCh_powerOut g c x).seqView
theorem Dev.seqView_setGrp (d : Dev) (g : Nat) (x : AfeGrp) : (d.setGrp g x).seqView = d.seqView := Dev.seqView_of rfl rfl rfl

theorem Dev.seqView_haulEvent (d : Dev) (n : Nat) : (d.haulEvent n).seqView = d.seqView := by
  unfold Dev.haulEvent
  split
  · exact Dev.seqView_of rfl rfl rfl
  · rfl

/-- A change of line sets that leaves their names. -/
theorem Dev.seqView_mapLines (d : Dev) {f : LineSet → LineSet} (hf : ∀ l, (f l).key = l.key) : (d.mapLines f).seqView = d.seqView := by
  unfold Dev.seqView
  have h : (d.mapLines f).gal.lines.map LineSet.key = d.gal.lines.map LineSet.key := by
    change (d.gal.lines.map f).map LineSet.key = _
    rw [List.map_map]
    exact List.map_congr_left fun l _ => hf l
  rw [h]
  rfl

theorem Dev.seqView_mapLine (d : Dev) (n : Nat) {f : LineSet → LineSet} (hf : ∀ l, (f l).key = l.key) : (d.mapLine n f).seqView = d.seqView := by
  refine d.seqView_mapLines fun l => ?_
  split
  · exact hf l
  · rfl

theorem Dev.seqView_markChecked (d : Dev) {f : LineSet → LineSet} (hf : ∀ l, (f l).key = l.key) : (d.markChecked f).seqView = d.seqView := by
  unfold Dev.markChecked
  split
  · exact d.seqView_mapLine _ hf
  · rfl

theorem Dev.seqView_reconFallback (d : Dev) (lead : Bool) (k : Option Int) : (d.reconFallback lead k).seqView = d.seqView := by
  unfold Dev.reconFallback
  extract_lets next
  have hmark : ∀ (c : Bool) (l : LineSet), LineSet.key (if c = true then { l with fallback := true } else l) = l.key := by
    intro c l
    cases c <;> rfl
  exact d.seqView_mapLines fun l => hmark _ l

/-! ## The cells of Sump -/

theorem Dev.seqView_reportIf (d : Dev) (b : Bool) (kind holder : Nat) : (d.reportIf b kind holder).seqView = d.seqView :=
  Dev.RegsOut.seqView (d.reportIf_only b kind holder).1

theorem Dev.seqView_sumpNote (d : Dev) : d.sumpNote.seqView = d.seqView := d.sumpNote_powerOut.seqView

theorem Dev.seqView_setGroupUse (d : Dev) (g use : Nat) : (d.setGroupUse g use).seqView = d.seqView := by
  unfold Dev.setGroupUse
  extract_lets q src
  refine (Dev.seqView_sumpNote _).trans ((Dev.seqView_reportIf _ _ _ _).trans ((Dev.seqView_setF _ _ _).trans ?_))
  exact Dev.seqView_of rfl rfl rfl

theorem Dev.seqView_setSurveyUse (d : Dev) (use : Nat) : (d.setSurveyUse use).seqView = d.seqView := by
  unfold Dev.setSurveyUse
  extract_lets q src
  refine (Dev.seqView_sumpNote _).trans ((Dev.seqView_reportIf _ _ _ _).trans ?_)
  exact Dev.seqView_of rfl rfl rfl

theorem Dev.seqView_setMeas (d : Dev) (ms : List SurMeas) : (d.setMeas ms).seqView = d.seqView := by
  unfold Dev.setMeas
  extract_lets src
  refine (Dev.seqView_setSurveyUse _ _).trans ((Dev.seqView_setF _ _ _).trans ?_)
  exact Dev.seqView_of rfl rfl rfl

theorem Dev.seqView_closeMeas (d : Dev) (k : Int) : (d.closeMeas k).seqView = d.seqView := by
  unfold Dev.closeMeas
  extract_lets d1 ks
  exact (Dev.seqView_of rfl rfl rfl : _ = d1.seqView).trans (d.seqView_setMeas _)

theorem Dev.seqView_surveyLost (d : Dev) (k : Int) : (d.surveyLost k).seqView = d.seqView := by
  unfold Dev.surveyLost
  split
  · exact (Dev.seqView_count _ _ _).trans (d.seqView_closeMeas k)
  · rfl

/-! ## The line boundary -/

theorem Dev.seqView_applyRange (d : Dev) (g c : Nat) : (d.applyRange g c).seqView = d.seqView := by
  unfold Dev.applyRange
  split
  · exact (Dev.seqView_setF _ _ _).trans (Dev.seqView_setReg _ _ _)
  · rfl

theorem Dev.seqView_boundaryCh (d : Dev) (g c : Nat) : (d.boundaryCh g c).seqView = d.seqView := by
  unfold Dev.boundaryCh
  extract_lets x d1 d2 live src d3 src'
  have h2 : d2.seqView = d.seqView := (Dev.seqView_applyRange _ _ _).trans (Dev.seqView_setCh _ _ _ _)
  have h3 : d3.seqView = d.seqView := by
    unfold d3
    clear_value live
    split
    · split
      · exact (Dev.seqView_flag _ _).trans ((Dev.seqView_setGrp _ _ _).trans h2)
      · exact h2
    · exact h2
  split
  · extract_lets d4
    have h4 : d4.seqView = d.seqView := (Dev.seqView_setCh _ _ _ _).trans ((Dev.setSource_powerOut _ _ _ _).seqView.trans h3)
    split
    · refine (Dev.seqView_markChecked _ fun l => ?_).trans h4
      split
      · rfl
      · rfl
    · exact h4
  · exact h2

theorem Dev.seqView_disconnect (d : Dev) (g c : Nat) : (d.disconnect g c).seqView = d.seqView :=
  (Dev.seqView_setCh _ _ _ _).trans (d.setSource_powerOut g c 15).seqView

theorem Dev.seqView_rbIdle (d : Dev) (g : Nat) : (d.rbIdle g).seqView = d.seqView := by
  unfold Dev.rbIdle
  extract_lets d1
  have h1 : d1.seqView = d.seqView := d.seqView_setF _ _
  split
  · exact (Dev.seqView_disconnect _ _ _).trans h1
  · exact h1

theorem Dev.seqView_discardPair (d : Dev) (g c : Nat) : (d.discardPair g c).seqView = d.seqView := by
  unfold Dev.discardPair
  split
  · exact (Dev.seqView_flag _ _).trans (d.seqView_setGrp _ _)
  · rfl

theorem Dev.seqView_boundaryGrp (old d : Dev) (g : Nat) : (Dev.boundaryGrp old d g).seqView = d.seqView := by
  unfold Dev.boundaryGrp
  extract_lets changed d1 d2 m d3 d4
  have h2 : d2.seqView = d.seqView := by
    unfold d2
    have h1 : d1.seqView = d.seqView := d.seqView_setGrp g _
    split
    · split
      · split
        · exact (Dev.seqView_discardPair _ _ _).trans h1
        · exact h1
      · exact h1
    · rfl
  have h4 : d4.seqView = d.seqView := by
    refine (Dev.seqView_setF _ _ _).trans ?_
    unfold d3
    split
    · exact (Dev.seqView_rbIdle _ _).trans h2
    · exact h2
  split
  · split
    · exact (Dev.seqView_setReg _ _ _).trans h4
    · exact h4
  · exact h4

theorem Dev.seqView_forGC (d : Dev) {f : Dev → Nat → Nat → Dev} (h : ∀ (d : Dev) g c, (f d g c).seqView = d.seqView) :
    (forGC d f).seqView = d.seqView := Dev.seqView_foldl (fun e i => h e (i / 9) (i % 9)) _ d

theorem Dev.seqView_boundaryAfe (d : Dev) : d.boundaryAfe.seqView = d.seqView :=
  (Dev.seqView_foldl (fun e g => Dev.seqView_boundaryGrp d e g) _ _).trans (d.seqView_forGC Dev.seqView_boundaryCh)

theorem Dev.seqView_calRange (d : Dev) (changed : List Nat) : (d.calRange changed).seqView = d.seqView := by
  unfold Dev.calRange
  split
  · split
    · exact Dev.seqView_of rfl rfl rfl
    · rfl
  · rfl

theorem Dev.seqView_boundaryLane (d : Dev) (g : Nat) : (d.boundaryLane g).seqView = d.seqView := by
  unfold Dev.boundaryLane
  extract_lets x
  have hset : ∀ y, (d.setLane g y).seqView = d.seqView := fun y => Dev.seqView_of rfl rfl rfl
  split
  · exact (Dev.showLanes_powerOut _ g).seqView.trans (hset _)
  · split
    · exact hset _
    · rfl

theorem Dev.seqView_boundaryLanes (d : Dev) : d.boundaryLanes.seqView = d.seqView := Dev.seqView_foldl Dev.seqView_boundaryLane _ d

theorem Dev.seqView_setRoles (d : Dev) (r : List Nat) : (d.setRoles r).seqView = d.seqView := by
  unfold Dev.setRoles
  extract_lets d1
  exact (Dev.seqView_setF _ _ _).trans ((Dev.seqView_setF _ _ _).trans ((Dev.seqView_setF _ _ _).trans rfl))

theorem Dev.seqView_takeRoles (d : Dev) : d.takeRoles.seqView = d.seqView := by
  unfold Dev.takeRoles
  split
  · rfl
  · exact (Dev.seqView_setRoles _ _).trans rfl

theorem Dev.seqView_ledWear (d : Dev) (n : Nat) : (d.ledWear n).seqView = d.seqView := by
  unfold Dev.ledWear
  extract_lets role p count ms e h
  split
  · rfl
  · exact (Dev.seqView_flagIf _ _ _).trans (d.seqView_setF _ _)

theorem Dev.seqView_applySets (d : Dev) (lead : Bool) : (d.applySets lead).seqView = d.seqView := by
  unfold Dev.applySets
  refine (Dev.seqView_foldl Dev.seqView_ledWear _ _).trans (Dev.seqView_foldl (fun e n => ?_) _ d)
  extract_lets role mine code src
  split
  · exact (Dev.seqView_emit _ _).trans ((Dev.seqView_setF _ _ _).trans rfl)
  · rfl

theorem Dev.seqView_boundaryMul (d : Dev) : d.boundaryMul.1.seqView = d.seqView := by
  unfold Dev.boundaryMul
  extract_lets d1 now changed
  have h1 : d1.seqView = d.seqView := Dev.seqView_foldl (fun e x => e.seqView_setF _ _) _ d
  exact (Dev.seqView_of rfl rfl rfl : _ = d1.seqView).trans h1

theorem Dev.seqView_refreshLock (d : Dev) : d.refreshLock.seqView = d.seqView := d.seqView_setB _ _

theorem Dev.seqView_setShd (d : Dev) (x : Shading) : ({ d with shd := x } : Dev).seqView = d.seqView := Dev.seqView_of rfl rfl rfl

theorem Dev.seqView_swap (d : Dev) : d.swap.seqView = d.seqView := by
  unfold Dev.swap
  extract_lets d1 src
  have h1 : d1.seqView = d.seqView := (Dev.seqView_flag _ _).trans (d.seqView_setF _ _)
  clear_value d1
  exact (Dev.seqView_haulEvent _ _).trans ((Dev.seqView_refreshLock _).trans ((d1.seqView_setShd _).trans h1))

theorem Dev.seqView_chooseSet (d : Dev) : d.chooseSet.seqView = d.seqView := by
  unfold Dev.chooseSet
  extract_lets fit
  split
  · exact (Dev.seqView_setF _ _ _).trans d.seqView_swap
  · split
    · exact d.seqView_swap
    · rfl

theorem Dev.seqView_boundarySet (d : Dev) : d.boundarySet.seqView = d.seqView := by
  unfold Dev.boundarySet
  extract_lets d1 d2
  have h1 : d1.seqView = d.seqView := by
    unfold d1
    split
    · exact d.seqView_swap
    · rfl
  have h2 : d2.seqView = d.seqView := d1.seqView_chooseSet.trans h1
  split
  · exact h2
  · exact (Dev.seqView_count _ _ _).trans ((Dev.seqView_flag _ _).trans h2)

theorem Dev.seqView_countLines (d : Dev) : d.countLines.seqView = d.seqView := by
  refine d.seqView_forGC fun e g c => ?_
  extract_lets x
  split
  · exact e.seqView_setCh _ _ _
  · rfl

theorem Dev.seqView_stamped (d : Dev) (b n : Nat) : (d.stamped b n).seqView = d.seqView := by
  unfold Dev.stamped
  split
  · exact d.seqView_count _ _
  · rfl

/-! ## The pins -/

theorem Dev.seqView_pulse (d : Dev) (m : Module) (plane : Nat) (serial : Option Nat) : (d.pulse m plane serial).seqView = d.seqView := by
  unfold Dev.pulse
  extract_lets n d1
  have h1 : d1.seqView = d.seqView := (Dev.seqView_emit _ _).trans (Dev.seqView_of rfl rfl rfl)
  clear_value d1
  split
  · exact h1
  · exact (Dev.seqView_of rfl rfl rfl : _ = d1.seqView).trans h1

theorem Dev.seqView_strobes (d : Dev) (role on : Nat) (dark : Bool) : (d.strobes role on dark).seqView = d.seqView := by
  unfold Dev.strobes
  split
  · rfl
  · refine Dev.seqView_foldl (fun e n => ?_) _ d
    split
    · exact e.seqView_emit _
    · rfl

theorem Dev.seqView_mainPins (d : Dev) (b : Bar) (serial : Option Nat) (dark : Bool) : (d.mainPins b serial dark).seqView = d.seqView :=
  Dev.seqView_foldl (fun _ _ => (Dev.seqView_foldl (fun e m => e.seqView_pulse m _ _) _ _).trans (Dev.seqView_strobes _ _ _ _)) _ d

theorem Dev.seqView_leadPins (d : Dev) (b : Bar) (serial : Option Nat) (dark : Bool) : (d.leadPins b serial dark).seqView = d.seqView :=
  (Dev.seqView_foldl (fun e m => e.seqView_pulse m _ _) _ _).trans (d.seqView_strobes _ _ _)

theorem Dev.seqView_showLantern (d : Dev) : d.showLantern.seqView = d.seqView := by
  unfold Dev.showLantern
  extract_lets x busy flush
  exact (Dev.seqView_setB _ _ _).trans ((Dev.seqView_setF _ _ _).trans ((Dev.seqView_setF _ _ _).trans
    ((Dev.seqView_setB _ _ _).trans (d.seqView_setB _ _))))

theorem Dev.seqView_holdQueue (d : Dev) : d.holdQueue.seqView = d.seqView := by
  unfold Dev.holdQueue
  extract_lets x next
  exact (Dev.seqView_showLantern _).trans rfl

/-! ## Contexts and Gen A lines -/

theorem Dev.checkStop_ctxOut (d : Dev) (n : Nat) : d.CtxOut (d.checkStop n) := by
  unfold Dev.checkStop
  extract_lets c
  split
  · exact Dev.CtxOut.refl d
  · extract_lets d1 src d2
    split
    · exact Dev.CtxOut.refl d
    · have h2 : d.CtxOut d2 := (d.closeBuf_ctxOut n _).trans (Dev.setCtx_ctxOut _ _ _)
      clear_value d2
      generalize d2.running = l
      induction l generalizing d2 with
      | nil => exact h2
      | cons r t ih =>
        refine ih _ (h2.trans ?_)
        dsimp only
        split
        · split
          · exact Dev.finish_ctxOut _ _ _
          · exact Dev.CtxOut.refl _
        · exact Dev.CtxOut.refl _

theorem Dev.seqView_setCtx (d : Dev) (n : Nat) (c : Ctx) : (d.setCtx n c).seqView = d.seqView := Dev.seqView_of rfl rfl rfl

theorem Dev.seqView_stopNow (d : Dev) (n code t : Nat) : (d.stopNow n code t).seqView = d.seqView :=
  (Dev.checkStop_ctxOut _ n).seqView.trans (d.seqView_setCtx _ _)

theorem Dev.seqView_ctxTrigger (d : Dev) (n t : Nat) (k : Int) (grid : Option Int) : (d.ctxTrigger n t k grid).seqView = d.seqView := by
  unfold Dev.ctxTrigger
  extract_lets c d1 d2
  have h1 : d1.seqView = d.seqView := by
    unfold d1
    split
    · split
      · exact d.seqView_setCtx _ _
      · rfl
    · rfl
  have h2 : d2.seqView = d.seqView := by
    unfold d2
    split
    · split
      · exact (Dev.seqView_stopNow _ _ _ _).trans h1
      · exact h1
    · exact h1
  split
  · rfl
  · split
    · split
      · exact (Dev.seqView_stopNow _ _ _ _).trans h2
      · exact h2
    · exact h2

theorem Dev.seqView_ctxTriggers (d : Dev) (t : Nat) (k : Int) (grid : Option Int) : (d.ctxTriggers t k grid).seqView = d.seqView :=
  Dev.seqView_foldl (fun e n => e.seqView_ctxTrigger n t k grid) _ d

theorem Dev.seqView_requestRaw (d : Dev) (serial g p : Nat) : (d.requestRaw serial g p).seqView = d.seqView := by
  unfold Dev.requestRaw
  split
  · split
    · rfl
    · extract_lets n ok d1
      refine (Dev.seqView_mapLine _ _ ?_).trans ?_
      · exact fun l => rfl
      unfold d1
      split
      · exact d.seqView_setGroupUse _ _
      · rfl
  · rfl

theorem Dev.seqView_takeGenA (d : Dev) (b : Bar) (serial : Nat) (lead : Bool) (sigs : List GenALine) :
    (d.takeGenA b serial lead sigs).seqView = d.seqView := by
  refine Dev.seqView_foldl (fun e x => ?_) _ d
  split
  · rfl
  · split
    · rfl
    · refine Dev.seqView_foldl (fun e' k => ?_) _ e
      split
      · rfl
      · refine (Dev.seqView_mapLine _ _ ?_).trans ((Dev.seqView_requestRaw _ _ _ _).trans (e'.seqView_flagIf _ _))
        exact fun l => rfl

end Sys2Proof.Machine
end

section
/-! SUPPORT. Lantern's triggers and sequences: how they start, queue, end and flush (R105, R118, R125 to R129). -/

namespace Sys2Proof.Machine

/-! ## A sequence that starts -/

/-- A new line set behind the others, and the main sequencer on it. -/
theorem Dev.startMain_seqView (d : Dev) (b : Bar) (t : Trig) : (d.startMain b t).seqView =
    ((some ⟨some t.serial⟩, d.ltn.lead, d.ltn.mainQ, d.ltn.leadQ, d.ltn.serial, d.ltn.soft),
      d.gal.lines.map LineSet.key ++ [(t.serial, false, t.grid, t.k, false)], d.bar) := by
  unfold Dev.startMain
  extract_lets d0 d1 changed d2 m set d3 src d4 slots l dark d5 src' src'' d6
  have h1 : d1.seqView = d.seqView := (Dev.seqView_boundaryAfe _).trans (d.seqView_haulEvent 12)
  have h2 : d2.seqView = d.seqView := (Dev.seqView_applySets _ _).trans ((Dev.seqView_takeRoles _).trans ((Dev.seqView_boundaryLanes _).trans
    ((d1.seqView_calRange _).trans h1)))
  have h3 : d3.seqView = d.seqView := (Dev.seqView_boundarySet _).trans (d2.seqView_boundaryMul.trans h2)
  have h4 : d4.seqView = d.seqView := (d3.seqView_setShd _).trans h3
  have h5 : d5.seqView = d.seqView := (Dev.seqView_stamped _ _ _).trans (d4.seqView_countLines.trans h4)
  have hl : l.key = (t.serial, false, t.grid, t.k, false) := rfl
  clear_value d5 l
  have h6 : d6.seqView = ((some ⟨some t.serial⟩, d5.seqView.1.2), d5.seqView.2.1 ++ [l.key], d5.seqView.2.2) := by
    change (_, (d5.gal.lines ++ [l]).map LineSet.key, _) = _
    rw [List.map_append]
    rfl
  refine (Dev.seqView_showLantern _).trans ((Dev.seqView_refreshLock _).trans ((Dev.seqView_mainPins _ _ _ _).trans (h6.trans ?_)))
  rw [h5, hl]
  rfl

theorem Dev.startLead_seqView (d : Dev) (b : Bar) (t : Trig) : (d.startLead b t).seqView =
    ((d.ltn.main, some ⟨some t.serial⟩, d.ltn.mainQ, d.ltn.leadQ, d.ltn.serial, d.ltn.soft),
      d.gal.lines.map LineSet.key ++ [(t.serial, true, t.grid, t.k, false)], d.bar) := by
  unfold Dev.startLead
  extract_lets d1 slots l d2 src src' d3
  have h1 : d1.seqView = d.seqView := d.seqView_applySets true
  have h2 : d2.seqView = d.seqView := (d1.seqView_stamped _ _).trans h1
  have hl : l.key = (t.serial, true, t.grid, t.k, false) := rfl
  clear_value d2 l
  have h3 : d3.seqView = ((d2.seqView.1.1, some ⟨some t.serial⟩, d2.seqView.1.2.2), d2.seqView.2.1 ++ [l.key], d2.seqView.2.2) := by
    change (_, (d2.gal.lines ++ [l]).map LineSet.key, _) = _
    rw [List.map_append]
    rfl
  refine (Dev.seqView_showLantern _).trans ((Dev.seqView_refreshLock _).trans ((Dev.seqView_leadPins _ _ _ _).trans (h3.trans ?_)))
  rw [h2, hl]
  rfl

theorem Dev.seqView_setLtn (d : Dev) (x : Lantern) : ({ d with ltn := x } : Dev).seqView =
    ((x.main, x.lead, x.mainQ, x.leadQ, x.serial, x.soft), d.gal.lines.map LineSet.key, d.bar) := rfl

/-- The name of a line set that stands among the others. -/
theorem Dev.mem_of_seqView {d : Dev} {v : _} {ls : List (Nat × Bool × Option Int × Int × Bool)} {bar : Option Bar} {n : Nat} {b e : Bool}
    {g : Option Int} {k : Int} (h : d.seqView = (v, ls ++ [(n, b, g, k, e)], bar)) :
    ∃ l ∈ d.gal.lines, l.serial = n ∧ l.lead = b ∧ l.grid = g ∧ l.k = k := by
  have hm : (n, b, g, k, e) ∈ d.gal.lines.map LineSet.key := by
    rw [show d.gal.lines.map LineSet.key = _ from congrArg (·.2.1) h]
    exact List.mem_append_right _ (List.mem_singleton_self _)
  obtain ⟨l, hl, hk⟩ := List.mem_map.mp hm
  simp only [LineSet.key, Prod.mk.injEq] at hk
  obtain ⟨h1, h2, h3, h4, -⟩ := hk
  exact ⟨l, hl, h1, h2, h3, h4⟩

theorem Dev.showLantern_ltn (d : Dev) : d.showLantern.ltn = d.ltn := by
  unfold Dev.showLantern
  extract_lets x busy flush
  exact (Dev.setF_ltn _ _ _).trans ((Dev.setF_ltn _ _ _).trans ((Dev.setF_ltn _ _ _).trans ((Dev.setF_ltn _ _ _).trans (d.setF_ltn _ _))))

theorem Dev.showLantern_gal (d : Dev) : d.showLantern.gal = d.gal := by
  unfold Dev.showLantern
  extract_lets x busy flush
  exact (Dev.setF_gal _ _ _).trans ((Dev.setF_gal _ _ _).trans ((Dev.setF_gal _ _ _).trans ((Dev.setF_gal _ _ _).trans (d.setF_gal _ _))))

theorem Dev.showLantern_out (d : Dev) : d.showLantern.out = d.out := by
  unfold Dev.showLantern
  extract_lets x busy flush
  exact (Dev.setF_out _ _ _).trans ((Dev.setF_out _ _ _).trans ((Dev.setF_out _ _ _).trans ((Dev.setF_out _ _ _).trans (d.setF_out _ _))))

/-- The fields that show the sequencers. -/
theorem Dev.showLantern_only (d : Dev) : d.Only d.showLantern [F.LTN_STATUS.HOLD_REQ, F.LTN_STATUS.FLUSHING, F.LTN_STATUS.QUEUE,
    F.LTN_STATUS.LEAD_QUEUE, F.LTN_STATUS.SEQ_BUSY] := by
  unfold Dev.showLantern
  extract_lets x busy flush
  exact (((((Dev.Only.refl _ _).setF _ _ (by simp [Fld.within])).setF _ _ (by simp [Fld.within])).setF _ _ (by simp [Fld.within])).setF _ _
    (by simp [Fld.within])).setF _ _ (by simp [Fld.within])

theorem Dev.holdQueue_overrun (d : Dev) : d.holdQueue.f F.LTN_STATUS.OVERRUN = d.f F.LTN_STATUS.OVERRUN := by
  unfold Dev.holdQueue
  extract_lets x next
  exact (Dev.showLantern_only _).f _ (by decide)

/-! ## A trigger of the main row -/

/-- A trigger with the sequencer idle: its sequence starts. -/
theorem Dev.fireMain_idle {d : Dev} (h : d.ltn.main = none) (b : Bar) (k : Int) (grid : Option Int) : (d.fireMain b k grid).seqView =
    ((some ⟨some d.ltn.serial⟩, d.ltn.lead, d.ltn.mainQ, d.ltn.leadQ, d.ltn.serial + 1, d.ltn.soft),
      d.gal.lines.map LineSet.key ++ [(d.ltn.serial, false, grid, k, false)], d.bar) := by
  unfold Dev.fireMain
  extract_lets t src d1 src' d2
  have h1 : d1.seqView = ((d.ltn.main, d.ltn.lead, d.ltn.mainQ, d.ltn.leadQ, d.ltn.serial + 1, d.ltn.soft), d.gal.lines.map LineSet.key, d.bar) :=
    Dev.seqView_ctxTriggers _ _ _ _
  have hm : d1.ltn.main = none := (congrArg (·.1.1) h1).trans h
  rw [hm]
  refine (Dev.seqView_reconFallback _ _ _).trans ((d1.startMain_seqView b t).trans ?_)
  change (((_, d1.seqView.1.2), d1.seqView.2.1 ++ [(t.serial, false, t.grid, t.k, false)], d1.seqView.2.2) : _ × _ × _) = _
  rw [h1]

/-- A trigger with a sequence under way is queued. -/
theorem Dev.fireMain_busy {d : Dev} (h : d.ltn.main ≠ none) (b : Bar) (k : Int) (grid : Option Int) : (d.fireMain b k grid).seqView =
    ((d.ltn.main, d.ltn.lead, d.ltn.mainQ ++ [⟨d.ltn.serial, k, grid, d.mode⟩], d.ltn.leadQ, d.ltn.serial + 1, d.ltn.soft),
      d.gal.lines.map LineSet.key, d.bar) ∧ (d.fireMain b k grid).f F.LTN_STATUS.OVERRUN = 1 := by
  unfold Dev.fireMain
  extract_lets t src d1 src' d2
  have h1 : d1.seqView = ((d.ltn.main, d.ltn.lead, d.ltn.mainQ, d.ltn.leadQ, d.ltn.serial + 1, d.ltn.soft), d.gal.lines.map LineSet.key, d.bar) :=
    Dev.seqView_ctxTriggers _ _ _ _
  obtain ⟨r, hr⟩ := Option.ne_none_iff_exists'.mp h
  have hm : d1.ltn.main = some r := (congrArg (·.1.1) h1).trans hr
  have h2 : d2.seqView = ((d1.seqView.1.1, d1.seqView.1.2.1, d1.seqView.1.2.2.1 ++ [t], d1.seqView.1.2.2.2), d1.seqView.2) := rfl
  rw [h1] at h2
  clear_value d2
  rw [hm]
  constructor
  · exact (Dev.seqView_holdQueue _).trans ((Dev.seqView_flag _ _).trans ((Dev.seqView_count _ _ _).trans ((Dev.seqView_reconFallback _ _ _).trans h2)))
  · exact (Dev.holdQueue_overrun _).trans (Dev.f_flag_same _ _ _ (by decide) (by decide))

theorem Dev.setHwm_ltn (d : Dev) (x : Int) : (d.setHwm x).ltn = d.ltn := rfl
theorem Dev.setLeadHwm_ltn (d : Dev) (x : Int) : (d.setLeadHwm x).ltn = d.ltn := rfl

theorem Dev.gridTrigger_fires {d : Dev} {b : Bar} (hb : d.bar = some b) (hlive : d.gridLive = true) (hfeed : d.hwm + d.pitch ≤ d.feedTicks)
    (h : d.ltn.main = none ∨ d.ltn.mainQ.length < 2) :
    d.gridTrigger = (d.setHwm (d.hwm + d.pitch)).fireMain b (divFloor (d.hwm + d.pitch - d.origin) d.pitch) (some (d.hwm + d.pitch)) := by
  unfold Dev.gridTrigger
  rw [hb]
  extract_lets g k d1
  have hl : d1.ltn = d.ltn := d.setHwm_ltn g
  dsimp only
  rw [if_neg (by simpa [hlive] using hfeed), if_neg]
  rw [hl]
  rcases h with h | h
  · simp [h]
  · simp [Nat.not_le.mpr h]

theorem Dev.gridTrigger_skips {d : Dev} {b : Bar} (hb : d.bar = some b) (hlive : d.gridLive = true) (hfeed : d.hwm + d.pitch ≤ d.feedTicks)
    (h : d.ltn.main ≠ none) (h2 : 2 ≤ d.ltn.mainQ.length) :
    d.gridTrigger = ((((d.setHwm (d.hwm + d.pitch)).count F.LTN_COUNT.SKIP_CNT 1).flag F.LTN_STATUS.GRID_SKIP).irq 3
      |>.surveyLost (divFloor (d.hwm + d.pitch - d.origin) d.pitch)).reconFallback false (some (divFloor (d.hwm + d.pitch - d.origin) d.pitch)) := by
  unfold Dev.gridTrigger
  rw [hb]
  extract_lets g k d1
  have hl : d1.ltn = d.ltn := d.setHwm_ltn g
  dsimp only
  rw [if_neg (by simpa [hlive] using hfeed), if_pos]
  rw [hl]
  simp [h2, Option.isSome_iff_ne_none, h]

theorem Dev.setSurveyUse_ltn (d : Dev) (use : Nat) : (d.setSurveyUse use).ltn = d.ltn := by
  unfold Dev.setSurveyUse
  extract_lets q src
  exact ((Dev.sumpNote_powerOut _).eq Dev.ltn fun _ _ _ _ _ _ _ => rfl).trans (Dev.RegsOut.eq (Dev.reportIf_only _ _ _ _).1 Dev.ltn fun _ _ _ => rfl)

theorem Dev.setMeas_ltn (d : Dev) (ms : List SurMeas) : (d.setMeas ms).ltn = d.ltn := by
  unfold Dev.setMeas
  exact (Dev.setSurveyUse_ltn _ _).trans (Dev.setF_ltn _ _ _)

theorem Dev.closeMeas_ltn (d : Dev) (k : Int) : (d.closeMeas k).ltn = d.ltn := by
  unfold Dev.closeMeas
  extract_lets d1 ks
  exact (rfl : _ = d1.ltn).trans (d.setMeas_ltn _)

theorem Dev.surveyLost_ltn (d : Dev) (k : Int) : (d.surveyLost k).ltn = d.ltn := by
  unfold Dev.surveyLost
  split
  · exact (Dev.setF_ltn _ _ _).trans (d.closeMeas_ltn k)
  · rfl

theorem Dev.surveyLost_lowKept (d : Dev) (k : Int) : d.LowKept (d.surveyLost k) := by
  unfold Dev.surveyLost Dev.closeMeas
  split
  · exact ((Dev.setMeas_lowKept _ _).trans (Dev.LowKept.of_regs rfl)).count _ _ (by decide)
  · exact Dev.LowKept.refl d

theorem signed_unsigned_64 {x : Int} (h0 : -9223372036854775808 ≤ x) (h1 : x < 9223372036854775808) : signed 64 (unsigned 64 x) = x := by
  unfold signed unsigned
  norm_num
  omega

/-! ## A sequence that ends -/

/-- What its end leaves of the sequencers and of the line sets. -/
theorem Dev.endLine_seq (d : Dev) (n : Nat) (lead : Bool) (pos : List Int) (sigs : List GenALine) :
    (d.endLine n lead pos sigs).seqView.1 = d.seqView.1 ∧ (d.endLine n lead pos sigs).bar = d.bar ∧
    (d.bar.isSome → d.lineOf n ≠ none → ∀ l ∈ (d.endLine n lead pos sigs).gal.lines, l.serial = n → l.ended = true) := by
  unfold Dev.endLine
  split
  next b l hb hl =>
    extract_lets d1 put d2
    have h1 : d1.seqView = d.seqView := d.seqView_takeGenA b n lead sigs
    have hbar : d1.bar = d.bar := congrArg (·.2.2) h1
    have h2 : d2.seqView.1 = d1.seqView.1 := rfl
    have h2b : d2.bar = d1.bar := rfl
    have hends : ∀ l ∈ d2.gal.lines, l.serial = n → l.ended = true := by
      intro x hx hn
      obtain ⟨y, hy, rfl⟩ := List.mem_map.mp (show x ∈ d1.gal.lines.map _ from hx)
      revert hn
      dsimp only
      split
      · exact fun _ => rfl
      · exact fun hn => absurd hn ‹_›
    clear_value d2 d1
    cases lead
    · exact ⟨h2.trans (congrArg (·.1) h1), h2b.trans hbar, fun _ _ => hends⟩
    · exact ⟨h2.trans (congrArg (·.1) h1), h2b.trans hbar, fun _ _ => hends⟩
  next hno =>
    refine ⟨rfl, rfl, fun hb hl => ?_⟩
    obtain ⟨b, hb⟩ := Option.isSome_iff_exists.mp hb
    obtain ⟨l, hl⟩ := Option.ne_none_iff_exists'.mp hl
    exact absurd hl (hno b l hb)

/-- The device after the sequence of a sequencer has ended and its line set has its last line. -/
def Dev.ended (d : Dev) (r : SeqRun) (lead : Bool) (pos : List Int) (sigs : List GenALine) : Dev :=
  match r.serial with
  | some n => d.endLine n lead pos sigs
  | none => d

theorem Dev.ended_seq (d : Dev) (r : SeqRun) (lead : Bool) (pos : List Int) (sigs : List GenALine) :
    (d.ended r lead pos sigs).seqView.1 = d.seqView.1 ∧ (d.ended r lead pos sigs).bar = d.bar ∧
    (d.bar.isSome → ∀ n, r.serial = some n → d.lineOf n ≠ none → ∀ l ∈ (d.ended r lead pos sigs).gal.lines, l.serial = n → l.ended = true) := by
  unfold Dev.ended
  split
  next n hn =>
    obtain ⟨h1, h2, h3⟩ := d.endLine_seq n lead pos sigs
    exact ⟨h1, h2, fun hb m hm => by obtain rfl := Option.some.inj (hn.symm.trans hm); exact h3 hb⟩
  next hn => exact ⟨rfl, rfl, fun _ m hm => absurd (hn.symm.trans hm) (by simp)⟩

theorem Dev.sequenceEnd_main {d : Dev} {b : Bar} {r : SeqRun} (hb : d.bar = some b) (hr : d.ltn.main = some r) (pos : List Int) (sigs : List GenALine)
    {e : Dev} (he : e = { d.ended r false pos sigs with ltn := { (d.ended r false pos sigs).ltn with main := none } }) :
    (d.ltn.mainQ = [] → d.sequenceEnd false pos sigs = e.holdQueue) ∧
    (∀ t q, d.ltn.mainQ = t :: q → d.sequenceEnd false pos sigs = ({ e with ltn := { e.ltn with mainQ := q } }.startMain b t).holdQueue) := by
  have hq : e.ltn.mainQ = d.ltn.mainQ := by
    rw [he]
    exact congrArg (·.2.2.1) (d.ended_seq r false pos sigs).1
  have hs : d.sequenceEnd false pos sigs = (match e.ltn.mainQ with
      | [] => e
      | t :: q => { e with ltn := { e.ltn with mainQ := q } }.startMain b t).holdQueue := by
    unfold Dev.sequenceEnd
    rw [if_neg (by decide), hr, hb, he]
    rfl
  rw [hs, hq]
  exact ⟨fun h => by rw [h], fun t q h => by rw [h]⟩

theorem Dev.sequenceEnd_lead {d : Dev} {b : Bar} {r : SeqRun} (hb : d.bar = some b) (hr : d.ltn.lead = some r) (hq : d.ltn.leadQ = [])
    (pos : List Int) (sigs : List GenALine) {e : Dev}
    (he : e = { d.ended r true pos sigs with ltn := { (d.ended r true pos sigs).ltn with lead := none } }) :
    d.sequenceEnd true pos sigs = e.holdQueue := by
  have h : e.ltn.leadQ = [] := by
    rw [he]
    exact (congrArg (·.2.2.2.1) (d.ended_seq r true pos sigs).1).trans hq
  have hs : d.sequenceEnd true pos sigs = (match e.ltn.leadQ with
      | [] => e
      | t :: q => { e with ltn := { e.ltn with leadQ := q } }.startLead b t).holdQueue := by
    unfold Dev.sequenceEnd
    rw [if_pos rfl, hr, hb, he]
    rfl
  rw [hs, h]

theorem Dev.holdQueue_ltn (d : Dev) : d.holdQueue.ltn.main = d.ltn.main ∧ d.holdQueue.ltn.lead = d.ltn.lead ∧ d.holdQueue.ltn.mainQ = d.ltn.mainQ ∧
    (d.ltn.mainQ = [] → d.holdQueue.ltn.mainHold = false) := by
  unfold Dev.holdQueue
  extract_lets x next
  rw [Dev.showLantern_ltn]
  refine ⟨rfl, rfl, rfl, fun h => ?_⟩
  change next x.mainHold d.ltn.mainQ.length = false
  rw [h]
  rfl

theorem Dev.holdQueue_gal (d : Dev) : d.holdQueue.gal = d.gal := by
  unfold Dev.holdQueue
  extract_lets x next
  exact Dev.showLantern_gal _

/-! ## A flush -/

/-- Start pulses and nothing else of the device. -/
def Dev.PulsesOnly (d e : Dev) : Prop := ∃ more, e = { d with out := d.out ++ more, pulses := e.pulses, expects := e.expects } ∧
  ∀ o ∈ more, ∃ g n, o = Out.startPulse g n

theorem Dev.PulsesOnly.refl (d : Dev) : d.PulsesOnly d := ⟨[], by rw [List.append_nil], by simp⟩

theorem Dev.PulsesOnly.trans {d e g : Dev} (h : d.PulsesOnly e) (h' : e.PulsesOnly g) : d.PulsesOnly g := by
  obtain ⟨m, he, hm⟩ := h
  obtain ⟨m', hg, hm'⟩ := h'
  refine ⟨m ++ m', ?_, ?_⟩
  · rw [hg, he]
    simp
  · intro o ho
    rcases List.mem_append.mp ho with h1 | h1
    · exact hm o h1
    · exact hm' o h1

theorem Dev.pulsesOnly_foldl {α : Type} {f : Dev → α → Dev} (h : ∀ (d : Dev) x, d.PulsesOnly (f d x)) (l : List α) (d : Dev) :
    d.PulsesOnly (l.foldl f d) := by
  induction l generalizing d with
  | nil => exact Dev.PulsesOnly.refl d
  | cons x t ih => exact (h d x).trans (ih _)

theorem Dev.pulse_pulsesOnly (d : Dev) (m : Module) (plane : Nat) (serial : Option Nat) : d.PulsesOnly (d.pulse m plane serial) := by
  unfold Dev.pulse
  extract_lets n d1
  refine ⟨[Out.startPulse m.group m.spOut], ?_, fun o ho => ⟨_, _, List.mem_singleton.mp ho⟩⟩
  split <;> rfl

theorem Dev.strobes_dark (d : Dev) (role on : Nat) : d.strobes role on true = d := if_pos rfl

theorem Dev.mainPins_dark (d : Dev) (b : Bar) (serial : Option Nat) : d.PulsesOnly (d.mainPins b serial true) :=
  Dev.pulsesOnly_foldl (fun e _ => by
    rw [Dev.strobes_dark]
    exact Dev.pulsesOnly_foldl (fun e' m => e'.pulse_pulsesOnly m _ _) _ e) _ d

theorem Dev.leadPins_dark (d : Dev) (b : Bar) (serial : Option Nat) : d.PulsesOnly (d.leadPins b serial true) := by
  unfold Dev.leadPins
  rw [Dev.strobes_dark]
  exact Dev.pulsesOnly_foldl (fun e' m => e'.pulse_pulsesOnly m _ _) _ d

theorem Dev.showLantern_flushing {d : Dev} (h : d.ltn.main = some ⟨none⟩) : d.showLantern.f F.LTN_STATUS.FLUSHING = 1 := by
  unfold Dev.showLantern
  extract_lets x busy flush
  have hf : flush = true := by
    unfold flush x
    rw [h]
    rfl
  rw [hf]
  refine (Dev.f_apart _ _ _ _ _ _ _ (by decide) (by decide) (by decide)).trans ((Dev.f_apart _ _ _ _ _ _ _ (by decide) (by decide) (by decide)).trans
    ((Dev.f_apart _ _ _ _ _ _ _ (by decide) (by decide) (by decide)).trans (Dev.f_same _ _ _ _ _ (by decide) (by decide))))

theorem Dev.flush_main {d : Dev} {b : Bar} (hb : d.bar = some b) (hm : d.mode ∈ [.calibrate, .run, .service]) (h : d.ltn.main = none) :
    d.flush false = ({ d with ltn := { d.ltn with main := some ⟨none⟩ } }.mainPins b none true).showLantern := by
  have hmode : (decide (d.mode = .calibrate) || decide (d.mode = .run) || decide (d.mode = .service)) = true := by
    simpa [or_assoc] using hm
  unfold Dev.flush
  rw [hb]
  dsimp only
  rw [if_neg (by rw [hmode, h]; simp), if_neg (by decide)]

theorem Dev.flush_lead {d : Dev} {b : Bar} (hb : d.bar = some b) (hm : d.mode ∈ [.calibrate, .run, .service]) (h : d.ltn.lead = none)
    (hl : b.leads ≠ []) : d.flush true = ({ d with ltn := { d.ltn with lead := some ⟨none⟩ } }.leadPins b none true).showLantern := by
  have hmode : (decide (d.mode = .calibrate) || decide (d.mode = .run) || decide (d.mode = .service)) = true := by
    simpa [or_assoc] using hm
  unfold Dev.flush
  rw [hb]
  dsimp only
  rw [if_neg (by rw [hmode, h]; simpa using hl), if_pos rfl]

/-- A row whose sequencer is busy is not flushed. -/
theorem Dev.flush_busy {d : Dev} {lead : Bool} (h : (if lead then d.ltn.lead else d.ltn.main) ≠ none) : d.flush lead = d := by
  have hb : (if lead then d.ltn.lead.isSome else d.ltn.main.isSome) = true := by
    cases lead
    · exact Option.isSome_iff_ne_none.mpr h
    · exact Option.isSome_iff_ne_none.mpr h
  unfold Dev.flush
  split
  · rfl
  · dsimp only
    rw [if_pos (by rw [hb]; simp)]

/-- Settles O31. -/
theorem sequences : Obligations.Sequences := by
  intro s b lead hb
  have hsome : s.dev.bar.isSome = true := by rw [hb]; rfl
  refine ⟨fun hno pos sigs => ?_, fun r pos sigs hr => ⟨fun hq => ?_, fun t q hq => ?_⟩, fun r pos sigs hr hq => ?_,
    fun hm => ⟨fun h => ?_, fun h hl => ?_⟩, fun h => ?_⟩
  · refine State.ignores (f := (·.sequenceEnd lead pos sigs)) rfl ?_
    unfold Dev.sequenceEnd
    rw [hno]
  · refine State.does (f := (·.sequenceEnd false pos sigs)) rfl ?_
    rw [(Dev.sequenceEnd_main hb hr pos sigs rfl).1 hq]
    obtain ⟨h1, -, h3⟩ := s.dev.ended_seq r false pos sigs
    obtain ⟨hmain, -, -, hhold⟩ := Dev.holdQueue_ltn
      { s.dev.ended r false pos sigs with ltn := { (s.dev.ended r false pos sigs).ltn with main := none } }
    refine ⟨hmain, hhold ((congrArg (·.2.2.1) h1).trans hq), fun n hn l hl hs hx => ?_⟩
    rw [Dev.holdQueue_gal] at hl
    exact h3 hsome n hn hx l hl hs
  · refine State.does (f := (·.sequenceEnd false pos sigs)) rfl ?_
    rw [(Dev.sequenceEnd_main hb hr pos sigs rfl).2 t q hq]
    obtain ⟨hmain, -, hmq, -⟩ := Dev.holdQueue_ltn (Dev.startMain
      { s.dev.ended r false pos sigs with ltn := { (s.dev.ended r false pos sigs).ltn with main := none, mainQ := q } } b t)
    have hv := Dev.startMain_seqView
      { s.dev.ended r false pos sigs with ltn := { (s.dev.ended r false pos sigs).ltn with main := none, mainQ := q } } b t
    exact ⟨hmain.trans (congrArg (·.1.1) hv), hmq.trans (congrArg (·.1.2.2.1) hv)⟩
  · refine State.does (f := (·.sequenceEnd true pos sigs)) rfl ?_
    rw [Dev.sequenceEnd_lead hb hr hq pos sigs rfl]
    obtain ⟨h1, -, -⟩ := s.dev.ended_seq r true pos sigs
    obtain ⟨hmain, hlead, -, -⟩ := Dev.holdQueue_ltn
      { s.dev.ended r true pos sigs with ltn := { (s.dev.ended r true pos sigs).ltn with lead := none } }
    exact ⟨hlead, hmain.trans (congrArg (·.1) h1)⟩
  · refine State.does (f := (·.flush false)) rfl ?_
    rw [Dev.flush_main hb hm h]
    obtain ⟨more, heq, hmore⟩ := Dev.mainPins_dark { s.dev with ltn := { s.dev.ltn with main := some ⟨none⟩ } } b none
    have hl : (Dev.mainPins { s.dev with ltn := { s.dev.ltn with main := some ⟨none⟩ } } b none true).ltn = { s.dev.ltn with main := some ⟨none⟩ } := by
      rw [heq]
    exact ⟨by rw [Dev.showLantern_ltn, hl], by rw [Dev.showLantern_gal, heq], Dev.showLantern_flushing (by rw [hl]), more,
      by rw [Dev.showLantern_out, heq], hmore⟩
  · refine State.does (f := (·.flush true)) rfl ?_
    rw [Dev.flush_lead hb hm h hl]
    obtain ⟨more, heq, hmore⟩ := Dev.leadPins_dark { s.dev with ltn := { s.dev.ltn with lead := some ⟨none⟩ } } b none
    exact ⟨by rw [Dev.showLantern_ltn, heq], by rw [Dev.showLantern_gal, heq], more, by rw [Dev.showLantern_out, heq], hmore⟩
  · exact State.ignores (f := (·.flush lead)) rfl (Dev.flush_busy h)

end Sys2Proof.Machine
end

section
/-! SUPPORT. Triggers of every source (R105, R118, R127, R129). -/

namespace Sys2Proof.Machine

/-! ## Lead triggers -/

/-- A lead trigger with its sequencer idle, after the grid has moved on. -/
theorem Dev.fireLead_idle (d : Dev) (b : Bar) (k : Int) (grid : Option Int) (m : Mode) :
    ((({ d with ltn := { d.ltn with serial := d.ltn.serial + 1 } } : Dev).startLead b ⟨d.ltn.serial, k, grid, m⟩).reconFallback true (some k)).seqView =
    ((d.ltn.main, some ⟨some d.ltn.serial⟩, d.ltn.mainQ, d.ltn.leadQ, d.ltn.serial + 1, d.ltn.soft),
      d.gal.lines.map LineSet.key ++ [(d.ltn.serial, true, grid, k, false)], d.bar) :=
  (Dev.seqView_reconFallback _ _ _).trans (Dev.startLead_seqView _ b _)

theorem Dev.leadTrigger_fires {d : Dev} {b : Bar} (hb : d.bar = some b) (hlive : d.gridLive = true) (hl : b.leads ≠ [])
    (hfeed : d.leadHwm + d.pitchL ≤ d.feedTicks) (h : d.ltn.lead = none) {d1 : Dev} (hd1 : d1 = d.setLeadHwm (d.leadHwm + d.pitchL)) :
    d.leadTrigger = (({ d1 with ltn := { d1.ltn with serial := d1.ltn.serial + 1 } } : Dev).startLead b
      ⟨d1.ltn.serial, divFloor (d.leadHwm + d.pitchL - d.origin) d.pitchL, some (d.leadHwm + d.pitchL), d1.mode⟩).reconFallback true
        (some (divFloor (d.leadHwm + d.pitchL - d.origin) d.pitchL)) := by
  have h1 : d1.ltn = d.ltn := by rw [hd1, Dev.setLeadHwm_ltn]
  unfold Dev.leadTrigger
  rw [hb]
  dsimp only
  rw [if_neg (by simpa [hlive, hl] using hfeed), ← hd1, if_neg (by rw [h1, h]; simp)]
  rw [show d1.ltn.lead = none by rw [h1, h]]

theorem Dev.leadTrigger_skips {d : Dev} {b : Bar} (hb : d.bar = some b) (hlive : d.gridLive = true) (hl : b.leads ≠ [])
    (hfeed : d.leadHwm + d.pitchL ≤ d.feedTicks) (h : d.ltn.lead ≠ none) (h2 : 2 ≤ d.ltn.leadQ.length) :
    d.leadTrigger = ((((d.setLeadHwm (d.leadHwm + d.pitchL)).count F.LTN_COUNT.SKIP_CNT 1).flag F.LTN_STATUS.LEAD_SKIP).irq 3).reconFallback true
      (some (divFloor (d.leadHwm + d.pitchL - d.origin) d.pitchL)) := by
  unfold Dev.leadTrigger
  rw [hb]
  extract_lets g k d1
  have h1 : d1.ltn = d.ltn := d.setLeadHwm_ltn g
  dsimp only
  rw [if_neg (by simpa [hlive, hl] using hfeed), if_pos]
  rw [h1]
  simp [h2, Option.isSome_iff_ne_none, h]

/-! ## The grid's own -/

theorem unsigned_mod_64 (x : Int) : unsigned 64 x % 2 ^ 64 = unsigned 64 x := by
  unfold unsigned
  norm_num
  omega

theorem Dev.hwm_setHwm (d : Dev) {x : Int} (h0 : -9223372036854775808 ≤ x) (h1 : x < 9223372036854775808) : (d.setHwm x).hwm = x := by
  unfold Dev.hwm Dev.r64i Dev.setHwm
  rw [Dev.r64_set64 _ _ _ _ (by decide)]
  rw [unsigned_mod_64]
  exact signed_unsigned_64 h0 h1

theorem Dev.hwm_congr {d e : Dev} (h : d.LowKept e) : e.hwm = d.hwm := by
  unfold Dev.hwm Dev.r64i Dev.r64
  rw [h _ (by decide) (by decide), h _ (by decide) (by decide)]

theorem Dev.leadHwm_setLeadHwm (d : Dev) {x : Int} (h0 : -9223372036854775808 ≤ x) (h1 : x < 9223372036854775808) :
    (d.setLeadHwm x).leadHwm = x := by
  unfold Dev.leadHwm Dev.r64i Dev.setLeadHwm
  rw [Dev.r64_set64 _ _ _ _ (by decide), unsigned_mod_64]
  exact signed_unsigned_64 h0 h1

theorem Dev.skip_setHwm (d : Dev) (x : Int) : (d.setHwm x).f F.LTN_COUNT.SKIP_CNT = d.f F.LTN_COUNT.SKIP_CNT := by
  unfold Dev.setHwm Dev.set64
  rw [Dev.f_setReg_ne _ _ _ (by decide), Dev.f_setReg_ne _ _ _ (by decide)]

theorem Dev.setHwm_mode (d : Dev) (x : Int) : (d.setHwm x).mode = d.mode := rfl
theorem Dev.setLeadHwm_mode (d : Dev) (x : Int) : (d.setLeadHwm x).mode = d.mode := rfl

/-- What a lost grid point writes of the registers. -/
theorem Dev.skipped_only (d : Dev) (x : Fld) (hx : x.lo ≤ x.hi + 1 ∧ x.hi < 32) :
    d.Only (((d.count F.LTN_COUNT.SKIP_CNT 1).flag x).irq 3) [F.LTN_COUNT.SKIP_CNT, x, whole R.TOP_INT_STATUS] := by
  have h : ∀ b < 32, (intBit b).within [F.LTN_COUNT.SKIP_CNT, x, whole R.TOP_INT_STATUS] :=
    fun b hb => ⟨Nat.le_succ _, hb, whole R.TOP_INT_STATUS, by simp, rfl, Nat.zero_le _, Nat.le_of_lt_succ hb⟩
  exact (((Dev.Only.refl _ _).count _ _ (by simp [Fld.within])).flag x ⟨hx.1, hx.2, x, by simp, rfl, le_refl _, le_refl _⟩
    (h _ (intBitOf_lt _))).irq 3 (h 3 (by decide))

/-- A grid point that is lost is counted and shown, and the grid has moved on. -/
theorem Dev.gridSkip_spec (d : Dev) (k : Int) :
    let e := (((((d.count F.LTN_COUNT.SKIP_CNT 1).flag F.LTN_STATUS.GRID_SKIP).irq 3).surveyLost k).reconFallback false (some k))
    e.ltn = d.ltn ∧ e.hwm = d.hwm ∧ e.f F.LTN_STATUS.GRID_SKIP = 1 ∧ e.f F.LTN_COUNT.SKIP_CNT = min (d.f F.LTN_COUNT.SKIP_CNT + 1) 65535 := by
  intro e
  have h1 : d.RegsOut (((d.count F.LTN_COUNT.SKIP_CNT 1).flag F.LTN_STATUS.GRID_SKIP).irq 3) :=
    ((d.setF_regsOut _ _).trans (Dev.flag_regsOut _ _)).trans (Dev.irq_regsOut _ _)
  obtain ⟨hreg, -, -⟩ := Dev.reconFallback_regs ((((d.count F.LTN_COUNT.SKIP_CNT 1).flag F.LTN_STATUS.GRID_SKIP).irq 3).surveyLost k) false (some k)
  have hlow : Dev.LowKept (((d.count F.LTN_COUNT.SKIP_CNT 1).flag F.LTN_STATUS.GRID_SKIP).irq 3) e :=
    (Dev.surveyLost_lowKept _ k).trans (Dev.LowKept.of_regs hreg)
  have hltn : e.ltn = ((((d.count F.LTN_COUNT.SKIP_CNT 1).flag F.LTN_STATUS.GRID_SKIP).irq 3).surveyLost k).ltn := by
    unfold e Dev.reconFallback
    rfl
  clear_value e
  refine ⟨?_, ?_, ?_, ?_⟩
  · exact hltn.trans ((Dev.surveyLost_ltn _ k).trans (h1.eq Dev.ltn fun _ _ _ => rfl))
  · rw [Dev.hwm_congr hlow]
    unfold Dev.hwm Dev.r64i Dev.r64
    have honly := d.skipped_only F.LTN_STATUS.GRID_SKIP (by decide)
    rw [honly.reg _ (by decide), honly.reg _ (by decide)]
  · rw [hlow.f (by decide) (by decide), Dev.f_irq _ _ _ _ _ (by decide)]
    exact Dev.f_flag_same _ _ _ (by decide) (by decide)
  · rw [hlow.f (by decide) (by decide), Dev.f_irq _ _ _ _ _ (by decide), Dev.f_flag_other _ _ _ _ _ (by decide) (by decide)]
    exact Dev.f_count_self d _ 1 (by decide) (by decide)

theorem Dev.leadSkip_spec (d : Dev) (k : Int) :
    let e := ((((d.count F.LTN_COUNT.SKIP_CNT 1).flag F.LTN_STATUS.LEAD_SKIP).irq 3).reconFallback true (some k))
    e.ltn = d.ltn ∧ e.leadHwm = d.leadHwm ∧ e.f F.LTN_STATUS.LEAD_SKIP = 1 := by
  intro e
  have honly := d.skipped_only F.LTN_STATUS.LEAD_SKIP (by decide)
  have hreg : e.regs = _ := (Dev.reconFallback_regs _ true (some k)).1
  have hltn : e.ltn = (((d.count F.LTN_COUNT.SKIP_CNT 1).flag F.LTN_STATUS.LEAD_SKIP).irq 3).ltn := by
    unfold e Dev.reconFallback
    rfl
  clear_value e
  refine ⟨hltn.trans (Dev.RegsOut.eq honly.1 Dev.ltn fun _ _ _ => rfl), ?_, ?_⟩
  · unfold Dev.leadHwm Dev.r64i Dev.r64
    rw [Dev.reg_regs hreg, Dev.reg_regs hreg, honly.reg _ (by decide), honly.reg _ (by decide)]
  · unfold Dev.f
    rw [Dev.reg_regs hreg]
    exact (Dev.f_irq _ _ _ _ _ (by decide)).trans (Dev.f_flag_same _ _ _ (by decide) (by decide))

/-! ## Lines without a grid -/

theorem Dev.otherLine_idle {d : Dev} {b : Bar} (hb : d.bar = some b) (h : d.ltn.main = none) :
    d.otherLine.ltn.soft = d.ltn.soft + 1 ∧
    ∃ l ∈ d.otherLine.gal.lines, l.serial = d.ltn.serial ∧ l.grid = none ∧ l.k = d.ltn.soft := by
  unfold Dev.otherLine
  split
  · exact absurd (hb.symm.trans ‹_›) (by simp)
  obtain rfl := Option.some.inj (hb.symm.trans ‹_›)
  dsimp only
  rw [if_neg (by rw [h]; simp)]
  have hv := Dev.fireMain_idle (d := { d with ltn := { d.ltn with soft := d.ltn.soft + 1 } }) h b d.ltn.soft none
  obtain ⟨l, hl, h1, -, h2, h3⟩ := Dev.mem_of_seqView hv
  exact ⟨congrArg (·.1.2.2.2.2.2) hv, l, hl, h1, h2, h3⟩

/-- A soft trigger on a disarmed grid: the write that carries it stores what the register holds. -/
theorem Dev.gridCtrlWrite_soft {d : Dev} (rq : Req) {v : Word} (hk : v &&& 0x3300FF00#32 = d.reg R.LTN_GRID_CTRL &&& 0x3300FF00#32)
    (h28 : v.toNat / 2 ^ 28 % 4 ≠ 3) (h31 : bitOf v.toNat 31 = false) (hoff : d.f F.LTN_GRID_CTRL.ARMED = 0)
    (hsrc : d.f F.LTN_GRID_CTRL.TRIG_SRC = 2) (hm : d.mode = .service) (hreq : d.req = none) :
    d.gridCtrlWrite rq (v ||| 0x00800000#32) =
      (d.setReg R.LTN_GRID_CTRL (((v ||| 0x00800000#32) &&& 0x7F00FF00#32) ||| (d.reg R.LTN_GRID_CTRL &&& 0x80000000#32))).otherLine := by
  have hbit : ∀ i, i ≠ 23 → (v ||| 0x00800000#32).getLsbD i = v.getLsbD i := by
    intro i hi
    have h0 : ∀ i < 32, i ≠ 23 → (0x00800000#32).getLsbD i = false := by decide
    by_cases h : i < 32
    · rw [BitVec.getLsbD_or, h0 i h hi, Bool.or_false]
    · rw [BitVec.getLsbD_of_ge _ _ (by omega), BitVec.getLsbD_of_ge _ _ (by omega)]
  have hand : ∀ m : Word, m.getLsbD 23 = false → (v ||| 0x00800000#32) &&& m = v &&& m := by
    intro m hm
    refine BitVec.eq_of_getLsbD_eq fun i _ => ?_
    rw [BitVec.getLsbD_and, BitVec.getLsbD_and]
    by_cases h23 : i = 23
    · rw [h23, hm, Bool.and_false, Bool.and_false]
    · rw [hbit i h23]
  have hof : ∀ hi lo, (hi < 23 ∨ 23 < lo) → bitsOf (v ||| 0x00800000#32).toNat hi lo = bitsOf v.toNat hi lo :=
    fun hi lo h => bitsOf_congr fun i h1 h2 => hbit i (by omega)
  have hbitOf : ∀ i, bitOf (v ||| 0x00800000#32).toNat i = (v ||| 0x00800000#32).getLsbD i := fun i => by
    rw [bitOf_testBit, BitVec.testBit_toNat]
  have hv31 : v.getLsbD 31 = false := by
    rw [← BitVec.testBit_toNat, ← bitOf_testBit]
    exact h31
  have hv24 : bitsOf v.toNat 25 24 = d.f F.LTN_GRID_CTRL.TRIG_SRC := by
    refine bitsOf_congr fun i h1 h2 => ?_
    have := congrArg (·.getLsbD i) hk
    have hmask : ∀ i, 24 ≤ i → i ≤ 25 → (0x3300FF00#32).getLsbD i = true := by decide
    simpa [BitVec.getLsbD_and, hmask i h1 h2] using this
  have h23 : bitOf (v ||| 0x00800000#32).toNat 23 = true := by
    rw [hbitOf, BitVec.getLsbD_or]
    simp
  unfold Dev.gridCtrlWrite
  extract_lets a old was pitch d1 d2 d3 want d4
  have hp : d1.pitch = pitch := Dev.pitch_setCtrl ((hand _ (by decide)).trans (and_mask_of hk (by decide)))
  have hd3 : d3 = d1 := (if_pos (xor_and_eq_zero ((hand _ (by decide)).trans (and_mask_of hk (by decide))))).trans (if_pos hp)
  have hwas : was = false := Dev.on_zero hoff
  have hwant : want = false := by
    unfold want
    rw [hbitOf, hbit _ (by decide), hv31]
  have hd4 : d4 = d1 := by
    unfold d4
    rw [hwas, hwant]
    exact hd3
  rw [if_neg, if_neg]
  · rw [hd4, if_pos]
    have hs : d1.f F.LTN_GRID_CTRL.TRIG_SRC = 2 := by
      rw [← hsrc, ← hv24, ← hof 25 24 (by decide)]
      refine (Dev.f_setReg_same _ _ _ _ _).trans (bitsOf_congr fun i h1 h2 => ?_)
      have hmask : ∀ i, 24 ≤ i → i ≤ 25 → (0x7F00FF00#32).getLsbD i = true ∧ (0x80000000#32).getLsbD i = false := by decide
      obtain ⟨ha, hb⟩ := hmask i h1 h2
      rw [BitVec.getLsbD_or, BitVec.getLsbD_and, BitVec.getLsbD_and, ha, hb, Bool.and_true, Bool.and_false, Bool.or_false]
    have hmode : d1.modeIn [.service] = true := by
      unfold Dev.modeIn
      rw [show d1.mode = .service from (Dev.setReg_mode _ _ _).trans hm, show d1.req = none from (Dev.setReg_req _ _ _).trans hreq]
      rfl
    rw [h23, hmode, hs]
    rfl
  · rw [show d.armed = false from Dev.on_zero hoff]
    simp
  · rw [hof _ _ (by decide), hof _ _ (by decide), hv24, hsrc]
    have : bitsOf v.toNat 29 28 = v.toNat / 2 ^ 28 % 4 := rfl
    rw [this]
    omega

/-- A trigger of the main row, on a device whose grid has moved on. -/
theorem Dev.fireMain_starts {d d1 : Dev} (hl : d1.ltn = d.ltn) (h : d.ltn.main = none) (b : Bar) (k : Int) (grid : Option Int) :
    (d1.fireMain b k grid).ltn.main = some ⟨some d.ltn.serial⟩ ∧ (d1.fireMain b k grid).ltn.serial = d.ltn.serial + 1 ∧
    (d1.fireMain b k grid).ltn.mainQ = d.ltn.mainQ ∧
    ∃ l ∈ (d1.fireMain b k grid).gal.lines, l.serial = d.ltn.serial ∧ l.lead = false ∧ l.grid = grid ∧ l.k = k := by
  have hv := Dev.fireMain_idle (d := d1) (by rw [hl, h]) b k grid
  rw [hl] at hv
  exact ⟨congrArg (·.1.1) hv, congrArg (·.1.2.2.2.2.1) hv, congrArg (·.1.2.2.1) hv, Dev.mem_of_seqView hv⟩

theorem Dev.fireMain_queues {d d1 : Dev} (hl : d1.ltn = d.ltn) (hm : d1.mode = d.mode) (h : d.ltn.main ≠ none) (b : Bar) (k : Int)
    (grid : Option Int) : (d1.fireMain b k grid).ltn.main = d.ltn.main ∧ (d1.fireMain b k grid).ltn.serial = d.ltn.serial + 1 ∧
    (d1.fireMain b k grid).ltn.mainQ = d.ltn.mainQ ++ [⟨d.ltn.serial, k, grid, d.mode⟩] ∧ (d1.fireMain b k grid).f F.LTN_STATUS.OVERRUN = 1 := by
  obtain ⟨hv, ho⟩ := Dev.fireMain_busy (d := d1) (by rw [hl]; exact h) b k grid
  rw [hl, hm] at hv
  exact ⟨congrArg (·.1.1) hv, congrArg (·.1.2.2.2.2.1) hv, congrArg (·.1.2.2.1) hv, ho⟩

/-- A lead trigger with its sequencer idle, on a device whose grid has moved on. -/
theorem Dev.fireLead_starts {d d1 : Dev} (hl : d1.ltn = d.ltn) (b : Bar) (k : Int) (grid : Option Int) (m : Mode) {e : Dev}
    (he : e = (({ d1 with ltn := { d1.ltn with serial := d1.ltn.serial + 1 } } : Dev).startLead b ⟨d1.ltn.serial, k, grid, m⟩).reconFallback true (some k)) :
    e.ltn.lead = some ⟨some d.ltn.serial⟩ ∧ e.ltn.serial = d.ltn.serial + 1 ∧
    ∃ l ∈ e.gal.lines, l.serial = d.ltn.serial ∧ l.lead = true ∧ l.grid = grid := by
  have hv := Dev.fireLead_idle d1 b k grid m
  rw [← he, hl] at hv
  obtain ⟨l, hl, h1, h2, h3, -⟩ := Dev.mem_of_seqView hv
  exact ⟨congrArg (·.1.2.1) hv, congrArg (·.1.2.2.2.2.1) hv, l, hl, h1, h2, h3⟩

/-- Settles O29. -/
theorem triggers : Obligations.Triggers := by
  intro s b hb hlo hhi hlo' hhi'
  refine ⟨fun h => ?_, fun h => ?_, fun hlive hfeed => ⟨fun h => ?_, fun h hq => ?_, fun h hq => ?_⟩,
    fun hlive hl hfeed => ⟨fun h => ?_, fun h hq => ?_⟩, fun hm h => ⟨fun hsrc => ?_, fun rq v hrst hreq hoff h31 hk hsrc h28 => ?_⟩, fun hm hcal => ?_⟩
  · refine State.ignores (f := (·.gridTrigger)) rfl ?_
    unfold Dev.gridTrigger
    rw [hb]
    refine if_pos ?_
    rcases h with h | h
    · simp [h]
    · simp [h]
  · refine State.ignores (f := (·.leadTrigger)) rfl ?_
    unfold Dev.leadTrigger
    rw [hb]
    refine if_pos ?_
    rcases h with h | h | h
    · simp [h]
    · simp [h]
    · simp [h]
  · refine State.does (f := (·.gridTrigger)) rfl ?_
    rw [Dev.gridTrigger_fires hb hlive hfeed (.inl h)]
    exact Dev.fireMain_starts (Dev.setHwm_ltn _ _) h b _ _
  · refine State.does (f := (·.gridTrigger)) rfl ?_
    rw [Dev.gridTrigger_fires hb hlive hfeed (.inr hq)]
    exact Dev.fireMain_queues (Dev.setHwm_ltn _ _) (Dev.setHwm_mode _ _) h b _ _
  · refine State.does (f := (·.gridTrigger)) rfl ?_
    rw [Dev.gridTrigger_skips hb hlive hfeed h hq]
    obtain ⟨h1, h2, h3, h4⟩ := Dev.gridSkip_spec (s.dev.setHwm (s.dev.hwm + s.dev.pitch)) (divFloor (s.dev.hwm + s.dev.pitch - s.dev.origin) s.dev.pitch)
    refine ⟨h1.trans (Dev.setHwm_ltn _ _), h2.trans (Dev.hwm_setHwm _ hlo hhi), h3, h4.trans ?_⟩
    rw [Dev.skip_setHwm]
  · refine State.does (f := (·.leadTrigger)) rfl ?_
    rw [Dev.leadTrigger_fires hb hlive hl hfeed h rfl]
    exact Dev.fireLead_starts (Dev.setLeadHwm_ltn _ _) b _ _ _ rfl
  · refine State.does (f := (·.leadTrigger)) rfl ?_
    rw [Dev.leadTrigger_skips hb hlive hl hfeed h hq]
    obtain ⟨h1, h2, h3⟩ := Dev.leadSkip_spec (s.dev.setLeadHwm (s.dev.leadHwm + s.dev.pitchL))
      (divFloor (s.dev.leadHwm + s.dev.pitchL - s.dev.origin) s.dev.pitchL)
    exact ⟨h1.trans (Dev.setLeadHwm_ltn _ _), h2.trans (Dev.leadHwm_setLeadHwm _ hlo' hhi'), h3⟩
  · refine State.does (f := (·.timerTrigger)) rfl ?_
    have ht : s.dev.timerTrigger = s.dev.otherLine := if_pos (by rw [hm, hsrc]; rfl)
    rw [ht]
    exact Dev.otherLine_idle hb h
  · have haw : s.dev.awake = true := by
      rw [Dev.awake, Dev.alive, hm, hrst]
      rfl
    refine State.does (f := fun d => if d.awake then d.gridCtrlWrite rq (v ||| 0x00800000#32) else d) rfl ?_
    rw [if_pos haw, Dev.gridCtrlWrite_soft rq hk h28 h31 hoff hsrc hm hreq]
    have ho := Dev.otherLine_idle (d := s.dev.setReg R.LTN_GRID_CTRL (((v ||| 0x00800000#32) &&& 0x7F00FF00#32) |||
      (s.dev.reg R.LTN_GRID_CTRL &&& 0x80000000#32))) (b := b) hb h
    rwa [Dev.setReg_ltn] at ho
  · refine State.ignores (f := (·.timerTrigger)) rfl ?_
    unfold Dev.timerTrigger
    rw [hm, hcal]
    rfl

end Sys2Proof.Machine
end

section
/-! SUPPORT. ECC events: corrected errors of banks and rows, the migration of a bank, uncorrectable errors (R304, R305, R488). -/

namespace Sys2Proof.Machine

theorem R.ctxSupplyStatus_ne {n : Nat} (hn : n < 64) : R.SMP_COUNT ≠ R.CTX_SUPPLY_STATUS n := by
  unfold R.SMP_COUNT R.CTX_SUPPLY_STATUS
  omega

theorem R.smpBank_ne (b : Nat) : R.SMP_ECC_CFG ≠ R.SMP_BANK b ∧ R.SMP_POOL_STATUS ≠ R.SMP_BANK b := by
  unfold R.SMP_ECC_CFG R.SMP_POOL_STATUS R.SMP_BANK
  omega

theorem R.smpBank_irq (b : Nat) : R.SMP_BANK b ≠ R.TOP_INT_STATUS := by
  unfold R.SMP_BANK R.TOP_INT_STATUS
  omega

/-! ## What a dropped record leaves -/

/-- The count of uncorrectable errors and the drops of context `n` stay. -/
def Dev.dropsKept (d : Dev) (n : Nat) (e : Dev) : Prop :=
  e.f F.SMP_COUNT.UE_CNT = d.f F.SMP_COUNT.UE_CNT ∧ (e.ctx n).dropCnt = (d.ctx n).dropCnt

theorem Dev.dropsKept.refl (d : Dev) (n : Nat) : d.dropsKept n d := ⟨rfl, rfl⟩

theorem Dev.dropsKept.trans {d e g : Dev} {n : Nat} (h : d.dropsKept n e) (h' : e.dropsKept n g) : d.dropsKept n g :=
  ⟨h'.1.trans h.1, h'.2.trans h.2⟩

theorem Dev.post_dropsKept (d : Dev) {q : Nat} (hq : q < 64) (c : Cpl) (n : Nat) : d.dropsKept n (d.post q c) :=
  ⟨(d.post_answered q c hq).f (R.hstCqStatus_ne hq (by decide)) (by decide), congrArg Ctx.dropCnt (Dev.ctx_ctxs (d.post_ctxs q c) n)⟩

theorem Dev.finish_dropsKept (d : Dev) (id : Nat) (o : CmdRes) (n : Nat) : d.dropsKept n (d.finish id o) := by
  unfold Dev.finish
  split
  · have h : d.dropsKept n (d.dropRun id) := ⟨rfl, rfl⟩
    exact h.trans (Dev.post_dropsKept _ (Dev.ring_lt _ _) _ n)
  · exact Dev.dropsKept.refl d n

theorem Dev.closeBuf_dropsKept (d : Dev) (n code : Nat) : d.dropsKept n (d.closeBuf n code) := by
  unfold Dev.closeBuf
  extract_lets c
  split
  · exact Dev.dropsKept.refl d n
  · next b _ =>
    have h : d.dropsKept n (d.setCtx n { c with buf := none, lastClose := code }) :=
      ⟨rfl, (congrArg Ctx.dropCnt (Dev.ctx_setCtx_self d n _)).trans rfl⟩
    exact h.trans (Dev.post_dropsKept _ (d.ctxRing_lt n) _ n)

theorem Dev.setCtxCells_dropsKept (d : Dev) (n cells : Nat) : d.dropsKept n (d.setCtxCells n cells) := by
  refine ⟨?_, by rw [Dev.ctx_setCtxCells]⟩
  unfold Dev.setCtxCells Dev.sumpNote
  extract_lets c q u
  refine (Dev.f_setF_ne _ _ _ _ (by decide)).trans ((Dev.f_setF_ne _ _ _ _ (by decide)).trans ?_)
  exact (Dev.reportIf_only _ q.2 0 n).f _ (by decide)

theorem Dev.roomCheck_dropsKept (d : Dev) (n : Nat) : d.dropsKept n (d.roomCheck n) := by
  unfold Dev.roomCheck
  extract_lets c d1 s
  have h1 : d.dropsKept n d1 := by
    unfold d1
    split
    · exact d.closeBuf_dropsKept n 0
    · exact Dev.dropsKept.refl d n
  clear_value d1
  split
  · exact Dev.dropsKept.refl d n
  · split
    · refine h1.trans ⟨?_, congrArg Ctx.dropCnt (Dev.ctx_ctxs (d1.flag_ctxs _) n)⟩
      exact Dev.f_flag_other _ _ _ _ _ (by decide) (R.ctxSupplyStatus_ne (bitsOf_lt _ 25 20))
    · exact h1

theorem Dev.checkStop_dropsKept (d : Dev) (n : Nat) : d.dropsKept n (d.checkStop n) := by
  unfold Dev.checkStop
  extract_lets c
  split
  · exact Dev.dropsKept.refl d n
  · next code _ =>
    extract_lets d1 c1 d2
    split
    · exact Dev.dropsKept.refl d n
    · have h2 : d.dropsKept n d2 := (d.closeBuf_dropsKept n code).trans ⟨rfl, (congrArg Ctx.dropCnt (Dev.ctx_setCtx_self d1 n _)).trans rfl⟩
      clear_value d2
      generalize d2.running = l
      induction l generalizing d2 with
      | nil => exact h2
      | cons r t ih =>
        refine ih _ (h2.trans ?_)
        dsimp only
        split
        · split
          · exact Dev.finish_dropsKept _ _ _ n
          · exact Dev.dropsKept.refl _ n
        · exact Dev.dropsKept.refl _ n

theorem Ctx.markLost_spec (c : Ctx) (i : Nat) : (c.markLost i).waiting.length = c.waiting.length ∧ (c.markLost i).dropCnt = c.dropCnt := by
  unfold Ctx.markLost
  split
  · exact ⟨List.length_set .., rfl⟩
  · exact ⟨rfl, rfl⟩

/-- An uncorrectable error drops the record it is in, and no other. -/
theorem Dev.ueRecord_drops {d : Dev} {n i : Nat} {r : Rec} (h : (d.ctx n).waiting[i]? = some r) :
    (d.ueRecord n i).f F.SMP_COUNT.UE_CNT = d.f F.SMP_COUNT.UE_CNT ∧
    ((d.ueRecord n i).ctx n).dropCnt = min ((d.ctx n).dropCnt + 1) 0xFFFFFFFF ∧ (∀ m, m ≠ n → (d.ueRecord n i).ctx m = d.ctx m) ∧
    ((d.ueRecord n i).ctx n).waiting.length + 1 = (d.ctx n).waiting.length := by
  unfold Dev.ueRecord
  extract_lets c c'
  rw [show c.waiting[i]? = some r from h]
  dsimp only
  obtain ⟨hi, -⟩ := List.getElem?_eq_some_iff.mp h
  obtain ⟨hlen, hdrop⟩ := c'.markLost_spec i
  have herase : c'.waiting.length + 1 = (d.ctx n).waiting.length := by
    refine (congrArg (· + 1) (List.length_eraseIdx_of_lt hi)).trans ?_
    exact Nat.sub_add_cancel (Nat.succ_le_of_lt (Nat.zero_lt_of_lt hi))
  have hself : (d.setCtx n (c'.markLost i)).ctx n = c'.markLost i := Dev.ctx_setCtx_self _ _ _
  have hue : (d.setCtx n (c'.markLost i)).f F.SMP_COUNT.UE_CNT = d.f F.SMP_COUNT.UE_CNT := rfl
  have hne : ∀ m, m ≠ n → (d.setCtx n (c'.markLost i)).ctx m = d.ctx m := fun m hm => Dev.ctx_setCtx_ne _ _ hm
  have hc : c'.dropCnt = min ((d.ctx n).dropCnt + 1) 0xFFFFFFFF := rfl
  clear_value c'
  generalize d.setCtx n (c'.markLost i) = d1 at hself hue hne
  obtain ⟨h1, h2⟩ := ((d1.setCtxCells_dropsKept n (c'.cells - r.cells)).trans (Dev.roomCheck_dropsKept _ n)).trans (Dev.checkStop_dropsKept _ n)
  obtain ⟨-, hw, -, -⟩ := ((d1.setCtxCells_delivers n (c'.cells - r.cells)).trans (Dev.roomCheck_delivers _ n)).trans (Dev.checkStop_delivers _ n)
  refine ⟨h1.trans hue, ?_, fun m hm => ?_, ?_⟩
  · rw [h2, hself, hdrop, hc]
  · rw [Dev.ctx_checkStop_ne _ hm, Dev.ctx_roomCheck_ne _ hm, Dev.ctx_setCtxCells_ne _ _ hm, hne m hm]
  · rw [hw, hself, hlen, herase]

/-! ## Banks -/

theorem reaches_iff {limit old new : Nat} : reaches limit old new = true ↔ 0 < limit ∧ old < limit ∧ limit ≤ new := by
  unfold reaches
  simp only [Bool.and_eq_true, decide_eq_true_eq]
  omega

theorem Dev.bankErrors_eq (d : Dev) (b n : Nat) {new : Nat} (hnew : new = min (d.f (F.SMP_BANK.CE_TOTAL b) + n) (F.SMP_BANK.CE_TOTAL b).max)
    {d1 : Dev} (hd1 : d1 = d.count (F.SMP_BANK.CE_TOTAL b) n) : d1.f (F.SMP_BANK.CE_TOTAL b) = new ∧ d.bankErrors b n =
      if !reaches (d.f F.SMP_ECC_CFG.ECC_LIMIT) (d.f (F.SMP_BANK.CE_TOTAL b)) new then d1
      else if d.sump.spareUsed || d.sump.migrating.isSome then (d1.setF F.SMP_POOL_STATUS.ECC_NO_SPARE 1).irq 10
      else { d1 with sump := { d1.sump with migrating := some b } } := by
  have hf : d1.f (F.SMP_BANK.CE_TOTAL b) = new := by
    rw [hd1, hnew]
    exact Dev.f_count_self d (F.SMP_BANK.CE_TOTAL b) n (Nat.le_of_ble_eq_true rfl) (Nat.le_of_ble_eq_true rfl)
  have hl : d1.f F.SMP_ECC_CFG.ECC_LIMIT = d.f F.SMP_ECC_CFG.ECC_LIMIT := by
    rw [hd1]
    exact Dev.f_setF_ne _ _ _ _ (R.smpBank_ne b).1
  have hs : d1.sump = d.sump := by
    rw [hd1]
    exact Dev.setF_sump _ _ _
  refine ⟨hf, ?_⟩
  unfold Dev.bankErrors
  rw [← hd1]
  dsimp only
  rw [hf, hl, hs]

/-! ## Ledger entries and rows -/

theorem Dev.ledgerEvent_queued {d : Dev} (h : d.ledger.length + d.ledgerQ.length < 128) (hq : d.ledgerQ.length < 16) (e : LedgerEvent) :
    (d.ledgerEvent e).ledgerQ = d.ledgerQ ++ [ledgerBytes e (d.f F.PWR_RESET_CAUSE.BOOT_CNT)] := by
  unfold Dev.ledgerEvent
  rw [if_neg (by omega), if_neg (by omega), Dev.setF_ledgerQ]

theorem Dev.ledgerEvent_keeps_sump (d : Dev) (e : LedgerEvent) : (d.ledgerEvent e).sump = d.sump ∧ (d.ledgerEvent e).rows = d.rows ∧
    (d.ledgerEvent e).rowErrs = d.rowErrs := by
  unfold Dev.ledgerEvent
  split
  · exact ⟨Dev.flag_sump _ _, Dev.flag_rows _ _, Dev.flag_rowErrs _ _⟩
  · split
    · exact ⟨Dev.flag_sump _ _, Dev.flag_rows _ _, Dev.flag_rowErrs _ _⟩
    · exact ⟨Dev.setF_sump _ _ _, Dev.setF_rows _ _ _, Dev.setF_rowErrs _ _ _⟩

theorem Dev.ledgerEvent_f (d : Dev) (e : LedgerEvent) {y : Fld} (h : y.addr ≠ R.SEC_LEDGER_STATUS) (h' : y.addr ≠ R.TOP_INT_STATUS) :
    (d.ledgerEvent e).f y = d.f y := by
  unfold Dev.ledgerEvent
  split
  · exact Dev.f_flag_other _ _ _ _ _ h' h
  · split
    · exact Dev.f_flag_other _ _ _ _ _ h' h
    · exact (Dev.f_setF_ne _ _ _ _ h).trans rfl

theorem Dev.rowErrors_below {d : Dev} {m row n : Nat}
    (h : d.f F.TOP_SRAM_STATUS.ROW_LIMIT = 0 ∨ d.f F.TOP_SRAM_STATUS.ROW_LIMIT ≤ d.rowCount m row ∨
      d.rowCount m row + n < d.f F.TOP_SRAM_STATUS.ROW_LIMIT) :
    d.rowErrors m row n = { d with rowErrs := spSet (fun _ => 0) d.rowErrs (rowKey m row) (d.rowCount m row + n) } := by
  unfold Dev.rowErrors
  refine if_pos ?_
  change (!reaches (d.f F.TOP_SRAM_STATUS.ROW_LIMIT) _ _) = true
  rw [Bool.not_eq_true', ← Bool.not_eq_true, reaches_iff]
  omega

/-- A row at its limit, in a memory with a spare row left and in one without. -/
theorem Dev.rowErrors_reaches {d : Dev} {m row n : Nat} (h0 : 0 < d.f F.TOP_SRAM_STATUS.ROW_LIMIT)
    (h1 : d.rowCount m row < d.f F.TOP_SRAM_STATUS.ROW_LIMIT) (h2 : d.f F.TOP_SRAM_STATUS.ROW_LIMIT ≤ d.rowCount m row + n) {d1 : Dev}
    (hd1 : d1 = { d with rowErrs := spSet (fun _ => 0) d.rowErrs (rowKey m row) (d.rowCount m row + n) }.setF F.TOP_SRAM_STATUS.LAST_MACRO m) :
    d.rowErrors m row n = if 4 ≤ (d.rows.filter (fun r => r.1 = m)).length then d1.flag F.TOP_SRAM_STATUS.ROW_NO_SPARE
      else (({ d1 with rows := d1.rows ++ [(m, row)] }.setF F.TOP_SRAM_STATUS.ROWS_USED (min 255 (d1.rows ++ [(m, row)]).length)).ledgerEvent
        ⟨6, m, row % 256, row / 256, 4⟩).flag F.TOP_SRAM_STATUS.ROW_REPAIRED := by
  unfold Dev.rowErrors
  refine (if_neg ?_).trans ?_
  · change ¬ (!reaches (d.f F.TOP_SRAM_STATUS.ROW_LIMIT) _ _) = true
    rw [Bool.not_eq_true', ← Bool.not_eq_true, reaches_iff, not_not]
    exact ⟨h0, h1, h2⟩
  · have hr : d1.rows = d.rows := by
      rw [hd1]
      exact Dev.setF_rows _ _ _
    rw [← hd1]
    dsimp only
    rw [hr]

theorem Dev.rowErrors_rowErrs (d : Dev) (m row n : Nat) :
    (d.rowErrors m row n).rowErrs = spSet (fun _ => 0) d.rowErrs (rowKey m row) (d.rowCount m row + n) := by
  unfold Dev.rowErrors
  extract_lets old d1 d2 d3 d4
  have h2 : d2.rowErrs = d1.rowErrs := Dev.setF_rowErrs _ _ _
  split
  · rfl
  · split
    · exact (Dev.flag_rowErrs _ _).trans h2
    · exact (Dev.flag_rowErrs _ _).trans ((Dev.ledgerEvent_keeps_sump _ _).2.2.trans ((Dev.setF_rowErrs _ _ _).trans h2))

theorem Dev.rowCount_rowErrors (d : Dev) (m row n : Nat) : (d.rowErrors m row n).rowCount m row = d.rowCount m row + n := by
  rw [Dev.rowCount, Dev.rowErrors_rowErrs, spGet_spSet_self]

/-! ## O37 -/

theorem Dev.bankMigration_spec (d : Dev) (b : Fin 16) (n new : Nat)
    (hnew : new = min (d.f (F.SMP_BANK.CE_TOTAL b) + n) (F.SMP_BANK.CE_TOTAL b).max) :
    (d.bankErrors b n).f (F.SMP_BANK.CE_TOTAL b) = new ∧
    (d.f F.SMP_ECC_CFG.ECC_LIMIT = 0 ∨ d.f F.SMP_ECC_CFG.ECC_LIMIT ≤ d.f (F.SMP_BANK.CE_TOTAL b) ∨ new < d.f F.SMP_ECC_CFG.ECC_LIMIT →
      d.Only (d.bankErrors b n) [F.SMP_BANK.CE_TOTAL b]) ∧
    (0 < d.f F.SMP_ECC_CFG.ECC_LIMIT → d.f (F.SMP_BANK.CE_TOTAL b) < d.f F.SMP_ECC_CFG.ECC_LIMIT → d.f F.SMP_ECC_CFG.ECC_LIMIT ≤ new →
      (d.sump.spareUsed = false → d.sump.migrating = none → (d.bankErrors b n).sump = { d.sump with migrating := some b.val } ∧
        { d with sump := (d.bankErrors b n).sump }.Only (d.bankErrors b n) [F.SMP_BANK.CE_TOTAL b]) ∧
      (d.sump.spareUsed = true → (d.bankErrors b n).f F.SMP_POOL_STATUS.ECC_NO_SPARE = 1 ∧ (d.bankErrors b n).f (intBit 10) = 1 ∧
        d.Only (d.bankErrors b n) [F.SMP_BANK.CE_TOTAL b, F.SMP_POOL_STATUS.ECC_NO_SPARE, intBit 10])) := by
  obtain ⟨hf, heq⟩ := d.bankErrors_eq b n hnew rfl
  have hsump : (d.count (F.SMP_BANK.CE_TOTAL b) n).sump = d.sump := Dev.setF_sump _ _ _
  have honly : ∀ l, F.SMP_BANK.CE_TOTAL b ∈ l → d.Only (d.count (F.SMP_BANK.CE_TOTAL b) n) l := fun l hl =>
    (Dev.Only.refl d l).count _ _ ⟨Nat.le_of_ble_eq_true rfl, Nat.le_of_ble_eq_true rfl, _, hl, rfl, le_refl _, le_refl _⟩
  generalize hd1 : d.count (F.SMP_BANK.CE_TOTAL b) n = d1 at hf heq hsump honly
  have hno : ∀ hr : reaches (d.f F.SMP_ECC_CFG.ECC_LIMIT) (d.f (F.SMP_BANK.CE_TOTAL b)) new = false, d.bankErrors b n = d1 := fun hr => by
    rw [heq, hr]
    rfl
  have hyes : ∀ hr : reaches (d.f F.SMP_ECC_CFG.ECC_LIMIT) (d.f (F.SMP_BANK.CE_TOTAL b)) new = true, d.bankErrors b n =
      if d.sump.spareUsed || d.sump.migrating.isSome then (d1.setF F.SMP_POOL_STATUS.ECC_NO_SPARE 1).irq 10
      else { d1 with sump := { d1.sump with migrating := some b.val } } := fun hr => by
    rw [heq, hr]
    rfl
  refine ⟨?_, fun h => ?_, fun h0 h1 h2 => ⟨fun hs hm => ?_, fun hs => ?_⟩⟩
  · rw [heq]
    split
    · exact hf
    · split
      · exact (Dev.f_irq _ _ _ _ _ (R.smpBank_irq b)).trans ((Dev.f_setF_ne _ _ _ _ (R.smpBank_ne b).2.symm).trans hf)
      · exact hf
  · rw [hno (by rw [← Bool.not_eq_true, reaches_iff]; omega)]
    exact honly _ (by simp)
  · rw [hyes (reaches_iff.mpr ⟨h0, h1, h2⟩), if_neg (by rw [hs, hm]; simp)]
    refine ⟨by rw [hsump], ?_⟩
    obtain ⟨ha, hb⟩ := honly [F.SMP_BANK.CE_TOTAL b] (by simp)
    refine ⟨?_, fun a i h => hb a i h⟩
    dsimp only
    rw [hsump]
    conv_lhs => rw [ha]
  · rw [hyes (reaches_iff.mpr ⟨h0, h1, h2⟩), if_pos (by rw [hs]; rfl)]
    refine ⟨?_, Dev.f_irq_self _ _ (by decide), ?_⟩
    · exact (Dev.f_irq _ _ _ _ _ (by decide)).trans (Dev.f_same _ _ _ _ _ (by decide) (by decide))
    · exact ((honly _ (by simp)).setF _ _ (by simp [Fld.within])).irq _ (by simp [Fld.within, intBit])

theorem Dev.rowErrors_spec {d : Dev} {m : Fin 256} {row n : Nat} (h0 : 0 < d.f F.TOP_SRAM_STATUS.ROW_LIMIT)
    (h1 : d.rowCount m row < d.f F.TOP_SRAM_STATUS.ROW_LIMIT) (h2 : d.f F.TOP_SRAM_STATUS.ROW_LIMIT ≤ d.rowCount m row + n) :
    (d.rowErrors m row n).f F.TOP_SRAM_STATUS.LAST_MACRO = m ∧
    ((d.rows.filter (fun r => r.1 = m.val)).length < 4 → (d.rowErrors m row n).rows = d.rows ++ [(m.val, row)] ∧
      (d.rowErrors m row n).f F.TOP_SRAM_STATUS.ROW_REPAIRED = 1 ∧
      (d.rowErrors m row n).f F.TOP_SRAM_STATUS.ROWS_USED = min 255 (d.rows.length + 1)) ∧
    (4 ≤ (d.rows.filter (fun r => r.1 = m.val)).length → (d.rowErrors m row n).rows = d.rows ∧
      (d.rowErrors m row n).f F.TOP_SRAM_STATUS.ROW_NO_SPARE = 1) := by
  have heq := Dev.rowErrors_reaches h0 h1 h2 rfl
  generalize hd1 : Dev.setF { d with rowErrs := spSet (fun _ => 0) d.rowErrs (rowKey m row) (d.rowCount m row + n) } F.TOP_SRAM_STATUS.LAST_MACRO m = d1 at heq
  have hr : d1.rows = d.rows := by
    rw [← hd1]
    exact Dev.setF_rows _ _ _
  have hm : d1.f F.TOP_SRAM_STATUS.LAST_MACRO = m := by
    rw [← hd1]
    exact (Dev.f_same _ _ _ _ _ (by decide) (by decide)).trans (Nat.mod_eq_of_lt m.isLt)
  rw [hr] at heq
  by_cases h4 : 4 ≤ (d.rows.filter (fun r => r.1 = m.val)).length
  case pos =>
    rw [if_pos h4] at heq
    rw [heq]
    exact ⟨(Dev.f_flag_apart' _ _ _ _ _ (by decide) (by decide) (by decide)).trans hm, fun h => absurd h4 (by omega), fun _ =>
      ⟨(Dev.flag_rows _ _).trans hr, Dev.f_flag_same _ _ _ (by decide) (by decide)⟩⟩
  case neg =>
    rw [if_neg h4] at heq
    rw [heq]
    generalize hd2 : ({ d1 with rows := d.rows ++ [(m.val, row)] } : Dev) = d2
    have hm2 : d2.f F.TOP_SRAM_STATUS.LAST_MACRO = m := by rw [← hd2]; exact hm
    have hr2 : d2.rows = d.rows ++ [(m.val, row)] := by rw [← hd2]
    refine ⟨?_, fun _ => ⟨?_, Dev.f_flag_same _ _ _ (by decide) (by decide), ?_⟩, fun h => absurd h h4⟩
    · refine (Dev.f_flag_apart' _ _ _ _ _ (by decide) (by decide) (by decide)).trans ((Dev.ledgerEvent_f _ _ (by decide) (by decide)).trans ?_)
      exact (Dev.f_apart _ _ _ _ _ _ _ (by decide) (by decide) (by decide)).trans hm2
    · exact (Dev.flag_rows _ _).trans ((Dev.ledgerEvent_keeps_sump _ _).2.1.trans ((Dev.setF_rows _ _ _).trans hr2))
    · refine (Dev.f_flag_apart' _ _ _ _ _ (by decide) (by decide) (by decide)).trans ((Dev.ledgerEvent_f _ _ (by decide) (by decide)).trans ?_)
      refine (Dev.f_same _ _ _ _ _ (by decide) (by decide)).trans ?_
      rw [List.length_append]
      exact Nat.mod_eq_of_lt (lt_of_le_of_lt (min_le_left _ _) (by decide))

/-- Settles O37. -/
theorem eccRepairs : Obligations.EccRepairs := by
  intro s hal
  refine ⟨fun b n old new hold hnew => ?_, fun hm => ?_, fun b hm => ?_, fun m row n => ?_, fun c hc => ?_, fun n i r hr => ?_, fun i px h hh => ?_⟩
  · refine State.does (f := fun d => if d.alive then d.bankErrors b n else d) rfl ?_
    rw [if_pos hal]
    subst hold
    obtain ⟨h1, h2, h3⟩ := s.dev.bankMigration_spec b n new hnew
    refine ⟨h1, fun lim hlim => ?_⟩
    subst hlim
    exact ⟨h2, fun a0 a1 a2 => (h3 a0 a1 a2).1, fun a0 a1 a2 => (h3 a0 a1 a2).2⟩
  · refine State.ignores (f := (·.migrated)) rfl ?_
    unfold Dev.migrated
    rw [hm]
  · refine State.does (f := (·.migrated)) rfl ?_
    unfold Dev.migrated
    rw [hm]
    extract_lets old src d1
    refine ⟨?_, Dev.f_flag_same _ _ _ (by decide) (by decide), fun h hq => ?_⟩
    · exact (Dev.flag_sump _ _).trans (Dev.ledgerEvent_keeps_sump _ _).1
    · refine (Dev.flag_ledgerQ _ _).trans ((Dev.ledgerEvent_queued ?_ ?_ _).trans rfl)
      · exact h
      · exact hq
  · have hd : ¬ s.dev.mode = .dormant := by
      intro h
      rw [Dev.alive, h] at hal
      exact absurd hal (by decide)
    refine State.does (f := fun d => if d.mode = .dormant then d else d.rowErrors m row n) rfl ?_
    rw [if_neg hd]
    refine ⟨s.dev.rowCount_rowErrors m row n, fun lim hlim => ⟨fun h => ?_, fun h0 h1 h2 => ?_⟩⟩
    · subst hlim
      rw [Dev.rowErrors_below h]
    · subst hlim
      exact Dev.rowErrors_spec h0 h1 h2
  · refine State.ignores (f := fun d => if d.alive then d.ue c else d) rfl ?_
    rw [if_pos hal, Dev.ue, if_pos (by rw [hc]; rfl)]
  · refine State.does (f := fun d => if d.alive then d.ue (.record n i) else d) rfl ?_
    have hheld : s.dev.ueHeld (.record n i) = true := decide_eq_true (List.getElem?_eq_some_iff.mp hr).1
    rw [if_pos hal, Dev.ue, if_neg (by rw [hheld]; simp)]
    dsimp only
    obtain ⟨h1, h2, h3, h4⟩ := Dev.ueRecord_drops (d := s.dev.count F.SMP_COUNT.UE_CNT 1) (n := n) (i := i) (r := r) hr
    exact ⟨h1.trans (Dev.f_count_self _ _ _ (by decide) (by decide)), h2, h3, h4⟩
  · refine State.does (f := fun d => if d.alive then d.ue (.history i px) else d) rfl ?_
    have hheld : s.dev.ueHeld (.history i px) = true := decide_eq_true (List.getElem?_eq_some_iff.mp hh).1
    rw [if_pos hal, Dev.ue, if_neg (by rw [hheld]; simp)]
    have hg : (s.dev.count F.SMP_COUNT.UE_CNT 1).gal = s.dev.gal := Dev.setF_gal _ _ _
    have hf := Dev.f_count_self s.dev F.SMP_COUNT.UE_CNT 1 (by decide) (by decide)
    have ho : s.dev.Only (s.dev.count F.SMP_COUNT.UE_CNT 1) [F.SMP_COUNT.UE_CNT] := (Dev.Only.refl _ _).count _ _ (by simp [Fld.within])
    generalize s.dev.count F.SMP_COUNT.UE_CNT 1 = d1 at hg hf ho
    dsimp only
    rw [Dev.ueHistory, hg, hh]
    obtain ⟨ha, hb⟩ := ho
    refine ⟨hf, rfl, ?_, fun a i h => hb a i h⟩
    dsimp only
    conv_lhs => rw [ha]

end Sys2Proof.Machine
end

section
/-! SUPPORT. Host writes of the video front end's channels and groups (R85, R92, R93, R96, R97, R491, R544). -/

namespace Sys2Proof.Machine

/-! ## Fields beside a write -/

/-- Two fields share no bit. -/
def Fld.off (x y : Fld) : Prop := x.addr ≠ y.addr ∨ y.hi < x.lo ∨ x.hi < y.lo

theorem Dev.f_setF_off (d : Dev) {x y : Fld} (v : Nat) (hx : x.lo ≤ x.hi + 1 ∧ x.hi < 32) (h : x.off y) : (d.setF x v).f y = d.f y :=
  ((Dev.Only.refl d [x]).setF x v ⟨hx.1, hx.2, x, by simp, rfl, le_refl _, le_refl _⟩).f y fun z hz => by
    obtain rfl := List.mem_singleton.mp hz
    exact h

theorem R.domBit_ne {n a : Nat} (ha : 0x40000 ≤ a) (hn : n < 72) : (domBit n).addr ≠ a := by
  change 0x10020 + 0x4 * (n / 32) ≠ a
  omega

theorem R.afeChCtrl_ge (g c : Nat) : 0x40000 ≤ R.AFE_CH_CTRL g c := by
  unfold R.AFE_CH_CTRL
  omega

theorem R.afeGrpSwitch_ge (g : Nat) : 0x40000 ≤ R.AFE_GRP_SWITCH g := by
  unfold R.AFE_GRP_SWITCH
  omega

theorem R.afeChCtrl_ne_switch (g : Nat) {c : Nat} (hc : c < 9) : R.AFE_CH_CTRL g c ≠ R.AFE_GRP_SWITCH g := by
  unfold R.AFE_CH_CTRL R.AFE_GRP_SWITCH
  omega

theorem domBit_ok (n : Nat) : (domBit n).lo ≤ (domBit n).hi + 1 ∧ (domBit n).hi < 32 :=
  ⟨Nat.le_succ _, Nat.mod_lt _ (by decide)⟩

/-! ## Channels -/

theorem Dev.ch_setCh_self (d : Dev) (g c : Nat) (x : AfeCh) : (d.setCh g c x).ch g c = x := spGet_spSet_self _ _ _

theorem Dev.ch_setCh_ne (d : Dev) {g c h k : Nat} (x : AfeCh) (hne : (h, k) ≠ (g, c)) (hc : c < 9) (hk : k < 9) :
    (d.setCh g c x).ch h k = d.ch h k := by
  refine spGet_spSet_ne _ _ ?_
  unfold chIdx
  intro heq
  exact hne (by rw [show h = g by omega, show k = c by omega])

theorem Dev.ch_afeCh {d e : Dev} (h : e.afeCh = d.afeCh) (g c : Nat) : e.ch g c = d.ch g c := by
  unfold Dev.ch
  rw [h]

theorem Dev.setSource_ch (d : Dev) (g c s h k : Nat) : (d.setSource g c s).ch h k = d.ch h k := by
  refine Dev.ch_afeCh ?_ h k
  unfold Dev.setSource
  extract_lets d1
  have h1 : d1.afeCh = d.afeCh := Dev.setF_afeCh _ _ _
  split
  · exact (Dev.setF_afeCh _ _ _).trans h1
  · exact h1

theorem Dev.setSource_f (d : Dev) (g c s : Nat) {y : Fld} (h : (F.AFE_CH_CTRL.SOURCE g c).off y) (h' : (F.AFE_GRP_SWITCH.SPARE_SOURCE g).off y) :
    (d.setSource g c s).f y = d.f y := by
  unfold Dev.setSource
  extract_lets d1
  have h1 : d1.f y = d.f y := d.f_setF_off _ ⟨Nat.le_of_ble_eq_true rfl, Nat.le_of_ble_eq_true rfl⟩ h
  split
  · exact (d1.f_setF_off _ ⟨Nat.le_of_ble_eq_true rfl, Nat.le_of_ble_eq_true rfl⟩ h').trans h1
  · exact h1

theorem Dev.source_setSource (d : Dev) (g c : Nat) {s : Nat} (hs : s < 16) (hne : R.AFE_CH_CTRL g c ≠ R.AFE_GRP_SWITCH g) :
    (d.setSource g c s).source g c = s := by
  unfold Dev.setSource
  extract_lets d1
  have h1 : d1.source g c = s := (Dev.f_same _ _ _ _ _ (Nat.le_of_ble_eq_true rfl) (Nat.le_of_ble_eq_true rfl)).trans (Nat.mod_eq_of_lt hs)
  split
  · exact (Dev.f_setF_ne _ _ _ _ hne).trans h1
  · exact h1

/-! ## Power -/

/-- What power leaves of a channel's fields: the source, its supply's bits and no other. -/
theorem Dev.powerCh_f (d : Dev) (g c : Nat) {y : Fld} (h1 : (F.AFE_CH_CTRL.SOURCE g c).off y) (h2 : (F.AFE_GRP_SWITCH.SPARE_SOURCE g).off y)
    (h3 : (F.AFE_CH_CTRL.PWR_OK g c).off y) (h4 : (domBit (9 * g + c)).off y) : (d.powerCh g c).f y = d.f y := by
  unfold Dev.powerCh Dev.powerDown Dev.disconnect
  extract_lets want src d1
  have hd1 : d1.f y = d.f y := Eq.trans rfl (d.setSource_f g c 15 h1 h2)
  split
  · exact (Dev.f_setF_off _ _ (domBit_ok _) h4).trans rfl
  · split
    · exact (Dev.f_setF_off _ _ (domBit_ok _) h4).trans
        ((Dev.f_setF_off _ _ ⟨Nat.le_of_ble_eq_true rfl, Nat.le_of_ble_eq_true rfl⟩ h3).trans (Eq.trans rfl hd1))
    · rfl

theorem Dev.disconnect_ch (d : Dev) (g c : Nat) : (d.disconnect g c).ch g c = { d.ch g c with connecting := none } := by
  unfold Dev.disconnect
  exact Dev.ch_setCh_self _ _ _ _

theorem Dev.powerDown_ch (d : Dev) (g c : Nat) : (d.powerDown g c).ch g c =
    { d.ch g c with connecting := none, powered := false, failed := false, service := false, overrun := false } := by
  unfold Dev.powerDown
  extract_lets d1 src
  rw [Dev.ch_afeCh (Dev.setF_afeCh _ _ _), Dev.ch_afeCh (Dev.setF_afeCh _ _ _), Dev.ch_setCh_self]
  unfold src d1
  rw [Dev.disconnect_ch]

/-- The channel after power followed its enable: powered as wanted, and what it may want stays. -/
theorem Dev.powerCh_ch (d : Dev) (g c : Nat) : ((d.powerCh g c).ch g c).powered = d.wantsPower g c ∧
    ((d.powerCh g c).ch g c).retired = (d.ch g c).retired ∧ ((d.powerCh g c).ch g c).tapOf = (d.ch g c).tapOf ∧
    ((d.powerCh g c).ch g c).spare = (d.ch g c).spare := by
  unfold Dev.powerCh
  extract_lets want
  have hw : want = d.wantsPower g c := rfl
  clear_value want
  subst hw
  split
  next h =>
    rw [Dev.ch_afeCh (Dev.setF_afeCh _ _ _), Dev.ch_setCh_self]
    rw [Bool.and_eq_true] at h
    exact ⟨h.1.symm, rfl, rfl, rfl⟩
  next h =>
    split
    next h' =>
      rw [Dev.powerDown_ch]
      rw [Bool.and_eq_true, Bool.not_eq_true'] at h'
      exact ⟨h'.1.symm, rfl, rfl, rfl⟩
    next h' =>
      refine ⟨?_, rfl, rfl, rfl⟩
      revert h h'
      cases d.wantsPower g c <;> cases (d.ch g c).powered <;> simp

theorem Dev.powerCh_ch_ne (d : Dev) {g c h k : Nat} (hne : (h, k) ≠ (g, c)) (hc : c < 9) (hk : k < 9) : (d.powerCh g c).ch h k = d.ch h k := by
  unfold Dev.powerCh Dev.powerDown Dev.disconnect
  extract_lets want src d1
  split
  · rw [Dev.ch_afeCh (Dev.setF_afeCh _ _ _), Dev.ch_setCh_ne _ _ hne hc hk]
  · split
    · rw [Dev.ch_afeCh (Dev.setF_afeCh _ _ _), Dev.ch_afeCh (Dev.setF_afeCh _ _ _), Dev.ch_setCh_ne _ _ hne hc hk]
      exact (Dev.ch_setCh_ne _ _ hne hc hk).trans (Dev.setSource_ch _ _ _ _ _ _)
    · rfl

theorem Dev.wantsPower_congr {d e : Dev} {g c : Nat} (hf : e.feActive = d.feActive) (hb : e.bar = d.bar)
    (hen : e.f (F.AFE_CH_CTRL.EN g c) = d.f (F.AFE_CH_CTRL.EN g c)) (hs : e.f (F.AFE_GRP_SWITCH.SPARE_EN g) = d.f (F.AFE_GRP_SWITCH.SPARE_EN g))
    (hr : (e.ch g c).retired = (d.ch g c).retired) (ht : (e.ch g c).tapOf = (d.ch g c).tapOf) (hp : (e.ch g c).spare = (d.ch g c).spare) :
    e.wantsPower g c = d.wantsPower g c := by
  have htap : ∀ t, e.tapNamed g t = d.tapNamed g t := fun t => by rw [Dev.tapNamed, Dev.tapNamed, hb]
  unfold Dev.wantsPower Dev.on
  dsimp only
  rw [hf, hen, hs, hr, ht, hp]
  cases (d.ch g c).tapOf with
  | none => rfl
  | some t =>
    dsimp only
    rw [htap]

theorem Dev.wantsPower_powerCh (d : Dev) {g c : Nat} (hc : c < 9) (hg : g < 8) : (d.powerCh g c).wantsPower g c = d.wantsPower g c := by
  obtain ⟨-, hr, ht, hs⟩ := d.powerCh_ch g c
  have hout := d.powerCh_powerOut g c
  have hctl := R.afeChCtrl_ne_switch g hc
  refine Dev.wantsPower_congr ?_ (hout.eq Dev.bar fun _ _ _ _ _ _ _ => rfl) ?_ ?_ hr ht hs
  · unfold Dev.feActive
    rw [hout.eq Dev.mode fun _ _ _ _ _ _ _ => rfl, hout.eq Dev.req fun _ _ _ _ _ _ _ => rfl]
  · exact d.powerCh_f g c (.inr (.inr (Nat.le_of_ble_eq_true rfl))) (.inl hctl.symm) (.inr (.inr (Nat.le_of_ble_eq_true rfl)))
      (.inl (R.domBit_ne (R.afeChCtrl_ge g c) (by omega)))
  · exact d.powerCh_f g c (.inl hctl) (.inr (.inr (Nat.le_of_ble_eq_true rfl))) (.inl hctl)
      (.inl (R.domBit_ne (R.afeGrpSwitch_ge g) (by omega)))

/-! ## Writes of a channel's enable -/

theorem Dev.chCtrlWrite_spec (d : Dev) (g : Fin 8) (c : Fin 9) (v : Word) :
    (d.chCtrlWrite g c v).f (F.AFE_CH_CTRL.EN g c) = v.toNat / 2 ^ 31 ∧ (d.chCtrlWrite g c v).f (F.AFE_CH_CTRL.POLARITY g c) = v.toNat / 2 ^ 29 % 2 ∧
    (d.chCtrlWrite g c v).f (F.AFE_CH_CTRL.RESET_WIDTH g c) = v.toNat / 2 ^ 20 % 16 ∧
    ((d.chCtrlWrite g c v).ch g c).powered = (d.chCtrlWrite g c v).wantsPower g c ∧
    ∀ h k, (h, k) ≠ (g.val, c.val) → k < 9 → (d.chCtrlWrite g c v).ch h k = d.ch h k := by
  unfold Dev.chCtrlWrite
  extract_lets w
  generalize hd1 : ((d.setF (F.AFE_CH_CTRL.EN g c) (bitsOf w 31 31)).setF (F.AFE_CH_CTRL.POLARITY g c) (bitsOf w 29 29)).setF
    (F.AFE_CH_CTRL.RESET_WIDTH g c) (bitsOf w 23 20) = d1
  have hctl := R.afeChCtrl_ne_switch g c.isLt
  have hdom : (domBit (9 * g.val + c)).addr ≠ R.AFE_CH_CTRL g c := R.domBit_ne (R.afeChCtrl_ge g c) (by omega)
  have hkeep : ∀ hi lo, (7 < lo ∨ hi < 4) → (28 < lo ∨ hi < 28) → (d1.powerCh g c).f ⟨R.AFE_CH_CTRL g c, hi, lo⟩ = d1.f ⟨R.AFE_CH_CTRL g c, hi, lo⟩ :=
    fun hi lo h1 h2 => d1.powerCh_f g c (.inr (by tauto)) (.inl hctl.symm) (.inr (by tauto)) (.inl hdom)
  have hch : d1.afeCh = d.afeCh := by rw [← hd1, Dev.setF_afeCh, Dev.setF_afeCh, Dev.setF_afeCh]
  have hw : v.toNat < 2 ^ 32 := v.isLt
  have h31 : bitsOf w 31 31 = v.toNat / 2 ^ 31 := Nat.mod_eq_of_lt (Nat.div_lt_of_lt_mul hw)
  have h29 : bitsOf w 29 29 = v.toNat / 2 ^ 29 % 2 := rfl
  have h20 : bitsOf w 23 20 = v.toNat / 2 ^ 20 % 16 := rfl
  refine ⟨?_, ?_, ?_, ?_, fun h k hne hk => ?_⟩
  · rw [hkeep 31 31 (by decide) (by decide), ← hd1, Dev.f_apart _ _ _ _ _ _ _ (by decide) (by decide) (by decide),
      Dev.f_apart _ _ _ _ _ _ _ (by decide) (by decide) (by decide), Dev.f_same _ _ _ _ _ (by decide) (by decide), h31]
    exact Nat.mod_eq_of_lt (Nat.div_lt_of_lt_mul hw)
  · rw [hkeep 29 29 (by decide) (by decide), ← hd1, Dev.f_apart _ _ _ _ _ _ _ (by decide) (by decide) (by decide),
      Dev.f_same _ _ _ _ _ (by decide) (by decide), h29]
    exact Nat.mod_mod _ _
  · rw [hkeep 23 20 (by decide) (by decide), ← hd1, Dev.f_same _ _ _ _ _ (by decide) (by decide), h20]
    exact Nat.mod_mod _ _
  · rw [Dev.wantsPower_powerCh _ c.isLt g.isLt]
    exact (d1.powerCh_ch g c).1
  · rw [Dev.powerCh_ch_ne _ hne c.isLt hk, Dev.ch_afeCh hch]

/-! ## Trims and test charges -/

theorem R.afeChCal_ne_trim {g c n : Nat} (hn : n < 8) : R.AFE_CH_TRIM g c n ≠ R.AFE_CH_CAL g c := by
  unfold R.AFE_CH_TRIM R.AFE_CH_CAL
  omega

theorem R.afeChTrim_ne_int (g c n : Nat) : R.AFE_CH_TRIM g c n ≠ R.TOP_INT_STATUS := by
  unfold R.AFE_CH_TRIM R.TOP_INT_STATUS
  omega

theorem Dev.reg_flag_ne (d : Dev) {x : Fld} {a : Nat} (hx : x.lo ≤ x.hi + 1 ∧ x.hi < 32) (h : a ≠ x.addr) (h' : a ≠ R.TOP_INT_STATUS) :
    (d.flag x).reg a = d.reg a := by
  have ho : d.Only (d.flag x) [x, whole R.TOP_INT_STATUS] := (Dev.Only.refl _ _).flag x ⟨hx.1, hx.2, x, by simp, rfl, le_refl _, le_refl _⟩
    ⟨Nat.le_succ _, intBitOf_lt _, whole R.TOP_INT_STATUS, by simp, rfl, Nat.zero_le _, Nat.le_of_lt_succ (intBitOf_lt _)⟩
  refine ho.reg a ?_
  simp only [List.forall_mem_cons]
  exact ⟨h.symm, h'.symm, by simp⟩

/-- A live update that a write of its trim discards. -/
theorem Dev.discards_trim (d : Dev) (g c : Nat) (x : AfeGrp) {n : Nat} (hn : n < 8) :
    ((d.setGrp g x).flag (F.AFE_CH_CAL.CAL_DISCARDED g c)).reg (R.AFE_CH_TRIM g c n) = d.reg (R.AFE_CH_TRIM g c n) ∧
    ((d.setGrp g x).flag (F.AFE_CH_CAL.CAL_DISCARDED g c)).afeCh = d.afeCh :=
  ⟨(Dev.reg_flag_ne _ ⟨Nat.le_of_ble_eq_true rfl, Nat.le_of_ble_eq_true rfl⟩ (R.afeChCal_ne_trim hn) (R.afeChTrim_ne_int g c n)).trans rfl, Dev.flag_afeCh _ _⟩

theorem Dev.trimWrite_spec (d : Dev) (g : Fin 8) (c : Fin 9) (n : Fin 8) (v : Word) :
    (d.trimWrite g c n v).reg (R.AFE_CH_TRIM g c n) = v &&& 0x0FFF0FFF#32 ∧ (d.trimWrite g c n v).afeCh = d.afeCh ∧
    ((d.grp g).points = [] → d.trimWrite g c n v = d.setReg (R.AFE_CH_TRIM g c n) (v &&& 0x0FFF0FFF#32)) := by
  unfold Dev.trimWrite
  extract_lets d1 src
  have hreg : d1.reg (R.AFE_CH_TRIM g c n) = v &&& 0x0FFF0FFF#32 := Dev.reg_setReg_self _ _ _
  have hch : d1.afeCh = d.afeCh := Dev.setReg_afeCh _ _ _
  have hp : (d1.grp g).points = (d.grp g).points := rfl
  refine ⟨?_, ?_, fun h => ?_⟩
  · split
    · split
      · unfold Dev.discardPair
        split
        · exact (d1.discards_trim g c _ n.isLt).1.trans hreg
        · exact hreg
      · exact hreg
    · split
      · exact (d1.discards_trim g c _ n.isLt).1.trans hreg
      · exact hreg
    · exact hreg
  · split
    · split
      · unfold Dev.discardPair
        split
        · exact (d1.discards_trim g c _ n.isLt).2.trans hch
        · exact hch
      · exact hch
    · split
      · exact (d1.discards_trim g c _ n.isLt).2.trans hch
      · exact hch
    · exact hch
  · rw [hp, h]
    rfl

theorem Dev.Only.withGrp {d e : Dev} {l : List Fld} (h : d.Only e l) (x : List (Nat × AfeGrp)) :
    ({ d with afeGrp := x } : Dev).Only { e with afeGrp := x } l :=
  ⟨congrArg (fun y : Dev => { y with afeGrp := x }) h.1, fun a i hi => h.2 a i hi⟩

/-- Fields of AFE_GRP_INJ and of the group's service register lie in their register. -/
theorem Fld.within_whole {a hi lo : Nat} (h : lo ≤ hi + 1) (h' : hi < 32) : (⟨a, hi, lo⟩ : Fld).within [whole a] :=
  ⟨h, h', whole a, by simp, rfl, Nat.zero_le _, Nat.le_of_lt_succ h'⟩

theorem Dev.injGo_injects {d : Dev} (rq : Req) (g : Fin 8) (c : Fin 9) {v : Word} (hv : v.toNat / 2 ^ 16 % 16 = c.val) (hm : d.modeIn [.service] = true)
    (hp : d.f (F.AFE_CH_CTRL.PWR_OK g c) = 1) (hc : d.f (F.AFE_CH_CTRL.MODE g c) = 1) (ht : (d.ch g c).tapOf = none)
    (hi : (d.grp g).injecting = false) :
    d.injGo rq g v = ((((d.setF (F.AFE_GRP_INJ.INJ_CH g) c).setF (F.AFE_GRP_INJ.INJ_CODE g) (v.toNat % 4096)).setF (F.AFE_GRP_INJ.INJ_GO g) 1).setF
      (F.AFE_GRP_INJ.INJ_BUSY g) 1).setGrp g { d.grp g with injecting := true } := by
  have hb : bitsOf v.toNat 19 16 = c.val := hv
  have hcode : bitsOf v.toNat 11 0 = v.toNat % 4096 := congrArg (· % 4096) (Nat.div_one _)
  unfold Dev.injGo
  rw [hb, hcode, if_pos (by rw [hm, Dev.on_one hp, Dev.charge, Dev.on_one hc, ht, hi]; simp)]

theorem Dev.setGrp_spec {d d1 : Dev} {l : List Fld} (h : d.Only d1 l) (g : Nat) (x : AfeGrp) :
    (d1.setGrp g x).grp g = x ∧ { d with afeGrp := (d1.setGrp g x).afeGrp }.Only (d1.setGrp g x) l ∧ ∀ y, (d1.setGrp g x).f y = d1.f y :=
  ⟨spGet_spSet_self _ _ _, h.withGrp _, fun _ => rfl⟩

theorem Dev.injGo_spec {d : Dev} (rq : Req) (g : Fin 8) (c : Fin 9) {v : Word} (hv : v.toNat / 2 ^ 16 % 16 = c.val) (hm : d.modeIn [.service] = true)
    (hp : d.f (F.AFE_CH_CTRL.PWR_OK g c) = 1) (hc : d.f (F.AFE_CH_CTRL.MODE g c) = 1) (ht : (d.ch g c).tapOf = none)
    (hi : (d.grp g).injecting = false) :
    (d.injGo rq g v).f (F.AFE_GRP_INJ.INJ_CH g) = c ∧ (d.injGo rq g v).f (F.AFE_GRP_INJ.INJ_CODE g) = v.toNat % 4096 ∧
    (d.injGo rq g v).f (F.AFE_GRP_INJ.INJ_BUSY g) = 1 ∧ (d.injGo rq g v).grp g = { d.grp g with injecting := true } ∧
    { d with afeGrp := (d.injGo rq g v).afeGrp }.Only (d.injGo rq g v) [whole (R.AFE_GRP_INJ g)] := by
  rw [Dev.injGo_injects rq g c hv hm hp hc ht hi]
  generalize hd1 : (((d.setF (F.AFE_GRP_INJ.INJ_CH g) c).setF (F.AFE_GRP_INJ.INJ_CODE g) (v.toNat % 4096)).setF (F.AFE_GRP_INJ.INJ_GO g) 1).setF
    (F.AFE_GRP_INJ.INJ_BUSY g) 1 = d1
  have honly : d.Only d1 [whole (R.AFE_GRP_INJ g)] := by
    rw [← hd1]
    exact ((((Dev.Only.refl _ _).setF _ _ (Fld.within_whole (by decide) (by decide))).setF _ _ (Fld.within_whole (by decide) (by decide))).setF _ _
      (Fld.within_whole (by decide) (by decide))).setF _ _ (Fld.within_whole (by decide) (by decide))
  have hch : d1.f (F.AFE_GRP_INJ.INJ_CH g) = c := by
    rw [← hd1, Dev.f_apart _ _ _ _ _ _ _ (by decide) (by decide) (by decide), Dev.f_apart _ _ _ _ _ _ _ (by decide) (by decide) (by decide),
      Dev.f_apart _ _ _ _ _ _ _ (by decide) (by decide) (by decide), Dev.f_same _ _ _ _ _ (by decide) (by decide)]
    exact Nat.mod_eq_of_lt (by omega)
  have hco : d1.f (F.AFE_GRP_INJ.INJ_CODE g) = v.toNat % 4096 := by
    rw [← hd1, Dev.f_apart _ _ _ _ _ _ _ (by decide) (by decide) (by decide), Dev.f_apart _ _ _ _ _ _ _ (by decide) (by decide) (by decide),
      Dev.f_same _ _ _ _ _ (by decide) (by decide)]
    exact Nat.mod_mod _ _
  have hbusy : d1.f (F.AFE_GRP_INJ.INJ_BUSY g) = 1 := by
    rw [← hd1]
    exact Dev.f_same _ _ _ _ _ (by decide) (by decide)
  clear hd1
  obtain ⟨h1, h2, h3⟩ := Dev.setGrp_spec honly g { d.grp g with injecting := true }
  exact ⟨(h3 _).trans hch, (h3 _).trans hco, (h3 _).trans hbusy, h1, h2⟩

theorem Dev.injGo_refused {d : Dev} (rq : Req) (g : Nat) {v : Word}
    (h : d.modeIn [.service] = false ∨ 9 ≤ v.toNat / 2 ^ 16 % 16 ∨ (d.grp g).injecting = true) :
    d.injGo rq g v = d.accessErr rq false .locked (R.AFE_GRP_INJ g) := by
  have hb : bitsOf v.toNat 19 16 = v.toNat / 2 ^ 16 % 16 := rfl
  unfold Dev.injGo
  refine if_neg ?_
  rcases h with h | h | h
  · simp [h]
  · rw [hb, decide_eq_false (by omega)]
    simp
  · simp [h]

/-! ## Service connections -/

theorem Dev.serviceGo_wrongMode {d : Dev} (g : Fin 8) (v : Word) (hm : d.modeIn [.service] = false) :
    (d.serviceGo g v).f (F.AFE_GRP_SERVICE.RESULT g) = 1 ∧ d.Only (d.serviceGo g v) [whole (R.AFE_GRP_SERVICE g)] := by
  unfold Dev.serviceGo
  extract_lets c s' busy r d1 d2
  have hr : r = 1 := if_pos (by rw [hm]; rfl)
  have h1 : d1.f (F.AFE_GRP_SERVICE.RESULT g) = 1 := by
    unfold d1
    rw [hr]
    exact Dev.f_same _ _ _ _ _ (by decide) (by decide)
  have ho : d.Only d1 [whole (R.AFE_GRP_SERVICE g)] := (Dev.Only.refl _ _).setF _ _ (Fld.within_whole (by decide) (by decide))
  rw [if_pos (by rw [hr]; decide)]
  split
  · exact ⟨h1, ho⟩
  · refine ⟨?_, (ho.setF _ _ (Fld.within_whole (by decide) (by decide))).setF _ _ (Fld.within_whole (by decide) (by decide))⟩
    exact (Dev.f_apart _ _ _ _ _ _ _ (by decide) (by decide) (by decide)).trans
      ((Dev.f_apart _ _ _ _ _ _ _ (by decide) (by decide) (by decide)).trans h1)

theorem Dev.serviceGo_connects {d : Dev} (g : Fin 8) (c : Fin 9) {v : Word} (hv : v.toNat % 16 = c.val) (hm : d.modeIn [.service] = true)
    (ht : (d.ch g c).tapOf = none) (hs : d.sourceOffered g c (v.toNat / 16 % 16) = true) (hb : d.f (F.AFE_GRP_SERVICE.BUSY g) = 0) :
    d.serviceGo g v = ((((((d.setF (F.AFE_GRP_SERVICE.RESULT g) 0).setF (F.AFE_GRP_SERVICE.SOURCE g) (v.toNat / 16 % 16)).setF
      (F.AFE_GRP_SERVICE.CH g) c).setF (F.AFE_GRP_SERVICE.BUSY g) 1).connect g c (v.toNat / 16 % 16)).setCh g c
        { d.ch g c with service := true, connecting := some (v.toNat / 16 % 16) }) := by
  have hc0 : bitsOf v.toNat 3 0 = c.val := (congrArg (· % 16) (Nat.div_one _)).trans hv
  have hs0 : bitsOf v.toNat 7 4 = v.toNat / 16 % 16 := rfl
  unfold Dev.serviceGo
  rw [hc0, hs0]
  extract_lets c' s' busy r d1 d2 src
  have hr : r = 0 := by
    unfold r c' s'
    rw [hm, ht, hs, show busy = false from Dev.on_zero hb, decide_eq_false (show ¬ 8 < c.val by omega)]
    rfl
  have hd1 : d1 = d.setF (F.AFE_GRP_SERVICE.RESULT g) 0 := by
    unfold d1
    rw [hr]
  have hsrc : d2.ch g c = d.ch g c := by
    refine Dev.ch_afeCh ?_ g c
    unfold d2 d1
    rw [Dev.setF_afeCh, Dev.setF_afeCh, Dev.setF_afeCh, Dev.setF_afeCh]
  rw [if_neg (by rw [hr]; decide)]
  unfold src
  rw [hsrc]
  unfold d2
  rw [hd1]

theorem Dev.connected_f (d : Dev) (g c s : Nat) (x : AfeCh) {y : Fld} (h : (F.AFE_CH_CTRL.SOURCE g c).off y)
    (h' : (F.AFE_GRP_SWITCH.SPARE_SOURCE g).off y) : ((d.connect g c s).setCh g c x).f y = d.f y :=
  (rfl : _ = (d.setSource g c 15).f y).trans (d.setSource_f g c 15 h h')

theorem R.afeGrpService_ne (g : Nat) {c : Nat} (hc : c < 9) : R.AFE_CH_CTRL g c ≠ R.AFE_GRP_SERVICE g ∧ R.AFE_GRP_SWITCH g ≠ R.AFE_GRP_SERVICE g := by
  unfold R.AFE_CH_CTRL R.AFE_GRP_SWITCH R.AFE_GRP_SERVICE
  omega

theorem Dev.service_spec (d : Dev) (g : Fin 8) (c : Fin 9) (s : Nat) (hs : s < 16) {e : Dev}
    (he : e = ((((((d.setF (F.AFE_GRP_SERVICE.RESULT g) 0).setF (F.AFE_GRP_SERVICE.SOURCE g) s).setF
      (F.AFE_GRP_SERVICE.CH g) c).setF (F.AFE_GRP_SERVICE.BUSY g) 1).connect g c s).setCh g c
        { d.ch g c with service := true, connecting := some s })) :
    e.f (F.AFE_GRP_SERVICE.BUSY g) = 1 ∧ e.f (F.AFE_GRP_SERVICE.RESULT g) = 0 ∧ e.f (F.AFE_GRP_SERVICE.SOURCE g) = s ∧
    e.f (F.AFE_GRP_SERVICE.CH g) = c ∧ e.source g c = 15 ∧ e.ch g c = { d.ch g c with service := true, connecting := some s } := by
  obtain ⟨hne, hne'⟩ := R.afeGrpService_ne g c.isLt
  generalize hd1 : (((d.setF (F.AFE_GRP_SERVICE.RESULT g) 0).setF (F.AFE_GRP_SERVICE.SOURCE g) s).setF
      (F.AFE_GRP_SERVICE.CH g) c).setF (F.AFE_GRP_SERVICE.BUSY g) 1 = d1 at he
  have hkeep : ∀ hi lo, e.f ⟨R.AFE_GRP_SERVICE g, hi, lo⟩ = d1.f ⟨R.AFE_GRP_SERVICE g, hi, lo⟩ := fun hi lo => by
    rw [he]
    exact d1.connected_f g c s _ (.inl hne) (.inl hne')
  refine ⟨(hkeep _ _).trans ?_, (hkeep _ _).trans ?_, (hkeep _ _).trans ?_, (hkeep _ _).trans ?_, ?_, ?_⟩
  · rw [← hd1]
    exact Dev.f_same _ _ _ _ _ (by decide) (by decide)
  · rw [← hd1, Dev.f_apart _ _ _ _ _ _ _ (by decide) (by decide) (by decide), Dev.f_apart _ _ _ _ _ _ _ (by decide) (by decide) (by decide),
      Dev.f_apart _ _ _ _ _ _ _ (by decide) (by decide) (by decide), Dev.f_same _ _ _ _ _ (by decide) (by decide)]
    exact Nat.zero_mod _
  · rw [← hd1, Dev.f_apart _ _ _ _ _ _ _ (by decide) (by decide) (by decide), Dev.f_apart _ _ _ _ _ _ _ (by decide) (by decide) (by decide),
      Dev.f_same _ _ _ _ _ (by decide) (by decide)]
    exact Nat.mod_eq_of_lt hs
  · rw [← hd1, Dev.f_apart _ _ _ _ _ _ _ (by decide) (by decide) (by decide), Dev.f_same _ _ _ _ _ (by decide) (by decide)]
    exact Nat.mod_eq_of_lt (by omega)
  · rw [he]
    exact (rfl : _ = (d1.setSource g c 15).source g c).trans (d1.source_setSource g c (by decide) (R.afeChCtrl_ne_switch g c.isLt))
  · rw [he]
    exact Dev.ch_setCh_self _ _ _ _

/-! ## Range codes -/

theorem Dev.charge_top (d : Dev) (g c : Nat) : (if d.charge g c then 3 else 7) = if d.f (F.AFE_CH_CTRL.MODE g c) = 1 then 3 else 7 := by
  have hlt : d.f (F.AFE_CH_CTRL.MODE g c) < 2 := bitsOf_lt _ 30 30
  unfold Dev.charge Dev.on
  simp only [decide_eq_true_eq]
  by_cases h : d.f (F.AFE_CH_CTRL.MODE g c) = 1
  · rw [if_pos h, if_pos (by omega)]
  · rw [if_neg h, if_neg (by omega)]

theorem rangeNibble (v p : Nat) : bitsOf v (4 * p + 3) (4 * p) = v / 2 ^ (4 * p) % 16 := by
  unfold bitsOf
  rw [show 4 * p + 3 + 1 - 4 * p = 4 by omega]
  rfl

theorem Dev.chRangeWrite_any (d : Dev) (g c : Nat) (v : Word) :
    (List.range 4).any (fun p => decide ((if d.charge g c then 3 else 7) < bitsOf v.toNat (4 * p + 3) (4 * p))) = true ↔
    ∃ p < 4, (if d.f (F.AFE_CH_CTRL.MODE g c) = 1 then 3 else 7) < v.toNat / 2 ^ (4 * p) % 16 := by
  simp only [List.any_eq_true, List.mem_range, decide_eq_true_eq, Dev.charge_top, rangeNibble]

/-- Settles O25. -/
theorem frontEndWrites : Obligations.FrontEndWrites := by
  intro s g c haw
  have hct : 0x40000 ≤ R.AFE_CH_RANGE g c := by
    unfold R.AFE_CH_RANGE
    omega
  refine ⟨fun rq v h => ?_, fun rq v p hp hv hfree => ?_, fun n v => ?_, fun v => ?_, fun rq v hv hm hp hc ht hi => ?_, fun rq v h hfree => ?_,
    fun v hv hm ht hs hb => ?_, fun v hm => ?_, fun rq hm => ?_, fun rq hm hfree => ?_, ?_⟩
  · refine State.does (f := fun d => if d.awake then d.chRangeWrite rq g c v else d) rfl ?_
    rw [if_pos haw, Dev.chRangeWrite, if_neg]
    · refine ⟨?_, Dev.f_same _ _ _ _ _ (by decide) (by decide), ?_⟩
      · refine (Dev.f_apart _ _ _ _ _ _ _ (by decide) (by decide) (by decide)).trans ((Dev.f_setReg_same _ _ _ _ _).trans ?_)
        have hv : (v &&& 0x0000FFFF#32).toNat = v.toNat % 2 ^ 16 := (BitVec.toNat_and ..).trans (Nat.and_two_pow_sub_one_eq_mod _ 16)
        rw [hv]
        exact (congrArg (· % 65536) (Nat.div_one _)).trans (Nat.mod_mod _ _)
      · exact ((Dev.Only.refl _ _).setReg _ _ (Fld.within_whole (by decide) (by decide))).setF _ _ (Fld.within_whole (by decide) (by decide))
    · rw [Dev.chRangeWrite_any]
      rintro ⟨p, hp, hlt⟩
      exact absurd (h p hp) (by omega)
  · refine State.does (f := fun d => if d.awake then d.chRangeWrite rq g c v else d) rfl ?_
    rw [if_pos haw, Dev.chRangeWrite, if_pos ((s.dev.chRangeWrite_any g c v).mpr ⟨p, hp, hv⟩)]
    exact Dev.accessErr_discarded hfree _ (by unfold R.AFE_CH_RANGE; omega)
  · refine State.does (f := fun d => if d.awake then d.trimWrite g c n v else d) rfl ?_
    rw [if_pos haw]
    exact s.dev.trimWrite_spec g c n v
  · refine State.does (f := fun d => if d.awake then d.chCtrlWrite g c v else d) rfl ?_
    rw [if_pos haw]
    exact s.dev.chCtrlWrite_spec g c v
  · refine State.does (f := fun d => if d.awake then d.injGo rq g v else d) rfl ?_
    rw [if_pos haw]
    exact Dev.injGo_spec rq g c hv hm hp hc ht hi
  · refine State.does (f := fun d => if d.awake then d.injGo rq g v else d) rfl ?_
    rw [if_pos haw, Dev.injGo_refused rq g h]
    exact Dev.accessErr_discarded hfree _ (by unfold R.AFE_GRP_INJ; omega)
  · refine State.does (f := fun d => if d.awake then d.serviceGo g v else d) rfl ?_
    rw [if_pos haw]
    exact s.dev.service_spec g c _ (Nat.mod_lt _ (by decide)) (Dev.serviceGo_connects g c hv hm ht hs hb)
  · refine State.does (f := fun d => if d.awake then d.serviceGo g v else d) rfl ?_
    rw [if_pos haw]
    exact Dev.serviceGo_wrongMode g v hm
  · refine State.does (f := fun d => if d.awake then d.retireReq rq g c else d) rfl ?_
    rw [if_pos haw, Dev.retireReq, if_pos hm]
    exact ⟨Dev.f_same _ _ _ _ _ (by decide) (by decide), (Dev.Only.refl _ _).setF _ _ (by simp [Fld.within])⟩
  · refine State.does (f := fun d => if d.awake then d.retireReq rq g c else d) rfl ?_
    rw [if_pos haw, Dev.retireReq, if_neg (by rw [hm]; decide)]
    exact Dev.accessErr_discarded hfree _ (by unfold R.AFE_CH_WEAR; omega)
  · refine State.does (f := fun d => if d.awake then d.retireCancel g c else d) rfl ?_
    rw [if_pos haw, Dev.retireCancel]
    exact ⟨(Dev.f_same _ _ _ _ _ (by decide) (by decide)).trans (Nat.zero_mod _), (Dev.Only.refl _ _).setF _ _ (by simp [Fld.within])⟩

end Sys2Proof.Machine
end

section
/-! SUPPORT. The disciplined bases: measurements, holdover, settings and the step of AXIS (R416 to R422). -/

namespace Sys2Proof.Machine

/-! ## Bases -/

theorem Dev.disc_setDisc (d : Dev) (b : Nat) (x : Base) : (d.setDisc b x).disc b = x := by
  unfold Dev.disc Dev.setDisc
  split
  · rfl
  · rfl

theorem Dev.disc_time {d e : Dev} (h : e.time = d.time) (b : Nat) : e.disc b = d.disc b := by
  unfold Dev.disc
  rw [h]

theorem Dev.setDisc_time {d e : Dev} (h : e.time = d.time) (b : Nat) (x : Base) : (e.setDisc b x).time = (d.setDisc b x).time := by
  unfold Dev.setDisc
  split
  · exact congrArg (fun t : Time => { t with net := x }) h
  · exact congrArg (fun t : Time => { t with host := x }) h

theorem Dev.setDisc_eq (d : Dev) (b : Nat) (x : Base) : d.setDisc b x = { d with time := (d.setDisc b x).time } := by
  unfold Dev.setDisc
  split
  · rfl
  · rfl

theorem Dev.setDisc_f (d : Dev) (b : Nat) (x : Base) (y : Fld) : (d.setDisc b x).f y = d.f y := by
  rw [Dev.setDisc_eq]
  rfl

theorem R.timBaseOfs_ne (b : Nat) : R.TIM_BASE_OFS b ≠ R.TIM_BASE_CTRL b := by
  unfold R.TIM_BASE_OFS R.TIM_BASE_CTRL
  omega

theorem clampI_bounds {x lo hi : Int} (h : lo ≤ hi) : lo ≤ clampI x lo hi ∧ clampI x lo hi ≤ hi := by
  unfold clampI
  split
  · omega
  · split
    · omega
    · omega

/-- Times and slots set on both sides leave the registers' relation. -/
theorem Dev.Only.withTime {d e : Dev} {l : List Fld} (h : d.Only e l) (t : Time) (x : List (Nat × Slot)) :
    ({ d with time := t, slots := x } : Dev).Only { e with time := t, slots := x } l :=
  ⟨congrArg (fun y : Dev => { y with time := t, slots := x }) h.1, fun a i hi => h.2 a i hi⟩

/-! ## The offset -/

theorem Dev.fi_setFI_ofs (d : Dev) (b : Nat) (theta : Int) :
    (d.setFI (F.TIM_BASE_OFS.VALUE b) (clampI theta (-2147483648) 2147483647)).fi (F.TIM_BASE_OFS.VALUE b) =
      clampI theta (-2147483648) 2147483647 := by
  obtain ⟨h0, h1⟩ := clampI_bounds (x := theta) (lo := -2147483648) (hi := 2147483647) (by decide)
  unfold Dev.fi Dev.setFI
  rw [Dev.f_same _ _ _ _ _ (by decide) (by decide)]
  have hm : unsigned (31 + 1 - 0) (clampI theta (-2147483648) 2147483647) % 2 ^ (31 + 1 - 0) = unsigned 32 (clampI theta (-2147483648) 2147483647) := by
    unfold unsigned
    norm_num
    omega
  rw [hm]
  exact signed_unsigned_32 h0 h1

/-! ## A measurement -/

/-- The base after a measurement that steps it. -/
theorem Dev.measureBase_steps {d : Dev} {b : Nat} (theta : Int) (ha : d.f (F.TIM_BASE_CTRL.STEP_ARMED b) = 1) {d1 : Dev}
    (hd1 : d1 = d.setFI (F.TIM_BASE_OFS.VALUE b) (clampI theta (-2147483648) 2147483647)) :
    d.measureBase b theta = (((d1.setDisc b ⟨unsigned 112 (((d.disc b).count : Int) + theta * 2 ^ 48), 0, 0, 0⟩).setF
      (F.TIM_BASE_CTRL.STEP_ARMED b) 0).setF (F.TIM_BASE_CTRL.STATE b) 1).stepSlots b := by
  have h1 : d1.f (F.TIM_BASE_CTRL.STEP_ARMED b) = 1 := by
    rw [hd1]
    exact (Dev.f_setF_ne _ _ _ _ (R.timBaseOfs_ne b).symm).trans ha
  unfold Dev.measureBase
  dsimp only
  rw [← hd1, if_pos (Dev.on_one h1)]

/-- STATE of a base after a measurement without a step. -/
def baseNext (st good : Nat) (near : Bool) : Nat :=
  if 8 ≤ good then 2 else if st = 3 then 1 else if near = false ∧ st = 2 then 1 else st

theorem baseNext_lt {st good : Nat} (near : Bool) (h : st < 4) : baseNext st good near < 4 := by
  unfold baseNext
  split
  · decide
  · split
    · decide
    · split
      · decide
      · exact h

theorem Dev.measureBase_steers {d : Dev} {b : Nat} (theta : Int) (ha : d.f (F.TIM_BASE_CTRL.STEP_ARMED b) = 0) {near : Bool} {good : Nat}
    (hn : near = decide (theta.natAbs ≤ d.f (F.TIM_BASE_CTRL.LOCK_THR b)))
    (hg : good = if near then min ((if d.f (F.TIM_BASE_CTRL.STATE b) = 3 then 0 else (d.disc b).good) + 1) 255 else 0) {d1 : Dev}
    (hd1 : d1 = d.setFI (F.TIM_BASE_OFS.VALUE b) (clampI theta (-2147483648) 2147483647)) :
    d.measureBase b theta = (d1.setDisc b { d.disc b with
      freq := clampI ((d.disc b).freq + divFloor (theta * 65536) (2 ^ d.f (F.TIM_BASE_CTRL.I_SHIFT b))) (-140737488355) 140737488355
      slew := clampI (divFloor (theta * 65536) (2 ^ d.f (F.TIM_BASE_CTRL.P_SHIFT b))) (-28147497671) 28147497671
      good := good }).setF (F.TIM_BASE_CTRL.STATE b) (baseNext (d.f (F.TIM_BASE_CTRL.STATE b)) good near) := by
  have hkeep : ∀ hi lo, d1.f ⟨R.TIM_BASE_CTRL b, hi, lo⟩ = d.f ⟨R.TIM_BASE_CTRL b, hi, lo⟩ := fun hi lo => by
    rw [hd1]
    exact Dev.f_setF_ne _ _ _ _ (R.timBaseOfs_ne b).symm
  unfold Dev.measureBase
  dsimp only
  rw [← hd1, if_neg (by rw [Dev.on_zero ((hkeep _ _).trans ha)]; decide)]
  unfold Dev.baseState
  rw [hkeep, hkeep, hkeep, hkeep, ← hn]
  have hgood : (if near = true then min ((if decide (d.f (F.TIM_BASE_CTRL.STATE b) = 3) = true then 0 else (d.disc b).good) + 1) 255 else 0) = good := by
    rw [hg]
    simp only [decide_eq_true_eq]
  have hst : (if 8 ≤ good then 2 else if (!near && decide ((if decide (d.f (F.TIM_BASE_CTRL.STATE b) = 3) = true then 1 else
      d.f (F.TIM_BASE_CTRL.STATE b)) = 2)) = true then 1 else if decide (d.f (F.TIM_BASE_CTRL.STATE b) = 3) = true then 1 else
      d.f (F.TIM_BASE_CTRL.STATE b)) = baseNext (d.f (F.TIM_BASE_CTRL.STATE b)) good near := by
    unfold baseNext
    by_cases h3 : d.f (F.TIM_BASE_CTRL.STATE b) = 3
    case pos => simp [h3]
    case neg => simp [h3]
  rw [hgood, hst]
  rfl

/-! ## The whole of a measurement -/

theorem Dev.setDisc_setF (d : Dev) (b : Nat) (x : Base) (y : Fld) (v : Nat) :
    (d.setDisc b x).setF y v = { d.setF y v with time := (d.setDisc b x).time, slots := d.slots } := by
  unfold Dev.setDisc
  split
  · rfl
  · rfl

theorem Dev.setDisc_setF_steps (d : Dev) (b : Nat) (x : Base) (y y' : Fld) (v v' : Nat) :
    ∃ z, (((d.setDisc b x).setF y v).setF y' v').stepSlots b = { (d.setF y v).setF y' v' with time := (d.setDisc b x).time, slots := z } := by
  unfold Dev.setDisc
  split
  · exact ⟨_, rfl⟩
  · exact ⟨_, rfl⟩

/-- The bits of a measurement: OFS of the base, STEP_ARMED and STATE. -/
def measuredFields (b : Nat) : List Fld := [F.TIM_BASE_OFS.VALUE b, F.TIM_BASE_CTRL.STEP_ARMED b, F.TIM_BASE_CTRL.STATE b]

theorem Dev.withTime_spec {d m e : Dev} {l : List Fld} (ho : d.Only m l) {t : Time} {z : List (Nat × Slot)}
    (he : e = { m with time := t, slots := z }) :
    e.time = t ∧ e.slots = z ∧ { d with time := e.time, slots := e.slots }.Only e l ∧ ∀ y, e.f y = m.f y := by
  subst he
  exact ⟨rfl, rfl, ho.withTime t z, fun _ => rfl⟩

/-- The registers after the step of a base. -/
theorem Dev.stepped_fields (d1 : Dev) (b : Nat) {m : Dev} (hm : m = (d1.setF (F.TIM_BASE_CTRL.STEP_ARMED b) 0).setF (F.TIM_BASE_CTRL.STATE b) 1) :
    m.f (F.TIM_BASE_CTRL.STATE b) = 1 ∧ m.f (F.TIM_BASE_CTRL.STEP_ARMED b) = 0 ∧ m.f (F.TIM_BASE_OFS.VALUE b) = d1.f (F.TIM_BASE_OFS.VALUE b) := by
  rw [hm]
  refine ⟨Dev.f_same _ _ _ _ _ (by decide) (by decide), ?_, ?_⟩
  · refine (Dev.f_apart _ _ _ _ _ _ _ (by decide) (by decide) (by decide)).trans ((Dev.f_same _ _ _ _ _ (by decide) (by decide)).trans ?_)
    exact Nat.zero_mod _
  · exact (Dev.f_setF_ne _ _ _ _ (R.timBaseOfs_ne b)).trans (Dev.f_setF_ne _ _ _ _ (R.timBaseOfs_ne b))

theorem Dev.stepped_spec {d d1 e : Dev} {b : Nat} {x : Base} (ho : d.Only d1 (measuredFields b))
    (he : e = (((d1.setDisc b x).setF (F.TIM_BASE_CTRL.STEP_ARMED b) 0).setF (F.TIM_BASE_CTRL.STATE b) 1).stepSlots b) :
    e.disc b = x ∧ e.time = (d1.setDisc b x).time ∧ { d with time := e.time, slots := e.slots }.Only e (measuredFields b) ∧
    e.f (F.TIM_BASE_CTRL.STATE b) = 1 ∧ e.f (F.TIM_BASE_CTRL.STEP_ARMED b) = 0 ∧ e.f (F.TIM_BASE_OFS.VALUE b) = d1.f (F.TIM_BASE_OFS.VALUE b) := by
  obtain ⟨z, hz⟩ := d1.setDisc_setF_steps b x (F.TIM_BASE_CTRL.STEP_ARMED b) (F.TIM_BASE_CTRL.STATE b) 0 1
  obtain ⟨ht, -, hw, hf⟩ := Dev.withTime_spec ((ho.setF (F.TIM_BASE_CTRL.STEP_ARMED b) 0 (by simp [measuredFields, Fld.within])).setF
    (F.TIM_BASE_CTRL.STATE b) 1 (by simp [measuredFields, Fld.within])) (he.trans hz)
  obtain ⟨h1, h2, h3⟩ := d1.stepped_fields b rfl
  exact ⟨(Dev.disc_time ht b).trans (d1.disc_setDisc b x), ht, hw, (hf _).trans h1, (hf _).trans h2, (hf _).trans h3⟩

theorem Dev.steered_spec {d d1 e : Dev} {b : Nat} {x : Base} {st : Nat} (ho : d.Only d1 (measuredFields b)) (hst : st < 4)
    (he : e = (d1.setDisc b x).setF (F.TIM_BASE_CTRL.STATE b) st) :
    e.disc b = x ∧ e.time = (d1.setDisc b x).time ∧ e.slots = d1.slots ∧ { d with time := e.time, slots := e.slots }.Only e (measuredFields b) ∧
    e.f (F.TIM_BASE_CTRL.STATE b) = st ∧ e.f (F.TIM_BASE_OFS.VALUE b) = d1.f (F.TIM_BASE_OFS.VALUE b) := by
  obtain ⟨ht, hs, hw, hf⟩ := Dev.withTime_spec (ho.setF (F.TIM_BASE_CTRL.STATE b) st (by simp [measuredFields, Fld.within]))
    (he.trans (d1.setDisc_setF b x (F.TIM_BASE_CTRL.STATE b) st))
  have h1 : (d1.setF (F.TIM_BASE_CTRL.STATE b) st).f (F.TIM_BASE_CTRL.STATE b) = st :=
    (Dev.f_same _ _ _ _ _ (by decide) (by decide)).trans (Nat.mod_eq_of_lt hst)
  have h2 : (d1.setF (F.TIM_BASE_CTRL.STATE b) st).f (F.TIM_BASE_OFS.VALUE b) = d1.f (F.TIM_BASE_OFS.VALUE b) :=
    Dev.f_setF_ne _ _ _ _ (R.timBaseOfs_ne b)
  exact ⟨(Dev.disc_time ht b).trans (d1.disc_setDisc b x), ht, hs, hw, (hf _).trans h1, (hf _).trans h2⟩

/-- The device with the offset of a measurement shown. -/
theorem Dev.shownOfs (d : Dev) (b : Nat) (theta : Int) {d1 : Dev}
    (hd1 : d1 = d.setFI (F.TIM_BASE_OFS.VALUE b) (clampI theta (-2147483648) 2147483647)) :
    d1.fi (F.TIM_BASE_OFS.VALUE b) = clampI theta (-2147483648) 2147483647 ∧ d.Only d1 (measuredFields b) ∧ d1.time = d.time ∧ d1.slots = d.slots := by
  rw [hd1]
  exact ⟨d.fi_setFI_ofs b theta, (Dev.Only.refl _ _).setFI _ _ (by simp [measuredFields, Fld.within]), Dev.setF_time _ _ _, Dev.setF_slots _ _ _⟩

theorem Dev.fi_congr {d e : Dev} {x : Fld} (h : e.f x = d.f x) : e.fi x = d.fi x := by
  unfold Dev.fi
  rw [h]

/-- A measurement of base `b`: what it shows, what it leaves. -/
theorem Dev.measureBase_only (d : Dev) (b : Nat) (theta : Int) :
    (d.measureBase b theta).fi (F.TIM_BASE_OFS.VALUE b) = clampI theta (-2147483648) 2147483647 ∧
    (d.measureBase b theta).time = (d.setDisc b ((d.measureBase b theta).disc b)).time ∧
    { d with time := (d.measureBase b theta).time, slots := (d.measureBase b theta).slots }.Only (d.measureBase b theta) (measuredFields b) := by
  obtain ⟨hfi, honly, htime, -⟩ := d.shownOfs b theta rfl
  by_cases ha : d.f (F.TIM_BASE_CTRL.STEP_ARMED b) = 1
  case pos =>
    obtain ⟨hd, ht, hw, -, -, hofs⟩ := Dev.stepped_spec honly (Dev.measureBase_steps theta ha rfl)
    exact ⟨(Dev.fi_congr hofs).trans hfi, by rw [hd, ht, Dev.setDisc_time htime], hw⟩
  case neg =>
    have hlt : d.f (F.TIM_BASE_CTRL.STEP_ARMED b) < 2 := bitsOf_lt _ 30 30
    obtain ⟨hd, ht, -, hw, -, hofs⟩ := Dev.steered_spec honly (baseNext_lt _ (bitsOf_lt _ 29 28)) (Dev.measureBase_steers theta (by omega) rfl rfl rfl)
    exact ⟨(Dev.fi_congr hofs).trans hfi, by rw [hd, ht, Dev.setDisc_time htime], hw⟩

theorem Dev.measureBase_armed {d : Dev} {b : Nat} (theta : Int) (ha : d.f (F.TIM_BASE_CTRL.STEP_ARMED b) = 1) :
    (d.measureBase b theta).disc b = ⟨unsigned 112 (((d.disc b).count : Int) + theta * 2 ^ 48), 0, 0, 0⟩ ∧
    (d.measureBase b theta).f (F.TIM_BASE_CTRL.STEP_ARMED b) = 0 ∧ (d.measureBase b theta).f (F.TIM_BASE_CTRL.STATE b) = 1 := by
  obtain ⟨-, honly, -, -⟩ := d.shownOfs b theta rfl
  obtain ⟨hd, -, -, hst, harm, -⟩ := Dev.stepped_spec honly (Dev.measureBase_steps theta ha rfl)
  exact ⟨hd, harm, hst⟩

theorem Dev.measureBase_tracks {d : Dev} {b : Nat} (theta : Int) (ha : d.f (F.TIM_BASE_CTRL.STEP_ARMED b) = 0) {near : Bool} {good : Nat}
    (hn : near = decide (theta.natAbs ≤ d.f (F.TIM_BASE_CTRL.LOCK_THR b)))
    (hg : good = if near then min ((if d.f (F.TIM_BASE_CTRL.STATE b) = 3 then 0 else (d.disc b).good) + 1) 255 else 0) :
    (d.measureBase b theta).disc b = { d.disc b with
      freq := clampI ((d.disc b).freq + divFloor (theta * 65536) (2 ^ d.f (F.TIM_BASE_CTRL.I_SHIFT b))) (-140737488355) 140737488355
      slew := clampI (divFloor (theta * 65536) (2 ^ d.f (F.TIM_BASE_CTRL.P_SHIFT b))) (-28147497671) 28147497671
      good := good } ∧
    (d.measureBase b theta).slots = d.slots ∧
    (d.measureBase b theta).f (F.TIM_BASE_CTRL.STATE b) = baseNext (d.f (F.TIM_BASE_CTRL.STATE b)) good near := by
  obtain ⟨-, honly, -, hslots⟩ := d.shownOfs b theta rfl
  obtain ⟨hd, -, hs, -, hst, -⟩ := Dev.steered_spec honly (baseNext_lt _ (bitsOf_lt _ 29 28)) (Dev.measureBase_steers theta ha hn hg rfl)
  exact ⟨hd, hs.trans hslots, hst⟩

/-! ## Holdover and the step of AXIS -/

theorem Dev.holdover_spec (d : Dev) (b : Nat) {e : Dev}
    (he : e = (d.setDisc b { d.disc b with slew := 0 }).setF (F.TIM_BASE_CTRL.STATE b) 3) :
    e.f (F.TIM_BASE_CTRL.STATE b) = 3 ∧ e.disc b = { d.disc b with slew := 0 } ∧
    { d with time := (d.setDisc b (e.disc b)).time }.Only e [F.TIM_BASE_CTRL.STATE b] := by
  obtain ⟨ht, hs, hw, hf⟩ := Dev.withTime_spec ((Dev.Only.refl d [F.TIM_BASE_CTRL.STATE b]).setF (F.TIM_BASE_CTRL.STATE b) 3 (by simp [Fld.within]))
    (he.trans (d.setDisc_setF b { d.disc b with slew := 0 } (F.TIM_BASE_CTRL.STATE b) 3))
  have hd : e.disc b = { d.disc b with slew := 0 } := (Dev.disc_time ht b).trans (d.disc_setDisc b _)
  refine ⟨(hf _).trans (Dev.f_same _ _ _ _ _ (by decide) (by decide)), hd, ?_⟩
  rw [hd, ← ht]
  rw [hs] at hw
  exact hw

theorem Dev.axisStep_steps {d : Dev} (hl : d.axisLocks = true) (ha : d.f (F.TIM_BASE_CTRL.STEP_ARMED 3) = 1) {next k : Nat}
    (hn : next = d.netNs + (d.servoPeriod * 10 - min (d.servoPeriod * 10) (10 * (d.time.axSub / 4))))
    (hk : k = (next + d.servoPeriod * 10 - 1) / (d.servoPeriod * 10)) {d1 : Dev} (hd1 : d1 = { d with time := { d.time with
      axNext := some k, axLen := ((k * (d.servoPeriod * 10) - next) / 10 : Nat), axGood := 0 } }) :
    d.axisStep = (d1.setF (F.TIM_BASE_CTRL.STEP_ARMED 3) 0).setF (F.TIM_BASE_CTRL.STATE 3) 1 := by
  subst hn hk hd1
  exact if_neg (by rw [hl, Dev.on_one ha]; decide)

/-- The next multiple of a period from a time on. -/
theorem ceil_mul {n t : Nat} (h : 0 < t) : n ≤ (n + t - 1) / t * t ∧ (n + t - 1) / t * t < n + t := by
  have h1 := Nat.div_mul_le_self (n + t - 1) t
  have h2 := Nat.lt_div_mul_add (a := n + t - 1) h
  omega

theorem Dev.axisStep_spec {d d1 e : Dev} {k : Nat} {len : Int} (hd1 : d1.time = { d.time with axNext := some k, axLen := len, axGood := 0 })
    (he : e = (d1.setF (F.TIM_BASE_CTRL.STEP_ARMED 3) 0).setF (F.TIM_BASE_CTRL.STATE 3) 1) :
    e.f (F.TIM_BASE_CTRL.STEP_ARMED 3) = 0 ∧ e.f (F.TIM_BASE_CTRL.STATE 3) = 1 ∧ e.time.axNext = some k ∧ e.time.axLen = len := by
  have ht : e.time = { d.time with axNext := some k, axLen := len, axGood := 0 } := by rw [he, Dev.setF_time, Dev.setF_time, hd1]
  obtain ⟨h1, h2, -⟩ := Dev.stepped_fields d1 3 he
  rw [ht]
  exact ⟨h2, h1, rfl, rfl⟩

theorem R.tetStatus_ne (b : Nat) (h : b < 4) : R.TIM_BASE_OFS b ≠ R.TET_STATUS ∧ R.TIM_BASE_CTRL b ≠ R.TET_STATUS := by
  unfold R.TIM_BASE_OFS R.TIM_BASE_CTRL R.TET_STATUS
  omega

theorem Dev.measureBase_timingMaster (d : Dev) (b : Nat) (hb : b < 4) (theta : Int) : (d.measureBase b theta).timingMaster = d.timingMaster := by
  obtain ⟨-, -, h⟩ := d.measureBase_only b theta
  obtain ⟨h1, h2⟩ := R.tetStatus_ne b hb
  have hf : (d.measureBase b theta).f F.TET_STATUS.TIMING_MASTER = d.f F.TET_STATUS.TIMING_MASTER := by
    refine h.f _ ?_
    simp only [measuredFields, List.forall_mem_cons]
    exact ⟨.inl h1, .inl h2, .inl h2, by simp⟩
  unfold Dev.timingMaster Dev.on
  rw [hf]

theorem Dev.ptmDialog_measures {d : Dev} (hal : d.alive = true) (hptm : d.link.ptm = true) (hci : d.canIssue = true) (hm : d.timingMaster = false)
    (n : Nat) : d.ptmDialog (some n) = d.measureBase 2 (thetaOf (decToBin (n / 1000000000) (n % 1000000000)) (d.baseVal 2)) := by
  unfold Dev.ptmDialog
  rw [if_neg (by simp [hal, hptm, hci])]
  dsimp only
  rw [if_neg]
  rw [Dev.measureBase_timingMaster _ _ (by decide), hm]
  simp

theorem Dev.axisStep_aligns {d : Dev} (hl : d.axisLocks = true) (ha : d.f (F.TIM_BASE_CTRL.STEP_ARMED 3) = 1) (hp : 0 < d.servoPeriod) :
    d.axisStep.f (F.TIM_BASE_CTRL.STEP_ARMED 3) = 0 ∧ d.axisStep.f (F.TIM_BASE_CTRL.STATE 3) = 1 ∧
    ∃ k next, d.axisStep.time.axNext = some k ∧
      next = d.netNs + (d.servoPeriod * 10 - min (d.servoPeriod * 10) (10 * (d.time.axSub / 4))) ∧
      next ≤ k * (d.servoPeriod * 10) ∧ k * (d.servoPeriod * 10) < next + d.servoPeriod * 10 ∧
      d.axisStep.time.axLen = ((k * (d.servoPeriod * 10) - next) / 10 : Nat) := by
  obtain ⟨next, hn⟩ : ∃ n, n = d.netNs + (d.servoPeriod * 10 - min (d.servoPeriod * 10) (10 * (d.time.axSub / 4))) := ⟨_, rfl⟩
  obtain ⟨k, hk⟩ : ∃ k, k = (next + d.servoPeriod * 10 - 1) / (d.servoPeriod * 10) := ⟨_, rfl⟩
  obtain ⟨d1, hd1⟩ : ∃ d1 : Dev, d1 = { d with time := { d.time with
      axNext := some k, axLen := ((k * (d.servoPeriod * 10) - next) / 10 : Nat), axGood := 0 } } := ⟨_, rfl⟩
  have ht : d1.time = { d.time with axNext := some k, axLen := ((k * (d.servoPeriod * 10) - next) / 10 : Nat), axGood := 0 } := by rw [hd1]
  obtain ⟨h1, h2, h3, h4⟩ := Dev.axisStep_spec ht (Dev.axisStep_steps hl ha hn hk hd1)
  obtain ⟨h5, h6⟩ := ceil_mul (n := next) (t := d.servoPeriod * 10) (by omega)
  rw [← hk] at h5 h6
  exact ⟨h1, h2, k, next, h3, hn, h5, h6, h4⟩

theorem Dev.setNet_spec {d e : Dev} {x : Base} (he : e = (d.setDisc 1 x).stepSlots 1) :
    e.time = { d.time with net := x } ∧ e = { d with time := e.time, slots := e.slots } := by
  rw [Dev.setDisc, if_pos rfl] at he
  subst he
  exact ⟨rfl, rfl⟩

/-- Settles O47. -/
theorem basesDisciplined : Obligations.BasesDisciplined := by
  intro s
  refine ⟨fun host t b hb => ⟨fun h => ⟨?_, ?_⟩, fun hal hfree => ?_, fun hal hfree => ⟨fun hst => ?_, fun hst => ?_⟩⟩, fun h ns => ?_, ?_,
    fun n t hal hptm hci hm ht => ?_, fun haw => ⟨fun b => ?_, fun hn => ?_, fun hn => ?_, fun h => ?_, fun hst hl ha hp => ?_⟩⟩
  · refine State.ignores (f := (·.referenceMeasurement host t.toInt)) rfl (if_pos ?_)
    rcases h with h | ⟨h, h'⟩
    · simp [h]
    · simp [h, h']
  · refine State.ignores (f := (·.holdover host)) rfl (if_pos ?_)
    rcases h with h | ⟨h, h'⟩
    · simp [h]
    · simp [h, h']
  · refine State.does (f := (·.referenceMeasurement host t.toInt)) rfl ?_
    have he : s.dev.referenceMeasurement host t.toInt = s.dev.measureBase b t.toInt := by
      rw [Dev.referenceMeasurement, if_neg, hb]
      rcases hfree with h | h
      · simp [hal, h]
      · simp [hal, h]
    rw [he]
    obtain ⟨h1, h2, h3⟩ := s.dev.measureBase_only b t.toInt
    exact ⟨h1, h2, h3, Dev.measureBase_armed _, fun ha near good hn hg => Dev.measureBase_tracks _ ha hn hg⟩
  · refine State.does (f := (·.holdover host)) rfl (Dev.holdover_spec _ b ?_)
    unfold Dev.holdover
    rw [← hb]
    refine if_neg ?_
    rw [Dev.baseState, decide_eq_true hst]
    rcases hfree with h | h
    · simp [hal, h]
    · simp [hal, h]
  · refine State.ignores (f := (·.holdover host)) rfl ?_
    unfold Dev.holdover
    rw [← hb]
    refine if_pos ?_
    rw [Dev.baseState, decide_eq_false (by omega)]
    simp
  · refine State.ignores (f := (·.ptmDialog ns)) rfl (if_pos ?_)
    rcases h with h | h | h
    · simp [h]
    · simp [h]
    · simp [h]
  · refine State.ignores (f := (·.ptmDialog none)) rfl ?_
    unfold Dev.ptmDialog
    split
    · rfl
    · rfl
  · refine State.does (f := (·.ptmDialog (some n))) rfl ?_
    have he : s.dev.referenceMeasurement true t.toInt = s.dev.ptmDialog (some n) := by
      rw [Dev.ptmDialog_measures hal hptm hci hm, Dev.referenceMeasurement, if_neg (by simp [hal]), if_pos rfl, ht]
    exact congrArg (fun d : Dev => (Host.Outcome.next (State.mk d s.pending) : Host.Outcome State Fault Refusal)) he
  · refine State.does (f := fun d => if d.awake then d.rearm b else d) rfl ?_
    rw [if_pos haw, Dev.rearm]
    exact ⟨Dev.f_same _ _ _ _ _ (by decide) (by decide), (Dev.Only.refl _ _).setF _ _ (by simp [Fld.within])⟩
  · refine State.ignores (f := fun d => if d.awake then d.netSetGo else d) rfl ?_
    rw [if_pos haw, Dev.netSetGo, if_pos (by rw [hn]; rfl)]
  · refine State.does (f := fun d => if d.awake then d.netSetGo else d) rfl ?_
    rw [if_pos haw, Dev.netSetGo, if_neg (by rw [hn]; decide)]
    exact Dev.setNet_spec rfl
  · refine State.ignores (f := fun d => if d.awake && d.allStand then d.axisStep else d) rfl ?_
    split
    next hc =>
      rw [Bool.and_eq_true] at hc
      refine if_pos ?_
      rcases h with h | h | h
      · exact absurd hc.2 (by simp [h])
      · simp [h]
      · simp [Dev.on_zero h]
    next => rfl
  · refine State.does (f := fun d => if d.awake && d.allStand then d.axisStep else d) rfl ?_
    rw [if_pos (by rw [haw, hst]; rfl)]
    exact Dev.axisStep_aligns hl ha hp

end Sys2Proof.Machine
end

section
/-! SUPPORT. Referencing: its starts, its refusals and its end (R388 to R391). -/

namespace Sys2Proof.Machine

/-! ## Why a start is refused -/

theorem Dev.moveOf_of_rest {d : Dev} {a : Nat} (h : d.axisState a = 0 ∨ d.axisState a = 4) : d.moveOf a = none := by
  unfold Dev.axisState at h
  cases hm : d.moveOf a with
  | none => rfl
  | some m =>
    rw [hm] at h
    dsimp only at h
    split at h
    · omega
    · split at h
      · omega
      · omega

theorem Dev.claims_of_rest {d : Dev} {a : Nat} (h : d.moveOf a = none) : d.claims [a] = [] := by
  unfold Dev.moveOf at h
  unfold Dev.claims
  rw [List.filter_eq_nil_iff]
  intro m hm
  have := List.find?_eq_none.mp h m hm
  simpa using this

/-- The register of a start command. -/
def Dev.refCtrl (d : Dev) (a method : Nat) (up : Bool) (set iRef : Nat) : Dev :=
  (((d.setF (F.AXS_REF_CTRL.METHOD a) method).setB (F.AXS_REF_CTRL.REF_DIR a) up).setF (F.AXS_REF_CTRL.REF_SET a) set).setF
    (F.AXS_REF_CTRL.I_REF a) iRef

theorem Dev.refCtrl_only (d : Dev) (a method : Nat) (up : Bool) (set iRef : Nat) : d.Only (d.refCtrl a method up set iRef) [whole (R.AXS_REF_CTRL a)] :=
  ((((Dev.Only.refl _ _).setF _ _ (Fld.within_whole (by decide) (by decide))).setB _ _ (Fld.within_whole (by decide) (by decide))).setF _ _
    (Fld.within_whole (by decide) (by decide))).setF _ _ (Fld.within_whole (by decide) (by decide))

theorem Dev.refCtrl_f (d : Dev) (a method : Nat) (up : Bool) (set iRef : Nat) {y : Fld} (h : R.AXS_REF_CTRL a ≠ y.addr) :
    (d.refCtrl a method up set iRef).f y = d.f y := by
  refine (d.refCtrl_only a method up set iRef).f y ?_
  simp only [List.forall_mem_cons]
  exact ⟨.inl h, by simp⟩

theorem R.axsRefCtrl_ne {a n : Nat} (ha : a < 6) (h : n < 0xB1000 ∨ 0xB3000 ≤ n) : R.AXS_REF_CTRL a ≠ n := by
  unfold R.AXS_REF_CTRL
  omega

theorem Dev.RegsOut.motion {d e : Dev} (h : d.RegsOut e) : e.moves = d.moves ∧ e.axes = d.axes ∧ e.sump = d.sump ∧ e.tet = d.tet ∧
    e.mode = d.mode ∧ e.req = d.req ∧ e.nextMove = d.nextMove :=
  ⟨h.eq Dev.moves fun _ _ _ => rfl, h.eq Dev.axes fun _ _ _ => rfl, h.eq Dev.sump fun _ _ _ => rfl, h.eq Dev.tet fun _ _ _ => rfl,
    h.eq Dev.mode fun _ _ _ => rfl, h.eq Dev.req fun _ _ _ => rfl, h.eq Dev.nextMove fun _ _ _ => rfl⟩

theorem Dev.moveOf_moves {d e : Dev} (h : e.moves = d.moves) (a : Nat) : e.moveOf a = d.moveOf a := by
  unfold Dev.moveOf
  rw [h]

theorem Dev.ax_axes {d e : Dev} (h : e.axes = d.axes) (a : Nat) : e.ax a = d.ax a := by
  unfold Dev.ax
  rw [h]

theorem Dev.stands_congr {d e : Dev} (hm : e.moves = d.moves) (ha : e.axes = d.axes) (a : Nat) : e.stands a = d.stands a := by
  unfold Dev.stands
  rw [hm, Dev.ax_axes ha]

theorem Dev.inStation_congr {d e : Dev} (hf : ∀ y : Fld, y.addr = R.TET_CFG → e.f y = d.f y) : e.inStation = d.inStation ∧ e.feedMaster = d.feedMaster := by
  have hi : e.inStation = d.inStation := by
    unfold Dev.inStation Dev.on
    rw [hf _ rfl, hf _ rfl]
  refine ⟨hi, ?_⟩
  unfold Dev.feedMaster Dev.on
  rw [hi, hf _ rfl]

theorem Dev.axisState_congr {d e : Dev} (h : d.RegsOut e) (hf : ∀ y : Fld, y.addr = R.TET_CFG → e.f y = d.f y) (a : Nat) :
    e.axisState a = d.axisState a := by
  obtain ⟨hm, ha, hs, ht, -, -, -⟩ := h.motion
  obtain ⟨hi, hfm⟩ := Dev.inStation_congr hf
  have hheld : e.feedHeld = d.feedHeld := by
    unfold Dev.feedHeld Dev.stationHold
    rw [hi, hfm, hs, ht]
  unfold Dev.axisState
  rw [Dev.moveOf_moves hm, Dev.ax_axes ha, hheld, Dev.stands_congr hm ha]

theorem Dev.on_bit {d : Dev} {x : Fld} (h : x.hi = x.lo) : d.on x = true ↔ d.f x = 1 := by
  have hlt : d.f x < 2 := by
    have := bitsOf_lt (d.reg x.addr).toNat x.hi x.lo
    rw [h, Nat.add_sub_cancel_left] at this
    unfold Dev.f
    rwa [h]
  unfold Dev.on
  rw [decide_eq_true_eq]
  omega

/-- The code of a start, as Table 15.5 orders it. -/
theorem Dev.refRefused_eq (d : Dev) (a : Fin 6) (method : Nat) (up : Bool) (set iRef : Nat) :
    (d.refCtrl a method up set iRef).refRefused a method =
      if d.modeIn [.calibrate, .run, .service] = false ∨ (d.axisState a ≠ 0 ∧ d.axisState a ≠ 4) ∨ (d.ax a).ref ≠ none then 1
      else if a.val = 0 ∧ d.follower = true then 8
      else if method ≠ 0 ∧ (d.f (F.AXS_STALL_CFG.STALL_MODE a) = 0 ∨ d.f (F.ENC_CFG.ENC_TYPE a) = 0) then 6
      else if d.f (F.ENC_STATUS.ENC_FAULT a) = 1 then 5 else if d.f (F.CHP_STATUS.OVERCURRENT a) = 1 then 9 else 0 := by
  have hout : d.RegsOut (d.refCtrl a method up set iRef) := (d.refCtrl_only a method up set iRef).1
  have hf : ∀ {y : Fld}, R.AXS_REF_CTRL a ≠ y.addr → (d.refCtrl a method up set iRef).f y = d.f y := fun h => d.refCtrl_f a method up set iRef h
  have htet : ∀ y : Fld, y.addr = R.TET_CFG → (d.refCtrl a method up set iRef).f y = d.f y := fun y hy =>
    hf (by rw [hy]; exact R.axsRefCtrl_ne a.isLt (by decide))
  have hst := Dev.axisState_congr hout htet a
  obtain ⟨-, hfm⟩ := Dev.inStation_congr htet
  obtain ⟨-, ha, -, -, hmode, hreq, -⟩ := hout.motion
  have h1 := hf (y := F.AXS_STALL_CFG.STALL_MODE a) (by unfold R.AXS_REF_CTRL; change _ ≠ 0xB1100 + _; omega)
  have h2 := hf (y := F.ENC_CFG.ENC_TYPE a) (by unfold R.AXS_REF_CTRL; change _ ≠ 0xB5000 + _; omega)
  have h3 := hf (y := F.ENC_STATUS.ENC_FAULT a) (by unfold R.AXS_REF_CTRL; change _ ≠ 0xB5004 + _; omega)
  have h4 := hf (y := F.CHP_STATUS.OVERCURRENT a) (by unfold R.AXS_REF_CTRL; change _ ≠ 0xB4030 + _; omega)
  generalize d.refCtrl a method up set iRef = e at hst hfm ha hmode hreq h1 h2 h3 h4
  have hmi : e.modeIn motionModes = d.modeIn [.calibrate, .run, .service] := by
    unfold Dev.modeIn motionModes
    rw [hmode, hreq]
  have hc1 : (!e.modeIn motionModes || !decide (e.axisState a = 0 ∨ e.axisState a = 4) || (e.ax a).ref.isSome) = true ↔
      d.modeIn [.calibrate, .run, .service] = false ∨ (d.axisState a ≠ 0 ∧ d.axisState a ≠ 4) ∨ (d.ax a).ref ≠ none := by
    rw [hmi, hst, Dev.ax_axes ha]
    simp [Option.isSome_iff_ne_none, or_assoc]
  unfold Dev.refRefused
  dsimp only
  rw [if_congr hc1 rfl rfl]
  unfold Dev.follower Dev.noEncoder
  rw [hfm, h1, h2, if_congr (Dev.on_bit (d := e) (x := F.ENC_STATUS.ENC_FAULT a) rfl) rfl rfl,
    if_congr (Dev.on_bit (d := e) (x := F.CHP_STATUS.OVERCURRENT a) rfl) rfl rfl, h3, h4]
  simp only [decide_eq_true_eq]

/-! ## Starts -/

theorem Dev.refReport_spec (d : Dev) (a : Nat) {code : Nat} (hc : code < 16) (ha : a < 6) :
    (d.refReport a code).f (F.AXS_REF_STATUS.RESULT a) = code ∧ (d.refReport a code).f (F.AXS_REF_STATUS.DONE a) = 1 ∧
    d.Only (d.refReport a code) [F.AXS_REF_STATUS.RESULT a, F.AXS_REF_STATUS.DONE a, intBit (intBitOf (R.AXS_REF_STATUS a))] := by
  have hne : R.AXS_REF_STATUS a ≠ R.TOP_INT_STATUS := by
    unfold R.AXS_REF_STATUS R.TOP_INT_STATUS
    omega
  unfold Dev.refReport
  refine ⟨?_, ?_, ?_⟩
  · rw [Dev.f_irq _ _ _ _ _ hne, Dev.f_apart _ _ _ _ _ _ _ (by decide) (by decide) (by decide), Dev.f_same _ _ _ _ _ (by decide) (by decide)]
    exact Nat.mod_eq_of_lt hc
  · exact (Dev.f_irq _ _ _ _ _ hne).trans (Dev.f_same _ _ _ _ _ (by decide) (by decide))
  · exact (((Dev.Only.refl _ _).setF _ _ (by simp [Fld.within])).setF _ _ (by simp [Fld.within])).irq _
      ⟨Nat.le_succ _, intBitOf_lt _, intBit (intBitOf (R.AXS_REF_STATUS a)), by simp, rfl, le_refl _, le_refl _⟩

/-- A move whose axes no other move names supersedes none. -/
theorem Dev.acceptMove_ref {d : Dev} {m : Move} {a : Nat} (ho : m.owner = .ref a) (h : d.claims (m.axes.map (fun e => e.axis)) = []) :
    d.acceptMove m = { d with moves := d.moves ++ [m] } := by
  unfold Dev.acceptMove
  rw [ho]
  dsimp only
  rw [h]
  rfl

/-- A move of a procedure on an axis that no move names. -/
theorem Dev.refMove_spec {d : Dev} {a : Nat} (h : d.moveOf a = none) (r : RefRun) (n : Int) :
    (d.refMove a r n).moves = d.moves ++ [mkMove d.nextMove (.ref a) false r.set false true none [(a, n)]] ∧
    (d.refMove a r n).ax a = { d.ax a with ref := some r, ended := none } ∧ (d.refMove a r n).regs = d.regs := by
  unfold Dev.refMove
  extract_lets src d1 m
  have hm : m.2.moves = d.moves := rfl
  have hax : m.2.ax a = { d.ax a with ref := some r, ended := none } := (Dev.ax_axes (d := d1) rfl a).trans ((d.ax_setAx a a _).trans (if_pos rfl))
  have hreg : m.2.regs = d.regs := rfl
  have hn : m.1 = d.nextMove := rfl
  clear_value m
  rw [Dev.acceptMove_ref (a := a) rfl (Dev.claims_of_rest ((Dev.moveOf_moves hm a).trans h)), hn]
  refine ⟨?_, (Dev.ax_axes rfl a).trans hax, hreg⟩
  dsimp only
  rw [hm]

theorem Dev.refGo_eq (d : Dev) (a : Nat) (r : RefRun) {step : Nat} (h5 : step ≠ 5) (h3 : step = 3 → r.method ≠ 2) :
    d.refGo a r step = d.refMove a { r with step := step, latch := none }
      ((if step = 2 then -1 else 1) * r.dir * d.f (F.AXS_REF_MAX.REF_MAX a)) := by
  unfold Dev.refGo Dev.refMax
  dsimp only
  rw [if_neg h5]
  by_cases h2 : step = 2
  · rw [if_pos (.inl h2), if_pos h2]
    simp
  · rw [if_neg (by omega), if_neg (fun h => h3 h.1 h.2), if_neg h2]
    simp

/-- The device on which an accepted start moves: its axis keeps no distance and is BUSY. -/
def Dev.refBusy (d : Dev) (a : Nat) : Dev := (d.setAx a { d.ax a with kept := none }).setF (F.AXS_REF_STATUS.BUSY a) 1

theorem Dev.refBusy_spec (d : Dev) (a : Nat) : (d.refBusy a).moves = d.moves ∧ (d.refBusy a).nextMove = d.nextMove ∧
    (d.refBusy a).ax a = { d.ax a with kept := none } ∧ (d.refBusy a).f (F.AXS_REF_STATUS.BUSY a) = 1 ∧
    ∀ y : Fld, R.AXS_REF_STATUS a ≠ y.addr → (d.refBusy a).f y = d.f y :=
  ⟨Dev.setF_moves _ _ _, Dev.setF_nextMove _ _ _, (Dev.ax_axes (Dev.setF_axes _ _ _) a).trans ((d.ax_setAx a a _).trans (if_pos rfl)),
    Dev.f_same _ _ _ _ _ (by decide) (by decide), fun y hy => (Dev.f_setF_ne _ _ _ _ hy.symm).trans rfl⟩

theorem Dev.edgeLevel_congr {d e : Dev} {a : Nat} (h : ∀ y : Fld, y.addr = R.AXS_SW_CFG a ∨ y.addr = R.AXS_SW_STATUS a → e.f y = d.f y) :
    e.edgeLevel a = d.edgeLevel a := by
  unfold Dev.edgeLevel Dev.on
  dsimp only
  rw [h _ (.inl rfl), h _ (.inl rfl), h _ (.inr rfl)]

theorem Dev.refRefused_rest {d : Dev} {a method : Nat} (h : d.refRefused a method = 0) : d.axisState a = 0 ∨ d.axisState a = 4 := by
  by_contra hn
  unfold Dev.refRefused at h
  dsimp only at h
  rw [if_pos (by rw [decide_eq_false hn]; simp)] at h
  exact absurd h (by decide)

theorem R.axsRef_apart (a : Nat) : R.AXS_REF_CTRL a ≠ R.AXS_SW_CFG a ∧ R.AXS_REF_CTRL a ≠ R.AXS_SW_STATUS a ∧ R.AXS_REF_CTRL a ≠ R.AXS_REF_MAX a ∧
    R.AXS_REF_STATUS a ≠ R.AXS_SW_CFG a ∧ R.AXS_REF_STATUS a ≠ R.AXS_SW_STATUS a ∧ R.AXS_REF_STATUS a ≠ R.AXS_REF_MAX a := by
  unfold R.AXS_REF_CTRL R.AXS_SW_CFG R.AXS_SW_STATUS R.AXS_REF_MAX R.AXS_REF_STATUS
  omega

theorem Dev.refStart_moves (d : Dev) (a : Fin 6) (method : Nat) (up : Bool) (set iRef : Nat)
    (hc : (d.refCtrl a method up set iRef).refRefused a method = 0) {e : Dev} (he : e = d.refStart a method up set iRef) :
    e.f (F.AXS_REF_STATUS.BUSY a) = 1 ∧ (e.ax a).kept = none ∧ (e.ax a).x = (d.ax a).x ∧
    ∃ (step : Nat) (out : Int), step = (if method ≠ 0 then 1 else if d.edgeLevel a then 2 else 3) ∧
      out = (if step = 2 then -1 else 1) * (if up then 1 else -1) * d.f (F.AXS_REF_MAX.REF_MAX a) ∧
      (e.ax a).ref = some ⟨method, if up then 1 else -1, set, iRef, step, none, none, 0⟩ ∧
      e.moves = d.moves ++ [mkMove d.nextMove (.ref a) false set false true none [(a.val, out)]] := by
  obtain ⟨hm1, ha1, -, -, -, -, hn1⟩ := Dev.RegsOut.motion (d.refCtrl_only a method up set iRef).1
  have hf1 := fun {y : Fld} (h : R.AXS_REF_CTRL a ≠ y.addr) => d.refCtrl_f a method up set iRef h
  have hs : d.refStart a method up set iRef = ((d.refCtrl a method up set iRef).refBusy a).refGo a
      ⟨method, if up then 1 else -1, set, iRef, 1, none, none, 0⟩
      (if method ≠ 0 then 1 else if ((d.refCtrl a method up set iRef).refBusy a).edgeLevel a then 2 else 3) := by
    unfold Dev.refStart
    exact if_neg (not_not.mpr hc)
  rw [hs] at he
  clear hs
  have hrest := Dev.moveOf_of_rest (Dev.refRefused_rest hc)
  generalize d.refCtrl a method up set iRef = d1 at hm1 ha1 hn1 hf1 hc he hrest
  obtain ⟨hm2, hn2, ha2, hb2, hf2⟩ := d1.refBusy_spec a
  generalize d1.refBusy a = d2 at hm2 hn2 ha2 hb2 hf2 he
  obtain ⟨n1, n2, n3, n4, n5, n6⟩ := R.axsRef_apart a
  have hedge : d2.edgeLevel a = d.edgeLevel a := Dev.edgeLevel_congr fun y hy => by
    rcases hy with hy | hy
    · rw [hf2 _ (by rw [hy]; exact n4), hf1 (by rw [hy]; exact n1)]
    · rw [hf2 _ (by rw [hy]; exact n5), hf1 (by rw [hy]; exact n2)]
  have hmax : d2.f (F.AXS_REF_MAX.REF_MAX a) = d.f (F.AXS_REF_MAX.REF_MAX a) := (hf2 _ n6).trans (hf1 n3)
  rw [hedge, Dev.refGo_eq _ _ _ (by split <;> (try split) <;> decide) (by
    intro h3 h2
    replace h2 : method = 2 := h2
    rw [if_pos (by rw [h2]; decide)] at h3
    exact absurd h3 (by decide)), hmax] at he
  obtain ⟨e1, e2, e3⟩ := Dev.refMove_spec ((Dev.moveOf_moves hm2 a).trans hrest)
    { (⟨method, if up then 1 else -1, set, iRef, 1, none, none, 0⟩ : RefRun) with
      step := if method ≠ 0 then 1 else if d.edgeLevel a then 2 else 3, latch := none }
    ((if (if method ≠ 0 then 1 else if d.edgeLevel a then 2 else 3) = 2 then -1 else 1) * (if up then 1 else -1) * d.f (F.AXS_REF_MAX.REF_MAX a))
  rw [← he] at e1 e2 e3
  refine ⟨?_, ?_, ?_, _, _, rfl, rfl, ?_, ?_⟩
  · rw [← hb2]
    exact congrArg (fun w : Word => bitsOf w.toNat 31 31) (Dev.reg_regs e3 _)
  · rw [e2, ha2]
  · rw [e2, ha2, Dev.ax_axes ha1]
  · rw [e2]
  · rw [e1, hm2, hm1, hn2, hn1]

theorem Dev.refStart_refused (d : Dev) (a : Fin 6) (method : Nat) (up : Bool) (set iRef : Nat) {code : Nat} (h0 : code ≠ 0) (h16 : code < 16)
    (hc : (d.refCtrl a method up set iRef).refRefused a method = code) :
    (d.refStart a method up set iRef).f (F.AXS_REF_STATUS.RESULT a) = code ∧ (d.refStart a method up set iRef).f (F.AXS_REF_STATUS.DONE a) = 1 ∧
    d.Only (d.refStart a method up set iRef) [whole (R.AXS_REF_CTRL a), F.AXS_REF_STATUS.RESULT a, F.AXS_REF_STATUS.DONE a,
      intBit (intBitOf (R.AXS_REF_STATUS a))] := by
  have he : d.refStart a method up set iRef = (d.refCtrl a method up set iRef).refReport a code := by
    unfold Dev.refStart
    exact (if_pos (hc ▸ h0)).trans (by rw [← hc]; rfl)
  rw [he]
  obtain ⟨h1, h2, h3⟩ := (d.refCtrl a method up set iRef).refReport_spec a h16 a.isLt
  exact ⟨h1, h2, ((d.refCtrl_only a method up set iRef).mono (by simp)).trans (h3.mono (by simp))⟩

/-! ## The end -/

theorem Dev.sendVia_spec (d : Dev) (p : Nat) (ws : List Nat) : (d.sendVia p ws).regs = d.regs ∧ (d.sendVia p ws).axes = d.axes := by
  unfold Dev.sendVia
  split
  · exact ⟨rfl, rfl⟩
  · split
    · exact ⟨rfl, rfl⟩
    · split
      · exact ⟨rfl, rfl⟩
      · exact ⟨rfl, rfl⟩

theorem Dev.sendRefEdge_spec (d : Dev) (delta : Int) : (d.sendRefEdge delta).regs = d.regs ∧ (d.sendRefEdge delta).axes = d.axes := by
  unfold Dev.sendRefEdge
  split
  · split
    · exact Dev.sendVia_spec _ _ _
    · exact ⟨rfl, rfl⟩
  · exact ⟨rfl, rfl⟩

/-- The device when a procedure's result is reported. -/
def Dev.refEnded (d : Dev) (a code : Nat) : Dev :=
  let d := (d.setAx a { d.ax a with ref := none, ended := none }).setF (F.AXS_REF_STATUS.BUSY a) 0
  (if code = 0 then d.setF (F.AXS_REF_STATUS.REFERENCED a) 1 else d).refReport a code

theorem Dev.refEnded_spec (d : Dev) {a code : Nat} (ha : a < 6) (hc : code < 16) :
    ((d.refEnded a code).ax a).ref = none ∧ (d.refEnded a code).f (F.AXS_REF_STATUS.BUSY a) = 0 ∧
    (d.refEnded a code).f (F.AXS_REF_STATUS.DONE a) = 1 ∧ (d.refEnded a code).f (F.AXS_REF_STATUS.RESULT a) = code ∧
    (d.refEnded a code).f (F.AXS_REF_STATUS.REFERENCED a) = if code = 0 then 1 else d.f (F.AXS_REF_STATUS.REFERENCED a) := by
  unfold Dev.refEnded
  extract_lets src d1
  generalize hd2 : (if code = 0 then d1.setF (F.AXS_REF_STATUS.REFERENCED a) 1 else d1) = d2
  obtain ⟨h1, h2, h3⟩ := d2.refReport_spec a hc ha
  have hkeep : ∀ y ∈ [F.AXS_REF_STATUS.BUSY a, F.AXS_REF_STATUS.REFERENCED a], (d2.refReport a code).f y = d2.f y := by
    have hne : R.TOP_INT_STATUS ≠ R.AXS_REF_STATUS a := by
      unfold R.AXS_REF_STATUS R.TOP_INT_STATUS
      omega
    intro y hy
    refine h3.f y ?_
    simp only [List.mem_cons, List.not_mem_nil, or_false] at hy
    simp only [List.forall_mem_cons]
    rcases hy with rfl | rfl
    · exact ⟨.inr (.inr (Nat.le_of_ble_eq_true rfl)), .inr (.inr (Nat.le_of_ble_eq_true rfl)), .inl hne, by simp⟩
    · exact ⟨.inr (.inr (Nat.le_of_ble_eq_true rfl)), .inr (.inl (Nat.le_of_ble_eq_true rfl)), .inl hne, by simp⟩
  have hax1 : d1.ax a = { d.ax a with ref := none, ended := none } :=
    (Dev.ax_axes (Dev.setF_axes _ _ _) a).trans ((d.ax_setAx a a _).trans (if_pos rfl))
  have hax2 : d2.axes = d1.axes := by
    rw [← hd2]
    split
    · exact Dev.setF_axes _ _ _
    · rfl
  have hout : d2.RegsOut (d2.refReport a code) := h3.1
  have hb1 : d1.f (F.AXS_REF_STATUS.BUSY a) = 0 := (Dev.f_same _ _ _ _ _ (by decide) (by decide)).trans (Nat.zero_mod _)
  have hr1 : d1.f (F.AXS_REF_STATUS.REFERENCED a) = d.f (F.AXS_REF_STATUS.REFERENCED a) :=
    (Dev.f_apart _ _ _ _ _ _ _ (by decide) (by decide) (by decide)).trans rfl
  refine ⟨?_, ?_, h2, h1, ?_⟩
  · rw [Dev.ax_axes hout.motion.2.1, Dev.ax_axes hax2, hax1]
  · rw [hkeep _ (by simp), ← hd2]
    split
    · exact (Dev.f_apart _ _ _ _ _ _ _ (by decide) (by decide) (by decide)).trans hb1
    · exact hb1
  · rw [hkeep _ (by simp), ← hd2]
    split
    · exact Dev.f_same _ _ _ _ _ (by decide) (by decide)
    · exact hr1

theorem Dev.refDone_waits {d : Dev} {a : Nat} {r : RefRun} (hr : (d.ax a).ref = some r) (h : r.result = none ∨ d.stands a = false) :
    d.refDone a = d := by
  unfold Dev.refDone
  rw [hr]
  dsimp only
  cases hres : r.result with
  | none => rfl
  | some code =>
    dsimp only
    rcases h with h | h
    · exact absurd (hres.symm.trans h) (by simp)
    · exact if_pos (by rw [h]; rfl)

theorem Dev.refDone_ends {d : Dev} {a : Nat} {r : RefRun} {code : Nat} (hr : (d.ax a).ref = some r) (hres : r.result = some code)
    (hst : d.stands a = true) (hm : d.moveOf a = none) (hs : code = 0 ∨ r.shift = 0) :
    d.refDone a = if a = 0 ∧ code = 0 then (d.refEnded a code).sendRefEdge r.shift else d.refEnded a code := by
  unfold Dev.refDone
  rw [hr]
  dsimp only
  rw [hres]
  dsimp only
  rw [if_neg (by rw [hst, hm]; simp), if_neg (show ¬ (code ≠ 0 ∧ r.shift ≠ 0) by tauto)]
  rfl

/-- Settles O45. -/
theorem referencing : Obligations.Referencing := by
  intro s a
  refine ⟨fun haw up set iRef method i hi code hcode => ?_, fun h => ?_, fun r hr => ⟨fun h => ?_, fun code hres hc hst hm hs => ?_⟩⟩
  · have hex : exec i s = s.lift (fun d => if d.awake then d.refStart a method up set iRef else d) := by
      rcases hi with ⟨rfl, rfl⟩ | ⟨rfl, rfl⟩ | ⟨rfl, rfl⟩ <;> rfl
    have hc := (s.dev.refRefused_eq a method up set iRef).trans hcode.symm
    have h16 : code < 16 := by
      rw [hcode]
      repeat' split
      all_goals decide
    refine ⟨fun h0 => State.does hex ?_, fun h0 => State.does hex ?_⟩
    · rw [if_pos haw]
      exact s.dev.refStart_refused a method up set iRef h0 h16 hc
    · rw [if_pos haw]
      exact s.dev.refStart_moves a method up set iRef (hc.trans h0) rfl
  · refine State.ignores (f := (·.refDone a)) rfl ?_
    unfold Dev.refDone
    rw [h]
  · exact State.ignores (f := (·.refDone a)) rfl (Dev.refDone_waits hr h)
  · refine State.does (f := (·.refDone a)) rfl ?_
    rw [Dev.refDone_ends hr hres hst hm hs]
    have hend := s.dev.refEnded_spec a.isLt hc
    split
    · obtain ⟨h1, h2⟩ := (s.dev.refEnded a code).sendRefEdge_spec r.shift
      have hf : ∀ y, ((s.dev.refEnded a code).sendRefEdge r.shift).f y = (s.dev.refEnded a code).f y := fun y =>
        congrArg (fun w : Word => bitsOf w.toNat y.hi y.lo) (Dev.reg_regs h1 _)
      rw [hf, hf, hf, hf, Dev.ax_axes h2]
      exact hend
    · exact hend

end Sys2Proof.Machine
end

section
/-! SUPPORT. Encoders, position latches and position redefinition (R362, R377 to R381, R386). -/

namespace Sys2Proof.Machine

/-! ## Counts -/

theorem Dev.measured_setMeasured (d : Dev) (a b : Nat) (p : Int) : (d.setMeasured a p).measured b = if b = a then p else d.measured b :=
  spGet_spSet _ _ _ _

theorem Dev.measured_meas {d e : Dev} (h : e.meas = d.meas) (a : Nat) : e.measured a = d.measured a := by
  unfold Dev.measured
  rw [h]

theorem Dev.encMove_spec (d : Dev) (a : Nat) (n : Int) :
    (d.encMove a n).measured a = d.measured a + (if d.f (F.ENC_CFG.DIR_INV a) = 1 then -n else n) ∧
    (∀ b, b ≠ a → (d.encMove a n).measured b = d.measured b) ∧ d.encMove a n = { d with meas := (d.encMove a n).meas, sur := (d.encMove a n).sur } ∧
    (a ≠ 0 → (d.encMove a n).sur = d.sur) := by
  unfold Dev.encMove
  rw [if_congr (Dev.on_bit (d := d) (x := F.ENC_CFG.DIR_INV a) rfl) rfl rfl]
  extract_lets d1
  have h1 : ∀ b, d1.measured b = if b = a then d.measured a + (if d.f (F.ENC_CFG.DIR_INV a) = 1 then -n else n) else d.measured b :=
    fun b => d.measured_setMeasured a b _
  have heq : d1 = { d with meas := d1.meas } := rfl
  clear_value d1
  have hmeas : (if a = 0 then d1.surveyWatch d1.feedTicks else d1).meas = d1.meas := by
    split
    · rfl
    · rfl
  refine ⟨?_, fun b hb => ?_, ?_, fun ha => ?_⟩
  · rw [Dev.measured_meas hmeas, h1, if_pos rfl]
  · rw [Dev.measured_meas hmeas, h1, if_neg hb]
  · split
    · rw [heq]
      rfl
    · rw [heq]
  · rw [if_neg ha, heq]

/-! ## Faults -/

theorem Dev.refFail_spec (d : Dev) (a code : Nat) : (d.refFail a code).regs = d.regs ∧ (d.refFail a code).moves = d.moves ∧
    (d.refFail a code).meas = d.meas := by
  unfold Dev.refFail
  split
  · split
    · exact ⟨rfl, rfl, rfl⟩
    · exact ⟨rfl, rfl, rfl⟩
  · exact ⟨rfl, rfl, rfl⟩

theorem Dev.encFault_spec (d : Dev) {a cause : Nat} (ha : a < 6) (hc : cause < 8) :
    (d.encFault a cause).f (F.ENC_STATUS.ENC_FAULT a) = 1 ∧ (d.encFault a cause).moves = d.moves.map (fun m => if m.has a then m.stopBy .fault else m) ∧
    (d.encFault a cause).meas = d.meas ∧
    (d.f (F.ENC_STATUS.ENC_FAULT a) = 0 → (d.encFault a cause).f (F.ENC_STATUS.CAUSE a) = cause ∧
      (d.encFault a cause).f (F.AXS_REF_STATUS.REFERENCED a) = 0) ∧
    (d.f (F.ENC_STATUS.ENC_FAULT a) = 1 → (d.encFault a cause).regs = d.regs) := by
  have hne : R.ENC_STATUS a ≠ R.AXS_REF_STATUS a := by
    unfold R.ENC_STATUS R.AXS_REF_STATUS
    omega
  unfold Dev.encFault
  extract_lets d1
  obtain ⟨hr, hm, hp⟩ := d1.refFail_spec a 5
  have hregs : ((d1.refFail a 5).stopAxes [a] .fault).regs = d1.regs := hr
  have hf : ∀ y, ((d1.refFail a 5).stopAxes [a] .fault).f y = d1.f y := fun y => congrArg (fun w : Word => bitsOf w.toNat y.hi y.lo) (Dev.reg_regs hregs _)
  have hmoves : ((d1.refFail a 5).stopAxes [a] .fault).moves = d1.moves.map (fun m => if m.has a then m.stopBy .fault else m) := by
    rw [← hm]
    refine List.map_congr_left fun m _ => ?_
    simp
  have hmeas : ((d1.refFail a 5).stopAxes [a] .fault).meas = d1.meas := hp
  rw [hf, hf, hf, hmoves, hmeas, hregs]
  by_cases h : d.f (F.ENC_STATUS.ENC_FAULT a) = 1
  case pos =>
    have hd1 : d1 = d := if_pos (Dev.on_one h)
    rw [hd1]
    exact ⟨h, rfl, rfl, fun h0 => absurd h (by omega), fun _ => rfl⟩
  case neg =>
    have h0 : d.f (F.ENC_STATUS.ENC_FAULT a) = 0 := by
      have : d.f (F.ENC_STATUS.ENC_FAULT a) < 2 := bitsOf_lt _ (F.ENC_STATUS.ENC_FAULT a).hi (F.ENC_STATUS.ENC_FAULT a).lo
      omega
    have hd1 : d1 = ((d.setF (F.ENC_STATUS.ENC_FAULT a) 1).setF (F.ENC_STATUS.CAUSE a) cause).setF (F.AXS_REF_STATUS.REFERENCED a) 0 :=
      if_neg (by rw [Dev.on_zero h0]; decide)
    rw [hd1]
    refine ⟨?_, ?_, ?_, fun _ => ⟨?_, ?_⟩, fun h1 => absurd h1 h⟩
    · refine (Dev.f_setF_ne _ _ _ _ hne).trans ((Dev.f_apart _ _ _ _ _ _ _ (by decide) (by decide) (by decide)).trans ?_)
      exact Dev.f_same _ _ _ _ _ (by decide) (by decide)
    · rw [Dev.setF_moves, Dev.setF_moves, Dev.setF_moves]
    · rw [Dev.setF_meas, Dev.setF_meas, Dev.setF_meas]
    · refine (Dev.f_setF_ne _ _ _ _ hne).trans ((Dev.f_same _ _ _ _ _ (by decide) (by decide)).trans (Nat.mod_eq_of_lt (Nat.lt_of_lt_of_le hc (by decide))))
    · exact (Dev.f_same _ _ _ _ _ (by decide) (by decide)).trans (Nat.zero_mod _)

theorem Dev.ssiFrame_fault {d : Dev} {a raw cause : Nat} {high : Bool} (haw : d.alive = true) (h3 : d.f (F.ENC_CFG.ENC_TYPE a) = 3)
    (hfit : (d.f (F.ENC_CFG.SSI_BITS a) + 1) * d.f (F.ENC_CFG.SSI_DIV a) + 56 ≤ d.servoPeriod * 4) :
    (high = false → cause = 3 → d.ssiFrame a raw high = d.encFault a cause) := by
  intro hh hc
  unfold Dev.ssiFrame
  rw [if_neg (by simp [haw, h3]), if_neg (Nat.not_lt.2 hfit), hh, hc]
  rfl

/-- What a frame with a good level and a good time does to the position (R380). -/
theorem Dev.ssiFrame_good {d : Dev} {a raw : Nat} (haw : d.alive = true) (h3 : d.f (F.ENC_CFG.ENC_TYPE a) = 3)
    (hfit : (d.f (F.ENC_CFG.SSI_BITS a) + 1) * d.f (F.ENC_CFG.SSI_DIV a) + 56 ≤ d.servoPeriod * 4)
    (hg : d.f (F.ENC_CFG.SSI_GRAY a) = 0) (hraw : raw < 2 ^ d.f (F.ENC_CFG.SSI_BITS a)) :
    d.ssiFrame a raw true =
      match (d.ax a).ssi with
      | none => d.setAx a { d.ax a with ssi := some raw }
      | some old =>
        let diff := signed (d.f (F.ENC_CFG.SSI_BITS a)) (unsigned (d.f (F.ENC_CFG.SSI_BITS a)) ((raw : Int) - old))
        if 2 ^ (d.f (F.ENC_CFG.SSI_BITS a) - 2) < diff.natAbs then (d.setAx a { d.ax a with ssi := some raw }).encFault a 4
        else (d.setAx a { d.ax a with ssi := some raw }).encMove a diff := by
  unfold Dev.ssiFrame
  rw [if_neg (by simp [haw, h3]), if_neg (Nat.not_lt.2 hfit), Dev.on_zero hg, Nat.mod_eq_of_lt hraw]
  rfl

/-! ## Latches -/

theorem Axis.latch_apart {a : Nat} : R.AXS_LATCH_LO a ≠ R.AXS_LATCH_HI a ∧ R.AXS_LATCH_LO a ≠ R.AXS_LATCH_TIME_LO a ∧
    R.AXS_LATCH_LO a ≠ R.AXS_LATCH_TIME_HI a ∧ R.AXS_LATCH_HI a ≠ R.AXS_LATCH_TIME_LO a ∧ R.AXS_LATCH_HI a ≠ R.AXS_LATCH_TIME_HI a := by
  unfold R.AXS_LATCH_LO R.AXS_LATCH_HI R.AXS_LATCH_TIME_LO R.AXS_LATCH_TIME_HI
  omega

theorem Axis.switch_apart {a : Nat} : R.AXS_LATCH_LO a ≠ R.AXS_SW_STATUS a ∧ R.AXS_LATCH_HI a ≠ R.AXS_SW_STATUS a ∧
    R.AXS_LATCH_TIME_LO a ≠ R.AXS_SW_STATUS a ∧ R.AXS_LATCH_TIME_HI a ≠ R.AXS_SW_STATUS a := by
  unfold R.AXS_LATCH_LO R.AXS_LATCH_HI R.AXS_LATCH_TIME_LO R.AXS_LATCH_TIME_HI R.AXS_SW_STATUS
  omega

theorem Axis.latch_ne_int {a : Nat} : R.AXS_LATCH_LO a ≠ R.TOP_INT_STATUS ∧ R.AXS_LATCH_HI a ≠ R.TOP_INT_STATUS ∧
    R.AXS_SW_STATUS a ≠ R.TOP_INT_STATUS := by
  unfold R.AXS_LATCH_LO R.AXS_LATCH_HI R.AXS_SW_STATUS R.TOP_INT_STATUS
  omega

theorem Axis.latch_ne_stamp {a : Nat} (ha : a < 6) : R.AXS_LATCH_LO a ≠ R.TIM_STAMP_STATUS ∧ R.AXS_LATCH_HI a ≠ R.TIM_STAMP_STATUS ∧
    R.AXS_SW_STATUS a ≠ R.TIM_STAMP_STATUS := by
  unfold R.AXS_LATCH_LO R.AXS_LATCH_HI R.AXS_SW_STATUS R.TIM_STAMP_STATUS
  omega

/-- The registers that a latched position shows. -/
theorem Dev.latchRegs_spec (d : Dev) {a : Nat} (ha : a < 6) (pos : Int) (t b : Nat) {e : Dev}
    (he : e = ((((d.set64 (R.AXS_LATCH_LO a) (R.AXS_LATCH_HI a) (unsigned 64 pos)).set64 (R.AXS_LATCH_TIME_LO a) (R.AXS_LATCH_TIME_HI a) t).stamped
      b 1).flag (F.AXS_SW_STATUS.LATCHED a))) :
    e.f (F.AXS_SW_STATUS.HOME_LEVEL a) = d.f (F.AXS_SW_STATUS.HOME_LEVEL a) ∧ e.f (F.AXS_SW_STATUS.LATCHED a) = 1 ∧
    e.r64 (R.AXS_LATCH_LO a) (R.AXS_LATCH_HI a) = unsigned 64 pos ∧ e.axes = d.axes := by
  obtain ⟨hlh, hlt, hlu, hht, hhu⟩ := Axis.latch_apart (a := a)
  obtain ⟨hls, hhs, hts, hus⟩ := Axis.switch_apart (a := a)
  obtain ⟨hli, hhi, hsi⟩ := Axis.latch_ne_int (a := a)
  obtain ⟨hlc, hhc, hsc⟩ := Axis.latch_ne_stamp ha
  obtain ⟨d1, hd1⟩ : ∃ k, k = d.set64 (R.AXS_LATCH_LO a) (R.AXS_LATCH_HI a) (unsigned 64 pos) := ⟨_, rfl⟩
  obtain ⟨d2, hd2⟩ : ∃ k, k = d1.set64 (R.AXS_LATCH_TIME_LO a) (R.AXS_LATCH_TIME_HI a) t := ⟨_, rfl⟩
  obtain ⟨d3, hd3⟩ : ∃ k, k = d2.stamped b 1 := ⟨_, rfl⟩
  have ho : d2.Only d3 [F.TIM_STAMP_STATUS.FALLBACK_CNT] := hd3 ▸ d2.stamped_only b 1
  have h3 : ∀ r, R.TIM_STAMP_STATUS ≠ r → d3.reg r = d2.reg r := fun r hr =>
    ho.reg r (by simp only [List.forall_mem_cons]; exact ⟨hr, by simp⟩)
  have h2 : ∀ r, r ≠ R.AXS_LATCH_TIME_LO a → r ≠ R.AXS_LATCH_TIME_HI a → d2.reg r = d1.reg r := fun r hr hr' => by
    rw [hd2, Dev.set64, Dev.reg_setReg_ne _ _ hr', Dev.reg_setReg_ne _ _ hr]
  have he' : e = d3.flag (F.AXS_SW_STATUS.LATCHED a) := by
    rw [he, hd3, hd2, hd1]
  have hreg : ∀ r, r ≠ R.AXS_SW_STATUS a → r ≠ R.TOP_INT_STATUS → e.reg r = d3.reg r := fun r hr hr' => by
    rw [he', Dev.reg_flag_ne _ ⟨Nat.le_of_ble_eq_true rfl, Nat.le_of_ble_eq_true rfl⟩ hr hr']
  refine ⟨?_, ?_, ?_, ?_⟩
  · have hh : d3.reg (R.AXS_SW_STATUS a) = d.reg (R.AXS_SW_STATUS a) := by
      rw [h3 _ hsc.symm, h2 _ hts.symm hus.symm, hd1, Dev.set64, Dev.reg_setReg_ne _ _ hhs.symm, Dev.reg_setReg_ne _ _ hls.symm]
    rw [he']
    exact (Dev.f_flag_apart d3 (F.AXS_SW_STATUS.LATCHED a) (F.AXS_SW_STATUS.HOME_LEVEL a) rfl (Nat.le_of_ble_eq_true rfl) rfl hsi
      (.inl (Nat.le_of_ble_eq_true rfl))).trans (congrArg (fun w : Word => bitsOf w.toNat 31 31) hh)
  · rw [he']
    exact Dev.f_flag_same _ _ _ (by decide) hsi
  · have hv : e.r64 (R.AXS_LATCH_LO a) (R.AXS_LATCH_HI a) = d1.r64 (R.AXS_LATCH_LO a) (R.AXS_LATCH_HI a) := by
      unfold Dev.r64
      rw [hreg _ hls hli, hreg _ hhs hhi, h3 _ hlc.symm, h3 _ hhc.symm, h2 _ hlt hlu, h2 _ hht hhu]
    rw [hv, hd1, Dev.r64_set64 _ _ _ _ hlh, unsigned_mod_64]
  · have hs : d3.axes = d2.axes := Dev.RegsOut.eq ho.1 Dev.axes fun _ _ _ => rfl
    rw [he', Dev.flag_axes, hs, hd2, hd1, Dev.set64, Dev.set64, Dev.setReg_axes, Dev.setReg_axes, Dev.setReg_axes, Dev.setReg_axes]

theorem Dev.latchEdge_spec (d : Dev) {a : Nat} (ha : a < 6) (pos : Int) (ago : Nat) :
    (d.latchEdge a pos ago).f (F.AXS_SW_STATUS.HOME_LEVEL a) = d.f (F.AXS_SW_STATUS.HOME_LEVEL a) ∧
    (d.latchEdge a pos ago).f (F.AXS_SW_STATUS.LATCHED a) = 1 ∧
    (d.latchEdge a pos ago).r64 (R.AXS_LATCH_LO a) (R.AXS_LATCH_HI a) = unsigned 64 pos ∧
    ∀ r, (d.ax a).ref = some r → ((d.latchEdge a pos ago).ax a).ref = some { r with latch := some pos } := by
  unfold Dev.latchEdge
  extract_lets b t net d1 d2 tet d3
  obtain ⟨hf, hl, hv, hx⟩ := d.latchRegs_spec ha pos t b (e := d2) rfl
  clear_value d2
  have hregs : d3.regs = d2.regs := by
    unfold d3
    split
    · rfl
    · rfl
  have hax : d3.ax a = d.ax a := by
    have h : d3.axes = d2.axes := by
      unfold d3
      split
      · rfl
      · rfl
    rw [Dev.ax, h, hx, Dev.ax]
  clear_value d3
  rw [hax]
  have hfin : ∀ e : Dev, e.regs = d2.regs → e.f (F.AXS_SW_STATUS.HOME_LEVEL a) = d.f (F.AXS_SW_STATUS.HOME_LEVEL a) ∧
      e.f (F.AXS_SW_STATUS.LATCHED a) = 1 ∧ e.r64 (R.AXS_LATCH_LO a) (R.AXS_LATCH_HI a) = unsigned 64 pos := fun e he => by
    have hr : ∀ x, e.reg x = d2.reg x := Dev.reg_regs he
    unfold Dev.r64 Dev.f
    rw [hr, hr, hr]
    exact ⟨hf, hl, hv⟩
  split
  case h_1 r hr =>
    obtain ⟨h1, h2, h3⟩ := hfin (d3.setAx a { d.ax a with ref := some { r with latch := some pos } }) hregs
    refine ⟨h1, h2, h3, fun r' hr' => ?_⟩
    rw [Dev.ax_setAx, if_pos rfl, Option.some.inj (hr'.symm.trans hr)]
  case h_2 hr =>
    obtain ⟨h1, h2, h3⟩ := hfin d3 hregs
    exact ⟨h1, h2, h3, fun r' hr' => absurd (hr'.symm.trans hr) (by simp)⟩

/-! ## Position redefinition -/

theorem Dev.redefine_other (d : Dev) {a : Nat} (ha : a ≠ 0) (delta : Int) {e : Dev} (he : e = d.redefine a delta) :
    e = { d with axes := e.axes, meas := e.meas } ∧
    e.ax a = { d.ax a with x := (d.ax a).x + delta * 2 ^ 32, eofs := (d.ax a).eofs - delta } ∧ e.measured a = d.pos a + delta ∧
    ∀ b, b ≠ a → e.ax b = d.ax b ∧ e.measured b = d.measured b := by
  have heq : e = (d.setAx a { d.ax a with x := (d.ax a).x + delta * 2 ^ 32, eofs := (d.ax a).eofs - delta }).setMeasured a (d.pos a + delta) := by
    rw [he, Dev.redefine]
    exact if_pos ha
  have hax : ∀ b, e.ax b = if b = a then { d.ax a with x := (d.ax a).x + delta * 2 ^ 32, eofs := (d.ax a).eofs - delta } else d.ax b :=
    fun b => (congrArg (·.ax b) heq).trans (d.ax_setAx a b _)
  have hm : ∀ b, e.measured b = if b = a then d.pos a + delta else d.measured b := fun b => by
    rw [heq, Dev.measured_setMeasured]
    rfl
  refine ⟨by rw [heq]; rfl, (hax a).trans (if_pos rfl), (hm a).trans (if_pos rfl), fun b hb => ⟨(hax b).trans (if_neg hb), (hm b).trans (if_neg hb)⟩⟩

/-! ## The statement -/

theorem ssiFrame_differs {s : State} {a : Fin 6} {raw : Word} {bits old : Nat} {diff : Int} (haw : s.dev.alive = true)
    (h3 : s.dev.f (F.ENC_CFG.ENC_TYPE a) = 3) (hb : bits = s.dev.f (F.ENC_CFG.SSI_BITS a))
    (hfit : (bits + 1) * s.dev.f (F.ENC_CFG.SSI_DIV a) + 56 ≤ s.dev.servoPeriod * 4)
    (hg : s.dev.f (F.ENC_CFG.SSI_GRAY a) = 0) (hraw : raw.toNat < 2 ^ bits) (hold : (s.dev.ax a).ssi = some old)
    (hdiff : diff = signed bits (unsigned bits ((raw.toNat : Int) - old))) :
    (diff.natAbs ≤ 2 ^ (bits - 2) → s.Does (.ssiFrame a raw true) (fun e => (e.ax a).ssi = some raw.toNat ∧
      e.measured a = s.dev.measured a + (if s.dev.f (F.ENC_CFG.DIR_INV a) = 1 then -diff else diff))) ∧
    (2 ^ (bits - 2) < diff.natAbs → s.dev.f (F.ENC_STATUS.ENC_FAULT a) = 0 → s.Does (.ssiFrame a raw true) (fun e =>
      e.f (F.ENC_STATUS.ENC_FAULT a) = 1 ∧ e.f (F.ENC_STATUS.CAUSE a) = 4 ∧ e.measured a = s.dev.measured a)) := by
  subst hb
  have hx := Dev.ssiFrame_good (raw := raw.toNat) haw h3 hfit hg hraw
  rw [hold] at hx
  dsimp only at hx
  rw [← hdiff] at hx
  obtain ⟨d1, hd1⟩ : ∃ k, k = s.dev.setAx a { s.dev.ax a with ssi := some raw.toNat } := ⟨_, rfl⟩
  rw [← hd1] at hx
  have hf : ∀ y, d1.f y = s.dev.f y := fun y => by rw [hd1]; rfl
  have hm : d1.measured a = s.dev.measured a := by rw [hd1]; rfl
  have hax : (d1.ax a).ssi = some raw.toNat := by rw [hd1, Dev.ax_setAx, if_pos rfl]
  constructor
  · intro hle
    rw [if_neg (Nat.not_lt.2 hle)] at hx
    obtain ⟨hmove, hothers, heq, hsur⟩ := d1.encMove_spec a diff
    refine State.does (f := (·.ssiFrame a raw.toNat true)) rfl ?_
    rw [hx]
    refine ⟨?_, ?_⟩
    · rw [heq]
      exact hax
    · rw [hmove, hm, hf]
  · intro hlt hf0
    rw [if_pos hlt] at hx
    obtain ⟨hf1, hmoves, hmeas, hcause, hkeep⟩ := d1.encFault_spec a.2 (show 4 < 8 by decide)
    refine State.does (f := (·.ssiFrame a raw.toNat true)) rfl ?_
    rw [hx]
    exact ⟨hf1, (hcause ((hf _).trans hf0)).1, (Dev.measured_meas hmeas a).trans hm⟩

theorem ssiFrame_meets (s : State) (a : Fin 6) :
    (∀ (raw : Word) high, s.dev.f (F.ENC_CFG.ENC_TYPE a) ≠ 3 → s.Ignores (.ssiFrame a raw high)) ∧
    (∀ (raw : Word) bits, s.dev.alive = true → s.dev.f (F.ENC_CFG.ENC_TYPE a) = 3 → bits = s.dev.f (F.ENC_CFG.SSI_BITS a) →
      (bits + 1) * s.dev.f (F.ENC_CFG.SSI_DIV a) + 56 ≤ s.dev.servoPeriod * 4 →
      (s.dev.f (F.ENC_STATUS.ENC_FAULT a) = 0 → s.Does (.ssiFrame a raw false) (fun e => e.f (F.ENC_STATUS.ENC_FAULT a) = 1 ∧
        e.f (F.ENC_STATUS.CAUSE a) = 3 ∧ e.f (F.AXS_REF_STATUS.REFERENCED a) = 0)) ∧
      (s.dev.f (F.ENC_CFG.SSI_GRAY a) = 0 → raw.toNat < 2 ^ bits →
        ((s.dev.ax a).ssi = none → s.Does (.ssiFrame a raw true) (fun e => e = s.dev.setAx a { s.dev.ax a with ssi := some raw.toNat })) ∧
        (∀ old diff, (s.dev.ax a).ssi = some old → diff = signed bits (unsigned bits ((raw.toNat : Int) - old)) →
          (diff.natAbs ≤ 2 ^ (bits - 2) → s.Does (.ssiFrame a raw true) (fun e => (e.ax a).ssi = some raw.toNat ∧
            e.measured a = s.dev.measured a + (if s.dev.f (F.ENC_CFG.DIR_INV a) = 1 then -diff else diff))) ∧
          (2 ^ (bits - 2) < diff.natAbs → s.dev.f (F.ENC_STATUS.ENC_FAULT a) = 0 → s.Does (.ssiFrame a raw true) (fun e =>
            e.f (F.ENC_STATUS.ENC_FAULT a) = 1 ∧ e.f (F.ENC_STATUS.CAUSE a) = 4 ∧ e.measured a = s.dev.measured a))))) := by
  refine ⟨fun raw high h => State.ignores (f := (·.ssiFrame a raw.toNat high)) rfl ?_, fun raw bits haw h3 hb hfit => ⟨fun hf0 => ?_, fun hg hraw => ⟨fun hnone => ?_, ?_⟩⟩⟩
  · unfold Dev.ssiFrame
    exact if_pos (by simp [h])
  · subst hb
    refine State.does (f := (·.ssiFrame a raw.toNat false)) rfl ?_
    rw [Dev.ssiFrame_fault haw h3 hfit rfl rfl]
    obtain ⟨hf1, hmoves, hmeas, hcause, hkeep⟩ := s.dev.encFault_spec a.2 (show 3 < 8 by decide)
    exact ⟨hf1, hcause hf0⟩
  · subst hb
    refine State.does (f := (·.ssiFrame a raw.toNat true)) rfl ?_
    rw [Dev.ssiFrame_good haw h3 hfit hg hraw, hnone]
  · intro old diff hold hdiff
    exact ssiFrame_differs haw h3 hb hfit hg hraw hold hdiff

/-- The level of `HOME` that an edge leaves. -/
theorem Dev.homeLevel_setB (d : Dev) (a : Nat) (act : Bool) :
    (d.setB (F.AXS_SW_STATUS.HOME_LEVEL a) act).f (F.AXS_SW_STATUS.HOME_LEVEL a) = b2n act := by
  refine (Dev.f_same _ _ _ _ _ (by decide) (by decide)).trans ?_
  cases act
  · rfl
  · rfl

theorem Dev.on_homeLevel (d : Dev) (a : Nat) (act : Bool) :
    d.on (F.AXS_SW_STATUS.HOME_LEVEL a) = act ↔ d.f (F.AXS_SW_STATUS.HOME_LEVEL a) = b2n act := by
  have h := Dev.on_bit (d := d) (x := F.AXS_SW_STATUS.HOME_LEVEL a) rfl
  have hlt : d.f (F.AXS_SW_STATUS.HOME_LEVEL a) < 2 := bitsOf_lt _ 31 31
  cases act
  case true => exact h
  case false =>
    rw [← Bool.not_eq_true, h]
    unfold b2n
    simp
    omega

theorem switchEdge_meets (s : State) (a : Fin 6) (act : Bool) (pos : Int) (haw : s.dev.alive = true) :
    (s.dev.f (F.AXS_SW_STATUS.HOME_LEVEL a) = b2n act → s.Ignores (.switchEdge a false act pos)) ∧
    (s.dev.f (F.AXS_SW_STATUS.HOME_LEVEL a) ≠ b2n act →
      (s.dev.f (F.AXS_SW_CFG.LATCH_SRC a) = 1 → s.Does (.switchEdge a false act pos) (fun e =>
        e.f (F.AXS_SW_STATUS.HOME_LEVEL a) = b2n act ∧ s.dev.Only e [F.AXS_SW_STATUS.HOME_LEVEL a])) ∧
      (s.dev.f (F.AXS_SW_CFG.LATCH_SRC a) = 0 → s.dev.f (F.AXS_SW_CFG.HOME_EDGE a) = 1 - b2n act ∨ s.dev.f (F.AXS_SW_CFG.HOME_EDGE a) = 2 →
        s.Does (.switchEdge a false act pos) (fun e => e.f (F.AXS_SW_STATUS.HOME_LEVEL a) = b2n act ∧
          e.f (F.AXS_SW_STATUS.LATCHED a) = 1 ∧ e.r64 (R.AXS_LATCH_LO a) (R.AXS_LATCH_HI a) = unsigned 64 pos ∧
          (∀ r, (s.dev.ax a).ref = some r → (e.ax a).ref = some { r with latch := some pos })))) := by
  have hcfg : R.AXS_SW_CFG a ≠ R.AXS_SW_STATUS a := by
    unfold R.AXS_SW_CFG R.AXS_SW_STATUS
    omega
  constructor
  · intro h
    refine State.ignores (f := (·.switchEdge a false act pos)) rfl ?_
    unfold Dev.switchEdge
    rw [if_neg (by simp [haw]), if_neg (by decide)]
    exact if_pos ((s.dev.on_homeLevel a act).2 h)
  · intro h
    obtain ⟨d1, hd1⟩ : ∃ k, k = s.dev.setB (F.AXS_SW_STATUS.HOME_LEVEL a) act := ⟨_, rfl⟩
    have hlev : d1.f (F.AXS_SW_STATUS.HOME_LEVEL a) = b2n act := hd1 ▸ s.dev.homeLevel_setB a act
    have hout : ∀ hi lo, d1.f ⟨R.AXS_SW_CFG a, hi, lo⟩ = s.dev.f ⟨R.AXS_SW_CFG a, hi, lo⟩ := fun hi lo => by
      rw [hd1, Dev.setB]
      exact Dev.f_setF_ne _ _ _ _ hcfg
    have hsplit : s.dev.switchEdge a false act pos = if ((decide (s.dev.f (F.AXS_SW_CFG.HOME_EDGE a) = 2) ||
        (decide (s.dev.f (F.AXS_SW_CFG.HOME_EDGE a) = 0) && act) || (decide (s.dev.f (F.AXS_SW_CFG.HOME_EDGE a) = 1) && !act)) &&
        !d1.on (F.AXS_SW_CFG.LATCH_SRC a)) = true then d1.latchEdge a pos (d1.f (F.AXS_SW_CFG.SW_FILT a)) else d1 := by
      unfold Dev.switchEdge
      rw [if_neg (by simp [haw]), if_neg (by decide), if_neg (fun h' => h ((s.dev.on_homeLevel a act).1 h')), ← hd1]
      dsimp only
      rw [hout]
    refine ⟨fun hsrc => ?_, fun hsrc hedge => ?_⟩
    · refine State.does (f := (·.switchEdge a false act pos)) rfl ?_
      rw [hsplit, Dev.on_one ((hout _ _).trans hsrc), if_neg (by simp)]
      refine ⟨hlev, hd1 ▸ (Dev.Only.refl s.dev [F.AXS_SW_STATUS.HOME_LEVEL a]).setB (F.AXS_SW_STATUS.HOME_LEVEL a) act ?_⟩
      exact ⟨Nat.le_of_ble_eq_true rfl, Nat.le_of_ble_eq_true rfl, F.AXS_SW_STATUS.HOME_LEVEL a, by simp, rfl, le_refl _, le_refl _⟩
    · refine State.does (f := (·.switchEdge a false act pos)) rfl ?_
      have hsel : (decide (s.dev.f (F.AXS_SW_CFG.HOME_EDGE a) = 2) || (decide (s.dev.f (F.AXS_SW_CFG.HOME_EDGE a) = 0) && act) ||
          (decide (s.dev.f (F.AXS_SW_CFG.HOME_EDGE a) = 1) && !act)) = true := by
        rcases hedge with hedge | hedge
        · rw [hedge]
          cases act
          · rfl
          · rfl
        · rw [hedge]
          rfl
      rw [hsplit, Dev.on_zero ((hout _ _).trans hsrc), if_pos (by simp [hsel])]
      obtain ⟨h1, h2, h3, h4⟩ := d1.latchEdge_spec a.2 pos (d1.f (F.AXS_SW_CFG.SW_FILT a))
      refine ⟨h1.trans hlev, h2, h3, fun r hr => h4 r ?_⟩
      have hx : d1.axes = s.dev.axes := hd1 ▸ Dev.setF_axes s.dev _ _
      exact (congrArg (fun x => (spGet axisInit x a).ref) hx).trans hr

theorem posGo_meets (s : State) (a : Fin 6) (haw : s.dev.awake = true) (busy : Bool)
    (hbusy : busy = (!s.dev.stands a || (s.dev.moveOf a).isSome || (s.dev.ax a).ref.isSome)) :
    (busy = true → s.Does (.posGo a) (fun e => e.f (F.AXS_STATUS.POS_REFUSED a) = 1 ∧
      s.dev.Only e [F.AXS_STATUS.POS_REFUSED a, intBit (intBitOf (R.AXS_STATUS a))])) ∧
    (busy = false → a.val ≠ 0 → ∀ delta, delta = s.dev.r64i (R.AXS_POS_SET_LO a) (R.AXS_POS_SET_HI a) - countOf (s.dev.ax a).x →
      s.Does (.posGo a) (fun e => e = { s.dev with axes := e.axes, meas := e.meas } ∧
        e.ax a = { s.dev.ax a with x := (s.dev.ax a).x + delta * 2 ^ 32, eofs := (s.dev.ax a).eofs - delta } ∧
        e.measured a = s.dev.pos a + delta ∧ ∀ b, b ≠ a.val → e.ax b = s.dev.ax b ∧ e.measured b = s.dev.measured b)) := by
  have hint : R.AXS_STATUS a ≠ R.TOP_INT_STATUS := by
    unfold R.AXS_STATUS R.TOP_INT_STATUS
    omega
  constructor
  · intro h
    refine State.does (f := fun d => if d.awake then d.posGo a else d) rfl ?_
    rw [if_pos haw, Dev.posGo, if_pos (hbusy.symm.trans h)]
    refine ⟨Dev.f_flag_same _ _ _ (by decide) hint, ?_⟩
    exact (Dev.Only.refl _ _).flag _ ⟨Nat.le_of_ble_eq_true rfl, Nat.le_of_ble_eq_true rfl, _, by simp, rfl, le_refl _, le_refl _⟩
      ⟨Nat.le_succ _, intBitOf_lt _, intBit (intBitOf (R.AXS_STATUS a)), by simp, rfl, le_refl _, le_refl _⟩
  · intro h ha delta hdelta
    refine State.does (f := fun d => if d.awake then d.posGo a else d) rfl ?_
    rw [if_pos haw, Dev.posGo, if_neg (by rw [← hbusy, h]; decide), ← hdelta]
    exact s.dev.redefine_other ha delta rfl

/-- Settles O44. -/
theorem encodersAndLatches : Obligations.EncodersAndLatches := by
  intro s a
  obtain ⟨hssi, hframe⟩ := ssiFrame_meets s a
  refine ⟨fun n => ⟨fun h => ?_, fun haw ht => ?_⟩, hssi, hframe, fun c => ⟨fun h => ?_, fun haw h => ?_⟩, fun haw => ?_,
    fun act pos haw => switchEdge_meets s a act pos haw, fun haw busy hbusy => posGo_meets s a haw busy hbusy⟩
  · refine State.ignores (f := (·.encoderCount a n)) rfl ?_
    unfold Dev.encoderCount
    exact if_pos (by rcases h with h | ⟨h1, h2⟩ <;> simp [*])
  · refine State.does (f := (·.encoderCount a n)) rfl ?_
    unfold Dev.encoderCount
    rw [if_neg (by rw [haw, decide_eq_true ht]; decide)]
    exact s.dev.encMove_spec a n
  · exact State.ignores (f := fun d => if d.alive && d.encFaultFits a c then d.encFault a c else d) rfl (if_neg (by simp [h]))
  · refine State.does (f := fun d => if d.alive && d.encFaultFits a c then d.encFault a c else d) rfl ?_
    rw [if_pos (by simp [haw, h])]
    obtain ⟨hf1, hmoves, hmeas, hcause, hkeep⟩ := s.dev.encFault_spec a.2 c.2
    exact ⟨hf1, hmoves, hcause, hkeep⟩
  · refine State.does (f := fun d => if d.awake then (d.setF (F.ENC_STATUS.ENC_FAULT a) 0).setF (F.ENC_STATUS.CAUSE a) 0 else d) rfl ?_
    rw [if_pos haw]
    refine ⟨?_, (Dev.f_same _ _ _ _ _ (by decide) (by decide)).trans (Nat.zero_mod _), ?_⟩
    · exact (Dev.f_apart _ _ _ _ _ _ _ (by decide) (by decide) (by decide)).trans
        ((Dev.f_same _ _ _ _ _ (by decide) (by decide)).trans (Nat.zero_mod _))
    · exact ((Dev.Only.refl _ _).setF _ _ ⟨Nat.le_of_ble_eq_true rfl, Nat.le_of_ble_eq_true rfl, F.ENC_STATUS.ENC_FAULT a, by simp, rfl, le_refl _, le_refl _⟩).setF _ _
        ⟨Nat.le_of_ble_eq_true rfl, Nat.le_of_ble_eq_true rfl, F.ENC_STATUS.CAUSE a, by simp, rfl, le_refl _, le_refl _⟩

end Sys2Proof.Machine
end

section
/-! SUPPORT. The links of the ring, SYNC and the station's timeouts (R34, R432, R434 to R437, R439). -/

namespace Sys2Proof.Machine

/-! ## Ports -/

theorem Dev.port_setPort (d : Dev) {p q : Nat} (x : Port) (hp : p < d.tet.ports.length) : (d.setPort p x).port q = if q = p then x else d.port q := by
  unfold Dev.port Dev.setPort
  dsimp only
  rw [List.getD_eq_getElem?_getD, List.getD_eq_getElem?_getD, List.getElem?_set]
  by_cases h : q = p
  · rw [if_pos h.symm, if_pos h, if_pos hp]
    rfl
  · rw [if_neg (fun h' => h h'.symm), if_neg h]

theorem Dev.linkUp_meets {s : State} {p : Nat} (hp : p < 2) (hlen : s.dev.tet.ports.length = 2) (haw : s.dev.alive = true)
    (hen : s.dev.f F.TET_CFG.EN = 1) {e : Dev} (he : e = s.dev.linkUp p) :
    e.port p = { s.dev.port p with locked := true } ∧ e.port (1 - p) = s.dev.port (1 - p) ∧
    e = { s.dev with tet := { s.dev.tet with ports := e.tet.ports } } := by
  have he' : e = s.dev.setPort p { s.dev.port p with locked := true } := by
    rw [he]
    exact if_neg (by simp [haw, Dev.on_one hen])
  rw [he', Dev.port_setPort _ _ (hlen ▸ hp), Dev.port_setPort _ _ (hlen ▸ hp), if_pos rfl, if_neg (by omega)]
  exact ⟨rfl, rfl, rfl⟩

/-- A delay measurement on a locked link (R434). -/
theorem Dev.pdReq_spec {d : Dev} {p : Nat} (hp : p < 2) (hlen : d.tet.ports.length = 2) (haw : d.alive = true)
    (hen : d.f F.TET_CFG.EN = 1) (hl : (d.port p).locked = true) {e : Dev} (he : e = d.pdReq p) :
    e.port p = { d.port p with t1 := some (d.baseVal 0) } ∧ e.port (1 - p) = d.port (1 - p) ∧
    e = { d with
      tet := { d.tet with
        ports := e.tet.ports
        seqs := d.tet.seqs.set 2 ((d.tet.seqs.getD 2 0 + 1) % 65536) }
      out := d.out ++ [.frame p (d.makeFrame 3 0 0 (d.tet.seqs.getD 2 0) [])] } := by
  obtain ⟨d1, hd1⟩ : ∃ k : Dev, k = { d with tet := { d.tet with seqs := d.tet.seqs.set 2 ((d.tet.seqs.getD 2 0 + 1) % 65536) } } := ⟨_, rfl⟩
  have hport : ∀ q, d1.port q = d.port q := fun q => by rw [hd1]; rfl
  have hlen1 : p < d1.tet.ports.length := by
    rw [hd1]
    exact hlen ▸ hp
  have he' : e = (d1.setPort p { d1.port p with t1 := some (d1.baseVal 0) }).sendLink p 3 (d.tet.seqs.getD 2 0) [] := by
    rw [he, Dev.pdReq, if_neg (by simp [haw, Dev.on_one hen, hl]), hd1]
    rfl
  have hp1 : ∀ q, e.port q = (d1.setPort p { d1.port p with t1 := some (d1.baseVal 0) }).port q := fun q => by
    rw [he']
    rfl
  have hbase : d1.baseVal 0 = d.baseVal 0 := by rw [hd1]; rfl
  refine ⟨?_, ?_, ?_⟩
  · rw [hp1, Dev.port_setPort _ _ hlen1, if_pos rfl, hport, hbase]
  · rw [hp1, Dev.port_setPort _ _ hlen1, if_neg (by omega), hport]
  · rw [he', hd1]
    rfl

theorem R.tetPort_ne (p : Nat) : R.TET_PORT p ≠ R.TET_STATUS ∧ R.TET_PORT p ≠ R.TOP_INT_STATUS := by
  unfold R.TET_PORT R.TET_STATUS R.TOP_INT_STATUS
  omega

/-- The flags of a ring that wraps (R432). -/
def Dev.wrapped (d : Dev) : Dev := (d.setF F.TET_STATUS.WRAPPED 1).flag F.TET_STATUS.REROUTED

theorem Dev.wrapped_spec (d : Dev) : d.wrapped.f F.TET_STATUS.WRAPPED = 1 ∧ d.wrapped.f F.TET_STATUS.REROUTED = 1 ∧
    (∀ p, d.wrapped.f (F.TET_PORT.UP p) = d.f (F.TET_PORT.UP p)) ∧ d.wrapped.tet = d.tet ∧
    d.Only d.wrapped [F.TET_STATUS.WRAPPED, F.TET_STATUS.REROUTED, intBit 14] := by
  unfold Dev.wrapped
  refine ⟨?_, Dev.f_flag_same _ _ _ (by decide) (by decide), fun p => ?_, ?_, ?_⟩
  · rw [Dev.f_flag_apart _ _ _ (by decide) (by decide) (by decide) (by decide) (by decide)]
    exact Dev.f_same _ _ _ _ _ (by decide) (by decide)
  · rw [Dev.f_flag_other _ _ _ _ _ (R.tetPort_ne p).2 (R.tetPort_ne p).1]
    exact Dev.f_setF_ne _ _ _ _ (R.tetPort_ne p).1
  · rw [Dev.flag_tet, Dev.setF_tet]
  · exact ((Dev.Only.refl d _).setF F.TET_STATUS.WRAPPED 1 (by simp [Fld.within])).flag F.TET_STATUS.REROUTED (by simp [Fld.within])
      ⟨by decide, by decide, intBit 14, by simp, rfl, by decide, by decide⟩

/-- A link that is lost (R432). -/
theorem Dev.linkDown_spec {d : Dev} {p : Nat} (hp : p < 2) (hlen : d.tet.ports.length = 2) (hl : (d.port p).locked = true)
    {e : Dev} (he : e = d.linkDown p) :
    e.port p = portInit ∧ e.port (1 - p) = d.port (1 - p) ∧ e.f (F.TET_PORT.UP p) = 0 ∧
    ((d.port p).carries = true → e.f F.TET_STATUS.WRAPPED = 1 ∧ e.f F.TET_STATUS.REROUTED = 1) ∧
    { d with tet := { d.tet with ports := e.tet.ports } }.Only e (F.TET_PORT.UP p ::
      if (d.port p).carries then [F.TET_STATUS.WRAPPED, F.TET_STATUS.REROUTED, intBit 14] else []) := by
  obtain ⟨d1, hd1⟩ : ∃ k, k = d.setPort p portInit := ⟨_, rfl⟩
  obtain ⟨d2, hd2⟩ : ∃ k, k = d1.setF (F.TET_PORT.UP p) 0 := ⟨_, rfl⟩
  have hport : ∀ q, d1.port q = if q = p then portInit else d.port q := fun q => hd1 ▸ Dev.port_setPort _ _ (hlen ▸ hp)
  have hup : d2.f (F.TET_PORT.UP p) = 0 := by
    rw [hd2]
    exact (Dev.f_same _ _ _ _ _ (by decide) (by decide)).trans (Nat.zero_mod _)
  have htet2 : d2.tet = d1.tet := hd2 ▸ Dev.setF_tet _ _ _
  have he' : e = if (d.port p).carries then d2.wrapped else d2 := by
    rw [he, hd2, hd1, Dev.linkDown, if_neg (by simp [hl])]
    rfl
  have htet : e.tet = d1.tet := by
    rw [he']
    split
    · rw [d2.wrapped_spec.2.2.2.1, htet2]
    · exact htet2
  have hbase : ({ d with tet := { d.tet with ports := e.tet.ports } } : Dev) = d1 := by
    rw [htet, hd1]
    rfl
  have ho2 : d1.Only d2 [F.TET_PORT.UP p] := hd2 ▸ (Dev.Only.refl _ _).setF (F.TET_PORT.UP p) 0
    ⟨Nat.le_of_ble_eq_true rfl, Nat.le_of_ble_eq_true rfl, F.TET_PORT.UP p, by simp, rfl, le_refl _, le_refl _⟩
  have hports : ∀ q, e.port q = d1.port q := fun q => congrArg (fun t : Tether => t.ports.getD q portInit) htet
  rw [hbase, hports, hports, hport, hport, if_pos rfl, if_neg (by omega)]
  refine ⟨rfl, rfl, ?_, fun hc => ?_, ?_⟩
  · rw [he']
    split
    · rw [d2.wrapped_spec.2.2.1, hup]
    · exact hup
  · rw [he', if_pos hc]
    exact ⟨d2.wrapped_spec.1, d2.wrapped_spec.2.1⟩
  · rw [he']
    split
    · exact (ho2.mono (by simp)).trans (d2.wrapped_spec.2.2.2.2.mono (by simp))
    · exact ho2

theorem links_meet (s : State) (west : Bool) (hlen : s.dev.tet.ports.length = 2) :
    (s.dev.alive = false ∨ s.dev.f F.TET_CFG.EN = 0 → s.Ignores (.tetherLinkUp west) ∧ s.Ignores (.pdReq west)) ∧
    ((s.dev.port (b2n west)).locked = false → s.Ignores (.pdReq west)) ∧
    ((s.dev.port (b2n west)).locked = false → s.Ignores (.tetherLinkDown west)) := by
  refine ⟨fun h => ⟨State.ignores (f := (·.linkUp (b2n west))) rfl (if_pos ?_), State.ignores (f := (·.pdReq (b2n west))) rfl (if_pos ?_)⟩,
    fun h => State.ignores (f := (·.pdReq (b2n west))) rfl (if_pos (by simp [h])),
    fun h => State.ignores (f := (·.linkDown (b2n west))) rfl (if_pos (by simp [h]))⟩
  · rcases h with h | h
    · simp [h]
    · simp [Dev.on_zero h]
  · rcases h with h | h
    · simp [h]
    · simp [Dev.on_zero h]

/-! ## SYNC -/

theorem bitOf_18_frame (typ node dst : Nat) : bitOf (typ * 2 ^ 28 + node * 2 ^ 24 + dst * 2 ^ 20 + 0 * 2 ^ 19 + 0) 18 = false := by
  unfold bitOf
  rw [decide_eq_false_iff_not]
  omega

/-- A frame of the node's own travels east, or wraps to the west where the east link does not carry. -/
theorem Dev.sendVia_east (d : Dev) {ws : List Nat} (h : bitOf (ws.headD 0) 18 = false) : d.sendVia 0 ws = { d with out := d.out ++
    if (d.port 0).carries then [.frame 0 ws] else if (d.port 1).carries then [.frame 1 (wrapFrame ws)] else [] } := by
  unfold Dev.sendVia
  rw [h, Nat.sub_zero, if_neg (show ¬false = true by decide)]
  split
  · rfl
  · split
    · rfl
    · rw [List.append_nil]

theorem headD_sealFrame (w : Nat) (ws : List Nat) : (sealFrame (w :: ws)).headD 0 = w := rfl

theorem Dev.headD_makeFrame (d : Dev) {typ : Nat} (h : typ ≤ 4) (dst seq : Nat) (payload : List Nat) :
    bitOf ((d.makeFrame typ dst 0 seq payload).headD 0) 18 = false := by
  have h0 : (if typ = 5 ∨ typ = 6 then d.f F.TET_CFG.STATION else 0) = 0 := if_neg (by omega)
  unfold Dev.makeFrame
  rw [h0]
  show bitOf ((sealFrame ((typ * 2 ^ 28 + d.f F.TET_CFG.NODE * 2 ^ 24 + dst * 2 ^ 20 + 0 * 2 ^ 19 + 0) ::
    ([seq * 2 ^ 16] ++ payload ++ List.replicate (13 - payload.length) 0))).headD 0) 18 = false
  rw [headD_sealFrame]
  exact bitOf_18_frame _ _ _

/-- A frame is made from the registers alone. -/
theorem Dev.makeFrame_regs {d e : Dev} (h : e.regs = d.regs) (typ dst sub seq : Nat) (payload : List Nat) :
    e.makeFrame typ dst sub seq payload = d.makeFrame typ dst sub seq payload := by
  unfold Dev.makeFrame Dev.f Dev.reg
  rw [h]

theorem sync_meets {d : Dev} (haw : d.alive = true) (hen : d.f F.TET_CFG.EN = 1) (hm : d.f F.TET_STATUS.TIMING_MASTER = 1)
    {seq id t : Nat} {sync follow : List Nat} (hseq : seq = d.tet.seqs.getD 0 0) (hid : id = d.r64 R.TOP_DSN_LO R.TOP_DSN_HI) (ht : t = d.baseVal 1)
    (hsync : sync = d.makeFrame 1 0 0 seq [id % 2 ^ 32, id / 2 ^ 32 % 2 ^ 32, d.f F.TET_CFG.PRIORITY * 2 ^ 24])
    (hfollow : follow = d.makeFrame 2 0 0 seq [t % 2 ^ 32, t / 2 ^ 32 % 2 ^ 32]) {e : Dev} (he : e = d.sendSync) :
    e = { d with tet := e.tet, out := e.out } ∧
    e.tet.seqs = (d.tet.seqs.set 0 ((seq + 1) % 65536)).set 1 ((seq + 1) % 65536) ∧ e.tet.ports = d.tet.ports ∧
    ((d.port 0).carries = true → e.out = d.out ++ [.frame 0 sync, .frame 0 follow]) ∧
    ((d.port 0).carries = false → (d.port 1).carries = true → e.out = d.out ++ [.frame 1 (wrapFrame sync), .frame 1 (wrapFrame follow)]) ∧
    ((d.port 0).carries = false → (d.port 1).carries = false → e.out = d.out) := by
  obtain ⟨d1, hd1⟩ : ∃ k : Dev, k = { d with tet := { d.tet with
      seqs := (d.tet.seqs.set 0 ((seq + 1) % 65536)).set 1 ((seq + 1) % 65536)
      sent := (([⟨d.f F.TET_CFG.NODE, 1, seq⟩, ⟨d.f F.TET_CFG.NODE, 2, seq⟩] : List Seen) ++ d.tet.sent).take 64 } } := ⟨_, rfl⟩
  have hb : bitOf (sync.headD 0) 18 = false := hsync ▸ d.headD_makeFrame (by decide) _ _ _
  have hb' : bitOf (follow.headD 0) 18 = false := hfollow ▸ d.headD_makeFrame (by decide) _ _ _
  have hport : ∀ q, d1.port q = d.port q := fun q => by rw [hd1]; rfl
  have hout : d1.out = d.out := by rw [hd1]
  have hseqs : d1.tet.seqs = (d.tet.seqs.set 0 ((seq + 1) % 65536)).set 1 ((seq + 1) % 65536) ∧ d1.tet.ports = d.tet.ports := by rw [hd1]; exact ⟨rfl, rfl⟩
  have hregs : d1.regs = d.regs := by rw [hd1]
  have hid1 : d1.identity = id := by
    rw [hd1, hid]
    rfl
  have hpr : d1.priority = d.f F.TET_CFG.PRIORITY := by
    rw [hd1]
    rfl
  have ht1 : d1.baseVal 1 = t := by
    rw [hd1, ht]
    rfl
  obtain ⟨d2, hd2⟩ : ∃ k, k = d1.sendVia 0 sync := ⟨_, rfl⟩
  have hregs2 : d2.regs = d.regs := hd2 ▸ (d1.sendVia_spec 0 sync).1.trans hregs
  have he' : e = d2.sendVia 0 follow := by
    have hs : d1.sendVia 0 (d1.makeFrame 1 0 0 seq [lo32 d1.identity, hi32 d1.identity, d1.priority * 2 ^ 24]) = d2 := by
      rw [Dev.makeFrame_regs hregs, hid1, hpr, hd2, hsync]
      rfl
    have hf : d2.makeFrame 2 0 0 seq [lo32 (d1.baseVal 1), hi32 (d1.baseVal 1)] = follow := by
      rw [Dev.makeFrame_regs hregs2, ht1, hfollow]
      rfl
    rw [he, Dev.sendSync, if_neg (by simp [haw, Dev.on_one hen, Dev.timingMaster, Dev.on_one hm]), ← hf, ← hs, hd1, hseq]
    rfl
  rw [d1.sendVia_east hb] at hd2
  have hport2 : ∀ q, d2.port q = d.port q := fun q => by
    rw [← hport, hd2]
    rfl
  rw [d2.sendVia_east hb', hport2, hport2] at he'
  rw [hport, hport] at hd2
  have hdev : e = { d with tet := e.tet, out := e.out } := by
    rw [he', hd2, hd1]
  have htet : e.tet = d1.tet := by
    rw [he', hd2]
  have heout : e.out = d.out ++ ((if (d.port 0).carries then [.frame 0 sync] else if (d.port 1).carries then [.frame 1 (wrapFrame sync)] else []) ++
      (if (d.port 0).carries then [.frame 0 follow] else if (d.port 1).carries then [.frame 1 (wrapFrame follow)] else [])) := by
    rw [he', hd2, hout, ← List.append_assoc]
  refine ⟨hdev, htet ▸ hseqs.1, htet ▸ hseqs.2, fun h0 => ?_, fun h0 h1 => ?_, fun h0 h1 => ?_⟩
  · rw [heout, h0]
    rfl
  · rw [heout, h0, h1]
    rfl
  · rw [heout, h0, h1]
    exact List.append_nil _

/-! ## The timing master's election -/

theorem election_meets {d : Dev} (haw : d.alive = true) (hen : d.f F.TET_CFG.EN = 1) (hp : 0 < d.f F.TET_CFG.PRIORITY)
    (hm : d.f F.TET_STATUS.TIMING_MASTER = 0) {e : Dev} (he : e = d.electionTimeout) :
    e.f F.TET_STATUS.TIMING_MASTER = 1 ∧ e.f F.TET_STATUS.MASTER_NODE = d.f F.TET_CFG.NODE ∧
    e.f (F.TIM_BASE_CTRL.STATE 1) = (if d.f F.TIM_CFG.NET_SRC = 0 then 2 else d.f (F.TIM_BASE_CTRL.STATE 1)) ∧
    { d with tet := { d.tet with bestPriority := d.f F.TET_CFG.PRIORITY, bestId := d.r64 R.TOP_DSN_LO R.TOP_DSN_HI } }.Only e
      [F.TET_STATUS.TIMING_MASTER, F.TET_STATUS.MASTER_NODE, F.TIM_BASE_CTRL.STATE 1] := by
  obtain ⟨d1, hd1⟩ : ∃ k : Dev, k = { d with tet := { d.tet with bestPriority := d.f F.TET_CFG.PRIORITY, bestId := d.r64 R.TOP_DSN_LO R.TOP_DSN_HI } } := ⟨_, rfl⟩
  have hf : ∀ y, d1.f y = d.f y := fun y => by rw [hd1]; rfl
  obtain ⟨d2, hd2⟩ : ∃ k, k = d1.setB F.TET_STATUS.TIMING_MASTER true := ⟨_, rfl⟩
  obtain ⟨d3, hd3⟩ : ∃ k, k = if d.f F.TIM_CFG.NET_SRC = 0 then d2.setF (F.TIM_BASE_CTRL.STATE 1) 2 else d2 := ⟨_, rfl⟩
  have hfree : d1.netFree = false := by
    unfold Dev.netFree Dev.timingMaster
    rw [Dev.on_zero ((hf _).trans hm)]
    rfl
  have hm2 : d2.f F.TET_STATUS.TIMING_MASTER = 1 := by
    rw [hd2]
    exact Dev.f_same _ _ _ _ _ (by decide) (by decide)
  have hsrc2 : d2.f F.TIM_CFG.NET_SRC = d.f F.TIM_CFG.NET_SRC := by
    rw [hd2, ← hf]
    exact Dev.f_setF_ne _ _ _ _ (by decide)
  have hst2 : d2.f (F.TIM_BASE_CTRL.STATE 1) = d.f (F.TIM_BASE_CTRL.STATE 1) := by
    rw [hd2, ← hf]
    exact Dev.f_setF_ne _ _ _ _ (by decide)
  have hfree2 : d2.netFree = decide (d.f F.TIM_CFG.NET_SRC = 0) := by
    unfold Dev.netFree Dev.timingMaster
    rw [Dev.on_one hm2, hsrc2]
    rfl
  have hrole : d1.setTimingMaster true = d3 := by
    unfold Dev.setTimingMaster
    rw [hfree, ← hd2, hd3]
    unfold Dev.netRole
    rw [hfree2]
    simp
  have he' : e = d3.setF F.TET_STATUS.MASTER_NODE (d.f F.TET_CFG.NODE) := by
    rw [he, Dev.electionTimeout, if_neg (by simp [haw, Dev.on_one hen, Dev.timingMaster, Dev.on_zero hm, Dev.priority, Nat.pos_iff_ne_zero.1 hp]), ← hrole, hd1]
    rfl
  have hm3 : d3.f F.TET_STATUS.TIMING_MASTER = 1 := by
    rw [hd3]
    split
    · exact (Dev.f_setF_ne _ _ _ _ (by decide)).trans hm2
    · exact hm2
  have hnode : d.f F.TET_CFG.NODE < 16 := bitsOf_lt _ 27 24
  have ho2 : d1.Only d2 [F.TET_STATUS.TIMING_MASTER, F.TET_STATUS.MASTER_NODE, F.TIM_BASE_CTRL.STATE 1] :=
    hd2 ▸ (Dev.Only.refl _ _).setB F.TET_STATUS.TIMING_MASTER true (by simp [Fld.within])
  have ho3 : d1.Only d3 [F.TET_STATUS.TIMING_MASTER, F.TET_STATUS.MASTER_NODE, F.TIM_BASE_CTRL.STATE 1] :=
    hd3 ▸ Dev.Only.ite (ho2.setF (F.TIM_BASE_CTRL.STATE 1) 2 (by simp [Fld.within])) ho2
  refine ⟨?_, ?_, ?_, ?_⟩
  · rw [he', ← hm3]
    exact Dev.f_apart _ _ _ _ _ _ _ (by decide) (by decide) (by decide)
  · rw [he']
    exact (Dev.f_same _ _ _ _ _ (by decide) (by decide)).trans (Nat.mod_eq_of_lt hnode)
  · rw [he', Dev.f_setF_ne _ _ _ _ (by decide), hd3]
    split
    · exact Dev.f_same _ _ _ _ _ (by decide) (by decide)
    · exact hst2
  · rw [he', ← hd1]
    exact ho3.setF F.TET_STATUS.MASTER_NODE _ (by simp [Fld.within])

/-! ## The statement -/

/-- Settles O50. -/
theorem tetherLinks : Obligations.TetherLinks := by
  intro s
  refine ⟨fun west p hp hlen => ?_, fun h => ?_, fun haw hen hm seq id t sync follow hseq hid ht hsync hfollow => ?_, fun h => ?_,
    fun haw hen hpr hm => ?_, fun h => ?_, fun haw hin hfm => ?_, fun h => ?_, fun haw hin hfm => ?_⟩
  · have hp' : p = b2n west := hp
    have hp2 : p < 2 := by
      rw [hp]
      split
      · decide
      · decide
    obtain ⟨hoff, hreq, hdown⟩ := links_meet s west hlen
    rw [← hp'] at hreq hdown
    refine ⟨hoff, fun haw hen => ⟨?_, hreq, fun hl seq hseq => ?_⟩, hdown, fun hl => ?_⟩
    · exact State.does (f := (·.linkUp (b2n west))) rfl (Dev.linkUp_meets hp2 hlen haw hen (by rw [hp']))
    · rw [hseq]
      exact State.does (f := (·.pdReq (b2n west))) rfl (Dev.pdReq_spec hp2 hlen haw hen hl (by rw [hp']))
    · exact State.does (f := (·.linkDown (b2n west))) rfl (Dev.linkDown_spec hp2 hlen hl (by rw [hp']))
  · refine State.ignores (f := (·.sendSync)) rfl (if_pos ?_)
    rcases h with h | h | h
    · simp [h]
    · simp [Dev.on_zero h]
    · simp [Dev.timingMaster, Dev.on_zero h]
  · exact State.does (f := (·.sendSync)) rfl (sync_meets haw hen hm hseq hid ht hsync hfollow rfl)
  · refine State.ignores (f := (·.electionTimeout)) rfl (if_pos ?_)
    rcases h with h | h | h | h
    · simp [h]
    · simp [Dev.on_zero h]
    · simp [Dev.priority, h]
    · simp [Dev.timingMaster, Dev.on_one h]
  · exact State.does (f := (·.electionTimeout)) rfl (election_meets haw hen hpr hm rfl)
  · refine State.ignores (f := (·.govTimeout)) rfl (if_pos ?_)
    rcases h with h | h | h
    · simp [h]
    · simp [h]
    · simp [Dev.on_zero h]
  · refine State.does (f := (·.govTimeout)) rfl ?_
    rw [Dev.govTimeout, if_neg (by simp [haw, hin, Dev.on_one hfm])]
    exact ⟨Dev.f_flag_same _ _ _ (by decide) (by decide), (Dev.Only.refl _ _).flag F.TET_STATUS.GOV_LOST (by simp [Fld.within])
      ⟨by decide, by decide, intBit 14, by simp, rfl, by decide, by decide⟩⟩
  · refine State.ignores (f := (·.stationMasterLost)) rfl (if_pos ?_)
    rcases h with h | h | h
    · simp [h]
    · simp [Dev.follower, Dev.feedMaster, h]
    · simp [Dev.follower, Dev.feedMaster, Dev.on_one h]
  · refine State.does (f := (·.stationMasterLost)) rfl ?_
    rw [Dev.stationMasterLost, if_neg (by simp [haw, hin, Dev.follower, Dev.feedMaster, Dev.on_zero hfm])]
    exact ⟨Dev.f_flag_same _ _ _ (by decide) (by decide), (Dev.Only.refl _ _).flag F.TET_STATUS.STATION_MASTER_LOST (by simp [Fld.within])
      ⟨by decide, by decide, intBit 14, by simp, rfl, by decide, by decide⟩⟩

end Sys2Proof.Machine
end

section
/-! SUPPORT. MOVE, MOVE_COORD, HOLD and RESUME (R293, R294, R298, R356, R359, R361, R385). -/

namespace Sys2Proof.Machine

/-! ## Axes that no move and no procedure holds -/

theorem Dev.refFail_free {d : Dev} {a : Nat} (h : (d.ax a).ref = none) (code : Nat) : d.refFail a code = d := by
  unfold Dev.refFail
  rw [h]

theorem Dev.refFails_free {d : Dev} {l : List Nat} (h : ∀ a ∈ l, (d.ax a).ref = none) (code : Nat) : l.foldl (fun d a => d.refFail a code) d = d := by
  induction l with
  | nil => rfl
  | cons a t ih =>
    rw [List.forall_mem_cons] at h
    rw [List.foldl_cons, Dev.refFail_free h.1, ih h.2]

theorem Dev.refFails_moves (l : List Nat) (d : Dev) (code : Nat) : (l.foldl (fun d a => d.refFail a code) d).moves = d.moves := by
  induction l generalizing d with
  | nil => rfl
  | cons a t ih => rw [List.foldl_cons, ih, (d.refFail_spec a code).2.1]

theorem Dev.not_has_of_free {d : Dev} {l : List Nat} (h : ∀ a ∈ l, d.moveOf a = none) : ∀ m ∈ d.moves, l.any m.has = false := by
  intro m hm
  rw [List.any_eq_false]
  intro a ha
  exact List.find?_eq_none.mp (h a ha) m hm

theorem Dev.claims_of_free {d : Dev} {l : List Nat} (h : ∀ a ∈ l, d.moveOf a = none) : d.claims l = [] := by
  unfold Dev.claims
  rw [List.filter_eq_nil_iff]
  intro m hm
  rw [Dev.not_has_of_free h m hm]
  decide

theorem mkMove_axes (id : Nat) (owner : MoveOwner) (coord : Bool) (set : Nat) (rev rel : Bool) (adv : Option Nat) (targets : List (Nat × Int)) :
    (mkMove id owner coord set rev rel adv targets).axes.map (fun e => e.axis) = targets.map (fun t => t.1) := by
  unfold mkMove
  rw [List.map_map]
  rfl

/-- A command's move on free axes waits for the next servo period, and nothing else changes. -/
theorem Dev.acceptMove_free {d : Dev} {m : Move} {run : Nat} (ho : m.owner = .cmd run) (hr : ∀ a ∈ m.axes.map (fun e => e.axis), (d.ax a).ref = none)
    (hm : ∀ a ∈ m.axes.map (fun e => e.axis), d.moveOf a = none) : d.acceptMove m = { d with moves := d.moves ++ [m] } := by
  unfold Dev.acceptMove
  rw [ho]
  dsimp only
  rw [Dev.refFails_free hr, Dev.claims_of_free hm]
  rfl

/-! ## A move accepted -/

theorem Dev.axesRefused_none {d : Dev} {l : List Nat} (h0 : 0 ∈ l → d.follower = false ∧ d.tet.conflict = false)
    (h : ∀ a ∈ l, d.f (F.CHP_STATUS.OVERCURRENT a) = 0 ∧ d.f (F.ENC_STATUS.ENC_FAULT a) = 0) : d.axesRefused l = none := by
  have hany : l.any (fun a => d.on (F.CHP_STATUS.OVERCURRENT a) || d.on (F.ENC_STATUS.ENC_FAULT a)) = false := by
    rw [List.any_eq_false]
    intro a ha
    rw [Dev.on_zero (h a ha).1, Dev.on_zero (h a ha).2]
    decide
  unfold Dev.axesRefused
  rw [hany]
  by_cases hl : 0 ∈ l
  · rw [(h0 hl).1, (h0 hl).2]
    simp
  · have : l.contains 0 = false := by simpa using hl
    rw [this]
    rfl

theorem Dev.moveCmd_none {d : Dev} {targets : List (Nat × Int)} (h : d.axesRefused (targets.map (fun t => t.1)) = none) (src : Src) (coord : Bool)
    (set : Nat) (rev rel : Bool) : d.moveCmd src coord set rev rel targets =
      ({ d.startRun src .move with nextMove := d.nextMove + 1 } : Dev).acceptMove (mkMove d.nextMove (.cmd d.nextRun) coord set rev rel none targets) := by
  unfold Dev.moveCmd
  dsimp only
  rw [h]
  rfl

theorem Dev.moveCmd_free {d : Dev} {targets : List (Nat × Int)} (h : d.axesRefused (targets.map (fun t => t.1)) = none)
    (hr : ∀ t ∈ targets, (d.ax t.1).ref = none) (hm : ∀ t ∈ targets, d.moveOf t.1 = none) (src : Src) (coord : Bool)
    (set : Nat) (rev rel : Bool) : d.moveCmd src coord set rev rel targets = { d.startRun src .move with
      nextMove := d.nextMove + 1
      moves := d.moves ++ [mkMove d.nextMove (.cmd d.nextRun) coord set rev rel none targets] } := by
  rw [Dev.moveCmd_none h, Dev.acceptMove_free rfl]
  · rfl
  · rw [mkMove_axes, List.forall_mem_map]
    exact hr
  · rw [mkMove_axes, List.forall_mem_map]
    exact hm

/-- A refusal of a move of one axis. -/
theorem Dev.moveCmd_refused {d : Dev} {a cause : Nat} {t : Int} (h : d.axesRefused [a] = some (stAxisStopped cause)) (src : Src)
    (set : Nat) (rev rel : Bool) : ∃ c, d.Answered (d.moveCmd src false set rev rel [(a, t)]) (d.ring src) c ∧
      c.words.take 2 = [src.cid.val * 2 ^ 16 + src.sq.val * 2 ^ 10 + 6, cause * 2 ^ 24] := by
  unfold Dev.moveCmd
  dsimp only
  rw [show [(a, t)].map (fun t => t.1) = [a] from rfl, h]
  refine ⟨_, d.complete_answered src _, ?_⟩
  simp [cmdCpl, CmdRes.at', stAxisStopped]

/-! ## Supersession (R361) -/

theorem Dev.orphan_has (d : Dev) (m : Move) {a b : Nat} (h : b ≠ a) : ∀ o ∈ (d.orphan m b).moves, o.has a = true → o ∈ d.moves := by
  unfold Dev.orphan
  extract_lets x n t e
  split
  · exact fun o ho _ => ho
  · intro o ho hh
    rcases List.mem_append.mp ho with ho | ho
    · exact ho
    · rw [List.mem_singleton.mp ho] at hh
      exact absurd hh (by simp [Move.has, e, h])

theorem Dev.orphans_has (m : Move) {a : Nat} {l : List MvAxis} (h : ∀ e ∈ l, e.axis ≠ a) (d : Dev) :
    ∀ o ∈ (l.foldl (fun d e => d.orphan m e.axis) d).moves, o.has a = true → o ∈ d.moves := by
  induction l generalizing d with
  | nil => exact fun o ho _ => ho
  | cons e t ih =>
    rw [List.forall_mem_cons] at h
    exact fun o ho hh => d.orphan_has m h.1 o (ih h.2 _ o ho hh) hh

/-- Of the moves that name a kept axis none is new, and the superseded one is gone. -/
theorem Dev.supersede_has (d : Dev) (m : Move) {a : Nat} {keep : List Nat} (ha : a ∈ keep) :
    ∀ o ∈ (d.supersede m keep).moves, o.has a = true → o ∈ d.moves ∧ o.id ≠ m.id := by
  unfold Dev.supersede
  extract_lets m' d1 d2 d3
  have h1 : ∀ o ∈ d1.moves, o ∈ d.moves ∧ o.id ≠ m.id := fun o ho => by
    obtain ⟨hm, hid⟩ := List.mem_filter.mp ho
    exact ⟨hm, by simpa using hid⟩
  have h2 : d2.moves = d1.moves := by
    unfold d2
    split
    · split
      · exact (d1.logStop_motionOut _ _ _ _).2.1
      · rfl
    · rfl
  clear_value d1 d2
  have h3 : ∀ o ∈ d3.moves, o.has a = true → o ∈ d2.moves := by
    unfold d3
    split
    · refine Dev.orphans_has m (fun e he => ?_) d2
      obtain ⟨-, hk⟩ := List.mem_filter.mp he
      intro hea
      rw [hea] at hk
      simp [ha] at hk
    · exact fun o ho _ => ho
  rw [(d3.reportMove_places m' (stAxisStopped 6) (some .abort)).1]
  exact fun o ho hh => h1 o (h2 ▸ h3 o ho hh)

theorem Dev.supersedes_has {a : Nat} {keep : List Nat} (ha : a ∈ keep) (l : List Move) (d : Dev)
    (h : ∀ o ∈ d.moves, o.has a = true → ∃ m ∈ l, m.id = o.id) : ∀ o ∈ (l.foldl (fun d o => d.supersede o keep) d).moves, o.has a = false := by
  induction l generalizing d with
  | nil =>
    intro o ho
    by_contra hh
    obtain ⟨m, hm, -⟩ := h o ho (by simpa using hh)
    exact absurd hm (by simp)
  | cons m t ih =>
    refine ih _ fun o ho hh => ?_
    obtain ⟨hin, hid⟩ := d.supersede_has m ha o ho hh
    obtain ⟨x, hx, hxid⟩ := h o hin hh
    rcases List.mem_cons.mp hx with rfl | hx
    · exact absurd hxid.symm hid
    · exact ⟨x, hx, hxid⟩

/-- A move accepted is the one move of its axis. -/
theorem Dev.acceptMove_alone (d : Dev) {m : Move} {a run : Nat} (ho : m.owner = .cmd run) (hc : m.coord = false) (ha : m.axes.map (fun e => e.axis) = [a]) :
    m ∈ (d.acceptMove m).moves ∧ ∀ o ∈ (d.acceptMove m).moves, o.has a = true → o.id = m.id := by
  unfold Dev.acceptMove
  rw [ho, hc, ha]
  dsimp only
  obtain ⟨d1, hd1⟩ : ∃ k, k = [a].foldl (fun (d : Dev) a => d.refFail a 4) d := ⟨_, rfl⟩
  rw [← hd1]
  have hfree : ∀ o ∈ ((d1.claims [a]).foldl (fun d o => d.supersede o [a]) d1).moves, o.has a = false :=
    Dev.supersedes_has (List.mem_singleton.mpr rfl) _ d1 fun o ho hh => ⟨o, List.mem_filter.mpr ⟨ho, by simpa using hh⟩, rfl⟩
  refine ⟨List.mem_append_right _ (List.mem_singleton.mpr rfl), fun o ho hh => ?_⟩
  rcases List.mem_append.mp ho with ho | ho
  · exact absurd hh (by rw [hfree o ho]; decide)
  · rw [List.mem_singleton.mp ho]

/-! ## RESUME -/

theorem maskList_pow : ∀ a : Fin 6, maskList 6 (2 ^ a.val) = [a.val] := by decide

theorem Dev.resume_spec {d : Dev} {a : Fin 6} {k : Remain} (hmode : d.modeIn motionModes = true) (hk : (d.ax a).kept = some k) (hc : k.coord = false)
    (hmask : k.mask = 2 ^ a.val) (hr : (d.ax a).ref = none) (hm : d.moveOf a = none) (hok : d.axesRefused [a.val] = none) (src : Src) {m : Nat}
    (hmv : m = 2 ^ a.val) : d.resumeCmd src m = { d.startRun src (.resume 1 [] 0) with
      nextMove := d.nextMove + 1
      moves := d.moves ++ [mkMove d.nextMove (.cmd d.nextRun) false k.set k.rev true k.adv [(a.val, k.dist)]] } := by
  have hks : d.keptMoves [a.val] = [k] := by
    unfold Dev.keptMoves
    rw [List.filterMap_cons_some (f := fun a => (d.ax a).kept) hk]
    rfl
  have hkeep : ∀ e : Dev, e.axes = d.axes → e.keepers k = [(a.val, k.dist)] := fun e he => by
    unfold Dev.keepers
    rw [hmask, maskList_pow, List.filterMap_cons_some (b := (a.val, k.dist))]
    · rfl
    · rw [Dev.ax_axes he, hk]
      exact if_pos rfl
  unfold Dev.resumeCmd
  rw [hmode, hmv, maskList_pow]
  dsimp only
  rw [hks]
  have hnamed : [k].flatMap (fun k => (d.keepers k).map (fun t => t.1)) = [a.val] := by
    rw [List.flatMap_cons, hkeep d rfl]
    rfl
  rw [hnamed, hok, if_neg (by decide), if_neg (by simp), if_neg (by simp [hc])]
  dsimp only
  rw [List.foldl_cons, List.foldl_nil, List.length_singleton, hkeep (d.startRun src (.resume 1 [] 0)) rfl, hc]
  refine (Dev.acceptMove_free (run := d.nextRun) rfl ?_ ?_).trans rfl
  · rw [mkMove_axes]
    exact List.forall_mem_singleton.mpr hr
  · rw [mkMove_axes]
    exact List.forall_mem_singleton.mpr hm

theorem Dev.keptMoves_nil {d : Dev} {l : List Nat} (h : ∀ a ∈ l, (d.ax a).kept = none) : d.keptMoves l = [] := by
  unfold Dev.keptMoves
  rw [List.filterMap_eq_nil_iff.mpr h]
  rfl

/-- Distances kept of one move. -/
theorem keptFold_same {k : Remain} {l : List Remain} (h : ∀ x ∈ l, x = k) (acc : List Remain) (ha : k ∈ acc) :
    l.foldl (fun acc k => if acc.any (fun o => o.move = k.move) then acc else acc ++ [k]) acc = acc := by
  induction l with
  | nil => rfl
  | cons x t ih =>
    rw [List.forall_mem_cons] at h
    rw [List.foldl_cons, if_pos, ih h.2]
    rw [List.any_eq_true, h.1]
    exact ⟨k, ha, by simp⟩

theorem Dev.keptMoves_one {d : Dev} {l : List Nat} {a : Nat} {k : Remain} (ha : a ∈ l) (hk : (d.ax a).kept = some k)
    (h : ∀ b ∈ l, (d.ax b).kept = some k ∨ (d.ax b).kept = none) : d.keptMoves l = [k] := by
  unfold Dev.keptMoves
  have hall : ∀ x ∈ l.filterMap (fun a => (d.ax a).kept), x = k := fun x hx => by
    obtain ⟨b, hb, hbx⟩ := List.mem_filterMap.mp hx
    rcases h b hb with h' | h'
    · exact Option.some.inj (hbx.symm.trans h')
    · exact absurd (hbx.symm.trans h') (by simp)
  have hmem : k ∈ l.filterMap (fun a => (d.ax a).kept) := List.mem_filterMap.mpr ⟨a, ha, hk⟩
  cases hL : l.filterMap (fun a => (d.ax a).kept) with
  | nil =>
    rw [hL] at hmem
    exact absurd hmem (by simp)
  | cons x t =>
    rw [hL, List.forall_mem_cons] at hall
    rw [hall.1, List.foldl_cons]
    exact keptFold_same hall.2 [k] (List.mem_singleton.mpr rfl)

/-! ## HOLD -/

theorem Dev.stopAxes_free {d : Dev} {l : List Nat} (h : ∀ a ∈ l, d.moveOf a = none) (c : StopCause) : d.stopAxes l c = d := by
  have hmap : d.moves.map (fun m => if l.any m.has then m.stopBy c else m) = d.moves := by
    conv_rhs => rw [← List.map_id d.moves]
    refine List.map_congr_left fun m hm => ?_
    rw [Dev.not_has_of_free h m hm]
    rfl
  unfold Dev.stopAxes
  rw [hmap]

/-- The holds that a device whose other commands are no holds can complete. -/
theorem Dev.holdsDone_none {d : Dev} (h : ∀ r ∈ d.running, ∀ k, r.kind = .hold k → ∃ a ∈ maskList 6 k, d.moveOf a ≠ none) : d.holdsDone = d := by
  unfold Dev.holdsDone
  rw [List.filter_eq_nil_iff.mpr]
  · rfl
  · intro r hr
    cases hk : r.kind with
    | hold k =>
      obtain ⟨a, ha, hm⟩ := h r hr k hk
      dsimp only
      rw [List.all_eq_true]
      intro hall
      have := hall a ha
      simp [hm] at this
    | _ => simp

theorem Move.stopBy_axes (m : Move) (c : StopCause) : (m.stopBy c).axes = m.axes := by
  unfold Move.stopBy
  extract_lets higher
  split
  · rfl
  · rfl

theorem Dev.moveOf_stopAxes {d : Dev} {l : List Nat} {c : StopCause} {a : Nat} (h : d.moveOf a ≠ none) : (d.stopAxes l c).moveOf a ≠ none := by
  unfold Dev.moveOf Dev.stopAxes at *
  rw [Ne, List.find?_eq_none] at *
  intro hn
  refine h fun m hm => ?_
  have := hn _ (List.mem_map.mpr ⟨m, hm, rfl⟩)
  have hh : (if l.any m.has then m.stopBy c else m).has a = m.has a := by
    unfold Move.has
    split
    · rw [Move.stopBy_axes]
    · rfl
  rwa [hh] at this

theorem Dev.hold_moving {d : Dev} {m : Nat} (hmode : d.modeIn motionModes = true) (hrun : ∀ r ∈ d.running, ∀ k, r.kind ≠ .hold k)
    (href : ∀ a ∈ maskList 6 m, (d.ax a).ref = none) (hm : ∃ a ∈ maskList 6 m, d.moveOf a ≠ none) (src : Src) :
    d.holdCmd src m = { d.startRun src (.hold m) with moves := d.moves.map (fun x => if (maskList 6 m).any x.has then x.stopBy .hold else x) } := by
  obtain ⟨a, ha, hma⟩ := hm
  obtain ⟨d1, hd1⟩ : ∃ k, k = d.stopAxes (maskList 6 m) .hold := ⟨_, rfl⟩
  have hma1 : d1.moveOf a ≠ none := hd1 ▸ Dev.moveOf_stopAxes hma
  have hrun1 : d1.running = d.running := by
    rw [hd1]
    rfl
  have href1 : ∀ a ∈ maskList 6 m, (d1.ax a).ref = none := by
    rw [hd1]
    exact href
  unfold Dev.holdCmd
  rw [hmode]
  dsimp only
  rw [if_neg (by decide), ← hd1, Dev.refFails_free href1, Dev.holdsDone_none]
  · rw [hd1]
    rfl
  · intro r hr k hk
    rcases List.mem_append.mp hr with hr | hr
    · exact absurd hk (hrun r (hrun1 ▸ hr) k)
    · rw [List.mem_singleton.mp hr] at hk
      obtain rfl := RunKind.hold.inj hk
      exact ⟨a, ha, hma1⟩

theorem Dev.hold_standing {d : Dev} {m : Nat} (hmode : d.modeIn motionModes = true) (hrun : ∀ r ∈ d.running, r.id < d.nextRun ∧ ∀ k, r.kind ≠ .hold k)
    (href : ∀ a ∈ maskList 6 m, (d.ax a).ref = none) (hm : ∀ a ∈ maskList 6 m, d.stands a = true ∧ d.moveOf a = none) (src : Src) :
    d.holdCmd src m = ({ d with nextRun := d.nextRun + 1 } : Dev).complete src stOk := by
  obtain ⟨d1, hd1⟩ : ∃ k, k = d.startRun src (.hold m) := ⟨_, rfl⟩
  have hrunning : d1.running = d.running ++ [⟨d.nextRun, src, .hold m⟩] := by
    rw [hd1]
    rfl
  have hold : ∀ r ∈ d.running, ¬(decide (r.id = d.nextRun) = true) := fun r hr => by
    have := (hrun r hr).1
    simp
    omega
  have hdrop : d1.dropRun d.nextRun = { d with nextRun := d.nextRun + 1 } := by
    have hf : d1.running.filter (fun r => r.id ≠ d.nextRun) = d.running := by
      rw [hrunning, List.filter_append, List.filter_eq_self.mpr, List.filter_cons_of_neg, List.filter_nil, List.append_nil]
      · simp
      · intro r hr
        simpa using hold r hr
    unfold Dev.dropRun
    rw [hf, hd1]
    rfl
  have hfind : d1.running.find? (fun r => r.id = d.nextRun) = some ⟨d.nextRun, src, .hold m⟩ := by
    rw [hrunning, List.find?_append, List.find?_eq_none.mpr hold, Option.none_or, List.find?_cons_of_pos]
    simp
  have hdone : d1.holdsDone = d1.finish d.nextRun stOk := by
    unfold Dev.holdsDone
    rw [hrunning, List.filter_append, List.filter_eq_nil_iff.mpr, List.nil_append, List.filter_cons_of_pos, List.filter_nil]
    · rfl
    · dsimp only
      rw [List.all_eq_true]
      intro a ha
      have hs : d1.stands a = d.stands a := by rw [hd1]; rfl
      have hmo : d1.moveOf a = d.moveOf a := by rw [hd1]; rfl
      rw [hs, hmo, (hm a ha).1, (hm a ha).2]
      rfl
    · intro r hr
      have := (hrun r hr).2
      cases hk : r.kind with
      | hold k => exact absurd hk (this k)
      | _ => simp
  unfold Dev.holdCmd
  rw [hmode]
  dsimp only
  rw [if_neg (by decide), Dev.stopAxes_free fun a ha => (hm a ha).2, Dev.refFails_free href, ← hd1, hdone]
  unfold Dev.finish
  rw [hfind]
  dsimp only
  rw [hdrop]

/-! ## The statement -/

theorem coordBad_fits {m : Nat} {ts : List Int} (h : 2 ≤ (maskList 6 m).length) (h0 : ∀ a < 6, bitOf m a = false → ts.getD a 0 = 0) :
    coordBad m ts = none := by
  unfold coordBad
  rw [if_neg (Nat.not_lt.2 h), Option.map_eq_none_iff, List.find?_eq_none]
  intro a ha
  cases hb : bitOf m a with
  | true => simp
  | false =>
    rw [h0 a (List.mem_range.mp ha) hb]
    decide

theorem Dev.moveCoord_fits {d : Dev} {m : Nat} {ts : List Int} (h : 2 ≤ (maskList 6 m).length) (h0 : ∀ a < 6, bitOf m a = false → ts.getD a 0 = 0)
    (src : Src) (set : Nat) (rev rel : Bool) : d.moveCoord src m ts set rev rel =
      if !d.modeIn motionModes then d.complete src stWrongMode else d.moveCmd src true set rev rel ((maskList 6 m).map (fun a => (a, ts.getD a 0))) := by
  unfold Dev.moveCoord
  rw [coordBad_fits h h0]

theorem moves_wrongMode {s : State} (src : Src) (hmode : s.dev.modeIn [.calibrate, .run, .service] = false) :
    (∀ a t n v r, s.Ends (.move src a t n v r) src (plainCpl src 5 0 0) s.dev) ∧
    (∀ m ts n v r, 2 ≤ (maskList 6 m.val).length → (∀ a < 6, bitOf m.val a = false → ts.getD a 0 = 0) →
      s.Ends (.moveCoord src m ts n v r) src (plainCpl src 5 0 0) s.dev) ∧
    (∀ m, s.Ends (.hold src m) src (plainCpl src 5 0 0) s.dev ∧ s.Ends (.resume src m) src (plainCpl src 5 0 0) s.dev) := by
  have hwrong : (!s.dev.modeIn motionModes) = true := by rw [motionModes, hmode]; rfl
  have hend := s.dev.complete_plain src 5 0 0 (by decide)
  refine ⟨fun a t n v r => ?_, fun m ts n v r h2 h0 => ?_, fun m => ⟨?_, ?_⟩⟩
  · refine State.does (f := (·.moveOne src a t n v r)) rfl ?_
    rw [Dev.moveOne, if_pos hwrong]
    exact hend
  · refine State.does (f := (·.moveCoord src m ts n v r)) rfl ?_
    rw [Dev.moveCoord_fits h2 h0, if_pos hwrong]
    exact hend
  · refine State.does (f := (·.holdCmd src m)) rfl ?_
    rw [Dev.holdCmd, if_pos hwrong]
    exact hend
  · refine State.does (f := (·.resumeCmd src m)) rfl ?_
    rw [Dev.resumeCmd, if_pos hwrong]
    exact hend

theorem move_meets {s : State} (src : Src) (hmode : s.dev.modeIn [.calibrate, .run, .service] = true) (a : Fin 6) (t : Int) (n : Fin 4) (v r : Bool) :
    (a.val = 0 → s.dev.follower = true → s.Does (.move src a t n v r) (fun e => ∃ c, s.dev.Answered e (s.dev.ring src) c ∧
      c.words.take 2 = [src.cid.val * 2 ^ 16 + src.sq.val * 2 ^ 10 + 6, 8 * 2 ^ 24])) ∧
    ((a.val = 0 → s.dev.follower = false ∧ s.dev.tet.conflict = false) →
      (s.dev.f (F.CHP_STATUS.OVERCURRENT a) = 1 ∨ s.dev.f (F.ENC_STATUS.ENC_FAULT a) = 1 → s.Does (.move src a t n v r) (fun e => ∃ c,
        s.dev.Answered e (s.dev.ring src) c ∧ c.words.take 2 = [src.cid.val * 2 ^ 16 + src.sq.val * 2 ^ 10 + 6, 5 * 2 ^ 24])) ∧
      (s.dev.f (F.CHP_STATUS.OVERCURRENT a) = 0 → s.dev.f (F.ENC_STATUS.ENC_FAULT a) = 0 →
        ((s.dev.ax a).ref = none → s.dev.moveOf a = none → s.Does (.move src a t n v r) (fun e => e = { s.dev.startRun src .move with
          nextMove := s.dev.nextMove + 1,
          moves := s.dev.moves ++ [mkMove s.dev.nextMove (.cmd s.dev.nextRun) false n.val v r none [(a.val, t)]] })) ∧
        (s.Does (.move src a t n v r) (fun e => mkMove s.dev.nextMove (.cmd s.dev.nextRun) false n.val v r none [(a.val, t)] ∈ e.moves ∧
          ∀ o ∈ e.moves, o.has a = true → o.id = s.dev.nextMove)) ∧
        (∀ k, (s.dev.ax a).kept = some k → k.coord = false → k.mask = 2 ^ a.val → (s.dev.ax a).ref = none → s.dev.moveOf a = none →
          ∀ m : Fin 64, m.val = 2 ^ a.val → s.Does (.resume src m) (fun e => e = { s.dev.startRun src (.resume 1 [] 0) with
            nextMove := s.dev.nextMove + 1,
            moves := s.dev.moves ++ [mkMove s.dev.nextMove (.cmd s.dev.nextRun) false k.set k.rev true k.adv [(a.val, k.dist)]] })))) := by
  have hmode' : s.dev.modeIn motionModes = true := hmode
  have hone : s.dev.moveOne src a t n v r = s.dev.moveCmd src false n v r [(a.val, t)] := by
    rw [Dev.moveOne, hmode']
    exact if_neg (by decide)
  refine ⟨fun ha hfol => ?_, fun h0 => ⟨fun hbad => ?_, fun hoc hef => ?_⟩⟩
  · refine State.does (f := (·.moveOne src a t n v r)) rfl ?_
    rw [hone]
    refine Dev.moveCmd_refused ?_ src n v r
    unfold Dev.axesRefused
    rw [ha, hfol]
    rfl
  · refine State.does (f := (·.moveOne src a t n v r)) rfl ?_
    rw [hone]
    refine Dev.moveCmd_refused ?_ src n v r
    unfold Dev.axesRefused
    have hlatched : [a.val].any (fun a => s.dev.on (F.CHP_STATUS.OVERCURRENT a) || s.dev.on (F.ENC_STATUS.ENC_FAULT a)) = true := by
      rcases hbad with h | h
      · simp [Dev.on_one h]
      · simp [Dev.on_one h]
    by_cases ha : a.val = 0
    · rw [hlatched, (h0 ha).1, (h0 ha).2]
      simp
    · have hc : [a.val].contains 0 = false := by simpa using fun h => ha h.symm
      rw [hlatched, hc]
      rfl
  · have hok : s.dev.axesRefused [a.val] = none := by
      refine Dev.axesRefused_none (fun h => h0 (List.mem_singleton.mp h).symm) fun b hb => ?_
      rw [List.mem_singleton.mp hb]
      exact ⟨hoc, hef⟩
    refine ⟨fun hr hm => ?_, ?_, fun k hk hc hmask hr hm m hmv => ?_⟩
    · refine State.does (f := (·.moveOne src a t n v r)) rfl ?_
      rw [hone]
      exact Dev.moveCmd_free (targets := [(a.val, t)]) hok (List.forall_mem_singleton.mpr hr) (List.forall_mem_singleton.mpr hm) src false n v r
    · refine State.does (f := (·.moveOne src a t n v r)) rfl ?_
      rw [hone, Dev.moveCmd_none (targets := [(a.val, t)]) hok]
      exact Dev.acceptMove_alone _ (m := mkMove s.dev.nextMove (.cmd s.dev.nextRun) false n v r none [(a.val, t)]) rfl rfl rfl
    · refine State.does (f := (·.resumeCmd src m)) rfl ?_
      exact Dev.resume_spec hmode' hk hc hmask hr hm hok src hmv

theorem moveCoord_meets {s : State} (src : Src) (hmode : s.dev.modeIn [.calibrate, .run, .service] = true) (m : Fin 64) (ts : List Int) (n : Fin 4) (v r : Bool)
    (h2 : 2 ≤ (maskList 6 m.val).length) (hz : ∀ a < 6, bitOf m.val a = false → ts.getD a 0 = 0)
    (h0 : bitOf m.val 0 = true → s.dev.follower = false ∧ s.dev.tet.conflict = false)
    (hfree : ∀ a ∈ maskList 6 m.val, s.dev.f (F.CHP_STATUS.OVERCURRENT a) = 0 ∧ s.dev.f (F.ENC_STATUS.ENC_FAULT a) = 0 ∧
      (s.dev.ax a).ref = none ∧ s.dev.moveOf a = none) :
    s.Does (.moveCoord src m ts n v r) (fun e => e = { s.dev.startRun src .move with
      nextMove := s.dev.nextMove + 1,
      moves := s.dev.moves ++ [mkMove s.dev.nextMove (.cmd s.dev.nextRun) true n.val v r none
        ((maskList 6 m.val).map (fun a => (a, ts.getD a 0)))] }) := by
  have hmode' : s.dev.modeIn motionModes = true := hmode
  have haxes : ((maskList 6 m.val).map (fun a => (a, ts.getD a 0))).map (fun t => t.1) = maskList 6 m.val := by
    rw [List.map_map]
    exact List.map_id _
  refine State.does (f := (·.moveCoord src m ts n v r)) rfl ?_
  rw [Dev.moveCoord_fits h2 hz, hmode', if_neg (by decide)]
  refine Dev.moveCmd_free ?_ (fun t ht => ?_) (fun t ht => ?_) src true n v r
  · rw [haxes]
    exact Dev.axesRefused_none (fun h => h0 (List.mem_filter.mp h).2) fun a ha => ⟨(hfree a ha).1, (hfree a ha).2.1⟩
  · obtain ⟨a, ha, rfl⟩ := List.mem_map.mp ht
    exact (hfree a ha).2.2.1
  · obtain ⟨a, ha, rfl⟩ := List.mem_map.mp ht
    exact (hfree a ha).2.2.2

theorem resume_refused {s : State} (src : Src) (hmode : s.dev.modeIn [.calibrate, .run, .service] = true) (m : Fin 64) :
    ((∀ a ∈ maskList 6 m.val, (s.dev.ax a).kept = none) → s.Ends (.resume src m) src (plainCpl src 6 10 0) s.dev) ∧
    (∀ a k, a ∈ maskList 6 m.val → (s.dev.ax a).kept = some k → k.coord = true → (∃ b ∈ maskList 6 k.mask, b ∉ maskList 6 m.val) →
      (∀ b ∈ maskList 6 m.val, (s.dev.ax b).kept = some k ∨ (s.dev.ax b).kept = none) →
      s.Ends (.resume src m) src (plainCpl src 6 9 0) s.dev) := by
  have hmode' : ¬(!s.dev.modeIn motionModes) = true := by rw [motionModes, hmode]; decide
  constructor
  · intro h
    refine State.does (f := (·.resumeCmd src m)) rfl ?_
    rw [Dev.resumeCmd, if_neg hmode']
    dsimp only
    rw [Dev.keptMoves_nil h, if_pos (by rfl)]
    exact s.dev.complete_plain src 6 10 0 (by decide)
  · intro a k ha hk hc hb hall
    obtain ⟨b, hb, hnot⟩ := hb
    have hout : (maskList 6 k.mask).all (maskList 6 m.val).contains = false := by
      rw [List.all_eq_false]
      exact ⟨b, hb, by simpa using hnot⟩
    refine State.does (f := (·.resumeCmd src m)) rfl ?_
    rw [Dev.resumeCmd, if_neg hmode']
    dsimp only
    rw [Dev.keptMoves_one ha hk hall, if_neg (by simp), List.any_cons, hc, hout, if_pos (by rfl)]
    exact s.dev.complete_plain src 6 9 0 (by decide)

/-- Settles O41. -/
theorem moves : Obligations.Moves := by
  intro s src
  refine ⟨moves_wrongMode src, fun m ts n v r h => ?_, fun hmode => ⟨move_meets src hmode, moveCoord_meets src hmode,
    fun m => (resume_refused src hmode m).1, fun m => (resume_refused src hmode m).2, fun m hrun href => ⟨fun hm => ?_, fun hm => ?_⟩⟩⟩
  · refine State.does (f := (·.moveCoord src m ts n v r)) rfl ?_
    rw [Dev.moveCoord, coordBad, if_pos h]
    exact s.dev.complete_plain src 2 0 1 (by decide)
  · refine State.does (f := (·.holdCmd src m)) rfl ?_
    rw [Dev.hold_standing hmode hrun href hm]
    exact Dev.complete_plain _ src 0 0 0 (by decide)
  · exact State.does (f := (·.holdCmd src m)) rfl (Dev.hold_moving hmode (fun r hr => (hrun r hr).2) href hm src)

end Sys2Proof.Machine
end

section
/-! SUPPORT. Haul's instructions: the end of a program on a channel that the device does not have (R321, R336). -/

namespace Sys2Proof.Machine

/-- What a command does, it does to the device that its meaning answers. -/
theorem State.Does.lift {s : State} {i : Instr} {f : Dev → Dev} {Q : Dev → Prop} (h : exec i s = s.lift f) (hd : s.Does i Q) : Q (f s.dev) := by
  obtain ⟨t, ht, -, hq⟩ := hd
  rw [h, State.lift, Host.Outcome.next.injEq] at ht
  rwa [← ht] at hq

/-- A program at address 0 of channel 753, whose END is about to be read again. -/
def strayProgram : HaulRun :=
  { ch := 753, pc := 0, load := none, phase := 0, stack := [], executed := 0, cmpCnt := 0, cmpAddr := none, wb := 0, events := [], reqs := [],
    xfer := none, waiting := false, img := [], ended := true }

/-- STANDBY with the link up, Haul running the stray program, and END_EVENT 3 enabled at the place of its channel. -/
def strayState : State := { State.reset with dev := { devReset with
  mode := .standby
  rst := none
  link := { devReset.link with up := true, busMaster := true, d3hot := false }
  haul := { devReset.haul with run := some strayProgram }
  regs := [(R.HAU_CH_CFG 753, 0x00830000#32)] } }

theorem strayState_ready : strayState.dev.awake = true ∧ strayState.dev.canIssue = true := by decide +kernel

/-- HAU_CH_ADDR_HI of channel 753 is TIM_EVT_STATUS, where the event of the end sets bit 4. -/
theorem strayState_addr : (strayState.dev.haulReread (0#32, 0#32)).r64 (R.HAU_CH_ADDR_LO 753) (R.HAU_CH_ADDR_HI 753) = 2 ^ 36 := by decide +kernel

/-- Refutes O38: the statement lets the running program's channel be any number, and at 753 the register of the end's address is TIM_EVT_STATUS,
which the end event 3 (TEV 4) writes after the address was latched. -/
theorem not_haulInstructions : ¬ Obligations.HaulInstructions := by
  intro h
  obtain ⟨-, -, hend⟩ := h
  obtain ⟨-, hread⟩ := hend strayState strayProgram (0#32, 0#32) rfl strayState_ready.1
  obtain ⟨-, hover⟩ := hread rfl (by decide) strayState_ready.2
  obtain ⟨-, -, -, haddr⟩ := State.Does.lift (f := (·.haulReread (0#32, 0#32))) rfl (hover (by decide))
  have hbad : (2 : Nat) ^ 36 = pcAddr 0 % 2 ^ 64 := strayState_addr.symm.trans haddr
  exact absurd hbad (by decide)

end Sys2Proof.Machine
end

section
/-! SUPPORT. Which registers an operation leaves as they were, by a set of addresses; the shading sets, multipliers and SHADING_FULL (spec 06_shading.md). -/

namespace Sys2Proof.Machine

/-! ## Registers of a set that stay -/

/-- Every register of the set `S` of addresses is in `e` as it was in `d`. -/
def Dev.RegsKept (S : Nat → Prop) (d e : Dev) : Prop := ∀ a, S a → e.reg a = d.reg a

theorem Dev.RegsKept.refl (S : Nat → Prop) (d : Dev) : Dev.RegsKept S d d := fun _ _ => rfl

section
variable {S : Nat → Prop} {d e g : Dev}

theorem Dev.RegsKept.trans (h : Dev.RegsKept S d e) (h' : Dev.RegsKept S e g) : Dev.RegsKept S d g :=
  fun a ha => (h' a ha).trans (h a ha)

theorem Dev.RegsKept.of_regs (h : e.regs = d.regs) : Dev.RegsKept S d e := fun a _ => Dev.reg_regs h a

theorem Dev.RegsKept.regs (h : Dev.RegsKept S d e) (h' : g.regs = e.regs) : Dev.RegsKept S d g := h.trans (.of_regs h')

theorem Dev.RegsKept.mono {T : Nat → Prop} (h : Dev.RegsKept S d e) (hT : ∀ a, T a → S a) : Dev.RegsKept T d e :=
  fun a ha => h a (hT a ha)

theorem Dev.RegsKept.f (h : Dev.RegsKept S d e) {x : Fld} (hx : S x.addr) : e.f x = d.f x := by
  unfold Dev.f
  rw [h _ hx]

theorem Dev.RegsKept.fi (h : Dev.RegsKept S d e) {x : Fld} (hx : S x.addr) : e.fi x = d.fi x := Dev.fi_congr (h.f hx)

theorem Dev.RegsKept.on (h : Dev.RegsKept S d e) {x : Fld} (hx : S x.addr) : e.on x = d.on x := by
  unfold Dev.on
  rw [h.f hx]

theorem Dev.RegsKept.setReg (h : Dev.RegsKept S d e) {a : Nat} (w : Word) (ha : ¬ S a) : Dev.RegsKept S d (e.setReg a w) :=
  fun b hb => (Dev.reg_setReg_ne _ _ fun hab : b = a => ha (hab ▸ hb)).trans (h b hb)

theorem Dev.RegsKept.setF (h : Dev.RegsKept S d e) (x : Fld) (v : Nat) (hx : ¬ S x.addr) : Dev.RegsKept S d (e.setF x v) :=
  fun b hb => (Dev.reg_setF_ne _ _ _ fun hab => hx (hab ▸ hb)).trans (h b hb)

theorem Dev.RegsKept.setB (h : Dev.RegsKept S d e) (x : Fld) (v : Bool) (hx : ¬ S x.addr) : Dev.RegsKept S d (e.setB x v) := h.setF x _ hx

theorem Dev.RegsKept.count (h : Dev.RegsKept S d e) (x : Fld) (n : Nat) (hx : ¬ S x.addr) : Dev.RegsKept S d (e.count x n) := h.setF x _ hx

theorem Dev.RegsKept.only {l : List Fld} (h : d.Only e l) (hl : ∀ x ∈ l, ¬ S x.addr) : Dev.RegsKept S d e :=
  fun a ha => h.reg a fun x hx hxa => hl x hx (hxa ▸ ha)

theorem Dev.RegsKept.flag (h : Dev.RegsKept S d e) (x : Fld) (hb : x.lo ≤ x.hi + 1 ∧ x.hi < 32) (hx : ¬ S x.addr) (hi : ¬ S R.TOP_INT_STATUS) :
    Dev.RegsKept S d (e.flag x) :=
  fun a ha => (Dev.reg_flag_ne e hb (fun h => hx (h ▸ ha)) fun h => hi (h ▸ ha)).trans (h a ha)

theorem Dev.RegsKept.flagIf (h : Dev.RegsKept S d e) (b : Bool) (x : Fld) (hb : x.lo ≤ x.hi + 1 ∧ x.hi < 32) (hx : ¬ S x.addr)
    (hi : ¬ S R.TOP_INT_STATUS) : Dev.RegsKept S d (e.flagIf b x) := by
  unfold Dev.flagIf
  split
  · exact h.flag x hb hx hi
  · exact h

theorem Dev.RegsKept.foldl {α : Type} {f : Dev → α → Dev} {l : List α} (h : Dev.RegsKept S d e)
    (hf : ∀ e, ∀ x ∈ l, Dev.RegsKept S e (f e x)) : Dev.RegsKept S d (l.foldl f e) := by
  induction l generalizing e with
  | nil => exact h
  | cons x xs ih =>
    exact ih (h.trans (hf e x List.mem_cons_self)) fun e y hy => hf e y (List.mem_cons_of_mem x hy)

theorem Dev.RegsKept.answered {q : Nat} {c : Cpl} (h : Dev.RegsKept S d e) (ha : e.Answered g q c) (hq : ¬ S (R.HST_CQ_STATUS q))
    (hi : ¬ S R.TOP_INT_STATUS) : Dev.RegsKept S d g := by
  refine h.trans (fun a hS => ?_)
  refine (ha.only.reg a ?_).trans rfl
  have hqa : R.HST_CQ_STATUS q ≠ a := fun hqa => hq (hqa ▸ hS)
  have hia : R.TOP_INT_STATUS ≠ a := fun hia => hi (hia ▸ hS)
  simp only [List.forall_mem_cons]
  exact ⟨hqa, hqa, hqa, hia, by simp⟩

theorem Dev.RegsKept.complete (h : Dev.RegsKept S d e) (src : Src) (o : CmdRes) (hq : ∀ q < 64, ¬ S (R.HST_CQ_STATUS q))
    (hi : ¬ S R.TOP_INT_STATUS) : Dev.RegsKept S d (e.complete src o) :=
  h.answered (e.complete_answered src o) (hq _ (e.ring_lt src)) hi

theorem Dev.RegsKept.finish (h : Dev.RegsKept S d e) (id : Nat) (o : CmdRes) (hq : ∀ q < 64, ¬ S (R.HST_CQ_STATUS q))
    (hi : ¬ S R.TOP_INT_STATUS) : Dev.RegsKept S d (e.finish id o) := by
  unfold Dev.finish
  split
  · exact Dev.RegsKept.complete (e := e.dropRun id) (h.regs rfl) _ _ hq hi
  · exact h

theorem Dev.RegsKept.sumpNote (h : Dev.RegsKept S d e) (hs : ¬ S R.SMP_POOL_STATUS) : Dev.RegsKept S d e.sumpNote := by
  unfold Dev.sumpNote
  extract_lets u
  exact (h.setF F.SMP_POOL_STATUS.USED u hs).setF F.SMP_POOL_STATUS.PEAK _ hs

end

/-! ## The shading registers -/

/-- The registers of chapter 6. -/
def shdReg (a : Nat) : Prop := 0x61000 ≤ a ∧ a < 0x62000

theorem shdReg_not_cq : ∀ q < 64, ¬ shdReg (R.HST_CQ_STATUS q) := by
  intro q hq h
  unfold shdReg R.HST_CQ_STATUS at h
  omega

theorem shdReg_not_int : ¬ shdReg R.TOP_INT_STATUS := by
  unfold shdReg
  decide

theorem Dev.setCalUse_shd (d : Dev) (use : Nat) : Dev.RegsKept shdReg d (d.setCalUse use) ∧ (d.setCalUse use).shd = d.shd ∧
    (d.setCalUse use).sump.cal = use ∧ (d.setCalUse use).running = d.running ∧ (d.setCalUse use).nextRun = d.nextRun := by
  unfold Dev.setCalUse
  obtain ⟨k, hk⟩ : ∃ k, k = { d with sump := { d.sump with cal := use } } := ⟨_, rfl⟩
  have hr : k.regs = d.regs := by rw [hk]
  have hs : k.shd = d.shd := by rw [hk]
  have hc : k.sump.cal = use := by rw [hk]
  have hn : k.running = d.running ∧ k.nextRun = d.nextRun := by rw [hk]; exact ⟨rfl, rfl⟩
  rw [← hk]
  refine ⟨((Dev.RegsKept.refl _ d).regs hr).sumpNote (by unfold shdReg; decide), ?_, ?_, ?_, ?_⟩ <;> unfold Dev.sumpNote <;> extract_lets u
  · rw [Dev.setF_shd, Dev.setF_shd, hs]
  · rw [Dev.setF_sump, Dev.setF_sump, hc]
  · rw [Dev.setF_running, Dev.setF_running, hn.1]
  · rw [Dev.setF_nextRun, Dev.setF_nextRun, hn.2]

/-! ## The swap of the sets -/

/-- The set beside set `a`. -/
theorem Dev.shadowSet_lt (d : Dev) : d.shadowSet < 2 := by
  unfold Dev.shadowSet
  omega

theorem Dev.haulEvent_ram (d : Dev) (n : Nat) : (d.haulEvent n).ram = d.ram := by
  unfold Dev.haulEvent
  split <;> rfl

/-- Showing the lock and raising Haul's event writes SHADOW_LOCKED alone of the registers. -/
theorem Dev.swapEnd_spec (k : Dev) : (∀ y : Fld, (F.SHD_CTRL.SHADOW_LOCKED).off y → (k.refreshLock.haulEvent 13).f y = k.f y) ∧
    Dev.RegsKept (fun a => a ≠ R.SHD_CTRL) k (k.refreshLock.haulEvent 13) ∧ (k.refreshLock.haulEvent 13).shd = k.shd ∧
    (k.refreshLock.haulEvent 13).ram = k.ram := by
  have h5 : k.refreshLock = k.setF F.SHD_CTRL.SHADOW_LOCKED (b2n (k.holdsSet k.shadowSet)) := rfl
  obtain ⟨j, hj⟩ : ∃ j, j = k.refreshLock := ⟨_, rfl⟩
  rw [← hj] at h5 ⊢
  obtain ⟨h1, h2⟩ := Dev.haulEvent_regs j 13
  have h3 := Dev.haulEvent_ram j 13
  refine ⟨fun y hy => ?_, ?_, ?_, ?_⟩
  · rw [Dev.f_regs h1, h5]
    exact k.f_setF_off _ (by decide) hy
  · refine Dev.RegsKept.trans ?_ (.of_regs h1)
    rw [h5]
    exact (Dev.RegsKept.refl _ k).setF _ _ fun h => h rfl
  · rw [h2, h5, Dev.setF_shd]
  · rw [h3, h5, Dev.setF_ram]

theorem Dev.swap_eq {d d1 k : Dev} (h : d1 = (d.setF F.SHD_CTRL.ACTIVE_SET d.shadowSet).flag F.SHD_STATUS.SWAPPED)
    (hk : k = { d1 with shd := { d1.shd with track := [], swapSoon := false } }) : d.swap = k.refreshLock.haulEvent 13 := by
  rw [hk, h]
  rfl

/-- Fields of SHD_CTRL that a swap does not write. -/
theorem Dev.swap_spec' (d : Dev) : d.swap.f F.SHD_CTRL.ACTIVE_SET = d.shadowSet ∧ d.swap.f F.SHD_STATUS.SWAPPED = 1 ∧
    (∀ hi lo, hi < 25 ∨ (25 < lo ∧ hi < 31) → d.swap.f ⟨R.SHD_CTRL, hi, lo⟩ = d.f ⟨R.SHD_CTRL, hi, lo⟩) ∧
    Dev.RegsKept (fun a => shdReg a ∧ a ≠ R.SHD_CTRL ∧ a ≠ R.SHD_STATUS) d d.swap ∧ d.swap.shd = { d.shd with track := [], swapSoon := false } ∧
    d.swap.ram = d.ram := by
  obtain ⟨e, he⟩ : ∃ e, e = d.swap := ⟨_, rfl⟩
  rw [← he]
  obtain ⟨d1, hd1⟩ : ∃ d1, d1 = (d.setF F.SHD_CTRL.ACTIVE_SET d.shadowSet).flag F.SHD_STATUS.SWAPPED := ⟨_, rfl⟩
  obtain ⟨k, hk⟩ : ∃ k, k = { d1 with shd := { d1.shd with track := [], swapSoon := false } } := ⟨_, rfl⟩
  rw [Dev.swap_eq hd1 hk] at he
  have hshd : d1.shd = d.shd := by rw [hd1, Dev.flag_shd, Dev.setF_shd]
  have hram : d1.ram = d.ram := by rw [hd1, Dev.flag_ram, Dev.setF_ram]
  have hact : d1.f F.SHD_CTRL.ACTIVE_SET = d.shadowSet := by
    rw [hd1, Dev.f_flag_other _ _ _ _ _ (by decide) (by decide)]
    exact (Dev.f_same _ _ _ _ _ (by decide) (by decide)).trans (Nat.mod_eq_of_lt d.shadowSet_lt)
  have hsw : d1.f F.SHD_STATUS.SWAPPED = 1 := by
    rw [hd1]
    exact Dev.f_flag_same _ _ _ (by decide) (by decide)
  have hctl (hi lo : Nat) (h : hi < 31) : d1.f ⟨R.SHD_CTRL, hi, lo⟩ = d.f ⟨R.SHD_CTRL, hi, lo⟩ := by
    rw [hd1, Dev.f_flag_other _ _ _ _ _ (by decide) (by decide)]
    exact Dev.f_apart _ _ _ _ _ _ _ (by decide) (by decide) (.inr h)
  have hreg : Dev.RegsKept (fun a => shdReg a ∧ a ≠ R.SHD_CTRL ∧ a ≠ R.SHD_STATUS) d d1 := by
    rw [hd1]
    exact ((Dev.RegsKept.refl _ d).setF _ _ fun h => h.2.1 rfl).flag _ (by decide) (fun h => h.2.2 rfl) fun h => shdReg_not_int h.1
  have hkr : k.regs = d1.regs := by rw [hk]
  have hks : k.shd = { d.shd with track := [], swapSoon := false } := by rw [hk, hshd]
  have hkm : k.ram = d1.ram := by rw [hk]
  obtain ⟨hf, hr, hs, hm⟩ := k.swapEnd_spec
  rw [← he] at hf hr hs hm
  refine ⟨?_, ?_, fun hi lo h => ?_, ?_, hs.trans hks, hm.trans (hkm.trans hram)⟩
  · exact (hf _ (.inr (by decide))).trans ((Dev.f_regs hkr _).trans hact)
  · exact (hf _ (.inl (by decide))).trans ((Dev.f_regs hkr _).trans hsw)
  · exact (hf _ (.inr (by dsimp only; omega))).trans ((Dev.f_regs hkr _).trans (hctl hi lo (by omega)))
  · exact (hreg.regs hkr).trans (hr.mono fun a h => h.2.1)


theorem Dev.disarmedSwap_blocked {d : Dev} (h : d.armed = true ∨ d.gal.lines ≠ []) : d.disarmedSwap = d := by
  unfold Dev.disarmedSwap Dev.galleryIdle
  refine if_pos ?_
  rcases h with h | h
  · rw [h, Bool.true_or]
  · simp [h]

theorem Dev.disarmedSwap_swaps {d : Dev} (ha : d.armed = false) (hg : d.gal.lines = []) (hv : d.setValid d.shadowSet = true)
    (ht : d.tagMatches d.shadowSet = true) (hr : d.f F.SHD_CTRL.SWAP_REQ = 1) :
    d.disarmedSwap = d.swap.setF F.SHD_CTRL.SWAP_REQ 0 := by
  unfold Dev.disarmedSwap Dev.galleryIdle Dev.chooseSet
  rw [if_neg (by simp [ha, hg]), if_pos (by simp [hv, ht, Dev.on_one hr])]

theorem Dev.disarmedSwap_spec {d e : Dev} (he : e = d.swap.setF F.SHD_CTRL.SWAP_REQ 0) : e.f F.SHD_CTRL.ACTIVE_SET = d.shadowSet ∧
    e.f F.SHD_CTRL.SWAP_REQ = 0 ∧ e.f F.SHD_STATUS.SWAPPED = 1 ∧ e.shd.track = [] ∧ e.ram = d.ram := by
  obtain ⟨hact, hsw, -, -, hshd, hram⟩ := d.swap_spec'
  rw [he, Dev.setF_shd, Dev.setF_ram, hshd, hram]
  refine ⟨?_, ?_, ?_, rfl, rfl⟩
  · exact (Dev.f_apart _ _ _ _ _ _ _ (by decide) (by decide) (.inl (by decide))).trans hact
  · exact (Dev.f_same _ _ _ _ _ (by decide) (by decide)).trans (Nat.zero_mod _)
  · exact (Dev.f_other _ _ _ _ _ _ _ _ (by decide)).trans hsw

/-! ## Tracking (R179, R180) -/

theorem Dev.newMul_bounds (d : Dev) (m ratio : Nat) : 12288 ≤ (d.newMul m ratio).1 ∧ (d.newMul m ratio).1 ≤ 24576 ∧
    (12288 ≤ m → m ≤ 24576 → (((d.newMul m ratio).1 : Int) - m).natAbs ≤ max 1 (d.f F.SHD_CTRL.TRACK_STEP)) := by
  unfold Dev.newMul
  extract_lets target step delta x
  have hstep : (0 : Int) < step := lt_of_lt_of_le Int.one_pos (le_max_left _ _)
  have hs : step = ((max 1 (d.f F.SHD_CTRL.TRACK_STEP) : Nat) : Int) := by
    show max (1 : Int) _ = _
    rw [Nat.cast_max]
    rfl
  obtain ⟨hd1, hd2⟩ : -step ≤ delta ∧ delta ≤ step := clampI_bounds (by omega)
  obtain ⟨hx1, hx2⟩ : (12288 : Int) ≤ x ∧ x ≤ 24576 := clampI_bounds (by decide)
  have hnear : 12288 ≤ m → m ≤ 24576 → (x - m).natAbs ≤ step.natAbs := by
    intro h1 h2
    show (clampI ((m : Int) + delta) 12288 24576 - m).natAbs ≤ _
    unfold clampI
    split
    · omega
    · split <;> omega
  refine ⟨by omega, by omega, fun h1 h2 => ?_⟩
  have h3 := hnear h1 h2
  omega

/-- The registers that say which modules follow which. -/
def trackSrcReg (a : Nat) : Prop := 0x61800 ≤ a ∧ a < 0x61900

theorem trackSrcReg_track (m : Nat) (h : m < 64) : trackSrcReg (R.SHD_TRACK_SRC m) := by
  unfold trackSrcReg R.SHD_TRACK_SRC
  omega

theorem Dev.setNext_spec (d : Dev) (m p : Nat) (r : Nat × Bool) : Dev.RegsKept trackSrcReg d (d.setNext m p r) ∧
    (d.setNext m p r).shd = { d.shd with mNext := spSet (fun _ => 0) d.shd.mNext (gainKey m p) r.1 } := by
  obtain ⟨k, hk⟩ : ∃ k, k = { d with shd := { d.shd with mNext := spSet (fun _ => 0) d.shd.mNext (gainKey m p) r.1 } } := ⟨_, rfl⟩
  have hr : Dev.RegsKept trackSrcReg d k := .of_regs (by rw [hk])
  have hs : k.shd = { d.shd with mNext := spSet (fun _ => 0) d.shd.mNext (gainKey m p) r.1 } := by rw [hk]
  unfold Dev.setNext
  rw [← hk]
  dsimp only
  split
  · refine ⟨((hr.setF _ _ ?_).setF _ _ ?_).flag _ (by decide) ?_ ?_, ?_⟩
    · unfold trackSrcReg; decide
    · unfold trackSrcReg; decide
    · unfold trackSrcReg; decide
    · unfold trackSrcReg; decide
    · rw [Dev.flag_shd, Dev.setF_shd, Dev.setF_shd, hs]
  · exact ⟨hr, hs⟩

theorem gainKey_ne {n m p : Nat} (h : n ≠ m) : gainKey m p ≠ gainKey n p := by
  unfold gainKey
  omega

/-- One module that follows module `m`, or not, in an update of `m`. -/
def Dev.followUpdate (m p ratio : Nat) (d : Dev) (n : Nat) : Dev :=
  if d.f (F.SHD_TRACK_SRC.MODE n) = 1 ∧ d.f (F.SHD_TRACK_SRC.SRC n) = m then
    d.setNext n p (d.newMul (mulOf d.shd.mNow n p) ratio) else d

theorem Dev.followUpdate_spec {d : Dev} {m p ratio n : Nat} (h0 : d.f (F.SHD_TRACK_SRC.MODE m) = 0) :
    Dev.RegsKept trackSrcReg d (d.followUpdate m p ratio n) ∧
    spGet (fun _ => 0) (d.followUpdate m p ratio n).shd.mNext (gainKey m p) = spGet (fun _ => 0) d.shd.mNext (gainKey m p) := by
  unfold Dev.followUpdate
  split
  case isTrue h =>
    have hne : n ≠ m := fun hnm => by rw [hnm, h0] at h; exact absurd h.1 (by decide)
    obtain ⟨hr, hs⟩ := d.setNext_spec n p (d.newMul (mulOf d.shd.mNow n p) ratio)
    rw [hs]
    exact ⟨hr, spGet_spSet_ne _ _ (gainKey_ne hne)⟩
  case isFalse h => exact ⟨.refl _ d, rfl⟩

theorem Dev.followUpdates_spec {d : Dev} {m p ratio : Nat} (hm : m < 64) (h0 : d.f (F.SHD_TRACK_SRC.MODE m) = 0) (l : List Nat) :
    spGet (fun _ => 0) (l.foldl (Dev.followUpdate m p ratio) d).shd.mNext (gainKey m p) = spGet (fun _ => 0) d.shd.mNext (gainKey m p) := by
  induction l generalizing d with
  | nil => rfl
  | cons n l ih =>
    obtain ⟨hr, hs⟩ := Dev.followUpdate_spec (p := p) (ratio := ratio) (n := n) h0
    exact (ih ((hr.f (trackSrcReg_track m hm)).trans h0)).trans hs

theorem Dev.ledWear_shd (d : Dev) (n : Nat) : (d.ledWear n).shd = d.shd := by
  unfold Dev.ledWear
  extract_lets role p count ms e h
  split
  · rfl
  · rw [Dev.flagIf_shd, Dev.setF_shd]

theorem Dev.ledWear_regs (d : Dev) {n : Nat} (hn : n < 16) : Dev.RegsKept shdReg d (d.ledWear n) := by
  have ha : ¬ shdReg (R.LTN_CH_WEAR n) := by
    unfold shdReg R.LTN_CH_WEAR
    omega
  unfold Dev.ledWear
  extract_lets role p count ms e h
  split
  · exact .refl _ d
  · exact ((Dev.RegsKept.refl shdReg d).setF _ _ ha).flagIf _ _ ⟨Nat.le_of_ble_eq_true rfl, Nat.le_of_ble_eq_true rfl⟩ ha shdReg_not_int

theorem Dev.ledWearAll_spec (d : Dev) : d.ledWearAll.shd = d.shd ∧ Dev.RegsKept shdReg d d.ledWearAll :=
  ⟨foldl_keeps (P := fun e => e.shd = d.shd) (fun e n he => (e.ledWear_shd n).trans he) rfl,
    (Dev.RegsKept.refl shdReg d).foldl fun e n hn => e.ledWear_regs (List.mem_range.1 hn)⟩

/-- An update once enough lines are in: the module's own result, those of its followers, and the accumulator goes. -/
theorem Dev.trackUpdate_eq {d : Dev} {m p : Nat} {t : Track} (ht : d.trackOf m p = some t) (hn : ¬ t.n < 2 ^ d.trackLog) :
    ∃ ratio, d.trackUpdate m p = (((List.range 64).foldl (Dev.followUpdate m p ratio) (d.setNext m p (d.newMul t.m ratio))).dropTrack m p).ledWearAll := by
  unfold Dev.trackUpdate
  split
  case h_1 h => rw [ht] at h; exact absurd h (by simp)
  case h_2 t' h =>
    obtain rfl := Option.some.inj (ht.symm.trans h)
    extract_lets log mean ratio d1 d2
    exact ⟨ratio, if_neg hn⟩

theorem Dev.trackOf_dropTrack (d : Dev) (m p : Nat) : (d.dropTrack m p).trackOf m p = none := by
  unfold Dev.trackOf Dev.dropTrack
  rw [List.find?_eq_none]
  intro t ht
  simpa [imp_iff_not_or] using (List.mem_filter.1 ht).2

theorem Dev.trackOf_shd {d e : Dev} (h : e.shd = d.shd) (m p : Nat) : e.trackOf m p = d.trackOf m p := by
  unfold Dev.trackOf
  rw [h]

theorem Dev.trackUpdate_spec {d : Dev} {m p : Nat} (hm : m < 64) {t : Track} (ht : d.trackOf m p = some t) (hn : 2 ^ d.trackLog ≤ t.n)
    (h0 : d.f (F.SHD_TRACK_SRC.MODE m) = 0) : ∃ ratio, spGet (fun _ => 0) (d.trackUpdate m p).shd.mNext (gainKey m p) = (d.newMul t.m ratio).1 ∧
    (d.trackUpdate m p).trackOf m p = none := by
  obtain ⟨ratio, he⟩ := Dev.trackUpdate_eq ht (Nat.not_lt.2 hn)
  obtain ⟨hr, hs⟩ := d.setNext_spec m p (d.newMul t.m ratio)
  have h1 := Dev.followUpdates_spec (p := p) (ratio := ratio) hm ((hr.f (trackSrcReg_track m hm)).trans h0) (List.range 64)
  refine ⟨ratio, ?_, ?_⟩
  · rw [he, (Dev.ledWearAll_spec _).1]
    refine h1.trans ?_
    rw [hs]
    exact spGet_spSet_self _ _ _
  · rw [he, Dev.trackOf_shd (Dev.ledWearAll_spec _).1]
    exact Dev.trackOf_dropTrack _ m p

theorem Dev.trackUpdate_few {d : Dev} {m p : Nat} {t : Track} (ht : d.trackOf m p = some t) (hn : t.n < 2 ^ d.trackLog) :
    d.trackUpdate m p = d := by
  unfold Dev.trackUpdate
  split
  case h_1 h => rfl
  case h_2 t' h =>
    obtain rfl := Option.some.inj (ht.symm.trans h)
    exact if_pos hn

theorem Dev.trackUpdate_none {d : Dev} {m p : Nat} (h : d.trackOf m p = none) : d.trackUpdate m p = d := by
  unfold Dev.trackUpdate
  rw [h]

/-! ## A host write of M (R181) -/

theorem Dev.mulWrite_spec {d : Dev} (rq : Req) (m p v : Nat) (h : d.f F.SHD_CTRL.TRACK_EN = 0) (hv : v < 65536) {e : Dev}
    (he : e = d.mulWrite rq m p v) : e.mulReg m p = v ∧ e.trackOf m p = none ∧ { d with shd := e.shd }.Only e [F.SHD_MOD_GAIN.M m p] := by
  obtain ⟨k, hk⟩ : ∃ k, k = { d with shd := { d.shd with mNext := d.shd.mNext.filter (fun x => x.1 ≠ gainKey m p) } } := ⟨_, rfl⟩
  have he2 : e = (k.setF (F.SHD_MOD_GAIN.M m p) v).dropTrack m p := by
    rw [he, Dev.mulWrite, if_neg (by simp [Dev.on_zero h]), hk]
  have hreg : e.regs = (k.setF (F.SHD_MOD_GAIN.M m p) v).regs := by
    rw [he2]
    rfl
  refine ⟨?_, ?_, ?_⟩
  · unfold Dev.mulReg
    rw [Dev.f_regs hreg]
    exact (Dev.f_same _ _ _ _ _ (Nat.le_of_ble_eq_true rfl) (Nat.le_of_ble_eq_true rfl)).trans (Nat.mod_eq_of_lt hv)
  · rw [he2]
    exact Dev.trackOf_dropTrack _ m p
  · have ho : { d with shd := e.shd }.Only ({ d with shd := e.shd }.setF (F.SHD_MOD_GAIN.M m p) v) [F.SHD_MOD_GAIN.M m p] :=
      (Dev.Only.refl _ _).setF _ _ ⟨Nat.le_of_ble_eq_true rfl, Nat.le_of_ble_eq_true rfl, F.SHD_MOD_GAIN.M m p, by simp, rfl, le_refl _, le_refl _⟩
    have hee : e = { d with shd := e.shd }.setF (F.SHD_MOD_GAIN.M m p) v := by
      rw [he2, hk]
      rfl
    rw [← hee] at ho
    exact ho

/-! ## SHADING_FULL: its end and its commit (R174, R175) -/

theorem Dev.finish_shd (d : Dev) (id : Nat) (o : CmdRes) : (d.finish id o).shd = d.shd ∧ Dev.RegsKept shdReg d (d.finish id o) := by
  refine ⟨?_, (Dev.RegsKept.refl _ d).finish id o shdReg_not_cq shdReg_not_int⟩
  unfold Dev.finish
  split
  · exact ((d.dropRun id).complete_ringsOut _ _).eq Dev.shd fun _ _ _ _ => rfl
  · rfl

/-- Fields of SHD_CTRL beside CAL_BUSY, and every other register of chapter 6 but SHD_CAL_STATUS, stay when SHADING_FULL ends. -/
theorem Dev.calReport_spec (d : Dev) (c : ShadCal) {e : Dev} (he : e = d.calReport c) : e.shd = { d.shd with cal := none } ∧
    e.f F.SHD_CAL_STATUS.RESULT = c.result % 256 ∧ e.f F.SHD_CAL_STATUS.DONE = 1 ∧ e.f F.SHD_CTRL.CAL_BUSY = 0 ∧
    (∀ hi lo, 23 < lo → e.f ⟨R.SHD_CTRL, hi, lo⟩ = d.f ⟨R.SHD_CTRL, hi, lo⟩) ∧
    Dev.RegsKept (fun a => shdReg a ∧ a ≠ R.SHD_CTRL ∧ a ≠ R.SHD_CAL_STATUS) d e := by
  obtain ⟨d1, h1⟩ : ∃ d1, d1 = ((d.setF F.SHD_CAL_STATUS.RESULT c.result).setF F.SHD_CAL_STATUS.FAIL_MODULE c.failModule).setF
    F.SHD_CAL_STATUS.FAIL_PLANE c.failPlane := ⟨_, rfl⟩
  obtain ⟨k, hk⟩ : ∃ k, k = { d1 with shd := { d1.shd with cal := none } } := ⟨_, rfl⟩
  obtain ⟨d2, h2⟩ : ∃ d2, d2 = k.setF F.SHD_CTRL.CAL_BUSY 0 := ⟨_, rfl⟩
  obtain ⟨d3, h3⟩ : ∃ d3, d3 = (d2.setCalUse 0).flag F.SHD_CAL_STATUS.DONE := ⟨_, rfl⟩
  have he' : e = d3.finish c.run { stResult c.result with info := c.failModule * 2 ^ 16 + c.failPlane * 2 ^ 12, c := c.defects } := by
    rw [he, h3, h2, hk, h1]
    rfl
  have hkr : k.regs = d1.regs := by rw [hk]
  have hks : k.shd = { d.shd with cal := none } := by rw [hk, h1, Dev.setF_shd, Dev.setF_shd, Dev.setF_shd]
  obtain ⟨hu, hus, -, -, -⟩ := d2.setCalUse_shd 0
  obtain ⟨hfs, hfr⟩ := d3.finish_shd c.run { stResult c.result with info := c.failModule * 2 ^ 16 + c.failPlane * 2 ^ 12, c := c.defects }
  rw [← he'] at hfs hfr
  have hst : shdReg R.SHD_CAL_STATUS := by unfold shdReg; decide
  have hct : shdReg R.SHD_CTRL := by unfold shdReg; decide
  have hctl (hi lo : Nat) : e.f ⟨R.SHD_CTRL, hi, lo⟩ = d2.f ⟨R.SHD_CTRL, hi, lo⟩ := by
    rw [hfr.f hct, h3, Dev.f_flag_other _ _ _ _ _ (by decide) (by decide), hu.f hct]
  refine ⟨?_, ?_, ?_, ?_, fun hi lo h => ?_, ?_⟩
  · rw [hfs, h3, Dev.flag_shd, hus, h2, Dev.setF_shd, hks]
  · rw [hfr.f hst, h3, Dev.f_flag_apart _ F.SHD_CAL_STATUS.DONE F.SHD_CAL_STATUS.RESULT rfl (by decide) rfl (by decide) (.inr (by decide)), hu.f hst, h2,
      Dev.f_other _ _ _ _ _ _ _ _ (by decide), Dev.f_regs hkr, h1, Dev.f_apart _ _ _ _ _ _ _ (by decide) (by decide) (.inl (by decide)),
      Dev.f_apart _ _ _ _ _ _ _ (by decide) (by decide) (.inl (by decide))]
    exact Dev.f_same _ _ _ _ _ (by decide) (by decide)
  · rw [hfr.f hst, h3]
    exact Dev.f_flag_same _ _ _ (by decide) (by decide)
  · rw [hctl, h2]
    exact (Dev.f_same _ _ _ _ _ (by decide) (by decide)).trans (Nat.zero_mod _)
  · rw [hctl, h2, Dev.f_apart _ _ _ _ _ _ _ (by decide) (by decide) (.inl h), Dev.f_regs hkr, h1, Dev.f_other _ _ _ _ _ _ _ _ (by decide),
      Dev.f_other _ _ _ _ _ _ _ _ (by decide), Dev.f_other _ _ _ _ _ _ _ _ (by decide)]
  · refine Dev.RegsKept.trans ?_ (hfr.mono fun a h => h.1)
    rw [h3]
    refine Dev.RegsKept.flag ?_ _ (by decide) (fun h => h.2.2 rfl) fun h => shdReg_not_int h.1
    refine Dev.RegsKept.trans ?_ (hu.mono fun a h => h.1)
    rw [h2]
    refine Dev.RegsKept.setF (Dev.RegsKept.regs ?_ hkr) _ _ fun h => h.2.1 rfl
    rw [h1]
    exact (((Dev.RegsKept.refl _ d).setF _ _ fun h => h.2.2 rfl).setF _ _ fun h => h.2.2 rfl).setF _ _ fun h => h.2.2 rfl

/-- An operation that writes shading words and takes free values alone. -/
def Dev.RamOnly (d e : Dev) : Prop := e = { d with ram := e.ram, free := e.free }

theorem Dev.RamOnly.refl (d : Dev) : d.RamOnly d := rfl

theorem Dev.RamOnly.trans {d e g : Dev} (h : d.RamOnly e) (h' : e.RamOnly g) : d.RamOnly g := by
  unfold Dev.RamOnly at h h' ⊢
  rw [h', h]

theorem Dev.RamOnly.eq {d e : Dev} (h : d.RamOnly e) {α : Type} (p : Dev → α) (hp : ∀ r n, p { d with ram := r, free := n } = p d) : p e = p d := by
  unfold Dev.RamOnly at h
  rw [h]
  exact hp _ _

theorem Dev.RamOnly.setMem {d e : Dev} (h : d.RamOnly e) (a n v : Nat) : d.RamOnly (e.setMem a n v) := by
  refine h.trans ?_
  unfold Dev.setMem Dev.RamOnly
  rw [Dev.setBytes_eq]

theorem Dev.RamOnly.free {d e : Dev} (h : d.RamOnly e) (n : Nat) : d.RamOnly (e.freeNat n).2 := h.trans rfl

theorem Dev.RamOnly.foldl {α : Type} {f : Dev → α → Dev} (hf : ∀ (d : Dev) x, d.RamOnly (f d x)) (l : List α) {d e : Dev} (h : d.RamOnly e) :
    d.RamOnly (l.foldl f e) :=
  foldl_keeps (P := d.RamOnly) (fun e x he => he.trans (hf e x)) h

theorem Dev.commitWords_ramOnly (d : Dev) (b : Bar) (s : Nat) (m : Module) (p : Nat) (a : Option CalAcc) : d.RamOnly (d.commitWords b s m p a) := by
  unfold Dev.commitWords
  refine Dev.RamOnly.foldl (fun d j => ?_) _ (.refl d)
  split
  · split
    · exact ((Dev.RamOnly.refl d).setMem _ _ _).setMem _ _ _
    · exact ((Dev.RamOnly.refl d).free 32).setMem _ _ _
  · exact ((Dev.RamOnly.refl d).free 32).setMem _ _ _

theorem Dev.commitRefs_ramOnly (d : Dev) (s m p : Nat) (a : Option CalAcc) : d.RamOnly (d.commitRefs s m p a) := by
  unfold Dev.commitRefs
  split
  · exact ((Dev.RamOnly.refl d).setMem _ _ _).setMem _ _ _
  · exact ((((Dev.RamOnly.refl d).free 16).free 16).setMem _ _ _).setMem _ _ _

theorem Dev.commitSet_eq (d : Dev) (b : Bar) (c : ShadCal) : ∃ k, d.RamOnly k ∧ d.commitSet b c = k.putValid d.shadowSet true := by
  unfold Dev.commitSet
  extract_lets s d1 d2
  refine ⟨d2, ?_, rfl⟩
  refine Dev.RamOnly.foldl (fun d m => Dev.RamOnly.foldl (fun d p => ?_) _ (.refl d)) _ ?_
  · exact (d.commitWords_ramOnly _ _ _ _ _).trans (Dev.commitRefs_ramOnly _ _ _ _ _)
  · exact Dev.RamOnly.foldl (fun d i => (Dev.RamOnly.refl d).setMem _ _ _) _ (.refl d)

theorem Dev.setValid_putValid (d : Dev) (s : Nat) : (d.putValid s true).setValid s = true := by
  unfold Dev.setValid Dev.putValid
  split
  · exact Dev.on_one (Dev.f_same _ _ _ _ _ (by decide) (by decide))
  · exact Dev.on_one (Dev.f_same _ _ _ _ _ (by decide) (by decide))

theorem Dev.activeSet_putValid (d : Dev) (s : Nat) (v : Bool) : (d.putValid s v).activeSet = d.activeSet := by
  unfold Dev.activeSet Dev.putValid
  split
  · exact Dev.f_apart _ _ _ _ _ _ _ (by decide) (by decide) (.inl (by decide))
  · exact Dev.f_apart _ _ _ _ _ _ _ (by decide) (by decide) (.inl (by decide))

theorem Dev.setValid_congr {d e : Dev} (h : ∀ hi lo, 25 < lo → hi < 31 → e.f ⟨R.SHD_CTRL, hi, lo⟩ = d.f ⟨R.SHD_CTRL, hi, lo⟩) (s : Nat) :
    e.setValid s = d.setValid s := by
  unfold Dev.setValid Dev.on
  rw [h 27 27 (by decide) (by decide), h 26 26 (by decide) (by decide)]

theorem Dev.setValid_swap (d : Dev) (s : Nat) : d.swap.setValid s = d.setValid s := by
  obtain ⟨-, -, h, -, -, -⟩ := d.swap_spec'
  exact Dev.setValid_congr (fun hi lo h1 h2 => h hi lo (.inr ⟨h1, h2⟩)) s

theorem Dev.setValid_offerShadow (d : Dev) (s : Nat) : d.offerShadow.setValid s = d.setValid s := by
  unfold Dev.offerShadow
  split
  · rfl
  · split
    · rfl
    · exact d.setValid_swap s

/-- Multipliers set in turn: each of the list has the value, the others stay. -/
theorem Dev.mulReg_setMuls (l : List Nat) (d : Dev) {m p : Nat} (hp : p < 4) :
    (l.foldl (fun d i => d.setF (F.SHD_MOD_GAIN.M (i / 4) (i % 4)) 16384) d).mulReg m p =
      if 4 * m + p ∈ l then 16384 else d.mulReg m p := by
  induction l generalizing d with
  | nil => simp
  | cons i l ih =>
    rw [List.foldl_cons, ih]
    by_cases hmem : 4 * m + p ∈ l
    · simp [hmem]
    · rw [if_neg (by simp [hmem])]
      unfold Dev.mulReg
      by_cases hi : 4 * m + p = i
      · rw [if_pos (by simp [hi])]
        have h4 : i / 4 = m ∧ i % 4 = p := by omega
        rw [h4.1, h4.2]
        exact Dev.f_same _ _ _ _ _ (Nat.le_of_ble_eq_true rfl) (Nat.le_of_ble_eq_true rfl)
      · rw [if_neg (by simp [hi, hmem])]
        refine Dev.f_other _ _ _ _ _ _ _ _ ?_
        unfold R.SHD_MOD_GAIN
        omega

theorem Dev.resetMul_spec (d : Dev) : (∀ (m : Fin 64) (p : Fin 4), d.resetMul.mulReg m p = 16384) ∧
    (∀ hi lo, d.resetMul.f ⟨R.SHD_CTRL, hi, lo⟩ = d.f ⟨R.SHD_CTRL, hi, lo⟩) ∧ d.resetMul.shd = { d.shd with mNext := [] } := by
  obtain ⟨d1, h1⟩ : ∃ d1, d1 = (List.range 256).foldl (fun (d : Dev) i => d.setF (F.SHD_MOD_GAIN.M (i / 4) (i % 4)) 16384) d := ⟨_, rfl⟩
  obtain ⟨k, hk⟩ : ∃ k, k = { d1 with shd := { d1.shd with mNext := [] } } := ⟨_, rfl⟩
  have he : d.resetMul = k.ledWearAll := by
    rw [hk, h1]
    rfl
  have hkr : k.regs = d1.regs := by rw [hk]
  have hshd : d1.shd = d.shd := by
    rw [h1]
    exact foldl_keeps (P := fun e => e.shd = d.shd) (fun e n he => (Dev.setF_shd _ _ _).trans he) rfl
  have hks : k.shd = { d.shd with mNext := [] } := by rw [hk, hshd]
  obtain ⟨hls, hlr⟩ := k.ledWearAll_spec
  rw [he]
  refine ⟨fun m p => ?_, fun hi lo => ?_, hls.trans hks⟩
  · have ha : shdReg (R.SHD_MOD_GAIN m p) := by
      unfold shdReg R.SHD_MOD_GAIN
      omega
    unfold Dev.mulReg
    rw [hlr.f ha, Dev.f_regs hkr, h1]
    refine (Dev.mulReg_setMuls _ d p.2).trans (if_pos ?_)
    rw [List.mem_range]
    omega
  · have ha : shdReg R.SHD_CTRL := by unfold shdReg; decide
    rw [hlr.f ha, Dev.f_regs hkr, h1]
    refine Dev.RegsKept.f (S := fun a => a = R.SHD_CTRL) ((Dev.RegsKept.refl _ d).foldl fun e i _ => (Dev.RegsKept.refl _ e).setF _ _ ?_) rfl
    intro h
    change R.SHD_MOD_GAIN (i / 4) (i % 4) = R.SHD_CTRL at h
    unfold R.SHD_MOD_GAIN R.SHD_CTRL at h
    omega

/-- What a commit has left before the report: the set in the shadow, and with DEST = 0 its turn. -/
def Dev.committed (d : Dev) (b : Bar) (c : ShadCal) : Dev :=
  if bitOf c.cfg 30 then (d.commitSet b c).offerShadow else (d.commitSet b c).swap.resetMul

theorem Dev.committed_spec {d : Dev} {b : Bar} {c : ShadCal} {e : Dev} (he : e = d.committed b c) : e.setValid d.shadowSet = true ∧
    (bitOf c.cfg 30 = false → e.activeSet = d.shadowSet ∧ ∀ (m : Fin 64) (p : Fin 4), e.mulReg m p = 16384) := by
  obtain ⟨k, hk, hc⟩ := d.commitSet_eq b c
  obtain ⟨x, hx⟩ : ∃ x, x = d.commitSet b c := ⟨_, rfl⟩
  have hv : x.setValid d.shadowSet = true := by rw [hx, hc]; exact Dev.setValid_putValid _ _
  have hsh : x.shadowSet = d.shadowSet := by
    have hact : k.activeSet = d.activeSet := hk.eq Dev.activeSet fun _ _ => rfl
    unfold Dev.shadowSet
    rw [hx, hc, Dev.activeSet_putValid, hact]
  rw [Dev.committed, ← hx] at he
  by_cases h30 : bitOf c.cfg 30 = true
  · rw [if_pos h30] at he
    rw [he]
    exact ⟨(Dev.setValid_offerShadow _ _).trans hv, fun h => absurd (h30.symm.trans h) (by decide)⟩
  · rw [if_neg h30] at he
    obtain ⟨hm, hctl, -⟩ := x.swap.resetMul_spec
    rw [← he] at hm hctl
    refine ⟨(Dev.setValid_congr (fun hi lo _ _ => hctl hi lo) _).trans ((x.setValid_swap _).trans hv), fun _ => ⟨?_, hm⟩⟩
    exact (hctl 31 31).trans (x.swap_spec'.1.trans hsh)

theorem Dev.shadingCommit_eq {d : Dev} {c : ShadCal} {b : Bar} (hc : d.shd.cal = some c) (hb : d.bar = some b) (hp : c.phase = 4)
    (hh : d.holdsSet d.shadowSet = false) : d.shadingCommit =
      ((d.committed b c).setF F.SHD_CAL_DEFECTS.NEW_DEFECTS c.defects).calReport { c with result := 0 } := by
  unfold Dev.shadingCommit
  split
  case h_1 c' b' h1 h2 =>
    obtain rfl := Option.some.inj (hc.symm.trans h1)
    obtain rfl := Option.some.inj (hb.symm.trans h2)
    exact if_neg (by simp [hp, hh])
  case h_2 h => exact absurd hb (h c b hc)

theorem Dev.shadingCommit_spec {d : Dev} {c : ShadCal} {b : Bar} {e : Dev}
    (he : e = ((d.committed b c).setF F.SHD_CAL_DEFECTS.NEW_DEFECTS c.defects).calReport { c with result := 0 }) :
    e.f F.SHD_CAL_STATUS.RESULT = 0 ∧ e.f F.SHD_CAL_STATUS.DONE = 1 ∧ e.f F.SHD_CTRL.CAL_BUSY = 0 ∧ e.shd.cal = none ∧
    e.f F.SHD_CAL_DEFECTS.NEW_DEFECTS = c.defects % 2 ^ 20 ∧ e.setValid d.shadowSet = true ∧
    (bitOf c.cfg 30 = false → e.activeSet = d.shadowSet ∧ ∀ (m : Fin 64) (p : Fin 4), e.mulReg m p = 16384) := by
  obtain ⟨x, hx⟩ : ∃ x, x = d.committed b c := ⟨_, rfl⟩
  obtain ⟨hv, hmul⟩ := Dev.committed_spec hx
  rw [← hx] at he
  obtain ⟨hshd, hres, hdone, hbusy, hctl, hreg⟩ := Dev.calReport_spec _ _ he
  have hkeep (hi lo : Nat) (h : 23 < lo) : e.f ⟨R.SHD_CTRL, hi, lo⟩ = x.f ⟨R.SHD_CTRL, hi, lo⟩ :=
    (hctl hi lo h).trans (Dev.f_other _ _ _ _ _ _ _ _ (by decide))
  refine ⟨hres.trans (Nat.zero_mod _), hdone, hbusy, by rw [hshd], ?_, ?_, fun h => ⟨?_, fun m p => ?_⟩⟩
  · rw [hreg.f ⟨by unfold shdReg; decide, by decide, by decide⟩]
    exact Dev.f_same _ _ _ _ _ (by decide) (by decide)
  · exact (Dev.setValid_congr (fun hi lo h _ => hkeep hi lo (by omega)) _).trans hv
  · exact (hkeep 31 31 (by decide)).trans (hmul h).1
  · have ha : shdReg (R.SHD_MOD_GAIN m p) ∧ R.SHD_MOD_GAIN m p ≠ R.SHD_CTRL ∧ R.SHD_MOD_GAIN m p ≠ R.SHD_CAL_STATUS ∧
        R.SHD_MOD_GAIN m p ≠ R.SHD_CAL_DEFECTS := by
      unfold shdReg R.SHD_MOD_GAIN R.SHD_CTRL R.SHD_CAL_STATUS R.SHD_CAL_DEFECTS
      omega
    unfold Dev.mulReg
    rw [hreg.f ⟨ha.1, ha.2.1, ha.2.2.1⟩, Dev.f_other _ _ _ _ _ _ _ _ ha.2.2.2]
    exact (hmul h).2 m p

theorem Dev.shadingCommit_waits {d : Dev} (h : d.shd.cal = none ∨ ∃ c, d.shd.cal = some c ∧ (c.phase ≠ 4 ∨ d.holdsSet d.shadowSet = true)) :
    d.shadingCommit = d := by
  unfold Dev.shadingCommit
  split
  case h_1 c b hc hb =>
    rcases h with h | ⟨c', hc', h⟩
    · exact absurd (h.symm.trans hc) (by simp)
    · obtain rfl := Option.some.inj (hc'.symm.trans hc)
      exact if_pos h
  case h_2 => rfl

/-! ## SHADING_FULL: its start (R171, R172) -/

theorem Dev.shadingFull_refused {d : Dev} {n : Nat} (src : Src) (h : (d.modeIn [.calibrate] = false ∧ n = 1) ∨
    (d.modeIn [.calibrate] = true ∧ (d.bar = none ∧ n = 2 ∨
      (∃ b, d.bar = some b) ∧ (d.shd.cal ≠ none ∨ d.f F.SHD_CTRL.LOAD_BUSY = 1) ∧ n = 3))) :
    d.shadingFull src = d.complete src (stCode n) := by
  unfold Dev.shadingFull
  split
  case h_1 hb =>
    rcases h with ⟨hm, rfl⟩ | ⟨hm, ⟨-, rfl⟩ | ⟨⟨b, hb'⟩, -, -⟩⟩
    · rw [hm]; rfl
    · rw [hm]; rfl
    · exact absurd (hb'.symm.trans hb) (by simp)
  case h_2 b hb =>
    rcases h with ⟨hm, rfl⟩ | ⟨hm, ⟨hb', -⟩ | ⟨-, hr, rfl⟩⟩
    · rw [if_pos (by simp [hm])]
    · exact absurd (hb'.symm.trans hb) (by simp)
    · rw [if_neg (by simp [hm]), if_pos]
      unfold Dev.shadingRuns
      rcases hr with hr | hr
      · rw [Option.isSome_iff_ne_none.2 hr, Bool.true_or]
      · rw [Dev.on_one hr, Bool.or_true]

/-- The procedure that a SHADING_FULL starts with the registers as they are. -/
def Dev.startedCal (d : Dev) : ShadCal :=
  { run := d.nextRun, phase := 0, cfg := (d.reg R.SHD_CAL_CFG).toNat, white := (d.reg R.SHD_CAL_WHITE).toNat,
    spread := (d.reg R.SHD_CAL_SPREAD).toNat, darkCfg := (d.reg R.SHD_CAL_DARK).toNat,
    gainMax := d.f F.SHD_CAL_GAIN.GAIN_MAX, lines := 0, tag := d.codeTag, acc := [], activeAt6 := 0, result := 0,
    failModule := 0, failPlane := 0, defects := 0 }

def Bar.calCells (b : Bar) : Nat := ceilDiv (10 * sumN (b.mods.map (·.photosites)) * b.planeList.length) 4096

/-- The procedure runs and holds nothing yet. -/
def Dev.calStarted (d : Dev) (src : Src) : Dev := ((d.startRun src .shadingFull).setCal d.startedCal).setF F.SHD_CTRL.CAL_BUSY 1

theorem Dev.calStarted_spec (d : Dev) (src : Src) {k : Dev} (hk : k = d.calStarted src) :
    k.f F.SHD_CTRL.CAL_BUSY = 1 ∧ k.shd = { d.shd with cal := some d.startedCal } ∧
    k.running = d.running ++ [⟨d.nextRun, src, .shadingFull⟩] ∧ k.nextRun = d.nextRun + 1 ∧ k.sump = d.sump ∧ k.ctxs = d.ctxs ∧
    Dev.RegsKept (fun a => a ≠ R.SHD_CTRL) d k := by
  obtain ⟨j, hj⟩ : ∃ j, j = (d.startRun src .shadingFull).setCal d.startedCal := ⟨_, rfl⟩
  have hkj : k = j.setF F.SHD_CTRL.CAL_BUSY 1 := by rw [hk, hj]; rfl
  have hjr : j.regs = d.regs := by rw [hj]; rfl
  rw [hkj, Dev.setF_shd, Dev.setF_running, Dev.setF_nextRun, Dev.setF_sump, Dev.setF_ctxs, hj]
  refine ⟨Dev.f_same _ _ _ _ _ (by decide) (by decide), rfl, rfl, rfl, rfl, rfl, ?_⟩
  rw [← hj]
  exact ((Dev.RegsKept.refl _ d).regs hjr).setF _ _ fun h => h rfl

theorem Dev.calGrants_congr {d e : Dev} (hs : e.sump = d.sump) (hc : e.ctxs = d.ctxs) (hr : Dev.RegsKept (fun a => a ≠ R.SHD_CTRL) d e) (n : Nat) :
    e.calGrants n = d.calGrants n := by
  have hg (g : Nat) (h : g < 8) : e.groupReserve g = d.groupReserve g := hr.f (by
    show R.SMP_GRP_RESERVE g ≠ R.SHD_CTRL
    unfold R.SMP_GRP_RESERVE R.SHD_CTRL
    omega)
  have hm : (List.range 8).map (fun g => max (e.groupUse g) (e.groupReserve g)) = (List.range 8).map (fun g => max (d.groupUse g) (d.groupReserve g)) := by
    refine List.map_congr_left fun g h => ?_
    rw [hg g (List.mem_range.1 h), Dev.groupUse, Dev.groupUse, hs]
  unfold Dev.calGrants Dev.sumpFree Dev.ctxUseAll
  rw [hm, hs, hc]

theorem Dev.shadingFull_eq {d : Dev} (src : Src) {b : Bar} (hm : d.modeIn [.calibrate] = true) (hb : d.bar = some b) (hc : d.shd.cal = none)
    (hl : d.f F.SHD_CTRL.LOAD_BUSY = 0) (ht : d.f F.SHD_CAL_CFG.TILE_MOVE = 1) (hr : d.f (F.AXS_REF_STATUS.REFERENCED 5) = 1)
    (hg : d.calGrants b.calCells = true) : d.shadingFull src = { (d.calStarted src).setCalUse b.calCells with
      shd := { ((d.calStarted src).setCalUse b.calCells).shd with shutter := some true } } := by
  obtain ⟨-, -, -, -, hs, hx, hreg⟩ := d.calStarted_spec src rfl
  have hmove : bitOf (d.reg R.SHD_CAL_CFG).toNat 31 = true := by
    rw [bitOf_bitsOf]
    exact decide_eq_true ht
  have href : (d.calStarted src).on (F.AXS_REF_STATUS.REFERENCED 5) = true := by
    rw [hreg.on (by decide)]
    exact Dev.on_one hr
  have hgr : (d.calStarted src).calGrants b.calCells = true := (Dev.calGrants_congr hs hx hreg _).trans hg
  unfold Dev.shadingFull
  split
  case h_1 h => exact absurd (hb.symm.trans h) (by simp)
  case h_2 b' h =>
    obtain rfl := Option.some.inj (hb.symm.trans h)
    rw [if_neg (by simp [hm]), if_neg (by simp [Dev.shadingRuns, hc, Dev.on_zero hl])]
    extract_lets cfg move c k n k2 src2
    have hk : k = d.calStarted src := rfl
    have hn : n = b.calCells := rfl
    have hmv : move = true := hmove
    rw [if_neg (by rw [hk, href]; simp), if_neg (by rw [hk, hn, hgr]; simp), if_pos hmv]
    rfl

theorem Dev.shadingFull_spec {d : Dev} (src : Src) {n : Nat} {e : Dev} (he : e = { (d.calStarted src).setCalUse n with
      shd := { ((d.calStarted src).setCalUse n).shd with shutter := some true } }) : e.f F.SHD_CTRL.CAL_BUSY = 1 ∧ e.shd.shutter = some true ∧
    e.running = d.running ++ [⟨d.nextRun, src, .shadingFull⟩] ∧ e.nextRun = d.nextRun + 1 ∧ e.sump.cal = n ∧
    ∃ c, e.shd.cal = some c ∧ c.phase = 0 ∧ c.run = d.nextRun ∧ c.result = 0 := by
  obtain ⟨k, hk⟩ : ∃ k, k = d.calStarted src := ⟨_, rfl⟩
  obtain ⟨hbusy, hshd, hrun, hnext, -, -, -⟩ := d.calStarted_spec src hk
  obtain ⟨j, hj⟩ : ∃ j, j = k.setCalUse n := ⟨_, rfl⟩
  obtain ⟨hu, hus, huc, hur, hun⟩ := k.setCalUse_shd n
  rw [← hj] at hu hus huc hur hun
  rw [← hk, ← hj] at he
  have her : e.regs = j.regs := by rw [he]
  refine ⟨?_, by rw [he], by rw [he]; exact hur.trans hrun, by rw [he]; exact hun.trans hnext, by rw [he]; exact huc, d.startedCal, ?_, rfl, rfl, rfl⟩
  · rw [Dev.f_regs her, hu.f (by unfold shdReg; decide)]
    exact hbusy
  · rw [he]
    show j.shd.cal = _
    rw [hus, hshd]

/-- Settles O33. -/
theorem shadingLoadsAndLines : Obligations.ShadingLoadsAndLines := by
  refine ⟨fun s => ⟨fun ha => ⟨?_, ?_⟩, fun h => ?_, fun ha hg hv ht hr => ?_, fun m p => ⟨fun h => ?_, fun t ht => ⟨fun hn => ?_, fun hn h0 => ?_⟩⟩,
    fun rq m p v ha => ⟨fun hen hfree => ?_, fun hen => ?_⟩⟩, fun s => ⟨fun src => ⟨fun hm => ?_, fun hm => ⟨fun hb => ?_, fun b hb => ⟨fun hr => ?_,
    fun hc hl ht href hg => ?_⟩⟩⟩, fun h => ?_, fun c b hc hb => ⟨fun h => ?_, fun hp hh => ?_⟩⟩⟩
  · exact State.does (f := fun d => if d.awake then d.setF F.SHD_CTRL.SWAP_REQ 1 else d) rfl (if_pos ha)
  · exact State.does (f := fun d => if d.awake then d.setF F.SHD_CTRL.SWAP_REQ 0 else d) rfl (if_pos ha)
  · exact State.ignores (f := (·.disarmedSwap)) rfl (Dev.disarmedSwap_blocked h)
  · exact State.does (f := (·.disarmedSwap)) rfl (Dev.disarmedSwap_spec (Dev.disarmedSwap_swaps ha hg hv ht hr))
  · exact State.ignores (f := (·.trackUpdate m p)) rfl (Dev.trackUpdate_none h)
  · exact State.ignores (f := (·.trackUpdate m p)) rfl (Dev.trackUpdate_few ht hn)
  · refine State.does (f := (·.trackUpdate m p)) rfl ?_
    obtain ⟨ratio, hnext, hnone⟩ := Dev.trackUpdate_spec m.2 ht hn h0
    obtain ⟨hlo, hhi, hnear⟩ := s.dev.newMul_bounds t.m ratio
    rw [hnext]
    exact ⟨hlo, hhi, hnear, hnone⟩
  · refine State.does (f := fun d => if d.awake then d.mulWrite rq m p (v.toNat % 65536) else d) rfl ?_
    rw [if_pos ha, Dev.mulWrite, if_pos (Dev.on_one hen)]
    refine Dev.accessErr_discarded hfree _ ?_
    unfold R.SHD_MOD_GAIN
    omega
  · refine State.does (f := fun d => if d.awake then d.mulWrite rq m p (v.toNat % 65536) else d) rfl ?_
    rw [if_pos ha]
    exact Dev.mulWrite_spec rq m p _ hen (Nat.mod_lt _ (by decide)) rfl
  · refine State.does (f := (·.shadingFull src)) rfl ?_
    rw [Dev.shadingFull_refused src (.inl ⟨hm, rfl⟩)]
    exact Dev.complete_plain _ src 3 1 0 (by decide)
  · refine State.does (f := (·.shadingFull src)) rfl ?_
    rw [Dev.shadingFull_refused src (.inr ⟨hm, .inl ⟨hb, rfl⟩⟩)]
    exact Dev.complete_plain _ src 3 2 0 (by decide)
  · refine State.does (f := (·.shadingFull src)) rfl ?_
    rw [Dev.shadingFull_refused src (.inr ⟨hm, .inr ⟨⟨b, hb⟩, hr, rfl⟩⟩)]
    exact Dev.complete_plain _ src 3 3 0 (by decide)
  · exact State.does (f := (·.shadingFull src)) rfl (Dev.shadingFull_spec src (Dev.shadingFull_eq src hm hb hc hl ht href hg))
  · exact State.ignores (f := (·.shadingCommit)) rfl (Dev.shadingCommit_waits (.inl h))
  · exact State.ignores (f := (·.shadingCommit)) rfl (Dev.shadingCommit_waits (.inr ⟨c, hc, h⟩))
  · exact State.does (f := (·.shadingCommit)) rfl (Dev.shadingCommit_spec (Dev.shadingCommit_eq hc hb hp hh))

end Sys2Proof.Machine
end

section
/-! SUPPORT. Flash erased and programmed, the images it then holds, and STORE_WRITE of firmware and of the calibration store (spec
19_security_and_stores.md R469, R475, R476, R479). -/

namespace Sys2Proof.Machine

/-! ## Flash bytes -/

theorem Dev.flashByte_setFlash_one (d : Dev) (a : Nat) (x : Byte) (c : Nat) : (d.setFlash a [x]).flashByte c = if c = a then x else d.flashByte c :=
  spGet_spSet _ _ _ _

theorem Dev.flashByte_flashErase (d : Dev) (a n c : Nat) : (d.flashErase a n).flashByte c = if a ≤ c ∧ c < a + n then 0xFF else d.flashByte c := by
  refine (spGet_filter_key flashDflt d.flash (fun x => !(decide (a ≤ x) && decide (x < a + n))) c).trans ?_
  by_cases h : a ≤ c ∧ c < a + n
  · simp [h.1, h.2, flashDflt]
  · rw [if_neg h, if_pos]
    · rfl
    · have h' : c < a ∨ a + n ≤ c := by omega
      simpa using h'

theorem numbered_nil (a : Nat) : numbered a [] = [] := rfl

theorem numbered_cons (a : Nat) (x : Byte) (t : List Byte) : numbered a (x :: t) = (a, x) :: numbered (a + 1) t := by
  unfold numbered
  rw [List.length_cons, List.range_succ_eq_map, List.zip_cons_cons, List.map_cons, List.zip_map_left, List.map_map]
  refine congrArg₂ List.cons rfl (List.map_congr_left fun p _ => ?_)
  simp only [Function.comp_apply, Prod.map_fst, Prod.map_snd, id_eq, Prod.mk.injEq, and_true]
  omega

theorem mem_numbered {a : Nat} {b : List Byte} {p : Nat × Byte} (h : p ∈ numbered a b) : a ≤ p.1 ∧ p.1 < a + b.length := by
  induction b generalizing a with
  | nil => exact absurd h (by simp [numbered_nil])
  | cons x t ih =>
    rw [numbered_cons, List.mem_cons] at h
    rw [List.length_cons]
    rcases h with rfl | h
    · exact ⟨le_refl _, by simp⟩
    · have := ih h
      omega

theorem Dev.flashProgram_cons (d : Dev) (p : Nat × Byte) (l : List (Nat × Byte)) :
    d.flashProgram (p :: l) = (d.setFlash p.1 [p.2]).flashProgram l := rfl

theorem Dev.flashProgram_append (d : Dev) (l l' : List (Nat × Byte)) : d.flashProgram (l ++ l') = (d.flashProgram l).flashProgram l' :=
  List.foldl_append

/-- A byte whose address no programmed byte has stays. -/
theorem Dev.flashByte_flashProgram_out (d : Dev) (l : List (Nat × Byte)) {c : Nat} (h : ∀ p ∈ l, p.1 ≠ c) :
    (d.flashProgram l).flashByte c = d.flashByte c := by
  induction l generalizing d with
  | nil => rfl
  | cons p l ih =>
    rw [Dev.flashProgram_cons, ih _ fun q hq => h q (List.mem_cons_of_mem p hq), Dev.flashByte_setFlash_one,
      if_neg (h p List.mem_cons_self).symm]

theorem Dev.flashByte_flashProgram (d : Dev) (a : Nat) (b : List Byte) (c : Nat) (x : Byte) : (d.flashProgram (numbered a b)).flashByte c =
    if a ≤ c ∧ c < a + b.length then b.getD (c - a) x else d.flashByte c := by
  induction b generalizing d a with
  | nil => rw [numbered_nil, if_neg (by simp)]; rfl
  | cons y t ih =>
    rw [numbered_cons, Dev.flashProgram_cons, ih, Dev.flashByte_setFlash_one, List.length_cons]
    by_cases hc : c = a
    · rw [hc, if_neg (by omega), if_pos rfl, if_pos (by omega), Nat.sub_self]
      rfl
    · by_cases hin : a + 1 ≤ c ∧ c < a + 1 + t.length
      · rw [if_pos hin, if_pos (by omega), show c - a = (c - (a + 1)) + 1 by omega]
        rfl
      · rw [if_neg hin, if_neg hc, if_neg (by omega)]

/-- The flash of `e` holds `b` from address `a` on in a region of `n` bytes erased before; every other byte is that of `d`. -/
def Dev.FlashHolds (d e : Dev) (a n : Nat) (b : List Byte) : Prop :=
  ∀ c, e.flashByte c = if a ≤ c ∧ c < a + n then b.getD (c - a) 0xFF else d.flashByte c

theorem Dev.flashHolds_numbered (d : Dev) (a : Nat) {n : Nat} {b : List Byte} (h : b.length ≤ n) :
    d.FlashHolds ((d.flashErase a n).flashProgram (numbered a b)) a n b := by
  intro c
  rw [Dev.flashByte_flashProgram _ a b c 0xFF, Dev.flashByte_flashErase]
  by_cases h1 : a ≤ c ∧ c < a + b.length
  · rw [if_pos h1, if_pos (by omega)]
  · rw [if_neg h1]
    by_cases h2 : a ≤ c ∧ c < a + n
    · rw [if_pos h2, if_pos h2, List.getD_eq_default _ _ (by omega)]
    · rw [if_neg h2, if_neg h2]

/-- The journalled order leaves the same bytes. -/
theorem Dev.flashHolds_storeOrder (d : Dev) (a : Nat) {n : Nat} {b : List Byte} (h : b.length ≤ n) (h192 : 192 ≤ b.length) :
    d.FlashHolds ((d.flashErase a n).flashProgram (storeOrder a b)) a n b := by
  intro c
  have hl1 : (b.drop 192).length = b.length - 192 := List.length_drop
  have hl2 : ((b.drop 64).take 128).length = 128 := by
    rw [List.length_take, List.length_drop]
    omega
  have hl3 : (b.take 64).length = 64 := by
    rw [List.length_take]
    omega
  unfold storeOrder
  rw [Dev.flashProgram_append, Dev.flashProgram_append, Dev.flashByte_flashProgram _ _ _ _ 0xFF, Dev.flashByte_flashProgram _ _ _ _ 0xFF,
    Dev.flashByte_flashProgram _ _ _ _ 0xFF, Dev.flashByte_flashErase, hl1, hl2, hl3]
  by_cases h3 : a ≤ c ∧ c < a + 64
  · rw [if_pos h3, if_pos (by omega), List.getD_eq_getElem?_getD, List.getD_eq_getElem?_getD, List.getElem?_take_of_lt (by omega)]
  rw [if_neg h3]
  by_cases h2 : a + 64 ≤ c ∧ c < a + 64 + 128
  · rw [if_pos h2, if_pos (by omega), List.getD_eq_getElem?_getD, List.getD_eq_getElem?_getD, List.getElem?_take_of_lt (by omega),
      List.getElem?_drop, show 64 + (c - (a + 64)) = c - a by omega]
  rw [if_neg h2]
  by_cases h1 : a + 192 ≤ c ∧ c < a + 192 + (b.length - 192)
  · rw [if_pos h1, if_pos (by omega), List.getD_eq_getElem?_getD, List.getD_eq_getElem?_getD, List.getElem?_drop,
      show 192 + (c - (a + 192)) = c - a by omega]
  rw [if_neg h1]
  by_cases h0 : a ≤ c ∧ c < a + n
  · rw [if_pos h0, if_pos h0, List.getD_eq_default _ _ (by omega)]
  · rw [if_neg h0, if_neg h0]

theorem mem_storeOrder {a : Nat} {b : List Byte} {p : Nat × Byte} (h192 : 192 ≤ b.length) (h : p ∈ storeOrder a b) :
    a ≤ p.1 ∧ p.1 < a + b.length := by
  unfold storeOrder at h
  rw [List.mem_append, List.mem_append] at h
  rcases h with (h | h) | h
  · have h1 := mem_numbered h
    rw [List.length_drop] at h1
    omega
  · have h1 := mem_numbered h
    rw [List.length_take, List.length_drop] at h1
    omega
  · have h1 := mem_numbered h
    rw [List.length_take] at h1
    omega

/-- A write cut short leaves what lies outside its region. -/
theorem Dev.flashByte_cutWrite (d : Dev) {a n k c : Nat} {l : List (Nat × Byte)} (hl : ∀ p ∈ l, a ≤ p.1 ∧ p.1 < a + n) (h : c < a ∨ a + n ≤ c) :
    ((d.flashErase a n).flashProgram (l.take k)).flashByte c = d.flashByte c := by
  rw [Dev.flashByte_flashProgram_out, Dev.flashByte_flashErase, if_neg (by omega)]
  intro p hp
  have := hl p (List.mem_of_mem_take hp)
  omega

/-! ## What stays beside the flash -/

/-- `e` is `d` but for its flash. -/
def Dev.FlashOnly (d e : Dev) : Prop := e = { d with flash := e.flash }

theorem Dev.flashErase_only (d : Dev) (a n : Nat) : d.FlashOnly (d.flashErase a n) := rfl

theorem Dev.flashProgram_only (d : Dev) (l : List (Nat × Byte)) : d.FlashOnly (d.flashProgram l) := by
  induction l generalizing d with
  | nil => rfl
  | cons p l ih =>
    have h : d.FlashOnly (d.setFlash p.1 [p.2]) := rfl
    have h' := ih (d.setFlash p.1 [p.2])
    unfold Dev.FlashOnly at h h' ⊢
    rw [Dev.flashProgram_cons, h', h]

theorem Dev.FlashOnly.trans {d e g : Dev} (h : d.FlashOnly e) (h' : e.FlashOnly g) : d.FlashOnly g := by
  unfold Dev.FlashOnly at h h' ⊢
  rw [h', h]

theorem Dev.FlashOnly.eq {d e : Dev} (h : d.FlashOnly e) {α : Type} (p : Dev → α) (hp : ∀ l, p { d with flash := l } = p d) : p e = p d := by
  unfold Dev.FlashOnly at h
  rw [h]
  exact hp _

theorem Dev.written_only (d : Dev) (a n : Nat) (l : List (Nat × Byte)) : d.FlashOnly ((d.flashErase a n).flashProgram l) :=
  (d.flashErase_only a n).trans (Dev.flashProgram_only _ l)

/-! ## Images in the flash -/

theorem Dev.flashBytes_eq {d : Dev} {a n : Nat} {b : List Byte} (hn : n ≤ b.length) (h : ∀ i < n, d.flashByte (a + i) = b.getD i 0xFF) :
    d.flashBytes a n = b.take n := by
  induction n generalizing a b with
  | zero => rfl
  | succ n ih =>
    cases b with
    | nil => exact absurd hn (by simp)
    | cons x t =>
      have h0 : d.flashByte a = x := h 0 (Nat.succ_pos n)
      rw [Dev.flashBytes, h0, List.take_succ_cons, ih (Nat.le_of_succ_le_succ hn) fun i hi => ?_]
      have h1 := h (i + 1) (Nat.succ_lt_succ hi)
      rw [show a + 1 + i = a + (i + 1) by omega, h1]
      rfl

theorem Dev.FlashHolds.bytes {d e : Dev} {a n : Nat} {b : List Byte} (h : d.FlashHolds e a n b) {o k : Nat} (hb : o + k ≤ b.length)
    (hn : b.length ≤ n) : e.flashBytes (a + o) k = (b.drop o).take k := by
  refine Dev.flashBytes_eq (by rw [List.length_drop]; omega) fun i hi => ?_
  rw [h, if_pos (by omega), show a + o + i - a = o + i by omega, List.getD_eq_getElem?_getD, List.getD_eq_getElem?_getD, List.getElem?_drop]

theorem bufNat_take (b : List Byte) {o n k : Nat} (h : o + n ≤ k) : bufNat (b.take k) o n = bufNat b o n := by
  unfold bufNat
  rw [List.drop_take, List.take_take, Nat.min_eq_left (by omega)]

theorem zeros_take (b : List Byte) {o n k : Nat} (h : o + n ≤ k) : zeros (b.take k) o n = zeros b o n := by
  unfold zeros
  rw [List.drop_take, List.take_take, Nat.min_eq_left (by omega)]

theorem imgHeaderOk_take (b : List Byte) {k : Nat} (h : 64 ≤ k) : imgHeaderOk (b.take k) = imgHeaderOk b := by
  unfold imgHeaderOk
  rw [bufNat_take b (by omega), bufNat_take b (by omega), bufNat_take b (by omega), bufNat_take b (by omega), bufNat_take b (by omega),
    bufNat_take b (by omega), bufNat_take b (by omega), zeros_take b (by omega), zeros_take b (by omega)]

/-- An image that passes R469 and its length. -/
structure FwImage (o : Otp) (len : Nat) (b : List Byte) : Prop where
  check : o.imgCheck b = 1
  header : imgHeaderOk b = true
  length : b.length = 256 + bufNat b 8 4
  fits : b.length ≤ 0x400000

theorem imgCode_ne_zero {r : Nat} (h : r ≠ 1) (k : Bool) : imgCode r k ≠ 0 := by
  unfold imgCode
  rw [if_neg h]
  repeat' split
  all_goals decide

theorem Otp.imgHeaderOk_of_check {o : Otp} {b : List Byte} (h : o.imgCheck b = 1) : imgHeaderOk b = true := by
  unfold Otp.imgCheck at h
  extract_lets dg at h
  by_contra hb
  rw [if_pos (by simpa using hb)] at h
  exact absurd h (by decide)

theorem imgHeaderOk_length {b : List Byte} (h : imgHeaderOk b = true) : bufNat b 8 4 ≤ 4194048 := by
  unfold imgHeaderOk at h
  simp only [Bool.and_eq_true, decide_eq_true_eq] at h
  omega

theorem Otp.fwImage_of_code {o : Otp} {len : Nat} {b : List Byte} (h : o.fwCode len b = 0) : FwImage o len b := by
  unfold Otp.fwCode at h
  split at h
  case isTrue => exact absurd h (by decide)
  case isFalse hl =>
    have hc : o.imgCheck b = 1 := by
      by_contra hc
      exact imgCode_ne_zero hc _ h
    have hh := Otp.imgHeaderOk_of_check hc
    have hb := imgHeaderOk_length hh
    exact ⟨hc, hh, by omega, by omega⟩

/-- Flash that holds an image gives it back. -/
theorem Dev.FlashHolds.image {d e : Dev} {o : Otp} {slot len : Nat} {b : List Byte} (h : d.FlashHolds e (imageBase slot) 0x400000 b)
    (hb : FwImage o len b) : e.flashImage slot = b := by
  have hl := hb.length
  have h1 : e.flashBytes (imageBase slot) 256 = b.take 256 := by
    have := h.bytes (o := 0) (k := 256) (by omega) hb.fits
    simpa using this
  have h2 : e.flashBytes (imageBase slot + 256) (bufNat b 8 4) = (b.drop 256).take (bufNat b 8 4) := h.bytes (by omega) hb.fits
  unfold Dev.flashImage
  dsimp only
  rw [h1, imgHeaderOk_take b (by decide), hb.header, bufNat_take b (by decide), if_pos rfl, h2,
    List.take_of_length_le (l := b.drop 256) (by rw [List.length_drop]; omega), List.take_append_drop]

/-! ## STORE_WRITE FIRMWARE -/

theorem Dev.storeReport_ok (d : Dev) (src : Src) (len : Nat) : d.storeReport src 0 len = d.complete src { c := len } := rfl

theorem Dev.storeReport_answered (d : Dev) (src : Src) (len : Nat) :
    d.Answered (d.storeReport src 0 len) (d.ring src) (cmdCpl src { c := len }) := d.complete_answered src { c := len }

theorem Dev.storeReport_code (d : Dev) (src : Src) {c : Nat} (hc : c ≠ 0) : d.Answered (d.storeReport src c 0) (d.ring src) (plainCpl src 3 c 0) := by
  unfold Dev.storeReport
  rw [if_neg hc]
  exact d.complete_plain src 3 c 0 (by decide)

theorem Dev.storeRefused_none {d : Dev} (hm : d.modeIn [.standby, .calibrate, .service] = true) (hw : d.f F.SEC_STORE_STATUS.WRITING = 0) :
    d.storeRefused = none := by
  unfold Dev.storeRefused
  rw [if_neg (by simp [hm]), if_neg (by simp [Dev.on_zero hw])]

theorem Dev.storeRefused_mode {d : Dev} (hm : d.modeIn [.standby, .calibrate, .service] = false) : d.storeRefused = some 1 := by
  unfold Dev.storeRefused
  rw [if_pos (by simp [hm])]

theorem Dev.storeRefused_writing {d : Dev} (hm : d.modeIn [.standby, .calibrate, .service] = true) (hw : d.f F.SEC_STORE_STATUS.WRITING = 1) :
    d.storeRefused = some 2 := by
  unfold Dev.storeRefused
  rw [if_neg (by simp [hm]), if_pos (Dev.on_one hw)]

theorem Dev.storeRefused_emit (d : Dev) (o : Out) : (d.emit o).storeRefused = d.storeRefused := rfl

/-- The two images that STORE_WRITE takes into the flash. -/
def Dev.writeImage (firmware : Bool) (src : Src) (len : Nat) (img : HostRead) (fe : FlashEnd) (d : Dev) : Dev :=
  if firmware then d.writeFirmware src len img fe else d.writeCalStore src len img fe

theorem Dev.writeImage_refused {d : Dev} {c : Nat} (h : d.storeRefused = some c) (fw : Bool) (src : Src) (len : Nat) (img : HostRead) (fe : FlashEnd) :
    d.writeImage fw src len img fe = d.storeReport src c 0 := by
  unfold Dev.writeImage Dev.writeFirmware Dev.writeCalStore
  rw [h]
  exact ite_self _

theorem Dev.writeImage_unread {d : Dev} (h : d.storeRefused = none) (fw : Bool) (src : Src) (len : Nat) (fe : FlashEnd) :
    d.writeImage fw src len .error fe = d.storeReport src 4 0 := by
  unfold Dev.writeImage Dev.writeFirmware Dev.writeCalStore
  rw [h]
  exact ite_self _

/-- The slot that firmware goes to: the one that does not run. -/
def Dev.freeImage (d : Dev) : Nat := match d.sec.image with | some i => 1 - i.slot | none => 0

theorem Dev.writeFirmware_rejected {d : Dev} (h : d.storeRefused = none) {len : Nat} {b : List Byte} (hc : d.otp.fwCode len b ≠ 0) (src : Src)
    (fe : FlashEnd) : d.writeFirmware src len (.data b) fe = d.storeReport src (d.otp.fwCode len b) 0 := by
  unfold Dev.writeFirmware
  rw [h]
  exact if_pos hc

theorem Dev.writeFirmware_lost {d : Dev} (h : d.storeRefused = none) {len : Nat} {b : List Byte} (hc : d.otp.fwCode len b = 0) (src : Src) (n : Nat) :
    d.writeFirmware src len (.data b) (.lost n) = ((d.flashErase (imageBase d.freeImage) 0x400000).flashProgram
      ((numbered (imageBase d.freeImage) b).take n)).setF F.SEC_STORE_STATUS.WRITING 1 := by
  unfold Dev.writeFirmware
  rw [h]
  exact if_neg (fun hn => hn hc)

theorem Dev.writeFirmware_timeout {d : Dev} (h : d.storeRefused = none) {len : Nat} {b : List Byte} (hc : d.otp.fwCode len b = 0) (src : Src) (n : Nat) :
    d.writeFirmware src len (.data b) (.timeout n) = ((d.flashErase (imageBase d.freeImage) 0x400000).flashProgram
      ((numbered (imageBase d.freeImage) b).take n)).storeReport src 0x0D 0 := by
  unfold Dev.writeFirmware
  rw [h]
  exact if_neg (fun hn => hn hc)

theorem Dev.writeFirmware_done {d : Dev} (h : d.storeRefused = none) {len : Nat} {b : List Byte} (hc : d.otp.fwCode len b = 0) (src : Src) {m : Dev}
    (hm : m = (d.flashErase (imageBase d.freeImage) 0x400000).flashProgram (numbered (imageBase d.freeImage) b)) :
    d.writeFirmware src len (.data b) .done = m.storeReport src 0 len := by
  have hb := Otp.fwImage_of_code hc
  have himg : m.flashImage d.freeImage = b := by
    rw [hm]
    exact (d.flashHolds_numbered _ hb.fits).image hb
  have hotp : m.otp = d.otp := by
    rw [hm]
    exact (d.written_only _ _ _).eq Dev.otp fun _ => rfl
  have hok : m.otp.imgCheck (m.flashImage d.freeImage) = 1 := by rw [himg, hotp, hb.check]
  unfold Dev.writeFirmware
  rw [h]
  refine (if_neg (fun hn => hn hc)).trans ?_
  unfold Dev.flashWrite
  dsimp only
  subst hm
  exact if_pos hok

theorem imageBase_freeImage (d : Dev) : imageBase d.freeImage =
    (match d.sec.image with | some x => if x.slot = 0 then 0x400000 else 0 | none => 0) := by
  unfold imageBase Dev.freeImage
  split
  case h_1 x hx =>
    split
    case isTrue h0 => rw [h0]
    case isFalse h0 => rw [show 1 - x.slot = 0 by omega, Nat.zero_mul]
  case h_2 hx => exact Nat.zero_mul _

/-! ## STORE_WRITE CAL_STORE -/

/-- A calibration store that passes R475 and its length. -/
structure CalImage (o : Otp) (b : List Byte) : Prop where
  check : o.storeCheck b = 0
  length : b.length = storeLen b
  long : 192 ≤ b.length
  fits : b.length ≤ 0x100000

theorem Otp.storeHeaderOk_of_check {o : Otp} {b : List Byte} (h : o.storeCheck b = 0) : storeHeaderOk b = true := by
  unfold Otp.storeCheck at h
  extract_lets s at h
  by_contra hb
  rw [if_pos (by simpa using hb)] at h
  exact absurd h (by decide)

theorem storeHeaderOk_length {b : List Byte} (h : storeHeaderOk b = true) : 192 ≤ storeLen b ∧ storeLen b ≤ 1048576 := by
  unfold storeHeaderOk at h
  extract_lets s at h
  simp only [Bool.and_eq_true, decide_eq_true_eq] at h
  obtain ⟨⟨⟨⟨-, hlo, hhi⟩, -⟩, -⟩, -⟩ := h
  refine ⟨le_trans ?_ hlo, hhi⟩
  split <;> decide

theorem Dev.calImage_of_code {d : Dev} {len : Nat} {b : List Byte} (h : d.storeCode len b = 0) : CalImage d.otp b := by
  unfold Dev.storeCode at h
  extract_lets inForce at h
  split at h
  case isTrue => exact absurd h (by decide)
  case isFalse hl =>
    split at h
    case isTrue hc => exact absurd h hc
    case isFalse hc =>
      have hc' := not_not.1 hc
      obtain ⟨hlo, hhi⟩ := storeHeaderOk_length (Otp.storeHeaderOk_of_check hc')
      exact ⟨hc', by omega, by omega, by omega⟩

theorem Dev.FlashHolds.store {d e : Dev} {o : Otp} {slot : Nat} {b : List Byte} (h : d.FlashHolds e (storeBase slot) 0x100000 b)
    (hb : CalImage o b) : e.flashStore slot = b := by
  have hl := hb.length
  have h192 := hb.long
  have h1 : e.flashBytes (storeBase slot) 192 = b.take 192 := by
    have := h.bytes (o := 0) (k := 192) (by omega) hb.fits
    simpa using this
  have h2 : e.flashBytes (storeBase slot + 192) (storeLen b - 192) = (b.drop 192).take (storeLen b - 192) := h.bytes (by omega) hb.fits
  have h3 : storeLen (b.take 192) = storeLen b := bufNat_take b (by decide)
  have hfits := hb.fits
  unfold Dev.flashStore
  dsimp only
  rw [h1, h3, if_pos (by omega), h2, List.take_of_length_le (l := b.drop 192) (by rw [List.length_drop]; omega), List.take_append_drop]

/-- The slot that a calibration store goes to: the one not in force. -/
def Dev.freeStore (d : Dev) : Nat := match d.sec.store with | some x => 1 - x.slot | none => 0

theorem Dev.writeCalStore_rejected {d : Dev} (h : d.storeRefused = none) {len : Nat} {b : List Byte} (hc : d.storeCode len b ≠ 0) (src : Src)
    (fe : FlashEnd) : d.writeCalStore src len (.data b) fe = d.storeReport src (d.storeCode len b) 0 := by
  unfold Dev.writeCalStore
  rw [h]
  exact if_pos hc

theorem Dev.writeCalStore_lost {d : Dev} (h : d.storeRefused = none) {len : Nat} {b : List Byte} (hc : d.storeCode len b = 0) (src : Src) (n : Nat) :
    d.writeCalStore src len (.data b) (.lost n) = ((d.flashErase (storeBase d.freeStore) 0x100000).flashProgram
      ((storeOrder (storeBase d.freeStore) b).take n)).setF F.SEC_STORE_STATUS.WRITING 1 := by
  unfold Dev.writeCalStore
  rw [h]
  exact if_neg (fun hn => hn hc)

/-- What a calibration store in force shows. -/
def calSlot (slot : Nat) (b : List Byte) : StoreSlot := ⟨slot, storeSeq b, storeLen b, part b 96 64⟩

/-- After the read back: a valid store comes into force. -/
def Dev.storeTaken (src : Src) (len : Nat) (m : Dev) (slot : Nat) : Dev :=
  match m.storeOf slot with
  | some x => (m.setSec { m.sec with store := some x }).secRefresh.storeReport src 0 len
  | none => m.storeReport src 0x0E 0

/-- How a write of the calibration store ends, from what the flash answered. -/
def Dev.storeWritten (src : Src) (len slot : Nat) (r : Dev × Option Bool) : Dev :=
  match r.2 with
  | none => r.1.setF F.SEC_STORE_STATUS.WRITING 1
  | some false => r.1.storeReport src 0x0D 0
  | some true => Dev.storeTaken src len r.1 slot

theorem Dev.writeCalStore_eq {d : Dev} (h : d.storeRefused = none) {len : Nat} {b : List Byte} (hc : d.storeCode len b = 0) (src : Src) (fe : FlashEnd) :
    d.writeCalStore src len (.data b) fe = Dev.storeWritten src len d.freeStore
      (d.flashWrite (storeBase d.freeStore) 0x100000 (storeOrder (storeBase d.freeStore) b) fe) := by
  unfold Dev.writeCalStore
  rw [h]
  exact if_neg (fun hn => hn hc)

theorem Dev.storeWritten_done (src : Src) (len slot : Nat) (m : Dev) : Dev.storeWritten src len slot (m, some true) = Dev.storeTaken src len m slot := rfl

theorem Dev.storeTaken_some (src : Src) (len : Nat) {m : Dev} {slot : Nat} {x : StoreSlot} (h : m.storeOf slot = some x) :
    Dev.storeTaken src len m slot = (m.setSec { m.sec with store := some x }).secRefresh.storeReport src 0 len := by
  unfold Dev.storeTaken
  rw [h]

theorem Dev.flashWrite_done (d : Dev) (a n : Nat) (l : List (Nat × Byte)) : d.flashWrite a n l .done = ((d.flashErase a n).flashProgram l, some true) := by
  rw [Dev.flashWrite]

theorem Dev.writeCalStore_done {d : Dev} (h : d.storeRefused = none) {len : Nat} {b : List Byte} (hc : d.storeCode len b = 0) (src : Src) {m : Dev}
    (hm : m = (d.flashErase (storeBase d.freeStore) 0x100000).flashProgram (storeOrder (storeBase d.freeStore) b)) :
    d.writeCalStore src len (.data b) .done = (m.setSec { m.sec with store := some (calSlot d.freeStore b) }).secRefresh.storeReport src 0 len := by
  have hb := Dev.calImage_of_code hc
  have himg : m.flashStore d.freeStore = b := by
    rw [hm]
    exact (d.flashHolds_storeOrder _ hb.fits hb.long).store hb
  have hotp : m.otp = d.otp := by
    rw [hm]
    exact (d.written_only _ _ _).eq Dev.otp fun _ => rfl
  have hof : m.storeOf d.freeStore = some (calSlot d.freeStore b) := by
    unfold Dev.storeOf
    dsimp only
    rw [himg, hotp, if_pos hb.check]
    rfl
  have hfw : d.flashWrite (storeBase d.freeStore) 0x100000 (storeOrder (storeBase d.freeStore) b) .done = (m, some true) :=
    (Dev.flashWrite_done _ _ _ _).trans (congrArg (fun x => (x, some true)) hm.symm)
  rw [Dev.writeCalStore_eq h hc, hfw, Dev.storeWritten_done]
  exact Dev.storeTaken_some src len hof

/-! ## The store in force as the status registers show it -/

theorem Dev.secRefresh_store (d : Dev) {x : StoreSlot} (hx : d.sec.store = some x) : d.secRefresh.f F.SEC_STORE_STATUS.VALID = 1 ∧
    d.secRefresh.f F.SEC_STORE_STATUS.SLOT = x.slot % 2 ∧ d.secRefresh.f F.SEC_STORE_SEQ.SEQ = x.seq % 2 ^ 32 := by
  obtain ⟨e, he⟩ : ∃ e, e = d.secRefresh := ⟨_, rfl⟩
  rw [← he]
  unfold Dev.secRefresh at he
  extract_lets o d1 d2 d3 d4 d5 d6 at he
  have hr : d.RegsTo d4 := ((((((((((((Dev.RegsTo.refl d).setB _ _).setB _ _).setB _ _).setB _ _).setB _ _).setB _ _).setF _ _)).setF _ _).setF _ _).setB
    _ _).setF _ _
  have hs : d4.sec = d.sec := hr.eq Dev.sec fun _ => rfl
  have h5 : d5 = (d4.setB F.SEC_STORE_STATUS.VALID true).setF F.SEC_STORE_STATUS.SLOT x.slot := by
    show (d4.setB F.SEC_STORE_STATUS.VALID d4.sec.store.isSome).setF F.SEC_STORE_STATUS.SLOT (match d4.sec.store with | some x => x.slot | none => 0) = _
    rw [hs, hx]
    rfl
  have h6 : d6 = d5.setF F.SEC_STORE_SEQ.SEQ x.seq := by
    show d5.setF F.SEC_STORE_SEQ.SEQ (match d5.sec.store with | some x => x.seq | none => 0) = _
    rw [show d5.sec = d.sec by rw [h5, Dev.setF_sec, Dev.setB, Dev.setF_sec, hs], hx]
  have ho := d6.tstRefresh_only
  rw [← he] at ho
  clear_value d6 d5 d4
  refine ⟨(ho.f _ (by decide)).trans ?_, (ho.f _ (by decide)).trans ?_, (ho.f _ (by decide)).trans ?_⟩
  · rw [h6, Dev.f_other _ _ _ _ _ _ _ _ (by decide), h5, Dev.f_apart _ _ _ _ _ _ _ (by decide) (by decide) (by decide)]
    exact Dev.f_same _ _ _ _ _ (by decide) (by decide)
  · rw [h6, Dev.f_other _ _ _ _ _ _ _ _ (by decide), h5]
    exact Dev.f_same _ _ _ _ _ (by decide) (by decide)
  · rw [h6]
    exact Dev.f_same _ _ _ _ _ (by decide) (by decide)

theorem Dev.writeCalStore_spec {d : Dev} (h : d.storeRefused = none) {len : Nat} {b : List Byte} (hc : d.storeCode len b = 0) (src : Src) :
    ∃ m : Dev, d.FlashHolds m (storeBase d.freeStore) 0x100000 b ∧ m.sec = { d.sec with store := some (calSlot d.freeStore b) } ∧
      m.f F.SEC_STORE_STATUS.VALID = 1 ∧ m.f F.SEC_STORE_STATUS.SLOT = d.freeStore % 2 ∧ m.f F.SEC_STORE_SEQ.SEQ = bufNat b 8 4 ∧
      m = { d with flash := m.flash, sec := m.sec, regs := m.regs } ∧
      m.Answered (d.writeCalStore src len (.data b) .done) (m.ring src) (cmdCpl src { c := len }) := by
  have hb := Dev.calImage_of_code hc
  obtain ⟨w, hw⟩ : ∃ w, w = (d.flashErase (storeBase d.freeStore) 0x100000).flashProgram (storeOrder (storeBase d.freeStore) b) := ⟨_, rfl⟩
  have hwo : d.FlashOnly w := hw ▸ d.written_only _ _ _
  have hws : w.sec = d.sec := hwo.eq Dev.sec fun _ => rfl
  obtain ⟨x, hx⟩ : ∃ x, x = w.setSec { w.sec with store := some (calSlot d.freeStore b) } := ⟨_, rfl⟩
  have hxs : x.sec = { d.sec with store := some (calSlot d.freeStore b) } := by rw [hx, Dev.sec_setSec, hws]
  have hxf : x.flash = w.flash := by rw [hx]; rfl
  obtain ⟨hto, -⟩ := x.secRefresh_status
  obtain ⟨hv, hs, hq⟩ := x.secRefresh_store (x := calSlot d.freeStore b) (by rw [hxs])
  obtain ⟨m, hm⟩ : ∃ m, m = x.secRefresh := ⟨_, rfl⟩
  rw [← hm] at hto hv hs hq
  have hmf : m.flash = w.flash := (hto.eq Dev.flash fun _ => rfl).trans hxf
  refine ⟨m, fun c => ?_, (hto.eq Dev.sec fun _ => rfl).trans hxs, hv, hs, ?_, ?_, ?_⟩
  · rw [← d.flashHolds_storeOrder (storeBase d.freeStore) hb.fits hb.long c, ← hw]
    unfold Dev.flashByte
    rw [hmf]
  · refine hq.trans (Nat.mod_eq_of_lt ?_)
    refine lt_of_lt_of_le (leNat_lt _) (Nat.pow_le_pow_right (by decide) ?_ : 256 ^ _ ≤ 256 ^ 4)
    rw [List.length_take]
    exact Nat.min_le_left _ _
  · have h1 : m = { x with regs := m.regs } := hto
    have h2 : w = { d with flash := w.flash } := hwo
    have h3 : x = { d with flash := w.flash, sec := x.sec } := by
      have h4 : x = { w with sec := x.sec } := by rw [hx]; rfl
      rw [h4]
      conv_lhs => rw [h2]
    rw [hmf, hto.eq Dev.sec fun _ => rfl, h1]
    conv_lhs => rw [h3]
  · rw [Dev.writeCalStore_done h hc src hw, ← hx, ← hm]
    exact m.storeReport_answered src len

/-! ## The commands -/

theorem Dev.invalidField_plain (d : Dev) (src : Src) (w : Nat) (h : w < 2 ^ 24) :
    d.Answered (d.complete src (stInvalidField w)) (d.ring src) (plainCpl src 2 0 w) :=
  d.complete_plain src 2 0 w h

theorem Dev.storeCmd_odd {d : Dev} {addr : Nat} (h : addr % 8 ≠ 0) (src : Src) (len : Nat) (f : Dev → Dev) :
    d.storeCmd src addr len f = d.complete src (stInvalidField 2) := if_pos h

theorem Dev.storeCmd_refused {d : Dev} {addr c : Nat} (h : addr % 8 = 0) (hr : d.storeRefused = some c) (src : Src) (len : Nat) (f : Dev → Dev) :
    d.storeCmd src addr len f = f d := by
  unfold Dev.storeCmd
  rw [if_neg (not_not.2 h), hr]
  rfl

theorem Dev.storeCmd_reads {d : Dev} {addr : Nat} (h : addr % 8 = 0) (hr : d.storeRefused = none) (src : Src) (len : Nat) (f : Dev → Dev) :
    d.storeCmd src addr len f = f (d.emit (.hostRead addr len)) := by
  unfold Dev.storeCmd
  rw [if_neg (not_not.2 h), hr]
  rfl

/-- STORE_WRITE of an image, turned away before or by its read. -/
theorem storeWrite_turnedAway {s : State} {i : Instr} {fw : Bool} {src : Src} {addr len : Nat} {img : HostRead} {fe : FlashEnd}
    (hi : exec i s = s.lift (·.storeCmd src addr len (Dev.writeImage fw src len img fe))) :
    (addr % 8 ≠ 0 → s.Ends i src (plainCpl src 2 0 2) s.dev) ∧
      (addr % 8 = 0 →
        (s.dev.modeIn [.standby, .calibrate, .service] = false → s.Ends i src (plainCpl src 3 1 0) s.dev) ∧
        (s.dev.modeIn [.standby, .calibrate, .service] = true → s.dev.f F.SEC_STORE_STATUS.WRITING = 1 →
          s.Ends i src (plainCpl src 3 2 0) s.dev) ∧
        (s.dev.modeIn [.standby, .calibrate, .service] = true → s.dev.f F.SEC_STORE_STATUS.WRITING = 0 → img = .error →
          s.Ends i src (plainCpl src 3 4 0) { s.dev with out := s.dev.out ++ [.hostRead addr len] })) := by
  refine ⟨fun ha => State.does hi ?_, fun ha => ⟨fun hm => State.does hi ?_, fun hm hw => State.does hi ?_, fun hm hw he => State.does hi ?_⟩⟩
  · rw [Dev.storeCmd_odd ha]
    exact s.dev.invalidField_plain src 2 (by decide)
  · rw [Dev.storeCmd_refused ha (Dev.storeRefused_mode hm), Dev.writeImage_refused (Dev.storeRefused_mode hm)]
    exact s.dev.storeReport_code src (by decide)
  · rw [Dev.storeCmd_refused ha (Dev.storeRefused_writing hm hw), Dev.writeImage_refused (Dev.storeRefused_writing hm hw)]
    exact s.dev.storeReport_code src (by decide)
  · have hr := Dev.storeRefused_none hm hw
    rw [Dev.storeCmd_reads ha hr, he, Dev.writeImage_unread ((Dev.storeRefused_emit _ _).trans hr)]
    exact Dev.storeReport_code _ src (by decide)

/-- ATTEST and its refusals. -/
theorem attest_meets (s : State) (src : Src) (addr len : Nat) (nonce : List Byte) :
    (addr % 8 ≠ 0 → s.Ends (.attest src addr len nonce) src (plainCpl src 2 0 2) s.dev) ∧
      (addr % 8 = 0 →
        (s.dev.modeIn [.standby, .calibrate, .run, .service] = false → s.Ends (.attest src addr len nonce) src (plainCpl src 3 1 0) s.dev) ∧
        (s.dev.modeIn [.standby, .calibrate, .run, .service] = true →
          (len < 512 → s.Ends (.attest src addr len nonce) src (plainCpl src 3 4 0) s.dev) ∧
          (512 ≤ len → s.dev.sec.otp.seed = none → s.Ends (.attest src addr len nonce) src (plainCpl src 3 0x10 0) s.dev) ∧
          (512 ≤ len → ∀ seed body, s.dev.sec.otp.seed = some seed → body = s.dev.attestBody nonce →
            body.take 40 = leBytes 4 0x54415A4C ++ leBytes 2 1 ++ leBytes 2 512 ++ part nonce 0 32 ∧
            s.Ends (.attest src addr len nonce) src (cmdCpl src { c := 512 })
              { s.dev with out := s.dev.out ++ [.hostWrite addr (body ++ edSign seed (sha512 body)) false] }))) := by
  have hi : exec (.attest src addr len nonce) s = s.lift (·.attestCmd src addr len nonce) := rfl
  have hcmd (h : addr % 8 = 0) : s.dev.attestCmd src addr len nonce = s.dev.attest src addr len nonce := if_neg (not_not.2 h)
  refine ⟨fun ha => State.does hi ?_, fun ha => ⟨fun hm => State.does hi ?_, fun hm => ⟨fun hl => State.does hi ?_, fun hl hn => State.does hi ?_,
    fun hl seed body hseed hbody => ⟨?_, State.does hi ?_⟩⟩⟩⟩
  · rw [Dev.attestCmd, if_pos ha]
    exact s.dev.invalidField_plain src 2 (by decide)
  · rw [hcmd ha, Dev.attest, if_pos (by simp [hm])]
    exact s.dev.storeReport_code src (by decide)
  · rw [hcmd ha, Dev.attest, if_neg (by simp [hm]), if_pos hl]
    exact s.dev.storeReport_code src (by decide)
  · rw [hcmd ha, Dev.attest, if_neg (by simp [hm]), if_neg (by omega), Dev.otp, hn]
    exact s.dev.storeReport_code src (by decide)
  · have hlen : (leBytes 4 0x54415A4C ++ leBytes 2 1 ++ leBytes 2 512 ++ part nonce 0 32).length = 40 := by
      simp [leBytes_length, part]
    obtain ⟨rest, hrest⟩ : ∃ rest, s.dev.attestBody nonce = leBytes 4 0x54415A4C ++ leBytes 2 1 ++ leBytes 2 512 ++ part nonce 0 32 ++ rest := by
      unfold Dev.attestBody
      dsimp only
      simp only [List.append_assoc, List.append_cancel_left_eq]
      exact ⟨_, rfl⟩
    rw [hbody, hrest]
    exact List.take_left' hlen
  · rw [hcmd ha, Dev.attest, if_neg (by simp [hm]), if_neg (by omega), Dev.otp, hseed, hbody]
    exact Dev.storeReport_answered _ src 512

/-- Power lost in a write: WRITING stays set, and the flash outside the region is whole. -/
theorem Dev.lost_spec {d m e : Dev} {P : Nat → Prop} {old : Nat → Byte} (hm : d.FlashOnly m) (he : e = m.setF F.SEC_STORE_STATUS.WRITING 1)
    (h : ∀ a, P a → m.flashByte a = old a) : e.f F.SEC_STORE_STATUS.WRITING = 1 ∧
    { d with flash := e.flash }.Only e [F.SEC_STORE_STATUS.WRITING] ∧ ∀ a, P a → e.flashByte a = old a := by
  have hf : e.flash = m.flash := by rw [he, Dev.setF_flash]
  refine ⟨?_, ?_, fun a ha => ?_⟩
  · rw [he]
    exact Dev.f_same _ _ _ _ _ (by decide) (by decide)
  · rw [hf]
    rw [← show m = { d with flash := m.flash } from hm, he]
    exact (Dev.Only.refl m _).setF _ _ (by simp [Fld.within])
  · unfold Dev.flashByte
    rw [hf]
    exact h a ha

/-- Settles O52. -/
theorem storeCommands : Obligations.StoreCommands := by
  intro s src addr len img fe ok d hok hd
  have hfw : exec (.storeWriteFirmware src addr len img fe) s = s.lift (·.storeCmd src addr len (Dev.writeImage true src len img fe)) := rfl
  have hcal : exec (.storeWriteCalStore src addr len img fe) s = s.lift (·.storeCmd src addr len (Dev.writeImage false src len img fe)) := rfl
  refine ⟨fun nonce => attest_meets s src addr len nonce, ?_, fun ha hm hw b hb => ⟨fun c hc => ⟨fun h0 => ?_, fun h0 base hbase =>
    ⟨fun he => ?_, fun n he => ?_, fun n he => ?_⟩⟩, fun c hc => ⟨fun h0 => ?_, fun h0 slot base hslot hbase => ⟨fun he => ?_, fun n he => ?_⟩⟩⟩⟩
  · rw [hd]
    simp only [List.forall_mem_cons]
    exact ⟨storeWrite_turnedAway hfw, storeWrite_turnedAway hcal, by simp⟩
  all_goals have hr : s.dev.storeRefused = none := Dev.storeRefused_none hm hw
  all_goals have hrd : d.storeRefused = none := hd ▸ hr
  all_goals have hread (f : Dev → Dev) : s.dev.storeCmd src addr len f = f d := (Dev.storeCmd_reads ha hr src len f).trans (hd ▸ rfl)
  all_goals have hotp : d.otp = s.dev.otp := by rw [hd]; rfl
  all_goals have hsec : d.sec = s.dev.sec := by rw [hd]
  all_goals have hflash (x : Nat) : d.flashByte x = s.dev.flashByte x := by rw [hd]; rfl
  · rw [hc, ← hotp] at h0 ⊢
    refine State.does hfw ?_
    rw [hread, hb]
    show d.Answered (d.writeFirmware src len (.data b) fe) _ _
    rw [Dev.writeFirmware_rejected hrd h0]
    exact d.storeReport_code src h0
  · have h1 : d.otp.fwCode len b = 0 := by rw [hotp, ← hc, h0]
    obtain ⟨m, hm'⟩ : ∃ m, m = (d.flashErase (imageBase d.freeImage) 0x400000).flashProgram (numbered (imageBase d.freeImage) b) := ⟨_, rfl⟩
    have hbase' : imageBase d.freeImage = base := by rw [imageBase_freeImage, hsec, hbase] <;> rfl
    refine State.does hfw ⟨m, hm' ▸ d.written_only _ _ _, fun a => ?_, ?_⟩
    · rw [← hflash, ← hbase', hm']
      exact d.flashHolds_numbered _ (Otp.fwImage_of_code h1).fits a
    · rw [hread, hb, he, hok]
      show m.Answered (d.writeFirmware src len (.data b) .done) _ _
      rw [Dev.writeFirmware_done hrd h1 src hm']
      exact m.storeReport_answered src len
  · have h1 : d.otp.fwCode len b = 0 := by rw [hotp, ← hc, h0]
    have hbase' : imageBase d.freeImage = base := by rw [imageBase_freeImage, hsec, hbase] <;> rfl
    obtain ⟨m, hm'⟩ : ∃ m, m = (d.flashErase (imageBase d.freeImage) 0x400000).flashProgram ((numbered (imageBase d.freeImage) b).take n) := ⟨_, rfl⟩
    refine State.does hfw ?_
    rw [hread, hb, he]
    have hlost := Dev.writeFirmware_lost hrd h1 src n
    rw [← hm'] at hlost
    refine Dev.lost_spec (hm' ▸ d.written_only _ _ _) ((show d.writeImage true src len (.data b) (.lost n) = d.writeFirmware src len (.data b) (.lost n) from rfl).trans hlost) fun a h => ?_
    rw [← hflash, hm', hbase']
    exact d.flashByte_cutWrite (fun p hp => ⟨(mem_numbered hp).1, by have := (mem_numbered hp).2; have := (Otp.fwImage_of_code h1).fits; omega⟩) h
  · have h1 : d.otp.fwCode len b = 0 := by rw [hotp, ← hc, h0]
    have hbase' : imageBase d.freeImage = base := by rw [imageBase_freeImage, hsec, hbase] <;> rfl
    obtain ⟨m, hm'⟩ : ∃ m, m = (d.flashErase (imageBase d.freeImage) 0x400000).flashProgram ((numbered (imageBase d.freeImage) b).take n) := ⟨_, rfl⟩
    refine State.does hfw ⟨m, hm' ▸ d.written_only _ _ _, fun a h => ?_, ?_⟩
    · rw [← hflash, hm', hbase']
      exact d.flashByte_cutWrite (fun p hp => ⟨(mem_numbered hp).1, by have := (mem_numbered hp).2; have := (Otp.fwImage_of_code h1).fits; omega⟩) h
    · rw [hread, hb, he]
      show m.Answered (d.writeFirmware src len (.data b) (.timeout n)) _ _
      rw [Dev.writeFirmware_timeout hrd h1 src, ← hm']
      exact m.storeReport_code src (by decide)
  · have hcode : d.storeCode len b = c := by rw [hc]; unfold Dev.storeCode; rw [hsec, hotp]
    refine State.does hcal ?_
    rw [hread, hb]
    show d.Answered (d.writeCalStore src len (.data b) fe) _ _
    rw [Dev.writeCalStore_rejected hrd (hcode ▸ h0), hcode]
    exact d.storeReport_code src h0
  · have h1 : d.storeCode len b = 0 := by rw [← h0, hc]; unfold Dev.storeCode; rw [hsec, hotp]
    have hslot' : d.freeStore = slot := by rw [hslot, Dev.freeStore, hsec] <;> rfl
    have hbase' : storeBase d.freeStore = base := by rw [hbase, hslot']; rfl
    obtain ⟨m, hflash', hsec', hvalid, hs, hseq, hdev, hans⟩ := Dev.writeCalStore_spec hrd h1 src
    rw [hslot', hsec] at hsec'
    refine State.does hcal ⟨m, fun a => ?_, hsec', hvalid, hslot' ▸ hs, hseq, hdev, ?_⟩
    · rw [← hflash, ← hbase']
      exact hflash' a
    · rw [hread, hb, he, hok]
      exact hans
  · have h1 : d.storeCode len b = 0 := by rw [← h0, hc]; unfold Dev.storeCode; rw [hsec, hotp]
    have hslot' : d.freeStore = slot := by rw [hslot, Dev.freeStore, hsec] <;> rfl
    have hbase' : storeBase d.freeStore = base := by rw [hbase, hslot']; rfl
    have hb' := Dev.calImage_of_code h1
    obtain ⟨m, hm'⟩ : ∃ m, m = (d.flashErase (storeBase d.freeStore) 0x100000).flashProgram ((storeOrder (storeBase d.freeStore) b).take n) := ⟨_, rfl⟩
    refine State.does hcal ?_
    rw [hread, hb, he]
    have hlost := Dev.writeCalStore_lost hrd h1 src n
    rw [← hm'] at hlost
    refine Dev.lost_spec (hm' ▸ d.written_only _ _ _) ((show d.writeImage false src len (.data b) (.lost n) = d.writeCalStore src len (.data b) (.lost n) from rfl).trans hlost) fun a h => ?_
    rw [← hflash, hm', hbase']
    exact d.flashByte_cutWrite (fun p hp => ⟨(mem_storeOrder hb'.long hp).1, by have := (mem_storeOrder hb'.long hp).2; have := hb'.fits; omega⟩) h

end Sys2Proof.Machine
end

section
/-! SUPPORT. The housekeeping sequencers: start and check of a set, passes and results, the FIFO, the self-calibration (spec
16_housekeeping_converters.md). -/

namespace Sys2Proof.Machine

/-! ## Sequencer state -/

theorem Dev.hkcOf_setHkc (d : Dev) (c : Nat) (h : Hkc) : (d.setHkc c h).hkcOf c = h := spGet_spSet_self _ _ _

theorem Dev.hkcOf_hkc {d e : Dev} (h : e.hkc = d.hkc) (c : Nat) : e.hkcOf c = d.hkcOf c := by
  unfold Dev.hkcOf
  rw [h]

theorem Hkc.setEnt_live (h : Hkc) (e : Nat) (x : HkcEnt) : (h.setEnt e x).live = h.live ∧ (h.setEnt e x).fifo = h.fifo := ⟨rfl, rfl⟩

/-- What a new set changes of one entry. -/
def Hkc.changed (old new : List Nat) (x : Hkc) (e : Nat) : Hkc :=
  x.setEnt e { x.ent e with change := joinChange (x.ent e).change (entChange old new e) }

theorem Hkc.foldl_changed_fifo (old new : List Nat) (l : List Nat) (x : Hkc) : (l.foldl (Hkc.changed old new) x).fifo = x.fifo := by
  induction l generalizing x with
  | nil => rfl
  | cons e l ih => exact ih _

theorem Hkc.applySet_eq (h : Hkc) (new : List Nat) : h.applySet new = { (List.range 32).foldl (Hkc.changed h.live new) h with live := new } := rfl

theorem Hkc.applySet_spec (h : Hkc) (new : List Nat) : (h.applySet new).live = new ∧ (h.applySet new).fifo = h.fifo := by
  rw [Hkc.applySet_eq]
  obtain ⟨l, hl⟩ : ∃ l, l = List.range 32 := ⟨_, rfl⟩
  rw [← hl]
  exact ⟨rfl, Hkc.foldl_changed_fifo _ _ l h⟩

theorem Dev.Only.withHkc {d e : Dev} {l : List Fld} (h : d.Only e l) (x : List (Nat × Hkc)) : ({ d with hkc := x } : Dev).Only { e with hkc := x } l :=
  ⟨congrArg (fun y : Dev => { y with hkc := x }) h.1, fun a i hi => h.2 a i hi⟩

/-- Registers of `l` and housekeeping state alone change. -/
def Dev.HkcOnly (d e : Dev) (l : List Fld) : Prop := { d with hkc := e.hkc }.Only e l

theorem Dev.HkcOnly.refl (d : Dev) (l : List Fld) : d.HkcOnly d l := Dev.Only.refl d l

theorem Dev.HkcOnly.only {d e g : Dev} {l : List Fld} (h : d.HkcOnly e l) (h' : e.Only g l) : d.HkcOnly g l := by
  have hg : g.hkc = e.hkc := Dev.RegsOut.eq h'.1 Dev.hkc fun _ _ _ => rfl
  unfold Dev.HkcOnly
  rw [hg]
  exact Dev.Only.trans h h'

theorem Dev.HkcOnly.setHkc {d e : Dev} {l : List Fld} (h : d.HkcOnly e l) (c : Nat) (x : Hkc) : d.HkcOnly (e.setHkc c x) l :=
  Dev.Only.withHkc h _

theorem Dev.HkcOnly.trans {d e g : Dev} {l : List Fld} (h : d.HkcOnly e l) (h' : e.HkcOnly g l) : d.HkcOnly g l :=
  (Dev.Only.withHkc h g.hkc).trans h'

theorem Dev.HkcOnly.f {d e : Dev} {l : List Fld} (h : d.HkcOnly e l) (y : Fld) (hd : ∀ x ∈ l, x.addr ≠ y.addr ∨ y.hi < x.lo ∨ x.hi < y.lo) :
    e.f y = d.f y := Dev.Only.f h y hd

theorem Dev.HkcOnly.reg {d e : Dev} {l : List Fld} (h : d.HkcOnly e l) (a : Nat) (hd : ∀ x ∈ l, x.addr ≠ a) : e.reg a = d.reg a :=
  Dev.Only.reg h a hd

/-! ## Addresses -/

theorem intBitOf_hkc {c : Nat} (hc : c < 2) : intBitOf (R.HKC_SEQ_STATUS c) = 13 := by
  rcases (by omega : c = 0 ∨ c = 1) with rfl | rfl <;> rfl

/-- Fields that the entries of a pass of converter `c` write. -/
def hkcRunFields (c : Nat) : List Fld :=
  [F.HKC_SEQ_STATUS.EXC_FAULT c, F.HKC_SEQ_STATUS.FIFO_OVF c, intBit 13, whole (R.HKC_FIFO_STATUS c)] ++
    ((List.range 32).map (fun e => whole (R.HKC_RES_W0 c e)) ++ (List.range 32).map (fun e => whole (R.HKC_RES_W1 c e)))

/-- Fields that the entries of a pass of converter `c` leave. -/
def hkcStays (c : Nat) (y : Fld) : Prop :=
  (0xC0000 + 0x1000 * c ≤ y.addr ∧ y.addr < 0xC0200 + 0x1000 * c ∧ y.addr ≠ R.HKC_SEQ_STATUS c ∧ y.addr ≠ R.HKC_FIFO_STATUS c) ∨
    (y.addr = R.HKC_SEQ_STATUS c ∧ (y.hi < 27 ∨ 28 < y.lo))

theorem hkcRunFields_apart {c : Nat} {y : Fld} (h : hkcStays c y) :
    ∀ x ∈ hkcRunFields c, x.addr ≠ y.addr ∨ y.hi < x.lo ∨ x.hi < y.lo := by
  have hlow : 0xC0000 + 0x1000 * c ≤ y.addr ∧ y.addr < 0xC0200 + 0x1000 * c ∧ y.addr ≠ R.HKC_FIFO_STATUS c ∧
      (y.addr ≠ R.HKC_SEQ_STATUS c ∨ y.hi < 27 ∨ 28 < y.lo) := by
    rcases h with h | ⟨ha, hb⟩
    · exact ⟨h.1, h.2.1, h.2.2.2, .inl h.2.2.1⟩
    · rw [ha]
      unfold R.HKC_SEQ_STATUS R.HKC_FIFO_STATUS
      omega
  obtain ⟨h1, h2, h3, h4⟩ := hlow
  intro x hx
  unfold hkcRunFields at hx
  simp only [List.mem_append, List.mem_cons, List.mem_map, List.mem_range, List.not_mem_nil, or_false] at hx
  rcases hx with (rfl | rfl | rfl | rfl) | ⟨e, -, rfl⟩ | ⟨e, -, rfl⟩
  · show R.HKC_SEQ_STATUS c ≠ y.addr ∨ y.hi < 28 ∨ 28 < y.lo
    omega
  · show R.HKC_SEQ_STATUS c ≠ y.addr ∨ y.hi < 27 ∨ 27 < y.lo
    omega
  · refine .inl ?_
    show R.TOP_INT_STATUS ≠ y.addr
    unfold R.TOP_INT_STATUS
    omega
  · exact .inl h3.symm
  · refine .inl ?_
    show R.HKC_RES_W0 c e ≠ y.addr
    unfold R.HKC_RES_W0
    omega
  · refine .inl ?_
    show R.HKC_RES_W1 c e ≠ y.addr
    unfold R.HKC_RES_W1
    omega

section
variable {c : Nat}

theorem hkcRun_flag {x : Fld} (h : x = F.HKC_SEQ_STATUS.EXC_FAULT c ∨ x = F.HKC_SEQ_STATUS.FIFO_OVF c) : x.within (hkcRunFields c) := by
  rcases h with rfl | rfl
  · exact ⟨Nat.le_of_ble_eq_true rfl, Nat.le_of_ble_eq_true rfl, F.HKC_SEQ_STATUS.EXC_FAULT c, by simp [hkcRunFields], rfl, le_refl _, le_refl _⟩
  · exact ⟨Nat.le_of_ble_eq_true rfl, Nat.le_of_ble_eq_true rfl, F.HKC_SEQ_STATUS.FIFO_OVF c, by simp [hkcRunFields], rfl, le_refl _, le_refl _⟩

theorem hkcRun_int (hc : c < 2) {x : Fld} (h : x = F.HKC_SEQ_STATUS.EXC_FAULT c ∨ x = F.HKC_SEQ_STATUS.FIFO_OVF c) :
    (intBit (intBitOf x.addr)).within (hkcRunFields c) := by
  have ha : intBitOf x.addr = 13 := by
    rcases h with rfl | rfl
    · exact intBitOf_hkc hc
    · exact intBitOf_hkc hc
  exact intBit_within ha (by decide) (by simp [hkcRunFields])

theorem hkcRun_fifo {hi lo : Nat} (h : lo ≤ hi + 1) (h' : hi < 32) : (⟨R.HKC_FIFO_STATUS c, hi, lo⟩ : Fld).within (hkcRunFields c) :=
  ⟨h, h', whole (R.HKC_FIFO_STATUS c), by simp [hkcRunFields], rfl, Nat.zero_le _, Nat.le_of_lt_succ h'⟩

theorem hkcRun_w0 {e : Nat} (he : e < 32) : (whole (R.HKC_RES_W0 c e)).within (hkcRunFields c) :=
  ⟨Nat.le_of_ble_eq_true rfl, Nat.le_of_ble_eq_true rfl, whole (R.HKC_RES_W0 c e), by
    simp only [hkcRunFields, List.mem_append, List.mem_map, List.mem_range]
    exact .inr (.inl ⟨e, he, rfl⟩), rfl, le_refl _, le_refl _⟩

theorem hkcRun_w1 {e : Nat} (he : e < 32) : (whole (R.HKC_RES_W1 c e)).within (hkcRunFields c) :=
  ⟨Nat.le_of_ble_eq_true rfl, Nat.le_of_ble_eq_true rfl, whole (R.HKC_RES_W1 c e), by
    simp only [hkcRunFields, List.mem_append, List.mem_map, List.mem_range]
    exact .inr (.inr ⟨e, he, rfl⟩), rfl, le_refl _, le_refl _⟩

/-! ## One entry of a pass -/

/-- What the entries of a pass may change: the fields above and the entries' own state, with the set in force as it is. -/
def Dev.HkcRuns (c : Nat) (d e : Dev) : Prop := d.HkcOnly e (hkcRunFields c) ∧ (e.hkcOf c).live = (d.hkcOf c).live

theorem Dev.HkcRuns.refl (c : Nat) (d : Dev) : Dev.HkcRuns c d d := ⟨.refl d _, rfl⟩

theorem Dev.HkcRuns.trans {d e g : Dev} (h : Dev.HkcRuns c d e) (h' : Dev.HkcRuns c e g) : Dev.HkcRuns c d g :=
  ⟨h.1.trans h'.1, h'.2.trans h.2⟩

theorem Dev.HkcRuns.only {d e : Dev} (h : d.Only e (hkcRunFields c)) : Dev.HkcRuns c d e :=
  ⟨(Dev.HkcOnly.refl d _).only h, congrArg Hkc.live (Dev.hkcOf_hkc (Dev.RegsOut.eq h.1 Dev.hkc fun _ _ _ => rfl) c)⟩

theorem Dev.HkcRuns.setHkc (d : Dev) {x : Hkc} (h : x.live = (d.hkcOf c).live) : Dev.HkcRuns c d (d.setHkc c x) :=
  ⟨(Dev.HkcOnly.refl d _).setHkc c x, by rw [Dev.hkcOf_setHkc, h]⟩

theorem Dev.hkcPush_runs (d : Dev) (hc : c < 2) (w : Nat × Nat) : Dev.HkcRuns c d (d.hkcPush c w) := by
  unfold Dev.hkcPush
  extract_lets q
  split
  · exact .only (((Dev.Only.refl d _).flag _ (hkcRun_flag (.inr rfl)) (hkcRun_int hc (.inr rfl))).count _ _
      (hkcRun_fifo (Nat.le_of_ble_eq_true rfl) (Nat.le_of_ble_eq_true rfl)))
  · unfold Dev.setFifo
    refine Dev.HkcRuns.trans (e := d.setHkc c { d.hkcOf c with fifo := q ++ [w.1, w.2] }) (.setHkc d rfl) (.only ?_)
    exact (Dev.Only.refl _ _).setF _ _ (hkcRun_fifo (Nat.le_of_ble_eq_true rfl) (Nat.le_of_ble_eq_true rfl))

theorem Dev.hkcEmit_runs (d : Dev) (hc : c < 2) {e : Nat} (he : e < 32) (fifo : Bool) (v : Int) (reason : Nat) :
    Dev.HkcRuns c d (d.hkcEmit c e fifo v reason) := by
  unfold Dev.hkcEmit
  extract_lets w k
  have hk : Dev.HkcRuns c d k := .only (((Dev.Only.refl d _).setReg _ _ (hkcRun_w0 he)).setReg _ _ (hkcRun_w1 he))
  split
  · exact hk.trans (k.hkcPush_runs hc w)
  · exact hk

theorem Dev.hkcExcite_only (d : Dev) (c : Nat) (s : List Nat) (e : Nat) (l : List Fld) : d.Only (d.hkcExcite c s e) l := by
  unfold Dev.hkcExcite
  extract_lets x k
  have hk : d.Only k l := Dev.Only.ite ((Dev.Only.refl d l).emit _) (.refl d l)
  split
  · exact hk.emit _
  · exact hk

theorem Dev.hkcRunEntry_runs (acc : Dev × Int × Nat) (hc : c < 2) (s : List Nat) {e : Nat} (he : e < 32) (conv : List (Int × Bool)) :
    Dev.HkcRuns c acc.1 (Dev.hkcRunEntry acc c s e conv).1 := by
  unfold Dev.hkcRunEntry
  extract_lets d1 r d2 ch x own w j x' out due d3
  have h1 : Dev.HkcRuns c acc.1 d1 := .only (Dev.hkcExcite_only _ _ _ _ _)
  have h2 : Dev.HkcRuns c acc.1 d2 := h1.trans (.only ((Dev.Only.refl d1 _).flagIf _ _ (hkcRun_flag (.inl rfl)) (hkcRun_int hc (.inl rfl))))
  have h3 : Dev.HkcRuns c acc.1 d3 := h2.trans (.setHkc d2 rfl)
  dsimp only
  split
  · exact h3.trans (d3.hkcEmit_runs hc he _ _ _)
  · exact h3

theorem Dev.hkcEntries_runs (hc : c < 2) (s : List Nat) (conv : List (List (Int × Bool))) (l : List Nat) (hl : ∀ e ∈ l, e < 32)
    (acc : Dev × Int × Nat) : Dev.HkcRuns c acc.1 (l.foldl (fun acc e => Dev.hkcRunEntry acc c s e (conv.getD e [])) acc).1 := by
  induction l generalizing acc with
  | nil => exact .refl c _
  | cons e l ih =>
    exact (Dev.hkcRunEntry_runs acc hc s (hl e List.mem_cons_self) _).trans (ih (fun x hx => hl x (List.mem_cons_of_mem e hx)) _)

theorem setEntries_lt (s : List Nat) : ∀ e ∈ setEntries s, e < 32 := by
  intro e he
  have h1 : setLast s < 32 := bitsOf_lt _ 28 24
  have h2 := List.mem_range.1 he
  omega

end

/-! ## The check of a set and its start (R401) -/

theorem Dev.hkcCheck_cases (d : Dev) (c : Nat) (s : List Nat) {code : Nat} {en : Option Nat} (h : d.hkcCheck c s = (code, en)) :
    code < 8 ∧ (code = 0 → passTooLong s = false) := by
  unfold Dev.hkcCheck at h
  extract_lets owner first at h
  have hres : (code < 8 ∧ code ≠ 0) ∨ (code = 0 ∧ passTooLong s = false) ∨ code = 6 := by
    split at h
    · rw [Prod.mk.injEq] at h; omega
    · split at h
      · rw [Prod.mk.injEq] at h; omega
      · split at h
        · rw [Prod.mk.injEq] at h; omega
        · split at h
          · rw [Prod.mk.injEq] at h; omega
          · split at h
            · rw [Prod.mk.injEq] at h; omega
            · split at h
              · rw [Prod.mk.injEq] at h; omega
              case isFalse hp =>
                rw [Prod.mk.injEq] at h
                exact .inr (.inl ⟨h.1.symm, by simpa using hp⟩)
  rcases hres with h1 | h1 | h1
  · exact ⟨h1.1, fun h0 => absurd h0 h1.2⟩
  · exact ⟨by omega, fun _ => h1.2⟩
  · exact ⟨by omega, fun h0 => by omega⟩

theorem passLen_lt {s : List Nat} (h : passTooLong s = false) : passLen s < 2 ^ 20 := by
  unfold passTooLong at h
  have h1 : 1 ≤ setDiv s := le_max_left _ _
  have h2 : 3 * setDiv s * (passLen s + 100) ≤ 1000000 := Nat.not_lt.1 (of_decide_eq_false h)
  have h3 : 1 * (passLen s + 100) ≤ 3 * setDiv s * (passLen s + 100) := Nat.mul_le_mul_right _ (by omega)
  omega

/-- The check's code and entry shown. -/
def Dev.hkcShown (d : Dev) (c code e : Nat) : Dev := (d.setF (F.HKC_SEQ_STATUS.ERR c) code).setF (F.HKC_SEQ_STATUS.ERR_ENTRY c) e

/-- The device that a check leaves which names entry `en`, or takes a free one. -/
def Dev.hkcNamed (d : Dev) : Option Nat → Nat × Dev
  | some e => (e, d)
  | none => d.freeNat 5

theorem Dev.hkcApply_eq {d : Dev} {c code : Nat} {en : Option Nat} (h : d.hkcCheck c (d.hkcShadow c) = (code, en)) : d.hkcApply c =
    if code = 0 then ((((d.hkcNamed en).2.hkcShown c code (d.hkcNamed en).1).setHkc c
      ((((d.hkcNamed en).2.hkcShown c code (d.hkcNamed en).1).hkcOf c).applySet (d.hkcShadow c))).setF (F.HKC_PASS_LEN.PASS_LEN c)
        (passLen (d.hkcShadow c)), true) else ((d.hkcNamed en).2.hkcShown c code (d.hkcNamed en).1, false) := by
  unfold Dev.hkcApply
  dsimp only
  rw [h]
  cases en <;> rfl

theorem Dev.hkcNamed_spec (d : Dev) (en : Option Nat) : (d.hkcNamed en).2 = { d with free := (d.hkcNamed en).2.free } ∧
    ∀ n, en = some n → (d.hkcNamed en).1 = n := by
  cases en with
  | some e => exact ⟨rfl, fun n h => Option.some.inj h⟩
  | none => exact ⟨rfl, fun n h => absurd h (by simp)⟩

theorem Dev.Only.withFree {d e : Dev} {l : List Fld} (h : d.Only e l) (x : Nat) : ({ d with free := x } : Dev).Only { e with free := x } l :=
  ⟨congrArg (fun y : Dev => { y with free := x }) h.1, fun a i hi => h.2 a i hi⟩

/-- What a check leaves when it is shown: the code, the entry, and all else but free values as it was. -/
theorem Dev.hkcShown_spec (d : Dev) (c : Nat) {code : Nat} (h8 : code < 8) (en : Option Nat) {e : Dev}
    (he : e = (d.hkcNamed en).2.hkcShown c code (d.hkcNamed en).1) : e.f (F.HKC_SEQ_STATUS.ERR c) = code ∧
    (∀ n, en = some n → n < 32 → e.f (F.HKC_SEQ_STATUS.ERR_ENTRY c) = n) ∧ e.hkc = d.hkc ∧
    { d with free := e.free }.Only e [F.HKC_SEQ_STATUS.ERR c, F.HKC_SEQ_STATUS.ERR_ENTRY c] := by
  obtain ⟨hn, hname⟩ := d.hkcNamed_spec en
  obtain ⟨k, hk⟩ : ∃ k, k = (d.hkcNamed en).2 := ⟨_, rfl⟩
  obtain ⟨x, hx⟩ : ∃ x, x = (d.hkcNamed en).1 := ⟨_, rfl⟩
  rw [← hk, ← hx] at he
  rw [← hk] at hn
  rw [← hx] at hname
  have hfree : e.free = k.free := by rw [he, Dev.hkcShown, Dev.setF_free, Dev.setF_free]
  refine ⟨?_, fun n h1 h2 => ?_, ?_, ?_⟩
  · rw [he, Dev.hkcShown, Dev.f_apart _ _ _ _ _ _ _ (Nat.le_of_ble_eq_true rfl) (Nat.le_of_ble_eq_true rfl) (.inl (Nat.le_of_ble_eq_true rfl))]
    exact (Dev.f_same _ _ _ _ _ (Nat.le_of_ble_eq_true rfl) (Nat.le_of_ble_eq_true rfl)).trans (Nat.mod_eq_of_lt h8)
  · rw [he, Dev.hkcShown, hname n h1]
    exact (Dev.f_same _ _ _ _ _ (Nat.le_of_ble_eq_true rfl) (Nat.le_of_ble_eq_true rfl)).trans (Nat.mod_eq_of_lt h2)
  · rw [he, Dev.hkcShown, Dev.setF_hkc, Dev.setF_hkc, hn]
  · rw [hfree, ← hn, he]
    have ho : k.Only (k.hkcShown c code x) [F.HKC_SEQ_STATUS.ERR c, F.HKC_SEQ_STATUS.ERR_ENTRY c] :=
      ((Dev.Only.refl k _).setF _ _ ⟨Nat.le_of_ble_eq_true rfl, Nat.le_of_ble_eq_true rfl, F.HKC_SEQ_STATUS.ERR c, by simp, rfl, le_refl _, le_refl _⟩).setF
        _ _ ⟨Nat.le_of_ble_eq_true rfl, Nat.le_of_ble_eq_true rfl, F.HKC_SEQ_STATUS.ERR_ENTRY c, by simp, rfl, le_refl _, le_refl _⟩
    exact ho

theorem R.hkcSeq_ne (c : Nat) : R.HKC_SEQ_CTRL c ≠ R.HKC_SEQ_STATUS c ∧ R.HKC_SEQ_CTRL c ≠ R.HKC_PASS_LEN c ∧
    R.HKC_SEQ_STATUS c ≠ R.HKC_PASS_LEN c ∧ R.HKC_PASS_TIME_LO c ≠ R.HKC_PASS_TIME_HI c ∧ R.HKC_SEQ_CTRL c ≠ R.HKC_PASS_TIME_LO c ∧
    R.HKC_SEQ_CTRL c ≠ R.HKC_PASS_TIME_HI c ∧ R.HKC_SEQ_STATUS c ≠ R.HKC_PASS_TIME_LO c ∧ R.HKC_SEQ_STATUS c ≠ R.HKC_PASS_TIME_HI c := by
  unfold R.HKC_SEQ_CTRL R.HKC_SEQ_STATUS R.HKC_PASS_LEN R.HKC_PASS_TIME_LO R.HKC_PASS_TIME_HI
  omega

/-- RUN and RUNNING set from a check's outcome. -/
def Dev.hkcRunning (d : Dev) (c : Nat) (b : Bool) : Dev := (d.setB (F.HKC_SEQ_CTRL.RUN c) b).setB (F.HKC_SEQ_STATUS.RUNNING c) b

theorem b2n_mod (b : Bool) : b2n b % 2 = b2n b := by cases b <;> rfl

theorem Dev.hkcRunning_spec (d : Dev) (c : Nat) (b : Bool) : (d.hkcRunning c b).f (F.HKC_SEQ_CTRL.RUN c) = b2n b ∧
    (d.hkcRunning c b).f (F.HKC_SEQ_STATUS.RUNNING c) = b2n b ∧ (d.hkcRunning c b).hkc = d.hkc ∧
    d.Only (d.hkcRunning c b) [F.HKC_SEQ_CTRL.RUN c, F.HKC_SEQ_STATUS.RUNNING c] := by
  unfold Dev.hkcRunning Dev.setB
  refine ⟨?_, ?_, by rw [Dev.setF_hkc, Dev.setF_hkc], ?_⟩
  · rw [Dev.f_other _ _ _ _ _ _ _ _ (R.hkcSeq_ne c).1]
    exact (Dev.f_same _ _ _ _ _ (Nat.le_of_ble_eq_true rfl) (Nat.le_of_ble_eq_true rfl)).trans (b2n_mod b)
  · exact (Dev.f_same _ _ _ _ _ (Nat.le_of_ble_eq_true rfl) (Nat.le_of_ble_eq_true rfl)).trans (b2n_mod b)
  · exact ((Dev.Only.refl d _).setF _ _ ⟨Nat.le_of_ble_eq_true rfl, Nat.le_of_ble_eq_true rfl, F.HKC_SEQ_CTRL.RUN c, by simp, rfl, le_refl _, le_refl _⟩).setF
        _ _ ⟨Nat.le_of_ble_eq_true rfl, Nat.le_of_ble_eq_true rfl, F.HKC_SEQ_STATUS.RUNNING c, by simp, rfl, le_refl _, le_refl _⟩

theorem Dev.hkcStart_eq (d : Dev) (c : Nat) : d.hkcStart c = (d.hkcApply c).1.hkcRunning c (d.hkcApply c).2 := rfl

theorem Dev.hkcStart_runs {d : Dev} {c : Nat} {en : Option Nat} (h : d.hkcCheck c (d.hkcShadow c) = (0, en)) {e : Dev} (he : e = d.hkcStart c) :
    e.f (F.HKC_SEQ_CTRL.RUN c) = 1 ∧ e.f (F.HKC_SEQ_STATUS.RUNNING c) = 1 ∧
          e.f (F.HKC_SEQ_STATUS.ERR c) = 0 ∧ (e.hkcOf c).live = d.hkcShadow c ∧
          e.f (F.HKC_PASS_LEN.PASS_LEN c) = passLen (d.hkcShadow c) ∧ (e.hkcOf c).fifo = (d.hkcOf c).fifo := by
  obtain ⟨k, hk⟩ : ∃ k, k = (d.hkcNamed en).2.hkcShown c 0 (d.hkcNamed en).1 := ⟨_, rfl⟩
  obtain ⟨herr, -, hhkc, -⟩ := d.hkcShown_spec c (by decide) en hk
  obtain ⟨j, hj⟩ : ∃ j, j = (k.setHkc c ((k.hkcOf c).applySet (d.hkcShadow c))).setF (F.HKC_PASS_LEN.PASS_LEN c) (passLen (d.hkcShadow c)) := ⟨_, rfl⟩
  have happ : d.hkcApply c = (j, true) := by rw [Dev.hkcApply_eq h, if_pos rfl, hj, hk]
  rw [Dev.hkcStart_eq, happ] at he
  obtain ⟨hrun, hrunning, hhe, ho⟩ := j.hkcRunning_spec c true
  rw [← he] at hrun hrunning hhe ho
  have hof : e.hkcOf c = (d.hkcOf c).applySet (d.hkcShadow c) := by
    rw [Dev.hkcOf_hkc hhe, hj, Dev.hkcOf_hkc (Dev.setF_hkc _ _ _), Dev.hkcOf_setHkc, Dev.hkcOf_hkc hhkc]
  obtain ⟨hlive, hfifo⟩ := (d.hkcOf c).applySet_spec (d.hkcShadow c)
  obtain ⟨n1, n2, n3, -⟩ := R.hkcSeq_ne c
  refine ⟨hrun, hrunning, ?_, by rw [hof, hlive], ?_, by rw [hof, hfifo]⟩
  · rw [ho.f (F.HKC_SEQ_STATUS.ERR c) (by
      simp only [List.forall_mem_cons]
      exact ⟨.inl n1, .inr (.inl (Nat.le_of_ble_eq_true rfl)), by simp⟩), hj, Dev.f_other _ _ _ _ _ _ _ _ n3]
    exact herr
  · rw [ho.f (F.HKC_PASS_LEN.PASS_LEN c) (by
      simp only [List.forall_mem_cons]
      exact ⟨.inl n2, .inl n3, by simp⟩), hj]
    exact (Dev.f_same _ _ _ _ _ (Nat.le_of_ble_eq_true rfl) (Nat.le_of_ble_eq_true rfl)).trans
      (Nat.mod_eq_of_lt (passLen_lt ((d.hkcCheck_cases c _ h).2 rfl)))

theorem Dev.hkcStart_refused {d : Dev} {c code : Nat} {en : Option Nat} (h : d.hkcCheck c (d.hkcShadow c) = (code, en)) (h0 : code ≠ 0) {e : Dev}
    (he : e = d.hkcStart c) : e.f (F.HKC_SEQ_CTRL.RUN c) = 0 ∧ e.f (F.HKC_SEQ_STATUS.RUNNING c) = 0 ∧
          e.f (F.HKC_SEQ_STATUS.ERR c) = code ∧ (∀ n, en = some n → n < 32 → e.f (F.HKC_SEQ_STATUS.ERR_ENTRY c) = n) ∧
          { d with free := e.free }.Only e [F.HKC_SEQ_CTRL.RUN c, F.HKC_SEQ_STATUS.RUNNING c, F.HKC_SEQ_STATUS.ERR c,
            F.HKC_SEQ_STATUS.ERR_ENTRY c] := by
  obtain ⟨k, hk⟩ : ∃ k, k = (d.hkcNamed en).2.hkcShown c code (d.hkcNamed en).1 := ⟨_, rfl⟩
  obtain ⟨herr, hentry, -, hko⟩ := d.hkcShown_spec c (d.hkcCheck_cases c _ h).1 en hk
  have happ : d.hkcApply c = (k, false) := by rw [Dev.hkcApply_eq h, if_neg h0, hk]
  rw [Dev.hkcStart_eq, happ] at he
  obtain ⟨hrun, hrunning, -, ho⟩ := k.hkcRunning_spec c false
  rw [← he] at hrun hrunning ho
  obtain ⟨n1, -⟩ := R.hkcSeq_ne c
  have hfree : e.free = k.free := Dev.RegsOut.eq ho.1 Dev.free fun _ _ _ => rfl
  refine ⟨hrun, hrunning, ?_, fun n h1 h2 => ?_, ?_⟩
  · rw [ho.f (F.HKC_SEQ_STATUS.ERR c) (by
      simp only [List.forall_mem_cons]
      exact ⟨.inl n1, .inr (.inl (Nat.le_of_ble_eq_true rfl)), by simp⟩)]
    exact herr
  · rw [ho.f (F.HKC_SEQ_STATUS.ERR_ENTRY c) (by
      simp only [List.forall_mem_cons]
      exact ⟨.inl n1, .inr (.inl (Nat.le_of_ble_eq_true rfl)), by simp⟩)]
    exact hentry n h1 h2
  · rw [hfree]
    exact (hko.mono (by simp)).trans (ho.mono (by simp))

/-! ## The FIFO (R409) -/

theorem Dev.hkcPop_empty {d : Dev} {rq : Req} {c off : Nat} (h : (d.hkcOf c).fifo = []) :
    d.hkcPop rq c off = (0, d.accessErr rq false .emptyRead off) := by
  unfold Dev.hkcPop
  rw [h]

theorem Dev.hkcPop_word {d : Dev} {rq : Req} {c off w : Nat} {t : List Nat} (h : (d.hkcOf c).fifo = w :: t) :
    d.hkcPop rq c off = (w, d.setFifo c t) := by
  unfold Dev.hkcPop
  rw [h]

theorem Dev.exec_hkcFifoPop (s : State) (rq : Req) (c : Fin 2) (off : Fin 64) : exec (.hkcFifoPop rq c off) s = s.lift (fun d => if d.awake then
    (d.hkcPop rq c (0xC0400 + 0x1000 * c.val + 4 * off.val)).2.emit (.readData (0xC0400 + 0x1000 * c.val + 4 * off.val)
      (d.hkcPop rq c (0xC0400 + 0x1000 * c.val + 4 * off.val)).1) else d) := rfl

theorem Dev.Discarded.emit {d e : Dev} {k : ErrKind} {off : Nat} (h : d.Discarded e k off) (o : Out) : d.Discarded (e.emit o) k off := by
  obtain ⟨ho, h1, h2, h3, h4⟩ := h
  exact ⟨ho.emit o, h1, h2, h3, h4⟩

theorem Dev.popWord_spec (d : Dev) (c a w : Nat) {t : List Nat} (ht : t.length < 64) {e : Dev} (he : e = (d.setFifo c t).emit (.readData a w)) :
    e.hkcOf c = { d.hkcOf c with fifo := t } ∧ e.f (F.HKC_FIFO_STATUS.LEVEL c) = (t.length + 1) / 2 ∧ e.out = d.out ++ [.readData a w] ∧
    { d with hkc := e.hkc }.Only e [F.HKC_FIFO_STATUS.LEVEL c] := by
  obtain ⟨k, hk⟩ : ∃ k, k = d.setHkc c { d.hkcOf c with fifo := t } := ⟨_, rfl⟩
  have hke : e = (k.setF (F.HKC_FIFO_STATUS.LEVEL c) ((t.length + 1) / 2)).emit (.readData a w) := by
    rw [he, hk]
    rfl
  have ho : k.Only e [F.HKC_FIFO_STATUS.LEVEL c] := by
    rw [hke]
    exact ((Dev.Only.refl k _).setF _ _ ⟨Nat.le_of_ble_eq_true rfl, Nat.le_of_ble_eq_true rfl, F.HKC_FIFO_STATUS.LEVEL c, by simp, rfl, le_refl _,
      le_refl _⟩).emit _
  have hh : e.hkc = k.hkc := Dev.RegsOut.eq ho.1 Dev.hkc fun _ _ _ => rfl
  refine ⟨?_, ?_, ?_, ?_⟩
  · rw [Dev.hkcOf_hkc hh, hk, Dev.hkcOf_setHkc]
  · rw [hke, Dev.f_emit]
    exact (Dev.f_same _ _ _ _ _ (Nat.le_of_ble_eq_true rfl) (Nat.le_of_ble_eq_true rfl)).trans (Nat.mod_eq_of_lt (by omega))
  · rw [hke, Dev.emit, Dev.setF_out, hk]
    rfl
  · have hkd : k = { d with hkc := k.hkc } := by rw [hk]; rfl
    rw [hh, ← hkd]
    exact ho

/-! ## A pass (R398, R401) -/

theorem Fld.within_whole_mem {a : Nat} {l : List Fld} (h : whole a ∈ l) : (whole a).within l :=
  ⟨Nat.le_of_ble_eq_true rfl, Nat.le_of_ble_eq_true rfl, whole a, h, rfl, le_refl _, le_refl _⟩

/-- The set that waits is taken, or shown as refused. -/
def Dev.hkcTaken (d : Dev) (c : Nat) : Dev :=
  ((d.setF (F.HKC_SEQ_CTRL.COMMIT c) 0).hkcApply c).1.flagIf (!((d.setF (F.HKC_SEQ_CTRL.COMMIT c) 0).hkcApply c).2) (F.HKC_SEQ_STATUS.COMMIT_REFUSED c)

/-- The pass counts, with its stamp. -/
def Dev.hkcCounted (d : Dev) (c : Nat) : Dev :=
  let b := d.f F.TIM_CFG.HKC_BASE
  let k := (d.set64 (R.HKC_PASS_TIME_LO c) (R.HKC_PASS_TIME_HI c) (d.stampVal b)).stamped b 1
  k.setF (F.HKC_SEQ_STATUS.PASS_CNT c) (k.f (F.HKC_SEQ_STATUS.PASS_CNT c) + 1)

/-- The entries of the set in force run. -/
def Dev.hkcEntries (d : Dev) (c : Nat) (conv : List (List (Int × Bool))) : Dev :=
  ((setEntries (d.hkcOf c).live).foldl (fun acc e => Dev.hkcRunEntry acc c (d.hkcOf c).live e (conv.getD e [])) (d, 0, 0)).1

theorem Dev.hkcPass_stopped {d : Dev} {c : Nat} (h : d.f (F.HKC_SEQ_CTRL.RUN c) = 0) (conv : List (List (Int × Bool))) : d.hkcPass c conv = d := by
  unfold Dev.hkcPass
  rw [if_pos (by simp [Dev.on_zero h])]

theorem Dev.hkcPass_plain {d : Dev} {c : Nat} (h : d.f (F.HKC_SEQ_CTRL.RUN c) = 1) (hc : d.f (F.HKC_SEQ_CTRL.COMMIT c) = 0)
    (conv : List (List (Int × Bool))) : d.hkcPass c conv = (d.hkcCounted c).hkcEntries c conv := by
  unfold Dev.hkcPass
  rw [if_neg (by simp [Dev.on_one h]), if_neg (by simp [Dev.on_zero hc])]
  rfl

theorem Dev.hkcPass_commits {d : Dev} {c : Nat} (h : d.f (F.HKC_SEQ_CTRL.RUN c) = 1) (hc : d.f (F.HKC_SEQ_CTRL.COMMIT c) = 1)
    (conv : List (List (Int × Bool))) : d.hkcPass c conv = ((d.hkcTaken c).hkcCounted c).hkcEntries c conv := by
  unfold Dev.hkcPass
  rw [if_neg (by simp [Dev.on_one h]), if_pos (Dev.on_one hc)]
  rfl

theorem Dev.hkcEntries_runs' (d : Dev) {c : Nat} (hc : c < 2) (conv : List (List (Int × Bool))) : Dev.HkcRuns c d (d.hkcEntries c conv) :=
  Dev.hkcEntries_runs hc _ conv _ (setEntries_lt _) _

/-- Fields that the count of a pass writes. -/
def hkcCountFields (c : Nat) : List Fld :=
  [whole (R.HKC_PASS_TIME_LO c), whole (R.HKC_PASS_TIME_HI c), F.TIM_STAMP_STATUS.FALLBACK_CNT, F.HKC_SEQ_STATUS.PASS_CNT c]

theorem R.hkc_ne_stamp {c a : Nat} (ha : 0xC0000 + 0x1000 * c ≤ a) (hb : a < 0xC0300 + 0x1000 * c) (hc : c < 2) : R.TIM_STAMP_STATUS ≠ a := by
  unfold R.TIM_STAMP_STATUS
  omega

theorem Dev.hkcCounted_spec (d : Dev) {c : Nat} (hc : c < 2) {e : Dev} (he : e = d.hkcCounted c) : d.Only e (hkcCountFields c) ∧
    e.f (F.HKC_SEQ_STATUS.PASS_CNT c) = (d.f (F.HKC_SEQ_STATUS.PASS_CNT c) + 1) % 65536 ∧
    e.r64 (R.HKC_PASS_TIME_LO c) (R.HKC_PASS_TIME_HI c) = d.stampVal (d.f F.TIM_CFG.HKC_BASE) % 2 ^ 64 := by
  obtain ⟨b, hb⟩ : ∃ b, b = d.f F.TIM_CFG.HKC_BASE := ⟨_, rfl⟩
  obtain ⟨j, hj⟩ : ∃ j, j = d.set64 (R.HKC_PASS_TIME_LO c) (R.HKC_PASS_TIME_HI c) (d.stampVal b) := ⟨_, rfl⟩
  obtain ⟨k, hk⟩ : ∃ k, k = j.stamped b 1 := ⟨_, rfl⟩
  have hke : e = k.setF (F.HKC_SEQ_STATUS.PASS_CNT c) (k.f (F.HKC_SEQ_STATUS.PASS_CNT c) + 1) := by
    rw [he, hk, hj, hb]
    rfl
  obtain ⟨-, -, -, ntime, -, -, nlo, nhi⟩ := R.hkcSeq_ne c
  have hjk : j.Only k [F.TIM_STAMP_STATUS.FALLBACK_CNT] := hk ▸ j.stamped_only b 1
  have hdj : d.Only j [whole (R.HKC_PASS_TIME_LO c), whole (R.HKC_PASS_TIME_HI c)] := by
    rw [hj]
    exact (Dev.Only.refl d _).set64 _ _ _ (Fld.within_whole_mem (by simp)) (Fld.within_whole_mem (by simp))
  have hcnt : k.f (F.HKC_SEQ_STATUS.PASS_CNT c) = d.f (F.HKC_SEQ_STATUS.PASS_CNT c) := by
    rw [hjk.f (F.HKC_SEQ_STATUS.PASS_CNT c) (by
      simp only [List.forall_mem_cons]
      refine ⟨.inl (R.hkc_ne_stamp (c := c) ?_ ?_ hc), by simp⟩
      · show 0xC0000 + 0x1000 * c ≤ 0xC0008 + 0x1000 * c
        omega
      · show 0xC0008 + 0x1000 * c < _
        omega), hdj.f (F.HKC_SEQ_STATUS.PASS_CNT c) (by
      simp only [List.forall_mem_cons]
      exact ⟨.inl nlo.symm, .inl nhi.symm, by simp⟩)]
  refine ⟨?_, ?_, ?_⟩
  · rw [hke]
    refine Dev.Only.setF ((hdj.mono ?_).trans (hjk.mono ?_)) _ _ ⟨Nat.le_of_ble_eq_true rfl, Nat.le_of_ble_eq_true rfl, F.HKC_SEQ_STATUS.PASS_CNT c,
      by simp [hkcCountFields], rfl, le_refl _, le_refl _⟩
    · simp [hkcCountFields]
    · simp [hkcCountFields]
  · rw [hke, ← hcnt]
    exact Dev.f_same _ _ _ _ _ (Nat.le_of_ble_eq_true rfl) (Nat.le_of_ble_eq_true rfl)
  · have hlo : e.reg (R.HKC_PASS_TIME_LO c) = j.reg (R.HKC_PASS_TIME_LO c) := by
      rw [hke, Dev.reg_setF_ne _ _ _ nlo.symm, hjk.reg _ (by
        simp only [List.forall_mem_cons]
        refine ⟨R.hkc_ne_stamp (c := c) ?_ ?_ hc, by simp⟩ <;> unfold R.HKC_PASS_TIME_LO <;> omega)]
    have hhi : e.reg (R.HKC_PASS_TIME_HI c) = j.reg (R.HKC_PASS_TIME_HI c) := by
      rw [hke, Dev.reg_setF_ne _ _ _ nhi.symm, hjk.reg _ (by
        simp only [List.forall_mem_cons]
        refine ⟨R.hkc_ne_stamp (c := c) ?_ ?_ hc, by simp⟩ <;> unfold R.HKC_PASS_TIME_HI <;> omega)]
    rw [← Dev.r64_set64 d _ _ (d.stampVal (d.f F.TIM_CFG.HKC_BASE)) ntime, ← hb, ← hj, Dev.r64, Dev.r64, hlo, hhi]

/-- Fields of the sequencer that neither the count nor the entries of a pass write. -/
theorem hkcCountFields_apart {c : Nat} (hc : c < 2) {y : Fld} (h : y.addr = R.HKC_SEQ_CTRL c ∨ (y.addr = R.HKC_SEQ_STATUS c ∧ 15 < y.lo)) :
    ∀ x ∈ hkcCountFields c, x.addr ≠ y.addr ∨ y.hi < x.lo ∨ x.hi < y.lo := by
  obtain ⟨n1, -, -, -, c1, c2, s1, s2⟩ := R.hkcSeq_ne c
  unfold hkcCountFields
  simp only [List.forall_mem_cons]
  have hst : R.TIM_STAMP_STATUS ≠ R.HKC_SEQ_CTRL c ∧ R.TIM_STAMP_STATUS ≠ R.HKC_SEQ_STATUS c := by
    unfold R.TIM_STAMP_STATUS R.HKC_SEQ_CTRL R.HKC_SEQ_STATUS
    omega
  rcases h with h | ⟨h, hlo⟩
  · rw [h]
    exact ⟨.inl c1.symm, .inl c2.symm, .inl hst.1, .inl n1.symm, by simp⟩
  · rw [h]
    exact ⟨.inl s1.symm, .inl s2.symm, .inl hst.2, .inr (.inr hlo), by simp⟩

theorem Dev.hkcCheck_commit (d : Dev) {c : Nat} (hc : c < 2) (s : List Nat) :
    (d.setF (F.HKC_SEQ_CTRL.COMMIT c) 0).hkcCheck c s = d.hkcCheck c s := by
  have howner : (d.setF (F.HKC_SEQ_CTRL.COMMIT c) 0).f F.HKC_EXC_OWNER.OWNER = d.f F.HKC_EXC_OWNER.OWNER := by
    refine Dev.f_other _ _ _ _ _ _ _ _ ?_
    unfold R.HKC_EXC_OWNER R.HKC_SEQ_CTRL
    omega
  have haw : (d.setF (F.HKC_SEQ_CTRL.COMMIT c) 0).awake = d.awake :=
    Bool.eq_iff_iff.2 (by rw [Dev.awake_iff, Dev.awake_iff, Dev.setF_mode, Dev.setF_rst])
  unfold Dev.hkcCheck
  rw [howner, haw]

/-- A set that waits is taken into force, or refused with its code. -/
theorem Dev.hkcTaken_spec {d : Dev} {c code : Nat} (hc : c < 2) {set : List Nat} {en : Option Nat}
    (hset : set = (d.setF (F.HKC_SEQ_CTRL.COMMIT c) 0).hkcShadow c) (h : d.hkcCheck c set = (code, en)) {e : Dev} (he : e = d.hkcTaken c) :
    e.f (F.HKC_SEQ_CTRL.COMMIT c) = 0 ∧ e.f (F.HKC_SEQ_STATUS.ERR c) = code ∧
      (e.hkcOf c).live = (if code = 0 then set else (d.hkcOf c).live) ∧ (code ≠ 0 → e.f (F.HKC_SEQ_STATUS.COMMIT_REFUSED c) = 1) := by
  obtain ⟨y, hy⟩ : ∃ y, y = d.setF (F.HKC_SEQ_CTRL.COMMIT c) 0 := ⟨_, rfl⟩
  have hcheck : y.hkcCheck c (y.hkcShadow c) = (code, en) := by rw [hy, ← hset, d.hkcCheck_commit hc, h]
  have hcommit : y.f (F.HKC_SEQ_CTRL.COMMIT c) = 0 := by
    rw [hy]
    exact (Dev.f_same _ _ _ _ _ (Nat.le_of_ble_eq_true rfl) (Nat.le_of_ble_eq_true rfl)).trans (Nat.zero_mod _)
  have hyh : y.hkcOf c = d.hkcOf c := Dev.hkcOf_hkc (by rw [hy, Dev.setF_hkc]) c
  obtain ⟨k, hk⟩ : ∃ k, k = (y.hkcNamed en).2.hkcShown c code (y.hkcNamed en).1 := ⟨_, rfl⟩
  obtain ⟨herr, -, hhkc, hko⟩ := y.hkcShown_spec c (y.hkcCheck_cases c _ hcheck).1 en hk
  obtain ⟨n1, n2, n3, -⟩ := R.hkcSeq_ne c
  have hkcommit : k.f (F.HKC_SEQ_CTRL.COMMIT c) = 0 := (hko.f (F.HKC_SEQ_CTRL.COMMIT c) (by
    simp only [List.forall_mem_cons]
    exact ⟨.inl n1.symm, .inl n1.symm, by simp⟩)).trans hcommit
  have hint : R.TOP_INT_STATUS ≠ R.HKC_SEQ_CTRL c ∧ R.TOP_INT_STATUS ≠ R.HKC_SEQ_STATUS c := by
    unfold R.TOP_INT_STATUS R.HKC_SEQ_CTRL R.HKC_SEQ_STATUS
    omega
  rw [Dev.hkcTaken, ← hy, Dev.hkcApply_eq hcheck, ← hk] at he
  by_cases h0 : code = 0
  · rw [if_pos h0] at he
    obtain ⟨j, hj⟩ : ∃ j, j = k.setHkc c ((k.hkcOf c).applySet (y.hkcShadow c)) := ⟨_, rfl⟩
    have he' : e = j.setF (F.HKC_PASS_LEN.PASS_LEN c) (passLen (y.hkcShadow c)) := by
      rw [he, ← hj]
      exact if_neg Bool.false_ne_true
    have hjr : j.regs = k.regs := by rw [hj]; rfl
    refine ⟨?_, ?_, ?_, fun hn => absurd h0 hn⟩
    · rw [he', Dev.f_other _ _ _ _ _ _ _ _ n2, Dev.f_regs hjr]
      exact hkcommit
    · rw [he', Dev.f_other _ _ _ _ _ _ _ _ n3, Dev.f_regs hjr]
      exact herr
    · rw [if_pos h0, he', Dev.hkcOf_hkc (Dev.setF_hkc _ _ _), hj, Dev.hkcOf_setHkc, (Hkc.applySet_spec _ _).1, hset, hy]
  · rw [if_neg h0] at he
    have he' : e = k.flag (F.HKC_SEQ_STATUS.COMMIT_REFUSED c) := he.trans (if_pos rfl)
    refine ⟨?_, ?_, ?_, fun _ => ?_⟩
    · rw [he', Dev.f_flag_other _ _ _ _ _ hint.1.symm n1]
      exact hkcommit
    · rw [he', Dev.f_flag_apart k (F.HKC_SEQ_STATUS.COMMIT_REFUSED c) (F.HKC_SEQ_STATUS.ERR c) rfl (Nat.le_of_ble_eq_true rfl) rfl hint.2.symm
        (.inr (Nat.le_of_ble_eq_true rfl))]
      exact herr
    · rw [if_neg h0, he', Dev.hkcOf_hkc (Dev.flag_hkc _ _), Dev.hkcOf_hkc hhkc, hyh]
    · rw [he']
      exact Dev.f_flag_same _ _ _ (by decide) hint.2.symm

/-- What the count and the entries of a pass leave. -/
theorem Dev.hkcRest_spec (d : Dev) {c : Nat} (hc : c < 2) (conv : List (List (Int × Bool))) {e : Dev} (he : e = (d.hkcCounted c).hkcEntries c conv) :
    (e.hkcOf c).live = (d.hkcOf c).live ∧ e.f (F.HKC_SEQ_CTRL.COMMIT c) = d.f (F.HKC_SEQ_CTRL.COMMIT c) ∧
    e.f (F.HKC_SEQ_STATUS.ERR c) = d.f (F.HKC_SEQ_STATUS.ERR c) ∧
    e.f (F.HKC_SEQ_STATUS.COMMIT_REFUSED c) = d.f (F.HKC_SEQ_STATUS.COMMIT_REFUSED c) ∧
    e.f (F.HKC_SEQ_STATUS.PASS_CNT c) = (d.f (F.HKC_SEQ_STATUS.PASS_CNT c) + 1) % 65536 ∧
    e.r64 (R.HKC_PASS_TIME_LO c) (R.HKC_PASS_TIME_HI c) = d.stampVal (d.f F.TIM_CFG.HKC_BASE) % 2 ^ 64 := by
  obtain ⟨k, hk⟩ : ∃ k, k = d.hkcCounted c := ⟨_, rfl⟩
  obtain ⟨ho, hcnt, htime⟩ := d.hkcCounted_spec hc hk
  obtain ⟨hr, hlive⟩ := k.hkcEntries_runs' hc conv
  rw [← hk] at he
  rw [← he] at hr hlive
  have hstay (y : Fld) (h : hkcStays c y) : e.f y = k.f y := hr.f y (hkcRunFields_apart h)
  have hreg (a : Nat) (h : hkcStays c (whole a)) : e.reg a = k.reg a := by
    refine hr.reg a fun x hx hxa => ?_
    rcases hkcRunFields_apart h x hx with h1 | h1 | h1
    · exact h1 hxa
    · have hl : x.lo ≤ 31 := by
        unfold hkcRunFields at hx
        simp only [List.mem_append, List.mem_cons, List.mem_map, List.mem_range, List.not_mem_nil, or_false] at hx
        rcases hx with (rfl | rfl | rfl | rfl) | ⟨e, -, rfl⟩ | ⟨e, -, rfl⟩ <;> exact Nat.le_of_ble_eq_true rfl
      exact absurd hl (Nat.not_le.2 h1)
    · exact Nat.not_lt_zero _ h1
  have hctrl : hkcStays c (F.HKC_SEQ_CTRL.COMMIT c) := by
    refine .inl ?_
    unfold R.HKC_SEQ_STATUS R.HKC_FIFO_STATUS F.HKC_SEQ_CTRL.COMMIT R.HKC_SEQ_CTRL
    dsimp only
    omega
  have hlo : hkcStays c (whole (R.HKC_PASS_TIME_LO c)) := by
    refine .inl ?_
    unfold whole R.HKC_SEQ_STATUS R.HKC_FIFO_STATUS R.HKC_PASS_TIME_LO
    dsimp only
    omega
  have hhi : hkcStays c (whole (R.HKC_PASS_TIME_HI c)) := by
    refine .inl ?_
    unfold whole R.HKC_SEQ_STATUS R.HKC_FIFO_STATUS R.HKC_PASS_TIME_HI
    dsimp only
    omega
  refine ⟨?_, ?_, ?_, ?_, ?_, ?_⟩
  · rw [hlive, Dev.hkcOf_hkc (Dev.RegsOut.eq ho.1 Dev.hkc fun _ _ _ => rfl)]
  · rw [hstay _ hctrl, ho.f (F.HKC_SEQ_CTRL.COMMIT c) (hkcCountFields_apart hc (.inl rfl))]
  · rw [hstay _ (.inr ⟨rfl, .inl (Nat.le_of_ble_eq_true rfl)⟩),
      ho.f (F.HKC_SEQ_STATUS.ERR c) (hkcCountFields_apart hc (.inr ⟨rfl, Nat.le_of_ble_eq_true rfl⟩))]
  · rw [hstay _ (.inr ⟨rfl, .inr (Nat.le_of_ble_eq_true rfl)⟩),
      ho.f (F.HKC_SEQ_STATUS.COMMIT_REFUSED c) (hkcCountFields_apart hc (.inr ⟨rfl, Nat.le_of_ble_eq_true rfl⟩))]
  · rw [hstay _ (.inr ⟨rfl, .inl (Nat.le_of_ble_eq_true rfl)⟩)]
    exact hcnt
  · rw [Dev.r64, hreg _ hlo, hreg _ hhi]
    exact htime

/-! ## The result of an entry without filter (R395, R405) -/

theorem Dev.hkcEntry_congr {d e : Dev} {c : Nat} (h : ∀ g < 8, e.reg (R.HKC_CAL c g) = d.reg (R.HKC_CAL c g)) (s : List Nat) (n : Nat)
    (x : List (Int × Bool)) : e.hkcEntry c s n x = d.hkcEntry c s n x := by
  have hg : cfgGain (setCfg s n) < 8 := bitsOf_lt _ 25 23
  have h1 := h _ hg
  have h2 : e.f (F.HKC_CAL.OFS c (cfgGain (setCfg s n))) = d.f (F.HKC_CAL.OFS c (cfgGain (setCfg s n))) := by
    unfold Dev.f
    rw [h1]
  have h3 : e.f (F.HKC_CAL.GCF c (cfgGain (setCfg s n))) = d.f (F.HKC_CAL.GCF c (cfgGain (setCfg s n))) := by
    unfold Dev.f
    rw [h1]
  unfold Dev.hkcEntry
  dsimp only
  rw [Dev.fi_congr h2, h3]

theorem Dev.hkcEntry_reason {d : Dev} {c : Nat} {s : List Nat} {n : Nat} {x : List (Int × Bool)} {v : Int} {reason : Nat} {fault : Bool}
    (h : d.hkcEntry c s n x = (v, reason, fault)) : reason < 8 := by
  unfold Dev.hkcEntry at h
  extract_lets w m k conv bad used g ys r at h
  rw [Prod.mk.injEq, Prod.mk.injEq] at h
  rw [← h.2.1]
  show (if used.any (·.2) then 6 else if used.any (fun p => decide (p.1 = rawLo m ∨ p.1 = rawHi m)) then 5
    else if bad && decide (k = 1) then 4 else 0) < 8
  repeat' split
  all_goals decide

theorem meanHalfUp_one (v : Int) : meanHalfUp (sumI [v]) 1 = v := by
  have h1 : sumI [v] = v := Int.zero_add v
  unfold meanHalfUp divFloor
  rw [h1, Int.fdiv_eq_ediv_of_nonneg _ (by decide)]
  omega

/-- An entry that takes one value a pass gives that value. -/
theorem HkcEnt.output_one {x : HkcEnt} {v : Int} {r : Nat} {t : List (Int × Nat)} (h : x.hist = (v, r) :: t) (hs : x.since = none) :
    x.output 1 = (v, r) := by
  unfold HkcEnt.output
  rw [h, hs]
  have h1 : List.take 1 ((v, r) :: t) = [(v, r)] := rfl
  simp only [h1, List.map_cons, List.map_nil, meanHalfUp_one, List.foldl_cons, List.foldl_nil, Nat.zero_max, Bool.false_eq_true, if_false,
    List.length_singleton, Nat.lt_irrefl]

/-- An entry at rest: no change waits, no guard, no value held back. -/
structure HkcEnt.Steady (x : HkcEnt) : Prop where
  change : x.change = none
  guard : x.guard = 0
  emit : x.emit = 0
  since : x.since = none

/-- Entry 0 without filter and COMBINE gives its own corrected mean. -/
theorem Dev.hkcRunEntry_first {d : Dev} {c : Nat} (hc : c < 2) {s : List Nat} {conv : List (Int × Bool)} {v : Int} {reason : Nat} {fault : Bool}
    (hfilt : filtKind (setFilt s 0) = 0) (hcomb : cfgCombine (setCfg s 0) = 0) (hx : ((d.hkcOf c).ent 0).Steady)
    (hent : d.hkcEntry c s 0 conv = (v, reason, fault)) :
    ∃ k, Dev.HkcRuns c d k ∧ (Dev.hkcRunEntry (d, 0, 0) c s 0 conv).1 = k.hkcEmit c 0 (cfgFifo (setCfg s 0)) v reason := by
  unfold Dev.hkcRunEntry
  extract_lets d1 r d2 ch x own w j x' out due d3
  have h1 : d.Only d1 (hkcRunFields c) := Dev.hkcExcite_only _ _ _ _ _
  have h2 : d.Only d2 (hkcRunFields c) := h1.flagIf _ _ (hkcRun_flag (.inl rfl)) (hkcRun_int hc (.inl rfl))
  have hof : d2.hkcOf c = d.hkcOf c := Dev.hkcOf_hkc (Dev.RegsOut.eq h2.1 Dev.hkc fun _ _ _ => rfl) c
  have hd1 : ∀ g < 8, d1.reg (R.HKC_CAL c g) = d.reg (R.HKC_CAL c g) := fun g _ => (Dev.hkcExcite_only d c s 0 []).reg _ (by simp)
  have hr : r = (v, reason, fault) := (Dev.hkcEntry_congr hd1 s 0 conv).trans hent
  have hch : ch = none := by
    show ((d2.hkcOf c).ent 0).change = none
    rw [hof, hx.change]
  have hxx : x = (d.hkcOf c).ent 0 := by
    show ((d2.hkcOf c).ent 0).begin (setGuard s) = _
    rw [hof, HkcEnt.begin, hx.change]
  have hown : own = (v, reason) := by
    show (r.1, entReason x ch r.2.1) = _
    rw [hr, hch, hxx, entReason, if_neg (by rw [hx.guard]; decide)]
  have hj : j = (v, reason) := by
    show (if cfgCombine w = 1 then _ else if cfgCombine w = 2 then _ else own) = _
    rw [if_neg (by rw [show cfgCombine w = 0 from hcomb]; decide), if_neg (by rw [show cfgCombine w = 0 from hcomb]; decide), hown]
  have hhist : x'.hist = (v, reason) :: x.hist.take (hkcWindow - 1) := by
    show (j :: x.hist).take hkcWindow = _
    rw [hj]
    rfl
  have hsince : x'.since = none := by
    show x.since.map (· + 1) = none
    rw [hxx, hx.since]
    rfl
  have hout : out = (v, reason) := by
    show x'.output (filtLen (setDiv s) (setFilt s 0)) = _
    rw [filtLen, if_pos hfilt]
    exact HkcEnt.output_one hhist hsince
  have hdue : due = true := by
    show decide (x'.emit = 0) = true
    refine decide_eq_true ?_
    show x.emit = 0
    rw [hxx, hx.emit]
  have h3 : Dev.HkcRuns c d d3 := (Dev.HkcRuns.only h2).trans (.setHkc d2 rfl)
  clear_value d3 out due
  refine ⟨d3, h3, ?_⟩
  dsimp only
  rw [if_pos hdue, hout]

/-- The first result word: its bits. -/
theorem hkcWords_fields {c : Nat} (hc : c < 2) (u : Bool) (v : Int) {reason : Nat} (hr : reason < 8) (pass : Nat) {w : Nat × Nat}
    (hw : w = hkcWords c 0 u v reason pass) : w.1 < 2 ^ 32 ∧ w.2 < 2 ^ 32 ∧ bitsOf w.1 19 0 = unsigned 20 (clampI v (-524287) 524287) ∧
    bitsOf w.1 29 27 = reason ∧ bitsOf w.1 31 31 = (if reason = 0 then 1 else 0) ∧ bitsOf w.1 26 22 = 0 ∧ bitsOf w.1 21 21 = c ∧
    bitsOf w.2 31 16 = pass % 65536 := by
  obtain ⟨x, hx⟩ : ∃ x, x = unsigned 20 (clampI v (-524287) 524287) := ⟨_, rfl⟩
  have hx20 : x < 1048576 := by
    rw [hx]
    unfold unsigned
    omega
  have hval : b2n (decide (reason = 0)) = if reason = 0 then 1 else 0 := by
    unfold b2n
    by_cases h : reason = 0 <;> simp [h]
  have hu : b2n u ≤ 1 := by cases u <;> decide
  unfold hkcWords at hw
  rw [← hx, hval] at hw
  obtain ⟨b, hb⟩ : ∃ b, b = b2n u := ⟨_, rfl⟩
  obtain ⟨t, ht⟩ : ∃ t, t = if reason = 0 then 1 else 0 := ⟨_, rfl⟩
  have ht1 : t ≤ 1 := by rw [ht]; split <;> decide
  rw [← hb] at hw hu
  rw [← ht] at hw
  rw [hw, ← hx, ← ht]
  unfold bitsOf
  dsimp only
  norm_num
  omega

theorem Dev.hkcPush_reg (d : Dev) {c : Nat} (hc : c < 2) (w : Nat × Nat) :
    Dev.RegsKept (fun a => a = R.HKC_RES_W0 c 0 ∨ a = R.HKC_RES_W1 c 0) d (d.hkcPush c w) := by
  have hapart : ∀ a, a = R.HKC_SEQ_STATUS c ∨ a = R.HKC_FIFO_STATUS c ∨ a = R.TOP_INT_STATUS → ¬ (a = R.HKC_RES_W0 c 0 ∨ a = R.HKC_RES_W1 c 0) := by
    unfold R.HKC_SEQ_STATUS R.HKC_FIFO_STATUS R.TOP_INT_STATUS R.HKC_RES_W0 R.HKC_RES_W1
    intro a
    omega
  unfold Dev.hkcPush
  extract_lets q
  split
  · exact ((Dev.RegsKept.refl _ d).flag _ ⟨Nat.le_of_ble_eq_true rfl, Nat.le_of_ble_eq_true rfl⟩ (hapart _ (.inl rfl))
      (hapart _ (.inr (.inr rfl)))).count _ _ (hapart _ (.inr (.inl rfl)))
  · unfold Dev.setFifo
    exact Dev.RegsKept.setF (e := d.setHkc c { d.hkcOf c with fifo := q ++ [w.1, w.2] }) (.of_regs rfl) _ _ (hapart _ (.inr (.inl rfl)))

theorem Dev.hkcEmit_words (d : Dev) {c : Nat} (hc : c < 2) (fifo : Bool) (v : Int) {reason : Nat} (hr : reason < 8) {e : Dev}
    (he : e = d.hkcEmit c 0 fifo v reason) : e.f (F.HKC_RES_W0.VALUE c 0) = unsigned 20 (clampI v (-524287) 524287) ∧
    e.f (F.HKC_RES_W0.REASON c 0) = reason ∧ e.f (F.HKC_RES_W0.VALID c 0) = (if reason = 0 then 1 else 0) ∧
    e.f (F.HKC_RES_W0.ENTRY c 0) = 0 ∧ e.f (F.HKC_RES_W0.CONVERTER c 0) = c ∧
    e.f (F.HKC_RES_W1.PASS c 0) = d.f (F.HKC_SEQ_STATUS.PASS_CNT c) % 65536 := by
  obtain ⟨w, hw⟩ : ∃ w, w = hkcWords c 0 (!d.hkcCal) v reason (d.f (F.HKC_SEQ_STATUS.PASS_CNT c)) := ⟨_, rfl⟩
  obtain ⟨h1, h2, hval, hreason, hvalid, hentry, hconv, hpass⟩ := hkcWords_fields hc _ v hr _ hw
  obtain ⟨k, hk⟩ : ∃ k, k = (d.setReg (R.HKC_RES_W0 c 0) (BitVec.ofNat 32 w.1)).setReg (R.HKC_RES_W1 c 0) (BitVec.ofNat 32 w.2) := ⟨_, rfl⟩
  have hne : R.HKC_RES_W0 c 0 ≠ R.HKC_RES_W1 c 0 := by
    unfold R.HKC_RES_W0 R.HKC_RES_W1
    omega
  have hek : Dev.RegsKept (fun a => a = R.HKC_RES_W0 c 0 ∨ a = R.HKC_RES_W1 c 0) k e := by
    rw [he, Dev.hkcEmit, ← hw]
    rw [← hk]
    split
    · exact k.hkcPush_reg hc w
    · exact .refl _ k
  have hw0 : (e.reg (R.HKC_RES_W0 c 0)).toNat = w.1 := by
    rw [hek _ (.inl rfl), hk, Dev.reg_setReg_ne _ _ hne, Dev.reg_setReg_self, BitVec.toNat_ofNat, Nat.mod_eq_of_lt h1]
  have hw1 : (e.reg (R.HKC_RES_W1 c 0)).toNat = w.2 := by
    rw [hek _ (.inr rfl), hk, Dev.reg_setReg_self, BitVec.toNat_ofNat, Nat.mod_eq_of_lt h2]
  unfold Dev.f
  rw [hw0, hw1]
  exact ⟨hval, hreason, hvalid, hentry, hconv, hpass⟩

/-- A pass of entry 0 alone: its result. -/
theorem Dev.hkcPass_first {d : Dev} {c : Nat} (hc : c < 2) {conv : List (List (Int × Bool))} {set : List Nat} {v : Int} {reason : Nat} {fault : Bool}
    (hset : set = (d.hkcOf c).live) (hlast : setLast set = 0) (hfilt : filtKind (setFilt set 0) = 0) (hcomb : cfgCombine (setCfg set 0) = 0)
    (hx : ((d.hkcOf c).ent 0).Steady) (hent : d.hkcEntry c set 0 (conv.getD 0 []) = (v, reason, fault)) {e : Dev}
    (he : e = (d.hkcCounted c).hkcEntries c conv) : e.f (F.HKC_RES_W0.VALUE c 0) = unsigned 20 (clampI v (-524287) 524287) ∧
    e.f (F.HKC_RES_W0.REASON c 0) = reason ∧ e.f (F.HKC_RES_W0.VALID c 0) = (if reason = 0 then 1 else 0) ∧
    e.f (F.HKC_RES_W0.ENTRY c 0) = 0 ∧ e.f (F.HKC_RES_W0.CONVERTER c 0) = c ∧
    e.f (F.HKC_RES_W1.PASS c 0) = (d.f (F.HKC_SEQ_STATUS.PASS_CNT c) + 1) % 65536 := by
  obtain ⟨k, hk⟩ : ∃ k, k = d.hkcCounted c := ⟨_, rfl⟩
  obtain ⟨ho, hcnt, -⟩ := d.hkcCounted_spec hc hk
  have hof : k.hkcOf c = d.hkcOf c := Dev.hkcOf_hkc (Dev.RegsOut.eq ho.1 Dev.hkc fun _ _ _ => rfl) c
  have hcal : ∀ g < 8, k.reg (R.HKC_CAL c g) = d.reg (R.HKC_CAL c g) := by
    intro g hg
    refine ho.reg _ ?_
    have hst : R.TIM_STAMP_STATUS ≠ R.HKC_CAL c g := by
      unfold R.TIM_STAMP_STATUS R.HKC_CAL
      omega
    have hlo : R.HKC_PASS_TIME_LO c ≠ R.HKC_CAL c g ∧ R.HKC_PASS_TIME_HI c ≠ R.HKC_CAL c g ∧ R.HKC_SEQ_STATUS c ≠ R.HKC_CAL c g := by
      unfold R.HKC_PASS_TIME_LO R.HKC_PASS_TIME_HI R.HKC_SEQ_STATUS R.HKC_CAL
      omega
    unfold hkcCountFields
    simp only [List.forall_mem_cons]
    exact ⟨hlo.1, hlo.2.1, hst, hlo.2.2, by simp⟩
  have hlist : setEntries set = [0] := by
    unfold setEntries
    rw [hlast]
    rfl
  obtain ⟨j, hj, hrun⟩ := Dev.hkcRunEntry_first (d := k) hc hfilt hcomb (hof ▸ hx) ((Dev.hkcEntry_congr hcal set 0 _).trans hent)
  have hee : e = j.hkcEmit c 0 (cfgFifo (setCfg set 0)) v reason := by
    rw [he, ← hk, Dev.hkcEntries, hof, ← hset, hlist, ← hrun]
    rfl
  have hjcnt : j.f (F.HKC_SEQ_STATUS.PASS_CNT c) = (d.f (F.HKC_SEQ_STATUS.PASS_CNT c) + 1) % 65536 :=
    (hj.1.f _ (hkcRunFields_apart (.inr ⟨rfl, .inl (Nat.le_of_ble_eq_true rfl)⟩))).trans hcnt
  obtain ⟨h1, h2, h3, h4, h5, h6⟩ := j.hkcEmit_words hc _ v (Dev.hkcEntry_reason hent) hee
  exact ⟨h1, h2, h3, h4, h5, by rw [h6, hjcnt, Nat.mod_mod]⟩

/-! ## Self-calibration (R411) -/

/-- The factors of one gain that pass R411. -/
def goodFactors (f : Int × Int) : Prop := f.1.natAbs ≤ 1024 ∧ 15565 ≤ f.2 ∧ f.2 ≤ 17203

theorem Dev.hkcFactors_ok {d : Dev} {m0 m1 : Int} {sources : Bool} {f : Int × Int} (h : d.hkcFactors m0 m1 sources = .ok f) : goodFactors f := by
  unfold Dev.hkcFactors at h
  split at h
  · exact absurd h (by simp)
  case isFalse h1 =>
    split at h
    · exact absurd h (by simp)
    · extract_lets gcf at h
      split at h
      · exact absurd h (by simp)
      case isFalse h2 =>
        split at h
        · exact absurd h (by simp)
        · rw [Except.ok.injEq] at h
          rw [← h]
          unfold goodFactors
          dsimp only
          omega

theorem Dev.hkcFactors_error {d : Dev} {m0 m1 : Int} {sources : Bool} {code : Nat} (h : d.hkcFactors m0 m1 sources = .error code) :
    code < 8 ∧ code ≠ 0 := by
  unfold Dev.hkcFactors at h
  split at h
  · rw [Except.error.injEq] at h; omega
  · split at h
    · rw [Except.error.injEq] at h; omega
    · extract_lets gcf at h
      split at h
      · rw [Except.error.injEq] at h; omega
      · split at h
        · rw [Except.error.injEq] at h; omega
        · exact absurd h (by simp)

/-- One gain of a self-calibration. -/
def Dev.hkcGain (d : Dev) (x : List (Int × Int × Bool)) (acc : Except Nat (List (Int × Int))) (i : Nat) : Except Nat (List (Int × Int)) :=
  match acc with
  | .error e => .error e
  | .ok l => match d.hkcFactors (x.getD i (0, 0, false)).1 (x.getD i (0, 0, false)).2.1 (x.getD i (0, 0, false)).2.2 with
    | .error e => .error e
    | .ok f => .ok (l ++ [f])

theorem Dev.hkcMeasure_eq (d : Dev) (x : List (Int × Int × Bool)) : d.hkcMeasure x = (List.range 12).foldl (d.hkcGain x) (.ok []) := rfl

theorem Dev.hkcGains_spec (d : Dev) (x : List (Int × Int × Bool)) (r : List Nat) (acc : Except Nat (List (Int × Int)))
    (hok : ∀ l, acc = .ok l → ∀ f ∈ l, goodFactors f) (herr : ∀ e, acc = .error e → e < 8 ∧ e ≠ 0) :
    (∀ l, r.foldl (d.hkcGain x) acc = .ok l → (∀ f ∈ l, goodFactors f) ∧ ∃ l0, acc = .ok l0 ∧ l.length = l0.length + r.length) ∧
    (∀ e, r.foldl (d.hkcGain x) acc = .error e → e < 8 ∧ e ≠ 0) := by
  induction r generalizing acc with
  | nil => exact ⟨fun l h => ⟨hok l h, l, h, rfl⟩, herr⟩
  | cons i r ih =>
    rw [List.foldl_cons]
    cases acc with
    | error e =>
      have h := ih (d.hkcGain x (.error e) i) (fun l h => absurd h (by simp [Dev.hkcGain])) (fun e' h' => herr e' h')
      refine ⟨fun l hl => ?_, h.2⟩
      obtain ⟨-, l0, h0, -⟩ := h.1 l hl
      exact absurd h0 (by simp [Dev.hkcGain])
    | ok l0 =>
      cases hf : d.hkcFactors (x.getD i (0, 0, false)).1 (x.getD i (0, 0, false)).2.1 (x.getD i (0, 0, false)).2.2 with
      | error e =>
        have hg : d.hkcGain x (.ok l0) i = .error e := by
          unfold Dev.hkcGain
          dsimp only
          rw [hf]
        have h := ih (d.hkcGain x (.ok l0) i) (fun l h => absurd (hg.symm.trans h) (by simp))
          (fun e' h' => by rw [hg, Except.error.injEq] at h'; exact h' ▸ Dev.hkcFactors_error hf)
        refine ⟨fun l hl => ?_, h.2⟩
        obtain ⟨-, l1, h1, -⟩ := h.1 l hl
        exact absurd (hg.symm.trans h1) (by simp)
      | ok f =>
        have hg : d.hkcGain x (.ok l0) i = .ok (l0 ++ [f]) := by
          unfold Dev.hkcGain
          dsimp only
          rw [hf]
        have h := ih (d.hkcGain x (.ok l0) i) (fun l h => by
          rw [hg, Except.ok.injEq] at h
          rw [← h]
          intro y hy
          rcases List.mem_append.1 hy with hy | hy
          · exact hok l0 rfl y hy
          · exact List.mem_singleton.1 hy ▸ Dev.hkcFactors_ok hf) (fun e h => absurd (hg.symm.trans h) (by simp))
        refine ⟨fun l hl => ?_, h.2⟩
        obtain ⟨hgood, l1, h1, hlen⟩ := h.1 l hl
        rw [hg, Except.ok.injEq] at h1
        refine ⟨hgood, l0, rfl, ?_⟩
        rw [hlen, ← h1, List.length_append, List.length_singleton, List.length_cons]
        omega

theorem Dev.hkcMeasure_ok {d : Dev} {x : List (Int × Int × Bool)} {l : List (Int × Int)} (h : d.hkcMeasure x = .ok l) {i : Nat} (hi : i < 12) :
    goodFactors (l.getD i (0, 0)) := by
  obtain ⟨hspec, -⟩ := d.hkcGains_spec x (List.range 12) (.ok []) (fun l h => by rw [← Except.ok.inj h]; simp) (fun e h => absurd h (by simp))
  obtain ⟨hgood, l0, h0, hlen⟩ := hspec l (d.hkcMeasure_eq x ▸ h)
  rw [← Except.ok.inj h0, List.length_range, List.length_nil] at hlen
  have hil : i < l.length := by omega
  rw [List.getD_eq_getElem _ _ hil]
  exact hgood _ (List.getElem_mem hil)

theorem Dev.hkcMeasure_error {d : Dev} {x : List (Int × Int × Bool)} {code : Nat} (h : d.hkcMeasure x = .error code) : code < 8 ∧ code ≠ 0 :=
  (d.hkcGains_spec x (List.range 12) (.ok []) (fun l h => by rw [← Except.ok.inj h]; simp) (fun e h => absurd h (by simp))).2 code
    (d.hkcMeasure_eq x ▸ h)

/-- Both factors of one gain written. -/
def Dev.putFactors (l : List (Int × Int)) (d : Dev) (i : Nat) : Dev :=
  (d.setFI (F.HKC_CAL.OFS (i / 6) (i % 6)) (l.getD i (0, 0)).1).setFI (F.HKC_CAL.GCF (i / 6) (i % 6)) (l.getD i (0, 0)).2

theorem R.hkcCal_inj {i j : Nat} (h : i ≠ j) : R.HKC_CAL (i / 6) (i % 6) ≠ R.HKC_CAL (j / 6) (j % 6) := by
  unfold R.HKC_CAL
  omega

theorem Dev.putFactors_self (l : List (Int × Int)) (d : Dev) (i : Nat) :
    (d.putFactors l i).f (F.HKC_CAL.OFS (i / 6) (i % 6)) = unsigned 16 (l.getD i (0, 0)).1 % 65536 ∧
    (d.putFactors l i).f (F.HKC_CAL.GCF (i / 6) (i % 6)) = unsigned 16 (l.getD i (0, 0)).2 % 65536 := by
  unfold Dev.putFactors Dev.setFI
  refine ⟨?_, Dev.f_same _ _ _ _ _ (Nat.le_of_ble_eq_true rfl) (Nat.le_of_ble_eq_true rfl)⟩
  rw [Dev.f_apart _ _ _ _ _ _ _ (Nat.le_of_ble_eq_true rfl) (Nat.le_of_ble_eq_true rfl) (.inl (Nat.le_of_ble_eq_true rfl))]
  exact Dev.f_same _ _ _ _ _ (Nat.le_of_ble_eq_true rfl) (Nat.le_of_ble_eq_true rfl)

theorem Dev.putFactors_other (l : List (Int × Int)) (d : Dev) {i j : Nat} (h : j ≠ i) :
    (d.putFactors l i).reg (R.HKC_CAL (j / 6) (j % 6)) = d.reg (R.HKC_CAL (j / 6) (j % 6)) := by
  unfold Dev.putFactors Dev.setFI
  rw [Dev.reg_setF_ne _ _ _ (R.hkcCal_inj h), Dev.reg_setF_ne _ _ _ (R.hkcCal_inj h)]

theorem Dev.putAll_spec (l : List (Int × Int)) (d : Dev) (n : Nat) : ∀ i < n,
    ((List.range n).foldl (Dev.putFactors l) d).f (F.HKC_CAL.OFS (i / 6) (i % 6)) = unsigned 16 (l.getD i (0, 0)).1 % 65536 ∧
    ((List.range n).foldl (Dev.putFactors l) d).f (F.HKC_CAL.GCF (i / 6) (i % 6)) = unsigned 16 (l.getD i (0, 0)).2 % 65536 := by
  induction n with
  | zero => exact fun i hi => absurd hi (Nat.not_lt_zero i)
  | succ n ih =>
    intro i hi
    rw [List.range_succ, List.foldl_append, List.foldl_cons, List.foldl_nil]
    by_cases h : i = n
    · rw [h]
      exact Dev.putFactors_self l _ n
    · have hr := Dev.putFactors_other l ((List.range n).foldl (Dev.putFactors l) d) h
      obtain ⟨h1, h2⟩ := ih i (by omega)
      unfold Dev.f at h1 h2 ⊢
      rw [hr]
      exact ⟨h1, h2⟩

theorem signed_factor {x : Int} (h : x.natAbs ≤ 1024) : signed 16 (unsigned 16 x % 65536) = x := by
  unfold signed unsigned
  extract_lets v
  have hv : v = (x % 2 ^ 16).toNat % 65536 % 2 ^ 16 := rfl
  clear_value v
  norm_num at hv ⊢
  split <;> omega

theorem unsigned_factor {x : Int} (h : 15565 ≤ x ∧ x ≤ 17203) : ((unsigned 16 x % 65536 : Nat) : Int) = x := by
  unfold unsigned
  norm_num
  omega

/-- The end of a run shown. -/
def Dev.calShown (d : Dev) (code : Nat) : Dev :=
  ((d.setF F.HKC_CAL_STATUS.RESULT code).setB F.HKC_CAL_STATUS.CAL_OK (decide (code = 0))).flag F.HKC_CAL_STATUS.DONE

def calShownFields : List Fld := [F.HKC_CAL_STATUS.RESULT, F.HKC_CAL_STATUS.CAL_OK, F.HKC_CAL_STATUS.DONE, intBit (intBitOf R.HKC_CAL_STATUS)]

theorem Dev.calShown_spec (d : Dev) {code : Nat} (hc : code < 256) : (d.calShown code).f F.HKC_CAL_STATUS.RESULT = code ∧
    (d.calShown code).f F.HKC_CAL_STATUS.CAL_OK = b2n (decide (code = 0)) ∧ (d.calShown code).f F.HKC_CAL_STATUS.DONE = 1 ∧
    d.Only (d.calShown code) calShownFields := by
  unfold Dev.calShown Dev.setB
  refine ⟨?_, ?_, Dev.f_flag_same _ _ _ (by decide) (by decide), ?_⟩
  · rw [Dev.f_flag_apart _ F.HKC_CAL_STATUS.DONE F.HKC_CAL_STATUS.RESULT rfl (by decide) rfl (by decide) (.inr (by decide)),
      Dev.f_apart _ _ _ _ _ _ _ (by decide) (by decide) (.inr (by decide))]
    exact (Dev.f_same _ _ _ _ _ (by decide) (by decide)).trans (Nat.mod_eq_of_lt hc)
  · rw [Dev.f_flag_apart _ F.HKC_CAL_STATUS.DONE F.HKC_CAL_STATUS.CAL_OK rfl (by decide) rfl (by decide) (.inr (by decide))]
    exact (Dev.f_same _ _ _ _ _ (by decide) (by decide)).trans (b2n_mod _)
  · exact (((Dev.Only.refl d _).setF _ _ (by simp [Fld.within, calShownFields])).setF _ _ (by simp [Fld.within, calShownFields])).flag _
      (by simp [Fld.within, calShownFields]) (intBit_within rfl (intBitOf_lt _) (by simp [calShownFields]))

theorem Dev.calRefused_spec (d : Dev) {code : Nat} (hc : code < 256) {m : Dev}
    (hm : m = (d.setF F.HKC_CAL_STATUS.RESULT code).flag F.HKC_CAL_STATUS.DONE) : m.f F.HKC_CAL_STATUS.RESULT = code ∧
    m.f F.HKC_CAL_STATUS.DONE = 1 ∧ d.Only m [F.HKC_CAL_STATUS.RESULT, F.HKC_CAL_STATUS.DONE, intBit (intBitOf R.HKC_CAL_STATUS)] := by
  rw [hm]
  refine ⟨?_, Dev.f_flag_same _ _ _ (by decide) (by decide), ?_⟩
  · rw [Dev.f_flag_apart _ F.HKC_CAL_STATUS.DONE F.HKC_CAL_STATUS.RESULT rfl (by decide) rfl (by decide) (.inr (by decide))]
    exact (Dev.f_same _ _ _ _ _ (by decide) (by decide)).trans (Nat.mod_eq_of_lt hc)
  · exact ((Dev.Only.refl d _).setF _ _ (by simp [Fld.within])).flag _ (by simp [Fld.within]) (intBit_within rfl (intBitOf_lt _) (by simp))

/-- All factors at once, and the run's end. -/
def Dev.calCommitted (d : Dev) (l : List (Int × Int)) : Dev := { (List.range 12).foldl (Dev.putFactors l) d with hkcCal := true }

theorem Dev.hkcCalRun_refused {d : Dev} {code : Nat} (h : (d.modeIn [.standby, .calibrate, .service] = false ∧ code = 1) ∨
    (d.modeIn [.standby, .calibrate, .service] = true ∧ (d.f (F.HKC_SEQ_CTRL.RUN 0) = 1 ∨ d.f (F.HKC_SEQ_CTRL.RUN 1) = 1) ∧ code = 2))
    (src : Src) (x : List (Int × Int × Bool)) :
    d.hkcCalRun src x = ((d.setF F.HKC_CAL_STATUS.RESULT code).flag F.HKC_CAL_STATUS.DONE).complete src (stCode code) := by
  unfold Dev.hkcCalRun
  rcases h with ⟨hm, rfl⟩ | ⟨hm, hr, rfl⟩
  · exact if_pos (by simp [hm])
  · refine (if_neg (by simp [hm])).trans (if_pos ?_)
    rcases hr with hr | hr
    · rw [Dev.on_one hr, Bool.true_or]
    · rw [Dev.on_one hr, Bool.or_true]

theorem Dev.hkcCalRun_runs {d : Dev} (hm : d.modeIn [.standby, .calibrate, .service] = true) (h0 : d.f (F.HKC_SEQ_CTRL.RUN 0) = 0)
    (h1 : d.f (F.HKC_SEQ_CTRL.RUN 1) = 0) (src : Src) (x : List (Int × Int × Bool)) :
    d.hkcCalRun src x = (d.hkcSelfcal x).1.complete src (stResult (d.hkcSelfcal x).2) := by
  unfold Dev.hkcCalRun
  rw [if_neg (by simp [hm]), if_neg (by simp [Dev.on_zero h0, Dev.on_zero h1])]

theorem Dev.hkcSelfcal_fails {d : Dev} {x : List (Int × Int × Bool)} {code : Nat} (h : d.hkcMeasure x = .error code) :
    d.hkcSelfcal x = (d.calShown code, code) := by
  unfold Dev.hkcSelfcal
  rw [h]
  rfl

theorem Dev.hkcSelfcal_passes {d : Dev} {x : List (Int × Int × Bool)} {l : List (Int × Int)} (h : d.hkcMeasure x = .ok l) :
    d.hkcSelfcal x = ((d.calCommitted l).calShown 0, 0) := by
  unfold Dev.hkcSelfcal
  rw [h]
  rfl

theorem Dev.calCommitted_spec {d : Dev} {x : List (Int × Int × Bool)} {l : List (Int × Int)} (h : d.hkcMeasure x = .ok l) {m : Dev}
    (hm : m = (d.calCommitted l).calShown 0) : m.f F.HKC_CAL_STATUS.RESULT = 0 ∧ m.f F.HKC_CAL_STATUS.CAL_OK = 1 ∧ m.f F.HKC_CAL_STATUS.DONE = 1 ∧
    m.hkcCal = true ∧ (∀ i < 12, m.fi (F.HKC_CAL.OFS (i / 6) (i % 6)) = (l.getD i (0, 0)).1 ∧
      (m.f (F.HKC_CAL.GCF (i / 6) (i % 6)) : Int) = (l.getD i (0, 0)).2 ∧ (l.getD i (0, 0)).1.natAbs ≤ 1024 ∧
      15565 ≤ (l.getD i (0, 0)).2 ∧ (l.getD i (0, 0)).2 ≤ 17203) := by
  obtain ⟨k, hk⟩ : ∃ k, k = d.calCommitted l := ⟨_, rfl⟩
  have hall := Dev.putAll_spec l d 12
  obtain ⟨y, hy⟩ : ∃ y, y = (List.range 12).foldl (Dev.putFactors l) d := ⟨_, rfl⟩
  rw [← hy] at hall
  have hky : k = { y with hkcCal := true } := by
    rw [hk, Dev.calCommitted, ← hy]
  obtain ⟨hres, hok, hdone, ho⟩ := k.calShown_spec (code := 0) (by decide)
  rw [← hk] at hm
  rw [← hm] at hres hok hdone ho
  have hcal : k.hkcCal = true := by rw [hky]
  refine ⟨hres, hok, hdone, (Dev.RegsOut.eq ho.1 Dev.hkcCal fun _ _ _ => rfl).trans hcal, fun i hi => ?_⟩
  have hgood := Dev.hkcMeasure_ok h hi
  obtain ⟨hg1, hg2, hg3⟩ := hgood
  obtain ⟨h1, h2⟩ := hall i hi
  have hne : R.HKC_CAL_STATUS ≠ R.HKC_CAL (i / 6) (i % 6) ∧ R.TOP_INT_STATUS ≠ R.HKC_CAL (i / 6) (i % 6) := by
    unfold R.HKC_CAL_STATUS R.TOP_INT_STATUS R.HKC_CAL
    omega
  have hkeep (hi' lo' : Nat) : m.f ⟨R.HKC_CAL (i / 6) (i % 6), hi', lo'⟩ = y.f ⟨R.HKC_CAL (i / 6) (i % 6), hi', lo'⟩ := by
    rw [ho.f ⟨R.HKC_CAL (i / 6) (i % 6), hi', lo'⟩ (by
      unfold calShownFields
      simp only [List.forall_mem_cons]
      exact ⟨.inl hne.1, .inl hne.1, .inl hne.1, .inl hne.2, by simp⟩), hky]
    rfl
  refine ⟨?_, ?_, hg1, hg2, hg3⟩
  · unfold Dev.fi
    rw [hkeep, h1]
    exact signed_factor hg1
  · rw [hkeep, h2]
    exact unsigned_factor ⟨hg2, hg3⟩

/-- Settles O46. -/
theorem housekeepingConverters : Obligations.HousekeepingConverters := by
  refine ⟨fun s c => ⟨fun ha => ⟨fun hr => ?_, fun code en hr hcheck => ⟨fun h0 => ?_, fun h0 => ?_⟩, ?_, fun rq off => ⟨fun hf hfree => ?_,
    fun w t hf ht => ?_⟩⟩, fun conv hr => ?_, fun conv hr => ⟨fun hcm set code en hset hcheck => ?_, fun hcm => ⟨?_,
    fun set v reason fault hset hlast hfilt hcomb hch hguard hemit hsince hent => ?_⟩⟩⟩, fun s src x => ⟨fun code h => ?_, fun hm h0 h1 =>
    ⟨fun code h => ?_, fun l h => ?_⟩⟩⟩
  · refine State.ignores (f := fun d => if d.awake && !d.on (F.HKC_SEQ_CTRL.RUN c) then d.hkcStart c else d) rfl (if_neg ?_)
    rw [Dev.on_one hr]
    simp
  · refine State.does (f := fun d => if d.awake && !d.on (F.HKC_SEQ_CTRL.RUN c) then d.hkcStart c else d) rfl ?_
    rw [if_pos (by rw [ha, Dev.on_zero hr]; rfl)]
    exact Dev.hkcStart_runs (h0 ▸ hcheck) rfl
  · refine State.does (f := fun d => if d.awake && !d.on (F.HKC_SEQ_CTRL.RUN c) then d.hkcStart c else d) rfl ?_
    rw [if_pos (by rw [ha, Dev.on_zero hr]; rfl)]
    exact Dev.hkcStart_refused hcheck h0 rfl
  · refine State.does (f := fun d => if d.awake then d.setF (F.HKC_SEQ_CTRL.COMMIT c) 1 else d) rfl ?_
    rw [if_pos ha]
    exact ⟨Dev.f_same _ _ _ _ _ (Nat.le_of_ble_eq_true rfl) (Nat.le_of_ble_eq_true rfl), (Dev.Only.refl _ _).setF _ _
      ⟨Nat.le_of_ble_eq_true rfl, Nat.le_of_ble_eq_true rfl, F.HKC_SEQ_CTRL.COMMIT c, by simp, rfl, le_refl _, le_refl _⟩⟩
  · refine State.does (Dev.exec_hkcFifoPop s rq c off) ?_
    rw [if_pos ha, Dev.hkcPop_empty hf]
    exact (Dev.accessErr_discarded hfree _ (by omega)).emit _
  · refine State.does (Dev.exec_hkcFifoPop s rq c off) ?_
    rw [if_pos ha, Dev.hkcPop_word hf]
    exact s.dev.popWord_spec c _ w ht rfl
  · exact State.ignores (f := (·.hkcPass c conv)) rfl (Dev.hkcPass_stopped hr conv)
  · refine State.does (f := (·.hkcPass c conv)) rfl ?_
    rw [Dev.hkcPass_commits hr hcm]
    obtain ⟨k1, k2, k3, k4⟩ := Dev.hkcTaken_spec c.2 hset hcheck rfl
    obtain ⟨r1, r2, r3, r4, -, -⟩ := (s.dev.hkcTaken c).hkcRest_spec c.2 conv rfl
    exact ⟨r2.trans k1, r3.trans k2, r1.trans k3, fun h => r4.trans (k4 h)⟩
  · refine State.does (f := (·.hkcPass c conv)) rfl ?_
    rw [Dev.hkcPass_plain hr hcm]
    obtain ⟨r1, -, -, -, r5, r6⟩ := s.dev.hkcRest_spec c.2 conv rfl
    exact ⟨r1, r5, r6⟩
  · refine State.does (f := (·.hkcPass c conv)) rfl ?_
    rw [Dev.hkcPass_plain hr hcm]
    exact Dev.hkcPass_first c.2 hset hlast hfilt hcomb ⟨hch, hguard, hemit, hsince⟩ hent rfl
  · have hc : code < 256 ∧ code ≠ 0 := by omega
    obtain ⟨m, hm⟩ : ∃ m, m = (s.dev.setF F.HKC_CAL_STATUS.RESULT code).flag F.HKC_CAL_STATUS.DONE := ⟨_, rfl⟩
    obtain ⟨h1, h2, h3⟩ := s.dev.calRefused_spec hc.1 hm
    refine State.does (f := (·.hkcCalRun src x)) rfl ⟨m, h1, h2, h3, ?_⟩
    rw [Dev.hkcCalRun_refused h, ← hm]
    exact m.complete_plain src 3 code 0 (by decide)
  · obtain ⟨hc8, hc0⟩ := Dev.hkcMeasure_error h
    obtain ⟨k1, k2, k3, k4⟩ := s.dev.calShown_spec (code := code) (by omega)
    refine State.does (f := (·.hkcCalRun src x)) rfl ⟨s.dev.calShown code, k1, ?_, k3, k4, ?_⟩
    · rw [k2, decide_eq_false hc0]
      rfl
    · rw [Dev.hkcCalRun_runs hm h0 h1, Dev.hkcSelfcal_fails h, stResult, if_neg hc0]
      exact Dev.complete_plain _ src 3 code 0 (by decide)
  · obtain ⟨m, hm'⟩ : ∃ m, m = (s.dev.calCommitted l).calShown 0 := ⟨_, rfl⟩
    obtain ⟨k1, k2, k3, k4, k5⟩ := Dev.calCommitted_spec h hm'
    refine State.does (f := (·.hkcCalRun src x)) rfl ⟨m, k1, k2, k3, k4, k5, ?_⟩
    rw [Dev.hkcCalRun_runs hm h0 h1, Dev.hkcSelfcal_passes h, ← hm']
    exact m.complete_plain src 0 0 0 (by decide)

end Sys2Proof.Machine
end

section
/-! SUPPORT. What a delivered result record leaves as it was; Strata boundaries, their posting and measurement (spec 09_strata_and_flowstone.md R237 to R243, R254). -/

namespace Sys2Proof.Machine

/-! ## What lies beside a record's delivery -/

/-- The registers of Survey and Strata (chapters 8 and 9) and the node's configuration. -/
def besideReg (a : Nat) : Prop := 0x70000 ≤ a ∧ a < 0x72000 ∨ a = R.TET_CFG

/-- Axes, engines and windows stay, and the registers of `besideReg`. -/
structure Dev.Beside (d e : Dev) : Prop where
  axes : e.axes = d.axes
  str : e.str = d.str
  sur : e.sur = d.sur
  ram : e.ram = d.ram
  regs : Dev.RegsKept besideReg d e

theorem besideReg_not_cq : ∀ q < 64, ¬ besideReg (R.HST_CQ_STATUS q) := by
  intro q hq h
  unfold besideReg R.HST_CQ_STATUS R.TET_CFG at h
  omega

theorem besideReg_not_supply : ∀ s < 64, ¬ besideReg (R.CTX_SUPPLY_STATUS s) := by
  intro q hq h
  unfold besideReg R.CTX_SUPPLY_STATUS R.TET_CFG at h
  omega

theorem besideReg_not_int : ¬ besideReg R.TOP_INT_STATUS := by
  unfold besideReg
  decide

theorem besideReg_not_flw : ¬ besideReg R.FLW_STATUS ∧ ¬ besideReg R.FLW_COUNT := by
  unfold besideReg
  decide

theorem besideReg_not_smp : ¬ besideReg R.SMP_QUOTA_EVENT ∧ ¬ besideReg R.SMP_COUNT ∧ ¬ besideReg R.SMP_POOL_STATUS := by
  unfold besideReg
  decide

theorem besideReg_not_tetCount : ¬ besideReg R.TET_COUNT := by
  unfold besideReg
  decide

theorem besideReg_tetCfg : besideReg R.TET_CFG := .inr rfl

section
variable {d e g : Dev}

theorem Dev.Beside.refl (d : Dev) : d.Beside d := ⟨rfl, rfl, rfl, rfl, .refl _ _⟩

theorem Dev.Beside.trans (h : d.Beside e) (h' : e.Beside g) : d.Beside g :=
  ⟨h'.axes.trans h.axes, h'.str.trans h.str, h'.sur.trans h.sur, h'.ram.trans h.ram, h.regs.trans h'.regs⟩

theorem Dev.RingsOut.beside (h : d.RingsOut e) (hr : Dev.RegsKept besideReg d e) : d.Beside e :=
  ⟨h.eq Dev.axes fun _ _ _ _ => rfl, h.eq Dev.str fun _ _ _ _ => rfl, h.eq Dev.sur fun _ _ _ _ => rfl, h.eq Dev.ram fun _ _ _ _ => rfl, hr⟩

theorem Dev.setF_beside (d : Dev) (x : Fld) (v : Nat) (hx : ¬ besideReg x.addr) : d.Beside (d.setF x v) :=
  ⟨rfl, rfl, rfl, rfl, (Dev.RegsKept.refl _ _).setF x v hx⟩

theorem Dev.count_beside (d : Dev) (x : Fld) (n : Nat) (hx : ¬ besideReg x.addr) : d.Beside (d.count x n) := d.setF_beside x _ hx

theorem Dev.flag_beside (d : Dev) (x : Fld) (hb : x.lo ≤ x.hi + 1 ∧ x.hi < 32) (hx : ¬ besideReg x.addr) : d.Beside (d.flag x) :=
  (Dev.RegsOut.rings (d.flag_regsOut x)).beside ((Dev.RegsKept.refl _ _).flag x hb hx besideReg_not_int)

theorem Dev.flagIf_beside (d : Dev) (b : Bool) (x : Fld) (hb : x.lo ≤ x.hi + 1 ∧ x.hi < 32) (hx : ¬ besideReg x.addr) : d.Beside (d.flagIf b x) := by
  unfold Dev.flagIf
  split
  · exact d.flag_beside x hb hx
  · exact .refl d

theorem Dev.Beside.foldl {α : Type} {f : Dev → α → Dev} (hf : ∀ (d : Dev) x, d.Beside (f d x)) (l : List α) (d : Dev) : d.Beside (l.foldl f d) := by
  induction l generalizing d with
  | nil => exact .refl d
  | cons x xs ih => exact (hf d x).trans (ih _)

end

/-! ## Records of contexts -/

theorem Dev.setCtx_beside (d : Dev) (n : Nat) (c : Ctx) : d.Beside (d.setCtx n c) := ⟨rfl, rfl, rfl, rfl, .of_regs rfl⟩

theorem Dev.post_beside (d : Dev) {q : Nat} (hq : q < 64) (c : Cpl) : d.Beside (d.post q c) :=
  (d.post_ringsOut q c).beside ((Dev.RegsKept.refl _ _).answered (d.post_answered q c hq) (besideReg_not_cq q hq) besideReg_not_int)

theorem Dev.complete_beside (d : Dev) (src : Src) (o : CmdRes) : d.Beside (d.complete src o) := d.post_beside (d.ring_lt src) _

theorem Dev.closeBuf_beside (d : Dev) (n code : Nat) : d.Beside (d.closeBuf n code) := by
  unfold Dev.closeBuf
  extract_lets c
  split
  · exact .refl d
  · exact (d.setCtx_beside _ _).trans (Dev.post_beside _ (d.ctxRing_lt n) _)

theorem Dev.reportIf_beside (d : Dev) (b : Bool) (kind holder : Nat) : d.Beside (d.reportIf b kind holder) := by
  refine (Dev.RegsOut.rings (d.reportIf_only b kind holder).1).beside ((Dev.RegsKept.refl _ _).trans (.only (d.reportIf_only b kind holder) ?_))
  simp only [List.forall_mem_cons]
  exact ⟨besideReg_not_smp.1, besideReg_not_smp.2.1, besideReg_not_int, by simp⟩

theorem Dev.sumpNote_beside (d : Dev) : d.Beside d.sumpNote :=
  ⟨rfl, rfl, rfl, rfl, (Dev.RegsKept.refl _ _).sumpNote besideReg_not_smp.2.2⟩

theorem Dev.setCtxCells_beside (d : Dev) (n cells : Nat) : d.Beside (d.setCtxCells n cells) := by
  unfold Dev.setCtxCells
  extract_lets c q
  exact ((d.setCtx_beside _ _).trans (Dev.reportIf_beside _ _ _ _)).trans (Dev.sumpNote_beside _)

theorem Dev.roomCheck_beside (d : Dev) (n : Nat) : d.Beside (d.roomCheck n) := by
  unfold Dev.roomCheck
  extract_lets c e s
  have he : d.Beside e := by
    unfold e
    split
    · exact d.closeBuf_beside _ _
    · exact .refl d
  split
  · exact .refl d
  · split
    · exact he.trans (e.flag_beside _ ⟨Nat.le_of_ble_eq_true rfl, Nat.le_of_ble_eq_true rfl⟩ (besideReg_not_supply s (bitsOf_lt _ 25 20)))
    · exact he

theorem Dev.cqWaits_beside (d : Dev) {q : Nat} (hq : q < 64) : d.Beside (d.cqWaits q) :=
  d.flagIf_beside _ _ ⟨Nat.le_of_ble_eq_true rfl, Nat.le_of_ble_eq_true rfl⟩ (besideReg_not_cq q hq)

theorem Dev.addRecord_beside (d : Dev) (n w0 : Nat) (line pos : Int) (time : Nat) (payload : List Byte) :
    d.Beside (d.addRecord n w0 line pos time payload).1 := by
  unfold Dev.addRecord
  extract_lets c cells words seq e
  split
  · exact (((d.setCtx_beside _ _).trans (e.setCtxCells_beside _ _)).trans (Dev.roomCheck_beside _ _)).trans (Dev.cqWaits_beside _ (Dev.ctxRing_lt _ _))
  · exact d.setCtx_beside _ _

/-- Delivering a record to the contexts touches nothing beside them (R230, R242). -/
theorem Dev.deliverAnalysis_beside (d : Dev) (kind plane : Nat) (line pos : Int) (time : Nat) (payload : List Byte) :
    d.Beside (d.deliverAnalysis kind plane line pos time payload) := by
  refine Dev.Beside.foldl (fun e n => ?_) _ _
  extract_lets on
  split
  · exact e.addRecord_beside _ _ _ _ _ _
  · exact .refl e

/-! ## Haul requests, RESULT frames and entry decisions -/

theorem Dev.haulRequest_beside (d : Dev) (n : Nat) : d.Beside (d.haulRequest n) := by
  unfold Dev.haulRequest
  split
  · exact ⟨rfl, rfl, rfl, rfl, .of_regs rfl⟩
  · exact .refl d

theorem Dev.sendVia_beside (d : Dev) (p : Nat) (ws : List Nat) : d.Beside (d.sendVia p ws) := by
  have hemit : ∀ x, d.Beside (d.emit x) := fun x => ⟨rfl, rfl, rfl, rfl, .of_regs rfl⟩
  unfold Dev.sendVia
  split
  · exact hemit _
  · split
    · exact .refl d
    · split
      · exact hemit _
      · exact .refl d

theorem Dev.sendResult_beside (d : Dev) (sub : Nat) (payload : List Nat) : d.Beside (d.sendResult sub payload) := by
  unfold Dev.sendResult
  split
  · split
    · exact d.count_beside _ _ besideReg_not_tetCount
    · unfold Dev.originate
      extract_lets seq t e
      have he : d.Beside e := ⟨rfl, rfl, rfl, rfl, .of_regs rfl⟩
      exact he.trans (e.sendVia_beside _ _)
  · exact d.count_beside _ _ besideReg_not_tetCount

theorem Dev.dropEntry_beside (d : Dev) : d.Beside d.dropEntry := d.count_beside _ _ besideReg_not_flw.2

theorem Dev.queueEntry_beside (d : Dev) (x : FlwEntry) : d.Beside (d.queueEntry x).1 := by
  unfold Dev.queueEntry
  split
  · exact (d.flag_beside F.FLW_STATUS.QUEUE_DROP ⟨by decide, by decide⟩ besideReg_not_flw.1).trans (Dev.dropEntry_beside _)
  · refine Dev.Beside.trans (e := { d with flw := { d.flw with queue := d.flw.queue ++ [x] } }) ⟨rfl, rfl, rfl, rfl, .of_regs rfl⟩ ?_
    exact Dev.setF_beside _ _ _ besideReg_not_flw.1

theorem Dev.enterStrata_beside (d : Dev) (adv : Nat) (es : Int) : d.Beside (d.enterStrata adv es).1 := by
  unfold Dev.enterStrata
  split
  · exact (d.flag_beside F.FLW_STATUS.NO_ADVANCE ⟨by decide, by decide⟩ besideReg_not_flw.1).trans (Dev.dropEntry_beside _)
  · extract_lets c0 c1 corr e r
    split
    · exact d.queueEntry_beside _
    · exact d.dropEntry_beside

theorem Dev.strEnter_beside (d : Dev) (q : Boundary) (r : StrRes) : d.Beside (d.strEnter q r).1 := by
  unfold Dev.strEnter
  split
  · exact d.enterStrata_beside _ _
  · exact (d.flagIf_beside _ F.FLW_STATUS.NO_ADVANCE ⟨by decide, by decide⟩ besideReg_not_flw.1).trans (Dev.dropEntry_beside _)

theorem Dev.enterSurvey_beside (d : Dev) (sLead sMain err : Int) (conf : Nat) : d.Beside (d.enterSurvey sLead sMain err conf) := by
  unfold Dev.enterSurvey
  extract_lets c0 c1
  split
  · exact d.queueEntry_beside _
  · exact d.dropEntry_beside

/-! ## A boundary's record (R242) -/

theorem Dev.node_congr {d e : Dev} (h : e.reg R.TET_CFG = d.reg R.TET_CFG) : e.node = d.node := by
  have hk : Dev.RegsKept (· = R.TET_CFG) d e := fun a ha => by
    subst ha
    exact h
  unfold Dev.node Dev.inStation
  rw [hk.on rfl, hk.on rfl, hk.f rfl]

/-- The registers of chapters 8 and 9 but STR_STATUS and STR_COUNT. -/
def strataKept (a : Nat) : Prop := besideReg a ∧ a ≠ R.STR_STATUS ∧ a ≠ R.STR_COUNT

/-- What writing a boundary's record with STATUS `st` leaves. -/
structure Dev.StrataPut (d : Dev) (st : Nat) (e : Dev) : Prop where
  axes : e.axes = d.axes
  str : e.str = { d.str with seq := (d.str.seq + 1) % 65536 }
  sur : e.sur = d.sur
  word : e.mem (winStrata + 64 * (d.str.seq % 256)) 4 = (d.str.seq * 2 ^ 16 + st * 2 ^ 8 + d.node) % 2 ^ 32
  regs : Dev.RegsKept strataKept d e

theorem Dev.setMem_eq (d : Dev) (a n v : Nat) : d.setMem a n v = { d with ram := (d.setMem a n v).ram } := d.setBytes_eq a _

/-- A record written at a slot, its first word last. -/
theorem Dev.putRecord_spec (d : Dev) (a b : Nat) (l : List Byte) (v : Nat) {e : Dev} (he : e = (d.setBytes b l).setMem a 4 v) :
    e = { d with ram := e.ram } ∧ e.mem a 4 = v % 2 ^ 32 := by
  subst he
  refine ⟨?_, Dev.mem_setMem _ _ _ _⟩
  rw [Dev.setMem_eq, Dev.setBytes_eq]

/-- The record of a boundary at its slot, with SEQ advanced and the record counted where it is not OK. -/
def Dev.storeStrata (d : Dev) (seq st w : Nat) (l : List Byte) : Dev :=
  let d := (d.setBytes (strSlot seq + 4) l).setMem (strSlot seq) 4 w
  let d := { d with str := { d.str with seq := (seq + 1) % 65536 } }.setF F.STR_STATUS.SEQ seq
  if st = 0 then d else d.count F.STR_COUNT.NOT_OK_CNT 1

theorem Dev.storeStrata_spec (d : Dev) (seq st w : Nat) (l : List Byte) {e : Dev} (he : e = d.storeStrata seq st w l) :
    e.axes = d.axes ∧ e.str = { d.str with seq := (seq + 1) % 65536 } ∧ e.sur = d.sur ∧ e.mem (strSlot seq) 4 = w % 2 ^ 32 ∧
    Dev.RegsKept strataKept d e := by
  obtain ⟨m, hm⟩ : ∃ m, m = (d.setBytes (strSlot seq + 4) l).setMem (strSlot seq) 4 w := ⟨_, rfl⟩
  obtain ⟨hmd, hmw⟩ := d.putRecord_spec _ _ _ _ hm
  unfold Dev.storeStrata at he
  rw [← hm, hmd] at he
  have hk : Dev.RegsKept strataKept d (Dev.setF { d with ram := m.ram, str := { d.str with seq := (seq + 1) % 65536 } } F.STR_STATUS.SEQ seq) :=
    Dev.RegsKept.setF (.of_regs rfl) F.STR_STATUS.SEQ seq (fun h => h.2.1 rfl)
  rw [he]
  split
  · exact ⟨rfl, rfl, rfl, (Dev.mem_ram rfl _ _).trans hmw, hk⟩
  · exact ⟨rfl, rfl, rfl, (Dev.mem_ram rfl _ _).trans hmw, hk.count F.STR_COUNT.NOT_OK_CNT 1 (fun h => h.2.2 rfl)⟩

/-- A boundary's record is stored beside what the entry decision and the RESULT frame touch, and then delivered. -/
theorem Dev.putStrata_eq (d : Dev) (q : Boundary) (r : StrRes) : ∃ m l kind plane line pos time payload, d.Beside m ∧ d.putStrata q r =
    (m.storeStrata d.str.seq r.status (d.str.seq * 2 ^ 16 + r.status * 2 ^ 8 + d.node) l).deliverAnalysis kind plane line pos time payload := by
  unfold Dev.putStrata
  extract_lets seq e1 d1 notIn fwd d2 corr abs ws d3
  have h1 : d.Beside d1 := by
    unfold d1 e1
    split
    · exact d.strEnter_beside _ _
    · exact .refl d
  have h2 : d.Beside d2 := by
    unfold d2
    split
    · exact h1.trans (d1.sendResult_beside _ _)
    · exact h1
  have hw : ws.headD 0 = d.str.seq * 2 ^ 16 + r.status * 2 ^ 8 + d.node := by
    rw [← Dev.node_congr (h2.regs _ besideReg_tetCfg)]
    rfl
  refine ⟨d3, wordBytes (ws.drop 1), 2, 0, q.kb, q.pos, r.time, wordBytes ws, h2.trans (d2.haulRequest_beside _), ?_⟩
  rw [← hw]
  rfl

theorem Dev.putStrata_spec (d : Dev) (q : Boundary) (r : StrRes) : d.StrataPut r.status (d.putStrata q r) := by
  obtain ⟨m, l, kind, plane, line, pos, time, payload, hm, he⟩ := d.putStrata_eq q r
  obtain ⟨g, hg⟩ : ∃ g, g = m.storeStrata d.str.seq r.status (d.str.seq * 2 ^ 16 + r.status * 2 ^ 8 + d.node) l := ⟨_, rfl⟩
  obtain ⟨ha, hs, hu, hw, hk⟩ := m.storeStrata_spec _ _ _ _ hg
  rw [he, ← hg]
  have hd := g.deliverAnalysis_beside kind plane line pos time payload
  exact ⟨hd.axes.trans (ha.trans hm.axes), by rw [hd.str, hs, hm.str], hd.sur.trans (hu.trans hm.sur), (Dev.mem_ram hd.ram _ _).trans hw,
    ((hm.regs.mono fun _ h => h.1).trans hk).trans (hd.regs.mono fun _ h => h.1)⟩

/-! ## A queue that is emptied (R243) -/

/-- Axes and Survey stay, and of Strata what the records of `n` boundaries leave. -/
structure Dev.StrataPuts (d : Dev) (n : Nat) (e : Dev) : Prop where
  axes : e.axes = d.axes
  str : ∃ k, k % 65536 = (d.str.seq + n) % 65536 ∧ e.str = { d.str with seq := k }
  sur : e.sur = d.sur
  regs : Dev.RegsKept strataKept d e

theorem Dev.putStrata_foldl (st : Nat) (qs : List Boundary) (d : Dev) :
    d.StrataPuts qs.length (qs.foldl (fun (d : Dev) q => d.putStrata q (strEnd st)) d) := by
  induction qs generalizing d with
  | nil => exact ⟨rfl, ⟨_, rfl, rfl⟩, rfl, .refl _ _⟩
  | cons q qs ih =>
    obtain ⟨ha, hs, hu, -, hk⟩ := d.putStrata_spec q (strEnd st)
    obtain ⟨ha', ⟨k, hkk, hs'⟩, hu', hk'⟩ := ih (d.putStrata q (strEnd st))
    refine ⟨ha'.trans ha, ⟨k, ?_, ?_⟩, hu'.trans hu, hk.trans hk'⟩
    · rw [hkk, hs, List.length_cons]
      dsimp only
      omega
    · rw [List.foldl_cons, hs', hs]

theorem Dev.setBoundaries_kept (d : Dev) (qs : List Boundary) : Dev.RegsKept strataKept d (d.setBoundaries qs) :=
  Dev.RegsKept.setF (.of_regs rfl) F.STR_STATUS.QUEUED _ (fun h => h.2.1 rfl)

theorem Dev.strataDiscard_spec (d : Dev) (st : Nat) {e : Dev} (he : e = d.strataDiscard st) :
    e.axes = d.axes ∧ (∃ k, k % 65536 = (d.str.seq + d.str.queue.length) % 65536 ∧ e.str = { d.str with queue := [], lastPos := none, seq := k }) ∧
    Dev.RegsKept strataKept d e := by
  obtain ⟨g, hg⟩ : ∃ g, g = d.str.queue.foldl (fun (d : Dev) q => d.putStrata q (strEnd st)) (d.setBoundaries []) := ⟨_, rfl⟩
  obtain ⟨ha, ⟨k, hk, hs⟩, -, hr⟩ := Dev.putStrata_foldl st d.str.queue (d.setBoundaries [])
  rw [← hg] at ha hs hr
  have he' : e = { g with str := { g.str with lastPos := none } } := by
    rw [he, hg]
    rfl
  rw [he']
  refine ⟨ha, ⟨k, hk, ?_⟩, ((d.setBoundaries_kept []).trans hr).regs rfl⟩
  dsimp only
  rw [hs]
  rfl

/-! ## The measurement (R239, R240) -/

theorem foldl_picks {α β : Type} {P : α → Prop} {f : Option (α × β) → α → Option (α × β)} (l : List α)
    (hf : ∀ b c, (∀ y, b = some y → P y.1) → P c → ∀ y, f b c = some y → P y.1) (hl : ∀ c ∈ l, P c) (b : Option (α × β))
    (hb : ∀ y, b = some y → P y.1) : ∀ y, l.foldl f b = some y → P y.1 := by
  induction l generalizing b with
  | nil => exact hb
  | cons c cs ih =>
    exact ih (fun c hc => hl c (List.mem_cons_of_mem _ hc)) (f b c) (hf b c hb (hl c List.mem_cons_self))

theorem lineRange_bounds {lo hi c : Int} (h : c ∈ lineRange lo hi) : lo ≤ c ∧ c ≤ hi := by
  unfold lineRange at h
  obtain ⟨i, hi', rfl⟩ := List.mem_map.1 h
  have := List.mem_range.1 hi'
  omega

/-- The location lies within BSEARCH of the boundary. -/
theorem Dev.strLocate_near (d : Dev) (q : Boundary) (kept : List StrPair) : (d.strLocate q kept - q.kb).natAbs ≤ d.strSearch := by
  unfold Dev.strLocate
  extract_lets s score best
  have hbest : ∀ y, best = some y → (y.1 - q.kb).natAbs ≤ s := by
    refine foldl_picks (P := fun c : Int => (c - q.kb).natAbs ≤ s) _ (fun b c hb hc y hy => ?_) (fun c hc => ?_) none (fun y hy => nomatch hy)
    · dsimp only at hy
      split at hy
      · obtain rfl := Option.some.inj hy
        exact hc
      · split at hy
        · obtain rfl := Option.some.inj hy
          exact hc
        · exact hb y hy
    · have := lineRange_bounds hc
      omega
  clear_value best
  cases best with
  | some y => exact hbest y rfl
  | none => simp

theorem Dev.strMeasure_free (d : Dev) (b : Bar) (q : Boundary) : ∃ n, (d.strMeasure b q).2 = { d with free := n } := by
  have hite : ∀ (c : Prop) [Decidable c] (x y : StrRes) (e : Dev), (if c then (x, e) else (y, e)).2 = e := fun c _ x y e => by
    split
    · rfl
    · rfl
  unfold Dev.strMeasure
  extract_lets pairs kept c es n spread time mn d'
  have h' : ∃ n, d' = { d with free := n } := by
    unfold d'
    split
    · exact ⟨_, rfl⟩
    · exact ⟨_, rfl⟩
  split
  · exact h'
  · split
    · exact h'
    · split
      · exact h'
      · exact h'

/-- A measurement is OK with enough pairs, within the limits; otherwise it carries no error. -/
theorem Dev.strMeasure_spec (d : Dev) (b : Bar) (q : Boundary) {r : StrRes} (hr : r = (d.strMeasure b q).1) :
    (r.status = 0 → max 1 (d.f F.STR_CTRL.MIN_PAIRS) ≤ r.n ∧ r.spread ≤ d.f F.STR_LIMITS2.SPREAD_MAX ∧ r.off.natAbs ≤ d.strSearch) ∧
    (r.status ≠ 0 → r.es = 0 ∧ r.off = 0 ∧ r.spread = 0) := by
  unfold Dev.strMeasure at hr
  extract_lets pairs kept c es n spread time mn d' at hr
  have hfail : ∀ k t, k ≠ 0 → r = ⟨k, n, 0, 0, 0, t⟩ → (r.status = 0 → max 1 (d.f F.STR_CTRL.MIN_PAIRS) ≤ r.n ∧
      r.spread ≤ d.f F.STR_LIMITS2.SPREAD_MAX ∧ r.off.natAbs ≤ d.strSearch) ∧ (r.status ≠ 0 → r.es = 0 ∧ r.off = 0 ∧ r.spread = 0) := by
    rintro k t hk rfl
    exact ⟨fun h => absurd h hk, fun _ => ⟨rfl, rfl, rfl⟩⟩
  split at hr
  next h =>
    subst hr
    exact ⟨fun _ => ⟨h.1, h.2, d.strLocate_near q kept⟩, fun h => absurd rfl h⟩
  next =>
    split at hr
    · exact hfail 3 _ (by decide) hr
    · split at hr
      · exact hfail 4 _ (by decide) hr
      · exact hfail 5 _ (by decide) hr

/-! ## BOUNDARY_POST (R237, R238) -/

/-- A boundary that is refused is counted. -/
theorem boundary_refused {s : State} {src : Src} {set : Fin 8} {sw adv : Word} {pos : Int} {mask : Word × Word} {c : Nat}
    (hc : s.dev.boundaryCode pos = c) (h0 : c ≠ 0) :
    s.Ends (.boundaryPost src set sw adv pos mask) src (plainCpl src 3 c 0) (s.dev.count F.STR_COUNT.REFUSED_CNT 1) := by
  refine State.does (f := fun d => d.boundaryPost src set.val sw.toNat adv.toNat pos (mask.1.toNat + mask.2.toNat * 2 ^ 32)) rfl ?_
  rw [Dev.boundaryPost, hc]
  dsimp only
  rw [if_pos h0]
  exact Dev.complete_plain _ src 3 c 0 (by decide)

/-- A boundary that is accepted. -/
theorem Dev.boundaryPost_accepted {d : Dev} {pos : Int} (hc : d.boundaryCode pos = 0) (src : Src) (sens swath adv mask : Nat) {m : Dev}
    (hm : m = { d with str := { d.str with lastPos := some pos } }) :
    d.boundaryPost src sens swath adv pos mask =
      (if 63 < divFloor (d.hwm - d.origin) d.pitch - (d.boundaryLine pos - d.strK) then
        m.putStrata ⟨swath, pos, adv, sens, mask, d.boundaryLine pos⟩ (strEnd 1) else
        m.setBoundaries (d.str.queue ++ [⟨swath, pos, adv, sens, mask, d.boundaryLine pos⟩])).completeQuiet src
          { stOk with a := unsigned 64 (d.boundaryLine pos) } := by
  subst hm
  unfold Dev.boundaryPost
  dsimp only
  rw [hc, if_neg (by decide)]
  congr 1
  simp only [decide_eq_true_eq]
  rfl

/-- Does a posted boundary not lie beyond the last one? -/
def Dev.postsBack (d : Dev) (pos : Int) : Bool :=
  match d.str.lastPos with
  | some p => decide (pos ≤ p)
  | none => false

theorem Dev.postsBack_some {d : Dev} {p : Int} (h : d.str.lastPos = some p) (pos : Int) : d.postsBack pos = decide (pos ≤ p) := by
  unfold Dev.postsBack
  rw [h]

theorem Dev.postsBack_false {d : Dev} {pos : Int} (h : ∀ p, d.str.lastPos = some p → p < pos) : d.postsBack pos = false := by
  cases hp : d.str.lastPos with
  | none =>
    unfold Dev.postsBack
    rw [hp]
  | some p => rw [Dev.postsBack_some hp, decide_eq_false (Int.not_le.2 (h p hp))]

theorem Dev.boundaryCode_run {d : Dev} (hm : d.modeIn [.run] = true) (hen : d.f F.STR_CTRL.STR_EN = 1) (pos : Int) :
    (∀ p, d.str.lastPos = some p → pos ≤ p → d.boundaryCode pos = 3) ∧
    ((∀ p, d.str.lastPos = some p → p < pos) → (256 ≤ d.str.queue.length → d.boundaryCode pos = 4) ∧
      (d.str.queue.length < 256 → d.boundaryCode pos = 0)) := by
  have hrun : d.boundaryCode pos = if d.postsBack pos = true then 3 else if 256 ≤ d.str.queue.length then 4 else 0 := by
    rw [Dev.boundaryCode, if_neg (by simp [hm]), if_neg (by simp [Dev.on_one hen])]
    rfl
  rw [hrun]
  refine ⟨fun p hp hle => if_pos (by rw [Dev.postsBack_some hp, decide_eq_true hle]), fun h => ?_⟩
  rw [Dev.postsBack_false h]
  exact ⟨fun hq => if_pos hq, fun hq => if_neg (Nat.not_le.2 hq)⟩

theorem Dev.setBoundaries_spec (d : Dev) (qs : List Boundary) (h : qs.length < 512) {m : Dev} (hm : m = d.setBoundaries qs) :
    m.str = { d.str with queue := qs } ∧ m.f F.STR_STATUS.QUEUED = qs.length ∧ { d with str := m.str }.Only m [F.STR_STATUS.QUEUED] := by
  subst hm
  refine ⟨rfl, ?_, (Dev.Only.refl { d with str := { d.str with queue := qs } } _).setF F.STR_STATUS.QUEUED _ (by simp [Fld.within])⟩
  exact (Dev.f_same _ _ _ _ _ (by decide) (by decide)).trans (Nat.mod_eq_of_lt h)

theorem unsigned_64_lt (x : Int) : unsigned 64 x < 2 ^ 64 := unsigned_mod_64 x ▸ Nat.mod_lt _ (Nat.two_pow_pos 64)

/-- The completion that carries the expected line. -/
theorem Dev.completeQuiet_line (m : Dev) (src : Src) (x : Int) :
    if src.quiet then m.completeQuiet src { stOk with a := unsigned 64 x } = m else
      m.Answered (m.completeQuiet src { stOk with a := unsigned 64 x }) (m.ring src) { plainCpl src 0 0 0 with
        words := [src.cid.val * 2 ^ 16 + src.sq.val * 2 ^ 10, 0, unsigned 64 x % 2 ^ 32, unsigned 64 x / 2 ^ 32, 0, 0, 0] } := by
  unfold Dev.completeQuiet
  split
  next h => exact if_pos (by simp [h, stOk])
  next h =>
    rw [if_neg (by simp [h])]
    have hc : cmdCpl src { stOk with a := unsigned 64 x } = { plainCpl src 0 0 0 with
        words := [src.cid.val * 2 ^ 16 + src.sq.val * 2 ^ 10, 0, unsigned 64 x % 2 ^ 32, unsigned 64 x / 2 ^ 32, 0, 0, 0] } := by
      simp [cmdCpl, plainCpl, stOk]
      have := unsigned_64_lt x
      omega
    exact hc ▸ m.complete_answered src { stOk with a := unsigned 64 x }

theorem Dev.completeQuiet_beside (d : Dev) (src : Src) (o : CmdRes) : d.Beside (d.completeQuiet src o) := by
  unfold Dev.completeQuiet
  split
  · exact .refl d
  · exact d.complete_beside src o

/-! ## STR_CTRL (R243, R254) -/

theorem strCtrl_mask (v old : Word) : (old &&& 0xFFF80000#32) ||| (v &&& 0xFFF8FF00#32 &&& 0xFF00#32) = (old &&& 0xFFF80000#32) ||| (v &&& 0xFF00#32) := by
  rw [BitVec.and_assoc]
  rfl

theorem strCtrl_fixed (v : Word) : v &&& 0xFFF8FF00#32 &&& 0xFFF80000#32 = v &&& 0xFFF80000#32 := by
  rw [BitVec.and_assoc]
  rfl

theorem Dev.accessErr_str (d : Dev) (rq : Req) (bar2 : Bool) (k : ErrKind) (off : Nat) : (d.accessErr rq bar2 k off).str = d.str := by
  have hmain : ∀ (e : Dev) (q : Bool), e.str = d.str → (if e.on F.TOP_ERR_STATUS.ACCESS_ERR then e.flag F.TOP_ERR_STATUS.ERR_OVERRUN else
      ((((e.setB F.TOP_ERR_STATUS.SPACE bar2).setB F.TOP_ERR_STATUS.REQUESTER q).setF
        F.TOP_ERR_STATUS.KIND k.code).setF F.TOP_ERR_ADDR.OFFSET off).flag F.TOP_ERR_STATUS.ACCESS_ERR).str = d.str := fun e q he => by
    split
    · rw [Dev.flag_str, he]
    · rw [Dev.flag_str, Dev.setF_str, Dev.setF_str, Dev.setB, Dev.setF_str, Dev.setB, Dev.setF_str, he]
  have hc : (d.count F.TOP_ERR_STATUS.ERR_CNT 1).str = d.str := by
    rw [Dev.count, Dev.setF_str]
  cases rq with
  | haul n => rfl
  | host => exact hmain _ _ hc
  | supervisor => exact hmain _ _ hc

theorem Dev.strCtrlWrite_armed {d : Dev} (ha : d.armed = true) (rq : Req) (v : Word) {e : Dev} (he : e = d.strCtrlWrite rq v) :
    e.reg R.STR_CTRL = (d.reg R.STR_CTRL &&& 0xFFF80000#32) ||| (v &&& 0xFF00#32) ∧ e.str = d.str ∧
    (v &&& 0xFFF80000#32 ≠ d.reg R.STR_CTRL &&& 0xFFF80000#32 → d.errFree rq →
      e.f F.TOP_ERR_STATUS.ACCESS_ERR = 1 ∧ e.f F.TOP_ERR_STATUS.KIND = 3 ∧ e.f F.TOP_ERR_ADDR.OFFSET = R.STR_CTRL) := by
  obtain ⟨m, hm⟩ : ∃ m, m = if ((v &&& 0xFFF8FF00#32) ^^^ d.reg R.STR_CTRL) &&& 0xFFF80000#32 = 0#32 then d
    else d.accessErr rq false .locked R.STR_CTRL := ⟨_, rfl⟩
  have he' : e = m.setReg R.STR_CTRL ((d.reg R.STR_CTRL &&& 0xFFF80000#32) ||| (v &&& 0xFF00#32)) := by
    rw [he, Dev.strCtrlWrite]
    dsimp only
    rw [if_pos ha, ← hm, strCtrl_mask]
  have hs : m.str = d.str := by
    rw [hm]
    split
    · rfl
    · exact Dev.accessErr_str d rq false .locked _
  rw [he']
  refine ⟨Dev.reg_setReg_self _ _ _, hs, fun hv hfree => ?_⟩
  have hdis : d.Discarded m .locked R.STR_CTRL := by
    rw [hm, if_neg (fun h => hv ((strCtrl_fixed v).symm.trans (and_eq_of_xor h)))]
    exact Dev.accessErr_discarded hfree _ (by decide)
  obtain ⟨-, herr, hkind, -, hoff⟩ := hdis
  exact ⟨(Dev.f_setReg_ne _ _ _ (by decide)).trans herr, (Dev.f_setReg_ne _ _ _ (by decide)).trans hkind,
    (Dev.f_setReg_ne _ _ _ (by decide)).trans hoff⟩

/-- STR_EN after a write of STR_CTRL. -/
theorem Dev.strEn_setReg (d : Dev) (v : Word) : (d.setReg R.STR_CTRL (v &&& 0xFFF8FF00#32)).on F.STR_CTRL.STR_EN = bitOf v.toNat 31 := by
  have hb : bitOf (v &&& 0xFFF8FF00#32).toNat 31 = bitOf v.toNat 31 := by
    rw [bitOf_testBit, bitOf_testBit, BitVec.toNat_and, Nat.testBit_and]
    exact Bool.and_true _
  rw [← hb, bitOf_bitsOf]
  refine Bool.eq_iff_iff.2 ?_
  rw [Dev.on_bit rfl, Dev.f_setReg_same, decide_eq_true_iff]

theorem Dev.strCtrlWrite_disarmed {d : Dev} (ha : d.armed = false) (rq : Req) (v : Word) : d.strCtrlWrite rq v =
    if d.on F.STR_CTRL.STR_EN && !bitOf v.toNat 31 then (d.setReg R.STR_CTRL (v &&& 0xFFF8FF00#32)).strataStop
    else d.setReg R.STR_CTRL (v &&& 0xFFF8FF00#32) := by
  rw [Dev.strCtrlWrite]
  dsimp only
  rw [if_neg (by simp [ha]), d.strEn_setReg v]

theorem Dev.strataStop_spec (d : Dev) {e : Dev} (he : e = d.strataStop) :
    e.reg R.STR_CTRL = d.reg R.STR_CTRL ∧ e.str.queue = [] ∧ e.str.lastPos = none ∧ e.str.means = [] ∧
    e.f F.STR_STATUS.QUEUE_DISCARDED = 1 ∧ e.str.seq % 65536 = (d.str.seq + d.str.queue.length) % 65536 := by
  obtain ⟨m, hm⟩ : ∃ m, m = d.strataDiscard 6 := ⟨_, rfl⟩
  obtain ⟨-, ⟨k, hk, hs⟩, hr⟩ := d.strataDiscard_spec 6 hm
  have he' : e = { m.flag F.STR_STATUS.QUEUE_DISCARDED with str :=
      { (m.flag F.STR_STATUS.QUEUE_DISCARDED).str with means := [], lines := [], reached := none } } := by
    rw [he, hm]
    rfl
  rw [he', Dev.flag_str, hs]
  refine ⟨?_, rfl, rfl, rfl, Dev.f_flag_same _ _ _ (by decide) (by decide), hk⟩
  refine (Dev.reg_flag_ne m (x := F.STR_STATUS.QUEUE_DISCARDED) ⟨by decide, by decide⟩ (by decide) (by decide)).trans (hr _ ⟨?_, by decide, by decide⟩)
  exact .inl ⟨by decide, by decide⟩

/-! ## The statement -/

theorem boundaryPost_meets (s : State) (src : Src) (set : Fin 8) (sw adv : Word) (pos : Int) (mask : Word × Word)
    (hm : s.dev.modeIn [.run] = true) (hen : s.dev.f F.STR_CTRL.STR_EN = 1) (hord : ∀ p, s.dev.str.lastPos = some p → p < pos)
    (hq : s.dev.str.queue.length < 256) :
    (divFloor (s.dev.hwm - s.dev.origin) s.dev.pitch - (s.dev.boundaryLine pos - s.dev.strK) ≤ 63 →
      s.Does (.boundaryPost src set sw adv pos mask) (fun e => ∃ m : Dev,
        m.str = { s.dev.str with lastPos := some pos, queue := s.dev.str.queue ++
          [⟨sw.toNat, pos, adv.toNat, set.val, mask.1.toNat + mask.2.toNat * 2 ^ 32, s.dev.boundaryLine pos⟩] } ∧
        m.f F.STR_STATUS.QUEUED = s.dev.str.queue.length + 1 ∧ { s.dev with str := m.str }.Only m [F.STR_STATUS.QUEUED] ∧
        (if src.quiet then e = m else m.Answered e (m.ring src) { plainCpl src 0 0 0 with
          words := [src.cid.val * 2 ^ 16 + src.sq.val * 2 ^ 10, 0, unsigned 64 (s.dev.boundaryLine pos) % 2 ^ 32,
            unsigned 64 (s.dev.boundaryLine pos) / 2 ^ 32, 0, 0, 0] }))) ∧
    (63 < divFloor (s.dev.hwm - s.dev.origin) s.dev.pitch - (s.dev.boundaryLine pos - s.dev.strK) →
      s.Does (.boundaryPost src set sw adv pos mask) (fun e => e.str.queue = s.dev.str.queue ∧ e.str.lastPos = some pos ∧
        e.mem (winStrata + 64 * (s.dev.str.seq % 256)) 4 = (s.dev.str.seq * 2 ^ 16 + 1 * 2 ^ 8 + s.dev.node) % 2 ^ 32)) := by
  have hc : s.dev.boundaryCode pos = 0 := ((Dev.boundaryCode_run hm hen pos).2 hord).2 hq
  obtain ⟨d1, hd1⟩ : ∃ k : Dev, k = { s.dev with str := { s.dev.str with lastPos := some pos } } := ⟨_, rfl⟩
  have hacc := Dev.boundaryPost_accepted hc src set.val sw.toNat adv.toNat (mask.1.toNat + mask.2.toNat * 2 ^ 32) hd1
  refine ⟨fun hl => ?_, fun hl => ?_⟩
  · refine State.does (f := fun d => d.boundaryPost src set.val sw.toNat adv.toNat pos (mask.1.toNat + mask.2.toNat * 2 ^ 32)) rfl ?_
    rw [hacc, if_neg (Int.not_lt.2 hl)]
    obtain ⟨m, hmm⟩ : ∃ m, m = d1.setBoundaries (s.dev.str.queue ++
      [⟨sw.toNat, pos, adv.toNat, set.val, mask.1.toNat + mask.2.toNat * 2 ^ 32, s.dev.boundaryLine pos⟩]) := ⟨_, rfl⟩
    obtain ⟨hs, hf, ho⟩ := d1.setBoundaries_spec _ (by rw [List.length_append]; exact Nat.lt_of_lt_of_le (Nat.add_lt_add_right hq 1) (by decide)) hmm
    rw [← hmm]
    refine ⟨m, ?_, ?_, ?_, m.completeQuiet_line src _⟩
    · rw [hs, hd1]
    · rw [hf, List.length_append]
      rfl
    · rw [hd1] at ho
      exact ho
  · refine State.does (f := fun d => d.boundaryPost src set.val sw.toNat adv.toNat pos (mask.1.toNat + mask.2.toNat * 2 ^ 32)) rfl ?_
    rw [hacc, if_pos hl]
    obtain ⟨m, hmm⟩ : ∃ m, m = d1.putStrata ⟨sw.toNat, pos, adv.toNat, set.val, mask.1.toNat + mask.2.toNat * 2 ^ 32, s.dev.boundaryLine pos⟩ (strEnd 1) := ⟨_, rfl⟩
    obtain ⟨-, hs, -, hw, -⟩ := d1.putStrata_spec ⟨sw.toNat, pos, adv.toNat, set.val, mask.1.toNat + mask.2.toNat * 2 ^ 32, s.dev.boundaryLine pos⟩ (strEnd 1)
    rw [← hmm] at hs hw ⊢
    have hb := m.completeQuiet_beside src { stOk with a := unsigned 64 (s.dev.boundaryLine pos) }
    have hd1s : d1.str = { s.dev.str with lastPos := some pos } := by rw [hd1]
    have hd1n : d1.node = s.dev.node := by
      rw [hd1]
      rfl
    rw [hd1s, hd1n] at hw
    rw [hb.str, hs, hd1s, Dev.mem_ram hb.ram]
    exact ⟨rfl, rfl, hw⟩

theorem strataMeasurement_meets (s : State) :
    (s.dev.str.queue = [] ∨ s.dev.bar = none ∨ s.dev.str.reached = none → s.Ignores .strataMeasurement) ∧
    (∀ q t b k, s.dev.str.queue = q :: t → s.dev.bar = some b → s.dev.str.reached = some k →
      (k < q.kb + s.dev.strK → s.Ignores .strataMeasurement) ∧
      (q.kb + s.dev.strK ≤ k → s.Does .strataMeasurement (fun e => e.str.queue = t ∧ e.str.seq = (s.dev.str.seq + 1) % 65536 ∧
        ∃ r : StrRes, r = (s.dev.strMeasure b q).1 ∧
          e.mem (winStrata + 64 * (s.dev.str.seq % 256)) 4 = (s.dev.str.seq * 2 ^ 16 + r.status * 2 ^ 8 + s.dev.node) % 2 ^ 32 ∧
          (r.status = 0 → max 1 (s.dev.f F.STR_CTRL.MIN_PAIRS) ≤ r.n ∧ r.spread ≤ s.dev.f F.STR_LIMITS2.SPREAD_MAX ∧
            r.off.natAbs ≤ s.dev.strSearch) ∧
          (r.status ≠ 0 → r.es = 0 ∧ r.off = 0 ∧ r.spread = 0)))) := by
  refine ⟨fun h => State.ignores (f := (·.strataMeasure)) rfl ?_, fun q t b k hq hb hk => ⟨fun hlt => ?_, fun hle => ?_⟩⟩
  · unfold Dev.strataMeasure
    split
    next hq hb hk =>
      simp [hq, hb, hk] at h
    next => rfl
  · refine State.ignores (f := (·.strataMeasure)) rfl ?_
    rw [Dev.strataMeasure, hq, hb, hk]
    exact if_pos hlt
  · refine State.does (f := (·.strataMeasure)) rfl ?_
    rw [Dev.strataMeasure, hq, hb, hk]
    dsimp only
    rw [if_neg (Int.not_lt.2 hle)]
    obtain ⟨n, hn⟩ := s.dev.strMeasure_free b q
    obtain ⟨r, hr⟩ : ∃ r, r = (s.dev.strMeasure b q).1 := ⟨_, rfl⟩
    obtain ⟨m, hm⟩ : ∃ m : Dev, m = Dev.setBoundaries { s.dev with free := n } t := ⟨_, rfl⟩
    rw [hn, ← hr, ← hm]
    obtain ⟨-, hs, -, hw, -⟩ := m.putStrata_spec q r
    have hms : m.str = { s.dev.str with queue := t } := by rw [hm]; rfl
    have hmn : m.node = s.dev.node := by
      rw [hm]
      exact Dev.node_congr (Dev.reg_setF_ne _ _ _ (by decide))
    rw [hms, hmn] at hw
    rw [hs, hms]
    exact ⟨rfl, rfl, r, rfl, hw, s.dev.strMeasure_spec b q hr⟩

theorem strCtrlWrite_meets (s : State) (rq : Req) (v : Word) (haw : s.dev.awake = true) :
    (s.dev.armed = true → s.Does (.strCtrlWrite rq v) (fun e =>
      e.reg R.STR_CTRL = (s.dev.reg R.STR_CTRL &&& 0xFFF80000#32) ||| (v &&& 0xFF00#32) ∧ e.str = s.dev.str ∧
      (v &&& 0xFFF80000#32 ≠ s.dev.reg R.STR_CTRL &&& 0xFFF80000#32 → s.dev.errFree rq →
        e.f F.TOP_ERR_STATUS.ACCESS_ERR = 1 ∧ e.f F.TOP_ERR_STATUS.KIND = 3 ∧ e.f F.TOP_ERR_ADDR.OFFSET = R.STR_CTRL))) ∧
    (s.dev.armed = false → bitOf v.toNat 31 = true ∨ s.dev.f F.STR_CTRL.STR_EN = 0 → s.Does (.strCtrlWrite rq v) (fun e =>
      e = s.dev.setReg R.STR_CTRL (v &&& 0xFFF8FF00#32))) ∧
    (s.dev.armed = false → bitOf v.toNat 31 = false → s.dev.f F.STR_CTRL.STR_EN = 1 → s.Does (.strCtrlWrite rq v) (fun e =>
      e.reg R.STR_CTRL = v &&& 0xFFF8FF00#32 ∧ e.str.queue = [] ∧ e.str.lastPos = none ∧ e.str.means = [] ∧
      e.f F.STR_STATUS.QUEUE_DISCARDED = 1 ∧ e.str.seq % 65536 = (s.dev.str.seq + s.dev.str.queue.length) % 65536)) := by
  refine ⟨fun ha => ?_, fun ha h => ?_, fun ha hv hen => ?_⟩
  · refine State.does (f := fun d => if d.awake then d.strCtrlWrite rq v else d) rfl ?_
    rw [if_pos haw]
    exact Dev.strCtrlWrite_armed ha rq v rfl
  · refine State.does (f := fun d => if d.awake then d.strCtrlWrite rq v else d) rfl ?_
    rw [if_pos haw, Dev.strCtrlWrite_disarmed ha, if_neg]
    rcases h with h | h
    · simp [h]
    · simp [Dev.on_zero h]
  · refine State.does (f := fun d => if d.awake then d.strCtrlWrite rq v else d) rfl ?_
    rw [if_pos haw, Dev.strCtrlWrite_disarmed ha, if_pos (by simp [hv, Dev.on_one hen])]
    obtain ⟨hreg, hrest⟩ := (s.dev.setReg R.STR_CTRL (v &&& 0xFFF8FF00#32)).strataStop_spec rfl
    exact ⟨hreg.trans (Dev.reg_setReg_self _ _ _), hrest⟩

/-- Settles O35. -/
theorem strataBoundaries : Obligations.StrataBoundaries := by
  refine ⟨fun s src set sw adv pos mask => ⟨fun hm => ?_, fun hm hen => ?_, fun hm hen => ⟨fun p hp hle => ?_, fun hord => ⟨fun hq => ?_, ?_⟩⟩⟩,
    fun s => ⟨(strataMeasurement_meets s).1, (strataMeasurement_meets s).2, fun rq v haw => strCtrlWrite_meets s rq v haw⟩⟩
  · exact boundary_refused (by simp [Dev.boundaryCode, hm]) (by decide)
  · exact boundary_refused (by simp [Dev.boundaryCode, hm, Dev.on_zero hen]) (by decide)
  · exact boundary_refused ((Dev.boundaryCode_run hm hen pos).1 p hp hle) (by decide)
  · exact boundary_refused (((Dev.boundaryCode_run hm hen pos).2 hord).1 hq) (by decide)
  · exact fun hq => boundaryPost_meets s src set sw adv pos mask hm hen hord hq

end Sys2Proof.Machine
end

section
/-! SUPPORT. Survey's measurement: the windows' results, the record and what is kept of the history (spec 08_survey_media_odometry.md R213 to R230). -/

namespace Sys2Proof.Machine

/-! ## A window's match -/

/-- What Table 8.1 promises of a window's outcome. -/
structure SurRes.Sound (d : Dev) (w : Nat) (r : SurRes) : Prop where
  win : r.win = w
  status : r.status ≤ 10
  conf : r.conf ≤ 255
  valid : r.status = 0 → d.f F.SUR_CTRL.CONF_MIN ≤ r.conf ∧ r.err.natAbs ≤ d.f F.SUR_LIMITS.ERR_MAX

theorem divFloor_nonneg {x y : Int} (hx : 0 ≤ x) (hy : 0 ≤ y) : 0 ≤ divFloor x y := Int.fdiv_nonneg hx hy

theorem confidence_le (c cref : Nat) : (max 0 (255 - divFloor (2 * 255 * (c : Int) + cref) (2 * cref))).toNat ≤ 255 := by
  have h : 0 ≤ divFloor (2 * 255 * (c : Int) + cref) (2 * cref) := divFloor_nonneg (by omega) (by omega)
  omega

theorem surFail_sound (d : Dev) (w : Nat) {st : Nat} (h0 : st ≠ 0) (h : st ≤ 10) : (surFail w st).Sound d w :=
  ⟨rfl, h, Nat.zero_le _, fun hs => absurd hs h0⟩

theorem Dev.surMatch_sound (d : Dev) (j : SurJob) (w : Nat) : (d.surMatch j w).Sound d w := by
  unfold Dev.surMatch
  split
  · exact surFail_sound d w (by decide) (by decide)
  split
  · exact surFail_sound d w (by decide) (by decide)
  split
  · exact surFail_sound d w (by decide) (by decide)
  extract_lets s xs tex c pl refused line cand is main p0 sig cost all
  clear_value all cost main cand line
  split
  · exact surFail_sound d w (by decide) (by decide)
  split
  · exact surFail_sound d w (by decide) (by decide)
  split
  · exact surFail_sound d w (by decide) (by decide)
  split
  · exact surFail_sound d w (by decide) (by decide)
  split
  · exact surFail_sound d w (by decide) (by decide)
  split
  · exact surFail_sound d w (by decide) (by decide)
  split
  · extract_lets d64 sLead err refs cref conf weave st
    refine ⟨rfl, ?_, ?_, fun hst => ?_⟩
    · show st ≤ 10
      unfold st
      split
      · decide
      · split
        · decide
        · decide
    · show conf ≤ 255
      unfold conf
      split
      · decide
      · exact confidence_le _ _
    · change st = 0 at hst
      unfold st at hst
      split at hst
      · exact absurd hst (by decide)
      next hc =>
        split at hst
        · exact absurd hst (by decide)
        next he => exact ⟨Nat.not_lt.1 hc, Nat.not_lt.1 he⟩
  · exact surFail_sound d w (by decide) (by decide)

theorem Dev.surMatch_off {d : Dev} {j : SurJob} {w : Nat} (h : d.f (F.SUR_WIN_CFG.EN w) = 0) : (d.surMatch j w).status = 1 := by
  rw [Dev.surMatch, if_pos (by rw [Dev.on_zero h]; rfl)]
  rfl

theorem Dev.surMatch_refused {d : Dev} {j : SurJob} {w : Nat} (h : d.f (F.SUR_WIN_CFG.EN w) = 1) (hp : w ∉ d.sur.passed) :
    (d.surMatch j w).status = 2 := by
  rw [Dev.surMatch, if_neg (by rw [Dev.on_one h]; decide), if_pos (by simp [hp])]
  rfl

/-! ## The windows' registers (Table 8.13) -/

/-- A window's register shows a result. -/
def Dev.ShowsWin (e : Dev) (r : SurRes) : Prop :=
  e.f (F.SUR_WIN_RES.STATUS r.win) = r.status ∧ e.f (F.SUR_WIN_RES.CONF r.win) = r.conf ∧ e.fi (F.SUR_WIN_RES.ERROR r.win) = clampI r.err (-524287) 524287

theorem Dev.ShowsWin.congr {d e : Dev} {r : SurRes} (h : d.ShowsWin r) (hr : e.reg (R.SUR_WIN_RES r.win) = d.reg (R.SUR_WIN_RES r.win)) : e.ShowsWin r := by
  have hk : Dev.RegsKept (· = R.SUR_WIN_RES r.win) d e := fun a ha => by
    subst ha
    exact hr
  exact ⟨(hk.f rfl).trans h.1, (hk.f rfl).trans h.2.1, (hk.fi rfl).trans h.2.2⟩

theorem signed_unsigned_20 {x : Int} (h0 : -524287 ≤ x) (h1 : x ≤ 524287) : signed 20 (unsigned 20 x % 2 ^ 20) = x := by
  unfold signed unsigned
  norm_num
  split
  · omega
  · omega

theorem Dev.showWin_shows {d0 : Dev} {w : Nat} {r : SurRes} (h : r.Sound d0 w) (d : Dev) : (d.showWin r).ShowsWin r := by
  have hst := h.status
  have hc := h.conf
  obtain ⟨h0, h1⟩ := clampI_bounds (x := r.err) (lo := -524287) (hi := 524287) (by decide)
  unfold Dev.showWin Dev.ShowsWin Dev.setFI
  refine ⟨?_, ?_, ?_⟩
  · rw [Dev.f_apart _ _ _ _ _ _ _ (by decide) (by decide) (by decide), Dev.f_apart _ _ _ _ _ _ _ (by decide) (by decide) (by decide)]
    exact (Dev.f_same _ _ _ _ _ (by decide) (by decide)).trans (Nat.mod_eq_of_lt (by omega))
  · rw [Dev.f_apart _ _ _ _ _ _ _ (by decide) (by decide) (by decide)]
    exact (Dev.f_same _ _ _ _ _ (by decide) (by decide)).trans (Nat.mod_eq_of_lt (by omega))
  · unfold Dev.fi
    rw [Dev.f_same _ _ _ _ _ (by decide) (by decide)]
    exact signed_unsigned_20 h0 h1

theorem Dev.reg_showWin_ne (d : Dev) (r : SurRes) {a : Nat} (h : a ≠ R.SUR_WIN_RES r.win) : (d.showWin r).reg a = d.reg a := by
  unfold Dev.showWin Dev.setFI
  rw [Dev.reg_setF_ne _ _ _ h, Dev.reg_setF_ne _ _ _ h, Dev.reg_setF_ne _ _ _ h]

theorem Dev.showWin_regsOut (d : Dev) (r : SurRes) : d.RegsOut (d.showWin r) :=
  ((d.setF_regsOut _ _).trans (Dev.setF_regsOut _ _ _)).trans (Dev.setF_regsOut _ _ _)

theorem Dev.showWins_spec {d0 : Dev} {g : Nat → SurRes} (hg : ∀ w, (g w).Sound d0 w) (l : List Nat) (hl : l.Nodup) (d : Dev) {e : Dev}
    (he : e = (l.map g).foldl (fun d r => d.showWin r) d) :
    d.RegsOut e ∧ (∀ a, (∀ w ∈ l, a ≠ R.SUR_WIN_RES w) → e.reg a = d.reg a) ∧ ∀ w ∈ l, e.ShowsWin (g w) := by
  induction l generalizing d with
  | nil => exact ⟨he ▸ rfl, fun a _ => by rw [he]; rfl, fun w hw => absurd hw List.not_mem_nil⟩
  | cons x xs ih =>
    obtain ⟨hx, hxs⟩ := List.nodup_cons.1 hl
    obtain ⟨hd, hk, hs⟩ := ih hxs (d.showWin (g x)) he
    have hwin : (g x).win = x := (hg x).win
    refine ⟨?_, fun a ha => ?_, fun w hw => ?_⟩
    · exact (Dev.showWin_regsOut _ _).trans hd
    · rw [hk a fun w hw => ha w (List.mem_cons_of_mem _ hw)]
      exact Dev.reg_showWin_ne _ _ (hwin.symm ▸ ha x List.mem_cons_self)
    · rcases List.mem_cons.1 hw with rfl | hw
      · refine ((hg w).win ▸ Dev.showWin_shows (hg w) d : (d.showWin (g w)).ShowsWin (g w)).congr (hk _ fun v hv h => hx ?_)
        rw [hwin] at h
        have : w = v := by
          unfold R.SUR_WIN_RES at h
          omega
        exact this ▸ hv
      · exact hs w hw

/-! ## The record (R225 to R230) -/

/-- The registers of chapters 8 and 9 but SUR_STATUS. -/
def surveyKept (a : Nat) : Prop := besideReg a ∧ a ≠ R.SUR_STATUS

/-- What writing a measurement's record with word 0 `w` leaves. -/
structure Dev.SurveyPut (d : Dev) (w : Nat) (e : Dev) : Prop where
  sur : e.sur = { d.sur with seq := (d.sur.seq + 1) % 65536 }
  seq : e.f F.SUR_STATUS.SEQ = d.sur.seq % 65536
  word : e.mem (surSlot d.sur.seq) 4 = w % 2 ^ 32
  regs : Dev.RegsKept surveyKept d e

theorem Dev.SurveyPut.beside {d e g : Dev} {w : Nat} (h : d.SurveyPut w e) (h' : e.Beside g) : d.SurveyPut w g :=
  ⟨h'.sur.trans h.sur, (h'.regs.f (.inl ⟨by decide, by decide⟩)).trans h.seq, (Dev.mem_ram h'.ram _ _).trans h.word,
    h.regs.trans (h'.regs.mono fun _ ha => ha.1)⟩

/-- The record of a measurement at its slot, with SEQ advanced. -/
def Dev.storeSurvey (d : Dev) (w : Nat) (l : List Byte) : Dev :=
  let seq := d.sur.seq
  let d := (d.setBytes (surSlot seq + 4) l).setMem (surSlot seq) 4 w
  { d with sur := { d.sur with seq := (seq + 1) % 65536 } }.setF F.SUR_STATUS.SEQ seq

theorem Dev.storeSurvey_spec (d : Dev) (w : Nat) (l : List Byte) : d.SurveyPut w (d.storeSurvey w l) := by
  obtain ⟨m, hm⟩ : ∃ m, m = (d.setBytes (surSlot d.sur.seq + 4) l).setMem (surSlot d.sur.seq) 4 w := ⟨_, rfl⟩
  obtain ⟨hmd, hmw⟩ := d.putRecord_spec _ _ _ _ hm
  obtain ⟨e, he⟩ : ∃ e, e = d.storeSurvey w l := ⟨_, rfl⟩
  have hst := he
  unfold Dev.storeSurvey at he
  dsimp only at he
  rw [← hm, hmd] at he
  rw [← hst, he]
  exact ⟨rfl, Dev.f_same _ _ _ _ _ (by decide) (by decide), (Dev.mem_ram (d := m) rfl _ _).trans hmw,
    Dev.RegsKept.setF (.of_regs rfl) F.SUR_STATUS.SEQ _ (fun h => h.2 rfl)⟩

/-- A measurement's record is stored and then delivered. -/
theorem Dev.putSurvey_eq (d : Dev) (j : SurJob) (status conf flags valid : Nat) (eEnc dTrue err skew weave : Int) :
    ∃ m l plane payload, d.Beside m ∧ d.putSurvey j status conf flags valid eEnc dTrue err skew weave =
      (m.storeSurvey (d.sur.seq * 2 ^ 16 + status * 2 ^ 8 + conf) l).deliverAnalysis 1 plane j.k j.sMain j.time payload := by
  unfold Dev.putSurvey
  extract_lets seq ws d1 m t d2
  have h1 : d.Beside d1 := d.haulRequest_beside _
  have hseq : seq = d1.sur.seq := by rw [h1.sur]
  have hst : d1.storeSurvey (d.sur.seq * 2 ^ 16 + status * 2 ^ 8 + conf) (wordBytes (ws.drop 1)) = d2 := by
    unfold Dev.storeSurvey
    rw [← hseq]
    rfl
  refine ⟨d1, wordBytes (ws.drop 1), d2.f F.SUR_CTRL.SURVEY_PLANE, wordBytes ws, h1, ?_⟩
  rw [hst]

theorem Dev.putSurvey_spec (d : Dev) (j : SurJob) (status conf flags valid : Nat) (eEnc dTrue err skew weave : Int) :
    d.SurveyPut (d.sur.seq * 2 ^ 16 + status * 2 ^ 8 + conf) (d.putSurvey j status conf flags valid eEnc dTrue err skew weave) := by
  obtain ⟨m, l, plane, payload, h1, he⟩ := d.putSurvey_eq j status conf flags valid eEnc dTrue err skew weave
  obtain ⟨g, hg⟩ : ∃ g, g = m.storeSurvey (d.sur.seq * 2 ^ 16 + status * 2 ^ 8 + conf) l := ⟨_, rfl⟩
  have hput := m.storeSurvey_spec (d.sur.seq * 2 ^ 16 + status * 2 ^ 8 + conf) l
  rw [he, ← hg]
  rw [← hg] at hput
  obtain ⟨hs, hq, hw, hk⟩ := hput
  rw [h1.sur] at hs hq hw
  exact Dev.SurveyPut.beside ⟨hs, hq, hw, (h1.regs.mono fun _ h => h.1).trans hk⟩ (g.deliverAnalysis_beside _ _ _ _ _ _)

theorem Dev.surResult_spec (d : Dev) (j : SurJob) (rs : List SurRes) : ∃ w, d.SurveyPut w (d.surResult j rs) ∧
    ((∀ r ∈ rs, r.status ≠ 0) → w = d.sur.seq * 2 ^ 16 + 1 * 2 ^ 8) := by
  unfold Dev.surResult
  extract_lets ok rev err dt conf wv sk fwd flags sLead seq e
  split
  next => exact ⟨_, d.putSurvey_spec j 1 0 _ _ _ _ _ _ _, fun _ => Nat.add_zero _⟩
  next hok =>
    have hsome : ¬ ∀ r ∈ rs, r.status ≠ 0 := fun h => hok (by
      rw [List.isEmpty_iff]
      exact List.filter_eq_nil_iff.2 fun r hr => by simpa using h r hr)
    have hput : ∃ w, d.SurveyPut w e := ⟨_, d.putSurvey_spec j 0 conf flags _ _ _ _ _ _⟩
    obtain ⟨w, hw⟩ := hput
    clear_value e
    refine ⟨w, ?_, fun h => absurd h hsome⟩
    split
    · exact hw
    · split
      · exact hw.beside (e.enterSurvey_beside _ _ _ _)
      · exact hw.beside (e.sendResult_beside _ _)

/-! ## The history (Table 8.3) -/

theorem Dev.setSurveyUse_beside (d : Dev) (use : Nat) : d.Beside (d.setSurveyUse use) := by
  unfold Dev.setSurveyUse
  extract_lets q
  have h : d.Beside { d with sump := { d.sump with survey := use, overSurvey := q.1 } } := ⟨rfl, rfl, rfl, rfl, .of_regs rfl⟩
  exact (h.trans (Dev.reportIf_beside _ _ _ _)).trans (Dev.sumpNote_beside _)

/-- What ending the measurement of line `k` leaves. -/
structure Dev.MeasClosed (d : Dev) (k : Int) (e : Dev) : Prop where
  jobs : e.sur.jobs = d.sur.jobs
  seq : e.sur.seq = d.sur.seq
  meas : ∀ m ∈ e.sur.meas, m.k ≠ k
  ram : e.ram = d.ram
  shown : e.f F.SUR_STATUS.SEQ = d.f F.SUR_STATUS.SEQ
  regs : Dev.RegsKept surveyKept d e

theorem Dev.setMeas_spec (d : Dev) (ms : List SurMeas) : (d.setMeas ms).sur = { d.sur with meas := ms } ∧ (d.setMeas ms).ram = d.ram ∧
    (d.setMeas ms).f F.SUR_STATUS.SEQ = d.f F.SUR_STATUS.SEQ ∧ Dev.RegsKept surveyKept d (d.setMeas ms) := by
  obtain ⟨m, hm⟩ : ∃ m : Dev, m = Dev.setF { d with sur := { d.sur with meas := ms } } F.SUR_STATUS.CELLS_USED (sumN (ms.map (fun (m : SurMeas) => m.cells))) :=
    ⟨_, rfl⟩
  have hset : d.setMeas ms = m.setSurveyUse (sumN (ms.map (fun (m : SurMeas) => m.cells))) := by
    rw [hm]
    rfl
  have hseq : m.f F.SUR_STATUS.SEQ = d.f F.SUR_STATUS.SEQ := by
    rw [hm]
    exact Dev.f_apart _ _ _ _ _ _ _ (by decide) (by decide) (by decide)
  have hreg : Dev.RegsKept surveyKept d m := hm ▸ Dev.RegsKept.setF (.of_regs rfl) F.SUR_STATUS.CELLS_USED _ (fun h => h.2 rfl)
  have hb := m.setSurveyUse_beside (sumN (ms.map (fun (m : SurMeas) => m.cells)))
  rw [hset]
  refine ⟨hb.sur.trans ?_, hb.ram.trans ?_, (hb.regs.f (.inl ⟨by decide, by decide⟩)).trans hseq, hreg.trans (hb.regs.mono fun _ h => h.1)⟩
  · rw [hm]
    rfl
  · rw [hm]
    rfl

theorem Dev.closeMeas_spec (d : Dev) (k : Int) : d.MeasClosed k (d.closeMeas k) := by
  obtain ⟨hs, hr, hq, hk⟩ := d.setMeas_spec (d.sur.meas.filter (fun m => m.k ≠ k))
  obtain ⟨m, hm⟩ : ∃ m, m = d.setMeas (d.sur.meas.filter (fun m => m.k ≠ k)) := ⟨_, rfl⟩
  have hclose : ∃ ls, d.closeMeas k = { m with sur := { m.sur with lines := ls } } := hm ▸ ⟨_, rfl⟩
  obtain ⟨ls, hls⟩ := hclose
  rw [← hm] at hs hr hq hk
  rw [hls]
  refine ⟨by rw [hs], by rw [hs], fun x hx => ?_, hr, hq, hk.regs rfl⟩
  rw [hs] at hx
  simpa using (List.mem_filter.1 hx).2

/-! ## The statement -/

theorem Dev.surveyMeasure_of {d : Dev} {j : SurJob} {t : List SurJob} (h : d.sur.jobs = j :: t) {m g : Dev}
    (hm : m = ((List.range 16).map (fun w => d.surMatch j w)).foldl (fun d r => d.showWin r) d)
    (hg : g = m.surResult j ((List.range 16).map (fun w => d.surMatch j w))) :
    d.surveyMeasure = { g with sur := { g.sur with jobs := t } }.closeMeas j.k := by
  rw [Dev.surveyMeasure, h]
  dsimp only
  rw [← hm, ← hg]

theorem R.surWinRes_kept (w : Nat) (hw : w < 16) : surveyKept (R.SUR_WIN_RES w) := by
  unfold surveyKept besideReg R.SUR_WIN_RES R.SUR_STATUS
  omega

theorem clampI_natAbs (x : Int) : (clampI x (-524287) 524287).natAbs ≤ x.natAbs := by
  unfold clampI
  split
  · omega
  · split
    · omega
    · exact le_rfl

/-- Settles O34. -/
theorem surveyMeasured : Obligations.SurveyMeasured := by
  refine fun s => ⟨fun h => State.ignores (f := (·.surveyMeasure)) rfl ?_, fun j t hj hseq => State.does (f := (·.surveyMeasure)) rfl ?_⟩
  · rw [Dev.surveyMeasure, h]
  obtain ⟨m, hm⟩ : ∃ m, m = ((List.range 16).map (fun w => s.dev.surMatch j w)).foldl (fun d r => d.showWin r) s.dev := ⟨_, rfl⟩
  obtain ⟨g, hg⟩ : ∃ g, g = m.surResult j ((List.range 16).map (fun w => s.dev.surMatch j w)) := ⟨_, rfl⟩
  obtain ⟨g', hg'⟩ : ∃ g' : Dev, g' = { g with sur := { g.sur with jobs := t } } := ⟨_, rfl⟩
  obtain ⟨e, he⟩ : ∃ e, e = g'.closeMeas j.k := ⟨_, rfl⟩
  rw [Dev.surveyMeasure_of hj hm hg, ← hg', ← he]
  have hsound : ∀ w, (s.dev.surMatch j w).Sound s.dev w := fun w => s.dev.surMatch_sound j w
  obtain ⟨hmd, -, hshow⟩ := Dev.showWins_spec hsound _ List.nodup_range _ hm
  have hmsur : m.sur = s.dev.sur := Dev.RegsOut.eq hmd Dev.sur fun _ _ _ => rfl
  obtain ⟨w0, hput, hnone⟩ := m.surResult_spec j ((List.range 16).map (fun w => s.dev.surMatch j w))
  rw [← hg] at hput
  obtain ⟨hgsur, hgseq, hgword, hgregs⟩ := hput
  rw [hmsur] at hgsur hgseq hgword hnone
  have hclose := g'.closeMeas_spec j.k
  rw [← he] at hclose
  have hregs : Dev.RegsKept surveyKept m e := (hgregs.regs (hg' ▸ rfl)).trans hclose.regs
  have hwin : ∀ w, w < 16 → e.ShowsWin (s.dev.surMatch j w) := fun w hw =>
    (hshow w (List.mem_range.2 hw)).congr (hregs _ (by rw [(hsound w).win]; exact R.surWinRes_kept w hw))
  refine ⟨?_, ?_, ?_, hclose.meas, fun w => ?_, fun hall => ?_⟩
  · rw [hclose.jobs, hg']
  · rw [hclose.seq, hg']
    exact congrArg Survey.seq hgsur
  · rw [hclose.shown, hg']
    exact hgseq.trans (Nat.mod_eq_of_lt hseq)
  · obtain ⟨hst, hconf, herr⟩ := hwin w w.isLt
    rw [(hsound w).win] at hst hconf herr
    rw [hst, hconf, herr]
    refine ⟨Dev.surMatch_off, Dev.surMatch_refused, fun h0 => ?_⟩
    obtain ⟨hc, he⟩ := (hsound w).valid h0
    exact ⟨hc, (clampI_natAbs _).trans he⟩
  · have hw0 : w0 = s.dev.sur.seq * 2 ^ 16 + 1 * 2 ^ 8 := hnone fun r hr => by
      obtain ⟨w, hw, rfl⟩ := List.mem_map.1 hr
      have hw16 := List.mem_range.1 hw
      have hst := (hwin w hw16).1
      rw [(hsound w).win] at hst
      exact hst ▸ hall ⟨w, hw16⟩
    have hmem : e.mem (surSlot s.dev.sur.seq) 4 = w0 % 2 ^ 32 := by
      refine (Dev.mem_ram (hclose.ram.trans ?_) _ _).trans hgword
      rw [hg']
    rw [hw0] at hmem
    refine hmem.trans (Nat.mod_eq_of_lt ?_)
    omega

end Sys2Proof.Machine
end

section
/-! SUPPORT. Tether frames received, forwarded and merged (spec 17_time_cairn_and_tether.md R431 to R440). -/

namespace Sys2Proof.Machine

/-! ## Frames on their way -/

/-- Only the requests to the world are new. -/
def Dev.OutOnly (d e : Dev) : Prop := e = { d with out := e.out }

theorem Dev.sendVia_outOnly (d : Dev) (p : Nat) (ws : List Nat) : d.OutOnly (d.sendVia p ws) := by
  unfold Dev.sendVia
  split
  · rfl
  · split
    · rfl
    · split
      · rfl
      · rfl

theorem Dev.forward_outOnly (d : Dev) (p : Nat) (ws : List Nat) : d.OutOnly (d.forward p ws) := by
  unfold Dev.forward
  split
  · rfl
  · exact d.sendVia_outOnly _ _

theorem Dev.OutOnly.f {d e : Dev} (h : d.OutOnly e) (x : Fld) : e.f x = d.f x := by
  unfold Dev.OutOnly at h
  rw [h]
  rfl

theorem Dev.OutOnly.tet {d e : Dev} (h : d.OutOnly e) : e.tet = d.tet := by
  unfold Dev.OutOnly at h
  rw [h]

theorem Dev.OutOnly.only {b d e : Dev} {l : List Fld} (h : d.OutOnly e) (ho : b.Only d l) : b.Only e l := by
  have he : e = { d with out := e.out } := h
  refine ⟨?_, fun a i hi => ?_⟩
  · rw [he, ho.1]
  · rw [he]
    exact ho.2 a i hi

/-- A port is 0 or 1. -/
theorem port_other {p : Nat} (hp : p < 2) : 1 - (1 - p) = p := by omega

/-- What a node sends on: through the other port, back where that carries nothing, or not at all (R432). -/
theorem Dev.forward_spec (d : Dev) {p : Nat} (hp : p < 2) (ws : List Nat) :
    (bitsOf (ws.headD 0) 17 13 = 31 → d.forward p ws = d) ∧
    (bitsOf (ws.headD 0) 17 13 ≠ 31 →
      ((d.port (1 - p)).carries = true → d.forward p ws = d.emit (.frame (1 - p) (d.onward ws))) ∧
      ((d.port (1 - p)).carries = false → bitOf ((d.onward ws).headD 0) 18 = true → d.forward p ws = d) ∧
      ((d.port (1 - p)).carries = false → bitOf ((d.onward ws).headD 0) 18 = false → (d.port p).carries = true →
        d.forward p ws = d.emit (.frame p (wrapFrame (d.onward ws))))) := by
  refine ⟨fun h => if_pos h, fun h => ?_⟩
  unfold Dev.forward Dev.sendVia
  rw [if_neg h, port_other hp]
  refine ⟨fun hc => if_pos hc, fun hc hb => ?_, fun hc hb hc' => ?_⟩
  · rw [if_neg (by simp [hc]), if_pos hb]
  · rw [if_neg (by simp [hc]), if_neg (fun h => Bool.noConfusion (hb.symm.trans h)), if_pos hc']

/-! ## Frames seen before -/

/-- The SEQ of a frame noted among those seen. -/
def Dev.noted (d : Dev) (key : Seen) : Dev :=
  if !d.tet.seen.contains key then d.setTet { d.tet with seen := (key :: d.tet.seen).take 64 } else d

/-- The frames seen after a frame. -/
def Tether.seenWith (t : Tether) (key : Seen) : List Seen := if t.seen.contains key then t.seen else (key :: t.seen).take 64

theorem Dev.noted_eq (d : Dev) (key : Seen) : d.noted key = { d with tet := { d.tet with seen := d.tet.seenWith key } } := by
  unfold Dev.noted Tether.seenWith
  cases d.tet.seen.contains key
  · rfl
  · rfl

/-- A frame that came round to the node that sent it (R432). -/
theorem Dev.frameReceived_own {d : Dev} {p : Nat} {ws : List Nat} {fwd : Nat} (haw : d.alive = true) (hen : d.f F.TET_CFG.EN = 1)
    (hok : frameOk ws = true) (h3 : frameType ws ≠ 3) (h4 : frameType ws ≠ 4) (hsrc : frameSrc ws = d.f F.TET_CFG.NODE) {key : Seen}
    (hkey : key = ⟨frameSrc ws, frameType ws, frameSeq ws⟩) {m : Dev} (hm : m = d.noted key) : d.frameReceived p ws fwd =
      if !m.tet.sent.contains key then m.flag F.TET_STATUS.DUP_NODE
      else if bitOf (ws.headD 0) 18 && !d.tet.seen.contains key then m.forward p ws
      else if frameType ws = 5 ∧ bitsOf (ws.headD 0) 7 0 = 1 ∧ m.inStation = true ∧ m.on F.TET_CFG.FEED_MASTER = true then m.govReturned ws
      else m := by
  have hmf : m.f F.TET_CFG.NODE = d.f F.TET_CFG.NODE := by
    rw [hm, Dev.noted_eq]
    rfl
  rw [Dev.frameReceived, if_neg (by simp [haw, Dev.on_one hen]), if_neg (by simp [hok])]
  dsimp only
  rw [if_neg h3, if_neg h4, ← hkey]
  change (if frameSrc ws = (d.noted key).f F.TET_CFG.NODE then _ else _) = _
  rw [← hm, if_pos (hsrc.trans hmf.symm), hm]
  rfl

/-- What a frame of another node leaves, before it is sent on (R432). -/
def Dev.heard (m : Dev) (first : Bool) (p : Nat) (ws : List Nat) (fwd : Nat) : Dev :=
  if first then m.deliverFrame p ws fwd
  else if frameType ws = 1 then
    m.setTet { m.tet with syncPort := p, syncRecv := m.baseVal 1, syncSent := (m.baseVal 1 + fwd) % 2 ^ 64 }
  else m

/-- A frame of another node. -/
theorem Dev.frameReceived_other {d : Dev} {p : Nat} {ws : List Nat} {fwd : Nat} (haw : d.alive = true) (hen : d.f F.TET_CFG.EN = 1)
    (hok : frameOk ws = true) (h3 : frameType ws ≠ 3) (h4 : frameType ws ≠ 4) (hsrc : frameSrc ws ≠ d.f F.TET_CFG.NODE) {key : Seen}
    (hkey : key = ⟨frameSrc ws, frameType ws, frameSeq ws⟩) {m : Dev} (hm : m = d.noted key) :
    d.frameReceived p ws fwd = (m.heard (!d.tet.seen.contains key) p ws fwd).forward p ws := by
  have hmf : m.f F.TET_CFG.NODE = d.f F.TET_CFG.NODE := by
    rw [hm, Dev.noted_eq]
    rfl
  rw [Dev.frameReceived, if_neg (by simp [haw, Dev.on_one hen]), if_neg (by simp [hok])]
  dsimp only
  rw [if_neg h3, if_neg h4, ← hkey]
  change (if frameSrc ws = (d.noted key).f F.TET_CFG.NODE then _ else _) = _
  rw [← hm, if_neg (hmf.symm ▸ hsrc), hm]
  rfl

/-! ## The answer to a delay request (R434) -/

/-- A Tether state set on both sides leaves the registers' relation. -/
theorem Dev.Only.withTet {d e : Dev} {l : List Fld} (h : d.Only e l) (x : Tether) : ({ d with tet := x } : Dev).Only { e with tet := x } l :=
  ⟨congrArg (fun y : Dev => { y with tet := x }) h.1, fun a i hi => h.2 a i hi⟩

theorem Dev.Only.withMoves {d e : Dev} {l : List Fld} (h : d.Only e l) (x : List Move) : ({ d with moves := x } : Dev).Only { e with moves := x } l :=
  ⟨congrArg (fun y : Dev => { y with moves := x }) h.1, fun a i hi => h.2 a i hi⟩

/-- The flags of a ring whose broken link carries again (R432). -/
def Dev.unwrapped (d : Dev) : Dev := (d.setF F.TET_STATUS.WRAPPED 0).flag F.TET_STATUS.REROUTED

theorem Dev.unwrapped_spec (d : Dev) : d.unwrapped.f F.TET_STATUS.WRAPPED = 0 ∧ d.unwrapped.f F.TET_STATUS.REROUTED = 1 ∧
    (∀ p hi lo, d.unwrapped.f ⟨R.TET_PORT p, hi, lo⟩ = d.f ⟨R.TET_PORT p, hi, lo⟩) ∧ d.unwrapped.tet = d.tet ∧
    d.Only d.unwrapped [F.TET_STATUS.WRAPPED, F.TET_STATUS.REROUTED, intBit 14] := by
  unfold Dev.unwrapped
  refine ⟨?_, Dev.f_flag_same _ _ _ (by decide) (by decide), fun p hi lo => ?_, ?_, ?_⟩
  · rw [Dev.f_flag_apart _ _ _ (by decide) (by decide) (by decide) (by decide) (by decide)]
    exact (Dev.f_same _ _ _ _ _ (by decide) (by decide)).trans (Nat.zero_mod _)
  · rw [Dev.f_flag_other _ _ _ _ _ (R.tetPort_ne p).2 (R.tetPort_ne p).1]
    exact Dev.f_setF_ne _ _ _ _ (R.tetPort_ne p).1
  · rw [Dev.flag_tet, Dev.setF_tet]
  · exact ((Dev.Only.refl d _).setF F.TET_STATUS.WRAPPED 0 (by simp [Fld.within])).flag F.TET_STATUS.REROUTED (by simp [Fld.within])
      ⟨by decide, by decide, intBit 14, by simp, rfl, by decide, by decide⟩

/-- A link that carries traffic from now on (R432, R437). -/
theorem Dev.linkCarries_spec {d : Dev} {p : Nat} (hp : p < 2) (hlen : d.tet.ports.length = 2) (hc : (d.port p).carries = false) {e : Dev}
    (he : e = d.linkCarries p) : ∃ m : Dev, m = d.setPort p { d.port p with carries := true } ∧ e.tet = m.tet ∧ e.f (F.TET_PORT.UP p) = 1 ∧
      e.f (F.TET_PORT.D_IN p) = d.f (F.TET_PORT.D_IN p) ∧ e.f (F.TET_PORT.NEIGHBOUR p) = d.f (F.TET_PORT.NEIGHBOUR p) ∧
      (d.f F.TET_STATUS.WRAPPED = 1 → (d.port (1 - p)).carries = true → e.f F.TET_STATUS.WRAPPED = 0 ∧ e.f F.TET_STATUS.REROUTED = 1) ∧
      m.Only e [F.TET_PORT.UP p, F.TET_STATUS.WRAPPED, F.TET_STATUS.REROUTED, intBit 14] := by
  obtain ⟨m, hm⟩ : ∃ m : Dev, m = d.setPort p { d.port p with carries := true } := ⟨_, rfl⟩
  obtain ⟨n, hn⟩ : ∃ n : Dev, n = m.setF (F.TET_PORT.UP p) 1 := ⟨_, rfl⟩
  have he' : e = if n.on F.TET_STATUS.WRAPPED && (n.port (1 - p)).carries then n.unwrapped else n := by
    rw [he, Dev.linkCarries, if_neg (by simp [hc])]
    dsimp only
    rw [← hm, ← hn]
    rfl
  have htet : n.tet = m.tet := hn ▸ Dev.setF_tet _ _ _
  have hport : n.port (1 - p) = d.port (1 - p) := by
    have h1 : n.port (1 - p) = m.port (1 - p) := congrArg (fun t : Tether => t.ports.getD (1 - p) portInit) htet
    rw [h1, hm, Dev.port_setPort _ _ (hlen ▸ hp), if_neg (by omega)]
  have hup : n.f (F.TET_PORT.UP p) = 1 := by
    rw [hn]
    exact Dev.f_same _ _ _ _ _ (by decide) (by decide)
  have hdin : n.f (F.TET_PORT.D_IN p) = d.f (F.TET_PORT.D_IN p) := by
    rw [hn, hm]
    exact Dev.f_apart _ _ _ _ _ _ _ (by decide) (by decide) (by decide)
  have hnb : n.f (F.TET_PORT.NEIGHBOUR p) = d.f (F.TET_PORT.NEIGHBOUR p) := by
    rw [hn, hm]
    exact Dev.f_apart _ _ _ _ _ _ _ (by decide) (by decide) (by decide)
  have hwr : n.f F.TET_STATUS.WRAPPED = d.f F.TET_STATUS.WRAPPED := by
    rw [hn, hm]
    exact Dev.f_setF_ne _ _ _ _ (R.tetPort_ne p).1.symm
  have ho : m.Only n [F.TET_PORT.UP p, F.TET_STATUS.WRAPPED, F.TET_STATUS.REROUTED, intBit 14] := hn ▸ (Dev.Only.refl _ _).setF (F.TET_PORT.UP p) 1
    ⟨Nat.le_of_ble_eq_true rfl, Nat.le_of_ble_eq_true rfl, F.TET_PORT.UP p, by simp, rfl, le_refl _, le_refl _⟩
  obtain ⟨hu0, hu1, huf, hut, huo⟩ := n.unwrapped_spec
  refine ⟨m, hm, ?_⟩
  rw [he', hport]
  split
  next => exact ⟨hut.trans htet, (huf _ _ _).trans hup, (huf _ _ _).trans hdin, (huf _ _ _).trans hnb, fun _ _ => ⟨hu0, hu1⟩, ho.trans (huo.mono (by simp))⟩
  next h => exact ⟨htet, hup, hdin, hnb, fun hw hcar => absurd (by rw [hcar, Dev.on_one (hwr.trans hw)]; rfl) h, ho⟩

/-- The mean of the last delays, as the port reports it. -/
theorem meanDin_cons (x : Int) (l : List Int) : meanDin ((x :: l).take 8) = divFloor (sumI ((x :: l).take 8)) ((x :: l).take 8).length := by
  unfold meanDin
  rw [List.take_succ_cons, List.isEmpty_cons]
  rfl

/-- The answer to a delay request (R434). -/
theorem Dev.pdResp_spec {d : Dev} {p : Nat} (hp : p < 2) (hlen : d.tet.ports.length = 2) {ws : List Nat} {t1 : Nat} {din : Int} {l : List Int}
    (ht : (d.port p).t1 = some t1)
    (hdin : din = divFloor (thetaOf (d.baseVal 0) t1 - signed 64 (ws.getD 2 0 + ws.getD 3 0 * 2 ^ 32)) 2 + d.fi (F.TET_ASYM.ASYM_ADJ p))
    (hl : l = (din :: (d.port p).dins).take 8) {e : Dev} (he : e = d.pdResp p ws) :
    e.port p = ⟨(d.port p).locked, true, none, l⟩ ∧ e.port (1 - p) = d.port (1 - p) ∧
    e.f (F.TET_PORT.D_IN p) = unsigned 20 (divFloor (sumI l) l.length) ∧
    e.f (F.TET_PORT.NEIGHBOUR p) = bitsOf (ws.getD 4 0) 3 0 ∧
    ((d.port p).carries = false → e.f (F.TET_PORT.UP p) = 1) ∧
    ((d.port p).carries = false → d.f F.TET_STATUS.WRAPPED = 1 → (d.port (1 - p)).carries = true →
      e.f F.TET_STATUS.WRAPPED = 0 ∧ e.f F.TET_STATUS.REROUTED = 1) ∧
    { d with tet := { d.tet with ports := e.tet.ports } }.Only e [F.TET_PORT.D_IN p, F.TET_PORT.NEIGHBOUR p, F.TET_PORT.UP p,
      F.TET_STATUS.WRAPPED, F.TET_STATUS.REROUTED, intBit 14] := by
  obtain ⟨m, hm⟩ : ∃ m : Dev, m = d.setPort p { d.port p with t1 := none, dins := l } := ⟨_, rfl⟩
  obtain ⟨n, hn⟩ : ∃ n : Dev, n = (m.setF (F.TET_PORT.D_IN p) (unsigned 20 (divFloor (sumI l) l.length))).setF (F.TET_PORT.NEIGHBOUR p)
      (bitsOf (ws.getD 4 0) 3 0) := ⟨_, rfl⟩
  have he' : e = n.linkCarries p := by
    rw [he, hn, hm, hl, ← meanDin_cons, hdin, Dev.pdResp, ht]
    rfl
  have hmport : ∀ q, m.port q = if q = p then { d.port p with t1 := none, dins := l } else d.port q := fun q => hm ▸ Dev.port_setPort _ _ (hlen ▸ hp)
  have hmlen : m.tet.ports.length = 2 := by
    rw [hm]
    exact (List.length_set ..).trans hlen
  have hntet : n.tet = m.tet := by rw [hn, Dev.setF_tet, Dev.setF_tet]
  have hnport : ∀ q, n.port q = m.port q := fun q => congrArg (fun t : Tether => t.ports.getD q portInit) hntet
  have hnp : n.port p = { d.port p with t1 := none, dins := l } := (hnport p).trans ((hmport p).trans (if_pos rfl))
  have hnq : n.port (1 - p) = d.port (1 - p) := (hnport _).trans ((hmport _).trans (if_neg (by omega)))
  have hnd : n.f (F.TET_PORT.D_IN p) = unsigned 20 (divFloor (sumI l) l.length) := by
    rw [hn, Dev.f_apart _ _ _ _ _ _ _ (by decide) (by decide) (by decide)]
    refine (Dev.f_same _ _ _ _ _ (by decide) (by decide)).trans (Nat.mod_eq_of_lt ?_)
    unfold unsigned
    omega
  have hnn : n.f (F.TET_PORT.NEIGHBOUR p) = bitsOf (ws.getD 4 0) 3 0 := by
    rw [hn]
    exact (Dev.f_same _ _ _ _ _ (by decide) (by decide)).trans (Nat.mod_eq_of_lt (bitsOf_lt _ 3 0))
  have hnw : n.f F.TET_STATUS.WRAPPED = d.f F.TET_STATUS.WRAPPED := by
    rw [hn, hm]
    exact (Dev.f_setF_ne _ _ _ _ (R.tetPort_ne p).1.symm).trans (Dev.f_setF_ne _ _ _ _ (R.tetPort_ne p).1.symm)
  have hmd : m = { d with tet := m.tet } ∧ m.tet = { d.tet with ports := m.tet.ports } := by
    rw [hm]
    exact ⟨rfl, rfl⟩
  have hno : m.Only n [F.TET_PORT.D_IN p, F.TET_PORT.NEIGHBOUR p, F.TET_PORT.UP p, F.TET_STATUS.WRAPPED, F.TET_STATUS.REROUTED, intBit 14] := by
    rw [hn]
    exact ((Dev.Only.refl _ _).setF (F.TET_PORT.D_IN p) _
      ⟨Nat.le_of_ble_eq_true rfl, Nat.le_of_ble_eq_true rfl, F.TET_PORT.D_IN p, by simp, rfl, le_refl _, le_refl _⟩).setF (F.TET_PORT.NEIGHBOUR p) _
      ⟨Nat.le_of_ble_eq_true rfl, Nat.le_of_ble_eq_true rfl, F.TET_PORT.NEIGHBOUR p, by simp, rfl, le_refl _, le_refl _⟩
  cases hc : (d.port p).carries with
  | true =>
    have hen : e = n := by
      rw [he']
      exact if_pos (by rw [hnp]; exact hc)
    rw [hen, hntet, hnp, hnq]
    refine ⟨by simp only [hc], rfl, hnd, hnn, (fun h => nomatch h), (fun h => nomatch h), ?_⟩
    rw [← hmd.2, ← hmd.1]
    exact hno
  | false =>
    have hnc : (n.port p).carries = false := by
      rw [hnp]
      exact hc
    obtain ⟨k, hk, htet, hup, hd, hnb, hw, ho⟩ := Dev.linkCarries_spec hp (hntet ▸ hmlen) hnc he'
    have hkport : ∀ q, e.port q = if q = p then { n.port p with carries := true } else n.port q := fun q => by
      have h1 : e.port q = k.port q := congrArg (fun t : Tether => t.ports.getD q portInit) htet
      rw [h1, hk, Dev.port_setPort _ _ (by rw [hntet, hmlen]; exact hp)]
    refine ⟨?_, ?_, hd.trans hnd, hnb.trans hnn, fun _ => hup, fun _ h1 h2 => hw (hnw.trans h1) (hnq ▸ h2), ?_⟩
    · rw [hkport, if_pos rfl, hnp]
    · rw [hkport, if_neg (by omega), hnq]
    · have hkt : ({ d with tet := { d.tet with ports := e.tet.ports } } : Dev) = { m with tet := k.tet } := by
        rw [htet, hk, hmd.1]
        unfold Dev.setPort
        rw [hntet, hmd.2]
      have hkn : k = { n with tet := k.tet } := by
        rw [hk]
        rfl
      rw [hkt]
      refine (hno.withTet k.tet).trans ?_
      rw [← hkn]
      exact ho.mono (by simp)

/-! ## GOVERNOR frames (R33, R34, R438, R439) -/

/-- What the feed master reads of its own frame, before its registers follow. -/
def Tether.returned (t : Tether) (ws : List Nat) (ok : Bool) (node : Nat) : Tether :=
  { t with ringF := bitsOf (ws.getD 2 0) 12 0, ringCap := bitsOf (ws.getD 3 0) 23 0,
           ringHold := decide (bitsOf (ws.getD 5 0) 31 16 ≠ 0 ∧ bitsOf (ws.getD 5 0) 31 16 ≠ node), lostHold := false,
           govOk := if ok then min 16 (t.govOk + 1) else 0 }

theorem R.tetStatus_ne_int : R.TET_STATUS ≠ R.TOP_INT_STATUS := by decide

/-- The members that a frame that returned names. -/
def Dev.membersShown (d : Dev) (members : Nat) (ok : Bool) : Dev := (d.setF F.TET_STATUS.MEMBERS members).flagIf (!ok) F.TET_STATUS.MEMBER_LOST

/-- FORMED after a frame that returned. -/
def Dev.formedNext (d : Dev) (ok : Bool) : Bool := ok && (d.on F.TET_STATUS.FORMED || decide (16 ≤ d.tet.govOk))

/-- The flags of a frame that returned. -/
def Dev.ringShown (d : Dev) (members : Nat) (ok : Bool) : Dev :=
  (d.membersShown members ok).setB F.TET_STATUS.FORMED ((d.membersShown members ok).formedNext ok)

/-- The bits of TET_STATUS that a GOVERNOR frame may show. -/
def ringFields : List Fld := [F.TET_STATUS.MEMBERS, F.TET_STATUS.MEMBER_LOST, F.TET_STATUS.FORMED, F.TET_STATUS.FEED_MASTER_CONFLICT, intBit 14]

theorem ringFields_int : (intBit (intBitOf R.TET_STATUS)).within ringFields :=
  ⟨by decide, by decide, intBit 14, by simp [ringFields], rfl, by decide, by decide⟩

theorem Dev.ringShown_spec (d : Dev) {members : Nat} (hm : members < 65536) (ok : Bool) {e : Dev} (he : e = d.ringShown members ok) :
    e.f F.TET_STATUS.MEMBERS = members ∧ (ok = false → e.f F.TET_STATUS.MEMBER_LOST = 1) ∧
    e.f F.TET_STATUS.FORMED = (if ok = true ∧ (d.f F.TET_STATUS.FORMED = 1 ∨ 16 ≤ d.tet.govOk) then 1 else 0) ∧
    e.tet = d.tet ∧ d.Only e ringFields := by
  obtain ⟨m, hmm⟩ : ∃ m, m = d.setF F.TET_STATUS.MEMBERS members := ⟨_, rfl⟩
  obtain ⟨n, hn'⟩ : ∃ n, n = d.membersShown members ok := ⟨_, rfl⟩
  unfold Dev.ringShown at he
  rw [← hn'] at he
  unfold Dev.membersShown at hn'
  have hn : n = m.flagIf (!ok) F.TET_STATUS.MEMBER_LOST := hn'.trans (by rw [hmm])
  have hnf : ∀ hi lo, (F.TET_STATUS.MEMBER_LOST.hi < lo ∨ hi < F.TET_STATUS.MEMBER_LOST.lo) → n.f ⟨R.TET_STATUS, hi, lo⟩ = m.f ⟨R.TET_STATUS, hi, lo⟩ := by
    intro hi lo h
    rw [hn, Dev.flagIf]
    split
    · exact Dev.f_flag_apart m F.TET_STATUS.MEMBER_LOST ⟨R.TET_STATUS, hi, lo⟩ rfl (by decide) rfl R.tetStatus_ne_int h
    · rfl
  have hmem : n.f F.TET_STATUS.MEMBERS = members := by
    rw [hnf _ _ (by decide), hmm]
    exact (Dev.f_same _ _ _ _ _ (by decide) (by decide)).trans (Nat.mod_eq_of_lt hm)
  have hformed : n.f F.TET_STATUS.FORMED = d.f F.TET_STATUS.FORMED := by
    rw [hnf _ _ (by decide), hmm]
    exact Dev.f_apart _ _ _ _ _ _ _ (by decide) (by decide) (by decide)
  have htet : n.tet = d.tet := by rw [hn, Dev.flagIf_tet, hmm, Dev.setF_tet]
  have hon : n.on F.TET_STATUS.FORMED = decide (d.f F.TET_STATUS.FORMED = 1) := by
    rw [Bool.eq_iff_iff, Dev.on_bit rfl, hformed, decide_eq_true_iff]
  have hno : d.Only n ringFields := by
    rw [hn, hmm]
    exact ((Dev.Only.refl _ _).setF F.TET_STATUS.MEMBERS _ (by simp [ringFields, Fld.within])).flagIf _ F.TET_STATUS.MEMBER_LOST
      (by simp [ringFields, Fld.within]) ringFields_int
  rw [he]
  refine ⟨?_, fun hok => ?_, ?_, ?_, hno.setB F.TET_STATUS.FORMED _ (by simp [ringFields, Fld.within])⟩
  · exact (Dev.f_apart _ _ _ _ _ _ _ (by decide) (by decide) (by decide)).trans hmem
  · refine (Dev.f_apart _ _ _ _ _ _ _ (by decide) (by decide) (by decide)).trans ?_
    rw [hn, hok, Dev.flagIf, Bool.not_false, if_pos rfl]
    exact Dev.f_flag_same _ _ _ (by decide) (by decide)
  · refine (Dev.f_same _ _ _ _ _ (by decide) (by decide)).trans ?_
    unfold Dev.formedNext
    rw [hon, htet]
    cases ok
    · rfl
    · by_cases h : d.f F.TET_STATUS.FORMED = 1 ∨ 16 ≤ d.tet.govOk
      · rw [if_pos ⟨rfl, h⟩, Bool.true_and, ← Bool.decide_or, decide_eq_true h]
        rfl
      · rw [if_neg (fun h' => h h'.2), Bool.true_and, ← Bool.decide_or, decide_eq_false h]
        rfl
  · rw [Dev.setB, Dev.setF_tet, htet]

/-- More than one feed master (R33). -/
theorem Dev.masterConflict_spec (d : Dev) {e : Dev} (he : e = d.masterConflict) :
    e.f F.TET_STATUS.FEED_MASTER_CONFLICT = 1 ∧ e.tet = { d.tet with conflict := true } ∧
    (∀ hi lo, (F.TET_STATUS.FEED_MASTER_CONFLICT.hi < lo ∨ hi < F.TET_STATUS.FEED_MASTER_CONFLICT.lo) →
      e.f ⟨R.TET_STATUS, hi, lo⟩ = d.f ⟨R.TET_STATUS, hi, lo⟩) ∧
    { d with tet := e.tet, moves := e.moves }.Only e ringFields := by
  obtain ⟨m, hm⟩ : ∃ m : Dev, m = d.setTet { d.tet with conflict := true } := ⟨_, rfl⟩
  obtain ⟨n, hn⟩ : ∃ n : Dev, n = m.flag F.TET_STATUS.FEED_MASTER_CONFLICT := ⟨_, rfl⟩
  have he' : ∃ x, e = { n with moves := x } := ⟨_, by rw [he, hn, hm]; rfl⟩
  obtain ⟨x, hx⟩ := he'
  have htet : n.tet = { d.tet with conflict := true } := by
    rw [hn, Dev.flag_tet, hm]
    rfl
  have ho : m.Only n ringFields := hn ▸ (Dev.Only.refl _ _).flag F.TET_STATUS.FEED_MASTER_CONFLICT (by simp [ringFields, Fld.within]) ringFields_int
  have hmd : ({ d with tet := n.tet, moves := x } : Dev) = { m with moves := x } := by
    rw [htet, hm]
    rfl
  subst hx
  refine ⟨?_, htet, fun hi lo h => ?_, ?_⟩
  · have h1 : n.f F.TET_STATUS.FEED_MASTER_CONFLICT = 1 := hn ▸ Dev.f_flag_same _ _ _ (by decide) (by decide)
    exact h1
  · have h1 : n.f ⟨R.TET_STATUS, hi, lo⟩ = m.f ⟨R.TET_STATUS, hi, lo⟩ := hn ▸ Dev.f_flag_apart m F.TET_STATUS.FEED_MASTER_CONFLICT ⟨R.TET_STATUS, hi, lo⟩ rfl (by decide) rfl R.tetStatus_ne_int h
    refine h1.trans ?_
    rw [hm]
    rfl
  · dsimp only
    rw [hmd]
    exact ho.withMoves x

/-- The feed master's own GOVERNOR frame returns (R438, R439). -/
theorem Dev.govReturned_spec (d : Dev) {ws : List Nat} {members locked masters holds ex : Nat} {ok : Bool} {n : Nat}
    (hmem : members = bitsOf (ws.getD 4 0) 15 0) (hmas : masters = bitsOf (ws.getD 4 0) 31 16) (hlock : locked = bitsOf (ws.getD 5 0) 15 0)
    (hhold : holds = bitsOf (ws.getD 5 0) 31 16) (hex : ex = d.f F.TET_EXPECT.EXPECT) (hok : ok = decide (members &&& ex = ex ∧ locked &&& ex = ex))
    (hn : n = (if ok then min 16 (d.tet.govOk + 1) else 0)) {e : Dev} (he : e = d.govReturned ws) :
    e.f F.TET_STATUS.MEMBERS = members ∧ (ok = false → e.f F.TET_STATUS.MEMBER_LOST = 1) ∧
    e.f F.TET_STATUS.FORMED = (if ok = true ∧ (d.f F.TET_STATUS.FORMED = 1 ∨ 16 ≤ n) then 1 else 0) ∧
    (masters ≠ 2 ^ d.f F.TET_CFG.NODE → e.f F.TET_STATUS.FEED_MASTER_CONFLICT = 1) ∧
    e.tet = { d.tet with
      ringF := bitsOf (ws.getD 2 0) 12 0
      ringCap := bitsOf (ws.getD 3 0) 23 0
      ringHold := decide (holds ≠ 0 ∧ holds ≠ 2 ^ d.f F.TET_CFG.NODE)
      lostHold := false
      govOk := n
      conflict := decide (masters ≠ 2 ^ d.f F.TET_CFG.NODE) } ∧
    { d with tet := e.tet, moves := e.moves }.Only e ringFields := by
  obtain ⟨m, hm⟩ : ∃ m : Dev, m = d.setTet (d.tet.returned ws ok d.nodeBit) := ⟨_, rfl⟩
  obtain ⟨k, hk⟩ : ∃ k : Dev, k = m.ringShown members ok := ⟨_, rfl⟩
  obtain ⟨h1, h2, h3, htet, ho⟩ := m.ringShown_spec (hmem ▸ bitsOf_lt _ 15 0) ok hk
  have hnode : k.nodeBit = 2 ^ d.f F.TET_CFG.NODE := by
    have hf : k.f F.TET_CFG.NODE = m.f F.TET_CFG.NODE := ho.f (y := F.TET_CFG.NODE) (by
      simp only [ringFields, List.forall_mem_cons]
      exact ⟨.inl (by decide), .inl (by decide), .inl (by decide), .inl (by decide), .inl (by decide), by simp⟩)
    unfold Dev.nodeBit
    rw [hf, hm]
    rfl
  have he' : e = if masters ≠ k.nodeBit then k.masterConflict else k.setTet { k.tet with conflict := false } := by
    rw [he, hk, hm, hmas, hok, hex, hlock, hmem]
    simp only [Bool.decide_and]
    rfl
  have hmt : m.tet = d.tet.returned ws ok d.nodeBit := by
    rw [hm]
    rfl
  have hgov : m.tet.govOk = n := by
    rw [hmt, hn]
    rfl
  have hmf : m.f F.TET_STATUS.FORMED = d.f F.TET_STATUS.FORMED := by
    rw [hm]
    rfl
  rw [hgov, hmf] at h3
  rw [hnode] at he'
  by_cases hc : masters = 2 ^ d.f F.TET_CFG.NODE
  case pos =>
    rw [if_neg (not_not_intro hc)] at he'
    have hket : e.tet = { k.tet with conflict := false } := by
      rw [he']
      rfl
    have hf : ∀ y, e.f y = k.f y := fun y => by
      rw [he']
      rfl
    refine ⟨(hf _).trans h1, fun h => (hf _).trans (h2 h), (hf _).trans h3, fun h => absurd hc h, ?_, ?_⟩
    · rw [hket, htet, hmt, hn, hhold, decide_eq_false (not_not_intro hc)]
      rfl
    · have hke : e = { k with tet := e.tet } := by
        rw [hket, he']
        rfl
      have hem : e.moves = d.moves := by
        rw [he']
        exact (congrArg Dev.moves ho.1).trans (by rw [hm]; rfl)
      have hdm : ({ d with tet := e.tet, moves := e.moves } : Dev) = { m with tet := e.tet } := by
        rw [hem, hm]
        rfl
      rw [hdm]
      have h := ho.withTet e.tet
      rwa [← hke] at h
  case neg =>
    rw [if_pos hc] at he'
    obtain ⟨g1, g2, g3, g4⟩ := k.masterConflict_spec he'
    refine ⟨(g3 _ _ (by decide)).trans h1, fun h => (g3 _ _ (by decide)).trans (h2 h), (g3 _ _ (by decide)).trans h3, fun _ => g1, ?_, ?_⟩
    · rw [g2, htet, hmt, hn, hhold, decide_eq_true hc]
      rfl
    · have hkm : ({ d with tet := e.tet, moves := e.moves } : Dev) = { { m with tet := e.tet } with moves := e.moves } := by
        rw [hm]
        rfl
      rw [hkm]
      exact ((ho.withTet e.tet).withMoves e.moves).trans g4

/-- Another feed master's GOVERNOR frame (R34, R422, R439). -/
theorem Dev.gotGovernor_spec {d : Dev} (hfm : d.f F.TET_CFG.FEED_MASTER = 0) {ws : List Nat} {e : Dev} (he : e = d.gotGovernor ws) :
    e.f F.TET_STATUS.FORMED = bitsOf (ws.getD 2 0) 17 17 ∧
    e.tet = { d.tet with feedMaster := some (frameSrc ws), masterLost := false, masterPeriod := some (bitsOf (ws.getD 6 0) 13 0) } ∧
    (bitsOf (ws.getD 6 0) 13 0 ≠ d.servoPeriod → e.f F.TET_STATUS.PERIOD_MISMATCH = 1) ∧
    { d with tet := e.tet }.Only e [F.TET_STATUS.FORMED, F.TET_STATUS.PERIOD_MISMATCH, intBit 14] := by
  obtain ⟨m, hm⟩ : ∃ m : Dev, m = d.setTet { d.tet with
    feedMaster := some (frameSrc ws), masterLost := false, masterPeriod := some (bitsOf (ws.getD 6 0) 13 0) } := ⟨_, rfl⟩
  obtain ⟨n, hn⟩ : ∃ n : Dev, n = m.setB F.TET_STATUS.FORMED (bitOf (ws.getD 2 0) 17) := ⟨_, rfl⟩
  have hper : n.servoPeriod = d.servoPeriod := by
    unfold Dev.servoPeriod
    rw [hn, Dev.setB, Dev.setF_servoT, hm]
    rfl
  obtain ⟨k, hk⟩ : ∃ k : Dev, k = n.flagIf (decide (bitsOf (ws.getD 6 0) 13 0 ≠ d.servoPeriod)) F.TET_STATUS.PERIOD_MISMATCH := ⟨_, rfl⟩
  have hoff : k.on F.TET_CFG.FEED_MASTER = false := by
    have h1 : n.f F.TET_CFG.FEED_MASTER = m.f F.TET_CFG.FEED_MASTER := hn ▸ Dev.f_setF_ne _ _ _ _ (by decide)
    have h2 : m.f F.TET_CFG.FEED_MASTER = 0 := by
      rw [hm]
      exact hfm
    refine Dev.on_zero ?_
    rw [hk, Dev.flagIf]
    split
    · exact (Dev.f_flag_other _ _ _ _ _ (by decide) (by decide)).trans (h1.trans h2)
    · exact h1.trans h2
  have he' : e = k := by
    rw [he]
    unfold Dev.gotGovernor
    dsimp only
    rw [← hm, ← hn, hper, ← hk, hoff]
    rfl
  have hnt : n.tet = m.tet := by rw [hn, Dev.setB, Dev.setF_tet]
  have hkt : k.tet = m.tet := by rw [hk, Dev.flagIf_tet, hnt]
  have hmt : m.tet = { d.tet with feedMaster := some (frameSrc ws), masterLost := false, masterPeriod := some (bitsOf (ws.getD 6 0) 13 0) } := by
    rw [hm]
    rfl
  have hbit : n.f F.TET_STATUS.FORMED = bitsOf (ws.getD 2 0) 17 17 := by
    rw [hn]
    refine (Dev.f_same _ _ _ _ _ (by decide) (by decide)).trans ?_
    have hlt : bitsOf (ws.getD 2 0) 17 17 < 2 := bitsOf_lt _ 17 17
    rw [bitOf_bitsOf]
    by_cases h : bitsOf (ws.getD 2 0) 17 17 = 1
    · rw [h]
      rfl
    · have h0 : bitsOf (ws.getD 2 0) 17 17 = 0 := by omega
      rw [h0]
      rfl
  have hint : (intBit (intBitOf R.TET_STATUS)).within [F.TET_STATUS.FORMED, F.TET_STATUS.PERIOD_MISMATCH, intBit 14] :=
    ⟨by decide, by decide, intBit 14, by simp, rfl, by decide, by decide⟩
  have ho : m.Only k [F.TET_STATUS.FORMED, F.TET_STATUS.PERIOD_MISMATCH, intBit 14] := by
    rw [hk, hn]
    exact ((Dev.Only.refl _ _).setB F.TET_STATUS.FORMED _ (by simp [Fld.within])).flagIf _ F.TET_STATUS.PERIOD_MISMATCH (by simp [Fld.within]) hint
  rw [he']
  refine ⟨?_, hkt.trans hmt, fun h => ?_, ?_⟩
  · rw [hk, Dev.flagIf]
    split
    · exact (Dev.f_flag_apart n F.TET_STATUS.PERIOD_MISMATCH F.TET_STATUS.FORMED rfl (by decide) rfl (by decide) (by decide)).trans hbit
    · exact hbit
  · rw [hk, decide_eq_true h, Dev.flagIf, if_pos rfl]
    exact Dev.f_flag_same _ _ _ (by decide) (by decide)
  · have hmd : ({ d with tet := k.tet } : Dev) = m := by
      rw [hkt, hm]
      rfl
    rw [hmd]
    exact ho

/-! ## SYNC and FOLLOW (R435, R436) -/

/-- A timing master that hears a better node ceases to be one. -/
theorem Dev.setTimingMaster_off {d : Dev} {e : Dev} (he : e = d.setTimingMaster false) :
    e.f F.TET_STATUS.TIMING_MASTER = 0 ∧ e.tet = d.tet ∧ e.baseVal 1 = d.baseVal 1 ∧
    { d with time := e.time }.Only e [F.TET_STATUS.MASTER_NODE, F.TET_STATUS.TIMING_MASTER, F.TIM_BASE_CTRL.STATE 1] := by
  obtain ⟨m, hm⟩ : ∃ m, m = d.setB F.TET_STATUS.TIMING_MASTER false := ⟨_, rfl⟩
  have h0 : m.f F.TET_STATUS.TIMING_MASTER = 0 := by
    rw [hm]
    exact (Dev.f_same _ _ _ _ _ (by decide) (by decide)).trans (Nat.zero_mod _)
  have hfree : m.netFree = false := by
    unfold Dev.netFree Dev.timingMaster
    rw [Dev.on_zero h0]
    rfl
  have htet : m.tet = d.tet := by rw [hm, Dev.setB, Dev.setF_tet]
  have htime : m.time = d.time := by rw [hm, Dev.setB, Dev.setF_time]
  have ho : d.Only m [F.TET_STATUS.MASTER_NODE, F.TET_STATUS.TIMING_MASTER, F.TIM_BASE_CTRL.STATE 1] :=
    hm ▸ (Dev.Only.refl _ _).setB F.TET_STATUS.TIMING_MASTER _ (by simp [Fld.within])
  obtain ⟨n, hn⟩ : ∃ n, n = m.setDisc 1 { m.time.net with good := 0 } := ⟨_, rfl⟩
  obtain ⟨v, hv⟩ : ∃ v, v = if m.on (F.TIM_BASE_CTRL.STEP_ARMED 1) then 0 else 1 := ⟨_, rfl⟩
  have he' : e = if d.netFree then n.setF (F.TIM_BASE_CTRL.STATE 1) v else m := by
    rw [he, Dev.setTimingMaster]
    rw [← hm, Dev.netRole, if_neg (by rw [hfree]; decide), ← hn]
    rw [← hv]
  rw [he']
  split
  · have hnt : n = { m with time := n.time } := by
      rw [hn]
      rfl
    have hnb : n.time.net.count = d.time.net.count := by
      rw [← htime, hn]
      rfl
    refine ⟨?_, ?_, ?_, ?_⟩
    · refine (Dev.f_setF_ne _ _ _ _ (by decide)).trans ?_
      rw [hn, Dev.setDisc_f]
      exact h0
    · rw [Dev.setF_tet, hnt]
      exact htet
    · unfold Dev.baseVal
      rw [if_neg (by decide), if_pos rfl, if_neg (by decide), if_pos rfl, Dev.setF_time, hnb]
    · rw [Dev.setF_time]
      have h := ho.withTime n.time d.slots
      have hnm : ({ m with time := n.time, slots := d.slots } : Dev) = n := by
        have hs : m.slots = d.slots := by rw [hm, Dev.setB, Dev.setF_slots]
        rw [hnt, ← hs]
      rw [hnm] at h
      exact h.setF (F.TIM_BASE_CTRL.STATE 1) _ (by simp [Fld.within])
  · refine ⟨h0, htet, ?_, ?_⟩
    · unfold Dev.baseVal
      rw [if_neg (by decide), if_pos rfl, if_neg (by decide), if_pos rfl, htime]
    · rw [htime]
      exact ho

/-- A SYNC with its arrival kept. -/
def Tether.synced (t : Tether) (seq p r s : Nat) : Tether := { t with syncSeq := seq, syncPort := p, syncRecv := r, syncSent := s }

/-- Does a SYNC of a node (pr, id) leave the election as it is? -/
def Dev.syncIgnored (d : Dev) (pr id : Nat) : Bool :=
  (decide (d.priority ≠ 0) && !nodeBetter pr id d.priority d.identity) || (nodeBetter d.tet.bestPriority d.tet.bestId pr id && !d.timingMaster)

theorem Dev.gotSync_eq (d : Dev) (p : Nat) (ws : List Nat) (fwd : Nat) {m n : Dev}
    (hm : m = d.setTet (d.tet.synced (frameSeq ws) p (d.baseVal 1) ((d.baseVal 1 + fwd) % 2 ^ 64)))
    (hn : n = m.setTet { m.tet with bestPriority := bitsOf (ws.getD 4 0) 31 24, bestId := word64 ws 2 }) :
    d.gotSync p ws fwd = if d.syncIgnored (bitsOf (ws.getD 4 0) 31 24) (word64 ws 2) then m
      else (if n.timingMaster then n.setTimingMaster false else n).setF F.TET_STATUS.MASTER_NODE (frameSrc ws) := by
  subst hn hm
  rfl

/-- What a SYNC keeps of its arrival. -/
theorem Dev.gotSync_kept {d e : Dev} {p : Nat} {ws : List Nat} {fwd : Nat} (he : e = d.gotSync p ws fwd) :
    (d.syncIgnored (bitsOf (ws.getD 4 0) 31 24) (word64 ws 2) = true → e = { d with tet := e.tet }) ∧
    e.tet.syncSeq = frameSeq ws ∧ e.tet.syncPort = p ∧ e.tet.syncRecv = d.baseVal 1 ∧
    (d.syncIgnored (bitsOf (ws.getD 4 0) 31 24) (word64 ws 2) = false →
      e.f F.TET_STATUS.MASTER_NODE = frameSrc ws ∧ e.f F.TET_STATUS.TIMING_MASTER = 0 ∧ e.tet.bestPriority = bitsOf (ws.getD 4 0) 31 24 ∧
      e.tet.bestId = word64 ws 2 ∧ e.baseVal 1 = d.baseVal 1 ∧
      { d with tet := e.tet, time := e.time }.Only e [F.TET_STATUS.MASTER_NODE, F.TET_STATUS.TIMING_MASTER, F.TIM_BASE_CTRL.STATE 1]) := by
  obtain ⟨m, hm⟩ : ∃ m, m = d.setTet (d.tet.synced (frameSeq ws) p (d.baseVal 1) ((d.baseVal 1 + fwd) % 2 ^ 64)) := ⟨_, rfl⟩
  obtain ⟨n, hn⟩ : ∃ n, n = m.setTet { m.tet with bestPriority := bitsOf (ws.getD 4 0) 31 24, bestId := word64 ws 2 } := ⟨_, rfl⟩
  obtain ⟨k, hk⟩ : ∃ k, k = if n.timingMaster then n.setTimingMaster false else n := ⟨_, rfl⟩
  rw [d.gotSync_eq p ws fwd hm hn, ← hk] at he
  have hnd : n = { d with tet := n.tet } := by
    rw [hn, hm]
    rfl
  have hkt : k.tet = n.tet ∧ k.f F.TET_STATUS.TIMING_MASTER = 0 ∧ k.baseVal 1 = n.baseVal 1 ∧
      { n with time := k.time }.Only k [F.TET_STATUS.MASTER_NODE, F.TET_STATUS.TIMING_MASTER, F.TIM_BASE_CTRL.STATE 1] := by
    rw [hk]
    split
    · obtain ⟨h0, h1, h2, h3⟩ := Dev.setTimingMaster_off (d := n) rfl
      exact ⟨h1, h0, h2, h3⟩
    next h =>
      refine ⟨rfl, ?_, rfl, .refl _ _⟩
      by_contra h1
      exact h (decide_eq_true h1)
  cases hi : d.syncIgnored (bitsOf (ws.getD 4 0) 31 24) (word64 ws 2) with
  | true =>
    rw [hi, if_pos rfl] at he
    subst he
    refine ⟨fun _ => ?_, ?_, ?_, ?_, fun h => nomatch h⟩
    all_goals
      rw [hm]
      rfl
  | false =>
    rw [hi, if_neg (by decide)] at he
    have het : e.tet = n.tet := by rw [he, Dev.setF_tet, hkt.1]
    have hnt : n.tet = { d.tet.synced (frameSeq ws) p (d.baseVal 1) ((d.baseVal 1 + fwd) % 2 ^ 64) with
        bestPriority := bitsOf (ws.getD 4 0) 31 24, bestId := word64 ws 2 } := by
      rw [hn, hm]
      rfl
    have hetime : e.time = k.time := by rw [he, Dev.setF_time]
    rw [het, hnt]
    refine ⟨(fun h => nomatch h), rfl, rfl, rfl, fun _ => ⟨?_, ?_, rfl, rfl, ?_, ?_⟩⟩
    · rw [he]
      exact (Dev.f_same _ _ _ _ _ (by decide) (by decide)).trans (Nat.mod_eq_of_lt (bitsOf_lt _ 27 24))
    · rw [he]
      exact (Dev.f_apart _ _ _ _ _ _ _ (by decide) (by decide) (by decide)).trans hkt.2.1
    · have h1 : e.baseVal 1 = k.baseVal 1 := by
        unfold Dev.baseVal
        rw [if_neg (by decide), if_pos rfl, if_neg (by decide), if_pos rfl, hetime]
      rw [h1, hkt.2.2.1, hnd]
      rfl
    · have hdn : ({ d with tet := n.tet, time := e.time } : Dev) = { n with time := k.time } := by
        rw [hetime, hnd]
      rw [← hnt, hdn, he]
      exact hkt.2.2.2.setF F.TET_STATUS.MASTER_NODE _ (by simp [Fld.within])

/-! ### FOLLOW -/

theorem Dev.stepSlots_setTet (d : Dev) (t : Tether) (b : Nat) : (d.setTet t).stepSlots b = (d.stepSlots b).setTet t := rfl

theorem Dev.setDisc_setTet (d : Dev) (t : Tether) (b : Nat) (x : Base) : (d.setTet t).setDisc b x = (d.setDisc b x).setTet t := by
  unfold Dev.setDisc
  split
  · rfl
  · rfl

theorem Dev.setF_setTet (d : Dev) (t : Tether) (x : Fld) (v : Nat) : (d.setTet t).setF x v = (d.setF x v).setTet t := rfl

theorem Dev.setFI_setTet (d : Dev) (t : Tether) (x : Fld) (v : Int) : (d.setTet t).setFI x v = (d.setFI x v).setTet t := rfl

theorem Dev.f_setTet (d : Dev) (t : Tether) (x : Fld) : (d.setTet t).f x = d.f x := rfl

/-- A measurement does not look at Tether. -/
theorem Dev.measureBase_setTet (d : Dev) (t : Tether) (b : Nat) (theta : Int) : (d.setTet t).measureBase b theta = (d.measureBase b theta).setTet t := by
  by_cases ha : d.f (F.TIM_BASE_CTRL.STEP_ARMED b) = 1
  case pos =>
    rw [Dev.measureBase_steps (d := d.setTet t) theta ha rfl, Dev.measureBase_steps theta ha rfl, Dev.setFI_setTet, Dev.setDisc_setTet,
      Dev.setF_setTet, Dev.setF_setTet, Dev.stepSlots_setTet]
    rfl
  case neg =>
    have h0 : d.f (F.TIM_BASE_CTRL.STEP_ARMED b) = 0 := by
      have hlt : d.f (F.TIM_BASE_CTRL.STEP_ARMED b) < 2 := bitsOf_lt _ 30 30
      omega
    rw [Dev.measureBase_steers (d := d.setTet t) theta h0 rfl rfl rfl, Dev.measureBase_steers theta h0 rfl rfl rfl, Dev.setFI_setTet, Dev.setDisc_setTet,
      Dev.setF_setTet]
    rfl

theorem signed_unsigned_toInt (x : Int) : signed 64 (unsigned 64 x) = (BitVec.ofInt 64 x).toInt := by
  rw [BitVec.toInt_ofInt, Int.bmod_def]
  unfold signed unsigned
  norm_num
  split
  · split
    · omega
    · omega
  · split
    · omega
    · omega


/-- A FOLLOW of the node's timing master measures NET (R435). -/
theorem Dev.gotFollow_measures {d : Dev} (hm : d.f F.TET_STATUS.TIMING_MASTER = 0) {ws : List Nat} (hseq : frameSeq ws = d.tet.syncSeq)
    (hsrc : frameSrc ws = d.f F.TET_STATUS.MASTER_NODE) {theta : BitVec 64}
    (ht : theta = BitVec.ofInt 64 ((ws.getD 2 0 + ws.getD 3 0 * 2 ^ 32 : Nat) + signed 64 (ws.getD 4 0 + ws.getD 5 0 * 2 ^ 32) +
      d.dIn d.tet.syncPort - d.tet.syncRecv)) : d.gotFollow ws = d.measureBase 1 theta.toInt := by
  rw [ht, ← signed_unsigned_toInt, Dev.gotFollow, if_neg (by simp [Dev.timingMaster, Dev.on_zero hm, hseq, hsrc])]
  rfl

/-! ## REF_EDGE (R440) -/

theorem Dev.reschedule_axes (d : Dev) : d.reschedule.axes = d.axes := by
  unfold Dev.reschedule
  split
  · simp only [Dev.setReg_axes, Dev.setF_axes]
  · extract_lets ts tl m e l byLead
    have hm : m.axes = d.axes := by simp only [m, Dev.setF_axes]
    clear_value m
    split
    · simp only [Dev.setB, Dev.setF_axes, hm]
    · simp only [Dev.setReg_axes, hm]

theorem Dev.setMeas_axes (d : Dev) (ms : List SurMeas) : (d.setMeas ms).axes = d.axes :=
  (Dev.setSurveyUse_beside _ _).axes.trans (Dev.setF_axes _ _ _)

theorem Dev.surveyDisarm_axes (d : Dev) : d.surveyDisarm.axes = d.axes := by
  have h : ∀ (e : Dev) n, ((e.setF F.SUR_STATUS.ACTIVE 0).count F.SUR_COUNT.DROP_COUNT n).axes = e.axes := fun e n => by
    rw [Dev.count, Dev.setF_axes, Dev.setF_axes]
  unfold Dev.surveyDisarm
  exact (h _ _).trans (Dev.setMeas_axes _ _)

theorem Dev.foldl_axes {α : Type} {f : Dev → α → Dev} (hf : ∀ (d : Dev) x, (f d x).axes = d.axes) (l : List α) (d : Dev) : (l.foldl f d).axes = d.axes := by
  induction l generalizing d with
  | nil => rfl
  | cons x xs ih => exact (ih _).trans (hf d x)

theorem Dev.haulEvent_axes (d : Dev) (n : Nat) : (d.haulEvent n).axes = d.axes := by
  unfold Dev.haulEvent
  split
  · rfl
  · rfl

theorem Dev.refreshLock_axes (d : Dev) : d.refreshLock.axes = d.axes := Dev.setF_axes _ _ _

theorem Dev.swap_axes (d : Dev) : d.swap.axes = d.axes := by
  obtain ⟨m, hm⟩ : ∃ m, m = (d.setF F.SHD_CTRL.ACTIVE_SET d.shadowSet).flag F.SHD_STATUS.SWAPPED := ⟨_, rfl⟩
  have hma : m.axes = d.axes := by rw [hm, Dev.flag_axes, Dev.setF_axes]
  rw [Dev.swap_eq hm rfl, Dev.haulEvent_axes, Dev.refreshLock_axes]
  exact hma

theorem Dev.offerShadow_axes (d : Dev) : d.offerShadow.axes = d.axes := by
  unfold Dev.offerShadow
  split
  · rfl
  · split
    · rfl
    · exact d.swap_axes

theorem Dev.disarm_eq {d d1 d2 d3 d4 d5 : Dev} {cause : Nat} (h : d.armed = true)
    (h1 : d1 = (d.setF F.LTN_GRID_CTRL.ARMED 0).setF F.LTN_STATUS.DISARM_CAUSE cause)
    (h2 : d2 = ((d1.flag F.LTN_STATUS.GRID_DISARMED).reschedule.surveyDisarm).clearDark) (h3 : d3 = { d2 with shd := { d2.shd with track := [] } })
    (h4 : d4 = (List.range 8).foldl (fun d g => d.rbRestart g) d3) (h5 : d5 = (d4.reconFallback false none).reconFallback true none) :
    d.disarm cause = if d5.shd.swapSoon then { d5 with shd := { d5.shd with swapSoon := false } }.offerShadow else d5 := by
  subst h5 h4 h3 h2 h1
  exact if_neg (by simp [h])

theorem Dev.disarm_axes (d : Dev) (cause : Nat) : (d.disarm cause).axes = d.axes := by
  cases h : d.armed with
  | false => rw [Dev.disarm, if_pos (by simp [h])]
  | true =>
    obtain ⟨d1, hd1⟩ : ∃ k, k = (d.setF F.LTN_GRID_CTRL.ARMED 0).setF F.LTN_STATUS.DISARM_CAUSE cause := ⟨_, rfl⟩
    obtain ⟨d2, hd2⟩ : ∃ k, k = ((d1.flag F.LTN_STATUS.GRID_DISARMED).reschedule.surveyDisarm).clearDark := ⟨_, rfl⟩
    obtain ⟨d3, hd3⟩ : ∃ k : Dev, k = { d2 with shd := { d2.shd with track := [] } } := ⟨_, rfl⟩
    obtain ⟨d4, hd4⟩ : ∃ k : Dev, k = (List.range 8).foldl (fun d g => d.rbRestart g) d3 := ⟨_, rfl⟩
    obtain ⟨d5, hd5⟩ : ∃ k : Dev, k = (d4.reconFallback false none).reconFallback true none := ⟨_, rfl⟩
    have h1 : d1.axes = d.axes := by rw [hd1, Dev.setF_axes, Dev.setF_axes]
    have h2 : d2.axes = d.axes := by
      rw [hd2, (Dev.clearDark_motionOut _).1, Dev.surveyDisarm_axes, Dev.reschedule_axes, Dev.flag_axes, h1]
    have h4 : d4.axes = d.axes := by
      rw [hd4, Dev.foldl_axes (f := fun (e : Dev) g => e.rbRestart g) (fun _ _ => rfl), hd3]
      exact h2
    have h5 : d5.axes = d.axes := by
      rw [hd5]
      exact h4
    rw [Dev.disarm_eq h hd1 hd2 hd3 hd4 hd5]
    split
    · exact (Dev.offerShadow_axes _).trans h5
    · exact h5

theorem Dev.setAngleZero_axes (d : Dev) (x : Int) : (d.setAngleZero x).axes = d.axes := by
  rw [Dev.setAngleZero, Dev.set64, Dev.setReg_axes, Dev.setReg_axes]

theorem Dev.flowShift_axes (d : Dev) (delta : Int) : (d.flowShift delta).axes = d.axes := by
  unfold Dev.flowShift
  extract_lets d1 t d2
  have h1 : d1.axes = d.axes := Dev.setAngleZero_axes _ _
  have h2 : d2.axes = d.axes := h1
  clear_value d1 d2
  refine (Dev.foldl_axes (fun e n => ?_) _ _).trans h2
  extract_lets a
  rw [Dev.setMem_eq, Dev.setMem_eq]

theorem Dev.strataFrame_axes (d : Dev) : d.strataFrame.axes = d.axes := by
  unfold Dev.strataFrame
  extract_lets held e
  exact (Dev.flagIf_axes _ _ _).trans (d.strataDiscard_spec 2 rfl).1

/-- A redefinition of the FEED position moves its set-point by the same ticks (R362). -/
theorem Dev.redefine_feed (d : Dev) (delta : Int) : ((d.redefine 0 delta).ax 0).x = (d.ax 0).x + delta * 2 ^ 32 := by
  have hax : (d.redefine 0 delta).axes = (d.setAx 0 { d.ax 0 with x := (d.ax 0).x + delta * 2 ^ 32, eofs := (d.ax 0).eofs - delta }).axes := by
    unfold Dev.redefine
    extract_lets x p e
    rw [if_neg (by decide), Dev.strataFrame_axes, Dev.flowShift_axes, Dev.disarm_axes]
    rfl
  rw [Dev.ax_axes hax, Dev.ax_setAx, if_pos rfl]

/-! ## Deliveries -/

theorem b2n_bitOf (w i : Nat) : b2n (bitOf w i) = bitsOf w i i := by
  have hlt : bitsOf w i i < 2 := (bitsOf_lt w i i).trans_le (by rw [Nat.add_sub_cancel_left]; decide)
  rw [bitOf_bitsOf]
  by_cases h : bitsOf w i i = 1
  · rw [h]
    rfl
  · rw [decide_eq_false h]
    show 0 = _
    omega

theorem Dev.deliver_sync (d : Dev) {p : Nat} {ws : List Nat} {fwd : Nat} (h : frameType ws = 1) : d.deliverFrame p ws fwd = d.gotSync p ws fwd := by
  rw [Dev.deliverFrame, h]
  rfl

theorem Dev.deliver_follow (d : Dev) {p : Nat} {ws : List Nat} {fwd : Nat} (h : frameType ws = 2) : d.deliverFrame p ws fwd = d.gotFollow ws := by
  rw [Dev.deliverFrame, h]
  rfl

/-- A frame of the node's own station (R438). -/
theorem Dev.deliver_station {d : Dev} {p : Nat} {ws : List Nat} {fwd : Nat} (h : frameType ws = 5) (hin : d.inStation = true)
    (hst : bitsOf (ws.headD 0) 19 19 = d.f F.TET_CFG.STATION) : d.deliverFrame p ws fwd =
      if bitsOf (ws.headD 0) 7 0 = 1 then d.gotGovernor ws else if bitsOf (ws.headD 0) 7 0 = 2 then d.gotRefEdge ws else d := by
  rw [Dev.deliverFrame, h]
  exact if_neg (by rw [hin, b2n_bitOf, hst]; simp)

theorem Dev.gotRefEdge_at {d : Dev} {ws : List Nat} (hin : d.inStation = true) (hfm : d.f F.TET_CFG.FEED_MASTER = 0) {t : Nat} (ht : d.tet.latchTime = some t) :
    d.gotRefEdge ws = if (thetaOf t (word64 ws 4)).natAbs ≤ 4294967 then d.redefine 0 (signed 64 (word64 ws 2) - d.tet.latchPos)
      else d.flag F.TET_STATUS.REF_MISMATCH := by
  rw [Dev.gotRefEdge, if_neg (by simp [Dev.follower, Dev.feedMaster, hin, Dev.on_zero hfm]), ht]

/-! ## Own frames and others -/

section
variable {d : Dev} {p fwd : Nat} {ws : List Nat} {key : Seen} (haw : d.alive = true) (hen : d.f F.TET_CFG.EN = 1) (hok : frameOk ws = true)
  (h3 : frameType ws ≠ 3) (h4 : frameType ws ≠ 4) (hkey : key = ⟨frameSrc ws, frameType ws, frameSeq ws⟩)
include haw hen hok h3 h4 hkey

theorem Dev.ownFrame_unsent (hsrc : frameSrc ws = d.f F.TET_CFG.NODE) (hs : key ∉ d.tet.sent) :
    d.frameReceived p ws fwd = (d.noted key).flag F.TET_STATUS.DUP_NODE := by
  rw [Dev.frameReceived_own haw hen hok h3 h4 hsrc hkey rfl, if_pos]
  rw [Dev.noted_eq]
  simp [hs]

theorem Dev.ownFrame_returned (hsrc : frameSrc ws = d.f F.TET_CFG.NODE) (hs : key ∈ d.tet.sent) : d.frameReceived p ws fwd =
    if bitOf (ws.headD 0) 18 && !d.tet.seen.contains key then (d.noted key).forward p ws
    else if frameType ws = 5 ∧ bitsOf (ws.headD 0) 7 0 = 1 ∧ d.inStation = true ∧ d.on F.TET_CFG.FEED_MASTER = true then (d.noted key).govReturned ws
    else d.noted key := by
  rw [Dev.frameReceived_own haw hen hok h3 h4 hsrc hkey rfl, if_neg]
  · rw [Dev.noted_eq]
    rfl
  · rw [Dev.noted_eq]
    simp [hs]

theorem Dev.otherFrame_again (hsrc : frameSrc ws ≠ d.f F.TET_CFG.NODE) (hs : key ∈ d.tet.seen) (h1 : frameType ws ≠ 1) :
    d.frameReceived p ws fwd = d.forward p ws := by
  have hc : d.tet.seen.contains key = true := List.contains_iff_mem.2 hs
  have hn : d.noted key = d := by
    rw [Dev.noted, hc]
    rfl
  rw [Dev.frameReceived_other haw hen hok h3 h4 hsrc hkey rfl, hn, hc, Dev.heard, if_neg (by decide), if_neg h1]

theorem Dev.otherFrame_first (hsrc : frameSrc ws ≠ d.f F.TET_CFG.NODE) (hs : key ∉ d.tet.seen) :
    d.frameReceived p ws fwd = ((d.noted key).deliverFrame p ws fwd).forward p ws := by
  rw [Dev.frameReceived_other haw hen hok h3 h4 hsrc hkey rfl, Dev.heard, if_pos (by simp [hs])]

end

theorem Dev.syncIgnored_iff (d : Dev) (pr id : Nat) : d.syncIgnored pr id = true ↔
    (0 < d.f F.TET_CFG.PRIORITY ∧ nodeBetter pr id (d.f F.TET_CFG.PRIORITY) d.identity = false) ∨
    (d.f F.TET_STATUS.TIMING_MASTER = 0 ∧ nodeBetter d.tet.bestPriority d.tet.bestId pr id = true) := by
  unfold Dev.syncIgnored Dev.timingMaster Dev.on Dev.priority
  simp only [Bool.or_eq_true, Bool.and_eq_true, decide_eq_true_iff, Bool.not_eq_true', decide_eq_false_iff_not, not_not, Nat.pos_iff_ne_zero]
  rw [and_comm (a := nodeBetter d.tet.bestPriority d.tet.bestId pr id = true)]

/-! ## The statement -/

/-- An answer to a delay request, and the frames that are discarded (R431, R434). -/
theorem frames_meet (s : State) (west : Bool) (words : List Word) (fwd : Nat) {p : Nat} {ws : List Nat} (hp : p = b2n west)
    (hws : ws = words.map (fun w => w.toNat)) (haw : s.dev.alive = true) (hen : s.dev.f F.TET_CFG.EN = 1) :
    (frameOk ws = false → s.Does (.tetherFrameReceived west words fwd) (fun e =>
      e.f F.TET_COUNT.CRC_CNT = min (s.dev.f F.TET_COUNT.CRC_CNT + 1) 65535 ∧ s.dev.Only e [F.TET_COUNT.CRC_CNT])) ∧
    (frameOk ws = true → frameType ws = 3 → s.Does (.tetherFrameReceived west words fwd) (fun e => e = { s.dev with
      out := s.dev.out ++ [.frame p (s.dev.makeFrame 4 0 0 (frameSeq ws) [fwd % 2 ^ 32, fwd / 2 ^ 32 % 2 ^ 32, p * 16 + s.dev.f F.TET_CFG.NODE])] })) ∧
    (frameOk ws = true → frameType ws = 4 → s.Does (.tetherFrameReceived west words fwd) (fun e => e = s.dev.pdResp p ws)) := by
  have hneg : ¬ ((!s.dev.alive || !s.dev.on F.TET_CFG.EN) = true) := by simp [haw, Dev.on_one hen]
  refine ⟨fun hok => ?_, fun hok h => ?_, fun hok h => ?_⟩
  · refine State.does (f := (·.frameReceived (b2n west) (words.map (fun w => w.toNat)) fwd)) rfl ?_
    rw [← hws, Dev.frameReceived, if_neg hneg, if_pos (by simp [hok])]
    exact ⟨Dev.f_count_self _ _ _ (by decide) (by decide), (Dev.Only.refl _ _).count F.TET_COUNT.CRC_CNT 1 (by simp [Fld.within])⟩
  · refine State.does (f := (·.frameReceived (b2n west) (words.map (fun w => w.toNat)) fwd)) rfl ?_
    rw [← hws, ← hp, Dev.frameReceived, if_neg hneg, if_neg (by simp [hok])]
    dsimp only
    rw [if_pos h]
    rfl
  · refine State.does (f := (·.frameReceived (b2n west) (words.map (fun w => w.toNat)) fwd)) rfl ?_
    rw [← hws, ← hp, Dev.frameReceived, if_neg hneg, if_neg (by simp [hok])]
    dsimp only
    rw [if_neg (by omega), if_pos h]

/-- Settles O51. -/
theorem tetherFrames : Obligations.TetherFrames := by
  intro s west words fwd p ws typ src seq key seen hp hws htyp hsrc hseq hkey hseen
  have hpw : p = b2n west := hp
  have hp2 : p < 2 := by
    rw [hp]
    split
    · decide
    · decide
  have hdoes : ∀ {Q : Dev → Prop}, Q (s.dev.frameReceived p ws fwd) → s.Does (.tetherFrameReceived west words fwd) Q := fun h =>
    State.does (f := (·.frameReceived (b2n west) (words.map (fun w => w.toNat)) fwd)) rfl (by rw [← hws, ← hpw]; exact h)
  have hign : s.dev.frameReceived p ws fwd = s.dev → s.Ignores (.tetherFrameReceived west words fwd) := fun h =>
    State.ignores (f := (·.frameReceived (b2n west) (words.map (fun w => w.toNat)) fwd)) rfl (by rw [← hws, ← hpw]; exact h)
  have hnoted : s.dev.noted key = { s.dev with tet := { s.dev.tet with seen := seen } } := by
    rw [Dev.noted_eq, hseen]
    rfl
  have hkey' : key = ⟨frameSrc ws, frameType ws, frameSeq ws⟩ := by
    rw [hkey, hsrc, htyp, hseq]
    rfl
  have htyp' : frameType ws = typ := htyp.symm
  have hsrc' : frameSrc ws = src := hsrc.symm
  have hseq' : frameSeq ws = seq := hseq.symm
  have hint : ∀ {l : List Fld}, intBit 14 ∈ l → (intBit (intBitOf R.TET_STATUS)).within l := fun h =>
    ⟨by decide, by decide, intBit 14, h, rfl, by decide, by decide⟩
  refine ⟨fun h => hign (if_pos ?_), fun haw hen => ?_⟩
  · rcases h with h | h
    · simp [h]
    · simp [Dev.on_zero h]
  obtain ⟨hbad, hreq, hresp⟩ := frames_meet s west words fwd hpw hws haw hen
  refine ⟨hbad, fun hok => ⟨fun h => ?_, fun h ht => ?_, fun h t1 din l hlen ht1 hdin hl => ?_, fun h3 h4 hown => ?_, fun h3 h4 hother => ?_⟩⟩
  · rw [← hseq']
    exact hreq hok (htyp'.trans h)
  · refine hign ?_
    rw [Dev.frameReceived, if_neg (by simp [haw, Dev.on_one hen]), if_neg (by simp [hok])]
    dsimp only
    rw [if_neg (by omega), if_pos (htyp'.trans h), Dev.pdResp, ht]
  · obtain ⟨e, he, hpend, hq⟩ := hresp hok (htyp'.trans h)
    exact ⟨e, he, hpend, Dev.pdResp_spec hp2 hlen ht1 hdin hl hq⟩
  · have h3' : frameType ws ≠ 3 := htyp' ▸ h3
    have h4' : frameType ws ≠ 4 := htyp' ▸ h4
    have hown' : frameSrc ws = s.dev.f F.TET_CFG.NODE := hsrc'.trans hown
    refine ⟨fun hs => hdoes ?_, fun hs hb hc => hdoes ?_, fun hs hb hns hcar => hdoes ?_, fun hs hb h5 h1 hin hfm members locked masters holds ex ok n hmem hmas
      hlock hhold hex hok' hn => hdoes ?_⟩
    · rw [Dev.ownFrame_unsent haw hen hok h3' h4' hkey' hown' hs, hnoted]
      exact ⟨Dev.f_flag_same _ _ _ (by decide) (by decide), (Dev.Only.refl _ _).flag F.TET_STATUS.DUP_NODE (by simp [Fld.within]) (hint (by simp))⟩
    · rw [Dev.ownFrame_returned haw hen hok h3' h4' hkey' hown' hs, if_neg (by rw [hb, Bool.false_and]; decide), if_neg, hnoted]
      rintro ⟨h5, h1, hin, hfm⟩
      rcases hc with hc | hc | hc | hc
      · exact hc (htyp'.symm.trans h5)
      · exact hc h1
      · exact Bool.noConfusion (hc.symm.trans hin)
      · rw [Dev.on_zero hc] at hfm
        exact Bool.noConfusion hfm
    · rw [Dev.ownFrame_returned haw hen hok h3' h4' hkey' hown' hs, if_pos (by rw [hb]; simp [hns]), hnoted]
      obtain ⟨m, hm⟩ : ∃ m : Dev, m = { s.dev with tet := { s.dev.tet with seen := seen } } := ⟨_, rfl⟩
      have hcm : (m.port (1 - p)).carries = true := by
        rw [hm]
        exact hcar
      have hon : m.onward ws = s.dev.onward ws := by
        rw [hm]
        rfl
      rw [← hm]
      obtain ⟨hstop, hgo⟩ := m.forward_spec hp2 ws
      split
      next h31 =>
        rw [hstop h31, hm]
      next h31 =>
        rw [(hgo h31).1 hcm, hon, hm]
        rfl
    · rw [Dev.ownFrame_returned haw hen hok h3' h4' hkey' hown' hs, if_neg (by rw [hb, Bool.false_and]; decide), if_pos ⟨htyp'.trans h5, h1, hin, Dev.on_one hfm⟩, hnoted]
      exact Dev.govReturned_spec { s.dev with tet := { s.dev.tet with seen := seen } } hmem hmas hlock hhold hex hok' hn rfl
  · have h3' : frameType ws ≠ 3 := htyp' ▸ h3
    have h4' : frameType ws ≠ 4 := htyp' ▸ h4
    have hother' : frameSrc ws ≠ s.dev.f F.TET_CFG.NODE := hsrc'.symm ▸ hother
    obtain ⟨m, hm⟩ : ∃ m : Dev, m = { s.dev with tet := { s.dev.tet with seen := seen } } := ⟨_, rfl⟩
    have hmf : ∀ y, m.f y = s.dev.f y := fun y => by
      rw [hm]
      rfl
    have hfirst : key ∉ s.dev.tet.seen → s.dev.frameReceived p ws fwd = (m.deliverFrame p ws fwd).forward p ws := fun hs => by
      rw [Dev.otherFrame_first haw hen hok h3' h4' hkey' hother' hs, hnoted, hm]
    refine ⟨fun hs h1 => hdoes ?_, fun hs h1 pr id hpr hid => hdoes ?_, fun hs h2 hm0 hsq hsr theta ht => hdoes ?_,
      fun hs h5 h1 hin hfm hst => hdoes ?_, fun hs h5 h2 hin hfm hst t ht => ⟨fun hnear => hdoes ?_, fun hfar => hdoes ?_⟩⟩
    · rw [Dev.otherFrame_again haw hen hok h3' h4' hkey' hother' hs (htyp' ▸ h1)]
      obtain ⟨hstop, hgo⟩ := s.dev.forward_spec hp2 ws
      refine ⟨s.dev.forward_outOnly p ws, fun h => by rw [hstop h], fun h => ?_⟩
      obtain ⟨g1, g2, g3⟩ := hgo (Nat.ne_of_lt h)
      exact ⟨fun hc => by rw [g1 hc]; rfl, fun hc hb => by rw [g2 hc hb], fun hc hb hc' => by rw [g3 hc hb hc']; rfl⟩
    · rw [hfirst hs, Dev.deliver_sync m (htyp'.trans h1)]
      obtain ⟨g, hg⟩ : ∃ g, g = m.gotSync p ws fwd := ⟨_, rfl⟩
      rw [← hg]
      have ho := g.forward_outOnly p ws
      obtain ⟨hkeep, hsq, hsp, hsr, helect⟩ := Dev.gotSync_kept hg
      have hbase : m.baseVal 1 = s.dev.baseVal 1 := by
        rw [hm]
        rfl
      have hid' : id = word64 ws 2 := hid
      have hign' : m.syncIgnored (bitsOf (ws.getD 4 0) 31 24) (word64 ws 2) = true ↔
          (0 < s.dev.f F.TET_CFG.PRIORITY ∧ nodeBetter pr id (s.dev.f F.TET_CFG.PRIORITY) s.dev.identity = false) ∨
          (s.dev.f F.TET_STATUS.TIMING_MASTER = 0 ∧ nodeBetter s.dev.tet.bestPriority s.dev.tet.bestId pr id = true) := by
        rw [← hpr, ← hid', Dev.syncIgnored_iff, hm]
        rfl
      rw [ho.tet]
      refine ⟨hsq.trans hseq', hsp, hsr.trans hbase, fun hw => ?_, fun hb hw => ?_⟩
      · have hk := hkeep (hign'.2 hw)
        have ho' : g.forward p ws = { g with out := (g.forward p ws).out } := ho
        rw [ho', hk, hm]
      · have hno : m.syncIgnored (bitsOf (ws.getD 4 0) 31 24) (word64 ws 2) = false := by
          refine Bool.eq_false_iff.2 fun hi => ?_
          rcases hign'.1 hi with ⟨h0, hbet⟩ | ⟨h0, hbet⟩
          · rcases hb with hb | hb
            · omega
            · exact Bool.noConfusion (hbet.symm.trans hb)
          · rcases hw with hw | hw
            · omega
            · exact Bool.noConfusion (hbet.symm.trans hw)
        obtain ⟨hn, ht, hbp, hbi, hbv, hon⟩ := helect hno
        have htime : (g.forward p ws).time = g.time := by
          have ho' : g.forward p ws = { g with out := (g.forward p ws).out } := ho
          rw [ho']
        have hbe : (g.forward p ws).baseVal 1 = g.baseVal 1 := by
          unfold Dev.baseVal
          rw [if_neg (by decide), if_pos rfl, if_neg (by decide), if_pos rfl, htime]
        refine ⟨(ho.f _).trans (hn.trans hsrc'), (ho.f _).trans ht, hbp.trans hpr.symm, hbi.trans hid.symm, hbe.trans (hbv.trans hbase), ?_⟩
        rw [htime]
        rw [hm] at hon
        exact ho.only hon
    · rw [hfirst hs, Dev.deliver_follow m (htyp'.trans h2)]
      have hmeas : m.gotFollow ws = m.measureBase 1 theta.toInt := by
        refine Dev.gotFollow_measures ((hmf _).trans hm0) ?_ ((hsrc'.trans hsr).trans (hmf _).symm) ?_
        · rw [hm]
          exact hseq'.trans hsq
        · rw [hm]
          exact ht
      have hcomm : m.gotFollow ws = (s.dev.measureBase 1 theta.toInt).setTet { s.dev.tet with seen := seen } := by
        rw [hmeas, hm]
        exact Dev.measureBase_setTet s.dev _ _ _
      obtain ⟨u, hu, -, hud⟩ : s.Does (.referenceMeasurement false theta) (fun e => e = s.dev.measureBase 1 theta.toInt) := by
        refine State.does (f := (·.referenceMeasurement false theta.toInt)) rfl ?_
        refine if_neg ?_
        simp [haw, Dev.netFree, Dev.timingMaster, Dev.on_zero hm0]
      refine ⟨u, hu, ?_⟩
      have ho : (m.gotFollow ws).forward p ws = { m.gotFollow ws with out := ((m.gotFollow ws).forward p ws).out } := (m.gotFollow ws).forward_outOnly p ws
      rw [ho, hud, hcomm]
      rfl
    · rw [hfirst hs, Dev.deliver_station (htyp'.trans h5) (by rw [hm]; exact hin) (hst.trans (hmf _).symm), if_pos h1]
      obtain ⟨g, hg⟩ : ∃ g, g = m.gotGovernor ws := ⟨_, rfl⟩
      rw [← hg]
      have ho := g.forward_outOnly p ws
      obtain ⟨gf, gt, gp, go⟩ := Dev.gotGovernor_spec ((hmf _).trans hfm) hg
      have hmt : m.tet = { s.dev.tet with seen := seen } := by rw [hm]
      have hper : m.servoPeriod = s.dev.servoPeriod := by
        rw [hm]
        rfl
      rw [hmt] at gt
      rw [hper] at gp
      rw [ho.tet]
      refine ⟨(ho.f _).trans gf, ?_, fun h => (ho.f _).trans (gp h), ?_⟩
      · rw [gt, ← hsrc']
      · rw [hm] at go
        exact ho.only go
    · have hnear' : (thetaOf t (word64 ws 4)).natAbs ≤ 4294967 := hnear
      rw [hfirst hs, Dev.deliver_station (htyp'.trans h5) (by rw [hm]; exact hin) (hst.trans (hmf _).symm), if_neg (by omega), if_pos h2,
        Dev.gotRefEdge_at (by rw [hm]; exact hin) ((hmf _).trans hfm) (t := t) (by rw [hm]; exact ht), if_pos hnear']
      have hax : ∀ g : Dev, ((g.forward p ws).ax 0).x = (g.ax 0).x := fun g => by
        have ho : g.forward p ws = { g with out := (g.forward p ws).out } := g.forward_outOnly p ws
        rw [ho]
        rfl
      rw [hax, Dev.redefine_feed, hm]
      rfl
    · have hfar' : ¬ (thetaOf t (word64 ws 4)).natAbs ≤ 4294967 := Nat.not_le.2 hfar
      rw [hfirst hs, Dev.deliver_station (htyp'.trans h5) (by rw [hm]; exact hin) (hst.trans (hmf _).symm), if_neg (by omega), if_pos h2,
        Dev.gotRefEdge_at (by rw [hm]; exact hin) ((hmf _).trans hfm) (t := t) (by rw [hm]; exact ht), if_neg hfar', ← hm]
      have ho := (m.flag F.TET_STATUS.REF_MISMATCH).forward_outOnly p ws
      exact ⟨(ho.f _).trans (Dev.f_flag_same _ _ _ (by decide) (by decide)),
        ho.only ((Dev.Only.refl _ _).flag F.TET_STATUS.REF_MISMATCH (by simp [Fld.within]) (hint (by simp)))⟩

end Sys2Proof.Machine
end

section
/-! SUPPORT. Squeeze points and Rebelay rotations (spec 07_squeeze_and_rebelay.md R198 to R209; 20 R491). -/

namespace Sys2Proof.Machine

/-! ## Registers of the front end -/

theorem Dev.f_reg {d e : Dev} {y : Fld} (h : e.reg y.addr = d.reg y.addr) : e.f y = d.f y := by
  unfold Dev.f
  rw [h]

theorem Dev.reg_setSource (d : Dev) (g c s : Nat) {a : Nat} (h : a ≠ R.AFE_CH_CTRL g c) (h' : a ≠ R.AFE_GRP_SWITCH g) :
    (d.setSource g c s).reg a = d.reg a := by
  unfold Dev.setSource
  extract_lets d1
  have h1 : d1.reg a = d.reg a := Dev.reg_setF_ne _ _ _ h
  clear_value d1
  split
  · exact (Dev.reg_setF_ne _ _ _ h').trans h1
  · exact h1

theorem Dev.setSource_afeGrp (d : Dev) (g c s : Nat) : (d.setSource g c s).afeGrp = d.afeGrp := by
  unfold Dev.setSource
  extract_lets d1
  have h1 : d1.afeGrp = d.afeGrp := Dev.setF_afeGrp _ _ _
  clear_value d1
  split
  · exact (Dev.setF_afeGrp _ _ _).trans h1
  · exact h1

theorem Dev.grp_afeGrp {d e : Dev} (h : e.afeGrp = d.afeGrp) (g : Nat) : e.grp g = d.grp g := by
  unfold Dev.grp
  rw [h]

theorem Dev.grp_setGrp (d : Dev) (g : Nat) (x : AfeGrp) : (d.setGrp g x).grp g = x := spGet_spSet_self _ _ _

/-! ## Points (R198, R201, R203) -/

theorem Dev.cyclePoints_refs (d : Dev) (g : Nat) {p : SqzPoint} {ps : List SqzPoint} (h : d.cyclePoints g = p :: ps) :
    ∃ rest, p :: ps = .refZero :: .refRef :: .refGap :: rest := by
  unfold Dev.cyclePoints at h
  extract_lets taps at h
  split at h
  · exact absurd h (by simp)
  · exact ⟨_, h.symm⟩

theorem squeezeCycle_meets (s : State) (g : Fin 8) :
    (s.dev.liveRuns g 0 = false → s.Ignores (.squeezeCycleStart g) ∧ ∀ x b, s.Ignores (.squeezePoint g x b)) ∧
    (s.dev.liveRuns g 0 = true → (s.dev.grp g).points = [] → s.Does (.squeezeCycleStart g) (fun e =>
      e = s.dev.setGrp g { s.dev.grp g with points := s.dev.cyclePoints g, cycling := true, m0 := none } ∧
      ∀ p ps, s.dev.cyclePoints g = p :: ps → ∃ rest, p :: ps = .refZero :: .refRef :: .refGap :: rest)) := by
  refine ⟨fun h => ⟨State.ignores (f := (·.cycleStart g)) rfl (if_neg (by simp [h])), fun x b => State.ignores (f := (·.squeezePoint g x b)) rfl ?_⟩,
    fun h hp => State.does (f := (·.cycleStart g)) rfl ⟨if_pos (by simp [h, hp]), fun p ps hc => s.dev.cyclePoints_refs g hc⟩⟩
  unfold Dev.squeezePoint
  split
  · rfl
  · extract_lets t
    exact if_pos (by simp [h])

theorem Dev.squeezePoint_of {d : Dev} {g x : Nat} {b : Bool} {p : SqzPoint} {ps : List SqzPoint} (hr : d.liveRuns g 0 = true)
    (hp : (d.grp g).points = p :: ps) (hl : (d.grp g).live = none) :
    (d.gapTakes g (d.pointTap g p) = false → d.squeezePoint g x b = d.count (F.AFE_GRP_CAL_STATUS.SQZ_WAIT_CNT g) 1) ∧
    (∀ c, d.gapTakes g (d.pointTap g p) = true → d.serving g (d.pointTap g p) = some c →
      d.squeezePoint g x b = (d.connect g c (d.pointTap g p)).setGrp g { d.grp g with live := some ⟨c, x, b⟩ }) := by
  have hbusy : ¬ ((!d.liveRuns g 0 || (d.grp g).live.isSome) = true) := by simp [hr, hl]
  rw [Dev.squeezePoint, hp]
  dsimp only [List.head?_cons]
  rw [if_neg hbusy]
  refine ⟨fun hg => if_pos (by simp [hg]), fun c hg hc => ?_⟩
  rw [if_neg (by simp [hg]), hc]

theorem squeezePoint_meets (s : State) (g : Fin 8) {p : SqzPoint} {ps : List SqzPoint} (x : Nat) (b : Bool) (hr : s.dev.liveRuns g 0 = true)
    (hp : (s.dev.grp g).points = p :: ps) (hl : (s.dev.grp g).live = none) :
    (s.dev.gapTakes g (s.dev.pointTap g p) = false → s.Does (.squeezePoint g x b) (fun e =>
      e.f (F.AFE_GRP_CAL_STATUS.SQZ_WAIT_CNT g) = min (s.dev.f (F.AFE_GRP_CAL_STATUS.SQZ_WAIT_CNT g) + 1) 65535 ∧
      s.dev.Only e [F.AFE_GRP_CAL_STATUS.SQZ_WAIT_CNT g])) ∧
    (∀ c, c < 9 → s.dev.gapTakes g (s.dev.pointTap g p) = true → s.dev.serving g (s.dev.pointTap g p) = some c →
      s.Does (.squeezePoint g x b) (fun e => e.source g c = 15 ∧ (e.grp g).live = some ⟨c, x, b⟩ ∧
        e.ch g c = { s.dev.ch g c with connecting := some (s.dev.pointTap g p) })) := by
  obtain ⟨hwait, htake⟩ := Dev.squeezePoint_of (x := x) (b := b) hr hp hl
  refine ⟨fun hg => State.does (f := (·.squeezePoint g x b)) rfl ?_, fun c hc9 hg hc => State.does (f := (·.squeezePoint g x b)) rfl ?_⟩
  · rw [hwait hg]
    exact ⟨Dev.f_count_self _ _ _ (Nat.le_of_ble_eq_true rfl) (Nat.le_of_ble_eq_true rfl), (Dev.Only.refl _ _).count (F.AFE_GRP_CAL_STATUS.SQZ_WAIT_CNT g) 1
      ⟨Nat.le_of_ble_eq_true rfl, Nat.le_of_ble_eq_true rfl, F.AFE_GRP_CAL_STATUS.SQZ_WAIT_CNT g, by simp, rfl, le_refl _, le_refl _⟩⟩
  · rw [htake c hg hc]
    obtain ⟨m, hm⟩ : ∃ m, m = s.dev.setSource g c 15 := ⟨_, rfl⟩
    have hconn : s.dev.connect g c (s.dev.pointTap g p) = m.setCh g c { s.dev.ch g c with connecting := some (s.dev.pointTap g p) } := by
      rw [hm]
      rfl
    have hsrc : m.source g c = 15 := hm ▸ s.dev.source_setSource g c (by decide) (R.afeChCtrl_ne_switch g hc9)
    rw [hconn]
    exact ⟨hsrc, congrArg AfeGrp.live (Dev.grp_setGrp _ _ _), Dev.ch_setCh_self _ _ _ _⟩

/-! ## Trims (R190, R204) -/

theorem newTrims_range {gain off : Nat} {m0 m1 s : Int} {t : Nat × Nat} (h : newTrims gain off m0 m1 s = some t) : t.1 ≤ 4095 ∧ t.2 ≤ 4095 := by
  unfold newTrims at h
  extract_lets offNew span gainNew at h
  split at h
  · exact nomatch h
  · split at h
    · exact nomatch h
    next hr =>
      obtain rfl := Option.some.inj h
      omega

/-- A trim that moves by at most `lim` stays a trim. -/
theorem clampI_trim {t g0 : Nat} {lim : Int} (ht : t ≤ 4095) (hg : g0 ≤ 4095) (hl : 0 ≤ lim) :
    ((((clampI t (g0 - lim) (g0 + lim)).toNat % 4096 : Nat) : Int) - g0).natAbs ≤ lim := by
  unfold clampI
  split
  · omega
  · split
    · omega
    · omega

theorem Dev.reg_trimWear (d : Dev) (g c : Nat) {a : Nat} (h : a ≠ R.AFE_CH_WEAR g c) (h' : a ≠ R.TOP_INT_STATUS) : (d.trimWear g c).reg a = d.reg a := by
  unfold Dev.trimWear Dev.flagIf
  extract_lets codes use gu ou warn
  clear_value gu ou
  split
  · rw [Dev.reg_flag_ne _ ⟨Nat.le_of_ble_eq_true rfl, Nat.le_of_ble_eq_true rfl⟩ h h', Dev.reg_setF_ne _ _ _ h, Dev.reg_setF_ne _ _ _ h]
  · rw [Dev.reg_setF_ne _ _ _ h, Dev.reg_setF_ne _ _ _ h]

theorem Dev.trimWear_afeGrp (d : Dev) (g c : Nat) : (d.trimWear g c).afeGrp = d.afeGrp := by
  unfold Dev.trimWear
  rw [Dev.flagIf_afeGrp, Dev.setF_afeGrp, Dev.setF_afeGrp]

/-- The registers of a calibrated trim pair, then what is counted of it. -/
theorem Dev.writeTrim_eq (d : Dev) (g c n : Nat) (t : Nat × Nat) (band : Bool) {m k : Dev}
    (hm : m = (d.setF (F.AFE_CH_TRIM.GAIN_TRIM g c n) t.1).setF (F.AFE_CH_TRIM.OFFSET_TRIM g c n) t.2)
    (hk : k = m.setCh g c { m.ch g c with calMask := putBits (m.ch g c).calMask n n 1 }) : d.writeTrim g c n t band =
      (((k.setF (F.AFE_CH_CAL.LAST_CODE g c) n).count (F.AFE_CH_CAL.CAL_COUNT g c) 1).setB (F.AFE_CH_CAL.REF_SRC g c) band).trimWear g c := by
  subst hk hm
  rfl

/-- Registers that neither the count nor the wear of channel (g, c) writes. -/
theorem Dev.reg_writeTrim (d : Dev) (g c n : Nat) (t : Nat × Nat) (band : Bool) {m : Dev}
    (hm : m = (d.setF (F.AFE_CH_TRIM.GAIN_TRIM g c n) t.1).setF (F.AFE_CH_TRIM.OFFSET_TRIM g c n) t.2) {a : Nat} (h : a ≠ R.AFE_CH_WEAR g c)
    (h1 : a ≠ R.AFE_CH_CAL g c) (h' : a ≠ R.TOP_INT_STATUS) : (d.writeTrim g c n t band).reg a = m.reg a := by
  obtain ⟨k, hk⟩ : ∃ k, k = m.setCh g c { m.ch g c with calMask := putBits (m.ch g c).calMask n n 1 } := ⟨_, rfl⟩
  have hkr : k.reg a = m.reg a := by
    rw [hk]
    rfl
  rw [d.writeTrim_eq g c n t band hm hk, Dev.reg_trimWear _ _ _ h h', Dev.setB, Dev.reg_setF_ne _ _ _ h1, Dev.count, Dev.reg_setF_ne _ _ _ h1,
    Dev.reg_setF_ne _ _ _ h1, hkr]

theorem Dev.writeTrim_afeGrp (d : Dev) (g c n : Nat) (t : Nat × Nat) (band : Bool) : (d.writeTrim g c n t band).afeGrp = d.afeGrp := by
  obtain ⟨m, hm⟩ : ∃ m, m = (d.setF (F.AFE_CH_TRIM.GAIN_TRIM g c n) t.1).setF (F.AFE_CH_TRIM.OFFSET_TRIM g c n) t.2 := ⟨_, rfl⟩
  obtain ⟨k, hk⟩ : ∃ k, k = m.setCh g c { m.ch g c with calMask := putBits (m.ch g c).calMask n n 1 } := ⟨_, rfl⟩
  have hkr : k.afeGrp = m.afeGrp := by
    rw [hk]
    rfl
  rw [d.writeTrim_eq g c n t band hm hk, Dev.trimWear_afeGrp, Dev.setB, Dev.setF_afeGrp, Dev.count, Dev.setF_afeGrp, Dev.setF_afeGrp, hkr, hm,
    Dev.setF_afeGrp, Dev.setF_afeGrp]

theorem R.afeTrim_ne (g c n : Nat) (hn : n < 8) : R.AFE_CH_TRIM g c n ≠ R.AFE_CH_WEAR g c ∧ R.AFE_CH_TRIM g c n ≠ R.AFE_CH_CAL g c ∧
    R.AFE_CH_TRIM g c n ≠ R.TOP_INT_STATUS := by
  unfold R.AFE_CH_TRIM R.AFE_CH_WEAR R.AFE_CH_CAL R.TOP_INT_STATUS
  omega

theorem Dev.writeTrim_trims (d : Dev) (g c : Nat) {n : Nat} (hn : n < 8) (t : Nat × Nat) (band : Bool) :
    (d.writeTrim g c n t band).gainTrim g c n = t.1 % 4096 ∧ (d.writeTrim g c n t band).offTrim g c n = t.2 % 4096 := by
  obtain ⟨h1, h2, h3⟩ := R.afeTrim_ne g c n hn
  have hr := d.reg_writeTrim g c n t band rfl h1 h2 h3
  unfold Dev.gainTrim Dev.offTrim
  refine ⟨(Dev.f_reg hr).trans ?_, (Dev.f_reg hr).trans (Dev.f_same _ _ _ _ _ (Nat.le_of_ble_eq_true rfl) (Nat.le_of_ble_eq_true rfl))⟩
  exact (Dev.f_apart _ _ _ _ _ _ _ (Nat.le_of_ble_eq_true rfl) (Nat.le_of_ble_eq_true rfl) (.inl (Nat.le_of_ble_eq_true rfl))).trans
    (Dev.f_same _ _ _ _ _ (Nat.le_of_ble_eq_true rfl) (Nat.le_of_ble_eq_true rfl))

theorem Dev.squeezeTrim_spec (d : Dev) (g c : Nat) {n : Nat} (hn : n < 8) (m0 m1 : Int) (band : Bool) {e : Dev} (he : e = d.squeezeTrim g c n m0 m1 band) :
    (((e.gainTrim g c n : Int) - d.gainTrim g c n).natAbs : Int) ≤ max 1 (d.f (F.AFE_GRP_MATCH.SQZ_MAX_DELTA g) : Int) ∧
    (((e.offTrim g c n : Int) - d.offTrim g c n).natAbs : Int) ≤ max 1 (d.f (F.AFE_GRP_MATCH.SQZ_MAX_DELTA g) : Int) ∧ e.afeGrp = d.afeGrp := by
  obtain ⟨lim, hlim⟩ : ∃ lim : Int, lim = max 1 (d.f (F.AFE_GRP_MATCH.SQZ_MAX_DELTA g) : Int) := ⟨_, rfl⟩
  have hlim0 : 0 ≤ lim := by omega
  obtain ⟨-, h2, h3⟩ := R.afeTrim_ne g c n hn
  have hg : d.gainTrim g c n ≤ 4095 := Nat.le_of_lt_succ (bitsOf_lt _ 27 16)
  have ho : d.offTrim g c n ≤ 4095 := Nat.le_of_lt_succ (bitsOf_lt _ 11 0)
  unfold Dev.squeezeTrim at he
  extract_lets v g0 o0 lim' at he
  rw [← hlim]
  split at he
  · have hr : e.reg (R.AFE_CH_TRIM g c n) = d.reg (R.AFE_CH_TRIM g c n) := by
      rw [he]
      exact Dev.reg_flag_ne _ ⟨Nat.le_of_ble_eq_true rfl, Nat.le_of_ble_eq_true rfl⟩ h2 h3
    have hge : e.gainTrim g c n = d.gainTrim g c n := Dev.f_reg hr
    have hoe : e.offTrim g c n = d.offTrim g c n := Dev.f_reg hr
    rw [hge, hoe, he, Dev.flag_afeGrp]
    exact ⟨by simpa using hlim0, by simpa using hlim0, rfl⟩
  next t ht =>
    extract_lets gt ot at he
    obtain ⟨ht1, ht2⟩ := newTrims_range ht
    obtain ⟨w, hw⟩ : ∃ w, w = d.writeTrim g c n (gt.toNat, ot.toNat) band := ⟨_, rfl⟩
    rw [← hw] at he
    have hr : e.reg (R.AFE_CH_TRIM g c n) = w.reg (R.AFE_CH_TRIM g c n) := by
      rw [he, Dev.flagIf]
      split
      · exact Dev.reg_flag_ne _ ⟨Nat.le_of_ble_eq_true rfl, Nat.le_of_ble_eq_true rfl⟩ h2 h3
      · rfl
    obtain ⟨hwg, hwo⟩ := d.writeTrim_trims g c hn (gt.toNat, ot.toNat) band
    rw [← hw] at hwg hwo
    have hge : e.gainTrim g c n = gt.toNat % 4096 := (Dev.f_reg hr).trans hwg
    have hoe : e.offTrim g c n = ot.toNat % 4096 := (Dev.f_reg hr).trans hwo
    have hgt : gt = clampI t.1 (d.gainTrim g c n - lim) (d.gainTrim g c n + lim) := by rw [hlim]
    have hot : ot = clampI t.2 (d.offTrim g c n - lim) (d.offTrim g c n + lim) := by rw [hlim]
    refine ⟨?_, ?_, ?_⟩
    · rw [hge, hgt]
      exact clampI_trim ht1 hg hlim0
    · rw [hoe, hot]
      exact clampI_trim ht2 ho hlim0
    · rw [he, Dev.flagIf_afeGrp, hw, Dev.writeTrim_afeGrp]

/-! ## A point that is complete (R203, R204) -/

/-- The channel back on its source, and a SERVICE request ended with it. -/
def Dev.settled (d : Dev) (g c s code : Nat) : Dev :=
  let d := (d.setSource g c s).setCh g c { d.ch g c with connecting := none }
  if (d.ch g c).service && d.on (F.AFE_GRP_SERVICE.BUSY g) && decide (d.f (F.AFE_GRP_SERVICE.CH g) = c) then
    (d.setF (F.AFE_GRP_SERVICE.BUSY g) 0).setF (F.AFE_GRP_SVC_DATA.CODE g) code
  else d

theorem Dev.settled_spec (d : Dev) (g c s code : Nat) : (d.settled g c s code).afeGrp = d.afeGrp ∧
    ∀ a, a ≠ R.AFE_CH_CTRL g c → a ≠ R.AFE_GRP_SWITCH g → a ≠ R.AFE_GRP_SERVICE g → a ≠ R.AFE_GRP_SVC_DATA g →
      (d.settled g c s code).reg a = d.reg a := by
  obtain ⟨m, hm⟩ : ∃ m, m = (d.setSource g c s).setCh g c { d.ch g c with connecting := none } := ⟨_, rfl⟩
  have hmg : m.afeGrp = d.afeGrp := by
    rw [hm]
    exact d.setSource_afeGrp g c s
  have hmr : ∀ a, a ≠ R.AFE_CH_CTRL g c → a ≠ R.AFE_GRP_SWITCH g → m.reg a = d.reg a := fun a h h' => by
    rw [hm]
    exact d.reg_setSource g c s h h'
  unfold Dev.settled
  dsimp only
  rw [← hm]
  split
  · exact ⟨by rw [Dev.setF_afeGrp, Dev.setF_afeGrp, hmg], fun a h1 h2 h3 h4 => by rw [Dev.reg_setF_ne _ _ _ h4, Dev.reg_setF_ne _ _ _ h3, hmr a h1 h2]⟩
  · exact ⟨hmg, fun a h1 h2 _ _ => hmr a h1 h2⟩

theorem Dev.reconnectionDone_live {d : Dev} {g c : Nat} (code : Nat) {s : Nat} (hs : (d.ch g c).connecting = some s) {l : LiveStep}
    (hl : (d.grp g).live = some l) (hc : l.ch = c) : d.reconnectionDone g c code = (d.settled g c s code).commitPoint g l := by
  obtain ⟨m, hm⟩ : ∃ m, m = d.settled g c s code := ⟨_, rfl⟩
  have hml : (m.grp g).live = some l := by
    rw [Dev.grp_afeGrp (hm ▸ (d.settled_spec g c s code).1), hl]
  have hrec : d.reconnectionDone g c code = match (m.grp g).live with
    | some l => if l.ch = c then m.commitPoint g l else m
    | none => m := by
    rw [Dev.reconnectionDone, hs, hm]
    rfl
  rw [hrec, hml, ← hm]
  exact if_pos hc

theorem Dev.commitPoint_gain {d : Dev} {g t n : Nat} {ps : List SqzPoint} {l : LiveStep} {m0 : Int} (hp : (d.grp g).points = .gain t n :: ps)
    (hl : l.clipped = false) (hm : (d.grp g).m0 = some m0) : d.commitPoint g l =
      (d.setGrp g { d.grp g with m0 := none, live := none, points := ps }).squeezeTrim g l.ch n m0 (pointMean (d.sqzLog g) l.sum) (d.grp g).fallback := by
  unfold Dev.commitPoint
  dsimp only
  rw [hp, hm]
  dsimp only [List.head?_cons, List.drop_succ_cons, List.drop_zero]
  rw [hl]
  rfl

theorem reconnection_meets (s : State) (g : Fin 8) (c : Fin 9) (n : Fin 8) {t : Nat} {m0 : Int} {x : Nat} {ps : List SqzPoint} (code : Nat)
    (hp : (s.dev.grp g).points = .gain t n :: ps) (hl : (s.dev.grp g).live = some ⟨c, x, false⟩) (hm : (s.dev.grp g).m0 = some m0)
    (hc : (s.dev.ch g c).connecting ≠ none) : s.Does (.reconnectionDone g c code) (fun e =>
      ((e.gainTrim g c n : Int) - s.dev.gainTrim g c n).natAbs ≤ max 1 (s.dev.f (F.AFE_GRP_MATCH.SQZ_MAX_DELTA g)) ∧
      ((e.offTrim g c n : Int) - s.dev.offTrim g c n).natAbs ≤ max 1 (s.dev.f (F.AFE_GRP_MATCH.SQZ_MAX_DELTA g)) ∧
      (e.grp g).points = ps ∧ (e.grp g).live = none ∧ (e.grp g).m0 = none) := by
  refine State.does (f := (·.reconnectionDone g c code)) rfl ?_
  obtain ⟨src, hsrc⟩ := Option.ne_none_iff_exists'.1 hc
  obtain ⟨m, hmm⟩ : ∃ m, m = s.dev.settled g c src code := ⟨_, rfl⟩
  obtain ⟨hag, hreg⟩ := s.dev.settled_spec g c src code
  rw [← hmm] at hag hreg
  have hgrp : m.grp g = s.dev.grp g := Dev.grp_afeGrp hag g
  obtain ⟨k, hk⟩ : ∃ k, k = m.setGrp g { m.grp g with m0 := none, live := none, points := ps } := ⟨_, rfl⟩
  rw [Dev.reconnectionDone_live code hsrc hl rfl, ← hmm, Dev.commitPoint_gain (by rw [hgrp]; exact hp) rfl (by rw [hgrp]; exact hm), ← hk]
  obtain ⟨h1, h2, h3⟩ := k.squeezeTrim_spec g c n.isLt m0 (pointMean (m.sqzLog g) x) (m.grp g).fallback rfl
  have hkr : ∀ a, a ≠ R.AFE_CH_CTRL g c → a ≠ R.AFE_GRP_SWITCH g → a ≠ R.AFE_GRP_SERVICE g → a ≠ R.AFE_GRP_SVC_DATA g → k.reg a = s.dev.reg a :=
    fun a a1 a2 a3 a4 => by
      rw [hk]
      exact hreg a a1 a2 a3 a4
  have hn := n.isLt
  have hcl := c.isLt
  have htrim : k.reg (R.AFE_CH_TRIM g c n) = s.dev.reg (R.AFE_CH_TRIM g c n) := by
    refine hkr _ ?_ ?_ ?_ ?_
    all_goals
      unfold R.AFE_CH_TRIM
    · unfold R.AFE_CH_CTRL
      omega
    · unfold R.AFE_GRP_SWITCH
      omega
    · unfold R.AFE_GRP_SERVICE
      omega
    · unfold R.AFE_GRP_SVC_DATA
      omega
  have hmatch : k.f (F.AFE_GRP_MATCH.SQZ_MAX_DELTA g) = s.dev.f (F.AFE_GRP_MATCH.SQZ_MAX_DELTA g) := by
    refine Dev.f_reg (hkr _ ?_ ?_ ?_ ?_)
    all_goals
      show R.AFE_GRP_MATCH g ≠ _
      unfold R.AFE_GRP_MATCH
    · unfold R.AFE_CH_CTRL
      omega
    · unfold R.AFE_GRP_SWITCH
      omega
    · unfold R.AFE_GRP_SERVICE
      omega
    · unfold R.AFE_GRP_SVC_DATA
      omega
  have hkg : k.gainTrim g c n = s.dev.gainTrim g c n := Dev.f_reg htrim
  have hko : k.offTrim g c n = s.dev.offTrim g c n := Dev.f_reg htrim
  rw [hkg, hmatch] at h1
  rw [hko, hmatch] at h2
  obtain ⟨e, he⟩ : ∃ e, e = k.squeezeTrim g c n m0 (pointMean (m.sqzLog g) x) (m.grp g).fallback := ⟨_, rfl⟩
  rw [← he] at h1 h2 h3
  have heg : e.grp g = { m.grp g with m0 := none, live := none, points := ps } := (Dev.grp_afeGrp h3 g).trans (hk ▸ Dev.grp_setGrp _ _ _)
  show _ ∧ _ ∧ _
  rw [← he, heg]
  exact ⟨by omega, by omega, rfl, rfl, rfl⟩

/-! ## Rebelay (R205 to R209, R491) -/

theorem Dev.spareOf_congr {d e : Dev} (h : e.afeCh = d.afeCh) (g : Nat) : e.spareOf g = d.spareOf g := by
  unfold Dev.spareOf Dev.ch
  rw [h]

theorem Dev.spareOf_lt {d : Dev} {g c : Nat} (h : d.spareOf g = some c) : c < 9 := List.mem_range.1 (List.mem_of_find?_eq_some h)

theorem Dev.rbState_setRb (d : Dev) (g : Nat) {n : Nat} (hn : n < 8) : (d.setRb g n).rbState g = n :=
  (Dev.f_same _ _ _ _ _ (Nat.le_of_ble_eq_true rfl) (Nat.le_of_ble_eq_true rfl)).trans (Nat.mod_eq_of_lt hn)

theorem Dev.reg_disconnect (d : Dev) (g c : Nat) {a : Nat} (h : a ≠ R.AFE_CH_CTRL g c) (h' : a ≠ R.AFE_GRP_SWITCH g) :
    (d.disconnect g c).reg a = d.reg a :=
  (show (d.disconnect g c).reg a = (d.setSource g c 15).reg a from rfl).trans (d.reg_setSource g c 15 h h')

theorem Dev.rotation_starts {d : Dev} {g c t : Nat} (hs : d.spareOf g = some c) (ht : d.nextTarget g = some t) (hl : d.liveRuns g 1 = true)
    (h0 : d.rbState g = 0) (hp : d.powered g c = true) {e : Dev} (he : e = d.rotationStart g) :
    e.rbState g = 1 ∧ (e.grp g).target = t ∧ (e.grp g).mismatches = 0 := by
  have he' : ∃ b, e = ((d.setGrp g { d.grp g with target := t, mismatches := 0 }).setB (F.AFE_CH_CTRL.MODE g c) b).setRb g 1 := by
    rw [he, Dev.rotationStart, hs, ht]
    exact ⟨_, if_pos (by rw [hl, h0, hp]; rfl)⟩
  obtain ⟨b, hb⟩ := he'
  have hg : e.grp g = { d.grp g with target := t, mismatches := 0 } := by
    rw [hb, Dev.setRb, Dev.setB, Dev.grp_afeGrp ((Dev.setF_afeGrp _ _ _).trans (Dev.setF_afeGrp _ _ _)), Dev.grp_setGrp]
  rw [hg, hb]
  exact ⟨Dev.rbState_setRb _ _ (by decide), rfl, rfl⟩

theorem Dev.rotationStart_idle {d : Dev} {g : Nat} (h : d.rbState g ≠ 0) : d.rotationStart g = d := by
  unfold Dev.rotationStart
  split
  · exact if_neg (by simp [h])
  · rfl

/-- PREP ends in COMPARE after a good reference check, and else the rotation ends (R205). -/
theorem Dev.prepDone_state {d : Dev} {g c : Nat} (hs : d.spareOf g = some c) (h1 : d.rbState g = 1) (hm : d.mode = .run) (ref : RefCal) (cal : ChanCal) :
    (d.prepDone g ref cal).rbState g = if (d.refCheck (min 12 (d.f (F.AFE_GRP_CAL.RB_AVG_LOG g))) ref).2.isSome then 2 else 0 := by
  have hc := Dev.spareOf_lt hs
  rw [Dev.prepDone, hs]
  dsimp only
  rw [if_neg (by simp [h1, hm])]
  cases (d.refCheck (min 12 (d.f (F.AFE_GRP_CAL.RB_AVG_LOG g))) ref).2 with
  | some v => exact Dev.rbState_setRb _ _ (by decide)
  | none =>
    have hcal : ∀ k, R.AFE_GRP_CAL g ≠ R.AFE_GRP_SWITCH g ∧ (k < 9 → R.AFE_GRP_CAL g ≠ R.AFE_CH_CTRL g k) := fun k => by
      unfold R.AFE_GRP_CAL R.AFE_GRP_SWITCH R.AFE_CH_CTRL
      omega
    dsimp only
    unfold Dev.rbIdle
    extract_lets m
    have hm0 : m.rbState g = 0 := Dev.rbState_setRb _ _ (by decide)
    clear_value m
    split
    next k hk => exact (Dev.f_reg (m.reg_disconnect g k ((hcal k).2 (Dev.spareOf_lt hk)) (hcal k).1)).trans hm0
    next => exact hm0

theorem Dev.prepDone_idle {d : Dev} {g : Nat} (h : d.rbState g ≠ 1) (ref : RefCal) (cal : ChanCal) : d.prepDone g ref cal = d := by
  unfold Dev.prepDone
  split
  · exact if_pos (.inl h)
  · rfl

/-! ### COMPARE (R206, R208) -/

theorem R.afeGrpCalStatus_ne (g : Nat) {c : Nat} (hc : c < 9) : R.AFE_GRP_CAL_STATUS g ≠ R.AFE_CH_CTRL g c ∧ R.AFE_GRP_CAL_STATUS g ≠ R.AFE_GRP_SWITCH g ∧
    R.AFE_GRP_CAL_STATUS g ≠ R.AFE_GRP_CAL g ∧ R.AFE_GRP_CAL_STATUS g ≠ R.TOP_INT_STATUS := by
  unfold R.AFE_GRP_CAL_STATUS R.AFE_CH_CTRL R.AFE_GRP_SWITCH R.AFE_GRP_CAL R.TOP_INT_STATUS
  omega

theorem Dev.compareEnd_spec {d : Dev} {g c : Nat} (hs : d.spareOf g = some c) (ok : Bool) {e : Dev} (he : e = d.compareEnd g ok) :
    e.rbState g = (if ok then 3 else if (d.grp g).mismatches = 0 then 1 else 0) ∧
    e.f (F.AFE_GRP_CAL_STATUS.LOW_SPREAD g) = d.f (F.AFE_GRP_CAL_STATUS.LOW_SPREAD g) ∧
    (ok = false → (d.grp g).mismatches ≠ 0 → e.f (F.AFE_GRP_CAL_STATUS.RB_MISMATCH g) = 1 ∧
      e.f (F.AFE_GRP_CAL_STATUS.MISMATCH_TAP g) = (d.grp g).target % 16) := by
  obtain ⟨h1, h2, h3, h4⟩ := R.afeGrpCalStatus_ne g (Dev.spareOf_lt hs)
  cases ok with
  | true =>
    have he' : e = d.setRb g 3 := he.trans (if_pos rfl)
    rw [he']
    exact ⟨Dev.rbState_setRb _ _ (by decide), Dev.f_setF_ne _ _ _ _ h3, fun h => Bool.noConfusion h⟩
  | false =>
    obtain ⟨k, hk⟩ : ∃ k, k = d.disconnect g c := ⟨_, rfl⟩
    have hkr : k.f (F.AFE_GRP_CAL_STATUS.LOW_SPREAD g) = d.f (F.AFE_GRP_CAL_STATUS.LOW_SPREAD g) := Dev.f_reg (hk ▸ d.reg_disconnect g c h1 h2)
    have he' : e = if (d.grp g).mismatches = 0 then (k.setGrp g { d.grp g with mismatches := 1 }).setRb g 1
        else ((k.setF (F.AFE_GRP_CAL_STATUS.MISMATCH_TAP g) (d.grp g).target).flag (F.AFE_GRP_CAL_STATUS.RB_MISMATCH g)).setRb g 0 := by
      rw [he, Dev.compareEnd, if_neg (by decide)]
      dsimp only
      rw [hs]
      dsimp only
      rw [← hk]
    by_cases h0 : (d.grp g).mismatches = 0
    case pos =>
      rw [if_pos h0] at he'
      rw [he', if_neg (by decide), if_pos h0]
      exact ⟨Dev.rbState_setRb _ _ (by decide), (Dev.f_setF_ne _ _ _ _ h3).trans hkr, fun _ h => absurd h0 h⟩
    case neg =>
      rw [if_neg h0] at he'
      obtain ⟨m, hm⟩ : ∃ m, m = k.setF (F.AFE_GRP_CAL_STATUS.MISMATCH_TAP g) (d.grp g).target := ⟨_, rfl⟩
      obtain ⟨n, hn⟩ : ∃ n, n = m.flag (F.AFE_GRP_CAL_STATUS.RB_MISMATCH g) := ⟨_, rfl⟩
      rw [← hm, ← hn] at he'
      have hnf : ∀ hi lo, 31 < lo ∨ hi < 31 → n.f ⟨R.AFE_GRP_CAL_STATUS g, hi, lo⟩ = m.f ⟨R.AFE_GRP_CAL_STATUS g, hi, lo⟩ := fun hi lo h => by
        rw [hn]
        exact Dev.f_flag_apart m (F.AFE_GRP_CAL_STATUS.RB_MISMATCH g) ⟨R.AFE_GRP_CAL_STATUS g, hi, lo⟩ rfl (Nat.le_of_ble_eq_true rfl) rfl h4 h
      rw [he', if_neg (by decide), if_neg h0]
      refine ⟨Dev.rbState_setRb _ _ (by decide), (Dev.f_setF_ne _ _ _ _ h3).trans ((hnf _ _ (.inr (by decide))).trans ?_), fun _ _ => ⟨?_, ?_⟩⟩
      · rw [hm]
        exact (Dev.f_apart _ _ _ _ _ _ _ (Nat.le_of_ble_eq_true rfl) (Nat.le_of_ble_eq_true rfl) (.inl (Nat.le_of_ble_eq_true rfl))).trans hkr
      · refine (Dev.f_setF_ne _ _ _ _ h3).trans ?_
        rw [hn]
        exact Dev.f_flag_same _ _ _ (Nat.le_of_ble_eq_true rfl) h4
      · refine (Dev.f_setF_ne _ _ _ _ h3).trans ((hnf _ _ (.inr (by decide))).trans ?_)
        rw [hm]
        exact Dev.f_same _ _ _ _ _ (Nat.le_of_ble_eq_true rfl) (Nat.le_of_ble_eq_true rfl)

/-- COMPARE in voltage mode. -/
theorem Dev.rbCompare_of {d : Dev} {g c k : Nat} (hs : d.spareOf g = some c) (hk : d.serving g (d.grp g).target = some k) (h2 : d.rbState g = 2)
    (hm : d.mode = .run) (hv : d.f (F.AFE_CH_CTRL.MODE g c) = 0) (pairs : List (Nat × Nat)) (pts : List ChargeCmp) {m : Dev}
    (hmm : m = d.setGrp g { d.grp g with sums := pairs.foldl compareAdd (d.grp g).sums }) :
    (compareFit (pairs.foldl compareAdd (d.grp g).sums) = none → d.rbCompare g pairs pts = m) ∧
    (∀ a b low, compareFit (pairs.foldl compareAdd (d.grp g).sums) = some (a, b, low) →
      d.rbCompare g pairs pts = (m.flagIf low (F.AFE_GRP_CAL_STATUS.LOW_SPREAD g)).compareEnd g (m.matches g a b)) := by
  rw [Dev.rbCompare, hs, hk]
  dsimp only
  rw [if_neg (by simp [h2, hm]), if_neg (by rw [Dev.charge, Dev.on_zero hv]; decide), ← hmm]
  refine ⟨fun hf => by rw [hf], fun a b low hf => by rw [hf]⟩

theorem Dev.rbCompare_idle {d : Dev} {g : Nat} (h : d.rbState g ≠ 2) (pairs : List (Nat × Nat)) (pts : List ChargeCmp) : d.rbCompare g pairs pts = d := by
  unfold Dev.rbCompare
  split
  · exact if_pos (.inl h)
  · rfl

/-- What COMPARE shows of one pass, and the state it leads to. -/
theorem rbCompare_meets (s : State) (g : Fin 8) {c k : Nat} (hs : s.dev.spareOf g = some c) {t : Nat} (ht : (s.dev.grp g).target = t)
    (hk : s.dev.serving g t = some k) (hm : s.dev.mode = .run) (pairs : List (Nat × Nat)) (pts : List ChargeCmp) (h2 : s.dev.rbState g = 2)
    (hv : s.dev.f (F.AFE_CH_CTRL.MODE g c) = 0) :
    (compareFit (pairs.foldl compareAdd (s.dev.grp g).sums) = none → s.Does (.rebelayCompare g pairs pts) (fun e =>
      e = s.dev.setGrp g { s.dev.grp g with sums := pairs.foldl compareAdd (s.dev.grp g).sums })) ∧
    (∀ a b low, compareFit (pairs.foldl compareAdd (s.dev.grp g).sums) = some (a, b, low) →
      s.Does (.rebelayCompare g pairs pts) (fun e =>
        e.rbState g = (if s.dev.matches g a b then 3 else if (s.dev.grp g).mismatches = 0 then 1 else 0) ∧
        (low = true → e.f (F.AFE_GRP_CAL_STATUS.LOW_SPREAD g) = 1) ∧
        (s.dev.matches g a b = false → (s.dev.grp g).mismatches ≠ 0 →
          e.f (F.AFE_GRP_CAL_STATUS.RB_MISMATCH g) = 1 ∧ e.f (F.AFE_GRP_CAL_STATUS.MISMATCH_TAP g) = t % 16))) := by
  obtain ⟨m, hmm⟩ : ∃ m, m = s.dev.setGrp g { s.dev.grp g with sums := pairs.foldl compareAdd (s.dev.grp g).sums } := ⟨_, rfl⟩
  obtain ⟨hnone, hsome⟩ := Dev.rbCompare_of hs (by rw [ht]; exact hk) h2 hm hv pairs pts hmm
  have hmatch : ∀ a b, m.matches g a b = s.dev.matches g a b := fun a b => by
    rw [hmm]
    rfl
  have hmg : m.grp g = { s.dev.grp g with sums := pairs.foldl compareAdd (s.dev.grp g).sums } := by rw [hmm, Dev.grp_setGrp]
  have hms : m.spareOf g = some c := by
    refine (Dev.spareOf_congr ?_ g).trans hs
    rw [hmm]
    rfl
  clear hv h2
  refine ⟨fun hf => State.does (f := (·.rbCompare g pairs pts)) rfl ((hnone hf).trans hmm), fun a b low hf => State.does (f := (·.rbCompare g pairs pts)) rfl ?_⟩
  rw [hsome a b low hf]
  obtain ⟨n, hn⟩ : ∃ n, n = m.flagIf low (F.AFE_GRP_CAL_STATUS.LOW_SPREAD g) := ⟨_, rfl⟩
  have hng : n.grp g = m.grp g := Dev.grp_afeGrp (hn ▸ Dev.flagIf_afeGrp _ _ _) g
  have hns : n.spareOf g = some c := (Dev.spareOf_congr (hn ▸ Dev.flagIf_afeCh _ _ _) g).trans hms
  obtain ⟨-, -, -, h4⟩ := R.afeGrpCalStatus_ne g (Dev.spareOf_lt hs)
  have hlow : low = true → n.f (F.AFE_GRP_CAL_STATUS.LOW_SPREAD g) = 1 := fun h => by
    rw [hn, h, Dev.flagIf, if_pos rfl]
    exact Dev.f_flag_same _ _ _ (Nat.le_of_ble_eq_true rfl) h4
  rw [← hn]
  obtain ⟨e, he⟩ : ∃ e, e = n.compareEnd g (m.matches g a b) := ⟨_, rfl⟩
  obtain ⟨hstate, hkeep, hmis⟩ := Dev.compareEnd_spec hns (m.matches g a b) he
  rw [← he]
  rw [hmatch, hng, hmg] at hstate
  rw [hmatch, hng, hmg] at hmis
  refine ⟨hstate, fun h => hkeep.trans (hlow h), fun h h0 => ?_⟩
  obtain ⟨hr, htap⟩ := hmis h h0
  exact ⟨hr, htap.trans (by rw [ht])⟩

/-! ### SWAP (R207, R209, R491) -/

theorem Dev.disconnect_ch_ne (d : Dev) {g c h k : Nat} (hne : (h, k) ≠ (g, c)) (hc : c < 9) (hk : k < 9) : (d.disconnect g c).ch h k = d.ch h k := by
  unfold Dev.disconnect
  rw [Dev.ch_setCh_ne _ _ hne hc hk, Dev.setSource_ch]

theorem Dev.powerDown_ch_ne (d : Dev) {g c h k : Nat} (hne : (h, k) ≠ (g, c)) (hc : c < 9) (hk : k < 9) : (d.powerDown g c).ch h k = d.ch h k := by
  unfold Dev.powerDown
  extract_lets d1 src
  rw [Dev.ch_afeCh (Dev.setF_afeCh _ _ _), Dev.ch_afeCh (Dev.setF_afeCh _ _ _), Dev.ch_setCh_ne _ _ hne hc hk]
  exact d.disconnect_ch_ne hne hc hk

theorem Dev.retireCh_ch (d : Dev) (g c : Nat) : ((d.retireCh g c).ch g c).retired = true ∧ ((d.retireCh g c).ch g c).tapOf = none ∧
    ((d.retireCh g c).ch g c).spare = false := by
  unfold Dev.retireCh
  extract_lets d1 src d2
  rw [Dev.ch_afeCh (Dev.setF_afeCh _ _ _)]
  unfold d2
  rw [Dev.ch_setCh_self]
  exact ⟨rfl, rfl, rfl⟩

theorem Dev.retireCh_ch_ne (d : Dev) {g c h k : Nat} (hne : (h, k) ≠ (g, c)) (hc : c < 9) (hk : k < 9) : (d.retireCh g c).ch h k = d.ch h k := by
  unfold Dev.retireCh
  extract_lets d1 src d2
  rw [Dev.ch_afeCh (Dev.setF_afeCh _ _ _)]
  unfold d2
  rw [Dev.ch_setCh_ne _ _ hne hc hk]
  exact Dev.powerDown_ch_ne _ hne hc hk

theorem Dev.reg_setCh (d : Dev) (g c : Nat) (x : AfeCh) (a : Nat) : (d.setCh g c x).reg a = d.reg a := rfl

theorem Dev.reg_powerDown (d : Dev) {g c : Nat} (hg : 9 * g + c < 72) {a : Nat} (ha : 0x40000 ≤ a) (h : a ≠ R.AFE_CH_CTRL g c)
    (h' : a ≠ R.AFE_GRP_SWITCH g) : (d.powerDown g c).reg a = d.reg a := by
  unfold Dev.powerDown
  extract_lets d1 src
  rw [Dev.reg_setF_ne _ _ _ (R.domBit_ne ha hg).symm, Dev.reg_setF_ne _ _ _ h, Dev.reg_setCh]
  exact d.reg_disconnect g c h h'

theorem Dev.reg_retireCh (d : Dev) {g c : Nat} (hg : 9 * g + c < 72) {a : Nat} (ha : 0x40000 ≤ a) (h : a ≠ R.AFE_CH_CTRL g c)
    (h' : a ≠ R.AFE_GRP_SWITCH g) (hw : a ≠ R.AFE_CH_WEAR g c) : (d.retireCh g c).reg a = d.reg a := by
  unfold Dev.retireCh
  extract_lets d1 src d2
  rw [Dev.reg_setF_ne _ _ _ hw]
  unfold d2
  rw [Dev.reg_setCh]
  exact d.reg_powerDown hg ha h h'

theorem Dev.ledgerEvent_afeCh (d : Dev) (e : LedgerEvent) : (d.ledgerEvent e).afeCh = d.afeCh := by
  unfold Dev.ledgerEvent
  split
  · exact Dev.flag_afeCh _ _
  · split
    · exact Dev.flag_afeCh _ _
    · exact Dev.setF_afeCh _ _ _

theorem Dev.reg_ledgerEvent (d : Dev) (e : LedgerEvent) {a : Nat} (h : a ≠ R.SEC_LEDGER_STATUS) (h' : a ≠ R.TOP_INT_STATUS) :
    (d.ledgerEvent e).reg a = d.reg a := by
  unfold Dev.ledgerEvent
  split
  · exact Dev.reg_flag_ne _ ⟨Nat.le_of_ble_eq_true rfl, Nat.le_of_ble_eq_true rfl⟩ h h'
  · split
    · exact Dev.reg_flag_ne _ ⟨Nat.le_of_ble_eq_true rfl, Nat.le_of_ble_eq_true rfl⟩ h h'
    · exact (Dev.reg_setF_ne _ _ _ h).trans rfl

/-- The spare `c` takes tap `t` and the codes in force of the channel `k` that served it. -/
def Dev.swapTaken (d : Dev) (g c k t : Nat) : Dev :=
  let d := d.setReg (R.AFE_CH_RANGE_ACT g c) (d.reg (R.AFE_CH_RANGE_ACT g k))
  let d := d.setReg (R.AFE_CH_RANGE g c) (d.reg (R.AFE_CH_RANGE g k))
  let d := d.setCh g c { d.ch g c with tapOf := some t, spare := false, lines := 2, connecting := none }
  (d.setSource g c t).flag (F.AFE_GRP_CAL_STATUS.ROT_DONE g)

/-- The registers a swap may not touch once the spare has taken the tap. -/
theorem R.afeRangeAct_ne (g : Nat) {c k : Nat} (hc : c < 9) (hk : k < 9) : R.AFE_CH_RANGE_ACT g c ≠ R.AFE_CH_CTRL g k ∧
    R.AFE_CH_RANGE_ACT g c ≠ R.AFE_GRP_SWITCH g ∧ R.AFE_CH_RANGE_ACT g c ≠ R.AFE_GRP_CAL_STATUS g ∧ R.AFE_CH_RANGE_ACT g c ≠ R.AFE_GRP_CAL g ∧
    R.AFE_CH_RANGE_ACT g c ≠ R.AFE_CH_WEAR g k ∧ R.AFE_CH_RANGE_ACT g c ≠ R.AFE_CH_RANGE g k ∧ R.AFE_CH_RANGE_ACT g c ≠ R.TOP_INT_STATUS ∧
    R.AFE_CH_RANGE_ACT g c ≠ R.SEC_LEDGER_STATUS ∧ 0x40000 ≤ R.AFE_CH_RANGE_ACT g c := by
  unfold R.AFE_CH_RANGE_ACT R.AFE_CH_CTRL R.AFE_GRP_SWITCH R.AFE_GRP_CAL_STATUS R.AFE_GRP_CAL R.AFE_CH_WEAR R.AFE_CH_RANGE R.TOP_INT_STATUS
    R.SEC_LEDGER_STATUS
  omega

theorem R.afeGrpCalStatus_apart (g : Nat) {k : Nat} (hk : k < 9) : R.AFE_GRP_CAL_STATUS g ≠ R.AFE_CH_WEAR g k ∧
    R.AFE_GRP_CAL_STATUS g ≠ R.SEC_LEDGER_STATUS ∧ 0x40000 ≤ R.AFE_GRP_CAL_STATUS g := by
  unfold R.AFE_GRP_CAL_STATUS R.AFE_CH_WEAR R.SEC_LEDGER_STATUS
  omega

theorem Dev.swapTaken_spec (d : Dev) {g c k : Nat} (t : Nat) (hc : c < 9) (hk : k < 9) (hne : c ≠ k) {m : Dev} (hm : m = d.swapTaken g c k t) :
    ((m.ch g c).tapOf = some t ∧ (m.ch g c).spare = false) ∧ m.ch g k = d.ch g k ∧
    m.reg (R.AFE_CH_RANGE_ACT g c) = d.reg (R.AFE_CH_RANGE_ACT g k) ∧ m.f (F.AFE_GRP_CAL_STATUS.ROT_DONE g) = 1 := by
  obtain ⟨a1, a2, a3, -, -, a6, a7, -, -⟩ := R.afeRangeAct_ne g hc hc
  obtain ⟨-, -, -, h4⟩ := R.afeGrpCalStatus_ne g hc
  unfold Dev.swapTaken at hm
  extract_lets d1 d2 src d3 at hm
  have h1 : d1.reg (R.AFE_CH_RANGE_ACT g c) = d.reg (R.AFE_CH_RANGE_ACT g k) := Dev.reg_setReg_self _ _ _
  have h2 : d2.reg (R.AFE_CH_RANGE_ACT g c) = d1.reg (R.AFE_CH_RANGE_ACT g c) := Dev.reg_setReg_ne _ _ a6
  have h3 : d3.reg (R.AFE_CH_RANGE_ACT g c) = d2.reg (R.AFE_CH_RANGE_ACT g c) := rfl
  have h3c : d3.ch g c = { d2.ch g c with tapOf := some t, spare := false, lines := 2, connecting := none } := Dev.ch_setCh_self _ _ _ _
  have h3k : d3.ch g k = d.ch g k := (Dev.ch_setCh_ne _ _ (by simpa using hne.symm) hc hk).trans rfl
  clear_value d3 src d2 d1
  have hch : ∀ j, m.ch g j = d3.ch g j := fun j => by rw [hm, Dev.ch_afeCh (Dev.flag_afeCh _ _), Dev.setSource_ch]
  refine ⟨?_, (hch k).trans h3k, ?_, ?_⟩
  · rw [hch, h3c]
    exact ⟨rfl, rfl⟩
  · rw [hm, Dev.reg_flag_ne _ ⟨Nat.le_of_ble_eq_true rfl, Nat.le_of_ble_eq_true rfl⟩ a3 a7, Dev.reg_setSource _ _ _ _ a1 a2, h3, h2, h1]
  · rw [hm]
    exact Dev.f_flag_same _ _ _ (Nat.le_of_ble_eq_true rfl) h4

theorem Dev.rbSwap_eq {d : Dev} {g c k : Nat} (hs : d.spareOf g = some c) (hk : d.serving g (d.grp g).target = some k) (h3 : d.rbState g = 3)
    (hm : d.mode = .run) {m : Dev} (hmm : m = d.swapTaken g c k (d.grp g).target) :
    (d.f (F.AFE_CH_WEAR.RETIRE_REQ g k) = 1 → d.rbSwap g = ((m.retireCh g k).ledgerEvent ⟨2, g, k, 0xFF, 5⟩).setRb g 0) ∧
    (d.f (F.AFE_CH_WEAR.RETIRE_REQ g k) = 0 → ∃ x, d.rbSwap g =
      (((m.setCh g k { m.ch g k with tapOf := none, spare := true, chkOk := false }).disconnect g k).setGrp g x).setRb g 4) := by
  have hbusy : ¬ (d.rbState g ≠ 3 ∨ d.mode ≠ .run) := by simp [h3, hm]
  rw [Dev.rbSwap, hs, hk, hmm]
  dsimp only
  rw [if_neg hbusy]
  refine ⟨fun h => ?_, fun h => ?_⟩
  · rw [Dev.on_one h]
    exact if_pos rfl
  · rw [Dev.on_zero h]
    exact ⟨_, if_neg (by decide)⟩

/-- The swap: the spare takes the tap, the freed channel becomes the spare or is retired. -/
theorem Dev.rbSwap_spec {d : Dev} {g c k t : Nat} (hg : g < 8) (hs : d.spareOf g = some c) (ht : (d.grp g).target = t) (hk : d.serving g t = some k)
    (hk9 : k < 9) (h3 : d.rbState g = 3) (hm : d.mode = .run) (hne : c ≠ k) {e : Dev} (he : e = d.rbSwap g)
    (hbit : d.f (F.AFE_CH_WEAR.RETIRE_REQ g k) = 0 ∨ d.f (F.AFE_CH_WEAR.RETIRE_REQ g k) = 1) :
    ((e.ch g c).tapOf = some t ∧ (e.ch g c).spare = false ∧
      e.reg (R.AFE_CH_RANGE_ACT g c) = d.reg (R.AFE_CH_RANGE_ACT g k) ∧ e.f (F.AFE_GRP_CAL_STATUS.ROT_DONE g) = 1 ∧
      (e.ch g k).tapOf = none) ∧
    (d.f (F.AFE_CH_WEAR.RETIRE_REQ g k) = 0 → e.rbState g = 4 ∧ (e.ch g k).spare = true ∧ (e.ch g k).retired = (d.ch g k).retired) ∧
    (d.f (F.AFE_CH_WEAR.RETIRE_REQ g k) = 1 → e.rbState g = 0 ∧ (e.ch g k).spare = false ∧ (e.ch g k).retired = true) := by
  have hc := Dev.spareOf_lt hs
  have hpair : (g, c) ≠ (g, k) := by simpa using hne
  obtain ⟨m, hmm⟩ : ∃ m, m = d.swapTaken g c k t := ⟨_, rfl⟩
  obtain ⟨⟨htap, hspare⟩, hmk, hact, hrot⟩ := d.swapTaken_spec t hc hk9 hne hmm
  obtain ⟨hasked, hfree⟩ := Dev.rbSwap_eq hs (by rw [ht]; exact hk) h3 hm (m := m) (by rw [hmm, ht])
  obtain ⟨a1, a2, -, a4, a5, -, a7, a8, a9⟩ := R.afeRangeAct_ne g hc hk9
  obtain ⟨s1, s2, s3, s4⟩ := R.afeGrpCalStatus_ne g hk9
  obtain ⟨s5, s6, s7⟩ := R.afeGrpCalStatus_apart g hk9
  clear hmm
  rcases hbit with h | h
  case inl =>
    obtain ⟨x, hx⟩ := hfree h
    obtain ⟨n, hn⟩ : ∃ n, n = m.setCh g k { m.ch g k with tapOf := none, spare := true, chkOk := false } := ⟨_, rfl⟩
    have hnr : ∀ a, n.reg a = m.reg a := fun a => by
      rw [hn]
      rfl
    have hnk : n.ch g k = { m.ch g k with tapOf := none, spare := true, chkOk := false } := hn ▸ Dev.ch_setCh_self _ _ _ _
    have hnc : n.ch g c = m.ch g c := hn ▸ Dev.ch_setCh_ne _ _ hpair hk9 hc
    rw [← hn] at hx
    rw [hx] at he
    have hch : ∀ j, e.ch g j = (n.disconnect g k).ch g j := fun j => by
      rw [he, Dev.setRb, Dev.ch_afeCh (Dev.setF_afeCh _ _ _)]
      rfl
    have hreg : ∀ a, a ≠ R.AFE_GRP_CAL g → a ≠ R.AFE_CH_CTRL g k → a ≠ R.AFE_GRP_SWITCH g → e.reg a = m.reg a := fun a b1 b2 b3 => by
      rw [he, Dev.setRb, Dev.reg_setF_ne _ _ _ b1, ← hnr]
      exact n.reg_disconnect g k b2 b3
    have hec : e.ch g c = m.ch g c := by rw [hch, Dev.disconnect_ch_ne _ hpair hk9 hc, hnc]
    have hek : e.ch g k = { m.ch g k with tapOf := none, spare := true, chkOk := false, connecting := none } := by
      rw [hch, Dev.disconnect_ch, hnk]
    rw [hec, hek, hmk]
    refine ⟨⟨htap, hspare, (hreg _ a4 a1 a2).trans hact, (Dev.f_reg (hreg _ s3 s1 s2)).trans hrot, rfl⟩, fun _ => ⟨?_, rfl, rfl⟩, fun h' => ?_⟩
    · rw [he]
      exact Dev.rbState_setRb _ _ (by decide)
    · rw [h] at h'
      exact Nat.noConfusion h'
  case inr =>
    rw [hasked h] at he
    have hch : ∀ j, e.ch g j = (m.retireCh g k).ch g j := fun j => by
      rw [he, Dev.setRb, Dev.ch_afeCh (Dev.setF_afeCh _ _ _), Dev.ch_afeCh (Dev.ledgerEvent_afeCh _ _)]
    have hreg : ∀ a, 0x40000 ≤ a → a ≠ R.AFE_GRP_CAL g → a ≠ R.SEC_LEDGER_STATUS → a ≠ R.TOP_INT_STATUS → a ≠ R.AFE_CH_CTRL g k →
        a ≠ R.AFE_GRP_SWITCH g → a ≠ R.AFE_CH_WEAR g k → e.reg a = m.reg a := fun a b0 b1 b2 b3 b4 b5 b6 => by
      rw [he, Dev.setRb, Dev.reg_setF_ne _ _ _ b1, Dev.reg_ledgerEvent _ _ b2 b3, Dev.reg_retireCh _ (by omega) b0 b4 b5 b6]
    have hec : e.ch g c = m.ch g c := by rw [hch, Dev.retireCh_ch_ne _ hpair hk9 hc]
    obtain ⟨hret, htn, hsp⟩ := m.retireCh_ch g k
    rw [hec, hch k]
    refine ⟨⟨htap, hspare, (hreg _ a9 a4 a8 a7 a1 a2 a5).trans hact, (Dev.f_reg (hreg _ s7 s3 s6 s4 s1 s2 s5)).trans hrot, htn⟩, fun h' => ?_,
      fun _ => ⟨?_, hsp, hret⟩⟩
    · rw [h] at h'
      exact Nat.noConfusion h'
    · rw [he]
      exact Dev.rbState_setRb _ _ (by decide)

theorem Dev.rbSwap_idle {d : Dev} {g : Nat} (h : d.rbState g ≠ 3) : d.rbSwap g = d := by
  unfold Dev.rbSwap
  extract_lets t
  split
  · exact if_pos (.inl h)
  · rfl

theorem Dev.retireReq_bit (d : Dev) (g k : Nat) : d.f (F.AFE_CH_WEAR.RETIRE_REQ g k) = 0 ∨ d.f (F.AFE_CH_WEAR.RETIRE_REQ g k) = 1 := by
  have h : d.f (F.AFE_CH_WEAR.RETIRE_REQ g k) < 2 := bitsOf_lt _ 31 31
  omega

/-! ### The freed channel's own calibration (R209) -/

theorem Dev.freedCal_idle {d : Dev} {g : Nat} (h : d.rbState g ≠ 4) (cal : ChanCal) : d.freedCal g cal = d := by
  unfold Dev.freedCal
  split
  · exact if_pos h
  · rfl

theorem Dev.freedCal_spec {d : Dev} {g c : Nat} (hs : d.spareOf g = some c) (h4 : d.rbState g = 4) (cal : ChanCal) :
    (d.freedCal g cal).rbState g = 0 ∧ ((d.freedCal g cal).ch g c).chkOk = true := by
  have he : ∃ m : Dev, d.freedCal g cal = (m.setCh g c { m.ch g c with chkOk := true }).setRb g 0 := by
    rw [Dev.freedCal, hs]
    exact ⟨_, if_neg (by simp [h4])⟩
  obtain ⟨m, hm⟩ := he
  rw [hm]
  refine ⟨Dev.rbState_setRb _ _ (by decide), ?_⟩
  rw [Dev.setRb, Dev.ch_afeCh (Dev.setF_afeCh _ _ _), Dev.ch_setCh_self]

/-- Settles O27, from what each live-calibration operation does in its own state and leaves elsewhere. -/
theorem liveCalibration : Obligations.LiveCalibration := by
  unfold Obligations.LiveCalibration
  refine ⟨fun s g => ?_, fun s g => ⟨fun c hs => ⟨?_, ?_, ?_, ?_⟩, ?_, ?_, fun ref cal pairs pts => ⟨?_, ?_, ?_⟩⟩⟩
  · obtain ⟨hoff, hon⟩ := squeezeCycle_meets s g
    exact ⟨hoff, hon, fun p ps x b hr hp hl => squeezePoint_meets s g x b hr hp hl,
      fun c n t m0 x ps code hp hl hm hc => reconnection_meets s g c n code hp hl hm hc⟩
  · exact fun t ht hl h0 hp => State.does (f := (·.rotationStart g)) rfl (Dev.rotation_starts hs ht hl h0 hp rfl)
  · exact fun ref cal h1 hm => State.does (f := (·.prepDone g ref cal)) rfl (Dev.prepDone_state hs h1 hm ref cal)
  · refine fun k t ht hk hm => ⟨fun pairs pts h2 hv => rbCompare_meets s g hs ht hk hm pairs pts h2 hv, fun h3 hne => ?_⟩
    obtain ⟨⟨h1, h2, h5, h6, h7⟩, h8, h9⟩ := Dev.rbSwap_spec g.isLt hs ht hk k.isLt h3 hm (fun h => hne (Fin.ext h)) rfl (s.dev.retireReq_bit g k)
    exact State.does (f := (·.rbSwap g)) rfl ⟨h1, h2, h5, h6, h7, h8, h9⟩
  · exact fun cal h4 => State.does (f := (·.freedCal g cal)) rfl (Dev.freedCal_spec hs h4 cal)
  · exact fun h => State.ignores (f := (·.rotationStart g)) rfl (Dev.rotationStart_idle h)
  · exact fun h => State.ignores (f := (·.rbSwap g)) rfl (Dev.rbSwap_idle h)
  · exact fun h => State.ignores (f := (·.prepDone g ref cal)) rfl (Dev.prepDone_idle h ref cal)
  · exact fun h => State.ignores (f := (·.rbCompare g pairs pts)) rfl (Dev.rbCompare_idle h pairs pts)
  · exact fun h => State.ignores (f := (·.freedCal g cal)) rfl (Dev.freedCal_idle h cal)

end Sys2Proof.Machine
end

section
/-! SUPPORT. Haul's transfers burst by burst (spec 13_haul_mover.md R328 to R335). -/

namespace Sys2Proof.Machine

/-! ## Bytes of host memory that a run of outputs writes -/

/-- One output's effect on what address `a` was written. -/
def writtenStep (a : Nat) (b : Option Byte) (x : Out) : Option Byte :=
  match x with
  | .hostWrite p bs _ => if p ≤ a ∧ a < p + bs.length then bs[a - p]? else b
  | _ => b

theorem writtenAt_eq (o : List Out) (a : Nat) : writtenAt o a = o.foldl (writtenStep a) none := rfl

theorem writtenStep_or (a : Nat) (b : Option Byte) (x : Out) : writtenStep a b x = (writtenStep a none x).or b := by
  unfold writtenStep
  split
  next p bs _ =>
    split
    next h => rw [List.getElem?_eq_getElem (show a - p < bs.length by omega), Option.some_or]
    next => rfl
  · rfl

theorem writtenAt_append (o q : List Out) (a : Nat) : writtenAt (o ++ q) a = (writtenAt q a).or (writtenAt o a) := by
  rw [writtenAt_eq, writtenAt_eq, writtenAt_eq, List.foldl_append]
  generalize o.foldl (writtenStep a) none = b
  induction q using List.reverseRecOn with
  | nil => rfl
  | append_singleton q x ih =>
    rw [List.foldl_append, List.foldl_append, ih]
    show writtenStep a _ x = (writtenStep a _ x).or b
    rw [writtenStep_or, writtenStep_or a (List.foldl _ _ _), Option.or_assoc]

theorem writtenAt_none {o : List Out} (h : ∀ x ∈ o, ∀ p bs r, x ≠ .hostWrite p bs r) (a : Nat) : writtenAt o a = none := by
  induction o with
  | nil => rfl
  | cons x t ih =>
    rw [← List.singleton_append, writtenAt_append, ih fun y hy => h y (List.mem_cons_of_mem _ hy)]
    have hx := h x List.mem_cons_self
    rw [writtenAt_eq]
    show (writtenStep a none x) = none
    unfold writtenStep
    split
    next p bs r => exact absurd rfl (hx p bs r)
    next => rfl

/-- The bytes `val` on the `n` addresses from `p` on. -/
def spanBytes (p n : Nat) (val : Nat → Byte) (a : Nat) : Option Byte := if p ≤ a ∧ a < p + n then some (val a) else none

theorem spanBytes_or (p k n : Nat) (val : Nat → Byte) (a : Nat) : (spanBytes (p + k) n val a).or (spanBytes p k val a) = spanBytes p (k + n) val a := by
  unfold spanBytes
  by_cases h1 : p + k ≤ a ∧ a < p + k + n
  · rw [if_pos h1, Option.some_or, if_pos (by omega)]
  · rw [if_neg h1, Option.none_or]
    by_cases h2 : p ≤ a ∧ a < p + k
    · rw [if_pos h2, if_pos (by omega)]
    · rw [if_neg h2, if_neg (by omega)]

/-! ## What a transfer leaves of the device -/

/-- From `d` to `e` host memory takes the bytes `P`, and what Haul's engine reads of the device stays. -/
def Dev.Sends (d e : Dev) (P : Nat → Option Byte) : Prop :=
  e.haul = d.haul ∧ e.ram = d.ram ∧ (e.mode = d.mode ∧ e.rst = d.rst) ∧ (∀ ch, e.haulBudget ch = d.haulBudget ch) ∧
  ∃ more, e.out = d.out ++ more ∧ ∀ a, writtenAt more a = P a

theorem Dev.Sends.refl (d : Dev) : d.Sends d (fun _ => none) := ⟨rfl, rfl, ⟨rfl, rfl⟩, fun _ => rfl, [], (List.append_nil _).symm, fun _ => rfl⟩

theorem Dev.Sends.trans {d e g : Dev} {P Q R : Nat → Option Byte} (h : d.Sends e P) (h' : e.Sends g Q) (hR : ∀ a, (Q a).or (P a) = R a) : d.Sends g R := by
  obtain ⟨hh, hr, ⟨hm, hs⟩, hb, o, ho, hw⟩ := h
  obtain ⟨hh', hr', ⟨hm', hs'⟩, hb', o', ho', hw'⟩ := h'
  refine ⟨hh'.trans hh, hr'.trans hr, ⟨hm'.trans hm, hs'.trans hs⟩, fun ch => (hb' ch).trans (hb ch), o ++ o', ?_, fun a => ?_⟩
  · rw [ho', ho, List.append_assoc]
  · rw [writtenAt_append, hw, hw', hR]

/-- A part that writes nothing, then a part that writes `P`. -/
theorem Dev.Sends.after {d e g : Dev} {P : Nat → Option Byte} (h : d.Sends e (fun _ => none)) (h' : e.Sends g P) : d.Sends g P :=
  h.trans h' fun _ => Option.or_none

/-- A part that writes `P`, then a part that writes nothing. -/
theorem Dev.Sends.then {d e g : Dev} {P : Nat → Option Byte} (h : d.Sends e P) (h' : e.Sends g (fun _ => none)) : d.Sends g P :=
  h.trans h' fun _ => Option.none_or

theorem Dev.Sends.awake {d e : Dev} {P : Nat → Option Byte} (h : d.Sends e P) : e.awake = d.awake := by
  obtain ⟨-, -, ⟨hm, hs⟩, -, -⟩ := h
  unfold Dev.awake Dev.alive
  rw [hm, hs]

theorem Dev.Sends.bytes {d e : Dev} {P : Nat → Option Byte} (h : d.Sends e P) (a n : Nat) : e.bytes a n = d.bytes a n := by
  obtain ⟨-, hr, -⟩ := h
  refine Dev.bytes_congr fun c _ _ => ?_
  unfold Dev.byte
  rw [hr]

theorem Dev.emit_sends (d : Dev) {o : Out} (h : ∀ p bs r, o ≠ .hostWrite p bs r) : d.Sends (d.emit o) (fun _ => none) :=
  ⟨rfl, rfl, ⟨rfl, rfl⟩, fun _ => rfl, [o], rfl, writtenAt_none fun x hx => List.mem_singleton.1 hx ▸ h⟩

theorem Dev.issueReads_sends (d : Dev) (a n : Nat) : d.Sends (d.issueReads a n) (fun _ => none) := by
  unfold Dev.issueReads
  extract_lets k e
  have he : d.Sends e (fun _ => none) := by
    unfold e
    split
    · exact d.emit_sends fun _ _ _ h => nomatch h
    · exact .refl d
  split
  · exact he.after (Dev.emit_sends _ fun _ _ _ h => nomatch h)
  · exact he

theorem Dev.write_sends (d : Dev) {p n : Nat} {bs : List Byte} {val : Nat → Byte} (hn : bs.length = n)
    (h : ∀ i, (hi : i < bs.length) → bs[i] = val (p + i)) : d.Sends (d.emit (.hostWrite p bs false)) (spanBytes p n val) := by
  refine ⟨rfl, rfl, ⟨rfl, rfl⟩, fun _ => rfl, [.hostWrite p bs false], rfl, fun a => ?_⟩
  rw [writtenAt_eq]
  show (if p ≤ a ∧ a < p + bs.length then bs[a - p]? else none) = _
  unfold spanBytes
  rw [hn]
  split
  next ha =>
    have hi : a - p < bs.length := by omega
    rw [List.getElem?_eq_getElem hi, h _ hi, Nat.add_sub_cancel' ha.1]
  next => rfl

/-! ## Haul's staging cell -/

theorem Dev.haulBudget_reg {d e : Dev} {ch : Nat} (h : e.reg (R.HAU_CH_CFG ch) = d.reg (R.HAU_CH_CFG ch)) : e.haulBudget ch = d.haulBudget ch := by
  unfold Dev.haulBudget
  rw [show e.f (F.HAU_CH_CFG.BUDGET_LOG ch) = d.f (F.HAU_CH_CFG.BUDGET_LOG ch) from Dev.f_reg h]

theorem R.hauChCfg_ge (ch : Nat) : 0xA1000 ≤ R.HAU_CH_CFG ch := by
  unfold R.HAU_CH_CFG
  omega

theorem Dev.setF_sends (d : Dev) (x : Fld) (v : Nat) (h : x.addr < 0xA1000) : d.Sends (d.setF x v) (fun _ => none) :=
  ⟨rfl, rfl, ⟨rfl, rfl⟩, fun ch => Dev.haulBudget_reg (Dev.reg_setF_ne _ _ _ (by have := R.hauChCfg_ge ch; omega)), [], (List.append_nil _).symm, fun _ => rfl⟩

theorem Dev.flag_sends (d : Dev) (x : Fld) (hx : x.lo ≤ x.hi + 1 ∧ x.hi < 32) (h : x.addr < 0xA1000) : d.Sends (d.flag x) (fun _ => none) := by
  refine ⟨Dev.flag_haul _ _, Dev.flag_ram _ _, ⟨Dev.flag_mode _ _, Dev.flag_rst _ _⟩, fun ch => Dev.haulBudget_reg ?_, ?_⟩
  · have hc := R.hauChCfg_ge ch
    refine Dev.reg_flag_ne _ hx (by omega) ?_
    unfold R.TOP_INT_STATUS
    omega
  · obtain ⟨more, ho, hm⟩ := d.flag_out x
    refine ⟨more, ho, writtenAt_none fun y hy p bs r h => ?_⟩
    obtain ⟨v, a, z, hz⟩ := hm y hy
    exact nomatch hz.symm.trans h

theorem Dev.setHaulUse_sends (d : Dev) (n : Nat) : d.Sends (d.setHaulUse n) (fun _ => none) := by
  unfold Dev.setHaulUse
  extract_lets q
  generalize ({ d.sump with haul := n, overHaul := q.1 } : Sump) = sm
  have h1 : d.Sends { d with sump := sm } (fun _ => none) :=
    ⟨rfl, rfl, ⟨rfl, rfl⟩, fun _ => rfl, [], (List.append_nil _).symm, fun _ => rfl⟩
  refine h1.after ?_
  generalize ({ d with sump := sm } : Dev) = e
  have hr : e.Sends (e.reportIf q.2 3 0) (fun _ => none) := by
    unfold Dev.reportIf
    split
    · unfold Dev.quotaEvent Dev.count
      exact (((e.setF_sends _ _ (by decide)).after (Dev.setF_sends _ _ _ (by decide))).after (Dev.setF_sends _ _ _ (by decide))).after
        (Dev.flag_sends _ _ (by decide) (by decide))
    · exact .refl e
  refine hr.after ?_
  unfold Dev.sumpNote
  extract_lets u
  exact (Dev.setF_sends _ _ _ (by decide)).after (Dev.setF_sends _ _ _ (by decide))

/-! ## Running bursts -/

/-- Bursts that each keep the invariant `P` of the place reached, or end the program with `Q`. -/
theorem Dev.haulBursts_ends {P : Nat → Dev → HaulFlow → Prop} {Q : HaulRun × ProgEnd → Dev → Prop} {total : Nat}
    (hP : ∀ k d w, P k d w → w.x.left + k = total ∧ d.haul.run ≠ none)
    (hstep : ∀ k d w, P k d w → k < total → (∃ n w' d', 0 < n ∧ d.haulBurst w 0 = (.ok w', d') ∧ P (k + n) d' w') ∨
      (∃ x d', d.haulBurst w 0 = (.error x, d') ∧ Q x d')) (fuel k : Nat) (d : Dev) (w : HaulFlow) (h : P k d w) (hf : total ≤ k + fuel) :
    (∃ w' d', d.haulBursts w 0 fuel = (.ok w', d') ∧ P total d' w') ∨ (∃ x d', d.haulBursts w 0 fuel = (.error x, d') ∧ Q x d') := by
  induction fuel generalizing k d w with
  | zero =>
    have hk : k = total := by
      have := (hP k d w h).1
      omega
    exact .inl ⟨w, d, rfl, hk ▸ h⟩
  | succ m ih =>
    obtain ⟨hl, hr⟩ := hP k d w h
    have hr' : d.haul.run.isNone = false := by
      cases hd : d.haul.run with
      | none => exact absurd hd hr
      | some r => rfl
    rw [Dev.haulBursts]
    by_cases h0 : w.x.left = 0
    · rw [if_pos (.inl h0)]
      exact .inl ⟨w, d, rfl, (show k = total by omega) ▸ h⟩
    · rw [if_neg (by simp [h0, hr'])]
      rcases hstep k d w h (by omega) with ⟨n, w', d', hn, hb, hn'⟩ | ⟨x, d', hb, hq⟩
      · rw [hb]
        exact ih (k + n) d' w' hn' (by omega)
      · rw [hb]
        exact .inr ⟨x, d', rfl, hq⟩

/-- `e` runs `r` now, and since `d` host memory has taken the bytes `P`. -/
def Dev.Delivers (d e : Dev) (r : HaulRun) (P : Nat → Option Byte) : Prop :=
  e.haul = { d.haul with run := some r } ∧ ∃ more, e.out = d.out ++ more ∧ ∀ a, writtenAt more a = P a

/-- What is left when all bursts are done: the staging cell is given back and the program goes on after the instruction. -/
theorem Dev.haulRunBursts_done {d e : Dev} {w w' : HaulFlow} {k : Nat} {P : Nat → Option Byte} (hb : (d.setHaulUse 1).haulBursts w 0 k = (.ok w', e))
    (hs : d.Sends e P) (hrun : d.haul.run ≠ none) (hl : w'.x.left = 0) (hbud : w'.run.executed < d.haulBudget w'.run.ch) {g : Dev}
    (hg : g = d.haulRunBursts w 0 k) :
    d.Delivers g { w'.run with pc := (w'.run.pc + 32) % 2 ^ 64, waiting := false, xfer := none } P := by
  obtain ⟨m, hm⟩ : ∃ m, m = if e.sump.haul = 0 then e else e.setHaulUse 0 := ⟨_, rfl⟩
  have hsm : d.Sends m P := by
    rw [hm]
    split
    · exact hs
    · exact hs.then (e.setHaulUse_sends 0)
  obtain ⟨hh, -, -, hbm, more, ho, hw⟩ := hsm
  have hsome : m.haul.run.isNone = false := by
    rw [hh]
    cases hd : d.haul.run with
    | none => exact absurd hd hrun
    | some r => rfl
  have hg' : g = m.setHaulRun (some { w'.run with pc := (w'.run.pc + 32) % 2 ^ 64, waiting := false, xfer := none }) := by
    rw [hg, Dev.haulRunBursts, hb]
    dsimp only
    rw [← hm, if_neg (by simp [hsome]), if_pos hl, Dev.haulGo, hbm, if_neg (by omega)]
    rfl
  rw [hg']
  refine ⟨?_, more, ho, hw⟩
  rw [← hh]
  rfl

/-! ## The place a transfer has reached -/

/-- `k` of `total` bytes of the transfer `ws` are done. -/
def Xfer.At (x : Xfer) (ws : List Nat) (o : List Int) (total k : Nat) : Prop :=
  x.ins = ws ∧ x.pass = 0 ∧ x.idx = o ∧ x.left + k = total ∧ x.elem * x.e + x.off = k ∧ x.off < x.elem

theorem Xfer.burst_pos {x : Xfer} (h : x.off < x.elem) : 0 < x.burst ∧ x.burst ≤ x.elem - x.off := by
  have hm : x.dst % 2 ^ insBurst x.ins < 2 ^ insBurst x.ins := Nat.mod_lt _ (Nat.two_pow_pos _)
  unfold Xfer.burst
  omega

theorem Xfer.At.e_lt {x : Xfer} {ws : List Nat} {o : List Int} {c k : Nat} (h : x.At ws o (x.elem * c) k) (hk : k < x.elem * c) : x.e < c := by
  obtain ⟨-, -, -, -, hp, -⟩ := h
  exact Nat.lt_of_mul_lt_mul_left (show x.elem * x.e < x.elem * c by omega)

theorem Xfer.At.step {x : Xfer} {ws : List Nat} {o : List Int} {c k : Nat} (h : x.At ws o (x.elem * c) k) (hk : k < x.elem * c) (l : List Byte) :
    (x.step x.burst l).At ws o (x.elem * c) (k + x.burst) ∧ k + x.burst ≤ x.elem * c := by
  have he := h.e_lt hk
  obtain ⟨hi, hp, ho, hl, hk', hof⟩ := h
  obtain ⟨hb0, hb⟩ := Xfer.burst_pos hof
  have hmul : x.elem * (x.e + 1) ≤ x.elem * c := Nat.mul_le_mul_left _ he
  rw [Nat.mul_succ] at hmul
  have hle : k + x.burst ≤ x.elem * c := by omega
  refine ⟨⟨hi, hp, ho, ?_, ?_, ?_⟩, hle⟩
  · show x.left - x.burst + (k + x.burst) = _
    omega
  · show x.elem * (if decide (x.elem ≤ x.off + x.burst) then x.e + 1 else x.e) + (if decide (x.elem ≤ x.off + x.burst) then 0 else x.off + x.burst) = _
    by_cases hlast : x.elem ≤ x.off + x.burst
    · rw [if_pos (decide_eq_true hlast), if_pos (decide_eq_true hlast), Nat.mul_succ]
      omega
    · rw [if_neg (by simp [hlast]), if_neg (by simp [hlast])]
      omega
  · show (if decide (x.elem ≤ x.off + x.burst) then 0 else x.off + x.burst) < x.elem
    by_cases hlast : x.elem ≤ x.off + x.burst
    · rw [if_pos (decide_eq_true hlast)]
      omega
    · rw [if_neg (by simp [hlast])]
      omega

/-! ## One burst -/

theorem Dev.haulBurst_fill {d : Dev} {w : HaulFlow} (hop : insOp w.x.ins = 3) (hdst : insDstDev w.x.ins = false) : d.haulBurst w 0 =
    (.ok { w with x := w.x.step w.x.burst [] }, d.emit (.hostWrite w.x.dst
      ((List.range w.x.burst).map (fun i => BitVec.ofNat 8 (insAddr w.x.ins 2 / 256 ^ ((w.x.dst + i) % 8)))) false)) := by
  have hbad : ¬ (w.x.off = 0 ∧ w.x.badIndex = true) := by simp [Xfer.badIndex, hop]
  rw [Dev.haulBurst]
  dsimp only
  rw [if_neg hbad, if_pos hop, hdst, Dev.putBurst, if_neg (by decide)]

theorem Dev.haulBurst_move {d e : Dev} {w : HaulFlow} {bs : List Byte} {side : Side} (h3 : insOp w.x.ins ≠ 3) (h4 : insOp w.x.ins ≠ 4)
    (hdst : insDstDev w.x.ins = false) (hbad : w.x.badIndex = false)
    (ht : d.takeSide w.run.ch ⟨insSrcDev w.x.ins, w.x.src, w.x.carry, w.a⟩ w.x.burst 0 = (.ok (bs, side), e)) :
    d.haulBurst w 0 = (.ok { w with x := w.x.step w.x.burst side.carry, a := side.host }, e.emit (.hostWrite w.x.dst bs false)) := by
  rw [Dev.haulBurst]
  dsimp only
  rw [if_neg (by simp [hbad]), if_neg h3, ht]
  dsimp only
  rw [if_neg h4, hdst, Dev.putBurst, if_neg (by decide)]

theorem Dev.takeSide_host (d : Dev) (ch a : Nat) (c l : List Byte) (n : Nat) : d.takeSide ch ⟨false, a, c, l⟩ n 0 =
    (.ok ((l ++ List.replicate (n - l.length) 0#8).take n, ⟨false, a + n, c, l.drop n⟩), d.issueReads a n) := by
  rw [Dev.takeSide]
  dsimp only
  rw [if_neg (by decide), if_neg (by simp)]

/-- What host memory answers, with zeros behind its end. -/
theorem takeHost_getElem (l : List Byte) {n i : Nat} (h : i < ((l ++ List.replicate (n - l.length) 0#8).take n).length) :
    ((l ++ List.replicate (n - l.length) 0#8).take n)[i] = l.getD i 0 := by
  rw [List.getElem_take, List.getD_eq_getElem?_getD]
  by_cases hi : i < l.length
  · rw [List.getElem_append_left hi, List.getElem?_eq_getElem hi, Option.getD_some]
  · rw [List.getElem_append_right (by omega), List.getElem_replicate, List.getElem?_eq_none (by omega), Option.getD_none]
    rfl

theorem takeHost_length (l : List Byte) (n : Nat) : ((l ++ List.replicate (n - l.length) 0#8).take n).length = n := by
  rw [List.length_take, List.length_append, List.length_replicate]
  omega

theorem getD_drop (l : List Byte) (k i : Nat) : (l.drop k).getD i 0 = l.getD (k + i) 0 := by
  rw [List.getD_eq_getElem?_getD, List.getD_eq_getElem?_getD, List.getElem?_drop]

/-! ## Whole transfers to host memory -/

/-- From device `d0` on, a transfer of program `r` has written its first `k` bytes at `p`. -/
def HaulSent (d0 : Dev) (r : HaulRun) (ws : List Nat) (o : List Int) (total p : Nat) (val : Nat → Byte) (k : Nat) (d : Dev) (w : HaulFlow) : Prop :=
  w.run = r ∧ w.x.At ws o total k ∧ k ≤ total ∧ d0.Sends d (spanBytes p k val)

theorem HaulSent.left {d0 d : Dev} {r : HaulRun} {ws : List Nat} {o : List Int} {total p : Nat} {val : Nat → Byte} {k : Nat} {w : HaulFlow}
    (h : HaulSent d0 r ws o total p val k d w) (hr : d0.haul.run ≠ none) : w.x.left + k = total ∧ d.haul.run ≠ none := by
  obtain ⟨-, ⟨-, -, -, hl, -⟩, -, hh, -⟩ := h
  exact ⟨hl, by rw [hh]; exact hr⟩

/-- The bytes of one more burst. -/
theorem HaulSent.next {d0 d e : Dev} {r : HaulRun} {ws : List Nat} {o : List Int} {p c : Nat} {val : Nat → Byte} {k : Nat} {w w' : HaulFlow}
    (h : HaulSent d0 r ws o (w.x.elem * c) p val k d w) (hk : k < w.x.elem * c) {l : List Byte} (hx : w'.x = w.x.step w.x.burst l) (hrun : w'.run = w.run)
    (hs : d.Sends e (spanBytes (p + k) w.x.burst val)) : HaulSent d0 r ws o (w.x.elem * c) p val (k + w.x.burst) e w' := by
  obtain ⟨hr, hat, -, hd⟩ := h
  obtain ⟨hat', hle⟩ := hat.step hk l
  exact ⟨hrun.trans hr, hx ▸ hat', hle, hd.trans hs fun a => spanBytes_or p k _ val a⟩

/-- Bursts that each send their bytes and keep `I` send them all. -/
theorem HaulSent.all {d : Dev} {r : HaulRun} {x : Xfer} {ws : List Nat} {o : List Int} {c p : Nat} {val : Nat → Byte} {a b : List Byte}
    (I : Nat → Dev → HaulFlow → Prop) (hx : x.At ws o (x.elem * c) 0) (h0 : ∀ e, d.Sends e (fun _ => none) → I 0 e ⟨r, x, a, b⟩) (hrun : d.haul.run ≠ none)
    (hstep : ∀ k e w, HaulSent d r ws o (x.elem * c) p val k e w → I k e w → k < x.elem * c → ∃ w' e',
      0 < w.x.burst ∧ e.haulBurst w 0 = (.ok w', e') ∧ HaulSent d r ws o (x.elem * c) p val (k + w.x.burst) e' w' ∧ I (k + w.x.burst) e' w')
    (hbud : r.executed < d.haulBudget r.ch) {g : Dev} (hg : g = d.haulRunBursts ⟨r, x, a, b⟩ 0 (x.elem * c)) :
    d.Delivers g { r with pc := (r.pc + 32) % 2 ^ 64, waiting := false, xfer := none } (spanBytes p (x.elem * c) val) := by
  have hstart := d.setHaulUse_sends 1
  have hsent : HaulSent d r ws o (x.elem * c) p val 0 (d.setHaulUse 1) ⟨r, x, a, b⟩ := by
    refine ⟨rfl, hx, Nat.zero_le _, ?_⟩
    have hz : spanBytes p 0 val = fun _ => none := by
      funext q
      exact if_neg (by omega)
    rw [hz]
    exact hstart
  rcases Dev.haulBursts_ends (P := fun k e w => HaulSent d r ws o (x.elem * c) p val k e w ∧ I k e w) (Q := fun _ _ => False) (total := x.elem * c)
      (fun k e w h => h.1.left hrun) (fun k e w h hk => .inl (by
        obtain ⟨w', e', h1, h2, h3, h4⟩ := hstep k e w h.1 h.2 hk
        exact ⟨_, w', e', h1, h2, h3, h4⟩)) (x.elem * c) 0 (d.setHaulUse 1) ⟨r, x, a, b⟩ ⟨hsent, h0 _ hstart⟩ (by omega) with
    ⟨w', e, hb, ⟨hr, ⟨-, -, -, hl, -⟩, -, hs⟩, -⟩ | ⟨-, -, -, hf⟩
  · have hbud' : w'.run.executed < d.haulBudget w'.run.ch := by rw [hr]; exact hbud
    have hdone := Dev.haulRunBursts_done hb hs hrun (by omega) hbud' hg
    rw [hr] at hdone
    exact hdone
  · exact absurd hf id

/-! ## Starting a transfer -/

/-- `e` is `d` after an instruction's fetch: it may have asked host memory for the instruction. -/
def Dev.Fetched (d e : Dev) : Prop := ∃ o, e = { d with out := d.out ++ o } ∧ ∀ a, writtenAt o a = none

theorem Dev.Fetched.sends {d e : Dev} (h : d.Fetched e) : d.Sends e (fun _ => none) := by
  obtain ⟨o, rfl, ho⟩ := h
  exact ⟨rfl, rfl, ⟨rfl, rfl⟩, fun _ => rfl, o, rfl, ho⟩

theorem Dev.Fetched.mayMove {d e : Dev} (h : d.Fetched e) (ws : List Nat) : e.haulMayMove ws = d.haulMayMove ws := by
  obtain ⟨o, rfl, ho⟩ := h
  rfl

theorem Dev.Fetched.haulAt {d e : Dev} (h : d.Fetched e) (r : HaulRun) : d.HaulAt (e.setHaulRun (some r)) r := by
  obtain ⟨o, rfl, ho⟩ := h
  rfl

theorem Dev.haulFetch_fetched (d : Dev) (r : HaulRun) (ins : List Word) : d.Fetched (d.haulFetch r ins).2 := by
  have hnone : d.Fetched d := ⟨[], by rw [List.append_nil], fun _ => rfl⟩
  unfold Dev.haulFetch
  extract_lets a
  split
  · exact hnone
  · dsimp only
    split
    · exact hnone
    · exact ⟨[.hostRead a 32], rfl, writtenAt_none (by simp)⟩

/-- A running program's instruction runs its own row. -/
theorem Dev.haulIns_runs {d : Dev} {r : HaulRun} {ins : List Word} {ws : List Nat} (h : d.Runs r ins ws) {op : Nat} (hop : insOp ws = op) (h1 : 1 ≤ op)
    (h9 : op ≤ 9) : ∃ e, d.Fetched e ∧ ∀ f, d.haulIns op ins f = f e { r with waiting := false } ws := by
  obtain ⟨hrun, haw, hload, hx, hend, hiss, hf, hok, -⟩ := h
  obtain ⟨q, hq⟩ : ∃ q, q = d.haulFetch r ins := ⟨_, rfl⟩
  have hq2 : q = (some ws, q.2) := Prod.ext (by rw [hq, hf]) rfl
  have hissue : ¬ ((!pcDev r.pc && !d.canIssue) = true) := by
    cases hp : pcDev r.pc
    · simp [hiss hp]
    · simp
  refine ⟨q.2, hq ▸ d.haulFetch_fetched r ins, fun f => ?_⟩
  rw [Dev.haulIns, hrun]
  dsimp only
  rw [if_neg (by simp [haw, hload, hx, hend]), if_neg hissue, ← hq, hq2]
  dsimp only
  rw [if_neg (by omega), if_neg (by omega), if_neg (by simp [hok])]

/-- The transfer that an instruction begins. -/
def haulXfer (ws : List Nat) (o : List Int) : Xfer :=
  { ins := ws, pass := 0, idx := o, e := 0, off := 0, left := if insOp ws = 2 then insCount ws * insElem ws else insWord ws 1, carry := [] }

theorem Dev.haulTransfer_none {d : Dev} {r : HaulRun} {ws : List Nat} (h2 : insOp ws ≠ 2) (h : insWord ws 1 = 0) (idx a b : List Byte) (c : Nat) :
    d.haulTransfer r ws idx a b c = d.haulGo r.count r.after := by
  unfold Dev.haulTransfer
  extract_lets total
  exact if_pos ((if_neg h2).trans h)

/-- A transfer outside a loop, without an index. -/
theorem Dev.haulTransfer_plain {d : Dev} {r : HaulRun} {ws : List Nat} (h2 : insOp ws ≠ 2) (h : 0 < insWord ws 1) (hm : d.haulMayMove ws = true)
    (hst : r.stack = []) (idx a b : List Byte) : d.haulTransfer r ws idx a b 0 =
      if insReqEn ws then d.setHaulRun (some { r.count with xfer := some (haulXfer ws []), waiting := true })
      else d.haulRunBursts ⟨r.count, haulXfer ws [], a, b⟩ 0 (insWord ws 1) := by
  unfold Dev.haulTransfer haulXfer
  rw [if_neg h2]
  dsimp only
  rw [if_neg (by omega), hm, if_neg (by decide), if_neg h2]
  dsimp only [HaulRun.count]
  rw [hst]

theorem haulXfer_at {ws : List Nat} (o : List Int) {c : Nat} (hc : (haulXfer ws o).left = (haulXfer ws o).elem * c) (h : 0 < (haulXfer ws o).elem) :
    (haulXfer ws o).At ws o ((haulXfer ws o).elem * c) 0 := ⟨rfl, rfl, rfl, by rw [hc]; rfl, rfl, h⟩

theorem Xfer.At.zero {x : Xfer} {ws : List Nat} {o : List Int} {n k : Nat} (h : x.At ws o n k) (hn : n = x.elem * 1) (hk : k < n) :
    x.e = 0 ∧ x.off = k := by
  have he := (hn ▸ h).e_lt (hn ▸ hk)
  obtain ⟨-, -, -, -, hp, -⟩ := h
  have he0 : x.e = 0 := by omega
  rw [he0] at hp
  exact ⟨he0, by omega⟩

theorem wrap64_of_lt {n : Nat} (h : n < 2 ^ 64) : wrap64 (n : Int) = n := by
  unfold wrap64 unsigned
  rw [Int.emod_eq_of_lt (by omega) (by exact_mod_cast h), Int.toNat_natCast]

/-- The destination of MOVE and FILL. -/
theorem Xfer.At.dst_plain {x : Xfer} {ws : List Nat} {o : List Int} {n k : Nat} (h : x.At ws o n k) (h2 : insOp ws ≠ 2) (hn : n = x.elem * 1) (hk : k < n)
    (ha : insAddr ws 4 + n ≤ 2 ^ 64) : x.dst = insAddr ws 4 + k := by
  obtain ⟨-, hoff⟩ := h.zero hn hk
  obtain ⟨hi, hp, -⟩ := h
  unfold Xfer.dst
  rw [hi, if_neg h2, hp, hoff]
  refine Eq.trans ?_ (wrap64_of_lt (show insAddr ws 4 + k < 2 ^ 64 by omega))
  congr 1
  push_cast
  ring

/-- The source of MOVE and side A of CMP. -/
theorem Xfer.At.src_plain {x : Xfer} {ws : List Nat} {o : List Int} {n k : Nat} (h : x.At ws o n k) (h2 : insOp ws ≠ 2) (hn : n = x.elem * 1) (hk : k < n)
    (ha : insAddr ws 2 + n ≤ 2 ^ 64) : x.src = insAddr ws 2 + k := by
  obtain ⟨-, hoff⟩ := h.zero hn hk
  obtain ⟨hi, hp, -⟩ := h
  unfold Xfer.src
  rw [hi, if_neg h2, hp, hoff]
  refine Eq.trans ?_ (wrap64_of_lt (show insAddr ws 2 + k < 2 ^ 64 by omega))
  congr 1
  push_cast
  ring

theorem Dev.Fetched.delivers {d m g : Dev} {r : HaulRun} {P : Nat → Option Byte} (h : d.Fetched m) (hg : m.Delivers g r P) : d.Delivers g r P := by
  obtain ⟨o, rfl, ho⟩ := h
  obtain ⟨hh, more, hm, hw⟩ := hg
  refine ⟨hh, o ++ more, by rw [hm, List.append_assoc], fun a => ?_⟩
  rw [writtenAt_append, hw, ho, Option.or_none]

theorem Dev.Delivers.written {d g : Dev} {r : HaulRun} {P : Nat → Option Byte} (h : d.Delivers g r P) :
    g.haul = { d.haul with run := some r } ∧ ∀ a, writtenAt (g.out.drop d.out.length) a = P a := by
  obtain ⟨hh, more, hm, hw⟩ := h
  exact ⟨hh, fun a => by rw [hm, List.drop_left, hw]⟩

/-! ## FILL, and MOVE and MOVEX from host memory (R330 to R332) -/

/-- FILL's pattern, byte by byte of its destination. -/
theorem Dev.fill_delivers {d : Dev} {r : HaulRun} {ws : List Nat} (hop : insOp ws = 3) (hdst : insDstDev ws = false) (hlen : 0 < insWord ws 1)
    (ha : insAddr ws 4 + insWord ws 1 ≤ 2 ^ 64) (hrun : d.haul.run ≠ none) (hbud : r.executed < d.haulBudget r.ch) {g : Dev} (a b : List Byte)
    (hg : g = d.haulRunBursts ⟨r, haulXfer ws [], a, b⟩ 0 (insWord ws 1)) :
    d.Delivers g { r with pc := (r.pc + 32) % 2 ^ 64, waiting := false, xfer := none }
      (spanBytes (insAddr ws 4) (insWord ws 1) (fun q => BitVec.ofNat 8 (insAddr ws 2 / 256 ^ (q % 8)))) := by
  obtain ⟨x, hx⟩ : ∃ x, x = haulXfer ws [] := ⟨_, rfl⟩
  have helem : ∀ y : Xfer, y.ins = ws → insWord ws 1 = y.elem * 1 := fun y hy => by
    rw [Nat.mul_one, Xfer.elem, hy, hop]
    rfl
  have hx0 : x.At ws [] (x.elem * 1) 0 := by
    rw [hx]
    refine haulXfer_at [] ?_ ?_
    · rw [← helem _ rfl, haulXfer, hop]
      rfl
    · have := helem (haulXfer ws []) rfl
      omega
  have htot := helem x (hx ▸ rfl)
  rw [← hx, htot] at hg
  rw [htot]
  refine HaulSent.all (fun _ _ _ => True) hx0 (fun _ _ => trivial) hrun (fun k e w hs _ hk => ?_) hbud hg
  have hat := hs.2.1
  obtain ⟨hi, -, -, -, -, hof⟩ := id hat
  have hdw : w.x.dst = insAddr ws 4 + k := hat.dst_plain (by omega) (by rw [← htot]; exact helem _ hi) hk (by rw [← htot]; exact ha)
  have hel : x.elem * 1 = w.x.elem * 1 := htot.symm.trans (helem _ hi)
  rw [hel] at hs hk
  rw [hel]
  have hb := Dev.haulBurst_fill (d := e) (w := w) (by rw [hi]; exact hop) (by rw [hi]; exact hdst)
  refine ⟨_, _, (Xfer.burst_pos hof).1, hb, hs.next hk rfl rfl ?_, trivial⟩
  rw [hdw]
  refine Dev.write_sends _ (by rw [List.length_map, List.length_range]) fun i hi' => ?_
  rw [List.getElem_map, List.getElem_range, hi]

/-- Bytes of host memory, from `data` in order, to a contiguous destination. -/
theorem Dev.move_delivers {d : Dev} {r : HaulRun} {ws : List Nat} {o : List Int} {data b : List Byte} {c p : Nat} (h3 : insOp ws ≠ 3) (h4 : insOp ws ≠ 4)
    (hdst : insDstDev ws = false) (hsrc : insSrcDev ws = false) (hc : (haulXfer ws o).left = (haulXfer ws o).elem * c) (h0 : 0 < (haulXfer ws o).elem)
    (hd : ∀ (x : Xfer) k, x.At ws o ((haulXfer ws o).elem * c) k → k < (haulXfer ws o).elem * c → x.dst = p + k)
    (hrun : d.haul.run ≠ none) (hbud : r.executed < d.haulBudget r.ch) {g : Dev} (hg : g = d.haulRunBursts ⟨r, haulXfer ws o, data, b⟩ 0 ((haulXfer ws o).elem * c)) :
    d.Delivers g { r with pc := (r.pc + 32) % 2 ^ 64, waiting := false, xfer := none }
      (spanBytes p ((haulXfer ws o).elem * c) (fun q => data.getD (q - p) 0)) := by
  obtain ⟨x, hx⟩ : ∃ x, x = haulXfer ws o := ⟨_, rfl⟩
  have hx0 := haulXfer_at o hc h0
  have hins : x.ins = ws := hx ▸ rfl
  rw [← hx] at hx0 hg hd
  rw [← hx]
  refine HaulSent.all (fun k _ w => w.x.carry = [] ∧ w.a = data.drop k) hx0 (fun _ _ => ⟨hx ▸ rfl, rfl⟩) hrun (fun k e w hs hI hk => ?_) hbud hg
  obtain ⟨hcarry, hwa⟩ := hI
  have hat := hs.2.1
  have hdw : w.x.dst = p + k := hd _ _ hat hk
  obtain ⟨hi, -, -, -, -, hof⟩ := id hat
  have hel : x.elem = w.x.elem := by
    unfold Xfer.elem
    rw [hins, hi]
  rw [hel] at hs hk
  rw [hel]
  have hbad : w.x.badIndex = false := by
    unfold Xfer.badIndex
    rw [hi, hdst, hsrc]
    simp
  have hb := Dev.haulBurst_move (d := e) (w := w) (by rw [hi]; exact h3) (by rw [hi]; exact h4) (by rw [hi]; exact hdst) hbad
    (by rw [hi, hsrc]; exact e.takeSide_host _ _ _ _ _)
  refine ⟨_, _, (Xfer.burst_pos hof).1, hb, hs.next hk rfl rfl ?_, hcarry, ?_⟩
  · rw [hdw]
    refine (e.issueReads_sends _ _).after (Dev.write_sends _ (takeHost_length _ _) fun i hi' => ?_)
    rw [takeHost_getElem, hwa, getD_drop]
    congr 1
    omega
  · show w.a.drop w.x.burst = _
    rw [hwa, List.drop_drop]

/-! ## MOVE from program memory (R323, R331) -/

theorem Dev.devRead_program {d : Dev} {ch a : Nat} (hw : d.awake = true) (h4 : a % 4 = 0) (hlo : winHaul ≤ a) (hhi : a < winHaul + 0x4000) :
    d.devRead ch a = (some (d.mem a 4), { d with nak := false }) := by
  obtain ⟨hf, -, -, -⟩ := regionOf_program hlo hhi
  have hal : a / 4 * 4 = a := by omega
  have hread : ({ d with nak := false } : Dev).readWord (haulReq ch) a = (d.mem a 4, { d with nak := false }) := by
    unfold Dev.awake Dev.alive at hw
    simp only [Bool.and_eq_true, decide_eq_true_eq] at hw
    obtain ⟨⟨hb, hdo⟩, hr⟩ := hw
    rw [Dev.readWord]
    dsimp only
    rw [if_neg (by simp [Dev.answers, hb, hdo, hr]), hal, hf]
    exact Dev.readWindow_program hlo hhi _
  rw [Dev.devRead, if_neg (by unfold winHaul at hhi; omega)]
  dsimp only
  rw [hread]
  rfl

theorem Dev.bytes_append (d : Dev) (a m n : Nat) : d.bytes a m ++ d.bytes (a + m) n = d.bytes a (m + n) := by
  induction m generalizing a with
  | zero => rw [Nat.zero_add]; rfl
  | succ m ih =>
    rw [Nat.add_right_comm]
    show d.byte a :: (d.bytes (a + 1) m ++ d.bytes (a + (m + 1)) n) = d.byte a :: d.bytes (a + 1) (m + n)
    rw [← ih, show a + (m + 1) = a + 1 + m by omega]

theorem Dev.take_bytes (d : Dev) (a : Nat) {m n : Nat} (h : m ≤ n) : (d.bytes a n).take m = d.bytes a m := by
  rw [← Nat.add_sub_cancel' h, ← d.bytes_append, List.take_left' (d.bytes_length a m)]

theorem Dev.drop_bytes (d : Dev) (a : Nat) {m n : Nat} (h : m ≤ n) : (d.bytes a n).drop m = d.bytes (a + m) (n - m) := by
  rw [← Nat.add_sub_cancel' h, ← d.bytes_append, List.drop_left' (d.bytes_length a m), Nat.add_sub_cancel_left]

theorem Dev.leBytes_mem (d : Dev) (a : Nat) : leBytes 4 (d.mem a 4) = d.bytes a 4 := by
  have h := leBytes_leNat (d.bytes a 4)
  rwa [d.bytes_length] at h

theorem Dev.nak_sends (d : Dev) (b : Bool) : d.Sends { d with nak := b } (fun _ => none) :=
  ⟨rfl, rfl, ⟨rfl, rfl⟩, fun _ => rfl, [], (List.append_nil _).symm, fun _ => rfl⟩

/-- Whole words of program memory, read one by one. -/
theorem Dev.devReads_program {d : Dev} (ch : Nat) {a k : Nat} (hw : d.awake = true) (h4 : a % 4 = 0) (hlo : winHaul ≤ a) (hhi : a + 4 * k ≤ winHaul + 0x4000)
    (l : List Byte) : ∃ e, d.devReads ch a k l = ((l ++ d.bytes a (4 * k), none), e) ∧ d.Sends e (fun _ => none) := by
  induction k generalizing d a l with
  | zero => exact ⟨d, by rw [Dev.devReads, Nat.mul_zero, show d.bytes a 0 = [] from rfl, List.append_nil], .refl d⟩
  | succ k ih =>
    have hs := d.nak_sends false
    obtain ⟨e, he, hes⟩ := ih (d := { d with nak := false }) (a := a + 4) (hs.awake.trans hw) (by omega) (by omega) (by omega) (l ++ d.bytes a 4)
    refine ⟨e, ?_, hs.after hes⟩
    rw [Dev.devReads, Dev.devRead_program hw h4 hlo (by omega)]
    dsimp only
    rw [Dev.leBytes_mem, he, hs.bytes, List.append_assoc, d.bytes_append, show 4 + 4 * k = 4 * (k + 1) by omega]

theorem Dev.takeSide_program {d : Dev} (ch : Nat) {a c n : Nat} (l : List Byte) (hw : d.awake = true) (h4 : (a + c) % 4 = 0) (hlo : winHaul ≤ a)
    (hhi : a + c + 4 * ((n - c + 3) / 4) ≤ winHaul + 0x4000) : ∃ e, d.takeSide ch ⟨true, a, d.bytes a c, l⟩ n 0 =
      (.ok (d.bytes a n, ⟨true, a + n, d.bytes (a + n) (c + 4 * ((n - c + 3) / 4) - n), l⟩), e) ∧ d.Sends e (fun _ => none) := by
  obtain ⟨e, he, hes⟩ := Dev.devReads_program (d := d) ch (a := a + c) (k := (n - c + 3) / 4) hw h4 (by omega) hhi (d.bytes a c)
  refine ⟨e, ?_, hes⟩
  rw [Dev.takeSide, if_pos rfl]
  dsimp only
  rw [d.bytes_length, he]
  dsimp only
  rw [d.bytes_append, d.take_bytes a (by omega), d.drop_bytes a (by omega)]

theorem insOk_aligned {ws : List Nat} (h : insOk ws = true) (hop : insOp ws = 1) (hsrc : insSrcDev ws = true) : insWord ws 1 % 4 = 0 ∧ insAddr ws 2 % 4 = 0 := by
  unfold insOk at h
  extract_lets op l s t zero burst at h
  rw [if_neg (by unfold op; omega)] at h
  split at h
  · exact Bool.noConfusion h
  · rw [if_pos (.inl hop)] at h
    simp only [Bool.and_eq_true] at h
    obtain ⟨⟨⟨⟨⟨-, h1⟩, h2⟩, -⟩, -⟩, -⟩ := h
    unfold s at h1 h2
    rw [hsrc] at h1 h2
    unfold by4 at h1 h2
    exact ⟨by simpa using h1, by simpa using h2⟩

/-- MOVE out of program memory: the words read are carried over from burst to burst. -/
theorem Dev.program_delivers {d : Dev} {r : HaulRun} {ws : List Nat} {a b : List Byte} (hop : insOp ws = 1) (hdst : insDstDev ws = false)
    (hsrc : insSrcDev ws = true) (hok : insOk ws = true) (hlen : 0 < insWord ws 1) (ha : insAddr ws 4 + insWord ws 1 ≤ 2 ^ 64) (hw : d.awake = true)
    (hlo : winHaul ≤ insAddr ws 2) (hhi : insAddr ws 2 + insWord ws 1 ≤ winHaul + 0x4000) (hrun : d.haul.run ≠ none)
    (hbud : r.executed < d.haulBudget r.ch) {g : Dev} (hg : g = d.haulRunBursts ⟨r, haulXfer ws [], a, b⟩ 0 (insWord ws 1)) :
    d.Delivers g { r with pc := (r.pc + 32) % 2 ^ 64, waiting := false, xfer := none }
      (spanBytes (insAddr ws 4) (insWord ws 1) (fun q => d.byte (insAddr ws 2 + (q - insAddr ws 4)))) := by
  obtain ⟨hl4, ha4⟩ := insOk_aligned hok hop hsrc
  obtain ⟨x, hx⟩ : ∃ x, x = haulXfer ws [] := ⟨_, rfl⟩
  have helem : ∀ y : Xfer, y.ins = ws → insWord ws 1 = y.elem * 1 := fun y hy => by
    rw [Nat.mul_one, Xfer.elem, hy, hop]
    rfl
  have hx0 : x.At ws [] (x.elem * 1) 0 := by
    rw [hx]
    refine haulXfer_at [] ?_ ?_
    · rw [← helem _ rfl, haulXfer, hop]
      rfl
    · have := helem (haulXfer ws []) rfl
      omega
  have htot := helem x (hx ▸ rfl)
  rw [← hx, htot] at hg
  rw [htot]
  refine HaulSent.all (fun k _ w => ∃ c, w.x.carry = d.bytes (insAddr ws 2 + k) c ∧ (k + c) % 4 = 0 ∧ k + c ≤ insWord ws 1) hx0
    (fun _ _ => ⟨0, hx ▸ rfl, rfl, Nat.zero_le _⟩) hrun (fun k e w hs hI hk => ?_) hbud hg
  obtain ⟨c, hcarry, hc4, hcl⟩ := hI
  have hat := hs.2.1
  have hsend := hs.2.2.2
  obtain ⟨hi, -, -, -, -, hof⟩ := id hat
  have hkl : k < insWord ws 1 := by rw [htot]; exact hk
  have hel : x.elem * 1 = w.x.elem * 1 := htot.symm.trans (helem _ hi)
  have hdw : w.x.dst = insAddr ws 4 + k := hat.dst_plain (by omega) hel hk (by rw [← htot]; exact ha)
  have hsw : w.x.src = insAddr ws 2 + k := hat.src_plain (by omega) hel hk (by rw [← htot]; unfold winHaul at hhi; omega)
  obtain ⟨hb0, -⟩ := Xfer.burst_pos hof
  rw [hel] at hs hk hat
  rw [hel]
  have hle := (hat.step hk []).2
  rw [← hel, ← htot] at hle
  have hbad : w.x.badIndex = false := by
    unfold Xfer.badIndex
    rw [hi, hop]
    simp
  obtain ⟨m, hm, hms⟩ := Dev.takeSide_program (d := e) w.run.ch (a := insAddr ws 2 + k) (c := c) (n := w.x.burst) w.a (hsend.awake.trans hw) (by omega)
    (by omega) (by omega)
  have hb := Dev.haulBurst_move (d := e) (w := w) (by rw [hi]; omega) (by rw [hi]; omega) (by rw [hi]; exact hdst) hbad
    (by rw [hi, hsrc, hsw, hcarry, ← hsend.bytes]; exact hm)
  refine ⟨_, _, hb0, hb, hs.next hk rfl rfl ?_, c + 4 * ((w.x.burst - c + 3) / 4) - w.x.burst, ?_, by omega, by omega⟩
  · rw [hdw]
    refine hms.after (Dev.write_sends _ (e.bytes_length _ _) fun i hi' => ?_)
    rw [e.bytes_length] at hi'
    rw [e.getElem_bytes]
    obtain ⟨-, hram, -⟩ := hsend
    unfold Dev.byte
    rw [hram]
    congr 1
    omega
  · show e.bytes (insAddr ws 2 + k + w.x.burst) _ = _
    rw [hsend.bytes, Nat.add_assoc]

/-! ## MOVEX (R331) -/

theorem Dev.Fetched.trans {d e g : Dev} (h : d.Fetched e) (h' : e.Fetched g) : d.Fetched g := by
  obtain ⟨o, rfl, ho⟩ := h
  obtain ⟨o', rfl, ho'⟩ := h'
  exact ⟨o ++ o', by rw [List.append_assoc], fun a => by rw [writtenAt_append, ho, ho']; rfl⟩

theorem Dev.emitRead_fetched (d : Dev) (a n : Nat) : d.Fetched (d.emit (.hostRead a n)) := ⟨[.hostRead a n], rfl, writtenAt_none (by simp)⟩

theorem Dev.Fetched.refl (d : Dev) : d.Fetched d := ⟨[], by rw [List.append_nil], fun _ => rfl⟩

theorem Dev.issueReads_fetched (d : Dev) (a n : Nat) : d.Fetched (d.issueReads a n) := by
  unfold Dev.issueReads
  extract_lets k e
  have he : d.Fetched e := by
    unfold e
    split
    · exact d.emitRead_fetched _ _
    · exact .refl d
  split
  · exact he.trans (e.emitRead_fetched _ _)
  · exact he

/-- The offsets of `n` elements as host memory answers them. -/
def haulOffsets (n : Nat) (idx : List Byte) : List Int :=
  (List.range n).map (fun e => bufInt ((idx ++ List.replicate (4 * n - idx.length) 0#8).take (4 * n)) (4 * e) 4)

theorem Dev.haulIndex_host {d : Dev} {ws : List Nat} (h : insIdxDev ws = false) (r : HaulRun) (idx : List Byte) :
    d.haulIndex r ws idx 0 = (.ok (haulOffsets (insCount ws) idx), d.issueReads (insAddr ws 6) (4 * insCount ws)) := by
  rw [Dev.haulIndex, h, Dev.takeSide_host]
  rfl

theorem Dev.haulTransfer_indexed {d : Dev} {r : HaulRun} {ws : List Nat} (h2 : insOp ws = 2) (h : 0 < insCount ws * insElem ws) (hm : d.haulMayMove ws = true)
    (hst : r.stack = []) (hreq : insReqEn ws = false) (hidx : insIdxDev ws = false) (idx a b : List Byte) : d.haulTransfer r ws idx a b 0 =
      (d.issueReads (insAddr ws 6) (4 * insCount ws)).haulRunBursts ⟨r.count, haulXfer ws (haulOffsets (insCount ws) idx), a, b⟩ 0 (insCount ws * insElem ws) := by
  unfold Dev.haulTransfer haulXfer
  rw [if_pos h2]
  dsimp only
  rw [if_neg (by omega), hm, if_neg (by decide), if_pos h2, Dev.haulIndex_host hidx]
  dsimp only [HaulRun.count]
  rw [hst, hreq]
  rfl

theorem insOk_movex {ws : List Nat} (h : insOk ws = true) (hop : insOp ws = 2) : 1 ≤ insCount ws ∧ 1 ≤ insElem ws := by
  unfold insOk at h
  extract_lets op l s t zero burst at h
  rw [if_neg (by unfold op; omega)] at h
  split at h
  · exact Bool.noConfusion h
  · rw [if_neg (show ¬ (op = 1 ∨ op = 4) by unfold op; omega)] at h
    simp only [Bool.and_eq_true, decide_eq_true_eq] at h
    obtain ⟨⟨⟨⟨⟨⟨-, h1⟩, h2⟩, -⟩, -⟩, -⟩, -⟩ := h
    exact ⟨h1, h2⟩

theorem Xfer.At.elem_movex {x : Xfer} {ws : List Nat} {o : List Int} {n k : Nat} (h : x.At ws o n k) (h2 : insOp ws = 2) : x.elem = insElem ws := by
  obtain ⟨hi, -⟩ := h
  rw [Xfer.elem, hi, if_pos h2]

/-- The elements that a gathering MOVEX writes stand one behind the other. -/
theorem Xfer.At.dst_gather {x : Xfer} {ws : List Nat} {o : List Int} {n k : Nat} (h : x.At ws o n k) (h2 : insOp ws = 2) (hf : insFlag ws = false)
    (hk : k < n) (ha : insAddr ws 4 + n ≤ 2 ^ 64) : x.dst = insAddr ws 4 + k := by
  have hel := h.elem_movex h2
  obtain ⟨hi, -, -, -, hp, -⟩ := h
  rw [hel] at hp
  unfold Xfer.dst
  rw [hi, if_pos h2, hf, if_neg (by decide)]
  refine Eq.trans ?_ (wrap64_of_lt (show insAddr ws 4 + k < 2 ^ 64 by omega))
  rw [← hp]
  congr 1
  push_cast
  ring

theorem wrap64_add {z : Int} {k : Nat} (h : wrap64 z + k < 2 ^ 64) : wrap64 (z + k) = wrap64 z + k := by
  unfold wrap64 unsigned at *
  omega

/-- A scattering MOVEX of one element. -/
theorem Xfer.At.dst_scatter {x : Xfer} {ws : List Nat} {o : List Int} {n k : Nat} (h : x.At ws o n k) (h2 : insOp ws = 2) (hf : insFlag ws = true)
    (hn : n = x.elem * 1) (hk : k < n) {p : Nat} (hp : p = wrap64 (insAddr ws 4 + o.getD 0 0)) (ha : p + n ≤ 2 ^ 64) : x.dst = p + k := by
  obtain ⟨he, hoff⟩ := h.zero hn hk
  obtain ⟨hi, -, ho, -⟩ := h
  unfold Xfer.dst
  rw [hi, if_pos h2, hf, if_pos rfl, he, ho, hoff, hp]
  exact wrap64_add (by omega)

theorem haulOffsets_one {idx : List Byte} (h : idx.length = 4) : (haulOffsets 1 idx).getD 0 0 = bufInt idx 0 4 := by
  unfold haulOffsets
  rw [h, show 4 * 1 - 4 = 0 from rfl, List.replicate_zero, List.append_nil, List.take_of_length_le (by omega)]
  rfl

/-! ## CMP (R332) -/

/-- The places below `k` where two lists of bytes differ. -/
def diffsBelow (data b : List Byte) (k : Nat) : List Nat := (List.range k).filter (fun i => decide (data.getD i 0 ≠ b.getD i 0))

/-- Program `r` after its CMP at `a` has met the differences `l`. -/
def HaulRun.compared (r : HaulRun) (a : Nat) (l : List Nat) : HaulRun :=
  { r with cmpCnt := min (r.cmpCnt + l.length) 0xFFFFFFFF,
           cmpAddr := match r.cmpAddr with
             | some x => some x
             | none => l.head?.map (fun i => a + i) }

theorem HaulRun.compared_nil {r : HaulRun} (h : r.cmpCnt ≤ 0xFFFFFFFF) (a : Nat) : r.compared a [] = r := by
  unfold HaulRun.compared
  rw [List.length_nil, Nat.add_zero, Nat.min_eq_left h]
  cases hr : r.cmpAddr with
  | none =>
    cases r
    cases hr
    rfl
  | some x =>
    cases r
    cases hr
    rfl

theorem diffsBelow_add (data b : List Byte) (k n : Nat) : diffsBelow data b (k + n) =
    diffsBelow data b k ++ ((List.range n).filter (fun i => decide (data.getD (k + i) 0 ≠ b.getD (k + i) 0))).map (k + ·) := by
  unfold diffsBelow
  rw [List.range_add, List.filter_append, List.filter_map]
  rfl

/-- A burst's comparison goes on from the differences before it. -/
theorem HaulRun.compare_compared (r : HaulRun) {a k n : Nat} {data b p q : List Byte} (hp : p.length = n) (hpd : ∀ i, p.getD i 0 = data.getD (k + i) 0 ∨ n ≤ i)
    (hq : ∀ i, q.getD i 0 = b.getD (k + i) 0 ∨ n ≤ i) (ha : a + k + n ≤ 2 ^ 64) :
    (r.compared a (diffsBelow data b k)).compare (a + k) p q = (r.compared a (diffsBelow data b (k + n)),
      !((List.range n).filter (fun i => decide (data.getD (k + i) 0 ≠ b.getD (k + i) 0))).isEmpty) := by
  have hbad : (List.range p.length).filter (fun i => decide (p.getD i 0 ≠ q.getD i 0)) =
      (List.range n).filter (fun i => decide (data.getD (k + i) 0 ≠ b.getD (k + i) 0)) := by
    rw [hp]
    refine List.filter_congr fun i hi => ?_
    rw [List.mem_range] at hi
    rw [(hpd i).resolve_right (by omega), (hq i).resolve_right (by omega)]
  unfold HaulRun.compare
  rw [hbad, diffsBelow_add]
  obtain ⟨l, hl⟩ : ∃ l, l = (List.range n).filter (fun i => decide (data.getD (k + i) 0 ≠ b.getD (k + i) 0)) := ⟨_, rfl⟩
  have hlt : ∀ i ∈ l, i < n := fun i hi => by
    rw [hl] at hi
    exact List.mem_range.1 (List.mem_of_mem_filter hi)
  rw [← hl]
  clear hbad hl hp hpd hq
  generalize diffsBelow data b k = m
  refine Prod.ext ?_ rfl
  unfold HaulRun.compared
  dsimp only
  congr 1
  · rw [List.length_append, List.length_map]
    omega
  · cases r.cmpAddr with
    | some x => rfl
    | none =>
      cases m with
      | cons x t => rfl
      | nil =>
        cases l with
        | nil => rfl
        | cons i t =>
          have hi := hlt i List.mem_cons_self
          show some ((a + k + i) % 2 ^ 64) = some (a + (k + i))
          rw [Nat.mod_eq_of_lt (by omega), Nat.add_assoc]

/-- A burst of CMP between two places in host memory. -/
theorem Dev.haulBurst_cmp {d : Dev} {w : HaulFlow} (hop : insOp w.x.ins = 4) (hsrc : insSrcDev w.x.ins = false) (hdst : insDstDev w.x.ins = false)
    {m : HaulRun × Bool} (hm : m = w.run.compare w.x.src ((w.a ++ List.replicate (w.x.burst - w.a.length) 0#8).take w.x.burst)
      ((w.b ++ List.replicate (w.x.burst - w.b.length) 0#8).take w.x.burst)) :
    d.haulBurst w 0 = (if m.2 && insFlag w.x.ins then .error (m.1, m.1.endAt 8 (w.x.left - w.x.burst))
      else .ok { run := m.1, x := w.x.step w.x.burst w.x.carry, a := w.a.drop w.x.burst, b := w.b.drop w.x.burst },
      (d.issueReads w.x.src w.x.burst).issueReads w.x.dst w.x.burst) := by
  have hbad : ¬ (w.x.off = 0 ∧ w.x.badIndex = true) := by simp [Xfer.badIndex, hop]
  rw [Dev.haulBurst]
  dsimp only
  rw [if_neg hbad, if_neg (by omega), hsrc, Dev.takeSide_host]
  dsimp only
  rw [if_pos hop, hdst, Dev.takeSide_host]
  dsimp only
  rw [← hm]
  split <;> rfl

/-- The place a CMP has reached: nothing but its counts of program `r` has changed, and STOP has met no difference yet. -/
def HaulCompares (d0 : Dev) (r : HaulRun) (ws : List Nat) (data b : List Byte) (k : Nat) (d : Dev) (w : HaulFlow) : Prop :=
  w.run = r.compared (insAddr ws 2) (diffsBelow data b k) ∧ w.x.At ws [] (insWord ws 1) k ∧ d0.Sends d (fun _ => none) ∧
  (w.a = data.drop k ∧ w.b = b.drop k) ∧ (insFlag ws = true → diffsBelow data b k = [])

/-- A CMP that STOP has ended at a difference. -/
def HaulMismatch (d0 : Dev) (r : HaulRun) (ws : List Nat) (data b : List Byte) (x : HaulRun × ProgEnd) (d : Dev) : Prop :=
  (x.1.ch = r.ch ∧ x.1.executed = r.executed) ∧ (x.2.code = 8 ∧ x.2.addr = pcAddr r.pc) ∧ d0.Sends d (fun _ => none) ∧ insFlag ws = true ∧
  diffsBelow data b (insWord ws 1) ≠ []

theorem diffsBelow_ne_nil {data b : List Byte} {k n : Nat} (h : diffsBelow data b k ≠ []) (hk : k ≤ n) : diffsBelow data b n ≠ [] := by
  obtain ⟨m, rfl⟩ := Nat.exists_eq_add_of_le hk
  rw [diffsBelow_add]
  exact fun hnil => h (List.append_eq_nil_iff.1 hnil).1

theorem HaulCompares.step {d0 d : Dev} {r : HaulRun} {ws : List Nat} {data b : List Byte} {k : Nat} {w : HaulFlow} (hop : insOp ws = 4)
    (hsrc : insSrcDev ws = false) (hdst : insDstDev ws = false) (ha : insAddr ws 2 + insWord ws 1 ≤ 2 ^ 64) (h : HaulCompares d0 r ws data b k d w)
    (hk : k < insWord ws 1) : (∃ n w' e, 0 < n ∧ d.haulBurst w 0 = (.ok w', e) ∧ HaulCompares d0 r ws data b (k + n) e w') ∨
      (∃ x e, d.haulBurst w 0 = (.error x, e) ∧ HaulMismatch d0 r ws data b x e) := by
  obtain ⟨hrun, hat, hs, ⟨hwa, hwb⟩, hflag⟩ := h
  obtain ⟨hi, -, -, -, -, hof⟩ := id hat
  have hel : insWord ws 1 = w.x.elem * 1 := by
    rw [Nat.mul_one, Xfer.elem, hi, hop]
    rfl
  have hsw : w.x.src = insAddr ws 2 + k := hat.src_plain (by omega) hel hk ha
  obtain ⟨hb0, -⟩ := Xfer.burst_pos hof
  obtain ⟨hat', hle⟩ := (hel ▸ hat : w.x.At ws [] (w.x.elem * 1) k).step (by omega) w.x.carry
  rw [← hel] at hat' hle
  have hs' : d0.Sends ((d.issueReads w.x.src w.x.burst).issueReads w.x.dst w.x.burst) (fun _ => none) :=
    (hs.after (d.issueReads_sends _ _)).after (Dev.issueReads_sends _ _ _)
  have htake : ∀ l u : List Byte, u = l.drop k → ∀ i, ((u ++ List.replicate (w.x.burst - u.length) 0#8).take w.x.burst).getD i 0 = l.getD (k + i) 0 ∨
      w.x.burst ≤ i := fun l u hu i => by
    by_cases hin : w.x.burst ≤ i
    · exact .inr hin
    · have hlen := takeHost_length u w.x.burst
      rw [List.getD_eq_getElem _ _ (by omega), takeHost_getElem, hu, getD_drop]
      exact .inl rfl
  have hcmp := r.compare_compared (a := insAddr ws 2) (takeHost_length w.a w.x.burst) (htake data w.a hwa) (htake b w.b hwb) (by omega)
  rw [← hrun, ← hsw] at hcmp
  have hburst := Dev.haulBurst_cmp (d := d) (w := w) (by rw [hi]; exact hop) (by rw [hi]; exact hsrc) (by rw [hi]; exact hdst) hcmp.symm
  have hdiff := diffsBelow_add data b k w.x.burst
  obtain ⟨l, hl⟩ : ∃ l, l = (List.range w.x.burst).filter (fun i => decide (data.getD (k + i) 0 ≠ b.getD (k + i) 0)) := ⟨_, rfl⟩
  rw [← hl] at hburst hdiff
  dsimp only at hburst
  rw [hi] at hburst
  by_cases hstop : l ≠ [] ∧ insFlag ws = true
  case pos =>
    obtain ⟨hne, hf⟩ := hstop
    rw [if_pos (by rw [hf]; simp [hne])] at hburst
    refine .inr ⟨_, _, hburst, ⟨rfl, rfl⟩, ⟨rfl, rfl⟩, hs', hf, diffsBelow_ne_nil (k := k + w.x.burst) ?_ hle⟩
    rw [hdiff]
    exact fun hnil => hne (List.map_eq_nil_iff.1 (List.append_eq_nil_iff.1 hnil).2)
  case neg =>
    rw [if_neg (by simpa using hstop)] at hburst
    refine .inl ⟨_, _, _, hb0, hburst, rfl, hat', hs', ⟨?_, ?_⟩, fun hf => ?_⟩
    · show w.a.drop _ = _
      rw [hwa, List.drop_drop]
    · show w.b.drop _ = _
      rw [hwb, List.drop_drop]
    · rw [hdiff, hflag hf, show l = [] from not_not.1 fun hne => hstop ⟨hne, hf⟩]
      rfl

/-- All bursts of a CMP. -/
theorem Dev.cmp_bursts {d : Dev} {r : HaulRun} {ws : List Nat} {data b : List Byte} (hop : insOp ws = 4) (hsrc : insSrcDev ws = false)
    (hdst : insDstDev ws = false) (hlen : 0 < insWord ws 1) (ha : insAddr ws 2 + insWord ws 1 ≤ 2 ^ 64) (hcnt : r.cmpCnt ≤ 0xFFFFFFFF)
    (hrun : d.haul.run ≠ none) :
    (∃ w e, (d.setHaulUse 1).haulBursts ⟨r, haulXfer ws [], data, b⟩ 0 (insWord ws 1) = (.ok w, e) ∧ HaulCompares d r ws data b (insWord ws 1) e w) ∨
    (∃ x e, (d.setHaulUse 1).haulBursts ⟨r, haulXfer ws [], data, b⟩ 0 (insWord ws 1) = (.error x, e) ∧ HaulMismatch d r ws data b x e) := by
  refine Dev.haulBursts_ends (P := HaulCompares d r ws data b) (Q := HaulMismatch d r ws data b) (fun k e w h => ?_)
    (fun k e w h hk => h.step hop hsrc hdst ha hk) _ 0 _ _ ?_ (by omega)
  · obtain ⟨-, ⟨-, -, -, hl, -⟩, ⟨hh, -⟩, -⟩ := h
    exact ⟨hl, by rw [hh]; exact hrun⟩
  · have hel : (haulXfer ws []).elem = insWord ws 1 := by
      rw [Xfer.elem]
      exact if_neg (show insOp ws ≠ 2 by omega)
    have hleft : (haulXfer ws []).left = insWord ws 1 := if_neg (show insOp ws ≠ 2 by omega)
    have hat := haulXfer_at (ws := ws) [] (c := 1) (by rw [hel, hleft, Nat.mul_one]) (by omega)
    rw [hel, Nat.mul_one] at hat
    exact ⟨(r.compared_nil hcnt _).symm, hat, d.setHaulUse_sends 1, ⟨rfl, rfl⟩, fun _ => rfl⟩

theorem Dev.cmp_delivers {d : Dev} {r : HaulRun} {ws : List Nat} {data b : List Byte} (hop : insOp ws = 4) (hsrc : insSrcDev ws = false)
    (hdst : insDstDev ws = false) (hlen : 0 < insWord ws 1) (ha : insAddr ws 2 + insWord ws 1 ≤ 2 ^ 64) (hcnt : r.cmpCnt ≤ 0xFFFFFFFF)
    (hrun : d.haul.run ≠ none) (hbud : r.executed < d.haulBudget r.ch) (hgo : diffsBelow data b (insWord ws 1) = [] ∨ insFlag ws = false) {g : Dev}
    (hg : g = d.haulRunBursts ⟨r, haulXfer ws [], data, b⟩ 0 (insWord ws 1)) :
    d.Delivers g { r.compared (insAddr ws 2) (diffsBelow data b (insWord ws 1)) with pc := (r.pc + 32) % 2 ^ 64, waiting := false, xfer := none }
      (fun _ => none) := by
  rcases Dev.cmp_bursts hop hsrc hdst hlen ha hcnt hrun with ⟨w, e, hb, hr, ⟨-, -, -, hl, -⟩, hs, -, -⟩ | ⟨x, e, -, -, -, -, hf, hne⟩
  · have hdone := Dev.haulRunBursts_done hb hs hrun (by omega) (by rw [hr]; exact hbud) hg
    rw [hr] at hdone
    exact hdone
  · rcases hgo with h | h
    · exact absurd h hne
    · rw [h] at hf
      exact Bool.noConfusion hf

/-! ## The end of a program at a difference (R336) -/

/-- What a channel's registers show of an ended program. -/
def Dev.latchEnd (d : Dev) (r : HaulRun) (e : ProgEnd) : Dev :=
  let ch := r.ch
  let d := ((((d.setF (F.HAU_CH_STATUS.CODE ch) e.code).setF (F.HAU_CH_STATUS.CAUSE ch) e.cause).setF (F.HAU_CH_STATUS.DIR ch)
    e.dir).setF (F.HAU_CH_STATUS.SPACE ch) e.space).setF (F.HAU_CH_RESIDUE.VALUE ch) e.residue
  let d := ((d.set64 (R.HAU_CH_ADDR_LO ch) (R.HAU_CH_ADDR_HI ch) e.addr).setF (F.HAU_CH_CMP_CNT.VALUE ch) r.cmpCnt).setF
    (F.HAU_CH_EXEC.VALUE ch) r.executed
  d.set64 (R.HAU_CH_CMP_ADDR_LO ch) (R.HAU_CH_CMP_ADDR_HI ch) (r.cmpAddr.getD 0)

theorem Dev.set64_haul (d : Dev) (lo hi v : Nat) : (d.set64 lo hi v).haul = d.haul := by
  rw [Dev.set64, Dev.setReg_haul, Dev.setReg_haul]

theorem Dev.reg_set64_ne (d : Dev) {lo hi a : Nat} (v : Nat) (hl : a ≠ lo) (hh : a ≠ hi) : (d.set64 lo hi v).reg a = d.reg a := by
  rw [Dev.set64, Dev.reg_setReg_ne _ _ hh, Dev.reg_setReg_ne _ _ hl]

theorem R.hauCh_apart (ch : Nat) : (R.HAU_CH_STATUS ch ≠ R.HAU_CH_RESIDUE ch ∧ R.HAU_CH_STATUS ch ≠ R.HAU_CH_ADDR_LO ch ∧
    R.HAU_CH_STATUS ch ≠ R.HAU_CH_ADDR_HI ch ∧ R.HAU_CH_STATUS ch ≠ R.HAU_CH_CMP_CNT ch ∧ R.HAU_CH_STATUS ch ≠ R.HAU_CH_EXEC ch ∧
    R.HAU_CH_STATUS ch ≠ R.HAU_CH_CMP_ADDR_LO ch ∧ R.HAU_CH_STATUS ch ≠ R.HAU_CH_CMP_ADDR_HI ch ∧ R.HAU_CH_STATUS ch ≠ R.TOP_INT_STATUS) ∧
    (R.HAU_CH_EXEC ch ≠ R.HAU_CH_CMP_ADDR_LO ch ∧ R.HAU_CH_EXEC ch ≠ R.HAU_CH_CMP_ADDR_HI ch ∧ R.HAU_CH_EXEC ch ≠ R.TOP_INT_STATUS) := by
  unfold R.HAU_CH_STATUS R.HAU_CH_RESIDUE R.HAU_CH_ADDR_LO R.HAU_CH_ADDR_HI R.HAU_CH_CMP_CNT R.HAU_CH_EXEC R.HAU_CH_CMP_ADDR_LO R.HAU_CH_CMP_ADDR_HI
    R.TOP_INT_STATUS
  omega

theorem R.hauChAddr_apart (ch : Nat) : R.HAU_CH_ADDR_LO ch ≠ R.HAU_CH_ADDR_HI ch ∧ ∀ a, a = R.HAU_CH_ADDR_LO ch ∨ a = R.HAU_CH_ADDR_HI ch →
    a ≠ R.HAU_CH_CMP_CNT ch ∧ a ≠ R.HAU_CH_EXEC ch ∧ a ≠ R.HAU_CH_CMP_ADDR_LO ch ∧ a ≠ R.HAU_CH_CMP_ADDR_HI ch ∧ a ≠ R.TOP_INT_STATUS := by
  refine ⟨?_, fun a ha => ?_⟩
  · unfold R.HAU_CH_ADDR_LO R.HAU_CH_ADDR_HI
    omega
  · unfold R.HAU_CH_ADDR_LO R.HAU_CH_ADDR_HI at ha
    unfold R.HAU_CH_CMP_CNT R.HAU_CH_EXEC R.HAU_CH_CMP_ADDR_LO R.HAU_CH_CMP_ADDR_HI R.TOP_INT_STATUS
    omega

theorem Dev.latchEnd_spec (d : Dev) (r : HaulRun) (e : ProgEnd) {m : Dev} (hm : m = d.latchEnd r e) : m.haul = d.haul ∧
    m.f (F.HAU_CH_STATUS.CODE r.ch) = e.code % 256 ∧ m.f (F.HAU_CH_EXEC.VALUE r.ch) = r.executed % 2 ^ 32 ∧
    m.r64 (R.HAU_CH_ADDR_LO r.ch) (R.HAU_CH_ADDR_HI r.ch) = e.addr % 2 ^ 64 := by
  obtain ⟨⟨s1, s2, s3, s4, s5, s6, s7, -⟩, x1, x2, -⟩ := R.hauCh_apart r.ch
  obtain ⟨hlh, hadr⟩ := R.hauChAddr_apart r.ch
  unfold Dev.latchEnd at hm
  extract_lets ch d1 d2 at hm
  obtain ⟨c, hc⟩ : ∃ c, c = d.setF (F.HAU_CH_STATUS.CODE ch) e.code := ⟨_, rfl⟩
  have hd1h : d1.haul = d.haul := by simp only [d1, Dev.setF_haul]
  have hcode : d1.f (F.HAU_CH_STATUS.CODE r.ch) = e.code % 256 := by
    have h0 : c.f (F.HAU_CH_STATUS.CODE r.ch) = e.code % 256 := hc ▸ Dev.f_same _ _ _ _ _ (Nat.le_of_ble_eq_true rfl) (Nat.le_of_ble_eq_true rfl)
    unfold d1
    rw [← hc]
    refine (Dev.f_setF_ne _ _ _ _ s1).trans ?_
    refine (Dev.f_apart _ _ _ _ _ _ _ (Nat.le_of_ble_eq_true rfl) (Nat.le_of_ble_eq_true rfl) (.inl (Nat.le_of_ble_eq_true rfl))).trans ?_
    refine (Dev.f_apart _ _ _ _ _ _ _ (Nat.le_of_ble_eq_true rfl) (Nat.le_of_ble_eq_true rfl) (.inl (Nat.le_of_ble_eq_true rfl))).trans ?_
    exact (Dev.f_apart _ _ _ _ _ _ _ (Nat.le_of_ble_eq_true rfl) (Nat.le_of_ble_eq_true rfl) (.inl (Nat.le_of_ble_eq_true rfl))).trans h0
  clear hc
  clear_value d1
  obtain ⟨k, hk⟩ : ∃ k, k = d1.set64 (R.HAU_CH_ADDR_LO ch) (R.HAU_CH_ADDR_HI ch) e.addr := ⟨_, rfl⟩
  have hkr : k.r64 (R.HAU_CH_ADDR_LO r.ch) (R.HAU_CH_ADDR_HI r.ch) = e.addr % 2 ^ 64 := hk ▸ Dev.r64_set64 _ _ _ _ hlh
  have hks : k.reg (R.HAU_CH_STATUS r.ch) = d1.reg (R.HAU_CH_STATUS r.ch) := hk ▸ Dev.reg_set64_ne _ _ s2 s3
  have hkh : k.haul = d1.haul := hk ▸ Dev.set64_haul _ _ _ _
  obtain ⟨j, hj⟩ : ∃ j, j = k.setF (F.HAU_CH_CMP_CNT.VALUE ch) r.cmpCnt := ⟨_, rfl⟩
  have hd2 : d2 = j.setF (F.HAU_CH_EXEC.VALUE ch) r.executed := by rw [hj, hk]
  have hd2r : ∀ a, a ≠ R.HAU_CH_CMP_CNT r.ch → a ≠ R.HAU_CH_EXEC r.ch → d2.reg a = k.reg a := fun a h1 h2 => by
    rw [hd2, Dev.reg_setF_ne _ _ _ h2, hj, Dev.reg_setF_ne _ _ _ h1]
  have hd2h : d2.haul = k.haul := by rw [hd2, Dev.setF_haul, hj, Dev.setF_haul]
  have hexec : d2.f (F.HAU_CH_EXEC.VALUE r.ch) = r.executed % 2 ^ 32 := hd2 ▸ Dev.f_same _ _ _ _ _ (Nat.le_of_ble_eq_true rfl) (Nat.le_of_ble_eq_true rfl)
  clear_value d2
  have hmr : ∀ a, a ≠ R.HAU_CH_CMP_ADDR_LO r.ch → a ≠ R.HAU_CH_CMP_ADDR_HI r.ch → m.reg a = d2.reg a := fun a h1 h2 => by
    rw [hm, Dev.reg_set64_ne _ _ h1 h2]
  have hadrs : ∀ a, a = R.HAU_CH_ADDR_LO r.ch ∨ a = R.HAU_CH_ADDR_HI r.ch → m.reg a = k.reg a := fun a ha => by
    obtain ⟨h1, h2, h3, h4, -⟩ := hadr a ha
    rw [hmr a h3 h4, hd2r a h1 h2]
  refine ⟨?_, ?_, (Dev.f_reg (hmr _ x1 x2)).trans hexec, ?_⟩
  · rw [hm, Dev.set64_haul, hd2h, hkh, hd1h]
  · refine (Dev.f_reg ?_).trans hcode
    rw [hmr _ s6 s7, hd2r _ s4 s5, hks]
  · unfold Dev.r64 at hkr ⊢
    rw [hadrs _ (.inl rfl), hadrs _ (.inr rfl), hkr]

theorem Dev.reg_irq_ne (d : Dev) (b : Nat) {a : Nat} (h : a ≠ R.TOP_INT_STATUS) : (d.irq b).reg a = d.reg a := by
  have hirq : (d.irq b).reg a = (d.setF ⟨R.TOP_INT_STATUS, b, b⟩ 1).reg a := congrArg (fun rs => spGet regReset rs a) (d.irq_regs b)
  exact hirq.trans (Dev.reg_setF_ne _ _ _ h)

theorem Dev.endProgram_mismatch {d : Dev} {r : HaulRun} {e : ProgEnd} (hr : d.haul.run = some r) (he : e.code = 8) (pulse : Dev → Nat → Dev) {m : Dev}
    (hm : m = (d.setHaulRun none).latchEnd r e) : d.endProgram e pulse =
      (if m.on (F.HAU_CH_CFG.WB_EN r.ch) && m.canIssue then m.emit (.hostWrite r.wb (littleWords (statusBlock r e)) false) else m).irq
        (intBitOf (R.HAU_CH_CFG r.ch)) := by
  have h1 : ¬ e.code = 1 := by omega
  have h2 : ¬ e.code = 2 := by omega
  have h3 : ¬ (e.code = 3 ∧ r.load.isNone = true) := by omega
  unfold Dev.latchEnd at hm
  rw [Dev.endProgram, hr]
  dsimp only
  rw [if_neg h1, if_neg h2, if_neg h3, hm]

/-- A program that ends with MISMATCH. -/
theorem Dev.haulEnd_mismatch (d : Dev) {r : HaulRun} {e : ProgEnd} (he : e.code = 8) {g : Dev} (hg : g = d.haulEnd r e) :
    g.haul.run = none ∧ g.f (F.HAU_CH_STATUS.CODE r.ch) = 8 ∧ g.f (F.HAU_CH_EXEC.VALUE r.ch) = r.executed % 2 ^ 32 ∧
    g.r64 (R.HAU_CH_ADDR_LO r.ch) (R.HAU_CH_ADDR_HI r.ch) = e.addr % 2 ^ 64 := by
  obtain ⟨m, hm⟩ : ∃ m, m = ((d.setHaulRun (some r)).setHaulRun none).latchEnd r e := ⟨_, rfl⟩
  obtain ⟨hh, hcode, hexec, hadr⟩ := Dev.latchEnd_spec _ r e hm
  have heq : g = (if m.on (F.HAU_CH_CFG.WB_EN r.ch) && m.canIssue then m.emit (.hostWrite r.wb (littleWords (statusBlock r e)) false) else m).irq
      (intBitOf (R.HAU_CH_CFG r.ch)) := by
    rw [hg, Dev.haulEnd]
    exact Dev.endProgram_mismatch rfl he _ hm
  obtain ⟨n, hn⟩ : ∃ n, n = if m.on (F.HAU_CH_CFG.WB_EN r.ch) && m.canIssue then m.emit (.hostWrite r.wb (littleWords (statusBlock r e)) false) else m := ⟨_, rfl⟩
  have hnr : ∀ a, n.reg a = m.reg a := fun a => by
    rw [hn]
    split <;> rfl
  have hnh : n.haul = m.haul := by
    rw [hn]
    split <;> rfl
  rw [← hn] at heq
  clear hn
  obtain ⟨⟨-, -, -, -, -, -, -, s8⟩, -, -, x3⟩ := R.hauCh_apart r.ch
  obtain ⟨-, ha⟩ := R.hauChAddr_apart r.ch
  have hgr : ∀ a, a ≠ R.TOP_INT_STATUS → g.reg a = m.reg a := fun a h => by rw [heq, Dev.reg_irq_ne _ _ h, hnr]
  refine ⟨?_, ?_, (Dev.f_reg (hgr _ x3)).trans hexec, ?_⟩
  · rw [heq, Dev.irq_haul, hnh, hh]
    rfl
  · rw [Dev.f_reg (y := F.HAU_CH_STATUS.CODE r.ch) (hgr _ s8), hcode, he]
  · unfold Dev.r64 at hadr ⊢
    rw [hgr _ (ha _ (.inl rfl)).2.2.2.2, hgr _ (ha _ (.inr rfl)).2.2.2.2, hadr]

theorem Dev.cmp_stops {d : Dev} {r : HaulRun} {ws : List Nat} {data b : List Byte} (hop : insOp ws = 4) (hsrc : insSrcDev ws = false)
    (hdst : insDstDev ws = false) (hlen : 0 < insWord ws 1) (ha : insAddr ws 2 + insWord ws 1 ≤ 2 ^ 64) (hcnt : r.cmpCnt ≤ 0xFFFFFFFF)
    (hrun : d.haul.run ≠ none) (hne : diffsBelow data b (insWord ws 1) ≠ []) (hf : insFlag ws = true) :
    (d.haulRunBursts ⟨r, haulXfer ws [], data, b⟩ 0 (insWord ws 1)).ProgramEnded r 8 r.executed := by
  rcases Dev.cmp_bursts hop hsrc hdst hlen ha hcnt hrun with ⟨w, e, -, -, -, -, -, hnil⟩ | ⟨x, e, hb, ⟨hch, hex⟩, ⟨hcode, haddr⟩, hs, -, -⟩
  · exact absurd (hnil hf) hne
  · obtain ⟨m, hm⟩ : ∃ m, m = if e.sump.haul = 0 then e else e.setHaulUse 0 := ⟨_, rfl⟩
    have hsm : d.Sends m (fun _ => none) := by
      rw [hm]
      split
      · exact hs
      · exact hs.then (e.setHaulUse_sends 0)
    obtain ⟨hh, -⟩ := hsm
    have hsome : m.haul.run.isNone = false := by
      rw [hh]
      cases hd : d.haul.run with
      | none => exact absurd hd hrun
      | some r => rfl
    have heq : d.haulRunBursts ⟨r, haulXfer ws [], data, b⟩ 0 (insWord ws 1) = m.haulEnd { x.1 with xfer := none } x.2 := by
      rw [Dev.haulRunBursts, hb]
      dsimp only
      rw [← hm, if_neg (by simp [hsome])]
    rw [heq]
    have hend := m.haulEnd_mismatch (r := { x.1 with xfer := none }) hcode rfl
    rw [show ({ x.1 with xfer := none } : HaulRun).ch = r.ch from hch, show ({ x.1 with xfer := none } : HaulRun).executed = r.executed from hex, haddr] at hend
    exact hend

/-! ## A request's burst (R328) -/

theorem Dev.haulRequested_idle {d : Dev} {r : HaulRun} {x : Xfer} (hr : d.haul.run = some r) (hx : r.xfer = some x)
    (h : d.lineAsserted r (insLine x.ins) x.burst = false) (a b : List Byte) : d.haulRequested a b = d := by
  rw [Dev.haulRequested, hr]
  dsimp only
  rw [hx]
  dsimp only
  rw [if_pos (by simp [h])]

theorem Dev.haulRequested_fill {d : Dev} {r : HaulRun} {x : Xfer} (haw : d.awake = true) (hr : d.haul.run = some r) (hx : r.xfer = some x)
    (h : d.lineAsserted r (insLine x.ins) x.burst = true) (hm : d.haulMayMove x.ins = true) (hop : insOp x.ins = 3) (hdst : insDstDev x.ins = false)
    (hb : x.burst < x.left) (a b : List Byte) : d.Delivers (d.haulRequested a b)
      { r.consume (insLine x.ins) with xfer := some (x.step x.burst []), waiting := true }
      (spanBytes x.dst x.burst (fun p => BitVec.ofNat 8 (insAddr x.ins 2 / 256 ^ (p % 8)))) := by
  obtain ⟨w, hw⟩ : ∃ w : HaulFlow, w = ⟨r.consume (insLine x.ins), x, a, b⟩ := ⟨_, rfl⟩
  have hwx : w.x = x := hw ▸ rfl
  have heq : d.haulRequested a b = d.haulRunBursts w 0 1 := by
    rw [Dev.haulRequested, hr]
    dsimp only
    rw [hx]
    dsimp only
    rw [if_neg (by simp [haw, h, hm]), hw]
  have hburst := Dev.haulBurst_fill (d := d.setHaulUse 1) (w := w) (by rw [hwx]; exact hop) (by rw [hwx]; exact hdst)
  rw [hwx] at hburst
  obtain ⟨e, he⟩ : ∃ e, e = (d.setHaulUse 1).emit (.hostWrite x.dst
      ((List.range x.burst).map (fun i => BitVec.ofNat 8 (insAddr x.ins 2 / 256 ^ ((x.dst + i) % 8)))) false) := ⟨_, rfl⟩
  rw [← he] at hburst
  have hstart := d.setHaulUse_sends 1
  have hs : d.Sends e (spanBytes x.dst x.burst (fun p => BitVec.ofNat 8 (insAddr x.ins 2 / 256 ^ (p % 8)))) := by
    rw [he]
    refine hstart.after (Dev.write_sends _ (by rw [List.length_map, List.length_range]) fun i hi => ?_)
    rw [List.getElem_map, List.getElem_range]
  have hone : (d.setHaulUse 1).haulBursts w 0 1 = (.ok { w with x := x.step x.burst [] }, e) := by
    rw [Dev.haulBursts, hwx, hstart.1, hr, if_neg (by simp; omega), hburst]
    rfl
  obtain ⟨m, hm⟩ : ∃ m, m = if e.sump.haul = 0 then e else e.setHaulUse 0 := ⟨_, rfl⟩
  have hsm : d.Sends m (spanBytes x.dst x.burst (fun p => BitVec.ofNat 8 (insAddr x.ins 2 / 256 ^ (p % 8)))) := by
    rw [hm]
    split
    · exact hs
    · exact hs.then (e.setHaulUse_sends 0)
  obtain ⟨hh, -, -, -, hout⟩ := hsm
  have hleft : (x.step x.burst []).left ≠ 0 := by
    show x.left - x.burst ≠ 0
    omega
  have hfin : d.haulRequested a b = m.setHaulRun (some { r.consume (insLine x.ins) with xfer := some (x.step x.burst []), waiting := true }) := by
    rw [heq, Dev.haulRunBursts, hone]
    dsimp only
    rw [← hm, if_neg (by simp [hh, hr]), if_neg hleft, hw]
  rw [hfin]
  exact ⟨by rw [← hh]; rfl, hout⟩

/-! ## The instructions, from a state that runs them -/

/-- What the device gives a transfer that an instruction of `r` begins, after the fetch `m`. -/
theorem Dev.Runs.start {d m : Dev} {r : HaulRun} {ins : List Word} {ws : List Nat} (h : d.Runs r ins ws) (hm : d.Fetched m) :
    m.haul.run ≠ none ∧ r.executed + 1 < m.haulBudget r.ch ∧ m.awake = true := by
  obtain ⟨hrun, haw, -, -, -, -, -, -, hb⟩ := h
  have hs := hm.sends
  obtain ⟨hh, -, -, hbud, -⟩ := id hs
  exact ⟨by rw [hh, hrun]; exact Option.some_ne_none _, by rw [hbud]; exact hb, hs.awake.trans haw⟩

theorem Dev.haulMove_runs {d : Dev} {r : HaulRun} {ins : List Word} {ws : List Nat} (h : d.Runs r ins ws) (hop : insOp ws = 1) (data : List Byte) :
    ∃ m, d.Fetched m ∧ d.haulMove ins data = m.haulTransfer { r with waiting := false } ws [] data [] 0 := by
  obtain ⟨m, hm, hf⟩ := Dev.haulIns_runs h hop (by decide) (by decide)
  obtain ⟨hrun, -, hload, -⟩ := h
  have hl : d.haulLoad 0 data = d := by
    rw [Dev.haulLoad, hrun]
    dsimp only
    rw [hload]
  exact ⟨m, hm, by rw [Dev.haulMove, hl, hf]⟩

theorem Dev.haulCmp_runs {d : Dev} {r : HaulRun} {ins : List Word} {ws : List Nat} (h : d.Runs r ins ws) (hop : insOp ws = 4) (data b : List Byte) :
    ∃ m, d.Fetched m ∧ d.haulCmp ins data b = m.haulTransfer { r with waiting := false } ws [] data b 0 := by
  obtain ⟨m, hm, hf⟩ := Dev.haulIns_runs h hop (by decide) (by decide)
  obtain ⟨hrun, -, hload, -⟩ := h
  refine ⟨m, hm, ?_⟩
  rw [Dev.haulCmp, hrun]
  dsimp only
  rw [if_neg (by simp [hload])]
  exact hf _

/-- A transfer of length 0 only counts. -/
theorem Dev.Runs.transfer_none {d m : Dev} {r : HaulRun} {ins : List Word} {ws : List Nat} (h : d.Runs r ins ws) (hm : d.Fetched m) (h2 : insOp ws ≠ 2)
    (h0 : insWord ws 1 = 0) (idx a b : List Byte) : d.HaulAt (m.haulTransfer { r with waiting := false } ws idx a b 0) (r.on (r.pc + 32)) := by
  obtain ⟨-, hbud, -⟩ := h.start hm
  have hgo : m.haulTransfer { r with waiting := false } ws idx a b 0 = m.setHaulRun (some (r.on (r.pc + 32))) := by
    rw [Dev.haulTransfer_none h2 h0]
    exact if_neg (show ¬ m.haulBudget r.ch ≤ r.executed + 1 by omega)
  rw [hgo]
  exact hm.haulAt _

/-- The bytes from `p` on, as an obligation states them. -/
theorem Dev.Delivers.span {d g : Dev} {r : HaulRun} {p n : Nat} {val val' : Nat → Byte} (h : d.Delivers g r (spanBytes p n val))
    (hv : ∀ a, p ≤ a → a < p + n → val a = val' a) :
    g.haul = { d.haul with run := some r } ∧
      ∀ a, writtenAt (g.out.drop d.out.length) a = if p ≤ a ∧ a < p + n then some (val' a) else none := by
  obtain ⟨hh, hw⟩ := h.written
  refine ⟨hh, fun a => (hw a).trans ?_⟩
  unfold spanBytes
  split
  next ha => rw [hv a ha.1 ha.2]
  next => rfl

section Plain
variable {s : State} {r : HaulRun} {ins : List Word} {ws : List Nat} {data : List Byte} (h : s.dev.Runs r ins ws) (hst : r.stack = [])
include h hst

theorem haulMove_host (hm : s.dev.haulMayMove ws = true) (h0 : 0 < insWord ws 1) (hreq : insReqEn ws = false) (hdst : insDstDev ws = false)
    (ha : insAddr ws 4 + insWord ws 1 ≤ 2 ^ 64) (hop : insOp ws = 1) (hsrc : insSrcDev ws = false) : s.Does (.haulMove ins data) (fun e =>
      e.haul = { s.dev.haul with run := some (r.on (r.pc + 32)) } ∧
      ∀ a, writtenAt (e.out.drop s.dev.out.length) a = if insAddr ws 4 ≤ a ∧ a < insAddr ws 4 + insWord ws 1 then
        some (data.getD (a - insAddr ws 4) 0) else none) := by
  refine State.does (f := (·.haulMove ins data)) rfl ?_
  obtain ⟨m, hf, heq⟩ := Dev.haulMove_runs h hop data
  obtain ⟨hrun, hbud, -⟩ := h.start hf
  have hel : ∀ x : Xfer, x.ins = ws → x.elem * 1 = insWord ws 1 := fun x hx => by
    rw [Nat.mul_one, Xfer.elem, hx, hop]
    rfl
  have helx := hel (haulXfer ws []) rfl
  have hdel := Dev.move_delivers (d := m) (r := ({ r with waiting := false } : HaulRun).count) (ws := ws) (o := []) (data := data) (b := []) (c := 1)
    (p := insAddr ws 4) (by omega) (by omega) hdst hsrc
    (by rw [helx, haulXfer, hop]; rfl) (by omega)
    (fun x k hx hk => by
      rw [helx] at hx hk
      exact hx.dst_plain (by omega) (hel x hx.1).symm hk ha) hrun hbud rfl
  rw [helx] at hdel
  have hres := hf.delivers hdel
  have hgo : s.dev.haulMove ins data = m.haulRunBursts ⟨({ r with waiting := false } : HaulRun).count, haulXfer ws [], data, []⟩ 0 (insWord ws 1) := by
    rw [heq, Dev.haulTransfer_plain (r := { r with waiting := false }) (by omega) h0 (by rw [hf.mayMove]; exact hm) hst, hreq]
    rfl
  show _ ∧ _
  rw [hgo]
  exact hres.span fun _ _ _ => rfl

theorem haulMove_program (hm : s.dev.haulMayMove ws = true) (h0 : 0 < insWord ws 1) (hreq : insReqEn ws = false) (hdst : insDstDev ws = false)
    (ha : insAddr ws 4 + insWord ws 1 ≤ 2 ^ 64) (hop : insOp ws = 1) (hsrc : insSrcDev ws = true) (hlo : winHaul ≤ insAddr ws 2)
    (hhi : insAddr ws 2 + insWord ws 1 ≤ winHaul + 0x4000) : s.Does (.haulMove ins data) (fun e =>
      e.haul = { s.dev.haul with run := some (r.on (r.pc + 32)) } ∧
      ∀ a, writtenAt (e.out.drop s.dev.out.length) a = if insAddr ws 4 ≤ a ∧ a < insAddr ws 4 + insWord ws 1 then
        some (s.dev.byte (insAddr ws 2 + (a - insAddr ws 4))) else none) := by
  refine State.does (f := (·.haulMove ins data)) rfl ?_
  obtain ⟨m, hf, heq⟩ := Dev.haulMove_runs h hop data
  obtain ⟨hrun, hbud, haw⟩ := h.start hf
  obtain ⟨-, -, -, -, -, -, -, hok, -⟩ := h
  have hgo : s.dev.haulMove ins data = m.haulRunBursts ⟨({ r with waiting := false } : HaulRun).count, haulXfer ws [], data, []⟩ 0 (insWord ws 1) := by
    rw [heq, Dev.haulTransfer_plain (r := { r with waiting := false }) (by omega) h0 (by rw [hf.mayMove]; exact hm) hst, hreq]
    rfl
  have hres := hf.delivers (Dev.program_delivers hop hdst hsrc hok h0 ha haw hlo hhi hrun hbud hgo)
  refine hres.span fun a _ _ => ?_
  obtain ⟨-, hram, -⟩ := hf.sends
  unfold Dev.byte
  rw [hram]

theorem haulMove_waits (hm : s.dev.haulMayMove ws = true) (h0 : 0 < insWord ws 1) (hreq : insReqEn ws = true) (hop : insOp ws = 1) :
    s.Does (.haulMove ins data) (fun e => ∃ x : Xfer, x.ins = ws ∧ x.left = insWord ws 1 ∧ x.off = 0 ∧
      s.dev.HaulAt e { r with executed := r.executed + 1, xfer := some x, waiting := true }) := by
  refine State.does (f := (·.haulMove ins data)) rfl ?_
  obtain ⟨m, hf, heq⟩ := Dev.haulMove_runs h hop data
  have hgo : s.dev.haulMove ins data = m.setHaulRun (some { r with executed := r.executed + 1, xfer := some (haulXfer ws []), waiting := true }) := by
    rw [heq, Dev.haulTransfer_plain (r := { r with waiting := false }) (by omega) h0 (by rw [hf.mayMove]; exact hm) hst, hreq]
    rfl
  refine ⟨haulXfer ws [], rfl, if_neg (by omega), rfl, ?_⟩
  rw [hgo]
  exact hf.haulAt _

theorem haulFill_host (hm : s.dev.haulMayMove ws = true) (h0 : 0 < insWord ws 1) (hreq : insReqEn ws = false) (hdst : insDstDev ws = false)
    (ha : insAddr ws 4 + insWord ws 1 ≤ 2 ^ 64) (hop : insOp ws = 3) : s.Does (.haulFill ins) (fun e =>
      e.haul = { s.dev.haul with run := some (r.on (r.pc + 32)) } ∧
      ∀ a, writtenAt (e.out.drop s.dev.out.length) a = if insAddr ws 4 ≤ a ∧ a < insAddr ws 4 + insWord ws 1 then
        some (BitVec.ofNat 8 (insAddr ws 2 / 256 ^ (a % 8))) else none) := by
  refine State.does (f := (·.haulIns 3 ins (fun d r ws => d.haulTransfer r ws [] [] [] 0))) rfl ?_
  obtain ⟨m, hf, heq⟩ := Dev.haulIns_runs h hop (by decide) (by decide)
  obtain ⟨hrun, hbud, -⟩ := h.start hf
  have hgo : s.dev.haulIns 3 ins (fun d r ws => d.haulTransfer r ws [] [] [] 0) =
      m.haulRunBursts ⟨({ r with waiting := false } : HaulRun).count, haulXfer ws [], [], []⟩ 0 (insWord ws 1) := by
    rw [heq, Dev.haulTransfer_plain (r := { r with waiting := false }) (by omega) h0 (by rw [hf.mayMove]; exact hm) hst, hreq]
    rfl
  exact (hf.delivers (Dev.fill_delivers hop hdst h0 ha hrun hbud [] [] hgo)).span fun _ _ _ => rfl

/-- A MOVEX whose elements leave one behind the other, or one at `p` alone. -/
theorem haulMovex_host {idx : List Byte} {p : Nat} (hm : s.dev.haulMayMove ws = true) (hreq : insReqEn ws = false) (hdst : insDstDev ws = false)
    (hop : insOp ws = 2) (hsrc : insSrcDev ws = false) (hidx : insIdxDev ws = false)
    (hd : ∀ (x : Xfer) k, x.At ws (haulOffsets (insCount ws) idx) (insCount ws * insElem ws) k → k < insCount ws * insElem ws → x.dst = p + k) :
    s.Does (.haulMovex ins idx data) (fun e => e.haul = { s.dev.haul with run := some (r.on (r.pc + 32)) } ∧
      ∀ a, writtenAt (e.out.drop s.dev.out.length) a = if p ≤ a ∧ a < p + insCount ws * insElem ws then some (data.getD (a - p) 0) else none) := by
  refine State.does (f := (·.haulIns 2 ins (fun d r ws => d.haulTransfer r ws idx data [] 0))) rfl ?_
  obtain ⟨m, hf, heq⟩ := Dev.haulIns_runs h hop (by decide) (by decide)
  have hok : insOk ws = true := by
    obtain ⟨-, -, -, -, -, -, -, hok, -⟩ := h
    exact hok
  obtain ⟨hc, he⟩ := insOk_movex hok hop
  obtain ⟨n, hn⟩ : ∃ n, n = m.issueReads (insAddr ws 6) (4 * insCount ws) := ⟨_, rfl⟩
  have hfn : s.dev.Fetched n := hf.trans (hn ▸ m.issueReads_fetched _ _)
  obtain ⟨hrun, hbud, -⟩ := h.start hfn
  have helx : (haulXfer ws (haulOffsets (insCount ws) idx)).elem = insElem ws := if_pos hop
  have htot : (haulXfer ws (haulOffsets (insCount ws) idx)).elem * insCount ws = insCount ws * insElem ws := by rw [helx, Nat.mul_comm]
  have hgo : s.dev.haulIns 2 ins (fun d r ws => d.haulTransfer r ws idx data [] 0) = n.haulRunBursts
      ⟨({ r with waiting := false } : HaulRun).count, haulXfer ws (haulOffsets (insCount ws) idx), data, []⟩ 0 (insCount ws * insElem ws) := by
    rw [heq, Dev.haulTransfer_indexed (r := { r with waiting := false }) hop (Nat.mul_pos hc he) (by rw [hf.mayMove]; exact hm) hst hreq hidx, hn]
  have hdel := Dev.move_delivers (d := n) (r := ({ r with waiting := false } : HaulRun).count) (ws := ws) (o := haulOffsets (insCount ws) idx)
    (data := data) (b := []) (c := insCount ws) (p := p) (by omega) (by omega) hdst hsrc (by rw [htot]; exact if_pos hop) (by omega)
    (by rw [htot]; exact hd) hrun hbud rfl
  rw [htot, ← hgo] at hdel
  exact (hfn.delivers hdel).span fun _ _ _ => rfl

theorem haulCmp_host (b : List Byte) {diff : List Nat} (hm : s.dev.haulMayMove ws = true) (h0 : 0 < insWord ws 1) (hreq : insReqEn ws = false)
    (hdst : insDstDev ws = false) (hop : insOp ws = 4) (hsrc : insSrcDev ws = false) (hcnt : r.cmpCnt ≤ 0xFFFFFFFF)
    (ha : insAddr ws 2 + insWord ws 1 ≤ 2 ^ 64) (hdiff : diff = diffsBelow data b (insWord ws 1)) :
    (diff = [] ∨ insFlag ws = false → s.Does (.haulCmp ins data b) (fun e =>
      e.haul = { s.dev.haul with run := some ((r.on (r.pc + 32)).compared (insAddr ws 2) diff) })) ∧
    (diff ≠ [] → insFlag ws = true → s.Does (.haulCmp ins data b) (fun e => e.ProgramEnded r 8 (r.executed + 1))) := by
  obtain ⟨m, hf, heq⟩ := Dev.haulCmp_runs h hop data b
  obtain ⟨hrun, hbud, -⟩ := h.start hf
  have hgo : s.dev.haulCmp ins data b = m.haulRunBursts ⟨({ r with waiting := false } : HaulRun).count, haulXfer ws [], data, b⟩ 0 (insWord ws 1) := by
    rw [heq, Dev.haulTransfer_plain (r := { r with waiting := false }) (by omega) h0 (by rw [hf.mayMove]; exact hm) hst, hreq]
    rfl
  refine ⟨fun hd => State.does (f := (·.haulCmp ins data b)) rfl ?_, fun hne hfl => State.does (f := (·.haulCmp ins data b)) rfl ?_⟩
  · rw [hdiff] at hd
    rw [hdiff]
    exact (hf.delivers (Dev.cmp_delivers (r := ({ r with waiting := false } : HaulRun).count) hop hsrc hdst h0 ha hcnt hrun hbud hd hgo)).1
  · rw [hdiff] at hne
    show (s.dev.haulCmp ins data b).ProgramEnded r 8 (r.executed + 1)
    rw [hgo]
    exact Dev.cmp_stops (r := ({ r with waiting := false } : HaulRun).count) hop hsrc hdst h0 ha hcnt hrun hne hfl

end Plain

/-- Settles O39: the place that a transfer has reached is an invariant of its bursts. -/
theorem haulTransfers : Obligations.HaulTransfers := by
  unfold Obligations.HaulTransfers
  refine ⟨fun s r ins ws data h hst => ⟨fun h0 => ⟨fun hop => ?_, fun hop => ?_, fun hop b => ?_⟩, fun hm h0 =>
    ⟨fun hreq hdst => ⟨fun ha => ⟨?_, ?_, ?_⟩, fun hop hsrc hidx idx => ⟨fun hfl ha => ?_, fun p hfl hone hlen hp ha => ?_⟩, ?_⟩, ?_⟩⟩, ?_⟩
  · refine State.does (f := (·.haulMove ins data)) rfl ?_
    obtain ⟨m, hf, heq⟩ := Dev.haulMove_runs h hop data
    show s.dev.HaulAt (s.dev.haulMove ins data) _
    rw [heq]
    exact h.transfer_none hf (by omega) h0 _ _ _
  · refine State.does (f := (·.haulIns 3 ins (fun d r ws => d.haulTransfer r ws [] [] [] 0))) rfl ?_
    obtain ⟨m, hf, heq⟩ := Dev.haulIns_runs h hop (by decide) (by decide)
    show s.dev.HaulAt (s.dev.haulIns 3 ins _) _
    rw [heq]
    exact h.transfer_none hf (by omega) h0 _ _ _
  · refine State.does (f := (·.haulCmp ins data b)) rfl ?_
    obtain ⟨m, hf, heq⟩ := Dev.haulCmp_runs h hop data b
    show s.dev.HaulAt (s.dev.haulCmp ins data b) _
    rw [heq]
    exact h.transfer_none hf (by omega) h0 _ _ _
  · exact haulFill_host h hst hm h0 hreq hdst ha
  · exact haulMove_host h hst hm h0 hreq hdst ha
  · exact haulMove_program h hst hm h0 hreq hdst ha
  · exact haulMovex_host h hst hm hreq hdst hop hsrc hidx fun x k hx hk => hx.dst_gather hop hfl hk ha
  · have hel : insCount ws * insElem ws = insElem ws := by rw [hone, Nat.one_mul]
    have hres := haulMovex_host (data := data) (idx := idx) (p := p) h hst hm hreq hdst hop hsrc hidx fun x k hx hk =>
      hx.dst_scatter hop hfl (by rw [hel, hx.elem_movex hop, Nat.mul_one]) hk (by rw [hone, haulOffsets_one hlen]; exact hp) (by rw [hel]; exact ha)
    rw [hel] at hres
    exact hres
  · exact fun b diff hop hsrc hcnt ha hdiff => haulCmp_host h hst b hm h0 hreq hdst hop hsrc hcnt ha hdiff
  · exact fun hreq hop => haulMove_waits h hst hm h0 hreq hop
  · refine fun s r x a b haw hr hx => ⟨fun hl => ?_, fun hl hm hop hdst hb => ?_⟩
    · exact State.ignores (f := (·.haulRequested a b)) rfl (Dev.haulRequested_idle hr hx hl a b)
    · exact State.does (f := (·.haulRequested a b)) rfl ((Dev.haulRequested_fill haw hr hx hl hm hop hdst hb a b).span fun _ _ _ => rfl)

end Sys2Proof.Machine
end
